-- ==== Sys2Proof/Word.lean ====
section
/-! DEFINITION. The word types of the model: bytes and 64-bit doublewords. -/
namespace Sys2Proof

/-- A byte of memory. -/
abbrev Byte := BitVec 8

/-- A doubleword: a gate, an operand, a timeline. -/
abbrev Word := BitVec 64

end Sys2Proof
end

