-- ==== Sys2Proof/Payload.lean ====
section
/-! DEFINITION. What the commands carry: the answers of memory, of engines and of Kyrdo, and the names of requesters. -/
namespace Sys2Proof

/-- What a read returns: the data, poison (the slag marker), or an error completion. Where the data comes from memory
that the model itself holds (HBM), the model reads its own bytes and only the kind of the return is taken from here. Bit i of `lines` tells that line i of a read
of several lines is poisoned. -/
inductive Ret where
  | ok (data : List Byte)
  | poison (lines : Nat := 1)
  | error
  deriving DecidableEq, Repr

/-- The forms of a translation-invalidation broadcast (R42) and of an invalidation (R220). -/
inductive InvForm where
  | all
  | pasid
  | range (base size : Nat)
  deriving DecidableEq, Repr

/-- The status of an engine's end report (R141). -/
inductive EndStatus where
  | ok | crcFail | xlate | exception | stopped | killed
  deriving DecidableEq, Repr

/-- ZCI channels whose credits a host returns (R27, R28). -/
inductive Channel where
  | np | p | evt
  deriving DecidableEq, Repr

/-- What Kyrdo answers (R381 to R397, R440 to R443, R463, R464). Where the spec gives no layout for what Kyrdo and the
sealing unit exchange with memory, the answer carries the contents. -/
inductive KyAns where
  | refused
  | key (k : List Byte)                            -- K_cmd for a CONFIRM
  | chain (certs : List (List Byte))               -- for CERT_GET: the certificates, the leaf first
  | image (version : Nat) (coefs : List Nat) (est : Nat)   -- the staged image passes Kyrdo's checks
  | committed                                      -- the image is written to the package flash
  | offer (nonce eph sig : List Byte)              -- session nonce, ephemeral key, signature of the message
  | accept (eph sig kmig : List Byte)
  | bound (kmig : List Byte)
  | bundle (part : List Byte)                      -- Kyrdo's part of a bundle: the private key under K_kyr
  | imported (pub : List Byte)                     -- the private key of a bundle is taken in; its public key
  deriving DecidableEq, Repr

/-- A waypoint report: the pour ID of the engine's kernel, and the waypoint's value (R77, R161). -/
structure WpReport where
  pour  : Nat
  value : Nat
  deriving DecidableEq, Repr

/-- The fuse values and measurements that Kyrdo gives at start-up (R471), with what it has kept (R470): digests, versions,
counters and energy coefficients. -/
structure Fuses where
  device    : List Byte          -- 16 B
  subsystem : Nat
  engineRev : Nat
  kid       : List Byte          -- of the attestation key
  rkid      : List Byte          -- of the receipt key
  own       : List Byte          -- digest of Kyrdo's firmware
  mgmt      : List Byte          -- committed digests
  ucode     : List Byte
  mgmtVer   : Nat
  ucodeVer  : Nat
  legends   : Nat
  blocks    : Nat
  coefs     : List Nat
  est       : Nat
  deriving DecidableEq, Repr

/-- Where an uncorrectable SRAM error lies (R483), or an HBM error that no read of a command's own brings (R484). -/
inductive SramUe where
  | mould (idx seg : Nat)                -- a segment of the mould cache
  | sheet (slot va : Nat)                -- a sheet-cache entry
  | walk (slot level pre : Nat)          -- a walk-cache entry
  | flask (f unit : Nat)                 -- state of one flask
  | shared (unit : Nat)
  | handles (i : Nat)                    -- no SRAM: a read of handle table entry i in HBM (R484)
  | image (n line : Nat)                 -- no SRAM: a read of a line of the image of slot n's FLASK_THAW (R484)
  deriving DecidableEq, Repr

/-- What the checks of a caster's item find: nothing, a residue mismatch, or a mismatch of the AES lane that carries one of its
blocks (R295, R480). -/
inductive ItemCheck where
  | good
  | residue
  | lane (l : Nat)
  deriving DecidableEq, Repr

/-- A store that an HBM controller accepts: an engine's, with its context and its bytes, or a write entry of the host
access path. -/
inductive StoreSrc where
  | engine (c : Nat) (cells : List (Nat × Byte))
  | entry (id : Nat)
  deriving DecidableEq, Repr

/-- Whose commit marker an HBM controller answers. -/
inductive MarkSrc where
  | pour (c : Nat)
  | engine (e : Nat)
  deriving DecidableEq, Repr

end Sys2Proof

namespace Sys2Proof.Machine

/-- A requester of the host access path (R258). -/
inductive Requester where
  | engine (e : Nat)
  | caster (c : Nat)
  | route
  | seqr (s : Nat)
  deriving DecidableEq, Repr

/-- The kind of an access (R231). -/
inductive Acc where
  | read | write | atomic | fetch
  deriving DecidableEq, Repr

end Sys2Proof.Machine
end

