-- ==== Sys2Proof/Syntax.lean ====
section
/-! DEFINITION. The commands of the Celzaig: one constructor for each row of opcode_table.json, with the operands the
row's stimulus carries. A command is a message that reaches the block, an event on one of its pins or ports, the expiry
of one of its intervals, or the next record of a pour. Operand n of a mailbox command is the mailbox slot that holds it,
operand c of a record the context whose next record it is; half is the half of an 8-byte register that a 4-byte write
reaches. -/
namespace Sys2Proof

/-- The commands; the comment of a constructor is its row's mnemonic. -/
inductive Instr where
  | registerWrite (off size val : Nat)                        -- REGISTER_WRITE
  | configWrite (off size val : Nat)                          -- CONFIG_WRITE
  | unsupportedRequest (posted : Bool) (tag : Nat)            -- UNSUPPORTED_REQUEST
  | snoop (tag : Nat)                                         -- SNOOP
  | coherentRead (hpa tag : Nat)                              -- COHERENT_READ
  | readForOwnership (hpa tag : Nat)                          -- READ_FOR_OWNERSHIP
  | hostInvalidate (hpa tag : Nat)                            -- HOST_INVALIDATE
  | windowWriteBack (hpa : Nat) (data : List Byte)            -- WINDOW_WRITE_BACK
  | doorbellWrite (off size val : Nat)                        -- DOORBELL_WRITE
  | translationInvalidationBroadcast (pasid : Nat) (form : InvForm) (tag : Nat)  -- TRANSLATION_INVALIDATION_BROADCAST
  | globalObservationAck (id : Nat) (ok : Bool)               -- GLOBAL_OBSERVATION_ACK
  | creditReturn (ch : Channel) (n : Nat)                     -- CREDIT_RETURN
  | eventCompletion (val : Nat)                               -- EVENT_COMPLETION
  | winCtlWrite (n half size val : Nat)                       -- WIN_CTL_WRITE
  | windowCloseComplete (n : Nat)                             -- WINDOW_CLOSE_COMPLETE
  | sealRecallComplete (f : Nat)                              -- SEAL_RECALL_COMPLETE
  | heartbeat (half size val : Nat)                           -- HEARTBEAT
  | hlpCtlWrite (half size val : Nat)                         -- HLP_CTL_WRITE
  | hbLost (lost : Nat)                                       -- HB_LOST
  | linkDown (lost : Nat)                                     -- LINK_DOWN
  | linkTrained (np p evt : Nat)                              -- LINK_TRAINED
  | attach (size val : Nat)                                   -- ATTACH
  | detach (size val : Nat)                                   -- DETACH
  | detachComplete                                            -- DETACH_COMPLETE
  | holdRdIdxWrite (half size val : Nat)                      -- HOLD_RD_IDX_WRITE
  | entryFetch (q : Nat)                                      -- ENTRY_FETCH
  | entryReturn (id : Nat) (ret : Ret)                        -- ENTRY_RETURN
  | raceGuardReread (q : Nat)                                 -- RACE_GUARD_REREAD
  | admissionToken                                            -- ADMISSION_TOKEN
  | grant (c : Nat)                                           -- GRANT
  | bankReadReturn (c : Nat) (ret : Ret)                      -- BANK_READ_RETURN
  | queueCreate (n : Nat)                                     -- QUEUE_CREATE
  | queueResume (n : Nat)                                     -- QUEUE_RESUME
  | pourCancel (n : Nat)                                      -- POUR_CANCEL
  | queueDestroy (n : Nat)                                    -- QUEUE_DESTROY
  | mouldLoad (n : Nat)                                       -- MOULD_LOAD
  | mouldLoadComplete (idx : Nat)                             -- MOULD_LOAD_COMPLETE
  | mouldUnload (n : Nat)                                     -- MOULD_UNLOAD
  | segmentFillReturn (idx seg : Nat) (ret : Ret)             -- SEGMENT_FILL_RETURN
  | mcCtlWrite (half size val : Nat)                          -- MC_CTL_WRITE
  | mcHtabWrite (half size val : Nat)                         -- MC_HTAB_WRITE
  | recKernel (c : Nat)                                       -- KERNEL
  | recGuard (c : Nat)                                        -- GUARD
  | recJump (c : Nat)                                         -- JUMP
  | recLoop (c : Nat)                                         -- LOOP
  | recEndloop (c : Nat)                                      -- ENDLOOP
  | recCall (c : Nat)                                         -- CALL
  | recReturn (c : Nat)                                       -- RETURN
  | recWait (c : Nat)                                         -- WAIT
  | recSignalSet (c : Nat)                                    -- SIGNAL_SET
  | recSignalAdd (c : Nat)                                    -- SIGNAL_ADD
  | recSignalMax (c : Nat)                                    -- SIGNAL_MAX
  | recFence (c : Nat)                                        -- FENCE
  | recPut (c : Nat)                                          -- PUT
  | recRouteTopk (c : Nat)                                    -- ROUTE_TOPK
  | recRouteBlocks (c : Nat)                                  -- ROUTE_BLOCKS
  | recRouteExit (c : Nat)                                    -- ROUTE_EXIT
  | recSpawn (c : Nat)                                        -- SPAWN
  | recEvent (c : Nat)                                        -- EVENT
  | recPatchSet (c : Nat)                                     -- PATCH_SET
  | recPatchAdd (c : Nat)                                     -- PATCH_ADD
  | recPatchMin (c : Nat)                                     -- PATCH_MIN
  | recPatchMax (c : Nat)                                     -- PATCH_MAX
  | recPatchLoad (c : Nat)                                    -- PATCH_LOAD
  | recPatchTimeline (c : Nat)                                -- PATCH_TIMELINE
  | recStamp (c : Nat)                                        -- STAMP
  | recBarrier (c : Nat)                                      -- BARRIER
  | recBulkMoveCopy (c : Nat)                                 -- BULK_MOVE_COPY
  | recBulkMoveCast (c : Nat)                                 -- BULK_MOVE_CAST
  | recBulkMoveMigrate (c : Nat)                              -- BULK_MOVE_MIGRATE
  | recEnd (c : Nat)                                          -- END
  | laneFetch (e : Nat)                                       -- LANE_FETCH
  | kernelEndReport (e c r pour : Nat) (status : EndStatus) (lost : Bool)  -- KERNEL_END_REPORT
  | waypointAdvance (e : Nat) (report : WpReport)             -- WAYPOINT_ADVANCE
  | waypointStall (e : Nat)                                   -- WAYPOINT_STALL
  | spawnRequest (e : Nat) (req : List Byte)                  -- SPAWN_REQUEST
  | borrowOverrun (e : Nat)                                   -- BORROW_OVERRUN
  | deadlineMiss (c r : Nat)                                  -- DEADLINE_MISS
  | graceExpiry (c : Nat)                                     -- GRACE_EXPIRY
  | deadlockCheck (f : Nat)                                   -- DEADLOCK_CHECK
  | stopTimeoutKill (e : Nat)                                 -- STOP_TIMEOUT_KILL
  | scorePush (e c r row part : Nat) (data : List Byte)       -- SCORE_PUSH
  | scoreReport (e c r : Nat)                                 -- SCORE_REPORT
  | routeScoreReadReturn (id : Nat) (ret : Ret)               -- ROUTE_SCORE_READ_RETURN
  | routeSelectTile (residue : Bool)                          -- ROUTE_SELECT_TILE
  | routeWriteBack (op : Nat)                                 -- ROUTE_WRITE_BACK
  | translationRequest (who : Machine.Requester) (c va : Nat) (acc : Machine.Acc)  -- TRANSLATION_REQUEST
  | surveyorWalkStart                                         -- SURVEYOR_WALK_START
  | walkReadReturn (id : Nat) (ret : Ret)                     -- WALK_READ_RETURN
  | atlasBind (n : Nat)                                       -- ATLAS_BIND
  | atlasUnbind (n : Nat)                                     -- ATLAS_UNBIND
  | atlasInvalidate (n : Nat)                                 -- ATLAS_INVALIDATE
  | faultResumeRetry (n : Nat)                                -- FAULT_RESUME_RETRY
  | faultResumeAbort (n : Nat)                                -- FAULT_RESUME_ABORT
  | purgeAck (e inv : Nat)                                    -- PURGE_ACK
  | purgeTimeout (e inv : Nat)                                -- PURGE_TIMEOUT
  | invOverrun (kernel : Nat)                                 -- INV_OVERRUN
  | invalidationComplete (inv : Nat)                          -- INVALIDATION_COMPLETE
  | xlCtlWrite (half size val : Nat)                          -- XL_CTL_WRITE
  | hotDecay                                                  -- HOT_DECAY
  | tierCtlWrite (half size val : Nat)                        -- TIER_CTL_WRITE
  | migrateSwapReturn (job : Nat)                             -- MIGRATE_SWAP_RETURN
  | migrateCopyDone (job : Nat) (host : List (Nat × Byte)) (bad : List Nat)  -- MIGRATE_COPY_DONE
  | hapReadRequest (who : Machine.Requester) (c va tier node addr n : Nat)  -- HAP_READ_REQUEST
  | hapWriteRequest (who : Machine.Requester) (c va tier node addr : Nat) (data : List (Option Byte)) (sealed pub : Bool)  -- HAP_WRITE_REQUEST
  | hapAtomicRequest (who : Machine.Requester) (c va tier node addr code size operand compare : Nat)  -- HAP_ATOMIC_REQUEST
  | hapIssue (id : Nat)                                       -- HAP_ISSUE
  | hapReadResponse (id : Nat) (ret : Ret)                    -- HAP_READ_RESPONSE
  | hbmWriteAccept (ctl : Nat) (src : StoreSrc)               -- HBM_WRITE_ACCEPT
  | commitMarkerAnswer (ctl : Nat) (src : MarkSrc)            -- COMMIT_MARKER_ANSWER
  | engineFenceRequest (e : Nat) (system : Bool)              -- ENGINE_FENCE_REQUEST
  | castDescriptorReturn (id : Nat) (ret : Ret)               -- CAST_DESCRIPTOR_RETURN
  | casterItemTake (c : Nat)                                  -- CASTER_ITEM_TAKE
  | casterItemComplete (c job item : Nat) (check : ItemCheck)  -- CASTER_ITEM_COMPLETE
  | castChunkTagCheck (job : Nat)                             -- CAST_CHUNK_TAG_CHECK
  | peerData (p : List Byte) (slag : Bool)                    -- PEER_DATA
  | peerAck (p : List Byte)                                   -- PEER_ACK
  | peerBusy (p : List Byte)                                  -- PEER_BUSY
  | peerBusyResend (tag : Nat)                                -- PEER_BUSY_RESEND
  | peerErr (p : List Byte)                                   -- PEER_ERR
  | peerRequestTimeout (tag : Nat)                            -- PEER_REQUEST_TIMEOUT
  | peerPathLost (k : Nat)                                    -- PEER_PATH_LOST
  | inboundRd (p : List Byte)                                 -- INBOUND_RD
  | inboundWr (p : List Byte) (ctl : Nat)                     -- INBOUND_WR
  | inboundAt (p : List Byte)                                 -- INBOUND_AT
  | inboundSig (p : List Byte)                                -- INBOUND_SIG
  | inboundHello (p : List Byte)                              -- INBOUND_HELLO
  | peerHelloAck (p : List Byte)                              -- PEER_HELLO_ACK
  | inboundBye (p : List Byte)                                -- INBOUND_BYE
  | peerAttach (n : Nat)                                      -- PEER_ATTACH
  | peerHelloResend (k : Nat)                                 -- PEER_HELLO_RESEND
  | peerAttachTimeout (k : Nat)                               -- PEER_ATTACH_TIMEOUT
  | peerDetachOrderly (n : Nat)                               -- PEER_DETACH_ORDERLY
  | peerDetachRemoved (n : Nat)                               -- PEER_DETACH_REMOVED
  | peerQuarantineEnd (k : Nat)                               -- PEER_QUARANTINE_END
  | peerBindWrite (b dw half size val : Nat)                  -- PEER_BIND_WRITE
  | eventDoorbellStore (f off size val : Nat)                 -- EVENT_DOORBELL_STORE
  | engineEventRaise (e src c : Nat)                          -- ENGINE_EVENT_RAISE
  | levelLineChange (unit : Nat)                              -- LEVEL_LINE_CHANGE
  | eventDelivery                                             -- EVENT_DELIVERY
  | eventMessageSend                                          -- EVENT_MESSAGE_SEND
  | eventMcomplWrite (size val : Nat)                         -- EVENT_MCOMPL_WRITE
  | eventPendingDiscard (src half size val : Nat)             -- EVENT_PENDING_DISCARD
  | eventCtlWrite (half size val : Nat)                       -- EVENT_CTL_WRITE
  | flaskCreate (n : Nat)                                     -- FLASK_CREATE
  | scrubComplete (f : Nat)                                   -- SCRUB_COMPLETE
  | flaskSeal (n : Nat)                                       -- FLASK_SEAL
  | kyrdoSealAnswer (n : Nat) (pub : List Byte)               -- KYRDO_SEAL_ANSWER
  | kyrdoTimeout (block : Bool) (id : Nat)                    -- KYRDO_TIMEOUT
  | confirm (n : Nat)                                         -- CONFIRM
  | publicSet (n : Nat)                                       -- PUBLIC_SET
  | keyImport (n : Nat)                                       -- KEY_IMPORT
  | keyDestroy (n : Nat)                                      -- KEY_DESTROY
  | consent (n : Nat)                                         -- CONSENT
  | mouldAllow (n : Nat)                                      -- MOULD_ALLOW
  | legendReq (n : Nat)                                       -- LEGEND_REQ
  | legendSigned (n : Nat) (sig : List Byte)                  -- LEGEND_SIGNED
  | flaskReset (n : Nat)                                      -- FLASK_RESET
  | flaskDestroy (n : Nat)                                    -- FLASK_DESTROY
  | flaskResetQuiesced (f : Nat)                              -- FLASK_RESET_QUIESCED
  | lingerExpiry (acc : Nat)                                  -- LINGER_EXPIRY
  | activityReport (e interval : Nat) (entries : List (Nat × List Nat))  -- ACTIVITY_REPORT
  | activityReportMissing (e interval : Nat)                  -- ACTIVITY_REPORT_MISSING
  | railReport (nJ : Nat)                                     -- RAIL_REPORT
  | calibrationWindowEnd                                      -- CALIBRATION_WINDOW_END
  | receiptBatchExpiry (b : Nat)                              -- RECEIPT_BATCH_EXPIRY
  | receiptSigned (b : Nat) (sig : List Byte)                 -- RECEIPT_SIGNED
  | receiptFlush (n : Nat)                                    -- RECEIPT_FLUSH
  | flaskQuench (n : Nat)                                     -- FLASK_QUENCH
  | quenchDrainLimit (f : Nat)                                -- QUENCH_DRAIN_LIMIT
  | flaskThaw (n : Nat)                                       -- FLASK_THAW
  | migOffer (n : Nat)                                        -- MIG_OFFER
  | migAccept (n : Nat)                                       -- MIG_ACCEPT
  | migBind (n : Nat)                                         -- MIG_BIND
  | migExportRun (n : Nat)                                    -- MIG_EXPORT_RUN
  | migExportBundle (n : Nat)                                 -- MIG_EXPORT_BUNDLE
  | migImportRun (n : Nat)                                    -- MIG_IMPORT_RUN
  | migImportBundle (n : Nat)                                 -- MIG_IMPORT_BUNDLE
  | info (n : Nat)                                            -- INFO
  | certGet (n : Nat)                                         -- CERT_GET
  | mgmtRun (n : Nat)                                         -- MGMT_RUN
  | fwStage (n : Nat)                                         -- FW_STAGE
  | fwCommit (n : Nat)                                        -- FW_COMMIT
  | fwAbort (n : Nat)                                         -- FW_ABORT
  | mgmtWatchdogExpiry (core : Nat) (slots : List Nat)        -- MGMT_WATCHDOG_EXPIRY
  | powerSetActive (n : Nat)                                  -- POWER_SET_ACTIVE
  | powerSetDrowse (n : Nat)                                  -- POWER_SET_DROWSE
  | powerSetOff (n : Nat)                                     -- POWER_SET_OFF
  | powerDrainComplete                                        -- POWER_DRAIN_COMPLETE
  | drowseWake (cause : Nat)                                  -- DROWSE_WAKE
  | idleGate (g : Nat)                                        -- IDLE_GATE
  | blockReset (n : Nat)                                      -- BLOCK_RESET
  | blockDrainLimit                                           -- BLOCK_DRAIN_LIMIT
  | cold                                                      -- COLD
  | packageReset                                              -- PACKAGE_RESET
  | startupReady (fuses : Fuses) (pairs lanes casters : Nat) (route : Bool) (mgmt : Nat)  -- STARTUP_READY
  | patrolScrub (n : Nat)                                     -- PATROL_SCRUB
  | lockstepMiscompare (c : Nat)                              -- LOCKSTEP_MISCOMPARE
  | parityError (unit : Nat)                                  -- PARITY_ERROR
  | sramUe (at_ : SramUe)                                     -- SRAM_UE
  | timelineStore (tl half size val : Nat)                    -- TIMELINE_STORE
  | tlOpSet (size timeline : Nat)                             -- TL_OP_SET
  | tlOpAdd (size timeline : Nat)                             -- TL_OP_ADD
  | tlOpMax (size timeline : Nat)                             -- TL_OP_MAX
  | zciLinkLost                                               -- ZCI_LINK_LOST
  | hostRecallResponse (line : Nat) (data : Option (List Byte))  -- HOST_RECALL_RESPONSE
  | hbmCommit (id : Nat)                                      -- HBM_COMMIT
  | kyrdoAnswer (n : Nat) (ans : KyAns)                       -- KYRDO_ANSWER
  | mbSubmit (size val : Nat)                                 -- MB_SUBMIT
  | snapshotTick                                              -- SNAPSHOT_TICK
  | drowseExitComplete                                        -- DROWSE_EXIT_COMPLETE
  | elogRdIdxWrite (f half size val : Nat)                    -- ELOG_RD_IDX_WRITE
  | receiptRingRdIdxWrite (half size val : Nat)               -- RECEIPT_RING_RD_IDX_WRITE
  deriving DecidableEq, Repr

end Sys2Proof
end

