-- ==== Sys2Proof/Decode.lean ====
section
/-! DEFINITION. The table's words. opcode_table.json gives no row any bits: a command reaches the block as a message or an
event, so no word spells one. -/
namespace Sys2Proof

/-- The command that the word w of nbits bits spells by the table's bits. -/
def decodeTableWord (_nbits _w : Nat) : Option Instr := none

end Sys2Proof
end

