-- ==== Sys2Proof/Machine/Bits.lean ====
section
/-! DEFINITION. Bit fields, byte order and fixed-width arithmetic used by every unit (R2, R3). -/
namespace Sys2Proof.Machine

/-- Bits [lo + width - 1 : lo] of v. -/
def bits (v lo width : Nat) : Nat := (v / 2 ^ lo) % 2 ^ width

/-- Bit b of v. -/
def bit (v b : Nat) : Bool := bits v b 1 == 1

/-- v with its bits [lo + width - 1 : lo] replaced by x. -/
def setBits (v lo width x : Nat) : Nat :=
  v - bits v lo width * 2 ^ lo + (x % 2 ^ width) * 2 ^ lo

/-- The numeral of a truth value. -/
def b2n (b : Bool) : Nat := if b then 1 else 0

/-- a rounded up to the next multiple of m. -/
def roundUp (a m : Nat) : Nat := (a + m - 1) / m * m

/-- a divided by m, rounded up. -/
def ceilDiv (a m : Nat) : Nat := (a + m - 1) / m

/-- The n low bytes of v, least significant first (R2). -/
def leBytes : (n : Nat) → (v : Nat) → List Byte
  | 0, _ => []
  | n + 1, v => BitVec.ofNat 8 v :: leBytes n (v / 256)

/-- The number whose bytes are bs, least significant first (R2). -/
def ofLe : List Byte → Nat
  | [] => 0
  | b :: bs => b.toNat + 256 * ofLe bs

/-- The n low bytes of v, most significant first (network order of the published standards). -/
def beBytes (n v : Nat) : List Byte := (leBytes n v).reverse

/-- The number whose bytes are bs, most significant first. -/
def ofBe (bs : List Byte) : Nat := ofLe bs.reverse

/-- n zero bytes. -/
def zeros (n : Nat) : List Byte := List.replicate n 0

/-- The n bytes of bs from offset off; missing bytes read as zero. -/
def slice (bs : List Byte) (off n : Nat) : List Byte :=
  let t := (bs.drop off).take n
  t ++ zeros (n - t.length)

/-- The little-endian number of n bytes at offset off. -/
def leAt (bs : List Byte) (off n : Nat) : Nat := ofLe (slice bs off n)

/-- bs with the bytes xs written at offset off. -/
def patch (bs : List Byte) (off : Nat) (xs : List Byte) : List Byte :=
  bs.take off ++ xs ++ bs.drop (off + xs.length)

/-- Addition modulo 2 ^ w. -/
def addMod (w a b : Nat) : Nat := (a + b) % 2 ^ w

/-- a minus b modulo m (m not 0). -/
def subMod (m a b : Nat) : Nat := (a + (m - b % m)) % m

/-- The number of ones among the w low bits of v. -/
def popCount (v : Nat) : Nat → Nat
  | 0 => 0
  | w + 1 => popCount v w + b2n (bit v w)

/-- The positions of the ones among the w low bits of v, lowest first. -/
def onesOf (v w : Nat) : List Nat := (List.range w).filter (bit v)

/-- The least of the n numbers from i on that p holds of. -/
def lowestFrom (p : Nat → Bool) : Nat → Nat → Option Nat
  | 0, _ => none
  | n + 1, i => if p i then some i else lowestFrom p n (i + 1)

/-- The least n below bound with p n. -/
def lowest (bound : Nat) (p : Nat → Bool) : Option Nat := lowestFrom p bound 0

/-- Two's complement value of a 64-bit number. -/
def toSigned64 (v : Nat) : Int := if v % 2 ^ 64 < 2 ^ 63 then (v % 2 ^ 64 : Nat) else ((v % 2 ^ 64 : Nat) : Int) - 2 ^ 64

/-- The 64-bit pattern of an integer. -/
def ofInt64 (v : Int) : Nat := (v % (2 ^ 64 : Int)).toNat

/-- The ranges [a, a + n) and [b, b + m) share an address. -/
def overlaps (a n b m : Nat) : Bool := a < b + m && b < a + n && n != 0 && m != 0

/-- [a, a + n) lies inside [b, b + m). -/
def inside (a n b m : Nat) : Bool := b ≤ a && a + n ≤ b + m

/-- The value of xs at position i, or d. -/
def nth {α : Type} (xs : List α) (i : Nat) (d : α) : α := xs.getD i d

end Sys2Proof.Machine
end

