-- ==== Sys2Proof/Machine/Crypto.lean ====
section
/-! DEFINITION. The published algorithms the Celzaig computes itself: SHA-384 (R82), AES-256-GCM (R301 to R303, R384),
and CRC-32C (R279). ECDSA, ECDH and key derivation are Kyrdo's (R13): what they give comes with Kyrdo's answers. -/
namespace Sys2Proof.Machine

/-! ## SHA-384 -/

/-- The first 80 prime numbers, the last of which is 409. -/
def shaPrimes : List Nat :=
  (List.range 410).filter (fun n => decide (2 ≤ n) && [2, 3, 5, 7, 11, 13, 17, 19].all (fun d => n == d || n % d != 0))

/-- The first 64 bits of the fractional part of the k-th root of p, for a root below 8: the root times 2 ^ 64 is built
from its highest bit down. -/
def shaRoot (k p : Nat) : Nat :=
  (List.range 67).foldl (fun r i => if (r + 2 ^ (66 - i)) ^ k ≤ p * 2 ^ (64 * k) then r + 2 ^ (66 - i) else r) 0 % 2 ^ 64

/-- The round constants of SHA-512 and SHA-384 are cube roots of the first 80 primes. -/
def shaK : List Nat := shaPrimes.map (shaRoot 3)

/-- The initial hash value of SHA-384 is made of square roots of the ninth to the sixteenth prime. -/
def sha384H : List Nat := ((shaPrimes.drop 8).take 8).map (shaRoot 2)

/-- Rotation of a 64-bit word to the right. -/
def rotr (x n : Nat) : Nat := (x >>> n) ||| (x <<< (64 - n)) % 2 ^ 64

/-- The message schedule is extended by one word from its last sixteen (newest first). -/
def shaExtend (w : List Nat) : List Nat :=
  let a := nth w 14 0
  let b := nth w 1 0
  let s0 := rotr a 1 ^^^ rotr a 8 ^^^ (a >>> 7)
  let s1 := rotr b 19 ^^^ rotr b 61 ^^^ (b >>> 6)
  (nth w 15 0 + s0 + nth w 6 0 + s1) % 2 ^ 64 :: w

/-- The first n 64-bit words of a string of bytes, most significant byte first. -/
def shaWords : Nat → List Byte → List Nat
  | 0, _ => []
  | n + 1, b => ofBe (b.take 8) :: shaWords n (b.drop 8)

/-- The 80 words of the schedule of one 128-byte block, in order. -/
def shaSchedule (block : List Byte) : List Nat :=
  ((List.range 64).foldl (fun w _ => shaExtend w) (shaWords 16 block).reverse).reverse

/-- One round over the eight working words. -/
def shaRound (v : List Nat) (kw : Nat × Nat) : List Nat :=
  match v with
  | [a, b, c, d, e, f, g, h] =>
    let s1 := rotr e 14 ^^^ rotr e 18 ^^^ rotr e 41
    let ch := (e &&& f) ^^^ ((2 ^ 64 - 1 - e) &&& g)
    let t1 := h + s1 + ch + kw.1 + kw.2
    let s0 := rotr a 28 ^^^ rotr a 34 ^^^ rotr a 39
    let maj := (a &&& b) ^^^ (a &&& c) ^^^ (b &&& c)
    [(t1 + s0 + maj) % 2 ^ 64, a, b, c, (d + t1) % 2 ^ 64, e, f, g]
  | _ => v

/-- The hash value after the block that a string of bytes begins with. -/
def shaBlock (h : List Nat) (block : List Byte) : List Nat :=
  let v := (shaK.zip (shaSchedule block)).foldl shaRound h
  (h.zip v).map (fun p => (p.1 + p.2) % 2 ^ 64)

/-- The hash value after n blocks. -/
def shaBlocks : Nat → List Nat → List Byte → List Nat
  | 0, h, _ => h
  | n + 1, h, b => shaBlocks n (shaBlock h b) (b.drop 128)

/-- The message with its padding. -/
def shaPad (m : List Byte) : List Byte :=
  m ++ [0x80] ++ zeros ((239 - m.length % 128) % 128) ++ beBytes 16 (8 * m.length)

/-- SHA-384 of a message, 48 bytes. -/
def sha384 (m : List Byte) : List Byte :=
  let p := shaPad m
  ((shaBlocks (p.length / 128) sha384H p).take 6).flatMap (beBytes 8)

/-! ## CRC-32C -/

/-- One bit of the reflected CRC-32C. -/
def crcBit (c : BitVec 32) : BitVec 32 := if c.getLsbD 0 then (c >>> 1) ^^^ 0x82F63B78 else c >>> 1

/-- One byte. -/
def crcByte (c : BitVec 32) (b : Byte) : BitVec 32 :=
  (List.range 8).foldl (fun c _ => crcBit c) (c ^^^ b.zeroExtend 32)

/-- CRC-32C: polynomial 0x1EDC6F41 reflected, initial value and final XOR all ones. -/
def crc32c (bs : List Byte) : Nat := (~~~(bs.foldl crcByte 0xFFFFFFFF)).toNat

/-! ## AES-256 -/

/-- The S-box of AES, by rows of 16. -/
def aesSbox : List (List Byte) := [
   [0x63, 0x7c, 0x77, 0x7b, 0xf2, 0x6b, 0x6f, 0xc5, 0x30, 0x01, 0x67, 0x2b, 0xfe, 0xd7, 0xab, 0x76],
   [0xca, 0x82, 0xc9, 0x7d, 0xfa, 0x59, 0x47, 0xf0, 0xad, 0xd4, 0xa2, 0xaf, 0x9c, 0xa4, 0x72, 0xc0],
   [0xb7, 0xfd, 0x93, 0x26, 0x36, 0x3f, 0xf7, 0xcc, 0x34, 0xa5, 0xe5, 0xf1, 0x71, 0xd8, 0x31, 0x15],
   [0x04, 0xc7, 0x23, 0xc3, 0x18, 0x96, 0x05, 0x9a, 0x07, 0x12, 0x80, 0xe2, 0xeb, 0x27, 0xb2, 0x75],
   [0x09, 0x83, 0x2c, 0x1a, 0x1b, 0x6e, 0x5a, 0xa0, 0x52, 0x3b, 0xd6, 0xb3, 0x29, 0xe3, 0x2f, 0x84],
   [0x53, 0xd1, 0x00, 0xed, 0x20, 0xfc, 0xb1, 0x5b, 0x6a, 0xcb, 0xbe, 0x39, 0x4a, 0x4c, 0x58, 0xcf],
   [0xd0, 0xef, 0xaa, 0xfb, 0x43, 0x4d, 0x33, 0x85, 0x45, 0xf9, 0x02, 0x7f, 0x50, 0x3c, 0x9f, 0xa8],
   [0x51, 0xa3, 0x40, 0x8f, 0x92, 0x9d, 0x38, 0xf5, 0xbc, 0xb6, 0xda, 0x21, 0x10, 0xff, 0xf3, 0xd2]] ++ [
   [0xcd, 0x0c, 0x13, 0xec, 0x5f, 0x97, 0x44, 0x17, 0xc4, 0xa7, 0x7e, 0x3d, 0x64, 0x5d, 0x19, 0x73],
   [0x60, 0x81, 0x4f, 0xdc, 0x22, 0x2a, 0x90, 0x88, 0x46, 0xee, 0xb8, 0x14, 0xde, 0x5e, 0x0b, 0xdb],
   [0xe0, 0x32, 0x3a, 0x0a, 0x49, 0x06, 0x24, 0x5c, 0xc2, 0xd3, 0xac, 0x62, 0x91, 0x95, 0xe4, 0x79],
   [0xe7, 0xc8, 0x37, 0x6d, 0x8d, 0xd5, 0x4e, 0xa9, 0x6c, 0x56, 0xf4, 0xea, 0x65, 0x7a, 0xae, 0x08],
   [0xba, 0x78, 0x25, 0x2e, 0x1c, 0xa6, 0xb4, 0xc6, 0xe8, 0xdd, 0x74, 0x1f, 0x4b, 0xbd, 0x8b, 0x8a],
   [0x70, 0x3e, 0xb5, 0x66, 0x48, 0x03, 0xf6, 0x0e, 0x61, 0x35, 0x57, 0xb9, 0x86, 0xc1, 0x1d, 0x9e],
   [0xe1, 0xf8, 0x98, 0x11, 0x69, 0xd9, 0x8e, 0x94, 0x9b, 0x1e, 0x87, 0xe9, 0xce, 0x55, 0x28, 0xdf],
   [0x8c, 0xa1, 0x89, 0x0d, 0xbf, 0xe6, 0x42, 0x68, 0x41, 0x99, 0x2d, 0x0f, 0xb0, 0x54, 0xbb, 0x16]]

def sub (b : Byte) : Byte := nth (nth aesSbox (b.toNat / 16) []) (b.toNat % 16) 0

/-- Multiplication by x in the field of AES. -/
def xtime (b : Byte) : Byte := if b.getLsbD 7 then (b <<< 1) ^^^ 0x1b else b <<< 1

def xorBytes (a b : List Byte) : List Byte := (a.zip b).map (fun p => p.1 ^^^ p.2)

/-- The key schedule: 60 words of 4 bytes, newest first while it grows. -/
def aesExpand (key : List Byte) : List (List Byte) :=
  let w0 := ((List.range 8).map (fun i => slice key (4 * i) 4)).reverse
  let step (p : List (List Byte) × Byte) (i : Nat) : List (List Byte) × Byte :=
    let t := nth p.1 0 []
    let t1 := if i % 8 = 0 then xorBytes ((t.drop 1 ++ t.take 1).map sub) [p.2, 0, 0, 0]
              else if i % 8 = 4 then t.map sub else t
    (xorBytes (nth p.1 7 []) t1 :: p.1, if i % 8 = 0 then xtime p.2 else p.2)
  (((List.range 52).map (fun i => i + 8)).foldl step (w0, 1)).1.reverse

/-- Round key r. -/
def roundKey (w : List (List Byte)) (r : Nat) : List Byte := ((w.drop (4 * r)).take 4).flatten

def shiftRows (s : List Byte) : List Byte := (List.range 16).map (fun i => nth s ((i + 4 * (i % 4)) % 16) 0)

/-- MixColumns of one column. -/
def mixColumn (c : List Byte) : List Byte :=
  match c with
  | [a, b, d, e] =>
    [xtime a ^^^ (xtime b ^^^ b) ^^^ d ^^^ e, a ^^^ xtime b ^^^ (xtime d ^^^ d) ^^^ e,
     a ^^^ b ^^^ xtime d ^^^ (xtime e ^^^ e), (xtime a ^^^ a) ^^^ b ^^^ d ^^^ xtime e]
  | _ => c

def mixColumns (s : List Byte) : List Byte := (List.range 4).flatMap (fun i => mixColumn (slice s (4 * i) 4))

/-- AES-256 of one block under an expanded key. -/
def aesBlock (w : List (List Byte)) (b : List Byte) : List Byte :=
  let s := xorBytes b (roundKey w 0)
  let s := ((List.range 13).map (fun r => r + 1)).foldl
    (fun s r => xorBytes (mixColumns (shiftRows (s.map sub))) (roundKey w r)) s
  xorBytes (shiftRows (s.map sub)) (roundKey w 14)

/-! ## GCM -/

/-- Multiplication in the field of GHASH, bit 0 of the standard being the most significant bit here. -/
def ghashMul (x y : Nat) : Nat :=
  ((List.range 128).foldl (fun (p : Nat × Nat) i =>
    let z := if x.testBit (127 - i) then p.1 ^^^ p.2 else p.1
    let v := if p.2 % 2 = 1 then (p.2 >>> 1) ^^^ (0xE1 * 2 ^ 120) else p.2 >>> 1
    (z, v)) (0, y)).1

/-- GHASH of whole blocks. -/
def ghash (h : Nat) (bs : List Byte) : Nat :=
  (List.range (bs.length / 16)).foldl (fun y i => ghashMul (y ^^^ ofBe (slice bs (16 * i) 16)) h) 0

def pad16 (bs : List Byte) : List Byte := bs ++ zeros ((16 - bs.length % 16) % 16)

/-- Counter-mode encryption from the counter block of the 12-byte iv with count c. -/
def gctr (w : List (List Byte)) (iv : List Byte) (c : Nat) (bs : List Byte) : List Byte :=
  ((List.range (ceilDiv bs.length 16)).flatMap (fun i =>
    xorBytes ((bs.drop (16 * i)).take 16) (aesBlock w (iv ++ beBytes 4 (c + i)))))

/-- The 16-byte tag over the additional data and the ciphertext. -/
def gcmTag (w : List (List Byte)) (iv aad ct : List Byte) : List Byte :=
  let h := ofBe (aesBlock w (zeros 16))
  let s := ghash h (pad16 aad ++ pad16 ct ++ beBytes 8 (8 * aad.length) ++ beBytes 8 (8 * ct.length))
  xorBytes (beBytes 16 s) (aesBlock w (iv ++ beBytes 4 1))

/-- AES-256-GCM encryption with a 12-byte iv: ciphertext and 16-byte tag. -/
def gcmSeal (key iv aad pt : List Byte) : List Byte × List Byte :=
  let w := aesExpand key
  let ct := gctr w iv 2 pt
  (ct, gcmTag w iv aad ct)

/-- AES-256-GCM decryption: the plaintext where the tag agrees. -/
def gcmOpen (key iv aad ct tag : List Byte) : Option (List Byte) :=
  let w := aesExpand key
  if gcmTag w iv aad ct = tag then some (gctr w iv 2 ct) else none

end Sys2Proof.Machine
end

