-- ==== Sys2Proof/Machine/Fp.lean ====
section
/-! DEFINITION. Number formats: exact values, and rounding to a format once (R173, R177, R274, R289 to R292). -/
namespace Sys2Proof.Machine

/-- An exact value: a signed fraction n / d, an infinity or not a number; true is the minus sign. -/
inductive Fp where
  | nan (neg : Bool)
  | inf (neg : Bool)
  | fin (neg : Bool) (n d : Nat)
  deriving DecidableEq, Repr

/-- A binary format: mantissa bits, exponent of the smallest normal value, width of the exponent field, and whether its
grid is one of fixed spacing. The last encoding of a magnitude that is finite is `top`. -/
structure Fmt where
  mb    : Nat
  eb    : Nat
  emin  : Int
  top   : Nat
  fixed : Bool := false
  deriving DecidableEq, Repr

def fp32 : Fmt := { mb := 23, eb := 8, emin := -126, top := 0x7F7FFFFF }
def bf16 : Fmt := { mb := 7, eb := 8, emin := -126, top := 0x7F7F }
def fp16 : Fmt := { mb := 10, eb := 5, emin := -14, top := 0x7BFF }
def e4m3 : Fmt := { mb := 3, eb := 4, emin := -6, top := 0x7E }
def e5m2 : Fmt := { mb := 2, eb := 5, emin := -14, top := 0x7B }
def e2m3 : Fmt := { mb := 3, eb := 2, emin := 0, top := 0x1F }
def e3m2 : Fmt := { mb := 2, eb := 3, emin := -2, top := 0x1F }
def e2m1 : Fmt := { mb := 1, eb := 2, emin := 0, top := 0x7 }

/-- The fraction m × 2 ^ e. -/
def dyadic (m : Nat) (e : Int) : Nat × Nat := if 0 ≤ e then (m * 2 ^ e.toNat, 1) else (m, 2 ^ (-e).toNat)

/-- The value of magnitude encoding v of a format. -/
def Fmt.mag (f : Fmt) (v : Nat) : Nat × Nat :=
  let x := v / 2 ^ f.mb
  let m := v % 2 ^ f.mb
  if x = 0 then dyadic m (f.emin - f.mb) else dyadic (m + 2 ^ f.mb) ((x : Int) - 1 + f.emin - f.mb)

/-- The value of encoding v of a format of 1 + eb + mb bits; encodings above `top` are infinity, where the format has
it, and not a number. -/
def Fmt.value (f : Fmt) (hasInf : Bool) (v : Nat) : Fp :=
  let neg := bit v (f.eb + f.mb)
  let m := v % 2 ^ (f.eb + f.mb)
  if m ≤ f.top then let (n, d) := f.mag m; .fin neg n d
  else if hasInf && m == f.top + 1 then .inf neg else .nan neg

/-- The exponent of the leading bit of n / d (n not 0). -/
def floorLog2 (n d : Nat) : Int :=
  let e : Int := (Nat.log2 n : Int) - Nat.log2 d
  let ge := if 0 ≤ e then decide (d * 2 ^ e.toNat ≤ n) else decide (d ≤ n * 2 ^ (-e).toNat)
  if ge then e else e - 1

/-- The spacing exponent of the grid of f at the magnitude n / d. -/
def Fmt.step (f : Fmt) (n d : Nat) : Int :=
  if f.fixed || n == 0 then f.emin - f.mb else max (floorLog2 n d) f.emin - f.mb

/-- n / d divided by 2 ^ e: quotient, remainder and divisor. -/
def scaled (n d : Nat) (e : Int) : Nat × Nat × Nat :=
  let d' := if 0 ≤ e then d * 2 ^ e.toNat else d
  let n' := if 0 ≤ e then n else n * 2 ^ (-e).toNat
  (n' / d', n' % d', d')

/-- The magnitude encoding of n / d in f, without an upper bound: rounded to nearest even, or with the 16 random bits r
(R290, R292). -/
def Fmt.round (f : Fmt) (r : Option Nat) (n d : Nat) : Nat :=
  let e := f.step n d
  let (q, rem, den) := scaled n d e
  let up := match r with
    | none => decide (den < 2 * rem) || (decide (2 * rem = den) && q % 2 == 1)
    | some r => decide (2 ^ 16 ≤ rem * 2 ^ 16 / den + r)
  (e - (f.emin - f.mb)).toNat * 2 ^ f.mb + q + b2n up

/-! ## FP32 arithmetic, rounded to nearest even with subnormals kept (R177) -/

/-- The FP32 value nearest to x; too large a value becomes infinite. -/
def Fp.to32 (x : Fp) : Fp :=
  match x with
  | .fin s n d =>
    let v := fp32.round none n d
    if fp32.top < v then .inf s else let (n, d) := fp32.mag v; .fin s n d
  | x => x

def Fp.neg : Fp → Fp
  | .nan s => .nan !s
  | .inf s => .inf !s
  | .fin s n d => .fin (!s) n d

def Fp.isNan : Fp → Bool
  | .nan _ => true
  | _ => false

def Fp.isZero : Fp → Bool
  | .fin _ n _ => n == 0
  | _ => false

/-- The sum of two values. -/
def Fp.add (x y : Fp) : Fp :=
  match x, y with
  | .nan s, _ => .nan s
  | _, .nan s => .nan s
  | .inf s, .inf t => if s = t then .inf s else .nan false
  | .inf s, _ => .inf s
  | _, .inf t => .inf t
  | .fin s a b, .fin t c d =>
    let u := a * d
    let v := c * b
    Fp.to32 (if s = t then .fin s (u + v) (b * d)
      else if u = v then .fin false 0 1
      else if v < u then .fin s (u - v) (b * d) else .fin t (v - u) (b * d))

def Fp.sub (x y : Fp) : Fp := x.add y.neg

/-- The product of two values. -/
def Fp.mul (x y : Fp) : Fp :=
  match x, y with
  | .nan s, _ => .nan s
  | _, .nan s => .nan s
  | .inf s, .inf t => .inf (s != t)
  | .inf s, .fin t n _ => if n = 0 then .nan false else .inf (s != t)
  | .fin s n _, .inf t => if n = 0 then .nan false else .inf (s != t)
  | .fin s a b, .fin t c d => Fp.to32 (.fin (s != t) (a * c) (b * d))

/-- The quotient of two values. -/
def Fp.div (x y : Fp) : Fp :=
  match x, y with
  | .nan s, _ => .nan s
  | _, .nan s => .nan s
  | .inf _, .inf _ => .nan false
  | .inf s, .fin t _ _ => .inf (s != t)
  | .fin s _ _, .inf t => .fin (s != t) 0 1
  | .fin s a b, .fin t c d =>
    if c = 0 then (if a = 0 then .nan false else .inf (s != t)) else Fp.to32 (.fin (s != t) (a * d) (b * c))

/-- x < y as real numbers, -0 and +0 being equal; false with not a number. -/
def Fp.lt (x y : Fp) : Bool :=
  match x, y with
  | .nan _, _ => false
  | _, .nan _ => false
  | .inf s, .inf t => s && !t
  | .inf s, _ => s
  | _, .inf t => !t
  | .fin s a b, .fin t c d =>
    let u : Int := if s then -((a * d : Nat) : Int) else ((a * d : Nat) : Int)
    let v : Int := if t then -((c * b : Nat) : Int) else ((c * b : Nat) : Int)
    decide (u < v)

/-- x and y are equal as real numbers. -/
def Fp.eq (x y : Fp) : Bool := !x.isNan && !y.isNan && !x.lt y && !y.lt x

/-- A whole number. -/
def Fp.nat (n : Nat) : Fp := .fin false n 1

/-- The largest whole number not above a value that is not negative. -/
def Fp.floor (x : Fp) : Nat :=
  match x with
  | .fin _ n d => n / d
  | _ => 0

/-- The FP32 value of a 32-bit pattern. -/
def fp32Of (v : Nat) : Fp := fp32.value true v

/-- The sign bit of a format's encoding. -/
def Fmt.sign (f : Fmt) (neg : Bool) : Nat := if neg then 2 ^ (f.eb + f.mb) else 0

/-- The encoding of x in a format with infinities, a finite value beyond its range becoming the largest finite value;
none for a value that is not a number (R177). -/
def Fmt.clip (f : Fmt) (x : Fp) : Option Nat :=
  match x with
  | .nan _ => none
  | .inf s => some (f.sign s + f.top + 1)
  | .fin s n d => some (f.sign s + min (f.round none n d) f.top)

end Sys2Proof.Machine
end

