-- ==== Sys2Proof/Config.lean ====
section
/-! DEFINITION. What an implementation fixes and the spec leaves open, and the free values. -/
namespace Sys2Proof.Config

/-- The set of the snoop filter that a line falls in (R41 gives 16 ways and no index function); log entry 51. -/
opaque snoopSet : (line : Nat) → BitVec 14

/-- How far the copy of the timebase in a clock domain lags the reference at a time, in ns before the bound of R16 cuts it; log
entry 11. -/
opaque timebaseLag : (domain time : Nat) → BitVec 4

/-- The ZCI packets that the link layer replays in the nanosecond at a time (R490 gives the count's meaning and no message
brings it); log entry 130. -/
opaque zciReplays : (time : Nat) → BitVec 16

/-- The bit pattern of a combine weight that is not a number, by output format (R177 gives none); log entry 75. -/
opaque nanWeight : Nat → Word

/-- The HBM controllers that answer a commit marker (DEDUCED, log entry 49, from the worked example of the memory model
chapter, where a FENCE waits for the 8 HBM controllers). -/
def hbmControllers : List Nat := [0, 1, 2, 3, 4, 5, 6, 7]

/-- What a value becomes that enters a TIMELINE gate of a management mould, whose pour has no timelines (R85, R459); log
entry 25. -/
opaque mgmtTimeline : Nat → Word

/-- The waypoint window that 0xFF takes for a management pour, which has no flask default (R94, R459); log entry 26. -/
opaque mgmtWaypoint : BitVec 5

/-- What a sealed egress job encrypts at an offset of its run that no host row covers (R302 gives nothing); log entry 78. -/
opaque gapByte : Nat → Byte

/-- Byte i of section 6 of an image that saves the sealed state c (R434 lists its contents and gives no layout); log entry
108. -/
opaque sealedByte : (c : List Byte) → (i : Nat) → Byte

/-- The sealed state that 16 KiB of section 6 hold, where this machine did not write them; log entry 108. -/
opaque sealedOf : List Byte → List Byte

/-- The mould handle and bank (index, generation, bank, as in a HANDLE gate) of context i of an image with POUR_ID p that
this machine did not write, and in bit 40 whether a context in GATES has read its bank: R434 gives the context no field for
them; log entry 107. -/
opaque imageMould : (p i : Nat) → BitVec 41

/-- The bank area, in 512 B units from the flask's first byte, of a mould with the digest that an image restores and this
machine did not save (R434 gives none); log entry 107. -/
opaque imageBanks : (digest : List Byte) → BitVec 35

/-- What MIG_EXPORT writes after the offset of an entry whose granule is not SEALED, by address (R442 gives nothing); log
entry 109. -/
opaque exportByte : (address : Nat) → Byte

/-- The peer lanes that the link layer reports as up at a time, modulo 73 (R356); what it reports no command tells; log
entry 74. -/
opaque lanesUp : (time : Nat) → BitVec 7

/-- How long the switch to an image committed at a time takes, modulo 2,000,001 ns (R464: within 2 ms); log entry 142. -/
opaque switchTime : (time : Nat) → BitVec 21

/-- How long a management core that expired at a time is down, modulo 200,001 ns (R462: within 200 µs); log entry 142. -/
opaque coreRestart : (time : Nat) → BitVec 18

/-- When a start-up that began at a time reaches SELFTEST (0, modulo 1,010,001 ns) and FIRMWARE (1, modulo 6,010,001 ns), each
within the bound of R471; log entry 143. -/
opaque startupStep : (time step : Nat) → BitVec 23

/-- The fuse values (0 Subsystem ID, 1 engine code revision, 2 and 3 device ID) and the version of the committed management
image (4) that reads show in the first start-up, before STARTUP_READY brings the model what Kyrdo holds; log entry 143. -/
opaque fuseShown : (what : Nat) → Word

end Sys2Proof.Config
end

