-- ==== Sys2Proof/Machine/Operands.lean ====
section
/-! DEFINITION. Operand forms of the records: gate descriptors and their bounds (R84, R85), operands (R87), record fields
(R93 to R108), and the conditions of a GUARD (R95). -/
namespace Sys2Proof.Machine

/-! ## Gate descriptors (R84, R85) -/

/-- Gate types of R85. -/
def gtUNUSED : Nat := 0
def gtU64 : Nat := 1
def gtVA : Nat := 2
def gtTIMELINE : Nat := 3
def gtCOUNT : Nat := 4
def gtSLOT : Nat := 5
def gtPRED : Nat := 6
def gtHANDLE : Nat := 7
def gtBYTES : Nat := 8

/-- A gate descriptor. -/
structure Desc where
  type   : Nat
  routeW : Bool
  patchW : Bool
  align  : Nat
  max    : Nat
  deriving DecidableEq, Repr

/-- The descriptor in the 8 bytes w (R84). -/
def descOf (w : Nat) : Desc :=
  { type := bits w 0 4, routeW := bit w 4, patchW := bit w 5, align := bits w 8 6, max := bits w 16 48 }

/-- The 8 bytes w break check 0x04 of R117: an unknown TYPE, a reserved bit, or an ALIGN or MAX that R84 does not give
the type. -/
def descBad (w : Nat) : Bool :=
  let d := descOf w
  decide (8 < d.type) || bits w 6 2 != 0 || bits w 14 2 != 0 ||
  (if d.type = gtVA then decide (56 < d.align) else d.align != 0) ||
  (d.max != 0 && d.type != gtU64 && d.type != gtCOUNT && d.type != gtSLOT)

/-- A value brought within the bounds of its descriptor (R85); tl is the flask's timeline count, 0 for a management
mould, which has no timelines. -/
def clampGate (d : Desc) (tl v : Nat) : Nat :=
  if d.type = gtU64 ∨ d.type = gtCOUNT then min v d.max
  else if d.type = gtVA then bits v 0 57 / 2 ^ d.align * 2 ^ d.align
  else if d.type = gtTIMELINE then
    if tl = 0 then (Config.mgmtTimeline v).toNat else bits v 0 16 % tl
  else if d.type = gtSLOT then setBits (setBits v 26 6 0) 0 16 (min (bits v 0 16) d.max)
  else if d.type = gtPRED then b2n (v != 0)
  else if d.type = gtHANDLE then bits v 0 40
  else v

/-! ## Records and operands -/

/-- Bits [lo + w - 1 : lo] of doubleword dw of record r. -/
def fld (r : List Byte) (dw lo w : Nat) : Nat := bits (leAt r (8 * dw) 8) lo w

/-- Part p of a gate value (R87). -/
def gatePart (p v : Nat) : Nat :=
  if p = 0 then v else if p = 1 then bits v 0 16 else if p = 2 then bits v 16 16 else bits v 32 32

/-- Gate g of a gate copy. -/
def gateAt (gates : List Word) (g : Nat) : Nat := (nth gates g 0).toNat

/-- The value of operand o on a gate copy (R87). -/
def opVal (gates : List Word) (o : Nat) : Nat :=
  if bit o 15 then gatePart (bits o 6 2) (gateAt gates (bits o 0 6)) else bits o 0 15

/-- The most that part p of a gate with descriptor d can be (R84, R85, R87). -/
def Desc.partMax (d : Desc) (p : Nat) : Nat :=
  if p = 0 then (if d.type = gtU64 ∨ d.type = gtCOUNT then d.max else if d.type = gtPRED then 1 else 2 ^ 64 - 1)
  else if p = 1 then (if d.type = gtU64 ∨ d.type = gtCOUNT ∨ d.type = gtSLOT then min d.max 65535 else 65535)
  else if p = 2 then 65535
  else 2 ^ 32 - 1

/-- The gate that operand o names. -/
def opGate (o : Nat) : List Nat := if bit o 15 then [bits o 0 6] else []

/-- Opcodes of R93. -/
def opKERNEL : Nat := 0x01
def opGUARD : Nat := 0x02
def opJUMP : Nat := 0x03
def opLOOP : Nat := 0x04
def opENDLOOP : Nat := 0x05
def opCALL : Nat := 0x06
def opRETURN : Nat := 0x07
def opWAIT : Nat := 0x08
def opSIGNAL : Nat := 0x09
def opFENCE : Nat := 0x0A
def opPUT : Nat := 0x0B
def opROUTE : Nat := 0x0C
def opSPAWN : Nat := 0x0D
def opEVENT : Nat := 0x0E
def opPATCH : Nat := 0x0F
def opSTAMP : Nat := 0x10
def opBARRIER : Nat := 0x11
def opMOVE : Nat := 0x12
def opEND : Nat := 0x1F

/-- The opcode of a record. -/
def opOf (r : List Byte) : Nat := fld r 0 0 8

/-- Continuation records that follow r: the EXT of a PUT (R93, R100). -/
def extOf (r : List Byte) : Nat := if opOf r = opPUT then fld r 0 9 2 else 0

/-- Condition cond of a GUARD holds of a and b (R95). -/
def condHolds (cond a b : Nat) : Bool :=
  match cond with
  | 0 => a == b
  | 1 => a != b
  | 2 => decide (a < b)
  | 3 => decide (b ≤ a)
  | 4 => decide (a ≤ b)
  | 5 => decide (b < a)
  | _ => a != 0

/-- The gates a record reads or writes, by which it waits for pending gates (R92). -/
def gatesOf (r : List Byte) : List Nat :=
  let op := opOf r
  let o (lo : Nat) := opGate (fld r 0 lo 16)
  if op = opKERNEL then
    opGate (fld r 2 0 16) ++ opGate (fld r 2 16 16) ++ opGate (fld r 2 32 16) ++ onesOf (fld r 3 0 64) 64
  else if op = opGUARD then o 16 ++ (if fld r 0 8 3 = 6 then [] else o 32)
  else if op = opLOOP then o 32 ++ (if fld r 0 8 1 = 1 then [fld r 0 16 6] else [])
  else if op = opWAIT then o 16 ++ o 32
  else if op = opSIGNAL then o 16 ++ o 32 ++ (if fld r 0 11 1 = 1 then o 48 else [])
  else if op = opPUT then o 32 ++ (if fld r 0 8 1 = 1 then onesOf (fld r 2 0 64) 64 else [])
  else if op = opROUTE then
    let mode := fld r 0 8 2
    o 32 ++ (if mode = 0 then o 48 else []) ++ [fld r 1 16 6] ++ (if mode = 2 then [] else [fld r 1 24 6]) ++
    (if mode = 0 then [fld r 1 32 6] else []) ++ (if fld r 0 13 2 = 2 then [fld r 1 40 6] else []) ++
    (List.range (fld r 1 56 7)).map (fun i => fld r 1 48 6 + i) ++
    (if fld r 3 6 1 = 1 then [fld r 3 0 6] else []) ++ (if mode = 2 then [fld r 3 8 6] else [])
  else if op = opSPAWN then (if fld r 0 8 1 = 1 then [fld r 0 16 6] else []) ++ onesOf (fld r 2 0 64) 64
  else if op = opPATCH then fld r 0 16 6 :: (if fld r 0 8 3 = 0 then [] else [fld r 0 24 6])
  else if op = opMOVE then
    fld r 0 16 6 :: (if fld r 0 8 2 = 1 then [] else [fld r 0 24 6]) ++ (if fld r 0 8 2 = 0 then o 32 else [])
  else []

end Sys2Proof.Machine
end

