-- ==== Sys2Proof/Machine/Convert.lean ====
section
/-! DEFINITION. Conversion by the casters (10): the descriptor, formats, tiles, ranges, MX blocks, 2:4 compaction. -/
namespace Sys2Proof.Machine

/-! ## Formats (R274, R275) -/

/-- Bits of an element. -/
def fmBits (c : Nat) : Nat :=
  if c = 0 then 32 else if c = 1 ∨ c = 2 then 16 else if c = 7 ∨ c = 8 then 6 else if c = 9 ∨ c = 0xC then 4 else 8

/-- Stored elements of a tile row. -/
def fmE (c : Nat) : Nat := if fmBits c = 16 then 64 else if fmBits c = 6 then 160 else if fmBits c = 4 then 256 else 128

/-- The format is MX. -/
def fmMx (c : Nat) : Bool := decide (5 ≤ c ∧ c ≤ 0xA)

/-- The format is a plain integer. -/
def fmInt (c : Nat) : Bool := c == 0xB || c == 0xC

/-- Grids of the integer formats: MXINT8 in steps of 2^-6, plain integers in steps of 1. -/
def mxint8 : Fmt := { mb := 6, eb := 0, emin := 0, top := 127, fixed := true }
def plainInt : Fmt := { mb := 0, eb := 0, emin := 0, top := 127, fixed := true }

/-- The format of an element without its scale. -/
def fmElem (c : Nat) : Fmt :=
  match c with
  | 0 => fp32 | 1 => bf16 | 2 => fp16 | 3 => e4m3 | 4 => e5m2 | 5 => e4m3 | 6 => e5m2 | 7 => e2m3 | 8 => e3m2 | 9 => e2m1
  | 0xA => mxint8 | _ => plainInt

/-- emax of R274. -/
def fmEmax (c : Nat) : Int :=
  match c with
  | 3 => 8 | 4 => 15 | 5 => 8 | 6 => 15 | 7 => 2 | 8 => 4 | 9 => 2 | _ => 0

/-- The format has infinities. -/
def fmInf (c : Nat) : Bool := c == 0 || c == 1 || c == 2 || c == 4 || c == 6

/-- The exact product and quotient of two values that are numbers. -/
def Fp.times (x y : Fp) : Fp :=
  match x, y with
  | .fin s a b, .fin t c d => if a * c = 0 then .fin s 0 1 else .fin (s != t) (a * c) (b * d)
  | .inf s, .fin t _ _ => .inf (s != t)
  | x, _ => x
def Fp.quot (x y : Fp) : Fp :=
  match x, y with
  | .fin s a b, .fin t c d => if a = 0 then .fin s 0 1 else .fin (s != t) (a * d) (b * c)
  | .inf s, .fin t _ _ => .inf (s != t)
  | x, _ => x

/-- Two's complement value of the w-bit number v, as sign and magnitude. -/
def twos (w v : Nat) : Bool × Nat := if 2 ^ (w - 1) ≤ v then (true, 2 ^ w - v) else (false, v)

/-- The value of element encoding v of a format, without its scale. -/
def elemValue (c v : Nat) : Fp :=
  if c = 0xA then let (s, n) := twos 8 v; .fin s n 64
  else if fmInt c then let (s, n) := twos (fmBits c) v; .fin s n 1
  else (fmElem c).value (fmInf c) v

/-- Element k of bytes packed by R275. -/
def elemAt (c : Nat) (bs : List Byte) (k : Nat) : Nat :=
  let w := fmBits c
  bits (leAt bs (k * w / 8) 5) (k * w % 8) w

/-- Elements packed by R275. -/
def packElems (c : Nat) (vs : List Nat) (n : Nat) : List Byte :=
  leBytes n (((List.range vs.length).zip vs).foldl (fun a p => a + p.2 % 2 ^ fmBits c * 2 ^ (p.1 * fmBits c)) 0)

/-- The value of a scale. -/
def scaleValue (s : Nat) : Fp := if s = 0xFF then .nan false else let (n, d) := dyadic 1 ((s : Int) - 127); .fin false n d

/-- An element's value under its block's scale. -/
def scaled2 (x s : Fp) : Fp :=
  match s with
  | .nan _ => (match x with | .fin t _ _ | .inf t | .nan t => .nan t)
  | s => x.times s

/-! ## The descriptor (R283) -/

def cdDir (d : List Byte) : Nat := fld d 0 0 2
def cdEgress (d : List Byte) : Bool := cdDir d == 1
def cdSealed (d : List Byte) : Bool := fld d 0 2 1 == 1
def cdPrune (d : List Byte) : Bool := fld d 0 3 1 == 1
def cdHost (d : List Byte) : Nat := fld d 0 4 4
def cdTile (d : List Byte) : Nat := fld d 0 8 4
def cdSparse (d : List Byte) : Nat := fld d 0 12 2
def cdRandom (d : List Byte) : Bool := fld d 0 14 1 == 1
def cdSat (d : List Byte) : Bool := fld d 0 15 1 == 1
def cdKey (d : List Byte) : Nat := fld d 0 16 8
def cdChunk (d : List Byte) : Nat := 2 ^ fld d 0 24 5
def cdMax (d : List Byte) : Nat := if fld d 0 32 6 = 0 then 32 else fld d 0 32 6
def cdTag (d : List Byte) : Nat := fld d 0 48 16
def cdHostVa (d : List Byte) : Nat := fld d 1 0 57
def cdRows (d : List Byte) : Nat := fld d 2 0 32
def cdCols (d : List Byte) : Nat := fld d 2 32 32
def cdPitch (d : List Byte) : Nat := fld d 3 0 40
def cdScalePitch (d : List Byte) : Nat := fld d 3 40 24
def cdDataVa (d : List Byte) : Nat := fld d 4 0 57
def cdHdrVa (d : List Byte) : Nat := fld d 5 0 57
def cdSideVa (d : List Byte) : Nat := fld d 6 0 57
def cdMaskVa (d : List Byte) : Nat := fld d 7 0 57
def cdScaleVa (d : List Byte) : Nat := fld d 8 0 57
def cdScale (d : List Byte) : Nat := fld d 9 0 32
def cdAad (d : List Byte) : Nat := fld d 9 32 32
def cdSeed (d : List Byte) : Nat := leAt d 0x50 8
def cdTagVa (d : List Byte) : Nat := fld d 11 0 57
def cdIvHi (d : List Byte) : Nat := leAt d 0x60 8
def cdIvLo (d : List Byte) : Nat := fld d 13 0 32

/-- The tile set is 2:4. -/
def cdPairs (d : List Byte) : Bool := cdSparse d == 1

/-- Stored elements of a tile row, logical columns of a tile, and the tile grid (R277). -/
def cdE (d : List Byte) : Nat := fmE (cdTile d)
def cdLE (d : List Byte) : Nat := if cdPairs d then 2 * cdE d else cdE d
def cdTR (d : List Byte) : Nat := ceilDiv (cdRows d) 32
def cdTC (d : List Byte) : Nat := ceilDiv (cdCols d) (cdLE d)

/-- Sizes of the scale part and of the side area (R278). -/
def cdScales (d : List Byte) : Nat := if fmMx (cdTile d) then roundUp (cdLE d) 64 else 0
def cdSide (d : List Byte) : Nat := cdScales d + (if cdPairs d then 8 * cdE d else 0)

/-- Bytes of a host row, and of a row of n elements. -/
def hostBytes (c n : Nat) : Nat := ceilDiv (n * fmBits c) 8
def cdRowBytes (d : List Byte) : Nat := hostBytes (cdHost d) (cdCols d)

/-- Bytes of the sealed run, and its chunks (R301). -/
def cdRun (d : List Byte) : Nat := cdRows d * cdPitch d
def cdChunks (d : List Byte) : Nat := ceilDiv (cdRun d) (cdChunk d)

/-- The checks of R284, in order, on a descriptor read at address at_: the number of the first that fails. -/
def cdCheck (d : List Byte) (at_ : Nat) (flaskSealed : Bool) : Option Nat :=
  let h := cdHost d
  let t := cdTile d
  let one := fmInt h != fmInt t
  let high (dw : Nat) : Bool := fld d dw 57 7 != 0
  let sc := fp32Of (cdScale d)
  let finite := match sc with | .fin _ n _ => n != 0 | _ => false
  let checks : List Bool := [
    fld d 0 29 3 != 0 || fld d 0 38 10 != 0 || high 1 || high 4 || high 5 || high 6 || high 7 || high 8 || high 11 ||
      fld d 13 32 32 != 0 || (slice d 0x70 16).any (fun b => b != 0) || (slice d 0x98 40).any (fun b => b != 0) ||
      decide (1 < cdDir d) || cdSparse d == 3,
    decide (0xC < h) || t == 0 || decide (0xC < t) || (h == 0 && cdDir d != 0),
    cdRows d == 0 || decide (2 ^ 24 < cdRows d) || cdCols d == 0 || decide (2 ^ 24 < cdCols d) || (fmMx h && cdCols d % 32 != 0),
    decide (cdPitch d < cdRowBytes d) || (fmMx h && decide (cdScalePitch d < cdCols d / 32)),
    at_ % 64 != 0 || cdDataVa d % 4096 != 0 || cdHdrVa d % 64 != 0 || cdSideVa d % 64 != 0 || (cdSparse d == 2 && cdMaskVa d % 64 != 0) ||
      (fmBits h == 16 && cdHostVa d % 2 != 0) || (fmBits h == 32 && cdHostVa d % 4 != 0) ||
      (cdSideVa d == 0) != (cdSide d == 0),
    cdSparse d == 2 && (decide (1024 < cdTC d) || decide (65536 < cdTR d)),
    one && !finite,
    cdSealed d && (!flaskSealed || decide (fld d 0 24 5 < 12) || decide (24 < fld d 0 24 5) ||
      (!cdEgress d && (cdPitch d != cdRowBytes d || cdIvHi d / 2 ^ 56 == 0xCE || decide (2 ^ 32 - cdIvLo d < cdChunks d))))]
  (lowest 8 (fun i => nth checks i false)).map (fun i => i + 1)

/-! ## Rounding and ranges (R290 to R293) -/

/-- The 16 random bits of element i of dense tile n (R292). -/
def srBits (seed n i : Nat) : Nat :=
  let m := 2 ^ 64
  let z := (seed + (n * 2 ^ 16 + i + 1) * 0x9E3779B97F4A7C15) % m
  let z := Nat.xor z (z / 2 ^ 30) * 0xBF58476D1CE4E5B9 % m
  let z := Nat.xor z (z / 2 ^ 27) * 0x94D049BB133111EB % m
  let z := Nat.xor z (z / 2 ^ 31)
  z / 2 ^ 48

/-- The random bits that a job's element takes; none when it rounds to nearest. -/
def cdBits (d : List Byte) (n i : Nat) : Option Nat := if cdRandom d then some (srBits (cdSeed d) n i) else none

/-- The encoding of NaN in a floating destination, and of the largest finite value. -/
def nanCode (c : Nat) : Nat := match c with | 1 => 0x7FC0 | 2 => 0x7E00 | 3 => 0x7F | _ => 0x7E

/-- The encoding of x in floating format c, and what it adds to SATURATED (R291). -/
def encodeFloat (c : Nat) (sat : Bool) (r : Option Nat) (x : Fp) : Nat × Nat :=
  let f := fmElem c
  let past (s : Bool) : Nat := f.sign s + (if sat then f.top else f.top + 1)
  match x with
  | .nan s => (f.sign s + nanCode c, 0)
  | .inf s => if fmInf c then (f.sign s + f.top + 1, 0) else (past s, 1)
  | .fin s n d =>
    let v := f.round r n d
    if f.top < v then (past s, 1) else (f.sign s + v, 0)

/-- The encoding of x in plain integer format c (R291, R293). -/
def encodeInt (c : Nat) (r : Option Nat) (x : Fp) : Nat × Nat :=
  let w := fmBits c
  let hi := 2 ^ (w - 1) - 1
  match x with
  | .nan _ => (0, 1)
  | .inf s => (if s then hi + 1 else hi, 1)
  | .fin s n d =>
    let v := plainInt.round r n d
    if s then (if hi + 1 < v then (hi + 1, 1) else ((2 ^ w - v) % 2 ^ w, 0)) else if hi < v then (hi, 1) else (v, 0)

/-- One element of an MX block, already divided by its scale. -/
def encodeMx (c : Nat) (r : Option Nat) (x : Fp) : Nat × Nat :=
  match x with
  | .fin s n d =>
    let f := fmElem c
    let v := f.round r n d
    let k := b2n (decide (f.top < v))
    let v := min v f.top
    if c = 0xA then (if s then (256 - v) % 256 else v, k) else (f.sign s + v, k)
  | _ => (0, 0)

/-- x ≤ y for two magnitudes. -/
def magLe (x y : Nat × Nat) : Bool := decide (x.1 * y.2 ≤ y.1 * x.2)

/-- The magnitude of a number. -/
def Fp.magn : Fp → Nat × Nat
  | .fin _ n d => (n, d)
  | _ => (0, 1)

/-- An MX block of values, each with the random bits it takes: scale, encodings, and what it adds to SATURATED (R292). -/
def mxBlock (c : Nat) (vs : List (Fp × Option Nat)) : Nat × List Nat × Nat :=
  if vs.any (fun v => !(match v.1 with | .fin _ _ _ => true | _ => false)) then (0xFF, vs.map (fun _ => 0), vs.length)
  else
    let m := vs.foldl (fun a v => if magLe v.1.magn a then a else v.1.magn) (0, 1)
    let e0 : Int := if m.1 = 0 then -127 else floorLog2 m.1 m.2 - fmEmax c
    let e := max (-127) (min 127 e0)
    let (n, d) := dyadic 1 e
    let ps := vs.map (fun v => encodeMx c v.2 (v.1.quot (.fin false n d)))
    ((e + 127).toNat, ps.map Prod.fst, (ps.map Prod.snd).sum)

/-- Value of a source element under SCALE, and what is to be rounded (R293). -/
def cdIn (d : List Byte) (src dst : Nat) (x : Fp) : Fp :=
  let sc := fp32Of (cdScale d)
  if fmInt src && !fmInt dst then (if x.isZero then .fin false 0 1 else x.times sc)
  else if fmInt dst && !fmInt src then x.quot sc else x

/-- Elements (logical column and value) of one row in destination format c: encodings in order, scales by logical block,
and what the row adds to SATURATED. `le` is the number of logical columns and row * le + column an element's index. -/
def encodeRow (d : List Byte) (c n row le : Nat) (xs : List (Nat × Fp)) : List Nat × List Nat × Nat :=
  let rnd (col : Nat) : Option Nat := cdBits d n (row * le + col)
  if fmMx c then
    let cols := xs.foldl (fun m p => max m (p.1 + 1)) 0
    let blocks := (List.range (ceilDiv cols 32)).map (fun b =>
      mxBlock c ((xs.filter (fun p => p.1 / 32 == b)).map (fun p => (p.2, rnd p.1))))
    (blocks.flatMap (fun b => b.2.1), blocks.map Prod.fst, (blocks.map (fun b => b.2.2)).sum)
  else
    let es := xs.map (fun p => if fmInt c then encodeInt c (rnd p.1) p.2 else encodeFloat c (cdSat d) (rnd p.1) p.2)
    (es.map Prod.fst, [], (es.map Prod.snd).sum)

/-! ## 2:4 compaction (R294) -/

/-- x is larger in magnitude than y; not a number is larger than every number. -/
def larger (x y : Fp) : Bool :=
  match x, y with
  | .nan _, .nan _ => false
  | .nan _, _ => true
  | _, .nan _ => false
  | .inf _, .inf _ => false
  | .inf _, _ => true
  | _, .inf _ => false
  | x, y => !magLe x.magn y.magn

/-- The two positions kept of a group of four, and whether it was pruned; none where it breaks the pattern. -/
def keepPair (prune : Bool) (g : List Fp) : Option (Nat × Nat × Bool) :=
  let at' (i : Nat) : Fp := nth g i (.fin false 0 1)
  let nz := (List.range 4).filter (fun i => !(at' i).isZero)
  let order (a b : Nat) (p : Bool) : Option (Nat × Nat × Bool) := some (min a b, max a b, p)
  if nz.length ≤ 2 then
    let kept := (nz ++ (List.range 4).filter (fun i => (at' i).isZero)).take 2
    order (nth kept 0 0) (nth kept 1 1) false
  else if !prune then none
  else
    let best (skip : Option Nat) : Nat := ((List.range 4).filter (fun i => some i != skip)).foldl (fun m i =>
      if some m == skip || larger (at' i) (at' m) then i else m) 0
    let a := best none
    let b := best (some a)
    order a b true

/-! ## Tiles (R276 to R282) -/

/-- What an ingress item makes: data, side area, and the counts it adds. -/
structure TileOut where
  data   : List Byte
  side   : List Byte
  sat    : Nat := 0
  pruned : Nat := 0
  broken : Bool := false        -- a 2:4 group broke the pattern with PRUNE 0
  deriving DecidableEq, Repr

/-- The tile with dense index n of a region of 32 rows of LE values. -/
def makeTile (d : List Byte) (n : Nat) (rows : List (List Fp)) : TileOut :=
  let c := cdTile d
  let le := cdLE d
  let out := ((List.range 32).zip rows).map (fun p =>
    let vs := (List.range le).zip p.2
    if cdPairs d then
      let groups := (List.range (le / 4)).map (fun g => (g, keepPair (cdPrune d) ((p.2.drop (4 * g)).take 4)))
      let kept := groups.flatMap (fun q => match q.2 with
        | some (a, b, _) => [(4 * q.1 + a, nth p.2 (4 * q.1 + a) (.fin false 0 1)), (4 * q.1 + b, nth p.2 (4 * q.1 + b) (.fin false 0 1))]
        | none => [])
      let meta_ := groups.map (fun q => match q.2 with | some (a, b, _) => a + 4 * b | none => 0)
      let pruned := (groups.filter (fun q => match q.2 with | some (_, _, x) => x | none => false)).length
      (encodeRow d c n p.1 le kept, meta_, pruned, groups.any (fun q => q.2.isNone))
    else (encodeRow d c n p.1 le vs, [], 0, false))
  let scales := out.flatMap (fun o => o.1.2.1)
  { data := out.flatMap (fun o => packElems c o.1.1 128),
    side := packElems 5 scales (cdScales d) ++
      (if cdPairs d then out.flatMap (fun o => packElems 9 o.2.1 (cdE d / 4)) else []),
    sat := (out.map (fun o => o.1.2.2)).sum, pruned := (out.map (fun o => o.2.2.1)).sum,
    broken := out.any (fun o => o.2.2.2) }

/-- Rows and columns of the matrix in the tile with dense index n. -/
def tileRows (d : List Byte) (n : Nat) : Nat := min 32 (cdRows d - n / cdTC d * 32)
def tileCols (d : List Byte) (n : Nat) : Nat := min (cdLE d) (cdCols d - n % cdTC d * cdLE d)

/-- The first 60 bytes of a tile's header (R279). -/
def headerBytes (d : List Byte) (n : Nat) (slag : Bool) : List Byte :=
  leBytes 8 (cdTile d + b2n (cdPairs d) * 2 ^ 8 + b2n slag * 2 ^ 10 + b2n (cdRandom d) * 2 ^ 11 + tileRows d n * 2 ^ 16 +
    tileCols d n * 2 ^ 32 + cdTag d * 2 ^ 48) ++
  leBytes 4 n ++ zeros 4 ++ leBytes 8 (cdSide d) ++ zeros 36

/-- A whole tile: data, header, side area (R280, R282). -/
def tileParts (d : List Byte) (n : Nat) (slag : Bool) (data side : List Byte) : List Byte × List Byte × List Byte :=
  let data := if slag then slagRun 4096 else data
  let side := if slag then slagRun (cdSide d) else side
  let h := headerBytes d n slag
  (data, h ++ leBytes 4 (crc32c (h ++ data ++ side)), side)
where slagRun (n : Nat) : List Byte := List.replicate n 0xFF

/-- A source tile that an egress job may convert (R299). -/
def tileGood (d : List Byte) (data header side : List Byte) : Bool :=
  leAt header 60 4 == crc32c (header.take 60 ++ data ++ side) && leAt header 0 1 == cdTile d &&
  bits (leAt header 1 1) 0 2 == b2n (cdPairs d) && !bit (leAt header 1 1) 2 && leAt header 6 2 == cdTag d

/-- The logical values of a tile, row by row (R294, R289). -/
def tileValues (d : List Byte) (data side : List Byte) : List (List Fp) :=
  let c := cdTile d
  let le := cdLE d
  (List.range 32).map (fun i =>
    let row := slice data (128 * i) 128
    let value (k col : Nat) : Fp :=
      let x := elemValue c (elemAt c row k)
      if fmMx c then scaled2 x (scaleValue (leAt side (i * (le / 32) + col / 32) 1)) else x
    if cdPairs d then
      let m := slice side (cdScales d + i * (cdE d / 4)) (cdE d / 4)
      (List.range (le / 4)).flatMap (fun g =>
        let e := elemAt 9 m g
        (List.range 4).map (fun q =>
          if q = e % 4 then value (2 * g) (4 * g + q) else if q = e / 4 then value (2 * g + 1) (4 * g + q) else .fin false 0 1))
    else (List.range le).map (fun k => value k k))

end Sys2Proof.Machine
end

