-- ==== Sys2Proof/Machine/Regs.lean ====
section
/-! DEFINITION. The register fields of the Celzaig (R5 to R9, R31, R491, R500): one name per field of the register
tables of the spec's chapters 02 to 19, and for each its place, width, access code, reset value and "Kept across" set. -/
namespace Sys2Proof.Machine

/-- Access codes of R6. -/
inductive Access where
  | RO | RW | WO | W1C | W1S | RWS
  deriving DecidableEq, Repr

/-- Every register field of the field tables, named by its register and field (CZ_ left off). -/
inductive Field where
  | CFG_VENDOR | CFG_DEVICE | CFG_IOSE | CFG_MSE | CFG_BME | CFG_CMD_OTHER | CFG_STATUS | CFG_REVISION | CFG_CLASS
  | CFG_CLS | CFG_LATENCY | CFG_BAR0_TYPE | CFG_BAR0_SIZE | CFG_BAR0_LO | CFG_BAR0_HI | CFG_BAR1_TYPE | CFG_BAR1_SIZE
  | CFG_BAR1_LO | CFG_BAR1_HI | CFG_SUBVENDOR | CFG_SUBSYS | CFG_ROM | CFG_CAPPTR | CFG_INTLINE | CFG_INTPIN
  | WIN_HBASE | WIN_DBASE | WIN_EN | WIN_RD | WIN_WR | WIN_COHERENT | WIN_OWNED | WIN_FLASK | WIN_FLASK_GEN | WIN_SIZE
  | WIN_CFG_ERR | HLP_CTL_HB_PERIOD | HLP_CTL_HB_MISS | HLP_STATUS_LINK_UP | HLP_STATUS_HEADLESS
  | HLP_STATUS_DETACHING | HLP_STATUS_ATTACHED | HLP_STATUS_CAUSE | HLP_STATUS_EPOCH | HLP_HB_HB_VALUE
  | HLP_ATTACH_ATTACH | HLP_ATTACH_DETACH | HLP_ATTACH_EPOCH | HLP_HOLD_BASE_BASE | HLP_HOLD_BASE_SIZE
  | HLP_HOLD_PTRS_WR_IDX | HLP_HOLD_PTRS_RD_IDX | HLP_ERR_UNSUP | HLP_ERR_BAD_REG | HLP_ERR_BAD_DB | HLP_ERR_NO_WINDOW
  | HLP_ERR_RIGHTS | HLP_ERR_SEALED | HLP_ERR_WIN_CFG | HLP_ERR_ATTACH_EPOCH | HLP_ERR_LOST_LINES | HLP_ERR_HOLD_FULL
  | HLP_DROP_COUNT_HEADLESS_DROPS | HLP_DROP_COUNT_LOST_LINES | HLP_DROP_COUNT_LOST_WRITES
  | HLP_DROP_COUNT_SEALED_REFUSALS | HLP_CREDIT_NP_GRANTED | HLP_CREDIT_P_GRANTED | HLP_CREDIT_EVT_GRANTED | QCTX_LOC
  | QCTX_BASE | QCTX_CLOC | QCTX_CBASE | QCTX_RING_LOG2 | QCTX_LEVEL | QCTX_WEIGHT | QCTX_MAX_INFLIGHT | QCTX_RT
  | QCTX_FLASK | QCTX_FLASK_GEN | QCTX_PASID | QCTX_RT_GROUPS | QCTX_STATE | QCTX_GEN | QCTX_ERR_CODE
  | QCTX_DB_MISMATCH | QCTX_ERR_IDX | QCTX_HEAD | QCTX_TAIL | QCTX_NEXT | QCTX_POURS | QCTX_ENGINES | QCTX_REREADS
  | QCTX_ADMITTED | QM_CTL_ADMIT_EN | QM_CTL_TOKEN_DEPTH | QM_STATUS_RT_QUEUES | QM_STATUS_SEQ_RESERVED
  | QM_STATUS_TOKENS | QM_STATUS_ACTIVE | QM_DB_IGNORED_MALFORMED | QM_DB_IGNORED_INACTIVE | QM_DB_IGNORED_BEHIND
  | QM_DB_IGNORED_MISMATCH | QM_RACE_REREADS | QM_RACE_STALE | QM_FLASK_W_WEIGHT | MC_CTL_EN | MC_CTL_PREFETCH_EN
  | MC_STATUS_VALID | MC_STATUS_PINNED | MC_STATUS_LOADED | MC_STATS_HITS | MC_STATS_MISSES | MC_HTAB_BASE
  | MC_HTAB_EN | MC_LOAD_ERR_CODE | MC_LOAD_ERR_INDEX | MC_LOAD_ERR_FLASK | MC_GATE_CLAMP_COUNT | MC_GATE_CLAMP_QUEUE
  | MC_GATE_CLAMP_GATE | MC_STORE_BASE | MC_STORE_SIZE | SEQ_CTL_DL_CHECK_EN | SEQ_CTL_PRELOAD_EN | SEQ_STATUS_PAIR_OK
  | SEQ_STATUS_POUR_CTX | SEQ_STATUS_SPAWN_CTX | SEQ_ERR_SPAWN_REFUSED | SEQ_ERR_RT_GROUPS | SEQ_ERR_LEND_OVERRUN
  | SEQ_ERR_DEADLOCK | SEQ_SPAWN_REFUSED | SEQ_SPAWN_WAITED | SEQ_FLASK_WP_LOG2 | SEQ_DEADLOCK_COUNT | SEQ_DEADLOCK_Q0
  | SEQ_DEADLOCK_Q1 | SEQ_DEADLOCK_Q2 | SEQ_DEADLOCK_Q3 | LANE_WP_VALUE | LANE_WP_STALLED | LANE_WP_MOVED_AT
  | LANE_STATE_DEPTH | LANE_STATE_SHADOW | LANE_STATE_RUNNING | LANE_STATE_BORROWED | LANE_STATE_QUEUE
  | LANE_STATE_QGEN | SEQ_CTX_STATE | SEQ_CTX_QUEUE | SEQ_CTX_QGEN | SEQ_CTX_DEPTH | SEQ_CTX_RECORD | SEQ_CTX_TIMELINE
  | SEQ_CTX_KERNELS | SEQ_CTX_SPAWNED | RT_CTL_PUSH_EN | RT_STATUS_HELD | RT_STATUS_OUT_OF_SERVICE | RT_STATUS_BUF_KIB
  | RT_ERR_BAD_TABLE | RT_ERR_TOKENS | RT_ERR_POISON | RT_ERR_RESIDUE | RT_STATS_OPS | RT_STATS_PUSH_REFUSED
  | RT_CAP_DROPPED | RT_CAP_SPILLED | RT_LAST_QUEUE | RT_LAST_QGEN | RT_LAST_RECORD | RT_LAST_CAUSE | XL_CTL_WC_EN
  | XL_STATUS_SURVEYORS | XL_STATUS_WAITING | XL_STATUS_PINNED | XL_INV_STATUS_HOST_OPEN | XL_INV_STATUS_CMD_OPEN
  | XL_INV_STATUS_PHYS_WAIT | XL_INV_STATUS_DONE | XL_ERR_PURGE_TIMEOUT | XL_ERR_WALK_ERR | XL_ERR_INV_OVERRUN
  | XL_ERR_FRING_FULL | XL_ERR_BAD_ATLAS | XL_STATS_HITS | XL_STATS_WALKS | XL_FAULTS_RECORDED | XL_FAULTS_UNRECORDED
  | XL_FLASK_STALL | XL_FLASK_HELD | XL_FLASK_NEXT_ID | XL_FRING_BASE_BASE | XL_FRING_BASE_SIZE | XL_FRING_PTRS_WR_IDX
  | XL_FRING_PTRS_RD_IDX | XL_ATLAS_PASID | XL_ATLAS_FLASK | XL_ATLAS_FLASK_GEN | XL_ATLAS_VALID | XL_ATLAS_ROOT
  | TIER_CTL_HOT_EN | TIER_CTL_DECAY_LOG2 | TIER_CTL_THRESH | TIER_POOL_BASE | TIER_POOL_N1G | TIER_POOL_N32
  | TIER_POOL_STATUS_USED1G | TIER_POOL_STATUS_USED32 | TIER_POOL_STATUS_ORPHANS | TIER_STATS_EVICTED
  | TIER_STATS_DISCARDED | TIER_STATS_ORPHAN_DROPS | TIER_MIG_LAST | TIER_MIG_DONE | TIER_MIG_FAILED
  | TIER_HRING_BASE_BASE | TIER_HRING_BASE_SIZE | TIER_HRING_PTRS_WR_IDX | TIER_HRING_PTRS_RD_IDX
  | TIER_HRING_PTRS_LOST | TIER_HOT_VALID | TIER_HOT_FLAGGED | TIER_HOT_SIZE | TIER_HOT_SLOT | TIER_HOT_VA
  | TIER_HOT_COUNT | TIER_HOT_LOCAL | HAP_CTL_SHARE_LIMIT | HAP_CTL_PEER_SHARE_LIMIT | HAP_STATUS_HOST_TAGS
  | HAP_STATUS_PEER_TAGS | HAP_STATUS_WR_ENTRIES | HAP_STATUS_BM_STALL | HAP_STATUS_ACK_WAIT | HAP_ERR_BAD_REQ
  | HAP_ERR_RD_POISON | HAP_ERR_WR_ERR | HAP_ERR_ATOMIC_ERR | HAP_ERR_BLOCK_DISCARD | HAP_ERR_HOST_DROP
  | HAP_DROP_FLASK_DROPS | HAP_DROP_HOST_DROPS | HAP_DROP_BLOCK_DISCARDS | HAP_DROP_WR_ERRORS | HAP_STATS_READS
  | HAP_STATS_WRITES | CAST_CTL_CASTER_EN | CAST_STATUS_JOBS | CAST_STATUS_BUSY | CAST_STATUS_OUT_OF_SERVICE
  | CAST_ERR_BAD_DESC | CAST_ERR_AUTH_FAIL | CAST_ERR_EGRESS_CRC | CAST_ERR_SPARSITY | CAST_ERR_RESIDUE
  | CAST_ERR_KEY_REVOKED | CAST_ERR_SEAL_PARTIAL | CAST_ERR_ELOG_FULL | CAST_STATS_ITEMS | CAST_STATS_SLAGGED
  | CAST_SEAL_STATS_BLOCKS | CAST_SEAL_STATS_AUTH_FAILS | CAST_ELOG_BASE_BASE | CAST_ELOG_BASE_SIZE
  | CAST_ELOG_PTRS_WR_IDX | CAST_ELOG_PTRS_RD_IDX | PEER_CTL_NODE_ID | PEER_CTL_EN | PEER_CTL_NODE_LIMIT
  | PEER_STATUS_LANES_UP | PEER_STATUS_ATTACHED | PEER_STATUS_OUTSTANDING | PEER_STATUS_INBOUND
  | PEER_ERR_INBOUND_DENIED | PEER_ERR_BUSY_SENT | PEER_ERR_SIG_REFUSED | PEER_ERR_NODE_TIMEOUT | PEER_ERR_NODE_LOST
  | PEER_ERR_BIND_CFG | PEER_ERR_ATTACH_FAIL | PEER_STATS_RETRIES | PEER_STATS_DENIED | PEER_LOSS_LOST_WRITES
  | PEER_LOSS_LOST_READS | PEER_LOSS_LOST_SIGNALS | PEER_BIND_NODE_LO | PEER_BIND_NODE_HI | PEER_BIND_SRC_FLASK
  | PEER_BIND_FLASK | PEER_BIND_FLASK_GEN | PEER_BIND_RD | PEER_BIND_WR | PEER_BIND_AT | PEER_BIND_SIG | PEER_BIND_DB
  | PEER_BIND_EN | PEER_BIND_BASE | PEER_BIND_SIZE | PEER_BIND_CFG_ERR | PEER_NODE_STATE | PEER_NODE_GEN
  | PEER_NODE_OUT | PEER_NODE_CAUSE | EV_CTL_DELIVER_EN | EV_STATUS_PENDING | EV_STATUS_ACTIVE | EV_STATUS_HELD
  | EV_STATUS_WAIT_CREDIT | EV_ERR_DENIED | EV_ERR_BAD_STORE | EV_ERR_BAD_COMPL | EV_STATS_MERGED | EV_STATS_DENIED
  | EV_STATS_BAD_COMPL | EV_MCOMPL_VALUE | EV_GROUP_MEMBERS | EV_TGT_EN | EV_TGT_KIND | EV_TGT_DEST | EV_THRESH_THRESH
  | EV_THRESH_INSVC | EV_THRESH_RPRI | EV_SRC_PRIO | EV_SRC_MASK | EV_SRC_KIND | EV_SRC_PENDING | EV_SRC_ACTIVE
  | EV_SRC_GROUP | EV_SRC_OWNED | EV_SRC_FLASK | EV_SRC_FLASK_GEN | EV_SRC_TARGET | EV_SRC_DPRIO | EV_SRC_DELIV
  | EV_DB_SOURCE | FL_STATUS_FLASKS | FL_STATUS_SCRUBBING | FL_STATUS_SLOTS_FREE | FL_STATUS_SCRUB_LEFT
  | FL_ERR_CMD_AUTH | FL_ERR_CMD_SEQ | FL_ERR_FOREIGN_MOULD | FL_ERR_KYRDO_TIMEOUT | FL_STATS_CMD_OK
  | FL_STATS_CMD_REFUSED | FL_GROUPS | FL_BASE | FL_SIZE | FL_QFIRST | FL_QCOUNT | FL_TFIRST | FL_TCOUNT_M1 | FL_STATE
  | FL_GEN | FL_AUTO_RESET | FL_LOCKED | FL_DEBUG | FL_PROFILE | FL_CMD_SLOT | FL_EGRESS_SLOT | FL_EGRESS_VALID
  | FL_RESETS | FL_CAUSE_EXCEPTION | FL_CAUSE_STALL_RESET | FL_CAUSE_DEADLOCK | FL_CAUSE_HOT_SHEET
  | FL_CAUSE_ELOG_FULL | FL_CAUSE_FOREIGN_MOULD | FL_CAUSE_DONE | FL_CAUSE_SEALED_OK | FL_EXC_ENGINE | FL_EXC_QUEUE
  | FL_EXC_QGEN | FL_LABEL | FL_TEAR_KILLED | FL_TEAR_SLAGGED | FL_TEAR_DROPPED | FL_TEAR_PEER_LOST | KEY_SLOT_VALID
  | KEY_SLOT_USE | KEY_SLOT_FLASK | KEY_SLOT_FLASK_GEN | SEAL_GRAN_SEAL | SEAL_GRAN_DIRTY | FL_PUBVA_PASID
  | FL_PUBVA_VALID | FL_PUBVA_SIZE | FL_PUBVA_BASE | EN_CTL_LINGER | EN_CTL_BATCH | EN_STATUS_OPEN
  | EN_STATUS_UNSIGNED | EN_STATUS_K | EN_ERR_RAIL_MISSING | EN_ERR_CLAMPED | EN_ERR_NO_ACC | EN_ERR_RING_FULL
  | EN_ERR_KYRDO_TIMEOUT | EN_ERR_ENG_MISSING | EN_STATIC_EST | EN_RING_BASE_BASE | EN_RING_BASE_SIZE
  | EN_RING_PTRS_WR_IDX | EN_RING_PTRS_RD_IDX | EN_PKG_TOTAL | EN_PKG_OVERHEAD | EN_COEF_COEF | EN_FLASK_METERED
  | EN_FLASK_IDLE | EN_FLASK_OVERHEAD | EN_FLASK_UNMETERED | QN_PHASE | QN_LAST | QN_REMAINING | QN_IMG_LEN | QN_QP
  | MIG_STAGE_BASE | MIG_STAGE_SIZE | MB_CMD_OPCODE | MB_CMD_PLEN | MB_CMD_NOTIFY | MB_CMD_TAG | MB_P | MB_RPL_STATUS
  | MB_RPL_OPCODE | MB_RPL_TAG | MB_RPL_RLEN | MB_RPL_RESUMED | MB_OUT | MB_SUBMIT_SLOT | MB_STATE_STATE | MB_ERR_DONE
  | MB_ERR_BAD_SUBMIT | MB_ERR_WATCHDOG | MB_FW_VERSION | MB_FW_MGMT_STAGED | MB_FW_UCODE_STAGED | MB_FW_CORE0_UP
  | MB_FW_CORE1_UP | MB_FW_WDOG | MB_MSTORE_BASE | MB_MSTORE_SIZE | RAS_STATUS_PHASE | RAS_STATUS_ROUTE_FAIL
  | RAS_STATUS_MGMT_FAIL | RAS_STATUS_LAST_RESET | RAS_ERR_BLOCK_FAULT | RAS_ERR_SRAM_UE | RAS_ERR_LOCKSTEP
  | RAS_ERR_HBM_UE | RAS_ERR_REC_FULL | RAS_ERR_COMPL_WRITE | RAS_ERR_RESET_WRITE | RAS_ERR_SELFTEST
  | RAS_ERR_DROWSE_REFUSED | RAS_CE_SRAM | RAS_CE_ZCI_REPLAY | STALE_DROP_QUEUE | STALE_DROP_FLASK | STALE_DROP_MOULD
  | STALE_DROP_NODE | STALE_LAST_KIND | STALE_LAST_ID | STALE_LAST_GEN_SEEN | STALE_LAST_GEN_NOW | POISON_RD
  | POISON_WR | RAS_COUNT_RESET_WRITES | RAS_COUNT_REC_LOST | RAS_COUNT_DROWSE_REFUSED | RAS_SELFTEST_PAIRS
  | RAS_SELFTEST_LANES | RAS_SELFTEST_CASTERS | RAS_REC_BASE_BASE | RAS_REC_BASE_SIZE | RAS_REC_PTRS_WR_IDX
  | RAS_REC_PTRS_RD_IDX | PWR_CTL_IDLE_EN | PWR_CTL_IDLE_US | PWR_CTL_WAKE_WINDOW | PWR_CTL_WAKE_DOORBELL
  | PWR_CTL_WAKE_PEER | PWR_STATUS_STATE | PWR_STATUS_ENTERING | PWR_STATUS_EXITING | PWR_STATUS_WAKE_CAUSE
  | PWR_STATUS_GATED | PWR_GATED_GROUPS | ID_VENDOR | ID_DEVICE | ID_REVISION | ID_ENGINE_REV | CAP_QUEUES
  | CAP_RT_QUEUES | CAP_SEQUENCERS | CAP_ENGINES | CAP_GROUPS | CAP_FLASKS | CAP_KEY_SLOTS | CAP2_TIMELINES
  | CAP2_EVENT_SOURCES | CAP2_EVENT_TARGETS | CAP2_CASTERS | CAP2_AES_LANES | CAP2_SHEET_32M | CAP2_SHEET_1G
  | CAP2_SHEET_64G | CAP2_ROUTE_K | DEVID_LO | DEVID_HI | TIMEBASE | TL_COUNTER | TL_VALUE | TL_OP_TIMELINE
  | TL_OP_MODE | TL_STATS_UNOWNED | TL_STATS_BAD_OP
  deriving DecidableEq, Repr

/-- One row of a register table. Element i of the field lies in the register at
base + (i / perReg) * stride, at bit lo + bitStep * (i % perReg). Where cols is not 0 only the elements with
i % cols < colLimit exist. kept is a mask of the "Kept across" column: 1 BLOCK, 2 FLASK, 4 QUEUE, 8 LINK, 16 PEER,
32 DROWSE. -/
structure Row where
  config   : Bool := false
  base     : Nat
  stride   : Nat := 0
  count    : Nat := 1
  perReg   : Nat := 1
  bitStep  : Nat := 0
  cols     : Nat := 0
  colLimit : Nat := 0
  lo       : Nat
  width    : Nat
  access   : Access
  reset    : Nat := 0
  kept     : Nat := 0
  deriving DecidableEq, Repr

/-- A row of a single register. -/
def row1 (base lo width : Nat) (access : Access) (reset kept : Nat) : Row :=
  { base, lo, width, access, reset, kept }

/-- A row of an array of registers. -/
def rowN (base stride count lo width : Nat) (access : Access) (reset kept : Nat) : Row :=
  { base, stride, count, lo, width, access, reset, kept }

/-- A row of the configuration header. -/
def rowC (base lo width : Nat) (access : Access) (reset kept : Nat) : Row :=
  { config := true, base, lo, width, access, reset, kept }

/-- The register tables of the spec, row by row (R12, R31, R491, R500). -/
def Field.row : Field → Row
  | .CFG_VENDOR => rowC 0 0 16 .RO 0x1f7e 0
  | .CFG_DEVICE => rowC 0 16 16 .RO 0xc20 0
  | .CFG_IOSE => rowC 4 0 1 .RO 0 0
  | .CFG_MSE => rowC 4 1 1 .RW 0 63
  | .CFG_BME => rowC 4 2 1 .RW 0 63
  | .CFG_CMD_OTHER => rowC 4 3 13 .RO 0 0
  | .CFG_STATUS => rowC 4 16 16 .RO 0 0
  | .CFG_REVISION => rowC 8 0 8 .RO 0xb0 0
  | .CFG_CLASS => rowC 8 8 24 .RO 0x120000 0
  | .CFG_CLS => rowC 0xc 0 8 .RW 0 63
  | .CFG_LATENCY => rowC 0xc 8 24 .RO 0 0
  | .CFG_BAR0_TYPE => rowC 0x10 0 4 .RO 4 0
  | .CFG_BAR0_SIZE => rowC 0x10 4 22 .RO 0 0
  | .CFG_BAR0_LO => rowC 0x10 26 6 .RW 0 63
  | .CFG_BAR0_HI => rowC 0x14 0 32 .RW 0 63
  | .CFG_BAR1_TYPE => rowC 0x18 0 4 .RO 4 0
  | .CFG_BAR1_SIZE => rowC 0x18 4 20 .RO 0 0
  | .CFG_BAR1_LO => rowC 0x18 24 8 .RW 0 63
  | .CFG_BAR1_HI => rowC 0x1c 0 32 .RW 0 63
  | .CFG_SUBVENDOR => rowC 0x2c 0 16 .RO 0x1f7e 0
  | .CFG_SUBSYS => rowC 0x2c 16 16 .RO 0 0
  | .CFG_ROM => rowC 0x30 0 32 .RO 0 0
  | .CFG_CAPPTR => rowC 0x34 0 8 .RO 0 0
  | .CFG_INTLINE => rowC 0x3c 0 8 .RW 0 63
  | .CFG_INTPIN => rowC 0x3c 8 24 .RO 0 0
  | .WIN_HBASE => rowN 0x11000 0x20 256 25 27 .RW 0 62
  | .WIN_DBASE => rowN 0x11008 0x20 256 25 19 .RW 0 62
  | .WIN_EN => rowN 0x11010 0x20 256 0 1 .RW 0 62
  | .WIN_RD => rowN 0x11010 0x20 256 1 1 .RW 0 62
  | .WIN_WR => rowN 0x11010 0x20 256 2 1 .RW 0 62
  | .WIN_COHERENT => rowN 0x11010 0x20 256 3 1 .RW 0 62
  | .WIN_OWNED => rowN 0x11010 0x20 256 4 1 .RW 0 62
  | .WIN_FLASK => rowN 0x11010 0x20 256 5 6 .RW 0 62
  | .WIN_FLASK_GEN => rowN 0x11010 0x20 256 11 10 .RW 0 62
  | .WIN_SIZE => rowN 0x11010 0x20 256 32 16 .RW 0 62
  | .WIN_CFG_ERR => rowN 0x11010 0x20 256 63 1 .RO 0 62
  | .HLP_CTL_HB_PERIOD => row1 0x10000 0 16 .RW 0 62
  | .HLP_CTL_HB_MISS => row1 0x10000 16 4 .RW 4 62
  | .HLP_STATUS_LINK_UP => row1 0x10008 0 1 .RO 0 0
  | .HLP_STATUS_HEADLESS => row1 0x10008 1 1 .RO 0 62
  | .HLP_STATUS_DETACHING => row1 0x10008 2 1 .RO 0 54
  | .HLP_STATUS_ATTACHED => row1 0x10008 3 1 .RO 1 62
  | .HLP_STATUS_CAUSE => row1 0x10008 4 4 .RO 0 62
  | .HLP_STATUS_EPOCH => row1 0x10008 8 16 .RO 0 62
  | .HLP_HB_HB_VALUE => row1 0x10010 0 32 .RW 0 54
  | .HLP_ATTACH_ATTACH => row1 0x10018 0 1 .WO 0 0
  | .HLP_ATTACH_DETACH => row1 0x10018 1 1 .WO 0 0
  | .HLP_ATTACH_EPOCH => row1 0x10018 16 16 .WO 0 0
  | .HLP_HOLD_BASE_BASE => row1 0x10020 12 32 .RW 0 62
  | .HLP_HOLD_BASE_SIZE => row1 0x10020 48 13 .RW 0 62
  | .HLP_HOLD_PTRS_WR_IDX => row1 0x10028 0 19 .RO 0 62
  | .HLP_HOLD_PTRS_RD_IDX => row1 0x10028 32 19 .RW 0 62
  | .HLP_ERR_UNSUP => row1 0x10048 0 1 .W1C 0 62
  | .HLP_ERR_BAD_REG => row1 0x10048 1 1 .W1C 0 62
  | .HLP_ERR_BAD_DB => row1 0x10048 2 1 .W1C 0 62
  | .HLP_ERR_NO_WINDOW => row1 0x10048 3 1 .W1C 0 62
  | .HLP_ERR_RIGHTS => row1 0x10048 4 1 .W1C 0 62
  | .HLP_ERR_SEALED => row1 0x10048 5 1 .W1C 0 62
  | .HLP_ERR_WIN_CFG => row1 0x10048 6 1 .W1C 0 62
  | .HLP_ERR_ATTACH_EPOCH => row1 0x10048 7 1 .W1C 0 62
  | .HLP_ERR_LOST_LINES => row1 0x10048 8 1 .W1C 0 62
  | .HLP_ERR_HOLD_FULL => row1 0x10048 9 1 .W1C 0 62
  | .HLP_DROP_COUNT_HEADLESS_DROPS => row1 0x10050 0 16 .RO 0 62
  | .HLP_DROP_COUNT_LOST_LINES => row1 0x10050 16 16 .RO 0 62
  | .HLP_DROP_COUNT_LOST_WRITES => row1 0x10050 32 16 .RO 0 62
  | .HLP_DROP_COUNT_SEALED_REFUSALS => row1 0x10050 48 16 .RO 0 62
  | .HLP_CREDIT_NP_GRANTED => row1 0x10040 0 16 .RO 0 0
  | .HLP_CREDIT_P_GRANTED => row1 0x10040 16 16 .RO 0 0
  | .HLP_CREDIT_EVT_GRANTED => row1 0x10040 32 16 .RO 0 0
  | .QCTX_LOC => rowN 0x100000 0x80 4096 0 1 .RO 0 56
  | .QCTX_BASE => rowN 0x100000 0x80 4096 12 40 .RO 0 56
  | .QCTX_CLOC => rowN 0x100008 0x80 4096 0 1 .RO 0 56
  | .QCTX_CBASE => rowN 0x100008 0x80 4096 12 40 .RO 0 56
  | .QCTX_RING_LOG2 => rowN 0x100010 0x80 4096 0 5 .RO 0 56
  | .QCTX_LEVEL => rowN 0x100010 0x80 4096 8 2 .RO 0 56
  | .QCTX_WEIGHT => rowN 0x100010 0x80 4096 16 8 .RO 0 56
  | .QCTX_MAX_INFLIGHT => rowN 0x100010 0x80 4096 24 7 .RO 0 56
  | .QCTX_RT => rowN 0x100010 0x80 4096 31 1 .RO 0 56
  | .QCTX_FLASK => rowN 0x100010 0x80 4096 32 6 .RO 0 56
  | .QCTX_FLASK_GEN => rowN 0x100010 0x80 4096 38 10 .RO 0 56
  | .QCTX_PASID => rowN 0x100018 0x80 4096 0 20 .RO 0 56
  | .QCTX_RT_GROUPS => rowN 0x100020 0x80 4096 0 64 .RO 0 56
  | .QCTX_STATE => rowN 0x100028 0x80 4096 0 3 .RO 0 56
  | .QCTX_GEN => rowN 0x100028 0x80 4096 8 8 .RO 0 62
  | .QCTX_ERR_CODE => rowN 0x100028 0x80 4096 16 8 .RO 0 56
  | .QCTX_DB_MISMATCH => rowN 0x100028 0x80 4096 24 1 .W1C 0 56
  | .QCTX_ERR_IDX => rowN 0x100028 0x80 4096 32 24 .RO 0 56
  | .QCTX_HEAD => rowN 0x100030 0x80 4096 0 24 .RO 0 56
  | .QCTX_TAIL => rowN 0x100030 0x80 4096 32 24 .RO 0 56
  | .QCTX_NEXT => rowN 0x100038 0x80 4096 0 44 .RO 0 56
  | .QCTX_POURS => rowN 0x100040 0x80 4096 0 7 .RO 0 56
  | .QCTX_ENGINES => rowN 0x100040 0x80 4096 16 10 .RO 0 56
  | .QCTX_REREADS => rowN 0x100048 0x80 4096 0 32 .RO 0 56
  | .QCTX_ADMITTED => rowN 0x100048 0x80 4096 32 32 .RO 0 56
  | .QM_CTL_ADMIT_EN => row1 0x20000 0 1 .RW 1 62
  | .QM_CTL_TOKEN_DEPTH => row1 0x20000 8 5 .RW 0x10 62
  | .QM_STATUS_RT_QUEUES => row1 0x20008 0 7 .RO 0 62
  | .QM_STATUS_SEQ_RESERVED => row1 0x20008 7 1 .RO 0 62
  | .QM_STATUS_TOKENS => row1 0x20008 8 5 .RO 0x10 0
  | .QM_STATUS_ACTIVE => row1 0x20008 16 13 .RO 0 62
  | .QM_DB_IGNORED_MALFORMED => row1 0x20010 0 16 .RO 0 62
  | .QM_DB_IGNORED_INACTIVE => row1 0x20010 16 16 .RO 0 62
  | .QM_DB_IGNORED_BEHIND => row1 0x20010 32 16 .RO 0 62
  | .QM_DB_IGNORED_MISMATCH => row1 0x20010 48 16 .RO 0 62
  | .QM_RACE_REREADS => row1 0x20018 0 32 .RO 0 62
  | .QM_RACE_STALE => row1 0x20018 32 16 .RO 0 62
  | .QM_FLASK_W_WEIGHT => rowN 0x20100 8 64 0 8 .RW 1 60
  | .MC_CTL_EN => row1 0x208000 0 1 .RW 1 62
  | .MC_CTL_PREFETCH_EN => row1 0x208000 1 1 .RW 1 62
  | .MC_STATUS_VALID => row1 0x208008 0 12 .RO 0 62
  | .MC_STATUS_PINNED => row1 0x208008 16 12 .RO 0 62
  | .MC_STATUS_LOADED => row1 0x208008 32 21 .RO 0 62
  | .MC_STATS_HITS => row1 0x208010 0 32 .RO 0 62
  | .MC_STATS_MISSES => row1 0x208010 32 32 .RO 0 62
  | .MC_HTAB_BASE => row1 0x208018 25 19 .RW 0 62
  | .MC_HTAB_EN => row1 0x208018 63 1 .RW 0 62
  | .MC_LOAD_ERR_CODE => row1 0x208020 0 8 .RO 0 62
  | .MC_LOAD_ERR_INDEX => row1 0x208020 8 16 .RO 0 62
  | .MC_LOAD_ERR_FLASK => row1 0x208020 24 6 .RO 0 62
  | .MC_GATE_CLAMP_COUNT => row1 0x208028 0 32 .RO 0 62
  | .MC_GATE_CLAMP_QUEUE => row1 0x208028 32 12 .RO 0 62
  | .MC_GATE_CLAMP_GATE => row1 0x208028 44 6 .RO 0 62
  | .MC_STORE_BASE => rowN 0x208100 8 64 12 32 .RO 0 62
  | .MC_STORE_SIZE => rowN 0x208100 8 64 48 12 .RO 0 62
  | .SEQ_CTL_DL_CHECK_EN => row1 0x200000 0 1 .RW 1 62
  | .SEQ_CTL_PRELOAD_EN => row1 0x200000 1 1 .RW 1 62
  | .SEQ_STATUS_PAIR_OK => row1 0x200008 0 16 .RO 0xffff 62
  | .SEQ_STATUS_POUR_CTX => row1 0x200008 16 9 .RO 0 56
  | .SEQ_STATUS_SPAWN_CTX => row1 0x200008 32 9 .RO 0 56
  | .SEQ_ERR_SPAWN_REFUSED => row1 0x200010 0 1 .W1C 0 62
  | .SEQ_ERR_RT_GROUPS => row1 0x200010 1 1 .W1C 0 62
  | .SEQ_ERR_LEND_OVERRUN => row1 0x200010 2 1 .W1C 0 62
  | .SEQ_ERR_DEADLOCK => row1 0x200010 3 1 .W1C 0 62
  | .SEQ_SPAWN_REFUSED => row1 0x200018 0 32 .RO 0 62
  | .SEQ_SPAWN_WAITED => row1 0x200018 32 32 .RO 0 62
  | .SEQ_FLASK_WP_LOG2 => rowN 0x200100 8 64 0 5 .RW 0x14 60
  | .SEQ_DEADLOCK_COUNT => rowN 0x200300 8 64 0 8 .RO 0 60
  | .SEQ_DEADLOCK_Q0 => rowN 0x200300 8 64 8 12 .RO 0 60
  | .SEQ_DEADLOCK_Q1 => rowN 0x200300 8 64 20 12 .RO 0 60
  | .SEQ_DEADLOCK_Q2 => rowN 0x200300 8 64 32 12 .RO 0 60
  | .SEQ_DEADLOCK_Q3 => rowN 0x200300 8 64 44 12 .RO 0 60
  | .LANE_WP_VALUE => rowN 0x201000 8 512 0 32 .RO 0 56
  | .LANE_WP_STALLED => rowN 0x201000 8 512 32 1 .RO 0 56
  | .LANE_WP_MOVED_AT => rowN 0x201000 8 512 40 24 .RO 0 56
  | .LANE_STATE_DEPTH => rowN 0x202000 8 512 0 7 .RO 0 56
  | .LANE_STATE_SHADOW => rowN 0x202000 8 512 7 1 .RO 0 56
  | .LANE_STATE_RUNNING => rowN 0x202000 8 512 8 1 .RO 0 56
  | .LANE_STATE_BORROWED => rowN 0x202000 8 512 9 1 .RO 0 56
  | .LANE_STATE_QUEUE => rowN 0x202000 8 512 10 12 .RO 0 56
  | .LANE_STATE_QGEN => rowN 0x202000 8 512 22 8 .RO 0 56
  | .SEQ_CTX_STATE => rowN 0x204000 0x10 512 0 4 .RO 0 56
  | .SEQ_CTX_QUEUE => rowN 0x204000 0x10 512 8 12 .RO 0 56
  | .SEQ_CTX_QGEN => rowN 0x204000 0x10 512 20 8 .RO 0 56
  | .SEQ_CTX_DEPTH => rowN 0x204000 0x10 512 28 6 .RO 0 56
  | .SEQ_CTX_RECORD => rowN 0x204000 0x10 512 48 16 .RO 0 56
  | .SEQ_CTX_TIMELINE => rowN 0x204008 0x10 512 0 16 .RO 0 56
  | .SEQ_CTX_KERNELS => rowN 0x204008 0x10 512 16 16 .RO 0 56
  | .SEQ_CTX_SPAWNED => rowN 0x204008 0x10 512 32 8 .RO 0 56
  | .RT_CTL_PUSH_EN => row1 0x300000 0 1 .RW 1 62
  | .RT_STATUS_HELD => row1 0x300008 0 7 .RO 0 56
  | .RT_STATUS_OUT_OF_SERVICE => row1 0x300008 7 1 .RO 0 62
  | .RT_STATUS_BUF_KIB => row1 0x300008 16 9 .RO 0 56
  | .RT_ERR_BAD_TABLE => row1 0x300010 0 1 .W1C 0 62
  | .RT_ERR_TOKENS => row1 0x300010 1 1 .W1C 0 62
  | .RT_ERR_POISON => row1 0x300010 2 1 .W1C 0 62
  | .RT_ERR_RESIDUE => row1 0x300010 3 1 .W1C 0 62
  | .RT_STATS_OPS => row1 0x300018 0 32 .RO 0 62
  | .RT_STATS_PUSH_REFUSED => row1 0x300018 32 32 .RO 0 62
  | .RT_CAP_DROPPED => row1 0x300020 0 32 .RO 0 62
  | .RT_CAP_SPILLED => row1 0x300020 32 32 .RO 0 62
  | .RT_LAST_QUEUE => row1 0x300028 0 12 .RO 0 62
  | .RT_LAST_QGEN => row1 0x300028 12 8 .RO 0 62
  | .RT_LAST_RECORD => row1 0x300028 20 16 .RO 0 62
  | .RT_LAST_CAUSE => row1 0x300028 36 4 .RO 0 62
  | .XL_CTL_WC_EN => row1 0x400000 0 1 .RW 1 62
  | .XL_STATUS_SURVEYORS => row1 0x400008 0 6 .RO 0 56
  | .XL_STATUS_WAITING => row1 0x400008 8 13 .RO 0 56
  | .XL_STATUS_PINNED => row1 0x400008 32 13 .RO 0 56
  | .XL_INV_STATUS_HOST_OPEN => row1 0x400010 0 7 .RO 0 56
  | .XL_INV_STATUS_CMD_OPEN => row1 0x400010 7 5 .RO 0 56
  | .XL_INV_STATUS_PHYS_WAIT => row1 0x400010 12 1 .RO 0 56
  | .XL_INV_STATUS_DONE => row1 0x400010 32 32 .RO 0 62
  | .XL_ERR_PURGE_TIMEOUT => row1 0x400018 0 1 .W1C 0 62
  | .XL_ERR_WALK_ERR => row1 0x400018 1 1 .W1C 0 62
  | .XL_ERR_INV_OVERRUN => row1 0x400018 2 1 .W1C 0 62
  | .XL_ERR_FRING_FULL => row1 0x400018 3 1 .W1C 0 62
  | .XL_ERR_BAD_ATLAS => row1 0x400018 4 1 .W1C 0 62
  | .XL_STATS_HITS => row1 0x400020 0 32 .RO 0 62
  | .XL_STATS_WALKS => row1 0x400020 32 32 .RO 0 62
  | .XL_FAULTS_RECORDED => row1 0x400028 0 32 .RO 0 62
  | .XL_FAULTS_UNRECORDED => row1 0x400028 32 32 .RO 0 62
  | .XL_FLASK_STALL => rowN 0x400100 8 64 0 1 .RW 0 60
  | .XL_FLASK_HELD => rowN 0x400100 8 64 8 5 .RO 0 60
  | .XL_FLASK_NEXT_ID => rowN 0x400100 8 64 16 16 .RO 0 60
  | .XL_FRING_BASE_BASE => rowN 0x400300 8 64 12 32 .RW 0 60
  | .XL_FRING_BASE_SIZE => rowN 0x400300 8 64 48 8 .RW 0 60
  | .XL_FRING_PTRS_WR_IDX => rowN 0x400500 8 64 0 15 .RO 0 60
  | .XL_FRING_PTRS_RD_IDX => rowN 0x400500 8 64 32 15 .RW 0 60
  | .XL_ATLAS_PASID => rowN 0x408000 0x10 1024 0 20 .RO 0 60
  | .XL_ATLAS_FLASK => rowN 0x408000 0x10 1024 20 6 .RO 0 60
  | .XL_ATLAS_FLASK_GEN => rowN 0x408000 0x10 1024 26 10 .RO 0 60
  | .XL_ATLAS_VALID => rowN 0x408000 0x10 1024 63 1 .RO 0 60
  | .XL_ATLAS_ROOT => rowN 0x408008 0x10 1024 13 31 .RO 0 60
  | .TIER_CTL_HOT_EN => row1 0x410000 0 1 .RW 0 62
  | .TIER_CTL_DECAY_LOG2 => row1 0x410000 1 5 .RW 0xa 62
  | .TIER_CTL_THRESH => row1 0x410000 8 24 .RW 0x8000 62
  | .TIER_POOL_BASE => row1 0x410008 30 14 .RW 0 62
  | .TIER_POOL_N1G => row1 0x410008 44 8 .RW 0 62
  | .TIER_POOL_N32 => row1 0x410008 52 12 .RW 0 62
  | .TIER_POOL_STATUS_USED1G => row1 0x410010 0 8 .RO 0 62
  | .TIER_POOL_STATUS_USED32 => row1 0x410010 8 12 .RO 0 62
  | .TIER_POOL_STATUS_ORPHANS => row1 0x410010 20 13 .RO 0 62
  | .TIER_STATS_EVICTED => row1 0x410018 0 16 .RO 0 62
  | .TIER_STATS_DISCARDED => row1 0x410018 16 16 .RO 0 62
  | .TIER_STATS_ORPHAN_DROPS => row1 0x410018 32 16 .RO 0 62
  | .TIER_MIG_LAST => rowN 0x410100 8 64 0 4 .RO 0 60
  | .TIER_MIG_DONE => rowN 0x410100 8 64 16 16 .RO 0 60
  | .TIER_MIG_FAILED => rowN 0x410100 8 64 32 16 .RO 0 60
  | .TIER_HRING_BASE_BASE => rowN 0x410300 8 64 12 32 .RW 0 60
  | .TIER_HRING_BASE_SIZE => rowN 0x410300 8 64 48 8 .RW 0 60
  | .TIER_HRING_PTRS_WR_IDX => rowN 0x410500 8 64 0 16 .RO 0 60
  | .TIER_HRING_PTRS_RD_IDX => rowN 0x410500 8 64 16 16 .RW 0 60
  | .TIER_HRING_PTRS_LOST => rowN 0x410500 8 64 32 16 .RO 0 60
  | .TIER_HOT_VALID => rowN 0x418000 0x10 2048 0 1 .RO 0 52
  | .TIER_HOT_FLAGGED => rowN 0x418000 0x10 2048 1 1 .RO 0 52
  | .TIER_HOT_SIZE => rowN 0x418000 0x10 2048 2 2 .RO 0 52
  | .TIER_HOT_SLOT => rowN 0x418000 0x10 2048 4 10 .RO 0 52
  | .TIER_HOT_VA => rowN 0x418000 0x10 2048 25 32 .RO 0 52
  | .TIER_HOT_COUNT => rowN 0x418008 0x10 2048 0 24 .RO 0 52
  | .TIER_HOT_LOCAL => rowN 0x418008 0x10 2048 25 19 .RO 0 52
  | .HAP_CTL_SHARE_LIMIT => row1 0x500000 0 8 .RW 0x40 62
  | .HAP_CTL_PEER_SHARE_LIMIT => row1 0x500000 8 8 .RW 0x80 62
  | .HAP_STATUS_HOST_TAGS => row1 0x500008 0 14 .RO 0 56
  | .HAP_STATUS_PEER_TAGS => row1 0x500008 16 15 .RO 0 56
  | .HAP_STATUS_WR_ENTRIES => row1 0x500008 32 14 .RO 0 56
  | .HAP_STATUS_BM_STALL => row1 0x500008 46 1 .RO 0 56
  | .HAP_STATUS_ACK_WAIT => row1 0x500008 48 15 .RO 0 56
  | .HAP_ERR_BAD_REQ => row1 0x500010 0 1 .W1C 0 62
  | .HAP_ERR_RD_POISON => row1 0x500010 1 1 .W1C 0 62
  | .HAP_ERR_WR_ERR => row1 0x500010 2 1 .W1C 0 62
  | .HAP_ERR_ATOMIC_ERR => row1 0x500010 3 1 .W1C 0 62
  | .HAP_ERR_BLOCK_DISCARD => row1 0x500010 4 1 .W1C 0 62
  | .HAP_ERR_HOST_DROP => row1 0x500010 5 1 .W1C 0 62
  | .HAP_DROP_FLASK_DROPS => row1 0x500018 0 16 .RO 0 62
  | .HAP_DROP_HOST_DROPS => row1 0x500018 16 16 .RO 0 62
  | .HAP_DROP_BLOCK_DISCARDS => row1 0x500018 32 16 .RO 0 62
  | .HAP_DROP_WR_ERRORS => row1 0x500018 48 16 .RO 0 62
  | .HAP_STATS_READS => row1 0x500020 0 32 .RO 0 62
  | .HAP_STATS_WRITES => row1 0x500020 32 32 .RO 0 62
  | .CAST_CTL_CASTER_EN => row1 0x510000 0 32 .RW 0xffffffff 62
  | .CAST_STATUS_JOBS => row1 0x510008 0 7 .RO 0 56
  | .CAST_STATUS_BUSY => row1 0x510008 8 6 .RO 0 56
  | .CAST_STATUS_OUT_OF_SERVICE => row1 0x510008 32 32 .RO 0 62
  | .CAST_ERR_BAD_DESC => row1 0x510010 0 1 .W1C 0 62
  | .CAST_ERR_AUTH_FAIL => row1 0x510010 1 1 .W1C 0 62
  | .CAST_ERR_EGRESS_CRC => row1 0x510010 2 1 .W1C 0 62
  | .CAST_ERR_SPARSITY => row1 0x510010 3 1 .W1C 0 62
  | .CAST_ERR_RESIDUE => row1 0x510010 4 1 .W1C 0 62
  | .CAST_ERR_KEY_REVOKED => row1 0x510010 5 1 .W1C 0 62
  | .CAST_ERR_SEAL_PARTIAL => row1 0x510010 6 1 .W1C 0 62
  | .CAST_ERR_ELOG_FULL => row1 0x510010 7 1 .W1C 0 62
  | .CAST_STATS_ITEMS => row1 0x510018 0 32 .RO 0 62
  | .CAST_STATS_SLAGGED => row1 0x510018 32 32 .RO 0 62
  | .CAST_SEAL_STATS_BLOCKS => row1 0x510020 0 32 .RO 0 62
  | .CAST_SEAL_STATS_AUTH_FAILS => row1 0x510020 32 16 .RO 0 62
  | .CAST_ELOG_BASE_BASE => rowN 0x510100 8 64 12 32 .RW 0 60
  | .CAST_ELOG_BASE_SIZE => rowN 0x510100 8 64 48 8 .RW 0 60
  | .CAST_ELOG_PTRS_WR_IDX => rowN 0x510300 8 64 0 15 .RO 0 60
  | .CAST_ELOG_PTRS_RD_IDX => rowN 0x510300 8 64 32 15 .RW 0 60
  | .PEER_CTL_NODE_ID => row1 0x600000 0 12 .RW 0 62
  | .PEER_CTL_EN => row1 0x600000 12 1 .RW 0 62
  | .PEER_CTL_NODE_LIMIT => row1 0x600000 16 15 .RW 0x1800 62
  | .PEER_STATUS_LANES_UP => row1 0x600008 0 7 .RO 0 0
  | .PEER_STATUS_ATTACHED => row1 0x600008 8 12 .RO 0 62
  | .PEER_STATUS_OUTSTANDING => row1 0x600008 20 15 .RO 0 62
  | .PEER_STATUS_INBOUND => row1 0x600008 36 13 .RO 0 62
  | .PEER_ERR_INBOUND_DENIED => row1 0x600010 0 1 .W1C 0 62
  | .PEER_ERR_BUSY_SENT => row1 0x600010 1 1 .W1C 0 62
  | .PEER_ERR_SIG_REFUSED => row1 0x600010 2 1 .W1C 0 62
  | .PEER_ERR_NODE_TIMEOUT => row1 0x600010 3 1 .W1C 0 62
  | .PEER_ERR_NODE_LOST => row1 0x600010 4 1 .W1C 0 62
  | .PEER_ERR_BIND_CFG => row1 0x600010 5 1 .W1C 0 62
  | .PEER_ERR_ATTACH_FAIL => row1 0x600010 6 1 .W1C 0 62
  | .PEER_STATS_RETRIES => row1 0x600018 0 32 .RO 0 62
  | .PEER_STATS_DENIED => row1 0x600018 32 32 .RO 0 62
  | .PEER_LOSS_LOST_WRITES => row1 0x600020 0 16 .RO 0 62
  | .PEER_LOSS_LOST_READS => row1 0x600020 16 16 .RO 0 62
  | .PEER_LOSS_LOST_SIGNALS => row1 0x600020 32 16 .RO 0 62
  | .PEER_BIND_NODE_LO => rowN 0x601000 0x20 256 0 12 .RW 0 62
  | .PEER_BIND_NODE_HI => rowN 0x601000 0x20 256 12 12 .RW 0 62
  | .PEER_BIND_SRC_FLASK => rowN 0x601000 0x20 256 24 6 .RW 0 62
  | .PEER_BIND_FLASK => rowN 0x601000 0x20 256 30 6 .RW 0 62
  | .PEER_BIND_FLASK_GEN => rowN 0x601000 0x20 256 36 10 .RW 0 62
  | .PEER_BIND_RD => rowN 0x601000 0x20 256 46 1 .RW 0 62
  | .PEER_BIND_WR => rowN 0x601000 0x20 256 47 1 .RW 0 62
  | .PEER_BIND_AT => rowN 0x601000 0x20 256 48 1 .RW 0 62
  | .PEER_BIND_SIG => rowN 0x601000 0x20 256 49 1 .RW 0 62
  | .PEER_BIND_DB => rowN 0x601000 0x20 256 50 1 .RW 0 62
  | .PEER_BIND_EN => rowN 0x601000 0x20 256 63 1 .RW 0 62
  | .PEER_BIND_BASE => rowN 0x601008 0x20 256 25 19 .RW 0 62
  | .PEER_BIND_SIZE => rowN 0x601010 0x20 256 0 14 .RW 0 62
  | .PEER_BIND_CFG_ERR => rowN 0x601010 0x20 256 63 1 .RO 0 62
  | .PEER_NODE_STATE => rowN 0x608000 8 4096 0 3 .RO 5 46
  | .PEER_NODE_GEN => rowN 0x608000 8 4096 8 8 .RO 0 62
  | .PEER_NODE_OUT => rowN 0x608000 8 4096 16 15 .RO 0 46
  | .PEER_NODE_CAUSE => rowN 0x608000 8 4096 32 4 .RO 0 62
  | .EV_CTL_DELIVER_EN => row1 0x700000 0 1 .RW 1 62
  | .EV_STATUS_PENDING => row1 0x700008 0 15 .RO 0 62
  | .EV_STATUS_ACTIVE => row1 0x700008 16 15 .RO 0 62
  | .EV_STATUS_HELD => row1 0x700008 32 15 .RO 0 62
  | .EV_STATUS_WAIT_CREDIT => row1 0x700008 48 15 .RO 0 62
  | .EV_ERR_DENIED => row1 0x700010 0 1 .W1C 0 62
  | .EV_ERR_BAD_STORE => row1 0x700010 1 1 .W1C 0 62
  | .EV_ERR_BAD_COMPL => row1 0x700010 2 1 .W1C 0 62
  | .EV_STATS_MERGED => row1 0x700018 0 32 .RO 0 62
  | .EV_STATS_DENIED => row1 0x700018 32 16 .RO 0 62
  | .EV_STATS_BAD_COMPL => row1 0x700018 48 16 .RO 0 62
  | .EV_MCOMPL_VALUE => row1 0x700020 0 64 .WO 0 0
  | .EV_GROUP_MEMBERS => rowN 0x701000 8 512 0 64 .RW 0 62
  | .EV_TGT_EN => rowN 0x702000 8 512 0 1 .RW 0 62
  | .EV_TGT_KIND => rowN 0x702000 8 512 1 1 .RO 0 0
  | .EV_TGT_DEST => rowN 0x702000 8 512 16 12 .RW 0 62
  | .EV_THRESH_THRESH => rowN 0x703000 8 512 0 4 .RW 0 62
  | .EV_THRESH_INSVC => rowN 0x703000 8 512 16 16 .RO 0 62
  | .EV_THRESH_RPRI => rowN 0x703000 8 512 32 5 .RO 0 62
  | .EV_SRC_PRIO => rowN 0x710000 8 16384 0 4 .RW 0 62
  | .EV_SRC_MASK => rowN 0x710000 8 16384 4 1 .RW 0 62
  | .EV_SRC_KIND => rowN 0x710000 8 16384 5 1 .RO 0 0
  | .EV_SRC_PENDING => rowN 0x710000 8 16384 6 1 .W1C 0 62
  | .EV_SRC_ACTIVE => rowN 0x710000 8 16384 7 1 .RO 0 62
  | .EV_SRC_GROUP => rowN 0x710000 8 16384 8 6 .RW 0 62
  | .EV_SRC_OWNED => rowN 0x710000 8 16384 14 1 .RW 0 62
  | .EV_SRC_FLASK => rowN 0x710000 8 16384 15 6 .RW 0 62
  | .EV_SRC_FLASK_GEN => rowN 0x710000 8 16384 21 10 .RW 0 62
  | .EV_SRC_TARGET => rowN 0x710000 8 16384 32 9 .RO 0 62
  | .EV_SRC_DPRIO => rowN 0x710000 8 16384 44 4 .RO 0 62
  | .EV_SRC_DELIV => rowN 0x710000 8 16384 48 16 .RO 0 62
  | .EV_DB_SOURCE => rowN 0x740000 0x1000 64 0 14 .WO 0 0
  | .FL_STATUS_FLASKS => row1 0x800000 0 7 .RO 0 62
  | .FL_STATUS_SCRUBBING => row1 0x800000 7 1 .RO 0 62
  | .FL_STATUS_SLOTS_FREE => row1 0x800000 8 9 .RO 0x100 62
  | .FL_STATUS_SCRUB_LEFT => row1 0x800000 32 19 .RO 0 62
  | .FL_ERR_CMD_AUTH => row1 0x800008 0 1 .W1C 0 62
  | .FL_ERR_CMD_SEQ => row1 0x800008 1 1 .W1C 0 62
  | .FL_ERR_FOREIGN_MOULD => row1 0x800008 2 1 .W1C 0 62
  | .FL_ERR_KYRDO_TIMEOUT => row1 0x800008 3 1 .W1C 0 62
  | .FL_STATS_CMD_OK => row1 0x800010 0 32 .RO 0 62
  | .FL_STATS_CMD_REFUSED => row1 0x800010 32 32 .RO 0 62
  | .FL_GROUPS => rowN 0x801000 0x40 64 0 64 .RO 0 62
  | .FL_BASE => rowN 0x801008 0x40 64 25 19 .RO 0 62
  | .FL_SIZE => rowN 0x801008 0x40 64 44 14 .RO 0 62
  | .FL_QFIRST => rowN 0x801010 0x40 64 0 12 .RO 0 62
  | .FL_QCOUNT => rowN 0x801010 0x40 64 12 13 .RO 0 62
  | .FL_TFIRST => rowN 0x801010 0x40 64 32 16 .RO 0 62
  | .FL_TCOUNT_M1 => rowN 0x801010 0x40 64 48 16 .RO 0 62
  | .FL_STATE => rowN 0x801018 0x40 64 0 3 .RO 0 62
  | .FL_GEN => rowN 0x801018 0x40 64 4 10 .RO 0 62
  | .FL_AUTO_RESET => rowN 0x801018 0x40 64 14 1 .RW 0 62
  | .FL_LOCKED => rowN 0x801018 0x40 64 15 1 .RO 0 60
  | .FL_DEBUG => rowN 0x801018 0x40 64 16 1 .RO 1 60
  | .FL_PROFILE => rowN 0x801018 0x40 64 17 1 .RO 1 60
  | .FL_CMD_SLOT => rowN 0x801018 0x40 64 24 8 .RO 0 60
  | .FL_EGRESS_SLOT => rowN 0x801018 0x40 64 32 8 .RO 0 60
  | .FL_EGRESS_VALID => rowN 0x801018 0x40 64 40 1 .RO 0 60
  | .FL_RESETS => rowN 0x801018 0x40 64 48 16 .RO 0 62
  | .FL_CAUSE_EXCEPTION => rowN 0x801020 0x40 64 0 1 .W1C 0 60
  | .FL_CAUSE_STALL_RESET => rowN 0x801020 0x40 64 1 1 .W1C 0 62
  | .FL_CAUSE_DEADLOCK => rowN 0x801020 0x40 64 2 1 .W1C 0 60
  | .FL_CAUSE_HOT_SHEET => rowN 0x801020 0x40 64 3 1 .W1C 0 60
  | .FL_CAUSE_ELOG_FULL => rowN 0x801020 0x40 64 4 1 .W1C 0 60
  | .FL_CAUSE_FOREIGN_MOULD => rowN 0x801020 0x40 64 5 1 .W1C 0 62
  | .FL_CAUSE_DONE => rowN 0x801020 0x40 64 6 1 .W1C 0 62
  | .FL_CAUSE_SEALED_OK => rowN 0x801020 0x40 64 7 1 .W1C 0 60
  | .FL_EXC_ENGINE => rowN 0x801028 0x40 64 0 9 .RO 0 62
  | .FL_EXC_QUEUE => rowN 0x801028 0x40 64 9 12 .RO 0 62
  | .FL_EXC_QGEN => rowN 0x801028 0x40 64 21 8 .RO 0 62
  | .FL_LABEL => rowN 0x801030 0x40 64 0 64 .RWS 0 62
  | .FL_TEAR_KILLED => rowN 0x801038 0x40 64 0 10 .RO 0 62
  | .FL_TEAR_SLAGGED => rowN 0x801038 0x40 64 16 16 .RO 0 62
  | .FL_TEAR_DROPPED => rowN 0x801038 0x40 64 32 16 .RO 0 62
  | .FL_TEAR_PEER_LOST => rowN 0x801038 0x40 64 48 16 .RO 0 62
  | .KEY_SLOT_VALID => rowN 0x802000 8 256 0 1 .RO 0 60
  | .KEY_SLOT_USE => rowN 0x802000 8 256 1 2 .RO 0 60
  | .KEY_SLOT_FLASK => rowN 0x802000 8 256 3 6 .RO 0 60
  | .KEY_SLOT_FLASK_GEN => rowN 0x802000 8 256 9 10 .RO 0 60
  | .SEAL_GRAN_SEAL => { base := 0x804000, stride := 8, count := 12288, perReg := 16, bitStep := 4, cols := 0, colLimit := 0, lo := 0, width := 2, access := .RO, reset := 0, kept := 62 }
  | .SEAL_GRAN_DIRTY => { base := 0x804000, stride := 8, count := 12288, perReg := 16, bitStep := 4, cols := 0, colLimit := 0, lo := 2, width := 1, access := .RO, reset := 1, kept := 62 }
  | .FL_PUBVA_PASID => rowN 0x808000 0x10 1024 0 20 .RO 0 60
  | .FL_PUBVA_VALID => rowN 0x808000 0x10 1024 63 1 .RO 0 60
  | .FL_PUBVA_SIZE => rowN 0x808008 0x10 1024 0 25 .RO 0 60
  | .FL_PUBVA_BASE => rowN 0x808008 0x10 1024 25 32 .RO 0 60
  | .EN_CTL_LINGER => row1 0x900000 0 16 .RW 0x3e8 62
  | .EN_CTL_BATCH => row1 0x900000 16 16 .RW 0x1f4 62
  | .EN_STATUS_OPEN => row1 0x900008 0 13 .RO 0 62
  | .EN_STATUS_UNSIGNED => row1 0x900008 16 13 .RO 0 62
  | .EN_STATUS_K => row1 0x900008 32 32 .RO 0 62
  | .EN_ERR_RAIL_MISSING => row1 0x900010 0 1 .W1C 0 62
  | .EN_ERR_CLAMPED => row1 0x900010 1 1 .W1C 0 62
  | .EN_ERR_NO_ACC => row1 0x900010 2 1 .W1C 0 62
  | .EN_ERR_RING_FULL => row1 0x900010 3 1 .W1C 0 62
  | .EN_ERR_KYRDO_TIMEOUT => row1 0x900010 4 1 .W1C 0 62
  | .EN_ERR_ENG_MISSING => row1 0x900010 5 1 .W1C 0 62
  | .EN_STATIC_EST => row1 0x900018 0 32 .RO 0 62
  | .EN_RING_BASE_BASE => row1 0x900020 13 31 .RW 0 62
  | .EN_RING_BASE_SIZE => row1 0x900020 48 12 .RW 0 62
  | .EN_RING_PTRS_WR_IDX => row1 0x900028 0 13 .RO 0 62
  | .EN_RING_PTRS_RD_IDX => row1 0x900028 32 13 .RW 0 62
  | .EN_PKG_TOTAL => row1 0x900030 0 32 .RO 0 62
  | .EN_PKG_OVERHEAD => row1 0x900030 32 32 .RO 0 62
  | .EN_COEF_COEF => rowN 0x900100 8 16 0 32 .RO 0 62
  | .EN_FLASK_METERED => rowN 0x901000 0x10 64 0 32 .RO 0 62
  | .EN_FLASK_IDLE => rowN 0x901000 0x10 64 32 32 .RO 0 62
  | .EN_FLASK_OVERHEAD => rowN 0x901008 0x10 64 0 32 .RO 0 62
  | .EN_FLASK_UNMETERED => rowN 0x901008 0x10 64 32 32 .RO 0 62
  | .QN_PHASE => rowN 0x80c000 0x10 64 0 3 .RO 0 60
  | .QN_LAST => rowN 0x80c000 0x10 64 4 4 .RO 0 60
  | .QN_REMAINING => rowN 0x80c000 0x10 64 8 24 .RO 0 60
  | .QN_IMG_LEN => rowN 0x80c000 0x10 64 32 32 .RO 0 60
  | .QN_QP => rowN 0x80c008 0x10 64 0 64 .RO 0 60
  | .MIG_STAGE_BASE => row1 0x80d000 25 19 .RW 0 62
  | .MIG_STAGE_SIZE => row1 0x80d000 44 14 .RW 0 62
  | .MB_CMD_OPCODE => rowN 0xa01000 0x400 16 0 16 .RW 0 62
  | .MB_CMD_PLEN => rowN 0xa01000 0x400 16 16 7 .RW 0 62
  | .MB_CMD_NOTIFY => rowN 0xa01000 0x400 16 23 1 .RW 0 62
  | .MB_CMD_TAG => rowN 0xa01000 0x400 16 32 32 .RW 0 62
  | .MB_P => { base := 0xa01010, stride := 8, count := 2048, perReg := 1, bitStep := 0, cols := 128, colLimit := 94, lo := 0, width := 64, access := .RW, reset := 0, kept := 62 }
  | .MB_RPL_STATUS => rowN 0xa01300 0x400 16 0 16 .RO 0 62
  | .MB_RPL_OPCODE => rowN 0xa01300 0x400 16 16 16 .RO 0 62
  | .MB_RPL_TAG => rowN 0xa01300 0x400 16 32 32 .RO 0 62
  | .MB_RPL_RLEN => rowN 0xa01308 0x400 16 0 5 .RO 0 62
  | .MB_RPL_RESUMED => rowN 0xa01308 0x400 16 5 1 .RO 0 62
  | .MB_OUT => { base := 0xa01310, stride := 8, count := 2048, perReg := 1, bitStep := 0, cols := 128, colLimit := 30, lo := 0, width := 64, access := .RO, reset := 0, kept := 62 }
  | .MB_SUBMIT_SLOT => row1 0xa00000 0 4 .WO 0 0
  | .MB_STATE_STATE => row1 0xa00008 0 32 .RO 0 62
  | .MB_ERR_DONE => row1 0xa00010 0 1 .W1C 0 62
  | .MB_ERR_BAD_SUBMIT => row1 0xa00010 1 1 .W1C 0 62
  | .MB_ERR_WATCHDOG => row1 0xa00010 2 1 .W1C 0 62
  | .MB_FW_VERSION => row1 0xa00018 0 16 .RO 0 62
  | .MB_FW_MGMT_STAGED => row1 0xa00018 16 1 .RO 0 62
  | .MB_FW_UCODE_STAGED => row1 0xa00018 17 1 .RO 0 62
  | .MB_FW_CORE0_UP => row1 0xa00018 18 1 .RO 1 62
  | .MB_FW_CORE1_UP => row1 0xa00018 19 1 .RO 1 62
  | .MB_FW_WDOG => row1 0xa00018 32 16 .RO 0 62
  | .MB_MSTORE_BASE => row1 0xa00020 12 32 .RW 0 62
  | .MB_MSTORE_SIZE => row1 0xa00020 48 12 .RW 0 62
  | .RAS_STATUS_PHASE => row1 0xb00000 0 3 .RO 0 0
  | .RAS_STATUS_ROUTE_FAIL => row1 0xb00000 8 1 .RO 0 62
  | .RAS_STATUS_MGMT_FAIL => row1 0xb00000 9 1 .RO 0 62
  | .RAS_STATUS_LAST_RESET => row1 0xb00000 16 2 .RO 0 62
  | .RAS_ERR_BLOCK_FAULT => row1 0xb00008 0 1 .W1C 0 62
  | .RAS_ERR_SRAM_UE => row1 0xb00008 1 1 .W1C 0 62
  | .RAS_ERR_LOCKSTEP => row1 0xb00008 2 1 .W1C 0 62
  | .RAS_ERR_HBM_UE => row1 0xb00008 3 1 .W1C 0 62
  | .RAS_ERR_REC_FULL => row1 0xb00008 4 1 .W1C 0 62
  | .RAS_ERR_COMPL_WRITE => row1 0xb00008 5 1 .W1C 0 62
  | .RAS_ERR_RESET_WRITE => row1 0xb00008 6 1 .W1C 0 62
  | .RAS_ERR_SELFTEST => row1 0xb00008 7 1 .W1C 0 62
  | .RAS_ERR_DROWSE_REFUSED => row1 0xb00008 8 1 .W1C 0 62
  | .RAS_CE_SRAM => row1 0xb00010 0 32 .RO 0 62
  | .RAS_CE_ZCI_REPLAY => row1 0xb00010 32 32 .RO 0 62
  | .STALE_DROP_QUEUE => row1 0xb00018 0 16 .RO 0 62
  | .STALE_DROP_FLASK => row1 0xb00018 16 16 .RO 0 62
  | .STALE_DROP_MOULD => row1 0xb00018 32 16 .RO 0 62
  | .STALE_DROP_NODE => row1 0xb00018 48 16 .RO 0 62
  | .STALE_LAST_KIND => row1 0xb00020 0 2 .RO 0 62
  | .STALE_LAST_ID => row1 0xb00020 2 20 .RO 0 62
  | .STALE_LAST_GEN_SEEN => row1 0xb00020 22 12 .RO 0 62
  | .STALE_LAST_GEN_NOW => row1 0xb00020 34 12 .RO 0 62
  | .POISON_RD => row1 0xb00028 0 32 .RO 0 62
  | .POISON_WR => row1 0xb00028 32 32 .RO 0 62
  | .RAS_COUNT_RESET_WRITES => row1 0xb00030 0 16 .RO 0 62
  | .RAS_COUNT_REC_LOST => row1 0xb00030 16 16 .RO 0 62
  | .RAS_COUNT_DROWSE_REFUSED => row1 0xb00030 32 16 .RO 0 62
  | .RAS_SELFTEST_PAIRS => row1 0xb00038 0 16 .RO 0 62
  | .RAS_SELFTEST_LANES => row1 0xb00038 16 16 .RO 0 62
  | .RAS_SELFTEST_CASTERS => row1 0xb00038 32 32 .RO 0 62
  | .RAS_REC_BASE_BASE => row1 0xb00040 12 32 .RW 0 63
  | .RAS_REC_BASE_SIZE => row1 0xb00040 48 8 .RW 0 63
  | .RAS_REC_PTRS_WR_IDX => row1 0xb00048 0 15 .RO 0 63
  | .RAS_REC_PTRS_RD_IDX => row1 0xb00048 32 15 .RW 0 63
  | .PWR_CTL_IDLE_EN => row1 0xb00100 0 1 .RW 1 62
  | .PWR_CTL_IDLE_US => row1 0xb00100 8 16 .RW 0x64 62
  | .PWR_CTL_WAKE_WINDOW => row1 0xb00100 24 1 .RW 1 62
  | .PWR_CTL_WAKE_DOORBELL => row1 0xb00100 25 1 .RW 1 62
  | .PWR_CTL_WAKE_PEER => row1 0xb00100 26 1 .RW 0 62
  | .PWR_STATUS_STATE => row1 0xb00108 0 2 .RO 0 0
  | .PWR_STATUS_ENTERING => row1 0xb00108 2 1 .RO 0 0
  | .PWR_STATUS_EXITING => row1 0xb00108 3 1 .RO 0 0
  | .PWR_STATUS_WAKE_CAUSE => row1 0xb00108 4 4 .RO 0 30
  | .PWR_STATUS_GATED => row1 0xb00108 8 7 .RO 0 0
  | .PWR_GATED_GROUPS => row1 0xb00110 0 64 .RO 0 0
  | .ID_VENDOR => row1 0 0 16 .RO 0x1f7e 0
  | .ID_DEVICE => row1 0 16 16 .RO 0xc20 0
  | .ID_REVISION => row1 0 32 8 .RO 0xb0 0
  | .ID_ENGINE_REV => row1 0 48 16 .RO 0 0
  | .CAP_QUEUES => row1 8 0 13 .RO 0x1000 0
  | .CAP_RT_QUEUES => row1 8 13 7 .RO 0x40 0
  | .CAP_SEQUENCERS => row1 8 20 5 .RO 0x10 0
  | .CAP_ENGINES => row1 8 25 10 .RO 0x200 0
  | .CAP_GROUPS => row1 8 35 7 .RO 0x40 0
  | .CAP_FLASKS => row1 8 42 7 .RO 0x40 0
  | .CAP_KEY_SLOTS => row1 8 49 9 .RO 0x100 0
  | .CAP2_TIMELINES => row1 0x10 0 17 .RO 0x10000 0
  | .CAP2_EVENT_SOURCES => row1 0x10 17 15 .RO 0x4000 0
  | .CAP2_EVENT_TARGETS => row1 0x10 32 10 .RO 0x200 0
  | .CAP2_CASTERS => row1 0x10 42 6 .RO 0x20 0
  | .CAP2_AES_LANES => row1 0x10 48 5 .RO 0x10 0
  | .CAP2_SHEET_32M => row1 0x10 53 1 .RO 1 0
  | .CAP2_SHEET_1G => row1 0x10 54 1 .RO 1 0
  | .CAP2_SHEET_64G => row1 0x10 55 1 .RO 1 0
  | .CAP2_ROUTE_K => row1 0x10 56 4 .RO 8 0
  | .DEVID_LO => row1 0x18 0 64 .RO 0 0
  | .DEVID_HI => row1 0x20 0 64 .RO 0 0
  | .TIMEBASE => row1 0x28 0 64 .RO 0 0
  | .TL_COUNTER => rowN 0x1000000 8 65536 0 64 .RW 0 60
  | .TL_VALUE => row1 0x30 0 64 .RW 0 62
  | .TL_OP_TIMELINE => row1 0x38 0 16 .WO 0 0
  | .TL_OP_MODE => row1 0x38 16 2 .WO 0 0
  | .TL_STATS_UNOWNED => row1 0x40 0 32 .RO 0 62
  | .TL_STATS_BAD_OP => row1 0x40 32 16 .RO 0 62

/-- Part 0 of the list of all fields. -/
def Field.all0 : List Field := [
  .CFG_VENDOR, .CFG_DEVICE, .CFG_IOSE, .CFG_MSE, .CFG_BME, .CFG_CMD_OTHER, .CFG_STATUS, .CFG_REVISION, .CFG_CLASS,
  .CFG_CLS, .CFG_LATENCY, .CFG_BAR0_TYPE, .CFG_BAR0_SIZE, .CFG_BAR0_LO, .CFG_BAR0_HI, .CFG_BAR1_TYPE, .CFG_BAR1_SIZE,
  .CFG_BAR1_LO, .CFG_BAR1_HI, .CFG_SUBVENDOR, .CFG_SUBSYS, .CFG_ROM, .CFG_CAPPTR, .CFG_INTLINE, .CFG_INTPIN,
  .WIN_HBASE, .WIN_DBASE, .WIN_EN, .WIN_RD, .WIN_WR, .WIN_COHERENT, .WIN_OWNED, .WIN_FLASK, .WIN_FLASK_GEN,
  .WIN_SIZE, .WIN_CFG_ERR, .HLP_CTL_HB_PERIOD, .HLP_CTL_HB_MISS, .HLP_STATUS_LINK_UP, .HLP_STATUS_HEADLESS,
  .HLP_STATUS_DETACHING, .HLP_STATUS_ATTACHED, .HLP_STATUS_CAUSE, .HLP_STATUS_EPOCH, .HLP_HB_HB_VALUE,
  .HLP_ATTACH_ATTACH, .HLP_ATTACH_DETACH, .HLP_ATTACH_EPOCH, .HLP_HOLD_BASE_BASE, .HLP_HOLD_BASE_SIZE,
  .HLP_HOLD_PTRS_WR_IDX, .HLP_HOLD_PTRS_RD_IDX, .HLP_ERR_UNSUP, .HLP_ERR_BAD_REG, .HLP_ERR_BAD_DB,
  .HLP_ERR_NO_WINDOW, .HLP_ERR_RIGHTS, .HLP_ERR_SEALED, .HLP_ERR_WIN_CFG, .HLP_ERR_ATTACH_EPOCH]
/-- Part 1 of the list of all fields. -/
def Field.all1 : List Field := [
  .HLP_ERR_LOST_LINES, .HLP_ERR_HOLD_FULL, .HLP_DROP_COUNT_HEADLESS_DROPS, .HLP_DROP_COUNT_LOST_LINES,
  .HLP_DROP_COUNT_LOST_WRITES, .HLP_DROP_COUNT_SEALED_REFUSALS, .HLP_CREDIT_NP_GRANTED, .HLP_CREDIT_P_GRANTED,
  .HLP_CREDIT_EVT_GRANTED, .QCTX_LOC, .QCTX_BASE, .QCTX_CLOC, .QCTX_CBASE, .QCTX_RING_LOG2, .QCTX_LEVEL,
  .QCTX_WEIGHT, .QCTX_MAX_INFLIGHT, .QCTX_RT, .QCTX_FLASK, .QCTX_FLASK_GEN, .QCTX_PASID, .QCTX_RT_GROUPS,
  .QCTX_STATE, .QCTX_GEN, .QCTX_ERR_CODE, .QCTX_DB_MISMATCH, .QCTX_ERR_IDX, .QCTX_HEAD, .QCTX_TAIL, .QCTX_NEXT,
  .QCTX_POURS, .QCTX_ENGINES, .QCTX_REREADS, .QCTX_ADMITTED, .QM_CTL_ADMIT_EN, .QM_CTL_TOKEN_DEPTH,
  .QM_STATUS_RT_QUEUES, .QM_STATUS_SEQ_RESERVED, .QM_STATUS_TOKENS, .QM_STATUS_ACTIVE, .QM_DB_IGNORED_MALFORMED,
  .QM_DB_IGNORED_INACTIVE, .QM_DB_IGNORED_BEHIND, .QM_DB_IGNORED_MISMATCH, .QM_RACE_REREADS, .QM_RACE_STALE,
  .QM_FLASK_W_WEIGHT, .MC_CTL_EN, .MC_CTL_PREFETCH_EN, .MC_STATUS_VALID, .MC_STATUS_PINNED, .MC_STATUS_LOADED,
  .MC_STATS_HITS, .MC_STATS_MISSES, .MC_HTAB_BASE, .MC_HTAB_EN, .MC_LOAD_ERR_CODE, .MC_LOAD_ERR_INDEX,
  .MC_LOAD_ERR_FLASK, .MC_GATE_CLAMP_COUNT]
/-- Part 2 of the list of all fields. -/
def Field.all2 : List Field := [
  .MC_GATE_CLAMP_QUEUE, .MC_GATE_CLAMP_GATE, .MC_STORE_BASE, .MC_STORE_SIZE, .SEQ_CTL_DL_CHECK_EN,
  .SEQ_CTL_PRELOAD_EN, .SEQ_STATUS_PAIR_OK, .SEQ_STATUS_POUR_CTX, .SEQ_STATUS_SPAWN_CTX, .SEQ_ERR_SPAWN_REFUSED,
  .SEQ_ERR_RT_GROUPS, .SEQ_ERR_LEND_OVERRUN, .SEQ_ERR_DEADLOCK, .SEQ_SPAWN_REFUSED, .SEQ_SPAWN_WAITED,
  .SEQ_FLASK_WP_LOG2, .SEQ_DEADLOCK_COUNT, .SEQ_DEADLOCK_Q0, .SEQ_DEADLOCK_Q1, .SEQ_DEADLOCK_Q2, .SEQ_DEADLOCK_Q3,
  .LANE_WP_VALUE, .LANE_WP_STALLED, .LANE_WP_MOVED_AT, .LANE_STATE_DEPTH, .LANE_STATE_SHADOW, .LANE_STATE_RUNNING,
  .LANE_STATE_BORROWED, .LANE_STATE_QUEUE, .LANE_STATE_QGEN, .SEQ_CTX_STATE, .SEQ_CTX_QUEUE, .SEQ_CTX_QGEN,
  .SEQ_CTX_DEPTH, .SEQ_CTX_RECORD, .SEQ_CTX_TIMELINE, .SEQ_CTX_KERNELS, .SEQ_CTX_SPAWNED, .RT_CTL_PUSH_EN,
  .RT_STATUS_HELD, .RT_STATUS_OUT_OF_SERVICE, .RT_STATUS_BUF_KIB, .RT_ERR_BAD_TABLE, .RT_ERR_TOKENS, .RT_ERR_POISON,
  .RT_ERR_RESIDUE, .RT_STATS_OPS, .RT_STATS_PUSH_REFUSED, .RT_CAP_DROPPED, .RT_CAP_SPILLED, .RT_LAST_QUEUE,
  .RT_LAST_QGEN, .RT_LAST_RECORD, .RT_LAST_CAUSE, .XL_CTL_WC_EN, .XL_STATUS_SURVEYORS, .XL_STATUS_WAITING,
  .XL_STATUS_PINNED, .XL_INV_STATUS_HOST_OPEN, .XL_INV_STATUS_CMD_OPEN]
/-- Part 3 of the list of all fields. -/
def Field.all3 : List Field := [
  .XL_INV_STATUS_PHYS_WAIT, .XL_INV_STATUS_DONE, .XL_ERR_PURGE_TIMEOUT, .XL_ERR_WALK_ERR, .XL_ERR_INV_OVERRUN,
  .XL_ERR_FRING_FULL, .XL_ERR_BAD_ATLAS, .XL_STATS_HITS, .XL_STATS_WALKS, .XL_FAULTS_RECORDED, .XL_FAULTS_UNRECORDED,
  .XL_FLASK_STALL, .XL_FLASK_HELD, .XL_FLASK_NEXT_ID, .XL_FRING_BASE_BASE, .XL_FRING_BASE_SIZE,
  .XL_FRING_PTRS_WR_IDX, .XL_FRING_PTRS_RD_IDX, .XL_ATLAS_PASID, .XL_ATLAS_FLASK, .XL_ATLAS_FLASK_GEN,
  .XL_ATLAS_VALID, .XL_ATLAS_ROOT, .TIER_CTL_HOT_EN, .TIER_CTL_DECAY_LOG2, .TIER_CTL_THRESH, .TIER_POOL_BASE,
  .TIER_POOL_N1G, .TIER_POOL_N32, .TIER_POOL_STATUS_USED1G, .TIER_POOL_STATUS_USED32, .TIER_POOL_STATUS_ORPHANS,
  .TIER_STATS_EVICTED, .TIER_STATS_DISCARDED, .TIER_STATS_ORPHAN_DROPS, .TIER_MIG_LAST, .TIER_MIG_DONE,
  .TIER_MIG_FAILED, .TIER_HRING_BASE_BASE, .TIER_HRING_BASE_SIZE, .TIER_HRING_PTRS_WR_IDX, .TIER_HRING_PTRS_RD_IDX,
  .TIER_HRING_PTRS_LOST, .TIER_HOT_VALID, .TIER_HOT_FLAGGED, .TIER_HOT_SIZE, .TIER_HOT_SLOT, .TIER_HOT_VA,
  .TIER_HOT_COUNT, .TIER_HOT_LOCAL, .HAP_CTL_SHARE_LIMIT, .HAP_CTL_PEER_SHARE_LIMIT, .HAP_STATUS_HOST_TAGS,
  .HAP_STATUS_PEER_TAGS, .HAP_STATUS_WR_ENTRIES, .HAP_STATUS_BM_STALL, .HAP_STATUS_ACK_WAIT, .HAP_ERR_BAD_REQ,
  .HAP_ERR_RD_POISON, .HAP_ERR_WR_ERR]
/-- Part 4 of the list of all fields. -/
def Field.all4 : List Field := [
  .HAP_ERR_ATOMIC_ERR, .HAP_ERR_BLOCK_DISCARD, .HAP_ERR_HOST_DROP, .HAP_DROP_FLASK_DROPS, .HAP_DROP_HOST_DROPS,
  .HAP_DROP_BLOCK_DISCARDS, .HAP_DROP_WR_ERRORS, .HAP_STATS_READS, .HAP_STATS_WRITES, .CAST_CTL_CASTER_EN,
  .CAST_STATUS_JOBS, .CAST_STATUS_BUSY, .CAST_STATUS_OUT_OF_SERVICE, .CAST_ERR_BAD_DESC, .CAST_ERR_AUTH_FAIL,
  .CAST_ERR_EGRESS_CRC, .CAST_ERR_SPARSITY, .CAST_ERR_RESIDUE, .CAST_ERR_KEY_REVOKED, .CAST_ERR_SEAL_PARTIAL,
  .CAST_ERR_ELOG_FULL, .CAST_STATS_ITEMS, .CAST_STATS_SLAGGED, .CAST_SEAL_STATS_BLOCKS, .CAST_SEAL_STATS_AUTH_FAILS,
  .CAST_ELOG_BASE_BASE, .CAST_ELOG_BASE_SIZE, .CAST_ELOG_PTRS_WR_IDX, .CAST_ELOG_PTRS_RD_IDX, .PEER_CTL_NODE_ID,
  .PEER_CTL_EN, .PEER_CTL_NODE_LIMIT, .PEER_STATUS_LANES_UP, .PEER_STATUS_ATTACHED, .PEER_STATUS_OUTSTANDING,
  .PEER_STATUS_INBOUND, .PEER_ERR_INBOUND_DENIED, .PEER_ERR_BUSY_SENT, .PEER_ERR_SIG_REFUSED, .PEER_ERR_NODE_TIMEOUT,
  .PEER_ERR_NODE_LOST, .PEER_ERR_BIND_CFG, .PEER_ERR_ATTACH_FAIL, .PEER_STATS_RETRIES, .PEER_STATS_DENIED,
  .PEER_LOSS_LOST_WRITES, .PEER_LOSS_LOST_READS, .PEER_LOSS_LOST_SIGNALS, .PEER_BIND_NODE_LO, .PEER_BIND_NODE_HI,
  .PEER_BIND_SRC_FLASK, .PEER_BIND_FLASK, .PEER_BIND_FLASK_GEN, .PEER_BIND_RD, .PEER_BIND_WR, .PEER_BIND_AT,
  .PEER_BIND_SIG, .PEER_BIND_DB, .PEER_BIND_EN, .PEER_BIND_BASE]
/-- Part 5 of the list of all fields. -/
def Field.all5 : List Field := [
  .PEER_BIND_SIZE, .PEER_BIND_CFG_ERR, .PEER_NODE_STATE, .PEER_NODE_GEN, .PEER_NODE_OUT, .PEER_NODE_CAUSE,
  .EV_CTL_DELIVER_EN, .EV_STATUS_PENDING, .EV_STATUS_ACTIVE, .EV_STATUS_HELD, .EV_STATUS_WAIT_CREDIT, .EV_ERR_DENIED,
  .EV_ERR_BAD_STORE, .EV_ERR_BAD_COMPL, .EV_STATS_MERGED, .EV_STATS_DENIED, .EV_STATS_BAD_COMPL, .EV_MCOMPL_VALUE,
  .EV_GROUP_MEMBERS, .EV_TGT_EN, .EV_TGT_KIND, .EV_TGT_DEST, .EV_THRESH_THRESH, .EV_THRESH_INSVC, .EV_THRESH_RPRI,
  .EV_SRC_PRIO, .EV_SRC_MASK, .EV_SRC_KIND, .EV_SRC_PENDING, .EV_SRC_ACTIVE, .EV_SRC_GROUP, .EV_SRC_OWNED,
  .EV_SRC_FLASK, .EV_SRC_FLASK_GEN, .EV_SRC_TARGET, .EV_SRC_DPRIO, .EV_SRC_DELIV, .EV_DB_SOURCE, .FL_STATUS_FLASKS,
  .FL_STATUS_SCRUBBING, .FL_STATUS_SLOTS_FREE, .FL_STATUS_SCRUB_LEFT, .FL_ERR_CMD_AUTH, .FL_ERR_CMD_SEQ,
  .FL_ERR_FOREIGN_MOULD, .FL_ERR_KYRDO_TIMEOUT, .FL_STATS_CMD_OK, .FL_STATS_CMD_REFUSED, .FL_GROUPS, .FL_BASE,
  .FL_SIZE, .FL_QFIRST, .FL_QCOUNT, .FL_TFIRST, .FL_TCOUNT_M1, .FL_STATE, .FL_GEN, .FL_AUTO_RESET, .FL_LOCKED,
  .FL_DEBUG]
/-- Part 6 of the list of all fields. -/
def Field.all6 : List Field := [
  .FL_PROFILE, .FL_CMD_SLOT, .FL_EGRESS_SLOT, .FL_EGRESS_VALID, .FL_RESETS, .FL_CAUSE_EXCEPTION,
  .FL_CAUSE_STALL_RESET, .FL_CAUSE_DEADLOCK, .FL_CAUSE_HOT_SHEET, .FL_CAUSE_ELOG_FULL, .FL_CAUSE_FOREIGN_MOULD,
  .FL_CAUSE_DONE, .FL_CAUSE_SEALED_OK, .FL_EXC_ENGINE, .FL_EXC_QUEUE, .FL_EXC_QGEN, .FL_LABEL, .FL_TEAR_KILLED,
  .FL_TEAR_SLAGGED, .FL_TEAR_DROPPED, .FL_TEAR_PEER_LOST, .KEY_SLOT_VALID, .KEY_SLOT_USE, .KEY_SLOT_FLASK,
  .KEY_SLOT_FLASK_GEN, .SEAL_GRAN_SEAL, .SEAL_GRAN_DIRTY, .FL_PUBVA_PASID, .FL_PUBVA_VALID, .FL_PUBVA_SIZE,
  .FL_PUBVA_BASE, .EN_CTL_LINGER, .EN_CTL_BATCH, .EN_STATUS_OPEN, .EN_STATUS_UNSIGNED, .EN_STATUS_K,
  .EN_ERR_RAIL_MISSING, .EN_ERR_CLAMPED, .EN_ERR_NO_ACC, .EN_ERR_RING_FULL, .EN_ERR_KYRDO_TIMEOUT,
  .EN_ERR_ENG_MISSING, .EN_STATIC_EST, .EN_RING_BASE_BASE, .EN_RING_BASE_SIZE, .EN_RING_PTRS_WR_IDX,
  .EN_RING_PTRS_RD_IDX, .EN_PKG_TOTAL, .EN_PKG_OVERHEAD, .EN_COEF_COEF, .EN_FLASK_METERED, .EN_FLASK_IDLE,
  .EN_FLASK_OVERHEAD, .EN_FLASK_UNMETERED, .QN_PHASE, .QN_LAST, .QN_REMAINING, .QN_IMG_LEN, .QN_QP, .MIG_STAGE_BASE]
/-- Part 7 of the list of all fields. -/
def Field.all7 : List Field := [
  .MIG_STAGE_SIZE, .MB_CMD_OPCODE, .MB_CMD_PLEN, .MB_CMD_NOTIFY, .MB_CMD_TAG, .MB_P, .MB_RPL_STATUS, .MB_RPL_OPCODE,
  .MB_RPL_TAG, .MB_RPL_RLEN, .MB_RPL_RESUMED, .MB_OUT, .MB_SUBMIT_SLOT, .MB_STATE_STATE, .MB_ERR_DONE,
  .MB_ERR_BAD_SUBMIT, .MB_ERR_WATCHDOG, .MB_FW_VERSION, .MB_FW_MGMT_STAGED, .MB_FW_UCODE_STAGED, .MB_FW_CORE0_UP,
  .MB_FW_CORE1_UP, .MB_FW_WDOG, .MB_MSTORE_BASE, .MB_MSTORE_SIZE, .RAS_STATUS_PHASE, .RAS_STATUS_ROUTE_FAIL,
  .RAS_STATUS_MGMT_FAIL, .RAS_STATUS_LAST_RESET, .RAS_ERR_BLOCK_FAULT, .RAS_ERR_SRAM_UE, .RAS_ERR_LOCKSTEP,
  .RAS_ERR_HBM_UE, .RAS_ERR_REC_FULL, .RAS_ERR_COMPL_WRITE, .RAS_ERR_RESET_WRITE, .RAS_ERR_SELFTEST,
  .RAS_ERR_DROWSE_REFUSED, .RAS_CE_SRAM, .RAS_CE_ZCI_REPLAY, .STALE_DROP_QUEUE, .STALE_DROP_FLASK, .STALE_DROP_MOULD,
  .STALE_DROP_NODE, .STALE_LAST_KIND, .STALE_LAST_ID, .STALE_LAST_GEN_SEEN, .STALE_LAST_GEN_NOW, .POISON_RD,
  .POISON_WR, .RAS_COUNT_RESET_WRITES, .RAS_COUNT_REC_LOST, .RAS_COUNT_DROWSE_REFUSED, .RAS_SELFTEST_PAIRS,
  .RAS_SELFTEST_LANES, .RAS_SELFTEST_CASTERS, .RAS_REC_BASE_BASE, .RAS_REC_BASE_SIZE, .RAS_REC_PTRS_WR_IDX,
  .RAS_REC_PTRS_RD_IDX]
/-- Part 8 of the list of all fields. -/
def Field.all8 : List Field := [
  .PWR_CTL_IDLE_EN, .PWR_CTL_IDLE_US, .PWR_CTL_WAKE_WINDOW, .PWR_CTL_WAKE_DOORBELL, .PWR_CTL_WAKE_PEER,
  .PWR_STATUS_STATE, .PWR_STATUS_ENTERING, .PWR_STATUS_EXITING, .PWR_STATUS_WAKE_CAUSE, .PWR_STATUS_GATED,
  .PWR_GATED_GROUPS, .ID_VENDOR, .ID_DEVICE, .ID_REVISION, .ID_ENGINE_REV, .CAP_QUEUES, .CAP_RT_QUEUES,
  .CAP_SEQUENCERS, .CAP_ENGINES, .CAP_GROUPS, .CAP_FLASKS, .CAP_KEY_SLOTS, .CAP2_TIMELINES, .CAP2_EVENT_SOURCES,
  .CAP2_EVENT_TARGETS, .CAP2_CASTERS, .CAP2_AES_LANES, .CAP2_SHEET_32M, .CAP2_SHEET_1G, .CAP2_SHEET_64G,
  .CAP2_ROUTE_K, .DEVID_LO, .DEVID_HI, .TIMEBASE, .TL_COUNTER, .TL_VALUE, .TL_OP_TIMELINE, .TL_OP_MODE,
  .TL_STATS_UNOWNED, .TL_STATS_BAD_OP]
/-- Every field. -/
def Field.all : List Field :=
  Field.all0 ++ Field.all1 ++ Field.all2 ++ Field.all3 ++ Field.all4 ++ Field.all5 ++ Field.all6 ++ Field.all7 ++ Field.all8

/-- The reset value of element i of a field: the Reset column, with the elements the tables single out: members 510 and
511 of event group 0, the event targets 510 and 511, and the level sources from 0x3F00 (R500). -/
def Field.resetAt (f : Field) (i : Nat) : Nat :=
  match f with
  | .EV_GROUP_MEMBERS => if i = 7 then 0xC000000000000000 else 0
  | .EV_TGT_EN => if i = 510 ∨ i = 511 then 1 else 0
  | .EV_TGT_KIND => if i = 510 ∨ i = 511 then 1 else 0
  | .EV_SRC_KIND => if 0x3F00 ≤ i then 1 else 0
  | f => f.row.reset

/-- The number of a field in the list, the low part of its key in the register store. -/
def Field.num (f : Field) : Nat := f.ctorIdx

/-- The key of element i of field f in the register store. -/
def Field.key (f : Field) (i : Nat) : Nat := i * 1024 + f.num

/-- Bits of the "Kept across" masks. -/
def keptBLOCK : Nat := 1
def keptLINK : Nat := 8
def keptDROWSE : Nat := 32

/-- Field f keeps its value across the reset kind or power state of the mask bit (R7). -/
def Field.keeps (f : Field) (bit : Nat) : Bool := f.row.kept &&& bit != 0

/-- The field whose number is n. -/
def Field.ofNum (n : Nat) : Option Field := Field.all[n]?

end Sys2Proof.Machine
end

