-- ==== Sys2Proof/Machine/Store.lean ====
section
/-! DEFINITION. Sparse stores in one canonical form: a list of (key, value) pairs with keys strictly rising and no
entry equal to what an unlisted key reads as. The register store and the HBM contents are both held this way. -/
namespace Sys2Proof.Machine

/-- What key k holds; an unlisted key holds d. -/
def sget {α : Type} (d : α) : List (Nat × α) → Nat → α
  | [], _ => d
  | (k', v) :: t, k => if k' = k then v else sget d t k

/-- The store with key k removed. -/
def sdel {α : Type} : List (Nat × α) → Nat → List (Nat × α)
  | [], _ => []
  | (k', v) :: t, k => if k' = k then sdel t k else (k', v) :: sdel t k

/-- The store with value v at key k. -/
def sput {α : Type} : List (Nat × α) → Nat → α → List (Nat × α)
  | [], k, v => [(k, v)]
  | (k', v') :: t, k, v =>
    if k' = k then (k, v) :: t else if k < k' then (k, v) :: (k', v') :: t else (k', v') :: sput t k v

/-- Writing v at key k; writing what an unlisted key reads as removes the entry. -/
def sset {α : Type} [DecidableEq α] (d : α) (l : List (Nat × α)) (k : Nat) (v : α) : List (Nat × α) :=
  if v = d then sdel l k else sput l k v

/-- The keys rise strictly. -/
def srising {α : Type} : List (Nat × α) → Bool
  | [] => true
  | [_] => true
  | (k, _) :: (k', v') :: t => decide (k < k') && srising ((k', v') :: t)

/-- The canonical form over a default that depends on the key. -/
def swf {α : Type} [DecidableEq α] (d : Nat → α) (l : List (Nat × α)) : Bool :=
  srising l && l.all (fun p => decide (p.2 ≠ d p.1))

end Sys2Proof.Machine
end

