-- ==== Sys2Proof/Machine/Types.lean ====
section
/-! DEFINITION. The data the units of the Celzaig keep beside their register fields: pours and their contexts, kernels
and lanes, moulds and cache segments, requests and their writes. Plain data; what each is for is said where a rule names
it. -/
namespace Sys2Proof.Machine

/-! ## Pours -/

/-- A pour ID (R56): queue, queue generation and 44-bit sequence number. -/
structure PourId where
  queue : Nat := 0
  qgen  : Nat := 0
  seq   : Nat := 0
  deriving DecidableEq, Repr

/-- The pour ID as the 64-bit number of R56. -/
def PourId.word (p : PourId) : Nat := p.queue * 2 ^ 52 + p.qgen * 2 ^ 44 + p.seq

/-- The states of CZ_SEQ_CTX (R166); a FREE context has no entry in the state. -/
inductive CtxState where
  | gates | run | waitTl | waitLane | waitWork | waitGate | waitFetch | waitSpawn | ending
  deriving DecidableEq, Repr

/-- Why a pour is being ended. -/
inductive EndKind where
  | error      -- a cause of R156
  | deadline   -- R159, R160
  | abort      -- QUEUE_DESTROY ABORT or POUR_CANCEL (R75, R72)
  | drain      -- QUEUE_DESTROY DRAIN (R74)
  deriving DecidableEq, Repr

/-- The cause of an ending pour: how it ends, and the STATUS and DETAIL of its record. -/
structure EndCause where
  kind   : EndKind
  status : Nat
  detail : Nat
  record : Nat := 0             -- the late KERNEL record of a missed deadline (R160)
  deriving DecidableEq, Repr

/-- One entry of the loop stack (R128). -/
structure LoopFrame where
  index : Nat
  trip : Nat
  iter : Nat
  deriving DecidableEq, Repr

/-- The completion write of a pour's STAMP. -/
inductive Stamp where
  | none
  | held            -- waits for the holding ring (R47)
  | written (id : Nat)
  | acked
  deriving DecidableEq, Repr

/-- The child a SPAWN record or a spawn request asks for. -/
structure SpawnWish where
  idx    : Nat
  gen    : Nat
  bank   : Nat
  pass   : List (Nat × Word)   -- gate and value
  engine : Option Nat          -- the asking engine of R149
  deriving DecidableEq, Repr

/-- A leaf as the sheet cache holds it (R210): the sheet's virtual base and size in bytes, its 56-bit physical base, its
rights and its effective seal attributes. -/
structure Leaf where
  slot   : Nat
  va     : Nat
  size   : Nat
  pa     : Nat
  tier   : Nat
  rd     : Bool
  wr     : Bool
  at_    : Bool
  exempt : Bool := false
  sealed : Bool := false
  pub    : Bool := false
  deriving DecidableEq, Repr

/-- One entry of a pour's pinned set (R216). -/
structure Pin where
  leaf   : Leaf
  stale  : Bool := false
  deriving DecidableEq, Repr

/-- What energy is charged to (R408, R410, R414). -/
inductive Charge where
  | none
  | acc (id : Nat)              -- an accumulator
  | unmetered (flask : Nat)
  | overhead (flask : Nat)
  | package
  deriving DecidableEq, Repr

/-- What a context holds for one pour (R128). -/
structure Ctx where
  num       : Nat
  st        : CtxState
  pour      : PourId
  slot      : Nat := 0
  ticket    : Nat := 0
  pasid     : Nat := 0
  flask     : Nat := 0            -- noFlask for a pour of MGMT_RUN
  fgen      : Nat := 0
  depth     : Nat := 0
  parent    : Option Nat := none
  root      : Nat
  rt        : Bool := false
  mgmt      : Bool := false       -- a pour of MGMT_RUN (R459)
  mould     : Nat := 0
  mgen      : Nat := 0
  bank      : Nat := 0
  gates     : List Word := []
  pass      : List (Nat × Word) := []
  pending   : Nat := 0            -- mask of the gates a ROUTE has marked (R92)
  pc        : Nat := 0
  loops     : List LoopFrame := []
  calls     : List Nat := []
  timeline  : Nat := 0
  value     : Nat := 0
  buf       : Option Nat := none  -- the segment in the pour's fill buffer (R122, R125)
  second    : Bool := false       -- the segment that the executing PUT's continuation records run on into has been asked for (R125)
  seen      : List Nat := []      -- segments whose records the walk has executed (R130)
  puts      : Nat := 0            -- PUT lines not yet acknowledged
  putAt     : Nat := 0            -- bytes of the executing PUT's payload accepted so far (R267)
  putId     : Nat := 0            -- tells its lines from those of another PUT
  patch     : Option Nat := none  -- request of the outstanding PATCH LOAD
  loaded    : Option Nat := none  -- what it has returned
  fence     : List Nat := []      -- controllers still to answer the FENCE's commit marker
  fencing   : Bool := false
  markAt    : Nat := 0            -- stores accepted before this identifier are before the markers
  want      : List Nat := []      -- engines a waiting KERNEL wants lanes of (R152)
  stamp     : Stamp := .none
  signals   : Nat := 0            -- remote signals after the STAMP still outstanding
  walkDone  : Bool := false
  cause     : Option EndCause := none
  grace     : Option Nat := none  -- when the engines of a late pour are killed (R160)
  stopped   : Bool := false       -- no further record is issued (R402)
  clamped   : Bool := false       -- the queue error source has been raised for it (R86, R104)
  refused   : Bool := false       -- and for a refused spawn (R146)
  pins      : List Pin := []
  pinAsk    : List (Bool × Nat) := []  -- addresses whose pinned entry is still to be made; true for code (R216)
  repin     : Bool := false       -- its next KERNEL waits until its stale pinned entries are translated again (R224)
  codeFault : List (Nat × Nat × Nat) := []  -- code regions whose translation faulted, with kind and level (R218)
  asked     : Bool := false       -- the executing record has handed over its request, or asked for its pin
  begun     : Bool := false       -- the record at pc has been fetched
  missed    : Bool := false       -- its segment was not in the cache
  groups    : Nat := 0            -- engine groups of a pour of MGMT_RUN
  passed    : List (Nat × Nat) := []   -- by gate, the kernel last issued whose ARG_MASK holds it (R169)
  spawn     : Option SpawnWish := none
  admitted  : Nat := 0            -- timebase at admission
  charge    : Charge := .none     -- where the energy of a root pour's tree goes (R408, R410)
  deriving DecidableEq, Repr

/-! ## Kernels and lanes -/

/-- A kernel issued by a KERNEL record (R135). -/
structure Kernel where
  id       : Nat
  ctx      : Nat
  index    : Nat
  pour     : PourId
  flask    : Nat
  rt       : Bool
  phys     : Bool
  serial   : Bool
  preload  : Bool               -- the record's PRELOAD
  noPre    : List Nat := []     -- engines whose lane record was written with PRELOAD 0 all the same (R140)
  code     : Nat
  grid     : Nat × Nat × Nat
  targets  : List Nat           -- engines by rank
  total    : Nat                -- E
  args     : List Word
  vaArgs   : List Bool          -- which of them are VA gates
  budget   : Nat
  deadline : Nat
  grace    : Nat
  sram     : Nat
  wpLog2   : Nat
  unwritten : List Nat := []    -- engines whose lane record is still to be written (R152)
  left     : List Nat           -- engines that have not reported its end
  reported : List Nat := []     -- engines whose score report has arrived (R169)
  started  : Option Nat := none
  lent     : List Nat := []     -- engines on which it is a borrower
  stopping : Bool := false
  overrun  : Bool := false      -- stopped under R153
  deriving DecidableEq, Repr

/-- What one engine's lane holds (R138, R140, R161). -/
structure Lane where
  eng     : Nat
  queue   : List Nat := []       -- kernel ids, head first
  shadow  : Option Nat := none
  running : Option Nat := none
  grants  : List Leaf := []      -- the pinned grants that the engine loaded for the kernel it runs, or ran last (R217)
  loadAt  : Nat := 0             -- and the identifier that was next as it loaded them
  since   : Nat := 0             -- timebase at the running kernel's start
  moved   : Nat := 0             -- timebase at the last advance
  stopReq : Bool := false
  killReq : Option Nat := none   -- timebase at which a stop timeout kills (R402)
  wish    : Option SpawnWish := none
  deriving DecidableEq, Repr

/-! ## Moulds -/

/-- A loaded mould, or one whose MOULD_LOAD is still filling its pinned segments. -/
structure Mould where
  idx     : Nat
  gen     : Nat
  flask   : Option Nat          -- none: a management mould (R459)
  fgen    : Nat := 0
  addr    : Nat                 -- HBM address of the copy
  len     : Nat
  records : Nat
  banks   : Nat
  gbase   : Nat
  tsize   : Nat
  digest  : List Byte
  pinned  : Bool
  loaded  : Bool
  slot    : Option Nat := none  -- the mailbox slot that loads it
  deriving DecidableEq, Repr

/-- A valid segment of the mould cache (R121); the list of segments is kept least recently used first. -/
structure Seg where
  idx    : Nat
  gen    : Nat
  seg    : Nat
  pinned : Bool
  deriving DecidableEq, Repr

/-- A segment fill under way. -/
structure Fill where
  idx     : Nat
  gen     : Nat
  seg     : Nat
  waiters : List Nat := []      -- contexts
  keep    : Bool := true        -- false: for the pour's fill buffer only (R125)
  pin     : Bool := false       -- for a MOULD_LOAD with PIN
  payer   : Option PourId := none   -- the root pour whose walk it serves (R412)
  deriving DecidableEq, Repr

/-! ## Requests and stores -/

/-- What a request was made for. -/
inductive Purpose where
  | plain                                  -- an engine's own access
  | put
  | patch (gate : Nat)
  | copy (job : Nat)
  | cast (job item : Nat)
  | route (op : Nat)
  | record (queue seq : Nat)               -- a completion record
  | event (src : Nat)                      -- a record whose source is raised on the acknowledgement
  | hot (flask : Nat)                      -- a hot record (R240)
  | signal
  | receipt (flask : Nat)                  -- a receipt block (R420)
  | log
  | hold                                   -- a record for the holding ring (R47)
  | errRec                                 -- an error record (R485)
  | elog (flask : Nat)                     -- a record of an egress log (R303)
  | inbound (node tag gen : Nat)           -- an inbound peer write, acknowledged when it is committed
  deriving DecidableEq, Repr

/-- What a request asks for. -/
inductive ReqKind where
  | read (len : Nat)
  | write (cells : List (Nat × Byte))
  | atomic (code size operand compare : Nat)
  | sig (op flask timeline value : Nat)
  | bye
  deriving DecidableEq, Repr

/-- One line read of a host read of several lines (R256). -/
structure Part where
  id   : Nat
  addr : Nat
  len  : Nat
  sent : Bool := false
  got  : Option (List Byte × Bool) := none
  deriving DecidableEq, Repr

/-- A request held or issued (R256). -/
structure Req where
  id      : Nat
  who     : Requester
  ctx     : Nat
  root    : Option PourId       -- the root pour a write is counted against (R264)
  flask   : Nat := 0
  fgen    : Nat := 0
  tier    : Nat                 -- 0 HBM, 1 host, 2 peer
  node    : Nat := 0
  addr    : Nat
  slot    : Nat := 1024         -- atlas slot and virtual address of the translation it was made under (R223)
  va      : Nat := 0
  sheet   : Nat × Nat := (0, 0) -- base and size of the sheet of that translation
  kind    : ReqKind
  purpose : Purpose := .plain
  issued  : Bool := false
  gen     : Nat := 0            -- attachment generation of a peer request
  tag     : Nat := 0            -- its peer tag, once sent
  ticket  : Nat := 0            -- ticket of the root pour
  sentAt  : Nat := 0
  busy    : Nat := 0            -- BUSY answers so far (R343)
  resend  : Option Nat := none  -- when it is sent again
  entry   : Nat := 0            -- the write entry it was accepted in
  put     : Nat := 0            -- the PUT whose line it is
  ord     : Nat := 0            -- its place in the order of acceptance (R262, R263)
  grant   : Nat := 0            -- the engine's grant that it was made under, as an identifier (R223)
  lead    : Bool := true        -- the line write that the hot-sheet counters count for its request (R238)
  parts   : List Part := []     -- the line reads of a host read of several lines
  fin     : Option (List Byte × Bool) := none  -- what a read or atomic has returned, with the slag marker
  bad     : List Nat := []      -- and the lines of it that carry the marker (R194)
  deriving DecidableEq, Repr

/-- A store an HBM controller has accepted and not yet committed (R308), in the order of acceptance. -/
structure BufStore where
  id      : Nat
  ctl     : Nat
  cells   : List (Nat × Byte)
  ctx     : Nat
  root    : Option PourId
  purpose : Purpose := .plain
  slot    : Nat := 1024         -- atlas slot, sheet and grant of the translation an engine made it under (R223)
  sheet   : Nat × Nat := (0, 0)
  grant   : Nat := 0
  deriving DecidableEq, Repr

/-! ## Peers (12) -/

/-- What the peer port keeps for a node beside its registers while it is attaching, attached or detaching, and the start
of its quarantine. -/
structure Node where
  num      : Nat
  oldGen   : Nat := 0           -- GEN before the attach under way
  helloAt  : Nat := 0           -- when HELLO was last sent
  since    : Nat := 0           -- when the attach was accepted, or when the quarantine began
  gotAck   : Bool := false      -- a HELLO_ACK has been received
  answered : Bool := false      -- a HELLO has been answered
  slots    : List Nat := []     -- mailbox commands that wait for its end
  closing  : Bool := false      -- this side issues no more
  bye      : Bool := false      -- this side's BYE is still to be answered
  byeTag   : Option Nat := none -- tag of the other side's BYE, still to be answered
  deriving DecidableEq, Repr

/-- An engine's fence request that has not been answered (R312). -/
structure EngFence where
  eng     : Nat
  system  : Bool
  mark    : Nat                 -- stores accepted before this identifier are covered
  ctls    : List Nat            -- controllers that have not answered their marker
  deriving DecidableEq, Repr

/-- A session key (R302, R387): its material and its counter. -/
structure KeyMat where
  slot    : Nat
  key     : List Byte
  ctr     : Nat := 0
  uid     : Nat := 0            -- tells the keys apart that one slot has held
  deriving DecidableEq, Repr

/-! ## Translation (07) -/

/-- A walk-cache entry: the table that the level's entry for a VA prefix gives (R211). -/
structure TableHit where
  slot   : Nat
  level  : Nat
  pre    : Nat
  next   : Nat
  deriving DecidableEq, Repr

/-- What a translation is asked for. -/
inductive Owner where
  | engine (e : Nat)
  | record (c : Nat)                -- the executing record of context c
  | pin (c : Nat)                   -- the pinned set of context c, as it is built
  | repin (c : Nat)                 -- a stale entry of it, translated again (R224)
  | copy (j : Nat)
  | mig (j : Nat)
  | cast (j k : Nat)                -- item k of cast job j; its descriptor and status are item 2^32
  | route (o : Nat)
  | unit                            -- a request of a unit by TRANSLATION_REQUEST
  deriving DecidableEq, Repr

/-- The answer to a translation. -/
inductive Ans where
  | grant (l : Leaf)
  | fault (kind level : Nat)
  deriving DecidableEq, Repr

/-- What a request waits for. -/
inductive AskWait where
  | walk (w : Nat)
  | held (flask fid : Nat)          -- a held fault record (R230)
  | mig (j : Nat)                   -- a migration of the sheet (R245)
  | done (a : Ans)                  -- answered; the requester takes the answer
  deriving DecidableEq, Repr

/-- A translation request (R212, R213). -/
structure Ask where
  id     : Nat
  owner  : Owner
  who    : Requester
  ctx    : Nat
  slot   : Nat
  va     : Nat
  acc    : Acc
  wait   : AskWait
  deriving DecidableEq, Repr

/-- A walk (R207, R212): queued until a surveyor takes it. -/
structure Walk where
  id      : Nat
  slot    : Nat
  va      : Nat                     -- address of its first request; merged by VA[56:25]
  fresh   : Bool := false           -- of a RETRY: no further sheet-cache lookup (R233)
  started : Bool := false
  marked  : Bool := false           -- restarts when it ends (R223)
  level   : Nat := 0
  table   : Nat := 0
  deriving DecidableEq, Repr

/-- A held fault record (R229, R230). -/
structure Held where
  flask  : Nat
  fid    : Nat
  slot   : Nat
  region : Nat
  kind   : Nat
  deriving DecidableEq, Repr

/-- Where an invalidation comes from (R220), and with what it answers. -/
inductive InvFrom where
  | host (tag : Nat)
  | cmd (mslot : Nat)               -- ATLAS_INVALIDATE in a mailbox slot
  | unbind (mslot : Option Nat)     -- ATLAS_UNBIND, or a FLASK reset
  | mig (j : Nat)
  | seal (mslot : Nat)              -- FLASK_SEAL or PUBLIC_SET in a mailbox slot
  | headless
  deriving DecidableEq, Repr

/-- An invalidation (R220 to R225). -/
structure Inv where
  id       : Nat
  source   : InvFrom
  slots    : List Nat               -- affected atlas slots
  range    : Option (Nat × Nat)     -- base and length in bytes
  hostOnly : Bool := false          -- the restricted form of R227
  started  : Bool := false
  mark     : Nat := 0               -- requests and grants made before this identifier are waited for
  old      : List (Nat × Nat) := []  -- the sealing unit's records of sheets that change with its completion, by key, as they were (R204)
  acks     : List Nat := []         -- engines that have not acknowledged the purge
  kernels  : List Nat := []         -- running PHYS kernels waited for
  deriving DecidableEq, Repr

/-- A grant that an engine holds in its sheet buffer (R213). -/
structure Grant where
  eng    : Nat
  id     : Nat
  leaf   : Leaf
  deriving DecidableEq, Repr

/-- The translation unit beside its registers. -/
structure Xl where
  sheets  : List Leaf := []         -- least recently used first
  tables  : List TableHit := []     -- least recently used first
  asks    : List Ask := []          -- oldest first
  walks   : List Walk := []         -- oldest first
  helds   : List Held := []
  grants  : List Grant := []        -- what the engines hold, newest first
  invs    : List Inv := []          -- oldest first
  ringFull : List Nat := []         -- flasks whose full fault ring has been reported since RD_IDX was written (R232)
  deriving DecidableEq, Repr

/-! ## Migrations and the tier pool (08) -/

/-- Where a migration stands (R244). -/
inductive MigStage where
  | walk          -- the source address is being translated
  | evict         -- waits for the eviction that frees its frame
  | swap1         -- the leaf's VALID is being cleared
  | inval         -- the internal invalidation runs
  | copying
  | swap2         -- the new leaf is being written
  | restore       -- the leaf is being put back (R247)
  deriving DecidableEq, Repr

/-- A migration; an eviction is the migration of its victim (R250). -/
structure Mig where
  id      : Nat
  ctx     : Option Nat              -- the context whose BULK_MOVE it is; none for an eviction
  parent  : Option Nat := none      -- the migration an eviction serves
  root    : Option PourId := none
  payer   : Charge := .none       -- where the migrating pour's energy goes, of an eviction too (R414)
  flask   : Nat
  slot    : Nat
  dest    : Nat := 0                -- the destination value of R242
  va      : Nat                     -- virtual base of the sheet, once known
  size    : Nat := 0
  leafAt  : Nat := 0                -- HBM address of the leaf
  leaf    : Nat := 0                -- its value as last read
  first   : Nat := 0                -- its value in step 1
  destPa  : Nat := 0
  frame   : Option Nat := none      -- HBM address of the pool frame taken
  stage   : MigStage := .walk
  code    : Nat := 0                -- the outcome it ends with, once its leaf is restored
  tries   : Nat := 0                -- failed swaps of its present victim
  passed  : List Nat := []          -- frames whose promotions its evictions have passed over (R250)
  deriving DecidableEq, Repr

/-- A promotion: a sheet in a frame of the tier pool (R250). -/
structure Promo where
  frame   : Nat                     -- HBM address
  size    : Nat
  flask   : Nat
  slot    : Nat
  va      : Nat
  home    : Nat                     -- the original physical address
  tier    : Nat                     -- and its tier
  time    : Nat
  orphan  : Bool := false
  due     : Bool := false           -- its leaf is to be read again (R251)
  deriving DecidableEq, Repr

/-- The tier unit beside its registers. -/
structure Tier where
  migs    : List Mig := []
  promos  : List Promo := []
  deriving DecidableEq, Repr

/-! ## Copies (R107) -/

/-- A BULK_MOVE COPY: the part still to move, and the piece on its way. -/
structure Copy where
  id    : Nat
  ctx   : Nat
  src   : Nat
  dst   : Nat
  left  : Nat                       -- bytes still to be read
  read  : Option Nat := none        -- request under way
  data  : Option (List Byte) := none  -- bytes read and still to be written
  wrote : List Nat := []            -- writes not yet acknowledged
  deriving DecidableEq, Repr

/-! ## The route unit (06) -/

/-- A ROUTE operation (R167). -/
structure RouteOp where
  id       : Nat
  ctx      : Nat
  pour     : PourId
  mgmt     : Bool
  index    : Nat
  mode     : Nat
  fmt      : Nat
  policy   : Nat
  k        : Nat
  rows     : Nat                    -- T
  cap      : Nat                    -- CAPACITY
  experts  : Nat
  score    : Nat
  list     : Nat
  weight   : Nat
  spill    : Nat
  slotBase : Nat
  slots    : Nat
  maxSlot  : Nat                    -- M of R180
  total    : Option Nat             -- TOTAL_GATE
  pred     : Nat                    -- PRED_GATE
  thresh   : Nat
  table    : List Byte              -- its table, loaded when it is taken (R192)
  marks    : List Nat               -- the gates it has marked pending (R92)
  producer : Option Nat             -- kernel
  pushes   : List (Nat × Nat × List Byte) := []  -- row, part, chunk
  got      : List (Nat × List Byte × Bool) := [] -- address, bytes read from memory, slag marker
  met      : Bool := false          -- the score condition has been met
  reads    : List (Nat × Nat) := [] -- address and length of the reads still to be issued
  selected : List Nat := []         -- rows already selected
  writes   : Option (List (Nat × List Byte)) := none  -- outputs still to be handed over; none before selection ends
  vals     : List (Nat × Nat) := [] -- gates and the values they will take
  dropped  : Nat := 0
  spilled  : Nat := 0
  out      : List Nat := []         -- output writes not yet accepted at their homes
  retried  : Bool := false          -- a residue mismatch has been met (R195)
  deriving DecidableEq, Repr

/-- The route unit beside its registers. -/
structure Route where
  ops     : List RouteOp := []      -- oldest first
  turn    : List Nat := []          -- ready operations in the order of their turns (R191)
  waits   : List Nat := []          -- contexts whose ROUTE record waits for room, oldest first (R167)
  raised  : List PourId := []       -- pours whose queue error source has been raised (R194)
  deriving DecidableEq, Repr

/-! ## The casters (10) -/

/-- Bytes that a caster has read: address, bytes, and the slag marker. -/
abbrev Got := List (Nat × List Byte × Bool)

/-- A work item of a cast job that a caster has taken. -/
structure Item where
  n       : Nat                     -- dense tile index
  caster  : Nat
  reads   : List (Nat × Nat)        -- address and length of the reads still to be issued
  out     : Nat := 0                -- reads under way
  got     : Got := []
  retried : Bool := false           -- a residue mismatch has been met (R295)
  redone  : Option Nat := none      -- the AES lane that redoes a block after a mismatch (R480)
  held    : Bool := false           -- complete, and kept until the items before it are (R288)
  deriving DecidableEq, Repr

/-- An output of a job still to be handed over. -/
structure Output where
  caster  : Nat
  tile    : Bool                    -- a tile, side area or mask; else host data or a tag (R300)
  va      : Nat
  data    : List Byte
  part    : Nat := 0                -- the item it belongs to, or a number of its own above them (R286)
  deriving DecidableEq, Repr

/-- A tile or host region that is formed and not yet written (R286). -/
structure Formed where
  n    : Nat
  tile : Bool                       -- it counts in TILES once it is written
  slag : Bool
  deriving DecidableEq, Repr

/-- A cast job (R283, R287). -/
structure Job where
  id      : Nat
  ctx     : Nat
  pour    : PourId
  flask   : Nat
  at_     : Nat                     -- virtual address of its descriptor
  desc    : Option (List Byte) := none
  reads   : List (Nat × Nat) := []  -- reads of the job itself still to be issued: descriptor, mask, tags
  reading : Nat := 0                -- and under way
  got     : Got := []               -- and what they returned
  mask    : Option (List Byte) := none  -- the block mask (R288)
  maskBad : Option Nat := none      -- first tile whose place the mask does not tell
  next    : Nat := 0                -- next item to be taken
  total   : Nat := 0
  back    : List Nat := []          -- items given back by a caster that went out of service
  items   : List Item := []
  done    : List Nat := []          -- items completed
  present : List Nat := []          -- tiles present, in ascending order (R288)
  maskOut : Bool := false           -- the mask has been written
  ciph    : Got := []               -- sealed ingress: ciphertext read
  plain   : List (Nat × List Byte) := []  -- sealed egress: plaintext by offset
  chunk   : Nat := 0                -- next chunk whose tag is to be checked or written
  chunks  : Nat := 0
  ctr     : Nat := 0                -- CTR_START
  out     : List Output := []
  formed  : List Formed := []       -- tiles and regions formed and not yet written
  writes  : List Nat := []          -- writes not yet acknowledged
  tiles   : Nat := 0
  slagged : List Nat := []          -- items written as slag
  auth    : Nat := 0
  crc     : Nat := 0
  sat     : Nat := 0
  pruned  : Nat := 0
  code    : Option Nat := none      -- the STATUS0.CODE it ends with, once decided early
  detail  : Nat := 0
  status  : Bool := false           -- the status has been handed over
  deriving DecidableEq, Repr

/-- A block of the sealed egress path that waits for its flask's log (R303). -/
structure Egress where
  flask   : Nat
  fgen    : Nat
  ctx     : Nat
  slot    : Nat
  va      : Nat
  tier    : Nat
  node    : Nat
  pa      : Nat
  data    : List Byte
  purpose : Purpose
  root    : Option PourId
  who     : Requester
  ord     : Nat                 -- its place in the order of acceptance
  sheet   : Nat × Nat           -- base and size of the sheet it was granted under
  grant   : Nat                 -- and the engine's grant
  put     : Nat                 -- the PUT that it is of
  ticket  : Nat := 0            -- ticket of the root pour (R354)
  key     : Nat × Nat           -- the slot and the key that it is to be encrypted under
  deriving DecidableEq, Repr

/-- The caster unit beside its registers. -/
structure Cast where
  jobs    : List Job := []          -- oldest first
  egress  : List Egress := []       -- blocks that wait for their log, oldest first
  full    : List Nat := []          -- flasks whose full log has been reported since RD_IDX was written
  raised  : List PourId := []       -- pours whose queue error source has been raised (R286)
  lanesOut : List Nat := []         -- AES lanes out of service since start-up (R483)
  deriving DecidableEq, Repr

/-! ## Flasks, sealing and migration (14, 16) -/

/-- A migration session of a flask (R441). -/
structure Session where
  source   : Bool                 -- this package holds the source flask
  offer    : List Byte := []      -- SHA-384 of the offer
  accept   : List Byte := []      -- SHA-384 of the accept
  slot     : Option Nat := none   -- the key slot of K_mig
  granules : List Nat := []       -- offsets of the granules exported or imported, in ascending order
  bundled  : Bool := false        -- the bundle has been imported
  deriving DecidableEq, Repr

/-- What the sealing unit holds for a flask beside its registers (R380 to R393). -/
structure Vault where
  flask  : Nat
  chain  : List Byte := []        -- mould chain
  allow  : List (List Byte) := []
  cseq   : Nat := 0               -- CSEQ of the last accepted command
  pub    : List Byte := []        -- the flask's public key, 97 bytes; empty while it has no key pair
  before : Nat := 0               -- the flask's state before its quench
  consent : Nat := 3              -- and its DEBUG (bit 0) and PROFILE (bit 1)
  sess   : Option Session := none
  everSealed : Bool := false      -- sealed since its creation, whatever its state is now (R6)
  deriving DecidableEq, Repr

/-- A reset or teardown of a flask under way (R402). -/
structure Tear where
  flask   : Nat
  destroy : Bool
  slots   : List Nat := []        -- the mailbox commands that reply at its end
  scrub   : Bool := false         -- its scrub runs
  deriving DecidableEq, Repr

/-- A scrub under way (R405); scrubs stand in the order of their starts. -/
structure Scrub where
  flask    : Nat
  slot     : Option Nat           -- the FLASK_CREATE it serves; none for a reset
  granules : List Nat
  left     : Nat                  -- bytes still to be scrubbed at the time scrubAt
  deriving DecidableEq, Repr

/-- A public set or other change of a sealed flask that replies once its invalidations and recalls are complete
(R381, R389). -/
structure SealWait where
  slot   : Nat                    -- the mailbox slot
  flask  : Nat
  lines  : List Nat := []         -- host copies still to be given up (R40)
  op     : Option (Nat × List Byte) := none   -- for a sealed command, its OP and reply payload
  outs   : List Nat := []         -- the reply's output doublewords
  cseq   : Nat := 0
  deriving DecidableEq, Repr

/-- A quench that drains (R427 to R431). -/
structure Quench where
  flask : Nat
  slot  : Nat
  q0    : Nat
  limit : Nat
  base  : Nat
  size  : Nat
  phase : Nat := 0                -- CZ_QN PHASE before it
  deriving DecidableEq, Repr

/-- What the image has no place for of a context: its mould handle and bank, the values still to be passed to it, and whether
it has read its bank. -/
structure FrozenCtx where
  idx  : Nat
  gen  : Nat
  bank : Nat
  pass : List (Nat × Word) := []
  read : Bool := false
  deriving DecidableEq, Repr

/-- What a quench saves that the layout of its image has no place for, by the image's digest: for each context what stands
above; for each mould the offset of its bank area from the flask's first byte; and the sealed state. -/
structure Frozen where
  digest : List Byte
  flask  : Nat
  ctxs   : List FrozenCtx
  moulds : List (Nat × Nat)
  sealed : List Byte
  deriving DecidableEq, Repr

/-! ## Energy (15) -/

/-- Raw counts or energies by share: engine, memory and link. -/
structure Shares where
  engine : Nat := 0
  memory : Nat := 0
  link   : Nat := 0
  deriving DecidableEq, Repr

/-- An accumulator (R408); its energies are in units of 2^-8 nJ. -/
structure Accum where
  id     : Nat
  flask  : Nat
  gen    : Nat
  ticket : Nat
  first  : Nat                    -- pour ID of the first pour
  opened : Nat
  last   : Nat                    -- timebase at the last pour's end
  pours  : Nat := 0
  flags  : Nat := 0
  energy : Shares := {}
  static : Nat := 0
  closed : Option Nat := none
  formed : Bool := false          -- its receipt is formed
  deriving DecidableEq, Repr

/-- A root pour in flight, as the meter counts intervals (R416). -/
structure Span where
  ctx    : Nat
  pour   : PourId
  charge : Charge
  flask  : Nat
  start  : Nat
  stop   : Option Nat := none
  deriving DecidableEq, Repr

/-- Counts of one class in one calibration window (R412). -/
structure Count where
  charge : Charge
  window : Nat
  cls    : Nat
  n      : Nat
  deriving DecidableEq, Repr

/-- A block of receipts (R419). -/
structure Block where
  id     : Nat
  flask  : Nat
  gen    : Nat
  accs   : List Accum
  since  : Nat                    -- when its first receipt entered it
  digest : List Byte := []        -- of the management image whose coefficients its receipts were computed with (R419)
  due    : Bool := false          -- full, or its BATCH has passed
  sent   : Option Nat := none     -- when it was last sent to Kyrdo
  signed : Option (List Byte) := none
  written : Bool := false         -- its write to the ring is under way
  deriving DecidableEq, Repr

/-- A RECEIPT_FLUSH that waits (R458). -/
structure Flush where
  slot   : Nat
  flask  : Nat
  count  : Nat
  accs   : List Nat               -- accumulators whose blocks it waits for
  deriving DecidableEq, Repr

/-- That an engine ran kernels of a context, and what it was charged to then (R412). -/
structure Ran where
  eng    : Nat
  ctx    : Nat
  charge : Charge
  start  : Nat
  stop   : Option Nat := none
  deriving DecidableEq, Repr

/-- The energy meter beside its registers. -/
structure Meter where
  accs    : List Accum := []
  spans   : List Span := []
  counts  : List Count := []
  ran     : List Ran := []        -- of the last 2 ms
  window  : Nat := 0              -- the next window to be calibrated
  rail    : Option Nat := none    -- its rail report, in nJ
  k       : Nat := 0x3F800000     -- FP32 k of the last window
  blocks  : List Block := []
  flushes : List Flush := []
  metered : List (Nat × Nat) := []   -- by flask, in units of 2^-8 nJ
  idle    : List (Nat × Nat) := []
  overhead : List (Nat × Nat) := []
  unmet   : List (Nat × Nat) := []
  total   : Nat := 0
  pkgOver : Nat := 0
  coefs   : Option (List Nat × Nat) := none   -- coefficients and EST that apply from the next window (R421, R464)
  digest  : List Byte := []       -- of the management image whose coefficients apply (R419)
  missed  : List (Nat × Nat) := []   -- engines and intervals whose reports have been taken as missing, of the last 2 ms
  deriving DecidableEq, Repr

/-! ## Kyrdo, firmware and power (13, 17, 18) -/

/-- What Kyrdo holds and survives OFF (R470), and the fuse values it gives (R471). -/
structure Kyrdo where
  device   : List Byte := []
  kid      : List Byte := []      -- of the attestation key (R394)
  rkid     : List Byte := []      -- of the receipt key (R419)
  own      : List Byte := []      -- digest of Kyrdo's firmware
  mgmt     : List Byte := []      -- committed digests
  ucode    : List Byte := []
  mgmtVer  : Nat := 0
  ucodeVer : Nat := 0
  legends  : Nat := 0
  blocks   : Nat := 0
  resets   : Nat := 0             -- package reset count
  mgmtBank  : List Byte := []     -- the committed banks (R461); nothing is known of a bank that no FW_COMMIT has filled
  ucodeBank : List Byte := []
  subsys   : Nat := 0             -- fuses beside the device ID (R471)
  engRev   : Nat := 0
  coefs    : List Nat := []       -- of the committed management image (R413, R416)
  est      : Nat := 0
  deriving DecidableEq, Repr

/-- What Kyrdo is asked for. -/
inductive KyAsk where
  | create                                          -- the flask key pair of FLASK_SEAL (R381)
  | legend (buf : Nat) (claims : List (Nat × List Byte))  -- the claims as of the snapshot (R397), but the legend counter
  | confirm (gen : Nat) (env : List Byte)           -- K_cmd for the envelope of a CONFIRM (R386)
  | cert (receipt : Bool) (buf : Nat)
  | image (comp : Nat) (data : List Byte)           -- the checks of FW_STAGE
  | commit (comp : Nat)
  | offer (buf : Nat)
  | accept (buf : Nat) (offer : List Byte)
  | bind (accept : List Byte)
  | bundle                                          -- Kyrdo's part of a bundle (R442)
  | import_ (sealed_ : List Byte) (part : List Byte)   -- its part of a bundle, beside the header and the encrypted keys
  deriving DecidableEq, Repr

/-- A request that Kyrdo has not answered. -/
structure KyReq where
  slot  : Nat                     -- the mailbox slot
  flask : Nat := 0
  gen   : Nat := 0
  at_   : Nat                     -- when it was made
  ask   : KyAsk
  deriving DecidableEq, Repr

/-- A staged firmware image (R463). -/
structure Staged where
  comp    : Nat
  digest  : List Byte
  version : Nat
  coefs   : List Nat
  est     : Nat
  bank    : List Byte := []       -- the staged bank (R461)
  ok      : Bool := false         -- Kyrdo's checks have passed
  deriving DecidableEq, Repr

/-- The switch of the cores or the sequencers to an image, from its commit point (R464). -/
structure Switch where
  comp  : Nat
  slots : List Nat                -- the FW_COMMITs that reply at its end
  from_ : Nat
  till  : Nat
  old   : Nat := 0                -- the version that runs until its end (R456)
  deriving DecidableEq, Repr

/-- A POWER_SET that waits for its drain (R478). -/
structure PowerWait where
  slot  : Nat
  state : Nat
  prior : List Nat                -- the commands accepted before it
  also  : List (Nat × Nat) := []  -- slots and states of the further POWER_SETs that wait
  deriving DecidableEq, Repr

/-- A whole-block reset under way: the steps of a BLOCK reset (R474), then start-up (R471). -/
structure BlockReset where
  start   : Nat
  upAt    : Nat := 0              -- when start-up began (R471)
  fault   : Bool := false         -- a BLOCK reset that a fault has started
  drained : Bool := false         -- a BLOCK reset's writes are issued or discarded
  tries   : Nat := 0              -- restarts of start-up by a fault (R469)
  owners  : List (Nat × Nat × Nat) := []  -- first timeline, count less 1 and state of the flasks there were at T_B (R497)
  records : List (List Byte) := []    -- the poison and loss records to be written, in the order of the discards
  deriving DecidableEq, Repr

end Sys2Proof.Machine
end

