-- ==== Sys2Proof/Machine/State.lean ====
section
/-! DEFINITION. The state of the Celzaig: the register fields, the memory behind it, what each unit holds beside its
registers, what it has sent, and the queue of the commands that wait. -/
namespace Sys2Proof.Machine

/-- The pools of the HLP's inbound REQ credits (R27). -/
inductive Pool where
  | window | register | doorbell | invalidation | event
  deriving DecidableEq, Repr

/-- What the block sends across its boundary, newest first in State.sent. -/
inductive Msg where
  | unsupported (tag : Nat)                              -- unsupported-request completion (R24)
  | notHeld (tag : Nat)                                  -- snoop answer (R25)
  | windowData (tag : Nat) (data : List Byte) (poison : Bool)
  | windowOwned (tag : Nat) (ok : Bool)                  -- answer to an ownership or upgrade request
  | windowAck (hpa : Nat)                                -- acknowledgement of a window write (R24)
  | recall (line : Nat)                                  -- SNP to the host, HBM line number (R41)
  | invCompletion (tag : Nat)                            -- R43
  | entryRead (id host addr : Nat)                       -- read of a pour slot, host 1 or device 0
  | hostWrite (id addr : Nat) (data : List (Nat × Byte))
  | hostRead (id addr len : Nat)
  | hostAtomic (id addr code size operand compare : Nat)
  | bankRead (ctx addr : Nat)
  | fillRead (idx seg : Nat)
  | laneRecord (e : Nat) (bytes : List Byte)             -- the lane record that engine e fetches (R138)
  | stopRequest (e : Nat)
  | kill (e : Nat)
  | spawnAnswer (e code : Nat)
  | commitMarker (ctx : Nat)
  | atlasRead (walk addr : Nat)
  | grant (e : Nat) (va size pa tier : Nat) (rd wr at_ sealed pub : Bool) (slot : Nat)
  | xlFault (e kind : Nat)
  | purge (inv : Nat) (slots : List Nat) (range : Option (Nat × Nat)) (hostOnly : Bool)   -- R223, R227
  | pinned (e kernel : Nat) (grants : List Leaf)             -- the pinned grants of a PHYS kernel (R217)
  | nodeGone (id : Nat)                                      -- read or atomic id ends NODE_GONE, before its data (R353)
  | readData (id : Nat) (data : List Byte) (slag : Bool)     -- data returned to the requester of read or atomic id
  | malformed (e : Nat)                                      -- slag-marked answer to a malformed read or atomic
  | hbmRead (id addr len : Nat)                              -- a read the host access path sends to the HBM controllers
  | fenceAnswer (e : Nat)                                    -- R312
  | fenceMarkers (e : Nat)
  | packet (node : Nat) (bytes : List Byte)                  -- a packet to another package (R340)
  | swap (mig addr : Nat)                                    -- a compare-and-swap of a leaf (R244)
  | kyrdo (slot : Nat) (ask : KyAsk)                         -- a request to Kyrdo for the command in a mailbox slot
  | kyrdoBlock (block : Nat) (payload : List Byte)           -- a receipt block to be signed (R419)
  | poolCredit (p : Pool)                                    -- a credit of a pool goes back to the host (R27)
  | powerOff                                                 -- entry to OFF (R476)
  | copySheet (mig : Nat)                                    -- the copy of a sheet begins
  | event (dest : Nat) (bytes : List Byte)                   -- an event message to a host thread (R369)
  | mgmtEvent (core : Nat) (bytes : List Byte)               -- a delivery to a management core
  | sheetOut (addr size : Nat) (data : List (Nat × Byte))    -- a sheet is written to host memory; what is not listed is 0
  deriving DecidableEq, Repr

/-- A host access or an engine access that waits for a host copy of its line to be given up (R41). -/
inductive LineAct where
  | read (hpa tag : Nat)
  | own (hpa tag : Nat)
  | upgrade (hpa tag : Nat)
  | store (st : BufStore)
  | load (id : Nat)
  | inbound (node gen : Nat) (pkt : List Byte)      -- a peer's read or atomic that has passed its checks
  | writeBack (hpa : Nat) (data : List Byte)        -- a write-back held while a wake runs (R479)
  deriving DecidableEq, Repr

/-- The host address of a host core's access. -/
def LineAct.hpa? : LineAct → Option Nat
  | .read hpa _ | .own hpa _ | .upgrade hpa _ | .writeBack hpa _ => some hpa
  | _ => none

/-- One waiting access. -/
structure LineWait where
  line : Nat
  act  : LineAct
  deriving DecidableEq, Repr

/-- One snoop-filter entry: a line of HBM, held shared by a number of host cores or exclusive by one. -/
structure HostLine where
  line    : Nat
  excl    : Bool
  sharers : Nat := 1
  deriving DecidableEq, Repr

/-- The host link port beside its registers. -/
structure Hlp where
  filter   : List HostLine := []      -- oldest record first (R41)
  recalls  : List Nat := []           -- lines with a recall under way
  soft     : List Nat := []           -- those of them of which a host core keeps a shared copy (R322 to R324)
  waits    : List LineWait := []      -- oldest first
  closing  : List Nat := []           -- windows whose close is under way (R39)
  hbFrom   : Nat := 0                 -- when the heartbeat count last started (R45)
  downAt   : Option Nat := none       -- when ZCI went down
  npCred   : Nat := 0
  pCred    : Nat := 0
  evtCred  : Nat := 0
  leaving  : List Nat := []           -- host requests on ZCI when an orderly detach began (R49)
  holdWait : List (Nat × List Byte) := []   -- records that wait for the holding ring: context or 512, bytes (R47)
  asleep   : List LineAct := []       -- window accesses held while a wake runs (R479)
  deriving DecidableEq, Repr

/-- An entry read under way (R60, R61). -/
structure Fetch where
  id     : Nat
  queue  : Nat
  slot   : Nat
  seq    : Nat
  reread : Bool
  back   : Option Ret := none  -- what came back while an older read of the queue was still out (R17)
  deriving DecidableEq, Repr

/-- A checked entry that waits for admission. -/
structure Entry where
  queue   : Nat
  slot    : Nat
  seq     : Nat
  mould   : Nat
  mgen    : Nat
  bank    : Nat
  ordered : Bool
  ticket  : Nat
  deriving DecidableEq, Repr

/-- The doorbell race guard of a queue (R61). -/
structure Guard where
  queue  : Nat
  t0     : Nat
  count  : Nat            -- re-reads issued
  lastAt : Nat            -- return of the last re-read
  deriving DecidableEq, Repr

/-- A queue destruction under way (R73 to R76). -/
structure Destroy where
  queue : Nat
  abort : Bool
  count : Nat
  first : Nat
  slots : List Nat        -- the mailbox commands that joined it
  deriving DecidableEq, Repr

/-- A completion record written and not yet acknowledged at its home. -/
structure PendRec where
  id     : Nat
  queue  : Nat
  seq    : Nat
  raise  : Bool           -- raise the completion source on the acknowledgement (R58)
  deriving DecidableEq, Repr

/-- The queue manager beside its registers. -/
structure Qm where
  fetches  : List Fetch := []
  entries  : List Entry := []          -- oldest first
  guards   : List Guard := []
  destroys : List Destroy := []
  records  : List PendRec := []
  grantAt  : List (Nat × Nat) := []    -- queue, time of its last grant
  fcredit  : List (Nat × Nat) := []
  qcredit  : List (Nat × Nat) := []
  lastRt   : Option Nat := none
  lastF    : Option Nat := none
  lastQ    : List (Nat × Nat) := []    -- f * 4 + level, queue of its last grant
  deriving DecidableEq, Repr

/-- The mould store directory and the mould cache beside their registers. -/
structure Moulds where
  table : List Mould := []
  gens  : List (Nat × Nat) := []       -- generation of each index that has left 0 (R120)
  segs  : List Seg := []               -- least recently used first
  fills : List Fill := []
  deriving DecidableEq, Repr

/-- The mailbox beside its slots' fields. -/
structure Mbox where
  order : List Nat := []               -- slots whose commands have not started, in the order of their submits (R449)
  run   : Option (Nat × Nat) := none   -- the MGMT_RUN under way: its slot and its context (R459)
  runWait : Option (Nat × Nat × Nat) := none  -- a started MGMT_RUN that waits for a context: its slot and its mould
  dogs  : List (Nat × Nat) := []       -- the last watchdog expiry of each core (R462)
  switches : List Switch := []         -- the switches to committed images (R464)
  deriving DecidableEq, Repr

/-- The event controller beside its registers. -/
structure Ev where
  lastSrc : List (Nat × Nat) := []     -- last_src by priority (R366); none before the first delivery
  lastTgt : List (Nat × Nat) := []     -- last_tgt by group
  msgs    : List (Nat × Nat × List Byte) := []   -- target, DEST and bytes of the messages not yet sent, oldest first
  deriving DecidableEq, Repr

/-- A reset that a fault has called for and that starts at once (R483, R484, R157, R162). -/
inductive Call where
  | flask (f : Nat)
  | block
  deriving DecidableEq, Repr

/-- The state. -/
structure State where
  time    : Nat := 0
  nextId  : Nat := 1
  regs    : List (Nat × Nat) := []
  hbm     : List Host.Cell := []
  wbuf    : List BufStore := []
  sent    : List Msg := []
  hlp     : Hlp := {}
  qm      : Qm := {}
  moulds  : Moulds := {}
  ctxs    : List Ctx := []
  kernels : List Kernel := []          -- in the total order of R137
  lanes   : List Lane := []
  reqs    : List Req := []
  fences  : List EngFence := []
  keys    : List KeyMat := []
  nodes   : List Node := []
  readyAt : Nat := 0                   -- when PHASE last became READY
  xl      : Xl := {}
  tier    : Tier := {}
  copies  : List Copy := []
  route   : Route := {}
  cast    : Cast := {}
  ev      : Ev := {}
  mbox    : Mbox := {}
  vaults  : List Vault := []
  tears   : List Tear := []
  scrubs  : List Scrub := []           -- in the order of their starts
  scrubAt : Nat := 0                   -- the time at which their `left` holds
  seals   : List SealWait := []
  quenches : List Quench := []
  frozen  : List Frozen := []
  meter   : Meter := {}
  kyrdo   : Kyrdo := {}
  kyreqs  : List KyReq := []
  staged  : List Staged := []
  power   : Option PowerWait := none
  exit    : Option (Nat × List Nat) := none  -- an exit from DROWSE: its cause and the POWER_SETs ACTIVE it serves
  breset  : Option BlockReset := none
  misses  : List (Nat × Nat) := []     -- the last miscompare of each sequencer pair (R482)
  snap    : List (Nat × Nat) := []     -- coarsened registers by offset, as at the last snapshot tick (R400)
  faulted : List Nat := []             -- flasks with an engine exception and no reset since (R157)
  waiting : List (Nat × Nat) := []     -- flasks wholly waiting (R164), and since when
  cycles  : List (Nat × List Nat) := []   -- the last set of queues reported for a flask (R165)
  groupUse : List (Nat × Nat) := []    -- when an engine group last had work (R477)
  calls   : List Call := []            -- resets called for within the command that runs; empty between commands
  turns   : List (Nat × Nat) := []     -- by sequencer, the context whose record it issued last (R129)
  sigBuf  : List Nat := []             -- when the entries of the inbound SIG buffer are free again (R347)
  dbBuf   : List Nat := []             -- and those of the inbound doorbell buffer
  errWait : List (List Byte) := []     -- error records behind one that waits for a host copy to be given up
  pending : List Instr := []
  deriving DecidableEq, Repr

/-- Why a step stops the machine. -/
inductive Fault where
  /-- An engine's store that an HBM controller is said to accept names a byte beyond the 384 GiB of HBM, which no grant
  gives an engine; raised by HBM_WRITE_ACCEPT; safe. -/
  | outsideHbm
  deriving DecidableEq, Repr

/-- Why a step has no meaning. -/
inductive Refusal where
  /-- A command the model gives no meaning; raised by an arm of Machine/Dispatch.lean; safe. -/
  | notModelled (mnemonic : String)
  deriving DecidableEq, Repr

/-- The machine right after reset: power has just been applied, every register field is at its reset value, and start-up has
not begun its first step (R467, R471). -/
def State.reset : State := { breset := some { start := 0 } }

end Sys2Proof.Machine
end

