-- ==== Sys2Proof/Machine/Ops.lean ====
section
/-! DEFINITION. The named operations over the state: register fields, memory, messages, event sources, error records,
generations, and lists of the units' data. Every unit reads and writes through them. -/
namespace Sys2Proof.Machine

/-! ## Register fields -/

/-- Element i of a field. -/
def State.rd (s : State) (f : Field) (i : Nat := 0) : Nat := sget (f.resetAt i) s.regs (f.key i)

/-- Element i of a field takes the value v, cut to the field's width. -/
def State.wr (s : State) (f : Field) (v : Nat) (i : Nat := 0) : State :=
  { s with regs := sset (f.resetAt i) s.regs (f.key i) (v % 2 ^ f.row.width) }

/-- A saturating counter advances by n. -/
def State.bump (s : State) (f : Field) (i : Nat := 0) (n : Nat := 1) : State :=
  s.wr f (min (s.rd f i + n) (2 ^ f.row.width - 1)) i

/-- A counter that wraps advances by n. -/
def State.adv (s : State) (f : Field) (i : Nat := 0) (n : Nat := 1) : State :=
  s.wr f ((s.rd f i + n) % 2 ^ f.row.width) i

/-- Element i of a field takes its reset value. -/
def State.rst (s : State) (f : Field) (i : Nat := 0) : State := s.wr f (f.resetAt i) i

/-- The fields of fs, at element i, take their reset values. -/
def State.rstAll (s : State) (fs : List Field) (i : Nat) : State := fs.foldl (fun t f => t.rst f i) s

/-- The field is 1. -/
def State.on (s : State) (f : Field) (i : Nat := 0) : Bool := s.rd f i == 1

/-- The elements of field f that do not hold their reset value, in ascending order. -/
def State.listed (s : State) (f : Field) : List Nat :=
  (s.regs.filter (fun p => p.1 % 1024 == f.num)).map (fun p => p.1 / 1024)

/-! ## Messages and identifiers -/

/-- The block sends m. -/
def State.say (s : State) (m : Msg) : State := { s with sent := m :: s.sent }

/-- The block sends each of ms, first to last. -/
def State.sayAll (s : State) (ms : List Msg) : State := ms.foldl State.say s

/-- The next request identifier and the state in which it is used up. -/
def State.newId (s : State) : Nat × State := (s.nextId, { s with nextId := s.nextId + 1 })

/-- Queue q is one of flask f's. -/
def State.ownsQueue (s : State) (f q : Nat) : Bool :=
  decide (s.rd .FL_QFIRST f ≤ q) && decide (q < s.rd .FL_QFIRST f + s.rd .FL_QCOUNT f)

/-- Time has passed up to at least t: the expiry of an interval is the stimulus that its end has come. -/
def State.elapse (s : State) (t : Nat) : State := { s with time := max s.time t }

/-! ## Copies of the timebase (R16) -/

/-- The clock domains that take timestamps. -/
inductive Domain where
  | hlp | core | peer | management | kyrdo | fabric
  deriving DecidableEq, Repr

/-- The most that a domain's copy of the timebase lags the reference, in whole nanoseconds (R16). -/
def Domain.lag : Domain → Nat
  | .kyrdo => 8
  | .management => 4
  | _ => 2

/-- The number of a domain. -/
def Domain.code : Domain → Nat
  | .hlp => 0
  | .core => 1
  | .peer => 2
  | .management => 3
  | .kyrdo => 4
  | .fabric => 5

/-- What a domain's copy of the timebase shows when the reference is at t: it lags by a free value within its bound, and it
never decreases (R16, log entry 11). -/
def Domain.copyAt (d : Domain) (t : Nat) : Nat :=
  ((List.range (d.lag + 1)).map (fun k =>
    t - k - (Config.timebaseLag d.code (t - k)).toNat % (d.lag + 1))).foldl max 0

/-- What domain d's copy of the timebase shows now. -/
def State.clock (s : State) (d : Domain) : Nat := d.copyAt s.time

/-! ## Memory (R308): the HBM local address space below 384 GiB -/

/-- 384 GiB (R35). -/
def hbmSize : Nat := 384 * 2 ^ 30

/-- A 32 MiB granule. -/
def granule : Nat := 2 ^ 25

/-- What a byte that nothing has written reads as: zero (DESIGN CHOICE, log entry 2; the spec says nothing of HBM at COLD). -/
def unwritten : Byte := 0

/-- The committed byte at address a, as the system port returns it. -/
def State.sysByte (s : State) (a : Nat) : Byte := sget unwritten s.hbm a

/-- The n committed bytes from address a. -/
def State.sysRead (s : State) (a n : Nat) : List Byte := (List.range n).map (fun i => s.sysByte (a + i))

/-- The last accepted value of address a among the stores that are not committed yet. -/
def lastStored (l : List BufStore) (a : Nat) : Option Byte :=
  l.foldl (fun r st => match st.cells.find? (fun c => c.1 == a) with | some c => some c.2 | none => r) none

/-- The byte at address a as the die port returns it: an accepted store is seen before it is committed. -/
def State.dieByte (s : State) (a : Nat) : Byte := (lastStored s.wbuf a).getD (s.sysByte a)

/-- The n bytes from address a, as the die port returns them. -/
def State.dieRead (s : State) (a n : Nat) : List Byte := (List.range n).map (fun i => s.dieByte (a + i))

/-- One byte is committed; an address outside HBM keeps nothing. -/
def State.putByte (s : State) (a : Nat) (b : Byte) : State :=
  if a < hbmSize then { s with hbm := sset unwritten s.hbm a b } else s

/-- The bytes bs are committed from address a. -/
def State.put (s : State) (a : Nat) : List Byte → State
  | [] => s
  | b :: bs => (s.putByte a b).put (a + 1) bs

/-- The n bytes from address a become zero. -/
def State.zero (s : State) (a n : Nat) : State :=
  { s with hbm := s.hbm.filter (fun c => !decide (a ≤ c.1 ∧ c.1 < a + n)) }

/-- The cells are committed. -/
def State.putCells (s : State) (cells : List (Nat × Byte)) : State := cells.foldl (fun t c => t.putByte c.1 c.2) s

/-- The bytes bs as cells from address a. -/
def cellsAt (a : Nat) (bs : List Byte) : List (Nat × Byte) := (List.range bs.length).zip bs |>.map (fun p => (a + p.1, p.2))

/-- The 64 B line of an address. -/
def lineOf (a : Nat) : Nat := a / 64

/-- The lines the cells touch, each once, in order. -/
def linesOf (cells : List (Nat × Byte)) : List Nat :=
  cells.foldl (fun ls c => if ls.contains (lineOf c.1) then ls else ls ++ [lineOf c.1]) []

/-- Every accepted store to a line is committed, in the order of acceptance (R308). -/
def State.commitLine (s : State) (line : Nat) : State :=
  let on (c : Nat × Byte) : Bool := lineOf c.1 == line
  let t := s.wbuf.foldl (fun t st => t.putCells (st.cells.filter on)) s
  { t with wbuf := t.wbuf.map (fun st => { st with cells := st.cells.filter (fun c => !on c) }) }

/-- Every accepted store to a line of [a, a + n) is committed. -/
def State.commitRange (s : State) (a n : Nat) : State :=
  ((linesOf (s.wbuf.flatMap BufStore.cells)).filter (fun l => decide (lineOf a ≤ l ∧ l * 64 < a + n))).foldl State.commitLine s

/-- The cells are committed at once, after every store accepted before them to their lines (R308, R309). -/
def State.overPut (s : State) (cells : List (Nat × Byte)) : State :=
  ((linesOf cells).foldl State.commitLine s).putCells cells

/-! ## Lists of unit data -/

/-- Every element that meets p is replaced by f of it. -/
def updAll {α : Type} (l : List α) (p : α → Bool) (f : α → α) : List α := l.map (fun x => if p x then f x else x)

/-- The value an association list gives k, or d. -/
def aget (l : List (Nat × Nat)) (k d : Nat) : Nat := ((l.find? (fun p => p.1 == k)).map Prod.snd).getD d

/-- The association list with k mapped to v. -/
def aset (l : List (Nat × Nat)) (k v : Nat) : List (Nat × Nat) := (k, v) :: l.filter (fun p => p.1 != k)

/-! ## Event sources (R357, R360) -/

/-- An edge raise of source n (R360): PENDING becomes 1, or the raise merges. -/
def State.raise (s : State) (n : Nat) : State :=
  if s.on .EV_SRC_PENDING n then s.bump .EV_STATS_MERGED else s.wr .EV_SRC_PENDING 1 n

/-- The queue error source of queue q (R55). -/
def State.raiseQueueErr (s : State) (q : Nat) : State := s.raise (0x1000 + q)

/-- The flask source of flask f (R157). -/
def State.raiseFlask (s : State) (f : Nat) : State := s.raise (0x2200 + f)

/-! ## Stale items (R11, R489) -/

/-- The kinds of identifier that carry a generation. -/
inductive StaleKind where
  | queue | flask | mould | node
  deriving DecidableEq, Repr

/-- The counter of a kind. -/
def StaleKind.field : StaleKind → Field
  | .queue => .STALE_DROP_QUEUE
  | .flask => .STALE_DROP_FLASK
  | .mould => .STALE_DROP_MOULD
  | .node => .STALE_DROP_NODE

/-- The code of a kind in CZ_STALE_LAST. -/
def StaleKind.code : StaleKind → Nat
  | .queue => 0
  | .flask => 1
  | .mould => 2
  | .node => 3

/-- An item that names id with generation seen is dropped; now is the current generation (R489). -/
def State.stale (s : State) (k : StaleKind) (id seen now : Nat) : State :=
  ((((s.bump k.field).wr .STALE_LAST_KIND k.code).wr .STALE_LAST_ID id).wr .STALE_LAST_GEN_SEEN seen).wr
    .STALE_LAST_GEN_NOW now

/-! ## Rings in HBM -/

/-- A ring is full when its write index plus 1 equals its read index modulo the capacity; a ring of size 0 has no room. -/
def ringFull (wr rd cap : Nat) : Bool := cap == 0 || (wr + 1) % cap == rd % cap

/-! ## Phases, flasks and granules -/

/-- PHASE READY (R471). -/
def State.ready (s : State) : Bool := s.rd .RAS_STATUS_PHASE == 4

/-- A reset of the whole block is in progress, start-up included. The spec does not say whether PHASE FAILED counts as a
reset in progress; for writes the model takes it so: they are discarded and counted (DESIGN CHOICE, log entry 10). -/
def State.inReset (s : State) : Bool := !s.ready

/-- A BLOCK reset is in progress. -/
def State.blockReset (s : State) : Bool := s.inReset && s.rd .RAS_STATUS_LAST_RESET == 2

/-- The HLP is HEADLESS. -/
def State.headless (s : State) : Bool := s.on .HLP_STATUS_HEADLESS

/-- The host is lost or an orderly detach is in progress (R46, R49). -/
def State.hostAway (s : State) : Bool := s.headless || s.on .HLP_STATUS_DETACHING

/-- Flask states of R379. -/
def flFREE : Nat := 0
def flCREATING : Nat := 1
def flOPEN : Nat := 2
def flSEALING : Nat := 3
def flSEALED : Nat := 4
def flRESETTING : Nat := 5
def flDESTROYING : Nat := 6
def flQUENCHED : Nat := 7

/-- The state of a flask. -/
def State.flaskState (s : State) (f : Nat) : Nat := s.rd .FL_STATE f

/-- The generation of a flask. -/
def State.flaskGen (s : State) (f : Nat) : Nat := s.rd .FL_GEN f

/-- The flask is OPEN, SEALING or SEALED. -/
def State.flaskLive (s : State) (f : Nat) : Bool :=
  s.flaskState f == flOPEN || s.flaskState f == flSEALING || s.flaskState f == flSEALED

/-- What the sealing unit holds for flask f. -/
def State.vault (s : State) (f : Nat) : Vault := (s.vaults.find? (fun v => v.flask == f)).getD { flask := f }

/-- The flask counts as sealed (R379), a migration's target from the import of its bundle (R443). -/
def State.flaskSealed (s : State) (f : Nat) : Bool :=
  s.flaskState f == flSEALING || s.flaskState f == flSEALED ||
  (s.flaskState f == flOPEN && ((s.vault f).sess.any Session.bundled))

/-- The flask is being reset or destroyed. -/
def State.flaskResetting (s : State) (f : Nat) : Bool :=
  s.flaskState f == flRESETTING || s.flaskState f == flDESTROYING

/-- First byte and length of a flask's private range; a FREE flask has none. -/
def State.flaskBase (s : State) (f : Nat) : Nat := s.rd .FL_BASE f * granule
def State.flaskBytes (s : State) (f : Nat) : Nat := s.rd .FL_SIZE f * granule

/-- [a, a + n) lies inside flask f's private range. -/
def State.inFlask (s : State) (f a n : Nat) : Bool := inside a n (s.flaskBase f) (s.flaskBytes f)

/-- The flasks that are not FREE. -/
def State.flasks (s : State) : List Nat := s.listed .FL_STATE

/-- [a, a + n) meets some flask's private range. -/
def State.meetsFlask (s : State) (a n : Nat) : Bool :=
  s.flasks.any (fun f => overlaps a n (s.flaskBase f) (s.flaskBytes f))

/-- The granules of [a, a + n). -/
def granulesOf (a n : Nat) : List Nat :=
  if n = 0 then [] else (List.range ((a + n - 1) / granule - a / granule + 1)).map (fun i => a / granule + i)

/-- Granule g is sealed and not public (R389). -/
def State.granSealed (s : State) (g : Nat) : Bool := s.rd .SEAL_GRAN_SEAL g == 1

/-- Every granule of [a, a + n) is public. -/
def State.allPublic (s : State) (a n : Nat) : Bool := (granulesOf a n).all (fun g => s.rd .SEAL_GRAN_SEAL g == 2)

/-- Areas outside the private ranges that a buffer must not meet (R454): tier pool, handle table, management mould
store, receipt ring, holding ring and staging area, as first byte and length. -/
def State.areas (s : State) : List (Nat × Nat) :=
  [(s.rd .TIER_POOL_BASE * 2 ^ 30, s.rd .TIER_POOL_N1G * 2 ^ 30 + s.rd .TIER_POOL_N32 * granule),
   (s.rd .MC_HTAB_BASE * granule, if s.on .MC_HTAB_EN then granule else 0),
   (s.rd .MB_MSTORE_BASE * 4096, s.rd .MB_MSTORE_SIZE * 2 ^ 20),
   (s.rd .EN_RING_BASE_BASE * 8192, s.rd .EN_RING_BASE_SIZE * 16384),
   (s.rd .HLP_HOLD_BASE_BASE * 4096, s.rd .HLP_HOLD_BASE_SIZE * 4096),
   (s.rd .MIG_STAGE_BASE * granule, s.rd .MIG_STAGE_SIZE * granule)]

/-- [a, a + n) lies in HBM and outside every private range and every area of R454. -/
def State.outsideAll (s : State) (a n : Nat) : Bool :=
  decide (a + n ≤ hbmSize) && !s.meetsFlask a n && !s.areas.any (fun r => overlaps a n r.1 r.2)

/-- What stands in place of a flask's number for a pour of MGMT_RUN, which no flask owns (R459): no flask has it, and every
field reads there as after reset. -/
def noFlask : Nat := 64

/-! ## Flask events (R407) -/

/-- The sealing unit's data of a flask take the value v; data that hold nothing have no entry. -/
def State.setVault (s : State) (v : Vault) : State :=
  let rest := s.vaults.filter (fun w => w.flask != v.flask)
  { s with vaults := if v = { flask := v.flask } then rest else rest ++ [v] }

/-- A happening sets a bit of CZ_FL_CAUSE[f] and raises the flask source, whether the bit was 0 or 1 (R407). -/
def State.flaskCause (s : State) (f : Nat) (c : Field) : State := (s.wr c 1 f).raiseFlask f

/-! ## Host copies of lines (R41) -/

/-- The window whose EN reads 1 and whose host range holds hpa. -/
def State.windowAt (s : State) (hpa : Nat) : Option Nat :=
  (s.listed .WIN_EN).find? (fun n => decide (s.rd .WIN_HBASE n * granule ≤ hpa) &&
    decide (hpa < (s.rd .WIN_HBASE n + s.rd .WIN_SIZE n) * granule))

/-- The HBM local address that window n gives hpa. -/
def State.winAddr (s : State) (n hpa : Nat) : Nat := s.rd .WIN_DBASE n * granule + (hpa - s.rd .WIN_HBASE n * granule)

/-- The line lies in the device range of an enabled coherent window. -/
def State.coherentLine (s : State) (line : Nat) : Bool :=
  (s.listed .WIN_EN).any (fun n => s.on .WIN_COHERENT n &&
    decide (s.rd .WIN_DBASE n * granule ≤ line * 64 ∧ line * 64 < (s.rd .WIN_DBASE n + s.rd .WIN_SIZE n) * granule))

/-- A host core holds a copy of the line. -/
def State.hostHeld (s : State) (line : Nat) : Bool := s.hlp.filter.any (fun h => h.line == line)

/-- A host core holds the line exclusive, so perhaps modified. -/
def State.hostExcl (s : State) (line : Nat) : Bool := s.hlp.filter.any (fun h => h.line == line && h.excl)

/-- The HLP recalls the line from the host, once. -/
def State.recall (s : State) (line : Nat) : State :=
  if s.hlp.recalls.contains line then s
  else { s.say (.recall line) with hlp := { s.hlp with recalls := s.hlp.recalls ++ [line] } }

/-- The HLP asks for the data of the line and leaves one host copy of it, shared: a load ends no reservation (R322 to R324),
and an upgrade leaves the copy of the core that asks for it. -/
def State.recallSoft (s : State) (line : Nat) : State :=
  if s.hlp.recalls.contains line then s
  else let t := s.recall line; { t with hlp := { t.hlp with soft := t.hlp.soft ++ [line] } }

/-- An access waits for the line's recall. -/
def State.waitLine (s : State) (line : Nat) (a : LineAct) : State :=
  let t := s.recall line
  { t with hlp := { t.hlp with waits := t.hlp.waits ++ [{ line := line, act := a }] } }

/-- An access that leaves one host copy of the line waits for its data. -/
def State.waitSoft (s : State) (line : Nat) (a : LineAct) : State :=
  let t := s.recallSoft line
  { t with hlp := { t.hlp with waits := t.hlp.waits ++ [{ line := line, act := a }] } }

/-- The host may hold lines of [a, a + n) modified, so a read of the range first needs them back (R41). -/
def State.dirtyLines (s : State) (a n : Nat) : List Nat :=
  (s.hlp.filter.filter (fun h => h.excl && decide (lineOf a ≤ h.line ∧ h.line * 64 < a + n))).map HostLine.line

/-- Recalls of the lines the host may hold modified in the ranges. -/
def State.recallDirty (s : State) (rs : List (Nat × Nat)) : State :=
  (rs.flatMap (fun r => s.dirtyLines r.1 r.2)).foldl State.recallSoft s

/-- An atomic is a CAS whose compare fails, so that it writes nothing and is a read (R319). -/
def State.casFails (s : State) (addr code z compare : Nat) : Bool :=
  code == 2 && ofLe (s.dieRead addr z) != compare % 2 ^ (8 * z)

/-- A CAS of a line that a host core may hold modified: whether it writes is known once the line's data have come back. -/
def State.readsFirst (s : State) (code line : Nat) : Bool := code == 2 && s.hostExcl line

/-- The line of an atomic, where a host core must first give its copy up, or its data back (R41, R318, R319). -/
def State.atomicHolds (s : State) (addr code z compare : Nat) : Option Nat :=
  let l := lineOf addr
  if s.readsFirst code l || (s.hostHeld l && !s.casFails addr code z compare) then some l else none

/-- The lines of a read of k lines that an answer leaves without data: those that it marks as poisoned, or the first where
it marks none of them, and every one of an error completion. -/
def badLines (ret : Ret) (k : Nat) : List Nat :=
  match ret with
  | .ok _ => []
  | .poison m => let l := (List.range k).filter (bit m); if l.isEmpty then [0] else l
  | .error => List.range k

/-! ## Credits of the host's requests (R27) -/

/-- A credit of pool p goes back to the host. -/
def State.giveCredit (s : State) (p : Pool) : State := s.say (.poolCredit p)

/-- The access of a LineAct of a host core is refused (R38): a read returns all ones with poison, and what else it is, is
discarded. -/
def State.refuseHost (s : State) (a : LineAct) : State :=
  (match a with
  | .read _ tag => s.say (.windowData tag (List.replicate 64 0xFF) true)
  | _ => s).giveCredit .window

/-- The credits that the HLP advertises for a pool. -/
def Pool.credits : Pool → Nat
  | .window => 512
  | .register => 64
  | .doorbell => 256
  | .invalidation => 64
  | .event => 128

/-- The waiting access is one of a host core through a window. -/
def LineAct.ofHost (a : LineAct) : Bool := a.hpa?.isSome

/-- Credits of a pool that the host has spent and that have not been returned: one for each access that has not ended. A
register access, a doorbell and an event completion end within the command that brings them. -/
def State.spent (s : State) : Pool → Nat
  | .window => (s.hlp.waits.filter (fun w => w.act.ofHost)).length + s.hlp.asleep.length
  | .invalidation => (s.xl.invs.filter (fun v => match v.source with | .host _ => true | _ => false)).length
  | _ => 0

/-- The host holds a credit of the pool, so that it may send a request of its classes; each pool counts for itself (R27). -/
def State.credit (s : State) (p : Pool) : Bool := decide (s.spent p < p.credits)

/-- The invalidation that a host broadcast brought with a tag is complete, and its credit goes back (R27, R43). -/
def State.invDone (s : State) (tag : Nat) : State := (s.say (.invCompletion tag)).giveCredit .invalidation

/-- What the home's acknowledgement of a write brings about: the source of a ring record is raised. -/
def State.fire (s : State) (p : Purpose) : State :=
  match p with
  | .event src => s.raise src
  | .receipt f =>
    let cap := s.rd .EN_RING_BASE_SIZE * 2
    let blocks := s.meter.blocks.filter (fun b => !b.written)
    let done := (s.meter.blocks.filter Block.written).flatMap (fun b => b.accs.map Accum.id)
    let accs := s.meter.accs.filter (fun a => !done.contains a.id)
    let t := { s with meter := { s.meter with blocks := blocks, accs := accs } }
    (t.wr .EN_RING_PTRS_WR_IDX ((t.rd .EN_RING_PTRS_WR_IDX + 1) % max cap 1)).raise (0x2240 + f)
  | .hot f => s.flaskCause f .FL_CAUSE_HOT_SHEET
  | .hold => s.wr .HLP_HOLD_PTRS_WR_IDX ((s.rd .HLP_HOLD_PTRS_WR_IDX + 1) % max (s.rd .HLP_HOLD_BASE_SIZE * 128) 1)
  | .errRec => s.wr .RAS_REC_PTRS_WR_IDX ((s.rd .RAS_REC_PTRS_WR_IDX + 1) % max (s.rd .RAS_REC_BASE_SIZE * 128) 1)
  | .elog f =>
    s.wr .CAST_ELOG_PTRS_WR_IDX ((s.rd .CAST_ELOG_PTRS_WR_IDX f + 1) % max (s.rd .CAST_ELOG_BASE_SIZE f * 128) 1) f
  | _ => s

/-- The line that a store to the lines ls, or an atomic, must wait for: the one that the newest store in the home-agent check which
touches a line of ls waits for, so that the stores of a line take effect in order (R262, R349), or else one that a host core
holds (R41). -/
def State.storeBlock (s : State) (ls : List Nat) : Option Nat :=
  let touches (w : LineWait) : Bool := match w.act with | .store st => (linesOf st.cells).any ls.contains | _ => false
  match s.hlp.waits.reverse.find? touches with
  | some w => some w.line
  | none => ls.find? (fun l => s.hostHeld l)

/-- A store of a Celzaig agent or of an engine to lines of coherent windows is committed once no host core holds a copy
of any of its lines (R41, R309). -/
def State.homeStore (s : State) (st : BufStore) : State :=
  match s.storeBlock (linesOf st.cells) with
  | some l => s.waitLine l (.store st)
  | none => (s.overPut st.cells).fire st.purpose

/-- The block writes bs at HBM address a, on its own behalf or for the pour of context c with a root pour. -/
def State.ownWrite (s : State) (a : Nat) (bs : List Byte) (id : Nat := 0) (p : Purpose := .log) (c : Nat := 512)
    (root : Option PourId := none) : State :=
  s.homeStore { id := id, ctl := 0, cells := cellsAt a bs, ctx := c, root := root, purpose := p }

/-- A record for a ring, of a purpose, stands in the home-agent check: the ring's write index moves once it is written. -/
def State.parkedFor (s : State) (p : Purpose) : Bool :=
  s.hlp.waits.any (fun w => match w.act with | .store st => st.purpose == p | _ => false)

/-! ## Error records (R485 to R487) -/

/-- The record is written to the slot that WR_IDX names, as a store of the block, and WR_IDX moves on. -/
def State.errPut (s : State) (bs : List Byte) : State :=
  s.ownWrite (s.rd .RAS_REC_BASE_BASE * 4096 + s.rd .RAS_REC_PTRS_WR_IDX * 32) bs 0 .errRec

/-- The 32 B record goes to the error-record ring, behind those that wait there for a host copy of a line to be given up, or
is counted as lost (R485). -/
def State.errRecord (s : State) (bs : List Byte) : State :=
  let ahead := s.errWait.length + b2n (s.parkedFor .errRec)
  if ringFull (s.rd .RAS_REC_PTRS_WR_IDX + ahead) (s.rd .RAS_REC_PTRS_RD_IDX) (s.rd .RAS_REC_BASE_SIZE * 128) then
    (s.bump .RAS_COUNT_REC_LOST).wr .RAS_ERR_REC_FULL 1
  else if ahead = 0 then s.errPut bs
  else { s with errWait := s.errWait ++ [bs] }

/-- Error records that waited behind another go to the ring. -/
def State.drainErr (s : State) : State :=
  s.errWait.foldl (fun t bs =>
    if t.parkedFor .errRec then { t with errWait := t.errWait ++ [bs] } else t.errPut bs) { s with errWait := [] }

/-- The fields of a RAS error record (R486). -/
structure RasRec where
  addr     : Nat := 0
  severity : Nat
  unit     : Nat
  code     : Nat
  flask    : Nat := 0
  fgen     : Nat := 0
  index    : Nat := 0
  pour     : Nat := 0
  deriving DecidableEq, Repr

/-- The 32 bytes of a RAS error record (R486). -/
def RasRec.bytes (r : RasRec) (time : Nat) : List Byte :=
  leBytes 8 (r.addr % 2 ^ 56 + 0xF * 2 ^ 56 + r.severity * 2 ^ 60) ++
  leBytes 8 (r.unit + r.code * 2 ^ 8 + r.flask % 64 * 2 ^ 16 + r.fgen * 2 ^ 22 + r.index * 2 ^ 32) ++
  leBytes 8 r.pour ++ leBytes 8 time

/-- A RAS error record is written. -/
def State.ras (s : State) (r : RasRec) : State := s.errRecord (r.bytes (s.clock .core))

/-! ## Register writes -/

/-- Field f is RWS for a flask that is sealed, or has been sealed since its creation: the write has no effect (R6). -/
def State.locked (s : State) (f : Field) (i : Nat) : Bool :=
  match f.row.access with
  | .RWS => s.flaskSealed i || (s.vault i).everSealed
  | _ => false

/-- Element i of field f under its access code takes the bits v that the write carries (R6). -/
def State.fieldWrite (s : State) (f : Field) (i v : Nat) : State :=
  match f.row.access with
  | .RO => s
  | .RW => s.wr f v i
  | .WO => s
  | .W1C => s.wr f (s.rd f i - (s.rd f i &&& v)) i
  | .W1S => s.wr f (s.rd f i ||| v) i
  | .RWS => if s.locked f i then s else s.wr f v i

/-- The offset of the register that holds element i of a field. -/
def Row.regOff (r : Row) (i : Nat) : Nat := r.base + i / r.perReg * r.stride

/-- The lowest bit of element i in its register. -/
def Row.bitOf (r : Row) (i : Nat) : Nat := r.lo + r.bitStep * (i % r.perReg)

/-- Element i exists. -/
def Row.has (r : Row) (i : Nat) : Bool := decide (i < r.count) && (r.cols == 0 || decide (i % r.cols < r.colLimit))

/-- The elements of field f that lie in the register at offset off. -/
def Field.elemsAt (f : Field) (off : Nat) : List Nat :=
  let r := f.row
  if r.config ∨ off < r.base then []
  else if r.stride = 0 then (if off = r.base then [0] else [])
  else if (off - r.base) % r.stride ≠ 0 then []
  else ((List.range r.perReg).map (fun k => (off - r.base) / r.stride * r.perReg + k)).filter r.has

/-- The elements of all fields in the 64-bit register at offset off. -/
def fieldsAt (off : Nat) : List (Field × Nat) :=
  Field.all.foldr (fun f acc => (f.elemsAt off).map (fun i => (f, i)) ++ acc) []

/-- The bits of element i that a write of `size` bytes at byte `half` of its register carries: all of them, or none of a
field that the write does not reach whole (R493). -/
def reaches (lo width size half : Nat) : Bool :=
  size == 8 || (if half = 0 then decide (lo + width ≤ 32) else decide (32 ≤ lo))

/-- A 4-byte write that touches a field spanning bits 31 and 32 (R493). -/
def spans (lo width size : Nat) : Bool := size != 8 && decide (lo < 32) && decide (32 < lo + width)

/-- The write of fields field by field (R6, R493): those wholly in the written half change under their access codes, and a
field that spans the halves stays and is reported. -/
def State.writeFields (s : State) (size half val : Nat) (fs : List (Field × Nat)) : State :=
  let v := if half = 0 then val else val * 2 ^ 32
  fs.foldl (fun t p =>
    let r := p.1.row
    let lo := r.bitOf p.2
    if spans lo r.width size then t.wr .HLP_ERR_BAD_REG 1
    else if reaches lo r.width size half then t.fieldWrite p.1 p.2 (bits v lo r.width) else t) s

/-- A write to a register that holds its fields: nothing changes, but a field that spans the halves is reported (R493). -/
def State.heldWrite (s : State) (off size : Nat) : State :=
  if (fieldsAt off).any (fun p => spans (p.1.row.bitOf p.2) p.1.row.width size) then s.wr .HLP_ERR_BAD_REG 1 else s

/-- The write of a register. -/
def State.regWrite (s : State) (off size half val : Nat) : State := s.writeFields size half val (fieldsAt off)

/-- The 64-bit value that the stored fields of the register at offset off make up. -/
def State.regValue (s : State) (off : Nat) : Nat :=
  (fieldsAt off).foldl (fun v p => v + (if p.1.row.access = .WO then 0 else s.rd p.1 p.2) * 2 ^ p.1.row.bitOf p.2) 0

end Sys2Proof.Machine
end

