-- ==== Sys2Proof/Machine/Flags.lean ====
section
/-! DEFINITION. The error registers and the level lines they drive (R357, R488). -/
namespace Sys2Proof.Machine

/-- The bits of the error register of a unit (R488). -/
def errFields (unit : Nat) : List Field :=
  match unit with
  | 0x0 => [.HLP_ERR_UNSUP, .HLP_ERR_BAD_REG, .HLP_ERR_BAD_DB, .HLP_ERR_NO_WINDOW, .HLP_ERR_RIGHTS,
      .HLP_ERR_SEALED, .HLP_ERR_WIN_CFG, .HLP_ERR_ATTACH_EPOCH, .HLP_ERR_LOST_LINES, .HLP_ERR_HOLD_FULL]
  | 0x2 => [.SEQ_ERR_SPAWN_REFUSED, .SEQ_ERR_RT_GROUPS, .SEQ_ERR_LEND_OVERRUN, .SEQ_ERR_DEADLOCK]
  | 0x3 => [.RT_ERR_BAD_TABLE, .RT_ERR_TOKENS, .RT_ERR_POISON, .RT_ERR_RESIDUE]
  | 0x4 => [.XL_ERR_PURGE_TIMEOUT, .XL_ERR_WALK_ERR, .XL_ERR_INV_OVERRUN, .XL_ERR_FRING_FULL, .XL_ERR_BAD_ATLAS]
  | 0x5 => [.HAP_ERR_BAD_REQ, .HAP_ERR_RD_POISON, .HAP_ERR_WR_ERR, .HAP_ERR_ATOMIC_ERR, .HAP_ERR_BLOCK_DISCARD,
      .HAP_ERR_HOST_DROP]
  | 0x6 => [.CAST_ERR_BAD_DESC, .CAST_ERR_AUTH_FAIL, .CAST_ERR_EGRESS_CRC, .CAST_ERR_SPARSITY, .CAST_ERR_RESIDUE,
      .CAST_ERR_KEY_REVOKED, .CAST_ERR_SEAL_PARTIAL, .CAST_ERR_ELOG_FULL]
  | 0x7 => [.PEER_ERR_INBOUND_DENIED, .PEER_ERR_BUSY_SENT, .PEER_ERR_SIG_REFUSED, .PEER_ERR_NODE_TIMEOUT,
      .PEER_ERR_NODE_LOST, .PEER_ERR_BIND_CFG, .PEER_ERR_ATTACH_FAIL]
  | 0x8 => [.EV_ERR_DENIED, .EV_ERR_BAD_STORE, .EV_ERR_BAD_COMPL]
  | 0x9 => [.FL_ERR_CMD_AUTH, .FL_ERR_CMD_SEQ, .FL_ERR_FOREIGN_MOULD, .FL_ERR_KYRDO_TIMEOUT]
  | 0xA => [.EN_ERR_RAIL_MISSING, .EN_ERR_CLAMPED, .EN_ERR_NO_ACC, .EN_ERR_RING_FULL, .EN_ERR_KYRDO_TIMEOUT,
      .EN_ERR_ENG_MISSING]
  | 0xB => [.MB_ERR_DONE, .MB_ERR_BAD_SUBMIT, .MB_ERR_WATCHDOG]
  | 0xC => [.RAS_ERR_BLOCK_FAULT, .RAS_ERR_SRAM_UE, .RAS_ERR_LOCKSTEP, .RAS_ERR_HBM_UE, .RAS_ERR_REC_FULL,
      .RAS_ERR_COMPL_WRITE, .RAS_ERR_RESET_WRITE, .RAS_ERR_SELFTEST, .RAS_ERR_DROWSE_REFUSED]
  | _ => []

/-- The units that have an error register. -/
def errUnits : List Nat := [0, 2, 3, 4, 5, 6, 7, 8, 9, 0xA, 0xB, 0xC]

/-- The line of a unit's management and RAS source: its error register holds a bit at 1. -/
def State.line (s : State) (unit : Nat) : Bool := (errFields unit).any (fun f => s.on f)

/-- The PENDING bit held for the level source of a unit is brought to its line (R361). What a read and a selection see is
State.pendingOf, which reads the line itself. -/
def State.followLine (s : State) (unit : Nat) : State :=
  let n := 0x3F00 + unit
  s.wr .EV_SRC_PENDING (b2n (s.line unit && !s.on .EV_SRC_ACTIVE n)) n

end Sys2Proof.Machine
end

