-- ==== Sys2Proof/Machine/Mail.lean ====
section
/-! DEFINITION. The mailbox shared by every command of R455: slot states, the checks of R447, the order of starts of
R450, and the reply. -/
namespace Sys2Proof.Machine

/-! ## Slots (R445, R446) -/

/-- Slot states of R446. -/
def mbFREE : Nat := 0
def mbQUEUED : Nat := 1
def mbRUNNING : Nat := 2
def mbDONE : Nat := 3

/-- The state of slot n. -/
def State.slotState (s : State) (n : Nat) : Nat := bits (s.rd .MB_STATE_STATE) (2 * n) 2

/-- Slot n goes to state v. -/
def State.setSlot (s : State) (n v : Nat) : State := s.wr .MB_STATE_STATE (setBits (s.rd .MB_STATE_STATE) (2 * n) 2 v)

/-- Parameter doubleword i of slot n. -/
def State.par (s : State) (n i : Nat) : Nat := s.rd .MB_P (n * 128 + i)

/-- The opcode of slot n. -/
def State.opcode (s : State) (n : Nat) : Nat := s.rd .MB_CMD_OPCODE n

/-- The reply fields of slot n become zero (R446). -/
def State.clearReply (s : State) (n : Nat) : State :=
  let t := s.rstAll [.MB_RPL_STATUS, .MB_RPL_OPCODE, .MB_RPL_TAG, .MB_RPL_RLEN, .MB_RPL_RESUMED] n
  (List.range 30).foldl (fun t i => t.wr .MB_OUT 0 (n * 128 + i)) t

/-- Statuses of R448. -/
def stOK : Nat := 0
def stBUSY : Nat := 1
def stBADOP : Nat := 2
def stBADARG : Nat := 3
def stNORES : Nat := 4
def stSTATE : Nat := 5
def stDENIED : Nat := 6
def stUPDATING : Nat := 7
def stTIMEOUT : Nat := 8
def stPARTIAL : Nat := 9

/-- The reply of slot n is written in full and the slot becomes DONE (R445, R446). -/
def State.reply (s : State) (n status : Nat) (outs : List Nat := []) : State :=
  let t := ((s.wr .MB_RPL_STATUS status n).wr .MB_RPL_OPCODE (s.opcode n) n).wr .MB_RPL_TAG (s.rd .MB_CMD_TAG n) n
  let t := t.wr .MB_RPL_RLEN outs.length n
  let t := (List.range outs.length).foldl (fun t i => t.wr .MB_OUT (nth outs i 0) (n * 128 + i)) t
  let t := if s.on .MB_CMD_NOTIFY n then t.wr .MB_ERR_DONE 1 else t
  t.setSlot n mbDONE

/-- Every slot of ns replies. -/
def State.replyAll (s : State) (ns : List Nat) (status : Nat) (outs : List Nat := []) : State :=
  ns.foldl (fun t n => t.reply n status outs) s

/-! ## The opcode table (R455): the length and the named bits of each parameter -/

/-- Named bits of P0 (R453). -/
def mFREF : Nat := 0xFFFF
def mFLASK : Nat := 0x3F
def mID : Nat := 0xFFF0000
def mIDGEN : Nat := 0xFF0000000
def mFLAG (lo width : Nat) : Nat := (2 ^ width - 1) * 2 ^ (48 + lo)
def mADDR : Nat := 2 ^ 44 - 1
def mALL : Nat := 2 ^ 64 - 1
def mLOW (w : Nat) : Nat := 2 ^ w - 1

/-- For a known opcode, the named bits of each of its parameters; the list's length is PLEN. p0 is the P0 of the slot,
from which FLASK_SEAL and FLASK_THAW take their length. -/
def opParams (op p0 : Nat) : Option (List Nat) :=
  match op with
  | 0x0001 => some []
  | 0x0010 => some [mFLASK + mFLAG 0 1, mALL, 0x3FFF3FFF, 0xFFFFFFFF01FFFFFF, 0xFFFFFFFFFFF, mALL]
  | 0x0011 => some ((mFREF + mFLAG 0 7) :: List.replicate (min (bits p0 48 7) 64) mALL)
  | 0x0012 => some [mFREF]
  | 0x0013 => some [mFREF]
  | 0x0014 => some [mFREF, mADDR, mADDR]
  | 0x0015 => some ([mFREF] ++ List.replicate 6 mALL ++ [mADDR])
  | 0x0016 => some [mFLAG 0 1, mADDR]
  | 0x0017 => some [mFREF]
  | 0x0020 => some [mFREF + mID, 0xFFFFFFFFFF001, 0xFFFFFFFFFF001, 0xFFFF031F, mLOW 20, mALL, mLOW 44]
  | 0x0021 => some [mID + mIDGEN]
  | 0x0022 => some [mID + mIDGEN + mFLAG 0 1]
  | 0x0023 => some [mALL]
  | 0x0030 => some [mFREF + mFLAG 0 2, mADDR, mLOW 32, mADDR]
  | 0x0031 => some [mFREF, mLOW 32]
  | 0x0032 => some [0, mLOW 40, mALL]
  | 0x0040 => some [mFREF, mLOW 20, mADDR]
  | 0x0041 => some [mFREF, mLOW 20]
  | 0x0042 => some [mFREF + mFLAG 0 1, mLOW 20, if bits p0 48 1 = 1 then mALL else 0]
  | 0x0043 => some [mFREF + mFLAG 0 1, mLOW 16]
  | 0x0050 => some [mID + mIDGEN]
  | 0x0051 => some [mID + mIDGEN + mFLAG 0 1]
  | 0x0060 => some [mFREF, mLOW 32, mADDR, mLOW 32]
  | 0x0061 => some ([mFREF + mFLAG 0 6, mADDR] ++ List.replicate (min (bits p0 49 5) 16) 0xFFFFF000FFFFF)
  | 0x0062 => some [mFREF, mADDR]
  | 0x0063 => some [mFREF, mADDR, mLOW 15, mADDR]
  | 0x0064 => some [mFREF, mADDR, mLOW 15]
  | 0x0065 => some [mFREF + mFLAG 0 1, if bits p0 48 1 = 1 then 0 else mALL]
  | 0x0066 => some [mFREF + mFLAG 0 1, mADDR, if bits p0 48 1 = 1 then 0 else mLOW 32]
  | 0x0070 => some [mFLAG 0 4, mADDR, mLOW 32]
  | 0x0071 => some [mFLAG 0 4]
  | 0x0072 => some [mFLAG 0 4]
  | 0x0073 => some [mFLAG 0 2]
  | 0x0074 => some []
  | _ => none

/-- The values of P0's flags that R455 singles out as failing step 2 of R447. -/
def badFlags (op p0 : Nat) : Bool :=
  match op with
  | 0x0011 => decide (64 < bits p0 48 7)
  | 0x0061 => decide (16 < bits p0 49 5)
  | 0x0070 | 0x0071 | 0x0072 => bits p0 48 4 != 2 && bits p0 48 4 != 3
  | 0x0073 => bits p0 48 2 == 1
  | _ => false

/-- Steps 1 and 2 of R447 for slot n: the status they fail with, if any. -/
def State.mbCheck (s : State) (n : Nat) : Option Nat :=
  let p0 := s.par n 0
  match opParams (s.opcode n) p0 with
  | none => some stBADOP
  | some ms =>
    if s.rd .MB_CMD_PLEN n ≠ ms.length then some stBADARG
    else if badFlags (s.opcode n) p0 then some stBADARG
    else if (List.range ms.length).any (fun i => s.par n i &&& (mALL - nth ms i 0) != 0) then some stBADARG
    else none

/-! ## The order of starts (R450) -/

/-- The objects a command can share. -/
inductive Obj where
  | flask (f : Nat)
  | queue (q : Nat)
  | handle (i : Nat)
  | pasid (p : Nat)
  | node (n : Nat)
  | package
  deriving DecidableEq, Repr

/-- The objects that the command in slot n touches. -/
def State.objects (s : State) (n : Nat) : List Obj :=
  let p0 := s.par n 0
  let f := bits p0 0 6
  let q := bits p0 16 12
  let owner (q : Nat) : List Obj := if s.rd .QCTX_STATE q = 0 then [] else [.flask (s.rd .QCTX_FLASK q)]
  let atlas (p : Nat) : List Obj :=
    ((s.listed .XL_ATLAS_VALID).filter (fun a => s.rd .XL_ATLAS_PASID a == p)).map
      (fun a => Obj.flask (s.rd .XL_ATLAS_FLASK a))
  match s.opcode n with
  | 0x0020 => .flask f :: .queue q :: .pasid (bits (s.par n 4) 0 20) :: (owner q ++ atlas (bits (s.par n 4) 0 20))
  | 0x0021 | 0x0022 => .queue q :: owner q
  | 0x0023 => .queue (bits p0 52 12) :: owner (bits p0 52 12)
  | 0x0031 | 0x0032 =>
    let i := bits (s.par n 1) 0 20
    .handle i :: (if s.opcode n = 0x0032 then [.package] else if p0 = 0 then [] else [.flask f]) ++
      (match s.moulds.table.find? (fun m => m.idx == i) with | some m => (m.flask.map Obj.flask).toList | none => [])
  | 0x0030 => if bit p0 49 then [] else [.flask f]
  | 0x0040 | 0x0041 | 0x0042 => let p := bits (s.par n 1) 0 20; .flask f :: .pasid p :: atlas p
  | 0x0050 | 0x0051 => [.node q]
  | 0x0070 | 0x0071 | 0x0072 | 0x0073 | 0x0074 => [.package]
  | 0x0061 =>
    let ps := (List.range (min (bits p0 49 5) 16)).map (fun i => bits (s.par n (2 + i)) 32 20)
    .flask f :: (ps.map Obj.pasid ++ ps.flatMap atlas)
  | 0x0010 | 0x0011 | 0x0012 | 0x0013 | 0x0014 | 0x0015 | 0x0017 | 0x0043 | 0x0060 | 0x0062 | 0x0063
  | 0x0064 | 0x0065 | 0x0066 => [.flask f]
  | _ => []

/-- Slot n is submitted and not started. -/
def State.unstarted (s : State) (n : Nat) : Bool :=
  s.slotState n == mbQUEUED || (s.slotState n == mbRUNNING && s.mbox.order.contains n)

/-- The command in slot n has not started, and every command accepted before it with which it shares an object has (R450). -/
def State.mayStart (s : State) (n : Nat) : Bool :=
  s.unstarted n &&
  (s.mbox.order.takeWhile (fun m => m != n)).all (fun m => !(s.objects m).any (fun o => (s.objects n).contains o))

/-- Every submitted slot is accepted, whatever the other slots are doing: a management core takes it and it becomes RUNNING
(R446, R449). Before READY it stays QUEUED (R471). -/
def State.acceptSlots (s : State) : State :=
  if s.ready then (s.mbox.order.filter (fun n => s.slotState n == mbQUEUED)).foldl (fun t n => t.setSlot n mbRUNNING) s else s

/-- The sequencers load a committed image: no pour is admitted until they have done so (R464). -/
def State.loading (s : State) : Bool := s.mbox.switches.any (fun w => w.comp == 3)

/-- The command in slot n starts; a slot that no core has taken yet becomes RUNNING (R446). -/
def State.takeSlot (s : State) (n : Nat) : State :=
  { s.setSlot n mbRUNNING with mbox := { s.mbox with order := s.mbox.order.filter (fun m => m != n) } }

/-! ## Claims (R450) -/

/-- The public runs of a FLASK_SEAL in slot n: first granule and count, from the range start (R380). -/
def State.sealRuns (s : State) (n : Nat) : List (Nat × Nat) :=
  (List.range (bits (s.par n 0) 48 7)).map (fun i => (bits (s.par n (i + 1)) 0 32, bits (s.par n (i + 1)) 32 32))

/-- Every granule of flask f takes a SEAL value by its number from the range start. -/
def State.setSeals (s : State) (f : Nat) (v : Nat → Nat) : State :=
  (List.range (s.rd .FL_SIZE f)).foldl (fun t i => t.wr .SEAL_GRAN_SEAL (v i) (s.rd .FL_BASE f + i)) s

/-- The SEAL value that a seal with the given public runs leaves (R381). -/
def sealedAs (runs : List (Nat × Nat)) (i : Nat) : Nat := if runs.any (fun r => decide (r.1 ≤ i ∧ i < r.1 + r.2)) then 2 else 1

/-- The flasks and slots of the seals that wait for Kyrdo. -/
def State.sealsAsked (s : State) : List (Nat × Nat) :=
  s.kyreqs.filterMap (fun r => match r.ask with | .create => some (r.flask, r.slot) | _ => none)

/-- The state as a command's checks see it: a started FLASK_SEAL claims SEALING and the SEAL of its granules. -/
def State.claim (s : State) : State :=
  s.sealsAsked.foldl (fun t p => (t.wr .FL_STATE flSEALING p.1).setSeals p.1 (sealedAs (s.sealRuns p.2))) s

/-- The claims of seals that still wait for Kyrdo are taken back. -/
def State.unclaim (s : State) : State :=
  s.sealsAsked.foldl (fun t p =>
    if t.flaskState p.1 = flSEALING then (t.wr .FL_STATE flOPEN p.1).setSeals p.1 (fun _ => 0) else t) s

/-- A started command for flask f that meets p waits for Kyrdo: it claims what its rule sets. -/
def State.claimed (s : State) (f : Nat) (p : KyAsk → Bool) : Bool := s.kyreqs.any (fun r => r.flask == f && p r.ask)

/-- The asks of MIG_ACCEPT, MIG_BIND, MIG_EXPORT and MIG_IMPORT of a bundle, and CONFIRM. -/
def KyAsk.isAccept (a : KyAsk) : Bool := match a with | .accept _ _ => true | _ => false
def KyAsk.isBind (a : KyAsk) : Bool := match a with | .bind _ => true | _ => false
def KyAsk.isImport (a : KyAsk) : Bool := match a with | .import_ _ _ => true | _ => false
def KyAsk.isConfirm (a : KyAsk) : Bool := match a with | .confirm _ _ => true | _ => false

/-- Flask f is EXPORTED, or a started MIG_EXPORT of its bundle claims it (R442, R450). -/
def State.exported (s : State) (f : Nat) : Bool := s.rd .QN_PHASE f == 4 || s.claimed f (fun a => a == .bundle)

/-! ## States that refuse a whole class of commands (R427, R432, R442, R478) -/

/-- A POWER_SET waits for its drain, or the block is in DROWSE or leaving it: the command in slot n replies BUSY. -/
def State.powerBusy (s : State) (n op : Nat) : Bool :=
  op != 0x0001 && op != 0x0073 && op != 0x0074 &&
  (match s.power with
   | some w => !w.prior.contains n
   | none => s.rd .PWR_STATUS_STATE == 2 || s.exit.isSome)

/-- The generations that the command in slot n names are current: an item that names an old one is dropped before anything
else is said of it (R11). -/
def State.current (s : State) (n op : Nat) : Bool :=
  let p0 := s.par n 0
  let h := s.par n 1
  match op with
  | 0x0021 | 0x0022 => bits p0 28 8 == s.rd .QCTX_GEN (bits p0 16 12)
  | 0x0023 => bits p0 44 8 == s.rd .QCTX_GEN (bits p0 52 12)
  | 0x0011 | 0x0012 | 0x0013 | 0x0014 | 0x0015 | 0x0017 | 0x0020 | 0x0030 | 0x0040 | 0x0041 | 0x0042 | 0x0043 | 0x0060 | 0x0061
  | 0x0062 | 0x0063 | 0x0064 | 0x0065 | 0x0066 => bits p0 6 10 == s.flaskGen (bits p0 0 6)
  | 0x0031 => bits p0 6 10 == s.flaskGen (bits p0 0 6) && bits h 20 12 == aget s.moulds.gens (bits h 0 20) 0
  | _ => true

/-- The reply that the state of a flask gives every command for it but a few: BUSY while it drains (R427), STATE while it
is QUENCHED (R432) or EXPORTED (R442). For a MOULD_UNLOAD it comes before the rows of R120, which gives no order between them
(DESIGN CHOICE, log entry 152). -/
def State.flaskGate (s : State) (n op : Nat) : Option Nat :=
  let fs := (s.objects n).filterMap (fun o => match o with | .flask f => some f | _ => none)
  if !s.current n op then none
  else if fs.any s.exported && op != 0x0013 && op != 0x0010 then some stSTATE
  else if fs.any (fun f => s.quenches.any (fun q => q.flask == f)) &&
      !([0x0010, 0x0012, 0x0013, 0x0015, 0x0017, 0x0042, 0x0043, 0x0060].contains op) then some stBUSY
  else if fs.any (fun f => s.flaskState f == flQUENCHED) &&
      !([0x0010, 0x0012, 0x0013, 0x0015, 0x0017, 0x0061, 0x0062, 0x0063, 0x0064, 0x0065, 0x0066].contains op) then some stSTATE
  else none

/-- A sealed command that the state of its flask refuses counts as refused (R388). -/
def State.noteRefused (s : State) (op st : Nat) : State :=
  if op = 0x0014 && st = stSTATE then s.bump .FL_STATS_CMD_REFUSED else s

/-- The start point of the command in slot n for opcode op: nothing happens unless the block is READY and the slot may
start; a command that fails steps 1 or 2 of R447 replies so; a command of another opcode is left to its own row; else
the command's own body runs from its start point. -/
def State.mbRun (s : State) (n op : Nat) (body : State → State) : State :=
  if !(s.ready && s.mayStart n) then s
  else
    match opParams (s.opcode n) (s.par n 0) with
    | none => (s.takeSlot n).reply n stBADOP
    | some _ =>
      if s.opcode n ≠ op then s
      else match s.mbCheck n with
        | some st => (s.takeSlot n).reply n st
        | none =>
          if s.powerBusy n op then (s.takeSlot n).reply n stBUSY
          else match s.flaskGate n op with
            | some st => ((s.takeSlot n).noteRefused op st).reply n st
            | none => (body (s.takeSlot n).claim).unclaim

/-- FREF of slot n: flask and generation (R453). -/
def State.fref (s : State) (n : Nat) : Nat × Nat := (bits (s.par n 0) 0 6, bits (s.par n 0) 6 10)

/-- The generation of slot n's FREF is the flask's. -/
def State.frefOk (s : State) (n : Nat) : Bool := (s.fref n).2 == s.flaskGen (s.fref n).1

/-- The drop of a command whose FREF names an old generation (R11). -/
def State.frefStale (s : State) (n : Nat) : State := s.stale .flask (s.fref n).1 (s.fref n).2 (s.flaskGen (s.fref n).1)

end Sys2Proof.Machine
end

