-- ==== Sys2Proof/Machine/Pour.lean ====
section
/-! DEFINITION. Operations on pours that every unit shares: contexts, host copies of lines, completion records, the end
of a pour (R154 to R156), the lanes a pour leaves behind, and the end of a queue's destruction (R76). -/
namespace Sys2Proof.Machine

/-! ## Contexts -/

/-- The context numbered c. -/
def State.ctx? (s : State) (c : Nat) : Option Ctx := s.ctxs.find? (fun x => x.num == c)

/-- Context c is replaced by f of it. -/
def State.modCtx (s : State) (c : Nat) (f : Ctx → Ctx) : State :=
  { s with ctxs := updAll s.ctxs (fun x => x.num == c) f }

/-- The contexts of the tree of root context r. -/
def State.tree (s : State) (r : Nat) : List Ctx := s.ctxs.filter (fun x => x.root == r)

/-- The root context of a pour's tree. -/
def State.rootOf (s : State) (x : Ctx) : Ctx := (s.ctx? x.root).getD x

/-- n units of class cls are counted against ch, in the calibration window that runs (R412); bytes for classes 8 to 11. -/
def State.countFor (s : State) (ch : Charge) (cls n : Nat) : State :=
  let w := s.time / 1000000
  let same (k : Count) : Bool := k.charge == ch && k.window == w && k.cls == cls
  if n = 0 then s
  else if s.meter.counts.any same then
    { s with meter := { s.meter with counts := updAll s.meter.counts same (fun k => { k with n := k.n + n }) } }
  else { s with meter := { s.meter with counts := s.meter.counts ++ [{ charge := ch, window := w, cls := cls, n := n }] } }

/-- n units of class cls are counted for the pour of context c (R408, R412). -/
def State.count (s : State) (c cls n : Nat) : State :=
  match s.ctx? c with
  | none => s
  | some x => s.countFor (s.rootOf x).charge cls n

/-- n bytes of class cls are counted for the root pour p, while a context holds it or the meter still knows its charge. -/
def State.countPour (s : State) (p : PourId) (cls n : Nat) : State :=
  match s.ctxs.find? (fun x => x.pour == p && x.depth == 0) with
  | some x => s.countFor x.charge cls n
  | none => match s.meter.spans.find? (fun q => q.pour == p) with
    | some q => s.countFor q.charge cls n
    | none => s

/-- The mailbox writes bs at HBM address a for flask f; the bytes moved are overhead of the flask (R414, R415). -/
def State.mailWrite (s : State) (f a : Nat) (bs : List Byte) : State :=
  (s.ownWrite a bs).countFor (.overhead f) 9 bs.length

/-- The mould of a context. -/
def State.mould? (s : State) (idx gen : Nat) : Option Mould :=
  s.moulds.table.find? (fun m => m.idx == idx && m.gen == gen && m.loaded)

/-- The engines of global group g. -/
def enginesOf (g : Nat) : List Nat := (List.range 8).map (fun i => 8 * g + i)

/-- Whether a real-time queue reserves group g (R68). -/
def State.reservedBy (s : State) (g : Nat) : Bool :=
  (s.listed .QCTX_RT).any (fun q => bit (s.rd .QCTX_RT_GROUPS q) g)

/-- The real-time queues in existence (R64, R68). -/
def State.rtQueues (s : State) : Nat :=
  (s.listed .QCTX_RT).length

/-- A FLASK reset of flask f is called for. -/
def State.callFlask (s : State) (f : Nat) : State := { s with calls := s.calls ++ [.flask f] }

/-- A BLOCK reset is called for. -/
def State.callBlock (s : State) : State := { s with calls := s.calls ++ [.block] }

/-- An uncorrectable HBM error that a Celzaig agent has read (R484): the record, with the line's address, and
CZ_POISON.RD. -/
def State.hbmUe (s : State) (addr unit severity index flask pour : Nat) (code : Nat := 5) : State :=
  ((s.ras { addr := addr % 2 ^ 44 / 64 * 64 + s.rd .PEER_CTL_NODE_ID * 2 ^ 44, severity := severity, unit := unit, code := code, flask := flask, fgen := s.flaskGen flask,
            index := index, pour := pour }).bump .POISON_RD).wr .RAS_ERR_HBM_UE 1

/-! ## Lanes -/

/-- What engine e's lane holds. -/
def State.lane (s : State) (e : Nat) : Lane := (s.lanes.find? (fun l => l.eng == e)).getD { eng := e }

/-- Engine e's lane takes the value l; a lane that holds nothing has no entry. Its group has had work until now (R477). -/
def State.setLane (s : State) (l : Lane) : State :=
  let rest := s.lanes.filter (fun k => k.eng != l.eng)
  { s with lanes := if l = { eng := l.eng } then rest else rest ++ [l], groupUse := aset s.groupUse (l.eng / 8) s.time }

/-- Kernel k. -/
def State.kernel? (s : State) (k : Nat) : Option Kernel := s.kernels.find? (fun x => x.id == k)

/-- Kernel k is replaced by f of it. -/
def State.modKernel (s : State) (k : Nat) (f : Kernel → Kernel) : State :=
  { s with kernels := updAll s.kernels (fun x => x.id == k) f }

/-- A SERIAL record may be released: no earlier kernel of its pour is left (R139). -/
def State.released (s : State) (k : Kernel) : Bool :=
  !k.serial || !(s.kernels.takeWhile (fun j => j.id != k.id)).any (fun j => j.ctx == k.ctx)

/-- The pinned entry that holds an address (R216). -/
def Ctx.pinFor (x : Ctx) (va : Nat) : Option Pin :=
  x.pins.find? (fun p => decide (p.leaf.va ≤ va ∧ va < p.leaf.va + p.leaf.size))

/-- A kernel's code address and the VA arguments it was issued with. -/
def Kernel.addrs (k : Kernel) : List Nat :=
  k.code :: ((k.args.zip k.vaArgs).filter (fun p => p.2)).map (fun p => p.1.toNat)

/-- The pinned grants of kernel k: one for its code and one for each VA argument that has an entry (R217, R218). -/
def State.pinnedGrants (s : State) (k : Kernel) : List Leaf :=
  match s.ctx? k.ctx with
  | some x => if k.phys then ((k.addrs.filterMap x.pinFor).map Pin.leaf).eraseDups else []
  | none => []

/-- The lane records of kernel k that no engine has started carry a stale address (R224). -/
def State.staleKernel (s : State) (k : Kernel) : Bool :=
  k.phys && (match s.ctx? k.ctx with
    | some x => k.addrs.any (fun a => (x.pinFor a).any Pin.stale)
    | none => false)

/-- The lane record of kernel k for engine e carries PRELOAD 1 (R140). -/
def Kernel.preloads (k : Kernel) (e : Nat) : Bool := k.preload && !k.noPre.contains e

/-- Kernel k starts on engine e (R140, R158, R161): a start counts as an advance. The engine loads the pinned grants of a
PHYS kernel first (R217). -/
def State.startOn (s : State) (e k : Nat) : State :=
  let gs := ((s.kernel? k).map s.pinnedGrants).getD []
  let s := if (s.kernel? k).any Kernel.phys then s.say (.pinned e k gs) else s
  let t := s.setLane { s.lane e with running := some k, grants := gs, loadAt := s.nextId, since := s.time, moved := s.time }
  let t := t.modKernel k (fun x => { x with started := some (x.started.getD s.time) })
  (t.wr .LANE_WP_MOVED_AT (bits (s.clock .fabric) 20 24) e).wr .LANE_WP_STALLED 0 e

/-- The lane records of kernel k are held: its flask drains for a quench (R427). -/
def State.laneHeld (s : State) (k : Kernel) : Bool :=
  s.rd .QN_PHASE k.flask != 0 && (s.ctx? k.ctx).any (fun x => !x.mgmt)

/-- Staged records whose engine is idle and that are released start (R140). -/
def State.startShadows (s : State) : State :=
  s.lanes.foldl (fun t l =>
    match (t.lane l.eng).running, (t.lane l.eng).shadow with
    | none, some k =>
      match t.kernel? k with
      | some x =>
        if t.released x && !t.laneHeld x && !t.staleKernel x then
          (t.setLane { t.lane l.eng with shadow := none }).startOn l.eng k
        else t
      | none => t
    | _, _ => t) s

/-- A real-time record for engine e's group waits to be written (R152). -/
def State.rtWaits (s : State) (e : Nat) : Bool :=
  s.ctxs.any (fun x => x.rt && x.st == .waitLane && x.want.any (fun w => w / 8 == e / 8))

/-- What engine e's lane holds and has not started, from the head, withdrawn records last. -/
def State.heldOn (s : State) (e : Nat) : List Nat :=
  (s.lane e).shadow.toList ++ (s.lane e).queue ++ (s.kernels.filter (fun k => k.unwritten.contains e)).map Kernel.id

/-- Engine e's lane holds no record, staged or not. -/
def State.laneEmpty (s : State) (e : Nat) : Bool := (s.lane e).queue.isEmpty && (s.lane e).shadow.isNone

/-- Withdrawn borrowed records are written again in lanes that are empty and wanted by no real-time record, with the PRELOAD
that CZ_SEQ_CTL.PRELOAD_EN allows now (R140, R152). -/
def State.rewrite (s : State) : State :=
  s.kernels.foldl (fun t k => k.unwritten.foldl (fun t e =>
    if t.laneEmpty e && !t.rtWaits e then
      (t.setLane { t.lane e with queue := [k.id] }).modKernel k.id
        (fun x => { x with unwritten := x.unwritten.filter (fun w => w != e),
                           noPre := x.noPre.filter (fun w => w != e) ++ (if t.on .SEQ_CTL_PRELOAD_EN then [] else [e]) })
    else t) t) s

/-- Kernels that no engine has left to end are over. -/
def State.dropEnded (s : State) : State := { s with kernels := s.kernels.filter (fun k => !k.left.isEmpty) }

/-- Everything that follows at once from a lane or a kernel having changed. -/
def State.pump (s : State) : State := s.dropEnded.startShadows.rewrite

/-- The lane records of kernel k that no engine has started are removed from every lane (R75, R155, R159). -/
def State.removeUnstarted (s : State) (k : Kernel) : State :=
  let idle := k.left.filter (fun e => (s.lane e).running != some k.id)
  let t := idle.foldl (fun t e =>
    let l := t.lane e
    t.setLane { l with queue := l.queue.filter (fun j => j != k.id),
                       shadow := if l.shadow = some k.id then none else l.shadow }) s
  t.modKernel k.id (fun x => { x with left := x.left.filter (fun e => !idle.contains e), unwritten := [] })

/-- A stop request goes to every engine that runs kernel k (R151). -/
def State.stopKernel (s : State) (k : Kernel) : State :=
  k.left.foldl (fun t e =>
    if (t.lane e).running = some k.id && !(t.lane e).stopReq then
      (t.setLane { t.lane e with stopReq := true }).say (.stopRequest e)
    else t) (s.modKernel k.id (fun x => { x with stopping := true }))

/-- The kernels of context c's pour. -/
def State.kernelsOf (s : State) (c : Nat) : List Kernel := s.kernels.filter (fun k => k.ctx == c)

/-! ## Memory that the host may hold -/

/-- A mailbox command that reads the ranges `rs` of memory: it starts once no host core holds a line of them modified,
and until then the HLP recalls those lines (R41). -/
def State.mbHome (s : State) (n op : Nat) (rs : State → List (Nat × Nat)) (body : State → State) : State :=
  if s.ready && s.mayStart n && s.opcode n == op && (s.mbCheck n).isNone &&
      (rs s).any (fun r => !(s.dirtyLines r.1 r.2).isEmpty) then s.recallDirty (rs s)
  else s.mbRun n op body

/-! ## Pools (R258) -/

/-- Reserved shares of a requester: host tags, peer tags, write entries. -/
def Requester.shares : Requester → Nat × Nat × Nat
  | .engine _ => (4, 8, 4)
  | .caster _ => (16, 32, 16)
  | .route => (64, 64, 32)
  | .seqr _ => (8, 16, 8)

/-- The request is a read or an atomic, which holds a tag until its data returns. -/
def Req.tagged (r : Req) : Bool := r.fin.isNone && (match r.kind with | .read _ | .atomic _ _ _ _ => true | _ => false)

/-- The request is a write. -/
def Req.isWrite (r : Req) : Bool := match r.kind with | .write _ => true | _ => false

/-- An engine's own HBM access: it goes to the controllers, or the home-agent check, and not by the host access path, whose
tags and entries it does not take (R213, R255). -/
def Req.direct (r : Req) : Bool := r.tier == 0 && (match r.who with | .engine _ => true | _ => false)

/-- Tags of a pool that requesters hold, one element for each. -/
def State.tagHolders (s : State) (peer : Bool) : List Requester :=
  (s.reqs.filter (fun r => r.tagged && !r.direct && (r.tier == 2) == peer)).map Req.who

/-- The blocks that the egress buffers of 16 have no room for, and that stand in write entries of their requesters (R303). -/
def State.overBlocks (s : State) : List Requester :=
  (List.range 64).flatMap (fun f => ((s.cast.egress.filter (fun e => e.flask == f)).drop 16).map Egress.who)

/-- Write entries in use, one element for each: the writes of one entry not yet taken, and sealed blocks that wait. -/
def State.entryHolders (s : State) : List Requester :=
  let es := s.reqs.filter (fun r => r.isWrite && !r.issued)
  (es.foldl (fun (l : List (Nat × Requester)) r =>
      if r.entry != 0 && l.any (fun p => p.1 == r.entry) then l else (r.entry, r.who) :: l) []).map Prod.snd ++
    s.overBlocks

/-- Requester who may take one more of a pool whose holders are given: of its reserved share, or of the shared part while
it is below the limit. -/
def poolRoom (holders : List Requester) (who : Requester) (share : Requester → Nat) (limit shared : Nat) : Bool :=
  let n (w : Requester) : Nat := (holders.filter (fun h => h == w)).length
  let mine := n who
  let used := holders.eraseDups.foldl (fun t w => t + (n w - share w)) 0
  decide (mine < share who) || (decide (mine - share who < limit) && decide (used < shared))

/-- A host tag, peer tag or write entry is to be had. -/
def State.tagRoom (s : State) (who : Requester) (peer : Bool) : Bool :=
  if peer then poolRoom (s.tagHolders true) who (fun w => w.shares.2.1) (max (s.rd .HAP_CTL_PEER_SHARE_LIMIT) 1 * 16) 19136
  else poolRoom (s.tagHolders false) who (fun w => w.shares.1) (max (s.rd .HAP_CTL_SHARE_LIMIT) 1 * 16) 9536
def State.entryRoom (s : State) (who : Requester) : Bool :=
  poolRoom s.entryHolders who (fun w => w.shares.2.2) (max (s.rd .HAP_CTL_SHARE_LIMIT) 1 * 16) 5472

/-- The sequencer of a context: that of its root (R127). -/
def Ctx.seqr (x : Ctx) : Requester := .seqr (x.root / 16)

/-! ## Completion records (R56 to R58, R46, R47) -/

/-- The 32 bytes of a completion record (R56). -/
def recordBytes (p : PourId) (ticket status detail time : Nat) : List Byte :=
  leBytes 8 p.word ++ leBytes 8 ticket ++
  leBytes 8 (p.seq % 2 ^ 32 + status * 2 ^ 32 + detail * 2 ^ 40) ++ leBytes 8 time

/-- Capacity of the holding ring in records (R47). -/
def State.holdCap (s : State) : Nat := s.rd .HLP_HOLD_BASE_SIZE * 128

/-- The holding ring has no room. -/
def State.holdFull (s : State) : Bool := ringFull (s.rd .HLP_HOLD_PTRS_WR_IDX) (s.rd .HLP_HOLD_PTRS_RD_IDX) s.holdCap

/-- The record goes to slot WR_IDX of the holding ring, and WR_IDX moves once it is written; it waits while the ring is full,
and behind records that wait (R47). -/
def State.holdRecord (s : State) (id : Nat) (bs : List Byte) : State :=
  if s.holdFull || s.parkedFor .hold || !s.hlp.holdWait.isEmpty then
    let t := if s.holdFull then s.wr .HLP_ERR_HOLD_FULL 1 else s
    { t with hlp := { t.hlp with holdWait := t.hlp.holdWait ++ [(id, bs)] } }
  else s.ownWrite (s.rd .HLP_HOLD_BASE_BASE * 4096 + s.rd .HLP_HOLD_PTRS_WR_IDX * 32) bs id .hold

/-- Records that waited for the holding ring go there while it has room. -/
def State.drainHold (s : State) : State :=
  s.hlp.holdWait.foldl (fun t r => t.holdRecord r.1 r.2) { s with hlp := { s.hlp with holdWait := [] } }

/-- The completion record of the pour in slot `slot` is issued to its ring by sequencer who, as a write of the pour in a
write entry of its own; its identifier is that of the write. It waits for no entry that writes of an earlier class hold (R18,
R133; DESIGN CHOICE, log entry 140). -/
def State.writeRecord (s : State) (who : Requester) (p : PourId) (slot ticket status detail : Nat) (raise : Bool) :
    Nat × State :=
  let (id, s) := s.newId
  let bs := recordBytes p ticket status detail (s.clock .core)
  let r : PendRec := { id := id, queue := p.queue, seq := p.seq, raise := raise }
  let s := { s with qm := { s.qm with records := s.qm.records ++ [r] } }
  let a := s.rd .QCTX_CBASE p.queue * 4096 + slot * 32
  let s := s.countPour p (if s.rd .QCTX_CLOC p.queue = 0 ∨ s.headless then 9 else 8) bs.length
  let t :=
    if s.rd .QCTX_CLOC p.queue = 0 then s.ownWrite a bs id
    else if s.headless then s.holdRecord id bs
    else
      let w : Req := { id := id, who := who, ctx := 512, root := some p, flask := s.rd .QCTX_FLASK p.queue,
                       fgen := s.rd .QCTX_FLASK_GEN p.queue, tier := 1, addr := a, kind := .write (cellsAt a bs),
                       purpose := .record p.queue p.seq, ticket := ticket, entry := id, ord := id }
      { s with reqs := s.reqs ++ [w] }
  (id, t)

/-! ## Work outstanding -/

/-- A write of the pour p is accepted and not acknowledged at its home, or waits in the home-agent check (R264, R155). -/
def State.storesOut (s : State) (p : PourId) : Bool :=
  s.reqs.any (fun r => r.root == some p && (match r.kind with | .write _ => true | _ => false)) ||
  s.hlp.waits.any (fun w => match w.act with | .store st => st.root == some p | _ => false) ||
  s.cast.egress.any (fun e => e.root == some p)

/-- Context c has a child in flight. -/
def State.hasChild (s : State) (c : Nat) : Bool := s.ctxs.any (fun x => x.parent == some c)

/-- Some pour below context c in its tree is in flight: the spawned pours of R150. -/
def State.spawnedOf (s : State) (c : Nat) : List Ctx :=
  let rec go : Nat → List Nat → List Ctx
    | 0, _ => []
    | n + 1, ps =>
      let kids := s.ctxs.filter (fun x => match x.parent with | some p => ps.contains p | none => false)
      if kids.isEmpty then [] else kids ++ go n (kids.map Ctx.num)
  go 33 [c]

/-- ROUTE operations of context c (R196). -/
def State.routesOf (s : State) (c : Nat) : Bool := s.route.ops.any (fun o => o.ctx == c)

/-- BULK_MOVEs of context c not yet acknowledged: copies, cast jobs and migrations (R106). -/
def State.movesOf (s : State) (c : Nat) : Bool :=
  s.copies.any (fun j => j.ctx == c) || s.cast.jobs.any (fun j => j.ctx == c) || s.tier.migs.any (fun m => m.ctx == some c)

/-- Work the pour of x has started and that has not ended: kernels, PUTs, BULK_MOVEs, ROUTE operations, PATCH loads
(R154). -/
def State.workOut (s : State) (x : Ctx) : Bool :=
  !(s.kernelsOf x.num).isEmpty || x.puts != 0 || s.movesOf x.num || s.routesOf x.num || x.patch.isSome

/-! ## Ending a pour -/

/-- A spawn that waits for a context is refused with a code (R145 to R147, R149). -/
def State.refuseSpawn (s : State) (x : Ctx) (w : SpawnWish) (code : Nat) : State :=
  let t := (s.bump .SEQ_SPAWN_REFUSED).wr .SEQ_ERR_SPAWN_REFUSED 1
  match w.engine with
  | some e => (t.setLane { t.lane e with wish := none }).say (.spawnAnswer e code)
  | none =>
    let t := if x.refused then t else t.raiseQueueErr x.pour.queue
    t.modCtx x.num (fun y => { y with spawn := none, refused := true })

/-- Spawn wishes of the tree that wait are refused with code 4 POUR (R147). -/
def State.refuseTree (s : State) (r : Nat) : State :=
  let t := (s.tree r).foldl (fun t x => match x.spawn with | some w => t.refuseSpawn x w 4 | none => t) s
  t.lanes.foldl (fun t l => match l.wish, l.running with
    | some w, some k => match t.kernel? k with
      | some kk => match t.ctx? kk.ctx with
        | some x => if x.root = r then t.refuseSpawn x w 4 else t
        | none => t
      | none => t
    | _, _ => t) t

/-- The translation requests of the contexts that meet p are dropped, but for those of engines under way; a held record
that no request is joined to any more is released (R234). -/
def State.dropAsks (s : State) (p : Nat → Bool) : State :=
  let gone (a : Ask) : Bool := p a.ctx && (match a.owner, a.wait with
    | .mig _, _ => false
    | .engine _, .held _ _ => true
    | .engine _, _ => false
    | _, _ => true)
  let asks := s.xl.asks.filter (fun a => !gone a)
  let helds := s.xl.helds.filter (fun h => asks.any (fun a => a.wait == .held h.flask h.fid))
  { s with xl := { s.xl with asks := asks, helds := helds } }

/-- The requests of the executing records of the contexts that meet p are dropped, but for those a held fault record
keeps: the record stays held, and DRAIN waits for FAULT_RESUME (R74, R234). -/
def State.dropWalkAsks (s : State) (p : Nat → Bool) : State :=
  let walks (a : Ask) : Bool := match a.owner, a.wait with
    | .record _, .held _ _ => false
    | .record _, _ | .pin _, _ | .repin _, _ => true
    | _, _ => false
  { s with xl := { s.xl with asks := s.xl.asks.filter (fun a => !(p a.ctx && walks a)) } }

/-- What the units hold for the contexts that meet p is removed: translation requests, copies not yet handed over, ROUTE
operations (R196) and cast jobs (R298). -/
def State.dropUnits (s : State) (p : Nat → Bool) : State :=
  let t := s.dropAsks p
  let ops := t.route.ops.filter (fun o => !p o.ctx)
  { t with copies := t.copies.filter (fun c => !p c.ctx),
           route := { t.route with ops := ops, turn := t.route.turn.filter (fun i => ops.any (fun o => o.id == i)),
                                   waits := t.route.waits.filter (fun c => !p c) },
           cast := { t.cast with jobs := t.cast.jobs.filter (fun j => !p j.ctx) } }

/-- The remote signals of the contexts that meet p that the peer port has not yet taken start nothing (R155). -/
def State.dropSignals (s : State) (p : Nat → Bool) : State :=
  let gone (r : Req) : Bool := p r.ctx && r.purpose == .signal && !r.issued
  let left (x : Ctx) : Nat := x.signals - (s.reqs.filter (fun r => gone r && r.ctx == x.num)).length
  { s with reqs := s.reqs.filter (fun r => !gone r),
           ctxs := updAll s.ctxs (fun x => p x.num) (fun x => { x with signals := left x }) }

/-- Steps 1 and 2 of R155 for the tree of root r: the walk stops, what is executing is abandoned, unstarted lane records
are removed and running kernels are asked to stop. Without `stop`, the stop point of a DRAIN (R73, R74): only the walk
stops, and what has been handed to a lane or a unit goes on. -/
def State.stopTree (s : State) (r : Nat) (stop : Bool) : State :=
  let t := s.refuseTree r
  let t := { t with ctxs := updAll t.ctxs (fun x => x.root == r)
                      (fun x => { x with st := .ending, patch := none, asked := false, fencing := false, fence := [],
                                         want := [], second := false, putAt := 0 }) }
  let mine (c : Nat) : Bool := (t.tree r).any (fun x => x.num == c)
  let t := (if stop then t.dropUnits mine else t.dropWalkAsks mine).dropSignals mine
  let t := { t with route := { t.route with waits := t.route.waits.filter (fun c => !mine c) } }
  let ks := t.kernels.filter (fun k => (t.tree r).any (fun x => x.num == k.ctx))
  let t := if stop then ks.foldl (fun t k => (t.removeUnstarted k).stopKernel k) t else t
  t.pump

/-- The pour of root context r starts to end for cause c, unless it is already being ended or its STAMP has executed
(R155, R156). -/
def State.endTree (s : State) (r : Nat) (c : EndCause) : State :=
  match s.ctx? r with
  | none => s
  | some x =>
    if x.cause.isSome && x.cause.map EndCause.kind != some .drain then s
    else if x.stamp != .none then s
    else (s.stopTree r true).modCtx r (fun y => { y with cause := some c })

/-- A cause of R156 found on a pour of context c ends its root pour. -/
def State.endPour (s : State) (c status detail : Nat) : State :=
  match s.ctx? c with
  | none => s
  | some x => s.endTree x.root { kind := .error, status := status, detail := detail }

/-- The contexts that meet p wait for no segment fill any more. -/
def State.dropWaiters (s : State) (p : Nat → Bool) : State :=
  { s with moulds := { s.moulds with
      fills := s.moulds.fills.map (fun f => { f with waiters := f.waiters.filter (fun c => !p c) }) } }

/-- The contexts of the tree of r become free; POURS of the root's queue falls by 1 (R154). -/
def State.freeTree (s : State) (r : Nat) : State :=
  match s.ctx? r with
  | none => s
  | some x =>
    let mine (c : Nat) : Bool := (s.tree r).any (fun y => y.num == c)
    let t := (s.dropAsks mine).dropWaiters mine
    let t := { t with ctxs := t.ctxs.filter (fun y => y.root != r) }
    if x.mgmt then t else t.wr .QCTX_POURS (t.rd .QCTX_POURS x.pour.queue - 1) x.pour.queue

/-- A pour whose walk is over and that has nothing outstanding ends (R154). -/
def State.endNormal (s : State) (x : Ctx) : State :=
  if x.depth = 0 then s.freeTree x.num
  else { s.dropWaiters (fun c => c == x.num) with ctxs := s.ctxs.filter (fun y => y.num != x.num) }

/-- The pour of x may end normally. -/
def State.mayEnd (s : State) (x : Ctx) : Bool :=
  x.walkDone && x.cause.isNone && !s.workOut x && !s.hasChild x.num && x.signals == 0 &&
  (x.depth != 0 || x.mgmt || x.stamp == .acked)

/-- The ending pour of root x has come to steps 3 and 4 of R155: every kernel has stopped and every accepted store is
acknowledged; a drain also needs its fence (R74). -/
def State.mayRecord (s : State) (x : Ctx) : Bool :=
  x.cause.isSome && x.stamp == .none && !s.faulted.contains x.flask && !s.flaskResetting x.flask && (s.tree x.num).all (fun y => (s.kernelsOf y.num).isEmpty && y.puts == 0) &&
  !s.tier.migs.any (fun m => m.root == some x.pour) && !s.storesOut x.pour &&
  (x.cause.map EndCause.kind != some .drain || ((s.tree x.num).all (fun y => !s.workOut y &&
    !s.xl.asks.any (fun a => a.ctx == y.num && (match a.wait with | .held _ _ => true | _ => false)))))

/-- The completion record of an ending pour is written (R155, step 4). -/
def State.recordEnd (s : State) (x : Ctx) (c : EndCause) : State :=
  let (id, t) := s.writeRecord x.seqr x.pour x.slot x.ticket c.status c.detail true
  t.modCtx x.num (fun y => { y with stamp := .written id })

/-- The fence that a draining pour executes after its last kernel has completed (R74); any other ending pour needs none. -/
def Ctx.fenced (x : Ctx) : Bool := x.cause.map EndCause.kind != some .drain || (x.fencing && x.fence.isEmpty)

/-- One pour that can move on towards its end does so; of several, none waits for another's fence. -/
def State.settleOne (s : State) : Option State :=
  match s.ctxs.find? (fun x => s.mayEnd x) with
  | some x => some (s.endNormal x)
  | none =>
    match s.ctxs.find? (fun x => x.cause.isSome && x.stamp == .acked &&
        (s.tree x.num).all (fun y => (s.kernelsOf y.num).isEmpty)) with
    | some x => some (s.freeTree x.num)
    | none =>
      match s.ctxs.find? (fun x => s.mayRecord x && x.fenced) with
      | some x => x.cause.map (s.recordEnd x)
      | none =>
        (s.ctxs.find? (fun x => s.mayRecord x && !x.fencing)).map (fun x =>
          (s.say (.commitMarker x.num)).modCtx x.num (fun y =>
            { y with fencing := true, markAt := s.nextId, fence := Config.hbmControllers }))

/-- The fields of a queue context that a QUEUE reset returns to their reset values: all but GEN (R63). -/
def queueFields : List Field :=
  [.QCTX_LOC, .QCTX_BASE, .QCTX_CLOC, .QCTX_CBASE, .QCTX_RING_LOG2, .QCTX_LEVEL, .QCTX_WEIGHT, .QCTX_MAX_INFLIGHT,
   .QCTX_RT, .QCTX_FLASK, .QCTX_FLASK_GEN, .QCTX_PASID, .QCTX_RT_GROUPS, .QCTX_STATE, .QCTX_ERR_CODE, .QCTX_DB_MISMATCH,
   .QCTX_ERR_IDX, .QCTX_HEAD, .QCTX_TAIL, .QCTX_NEXT, .QCTX_POURS, .QCTX_ENGINES, .QCTX_REREADS, .QCTX_ADMITTED]

/-- The QUEUE reset of queue q (R63, R76): its fields, its fetches and entries go, and GEN advances. -/
def State.queueReset (s : State) (q : Nat) : State :=
  let t := (s.rstAll queueFields q).adv .QCTX_GEN q
  { t with qm := { t.qm with fetches := t.qm.fetches.filter (fun x => x.queue != q),
                             entries := t.qm.entries.filter (fun x => x.queue != q),
                             guards := t.qm.guards.filter (fun x => x.queue != q),
                             grantAt := t.qm.grantAt.filter (fun x => x.1 != q) } }

/-- A destruction whose queue has no pour and no unacknowledged record left completes (R76). -/
def State.settleDestroys (s : State) : State :=
  s.qm.destroys.foldl (fun t d =>
    if t.ctxs.any (fun x => x.pour.queue == d.queue && !x.mgmt) || t.qm.records.any (fun r => r.queue == d.queue) then t
    else
      let t := { t with qm := { t.qm with destroys := t.qm.destroys.filter (fun e => e.queue != d.queue) } }
      (t.queueReset d.queue).replyAll d.slots stOK [d.count, d.first]) s

/-- Pours, then destructions, move on as far as they can. -/
def State.settlePours (s : State) : State :=
  let rec go (fuel : Nat) (s : State) : State :=
    match fuel with
    | 0 => s
    | n + 1 => match s.settleOne with | some t => go n t | none => s
  (go (3 * s.ctxs.length + 3) s).settleDestroys

/-! ## Acknowledgements of completion records -/

/-- The completion record written as `id` is acknowledged at its home: its source is raised if the Celzaig itself wrote
it (R58), and its pour goes on. -/
def State.recordAcked (s : State) (id : Nat) : State :=
  match s.qm.records.find? (fun r => r.id == id) with
  | none => s
  | some r =>
    let t := { s with qm := { s.qm with records := s.qm.records.filter (fun x => x.id != id) } }
    let t := if r.raise then t.raise r.queue else t
    { t with ctxs := updAll t.ctxs (fun x => x.stamp == .written id) (fun x => { x with stamp := .acked }) }

end Sys2Proof.Machine
end

