-- ==== Sys2Proof/Machine/Event.lean ====
section
/-! DEFINITION. The event controller (13). -/
namespace Sys2Proof.Machine

/-! ## Raises (R358) -/

/-- A raise of a software source by flask f (R358). -/
def State.softRaise (s : State) (src f : Nat) : State :=
  let out := decide (src < 0x2400) || decide (0x3EFF < src)
  if out || !s.on .EV_SRC_OWNED src || s.rd .EV_SRC_FLASK src != f then
    (s.wr .EV_ERR_DENIED 1).bump .EV_STATS_DENIED
  else if s.rd .EV_SRC_FLASK_GEN src ≠ s.flaskGen f then
    s.stale .flask f (s.rd .EV_SRC_FLASK_GEN src) (s.flaskGen f)
  else s.raise src

/-- ENGINE_EVENT_RAISE (R358): engine e raises source src with the CONTEXT of its lane record; a management pour owns no
source (R459). -/
def State.engineRaise (s : State) (e src c : Nat) : State :=
  match s.ctx? c with
  | none =>
    let q := (((s.lane e).running.bind s.kernel?).map (fun k => k.pour.queue)).getD 0
    s.stale .queue q (((s.lane e).running.bind s.kernel?).map (fun k => k.pour.qgen) |>.getD 0) (s.rd .QCTX_GEN q)
  | some x =>
    if !x.mgmt && x.pour.qgen != s.rd .QCTX_GEN x.pour.queue then
      s.stale .queue x.pour.queue x.pour.qgen (s.rd .QCTX_GEN x.pour.queue)
    else if x.mgmt then (s.wr .EV_ERR_DENIED 1).bump .EV_STATS_DENIED
    else s.softRaise src x.flask

/-- EVENT_DOORBELL_STORE (R359): a store of `size` bytes at offset off of flask f's event doorbell page. -/
def State.eventStore (s : State) (f off size val : Nat) : State :=
  if off ≠ 0 ∨ size ≠ 8 ∨ val / 2 ^ 14 ≠ 0 then s.wr .EV_ERR_BAD_STORE 1 else s.softRaise val f

/-! ## Targets (R364, R365) -/

/-- The source is a level source (R357). -/
def isLevel (src : Nat) : Bool := decide (0x3F00 ≤ src)

/-- The running priority of target t (R365). -/
def State.rpri (s : State) (t : Nat) : Nat :=
  let v := s.rd .EV_THRESH_INSVC t
  max (s.rd .EV_THRESH_THRESH t) (if v = 0 then 0 else Nat.log2 v + 1)

/-- Target t belongs to group g. -/
def State.inGroup (s : State) (g t : Nat) : Bool := bit (s.rd .EV_GROUP_MEMBERS (8 * g + t / 64)) (t % 64)

/-- Target t is a management core. -/
def mgmtTarget (t : Nat) : Bool := decide (510 ≤ t)

/-- Target t is eligible for source src (R365). -/
def State.eligible (s : State) (src t : Nat) : Bool :=
  s.on .EV_TGT_EN t && s.inGroup (s.rd .EV_SRC_GROUP src) t && decide (s.rpri t ≤ s.rd .EV_SRC_PRIO src) &&
  (mgmtTarget t || !s.hostAway)

/-- The targets of a source's group. -/
def State.membersOf (s : State) (src : Nat) : List Nat :=
  let g := s.rd .EV_SRC_GROUP src
  (List.range 8).flatMap (fun k => (onesOf (s.rd .EV_GROUP_MEMBERS (8 * g + k)) 64).map (fun i => 64 * k + i))

/-- The eligible targets of a source, ascending. -/
def State.eligibles (s : State) (src : Nat) : List Nat := (s.membersOf src).filter (s.eligible src)

/-! ## Selection and delivery (R361, R366, R369) -/

/-- PENDING of source n (R361): a level source's reads its line while the source is not in service. -/
def State.pendingOf (s : State) (n : Nat) : Bool :=
  if isLevel n then s.line (n - 0x3F00) && !s.on .EV_SRC_ACTIVE n else s.on .EV_SRC_PENDING n

/-- The sources with PENDING 1, in ascending order. -/
def State.pendingSrcs (s : State) : List Nat :=
  (s.listed .EV_SRC_PENDING).filter (fun n => !isLevel n) ++ (errUnits.map (fun u => 0x3F00 + u)).filter s.pendingOf

/-- Sources that wait for delivery and are not masked. -/
def State.waitingSrcs (s : State) : List Nat :=
  s.pendingSrcs.filter (fun n => !s.on .EV_SRC_ACTIVE n && !s.on .EV_SRC_MASK n)

/-- The first of an ascending list after the last choice, wrapping; with no choice yet, the first. -/
def firstAfter (last : Option Nat) (l : List Nat) : Option Nat :=
  match last with
  | none => l.head?
  | some k => (l.find? (fun x => decide (k < x))).or l.head?

/-- The recorded choice for key k. -/
def lastOf (l : List (Nat × Nat)) (k : Nat) : Option Nat := (l.find? (fun p => p.1 == k)).map Prod.snd

/-- The source and target that the controller selects (R366). -/
def State.choose (s : State) : Option (Nat × Nat) :=
  let cand := s.waitingSrcs.filter (fun n => !(s.eligibles n).isEmpty)
  let p := (cand.map (fun n => s.rd .EV_SRC_PRIO n)).foldl max 0
  match firstAfter (lastOf s.ev.lastSrc p) (cand.filter (fun n => s.rd .EV_SRC_PRIO n == p)) with
  | none => none
  | some n =>
    let es := s.eligibles n
    let r := (es.map s.rpri).foldl min 16
    (firstAfter (lastOf s.ev.lastTgt (s.rd .EV_SRC_GROUP n)) (es.filter (fun t => s.rpri t == r))).map (fun t => (n, t))

/-- The 16 bytes of a delivery (R369). -/
def eventBytes (src prio tgt deliv time : Nat) : List Byte :=
  leBytes 8 (src + prio * 2 ^ 16 + b2n (isLevel src) * 2 ^ 20 + tgt * 2 ^ 24 + deliv * 2 ^ 48) ++ leBytes 8 time

/-- Source n is delivered to target t (R361). -/
def State.deliver (s : State) (n t : Nat) : State :=
  let p := s.rd .EV_SRC_PRIO n
  let g := s.rd .EV_SRC_GROUP n
  let u := (((s.wr .EV_SRC_PENDING 0 n).wr .EV_SRC_ACTIVE 1 n).wr .EV_SRC_TARGET t n).wr .EV_SRC_DPRIO p n
  let u := u.adv .EV_SRC_DELIV n
  let u := u.wr .EV_THRESH_INSVC (setBits (u.rd .EV_THRESH_INSVC t) p 1 1) t
  let bs := eventBytes n p t (u.rd .EV_SRC_DELIV n) (u.clock .core)
  let ev := { u.ev with lastSrc := aset u.ev.lastSrc p n, lastTgt := aset u.ev.lastTgt g t }
  if mgmtTarget t then { u with ev := ev }.say (.mgmtEvent (t - 510) bs)
  else { u with ev := { ev with msgs := ev.msgs ++ [(t, u.rd .EV_TGT_DEST t, bs)] } }

/-- EVENT_DELIVERY (R366): one core clock of selection. -/
def State.eventDelivery (s : State) : State :=
  if !(s.ready && s.on .EV_CTL_DELIVER_EN) then s
  else match s.choose with
    | some (n, t) => s.deliver n t
    | none => s

/-- Bus Master Enable is 1 (R32). -/
def State.busMaster (s : State) : Bool := s.on .CFG_BME

/-- EVENT_MESSAGE_SEND (R368). -/
def State.eventSend (s : State) : State :=
  match s.ev.msgs with
  | (_, d, bs) :: rest =>
    if s.busMaster && decide (0 < s.hlp.evtCred) then
      { s.say (.event d bs) with ev := { s.ev with msgs := rest }, hlp := { s.hlp with evtCred := s.hlp.evtCred - 1 } }
    else s
  | [] => s

/-! ## Completion (R362, R370) -/

/-- A completion with the value v. -/
def State.complete (s : State) (v : Nat) : State :=
  let n := bits v 0 14
  let t := bits v 16 9
  if s.on .EV_SRC_ACTIVE n && s.rd .EV_SRC_TARGET n == t && s.rd .EV_SRC_DELIV n == bits v 32 16 then
    let p := s.rd .EV_SRC_DPRIO n
    let u := (s.wr .EV_SRC_ACTIVE 0 n).wr .EV_THRESH_INSVC (setBits (s.rd .EV_THRESH_INSVC t) p 1 0) t
    if isLevel n then u.followLine (n - 0x3F00) else u
  else (s.wr .EV_ERR_BAD_COMPL 1).bump .EV_STATS_BAD_COMPL

/-- Every delivery in service at a host-thread target is taken back (R372). -/
def State.takeBack (s : State) : State :=
  let t := (s.listed .EV_SRC_ACTIVE).foldl (fun t n =>
    let g := t.rd .EV_SRC_TARGET n
    if mgmtTarget g then t
    else
      let p := t.rd .EV_SRC_DPRIO n
      let t := (t.wr .EV_SRC_ACTIVE 0 n).wr .EV_THRESH_INSVC (setBits (t.rd .EV_THRESH_INSVC g) p 1 0) g
      if isLevel n then t.followLine (n - 0x3F00) else t.wr .EV_SRC_PENDING 1 n) s
  { t with ev := { t.ev with msgs := [] } }

/-- A write of CZ_EV_SRC[n] (R363): PENDING of a level source, and the owner fields of a source that is no software
source, keep their values. -/
def State.srcWrite (s : State) (n size half val : Nat) : State :=
  let soft := decide (0x2400 ≤ n ∧ n ≤ 0x3EFF)
  let t := s.regWrite (0x710000 + 8 * n) size half val
  let t := if isLevel n then t.wr .EV_SRC_PENDING (s.rd .EV_SRC_PENDING n) n else t
  if soft then t
  else ((t.wr .EV_SRC_OWNED 0 n).wr .EV_SRC_FLASK 0 n).wr .EV_SRC_FLASK_GEN 0 n

end Sys2Proof.Machine
end

