-- ==== Sys2Proof/Machine/Queue.lean ====
section
/-! DEFINITION. The queue manager (03): doorbells, entry fetches, the race guard, admission and arbitration, and the
queue commands. -/
namespace Sys2Proof.Machine

/-- Queue states of R63. -/
def qFREE : Nat := 0
def qACTIVE : Nat := 1
def qERROR : Nat := 2
def qDRAINING : Nat := 3
def qABORTING : Nat := 4
def qHELD : Nat := 5
def qQUENCHED : Nat := 6

/-- The queues that are not FREE, in ascending order. -/
def State.queues (s : State) : List Nat := s.listed .QCTX_STATE

/-- The state of queue q and its ring length N. -/
def State.qState (s : State) (q : Nat) : Nat := s.rd .QCTX_STATE q
def State.qLen (s : State) (q : Nat) : Nat := 2 ^ s.rd .QCTX_RING_LOG2 q

/-! ## Doorbells (R59) -/

/-- A doorbell with value v reaches queue q. -/
def State.doorbell (s : State) (q v : Nat) : State :=
  let n := s.qLen q
  let free := s.qState q == qFREE
  let tail := bits v 0 24
  let head := s.rd .QCTX_HEAD q
  if bits v 32 32 != 0 || (!free && decide (n ≤ tail)) then s.bump .QM_DB_IGNORED_MALFORMED
  else if free || s.qState q == qDRAINING || s.qState q == qABORTING || s.qState q == qHELD then
    s.bump .QM_DB_IGNORED_INACTIVE
  else
    let dOld := subMod n (s.rd .QCTX_TAIL q) head
    let dNew := subMod n tail head
    if dNew < dOld then s.bump .QM_DB_IGNORED_BEHIND
    else if dNew = dOld then s
    else if bits v 24 8 ≠ (s.rd .QCTX_NEXT q + dNew - 1) % 256 then
      ((s.bump .QM_DB_IGNORED_MISMATCH).wr .QCTX_DB_MISMATCH 1 q).raiseQueueErr q
    else s.wr .QCTX_TAIL tail q

/-! ## Fetching (R60 to R62) -/

/-- The fetches of queue q under way, its checked entries, and its race guard. -/
def State.fetchesOf (s : State) (q : Nat) : List Fetch := s.qm.fetches.filter (fun x => x.queue == q)
def State.entriesOf (s : State) (q : Nat) : List Entry := s.qm.entries.filter (fun x => x.queue == q)
def State.guardOf (s : State) (q : Nat) : Option Guard := s.qm.guards.find? (fun g => g.queue == q)

/-- The address of pour slot i of queue q. -/
def State.slotAddr (s : State) (q i : Nat) : Nat := s.rd .QCTX_BASE q * 4096 + i * 64

/-- Requests to host memory may go out: the link is up, the host present, Bus Master Enable 1 and a credit held (R32,
R259). -/
def State.mayIssueHost (s : State) (posted : Bool) : Bool :=
  s.on .HLP_STATUS_LINK_UP && !s.headless && s.on .CFG_BME &&
  decide (0 < (if posted then s.hlp.pCred else s.hlp.npCred))

/-- One credit of the class is used. -/
def State.useCredit (s : State) (posted : Bool) : State :=
  if posted then { s with hlp := { s.hlp with pCred := s.hlp.pCred - 1 } }
  else { s with hlp := { s.hlp with npCred := s.hlp.npCred - 1 } }

/-- A 64 B read of pour slot i of queue q is issued. -/
def State.issueFetch (s : State) (q i seq : Nat) (reread : Bool) : State :=
  let (id, s) := s.newId
  let t := (s.say (.entryRead id (s.rd .QCTX_LOC q) (s.slotAddr q i)))
  let t := if s.rd .QCTX_LOC q = 1 then t.useCredit false else t
  let f : Fetch := { id := id, queue := q, slot := i, seq := seq, reread := reread }
  { t with qm := { t.qm with fetches := t.qm.fetches ++ [f] } }

/-- Admission of flask f's pours is stopped: the flask drains for a quench (R427). -/
def State.admitStopped (s : State) (f : Nat) : Bool := s.rd .QN_PHASE f != 0 || s.flaskResetting f

/-- The block is in DROWSE. -/
def State.drowse (s : State) : Bool := s.rd .PWR_STATUS_STATE == 2

/-- Queue q can read a slot now: a host ring also needs the link, and none is read in DROWSE (R479). -/
def State.mayFetch (s : State) (q : Nat) : Bool :=
  s.ready && !s.drowse && s.qState q == qACTIVE && !s.admitStopped (s.rd .QCTX_FLASK q) && (s.rd .QCTX_LOC q == 0 || s.mayIssueHost false)

/-- ENTRY_FETCH (R60): the next unfetched slot of queue q is read while TAIL differs from it, no race guard runs, and
fewer than two entries are checked or on their way. -/
def State.entryFetch (s : State) (q : Nat) : State :=
  let n := s.qLen q
  let k := (s.fetchesOf q).length
  let i := (s.rd .QCTX_HEAD q + k) % n
  if s.mayFetch q && (s.guardOf q).isNone && s.rd .QCTX_TAIL q != i && decide (k + (s.entriesOf q).length < 2) then
    s.issueFetch q i ((s.rd .QCTX_NEXT q + k) % 2 ^ 44) false
  else s

/-- The reads of queue q under way are forgotten: what they bring is not used. -/
def State.dropFetches (s : State) (q : Nat) : State :=
  { s with qm := { s.qm with fetches := s.qm.fetches.filter (fun x => x.queue != q) } }

/-- The race guard of queue q ends. -/
def State.dropGuard (s : State) (q : Nat) : State :=
  { s with qm := { s.qm with guards := s.qm.guards.filter (fun g => g.queue != q) } }

/-- Queue q enters ERROR at slot i with a code, and its error source is raised (R55, R62, R63). -/
def State.queueError (s : State) (q i code : Nat) : State :=
  ((((s.dropFetches q).dropGuard q).wr .QCTX_STATE qERROR q).wr .QCTX_ERR_CODE code q).wr .QCTX_ERR_IDX i q
    |>.raiseQueueErr q

/-- A reserved bit of a pour entry is not zero (R54). -/
def entryReserved (b : List Byte) : Bool :=
  bits (leAt b 8 8) 9 55 != 0 || (slice b 0x18 0x28).any (fun x => x != 0)

/-- The checked entry that the 64 bytes b of a slot spell. -/
def entryOf (f : Fetch) (b : List Byte) : Entry :=
  { queue := f.queue, slot := f.slot, seq := f.seq, mould := bits (leAt b 4 4) 0 20, mgen := bits (leAt b 4 4) 20 12,
    bank := leAt b 8 1, ordered := bit (leAt b 8 8) 8, ticket := leAt b 0x10 8 }

/-- The 64 bytes of pour slot f brings: of a host ring what returned; of a device ring the memory's, unless a host core
holds the line modified, where the HLP's snoop of the host brought them (R60). -/
def State.slotBytes (s : State) (f : Fetch) (d : List Byte) : List Byte :=
  let a := s.slotAddr f.queue f.slot
  if s.rd .QCTX_LOC f.queue = 1 || s.hostExcl (lineOf a) then slice d 0 64 else s.dieRead a 64

/-- A fetched entry has come back with SEQ not as expected (R61, R62). -/
def State.entryMismatch (s : State) (f : Fetch) : State :=
  match s.guardOf f.queue with
  | none =>
    let g : Guard := { queue := f.queue, t0 := s.time, count := 0, lastAt := s.time }
    let t := s.dropFetches f.queue
    { t with qm := { t.qm with guards := t.qm.guards ++ [g] } }
  | some g =>
    if 16 ≤ g.count then ((s.dropGuard f.queue).bump .QM_RACE_STALE).queueError f.queue f.slot 1
    else
      let gs := updAll s.qm.guards (fun x => x.queue == f.queue) (fun x => { x with lastAt := s.time })
      { s with qm := { s.qm with guards := gs } }

/-- Read f, the oldest of its queue, brings its slot, or an error (R55, R61 to R63); poison from a host ring is counted as
every poisoned read is (R489). -/
def State.takeReturn (s : State) (f : Fetch) (ret : Ret) : State :=
  let t := { s with qm := { s.qm with fetches := s.qm.fetches.filter (fun x => x.id != f.id) } }
  match ret with
  | .ok b =>
    if leAt b 0 4 ≠ f.seq % 2 ^ 32 then t.entryMismatch f
    else if entryReserved b then (t.dropGuard f.queue).queueError f.queue f.slot 2
    else
      let t := t.dropGuard f.queue
      let t := { t with qm := { t.qm with entries := t.qm.entries ++ [entryOf f b] } }
      (t.wr .QCTX_HEAD ((f.slot + 1) % t.qLen f.queue) f.queue).wr .QCTX_NEXT ((f.seq + 1) % 2 ^ 44) f.queue
  | _ =>
    let t := if s.rd .QCTX_LOC f.queue = 0 then
        t.hbmUe (s.slotAddr f.queue f.slot) 1 0 f.queue (s.rd .QCTX_FLASK f.queue) 0
      else match ret with
        | .poison _ => t.bump .POISON_RD
        | _ => t
    t.queueError f.queue f.slot 3

/-- The reads of queue q that have come back are taken, the oldest first, as far as none older is still out. -/
def State.takeReturns : Nat → State → Nat → State
  | 0, s, _ => s
  | n + 1, s, q =>
    match s.qm.fetches.find? (fun x => x.queue == q && x.slot == s.rd .QCTX_HEAD q) with
    | some f => match f.back with
      | some ret => State.takeReturns n (s.takeReturn f ret) q
      | none => s
    | none => s

/-- ENTRY_RETURN (R55, R61 to R63): read `id` comes back. Its response is always sunk (R17): one that overtakes an older read
of its queue is kept until that read has come back. -/
def State.entryReturn (s : State) (id : Nat) (ret : Ret) : State :=
  match s.qm.fetches.find? (fun x => x.id == id) with
  | none => s
  | some f => if f.back.isSome then s else
    let ret := match ret with
      | .ok d => Ret.ok (s.slotBytes f d)
      | x => x
    let fs := updAll s.qm.fetches (fun x => x.id == id) (fun x => { x with back := some ret })
    State.takeReturns 2 { s with qm := { s.qm with fetches := fs } } f.queue

/-- RACE_GUARD_REREAD (R61): re-read k leaves at the later of t0 + k × 128 ns and the return of re-read k − 1. -/
def State.reread (s : State) (q : Nat) : State :=
  match s.guardOf q with
  | none => s
  | some g =>
    if !(s.mayFetch q && (s.fetchesOf q).isEmpty && decide (g.count < 16)) then s
    else
      let t := (s.elapse (max (g.t0 + (g.count + 1) * 128) g.lastAt)).bump .QCTX_REREADS q
      let t := t.bump .QM_RACE_REREADS
      let gs := updAll t.qm.guards (fun x => x.queue == q) (fun x => { x with count := x.count + 1 })
      let t := { t with qm := { t.qm with guards := gs } }
      t.issueFetch q (t.rd .QCTX_HEAD q) (t.rd .QCTX_NEXT q) true

/-! ## Admission and arbitration (R65 to R68) -/

/-- ADMISSION_TOKEN (R66). Tokens held above a TOKEN_DEPTH that software has lowered stay until the next token comes, which
cuts them to the new depth (DESIGN CHOICE, log entry 16). A TOKEN_DEPTH of 17 to 31, of which R64 says nothing, acts as it
stands, so that TOKENS can then pass 16 (DESIGN CHOICE, log entry 140). -/
def State.addToken (s : State) : State :=
  if s.ready then s.wr .QM_STATUS_TOKENS (min (s.rd .QM_STATUS_TOKENS + 1) (max (s.rd .QM_CTL_TOKEN_DEPTH) 1)) else s

/-- The oldest checked entry of queue q. -/
def State.oldest (s : State) (q : Nat) : Option Entry := s.qm.entries.find? (fun x => x.queue == q)

/-- A record of queue q waits for the holding ring, so the queue advances no further (R47). -/
def State.holdsQueue (s : State) (q : Nat) : Bool :=
  s.qm.records.any (fun r => r.queue == q && s.hlp.holdWait.any (fun h => h.1 == r.id))

/-- Every earlier pour of queue q has its completion record written (R65): the record counts as written from the moment its
write is handed over (DESIGN CHOICE, log entry 17). -/
def State.allRecorded (s : State) (q : Nat) : Bool :=
  s.ctxs.all (fun x => x.mgmt || x.pour.queue != q || x.depth != 0 || x.stamp != .none) && !s.holdsQueue q

/-- Queue q is a candidate for a grant (R65). -/
def State.candidate (s : State) (q : Nat) : Bool :=
  (s.qState q == qACTIVE || s.qState q == qHELD) && (s.guardOf q).isNone && !s.holdsQueue q &&
  decide (s.rd .QCTX_POURS q < s.rd .QCTX_MAX_INFLIGHT q) &&
  (match s.qm.grantAt.find? (fun p => p.1 == q) with | some p => decide (p.2 + 250 ≤ s.time) | none => true) &&
  !s.admitStopped (s.rd .QCTX_FLASK q) &&
  (match s.oldest q with | some e => !e.ordered || s.allRecorded q | none => false)

/-- The numbers below n in ascending order after `last`, wrapping. -/
def after (n : Nat) (last : Option Nat) : List Nat :=
  match last with
  | none => List.range n
  | some l => (List.range n).map (fun i => (l + 1 + i) % n)

/-- The queue that the procedure of R67 selects, and the state with its credits and last grants. The credits begin at 0, and
a queue made anew keeps those of the queue before it (DESIGN CHOICE, log entry 14). A grant to a real-time queue counts
neither as the last granted flask nor as the last grant at its level (DESIGN CHOICE, log entry 15). -/
def State.select (s : State) : Option (Nat × State) :=
  let cands := s.queues.filter s.candidate
  match (after 4096 s.qm.lastRt).find? (fun q => cands.contains q && s.on .QCTX_RT q) with
  | some q => some (q, { s with qm := { s.qm with lastRt := some q } })
  | none =>
    let has (f : Nat) : Bool := cands.any (fun q => s.rd .QCTX_FLASK q == f)
    let pickF (t : State) : Option Nat :=
      (after 64 t.qm.lastF).find? (fun f => has f && decide (0 < aget t.qm.fcredit f 0))
    let s1 := match pickF s with
      | some _ => s
      | none =>
        let fc := (List.range 64).map (fun f => (f, max (s.rd .QM_FLASK_W_WEIGHT f) 1))
        { s with qm := { s.qm with fcredit := fc } }
    match pickF s1 with
    | none => none
    | some f =>
      let mine := cands.filter (fun q => s.rd .QCTX_FLASK q == f)
      let lvl := mine.foldl (fun m q => min m (s.rd .QCTX_LEVEL q)) 3
      let at_ := mine.filter (fun q => s.rd .QCTX_LEVEL q == lvl)
      let last := (s1.qm.lastQ.find? (fun p => p.1 == f * 4 + lvl)).map Prod.snd
      let pickQ (t : State) : Option Nat :=
        (after 4096 last).find? (fun q => at_.contains q && decide (0 < aget t.qm.qcredit q 0))
      let s2 := match pickQ s1 with
        | some _ => s1
        | none =>
          let qs := s.queues.filter (fun q => s.rd .QCTX_FLASK q == f && s.rd .QCTX_LEVEL q == lvl)
          let qc := qs.foldl (fun l q => aset l q (s.rd .QCTX_WEIGHT q)) s1.qm.qcredit
          { s1 with qm := { s1.qm with qcredit := qc } }
      match pickQ s2 with
      | none => none
      | some q =>
        let m := s2.qm
        some (q, { s2 with qm := { m with fcredit := aset m.fcredit f (aget m.fcredit f 0 - 1),
                                          qcredit := aset m.qcredit q (aget m.qcredit q 0 - 1),
                                          lastF := some f, lastQ := aset m.lastQ (f * 4 + lvl) q } })

/-- DETAIL of BAD_MOULD for entry e of flask f (R55, step 3), if the entry is refused. An index at which no mould has ever been
loaded has generation 0, with which an entry's MOULD_GEN is compared too (DESIGN CHOICE, log entry 149). -/
def State.badMould (s : State) (e : Entry) (f : Nat) : Option Nat :=
  if aget s.moulds.gens e.mould 0 ≠ e.mgen then some 1
  else match s.mould? e.mould e.mgen with
    | none => some 2
    | some m => if m.flask ≠ some f then some 3 else if m.banks ≤ e.bank then some 4 else none

/-- The pour of entry e takes context c (R127, R128, R131): the bank is read and the first segment fetched. -/
def State.admitEntry (s : State) (c : Nat) (e : Entry) (m : Mould) : State :=
  let q := e.queue
  let p : PourId := { queue := q, qgen := s.rd .QCTX_GEN q, seq := e.seq }
  let x : Ctx := { num := c, st := .gates, pour := p, slot := e.slot, ticket := e.ticket, pasid := s.rd .QCTX_PASID q,
                   flask := s.rd .QCTX_FLASK q, fgen := s.rd .QCTX_FLASK_GEN q, root := c, rt := s.on .QCTX_RT q,
                   mould := e.mould, mgen := e.mgen, bank := e.bank, admitted := s.time }
  let t := { s with ctxs := s.ctxs ++ [x] }
  let t := (t.adv .QCTX_ADMITTED q).wr .QCTX_POURS (t.rd .QCTX_POURS q + 1) q
  t.say (.bankRead c (m.gbase + e.bank * 0x200))

/-- Context c may take a pour of queue q: it is a free pour context of a pair in service, and not one of a sequencer
reserved to real-time queues (R67, R68). -/
def State.ctxFor (s : State) (c q : Nat) : Bool :=
  decide (c < 256) && (s.ctx? c).isNone && bit (s.rd .SEQ_STATUS_PAIR_OK) (c / 16) &&
  (s.on .QCTX_RT q || decide (c < 192) || s.rtQueues == 0)

/-- GRANT (R55, R65 to R67): the selected queue's oldest checked entry is admitted to context c, or its mould handle is
refused and its record written: in a flask with a fault too, since R157 speaks of pours (DESIGN CHOICE, log entry 150). -/
def State.grant (s : State) (c : Nat) : State :=
  if !(s.ready && !s.drowse && s.power.isNone && !s.loading && s.on .QM_CTL_ADMIT_EN && decide (0 < s.rd .QM_STATUS_TOKENS)) then s
  else match s.select with
    | none => s
    | some (q, t) =>
      match s.oldest q with
      | none => s
      | some e =>
        if !s.ctxFor c q then s
        else
          let t := t.wr .QM_STATUS_TOKENS (t.rd .QM_STATUS_TOKENS - 1)
          let t := { t with qm := { t.qm with entries := t.qm.entries.filter (fun x => x != e),
                                              grantAt := aset t.qm.grantAt q t.time } }
          let f := t.rd .QCTX_FLASK q
          match t.badMould e f with
          | some d =>
            let t := if d = 1 then t.stale .mould e.mould e.mgen (aget t.moulds.gens e.mould 0) else t
            (t.writeRecord (.seqr (c / 16)) { queue := q, qgen := t.rd .QCTX_GEN q, seq := e.seq } e.slot e.ticket 8 d true).2
          | none =>
            match t.mould? e.mould e.mgen with
            | some m => t.admitEntry c e m
            | none => t

/-! ## The queue commands (R70 to R76) -/

/-- The conditions of R68 for a real-time queue of flask f with groups g: the status of the first that fails, in the order of
this list, since R68 and R70 give none (DESIGN CHOICE, log entry 151). -/
def State.rtCheck (s : State) (f g : Nat) : Option Nat :=
  if 64 ≤ s.rtQueues then some stNORES
  else if g = 0 then some stBADARG
  else if g &&& (mALL - s.rd .FL_GROUPS f) ≠ 0 then some stBADARG
  else if (onesOf g 64).any s.reservedBy then some stNORES
  else none

/-- PASID p is bound to an atlas of flask f at its generation. -/
def State.boundTo (s : State) (p f : Nat) : Bool :=
  (s.listed .XL_ATLAS_VALID).any (fun a => s.rd .XL_ATLAS_PASID a == p &&
    s.rd .XL_ATLAS_FLASK a == f && s.rd .XL_ATLAS_FLASK_GEN a == s.flaskGen f)

/-- A ring of n bytes at the layout word w (LOC and address) fits flask f: a device ring lies in its private range. -/
def State.ringOk (s : State) (f w n : Nat) : Bool := bit w 0 || s.inFlask f (bits w 12 40 * 4096) n

/-- The first check of R70 that refuses slot n's QUEUE_CREATE. -/
def State.queueCreateFails (s : State) (n : Nat) : Option Nat :=
  let f := (s.fref n).1
  let q := bits (s.par n 0) 16 12
  let cfg := s.par n 3
  let log2 := bits cfg 0 5
  let len := 2 ^ log2
  if !s.frefOk n then some stSTATE
  else if !s.flaskLive f then some stSTATE
  else if !(decide (s.rd .FL_QFIRST f ≤ q) && decide (q < s.rd .FL_QFIRST f + s.rd .FL_QCOUNT f)) then some stDENIED
  else if s.qState q ≠ qFREE then some stSTATE
  else if log2 < 6 || 24 < log2 || bits cfg 16 8 = 0 || bits cfg 24 7 = 0 || 64 < bits cfg 24 7 ||
      bits (s.par n 6) 0 32 = 0 || !s.ringOk f (s.par n 1) (len * 64) || !s.ringOk f (s.par n 2) (len * 32) then
    some stBADARG
  else if !s.boundTo (s.par n 4) f then some stSTATE
  else if bit cfg 31 then s.rtCheck f (s.par n 5) else none

/-- QUEUE_CREATE (R70). -/
def State.queueCreate (s : State) (n : Nat) : State :=
  match s.queueCreateFails n with
  | some st => (if !s.frefOk n then s.frefStale n else s).reply n st
  | none =>
    let f := (s.fref n).1
    let q := bits (s.par n 0) 16 12
    let cfg := s.par n 3
    let t := (s.wr .QCTX_LOC (bits (s.par n 1) 0 1) q).wr .QCTX_BASE (bits (s.par n 1) 12 40) q
    let t := (t.wr .QCTX_CLOC (bits (s.par n 2) 0 1) q).wr .QCTX_CBASE (bits (s.par n 2) 12 40) q
    let t := ((t.wr .QCTX_RING_LOG2 (bits cfg 0 5) q).wr .QCTX_LEVEL (bits cfg 8 2) q).wr .QCTX_WEIGHT (bits cfg 16 8) q
    let t := ((t.wr .QCTX_MAX_INFLIGHT (bits cfg 24 7) q).wr .QCTX_RT (bits cfg 31 1) q).wr .QCTX_FLASK f q
    let t := ((t.wr .QCTX_FLASK_GEN (s.flaskGen f) q).wr .QCTX_PASID (s.par n 4) q).wr .QCTX_RT_GROUPS (s.par n 5) q
    let t := ((t.wr .QCTX_NEXT (s.par n 6) q).wr .QCTX_HEAD 0 q).wr .QCTX_TAIL 0 q
    (t.wr .QCTX_STATE qACTIVE q).reply n stOK [s.rd .QCTX_GEN q]

/-- The queue and generation that slot n's P0 names, and whether the generation is current. -/
def State.qref (s : State) (n : Nat) : Nat × Nat := (bits (s.par n 0) 16 12, bits (s.par n 0) 28 8)
def State.qrefOk (s : State) (n : Nat) : Bool := (s.qref n).2 == s.rd .QCTX_GEN (s.qref n).1

/-- The drop of a command that names an old queue generation (R11). -/
def State.staleQueue (s : State) (q seen : Nat) : State := s.stale .queue q seen (s.rd .QCTX_GEN q)

/-- QUEUE_RESUME (R71): slot HEAD is read again with a fresh count. -/
def State.queueResume (s : State) (n : Nat) : State :=
  let q := (s.qref n).1
  if !s.qrefOk n then (s.staleQueue q (s.qref n).2).reply n stSTATE
  else if s.qState q ≠ qERROR then s.reply n stSTATE
  else
    let t := ((s.wr .QCTX_ERR_CODE 0 q).wr .QCTX_ERR_IDX 0 q).wr .QCTX_STATE qACTIVE q
    let t := (t.dropGuard q).dropFetches q
    let t := if t.mayFetch q && t.rd .QCTX_TAIL q != t.rd .QCTX_HEAD q then
        t.issueFetch q (t.rd .QCTX_HEAD q) (t.rd .QCTX_NEXT q) false else t
    t.reply n stOK

/-- POUR_CANCEL (R72). A pour whose STAMP has executed and that has not ended is left alone, with the reply OK (DESIGN
CHOICE, log entry 18). -/
def State.pourCancel (s : State) (n : Nat) : State :=
  let p0 := s.par n 0
  let q := bits p0 52 12
  let gen := bits p0 44 8
  if gen ≠ s.rd .QCTX_GEN q then (s.staleQueue q gen).reply n stSTATE
  else match s.ctxs.find? (fun x => x.depth == 0 && !x.mgmt && x.pour.word == p0) with
    | none => s.reply n stSTATE
    | some x =>
      if x.cause.isSome then s.reply n stSTATE
      else if x.stamp != .none then s.reply n stOK
      else (s.endTree x.num { kind := .abort, status := 1, detail := 2 }).reply n stOK

/-- The pours of queue q meet a stop point (R73 to R75). -/
def State.stopPoint (s : State) (q : Nat) (abort : Bool) : State :=
  (s.ctxs.filter (fun x => x.depth == 0 && !x.mgmt && x.pour.queue == q)).foldl (fun t x =>
    if abort then
      if x.stamp = .none then t.endTree x.num { kind := .abort, status := 1, detail := 1 }
      else (t.stopTree x.num true).modCtx x.num (fun y => { y with cause := some (y.cause.getD
        { kind := .drain, status := 0, detail := 0 }) })
    else if x.cause.isSome then t
    else (t.stopTree x.num false).modCtx x.num
      (fun y => { y with cause := some { kind := .drain, status := 7, detail := 0 } })) s

/-- QUEUE_DESTROY (R73, R76): the stop point; a second command joins the first. Where no entry was discarded the reply gives
0 as the first sequence (DESIGN CHOICE, log entry 19). -/
def State.queueDestroy (s : State) (n : Nat) : State :=
  let q := (s.qref n).1
  let abort := bit (s.par n 0) 48
  if !s.qrefOk n then (s.staleQueue q (s.qref n).2).reply n stSTATE
  else if s.qState q = qFREE then s.reply n stSTATE
  else match s.qm.destroys.find? (fun d => d.queue == q) with
    | some d =>
      let ds := updAll s.qm.destroys (fun e => e.queue == q)
        (fun e => { e with slots := e.slots ++ [n], abort := e.abort || abort })
      let t := { s with qm := { s.qm with destroys := ds } }
      if abort && !d.abort then (t.wr .QCTX_STATE qABORTING q).stopPoint q true else t
    | none =>
      let es := s.entriesOf q
      let d : Destroy := { queue := q, abort := abort, count := es.length,
                           first := (es.head?.map Entry.seq).getD 0, slots := [n] }
      let t := (s.dropFetches q).dropGuard q
      let t := { t with qm := { t.qm with entries := t.qm.entries.filter (fun x => x.queue != q),
                                          destroys := t.qm.destroys ++ [d] } }
      (t.wr .QCTX_STATE (if abort then qABORTING else qDRAINING) q).stopPoint q abort

/-- Entry to HEADLESS (R78): queues with pour rings in host memory go from ACTIVE or ERROR to HELD. -/
def State.holdQueues (s : State) : State :=
  s.queues.foldl (fun t q =>
    if t.on .QCTX_LOC q && (t.qState q == qACTIVE || t.qState q == qERROR) then
      ((t.wr .QCTX_STATE qHELD q).dropFetches q).dropGuard q
    else t) s

end Sys2Proof.Machine
end

