-- ==== Sys2Proof/Machine/Image.lean ====
section
/-! DEFINITION. The checks that MOULD_LOAD makes on a mould image (R80 to R117), in the order of the rows of R117. -/
namespace Sys2Proof.Machine

/-! ## The image (R80, R81) -/

/-- RECORDS, BANKS, TABLE_SIZE and the depths of a header. -/
def imRecords (b : List Byte) : Nat := leAt b 0x08 4
def imBanks (b : List Byte) : Nat := leAt b 0x0C 2
def imTable (b : List Byte) : Nat := leAt b 0x10 4

/-- Record i of a body. -/
def imRecord (b : List Byte) (i : Nat) : List Byte := slice b (0x300 + i * 64) 64

/-- The 64 descriptor doublewords of a body. -/
def imDescs (b : List Byte) : List Nat := (List.range 64).map (fun g => leAt b (0x100 + g * 8) 8)

/-- The digest of a body: SHA-384 with the DIGEST bytes read as zero (R81, R82). -/
def imDigest (b : List Byte) : List Byte := sha384 (patch b 0xD0 (zeros 48))

/-- The records of a body with their indices, continuation records left out (R93). -/
def imList (b : List Byte) : (fuel i skip : Nat) → List (Nat × List Byte)
  | 0, _, _ => []
  | n + 1, i, skip =>
    if skip = 0 then (i, imRecord b i) :: imList b n (i + 1) (extOf (imRecord b i))
    else imList b n (i + 1) (skip - 1)

/-- What the checks take from outside the image: the flask's timeline and group counts, whether the mould is a
management mould, the engine code revision, and the loaded mould that a handle names in the flask, as its BANKS and its
descriptors. -/
structure LoadEnv where
  len    : Nat
  gbase  : Nat
  tls    : Nat
  groups : Nat
  mgmt   : Bool
  rev    : Nat
  child  : Nat → Nat → Option (Nat × List Nat)

/-! ## Reserved bits (R93) -/

/-- The named bits of each doubleword of a record of opcode op; none for an unknown opcode. A field that the record's mode
does not use and that is not 0 is reserved where the record's layout gives it no name in that mode (COND, A and B of JUMP,
the fields of ENDLOOP that LOOP alone has: code 0x06), and a value out of range where it is named and must be 0 (GATE_MASK
of a PUT with FROM_GATES 0, the fields of the other form of SPAWN: code 0x07) (DESIGN CHOICE, log entry 20). -/
def recMasks (op : Nat) : Option (List Nat) :=
  let m (lo w : Nat) : Nat := (2 ^ w - 1) * 2 ^ lo
  match op with
  | 0x01 => some [m 0 10 + m 16 6 + m 24 7, m 0 57, m 0 48, m 0 64, m 0 64, m 0 9 + m 16 8]
  | 0x02 => some [m 0 11 + m 16 48]
  | 0x03 => some [m 0 8 + m 48 16]
  | 0x04 => some [m 0 9 + m 16 6 + m 32 32]
  | 0x05 => some [m 0 8 + m 48 16]
  | 0x06 => some [m 0 8 + m 48 16]
  | 0x07 => some [m 0 8]
  | 0x08 => some [m 0 8 + m 16 48, m 0 64]
  | 0x09 => some [m 0 12 + m 16 48, m 0 64]
  | 0x0A => some [m 0 10]
  | 0x0B => some [m 0 11 + m 16 8 + m 32 16, m 0 57, m 0 64]
  | 0x0C => some [m 0 15 + m 16 4 + m 32 32, m 0 11 + m 16 6 + m 24 6 + m 32 6 + m 40 6 + m 48 6 + m 56 7, m 0 48,
      m 0 7 + m 8 6 + m 16 16]
  | 0x0D => some [m 0 9 + m 16 6, m 0 40, m 0 64]
  | 0x0E => some [m 0 9 + m 16 14]
  | 0x0F => some [m 0 11 + m 16 6 + m 24 6, m 0 64]
  | 0x10 => some [m 0 8]
  | 0x11 => some [m 0 9]
  | 0x12 => some [m 0 10 + m 16 6 + m 24 6 + m 32 16, m 0 57, m 0 57]
  | 0x1F => some [m 0 8]
  | _ => none

/-- The operand fields of a record, each with the gate types it accepts (R94 to R107). An operand that must be 0 in the
record's mode is not among them: it fails check 0x07, whatever bits of it are set (DESIGN CHOICE, log entry 20). -/
def recOperands (r : List Byte) : List (Nat × List Nat) :=
  let o (lo : Nat) := fld r 0 lo 16
  let uc := [gtU64, gtCOUNT]
  let grid := [gtU64, gtCOUNT, gtSLOT]
  let cmp := [gtU64, gtCOUNT, gtSLOT, gtPRED, gtBYTES]
  match opOf r with
  | 0x01 => [(fld r 2 0 16, grid), (fld r 2 16 16, grid), (fld r 2 32 16, grid)]
  | 0x02 => (o 16, cmp) :: (if fld r 0 8 3 = 6 then [] else [(o 32, cmp)])
  | 0x04 => [(o 32, uc)]
  | 0x08 => [(o 16, [gtTIMELINE]), (o 32, uc)]
  | 0x09 => [(o 16, [gtTIMELINE]), (o 32, uc)] ++ (if fld r 0 11 1 = 1 then [(o 48, [gtU64])] else [])
  | 0x0B => [(o 32, [gtVA])]
  | 0x0C => (o 32, uc) :: (if fld r 0 8 2 = 0 then [(o 48, uc)] else [])
  | 0x12 => if fld r 0 8 2 = 0 then [(o 32, uc)] else []
  | _ => []

/-- Check 0x06: a reserved bit is not zero, bits [14:8] of a gate operand included. -/
def bad06 (r : List Byte) : Bool :=
  match recMasks (opOf r) with
  | none => false
  | some ms => (List.range 8).any (fun d => leAt r (8 * d) 8 &&& (2 ^ 64 - 1 - nth ms d 0) != 0) ||
      (recOperands r).any (fun p => bit p.1 15 && bits p.1 8 7 != 0)

/-! ## Ranges and gates (R94 to R107, R168) -/

/-- The immediate of operand o lies above limit n. -/
def immOver (o n : Nat) : Bool := !bit o 15 && decide (n < bits o 0 15)

/-- Check 0x07: a field outside its stated range. A record at index i of n, with its EXT continuation records. -/
def bad07 (e : LoadEnv) (n i : Nat) (r : List Byte) : Bool :=
  let f (dw lo w : Nat) := fld r dw lo w
  match opOf r with
  | 0x01 => f 0 24 7 == 0 || decide (64 < f 0 24 7) || f 1 0 8 != 0 || decide (16 < popCount (f 3 0 64) 64) ||
      f 4 0 32 == 0 || f 5 0 9 == 0 || decide (384 < f 5 0 9) || (decide (31 < f 5 16 8) && f 5 16 8 != 0xFF)
  | 0x02 => f 0 8 3 == 7 || (f 0 8 3 == 6 && f 0 32 16 != 0)
  | 0x04 => f 0 8 1 == 0 && f 0 16 6 != 0
  | 0x08 => (!bit (f 0 16 16) 15 && decide (e.tls ≤ f 0 16 15)) || f 0 48 16 != 0
  | 0x09 => (!bit (f 0 16 16) 15 && decide (e.tls ≤ f 0 16 15)) || decide (2 < f 0 8 3) ||
      (if f 0 11 1 = 1 then immOver (f 0 48 16) 4095 else f 0 48 16 != 0)
  | 0x0A => f 0 8 2 != 1 && f 0 8 2 != 2
  | 0x0B =>
    let ext := f 0 9 2
    let len := f 0 16 8
    len == 0 || decide (192 < len) || f 1 0 3 != 0 || (!bit (f 0 32 16) 15 && f 0 32 16 != 0) || decide (n ≤ i + ext) ||
    (if f 0 8 1 = 1 then ext != 0 || len != 8 * popCount (f 2 0 64) 64
     else ext == 0 || decide (len ≤ 64 * (ext - 1)) || decide (64 * ext < len) || f 2 0 64 != 0)
  | 0x0C =>
    let mode := f 0 8 2
    let topk := mode == 0
    let exit := mode == 2
    let spill := topk && f 0 13 2 == 2
    let slots := f 1 56 7
    mode == 3 || decide (3 < f 0 10 3) || (mode == 1 && f 0 10 3 != 0) ||
    (if topk then f 0 13 2 == 3 else f 0 13 2 != 0) ||
    (if topk then f 0 16 4 == 0 || decide (8 < f 0 16 4) || decide (f 1 0 11 < f 0 16 4) else f 0 16 4 != 0) ||
    (if exit then f 1 0 11 != 1 else f 1 0 11 == 0 || decide (1024 < f 1 0 11)) ||
    (!topk && (f 0 48 16 != 0 || f 1 32 6 != 0)) || (exit && (f 1 24 6 != 0 || slots != 0)) ||
    (!spill && f 1 40 6 != 0) || (!exit && (f 3 8 6 != 0 || f 3 16 16 != 0)) ||
    decide (64 < slots) || decide (64 < f 1 48 6 + slots) || (!exit && slots == 0 && f 3 6 1 == 0) ||
    f 2 0 6 != 0 || immOver (f 0 32 16) (if topk then 16384 else 65536)
  | 0x0D => if f 0 8 1 = 1 then f 1 0 40 != 0 else f 0 16 6 != 0
  | 0x0E => if f 0 8 1 = 1 then f 0 16 14 != 0 else decide (f 0 16 14 < 0x2400) || decide (0x3EFF < f 0 16 14)
  | 0x0F => decide (5 < f 0 8 3) || (f 0 8 3 == 0 && f 0 24 6 != 0) || (f 0 8 3 == 4 && f 1 0 3 != 0)
  | 0x12 =>
    let mode := f 0 8 2
    mode == 3 || (mode == 1 && f 0 24 6 != 0) || (mode != 0 && f 0 32 16 != 0) ||
    (if mode = 1 then f 1 0 6 != 0 else f 1 0 12 != 0) || (if mode = 0 then f 2 0 12 != 0 else f 2 0 57 != 0)
  | _ => false

/-- Gate g has one of the types, the needed right, and, as a VA gate, at least the alignment. -/
def gateFits (ds : List Nat) (g : Nat) (types : List Nat) (route patch : Bool) (align : Nat) : Bool :=
  let d := descOf (nth ds g 0)
  types.contains d.type && (!route || d.routeW) && (!patch || d.patchW) && (d.type != gtVA || decide (align ≤ d.align))

/-- Every gate of the mask has a type. -/
def noneUnused (ds : List Nat) (mask : Nat) : Bool := (onesOf mask 64).all (fun g => (descOf (nth ds g 0)).type != gtUNUSED)

/-- The bound of the named part of a grid operand's gate is at most 65,535 (R94). PART 0 or 3 of a SLOT gate is judged by its MAX
alone, as the rule's sentence on those parts says, though EXPERT and OFFSET may carry the part beyond the bound of its general
sentence (DESIGN CHOICE between the two, log entry 155). -/
def gridBounded (ds : List Nat) (o : Nat) : Bool :=
  let d := descOf (nth ds (bits o 0 6) 0)
  !bit o 15 || (match bits o 6 2 with
    | 1 => true
    | 2 => d.type != gtSLOT
    | _ => decide (d.max ≤ 65535))

/-- Check 0x08: an operand or gate field names a gate of a type it does not accept, or without the right it needs. R100 names
no code for a PUT whose DST gate has ALIGN below 3: DESIGN CHOICE, log entry 136, it fails this check. Whether TOTAL_GATE must be
a COUNT gate while TOTAL_EN is 0 R101 does not say: it is then neither checked nor asked to be 0 (DESIGN CHOICE, log entry 156). -/
def bad08 (ds : List Nat) (r : List Byte) : Bool :=
  let f (dw lo w : Nat) := fld r dw lo w
  let ok (g : Nat) (types : List Nat) := gateFits ds g types false false 0
  let align := if opOf r = opPUT then 3 else 0
  (recOperands r).any (fun p => bit p.1 15 && !gateFits ds (bits p.1 0 6) p.2 false false align) ||
  (match opOf r with
  | 0x01 => !(gridBounded ds (f 2 0 16) && gridBounded ds (f 2 16 16) && gridBounded ds (f 2 32 16) &&
      noneUnused ds (f 3 0 64))
  | 0x04 => f 0 8 1 == 1 && !gateFits ds (f 0 16 6) [gtU64] false true 0
  | 0x09 => f 0 11 1 == 1 && f 0 63 1 == 1 && decide (4095 < (descOf (nth ds (f 0 48 6) 0)).max)
  | 0x0B => f 0 8 1 == 1 && !noneUnused ds (f 2 0 64)
  | 0x0C =>
    let mode := f 0 8 2
    let va (g : Nat) := gateFits ds g [gtVA] false false 6
    !(va (f 1 16 6) && (mode == 2 || va (f 1 24 6)) && (mode != 0 || va (f 1 32 6)) &&
      (!(mode == 0 && f 0 13 2 == 2) || va (f 1 40 6)) &&
      (List.range (f 1 56 7)).all (fun i => gateFits ds (f 1 48 6 + i) [gtSLOT] true false 0) &&
      (f 3 6 1 == 0 || gateFits ds (f 3 0 6) [gtCOUNT] true false 0) &&
      (mode != 2 || gateFits ds (f 3 8 6) [gtPRED] true false 0))
  | 0x0D => (f 0 8 1 == 1 && !ok (f 0 16 6) [gtHANDLE]) || !noneUnused ds (f 2 0 64)
  | 0x0F =>
    !gateFits ds (f 0 16 6) [gtU64, gtVA, gtTIMELINE, gtCOUNT, gtSLOT, gtPRED, gtHANDLE, gtBYTES] false true 0 ||
    (match f 0 8 3 with
     | 0 => false
     | 4 => !gateFits ds (f 0 24 6) [gtVA] false false 3
     | 5 => !ok (f 0 24 6) [gtTIMELINE]
     | _ => !ok (f 0 24 6) [gtU64, gtCOUNT, gtSLOT])
  | 0x12 => !ok (f 0 16 6) [gtVA] || (f 0 8 2 == 0 && !ok (f 0 24 6) [gtVA]) || (f 0 8 2 == 2 && !ok (f 0 24 6) [gtU64])
  | _ => false)

/-- Check 0x05: an unknown opcode; in a management mould also a record it may not hold (R459). -/
def bad05 (mgmt : Bool) (r : List Byte) : Bool :=
  (recMasks (opOf r)).isNone ||
  (mgmt && !([opKERNEL, opBARRIER, opFENCE, opPATCH, opPUT, opEND].contains (opOf r) ||
    (opOf r == opMOVE && fld r 0 8 2 == 0)))

/-! ## Structure (R109 to R113) -/

/-- The structure of a mould: its records, the index of its END and the RETURN records after it. -/
structure Shape where
  n    : Nat
  recs : List (Nat × List Byte)
  fin  : Nat
  rets : List Nat
  deriving DecidableEq, Repr

/-- The records of opcode op. -/
def idxOf (recs : List (Nat × List Byte)) (op : Nat) : List Nat := (recs.filter (fun p => opOf p.2 == op)).map Prod.fst

/-- Record i, if it is no continuation record. -/
def Shape.at? (s : Shape) (i : Nat) : Option (List Byte) := (s.recs.find? (fun p => p.1 == i)).map Prod.snd

/-- The index at which the region of record i starts: 0 for the main body, else just after an END or a RETURN. -/
def Shape.start (s : Shape) (i : Nat) : Nat :=
  (s.fin :: s.rets).foldl (fun m b => if b < i then max m (b + 1) else m) 0

/-- TARGET or PARTNER of a record. -/
def target (r : List Byte) : Nat := fld r 0 48 16

/-- The targets of the CALL records. -/
def Shape.callTargets (s : Shape) : List Nat := (s.recs.filter (fun p => opOf p.2 == opCALL)).map (fun p => target p.2)

/-- Record i, after the END, belongs to a subroutine: a CALL targets a record of its region at or before it, and a RETURN
follows. -/
def Shape.belongs (s : Shape) (i : Nat) : Bool :=
  s.callTargets.any (fun t => decide (s.start i ≤ t ∧ t ≤ i ∧ s.fin < t) && (s.at? t).isSome) &&
  s.rets.any (fun r => decide (i ≤ r))

/-- The LOOP at index i is paired with the ENDLOOP at p in its region (R110). -/
def Shape.paired (s : Shape) (i p : Nat) : Bool :=
  match s.at? i, s.at? p with
  | some l, some x => opOf l == opLOOP && opOf x == opENDLOOP && target l == p && target x == i && decide (i < p) &&
      s.start i == s.start p
  | _, _ => false

/-- The loops of the mould as index pairs. -/
def Shape.loops (s : Shape) : List (Nat × Nat) :=
  ((s.recs.filter (fun p => opOf p.2 == opLOOP)).map (fun p => (p.1, target p.2))).filter (fun q => s.paired q.1 q.2)

/-- The loops that hold record i in their body, an ENDLOOP counted in the body it closes. -/
def loopsAt (ls : List (Nat × Nat)) (i : Nat) : List (Nat × Nat) := ls.filter (fun q => decide (q.1 < i ∧ i ≤ q.2))

/-- The innermost loop that holds record i. -/
def innerLoop (ls : List (Nat × Nat)) (i : Nat) : Option Nat :=
  (loopsAt ls i).foldl (fun m q => match m with | none => some q.1 | some a => some (max a q.1)) none

/-- Two loops neither disjoint nor one inside the other. -/
def crosses (p q : Nat × Nat) : Bool := decide ((p.1 < q.1 ∧ q.1 < p.2 ∧ p.2 < q.2) ∨ (q.1 < p.1 ∧ p.1 < q.2 ∧ q.2 < p.2))

/-- Check 0x09 of one record (R109 to R111). A LOOP whose body holds a RETURN fails as that LOOP (R110). -/
def Shape.bad09 (s : Shape) (ls : List (Nat × Nat)) (i : Nat) (r : List Byte) : Bool :=
  let t := target r
  let op := opOf r
  if op = opGUARD ∨ op = opJUMP then
    !(decide (i < t ∧ t < s.n) && (s.at? t).isSome && s.start i == s.start t && innerLoop ls i == innerLoop ls t)
  else if op = opCALL then
    !(decide (s.fin < t) && (s.at? t).isSome && s.start t == t && s.rets.any (fun x => decide (t ≤ x)))
  else if op = opLOOP then
    !s.paired i t || ls.any (fun q => crosses (i, t) q) || (idxOf s.recs opRETURN).any (fun x => decide (i < x ∧ x < t))
  else if op = opENDLOOP then !s.paired t i
  else op == opRETURN && decide (i < s.fin)

/-- Entries at one call depth: region start and open loops. -/
abbrev Level := List (Nat × Nat)

/-- Open loops at record i inside its region. -/
def nestAt (ls : List (Nat × Nat)) (i : Nat) : Nat :=
  (ls.filter (fun q => decide (q.1 < i ∧ i < q.2))).length

/-- The calls out of the entries of one level. -/
def Shape.calls (s : Shape) (ls : List (Nat × Nat)) (l : Level) : Level :=
  (l.flatMap (fun e => (s.recs.filter (fun p => opOf p.2 == opCALL && s.start p.1 == e.1)).map
    (fun p => (target p.2, min 9 (e.2 + nestAt ls p.1))))).eraseDups

/-- The levels of call depths d, d + 1, … that can be reached, at most `fuel` of them. -/
def Shape.levels (s : Shape) (ls : List (Nat × Nat)) : (fuel d : Nat) → Level → List (Nat × Level)
  | 0, _, _ => []
  | n + 1, d, l => if l.isEmpty then [] else (d, l) :: s.levels ls n (d + 1) (s.calls ls l)

/-- Check 0x0A: the lowest-indexed LOOP or CALL that opens a ninth level along some call path, or the header's depths differ
(R112, R117). A region with a number of open loops occurs on one of the call depths followed, which are as many as there are
regions and numbers. -/
def Shape.check0A (s : Shape) (ls : List (Nat × Nat)) (loopD callD : Nat) : Option Nat :=
  let lv := s.levels ls (10 * (s.rets.length + 1)) 0 [(0, 0)]
  let opens (i : Nat) (r : List Byte) : Bool := lv.any (fun dl => dl.2.any (fun e => s.start i == e.1 &&
    ((opOf r == opLOOP && e.2 + nestAt ls i + 1 == 9) || (opOf r == opCALL && dl.1 + 1 == 9))))
  match s.recs.find? (fun p => opens p.1 p.2) with
  | some p => some p.1
  | none =>
    let deepL := lv.foldl (fun m dl => dl.2.foldl (fun m e => (idxOf s.recs opLOOP).foldl (fun m i =>
      if s.start i = e.1 then max m (e.2 + nestAt ls i + 1) else m) m) m) 0
    let deepC := lv.foldl (fun m dl => max m dl.1) 0
    if deepL = loopD ∧ deepC = callD then none else some 0xFFFF

/-- The regions that can be reached by calls from the regions of l. -/
def Shape.reach (s : Shape) : (fuel : Nat) → List Nat → List Nat
  | 0, l => l
  | n + 1, l =>
    let l' := (l ++ (s.recs.filter (fun p => opOf p.2 == opCALL && l.contains (s.start p.1))).map
      (fun p => target p.2)).eraseDups
    if l'.length = l.length then l else s.reach n l'

/-- Check 0x0B: the lowest-indexed CALL on a cycle. -/
def Shape.check0B (s : Shape) : Option Nat :=
  (s.recs.find? (fun p => opOf p.2 == opCALL && (s.reach s.n [target p.2]).contains (s.start p.1))).map Prod.fst

/-- Check 0x0C: the index of the failure (R113). With no FENCE of scope SYSTEM just before the STAMP, a GUARD or JUMP before
it that targets the STAMP or a later record is still the one reported, before the STAMP itself: R117 does not say which is
(DESIGN CHOICE, log entry 136). -/
def Shape.check0C (s : Shape) (ls : List (Nat × Nat)) : Option Nat :=
  match idxOf s.recs opSTAMP with
  | [] => some 0xFFFF
  | _ :: b :: _ => some b
  | [st] =>
    match s.recs.find? (fun p => decide (p.1 < st ∧ st ≤ target p.2) && (opOf p.2 == opGUARD || opOf p.2 == opJUMP)) with
    | some p => some p.1
    | none =>
      match s.recs.find? (fun p => decide (st < p.1 ∧ p.1 < s.fin) && opOf p.2 != opSIGNAL && opOf p.2 != opEVENT) with
      | some p => some p.1
      | none =>
        let fence := match s.at? (st - 1) with
          | some f => decide (0 < st) && opOf f == opFENCE && fld f 0 8 2 == 2
          | none => false
        if s.fin < st ∨ nestAt ls st ≠ 0 ∨ !fence then some st else none

/-- Check 0x0D: the index of the failure (R109). -/
def check0D (s : Shape) : Option Nat :=
  match idxOf s.recs opEND with
  | [] => some 0xFFFF
  | _ :: b :: _ => some b
  | [e] => (s.recs.find? (fun p => decide (e < p.1) && !s.belongs p.1)).map Prod.fst

/-- The shape of a list of records. -/
def shapeOf (n : Nat) (recs : List (Nat × List Byte)) : Shape :=
  let fin := (idxOf recs opEND).headD n
  { n := n, recs := recs, fin := fin, rets := (idxOf recs opRETURN).filter (fun i => decide (fin < i)) }

/-! ## The whole check (R117) -/

/-- The first record that fails a check, with the check's code. -/
def firstBad (recs : List (Nat × List Byte)) (code : Nat) (p : Nat → List Byte → Bool) : Option (Nat × Nat) :=
  (recs.find? (fun x => p x.1 x.2)).map (fun x => (code, x.1))

/-- Check 0x0E: a SPAWN with FROM_GATE 0 names no valid mould and bank, or passes a gate unused there. -/
def bad0E (e : LoadEnv) (r : List Byte) : Bool :=
  opOf r == opSPAWN && fld r 0 8 1 == 0 &&
  (match e.child (fld r 1 0 20) (fld r 1 20 12) with
   | none => true
   | some (banks, ds) => decide (banks ≤ fld r 1 32 8) || !noneUnused ds (fld r 2 0 64))

/-- The checks that come before the digest: codes 0x13, 0x01, 0x02, 0x12. -/
def loadHead (e : LoadEnv) (b : List Byte) : Option (Nat × Nat) :=
  if e.gbase % 512 ≠ 0 then some (0x13, 0xFFFF)
  else if leAt b 0 4 ≠ 0x444D5A43 ∨ leAt b 4 2 ≠ 1 ∨ leAt b 6 2 ≠ 0 ∨ leAt b 0x0E 2 ≠ 0 ∨
      (slice b 0x20 0xB0).any (fun x => x != 0) then some (0x01, 0xFFFF)
  else if imRecords b = 0 ∨ 65536 < imRecords b ∨ imBanks b = 0 ∨ 256 < imBanks b ∨ imTable b % 64 ≠ 0 ∨
      2 ^ 20 < imTable b then some (0x02, 0xFFFF)
  else if e.len ≠ 0x300 + imRecords b * 64 + imTable b then some (0x12, 0xFFFF)
  else none

/-- The checks after the digest has been computed, in the order of R117: the code and index of the first failure. -/
def loadBody (e : LoadEnv) (b : List Byte) (digest : List Byte) : Option (Nat × Nat) :=
  let n := imRecords b
  let ds := imDescs b
  let recs := imList b n 0 0
  let sh := shapeOf n recs
  let ls := sh.loops
  let at_ (code : Nat) (i : Option Nat) : Option (Nat × Nat) := i.map (fun i => (code, i))
  (if slice b 0xD0 48 = digest then none else some (0x03, 0xFFFF)) <|>
  at_ 0x04 (lowest 64 (fun g => descBad (nth ds g 0))) <|>
  firstBad recs 0x05 (fun _ r => bad05 e.mgmt r) <|>
  firstBad recs 0x06 (fun _ r => bad06 r) <|>
  firstBad recs 0x07 (fun i r => bad07 e n i r) <|>
  firstBad recs 0x08 (fun _ r => bad08 ds r) <|>
  at_ 0x0D (check0D sh) <|>
  firstBad recs 0x09 (fun i r => sh.bad09 ls i r) <|>
  at_ 0x0A (sh.check0A ls (leAt b 0x14 1) (leAt b 0x15 1)) <|>
  at_ 0x0B sh.check0B <|>
  (if e.mgmt then none else at_ 0x0C (sh.check0C ls)) <|>
  firstBad recs 0x0E (fun _ r => bad0E e r) <|>
  firstBad recs 0x0F (fun _ r => opOf r == opROUTE && decide (imTable b < fld r 2 0 32 + fld r 2 32 16 * 64)) <|>
  firstBad recs 0x10 (fun _ r => !e.mgmt && opOf r == opKERNEL && decide (e.groups < fld r 0 16 6 + fld r 0 24 7)) <|>
  (if leAt b 0x16 2 = e.rev then none else some (0x11, 0xFFFF))

end Sys2Proof.Machine
end

