-- ==== Sys2Proof/Machine/Mould.lean ====
section
/-! DEFINITION. Moulds (04): loading, handles, unloading, and the mould cache. -/
namespace Sys2Proof.Machine

/-! ## The store and the handle table (R115, R116, R119) -/

/-- First byte and length of the mould store of a flask, or of the management mould store (R459). -/
def State.storeArea (s : State) (flask : Option Nat) : Nat × Nat :=
  match flask with
  | some f => (s.rd .MC_STORE_BASE f * 4096, s.rd .MC_STORE_SIZE f * 2 ^ 20)
  | none => (s.rd .MB_MSTORE_BASE * 4096, s.rd .MB_MSTORE_SIZE * 2 ^ 20)

/-- The first free 4 KiB-aligned run of n bytes in a store (R115). -/
def State.freeRun (s : State) (flask : Option Nat) (n : Nat) : Option Nat :=
  let (base, size) := s.storeArea flask
  let used := s.moulds.table.map (fun m => (m.addr, m.len))
  let cands := (base :: used.map (fun u => roundUp (u.1 + u.2) 4096)).filter (fun a =>
    inside a n base size && decide (base ≤ a ∧ 0 < size) && !used.any (fun u => overlaps a n u.1 u.2))
  cands.foldl (fun m a => match m with | none => some a | some b => some (min a b)) none

/-- The lowest free handle index (R118). -/
def State.freeHandle (s : State) : Option Nat :=
  lowest 1048576 (fun i => !s.moulds.table.any (fun m => m.idx == i))

/-- The current generation of handle index i (R120): 0 at first, and kept when the table is zeroed (DESIGN CHOICE, log entry
135). -/
def State.handleGen (s : State) (i : Nat) : Nat := aget s.moulds.gens i 0

/-- Segments of a mould of n records. -/
def segsOf (n : Nat) : Nat := ceilDiv n 64

/-- The set of segment seg of the mould at index idx (R121). -/
def setOf (idx seg : Nat) : Nat := (seg + idx) % 128

/-- Segments that are pinned or are being filled to be pinned. -/
def State.pinned (s : State) : List (Nat × Nat) :=
  (s.moulds.segs.filter Seg.pinned).map (fun g => (g.idx, g.seg)) ++
  (s.moulds.fills.filter Fill.pin).map (fun g => (g.idx, g.seg))

/-- Pinning n records at index idx keeps within R124. -/
def State.pinFits (s : State) (idx n : Nat) : Bool :=
  let new := (List.range (segsOf n)).map (fun g => (idx, g))
  let all := s.pinned ++ new
  decide (all.length ≤ 1536) &&
  (List.range 128).all (fun k => decide ((all.filter (fun p => setOf p.1 p.2 == k)).length ≤ 12))

/-- The descriptors of a loaded mould, from its copy. -/
def State.descsOf (s : State) (m : Mould) : List Nat :=
  (List.range 64).map (fun g => ofLe (s.dieRead (m.addr + 0x100 + g * 8) 8))

/-- Record i of a mould, from its copy. -/
def State.recordOf (s : State) (m : Mould) (i : Nat) : List Byte := s.dieRead (m.addr + 0x300 + i * 64) 64

/-- A mould loaded at a handle, of the flask. -/
def State.childOf (s : State) (f : Option Nat) (idx gen : Nat) : Option (Nat × List Nat) :=
  match s.mould? idx gen with
  | some m => if m.flask = f then some (m.banks, s.descsOf m) else none
  | none => none

/-! ## MOULD_LOAD (R115 to R118, R393, R459) -/

/-- A mould that the locked flask f does not allow is found (R393). -/
def State.foreignMould (s : State) (f : Nat) : State :=
  ((s.flaskCause f .FL_CAUSE_FOREIGN_MOULD).wr .FL_ERR_FOREIGN_MOULD 1).callFlask f

/-- The ranges of memory that slot n's MOULD_LOAD reads. -/
def State.loadRanges (s : State) (n : Nat) : List (Nat × Nat) := [(s.par n 1, max (s.par n 2) 0x300)]

/-- The body or the bank area lies where it must not (R115, R459, R454). -/
def State.loadDenied (s : State) (mgmt : Bool) (f body len gbase banks : Nat) : Bool :=
  body % 64 != 0 ||
  (if mgmt then !(s.outsideAll body len && s.outsideAll gbase (banks * 512))
   else !(s.inFlask f body len && s.inFlask f gbase (banks * 512)) ||
     (s.flaskSealed f && !(s.allPublic body len && s.allPublic gbase (banks * 512))))

/-- Slot n's MOULD_LOAD fails a check of R117. -/
def State.loadBadArg (s : State) (n f code index : Nat) : State :=
  (((s.wr .MC_LOAD_ERR_CODE code).wr .MC_LOAD_ERR_INDEX index).wr .MC_LOAD_ERR_FLASK f).reply n stBADARG
    [0, code + index * 256]

/-- The checked body b is copied to address a, and its entry stands in the directory, not yet loaded; with PIN its
segments are read (R115, R118), and kept even while CZ_MC_CTL.EN is 0 (DESIGN CHOICE, log entry 138). -/
def State.loadCopy (s : State) (n : Nat) (flask : Option Nat) (idx a gbase : Nat) (pin : Bool) (b digest : List Byte) :
    State :=
  let m : Mould := { idx := idx, gen := s.handleGen idx, flask := flask, fgen := (flask.map s.flaskGen).getD 0,
                     addr := a, len := b.length, records := imRecords b, banks := imBanks b, gbase := gbase,
                     tsize := imTable b, digest := digest, pinned := pin, loaded := false, slot := some n }
  let t := (s.overPut (cellsAt a b)).countFor ((flask.map Charge.overhead).getD .package) 9 b.length
  let t := { t with moulds := { t.moulds with table := t.moulds.table ++ [m] } }
  if pin then
    let fs := (List.range (segsOf m.records)).map
      (fun g => ({ idx := idx, gen := m.gen, seg := g, pin := true } : Fill))
    let t := (t.bump .MC_STATS_MISSES 0 fs.length).sayAll (fs.map (fun g => .fillRead idx g.seg))
    { t with moulds := { t.moulds with fills := t.moulds.fills ++ fs } }
  else t

/-- MOULD_LOAD in slot n from its start point. -/
def State.mouldLoad (s : State) (n : Nat) : State :=
  let p0 := s.par n 0
  let pin := bit p0 48
  let mgmt := bit p0 49
  let (f, g) := s.fref n
  let body := s.par n 1
  let len := s.par n 2
  let gbase := s.par n 3
  let owner := if mgmt then none else some f
  if mgmt && (f != 0 || g != 0) then s.reply n stBADARG
  else if !mgmt && !s.frefOk n then (s.frefStale n).reply n stSTATE
  else if !mgmt && !s.flaskLive f then s.reply n stSTATE
  else
    let hdr := s.dieRead body 0x300
    let moved (s : State) (k : Nat) : State := s.countFor ((owner.map Charge.overhead).getD .package) 9 k
    if s.loadDenied mgmt f body len gbase (imBanks hdr) then s.reply n stDENIED
    else if !s.on .MC_HTAB_EN then s.reply n stNORES
    else match s.freeHandle, s.freeRun owner len with
      | some idx, some a =>
        if pin && !s.pinFits idx (imRecords hdr) then s.reply n stNORES
        else
          let env : LoadEnv := { len := len, gbase := gbase, tls := s.rd .FL_TCOUNT_M1 f + 1,
                                 groups := popCount (s.rd .FL_GROUPS f) 64, mgmt := mgmt, rev := s.rd .ID_ENGINE_REV,
                                 child := s.childOf owner }
          match loadHead env hdr with
          | some (c, i) => (moved s 0x300).loadBadArg n f c i
          | none =>
            let b := s.dieRead body len
            let digest := imDigest b
            let s := moved s len
            if !mgmt && s.on .FL_LOCKED f && !(s.vault f).allow.contains digest then
              (s.foreignMould f).reply n stSTATE
            else match loadBody env b digest with
              | some (c, i) => s.loadBadArg n f c i
              | none => s.loadCopy n owner idx a gbase pin b digest
      | _, _ => s.reply n stNORES

/-- Every segment of mould m is in the cache. -/
def State.allFilled (s : State) (m : Mould) : Bool :=
  (List.range (segsOf m.records)).all (fun g => s.moulds.segs.any (fun x => x.idx == m.idx && x.gen == m.gen && x.seg == g))

/-- The mould chain of a sealed flask takes in a mould (R393). -/
def chainNext (chain digest : List Byte) (idx gen : Nat) : List Byte :=
  sha384 (chain ++ digest ++ leBytes 4 idx ++ leBytes 2 gen)

/-- The flask of mould m has been locked since its digest was found, by an allow list that does not hold it (R393). -/
def State.lockedOut (s : State) (m : Mould) : Option Nat :=
  m.flask.filter (fun f => s.on .FL_LOCKED f && !(s.vault f).allow.contains m.digest)

/-- MOULD_LOAD_COMPLETE (R118, R393): the handle table entry of index idx turns valid and the load replies. A mould that has
become foreign since its load began does not turn valid (DEDUCED, log entry 81). The entries stand in State.moulds: R119 gives
the 32 bytes that an entry takes in HBM no layout, and they stay zero (DESIGN CHOICE, log entry 135). -/
def State.loadComplete (s : State) (idx : Nat) : State :=
  match s.moulds.table.find? (fun m => m.idx == idx && !m.loaded) with
  | none => s
  | some m =>
    if m.pinned && !s.allFilled m then s
    else if let some f := s.lockedOut m then
      let tb := updAll s.moulds.table (fun x => x.idx == idx) (fun x => { x with slot := none })
      let t := { s with moulds := { s.moulds with table := tb } }.foreignMould f
      match m.slot with
      | some n => t.reply n stSTATE
      | none => t
    else
      let tb := updAll s.moulds.table (fun x => x.idx == idx) (fun x => { x with loaded := true, slot := none })
      let t := { s with moulds := { s.moulds with table := tb } }
      let t := match m.flask with
        | some f => if t.flaskSealed f then
            t.setVault { t.vault f with chain := chainNext (t.vault f).chain m.digest idx m.gen } else t
        | none => t
      match m.slot with
      | some n => t.reply n stOK [idx + m.gen * 2 ^ 20]
      | none => t

/-! ## MOULD_UNLOAD (R120) -/

/-- Mould m leaves: its entry turns free, its generation advances, its segments go. -/
def State.dropMould (s : State) (m : Mould) : State :=
  { s with moulds := { table := s.moulds.table.filter (fun x => x.idx != m.idx),
                       gens := aset s.moulds.gens m.idx ((m.gen + 1) % 4096),
                       segs := s.moulds.segs.filter (fun g => g.idx != m.idx),
                       fills := s.moulds.fills.filter (fun g => g.idx != m.idx) } }

/-- A pour of mould idx, gen is in flight. -/
def State.mouldBusy (s : State) (m : Mould) : Bool :=
  s.ctxs.any (fun x => x.mould == m.idx && x.mgen == m.gen) || s.mbox.runWait.any (fun w => w.2 == (m.idx, m.gen))

/-- MOULD_UNLOAD in slot n from its start point. -/
def State.mouldUnload (s : State) (n : Nat) : State :=
  let (f, g) := s.fref n
  let idx := bits (s.par n 1) 0 20
  let gen := bits (s.par n 1) 20 12
  match s.moulds.table.find? (fun m => m.idx == idx && m.loaded) with
  | none => s.reply n stSTATE
  | some m =>
    let denied := match m.flask with | some o => o != f | none => s.par n 0 != 0
    if denied then s.reply n stDENIED
    else if m.flask.isSome && g != s.flaskGen f then (s.stale .flask f g (s.flaskGen f)).reply n stSTATE
    else if gen ≠ m.gen then (s.stale .mould idx gen m.gen).reply n stSTATE
    else if s.mouldBusy m then s.reply n stBUSY
    else (s.dropMould m).reply n stOK

/-! ## The mould cache (R121 to R125) -/

/-- Segment seg of mould idx, gen is valid in the cache. -/
def State.cached (s : State) (idx gen seg : Nat) : Bool :=
  s.moulds.segs.any (fun g => g.idx == idx && g.gen == gen && g.seg == seg)

/-- A hit on a segment makes it the most recently used. -/
def State.touchSeg (s : State) (idx seg : Nat) : State :=
  let p (g : Seg) : Bool := g.idx == idx && g.seg == seg
  { s with moulds := { s.moulds with segs := s.moulds.segs.filter (fun g => !p g) ++ s.moulds.segs.filter p } }

/-- The segment that a fill into set k takes the place of: none of them is needed while a way is invalid; all ways
pinned gives no place (R122). -/
def State.victim (s : State) (k : Nat) : Option (Option Seg) :=
  let ways := s.moulds.segs.filter (fun g => setOf g.idx g.seg == k)
  if ways.length < 16 then some none
  else
    let free := ways.filter (fun g => !g.pinned)
    match free.find? (fun g => (s.mould? g.idx g.gen).isNone) with
    | some g => some (some g)
    | none => free.head?.map some

/-- A fill is installed, if it is to be kept and its set has room (R122, R123); whether it was. -/
def State.installSeg (s : State) (f : Fill) : Bool × State :=
  if !f.keep then (false, s)
  else match s.victim (setOf f.idx f.seg) with
    | none => (false, s)
    | some v =>
      let segs := s.moulds.segs.filter (fun g => some g != v)
      (true, { s with moulds := { s.moulds with
        segs := segs ++ [{ idx := f.idx, gen := f.gen, seg := f.seg, pinned := f.pin }] } })

/-- The root pour of context c, whose charge its segment reads are (R412). -/
def State.payerOf (s : State) (c : Nat) : Option PourId := (s.ctx? c).map (fun x => (s.rootOf x).pour)

/-- The read of segment seg of mould m is issued for context c, or c joins a read of it under way (R122, R125), which is not
counted again, with EN 0 neither (DESIGN CHOICE, log entry 138). -/
def State.demandFill (s : State) (m : Mould) (seg c : Nat) : State :=
  let p (x : Fill) : Bool := x.idx == m.idx && x.gen == m.gen && x.seg == seg
  if s.moulds.fills.any p then
    { s with moulds := { s.moulds with fills := updAll s.moulds.fills p (fun x => { x with waiters := x.waiters ++ [c] }) } }
  else
    let f : Fill := { idx := m.idx, gen := m.gen, seg := seg, waiters := [c], keep := s.on .MC_CTL_EN, payer := s.payerOf c }
    let t := (s.bump .MC_STATS_MISSES).say (.fillRead m.idx seg)
    { t with moulds := { t.moulds with fills := t.moulds.fills ++ [f] } }

/-- Segment seg of mould m is prefetched for context c if the registers allow it, it exists, and it is not there or on its way
(R130, R125). -/
def State.prefetch (s : State) (m : Mould) (seg c : Nat) : State :=
  if s.on .MC_CTL_EN && s.on .MC_CTL_PREFETCH_EN && decide (seg < segsOf m.records) && !s.cached m.idx m.gen seg &&
      !s.moulds.fills.any (fun x => x.idx == m.idx && x.gen == m.gen && x.seg == seg) then
    let t := (s.bump .MC_STATS_MISSES).say (.fillRead m.idx seg)
    { t with moulds := { t.moulds with fills := t.moulds.fills ++ [{ idx := m.idx, gen := m.gen, seg := seg, payer := s.payerOf c }] } }
  else s

/-- The 4 KiB of fill f have been read: for the pour whose walk it serves (R412), or as overhead of the flask whose
MOULD_LOAD pins it (R414). -/
def State.countFill (s : State) (f : Fill) : State :=
  match f.payer with
  | some p => s.countPour p 9 4096
  | none => match s.moulds.table.find? (fun m => m.idx == f.idx && !m.loaded) with
    | some m => s.countFor ((m.flask.map Charge.overhead).getD .package) 9 4096
    | none => s

/-- SEGMENT_FILL_RETURN (R121, R122, R484): the fill of segment seg of the mould at index idx ends. -/
def State.fillReturn (s : State) (idx seg : Nat) (ret : Ret) : State :=
  match s.moulds.fills.find? (fun x => x.idx == idx && x.seg == seg) with
  | none => s
  | some f =>
    let t := { s.countFill f with moulds := { s.moulds with fills := s.moulds.fills.filter (fun x => x != f) } }
    match ret with
    | .ok _ =>
      let (kept, t) := t.installSeg f
      { t with ctxs := updAll t.ctxs (fun x => f.waiters.contains x.num)
                         (fun x => { x with st := if x.st == .waitFetch then .run else x.st,
                                            buf := if kept then none else some seg }) }
    | bad =>
      match s.moulds.table.find? (fun m => m.idx == idx) with
      | none => t
      | some m =>
        let a := m.addr + 0x300 + seg * 4096 + 64 * (badLines bad 64).headD 0
        let pour := (((f.waiters.head?.bind s.ctx?).map (fun x => (s.rootOf x).pour.word)).getD 0)
        match m.flask with
        | some o => (t.hbmUe a 0x0D 1 0 o pour).callFlask o
        | none => (t.hbmUe a 0x0D 3 0 noFlask 0).callBlock

/-- The segments that leave when EN is cleared: every unpinned one; fills under way are not kept (R125). -/
def State.cacheOff (s : State) : State :=
  { s with moulds := { s.moulds with segs := s.moulds.segs.filter Seg.pinned,
                                     fills := s.moulds.fills.map (fun f => if f.pin then f else { f with keep := false }) } }

/-- MC_CTL_WRITE (R125): a write of the register; EN at 0 empties the unpinned part of the cache. -/
def State.mcCtl (s : State) (size half val : Nat) : State :=
  let t := s.regWrite 0x208000 size half val
  if t.on .MC_CTL_EN then t else t.cacheOff

/-- Moulds loaded (R126). -/
def State.loadedCount (s : State) : Nat := (s.moulds.table.filter Mould.loaded).length

/-- The block zeroes [a, a + n): the stores accepted there before come to nothing, and a line that a host core holds is zeroed
once its copy is given up (R41, R323). -/
def State.ownZero (s : State) (a n : Nat) : State :=
  let held := (s.hlp.filter.map HostLine.line).filter (fun l => decide (lineOf a ≤ l ∧ l * 64 < a + n))
  let now (x : Nat) : Bool := decide (a ≤ x) && decide (x < a + n) && !held.contains (lineOf x)
  let cut (st : BufStore) : BufStore := { st with cells := st.cells.filter (fun c => !now c.1) }
  held.foldl (fun t l => t.ownWrite (64 * l) (zeros 64))
    { s with wbuf := s.wbuf.map cut, hbm := s.hbm.filter (fun c => !now c.1) }

/-- MC_HTAB_WRITE (R126): no effect while moulds are loaded; a write that sets EN zeroes the table, behind the stores that the
controllers have accepted there (R308), and the host copies of its lines are recalled (R323). The generations of the handles
go on (DESIGN CHOICE, log entry 135). -/
def State.mcHtab (s : State) (size half val : Nat) : State :=
  if s.loadedCount ≠ 0 then s.heldWrite (0x208018) size
  else
    let t := s.regWrite 0x208018 size half val
    if (size = 8 ∨ half = 1) ∧ t.on .MC_HTAB_EN then t.ownZero (t.rd .MC_HTAB_BASE * granule) granule else t

end Sys2Proof.Machine
end

