-- ==== Sys2Proof/Machine/Xlate.lean ====
section
/-! DEFINITION. The translation unit (07): lookups, walks, faults and their records, pinned sets, invalidations, and the
atlas commands; with the arming of the hot-sheet counters of 08. -/
namespace Sys2Proof.Machine

/-! ## Sheets and slots (R200, R205, R210) -/

/-- Sheet sizes in bytes. -/
def sheet32M : Nat := 2 ^ 25
def sheet1G : Nat := 2 ^ 30
def sheet64G : Nat := 2 ^ 36

/-- The SIZE code of a sheet (R202), and the level of its leaf. -/
def sizeCode (n : Nat) : Nat := if n = sheet32M then 1 else if n = sheet1G then 2 else 3
def leafLevel (n : Nat) : Nat := 4 - sizeCode n

/-- The sheet size of the leaf at a level. -/
def levelSize (l : Nat) : Nat := if l = 1 then sheet64G else if l = 2 then sheet1G else sheet32M

/-- The bound atlas slots. -/
def State.atlases (s : State) : List Nat := s.listed .XL_ATLAS_VALID

/-- The slot that PASID p is bound in. -/
def State.slotOfPasid (s : State) (p : Nat) : Option Nat := s.atlases.find? (fun a => s.rd .XL_ATLAS_PASID a == p)

/-- The slot of a pour's address space. -/
def State.slotOf (s : State) (x : Ctx) : Option Nat :=
  match s.slotOfPasid x.pasid with
  | some a => if s.rd .XL_ATLAS_FLASK a = x.flask then some a else none
  | none => none

/-- The set of the sheet cache that a sheet falls in (R210). -/
def sheetSet (slot va size : Nat) : Nat := Nat.xor (va / size % 512) (slot % 512)

/-- The leaf that the sheet cache holds for an address (R210). -/
def State.sheetHit (s : State) (slot va : Nat) : Option Leaf :=
  s.xl.sheets.find? (fun l => l.slot == slot && decide (l.va ≤ va ∧ va < l.va + l.size))

/-- A hit makes the leaf the most recently used. -/
def State.touchSheet (s : State) (l : Leaf) : State :=
  { s with xl := { s.xl with sheets := s.xl.sheets.filter (fun x => x != l) ++ [l] } }

/-! ## Hot-sheet counters (R237 to R241) -/

/-- Entry i of CZ_TIER_HOT is freed. -/
def State.disarm (s : State) (i : Nat) : State :=
  s.rstAll [.TIER_HOT_VALID, .TIER_HOT_FLAGGED, .TIER_HOT_SIZE, .TIER_HOT_SLOT, .TIER_HOT_VA, .TIER_HOT_COUNT,
    .TIER_HOT_LOCAL] i

/-- Every armed counter that meets p is disarmed (R241). -/
def State.disarmIf (s : State) (p : Nat → Bool) : State := (s.listed .TIER_HOT_VALID).foldl (fun t i => if p i then t.disarm i else t) s

/-- Size and base of the sheet that counter i follows. -/
def State.hotSize (s : State) (i : Nat) : Nat :=
  match s.rd .TIER_HOT_SIZE i with | 1 => sheet32M | 2 => sheet1G | _ => sheet64G
def State.hotVa (s : State) (i : Nat) : Nat := s.rd .TIER_HOT_VA i * sheet32M

/-- The entry that a new counter takes: a free one, or the one with the lowest COUNT among those not FLAGGED, the lowest
index among equals (R237). -/
def State.hotPlace (s : State) : Option Nat :=
  let armed := s.listed .TIER_HOT_VALID
  match lowest 2048 (fun i => !armed.contains i) with
  | some i => some i
  | none => (armed.filter (fun i => !s.on .TIER_HOT_FLAGGED i)).foldl (fun m i => match m with
      | none => some i
      | some j => if s.rd .TIER_HOT_COUNT i < s.rd .TIER_HOT_COUNT j then some i else m) none

/-- A counter is armed for a leaf that enters the sheet cache (R237). -/
def State.armHot (s : State) (l : Leaf) : State :=
  if !(s.on .TIER_CTL_HOT_EN && l.tier == 1 && !l.exempt && !s.flaskSealed (s.rd .XL_ATLAS_FLASK l.slot)) then s
  else if (s.listed .TIER_HOT_VALID).any (fun i => s.rd .TIER_HOT_SLOT i == l.slot && s.hotVa i == l.va && s.hotSize i == l.size)
  then s
  else match s.hotPlace with
    | none => s
    | some i =>
      let t := (((s.disarm i).wr .TIER_HOT_VALID 1 i).wr .TIER_HOT_SIZE (sizeCode l.size) i).wr .TIER_HOT_SLOT l.slot i
      (t.wr .TIER_HOT_VA (l.va / sheet32M) i).wr .TIER_HOT_LOCAL (l.pa % 2 ^ 44 / sheet32M) i

/-- The 16 bytes of the hot record of counter i (R240). -/
def State.hotBytes (s : State) (i : Nat) : List Byte :=
  let a := s.rd .TIER_HOT_SLOT i
  leBytes 8 (s.hotVa i) ++
  leBytes 8 (s.rd .XL_ATLAS_PASID a + s.rd .XL_ATLAS_FLASK a * 2 ^ 20 + s.rd .TIER_HOT_SIZE i * 2 ^ 26 +
    s.rd .TIER_HOT_COUNT i * 2 ^ 32)

/-- The hot record of counter i goes to its flask's hot ring, or is counted as lost (R240). -/
def State.hotRecord (s : State) (i : Nat) : State :=
  let f := s.rd .XL_ATLAS_FLASK (s.rd .TIER_HOT_SLOT i)
  let cap := s.rd .TIER_HRING_BASE_SIZE f * 256
  let w := s.rd .TIER_HRING_PTRS_WR_IDX f
  if ringFull w (s.rd .TIER_HRING_PTRS_RD_IDX f) cap then s.bump .TIER_HRING_PTRS_LOST f
  else (s.wr .TIER_HRING_PTRS_WR_IDX ((w + 1) % cap) f).ownWrite (s.rd .TIER_HRING_BASE_BASE f * 4096 + w * 16)
    (s.hotBytes i) 0 (.hot f)

/-- A request to host physical address a advances every armed counter whose sheet holds it; a COUNT that reaches THRESH
flags its sheet (R238, R239). -/
def State.countHot (s : State) (a : Nat) : State :=
  (s.listed .TIER_HOT_VALID).foldl (fun t i =>
    let base := t.rd .TIER_HOT_LOCAL i * sheet32M
    if base ≤ a ∧ a < base + t.hotSize i then
      let t := t.bump .TIER_HOT_COUNT i
      if max (t.rd .TIER_CTL_THRESH) 1 ≤ t.rd .TIER_HOT_COUNT i ∧ !t.on .TIER_HOT_FLAGGED i then
        (t.wr .TIER_HOT_FLAGGED 1 i).hotRecord i else t
    else t) s

/-! ## The sheet cache and the walk cache (R210, R211) -/

/-- A leaf enters the sheet cache, in the place of the least recently used way of a full set (R210). -/
def State.installLeaf (s : State) (l : Leaf) : State :=
  let rest := s.xl.sheets.filter (fun x => !(x.slot == l.slot && x.va == l.va && x.size == l.size))
  let k := sheetSet l.slot l.va l.size
  let ways := rest.filter (fun x => sheetSet x.slot x.va x.size == k)
  let rest := if ways.length < 16 then rest else match ways.head? with
    | some v => rest.filter (fun x => x != v)
    | none => rest
  { s with xl := { s.xl with sheets := rest ++ [l] } }.armHot l

/-- The shift of the VA bits that index levels 0 to L. -/
def levelShift (l : Nat) : Nat := if l = 0 then 47 else if l = 1 then 36 else if l = 2 then 30 else 25

/-- Index of an address at a level (R200). -/
def levelIndex (l va : Nat) : Nat :=
  if l = 0 then bits va 47 10 else if l = 1 then bits va 36 11 else if l = 2 then bits va 30 6 else bits va 25 5

/-- Bytes of a table at a level (R200). -/
def tableBytes (l : Nat) : Nat := if l = 0 then 8192 else if l = 1 then 16384 else if l = 2 then 512 else 256

/-- The deepest walk-cache hit for an address: level and table of the walk's start (R207, R211). -/
def State.walkStart (s : State) (slot va : Nat) : Nat × Nat :=
  let hit (l : Nat) := s.xl.tables.find? (fun h => h.slot == slot && h.level == l && h.pre == va / 2 ^ levelShift l)
  let root := (0, s.rd .XL_ATLAS_ROOT slot * 8192)
  if !s.on .XL_CTL_WC_EN then root
  else match hit 2, hit 1, hit 0 with
    | some h, _, _ => (3, h.next)
    | none, some h, _ => (2, h.next)
    | none, none, some h => (1, h.next)
    | none, none, none => root

/-- A table entry enters the walk cache, which holds 512 (R211). -/
def State.installTable (s : State) (h : TableHit) : State :=
  if !s.on .XL_CTL_WC_EN then s
  else
    let rest := s.xl.tables.filter (fun x => !(x.slot == h.slot && x.level == h.level && x.pre == h.pre))
    { s with xl := { s.xl with tables := rest.drop (rest.length + 1 - 512) ++ [h] } }

/-! ## Fault kinds (R228) -/

def xfNOT_VALID : Nat := 0x01
def xfREAD : Nat := 0x02
def xfWRITE : Nat := 0x03
def xfATOMIC : Nat := 0x04
def xfHOST_ABSENT : Nat := 0x05
def xfADDR : Nat := 0x06
def xfFLASK : Nat := 0x07
def xfBAD_ENTRY : Nat := 0x08
def xfRANGE : Nat := 0x09
def xfSEAL : Nat := 0x0A
def xfWALK_ERR : Nat := 0x0B
def xfUNBOUND : Nat := 0x0C
def xfOUT_OF_SET : Nat := 0x0D
def xfINV_OVERRUN : Nat := 0x0E

/-- Codes of R231. -/
def Acc.code : Acc → Nat
  | .read => 0 | .write => 1 | .atomic => 2 | .fetch => 3
def Requester.code : Requester → Nat
  | .engine _ => 0 | .caster _ => 1 | .route => 2 | .seqr _ => 3

/-- The check of an access against its leaf (R208, R383): the kind of the first failure. -/
def State.accessFault (s : State) (l : Leaf) (x : Ctx) (who : Requester) (acc : Acc) : Option Nat :=
  let confined := s.flaskSealed x.flask && (who == .route || acc == .fetch)
  if l.tier = 1 && s.hostAway then some xfHOST_ABSENT
  else if (acc = .read || acc = .fetch) && !l.rd then some xfREAD
  else if acc = .write && !l.wr then some xfWRITE
  else if acc = .atomic && !l.at_ then some xfATOMIC
  else if confined && !l.sealed then some (if acc = .write then xfWRITE else xfREAD)
  else none

/-! ## Fault records (R229 to R232) -/

/-- A fault of a management pour is block-class (R163, R459). -/
def State.mgmtFault (s : State) (x : Ctx) : State :=
  (s.ras { severity := 3, unit := 2, code := 7, pour := x.pour.word }).callBlock

/-- The held records of flask f. -/
def State.heldCount (s : State) (f : Nat) : Nat := (s.xl.helds.filter (fun h => h.flask == f)).length

/-- The 32 bytes of a fault record (R231). -/
def State.faultBytes (s : State) (a : Ask) (x : Ctx) (kind level fid : Nat) (held : Bool) : List Byte :=
  let phys := x.rt && (match a.owner with
    | .engine _ | .pin _ | .repin _ => true
    | _ => a.acc == .fetch)
  let va := if s.flaskSealed x.flask then a.va / sheet32M * sheet32M else a.va
  let eng := match a.who with | .engine e => e | _ => 0x3FF
  leBytes 8 (va % 2 ^ 64) ++
  leBytes 8 (x.pasid + x.flask % 64 * 2 ^ 20 + kind * 2 ^ 32 + a.acc.code * 2 ^ 40 + b2n held * 2 ^ 42 + b2n phys * 2 ^ 43 +
    level * 2 ^ 44 + a.who.code * 2 ^ 48) ++
  leBytes 8 x.pour.word ++
  leBytes 8 (fid + eng * 2 ^ 16 + bits (s.clock .core) 10 32 * 2 ^ 32)

/-- Engine e holds leaf l in its sheet buffer. -/
def State.keepGrant (s : State) (e : Nat) (l : Leaf) : State :=
  let (id, t) := s.newId
  let rest := t.xl.grants.filter (fun g => !(g.eng == e && g.leaf.slot == l.slot && g.leaf.va == l.va && g.leaf.size == l.size))
  { t with xl := { t.xl with grants := { eng := e, id := id, leaf := l } :: rest } }

/-- Request a takes the answer: an engine is told and keeps a grant, a unit that asked by TRANSLATION_REQUEST has its answer,
and any other requester finds it. -/
def State.answer (s : State) (a : Ask) (r : Ans) : State :=
  match a.owner with
  | .unit => { s with xl := { s.xl with asks := s.xl.asks.filter (fun b => b.id != a.id) } }
  | .engine e =>
    let t := { s with xl := { s.xl with asks := s.xl.asks.filter (fun b => b.id != a.id) } }
    match r with
    | .grant l => (t.keepGrant e l).say (.grant e l.va l.size l.pa l.tier l.rd l.wr l.at_ l.sealed l.pub l.slot)
    | .fault k _ => t.say (.xlFault e k)
  | _ => { s with xl := { s.xl with asks := updAll s.xl.asks (fun b => b.id == a.id) (fun b => { b with wait := .done r }) } }

/-- A held record that no request is joined to is released (R234). -/
def State.releaseIdle (s : State) : State :=
  { s with xl := { s.xl with helds := s.xl.helds.filter (fun h => s.xl.asks.any (fun a => a.wait == .held h.flask h.fid)) } }

/-- Request a is dropped. -/
def State.dropAsk (s : State) (a : Ask) : State :=
  { s with xl := { s.xl with asks := s.xl.asks.filter (fun b => b.id != a.id) } }

/-- The fault ring of flask f has room (R232). -/
def State.faultRoom (s : State) (f : Nat) : Bool :=
  !ringFull (s.rd .XL_FRING_PTRS_WR_IDX f) (s.rd .XL_FRING_PTRS_RD_IDX f) (s.rd .XL_FRING_BASE_SIZE f * 128)

/-- A fault that the ring has no room for (R232). -/
def State.faultLost (s : State) (f : Nat) : State :=
  let t := (s.bump .XL_FAULTS_UNRECORDED).wr .XL_ERR_FRING_FULL 1
  if t.xl.ringFull.contains f then t
  else { t.raise (0x22C0 + f) with xl := { t.xl with ringFull := f :: t.xl.ringFull } }

/-- A fault record of flask f goes to its ring; source 0x2280 + f follows the home's acknowledgement (R232). -/
def State.faultWrite (s : State) (f : Nat) (bs : List Byte) : State :=
  let w := s.rd .XL_FRING_PTRS_WR_IDX f
  let cap := s.rd .XL_FRING_BASE_SIZE f * 128
  let t := ((s.wr .XL_FRING_PTRS_WR_IDX ((w + 1) % cap) f).adv .XL_FLASK_NEXT_ID f).bump .XL_FAULTS_RECORDED
  t.ownWrite (s.rd .XL_FRING_BASE_BASE f * 4096 + w * 32) bs 0 (.event (0x2280 + f))

/-- Kinds that may be held (R228). -/
def resumable (kind : Nat) : Bool := decide (kind ≤ 5)

/-- The pour's root is already being ended, or drains. -/
def State.ending (s : State) (x : Ctx) : Bool := (s.rootOf x).cause.isSome

/-- The pour's root is already being ended, by an error, a cancellation or a reset of its flask (R402): a fault while it drains
still ends it by the fault (R74, R229). -/
def State.failing (s : State) (x : Ctx) : Bool :=
  x.stopped || (s.rootOf x).cause.any (fun c => c.kind != .drain)

/-- A fault of kind FLASK, BAD_ENTRY, RANGE or SEAL is shown in CZ_XL_ERR (R235). -/
def State.badAtlas (s : State) (kind : Nat) : State :=
  if [xfFLASK, xfBAD_ENTRY, xfRANGE, xfSEAL].contains kind then s.wr .XL_ERR_BAD_ATLAS 1 else s

/-- The second row of R229. -/
def State.faultEnd (s : State) (a : Ask) (x : Ctx) (kind level : Nat) : State :=
  let f := x.flask
  let t := if s.faultRoom f then s.faultWrite f (s.faultBytes a x kind level (s.rd .XL_FLASK_NEXT_ID f) false)
    else s.faultLost f
  (t.answer a (.fault kind level)).endPour x.num 3 kind

/-- Request a faults (R229, R230, R232, R218): it joins a held record, makes a record that is held, or its pour ends. One whose
pour another fault found in the same clock is ending (`twin`) has its record too. -/
def State.faultAsk (s : State) (a : Ask) (kind level : Nat) (mayHold : Bool := true) (twin : Bool := false) : State :=
  let s := s.badAtlas kind
  match s.ctx? a.ctx with
  | none => (s.dropAsk a).bump .XL_FAULTS_UNRECORDED
  | some x =>
    if x.mgmt then (s.answer a (.fault kind level)).mgmtFault x
    else if s.failing x && !twin then (s.dropAsk a).bump .XL_FAULTS_UNRECORDED
    else if (match a.owner with | .pin _ => true | _ => false) then s.answer a (.fault kind level)
    else
      let f := x.flask
      let wait (fid : Nat) (t : State) : State := { t with xl := { t.xl with
        asks := updAll t.xl.asks (fun b => b.id == a.id) (fun b => { b with wait := .held f fid }) } }
      let canHold := mayHold && resumable kind && !x.rt
      match s.xl.helds.find? (fun h => h.slot == a.slot && h.region == a.va / sheet32M && h.flask == f) with
      | some h =>
        if canHold then wait h.fid s
        else s.faultEnd a x kind level
      | none =>
        if canHold && s.on .XL_FLASK_STALL f && decide (s.heldCount f < 16) && s.faultRoom f then
          let fid := s.rd .XL_FLASK_NEXT_ID f
          let t := s.faultWrite f (s.faultBytes a x kind level fid true)
          let h : Held := { flask := f, fid := fid, slot := a.slot, region := a.va / sheet32M, kind := kind }
          (wait fid { t with xl := { t.xl with helds := t.xl.helds ++ [h] } }).releaseIdle
        else s.faultEnd a x kind level

/-- An access of context c that is not made by way of a translation request faults, and is not held (second row of
R229). -/
def State.faultNow (s : State) (who : Requester) (c va : Nat) (acc : Acc) (kind level : Nat) : State :=
  let s := s.badAtlas kind
  match s.ctx? c with
  | none => s.bump .XL_FAULTS_UNRECORDED
  | some x =>
    let owner := match who with | .engine e => Owner.engine e | _ => Owner.record c
    let a : Ask := { id := 0, owner := owner, who := who, ctx := c, slot := (s.slotOf x).getD 1024, va := va, acc := acc,
                     wait := .walk 0 }
    if x.mgmt then s.mgmtFault x
    else if s.failing x then s.bump .XL_FAULTS_UNRECORDED
    else s.faultEnd a x kind level

/-! ## Asking for a translation (R208, R212, R213) -/

/-- Request a is settled by its leaf; `twin` as for faultAsk. -/
def State.settleAsk (s : State) (a : Ask) (l : Leaf) (twin : Bool := false) : State :=
  match s.ctx? a.ctx with
  | none => s.dropAsk a
  | some x =>
    match a.owner with
    | .pin _ | .repin _ => s.answer a (.grant l)
    | _ => match s.accessFault l x a.who a.acc with
      | some k => s.faultAsk a k (leafLevel l.size) true twin
      | none => s.answer a (.grant l)

/-- Translations a requester may have outstanding (R212). -/
def askLimit : Requester → Nat
  | .engine _ => 4 | .caster _ => 16 | .route => 64 | .seqr _ => 16

/-- Translations that a requester has outstanding. -/
def State.asksOf (s : State) (who : Requester) : Nat :=
  (s.xl.asks.filter (fun a => a.who == who && (match a.wait with | .done _ => false | _ => true))).length

/-- The request of an owner for an address and access, if it has made one. -/
def State.askFor (s : State) (o : Owner) (va : Nat) (acc : Acc) : Option Ask :=
  s.xl.asks.find? (fun a => a.owner == o && a.va == va && a.acc == acc)

/-- The addresses [a, a + n) lie where a management pour may go (R459). -/
def State.mgmtOk (s : State) (a n : Nat) : Bool :=
  decide (a + n ≤ hbmSize) && !s.meetsFlask a n && !(s.areas.take 3).any (fun r => overlaps a n r.1 r.2)

/-- The owner's request is walked without a look at the sheet cache: a migration walks to its leaf (R243, R244). -/
def Owner.walks : Owner → Bool
  | .mig _ => true
  | _ => false

/-- A request that misses waits on a walk of its region, a new one if none is under way (R212). -/
def State.joinWalk (s : State) (a : Ask) : State :=
  let same (w : Walk) : Bool := w.slot == a.slot && w.va / sheet32M == a.va / sheet32M && (!a.owner.walks || w.fresh)
  match s.xl.walks.find? same with
  | some w => { s with xl := { s.xl with asks := s.xl.asks ++ [{ a with wait := .walk w.id }] } }
  | none =>
    let (id, s) := s.newId
    { s with xl := { s.xl with walks := s.xl.walks ++ [{ id := id, slot := a.slot, va := a.va, fresh := a.owner.walks }],
                               asks := s.xl.asks ++ [{ a with wait := .walk id }] } }

/-- The owner asks once for an address and access, and finds the answer there; an engine, or a unit by TRANSLATION_REQUEST,
is answered as often as it asks (R212). -/
def Owner.once : Owner → Bool
  | .engine _ | .unit => false
  | _ => true

/-- A translation is asked for: answered from the sheet cache, or queued for a walk. A requester at its limit asks
later. -/
def State.ask (s : State) (o : Owner) (who : Requester) (c va : Nat) (acc : Acc) (n : Nat := 1) : State :=
  match s.ctx? c with
  | none => s
  | some x =>
    if (o.once && (s.askFor o va acc).isSome) || decide (askLimit who ≤ s.asksOf who) then s
    else
      let (id, s) := s.newId
      let a : Ask := { id := id, owner := o, who := who, ctx := c, slot := (s.slotOf x).getD 1024, va := va, acc := acc,
                       wait := .walk 0 }
      let added (t : State) : State := { t with xl := { t.xl with asks := t.xl.asks ++ [a] } }
      if x.mgmt then
        let page := va / 4096 * 4096
        let eng := match who with | .engine _ => true | _ => false
        let ok := if eng then s.mgmtOk page 4096 else s.mgmtOk va n
        let l : Leaf := { slot := 1024, va := if eng then page else 0, size := if eng then 4096 else 2 ^ 44,
                          pa := (if eng then page else 0) + s.rd .PEER_CTL_NODE_ID * 2 ^ 44, tier := 0, rd := true,
                          wr := true, at_ := true }
        if ok then (added s).answer a (.grant l) else (added s).faultAsk a xfRANGE 0xF
      else if 2 ^ 57 ≤ va then (added s).faultAsk a xfADDR 0xF
      else if (s.slotOf x).isNone then (added s).faultAsk a xfUNBOUND 0xF
      else match (if o.walks then none else s.sheetHit a.slot va) with
        | some l => (((added s).bump .XL_STATS_HITS).touchSheet l).settleAsk a l
        | none => s.joinWalk a

/-- The answer to an owner's request, if it has come. -/
def State.answered (s : State) (o : Owner) (va : Nat) (acc : Acc) : Option Ans :=
  match s.askFor o va acc with
  | some a => match a.wait with | .done r => some r | _ => none
  | none => none

/-- The grant of an owner's request, if it has come. -/
def State.granted (s : State) (o : Owner) (va : Nat) (acc : Acc) : Option Leaf :=
  match s.answered o va acc with
  | some (.grant l) => some l
  | _ => none

/-- The requests of an owner are over; a held record that none is joined to any more is released (R234). -/
def State.forget (s : State) (o : Owner) : State :=
  { s with xl := { s.xl with asks := s.xl.asks.filter (fun a => a.owner != o) } }.releaseIdle

/-- An access of the PHYS kernel k that engine e runs, to physical address pa: it makes no translation request, and is
checked against the pinned grants that the engine loaded (R217, R218, R227, R383). A fault that one of them decides has its
virtual address and level (R231). -/
def State.physAccess (s : State) (e : Nat) (k : Kernel) (pa : Nat) (acc : Acc) : State :=
  match (s.lane e).grants.find? (fun l => decide (l.pa ≤ pa ∧ pa < l.pa + l.size)) with
  | none => (s.faultNow (.engine e) k.ctx pa acc xfOUT_OF_SET 0xF).say (.xlFault e xfOUT_OF_SET)
  | some l => match (s.ctx? k.ctx).bind (fun x => s.accessFault l x (.engine e) acc) with
    | some n => (s.faultNow (.engine e) k.ctx (l.va + (pa - l.pa)) acc n (leafLevel l.size)).say (.xlFault e n)
    | none => s

/-- The PHYS kernel of context c that engine e runs. -/
def State.physOn (s : State) (e c : Nat) : Option Kernel :=
  ((s.lane e).running.bind s.kernel?).filter (fun k => k.phys && k.ctx == c)

/-- TRANSLATION_REQUEST (R213): requester `who` asks for the translation of va for the pour of context c. -/
def State.xlRequest (s : State) (who : Requester) (c va : Nat) (acc : Acc) : State :=
  if !s.ready then s
  else match who with
    | .engine e => (match s.physOn e c with
    | some k => s.physAccess e k va acc
    | none => s.ask (.engine e) who c va acc)
    | _ => s.ask .unit who c va acc

/-! ## Walks (R207, R212) -/

/-- A translation of a slot, sheet and tier is affected by invalidation v (R221, R227). -/
def Inv.hits (v : Inv) (slot va size tier : Nat) : Bool :=
  v.slots.contains slot && (match v.range with | none => true | some r => overlaps va size r.1 r.2) &&
  (!v.hostOnly || tier == 1)

/-- The requests that wait on walk w, oldest first. -/
def State.waiters (s : State) (w : Nat) : List Ask := s.xl.asks.filter (fun a => a.wait == .walk w)

/-- Walk w leaves. -/
def State.dropWalk (s : State) (w : Nat) : State :=
  { s with xl := { s.xl with walks := s.xl.walks.filter (fun x => x.id != w) } }

/-- The requests that wait on walk w are settled by f, one after another in one clock. One whose pour a fault of another of them
is ending is settled all the same, where its pour was not being ended before: several faults of one pour then have their records,
and the first decides the pour's status (R229). -/
def State.settleWalk (s : State) (w : Nat) (f : State → Ask → Bool → State) : State :=
  let live (a : Ask) : Bool := (s.ctx? a.ctx).any (fun x => !s.failing x)
  (s.waiters w).foldl (fun t a => if t.xl.asks.contains a || live a then f t a (live a) else t) (s.dropWalk w)

/-- Every request on walk w is settled by a leaf. -/
def State.finishWalk (s : State) (w : Nat) (l : Leaf) : State := s.settleWalk w (fun t a twin => t.settleAsk a l twin)

/-- Every request on walk w faults. -/
def State.faultWalk (s : State) (w kind level : Nat) : State :=
  s.settleWalk w (fun t a twin => t.faultAsk a kind level true twin)

/-- The read of a walk at its level is issued. -/
def State.issueWalkRead (s : State) (w : Walk) : State :=
  s.say (.atlasRead w.id (w.table + levelIndex w.level w.va * 8))

/-- Walk w is replaced. -/
def State.setWalk (s : State) (w : Walk) : State :=
  { s with xl := { s.xl with walks := updAll s.xl.walks (fun x => x.id == w.id) (fun _ => w) } }

/-- The walk-cache entry that a walk starts from becomes the most recently used (R211). -/
def State.touchTable (s : State) (slot va level : Nat) : State :=
  let hit (h : TableHit) : Bool := h.slot == slot && h.level + 1 == level && h.pre == va / 2 ^ levelShift h.level
  { s with xl := { s.xl with tables := s.xl.tables.filter (fun h => !hit h) ++ s.xl.tables.filter hit } }

/-- [a, a + n) lies inside flask f's private range and outside its mould store. -/
def State.inPrivate (s : State) (f a n : Nat) : Bool :=
  let (b, z) := s.storeArea (some f)
  s.inFlask f a n && !overlaps a n b z

/-- A table of a level at a 56-bit physical address lies where R201 permits. -/
def State.tableOk (s : State) (f level pa : Nat) : Bool :=
  let a := pa % 2 ^ 44
  pa / 2 ^ 44 == s.rd .PEER_CTL_NODE_ID && s.inPrivate f a (tableBytes level) &&
  (!s.flaskSealed f || s.allPublic a (tableBytes level))

/-- Walk w starts, at the deepest walk-cache hit; a root that no longer lies where R201 permits faults before any entry is
read. -/
def State.startWalk (s : State) (w : Walk) : State :=
  let (l, t) := s.walkStart w.slot w.va
  let w := { w with started := true, marked := false, level := l, table := t }
  let root := t + s.rd .PEER_CTL_NODE_ID * 2 ^ 44
  let u := ((s.setWalk w).bump .XL_STATS_WALKS).touchTable w.slot w.va l
  if l = 0 && !s.tableOk (s.rd .XL_ATLAS_FLASK w.slot) 0 root then u.faultWalk w.id xfRANGE 0xF else u.issueWalkRead w

/-- SURVEYOR_WALK_START (R212): a free surveyor takes the oldest queued walk, after one more lookup. -/
def State.surveyorStart (s : State) : State :=
  if !s.ready || decide (32 ≤ (s.xl.walks.filter Walk.started).length) then s
  else match s.xl.walks.find? (fun w => !w.started) with
    | none => s
    | some w =>
      match (if w.fresh then none else s.sheetHit w.slot w.va) with
      | some l => ((s.bump .XL_STATS_HITS).touchSheet l).finishWalk w.id l
      | none => s.startWalk w

/-- A sheet lies where its tier permits (R203). -/
def State.sheetOk (s : State) (f tier pa size : Nat) : Bool :=
  let a := pa % 2 ^ 44
  let own := pa / 2 ^ 44 == s.rd .PEER_CTL_NODE_ID
  match tier with
  | 0 => own && (s.inPrivate f a size ||
      (!s.flaskSealed f && (match s.areas.head? with | some r => inside a size r.1 r.2 && r.2 != 0 | none => false)))
  | 1 => own && decide (a + size ≤ 2 ^ 44)
  | _ => !own

/-- An invalidation by which the sealing unit changes its records (R204). -/
def Inv.ofSeal (v : Inv) : Bool := match v.source with | .seal _ => true | _ => false

/-- Element i of a field of the sealing unit's records as translation of a sheet sees it: a change applies once the
invalidation that goes with it is complete (R204). -/
def State.sealRd (s : State) (slot va size tier : Nat) (f : Field) (i : Nat) : Nat :=
  let vs := s.xl.invs.filter (fun v => v.ofSeal && v.hits slot va size tier)
  match vs.findSome? (fun v => v.old.find? (fun p => p.1 == f.key i)) with
  | some p => p.2
  | none => s.rd f i

/-- The valid public VA windows of flask f that translation of a sheet sees: PASID, base and length (R382). -/
def State.pubWindows (s : State) (f slot va size tier : Nat) : List (Nat × Nat × Nat) :=
  let rd := s.sealRd slot va size tier
  ((List.range 16).filter (fun j => rd .FL_PUBVA_VALID (f * 16 + j) == 1)).map (fun j =>
    (rd .FL_PUBVA_PASID (f * 16 + j), rd .FL_PUBVA_BASE (f * 16 + j) * sheet32M, rd .FL_PUBVA_SIZE (f * 16 + j) * sheet32M))

/-- The SEALED and PUBLIC that the sealing unit records for a sheet; none where it records neither (R382). -/
def State.sealAttr (s : State) (f slot tier pa va size : Nat) : Option (Bool × Bool) :=
  let rd := s.sealRd slot va size tier
  let st := rd .FL_STATE f
  if !(if st = s.flaskState f then s.flaskSealed f else st == flSEALING || st == flSEALED) then some (false, false)
  else if tier = 0 then
    let gs := granulesOf (pa % 2 ^ 44) size
    if gs.all (fun g => rd .SEAL_GRAN_SEAL g == 1) then some (true, false)
    else if gs.all (fun g => rd .SEAL_GRAN_SEAL g == 2) then some (false, true) else none
  else
    let ws := (s.pubWindows f slot va size tier).filter (fun w => w.1 == s.rd .XL_ATLAS_PASID slot)
    if ws.any (fun w => inside va size w.2.1 w.2.2) then some (false, true)
    else if ws.any (fun w => overlaps va size w.2.1 w.2.2) then none else some (false, false)

/-- A migration holds the leaf at an HBM address in a slot with VALID 0 (R245). -/
def State.migAt (s : State) (slot addr : Nat) : Option Mig :=
  s.tier.migs.find? (fun m => m.slot == slot && m.leafAt == addr && (match m.stage with
    | .walk | .evict | .swap1 => false | _ => true))

/-- The requests of walk w wait for migration j. -/
def State.parkWalk (s : State) (w j : Nat) : State :=
  let t := s.dropWalk w
  { t with xl := { t.xl with asks := updAll t.xl.asks (fun a => a.wait == .walk w) (fun a => { a with wait := .mig j }) } }

/-- What the entry e, read by walk w, leads to (R202 to R204, R207). -/
def State.walkEntry (s : State) (w : Walk) (e : Nat) : State :=
  let f := s.rd .XL_ATLAS_FLASK w.slot
  let fault (k : Nat) : State := s.faultWalk w.id k w.level
  let entryAt := w.table + levelIndex w.level w.va * 8
  if !bit e 0 then
    match s.migAt w.slot entryAt with
    | some m => s.parkWalk w.id m.id
    | none => fault xfNOT_VALID
  else if bits e 56 6 ≠ f then fault xfFLASK
  else if bits e 62 2 ≠ 0 then fault xfBAD_ENTRY
  else if !bit e 1 then
    let next := bits e 12 44 * 4096
    if w.level = 3 ∨ bits e 2 10 ≠ 0 then fault xfBAD_ENTRY
    else if !s.tableOk f (w.level + 1) next then fault xfRANGE
    else
      let a := next % 2 ^ 44
      let h : TableHit := { slot := w.slot, level := w.level, pre := w.va / 2 ^ levelShift w.level, next := a }
      let t := if w.marked then s else s.installTable h
      let w := { w with level := w.level + 1, table := a }
      (t.setWalk w).issueWalkRead w
  else
    let size := levelSize w.level
    let pa := bits e 25 31 * sheet32M
    let tier := bits e 8 2
    let va := w.va / size * size
    if w.level = 0 ∨ bits e 2 2 ≠ 4 - w.level then fault xfBAD_ENTRY
    else if tier = 3 ∨ pa % size ≠ 0 then fault xfBAD_ENTRY
    else if !s.sheetOk f tier pa size then fault xfRANGE
    else if s.sealAttr f w.slot tier pa va size ≠ some (bit e 7, bit e 10) then fault xfSEAL
    else
      let l : Leaf := { slot := w.slot, va := va, size := size, pa := pa, tier := tier, rd := bit e 4, wr := bit e 5,
                        at_ := bit e 6, exempt := bit e 11, sealed := bit e 7, pub := bit e 10 }
      (if tier = 1 && s.headless then s else s.installLeaf l).finishWalk w.id l

/-- The bytes that a read of HBM returns to an agent of the block: what the host gave back where it held the line
modified, else the memory's. -/
def State.homeRead (s : State) (a n : Nat) (d : List Byte) : List Byte :=
  (List.range n).map (fun i => if s.hostExcl (lineOf (a + i)) then nth d i 0 else s.dieByte (a + i))

/-- The entry e ends walk w: it is a leaf, or the walk faults or waits for a migration there. -/
def State.walkEnds (s : State) (w : Walk) (e : Nat) : Bool :=
  !bit e 0 || bit e 1 || bits e 56 6 != s.rd .XL_ATLAS_FLASK w.slot || bits e 62 2 != 0 || w.level == 3 ||
  bits e 2 10 != 0 || !s.tableOk (s.rd .XL_ATLAS_FLASK w.slot) (w.level + 1) (bits e 12 44 * 4096)

/-- WALK_READ_RETURN (R207, R223): the read of walk `id` returns; a marked walk that ends, however it ends, starts
again. -/
def State.walkReturn (s : State) (id : Nat) (ret : Ret) : State :=
  match s.xl.walks.find? (fun w => w.id == id && w.started) with
  | none => s
  | some w =>
    let a := w.table + levelIndex w.level w.va * 8
    match ret with
    | .ok d =>
      let e := ofLe (s.homeRead a 8 d)
      if w.marked && s.walkEnds w e then s.startWalk w else s.walkEntry w e
    | _ =>
      let x := (s.waiters id).head?.bind (fun a => s.ctx? a.ctx)
      let t := (s.hbmUe a 4 0 0 (s.rd .XL_ATLAS_FLASK w.slot) ((x.map (fun x => x.pour.word)).getD 0)).wr .XL_ERR_WALK_ERR 1
      if w.marked then t.startWalk w else t.faultWalk id xfWALK_ERR w.level

/-- Requests held for migration j walk again (R245). -/
def State.wakeMig (s : State) (j : Nat) : State :=
  let as := s.xl.asks.filter (fun a => a.wait == .mig j)
  as.foldl (fun t a => (t.dropAsk a).joinWalk a) s

/-! ## Pinned sets (R215 to R219) -/

/-- VA_ARGS of a mould: gates of type VA that its KERNEL records pass (R215). -/
def State.vaArgs (s : State) (m : Mould) : List Nat :=
  let ds := s.descsOf m
  let body := s.dieRead m.addr m.len
  (List.range 64).filter (fun g => (descOf (nth ds g 0)).type == gtVA &&
    (imList body m.records 0 0).any (fun p => opOf p.2 == opKERNEL && bit (fld p.2 3 0 64) g))

/-- CODE_LIST of a mould: the distinct code regions in the order of their first KERNEL, up to 16 (R215). -/
def State.codeList (s : State) (m : Mould) : List Nat :=
  let body := s.dieRead m.addr m.len
  ((imList body m.records 0 0).foldl (fun l p =>
    if opOf p.2 = opKERNEL ∧ !l.contains (fld p.2 1 25 32) then l ++ [fld p.2 1 25 32] else l) []).take 16

/-- Pinned entries in use, of all real-time pours. -/
def State.pinsUsed (s : State) : Nat := s.ctxs.foldl (fun n x => n + x.pins.length) 0

/-- The pinned set of context c moves on: the next addresses are asked for, answers become entries while the table has
room, and faults are kept (R216, R218). -/
def State.growPins (s : State) (c : Nat) : State :=
  match s.ctx? c with
  | none => s
  | some x => x.pinAsk.foldl (fun t q =>
    let acc := if q.1 then Acc.fetch else Acc.read
    let t := t.ask (.pin c) x.seqr c q.2 acc
    match t.askFor (.pin c) q.2 acc, t.ctx? c with
    | some a, some y =>
      match a.wait with
      | .done (.grant l) =>
        if (y.pinFor q.2).isSome then
          (t.dropAsk a).modCtx c (fun y => { y with pinAsk := y.pinAsk.filter (fun p => p != q) })
        else if t.pinsUsed < 4096 then
          (t.dropAsk a).modCtx c (fun y => { y with pinAsk := y.pinAsk.filter (fun p => p != q),
                                                     pins := y.pins ++ [{ leaf := l }] })
        else t
      | .done (.fault k lv) =>
        (t.dropAsk a).modCtx c (fun y => { y with
          pinAsk := y.pinAsk.filter (fun p => p != q),
          codeFault := if q.1 then (q.2 / sheet32M, k, lv) :: y.codeFault else y.codeFault })
      | _ => t
    | _, _ => t) s

/-- Stale entries of context c are asked for again, and take the place of the old ones (R224). -/
def State.regrowPins (s : State) (c : Nat) : State :=
  match s.ctx? c with
  | none => s
  | some x => (x.pins.filter Pin.stale).foldl (fun t p =>
    let t := t.ask (.repin c) x.seqr c p.leaf.va .read
    match t.askFor (.repin c) p.leaf.va .read with
    | some a => match a.wait with
      | .done (.grant l) =>
        (t.dropAsk a).modCtx c (fun y => { y with pins := updAll y.pins (fun q => q == p) (fun _ => { leaf := l }) })
      | _ => t
    | none => t) s

/-- A kernel with unstarted lane records waits on a stale entry of context x, or its next KERNEL does (R224). -/
def State.needsRepin (s : State) (x : Ctx) : Bool :=
  x.repin || s.kernels.any (fun k => k.ctx == x.num && s.staleKernel k && k.left.any (fun e => (s.lane e).running != some k.id))

/-- The pinned sets move on: those being built, and stale entries that unstarted lane records wait for. -/
def State.pumpPins (s : State) : State :=
  s.ctxs.foldl (fun t x =>
    let t := if x.pinAsk.isEmpty then t else t.growPins x.num
    match t.ctx? x.num with
    | some y => if y.pins.any Pin.stale && t.needsRepin y then t.regrowPins y.num else t
    | none => t) s

/-! ## Invalidation (R220 to R227) -/

/-- Slots in use of the pool that an invalidation draws on, and the pool's size (R220). -/
def State.invPool (s : State) (f : InvFrom) : Nat × Nat :=
  let n (p : InvFrom → Bool) : Nat := (s.xl.invs.filter (fun v => v.started && p v.source)).length
  match f with
  | .host _ => (n (fun g => match g with | .host _ => true | _ => false), 64)
  | .cmd _ => (n (fun g => match g with | .cmd _ => true | _ => false), 8)
  | .seal _ | .headless => (n (fun g => match g with | .seal _ | .headless => true | _ => false), 8)
  | .mig _ | .unbind _ => (0, 1)

/-- Running PHYS kernels with a pinned grant that invalidation v affects (R224). -/
def State.physWaits (s : State) (v : Inv) : List Nat :=
  (s.kernels.filter (fun k => k.phys && s.lanes.any (fun l => l.running == some k.id &&
    l.grants.any (fun g => v.hits g.slot g.va g.size g.tier)))).map Kernel.id

/-- Engines discard the staged copies of records that carry a stale address: such a record is again at the head of its lane
(R224). -/
def State.unstage1 (s : State) : State :=
  { s with lanes := s.lanes.map (fun l => match l.shadow with
      | some k => if (s.kernel? k).any s.staleKernel then { l with shadow := none, queue := k :: l.queue } else l
      | none => l) }

/-- An answered grant that its requester may still take up for an access it has not made: it is asked for again once the
sheet is invalidated. A PUT that has handed over lines goes on under its one translation (R267). -/
def State.dropsGrant (s : State) (v : Inv) (a : Ask) : Bool :=
  match a.wait with
  | .done (.grant l) => v.hits l.slot l.va l.size l.tier && (match a.owner with
      | .record c => (s.ctx? c).all (fun x => x.putAt == 0)
      | _ => true)
  | _ => false

/-- Steps 1 to 3 of R223 for invalidation v. -/
def State.startInv (s : State) (v : Inv) : State :=
  let v := { v with started := true, mark := s.nextId, acks := List.range 512, kernels := s.physWaits v }
  let hit (l : Leaf) : Bool := v.hits l.slot l.va l.size l.tier
  let stalePins (x : Ctx) : Ctx := { x with pins := updAll x.pins (fun p => hit p.leaf) (fun p => { p with stale := true }) }
  let t := { s with ctxs := s.ctxs.map stalePins }
  let asks := s.xl.asks.filter (fun a => !s.dropsGrant v a)
  let walks := updAll s.xl.walks (fun w => w.started && v.slots.contains w.slot) (fun w => { w with marked := true })
  let tables := if v.hostOnly then s.xl.tables else s.xl.tables.filter (fun h => !v.slots.contains h.slot)
  let invs := updAll s.xl.invs (fun x => x.id == v.id) (fun _ => v)
  let sheets := s.xl.sheets.filter (fun l => !hit l)
  let t := { t with xl := { t.xl with walks := walks, sheets := sheets, tables := tables, invs := invs, asks := asks } }
  (t.disarmIf (fun i => v.hits (t.rd .TIER_HOT_SLOT i) (t.hotVa i) (t.hotSize i) 1)).unstage1.say
    (.purge v.id v.slots v.range v.hostOnly)

/-- An invalidation is made; one whose pool is full waits for a slot (R220). -/
def State.invalidate (s : State) (f : InvFrom) (slots : List Nat) (range : Option (Nat × Nat)) (hostOnly : Bool := false)
    (old : List (Nat × Nat) := []) : State :=
  let (id, s) := s.newId
  let v : Inv := { id := id, source := f, slots := slots, range := range, hostOnly := hostOnly, old := old }
  let t := { s with xl := { s.xl with invs := s.xl.invs ++ [v] } }
  let (n, m) := s.invPool f
  if n < m then t.startInv v else t

/-- Invalidations that wait for a slot take the slots that are free. -/
def State.pumpInvs (s : State) : State :=
  s.xl.invs.foldl (fun t v =>
    match t.xl.invs.find? (fun x => x.id == v.id && !x.started) with
    | some v => let (n, m) := t.invPool v.source; if n < m then t.startInv v else t
    | none => t) s

/-- PURGE_ACK (R226): engine e acknowledges the purge of invalidation i, having dropped the grants it matches. -/
def State.purgeAck (s : State) (e i : Nat) : State :=
  let gone (g : Grant) : Bool := g.eng == e && s.xl.invs.any (fun v => v.id == i && v.started &&
    v.hits g.leaf.slot g.leaf.va g.leaf.size g.leaf.tier)
  let s := { s with xl := { s.xl with grants := s.xl.grants.filter (fun g => !gone g) } }
  let invs := updAll s.xl.invs (fun v => v.id == i && v.started) (fun v => { v with acks := v.acks.filter (fun k => k != e) })
  { s with xl := { s.xl with invs := invs } }

/-- An access made under a translation that invalidation v affects has not completed (R223, step 5): one handed over, a
sealed block that waits for its log, or a PUT that has handed over some of its lines. An engine's access was made under its
grant, and so under an affected one where that grant was made before; any other was made as it was accepted. An engine's store
whose grant the unit does not know is waited for wherever its slot is affected. -/
def State.invBusy (s : State) (v : Inv) : Bool :=
  let hit (slot va tier : Nat) (sheet : Nat × Nat) : Bool :=
    if sheet.2 = 0 then v.hits slot (va / sheet32M * sheet32M) sheet32M tier else v.hits slot sheet.1 sheet.2 tier
  let before (grant id : Nat) : Bool := decide ((if grant = 0 then id else grant) < v.mark)
  s.reqs.any (fun r => before r.grant r.id && hit r.slot r.va r.tier r.sheet) ||
  s.cast.egress.any (fun e => before e.grant e.ord && hit e.slot e.va e.tier e.sheet) ||
  s.xl.asks.any (fun a => decide (a.id < v.mark) && (match a.wait with
    | .done (.grant l) => v.hits l.slot l.va l.size l.tier && (match a.owner with | .record _ => true | _ => false)
    | _ => false)) ||
  s.hlp.waits.any (fun w => match w.act with
    | .store st => before st.grant st.id && !v.hostOnly &&
        (if st.sheet.2 = 0 then v.slots.contains st.slot else v.hits st.slot st.sheet.1 st.sheet.2 0)
    | _ => false)

/-- The leaf of an address as a walk of memory finds it: its address, its value and the level; or the first line on the way
to it that a host core holds modified, which it must first give back (R41). -/
def State.leafOf (s : State) (slot va : Nat) : Except Nat (Option (Nat × Nat × Nat)) :=
  let rec go : Nat → Nat → Nat → Except Nat (Option (Nat × Nat × Nat))
    | 0, _, _ => .ok none
    | n + 1, l, table =>
      let a := table + levelIndex l va * 8
      let e := ofLe (s.dieRead a 8)
      if s.hostExcl (lineOf a) then .error (lineOf a)
      else if bit e 1 || l == 3 then .ok (some (a, e, l))
      else if !bit e 0 then .ok none else go n (l + 1) (bits e 12 32 * 4096)
  go 4 0 (s.rd .XL_ATLAS_ROOT slot * 8192)

/-- A promotion's frame is freed without copy-back (R251). -/
def State.discard (s : State) (p : Promo) : State :=
  { s with tier := { s.tier with promos := s.tier.promos.filter (fun q => q != p) } }.bump .TIER_STATS_DISCARDED

/-- The leaf entry e maps HBM at an address of [a, a + n) with VALID 1. -/
def State.mapsFrame (s : State) (e a n : Nat) : Bool :=
  let pa := bits e 25 19 * sheet32M
  bit e 0 && bits e 8 2 == 0 && bits e 44 12 == s.rd .PEER_CTL_NODE_ID && decide (a ≤ pa ∧ pa < a + n)

/-- Promotions that a completed invalidation affects are to be checked against their leaves (R251). -/
def State.recheckPromos (s : State) (v : Inv) : State :=
  { s with tier := { s.tier with promos := updAll s.tier.promos (fun p => v.hits p.slot p.va p.size 0)
                                   (fun p => { p with due := true }) } }

/-- The checks that are due are made against the leaves as memory now holds them (R251): that of a sheet under migration once
the migration has ended, and one whose leaf a host core holds modified once it has given the line back. -/
def State.pumpPromos (s : State) : State :=
  (s.tier.promos.filter Promo.due).foldl (fun t p =>
    if t.tier.migs.any (fun m => m.slot == p.slot && m.va == p.va && m.stage != .walk) then t
    else match t.leafOf p.slot p.va with
      | .error l => t.recallSoft l
      | .ok (some (_, e, _)) =>
        if t.mapsFrame e p.frame p.size then
          { t with tier := { t.tier with promos := updAll t.tier.promos (fun q => q == p) (fun q => { q with due := false }) } }
        else t.discard p
      | .ok none => t.discard p) s

/-- Atlas slot a is freed, with whatever a walk that outlived its purge has left in the caches and the hot-sheet counters (R206,
R214, R241). -/
def State.freeAtlas (s : State) (a : Nat) : State :=
  let t := s.rstAll [.XL_ATLAS_PASID, .XL_ATLAS_FLASK, .XL_ATLAS_FLASK_GEN, .XL_ATLAS_VALID, .XL_ATLAS_ROOT] a
  let t := { t with xl := { t.xl with sheets := t.xl.sheets.filter (fun l => l.slot != a),
                                      tables := t.xl.tables.filter (fun h => h.slot != a),
                                      grants := t.xl.grants.filter (fun g => g.leaf.slot != a) } }
  let t := t.disarmIf (fun i => t.rd .TIER_HOT_SLOT i == a)
  let ws := t.xl.walks.filter (fun w => w.slot == a)
  ws.foldl (fun t w => t.faultWalk w.id xfUNBOUND 0xF) t

/-- Kernels that invalidation v waits for and that still run. -/
def State.invKernels (s : State) (v : Inv) : List Nat := v.kernels.filter (fun k => (s.kernel? k).isSome)

/-- The leaves that entered the sheet cache under the sealing unit's old records leave it as the change applies (R204). -/
def State.dropUnsealed (s : State) (v : Inv) : State :=
  let old (l : Leaf) : Bool := v.hits l.slot l.va l.size l.tier &&
    s.sealAttr (s.rd .XL_ATLAS_FLASK l.slot) l.slot l.tier l.pa l.va l.size != some (l.sealed, l.pub)
  { s with xl := { s.xl with sheets := s.xl.sheets.filter (fun l => !old l) } }

/-- INVALIDATION_COMPLETE (R223, R225): invalidation i, all of whose conditions are met, is reported complete. A
migration goes on from here by its own step. -/
def State.invComplete (s : State) (i : Nat) : State :=
  match s.xl.invs.find? (fun v => v.id == i && v.started) with
  | none => s
  | some v =>
    if !(v.acks.isEmpty && (s.invKernels v).isEmpty) || s.invBusy v then s
    else
      let t := { s with xl := { s.xl with invs := s.xl.invs.filter (fun x => x.id != i) } }
      let t := (t.adv .XL_INV_STATUS_DONE).recheckPromos v
      let t := match v.source with
        | .host tag => t.invDone tag
        | .cmd n => t.reply n stOK
        | .unbind n =>
          let t := v.slots.foldl State.freeAtlas t
          let t := { t with tier := { t.tier with promos := t.tier.promos.filter (fun p => !v.slots.contains p.slot) } }
          (match n with | some n => t.reply n stOK | none => t)
        | .mig j =>
          let migs := updAll t.tier.migs (fun m => m.id == j && m.stage == MigStage.inval) (fun m => { m with stage := .copying })
          { t with tier := { t.tier with migs := migs } }
        | .seal _ => t.dropUnsealed v
        | _ => t
      t.pumpInvs

/-- A host broadcast, for which the host holds a credit (R27), that the HLP passes on or completes (R42, R43): base is a virtual address and size counts 4 KiB
pages. -/
def State.broadcast (s : State) (pasid : Nat) (form : InvForm) (tag : Nat) : State :=
  if !s.credit .invalidation then s else
  match form with
  | .all => s.invalidate (.host tag) s.atlases none
  | .pasid => match s.slotOfPasid pasid with
    | some a => s.invalidate (.host tag) [a] none
    | none => s.invDone tag
  | .range base size => match s.slotOfPasid pasid with
    | some a => s.invalidate (.host tag) [a] (some (base, size * 4096))
    | none => s.invDone tag

/-! ## The atlas commands (R205, R206, R220, R233) -/

/-- ATLAS_BIND in slot n from its start point (R205). -/
def State.atlasBind (s : State) (n : Nat) : State :=
  let f := (s.fref n).1
  let pasid := bits (s.par n 1) 0 20
  let root := s.par n 2
  if !s.frefOk n then (s.frefStale n).reply n stSTATE
  else if !s.flaskLive f then s.reply n stSTATE
  else if (s.slotOfPasid pasid).isSome then s.reply n stSTATE
  else if !s.inPrivate f root 8192 || (s.flaskSealed f && !s.allPublic root 8192) then s.reply n stDENIED
  else match lowest 1024 (fun a => !s.atlases.contains a) with
    | none => s.reply n stNORES
    | some a =>
      if root % 8192 ≠ 0 then s.reply n stBADARG
      else
        let t := ((s.wr .XL_ATLAS_PASID pasid a).wr .XL_ATLAS_FLASK f a).wr .XL_ATLAS_FLASK_GEN (s.flaskGen f) a
        ((t.wr .XL_ATLAS_ROOT (root / 8192) a).wr .XL_ATLAS_VALID 1 a).reply n stOK [a]

/-- PASID p is bound for flask f. -/
def State.boundSlot (s : State) (p f : Nat) : Option Nat :=
  match s.slotOfPasid p with
  | some a => if s.rd .XL_ATLAS_FLASK a = f then some a else none
  | none => none

/-- ATLAS_UNBIND in slot n from its start point (R206): the command replies when the purge has completed. -/
def State.atlasUnbind (s : State) (n : Nat) : State :=
  let f := (s.fref n).1
  let p := bits (s.par n 1) 0 20
  if !s.frefOk n then (s.frefStale n).reply n stSTATE
  else match s.boundSlot p f with
    | none => s.reply n stSTATE
    | some a =>
      if (s.listed .QCTX_STATE).any (fun q => s.rd .QCTX_PASID q == p) || s.xl.invs.any (fun v => v.slots.contains a)
      then s.reply n stBUSY
      else s.invalidate (.unbind (some n)) [a] none

/-- ATLAS_INVALIDATE in slot n from its start point (R220). -/
def State.atlasInvalidate (s : State) (n : Nat) : State :=
  let f := (s.fref n).1
  let p := bits (s.par n 1) 0 20
  let range := bit (s.par n 0) 48
  if 8 ≤ (s.invPool (.cmd n)).1 then s.reply n stBUSY
  else if !s.frefOk n then (s.frefStale n).reply n stSTATE
  else match s.boundSlot p f with
    | none => s.reply n stSTATE
    | some a => s.invalidate (.cmd n) [a]
        (if range then some (bits (s.par n 2) 0 32 * sheet32M, bits (s.par n 2) 32 32 * sheet32M) else none)

/-- The held record that slot n's FAULT_RESUME names. -/
def State.heldOf (s : State) (n : Nat) : Option Held :=
  s.xl.helds.find? (fun h => h.flask == (s.fref n).1 && h.fid == bits (s.par n 1) 0 16)

/-- A held record is released. -/
def State.release (s : State) (h : Held) : State := { s with xl := { s.xl with helds := s.xl.helds.filter (fun x => x != h) } }

/-- FAULT_RESUME in slot n with action RETRY or ABORT, from its start point (R233). -/
def State.faultResume (s : State) (n : Nat) (abort : Bool) : State :=
  let f := (s.fref n).1
  if !s.frefOk n then (s.frefStale n).reply n stSTATE
  else match s.heldOf n with
    | none => s.reply n stSTATE
    | some h =>
      let joined := s.xl.asks.filter (fun a => a.wait == .held f h.fid)
      let t := s.release h
      if abort then
        (joined.foldl (fun t a => (t.answer a (.fault h.kind 0xF)).endPour a.ctx 3 h.kind) t).reply n stOK
      else
        let (id, t) := t.newId
        match joined.head? with
        | none => t.reply n stOK
        | some a0 =>
          let w : Walk := { id := id, slot := h.slot, va := a0.va, fresh := true }
          let asks := updAll t.xl.asks (fun a => a.wait == .held f h.fid) (fun a => { a with wait := .walk id })
          { t with xl := { t.xl with walks := t.xl.walks ++ [w], asks := asks } }.reply n stOK

/-- XL_CTL_WRITE (R211): a write of the register; WC_EN at 0 empties the walk cache. -/
def State.xlCtl (s : State) (size half val : Nat) : State :=
  let t := s.regWrite 0x400000 size half val
  if t.on .XL_CTL_WC_EN then t else { t with xl := { t.xl with tables := [] } }

/-- A write of a flask's fault-ring pointers: a full ring may be reported again (R232). -/
def State.fringRdIdx (s : State) (f : Nat) : State :=
  { s with xl := { s.xl with ringFull := s.xl.ringFull.filter (fun g => g != f) } }

/-! ## Host loss (R227, R241) -/

/-- The internal invalidation of entry to HEADLESS. -/
def State.headlessInv (s : State) : State :=
  ((s.invalidate .headless s.atlases none true).disarmIf (fun _ => true))

end Sys2Proof.Machine
end

