-- ==== Sys2Proof/Machine/Hap.lean ====
section
/-! DEFINITION. The host access path (09): pools, acceptance, line order, answers and acknowledgements; the HBM
controllers' acceptance and commit (R308), commit markers and engine fences (R312). -/
namespace Sys2Proof.Machine

/-! ## Answers and acknowledgements (R257, R269) -/

/-- The slag pattern (R282). -/
def slagBytes (n : Nat) : List Byte := List.replicate n 0xFF

/-- Bytes that a read or atomic returns. -/
def ReqKind.bytes : ReqKind → Nat
  | .read n => n
  | .atomic _ size _ _ => size
  | _ => 0

/-- Request id leaves. -/
def State.dropReq (s : State) (id : Nat) : State := { s with reqs := s.reqs.filter (fun r => r.id != id) }

/-- Request id is replaced by f of it. -/
def State.modReq (s : State) (id : Nat) (f : Req → Req) : State := { s with reqs := updAll s.reqs (fun r => r.id == id) f }

/-- Request id. -/
def State.req? (s : State) (id : Nat) : Option Req := s.reqs.find? (fun r => r.id == id)

/-- The data of a read, with the slag pattern in the lines bad (R282). -/
def slagIn (bs : List Byte) (bad : List Nat) : List Byte :=
  (List.range bs.length).map (fun i => if bad.contains (i / 64) then 0xFF else nth bs i 0)

/-- The read or atomic r returns data, with the slag marker on the lines bad: an engine's goes out, and any other waits for
its unit. -/
def State.finish (s : State) (r : Req) (bs : List Byte) (bad : List Nat := []) : State :=
  match r.purpose with
  | .plain => (s.dropReq r.id).say (.readData r.id bs (!bad.isEmpty))
  | _ => s.modReq r.id (fun x => { x with fin := some (bs, !bad.isEmpty), bad := bad })

/-- The lines that a read's bytes make up. -/
def ReqKind.lineCount (k : ReqKind) : Nat := max 1 (ceilDiv k.bytes 64)

/-- The read or atomic r completes with slag-marked data, which CZ_POISON.RD counts; for HBM it is counted with the error
record (R484). -/
def State.finishSlag (s : State) (r : Req) : State :=
  (if r.tier = 0 then s else s.bump .POISON_RD).finish r (slagBytes r.kind.bytes) (List.range r.kind.lineCount)

/-- The place of a request in the order of acceptance. -/
def Req.order (r : Req) : Nat := if r.ord = 0 then r.id else r.ord

/-- A host or peer store of the fence's engine accepted before its request is not yet acknowledged: a write of the host
access path, or a block of the sealed egress path (R265, R303, R312). -/
def State.fenceWaits (s : State) (f : EngFence) : Bool :=
  s.reqs.any (fun r => r.who == .engine f.eng && r.isWrite && decide (r.order < f.mark)) ||
  s.cast.egress.any (fun e => e.who == .engine f.eng && decide (e.ord < f.mark))

/-- An engine fence that waits for nothing more is answered (R312). -/
def State.answerFences (s : State) : State :=
  let (ready, rest) := s.fences.partition (fun f => !s.fenceWaits f && f.ctls.isEmpty)
  ({ s with fences := rest }).sayAll (ready.map (fun (f : EngFence) => Msg.fenceAnswer f.eng))

/-- The write r is acknowledged at its home, or counted as acknowledged. -/
def State.ackWrite (s : State) (r : Req) : State :=
  let t := s.dropReq r.id
  let cut (l : List Nat) : List Nat := l.filter (fun i => i != r.id)
  let copy (c : Copy) : Copy := { c with wrote := cut c.wrote }
  let job (j : Job) : Job := { j with writes := cut j.writes }
  let op (o : RouteOp) : RouteOp := { o with out := cut o.out }
  let t := { t with copies := t.copies.map copy, cast := { t.cast with jobs := t.cast.jobs.map job },
                    route := { t.route with ops := t.route.ops.map op } }
  let t := match r.purpose with
    | .put => t.modCtx r.ctx (fun x => { x with puts := x.puts - 1 })
    | .record _ _ => t.recordAcked r.id
    | p => t.fire p
  t.answerFences

/-- The context whose pour a dropped write of r ends: its requester's, while that runs in the tree of the root pour that the
write is counted against, or else the root's own, which waits for the write (R264, R271). -/
def State.holderOf (s : State) (r : Req) : Nat :=
  match r.root with
  | none => r.ctx
  | some p =>
    if (s.ctx? r.ctx).any (fun x => (s.rootOf x).pour == p) then r.ctx
    else match s.ctxs.find? (fun x => x.depth == 0 && x.pour == p) with
      | some x => x.num
      | none => 512

/-- A host write is dropped while the host is lost (R270, R271). -/
def State.hostDropped (s : State) (who : Requester) (c va : Nat) : State :=
  ((s.bump .HAP_DROP_HOST_DROPS).wr .HAP_ERR_HOST_DROP 1).faultNow who c va .write xfHOST_ABSENT 0xF

/-! ## Acceptance (R256, R258, R264) -/

/-- A read is malformed. -/
def readBad (addr n : Nat) : Bool := !([32, 64, 128, 256].contains n) || addr % (max n 1) != 0

/-- An atomic is malformed. -/
def atomicBad (addr code size : Nat) : Bool := !(size == 4 || size == 8) || addr % (max size 1) != 0 || decide (9 < code)

/-- A write of n bytes is malformed. -/
def writeBad (addr n : Nat) : Bool := n == 0 || decide (256 < n) || addr / 256 != (addr + n - 1) / 256

/-- The line reads that a host read of several lines becomes (R256). -/
def State.partsOf (s : State) (r : Req) : List Part × State :=
  match r.kind with
  | .read n =>
    if n ≤ 64 then ([], s)
    else (List.range (n / 64)).foldl (fun (p : List Part × State) i =>
      let (id, t) := p.2.newId
      (p.1 ++ [{ id := id, addr := r.addr + 64 * i, len := 64 }], t)) ([], s)
  | _ => ([], s)

/-- A read or atomic r is accepted and holds a tag; none while it must wait in its requester. While the host is lost, one
to host memory completes at once with slag (R270). -/
def State.acceptTagged (s : State) (r : Req) : Option (Nat × State) :=
  if !s.tagRoom r.who (r.tier == 2) then none
  else
    let (id, s) := s.newId
    let (parts, s) := if r.tier == 1 then s.partsOf r else ([], s)
    let r := { r with id := id, ord := id, parts := parts }
    let t := { s with reqs := s.reqs ++ [r] }
    some (id, if r.tier == 1 && s.headless then t.finishSlag r else t)

/-- A write of the cells is accepted, as one line write for each line it touches (R256) or, to a peer, as one packet
(R341); none while it must wait in its requester. r carries everything but its identifiers and cells. -/
def State.acceptWrite (s : State) (r : Req) (cells : List (Nat × Byte)) : Option (List Nat × State) :=
  if r.tier == 1 && s.headless then some ([], s.hostDropped r.who r.ctx r.va)
  else if !s.entryRoom r.who then none
  else
    let (e, s) := s.newId
    let parts := if r.tier = 2 then [cells] else (linesOf cells).map (fun l => cells.filter (fun c => lineOf c.1 == l))
    some (parts.foldl (fun (p : List Nat × State) cs =>
      let (id, t) := p.2.newId
      let w := { r with id := id, entry := e, ord := if r.ord = 0 then e else r.ord, lead := p.1.isEmpty,
                        addr := (cs.head?.map Prod.fst).getD r.addr, kind := .write cs }
      (p.1 ++ [id], { t with reqs := t.reqs ++ [w] })) ([], s))

/-- The bytes of a write and their addresses; a byte whose mask bit is 0 is none. -/
def maskedCells (addr : Nat) (data : List (Option Byte)) : List (Nat × Byte) :=
  ((List.range data.length).zip data).filterMap (fun p => p.2.map (fun b => (addr + p.1, b)))

/-- The grant that an engine's access for the pour of context c is made under, where one whose leaf meets p is known: its
identifier, and the sheet. A PHYS kernel's are the pinned grants that its engine loaded (R213, R217). -/
def State.underGrant (s : State) (who : Requester) (c : Nat) (p : Leaf → Bool) : Nat × (Nat × Nat) :=
  match who with
  | .engine e =>
    (match s.physOn e c with
    | some _ => (((s.lane e).grants.find? p).map (fun l => ((s.lane e).loadAt, (l.va, l.size)))).getD (0, (0, 0))
    | none =>
      ((s.xl.grants.find? (fun g => g.eng == e && (s.ctx? c).any (fun x => s.slotOf x == some g.leaf.slot) && p g.leaf)).map
        (fun g => (g.id, (g.leaf.va, g.leaf.size)))).getD (0, (0, 0)))
  | _ => (0, (0, 0))

/-- A request of requester who for the pour of context c, with its root pour and flask. -/
def State.reqOf (s : State) (who : Requester) (c tier node addr va : Nat) (kind : ReqKind) (p : Purpose := .plain) : Req :=
  let (grant, sheet) := s.underGrant who c (fun l => l.tier == tier && decide (l.va ≤ va ∧ va < l.va + l.size))
  let base : Req := { id := 0, who := who, ctx := c, root := none, tier := tier, node := node, addr := addr, va := va,
                      kind := kind, purpose := p, grant := grant, sheet := sheet }
  match s.ctx? c with
  | some x =>
    let r := s.rootOf x
    { base with root := some r.pour, flask := x.flask, fgen := x.fgen, slot := (s.slotOf x).getD 1024, ticket := r.ticket }
  | none => base

/-- Requesters of R258, and the tiers there are. -/
def Requester.legal (who : Requester) (tier : Nat) : Bool :=
  match who with
  | .engine e => decide (e < 512) && decide (tier < 3)
  | .caster c => decide (c < 32) && decide (tier < 3)
  | .route => decide (tier < 3)
  | .seqr q => decide (q < 16) && decide (tier < 3)

/-- The malformed request is reported (R256). -/
def State.badReq (s : State) : State := s.wr .HAP_ERR_BAD_REQ 1

/-! ## Line order (R262, R263) -/

/-- The lines that a request touches. -/
def Req.lines (r : Req) : List Nat :=
  match r.kind with
  | .write cells => linesOf cells
  | .read n => (List.range ((r.addr + max n 1 - 1) / 64 - r.addr / 64 + 1)).map (fun i => r.addr / 64 + i)
  | .atomic _ _ _ _ => [r.addr / 64]
  | _ => []

/-- The request is a write for R262 and R263. -/
def Req.writes (r : Req) : Bool := match r.kind with | .write _ | .atomic _ _ _ _ => r.fin.isNone | _ => false

/-- An earlier-accepted write to one of r's lines has not been acknowledged, or stands in the sealed egress path. -/
def State.lineBusy (s : State) (r : Req) : Bool :=
  (r.writes || r.tier != 0) &&
  (s.reqs.any (fun x => decide (x.order < r.order) && x.writes && x.tier == r.tier && x.node == r.node &&
    r.lines.any (fun l => x.lines.contains l)) ||
   s.cast.egress.any (fun e => decide (e.ord < r.order) && e.tier == r.tier && e.node == r.node &&
    r.lines.any (fun l => l / 4 == e.pa / 256)))

/-- Host lines that await acknowledgement (R259). -/
def State.ackTable (s : State) : Nat :=
  (s.reqs.filter (fun r => r.isWrite && r.tier == 1 && r.issued)).length

/-- Request r leaves for its home. -/
def State.sent! (s : State) (r : Req) : State := s.modReq r.id (fun x => { x with issued := true, sentAt := s.time })

/-- Bytes that a request moves. -/
def Req.size (r : Req) : Nat :=
  match r.kind with | .write cells => cells.length | k => k.bytes

/-- A line write or line reads are counted (R273), and the bytes moved for the pour (R412, class 8). -/
def State.countLines (s : State) (r : Req) : State :=
  let s := s.count r.ctx 8 r.size
  match r.kind with
  | .write _ => s.adv .HAP_STATS_WRITES 0 r.lines.length
  | .read _ => s.adv .HAP_STATS_READS 0 r.lines.length
  | _ => s

/-- The address of a host request is compared with the armed hot-sheet counters, once for each request (R238). -/
def State.noteHot (s : State) (r : Req) : State :=
  match r.who with | .seqr _ => s | _ => if r.lead && !r.issued then s.countHot r.addr else s

/-- One line read of r is issued, if a credit is held. -/
def State.issuePart (s : State) (r : Req) (p : Part) : State :=
  if !s.mayIssueHost false then s
  else
    let t := s.useCredit false |>.modReq r.id (fun x =>
      { x with issued := true, sentAt := s.time, parts := updAll x.parts (fun q => q.id == p.id) (fun q => { q with sent := true }) })
    ((t.count r.ctx 8 p.len).adv .HAP_STATS_READS).say (.hostRead p.id p.addr p.len)

/-- A host request is issued onto ZCI (R256, R259): a request of one line at once, and of a read of several lines each line
for which a credit is held. -/
def State.issueHost (s : State) (r : Req) : State :=
  let rest := r.parts.filter (fun p => !p.sent)
  if !s.mayIssueHost r.isWrite || (r.isWrite && decide (16384 ≤ s.ackTable)) then s
  else if !r.parts.isEmpty then rest.foldl (fun t p => t.issuePart r p) (if rest.isEmpty then s else s.noteHot r)
  else
    let t := (((s.sent! r).useCredit r.isWrite).countLines r).noteHot r
    match r.kind with
    | .write cells => t.say (.hostWrite r.id r.addr cells)
    | .read n => t.say (.hostRead r.id r.addr n)
    | .atomic c z o k => t.say (.hostAtomic r.id r.addr c z o k)
    | _ => t

/-- A line of request r that a host core must first give up, or give back: of an atomic any copy, of a read a modified one
(R41, R318). -/
def State.homeHolds (s : State) (r : Req) : Option Nat :=
  match r.kind with
  | .atomic c z _ k => s.atomicHolds r.addr c z k
  | _ => r.lines.find? s.hostExcl

/-- Request r waits for line l in the home-agent check. -/
def State.homeWait (s : State) (r : Req) (l : Nat) : State :=
  match r.kind with
  | .atomic c _ _ _ => if s.readsFirst c l then s.waitSoft l (.load r.id) else s.waitLine l (.load r.id)
  | _ => s.waitSoft l (.load r.id)

/-- A read or atomic goes to the HBM controllers, or waits for a line. -/
def State.loadGo (s : State) (id : Nat) : State :=
  match s.req? id with
  | none => s
  | some r =>
    match s.homeHolds r with
    | some l => s.homeWait r l
    | none => s.say (.hbmRead id r.addr r.kind.bytes)

/-- An HBM request is handed to its controller, or to the home-agent check, which first has a line that a host core holds
modified (or, for an atomic, holds at all) given back (R41, R255). -/
def State.issueHbm (s : State) (r : Req) : State :=
  let t := (s.sent! r).count r.ctx 9 r.size
  if r.isWrite then t else t.loadGo r.id

/-- An engine's own HBM load or atomic is handed to the controllers or the home-agent check at once. -/
def State.sendDirect (s : State) (r : Req) : State :=
  let (id, s) := s.newId
  ({ s with reqs := s.reqs ++ [{ r with id := id, ord := id, issued := true, sentAt := s.time }] }).loadGo id

/-- HAP_READ_REQUEST (R256, R258): a read takes a tag. One that an engine makes to HBM goes past the host access path, to
the controllers or the home-agent check (R213, R307). -/
def State.hapRead (s : State) (who : Requester) (c va tier node addr n : Nat) : State :=
  let r := s.reqOf who c tier node addr va (.read n)
  if !(who.legal tier && (s.ctx? c).isSome) then s
  else if r.direct then s.sendDirect r
  else if readBad addr n then
    let (id, t) := s.badReq.newId
    t.say (.readData id (slagBytes n) true)
  else match s.acceptTagged r with
    | some (_, t) => t
    | none => s

/-- HAP_ATOMIC_REQUEST (R257): an atomic takes a tag; one that an engine makes to HBM goes to the HBM atomic unit (R318). -/
def State.hapAtomic (s : State) (who : Requester) (c va tier node addr code size operand compare : Nat) : State :=
  let r := s.reqOf who c tier node addr va (.atomic code size operand compare)
  if !(who.legal tier && (s.ctx? c).isSome) then s
  else if atomicBad addr code size then
    let (id, t) := s.badReq.newId
    t.say (.readData id (slagBytes size) true)
  else if r.direct then s.sendDirect r
  else match s.acceptTagged r with
    | some (_, t) => t
    | none => s

/-! ## Atomics (R257) -/

/-- The result that operation `code` leaves at a location of z bytes that held `old`. -/
def atomicResult (code z old operand compare : Nat) : Nat :=
  let m := 2 ^ (8 * z)
  let a := old % m
  let b := operand % m
  let sg (v : Nat) : Int := if v < m / 2 then (v : Int) else (v : Int) - (m : Int)
  match code with
  | 0 => (a + b) % m
  | 1 => b
  | 2 => if a = compare % m then b else a
  | 3 => min a b
  | 4 => max a b
  | 5 => if sg a ≤ sg b then a else b
  | 6 => if sg a ≤ sg b then b else a
  | 7 => a &&& b
  | 8 => a ||| b
  | 9 => Nat.xor a b
  | _ => a


/-- The HBM atomic unit performs an atomic: the old value and the memory after it. -/
def State.hbmAtomic (s : State) (addr code z operand compare : Nat) : List Byte × State :=
  let t := s.commitLine (lineOf addr)
  let old := t.sysRead addr z
  (old, t.put addr (leBytes z (atomicResult code z (ofLe old) operand compare)))

/-! ## Responses -/

/-- The index that an HBM error record of request r carries (R484), with its unit, and whether the record is written. -/
def Req.ueUnit (r : Req) : Nat × Nat :=
  match r.purpose, r.who with
  | .cast _ _, .caster c => (6, c)
  | .route _, _ => (3, 0)
  | _, _ => (5, 0)

/-- The line reads of r have all returned, or will not be made: the read completes. -/
def State.joinParts (s : State) (r : Req) : State :=
  match s.req? r.id with
  | none => s
  | some x =>
    if x.parts.any (fun p => p.got.isNone) then s
    else
      let data := x.parts.flatMap (fun p => (p.got.map Prod.fst).getD [])
      let bad := (List.range x.parts.length).filter (fun i => (x.parts[i]?).any (fun p => p.got.any Prod.snd))
      (if bad.isEmpty then s else s.bump .POISON_RD).finish x data bad

/-- The line read that is known by an identifier, with its read. -/
def State.partOf (s : State) (id : Nat) : Option (Req × Part) :=
  s.reqs.findSome? (fun r => (r.parts.find? (fun p => p.id == id && p.sent && p.got.isNone)).map (fun p => (r, p)))

/-- One line read returns data, or poison or an error (R256, R269). -/
def State.partBack (s : State) (r : Req) (p : Part) (ret : Ret) : State :=
  let back (x : List Byte × Bool) (t : State) : State :=
    (t.modReq r.id (fun y => { y with parts := updAll y.parts (fun q => q.id == p.id) (fun q => { q with got := some x }) })).joinParts r
  match ret with
  | .ok d => back (slice d 0 p.len, false) s
  | _ => back (slagBytes p.len, true) (s.wr .HAP_ERR_RD_POISON 1)

/-- HAP_READ_RESPONSE (R257, R263, R269): the read or atomic `id` to host memory or HBM returns, or the line read `id` of a
read of several lines. An HBM access that meets a new host copy of its line first waits for it (R41, R318). -/
def State.hapResponse (s : State) (id : Nat) (ret : Ret) : State :=
  match s.req? id with
  | none => match s.partOf id with | some (r, p) => s.partBack r p ret | none => s
  | some r =>
    if !(r.issued && r.tagged && r.tier != 2) || !r.parts.isEmpty || s.hlp.waits.any (fun w => w.act == .load id) then s
    else if r.tier == 0 && (s.homeHolds r).isSome then s.loadGo id
    else
      let atomic := match r.kind with | .atomic _ _ _ _ => true | _ => false
      match ret with
      | .ok d =>
        if r.tier = 1 then s.finish r (slice d 0 r.kind.bytes)
        else match r.kind with
          | .atomic c z o k => let (old, t) := s.hbmAtomic r.addr c z o k; t.finish r old
          | .read n => s.finish r (s.dieRead r.addr n)
          | _ => s
      | bad => if r.direct then s.finishSlag r else
        let ls := badLines bad r.kind.lineCount
        let at_ := r.addr + 64 * ls.headD 0
        let note (t : State) : State := t.hbmUe at_ r.ueUnit.1 0 r.ueUnit.2 r.flask ((r.root.map PourId.word).getD 0)
        let t := if atomic then s.wr .HAP_ERR_ATOMIC_ERR 1 else s.wr .HAP_ERR_RD_POISON 1
        let t := match r.tier, r.purpose with
          | 0, .patch _ => t
          | 0, .route _ => t
          | 0, .cast _ k => if k = 2 ^ 32 then t else note t
          | 0, _ => note t
          | _, _ => t
        match r.tier, r.kind with
        | 0, .read n => t.finish r (slagIn (t.dieRead r.addr n) ls) ls
        | _, _ => t.finishSlag r

/-- GLOBAL_OBSERVATION_ACK (R26, R269): the home acknowledges host write `id`, or answers it with an error. -/
def State.hostAck (s : State) (id : Nat) (ok : Bool) : State :=
  match s.req? id with
  | none => s
  | some r =>
    if !(r.issued && r.isWrite && r.tier == 1) then s
    else if ok then s.ackWrite r
    else
      let t := (s.wr .HAP_ERR_WR_ERR 1).bump .HAP_DROP_WR_ERRORS
      let t := match r.purpose with
        | .record q _ =>
          (t.ras { severity := 0, unit := 1, code := 9, flask := r.flask, fgen := r.fgen, index := q,
                   pour := (r.root.map PourId.word).getD 0 }).wr .RAS_ERR_COMPL_WRITE 1
        | _ => t
      t.ackWrite r

/-! ## HBM controllers (R308, R309) -/

/-- An accepted store: to a line of an enabled coherent window it is committed in the same clock, after the host's copies
are gone (R309); to any other it stands in the controller's buffer until it is committed. -/
def State.acceptStore (s : State) (st : BufStore) : State :=
  if (linesOf st.cells).any s.coherentLine then s.homeStore st
  else { s with wbuf := s.wbuf ++ [st] }

/-- The grant of a store that HBM_WRITE_ACCEPT brings for the pour of context c: the newest that an engine which runs a kernel
of it holds. -/
def State.storeGrant (s : State) (c : Nat) (p : Leaf → Bool) : Nat × (Nat × Nat) :=
  let es := (s.lanes.filter (fun l => (l.running.bind s.kernel?).any (fun k => k.ctx == c))).map Lane.eng
  es.foldl (fun m e => let g := s.underGrant (.engine e) c p; if m.1 < g.1 then g else m) (0, (0, 0))

/-- HBM_WRITE_ACCEPT of an engine's store. -/
def State.hbmAcceptEngine (s : State) (ctl c : Nat) (cells : List (Nat × Byte)) : State :=
  match s.ctx? c with
  | none => s
  | some x =>
    let (id, s) := s.newId
    let a := (cells.head?.map Prod.fst).getD 0
    let own (l : Leaf) : Bool := l.tier == 0 && decide (l.pa % 2 ^ 44 ≤ a ∧ a < l.pa % 2 ^ 44 + l.size)
    let (grant, sheet) := s.storeGrant c own
    s.acceptStore { id := id, ctl := ctl, cells := cells, ctx := c, root := some (s.rootOf x).pour,
                    slot := (s.slotOf x).getD 1024, grant := grant, sheet := sheet }

/-- A store stands in the home-agent check. -/
def State.storeWaits (s : State) (id : Nat) : Bool :=
  s.hlp.waits.any (fun w => match w.act with | .store st => st.id == id | _ => false)

/-- HBM_WRITE_ACCEPT of write `id` of the host access path, which is acknowledged so,
unless it first waits for a host copy of its line (R41). -/
def State.hbmAcceptEntry (s : State) (ctl id : Nat) : State :=
  match s.req? id with
  | none => s
  | some r =>
    match r.kind with
    | .write cells =>
      if !(r.issued && r.tier == 0) || s.storeWaits id then s
      else
        let held := ((linesOf cells).any s.coherentLine) && (s.storeBlock (linesOf cells)).isSome
        let (n, s) := s.newId
        let st : BufStore := { id := if held then id else n, ctl := ctl, cells := cells, ctx := r.ctx, root := r.root }
        if held then s.acceptStore st else (s.acceptStore st).ackWrite r
    | _ => s

/-- An accepted store may be committed: it is the oldest of every line it touches. -/
def State.mayCommit (s : State) (st : BufStore) : Bool :=
  let ls := linesOf st.cells
  !(s.wbuf.takeWhile (fun x => x.id != st.id)).any (fun x => (linesOf x.cells).any (fun l => ls.contains l))

/-- The store st is committed (R308). -/
def State.commitStore (s : State) (st : BufStore) : State :=
  ({ s with wbuf := s.wbuf.filter (fun x => x.id != st.id) }).putCells st.cells |>.fire st.purpose

/-- COMMIT_MARKER_ANSWER may come: every store of controller ctl accepted before mark is committed. -/
def State.committed (s : State) (ctl mark : Nat) : Bool :=
  !s.wbuf.any (fun st => st.ctl == ctl && decide (st.id < mark))

/-- COMMIT_MARKER_ANSWER for the marker of context c (R308, R313). -/
def State.markerPour (s : State) (c ctl : Nat) : State :=
  match s.ctx? c with
  | none => s
  | some x => if x.fence.contains ctl && s.committed ctl x.markAt then
      s.modCtx c (fun y => { y with fence := y.fence.filter (fun k => k != ctl) }) else s

/-- COMMIT_MARKER_ANSWER for the marker of engine e's fence (R308, R312). -/
def State.markerEngine (s : State) (e ctl : Nat) : State :=
  let cut (f : EngFence) : EngFence :=
    if f.eng == e && s.committed ctl f.mark then { f with ctls := f.ctls.filter (fun k => k != ctl) } else f
  ({ s with fences := s.fences.map cut }).answerFences

/-- ENGINE_FENCE_REQUEST (R312): engine e asks for a fence of scope DIE or SYSTEM. -/
def State.engineFence (s : State) (e : Nat) (system : Bool) : State :=
  if (s.lane e).running.isNone then s
  else
    let f : EngFence := { eng := e, system := system, mark := s.nextId, ctls := if system then Config.hbmControllers else [] }
    let t := { s with fences := s.fences ++ [f] }
    (if system then t.say (.fenceMarkers e) else t).answerFences

/-- Fences of engines that run nothing are over. -/
def State.dropFences (s : State) : State := { s with fences := s.fences.filter (fun f => (s.lane f.eng).running.isSome) }

end Sys2Proof.Machine
end

