-- ==== Sys2Proof/Machine/Egress.lean ====
section
/-! DEFINITION. Session keys in use (R302), and the sealed egress path of stores (R268, R303, R304). -/
namespace Sys2Proof.Machine

/-! ## Keys -/

/-- The key in slot k. -/
def State.keyOf (s : State) (k : Nat) : Option KeyMat := s.keys.find? (fun m => m.slot == k)

/-- A key enters slot k. -/
def State.putKey (s : State) (k : Nat) (key : List Byte) (ctr : Nat := 0) : State :=
  let (uid, t) := s.newId
  { t with keys := t.keys ++ [{ slot := k, key := key, ctr := ctr, uid := uid }] }

/-- Key slot k holds a key of flask f at its generation (R300, R387). -/
def State.keyFor (s : State) (k f : Nat) : Option KeyMat :=
  if s.on .KEY_SLOT_VALID k && s.rd .KEY_SLOT_FLASK k == f && s.rd .KEY_SLOT_FLASK_GEN k == s.flaskGen f then s.keyOf k
  else none

/-- An IV that the Celzaig forms (R302): 0xCE, two zero bytes, the slot, and the counter. -/
def ownIv (slot ctr : Nat) : List Byte := beBytes 12 (0xCE * 2 ^ 88 + slot * 2 ^ 64 + ctr % 2 ^ 64)

/-- An encryption under slot m with the counter's current value: ciphertext, tag and the counter used (R302). -/
def State.encrypt (s : State) (m : KeyMat) (aad pt : List Byte) : List Byte × List Byte × State :=
  let (ct, tag) := gcmSeal m.key (ownIv m.slot m.ctr) aad pt
  let keys := updAll s.keys (fun x => x.slot == m.slot) (fun x => { x with ctr := x.ctr + 1 })
  (ct, tag, { s with keys := keys })

/-! ## The egress log (R303) -/

/-- The egress log of flask f is full. -/
def State.elogIsFull (s : State) (f : Nat) : Bool :=
  ringFull (s.rd .CAST_ELOG_PTRS_WR_IDX f) (s.rd .CAST_ELOG_PTRS_RD_IDX f) (s.rd .CAST_ELOG_BASE_SIZE f * 128)

/-- The egress log of flask f takes a record: it has room, and its last record is written. -/
def State.elogRoom (s : State) (f : Nat) : Bool := !s.elogIsFull f && !s.parkedFor (.elog f)

/-- A record of the egress log of flask f, a store of the pour of context c with root pour root (R303, R307). -/
def State.elog (s : State) (f va ctr : Nat) (tag : List Byte) (c : Nat) (root : Option PourId) : State :=
  s.ownWrite (s.rd .CAST_ELOG_BASE_BASE f * 4096 + s.rd .CAST_ELOG_PTRS_WR_IDX f * 32)
    (leBytes 8 (va % 2 ^ 57) ++ leBytes 8 ctr ++ tag) 0 (.elog f) c root

/-- A full log is reported, once until RD_IDX is next written (R303). -/
def State.elogFull (s : State) (f : Nat) : State :=
  if !s.elogIsFull f || s.cast.full.contains f then s
  else
    let t := (s.wr .CAST_ERR_ELOG_FULL 1).flaskCause f .FL_CAUSE_ELOG_FULL
    { t with cast := { t.cast with full := f :: t.cast.full } }

/-- The writes `ids` were accepted for a purpose: the unit that waits for them takes note. -/
def State.noteWrites (s : State) (p : Purpose) (ids : List Nat) : State :=
  match p with
  | .copy j => { s with copies := updAll s.copies (fun c => c.id == j) (fun c => { c with wrote := c.wrote ++ ids }) }
  | .cast j _ =>
    let jobs := updAll s.cast.jobs (fun x => x.id == j) (fun x => { x with writes := x.writes ++ ids })
    { s with cast := { s.cast with jobs := jobs } }
  | .route o =>
    let ops := updAll s.route.ops (fun x => x.id == o) (fun x => { x with out := x.out ++ ids })
    { s with route := { s.route with ops := ops } }
  | .put => s
  | _ => s

/-- A write accepted plain, with note taken of it. -/
def State.storePlain (s : State) (r : Req) (cells : List (Nat × Byte)) : Option State :=
  (s.acceptWrite r cells).map (fun p => p.2.noteWrites r.purpose p.1)

/-- The additional data of a block (R303). -/
def blockAad (va f gen : Nat) : List Byte := leBytes 8 va ++ leBytes 8 (f + 64 * gen)

/-- The slot and the key of flask f's egress slot; none while it holds none (R391). -/
def State.egressKey (s : State) (f : Nat) : Option (Nat × Nat) :=
  if s.on .FL_EGRESS_VALID f then (s.keyFor (s.rd .FL_EGRESS_SLOT f) f).map (fun m => (m.slot, m.uid)) else none

/-- The key that a block was to be encrypted under, if it is still there. -/
def State.blockKey (s : State) (k : Nat × Nat) : Option KeyMat := (s.keyOf k.1).filter (fun m => m.uid == k.2)

/-- A whole block of the sealed egress path, for key k: the ciphertext goes to its address and a record to the log; when the
key has been zeroed since, the slag pattern goes there and the pour ends KEY_REVOKED (R303, R304). -/
def State.sealBlock (s : State) (r : Req) (data : List Byte) (k : Nat × Nat) : Option State :=
  match s.blockKey k with
  | none =>
    (s.storePlain r (cellsAt r.addr (slagBytes 256))).map (fun t =>
      ((t.bump .POISON_WR).wr .CAST_ERR_KEY_REVOKED 1).endPour r.ctx 5 0)
  | some m =>
    let (ct, tag, t) := (s.count r.ctx 11 256).encrypt m (blockAad r.va r.flask r.fgen) data
    (t.storePlain r (cellsAt r.addr ct)).map (fun t =>
      (t.adv .CAST_SEAL_STATS_BLOCKS).elog r.flask r.va m.ctr tag r.ctx r.root)

/-- The blocks of flask f that wait for its log. -/
def State.blocked (s : State) (f : Nat) : List Egress := s.cast.egress.filter (fun e => e.flask == f)

/-- A store of a pour to a granted sheet whose effective attributes are given (R268): plain, or through the sealed egress
path, where a block waits while the flask's log is full: the first 16 in the egress buffer, further ones in write entries of
their requesters (R303). None while it must wait in its requester. -/
def State.storeOut (s : State) (r : Req) (cells : List (Nat × Byte)) (sealed pub : Bool) : Option State :=
  if !s.flaskSealed r.flask || sealed || pub then s.storePlain r cells
  else
    let va := r.va / 256 * 256
    let r := { r with addr := r.addr / 256 * 256, va := va }
    if cells.length ≠ 256 then some ((s.wr .CAST_ERR_SEAL_PARTIAL 1).faultNow r.who r.ctx r.va .write xfWRITE 0xF)
    else if s.rd .CAST_ELOG_BASE_SIZE r.flask = 0 then some (s.faultNow r.who r.ctx r.va .write xfWRITE 0xF)
    else
      let data := cells.map Prod.snd
      match s.egressKey r.flask with
      | none => some (s.faultNow r.who r.ctx r.va .write xfWRITE 0xF)
      | some k =>
        if s.elogRoom r.flask && (s.blocked r.flask).isEmpty then s.sealBlock r data k
        else if decide (16 ≤ (s.blocked r.flask).length) && !s.entryRoom r.who then none
        else
          let (n, s) := s.newId
          let e : Egress := { flask := r.flask, ctx := r.ctx, va := va, tier := r.tier, node := r.node, pa := r.addr,
                              data := data, purpose := r.purpose, root := r.root, who := r.who, fgen := r.fgen,
                              slot := r.slot, ord := n, sheet := r.sheet, grant := r.grant, put := r.put, ticket := r.ticket,
                              key := k }
          let t := s.elogFull r.flask
          some { t with cast := { t.cast with egress := t.cast.egress ++ [e] } }

/-- The request that a waiting block becomes. -/
def Egress.req (e : Egress) : Req :=
  { id := 0, who := e.who, ctx := e.ctx, root := e.root, flask := e.flask, fgen := e.fgen, tier := e.tier, node := e.node,
    addr := e.pa, slot := e.slot, va := e.va, sheet := e.sheet, grant := e.grant, put := e.put,
    ticket := e.ticket, kind := .write [], purpose := e.purpose, ord := e.ord }

/-- Blocks that waited go on, oldest first for each flask, while their log has room; a log that is full with blocks that wait
is reported (R303). -/
def State.pumpEgress (s : State) : State :=
  let t := s.cast.egress.foldl (fun t e =>
    if (t.blocked e.flask).head? = some e && (t.elogRoom e.flask || (t.blockKey e.key).isNone) then
      match ({ t with cast := { t.cast with egress := t.cast.egress.filter (fun x => x != e) } }).sealBlock e.req e.data e.key with
      | some u => u
      | none => t
    else t) s
  (t.cast.egress.map Egress.flask).eraseDups.foldl State.elogFull t

/-- A write of flask f's egress log pointers: the full log may be reported again (R303). -/
def State.elogRdIdx (s : State) (f : Nat) : State :=
  { s with cast := { s.cast with full := s.cast.full.filter (fun g => g != f) } }.pumpEgress

/-- HAP_WRITE_REQUEST (R256, R264, R268): a write of the bytes whose mask bits are 1, under a grant whose effective
attributes are given. -/
def State.hapWrite (s : State) (who : Requester) (c va tier node addr : Nat) (data : List (Option Byte))
    (sealed pub : Bool) : State :=
  let r := s.reqOf who c tier node addr va (.write [])
  if !(who.legal tier && (s.ctx? c).isSome) || r.direct then s
  else if writeBad addr data.length || (maskedCells addr data).isEmpty then s.badReq
  else (s.storeOut r (maskedCells addr data) sealed pub).getD s

end Sys2Proof.Machine
end

