-- ==== Sys2Proof/Machine/Timeline.lean ====
section
/-! DEFINITION. The timelines (R143, R496 to R499): updates, the contexts they wake, and the owner checks. -/
namespace Sys2Proof.Machine

/-- The value of timeline i. -/
def State.timeline (s : State) (i : Nat) : Nat := s.rd .TL_COUNTER i

/-- The value that an update of mode 0 SET, 1 ADD or 2 MAX leaves. -/
def tlResult (mode old v : Nat) : Nat := if mode = 0 then v else if mode = 1 then addMod 64 old v else max old v

/-- One update of timeline i is applied, and every parked WAIT that its value meets is over, and counts as executed (R142, R143,
R412). -/
def State.tlApply (s : State) (i mode v : Nat) : State :=
  let new := tlResult mode (s.timeline i) v % 2 ^ 64
  let t := s.wr .TL_COUNTER new i
  let met (x : Ctx) : Bool := x.st == .waitTl && x.timeline == i && decide (x.value ≤ new)
  let t := (t.ctxs.filter met).foldl (fun (t : State) x => t.count x.num 12 1) t
  { t with ctxs := updAll t.ctxs met (fun x => { x with st := .run, pc := x.pc + 1 }) }

/-- The flask that owns timeline i. -/
def State.tlOwner (s : State) (i : Nat) : Option Nat :=
  s.flasks.find? (fun f => decide (s.rd .FL_TFIRST f ≤ i) && decide (i ≤ s.rd .FL_TFIRST f + s.rd .FL_TCOUNT_M1 f))

/-- The state of the flask that owns timeline i; FREE where none does. Until the SRAM initialisation of a BLOCK reset it is
the flask that owned it at T_B (R474, R497; DEDUCED, log entry 134). -/
def State.tlState (s : State) (i : Nat) : Nat :=
  match s.tlOwner i with
  | some f => s.flaskState f
  | none => (s.breset.bind (fun b => b.owners.find? (fun o => decide (o.1 ≤ i) && decide (i ≤ o.1 + o.2.1)))).elim flFREE
      (fun o => o.2.2)

/-- The owner checks of R497, from its second row on, before an update from the host. -/
def State.tlChecked (s : State) (i mode v : Nat) : State :=
  let st := s.tlState i
  if st = flFREE ∨ st = flCREATING then s.bump .TL_STATS_UNOWNED
  else if st = flRESETTING ∨ st = flDESTROYING then (s.bump .RAS_COUNT_RESET_WRITES).wr .RAS_ERR_RESET_WRITE 1
  else if s.inReset then s.bump .RAS_COUNT_RESET_WRITES
  else s.tlApply i mode v

/-- A store of `size` bytes to timeline i (R497). -/
def State.tlStore (s : State) (i size v : Nat) : State :=
  if size ≠ 8 then s.wr .HLP_ERR_BAD_REG 1 else s.tlChecked i 0 v

/-- A write of `size` bytes with value v to CZ_TL_OP (R498, R493). -/
def State.tlOp (s : State) (size v : Nat) : State :=
  if size ≠ 8 then s.wr .HLP_ERR_BAD_REG 1
  else if bits v 18 46 ≠ 0 ∨ bits v 16 2 = 3 then s.bump .TL_STATS_BAD_OP
  else s.tlChecked (bits v 0 16) (bits v 16 2) (s.rd .TL_VALUE)

end Sys2Proof.Machine
end

