-- ==== Sys2Proof/Machine/Peer.lean ====
section
/-! DEFINITION. The peer port (12): packets, outbound requests, inbound requests, the life of a node; and the issue of
requests by the host access path (R259). -/
namespace Sys2Proof.Machine

/-! ## Nodes -/

/-- States of CZ_PEER_NODE. -/
def ndFREE : Nat := 0
def ndATTACHING : Nat := 1
def ndATTACHED : Nat := 2
def ndDETACHING : Nat := 3
def ndQUARANTINED : Nat := 5

/-- The state and generation of node n. -/
def State.ndState (s : State) (n : Nat) : Nat := s.rd .PEER_NODE_STATE n
def State.ndGen (s : State) (n : Nat) : Nat := s.rd .PEER_NODE_GEN n

/-- What the peer port keeps for node n. -/
def State.node (s : State) (n : Nat) : Node := (s.nodes.find? (fun x => x.num == n)).getD { num := n, since := s.readyAt }

/-- Node n's data take the value x. -/
def State.setNode (s : State) (x : Node) : State := { s with nodes := s.nodes.filter (fun y => y.num != x.num) ++ [x] }

/-- The package's own node ID. -/
def State.self (s : State) : Nat := s.rd .PEER_CTL_NODE_ID

/-! ## Packets (R340, R341) -/

def pkRD : Nat := 1
def pkWR : Nat := 2
def pkAT : Nat := 3
def pkSIG : Nat := 4
def pkHELLO : Nat := 5
def pkBYE : Nat := 6
def pkDATA : Nat := 8
def pkACK : Nat := 9
def pkBUSY : Nat := 10
def pkERR : Nat := 11
def pkHELLOACK : Nat := 12

/-- The first header doubleword. -/
def State.head0 (s : State) (type node gen flask tag : Nat) : Nat :=
  type + node * 2 ^ 8 + s.self * 2 ^ 20 + gen * 2 ^ 32 + flask % 64 * 2 ^ 40 + tag * 2 ^ 48

/-- A packet to node n. -/
def State.packet (s : State) (type n gen flask tag h1 value : Nat) (payload : List Byte := []) : State :=
  s.say (.packet n (leBytes 8 (s.head0 type n gen flask tag) ++ leBytes 8 h1 ++ leBytes 8 value ++ payload))

/-- The mask of the lines of a request within its 256 B block. -/
def lineMask (lines : List Nat) : Nat := (List.range 4).foldl (fun m i => m + b2n (lines.any (fun l => l % 4 == i)) * 2 ^ i) 0

/-- The packet that a request is sent as (R341). -/
def State.sendReq (s : State) (r : Req) : State :=
  let go (type h1 value : Nat) (payload : List Byte := []) : State :=
    s.packet type r.node r.gen r.flask r.tag h1 value payload
  let line0 := r.addr / 64 * 64
  match r.kind with
  | .read _ => go pkRD (line0 + lineMask r.lines * 2 ^ 48) 0
  | .write cells =>
    let block := r.addr / 256 * 256
    let has (a : Nat) : Option Byte := (cells.find? (fun c => c.1 == a)).map Prod.snd
    let ls := (List.range 4).filter (fun i => (lineMask r.lines).testBit i)
    let whole := cells.length == 64 * ls.length
    let mask := if whole then [] else
      leBytes 32 ((List.range 256).foldl (fun m i => m + b2n (has (block + i)).isSome * 2 ^ i) 0)
    let data := ls.flatMap (fun i => (List.range 64).map (fun k => (has (block + 64 * i + k)).getD 0))
    go pkWR (line0 + lineMask r.lines * 2 ^ 48 + b2n (!whole) * 2 ^ 53) 0 (mask ++ data)
  | .atomic c z o k => go pkAT (r.addr + c * 2 ^ 44 + b2n (z == 8) * 2 ^ 52) 0
      (leBytes 8 o ++ (if c = 2 then leBytes 8 k else []))
  | .sig op _ i v => go pkSIG (i + op * 2 ^ 44) v
  | .bye => go pkBYE 0 0

/-! ## Losses (R335, R353, R354) -/

/-- KIND of a loss record. -/
def Req.lossKind (r : Req) : Nat :=
  match r.kind with | .write _ => 1 | .read _ => 2 | .atomic _ _ _ _ => 3 | _ => 4

/-- The 32 bytes of a loss record (R354). -/
def State.lossBytes (s : State) (r : Req) (kind : Nat) : List Byte :=
  let lines := if kind = 3 ∨ kind = 4 then 0 else lineMask r.lines
  let local_ := match r.kind with | .sig _ _ i _ => i | _ => r.addr / 64 * 64
  leBytes 8 (local_ + r.node * 2 ^ 44 + kind * 2 ^ 56 + lines * 2 ^ 60) ++ leBytes 8 r.ticket ++
  leBytes 8 ((r.root.map PourId.word).getD 0) ++
  leBytes 8 (r.flask % 64 + r.fgen * 2 ^ 6 + s.ndGen r.node * 2 ^ 16 + bits (s.clock .peer) 10 32 * 2 ^ 32)

/-- The SIG r is over for its pour. -/
def State.sigTaken (s : State) (r : Req) : State := s.modCtx r.ctx (fun x => { x with signals := x.signals - 1 })

/-- Request r completes as a removal completes it, with a loss record; the status NODE_GONE goes to the requester of a read or
atomic before its slag-marked data. -/
def State.loseReq (s : State) (r : Req) : State :=
  let t := s.errRecord (s.lossBytes r r.lossKind)
  match r.kind with
  | .read _ | .atomic _ _ _ _ => (((t.bump .PEER_LOSS_LOST_READS).say (.nodeGone r.id)).finishSlag r).endPour r.ctx 6 0
  | .write _ => ((t.bump .PEER_LOSS_LOST_WRITES).ackWrite r).endPour r.ctx 6 0
  | .sig _ _ _ _ =>
    let t := (t.bump .PEER_LOSS_LOST_SIGNALS).dropReq r.id
    if r.issued then t else t.sigTaken r
  | .bye => s.dropReq r.id

/-- This side issues requests to node n (R335). -/
def State.issuing (s : State) (n : Nat) : Bool :=
  (s.ndState n == ndATTACHED || s.ndState n == ndDETACHING) && !(s.node n).closing

/-! ## Issue (R259, R262, R263, R342) -/

/-- The request is the BYE of an orderly detach. -/
def Req.isBye (r : Req) : Bool := match r.kind with | .bye => true | _ => false

/-- All peer requests that have been sent and not answered, a BYE among them. -/
def State.sentPeers (s : State) : List Req := s.reqs.filter (fun r => r.tier == 2 && r.issued && r.fin.isNone)

/-- All peer requests that hold a tag of the port: reads, atomics, writes and SIGs (R342). -/
def State.outPeers (s : State) : List Req := s.sentPeers.filter (fun r => !r.isBye)

/-- Requests to node n that hold a tag. -/
def State.outTo (s : State) (n : Nat) : List Req := s.outPeers.filter (fun r => r.node == n)

/-- The lowest peer tag that no packet awaiting an answer carries. A BYE holds no tag of the pool, but carries one that no
request holds, by which its ACK is known (DESIGN CHOICE, log entry 66). -/
def State.freeTag? (s : State) : Option Nat := lowest 24576 (fun t => !s.sentPeers.any (fun r => r.tag == t))
def State.freeTag (s : State) : Nat := s.freeTag?.getD 0

/-- Request r is sent to its node with a tag, or completes as lost. During the drain of a BLOCK reset an accepted write goes
out, though its node has left (R270, R474). -/
def State.issuePeer (s : State) (r : Req) : State :=
  if r.isBye then s
  else if !s.issuing r.node && s.rd .RAS_STATUS_PHASE != 6 then (s.raise (0x2300 + r.flask)).loseReq r
  else if s.freeTag?.isNone then s
  else if decide (max (s.rd .PEER_CTL_NODE_LIMIT) 1 ≤ (s.outTo r.node).length) || decide (24576 ≤ s.outPeers.length) then s
  else
    let r := { r with issued := true, sentAt := s.time, tag := s.freeTag, gen := s.ndGen r.node }
    let t := ((s.modReq r.id (fun _ => r)).countLines r).sendReq r
    match r.kind with | .sig _ _ _ _ => t.sigTaken r | _ => t

/-- HAP_ISSUE (R259, R262, R263): the held request `id` is issued, if credit, room and line order allow. -/
def State.hapIssue (s : State) (id : Nat) : State :=
  match s.req? id with
  | none => s
  | some r =>
    if (r.issued && r.parts.all (fun p => p.sent)) || r.fin.isSome || s.lineBusy r then s
    else match r.tier with
      | 0 => s.issueHbm r
      | 1 => s.issueHost r
      | _ => s.issuePeer r

/-! ## Outbound answers (R341, R343) -/

/-- Fields of a packet's header. -/
def pkType (p : List Byte) : Nat := fld p 0 0 4
def pkSrc (p : List Byte) : Nat := fld p 0 20 12
def pkGen (p : List Byte) : Nat := fld p 0 32 8
def pkFlask (p : List Byte) : Nat := fld p 0 40 6
def pkTag (p : List Byte) : Nat := fld p 0 48 15
def pkLocal (p : List Byte) : Nat := fld p 1 0 44
def pkOp (p : List Byte) : Nat := fld p 1 44 4
def pkLines (p : List Byte) : Nat := fld p 1 48 4
def pkMasked (p : List Byte) : Bool := fld p 1 53 1 == 1
def pkValue (p : List Byte) : Nat := leAt p 16 8

/-- A node's packet is dropped, with its generation counted as stale (R348). -/
def State.dropPacket (s : State) (p : List Byte) : State := s.stale .node (pkSrc p) (pkGen p) (s.ndGen (pkSrc p))

/-- R348 admits the packet; none while the port is not in use (R334). -/
def State.admits (s : State) (p : List Byte) : Bool :=
  s.on .PEER_CTL_EN && (s.ndState (pkSrc p) == ndATTACHED || s.ndState (pkSrc p) == ndDETACHING) && pkGen p == s.ndGen (pkSrc p)

/-- The reserved bits of a response's header are zero, and its fields other than TAG and CODE. -/
def respReserved (p : List Byte) : Bool :=
  fld p 0 4 4 != 0 || fld p 0 40 8 != 0 || fld p 0 63 1 != 0 || fld p 1 0 56 != 0 || pkValue p != 0 ||
  (pkType p != pkERR && fld p 1 56 8 != 0)

/-- The outstanding request that a response of the expected type answers; none, with what becomes of the packet, where it
answers none. -/
def State.answering (s : State) (type : Nat) (p : List Byte) : Option Req × State :=
  if !s.ready || pkType p != type then (none, s)
  else if !s.admits p then (none, s.dropPacket p)
  else match s.sentPeers.find? (fun r => r.node == pkSrc p && r.tag == pkTag p && r.resend.isNone) with
    | none => (none, s.dropPacket p)
    | some r => if respReserved p then (none, s) else (some r, s)

/-- PEER_DATA (R341): the data of a read or atomic return, with the slag marker or without. -/
def State.peerData (s : State) (p : List Byte) (slag : Bool) : State :=
  match s.answering pkDATA p with
  | (none, t) => t
  | (some r, t) =>
    match r.kind with
    | .read n =>
      if p.length ≠ 24 + 64 * r.lines.length then t
      else if slag then (t.wr .HAP_ERR_RD_POISON 1).finishSlag r
      else t.finish r (slice (p.drop 24) (r.addr % 64) n)
    | .atomic _ z _ _ =>
      if p.length ≠ 32 then t
      else if slag then (t.wr .HAP_ERR_ATOMIC_ERR 1).finishSlag r
      else t.finish r (slice (p.drop 24) 0 z)
    | _ => t

/-- PEER_ACK (R341). -/
def State.peerAck (s : State) (p : List Byte) : State :=
  match s.answering pkACK p with
  | (none, t) => t
  | (some r, t) =>
    if p.length ≠ 24 then t
    else match r.kind with
      | .write _ => t.ackWrite r
      | .sig _ _ _ _ => t.dropReq r.id
      | .bye => (t.dropReq r.id).setNode { t.node r.node with bye := false }
      | _ => t

/-- PEER_BUSY (R343): the request is to be sent again after the back-off. -/
def State.peerBusy (s : State) (p : List Byte) : State :=
  match s.answering pkBUSY p with
  | (none, t) => t
  | (some r, t) =>
    if p.length ≠ 24 then t
    else
      let a := r.busy + 1
      t.modReq r.id (fun x => { x with busy := a, resend := some (t.time + 256 * 2 ^ min a 6) })

/-- PEER_BUSY_RESEND (R343): the back-off of the request that holds tag `tag` has expired, and it is sent again. -/
def State.peerResend (s : State) (tag : Nat) : State :=
  match s.sentPeers.find? (fun r => r.tag == tag && r.resend.isSome) with
  | none => s
  | some r =>
    let t := s.elapse (r.resend.getD 0)
    let t := (t.modReq r.id (fun x => { x with resend := none, sentAt := t.time })).bump .PEER_STATS_RETRIES
    t.sendReq r

/-- PEER_ERR (R343, R269). -/
def State.peerErr (s : State) (p : List Byte) : State :=
  match s.answering pkERR p with
  | (none, t) => t
  | (some r, t) =>
    if p.length ≠ 24 then t
    else match r.kind with
      | .read _ => (t.wr .HAP_ERR_RD_POISON 1).finishSlag r
      | .atomic _ _ _ _ => (t.wr .HAP_ERR_ATOMIC_ERR 1).finishSlag r
      | .write _ => ((t.wr .HAP_ERR_WR_ERR 1).bump .HAP_DROP_WR_ERRORS).ackWrite r
      | .sig _ _ _ _ => (t.wr .PEER_ERR_SIG_REFUSED 1).dropReq r.id
      | .bye => t

/-! ## Removal (R344, R353) -/

/-- A range of an enabled binding holds node n. -/
def State.boundFlasks (s : State) (n : Nat) : List Nat :=
  ((s.listed .PEER_BIND_EN).filter (fun b => decide (s.rd .PEER_BIND_NODE_LO b ≤ n) && decide (n ≤ s.rd .PEER_BIND_NODE_HI b))).map
    (fun b => s.rd .PEER_BIND_FLASK b)

/-- The sheet cache loses the peer-tier leaves of node n (R214). -/
def State.dropPeerLeaves (s : State) (n : Nat) : State :=
  { s with xl := { s.xl with sheets := s.xl.sheets.filter (fun l => !(l.tier == 2 && l.pa / 2 ^ 44 == n)) } }

/-- The PEER reset of node n, found with a cause (R353). -/
def State.removeNode (s : State) (n cause : Nat) : State :=
  let lost := (s.reqs.filter (fun r => r.tier == 2 && r.node == n && r.fin.isNone && (r.issued || r.isBye)))
  let x := s.node n
  let t := ((s.wr .PEER_NODE_STATE ndQUARANTINED n).wr .PEER_NODE_CAUSE cause n).wr .PEER_ERR_NODE_LOST 1
  let t := (t.setNode { num := n, since := t.time }).dropPeerLeaves n
  let flasks := (lost.filter (fun r => !r.isBye)).map Req.flask
  let t := lost.foldl State.loseReq (t.raise 0x2340)
  let t := (flasks ++ s.boundFlasks n).eraseDups.foldl (fun t f => t.raise (0x2300 + f)) t
  t.replyAll x.slots stPARTIAL

/-- The node may be removed: it is attached or detaching. -/
def State.removable (s : State) (n : Nat) : Bool := s.ndState n == ndATTACHED || s.ndState n == ndDETACHING

/-- An attach of node k ends with TIMEOUT (R351): STATE returns to FREE and GEN to its earlier value. -/
def State.attachFail (s : State) (k : Nat) : State :=
  let x := s.node k
  let t := ((s.wr .PEER_ERR_ATTACH_FAIL 1).wr .PEER_NODE_STATE ndFREE k).wr .PEER_NODE_GEN x.oldGen k
  ({ t with nodes := t.nodes.filter (fun y => y.num != k) }).replyAll x.slots stTIMEOUT

/-- PEER_PATH_LOST (R353): the link layer reports no path to node n. An attach of it that is under way ends as one that gets
no HELLO_ACK (DESIGN CHOICE, log entry 67). -/
def State.pathLost (s : State) (n : Nat) : State :=
  if s.removable n then s.removeNode n 3
  else if s.ndState n == ndATTACHING then s.attachFail n
  else s

/-- PEER_REQUEST_TIMEOUT (R344): the request that holds tag `tag` is unanswered 2 ms after its last send. -/
def State.peerTimeout (s : State) (tag : Nat) : State :=
  match s.sentPeers.find? (fun r => r.tag == tag && r.resend.isNone) with
  | none => s
  | some r => ((s.elapse (r.sentAt + 2000000)).wr .PEER_ERR_NODE_TIMEOUT 1).removeNode r.node 4

/-! ## Attach and detach (R351, R352, R355) -/

/-- PEER_ATTACH in slot n from its start point. -/
def State.peerAttach (s : State) (n : Nat) : State :=
  let (k, g) := s.qref n
  if !s.on .PEER_CTL_EN || s.ndState k != ndFREE then s.reply n stSTATE
  else if k = s.self ∨ g = s.ndGen k then s.reply n stBADARG
  else
    let t := s.setNode { num := k, oldGen := s.ndGen k, helloAt := s.time, since := s.time, slots := [n] }
    ((t.wr .PEER_NODE_STATE ndATTACHING k).wr .PEER_NODE_GEN g k).packet pkHELLO k g 0 0 0 0

/-- PEER_HELLO_RESEND (R351): HELLO goes out again, 1 ms after the last one. -/
def State.helloResend (s : State) (k : Nat) : State :=
  let x := s.node k
  if s.ndState k != ndATTACHING || x.gotAck then s
  else
    let t := s.elapse (x.helloAt + 1000000)
    (t.setNode { x with helloAt := t.time }).packet pkHELLO k (t.ndGen k) 0 0 0 0

/-- PEER_ATTACH_TIMEOUT (R351). -/
def State.attachTimeout (s : State) (k : Nat) : State :=
  let x := s.node k
  if s.ndState k != ndATTACHING || x.gotAck then s
  else (s.elapse (x.since + 100000000)).attachFail k

/-- The attach of node k completes once a HELLO_ACK has come and a HELLO has been answered. -/
def State.attachDone (s : State) (k : Nat) : State :=
  let x := s.node k
  if s.ndState k == ndATTACHING && x.gotAck && x.answered then
    (((s.wr .PEER_NODE_STATE ndATTACHED k).raise 0x2340).setNode { num := k }).replyAll x.slots stOK
  else s

/-- A HELLO or HELLO_ACK is malformed: a reserved bit or a field it does not use is not zero, or its length. -/
def helloBad (p : List Byte) : Bool :=
  fld p 0 4 4 != 0 || fld p 0 46 2 != 0 || fld p 0 63 1 != 0 || fld p 1 0 64 != 0 || pkValue p != 0 || p.length != 24

/-- INBOUND_HELLO (R351, R348). -/
def State.inboundHello (s : State) (p : List Byte) : State :=
  let k := pkSrc p
  if !s.ready || pkType p != pkHELLO then s
  else if s.on .PEER_CTL_EN && (s.ndState k == ndATTACHING || s.ndState k == ndATTACHED) && pkGen p == s.ndGen k then
    if helloBad p then s else
    let t := s.packet pkHELLOACK k (pkGen p) 0 (pkTag p) 0 0
    if t.ndState k == ndATTACHING then (t.setNode { t.node k with answered := true }).attachDone k else t
  else s.dropPacket p

/-- PEER_HELLO_ACK (R351, R348). -/
def State.helloAck (s : State) (p : List Byte) : State :=
  let k := pkSrc p
  if !s.ready || pkType p != pkHELLOACK then s
  else if s.on .PEER_CTL_EN && s.ndState k == ndATTACHING && pkGen p == s.ndGen k && !(s.node k).gotAck then
    (if helloBad p then s else (s.setNode { s.node k with gotAck := true }).attachDone k)
  else s.dropPacket p

/-- A detach of node k ends in quarantine, with the PEER reset of the node (R352, R214). -/
def State.detached (s : State) (k : Nat) : State :=
  let t := ((s.wr .PEER_NODE_STATE ndQUARANTINED k).wr .PEER_NODE_CAUSE 1 k).setNode { num := k, since := s.time }
  ((t.dropPeerLeaves k).raise 0x2340).replyAll (s.node k).slots stOK

/-- The BYE of node k that is still to be sent goes out, when there is a number that no packet awaiting an answer carries. -/
def State.sendBye (s : State) (k : Nat) : State :=
  match s.reqs.find? (fun r => r.isBye && r.node == k && !r.issued), s.freeTag? with
  | some r, some tag =>
    let r := { r with issued := true, tag := tag, sentAt := s.time }
    (s.modReq r.id (fun _ => r)).sendReq r
  | _, _ => s

/-- A request of node k that has been accepted is still to be answered. -/
def State.inboundOf (s : State) (k : Nat) : Bool :=
  let write (st : BufStore) : Bool := match st.purpose with | .inbound n _ _ => n == k | _ => false
  s.wbuf.any write || s.hlp.waits.any (fun w => match w.act with
    | .inbound n _ _ => n == k
    | .store st => write st
    | _ => false)

/-- Detaching nodes move on: a BYE is acknowledged once this side's requests are answered, and a detach ends once its own
BYE is too and the node's own requests have been answered (R352). -/
def State.pumpNodes (s : State) : State :=
  s.nodes.foldl (fun t x =>
    let k := x.num
    let t := t.sendBye k
    if !(t.removable k) || !(t.node k).closing || !(t.outTo k).isEmpty then t
    else
      let t := match (t.node k).byeTag with
        | some tag => (t.packet pkACK k (t.ndGen k) 0 tag 0 0).setNode { t.node k with byeTag := none }
        | none => t
      if (t.node k).bye || t.inboundOf k then t else t.detached k) s

/-- INBOUND_BYE (R352): this side stops issuing to the sender. -/
def State.inboundBye (s : State) (p : List Byte) : State :=
  let k := pkSrc p
  if !s.ready || pkType p != pkBYE then s
  else if !s.admits p then s.dropPacket p
  else if helloBad p then s
  else ((s.wr .PEER_NODE_STATE ndDETACHING k).setNode { s.node k with closing := true, byeTag := some (pkTag p) }).pumpNodes

/-- The checks that PEER_DETACH in slot n begins with; the node it names, if it passes. -/
def State.detachNode (s : State) (n : Nat) : Except State Nat :=
  let (k, g) := s.qref n
  if g ≠ s.ndGen k then .error ((s.stale .node k g (s.ndGen k)).reply n stSTATE)
  else if !s.removable k then .error (s.reply n stSTATE)
  else .ok k

/-- PEER_DETACH of mode ORDERLY in slot n from its start point (R352). -/
def State.detachOrderly (s : State) (n : Nat) : State :=
  match s.detachNode n with
  | .error t => t
  | .ok k =>
    let x := s.node k
    if !x.slots.isEmpty then s.setNode { x with slots := x.slots ++ [n] }
    else
      let (id, t) := s.newId
      let r : Req := { id := id, who := .seqr 0, ctx := 512, root := none, tier := 2, node := k, addr := 0, kind := .bye,
                       purpose := .signal, gen := s.ndGen k }
      let t := { t with reqs := t.reqs ++ [r] }
      ((t.wr .PEER_NODE_STATE ndDETACHING k).setNode { x with closing := true, bye := true, slots := [n] }).pumpNodes

/-- PEER_DETACH of mode REMOVED in slot n from its start point (R353). -/
def State.detachRemoved (s : State) (n : Nat) : State :=
  match s.detachNode n with
  | .error t => t
  | .ok k =>
    if (s.node k).slots.isEmpty then (s.removeNode k 2).reply n stOK
    else (s.setNode { s.node k with slots := (s.node k).slots ++ [n] }).removeNode k 2

/-- PEER_QUARANTINE_END (R355): 1 s after its detach, its removal or READY, node k becomes FREE. -/
def State.quarantineEnd (s : State) (k : Nat) : State :=
  if s.ready && s.ndState k == ndQUARANTINED && decide (k < 4096) then
    let t := (s.elapse ((s.node k).since + 1000000000)).wr .PEER_NODE_STATE ndFREE k
    { t with nodes := t.nodes.filter (fun y => y.num != k) }
  else s

/-! ## Bindings (R336, R337) -/

/-- [a, a + n) meets a ring of flask f that a binding may not give out: fault, hot or egress. -/
def State.meetsRings (s : State) (f a n : Nat) : Bool :=
  overlaps a n (s.rd .XL_FRING_BASE_BASE f * 4096) (s.rd .XL_FRING_BASE_SIZE f * 4096) ||
  overlaps a n (s.rd .TIER_HRING_BASE_BASE f * 4096) (s.rd .TIER_HRING_BASE_SIZE f * 4096) ||
  overlaps a n (s.rd .CAST_ELOG_BASE_BASE f * 4096) (s.rd .CAST_ELOG_BASE_SIZE f * 4096)

/-- Binding b passes the checks of R337. -/
def State.bindOk (s : State) (b : Nat) : Bool :=
  let lo := s.rd .PEER_BIND_NODE_LO b
  let hi := s.rd .PEER_BIND_NODE_HI b
  let f := s.rd .PEER_BIND_FLASK b
  let a := s.rd .PEER_BIND_BASE b * granule
  let n := s.rd .PEER_BIND_SIZE b * granule
  decide (lo ≤ hi) && !(decide (lo ≤ s.self) && decide (s.self ≤ hi)) && s.rd .PEER_BIND_FLASK_GEN b == s.flaskGen f &&
  (n == 0 || (s.inPrivate f a n && !s.meetsRings f a n && (!s.flaskSealed f || s.allPublic a n)))

/-- PEER_BIND_WRITE (R337): a write of `size` bytes at the given half of doubleword dw of binding b. -/
def State.bindWrite (s : State) (b dw size half val : Nat) : State :=
  if 256 ≤ b ∨ 3 ≤ dw then s
  else
    let off := 0x601000 + b * 0x20 + dw * 8
    let enWritten := dw == 0 && (size == 8 || half == 1)
    let v := if half = 0 then val else val * 2 ^ 32
    if s.on .PEER_BIND_EN b then
      let s := s.heldWrite off size
      if enWritten then s.wr .PEER_BIND_EN (bits v 63 1) b else s
    else
      let t := s.regWrite off size half val
      if enWritten && bits v 63 1 == 1 then
        if t.bindOk b then t.wr .PEER_BIND_CFG_ERR 0 b
        else (s.wr .PEER_BIND_CFG_ERR 1 b).wr .PEER_ERR_BIND_CFG 1
      else t

/-! ## Inbound requests (R336, R338, R347 to R350) -/

/-- The binding of a request (R336). -/
def State.bindingOf (s : State) (p : List Byte) : Option Nat :=
  (s.listed .PEER_BIND_EN).find? (fun b => decide (s.rd .PEER_BIND_NODE_LO b ≤ pkSrc p) &&
    decide (pkSrc p ≤ s.rd .PEER_BIND_NODE_HI b) && s.rd .PEER_BIND_SRC_FLASK b == pkFlask p)

/-- LOCAL lies in the doorbell region. -/
def inDoorbells (a : Nat) : Bool := decide (0xF0000000000 ≤ a) && decide (a < 0xF0000000000 + 2 ^ 24)

/-- The byte addresses of the lines that a request names. -/
def pkLineAddrs (p : List Byte) : List Nat :=
  if pkType p = pkAT then [pkLocal p / 64 * 64]
  else ((List.range 4).filter (fun i => bit (pkLines p) i)).map (fun i => pkLocal p / 256 * 256 + 64 * i)

/-- The packet lengths and reserved bits of R340 and R341 for the four request types. -/
def pkBad (p : List Byte) : Bool :=
  let ty := pkType p
  let lines := popCount (pkLines p) 4
  let rsvd := fld p 0 4 4 != 0 || fld p 0 46 2 != 0 || fld p 0 63 1 != 0 || fld p 1 54 2 != 0 || fld p 1 56 8 != 0
  rsvd || decide (p.length < 24) ||
  (if ty = pkRD then p.length != 24 || pkLocal p % 64 != 0 || pkOp p != 0 || fld p 1 52 2 != 0 || pkValue p != 0
   else if ty = pkWR then
     p.length != 24 + 64 * lines + (if pkMasked p then 32 else 0) || pkLocal p % 64 != 0 || pkOp p != 0 ||
     fld p 1 52 1 != 0 || pkValue p != 0
   else if ty = pkAT then
     let z := if fld p 1 52 1 = 1 then 8 else 4
     decide (9 < pkOp p) || p.length != (if pkOp p = 2 then 40 else 32) || pkLines p != 0 || pkMasked p ||
     pkLocal p % z != 0 || pkValue p != 0
   else if ty = pkSIG then
     p.length != 24 || decide (2 < pkOp p) || pkLines p != 0 || fld p 1 52 2 != 0 || fld p 1 16 28 != 0
   else true)

/-- The bytes that a WR packet writes. -/
def pkCells (p : List Byte) : List (Nat × Byte) :=
  let base := if pkMasked p then 56 else 24
  let ls := (List.range 4).filter (fun i => bit (pkLines p) i)
  let block := pkLocal p / 256 * 256
  (((List.range ls.length).zip ls).flatMap (fun q => (List.range 64).map (fun k =>
    (64 * q.2 + k, nth p (base + 64 * q.1 + k) 0)))).filterMap (fun c =>
      if !pkMasked p || (nth p (24 + c.1 / 8) 0).getLsbD (c.1 % 8) then some (block + c.1, c.2) else none)

/-- The ERR code of the first row of R338 that applies, with the binding where there is one. -/
def State.inboundFault (s : State) (p : List Byte) : Nat × Nat :=
  match s.bindingOf p with
  | none => (1, 0)
  | some b =>
    let ty := pkType p
    let a := pkLocal p
    let db := ty == pkWR && inDoorbells a
    let f := s.rd .PEER_BIND_FLASK b
    let right := if ty = pkRD then s.on .PEER_BIND_RD b else if ty = pkAT then s.on .PEER_BIND_AT b
      else if ty = pkSIG then s.on .PEER_BIND_SIG b
      else if ty = pkWR then (if db then s.on .PEER_BIND_DB b else s.on .PEER_BIND_WR b) else true
    let lines := pkLineAddrs p
    let lo := s.rd .PEER_BIND_BASE b * granule
    let n := s.rd .PEER_BIND_SIZE b * granule
    let mem := (ty == pkRD || ty == pkAT || ty == pkWR) && !db
    let range := (mem && (decide (hbmSize ≤ a) || !lines.all (fun l => inside l 64 lo n))) || (db && a % 4096 != 0)
    let sealed := mem && lines.any (fun l => s.granSealed (l / granule))
    let code := if s.rd .PEER_BIND_FLASK_GEN b ≠ s.flaskGen f then 5 else if !right then 2 else if range then 3
      else if sealed then 4 else if pkBad p then 6 else 0
    (code, b)

/-- An answer to an inbound request. -/
def State.answerPkt (s : State) (p : List Byte) (type : Nat) (h1 : Nat := 0) (payload : List Byte := []) : State :=
  s.packet type (pkSrc p) (pkGen p) 0 (pkTag p) h1 0 payload

/-- The refusal of an inbound request (R338). -/
def State.refuse (s : State) (p : List Byte) (code b : Nat) : State :=
  let f := s.rd .PEER_BIND_FLASK b
  let t := if code = 5 then s.stale .flask f (s.rd .PEER_BIND_FLASK_GEN b) (s.flaskGen f) else s
  ((t.wr .PEER_ERR_INBOUND_DENIED 1).bump .PEER_STATS_DENIED).answerPkt p pkERR (code * 2 ^ 56)

/-- Entries of the inbound buffer in use: requests performed and still to be answered (R347). -/
def State.inboundUse (s : State) : Nat :=
  (s.wbuf.filter (fun st => match st.purpose with | .inbound _ _ _ => true | _ => false)).length +
  (s.hlp.waits.filter (fun w => match w.act with
    | .inbound _ _ _ => true
    | .store st => (match st.purpose with | .inbound _ _ _ => true | _ => false)
    | _ => false)).length

/-- Entries in use of an inbound buffer for SIGs or doorbells. Their effect comes with the packet, and the entry is held for
15 ns more, the longest that R346 gives a request on its way (DESIGN CHOICE, log entry 68). -/
def State.bufUse (s : State) (l : List Nat) : Nat := (l.filter (fun t => decide (s.time < t))).length

/-- A SIG takes an entry of its buffer. -/
def State.takeSigBuf (s : State) : State :=
  { s with sigBuf := s.sigBuf.filter (fun t => decide (s.time < t)) ++ [s.time + 15] }

/-- A doorbell takes an entry of its buffer. -/
def State.takeDbBuf (s : State) : State :=
  { s with dbBuf := s.dbBuf.filter (fun t => decide (s.time < t)) ++ [s.time + 15] }

/-- What every inbound request meets before its own effect (R334, R348, R347, R338): the state in which it goes on with
its binding, or the state it leaves. -/
def State.inboundGate (s : State) (ty : Nat) (p : List Byte) : Except State Nat :=
  let unknown := !([pkRD, pkWR, pkAT, pkSIG, pkHELLO, pkBYE, pkDATA, pkACK, pkBUSY, pkERR, pkHELLOACK].contains (pkType p))
  if !s.ready || !(pkType p == ty || unknown) then .error s
  else if !s.admits p then .error (s.dropPacket p)
  else
    let db := ty == pkWR && inDoorbells (pkLocal p)
    let mem := ty != pkSIG && !db
    let full := if mem then decide (4096 ≤ s.inboundUse) else decide (256 ≤ s.bufUse (if db then s.dbBuf else s.sigBuf))
    if full || (mem && s.drowse) then
      let t := if full then s.wr .PEER_ERR_BUSY_SENT 1 else s
      .error (t.answerPkt p pkBUSY)
    else match s.inboundFault p with
      | (0, b) => .ok b
      | (code, b) => .error (s.refuse p code b)

/-- The bytes an inbound request moves are counted as overhead of the bound flask (R414). -/
def State.countInbound (s : State) (p : List Byte) : State :=
  match s.bindingOf p with
  | some b => s.countFor (.overhead (s.rd .PEER_BIND_FLASK b)) 8 (64 * (pkLineAddrs p).length)
  | none => s

/-- The atomic of an inbound packet, at the HBM atomic unit. -/
def State.inboundAtomic (s : State) (p : List Byte) : List Byte × State :=
  s.hbmAtomic (pkLocal p) (pkOp p) (if fld p 1 52 1 = 1 then 8 else 4) (leAt p 24 8) (leAt p 32 8)

/-- A read or atomic that has passed its checks is performed at HBM and answered (R349); with its node gone by then, it is
performed and its answer discarded (R353). -/
def State.inboundPerform (s : State) (p : List Byte) : State :=
  let s := s.countInbound p
  if !s.admits p then (if pkType p = pkRD then s else s.inboundAtomic p |>.2)
  else if pkType p = pkRD then
    s.answerPkt p pkDATA 0 ((pkLineAddrs p).flatMap (fun l => s.sysRead l 64))
  else
    let (old, t) := s.inboundAtomic p
    t.answerPkt p pkDATA 0 (slice old 0 8)

/-- The inbound read or atomic goes through the home-agent check (R41): it waits for the data of a line that a host core
holds modified, and an atomic that writes for the copy (R319, R322), behind the stores to its line that wait there (R262). -/
def State.inboundAccess (s : State) (p : List Byte) : State :=
  let act := LineAct.inbound (pkSrc p) (pkGen p) p
  if pkType p = pkRD then
    match (pkLineAddrs p).find? (fun a => s.hostExcl (lineOf a)) with
    | some a => s.waitSoft (lineOf a) act
    | none => s.inboundPerform p
  else
    let waits (w : LineWait) : Bool := match w.act with
      | .store st => (linesOf st.cells).contains (lineOf (pkLocal p))
      | _ => false
    match s.hlp.waits.reverse.find? waits with
    | some w => s.waitLine w.line act
    | none => match s.atomicHolds (pkLocal p) (pkOp p) (if fld p 1 52 1 = 1 then 8 else 4) (leAt p 32 8) with
      | some l => if s.readsFirst (pkOp p) l then s.waitSoft l act else s.waitLine l act
      | none => s.inboundPerform p

/-- INBOUND_RD (R338, R349). -/
def State.inboundRd (s : State) (p : List Byte) : State :=
  match s.inboundGate pkRD p with
  | .error t => t
  | .ok _ => s.inboundAccess p

/-- INBOUND_AT (R349). -/
def State.inboundAt (s : State) (p : List Byte) : State :=
  match s.inboundGate pkAT p with
  | .error t => t
  | .ok _ => s.inboundAccess p

/-- The queue, value and form of an inbound doorbell: a WR of one line whose mask covers bytes 0 to 7 of the page (R341). -/
def dbQueue (p : List Byte) : Nat := (pkLocal p - 0xF0000000000) / 4096
def dbValue (p : List Byte) : Nat := ofLe ((pkCells p).map Prod.snd)
def dbForm (p : List Byte) : Bool :=
  popCount (pkLines p) 4 == 1 && pkMasked p && pkLocal p % 256 == 0 &&
  (pkCells p).map Prod.fst == (List.range 8).map (fun i => pkLocal p + i)

/-- Queue q is one of the flask that binding b binds. -/
def State.boundQueue (s : State) (b q : Nat) : Bool := s.ownsQueue (s.rd .PEER_BIND_FLASK b) q

/-- The inbound doorbell (R350). -/
def State.inboundDoorbell (s : State) (p : List Byte) (b : Nat) : State :=
  let q := dbQueue p
  let v := dbValue p
  if !dbForm p then s.refuse p 6 b
  else if bits v 32 8 ≠ s.rd .QCTX_GEN q then (s.stale .queue q (bits v 32 8) (s.rd .QCTX_GEN q)).answerPkt p pkACK
  else if !s.boundQueue b q then s.refuse p 3 b
  else (s.doorbell q (setBits v 32 8 0)).answerPkt p pkACK

/-- INBOUND_WR (R349, R350): a doorbell rings; the lines of any other write are accepted at HBM by controller
ctl, and the write is answered when they are committed. -/
def State.inboundWr (s : State) (p : List Byte) (ctl : Nat) : State :=
  match s.inboundGate pkWR p with
  | .error t => t
  | .ok b =>
    if inDoorbells (pkLocal p) then s.takeDbBuf.inboundDoorbell p b
    else
      let cells := pkCells p
      if cells.isEmpty then s.answerPkt p pkACK
      else
        let (id, t) := (s.countInbound p).newId
        let st : BufStore := { id := id, ctl := ctl, cells := cells, ctx := 512, root := none,
                               purpose := .inbound (pkSrc p) (pkTag p) (pkGen p) }
        let t := t.acceptStore st
        if (linesOf cells).any s.coherentLine && !t.storeWaits id then t.answerPkt p pkACK else t

/-- INBOUND_SIG (R350). -/
def State.inboundSig (s : State) (p : List Byte) : State :=
  match s.inboundGate pkSIG p with
  | .error t => t
  | .ok b =>
    let s := s.takeSigBuf
    let f := s.rd .PEER_BIND_FLASK b
    let i := bits (pkLocal p) 0 16
    if s.rd .FL_TCOUNT_M1 f < i then s.refuse p 3 b
    else (s.tlApply (s.rd .FL_TFIRST f + i) (pkOp p) (pkValue p)).answerPkt p pkACK

/-- The cause of the wake that an inbound packet is in DROWSE: a read, write or atomic, or a doorbell that is taken; none for
any other (R479). -/
def State.inboundWakes (s : State) (p : List Byte) : Option Nat :=
  let ty := pkType p
  let db := ty == pkWR && inDoorbells (pkLocal p)
  if !(s.on .PEER_CTL_EN && s.ready && s.drowse && s.admits p) then none
  else if db then
    (match s.inboundGate pkWR p with
     | .ok b => if dbForm p && bits (dbValue p) 32 8 == s.rd .QCTX_GEN (dbQueue p) && s.boundQueue b (dbQueue p) then some 3 else none
     | .error _ => none)
  else if ty == pkRD || ty == pkWR || ty == pkAT then some 4 else none

/-- HBM_COMMIT (R308): store `id`, if it is the oldest of its lines, is committed; a peer write is acknowledged so. -/
def State.hbmCommit (s : State) (id : Nat) : State :=
  match s.wbuf.find? (fun st => st.id == id) with
  | none => s
  | some st =>
    if !s.mayCommit st then s
    else
      let t := s.commitStore st
      match st.purpose with
      | .inbound n tag gen =>
        if t.removable n && t.ndGen n == gen then t.packet pkACK n gen 0 tag 0 0 else t
      | _ => t

end Sys2Proof.Machine
end

