-- ==== Sys2Proof/Machine/Seq.lean ====
section
/-! DEFINITION. The dispatch sequencers (05): the fetch of a record, the gate copy, and every record but those of the
route unit, the casters and migration; spawns, lanes, deadlines, stalls and the wait-for check. -/
namespace Sys2Proof.Machine

/-! ## The gate copy (R85, R86, R89) -/

/-- The timeline count of a context's flask; a management pour has none. -/
def State.tlCount (s : State) (x : Ctx) : Nat := if x.mgmt then 0 else s.rd .FL_TCOUNT_M1 x.flask + 1

/-- A changed value is counted, with its gate, and raises the error source of the root queue once for the
pour (R86). A pour of MGMT_RUN has no queue: its changed value leaves QUEUE as it was and raises nothing (DESIGN CHOICE, log
entry 137). -/
def State.noteClamp (s : State) (c g : Nat) : State :=
  match s.ctx? c with
  | none => s
  | some x =>
    let r := s.rootOf x
    let t := s.bump .MC_GATE_CLAMP_COUNT
    if r.mgmt then t.wr .MC_GATE_CLAMP_GATE g
    else
      let t := (t.wr .MC_GATE_CLAMP_QUEUE r.pour.queue).wr .MC_GATE_CLAMP_GATE g
      if x.clamped then t else (t.raiseQueueErr r.pour.queue).modCtx c (fun y => { y with clamped := true })

/-- The descriptor of gate g of a mould. -/
def State.descAt (s : State) (m : Mould) (g : Nat) : Desc := descOf (ofLe (s.dieRead (m.addr + 0x100 + g * 8) 8))

/-- The value v enters gate g of context c (R85, R86). -/
def State.gateWrite (s : State) (c g v : Nat) : State :=
  match s.ctx? c with
  | none => s
  | some x =>
    match s.mould? x.mould x.mgen with
    | none => s
    | some m =>
      let v := v % 2 ^ 64
      let w := clampGate (s.descAt m g) (s.tlCount x) v
      let t := s.modCtx c (fun y => { y with gates := y.gates.set g (BitVec.ofNat 64 w) })
      if w = v then t else t.noteClamp c g

/-- The pour of context c asks for its pinned set: its code regions and the values of its VA arguments (R216). -/
def State.askPins (s : State) (c : Nat) (m : Mould) : State :=
  let regions := (s.codeList m).map (fun r => (true, r * sheet32M))
  let args := s.vaArgs m
  s.modCtx c (fun x => { x with pinAsk := (args.map (fun g => (false, gateAt x.gates g))) ++ regions })

/-- A read of a sequencer for the pour of x has met an uncorrectable HBM error in the line at a (R484): a management pour's is
block-class, any other's resets its flask. -/
def State.pourUe (s : State) (x : Ctx) (a : Nat) : State :=
  if x.mgmt then (s.hbmUe a 2 3 (x.root / 16) x.flask x.pour.word).callBlock
  else (s.hbmUe a 2 1 (x.root / 16) x.flask x.pour.word).callFlask x.flask

/-- BANK_READ_RETURN (R89, R131, R148, R484): the gate copy of context c is made, and its passed values taken. Every gate that
a store races with takes what memory holds as the return comes, all of them at that one moment (DESIGN CHOICE among the values
R91 allows, log entry 137). -/
def State.bankReturn (s : State) (c : Nat) (ret : Ret) : State :=
  match s.ctx? c with
  | none => s
  | some x =>
    if x.st != .gates || !x.gates.isEmpty then s
    else match s.mould? x.mould x.mgen with
      | none => s
      | some m =>
        let a := m.gbase + x.bank * 0x200
        match ret with
        | .ok d =>
          let b := s.homeRead a 0x200 d
          let t := (s.count c 9 0x200).modCtx c (fun y => { y with gates := List.replicate 64 0 })
          let t := (List.range 64).foldl (fun t g => t.gateWrite c g (leAt b (8 * g) 8)) t
          let t := x.pass.foldl (fun t p => t.gateWrite c p.1 p.2.toNat) t
          let t := t.modCtx c (fun y => { y with pass := [] })
          if x.rt then t.askPins c m else t
        | bad => s.pourUe x (a + 64 * (badLines bad 8).headD 0)

/-- Sequence number a comes before b: the numbers of a queue run modulo 2^44 (R52, R56). -/
def seqBefore (a b : Nat) : Bool := a != b && decide ((b + 2 ^ 44 - a) % 2 ^ 44 < 2 ^ 43)

/-- An earlier pour of the queue of root pour x, by its sequence number, has not started its walk (R52). -/
def State.queueBehind (s : State) (x : Ctx) : Bool :=
  x.depth == 0 && !x.mgmt && s.ctxs.any (fun y =>
    y.depth == 0 && !y.mgmt && y.pour.queue == x.pour.queue && seqBefore y.pour.seq x.pour.seq && y.st == .gates)

/-- Contexts whose gate copy and pinned set are complete, and whose turn in their queue has come, begin to walk; those still at their gates have their first
segment read (R131, R216). -/
def State.pumpGates (s : State) : State :=
  s.ctxs.foldl (fun t x =>
    if x.st != .gates then t
    else
      let t := match t.mould? x.mould x.mgen with
        | some m => if t.cached m.idx m.gen 0 || x.missed || x.buf.isSome then t
                    else (t.demandFill m 0 x.num).modCtx x.num (fun y => { y with missed := true })
        | none => t
      match t.ctx? x.num with
      | some y => if y.gates.isEmpty || !y.pinAsk.isEmpty || t.queueBehind y then t else t.modCtx x.num (fun y => { y with st := .run })
      | none => t) s

/-! ## Fetching and finishing a record (R130, R132) -/

/-- The walk of x may go on; while its flask drains for a quench, only a record that is executing does (R427). -/
def State.mayWalk (s : State) (x : Ctx) : Bool :=
  s.ready && !x.walkDone && !x.stopped && (x.mgmt || s.rd .QN_PHASE x.flask == 0 || (x.begun && x.st == .run)) && !s.ending x && !s.faulted.contains x.flask &&
  (x.st == .run || x.st == .waitLane || x.st == .waitWork || x.st == .waitGate || x.st == .waitSpawn)

/-- The segment of the record at the index of x's walk is at hand: in the cache, or in the pour's fill buffer. -/
def State.atHand (s : State) (x : Ctx) : Bool :=
  match s.mould? x.mould x.mgen with
  | some m => s.cached m.idx m.gen (x.pc / 64) || x.buf == some (x.pc / 64)
  | none => false

/-- Context x holds a record that is ready to be issued (R129). -/
def State.issuable (s : State) (x : Ctx) : Bool := s.mayWalk x && x.st == .run && !x.begun && s.atHand x

/-- The sequencer of x comes to context x next: no other of its contexts with a record ready to be issued stands before x in
ascending order from the context that it served last, wrapping (R129). A record that has been issued and waits needs no turn to
complete (R133; DEDUCED, log entry 145). -/
def State.myTurn (s : State) (x : Ctx) : Bool :=
  let last := aget s.turns (x.root / 16) 511
  let place (c : Nat) : Nat := (c + 511 - last) % 512
  x.begun || !s.ctxs.any (fun y => y.root / 16 == x.root / 16 && decide (place y.num < place x.num) && s.issuable y)

/-- The record at a walk's index is issued, the turn of its context: its segment is used, and the next one is prefetched when
the walk first comes to it. -/
def State.beginRecord (s : State) (x : Ctx) (m : Mould) : State :=
  if x.begun then s
  else
    let seg := x.pc / 64
    let t := if s.cached m.idx m.gen seg then
        (if x.missed then s else s.bump .MC_STATS_HITS).touchSeg m.idx seg else s
    let t := if x.seen.contains seg then t else t.prefetch m (seg + 1) x.num
    let t := { t with turns := aset t.turns (x.root / 16) x.num }
    t.modCtx x.num (fun y => { y with begun := true, missed := false, seen := if y.seen.contains seg then y.seen else seg :: y.seen,
                                      buf := if y.buf == some seg then y.buf else none })

/-- Context c's record has completed, and the walk goes on at pc. -/
def State.goTo (s : State) (c pc : Nat) : State :=
  let fresh (x : Ctx) : Ctx :=
    { x with pc := pc, st := .run, asked := false, begun := false, want := [], loaded := none, putAt := 0,
             second := false }
  ((s.count c 12 1).modCtx c fresh).forget (.record c)

/-- Context c's record waits in a state. -/
def State.park (s : State) (c : Nat) (st : CtxState) : State := s.modCtx c (fun x => { x with st := st })

/-- The next record of context c, if it has opcode op and meets p, is executed by body. A segment that is not there is
fetched first (R125, R130), but for a record that has begun, which the sequencer holds; one whose turn has not come is not
issued (R129); a record that touches a pending gate waits (R92). -/
def State.record (s : State) (c op : Nat) (p : List Byte → Bool) (body : State → Ctx → Mould → List Byte → State) : State :=
  match s.ctx? c with
  | none => s
  | some x =>
    if !s.mayWalk x then s
    else match s.mould? x.mould x.mgen with
      | none => s
      | some m =>
        let seg := x.pc / 64
        if !(x.begun || s.cached m.idx m.gen seg || x.buf == some seg) then
          (s.demandFill m seg c).modCtx c (fun y => { y with st := .waitFetch, buf := none, missed := true })
        else
          let r := s.recordOf m x.pc
          if opOf r ≠ op || !p r || !s.myTurn x then s
          else
            let t := s.beginRecord x m
            if (gatesOf r).any (fun g => bit x.pending g) then t.park c .waitGate
            else body t x m r

/-- The gates of context c as numbers. -/
def Ctx.gate (x : Ctx) (g : Nat) : Nat := gateAt x.gates g

/-- The value of the operand at bit lo of doubleword 0. -/
def Ctx.op (x : Ctx) (r : List Byte) (dw lo : Nat) : Nat := opVal x.gates (fld r dw lo 16)

/-! ## KERNEL (R94, R134 to R137, R152) -/

/-- The engine groups of a pour in ascending order: the queue's reserved groups on a real-time queue, else the flask's, or
those of MGMT_RUN. -/
def State.groupsOf (s : State) (x : Ctx) : List Nat :=
  if x.mgmt then onesOf x.groups 64
  else if x.rt then onesOf (s.rd .QCTX_RT_GROUPS x.pour.queue) 64
  else onesOf (s.rd .FL_GROUPS x.flask) 64

/-- The groups a KERNEL of x runs on, and whether a real-time kernel was widened (R135, R136). -/
def State.kernelGroups (s : State) (x : Ctx) (r : List Byte) : List Nat × Bool :=
  let gs := s.groupsOf x
  let first := fld r 0 16 6
  let n := fld r 0 24 7
  if x.rt && decide (gs.length < first + n) then (gs, true) else ((gs.drop first).take n, false)

/-- The pour of x borrows engine e. -/
def State.borrows (s : State) (x : Ctx) (e : Nat) : Bool := !x.rt && !x.mgmt && s.reservedBy (e / 8)

/-- Engine e's lane has room for a record of x (R137, R152): 64 records that are not started, a staged one among them, and one
that has been withdrawn, whose place the image of a quench needs (DESIGN CHOICE, log entry 139). -/
def State.laneRoom (s : State) (x : Ctx) (e : Nat) : Bool :=
  if s.borrows x e then s.laneEmpty e && !s.rtWaits e else decide ((s.heldOn e).length < 64)

/-- Unstarted borrowed records are withdrawn from the lanes of the groups of the engines es (R152). -/
def State.withdraw (s : State) (es : List Nat) : State :=
  let gs := (es.map (fun e => e / 8)).eraseDups
  (gs.flatMap enginesOf).foldl (fun t e =>
    let l := t.lane e
    let mine := (l.queue ++ l.shadow.toList).filter (fun k => (t.kernel? k).any (fun x => x.lent.contains e))
    let t := t.setLane { l with queue := l.queue.filter (fun k => !mine.contains k),
                                shadow := l.shadow.filter (fun k => !mine.contains k) }
    mine.foldl (fun t k => t.modKernel k (fun x => { x with unwritten := x.unwritten ++ [e] })) t) s

/-- Groups with a new lane record are ungated (R477). -/
def State.ungate (s : State) (es : List Nat) : State :=
  es.foldl (fun t e =>
    let g := e / 8
    let t := if bit (t.rd .PWR_GATED_GROUPS) g then t.wr .PWR_GATED_GROUPS (setBits (t.rd .PWR_GATED_GROUPS) g 1 0) else t
    { t with groupUse := aset t.groupUse g t.time }) s

/-- The code of a real-time kernel has its pinned entry, or is asked for, or ends the pour (R218, R219). None: it may be
issued. -/
def State.codePin (s : State) (x : Ctx) (code : Nat) : Option State :=
  if !x.rt then none
  else if (x.pinFor code).isSome then none
  else match x.codeFault.find? (fun q => q.1 == code / sheet32M) with
    | some (_, k, lv) => some (s.faultNow x.seqr x.num code .fetch k lv)
    | none => some (if x.pinAsk.isEmpty then
        (s.park x.num .run).modCtx x.num (fun y => { y with pinAsk := [(true, code / sheet32M * sheet32M)] })
      else s.park x.num .run)

/-- KERNEL in context c. -/
def State.recKernel (s : State) (c : Nat) : State :=
  s.record c opKERNEL (fun _ => true) (fun s x m r =>
    let gx := x.op r 2 0
    let gy := x.op r 2 16
    let gz := x.op r 2 32
    if gx = 0 ∨ gy = 0 ∨ gz = 0 then s.goTo c (x.pc + 1)
    else
      let code := fld r 1 0 57
      match (if x.rt && x.pins.any Pin.stale then some ((s.park c .run).modCtx c (fun y => { y with repin := true })) else s.codePin x code) with
      | some t => t
      | none =>
        let (gs, wide) := s.kernelGroups x r
        let es := gs.flatMap enginesOf
        let targets := es.take (gx * gy * gz)
        let t := s.modCtx c (fun y => { y with want := targets })
        let t := if x.rt then t.withdraw targets else t
        if !targets.all (t.laneRoom x) then t.park c .waitLane
        else
          let (id, t) := t.newId
          let ags := onesOf (fld r 3 0 64) 64
          let wp := fld r 5 16 8
          let k : Kernel := {
            id := id, ctx := c, index := x.pc, pour := x.pour, flask := x.flask, rt := x.rt, phys := x.rt,
            serial := fld r 0 9 1 == 1, preload := fld r 0 8 1 == 1, noPre := if t.on .SEQ_CTL_PRELOAD_EN then [] else targets, code := code,
            grid := (gx, gy, gz), targets := targets, total := es.length,
            args := ags.map (fun g => nth x.gates g 0),
            vaArgs := ags.map (fun g => (t.descAt m g).type == gtVA),
            budget := fld r 4 0 32, deadline := fld r 4 32 16, grace := fld r 4 48 16, sram := fld r 5 0 9,
            wpLog2 := if wp = 0xFF then (if x.mgmt then Config.mgmtWaypoint.toNat else t.rd .SEQ_FLASK_WP_LOG2 x.flask)
              else wp,
            left := targets, lent := targets.filter (t.borrows x) }
          let t := { t with kernels := t.kernels ++ [k] }
          let t := targets.foldl (fun t e => t.setLane { t.lane e with queue := (t.lane e).queue ++ [id] }) t
          let t := t.ungate targets
          let t := if wide then t.wr .SEQ_ERR_RT_GROUPS 1 else t
          let t := t.modCtx c (fun y => { y with repin := false, passed := ags.foldl (fun l g => aset l g id) y.passed })
          t.goTo c (x.pc + 1))

/-! ## Control flow (R95 to R97) -/

/-- GUARD in context c. -/
def State.recGuard (s : State) (c : Nat) : State :=
  s.record c opGUARD (fun _ => true) (fun s x _ r =>
    if condHolds (fld r 0 8 3) (x.op r 0 16) (x.op r 0 32) then s.goTo c (x.pc + 1) else s.goTo c (fld r 0 48 16))

/-- JUMP in context c. -/
def State.recJump (s : State) (c : Nat) : State :=
  s.record c opJUMP (fun _ => true) (fun s _ _ r => s.goTo c (fld r 0 48 16))

/-- The index of iteration i is written to the IDX_GATE of the LOOP record l, if it has one. Its ENDLOOP does not fetch the
record again for it: the loop stack's entry holds what it needs (DESIGN CHOICE, log entry 138). -/
def State.loopIndex (s : State) (c : Nat) (l : List Byte) (i : Nat) : State :=
  if fld l 0 8 1 = 1 then s.gateWrite c (fld l 0 16 6) i else s

/-- LOOP in context c. -/
def State.recLoop (s : State) (c : Nat) : State :=
  s.record c opLOOP (fun _ => true) (fun s x _ r =>
    let n := x.op r 0 32
    if n = 0 then s.goTo c (fld r 0 48 16 + 1)
    else
      let f : LoopFrame := { index := x.pc, trip := n, iter := 0 }
      ((s.modCtx c (fun y => { y with loops := f :: y.loops })).loopIndex c r 0).goTo c (x.pc + 1))

/-- ENDLOOP in context c. -/
def State.recEndloop (s : State) (c : Nat) : State :=
  s.record c opENDLOOP (fun _ => true) (fun s x m _ =>
    match x.loops with
    | [] => s
    | f :: rest =>
      let l := s.recordOf m f.index
      if f.iter + 1 < f.trip then
        if fld l 0 8 1 = 1 && bit x.pending (fld l 0 16 6) then s.park c .waitGate
        else
          let t := s.modCtx c (fun y => { y with loops := { f with iter := f.iter + 1 } :: rest })
          (t.loopIndex c l (f.iter + 1)).goTo c (f.index + 1)
      else (s.modCtx c (fun y => { y with loops := rest })).goTo c (x.pc + 1))

/-- CALL in context c. -/
def State.recCall (s : State) (c : Nat) : State :=
  s.record c opCALL (fun _ => true) (fun s x _ r =>
    (s.modCtx c (fun y => { y with calls := (x.pc + 1) :: y.calls })).goTo c (fld r 0 48 16))

/-- RETURN in context c. -/
def State.recReturn (s : State) (c : Nat) : State :=
  s.record c opRETURN (fun _ => true) (fun s x _ _ =>
    match x.calls with
    | [] => s
    | a :: rest => (s.modCtx c (fun y => { y with calls := rest })).goTo c a)

/-! ## Timelines (R98, R142 to R144) -/

/-- The global timeline of a TIMELINE operand value. A pour of MGMT_RUN counts from timeline 0 (DESIGN CHOICE, log entry
137). -/
def State.globalTl (s : State) (x : Ctx) (i : Nat) : Nat := s.rd .FL_TFIRST x.flask + i

/-- The value of a WAIT or SIGNAL record. -/
def Ctx.tlValue (x : Ctx) (r : List Byte) : Nat := addMod 64 (x.op r 0 32) (leAt r 8 8)

/-- WAIT in context c. -/
def State.recWait (s : State) (c : Nat) : State :=
  s.record c opWAIT (fun _ => true) (fun s x _ r =>
    let i := s.globalTl x (x.op r 0 16)
    let v := x.tlValue r
    if v ≤ s.timeline i then s.goTo c (x.pc + 1)
    else s.modCtx c (fun y => { y with st := .waitTl, timeline := i, value := v, begun := false }))

/-- A SIGNAL or EVENT after a STAMP waits for the STAMP's acknowledgement (R20). -/
def Ctx.stampWait (x : Ctx) : Bool := x.depth == 0 && x.stamp != .none && x.stamp != .acked

/-- SIGNAL in context c, in a mode. -/
def State.recSignal (s : State) (c mode : Nat) : State :=
  s.record c opSIGNAL (fun r => fld r 0 8 3 == mode) (fun s x _ r =>
    if x.stampWait then s.park c .run
    else
      let i := x.op r 0 16
      let v := x.tlValue r
      if fld r 0 11 1 = 0 then (s.tlApply (s.globalTl x i) mode v).goTo c (x.pc + 1)
      else if x.asked then (if x.signals = 0 then s.goTo c (x.pc + 1) else s.park c .run)
      else
        let (id, t) := s.newId
        let r : Req := { t.reqOf x.seqr c 2 (x.op r 0 48) 0 0 (.sig mode x.flask i v) .signal with id := id }
        let t := { t with reqs := t.reqs ++ [r] }
        t.modCtx c (fun y => { y with st := .run, asked := true, signals := y.signals + 1 }))

/-! ## FENCE, BARRIER, END (R99, R106, R108, R313) -/

/-- The earlier work of x that a FENCE waits for has ended, and its stores are acknowledged. -/
def State.fenceReady (s : State) (x : Ctx) : Bool :=
  !s.workOut x && (s.spawnedOf x.num).isEmpty && !s.storesOut (s.rootOf x).pour

/-- FENCE in context c. -/
def State.recFence (s : State) (c : Nat) : State :=
  s.record c opFENCE (fun _ => true) (fun s x _ r =>
    if !s.fenceReady x then s.park c .waitWork
    else if fld r 0 8 2 = 1 then s.goTo c (x.pc + 1)
    else if !x.fencing then
      (s.say (.commitMarker c)).modCtx c (fun y =>
        { y with st := .waitWork, fencing := true, markAt := s.nextId, fence := Config.hbmControllers })
    else if x.fence.isEmpty then (s.modCtx c (fun y => { y with fencing := false })).goTo c (x.pc + 1)
    else s.park c .waitWork)

/-- BARRIER in context c. -/
def State.recBarrier (s : State) (c : Nat) : State :=
  s.record c opBARRIER (fun _ => true) (fun s x _ r =>
    if !(s.kernelsOf c).isEmpty || x.puts != 0 || s.movesOf c || (fld r 0 8 1 == 1 && !(s.spawnedOf c).isEmpty) then
      s.park c .waitWork
    else s.goTo c (x.pc + 1))

/-- END in context c. -/
def State.recEnd (s : State) (c : Nat) : State :=
  s.record c opEND (fun _ => true) (fun s x _ _ =>
    (s.count c 12 1).modCtx c (fun y => { y with pc := x.pc, walkDone := true, st := .waitWork, begun := false }))

/-! ## PUT (R100, R267) -/

/-- The payload of a PUT: its gates, or the first LEN bytes of its continuation records. -/
def State.putPayload (s : State) (x : Ctx) (m : Mould) (r : List Byte) : List Byte :=
  let n := fld r 0 16 8
  if fld r 0 8 1 = 1 then ((onesOf (fld r 2 0 64) 64).flatMap (fun g => leBytes 8 (x.gate g))).take n
  else ((List.range (fld r 0 9 2)).flatMap (fun i => s.recordOf m (x.pc + 1 + i))).take n

/-- The local part of a physical address, and its node. -/
def paLocal (pa : Nat) : Nat := pa % 2 ^ 44
def paNode (pa : Nat) : Nat := pa / 2 ^ 44

/-- The physical address that leaf l gives va. -/
def Leaf.at! (l : Leaf) (va : Nat) : Nat := l.pa + (va - l.va)

/-- A request of requester `who` for context c under leaf l. -/
def State.reqUnder (s : State) (who : Requester) (c : Nat) (l : Leaf) (va : Nat) (kind : ReqKind) (p : Purpose) : Req :=
  let pa := l.at! va
  { s.reqOf who c l.tier (paNode pa) (paLocal pa) va kind p with sheet := (l.va, l.size) }

/-- Parts of [va, va + n) by lines of `step` bytes: offset and length. -/
def pieces (step va n : Nat) : List (Nat × Nat) :=
  (List.range ((va + n - 1) / step - va / step + 1)).map (fun i =>
    let a := max va ((va / step + i) * step)
    let b := min (va + n) ((va / step + i + 1) * step)
    (a - va, b - a))

/-- The lines of a PUT that are not yet accepted are accepted as far as the sequencer has write entries for them (R258,
R267). -/
def State.putLines (s : State) (x : Ctx) (l : Leaf) (va : Nat) (data : List Byte) : State :=
  let (id, s) := if x.putAt = 0 then
      let (i, t) := s.newId; (i, t.modCtx x.num (fun y => { y with putId := i }))
    else (x.putId, s)
  let one (t : State) (p : Nat × Nat) : State :=
    if ((t.ctx? x.num).map Ctx.putAt) ≠ some p.1 then t
    else
      let r := { t.reqUnder x.seqr x.num l (va + p.1) (.write []) .put with put := id }
      let n := t.reqs.length
      match t.storeOut r (cellsAt r.addr (slice data p.1 p.2)) l.sealed l.pub with
      | none => t
      | some u => u.modCtx x.num (fun y =>
          { y with puts := y.puts + (u.reqs.length - n), putAt := if u.ending y then y.putAt else p.1 + p.2 })
  (if s.flaskSealed x.flask && !l.sealed && !l.pub then [(0, data.length)] else pieces 64 va data.length).foldl one s

/-- The segment that the continuation records of the PUT at x run on into, if they do. -/
def Ctx.nextSeg (x : Ctx) (r : List Byte) : Option Nat :=
  if fld r 0 8 1 = 0 ∧ (x.pc + fld r 0 9 2) / 64 ≠ x.pc / 64 then some (x.pc / 64 + 1) else none

/-- PUT in context c. The record's own segment alone counts as fetched and ages in the cache: whether its continuation records
in the next segment do, R126 does not say (DESIGN CHOICE, log entry 146). -/
def State.recPut (s : State) (c : Nat) : State :=
  s.record c opPUT (fun _ => true) (fun s x m r =>
    let dst := fld r 0 32 16
    let va := leAt r 8 8 % 2 ^ 57 + (if bit dst 15 then x.op r 0 32 else 0)
    match (x.nextSeg r).filter (fun g => !x.second && !s.cached m.idx m.gen g) with
    | some g => (s.demandFill m g c).modCtx c (fun y => { y with st := .waitFetch, second := true })
    | none =>
      let data := s.putPayload x m r
      let t := s.ask (.record c) x.seqr c va .write data.length
      match t.granted (.record c) va .write with
      | none => t.park c .run
      | some l =>
        if l.va + l.size < va + data.length then
          (t.forget (.record c)).faultNow x.seqr c va .write xfRANGE (leafLevel l.size)
        else
          let u := t.putLines x l va data
          match u.ctx? c with
          | some y => if u.ending y then u else if y.putAt = data.length then u.goTo c (x.pc + 1 + fld r 0 9 2) else u.park c .run
          | none => u)

/-! ## EVENT, STAMP (R103, R105) -/

/-- EVENT in context c. -/
def State.recEvent (s : State) (c : Nat) : State :=
  s.record c opEVENT (fun _ => true) (fun s x _ r =>
    if x.stampWait then s.park c .run
    else if fld r 0 8 1 = 1 then (s.raise x.pour.queue).goTo c (x.pc + 1)
    else (s.softRaise (fld r 0 16 14) x.flask).goTo c (x.pc + 1))

/-- STAMP in context c. -/
def State.recStamp (s : State) (c : Nat) : State :=
  s.record c opSTAMP (fun _ => true) (fun s x _ _ =>
    if x.depth ≠ 0 ∨ x.mgmt then s.goTo c (x.pc + 1)
    else
      let (id, t) := s.writeRecord x.seqr x.pour x.slot x.ticket 0 0 false
      (t.modCtx c (fun y => { y with stamp := .written id })).goTo c (x.pc + 1))

/-! ## PATCH (R104, R219) -/

/-- The gate g of context c takes the value v and the PATCH completes, once a new VA argument of a real-time pour has its
pinned entry (R219). -/
def State.patchDone (s : State) (c g v : Nat) : State :=
  match s.ctx? c with
  | none => s
  | some x =>
    let fin (t : State) : State := (t.gateWrite c g v).goTo c (x.pc + 1)
    match s.mould? x.mould x.mgen with
    | none => s
    | some m =>
      if x.rt && (s.vaArgs m).contains g then
        let w := clampGate (s.descAt m g) (s.tlCount x) (v % 2 ^ 64)
        if x.asked then (if x.pinAsk.isEmpty then fin s else s.park c .run)
        else s.modCtx c (fun y => { y with st := .run, asked := true, pinAsk := y.pinAsk ++ [(false, w)] })
      else fin s

/-- PATCH with FN SET, ADD, MIN or MAX in context c. -/
def State.recPatch (s : State) (c fn : Nat) : State :=
  s.record c opPATCH (fun r => fld r 0 8 3 == fn) (fun s x _ r =>
    let imm := leAt r 8 8
    let src := x.gate (fld r 0 24 6)
    let v := if fn = 0 then imm else if fn = 1 then addMod 64 src imm else if fn = 2 then min src imm else max src imm
    s.patchDone c (fld r 0 16 6) v)

/-- PATCH with FN TIMELINE in context c. -/
def State.recPatchTl (s : State) (c : Nat) : State :=
  s.record c opPATCH (fun r => fld r 0 8 3 == 5) (fun s x _ r =>
    s.patchDone c (fld r 0 16 6) (s.timeline (s.globalTl x (x.gate (fld r 0 24 6)))))

/-- PATCH with FN LOAD in context c: the load is translated and issued; its return writes the gate. R104 makes it one
naturally aligned read of 8 B, which it names beside the sizes that R256 lists. -/
def State.recPatchLoad (s : State) (c : Nat) : State :=
  s.record c opPATCH (fun r => fld r 0 8 3 == 4) (fun s x _ r =>
    if x.patch.isSome then s.park c .run
    else if x.loaded.isSome then s.patchDone c (fld r 0 16 6) (x.loaded.getD 0)
    else
      let va := addMod 64 (x.gate (fld r 0 24 6)) (leAt r 8 8)
      let t := s.ask (.record c) x.seqr c va .read 8
      match t.granted (.record c) va .read with
      | none => t.park c .run
      | some l =>
        match t.acceptTagged (t.reqUnder x.seqr c l va (.read 8) (.patch (fld r 0 16 6))) with
        | none => t.park c .run
        | some (id, u) => u.modCtx c (fun y => { y with st := .run, patch := some id }))

/-- PATCH loads that have returned (R104, R484). -/
def State.pumpPatch (s : State) : State :=
  (s.reqs.filter (fun r => match r.purpose with | .patch _ => r.fin.isSome | _ => false)).foldl (fun t r =>
    match r.purpose, r.fin, t.ctx? r.ctx with
    | .patch g, some (bs, slag), some x =>
      let t := t.dropReq r.id
      if x.patch ≠ some r.id then t
      else
        let t := t.modCtx x.num (fun y => { y with patch := none })
        if slag && r.tier == 0 then t.pourUe x r.addr
        else
          let t := if slag && !x.clamped && !x.mgmt then
              (t.raiseQueueErr x.pour.queue).modCtx x.num (fun y => { y with clamped := true })
            else t
          (t.modCtx x.num (fun y => { y with loaded := some (ofLe bs) })).patchDone x.num g (ofLe bs)
    | _, _, none => t.dropReq r.id
    | _, _, _ => t) s

/-! ## BULK_MOVE COPY (R107) -/

/-- The copy of n bytes from src to dst for context c is taken. -/
def State.startCopy (s : State) (c src dst n : Nat) : State :=
  if n = 0 then s
  else
    let (id, t) := s.newId
    { t with copies := t.copies ++ [{ id := id, ctx := c, src := src, dst := dst, left := n }] }

/-- BULK_MOVE with MODE COPY in context c. The record waits for the host access path's credit (R133): the path takes the copy
when it has a tag and a write entry for the sequencer (DEDUCED, log entry 30). -/
def State.recCopy (s : State) (c : Nat) : State :=
  s.record c opMOVE (fun r => fld r 0 8 2 == 0) (fun s x _ r =>
    if !(s.tagRoom x.seqr false && s.entryRoom x.seqr) then s.park c .run
    else (s.startCopy c (x.gate (fld r 0 16 6) + fld r 1 0 57) (x.gate (fld r 0 24 6) + fld r 2 0 57) (x.op r 0 32 * 4096)).goTo c
      (x.pc + 1))

/-- Copy j is replaced. -/
def State.setCopy (s : State) (j : Copy) : State := { s with copies := updAll s.copies (fun x => x.id == j.id) (fun _ => j) }

/-- The next piece of a copy: inside one aligned 256 B block of the source and one of the destination, so that it crosses no
sheet at either end (R107, R256). -/
def Copy.size (j : Copy) : Nat := min j.left (min (256 - j.src % 256) (256 - j.dst % 256))

/-- Copy j moves on: the next piece is translated and the block that holds it read, its bytes are written, and a copy with nothing left ends. -/
def State.stepCopy (s : State) (j : Copy) : State :=
  match s.ctx? j.ctx with
  | none => s
  | some x =>
    let who := x.seqr
    match j.data, j.read with
    | some d, _ =>
      let t := s.ask (.copy j.id) who j.ctx j.dst .write d.length
      match t.granted (.copy j.id) j.dst .write with
      | none => t
      | some l =>
        let r := t.reqUnder who j.ctx l j.dst (.write []) (.copy j.id)
        match t.storeOut r (cellsAt r.addr d) l.sealed l.pub with
        | none => t
        | some u =>
          match u.copies.find? (fun y => y.id == j.id) with
          | none => u
          | some k => (u.setCopy { k with data := none, src := k.src + d.length, dst := k.dst + d.length,
                                          left := k.left - d.length }).forget (.copy j.id)
    | none, some id =>
      match s.req? id with
      | some r => (match r.fin with
        | some (bs, _) => (s.dropReq id).setCopy { j with read := none, data := some (slice bs (j.src % 256) j.size) }
        | none => s)
      | none => s
    | none, none =>
      if j.left = 0 then
        if j.wrote.isEmpty && !s.cast.egress.any (fun e => e.purpose == .copy j.id) then
          { s with copies := s.copies.filter (fun y => y.id != j.id) } else s
      else
        let t := s.ask (.copy j.id) who j.ctx j.src .read j.size
        match t.granted (.copy j.id) j.src .read with
        | none => t
        | some l =>
          match t.acceptTagged (t.reqUnder who j.ctx l (j.src / 256 * 256) (.read 256) (.copy j.id)) with
          | none => t
          | some (id, u) => u.setCopy { j with read := some id }

/-- Every copy moves on as far as it can without another command: at most a read, its write and the next read. -/
def State.pumpCopies (s : State) : State :=
  let once (s : State) : State := s.copies.foldl (fun t j => match t.copies.find? (fun y => y.id == j.id) with
    | some k => t.stepCopy k | none => t) s
  once (once (once s))

/-! ## Spawns (R102, R145 to R150) -/

/-- The code with which a spawn by the pour of x is refused, and the state in which that is counted. -/
def State.spawnCheck (s : State) (x : Ctx) (w : SpawnWish) : Nat × State :=
  let now := s.handleGen w.idx
  if w.gen ≠ now then (1, s.stale .mould w.idx w.gen now)
  else match s.mould? w.idx w.gen with
    | none => (1, s)
    | some m =>
      if m.flask ≠ some x.flask ∨ m.banks ≤ w.bank then (1, s)
      else if 32 ≤ x.depth then (2, s)
      else if w.pass.any (fun p => (s.descAt m p.1).type == gtUNUSED) then (3, s)
      else if s.ending x || s.faulted.contains x.flask then (4, s)
      else (0, s)

/-- The context that a child of depth d takes (R147). -/
def State.spawnCtx (s : State) (d : Nat) : Option Nat :=
  let free (c : Nat) : Bool := (s.ctx? c).isNone
  match ((List.range 128).map (fun i => 256 + i)).find? free with
  | some c => some c
  | none => ((List.range 4).map (fun i => 384 + 4 * (d - 1) + i)).find? free

/-- The child of x that w asks for takes context k (R148, R219). -/
def State.startChild (s : State) (x : Ctx) (w : SpawnWish) (k : Nat) : State :=
  let r := s.rootOf x
  let y : Ctx := { num := k, st := .gates, pour := r.pour, slot := r.slot, ticket := r.ticket, pasid := r.pasid,
                   flask := r.flask, fgen := r.fgen, depth := x.depth + 1, parent := some x.num, root := r.num, rt := r.rt,
                   mould := w.idx, mgen := w.gen, bank := w.bank, pass := w.pass, admitted := s.time }
  let t := { s with ctxs := s.ctxs ++ [y] }
  match t.mould? w.idx w.gen with
  | some m => t.say (.bankRead k (m.gbase + w.bank * 0x200))
  | none => t

/-- The spawn of w by x is over, accepted or refused with a code. -/
def State.endWish (s : State) (x : Ctx) (w : SpawnWish) (code : Nat) : State :=
  match w.engine with
  | some e => (s.setLane { s.lane e with wish := none }).say (.spawnAnswer e code)
  | none => (s.modCtx x.num (fun y => { y with spawn := none })).goTo x.num (x.pc + 1)

/-- The spawn of w by x: refused, given a context, or left waiting for one; first says that it has not waited yet. -/
def State.trySpawn (s : State) (x : Ctx) (w : SpawnWish) (first : Bool) : State :=
  match s.spawnCheck x w with
  | (0, t) =>
    match t.spawnCtx (x.depth + 1) with
    | some k => (t.startChild x w k).endWish x w 0
    | none =>
      if !first then t
      else
        let t := t.bump .SEQ_SPAWN_WAITED
        match w.engine with
        | some e => t.setLane { t.lane e with wish := some w }
        | none => t.modCtx x.num (fun y => { y with spawn := some w, st := .waitSpawn })
  | (code, t) =>
    let t := t.refuseSpawn x w code
    if w.engine.isSome then t else t.goTo x.num (x.pc + 1)

/-- SPAWN in context c. -/
def State.recSpawn (s : State) (c : Nat) : State :=
  s.record c opSPAWN (fun _ => true) (fun s x _ r =>
    if x.spawn.isSome then s
    else
      let h := if fld r 0 8 1 = 1 then x.gate (fld r 0 16 6) else leAt r 8 8
      let w : SpawnWish := { idx := bits h 0 20, gen := bits h 20 12, bank := bits h 32 8,
                             pass := (onesOf (fld r 2 0 64) 64).map (fun g => (g, nth x.gates g 0)), engine := none }
      s.trySpawn x w true)

/-- A malformed spawn request (R149). -/
def spawnBad (b : List Byte) : Bool :=
  let n := fld b 0 40 3
  let gs := (List.range n).map (fun i => fld b 1 (8 * i) 6)
  n == 7 || fld b 0 43 21 != 0 || fld b 1 48 16 != 0 ||
  (List.range 6).any (fun i => fld b 1 (8 * i + 6) 2 != 0 || (decide (n ≤ i) && fld b 1 (8 * i) 8 != 0)) ||
  gs.eraseDups.length != gs.length

/-- SPAWN_REQUEST (R149): the kernel that engine e runs asks for a child. Whether a malformed request is refused before or
after the checks of R145 the spec does not say: it is refused first, and counts no stale handle (DESIGN CHOICE, log entry
147). -/
def State.spawnRequest (s : State) (e : Nat) (b : List Byte) : State :=
  match (s.lane e).running.bind s.kernel? with
  | none => s
  | some k =>
    match s.ctx? k.ctx with
    | none => s.stale .queue k.pour.queue k.pour.qgen (s.rd .QCTX_GEN k.pour.queue)
    | some x =>
      if x.pour ≠ k.pour then s.stale .queue k.pour.queue k.pour.qgen (s.rd .QCTX_GEN k.pour.queue)
      else if (s.lane e).wish.isSome then s
      else
        let w : SpawnWish := {
          idx := fld b 0 0 20, gen := fld b 0 20 12, bank := fld b 0 32 8,
          pass := (List.range (fld b 0 40 3)).map (fun i => (fld b 1 (8 * i) 6, BitVec.ofNat 64 (leAt b (16 + 8 * i) 8))),
          engine := some e }
        if spawnBad b then s.refuseSpawn x w 3 else s.trySpawn x w true

/-- The waiting spawn of w by x: when a context is free for it, the checks are made again (R147). -/
def State.spawnAgain (s : State) (x : Ctx) (w : SpawnWish) : State :=
  if (s.spawnCtx (x.depth + 1)).isSome then s.trySpawn x w false else s

/-- Children that wait for a context are given one when it is free (R147). -/
def State.pumpSpawns (s : State) : State :=
  let t := s.ctxs.foldl (fun t x => match t.ctx? x.num with
    | some y => (match y.spawn with | some w => t.spawnAgain y w | none => t)
    | none => t) s
  t.lanes.foldl (fun t l => match l.wish, (l.running.bind t.kernel?).bind (fun k => t.ctx? k.ctx) with
    | some w, some x => t.spawnAgain x w
    | _, _ => t) t

/-! ## Lanes (R138 to R141) -/

/-- The physical address of a virtual address under a context's pinned set; zero without an entry (R217, R218). -/
def Ctx.pinPa (x : Ctx) (va : Nat) : Nat := match x.pinFor va with | some p => p.leaf.at! va | none => 0

/-- The lane record that engine e fetches for kernel k (R138). -/
def State.laneBytes (s : State) (e : Nat) (k : Kernel) : List Byte :=
  let x := s.ctx? k.ctx
  let pa (va : Nat) : Nat := (x.map (fun x => x.pinPa va)).getD 0
  let code := if k.phys then pa k.code % 2 ^ 57 else k.code
  let rank := (k.targets.idxOf e)
  let args := (List.range 16).map (fun i => match k.args[i]?, k.vaArgs[i]? with
    | some v, some true => if k.phys then pa v.toNat else v.toNat
    | some v, _ => v.toNat
    | none, _ => 0)
  leBytes 8 k.pour.word ++ leBytes 8 (code + b2n k.phys * 2 ^ 57) ++
  leBytes 8 (k.grid.1 + k.grid.2.1 * 2 ^ 16 + k.grid.2.2 * 2 ^ 32) ++
  leBytes 8 (rank + k.total * 2 ^ 16 + k.index * 2 ^ 32 + b2n k.serial * 2 ^ 48 + b2n (k.preloads e) * 2 ^ 49 + b2n k.rt * 2 ^ 50 +
    b2n (k.lent.contains e) * 2 ^ 51 + k.ctx * 2 ^ 55) ++
  leBytes 8 (k.budget + k.wpLog2 * 2 ^ 32 + k.args.length * 2 ^ 40 + k.sram * 2 ^ 48) ++ zeros 24 ++
  args.flatMap (leBytes 8)

/-- LANE_FETCH (R138 to R140, R217): engine e fetches the record at the head of its lane, to run it or to stage it. -/
def State.laneFetch (s : State) (e : Nat) : State :=
  let l := s.lane e
  match l.queue.head?.bind s.kernel? with
  | none => s
  | some k =>
    if s.staleKernel k || s.laneHeld k then s
    else if l.running.isNone then
      if l.shadow.isSome || !s.released k then s
      else (((s.setLane { l with queue := l.queue.drop 1 }).say (.laneRecord e (s.laneBytes e k))).startOn e k.id).pump
    else if k.preloads e && l.shadow.isNone then
      ((s.setLane { l with queue := l.queue.drop 1, shadow := some k.id }).say (.laneRecord e (s.laneBytes e k))).pump
    else s

/-- Engine e's kernel is over: its lane goes on with the next. -/
def State.laneEnd (s : State) (e k : Nat) : State :=
  let t := s.setLane { s.lane e with running := none, stopReq := false, killReq := none, wish := none }
  let t := t.modKernel k (fun x => { x with left := x.left.filter (fun w => w != e) })
  ({ t.wr .LANE_WP_STALLED 0 e with groupUse := aset t.groupUse (e / 8) t.time }).dropFences.pump

/-- A flask fault: an engine exception of kernel k on engine e (R157). -/
def State.engineException (s : State) (e : Nat) (k : Kernel) : State :=
  let f := k.flask
  let t := if s.on .FL_CAUSE_EXCEPTION f then s
    else ((s.wr .FL_EXC_ENGINE e f).wr .FL_EXC_QUEUE k.pour.queue f).wr .FL_EXC_QGEN k.pour.qgen f
  let t := t.flaskCause f .FL_CAUSE_EXCEPTION
  let t := { t with faulted := if t.faulted.contains f then t.faulted else t.faulted ++ [f] }
  if t.on .FL_AUTO_RESET f then t.callFlask f else t

/-- The pour pourId carries an old queue generation (R11, R77). The pour of MGMT_RUN that context c holds, if it does, has no
queue. -/
def State.oldReport (s : State) (c : Option Nat) (pourId : Nat) : Bool :=
  !((c.bind s.ctx?).any (fun x => x.mgmt && x.pour.word == pourId)) && bits pourId 44 8 != s.rd .QCTX_GEN (pourId / 2 ^ 52)

/-- A report of the pour pourId is dropped for its queue generation, or because context c holds no pour (R11, R77, R141). -/
def State.staleReport (s : State) (c pourId : Nat) : Bool := (s.ctx? c).isNone || s.oldReport (some c) pourId

/-- The drop of a report of the pour pourId. -/
def State.dropReport (s : State) (pourId : Nat) : State :=
  s.stale .queue (pourId / 2 ^ 52) (bits pourId 44 8) (s.rd .QCTX_GEN (pourId / 2 ^ 52))

/-- KERNEL_END_REPORT (R141, R156, R157, R163). During a BLOCK reset it says that the engine has halted. -/
def State.kernelEnd (s : State) (e c rec_ pourId : Nat) (status : EndStatus) : State :=
  if s.inReset then { s with lanes := s.lanes.filter (fun l => l.eng != e) }
  else if s.staleReport c pourId then s.dropReport pourId
  else match (s.lane e).running.bind s.kernel?, s.ctx? c with
    | some k, some x =>
      if k.ctx ≠ c ∨ k.index ≠ rec_ ∨ k.pour.word ≠ pourId then s
      else
        let t := s.laneEnd e k.id
        if s.flaskResetting k.flask && !x.mgmt then t
        else match status with
          | .ok | .stopped | .killed | .xlate => t
          | .crcFail => if x.mgmt then t.mgmtFault x else t.endPour c 4 0
          | .exception => if x.mgmt then t.mgmtFault x else t.engineException e k
    | _, _ => s

/-! ## Waypoints (R161 to R163) -/

/-- WAYPOINT_ADVANCE: engine e reports its counter for the pour pourId (R77, R161). -/
def State.wpAdvance (s : State) (e pourId value : Nat) : State :=
  let k := (s.lane e).running.bind s.kernel?
  if s.inReset then s
  else if s.oldReport (k.map Kernel.ctx) pourId then s.dropReport pourId
  else if (k.map (fun k => k.pour.word)) ≠ some pourId then s
  else
    let t := ((s.wr .LANE_WP_VALUE value e).wr .LANE_WP_STALLED 0 e).wr .LANE_WP_MOVED_AT (bits (s.clock .fabric) 20 24) e
    t.setLane { t.lane e with moved := t.time }

/-- WAYPOINT_STALL: a whole window has passed on engine e without an advance. -/
def State.wpStall (s : State) (e : Nat) : State :=
  let l := s.lane e
  match l.running.bind s.kernel? with
  | none => s
  | some k =>
    let mgmt := (s.ctx? k.ctx).any Ctx.mgmt
    if s.on .LANE_WP_STALLED e || (!mgmt && s.flaskResetting k.flask) then s
    else
      let t := ((s.elapse (l.moved + 2 ^ k.wpLog2 * 1000)).wr .LANE_WP_STALLED 1 e).raise (0x2000 + e)
      match t.ctx? k.ctx with
      | some x =>
        if x.mgmt then t.mgmtFault x
        else if t.on .FL_AUTO_RESET k.flask then
          (t.flaskCause k.flask .FL_CAUSE_STALL_RESET).callFlask k.flask
        else t
      | none => t

/-! ## Borrowing, deadlines, kills (R153, R158 to R160) -/

/-- A real-time record for engine e's group has arrived and is not started: it waits to be written, or stands in a lane of
the group (R153). -/
def State.rtWanted (s : State) (e : Nat) : Bool :=
  s.rtWaits e || (enginesOf (e / 8)).any (fun w =>
    ((s.lane w).queue ++ (s.lane w).shadow.toList).any (fun k => (s.kernel? k).any Kernel.rt))

/-- BORROW_OVERRUN (R153). -/
def State.borrowOverrun (s : State) (e : Nat) : State :=
  let l := s.lane e
  match l.running.bind s.kernel? with
  | none => s
  | some k =>
    if !(k.lent.contains e && s.rtWanted e) || k.overrun then s
    else
      let t := (s.elapse (l.since + k.budget * 1000)).wr .SEQ_ERR_LEND_OVERRUN 1
      let t := t.modKernel k.id (fun x => { x with overrun := true })
      (t.endPour k.ctx 2 (k.index % 256)).pump

/-- Every engine that still runs a kernel of the tree of r is killed (R160). -/
def State.killTree (s : State) (r : Nat) : State :=
  let cs := (s.tree r).map Ctx.num
  s.lanes.foldl (fun t l => match l.running.bind t.kernel? with
    | some k => if cs.contains k.ctx then t.say (.kill l.eng) else t
    | none => t) s

/-- DEADLINE_MISS (R158 to R160): the deadline of kernel record rec_ of context c has passed. -/
def State.deadlineMiss (s : State) (c rec_ : Nat) : State :=
  match s.ctx? c, s.kernels.find? (fun k => k.ctx == c && k.index == rec_ && k.rt && k.started.isSome && !k.left.isEmpty) with
  | some x, some k =>
    let due := (k.started.getD 0) + (if k.deadline = 0 then k.budget else k.deadline) * 1000
    let t := s.elapse due
    let r := t.rootOf x
    let d := k.index % 256
    match r.cause with
    | some z =>
      if z.kind = .deadline ∧ r.stamp = .none ∧ k.index < z.record then
        t.modCtx r.num (fun y => { y with cause := some { z with detail := d, record := k.index } })
      else if z.kind = .drain then
        let t := t.endTree r.num { kind := .deadline, status := 2, detail := d, record := k.index }
        let t := t.modCtx r.num (fun y => { y with grace := some (t.time + k.grace * 1000) })
        if k.grace = 0 then (t.modCtx r.num (fun y => { y with grace := none })).killTree r.num else t
      else t
    | none =>
      let t := t.endTree r.num { kind := .deadline, status := 2, detail := d, record := k.index }
      if (t.rootOf x).cause.isNone then t
      else if k.grace = 0 then t.killTree r.num
      else t.modCtx r.num (fun y => { y with grace := some (t.time + k.grace * 1000) })
  | _, _ => s

/-- GRACE_EXPIRY (R160). -/
def State.graceExpiry (s : State) (c : Nat) : State :=
  match s.ctx? c with
  | none => s
  | some x => match x.grace with
    | none => s
    | some g => ((s.elapse g).modCtx c (fun y => { y with grace := none })).killTree c

/-- STOP_TIMEOUT_KILL (R402): engine e has not stopped 20 µs after it was asked to by a reset. -/
def State.stopTimeout (s : State) (e : Nat) : State :=
  match (s.lane e).killReq with
  | none => s
  | some g =>
    let t := ((s.elapse g).setLane { s.lane e with killReq := none }).say (.kill e)
    match (t.lane e).running.bind t.kernel? with
    | some k => if t.flaskResetting k.flask then t.bump .FL_TEAR_KILLED k.flask else t
    | none => t

/-- An engine is killed, and its kernel treated as one that reported an EXCEPTION (R226, R163), which has no effect in a reset
of its flask (R404). -/
def State.killException (s : State) (e : Nat) : State :=
  match (s.lane e).running.bind s.kernel? with
  | none => s.say (.kill e)
  | some k =>
    let t := (s.say (.kill e)).laneEnd e k.id
    match t.ctx? k.ctx with
    | some x => if x.mgmt then t.mgmtFault x else if t.flaskResetting k.flask then t else t.engineException e k
    | none => t

/-- PURGE_TIMEOUT (R226): engine e has not acknowledged invalidation i within 100 µs. -/
def State.purgeTimeout (s : State) (e i : Nat) : State :=
  match s.xl.invs.find? (fun v => v.id == i && v.started && v.acks.contains e) with
  | none => s
  | some _ => ((s.wr .XL_ERR_PURGE_TIMEOUT 1).purgeAck e i).killException e

/-- INV_OVERRUN (R224): PHYS kernel k still runs BUDGET µs after its start while an invalidation waits for it. -/
def State.invOverrun (s : State) (k : Nat) : State :=
  match s.kernel? k, s.xl.invs.any (fun v => v.started && v.kernels.contains k) with
  | some x, true =>
    let t := (s.elapse ((x.started.getD 0) + x.budget * 1000)).wr .XL_ERR_INV_OVERRUN 1
    let es := x.left.filter (fun e => (t.lane e).running == some k)
    let t := es.foldl (fun t e => t.say (.kill e)) t
    t.endPour x.ctx 3 xfINV_OVERRUN
  | _, _ => s

/-! ## The wait-for check (R164, R165) -/

/-- The walk of x, at END, BARRIER or FENCE, waits for nothing but its spawned pours: at END for no acknowledgement of its
STAMP or signals, at FENCE for none of its stores. -/
def State.onlyKids (s : State) (x : Ctx) : Bool :=
  if x.walkDone then x.signals == 0 && (x.depth != 0 || x.stamp == .acked)
  else match s.mould? x.mould x.mgen with
    | some m => opOf (s.recordOf m x.pc) != opFENCE || !s.storesOut (s.rootOf x).pour
    | none => false

/-- The pour of x waits only on timelines, or for spawned pours that do. -/
def State.parked (s : State) (x : Ctx) : Bool :=
  x.st == .waitTl ||
  (x.st == .waitWork && s.onlyKids x && !(s.spawnedOf x.num).isEmpty && (s.spawnedOf x.num).all (fun y => y.st == .waitTl))

/-- Flask f is wholly waiting. -/
def State.whollyWaiting (s : State) (f : Nat) : Bool :=
  let mine := s.ctxs.filter (fun x => x.flask == f && !x.mgmt)
  !mine.isEmpty && mine.all s.parked && mine.all (fun x => !s.workOut x)

/-- The flasks that are wholly waiting, with the time since when. -/
def State.markWaiting (s : State) : State :=
  let fs := (s.ctxs.map Ctx.flask).eraseDups.filter s.whollyWaiting
  { s with waiting := fs.map (fun f => (f, aget s.waiting f s.time)) }

/-- Indices of the records from i to the next END or RETURN of a record list. -/
def runFrom (recs : List (Nat × List Byte)) (i : Nat) : List Nat :=
  let l := recs.filter (fun p => decide (i ≤ p.1))
  (l.takeWhile (fun p => opOf p.2 != opEND && opOf p.2 != opRETURN)).map Prod.fst

/-- The records still before a walk: those from its next record on, its open loop bodies, the places it will return to,
and the subroutines these call. -/
def State.ahead (s : State) (x : Ctx) (m : Mould) : List (Nat × List Byte) :=
  let recs := imList (s.dieRead m.addr m.len) m.records 0 0
  let loopBodies := x.loops.flatMap (fun f =>
    let stop := (recs.find? (fun p => p.1 == f.index)).map (fun p => fld p.2 0 48 16)
    (recs.filter (fun p => decide (f.index ≤ p.1) && decide (p.1 ≤ stop.getD 0))).map Prod.fst)
  let start := runFrom recs x.pc ++ loopBodies ++ x.calls.flatMap (runFrom recs)
  let rec grow : Nat → List Nat → List Nat
    | 0, l => l
    | n + 1, l =>
      let subs := (recs.filter (fun p => l.contains p.1 && opOf p.2 == opCALL)).flatMap (fun p => runFrom recs (fld p.2 0 48 16))
      let new := subs.filter (fun i => !l.contains i)
      if new.isEmpty then l else grow n (l ++ new.eraseDups)
  let all := grow 9 start
  recs.filter (fun p => all.contains p.1)

/-- The pour of y has a local SIGNAL of timeline t before it. -/
def State.maySignal (s : State) (y : Ctx) (t : Nat) : Bool :=
  match s.mould? y.mould y.mgen with
  | none => false
  | some m => (s.ahead y m).any (fun p => opOf p.2 == opSIGNAL && fld p.2 0 11 1 == 0 &&
      s.globalTl y (opVal y.gates (fld p.2 0 16 16)) == t)

/-- The wait-for edges of flask f between root queues. -/
def State.waitEdges (s : State) (f : Nat) : List (Nat × Nat) :=
  let mine := s.ctxs.filter (fun x => x.flask == f && !x.mgmt)
  (mine.filter (fun x => x.st == .waitTl)).flatMap (fun x =>
    (mine.filter (fun y => y.num != x.num && s.maySignal y x.timeline)).map (fun y => (x.pour.queue, y.pour.queue)))

/-- The queues reached from q by one edge or more. -/
def reachQ (es : List (Nat × Nat)) (q : Nat) : List Nat :=
  let next (l : List Nat) : List Nat := (es.filter (fun e => l.contains e.1)).map Prod.snd
  let rec go : Nat → List Nat → List Nat
    | 0, l => l
    | n + 1, l => let m := (next l).filter (fun x => !l.contains x); if m.isEmpty then l else go n (l ++ m.eraseDups)
  go es.length (next [q]).eraseDups

/-- Insertion into an ascending list. -/
def insertNat (n : Nat) : List Nat → List Nat
  | [] => [n]
  | m :: t => if n ≤ m then n :: m :: t else m :: insertNat n t

/-- The queues of the cycle that holds the lowest queue on any cycle, in ascending order; none without a cycle. -/
def cycleOf (es : List (Nat × Nat)) : List Nat :=
  let qs := ((es.map Prod.fst).eraseDups.foldl (fun l q => insertNat q l) [])
  match qs.find? (fun q => (reachQ es q).contains q) with
  | none => []
  | some q0 => qs.filter (fun q => (reachQ es q0).contains q && (reachQ es q).contains q0)

/-- DEADLOCK_CHECK (R164, R165): flask f has been wholly waiting for its window. A set is compared with the last one reported
alone, so that a set comes again after another one (DESIGN CHOICE between the two sentences of R165, log entry 148). -/
def State.deadlockCheck (s : State) (f : Nat) : State :=
  match s.waiting.find? (fun p => p.1 == f) with
  | none => s
  | some p =>
    if !(s.on .SEQ_CTL_DL_CHECK_EN && s.whollyWaiting f) then s
    else
      let t := s.elapse (p.2 + 2 ^ s.rd .SEQ_FLASK_WP_LOG2 f * 1000)
      let qs := cycleOf (t.waitEdges f)
      if qs.isEmpty || t.cycles.any (fun c => c.1 == f && c.2 == qs) then t
      else
        let t := { t with cycles := (f, qs) :: t.cycles.filter (fun c => c.1 != f) }
        let t := ((t.wr .SEQ_DEADLOCK_COUNT (min qs.length 255) f).wr .SEQ_DEADLOCK_Q0 (nth qs 0 0) f).wr .SEQ_DEADLOCK_Q1
          (nth qs 1 0) f
        let t := ((t.wr .SEQ_DEADLOCK_Q2 (nth qs 2 0) f).wr .SEQ_DEADLOCK_Q3 (nth qs 3 0) f).wr .SEQ_ERR_DEADLOCK 1
        t.flaskCause f .FL_CAUSE_DEADLOCK

end Sys2Proof.Machine
end

