-- ==== Sys2Proof/Machine/Cast.lean ====
section
/-! DEFINITION. The caster unit (10): cast jobs, their items, outputs, sealed chunks, status, and key revocation. -/
namespace Sys2Proof.Machine

/-! ## Reading -/

/-- The numbers that stand for a job's own reads, its outputs and its status among its items. -/
def jkSelf : Nat := 2 ^ 32
def jkOut : Nat := 2 ^ 32 + 1
def jkStatus : Nat := 2 ^ 32 + 2

/-- The naturally aligned reads, of at most 256 B, that cover [a, a + n). -/
def cover (a n : Nat) : List (Nat × Nat) :=
  if n = 0 then []
  else (pieces 256 a n).map (fun p =>
    let x := a + p.1
    let y := x + p.2 - 1
    let z := if x / 32 = y / 32 then 32 else if x / 64 = y / 64 then 64 else if x / 128 = y / 128 then 128 else 256
    (x / z * z, z))

/-- The byte at address a among what has been read. -/
def gotByte (g : Got) (a : Nat) : Byte :=
  match g.find? (fun p => decide (p.1 ≤ a ∧ a < p.1 + p.2.1.length)) with
  | some p => nth p.2.1 (a - p.1) 0
  | none => 0

/-- The n bytes at address a among what has been read. -/
def gotBytes (g : Got) (a n : Nat) : List Byte := (List.range n).map (fun i => gotByte g (a + i))

/-- Something read is marked slag. -/
def gotSlag (g : Got) : Bool := g.any (fun p => p.2.2)

/-! ## Jobs -/

/-- Job j. -/
def State.job? (s : State) (j : Nat) : Option Job := s.cast.jobs.find? (fun x => x.id == j)

/-- Job j takes the place of the one with its number. -/
def State.setJob (s : State) (j : Job) : State :=
  { s with cast := { s.cast with jobs := updAll s.cast.jobs (fun x => x.id == j.id) (fun _ => j) } }

/-- Job j is changed by f. -/
def State.modJob (s : State) (j : Nat) (f : Job → Job) : State :=
  { s with cast := { s.cast with jobs := updAll s.cast.jobs (fun x => x.id == j) f } }

/-- Job j is over. -/
def State.dropJob (s : State) (j : Nat) : State :=
  { s with cast := { s.cast with jobs := s.cast.jobs.filter (fun x => x.id != j) } }

/-- The descriptor of a job, once read. -/
def Job.d (j : Job) : List Byte := j.desc.getD []

/-- BULK_MOVE with MODE CAST in context c (R107, R287). -/
def State.recCast (s : State) (c : Nat) : State :=
  s.record c opMOVE (fun r => fld r 0 8 2 == 1) (fun s x _ r =>
    if 64 ≤ s.cast.jobs.length then s.park c .run
    else
      let (id, s) := s.newId
      let a := addMod 64 (x.gate (fld r 0 16 6)) (fld r 1 0 57)
      let j : Job := { id := id, ctx := c, pour := (s.rootOf x).pour, flask := x.flask, at_ := a,
                       reads := cover a 192 }
      ({ s with cast := { s.cast with jobs := s.cast.jobs ++ [j] } }).goTo c (x.pc + 1))

/-- The root queue's error source is raised for a cast job, once per pour (R286). -/
def State.castRaise (s : State) (j : Job) : State :=
  if s.cast.raised.contains j.pour then s
  else { s.raiseQueueErr j.pour.queue with cast := { s.cast with raised := j.pour :: s.cast.raised } }

/-! ## Tiles and regions of an item (R276, R277, R283, R288) -/

/-- The index at which tile n lies: dense, or compact in a BLOCKS tile set. -/
def Job.place (j : Job) (n : Nat) : Nat := if cdSparse j.d = 2 then j.present.idxOf n else n

/-- Address and length of row i of item n's region of the host matrix, and of its scales. -/
def Job.rowAt (j : Job) (n i : Nat) : Nat × Nat :=
  let d := j.d
  let c0 := n % cdTC d * cdLE d
  (cdHostVa d + (n / cdTC d * 32 + i) * cdPitch d + hostBytes (cdHost d) c0, hostBytes (cdHost d) (tileCols d n))
def Job.scalesAt (j : Job) (n i : Nat) : Nat × Nat :=
  let d := j.d
  (cdScaleVa d + (n / cdTC d * 32 + i) * cdScalePitch d + n % cdTC d * cdLE d / 32,
    if fmMx (cdHost d) then tileCols d n / 32 else 0)

/-- The rows of item n that lie in the matrix. -/
def Job.rowsOf (j : Job) (n : Nat) : List Nat := List.range (tileRows j.d n)

/-- Data, header and side area of the tile at place m: addresses. -/
def Job.tileAt (j : Job) (m : Nat) : Nat × Nat × Nat :=
  (cdDataVa j.d + m * 4096, cdHdrVa j.d + m * 64, cdSideVa j.d + m * cdSide j.d)

/-- Tile n of an egress job is to be read: it is present, and its place is known. -/
def Job.readsTile (j : Job) (n : Nat) : Bool :=
  (cdSparse j.d != 2 || j.present.contains n) && !(j.maskBad.any (fun b => decide (b ≤ n)))

/-- The source reads of item n. -/
def Job.itemReads (j : Job) (n : Nat) : List (Nat × Nat) :=
  let d := j.d
  if cdEgress d then
    if !j.readsTile n then []
    else
      let (a, h, e) := j.tileAt (j.place n)
      cover a 4096 ++ cover h 64 ++ cover e (cdSide d)
  else (j.rowsOf n).flatMap (fun i =>
    cover (j.rowAt n i).1 (j.rowAt n i).2 ++ cover (j.scalesAt n i).1 (j.scalesAt n i).2)

/-! ## Sealed chunks (R301, R302) -/

/-- The bytes of the sealed run that item n's region holds, as offset and length of each row. -/
def Job.runOf (j : Job) (n : Nat) : List (Nat × Nat) :=
  (j.rowsOf n).map (fun i => ((j.rowAt n i).1 - cdHostVa j.d, (j.rowAt n i).2))

/-- First byte and length of chunk i in the run. -/
def Job.chunkAt (j : Job) (i : Nat) : Nat × Nat := (i * cdChunk j.d, min (cdChunk j.d) (cdRun j.d - i * cdChunk j.d))

/-- Item n's region holds bytes of chunk i. -/
def Job.inChunk (j : Job) (n i : Nat) : Bool :=
  let (a, z) := j.chunkAt i
  (j.runOf n).any (fun p => overlaps p.1 p.2 a z)

/-- The items of the row bands that chunk i touches are completed. -/
def Job.chunkReady (j : Job) (i : Nat) : Bool :=
  let (a, z) := j.chunkAt i
  let lo := a / cdPitch j.d / 32 * cdTC j.d
  let hi := min j.total (((a + z - 1) / cdPitch j.d / 32 + 1) * cdTC j.d)
  (List.range (hi - lo)).all (fun k => j.done.contains (lo + k))

/-- IV and additional data of sealed ingress chunk i. -/
def Job.chunkIv (j : Job) (i : Nat) : List Byte := beBytes 12 (cdIvHi j.d * 2 ^ 32 + cdIvLo j.d + i)
def Job.chunkAad (j : Job) (i : Nat) : List Byte := leBytes 4 (cdAad j.d) ++ zeros 4 ++ leBytes 8 i

/-- The bytes ct at offset off of the run, decrypted chunk by chunk (R301). -/
def Job.decrypt (j : Job) (key : List Byte) (off : Nat) (ct : List Byte) : List Byte :=
  let w := aesExpand key
  if ct.isEmpty then []
  else (pieces (cdChunk j.d) off ct.length).flatMap (fun p =>
    let a := off + p.1
    let i := a / cdChunk j.d
    let o := a % cdChunk j.d
    (gctr w (j.chunkIv i) (2 + o / 16) (zeros (o % 16) ++ slice ct p.1 p.2)).drop (o % 16))

/-! ## Outputs -/

/-- The number that chunk i's ciphertext and tag carry among a job's outputs, and that of what no item's count waits for. -/
def chunkPart (i : Nat) : Nat := 2 ^ 33 + i
def noPart : Nat := 2 ^ 32

/-- The job writes bs at va through caster c, as a part of `part`. -/
def Job.emit (j : Job) (c : Nat) (tile : Bool) (va : Nat) (bs : List Byte) (part : Nat := noPart) : Job :=
  if bs.isEmpty then j
  else
    let os : List Output := (pieces 256 va bs.length).map (fun p =>
      { caster := c, tile := tile, va := va + p.1, data := slice bs p.1 p.2, part := part })
    { j with out := j.out ++ os }

/-- Tile or region n is formed: it is counted once it is written (R286). One that is formed again is not another tile. -/
def Job.form (j : Job) (n : Nat) (tile slag : Bool) : Job :=
  if j.formed.any (fun x => x.n == n) then
    { j with formed := updAll j.formed (fun x => x.n == n) (fun x => { x with slag := x.slag || slag }) }
  else { j with formed := j.formed ++ [{ n := n, tile := tile, slag := slag }] }

/-- Tile n is written at place m, as slag or not. -/
def Job.emitTile (j : Job) (c n m : Nat) (slag : Bool) (data side : List Byte) : Job :=
  let (x, h, y) := tileParts j.d n slag data side
  let (a, b, e) := j.tileAt m
  ((j.emit c true a x n).emit c true b h n).emit c true e y n

/-- Every write of formed item f is handed over; a region of sealed egress is written by the chunks that hold it. -/
def Job.isWritten (j : Job) (f : Formed) : Bool :=
  !j.out.any (fun o => o.part == f.n) &&
  (!(cdSealed j.d && cdEgress j.d) || j.code.isSome ||
    ((List.range j.chunks).filter (j.inChunk f.n)).all (fun i =>
      decide (i < j.chunk) && !j.out.any (fun o => o.part == chunkPart i)))

/-- The items of job i that are written now count in TILES, and those written as slag in SLAGGED, each once (R286). -/
def State.countWritten (s : State) (i : Nat) : State :=
  match s.job? i with
  | none => s
  | some j =>
    let now := j.formed.filter j.isWritten
    let bad := (now.filter (fun f => f.slag && !j.slagged.contains f.n)).map Formed.n
    let t := s.setJob { j with formed := j.formed.filter (fun f => !now.contains f),
                               tiles := j.tiles + (now.filter Formed.tile).length, slagged := bad ++ j.slagged }
    bad.foldl (fun t _ => (t.bump .CAST_STATS_SLAGGED).bump .POISON_WR) t

/-- The values of item n's region, as an ingress job reads them; positions outside the matrix hold +0. -/
def Job.regionIn (j : Job) (key : List Byte) (it : Item) : List (List Fp) :=
  let d := j.d
  let h := cdHost d
  let zero : Fp := .fin false 0 1
  (List.range 32).map (fun i =>
    let row := if i < tileRows d it.n then
        let (a, z) := j.rowAt it.n i
        let raw := gotBytes it.got a z
        let bs := if cdSealed d then j.decrypt key (a - cdHostVa d) raw else raw
        let (sa, sz) := j.scalesAt it.n i
        let sc := gotBytes it.got sa sz
        (List.range (tileCols d it.n)).map (fun k =>
          let x := elemValue h (elemAt h bs k)
          cdIn d h (cdTile d) (if fmMx h then scaled2 x (scaleValue (leAt sc (k / 32) 1)) else x))
      else []
    row ++ List.replicate (cdLE d - row.length) zero)

/-- The bytes of host row i of item n's region, with its scales, and what it adds to SATURATED. -/
def Job.rowOut (j : Job) (n i : Nat) (vs : List Fp) : List Byte × List Byte × Nat :=
  let d := j.d
  let h := cdHost d
  let k := tileCols d n
  let xs := (List.range k).zip ((vs.take k).map (cdIn d (cdTile d) h))
  let (es, sc, sat) := encodeRow d h n i (cdLE d) xs
  (packElems h es (hostBytes h k), packElems 5 sc sc.length, sat)

/-- The region of item n is written with the given rows, plain or into the run that is to be encrypted. -/
def Job.emitRegion (j : Job) (c n : Nat) (rows : List (List Byte × List Byte)) : Job :=
  ((List.range rows.length).zip rows).foldl (fun j p =>
    let a := (j.rowAt n p.1).1
    let j := if cdSealed j.d then { j with plain := j.plain ++ [(a - cdHostVa j.d, p.2.1)] } else j.emit c false a p.2.1 n
    j.emit c false (j.scalesAt n p.1).1 p.2.2 n) j

/-- The rows of item n's region as slag. -/
def Job.slagRows (j : Job) (n : Nat) : List (List Byte × List Byte) :=
  (j.rowsOf n).map (fun i => (slagBytes (j.rowAt n i).2, slagBytes (j.scalesAt n i).2))

/-! ## Items (R287, R295) -/

/-- Caster c takes items: it is enabled and in service, and works on fewer than two. -/
def State.casterFree (s : State) (c : Nat) : Bool :=
  decide (c < 32) && bit (s.rd .CAST_CTL_CASTER_EN) c && !bit (s.rd .CAST_STATUS_OUT_OF_SERVICE) c &&
  decide ((s.cast.jobs.map (fun j => (j.items.filter (fun i => i.caster == c && !i.held)).length)).sum < 2)

/-- The job still waits for its block mask. -/
def Job.lacksMask (j : Job) : Bool := cdSparse j.d == 2 && cdEgress j.d && j.mask.isNone

/-- A job has an item to give. -/
def Job.offers (j : Job) : Bool :=
  j.code.isNone && j.desc.isSome && !j.lacksMask && (decide (j.next < j.total) || !j.back.isEmpty) &&
  decide ((((j.items.filter (fun i => !i.held)).map Item.caster).eraseDups).length < cdMax j.d)

/-- CASTER_ITEM_TAKE (R287). -/
def State.itemTake (s : State) (c : Nat) : State :=
  if !(s.ready && s.casterFree c) then s
  else match s.cast.jobs.find? Job.offers with
    | none => s
    | some j =>
      let n := (lowest j.total j.back.contains).getD j.next
      let j := if j.back.isEmpty then { j with next := j.next + 1 } else { j with back := j.back.filter (fun x => x != n) }
      s.setJob { j with items := j.items ++ [{ n := n, caster := c, reads := j.itemReads n }] }

/-- Every source read of the item has returned. -/
def Item.ready (i : Item) : Bool := i.reads.isEmpty && i.out == 0

/-- The key of a sealed job, whose slot must hold a DATA key of its flask (R300, R390). -/
def State.jobKey (s : State) (j : Job) : Option KeyMat :=
  if s.rd .KEY_SLOT_USE (cdKey j.d) = 1 then s.keyFor (cdKey j.d) j.flask else none

/-- Item it of job j is completed: its outputs are formed (R288, R294, R296, R299). -/
def State.itemOut (s : State) (j : Job) (it : Item) : State :=
  let d := j.d
  let n := it.n
  let c := it.caster
  let j := { j with items := j.items.filter (fun x => x.n != n), done := n :: j.done }
  let s := (s.adv .CAST_STATS_ITEMS).count j.ctx 10 (((j.rowsOf n).map (fun i => (j.rowAt n i).2)).sum)
  let slag := gotSlag it.got || j.maskBad.any (fun b => decide (b ≤ n))
  if cdEgress d then
    let (a, h, e) := j.tileAt (j.place n)
    let data := gotBytes it.got a 4096
    let side := gotBytes it.got e (cdSide d)
    if slag then s.setJob ((j.form n false true).emitRegion c n (j.slagRows n))
    else if j.readsTile n && !tileGood d data (gotBytes it.got h 64) side then
      (s.wr .CAST_ERR_EGRESS_CRC 1).setJob ((({ j with crc := j.crc + 1 }).form n false true).emitRegion c n (j.slagRows n))
    else
      let vals := if j.readsTile n then tileValues d data side else []
      let rows : List (List Byte × List Byte × Nat) := (j.rowsOf n).map (fun i => j.rowOut n i (nth vals i (List.replicate (cdLE d) (.fin false 0 1))))
      let sat := (rows.map (fun (r : List Byte × List Byte × Nat) => r.2.2)).sum
      let out := rows.map (fun (r : List Byte × List Byte × Nat) => (r.1, r.2.1))
      s.setJob (({ j with sat := j.sat + sat }).emitRegion c n out)
  else
    let j := if cdSealed d then { j with ciph := j.ciph ++ it.got } else j
    let vals := if slag then [] else j.regionIn (((s.jobKey j).map KeyMat.key).getD []) it
    if !slag && cdSparse d == 2 && vals.all (fun r => r.all Fp.isZero) then s.setJob j
    else
      let m := if cdSparse d = 2 then j.present.length else n
      let j := { j with present := if cdSparse d = 2 then j.present ++ [n] else j.present }
      if slag then s.setJob ((j.form n true true).emitTile c n m true [] [])
      else
        let t := makeTile d n vals
        if t.broken then (s.wr .CAST_ERR_SPARSITY 1).setJob ((j.form n true true).emitTile c n m true [] [])
        else s.setJob ((({ j with sat := j.sat + t.sat, pruned := j.pruned + t.pruned }).form n true false).emitTile c n m
          false t.data t.side)

/-- Caster c is out of service: the reads and translations of its items are nobody's. -/
def State.dropCasterReads (s : State) (c : Nat) : State :=
  let item (p : Purpose) : Bool := match p with | .cast _ k => decide (k < jkSelf) | _ => false
  let mine (r : Req) : Bool := r.who == .caster c && item r.purpose && !r.isWrite
  let asked (a : Ask) : Bool := a.who == .caster c && (match a.owner with | .cast _ k => decide (k < jkSelf) | _ => false)
  { s with reqs := (s.reqs.filter (fun r => !(mine r && (!r.issued || r.fin.isSome)))).map (fun r =>
             if mine r then { r with purpose := .cast 0 0 } else r),
           xl := { s.xl with asks := s.xl.asks.filter (fun a => !asked a) } }

/-- A RAS record of the casters and the sealed path about job j: a caster or an AES lane (R486, R487). -/
def State.castRas (s : State) (j : Job) (severity code index : Nat) : State :=
  s.ras { severity := severity, unit := 6, code := code, flask := j.flask, fgen := s.flaskGen j.flask, index := index,
          pour := j.pour.word }

/-- Item n of job j is changed by f. -/
def State.modItem (s : State) (j : Job) (n : Nat) (f : Item → Item) : State :=
  s.setJob { j with items := updAll j.items (fun x => x.n == n) f }

/-- A residue mismatch of item it: the caster carries it out once more, and at the second goes out of service, its items passing
to the other casters; when none is left the block is reset (R295, R483). -/
def State.itemResidue (s : State) (j : Job) (it : Item) : State :=
  let c := it.caster
  let t := s.wr .CAST_ERR_RESIDUE 1
  if !it.retried then (t.castRas j 0 0x0B c).modItem j it.n (fun x => { x with retried := true })
  else
    let oos := setBits (t.rd .CAST_STATUS_OUT_OF_SERVICE) c 1 1
    let goes (x : Item) : Bool := x.caster == c && !x.held
    let give (k : Job) : Job :=
      { k with items := k.items.filter (fun x => !goes x), back := k.back ++ (k.items.filter goes).map Item.n }
    let t := (t.wr .CAST_STATUS_OUT_OF_SERVICE oos).castRas j 2 2 c
    let t := { t with cast := { t.cast with jobs := t.cast.jobs.map give } }.dropCasterReads c
    if oos = 2 ^ 32 - 1 then t.callBlock else t

/-- AES lane l takes blocks: it passed its self-test and is in service (R472, R483). -/
def State.laneServes (s : State) (l : Nat) : Bool :=
  decide (l < 16) && !bit (s.rd .RAS_SELFTEST_LANES) l && !s.cast.lanesOut.contains l

/-- A mismatch of AES lane l on a block of item it: the block is redone once; at the second mismatch of the lane it goes out of
service and another redoes the block; when none is left the block is reset (R480, R483). That the item's completion brings the
mismatch is the model's (DESIGN CHOICE, log entry 141). -/
def State.laneMismatch (s : State) (j : Job) (it : Item) (l : Nat) : State :=
  if !(cdSealed j.d && s.laneServes l) then s
  else if it.redone ≠ some l then (s.castRas j 0 0x0B l).modItem j it.n (fun x => { x with redone := some l })
  else
    let t := (s.castRas j 2 2 l).modItem j it.n (fun x => { x with redone := none })
    let t := { t with cast := { t.cast with lanesOut := l :: t.cast.lanesOut } }
    if (List.range 16).any t.laneServes then t else t.callBlock

/-- The held items of job i that are next in order are written. -/
def State.itemsOn (s : State) (i : Nat) : Nat → State
  | 0 => s
  | k + 1 => match s.job? i with
    | none => s
    | some j => match j.items.find? (fun x => x.held && x.n == j.done.length) with
      | none => s
      | some it => (s.itemOut j it).itemsOn i k

/-- CASTER_ITEM_COMPLETE (R295): caster c finishes item n of job j, and its checks find what `check` says. The items of a
BLOCKS ingress job are written in ascending order (R288): a caster keeps an item that comes before its turn, and hands its
outcome to the unit where the item whose turn it is has no caster, so that one is free to take that item (DESIGN CHOICE, log
entry 141). -/
def State.itemComplete (s : State) (c i n : Nat) (check : ItemCheck) : State :=
  match s.job? i with
  | none => s
  | some j => match j.items.find? (fun x => x.n == n && x.caster == c) with
    | none => s
    | some it =>
      if !it.ready || it.held then s
      else match check with
        | .residue => s.itemResidue j it
        | .lane l => s.laneMismatch j it l
        | .good =>
          if cdSparse j.d == 2 && !cdEgress j.d && j.done.length != n then
            if j.back.contains j.done.length then s.modItem j n (fun x => { x with held := true }) else s
          else (s.itemOut j it).itemsOn i j.items.length

/-! ## The descriptor (R284, R285) -/

/-- The job ends with a code that is decided before or instead of its work. -/
def Job.stopped (j : Job) (code : Nat) (detail : Nat := 0) : Job :=
  { j with code := some code, detail := detail, items := [], out := [], formed := [], reads := [], back := [] }

/-- The descriptor of job j has been read. -/
def State.descRead (s : State) (j : Job) : State :=
  let d := gotBytes j.got j.at_ 192
  let j := { j with desc := some d, got := [] }
  match cdCheck d j.at_ (s.flaskSealed j.flask) with
  | some k => (s.wr .CAST_ERR_BAD_DESC 1).setJob (j.stopped 0x10 k)
  | none =>
    let key := s.jobKey j
    if cdSealed d && key.isNone then s.setJob (j.stopped 0x12)
    else
      let chunks := if cdSealed d then cdChunks d else 0
      let ctr := if cdSealed d && cdEgress d then (key.map KeyMat.ctr).getD 0 else 0
      let s := if cdSealed d && cdEgress d then
          { s with keys := updAll s.keys (fun m => m.slot == cdKey d) (fun m => { m with ctr := m.ctr + chunks }) } else s
      let mask := if cdSparse d = 2 && cdEgress d then cover (cdMaskVa d) (cdTR d * (roundUp (cdTC d) 512 / 8)) else []
      s.setJob { j with total := cdTR d * cdTC d, chunks := chunks, ctr := ctr, reads := mask }

/-- The block mask of an egress job has been read. -/
def Job.maskRead (j : Job) : Job :=
  let d := j.d
  let z := roundUp (cdTC d) 512 / 8
  let bitAt (n : Nat) : Bool := bit (gotByte j.got (cdMaskVa d + n / cdTC d * z + n % cdTC d / 8)).toNat (n % cdTC d % 8)
  let badAt (n : Nat) : Bool :=
    let a := cdMaskVa d + n / cdTC d * z + n % cdTC d / 8
    j.got.any (fun p => p.2.2 && decide (p.1 ≤ a ∧ a < p.1 + p.2.1.length))
  { j with mask := some (gotBytes j.got (cdMaskVa d) (cdTR d * z)), present := (List.range j.total).filter bitAt,
           maskBad := lowest j.total badAt, got := [] }

/-- Reads of the caster unit that have returned reach their jobs and items (R296, R484). -/
def State.castReturns (s : State) : State :=
  (s.reqs.filter (fun r => match r.purpose with | .cast _ _ => r.fin.isSome | _ => false)).foldl (fun t r =>
    match r.purpose, r.fin with
    | .cast i k, some (bs, slag) =>
      let t := t.dropReq r.id
      match t.job? i with
      | none => t
      | some j =>
        let g := [(r.va, bs, slag)]
        if k = jkSelf then
          let first := j.desc.isNone
          let t := t.setJob { j with reading := j.reading - 1, got := j.got ++ g }
          if slag && r.tier == 0 then
            let t := t.hbmUe (r.addr + 64 * r.bad.headD 0) 6 (if first then 1 else 0) 0 r.flask j.pour.word
            if first then t.callFlask j.flask else t
          else t
        else t.setJob { j with items := updAll j.items (fun x => x.n == k) (fun x => { x with out := x.out - 1, got := x.got ++ g }) }
    | _, _ => t) s

/-- CAST_DESCRIPTOR_RETURN (R284): a read of the caster unit returns. -/
def State.descReturn (s : State) (id : Nat) (ret : Ret) : State :=
  match s.req? id with
  | some r => (match r.purpose with | .cast _ _ => (s.hapResponse id ret).castReturns | _ => s)
  | none => s

/-! ## Moving on -/

/-- A read for job j, as number k, through caster c: issued, waiting, or refused by R285. -/
def State.castRead (s : State) (j : Job) (k c : Nat) (rd : Nat × Nat) : State × Bool :=
  let who := Requester.caster c
  let t := s.ask (.cast j.id k) who j.ctx rd.1 .read rd.2
  match t.granted (.cast j.id k) rd.1 .read with
  | none => (t, false)
  | some l =>
    if k = jkSelf && j.desc.isNone && t.flaskSealed j.flask && !l.sealed && !l.pub then
      ((((t.wr .CAST_ERR_BAD_DESC 1).castRaise j).dropJob j.id).forget (.cast j.id k), false)
    else match t.acceptTagged (t.reqUnder who j.ctx l rd.1 (.read rd.2) (.cast j.id k)) with
      | none => (t, false)
      | some (_, u) => (u.forget (.cast j.id k), true)

/-- An output may go where its grant points (R300). -/
def State.castMayWrite (s : State) (j : Job) (o : Output) (l : Leaf) : Bool :=
  if !s.flaskSealed j.flask then true
  else if !cdSealed j.d then l.sealed || l.pub
  else if cdEgress j.d then !o.tile else l.sealed

/-- One thing that job j can do is done: a read, an output, or a step of its course; false when there is none. -/
def State.castStep (s : State) (i : Nat) : State × Bool :=
  match s.job? i with
  | none => (s, false)
  | some j =>
    match j.reads, j.items.find? (fun x => !x.reads.isEmpty), j.out with
    | r :: rest, _, _ =>
      let (t, ok) := s.castRead j jkSelf 0 r
      if ok then (t.modJob i (fun x => { x with reads := rest, reading := x.reading + 1 }), true) else (t, false)
    | [], some it, [] =>
      let (t, ok) := s.castRead j it.n it.caster (it.reads.headD (0, 32))
      let sent (x : Item) : Item := { x with reads := x.reads.drop 1, out := x.out + 1 }
      if ok then (t.modJob i (fun y => { y with items := updAll y.items (fun x => x.n == it.n) sent }), true) else (t, false)
    | [], _, o :: rest =>
      let who := Requester.caster o.caster
      let t := s.ask (.cast i jkOut) who j.ctx o.va .write o.data.length
      match t.granted (.cast i jkOut) o.va .write with
      | none => (t, false)
      | some l =>
        if !t.castMayWrite j o l then ((t.setJob (j.stopped 0x11)).forget (.cast i jkOut), true)
        else
          let r := t.reqUnder who j.ctx l o.va (.write []) (.cast i jkOut)
          match t.storePlain r (cellsAt r.addr o.data) with
          | none => (t, false)
          | some u => (((u.modJob i (fun x => { x with out := rest })).countWritten i).forget (.cast i jkOut), true)
    | [], none, [] =>
      if j.reading ≠ 0 then (s, false)
      else if j.desc.isNone then (s.descRead j, true)
      else
        let d := j.d
        let egMask := cdSparse d == 2 && cdEgress d && j.code.isNone
        let inMask := cdSparse d == 2 && !cdEgress d && j.code.isNone
        let all := j.done.length == j.total
        if egMask && j.mask.isNone then (s.setJob j.maskRead, true)
        else if j.code.isNone && decide (j.chunk < j.chunks) && j.chunkReady j.chunk then
          if cdEgress d then
            match s.jobKey j with
            | none => (s, false)
            | some k =>
              let (a, z) := j.chunkAt j.chunk
              let at' (x : Nat) : Byte := match j.plain.find? (fun p => decide (p.1 ≤ x ∧ x < p.1 + p.2.length)) with
                | some p => nth p.2 (x - p.1) 0
                | none => Config.gapByte x
              let pt := (List.range z).map (fun q => at' (a + q))
              let (ct, tag) := gcmSeal k.key (ownIv k.slot (j.ctr + j.chunk)) (j.chunkAad j.chunk) pt
              let j := (j.emit 0 false (cdHostVa d + a) ct (chunkPart j.chunk)).emit 0 false (cdTagVa d + 16 * j.chunk) tag
                (chunkPart j.chunk)
              ((s.count j.ctx 11 z).setJob { j with chunk := j.chunk + 1 }, true)
          else if j.got.isEmpty then (s.setJob { j with reads := cover (cdTagVa d + 16 * j.chunk) 16 }, true)
          else (s, false)
        else if j.code.isNone && !(all && j.chunk == j.chunks) then (s, false)
        else if inMask && !j.maskOut then
          let z := roundUp (cdTC d) 512 / 8
          let rowBytes (r : Nat) : List Byte := leBytes z ((List.range (cdTC d)).foldl (fun v c =>
            v + b2n (j.present.contains (r * cdTC d + c)) * 2 ^ c) 0)
          (s.setJob ({ j with maskOut := true }.emit 0 true (cdMaskVa d) ((List.range (cdTR d)).flatMap rowBytes)), true)
        else if !j.writes.isEmpty then (s, false)
        else if !j.status then
          let code := j.code.getD (if j.slagged.isEmpty then 1 else 2)
          let m16 (v : Nat) : Nat := min v 0xFFFF
          let bs := leBytes 8 (code + j.detail * 2 ^ 8 + min j.tiles (2 ^ 32 - 1) * 2 ^ 16 + m16 j.slagged.length * 2 ^ 48) ++
            leBytes 8 (m16 j.auth + m16 j.crc * 2 ^ 16 + m16 j.sat * 2 ^ 32 + m16 j.pruned * 2 ^ 48) ++
            (if cdSealed d && cdEgress d && j.total != 0 then leBytes 8 j.ctr else [])
          let va := j.at_ + 0x80
          let t := s.ask (.cast i jkStatus) (.caster 0) j.ctx va .write bs.length
          match t.granted (.cast i jkStatus) va .write with
          | none => (t, false)
          | some l =>
            let r := t.reqUnder (.caster 0) j.ctx l va (.write []) (.cast i jkStatus)
            match t.storePlain r (cellsAt r.addr bs) with
            | none => (t, false)
            | some u =>
              let u := if code = 1 || code = 0x13 then u else u.castRaise j
              ((u.modJob i (fun x => { x with status := true })).forget (.cast i jkStatus), true)
        else
          let t := s.dropJob i
          (if j.code = some 0x13 then t.endPour j.ctx 5 0 else t, false)

/-- Steps of a job while there are any. -/
def State.castSteps (s : State) (i : Nat) : Nat → State
  | 0 => s
  | n + 1 => match s.castStep i with
    | (t, true) => t.castSteps i n
    | (t, false) => t

/-- How many steps a job may take at once. -/
def Job.fuel (j : Job) : Nat :=
  (j.items.map (fun i => i.reads.length)).sum + j.out.length + j.reads.length + cdTR j.d * (roundUp (cdTC j.d) 512) / 8 + 4096

/-- The caster unit moves on. -/
def State.pumpCast (s : State) : State :=
  let t := s.castReturns
  let t := t.cast.jobs.foldl (fun t j => t.castSteps j.id j.fuel) t
  { t with cast := { t.cast with raised := t.cast.raised.filter (fun p => t.ctxs.any (fun x => x.pour == p)) } }

/-! ## Tags and revocation (R301, R304) -/

/-- CAST_CHUNK_TAG_CHECK (R301): the tag of job j's next sealed ingress chunk is checked; when it fails, every tile that
holds data of the chunk is rewritten as slag. -/
def State.chunkCheck (s : State) (i : Nat) : State :=
  match s.job? i with
  | none => s
  | some j =>
    match s.jobKey j with
    | none => s
    | some k =>
      let d := j.d
      if cdEgress d || j.code.isSome || !j.reads.isEmpty || j.reading != 0 || j.got.isEmpty || decide (j.chunks ≤ j.chunk) ||
          !j.chunkReady j.chunk then s
      else
        let (a, z) := j.chunkAt j.chunk
        let ct := gotBytes j.ciph (cdHostVa d + a) z
        let tag := gotBytes j.got (cdTagVa d + 16 * j.chunk) 16
        let good := gcmTag (aesExpand k.key) (j.chunkIv j.chunk) (j.chunkAad j.chunk) ct == tag
        let j' := { j with chunk := j.chunk + 1, got := [] }
        let s := s.count j.ctx 11 z
        if good then s.setJob j'
        else
          let bad := (j.done.reverse.filter (fun n => j.inChunk n j.chunk)).filter (fun n =>
            cdSparse d != 2 || j.present.contains n)
          let j' := bad.foldl (fun (x : Job) n => (x.form n false true).emitTile 0 n (x.place n) true [] [])
            { j' with auth := j.auth + 1 }
          ((s.wr .CAST_ERR_AUTH_FAIL 1).bump .CAST_SEAL_STATS_AUTH_FAILS).setJob j'

/-- Key slot k is zeroed while jobs use it (R304): what is not yet written, and what is not yet checked, is written as
slag; a job whose every chunk is finished keeps its result. The scales of an egress row none of whose chunks is finished are
slag with it. -/
def State.keyRevoked (s : State) (k : Nat) : State :=
  s.cast.jobs.foldl (fun t x =>
    match t.job? x.id with
    | none => t
    | some j =>
      let d := j.d
      if j.desc.isNone || !cdSealed d || cdKey d != k || j.code.isSome || j.status || decide (j.chunks ≤ j.chunk) then t
      else
        let t := t.wr .CAST_ERR_KEY_REVOKED 1
        let stopped := { j with code := some 0x13, items := [], back := [], reads := [], next := j.total }
        if cdEgress d then
          let rest := (List.range (j.chunks - j.chunk)).map (fun i => j.chunk + i)
          let ns := (List.range j.total).filter (fun n => rest.any (j.inChunk n))
          let j' := ns.foldl (fun (y : Job) n => (j.rowsOf n).foldl (fun (y : Job) r =>
            let ps := pieces (cdChunk d) ((j.rowAt n r).1 - cdHostVa d) (j.rowAt n r).2
            let left (p : Nat × Nat) : Bool := decide (j.chunk ≤ ((j.rowAt n r).1 + p.1 - cdHostVa d) / cdChunk d)
            let y := (ps.filter left).foldl (fun (y : Job) p => y.emit 0 false ((j.rowAt n r).1 + p.1) (slagBytes p.2) n) y
            if ps.all left then y.emit 0 false (j.scalesAt n r).1 (slagBytes (j.scalesAt n r).2) n else y)
            (y.form n false true)) stopped
          t.setJob j'
        else
          let unchecked (n : Nat) : Bool := (List.range (j.chunks - j.chunk)).any (fun i => j.inChunk n (j.chunk + i))
          let again := j.done.filter (fun n => unchecked n && (cdSparse d != 2 || j.present.contains n))
          let fresh := (List.range j.total).filter (fun n => !j.done.contains n)
          let j' := again.foldl (fun (y : Job) n => (y.form n false true).emitTile 0 n (y.place n) true [] []) stopped
          let j' := fresh.foldl (fun (y : Job) n =>
            let m := if cdSparse d = 2 then y.present.length else n
            let y := { y with present := if cdSparse d = 2 then y.present ++ [n] else y.present }
            (y.form n true true).emitTile 0 n m true [] []) j'
          t.setJob { j' with done := fresh ++ j'.done }) s

end Sys2Proof.Machine
end

