-- ==== Sys2Proof/Machine/Cbor.lean ====
section
/-! DEFINITION. CBOR in the core deterministic encoding of RFC 8949, and the COSE_Sign1 structures of legends, receipt
blocks and migration messages (R394, R419, R440). -/
namespace Sys2Proof.Machine

/-- A head: major type m with argument n in its shortest form. -/
def cbHead (m n : Nat) : List Byte :=
  if n < 24 then [BitVec.ofNat 8 (m * 32 + n)]
  else if n < 2 ^ 8 then BitVec.ofNat 8 (m * 32 + 24) :: beBytes 1 n
  else if n < 2 ^ 16 then BitVec.ofNat 8 (m * 32 + 25) :: beBytes 2 n
  else if n < 2 ^ 32 then BitVec.ofNat 8 (m * 32 + 26) :: beBytes 4 n
  else BitVec.ofNat 8 (m * 32 + 27) :: beBytes 8 n

def cbUint (n : Nat) : List Byte := cbHead 0 n

/-- The negative integer -n (n not 0). -/
def cbNeg (n : Nat) : List Byte := cbHead 1 (n - 1)

def cbBytes (b : List Byte) : List Byte := cbHead 2 b.length ++ b

def cbArray (xs : List (List Byte)) : List Byte := cbHead 4 xs.length ++ xs.flatten

def cbUints (ns : List Nat) : List Byte := cbArray (ns.map cbUint)

def cbBool (b : Bool) : List Byte := [if b then 0xF5 else 0xF4]

def cbNull : List Byte := [0xF6]

/-- A map of claims: keys are the numbers n of the claims -n, given in ascending order, which is the order of their
encodings. -/
def cbClaims (cs : List (Nat × List Byte)) : List Byte :=
  cbHead 5 cs.length ++ cs.flatMap (fun c => cbNeg c.1 ++ c.2)

/-- A firmware claim: arrays of a component and its digest (R395, R440). -/
def cbFirmware (cs : List (Nat × List Byte)) : List Byte := cbArray (cs.map (fun p => cbArray [cbUint p.1, cbBytes p.2]))

/-- A COSE_Sign1 structure with CBOR tag 18: protected header ES384, unprotected header kid (R394). -/
def coseSign1 (kid payload sig : List Byte) : List Byte :=
  [0xD2] ++ cbArray [cbBytes [0xA1, 0x01, 0x38, 0x22], [0xA1, 0x04] ++ cbBytes (slice kid 0 16), cbBytes payload,
    cbBytes (slice sig 0 96)]

/-! ## Reading messages -/

/-- The argument of a head of major type m at the front of b, and what follows. -/
def cbRead (m : Nat) : List Byte → Option (Nat × List Byte)
  | [] => none
  | h :: r =>
    let a := h.toNat % 32
    let k := 2 ^ (a - 24)
    if h.toNat / 32 ≠ m ∨ 27 < a ∨ (23 < a ∧ r.length < k) then none
    else if a < 24 then some (a, r)
    else some (ofBe (r.take k), r.drop k)

/-- The byte string at the front of b, and what follows. -/
def cbReadBytes (b : List Byte) : Option (List Byte × List Byte) :=
  (cbRead 2 b).bind (fun p => if p.2.length < p.1 then none else some (p.2.take p.1, p.2.drop p.1))

/-- An array of unsigned integers of length n at the front of b, and what follows. -/
def cbReadUints (n : Nat) (b : List Byte) : Option (List Nat × List Byte) :=
  ((cbRead 4 b).filter (fun p => p.1 == n)).bind (fun p =>
    (List.range n).foldl (fun (acc : Option (List Nat × List Byte)) _ =>
      acc.bind (fun a => (cbRead 0 a.2).map (fun u => (a.1 ++ [u.1], u.2)))) (some ([], p.2)))

/-- What follows the key -n at the front of b. -/
def cbKey (n : Nat) (b : List Byte) : Option (List Byte) :=
  ((cbRead 1 b).filter (fun p => p.1 + 1 == n)).map Prod.snd

/-- The payload of the COSE_Sign1 structure b in the form of `coseSign1`, as its bytes stand. -/
def cosePayload (b : List Byte) : Option (List Byte) := do
  let (_, r) ← cbReadBytes (b.drop 2)
  let (kid, r) ← cbReadBytes (r.drop 2)
  let (payload, r) ← cbReadBytes r
  let (sig, _) ← cbReadBytes r
  if kid.length = 16 ∧ coseSign1 kid payload sig = b then some payload else none

end Sys2Proof.Machine
end

