-- ==== Sys2Proof/Machine/Energy.lean ====
section
/-! DEFINITION. The energy meter (15): accumulators, activity, calibration, receipts and their ring. -/
namespace Sys2Proof.Machine

/-! ## Units -/

/-- n / d rounded to nearest, ties to even. -/
def roundEven (n d : Nat) : Nat :=
  let q := n / d
  let r := n % d
  if d < 2 * r || (2 * r == d && q % 2 == 1) then q + 1 else q

/-- Accumulator units of 2^-8 nJ in a joule and in a millijoule. -/
def unitJ : Nat := 256 * 10 ^ 9
def unitMJ : Nat := 256 * 10 ^ 6

/-- A value in joules as accumulator units. -/
def toUnits (x : Fp) : Nat :=
  match x with
  | .fin false n d => roundEven (n * unitJ) d
  | _ => 0

/-- n / d as the nearest FP32 value. -/
def fpRatio (n d : Nat) : Fp := Fp.to32 (.fin false n d)

/-! ## Accumulators (R408 to R411) -/

/-- Accumulator a is charged to by a root pour in flight. -/
def State.accBusy (s : State) (a : Nat) : Bool := s.meter.spans.any (fun p => p.charge == .acc a && p.stop.isNone)

/-- Accumulator a is replaced by f of it. -/
def State.modAcc (s : State) (a : Nat) (f : Accum → Accum) : State :=
  { s with meter := { s.meter with accs := updAll s.meter.accs (fun x => x.id == a) f } }

/-- The open accumulators that meet p close with a receipt flag (R409); a close ends the charge of pours in flight. -/
def State.closeAccs (s : State) (p : Accum → Bool) (flag : Nat) : State :=
  let close (a : Accum) : Accum :=
    { a with closed := some s.time, flags := a.flags ||| flag, last := if s.accBusy a.id then s.time else a.last }
  { s with meter := { s.meter with accs := updAll s.meter.accs (fun a => a.closed.isNone && p a) close } }

/-- Receipt flags (R418). -/
def rfCLAMPED : Nat := 1
def rfUNCALIBRATED : Nat := 2
def rfESTIMATED : Nat := 4
def rfEARLY : Nat := 8
def rfRESET : Nat := 16
def rfQUENCH : Nat := 32

/-- A new accumulator for the root pour of x. -/
def State.openAcc (s : State) (x : Ctx) : Charge × State :=
  let (id, s) := s.newId
  let a : Accum := { id := id, flask := x.flask, gen := x.fgen, ticket := x.ticket, first := x.pour.word,
                     opened := x.admitted, last := x.admitted, pours := 1 }
  (.acc id, { s with meter := { s.meter with accs := s.meter.accs ++ [a] } })

/-- Accumulators in use, of the 4,096 (R408, R410): open ones, and closed ones whose receipts are not yet written. -/
def State.accsUsed (s : State) : Nat := s.meter.accs.length

/-- The accumulator that an admission which finds none free closes EARLY: the oldest that has no pour in flight (R409). While
4,096 closed ones wait for their receipts none can be (R410; DESIGN CHOICE, log entry 90). -/
def State.earlyClose (s : State) : Option Accum :=
  if 4096 ≤ (s.meter.accs.filter (fun a => a.closed.isSome)).length then none
  else s.meter.accs.find? (fun a => a.closed.isNone && !s.accBusy a.id)

/-- What the admitted root pour of x is charged to (R408 to R410). With none of the 4,096 free, one that closes EARLY gives its
place to the pour, though its receipt is still to be written (DESIGN CHOICE, log entry 90); where none can be closed, the pour
is charged to UNMETERED. -/
def State.chargeFor (s : State) (x : Ctx) : Charge × State :=
  match s.meter.accs.find? (fun a => a.closed.isNone && a.flask == x.flask && a.gen == x.fgen && a.ticket == x.ticket) with
  | some a => (.acc a.id, s.modAcc a.id (fun b => { b with pours := b.pours + 1 }))
  | none =>
    if s.accsUsed < 4096 then s.openAcc x
    else match s.earlyClose with
      | some a => (s.closeAccs (fun b => b.id == a.id) rfEARLY).openAcc x
      | none => (.unmetered x.flask, s.wr .EN_ERR_NO_ACC 1)

/-- The root pour of x begins to be charged. -/
def State.meterPour (s : State) (x : Ctx) : State :=
  let (ch, t) := if x.mgmt then (Charge.package, s) else s.chargeFor x
  let t := t.modCtx x.num (fun y => { y with charge := ch })
  if x.mgmt then t
  else
    let p : Span := { ctx := x.num, pour := x.pour, charge := ch, flask := x.flask, start := s.time }
    { t with meter := { t.meter with spans := t.meter.spans ++ [p] } }

/-- The root pour of a span is over. -/
def State.spanOver (s : State) (p : Span) : Bool :=
  p.stop.isNone && !s.ctxs.any (fun x => x.num == p.ctx && x.pour == p.pour && x.depth == 0 && x.charge == p.charge)

/-- The meter follows admissions, ends, and what each engine runs. -/
def State.pumpMeter (s : State) : State :=
  let t := s.ctxs.foldl (fun t x => if x.depth = 0 ∧ x.charge = .none then t.meterPour x else t) s
  let gone := t.meter.spans.filter t.spanOver
  let t := gone.foldl (fun t p => match p.charge with
    | .acc a => t.modAcc a (fun b => if b.closed.isNone then { b with last := t.time } else b)
    | _ => t) t
  let spans := updAll t.meter.spans (fun p => gone.contains p) (fun p => { p with stop := some t.time })
  let live : List (Nat × Nat × Charge) := t.lanes.filterMap (fun l =>
    ((l.running.bind t.kernel?).bind (fun k => t.ctx? k.ctx)).map (fun x => (l.eng, x.num, (t.rootOf x).charge)))
  let old := t.meter.ran.filter (fun r => match r.stop with | some e => decide (t.time < e + 2000000) | none => true)
  let old := updAll old (fun r => r.stop.isNone && !live.contains (r.eng, r.ctx, r.charge)) (fun r => { r with stop := some t.time })
  let new_ := live.filter (fun p => !old.any (fun r => r.stop.isNone && (r.eng, r.ctx, r.charge) == p))
  let begin_ (p : Nat × Nat × Charge) : Ran := { eng := p.1, ctx := p.2.1, charge := p.2.2, start := t.time }
  { t with meter := { t.meter with spans := spans, ran := old ++ new_.map begin_ } }

/-- LINGER_EXPIRY (R409): accumulator a has had no pour in flight for LINGER µs. -/
def State.lingerExpiry (s : State) (a : Nat) : State :=
  match s.meter.accs.find? (fun x => x.id == a && x.closed.isNone) with
  | none => s
  | some x =>
    if s.accBusy a then s
    else (s.elapse (x.last + max (s.rd .EN_CTL_LINGER) 1 * 1000)).closeAccs (fun b => b.id == a) 0

/-! ## Activity (R412) -/

/-- The engine ran in some part of the 10 µs interval i. -/
def Ran.meets (r : Ran) (i : Nat) : Bool :=
  decide (r.start < (i + 1) * 10000) && (match r.stop with | some e => decide (i * 10000 ≤ e) | none => true)

/-- What engine e's work for context c in interval i is charged to: the pour may have ended before the report comes. A context
that e did not run then, and that holds no pour, is charged to the package (DEDUCED, log entry 101). -/
def State.chargeAt (s : State) (e c i : Nat) : Charge :=
  match s.meter.ran.find? (fun r => r.eng == e && r.ctx == c && r.meets i) with
  | some r => r.charge
  | none => match s.ctx? c with
    | some x => (s.rootOf x).charge
    | none => .package

/-- ACTIVITY_REPORT_MISSING (R412): engine e's report of interval i has not arrived 5 µs after the interval. -/
def State.activityMissing (s : State) (e i : Nat) : State :=
  let t := (s.elapse ((i + 1) * 10000 + 5000)).wr .EN_ERR_ENG_MISSING 1
  let hit (c : Charge) : Bool := s.meter.ran.any (fun r => r.eng == e && r.charge == c && r.meets i)
  let accs := updAll t.meter.accs (fun a => hit (.acc a.id)) (fun a => { a with flags := a.flags ||| rfESTIMATED })
  let late := (e, i) :: t.meter.missed.filter (fun p => decide (t.time < p.2 * 10000 + 2000000) && p != (e, i))
  { t with meter := { t.meter with accs := accs, missed := late } }

/-- ACTIVITY_REPORT (R412): engine e's report of the 10 µs interval i: for each entry a context and the counts of classes
0 to 7. What comes after its window has been calibrated counts in the next one. A report that comes more than 5 µs after its
interval counts as zero activity, as one that has not come. -/
def State.activity (s : State) (e i : Nat) (entries : List (Nat × List Nat)) : State :=
  if s.meter.missed.contains (e, i) then s
  else if (i + 1) * 10000 + 5000 < s.time then s.activityMissing e i
  else
    let counts := (entries.take 8).flatMap (fun p => ((List.range 8).filter (fun c => nth p.2 c 0 != 0)).map (fun c =>
      ({ charge := s.chargeAt e p.1 i, window := max (i / 100) s.meter.window, cls := c, n := nth p.2 c 0 } : Count)))
    { s with meter := { s.meter with counts := s.meter.counts ++ counts } }

/-! ## Scrubs (R405, R414) -/

/-- What is left of scrubs that share 8,000 bytes a nanosecond equally, dt ns later. -/
def scrubRun : (fuel dt : Nat) → List Nat → List Nat
  | 0, _, ls => ls
  | n + 1, dt, ls =>
    let run := ls.filter (fun l => l != 0)
    match run with
    | [] => ls
    | l :: rest =>
      let m := rest.foldl min l
      let need := ceilDiv (m * run.length) 8000
      if need ≤ dt then scrubRun n (dt - need) (ls.map (fun x => x - m)) else ls.map (fun x => x - dt * 8000 / run.length)

/-- The scrubs' shares up to the present, whose bytes are overhead of their flasks (R414). -/
def State.scrubNow (s : State) : State :=
  let ls := scrubRun (s.scrubs.length + 1) (s.time - s.scrubAt) (s.scrubs.map Scrub.left)
  let put (p : Scrub × Nat) : Scrub := { p.1 with left := p.2 }
  let pay (t : State) (p : Scrub × Nat) : State := t.countFor (.overhead p.1.flask) 9 (p.1.left - p.2)
  { (s.scrubs.zip ls).foldl pay s with scrubs := (s.scrubs.zip ls).map put, scrubAt := s.time }

/-! ## Calibration (R413 to R416) -/

/-- RAIL_REPORT (R416): the package power controller reports nj nJ for the window that is to be calibrated next. -/
def State.railReport (s : State) (nj : Nat) : State :=
  { (s.elapse ((s.meter.window + 1) * 1000000 - 1)).scrubNow.elapse ((s.meter.window + 1) * 1000000) with meter := { s.meter with rail := some nj } }

/-- The raw dynamic energy of a count in joules, as a fraction over 2^24 × 10^9 × 1024 (R413). -/
def State.rawOf (s : State) (k : Count) : Nat :=
  k.n * s.rd .EN_COEF_COEF k.cls * (if 8 ≤ k.cls ∧ k.cls ≤ 11 then 1 else 1024)
def rawDen : Nat := 2 ^ 24 * 10 ^ 9 * 1024

/-- The share of the breakdown that a class belongs to (R412): 0 engine, 1 memory, 2 link. -/
def shareOf (cls : Nat) : Nat := if cls = 6 ∨ cls = 9 then 1 else if cls = 8 then 2 else 0

/-- What a window charges to one account: accumulator units by share, and static. -/
structure Bill where
  charge : Charge
  shares : Shares := {}
  static : Nat := 0
  deriving DecidableEq, Repr

/-- Units are added to the counter or accumulator that a bill names. -/
def State.payBill (s : State) (b : Bill) : State :=
  let sum := b.shares.engine + b.shares.memory + b.shares.link + b.static
  let m := s.meter
  let add (l : List (Nat × Nat)) (f : Nat) : List (Nat × Nat) := aset l f (aget l f 0 + sum)
  match b.charge with
  | .acc a =>
    match m.accs.find? (fun x => x.id == a) with
    | some x =>
      let e : Shares := { engine := x.energy.engine + b.shares.engine, memory := x.energy.memory + b.shares.memory,
                          link := x.energy.link + b.shares.link }
      { s with meter := { m with accs := updAll m.accs (fun y => y.id == a) (fun y => { y with energy := e, static := y.static + b.static }),
                                 metered := add m.metered x.flask } }
    | none => { s with meter := { m with pkgOver := m.pkgOver + sum } }
  | .unmetered f => { s with meter := { m with unmet := add m.unmet f } }
  | .overhead f => { s with meter := { m with overhead := add m.overhead f } }
  | _ => { s with meter := { m with pkgOver := m.pkgOver + sum } }

/-- k and its flag for a window with raw energy d (R416). -/
def State.calibrate (s : State) (d est : Fp) : Fp × Nat :=
  match s.meter.rail with
  | none => (fp32Of s.meter.k, rfUNCALIBRATED)
  | some nj =>
    let half : Fp := .fin false 1 2
    let two : Fp := .fin false 2 1
    if d.lt (fpRatio 1 1000) then (.fin false 1 1, 0)
    else
      let k := ((fpRatio nj (10 ^ 9)).sub est).div d
      if k.lt half then (half, rfCLAMPED) else if two.lt k then (two, rfCLAMPED) else (k, 0)

/-- The telemetry registers take the meter's values in whole joules (R422). -/
def State.energyRegs (s : State) : State :=
  let m := s.meter
  let j (n w : Nat) : Nat := min (n / unitJ) (2 ^ w - 1)
  let t := ((s.wr .EN_PKG_TOTAL (j m.total 32)).wr .EN_PKG_OVERHEAD (j m.pkgOver 32))
  let put (t : State) (f : Field) (l : List (Nat × Nat)) : State := l.foldl (fun t p => t.wr f (j p.2 32) p.1) t
  put (put (put (put t .EN_FLASK_METERED m.metered) .EN_FLASK_IDLE m.idle) .EN_FLASK_OVERHEAD m.overhead)
    .EN_FLASK_UNMETERED m.unmet

/-- Some flask is sealed with PROFILE 0 (R400). -/
def State.coarse (s : State) : Bool := s.flasks.any (fun f => s.flaskSealed f && !s.on .FL_PROFILE f)

/-- The bills of window w: its counts scaled by k, and its static pool pool (R416). -/
def State.bills (s : State) (w : Nat) (k pool : Fp) : List Bill :=
  let cs := s.meter.counts.filter (fun c => c.window == w)
  let dyn : List Bill := (cs.map Count.charge).eraseDups.map (fun ch =>
    let e (i : Nat) : Nat := toUnits (k.mul (fpRatio ((cs.filter (fun c => c.charge == ch && shareOf c.cls == i)).map s.rawOf).sum rawDen))
    { charge := ch, shares := { engine := e 0, memory := e 1, link := e 2 } })
  let part (g : Nat) : Fp := ((pool.div (.fin false 100 1)).mul (Fp.nat g)).div (Fp.nat 64)
  let at_ (i : Nat) (f : Nat) : List Span :=
    let a := w * 1000000 + i * 10000
    s.meter.spans.filter (fun p => p.flask == f && decide (p.start < a + 10000) && (match p.stop with | some e => decide (a ≤ e) | none => true))
  let mine := s.flasks.flatMap (fun f =>
    let share := part (popCount (s.rd .FL_GROUPS f) 64)
    (List.range 100).flatMap (fun i =>
      let ps := at_ i f
      ps.map (fun p => ({ charge := p.charge, static := toUnits (share.div (Fp.nat ps.length)) } : Bill))))
  let owned := s.flasks.foldl (fun n f => n + popCount (s.rd .FL_GROUPS f) 64) 0
  let free : Bill := { charge := .package, static := 100 * toUnits (part (64 - owned)) }
  dyn ++ mine ++ [free]

/-- The static share of each flask's intervals with no pour in flight, in units (R414). -/
def State.idleShare (s : State) (w f : Nat) (pool : Fp) : Nat :=
  let share := ((pool.div (.fin false 100 1)).mul (Fp.nat (popCount (s.rd .FL_GROUPS f) 64))).div (Fp.nat 64)
  let busy (i : Nat) : Bool :=
    let a := w * 1000000 + i * 10000
    s.meter.spans.any (fun p => p.flask == f && decide (p.start < a + 10000) && (match p.stop with | some e => decide (a ≤ e) | none => true))
  ((List.range 100).filter (fun i => !busy i)).length * toUnits share

/-! ## Receipts (R418 to R421) -/

/-- The receipt of a closed accumulator (R418). -/
def Accum.receipt (a : Accum) : List Byte :=
  let mj (n : Nat) : Nat := roundEven n unitMJ
  let e := a.energy
  cbArray [cbUint a.ticket, cbUint (mj (e.engine + e.memory + e.link + a.static)),
    cbUints [mj e.engine, mj e.memory, mj e.link, mj a.static], cbUint (Domain.core.copyAt a.opened / 1000),
    cbUint (Domain.core.copyAt a.last / 1000),
    cbUint a.pours, cbUint a.flags, cbUint a.first]

/-- A formed receipt enters its flask's block, which is due once it holds 64 (R419); the receipts of one block were computed with
the coefficients of one image. -/
def State.enterBlock (s : State) (a : Accum) : State :=
  let open_ (b : Block) : Bool := b.flask == a.flask && b.gen == a.gen && b.digest == s.meter.digest && !b.due && b.sent.isNone
  let add (b : Block) : Block := { b with accs := b.accs ++ [a], due := decide (64 ≤ b.accs.length + 1) }
  if s.meter.blocks.any open_ then { s with meter := { s.meter with blocks := updAll s.meter.blocks open_ add } }
  else
    let (id, s) := s.newId
    let b : Block := { id := id, flask := a.flask, gen := a.gen, accs := [a], since := s.time, digest := s.meter.digest }
    { s with meter := { s.meter with blocks := s.meter.blocks ++ [b] } }

/-- Closed accumulators whose window has been calibrated form their receipts, in the order of their closes. -/
def State.formReceipts (s : State) (w : Nat) : State :=
  let due (a : Accum) : Bool := !a.formed && (match a.closed with | some c => decide (c / 1000000 ≤ w) | none => false)
  let times := ((s.meter.accs.filter due).filterMap Accum.closed).eraseDups
  let order := (s.meter.accs.filter due).length
  let rec go : Nat → State → State
    | 0, t => t
    | n + 1, t =>
      let c := ((t.meter.accs.filter due).filterMap Accum.closed).foldl min (times.foldl max 0)
      match t.meter.accs.find? (fun a => due a && a.closed == some c) with
      | some a => go n ((t.modAcc a.id (fun b => { b with formed := true })).enterBlock a)
      | none => t
  go order s

/-- CALIBRATION_WINDOW_END (R416): the next window is calibrated, 10 µs after its end where no rail report has come. -/
def State.windowEnd (s : State) : State :=
  if !s.ready then s
  else
    let w := s.meter.window
    let s := (s.elapse ((w + 1) * 1000000 - 1)).scrubNow
    let t := s.elapse ((w + 1) * 1000000 + (if s.meter.rail.isNone then 10000 else 0))
    let cs := t.meter.counts.filter (fun c => c.window == w)
    let d := fpRatio (cs.map t.rawOf).sum rawDen
    let est := fpRatio (t.rd .EN_STATIC_EST) (10 ^ 6)
    let (k, flag) := t.calibrate d est
    let zero : Fp := .fin false 0 1
    let pool := match t.meter.rail with
      | some nj => let x := (fpRatio nj (10 ^ 9)).sub (k.mul d); if x.lt zero then zero else x
      | none => est
    let bs := t.bills w k pool
    let idle := t.flasks.map (fun f => (f, t.idleShare w f pool))
    let t := bs.foldl State.payBill t
    let charged (a : Nat) : Bool := bs.any (fun b => b.charge == .acc a)
    let accs := updAll t.meter.accs (fun a => charged a.id) (fun a => { a with flags := a.flags ||| flag })
    let idles := idle.foldl (fun l p => aset l p.1 (aget l p.1 0 + p.2)) t.meter.idle
    let kb := (fp32.clip k).getD 0x3F800000
    let m := { t.meter with accs := accs, idle := idles, k := kb, window := w + 1, rail := none,
                            total := t.meter.total + (t.meter.rail.getD 0) * 256,
                            counts := t.meter.counts.filter (fun c => decide (w < c.window)),
                            spans := t.meter.spans.filter (fun p => match p.stop with | some e => decide ((w + 1) * 1000000 ≤ e) | none => true) }
    let t := { t with meter := m }
    let t := if flag = rfUNCALIBRATED then t.wr .EN_ERR_RAIL_MISSING 1 else if flag = rfCLAMPED then t.wr .EN_ERR_CLAMPED 1 else t
    let t := (if t.coarse then t else t.energyRegs).wr .EN_STATUS_K kb
    let t := t.formReceipts w
    match t.meter.coefs with
    | some (cf, e) =>
      let t := (List.range 13).foldl (fun (u : State) c => u.wr .EN_COEF_COEF (nth cf c 0) c) (t.wr .EN_STATIC_EST e)
      { t with meter := { t.meter with coefs := none, digest := t.kyrdo.mgmt } }
    | none => t

/-- The payload of a receipt block but its block counter (R419). -/
def State.blockClaims (s : State) (b : Block) (counter : Nat) : List Byte :=
  cbClaims [(70101, cbBytes s.kyrdo.device), (70102, cbUint counter), (70103, cbUint s.kyrdo.resets),
    (70104, cbUints [b.flask, b.gen]), (70105, cbBytes b.digest), (70106, cbArray (b.accs.map Accum.receipt))]

/-- Block b is sent to Kyrdo. -/
def State.sendBlock (s : State) (b : Block) : State :=
  let blocks := updAll s.meter.blocks (fun x => x.id == b.id) (fun x => { x with sent := some s.time, due := true })
  { s.say (.kyrdoBlock b.id (s.blockClaims b (s.kyrdo.blocks + 1))) with meter := { s.meter with blocks := blocks } }

/-- RECEIPT_BATCH_EXPIRY (R419): BATCH µs have passed since block b's first receipt. -/
def State.batchExpiry (s : State) (b : Nat) : State :=
  match s.meter.blocks.find? (fun x => x.id == b && !x.due) with
  | none => s
  | some x =>
    let t := s.elapse (x.since + max (s.rd .EN_CTL_BATCH) 1 * 1000)
    { t with meter := { t.meter with blocks := updAll t.meter.blocks (fun y => y.id == b) (fun y => { y with due := true }) } }

/-- RECEIPT_SIGNED (R419): Kyrdo has signed block b. -/
def State.blockSigned (s : State) (b : Nat) (sig : List Byte) : State :=
  match s.meter.blocks.find? (fun x => x.id == b && x.sent.isSome && x.signed.isNone) with
  | none => s
  | some x =>
    let n := s.kyrdo.blocks + 1
    let bytes := coseSign1 s.kyrdo.rkid (s.blockClaims x n) sig
    let blocks := updAll s.meter.blocks (fun y => y.id == b) (fun y => { y with signed := some bytes })
    { s with kyrdo := { s.kyrdo with blocks := n }, meter := { s.meter with blocks := blocks } }

/-- Kyrdo has not answered for block b within 100 ms: it is sent again (R420). -/
def State.blockTimeout (s : State) (b : Nat) : State :=
  match s.meter.blocks.find? (fun x => x.id == b && x.signed.isNone) with
  | none => s
  | some x => match x.sent with
    | none => s
    | some t0 => ((s.elapse (t0 + 100000000)).wr .EN_ERR_KYRDO_TIMEOUT 1).sendBlock x

/-- Capacity of the receipt ring in blocks (R420). -/
def State.receiptCap (s : State) : Nat := s.rd .EN_RING_BASE_SIZE * 2

/-- One signed block goes to the ring, while no other is on its way (R420). -/
def State.ringStep (s : State) : State :=
  if s.meter.blocks.any Block.written then s
  else match s.meter.blocks.find? (fun b => b.signed.isSome) with
    | none => s
    | some b =>
      let w := s.rd .EN_RING_PTRS_WR_IDX
      if ringFull w (s.rd .EN_RING_PTRS_RD_IDX) s.receiptCap then s.wr .EN_ERR_RING_FULL 1
      else
        let t := { s with meter := { s.meter with blocks := updAll s.meter.blocks (fun x => x.id == b.id) (fun x => { x with written := true }) } }
        let (id, t) := t.newId
        t.ownWrite (t.rd .EN_RING_BASE_BASE * 8192 + w * 8192) (b.signed.getD []) id (.receipt b.flask)

/-- Blocks that are due go to Kyrdo while the 16 places for signed blocks have room; signed blocks go to the ring; and a
flush whose blocks are all written replies (R420, R458). -/
def State.pumpReceipts (s : State) : State :=
  let flushed (b : Block) : Bool := s.meter.flushes.any (fun f => f.flask == b.flask && b.accs.any (fun a => f.accs.contains a.id))
  let t := s.meter.blocks.foldl (fun t b =>
    let room := decide ((t.meter.blocks.filter (fun x => x.sent.isSome)).length < 16)
    if (b.due || flushed b) && b.sent.isNone && room then t.sendBlock b else t) s
  let t := (List.range 17).foldl (fun t _ => t.ringStep) t
  let open_ (f : Flush) : Bool := f.accs.any (fun i => t.meter.accs.any (fun a => a.id == i))
  let done := t.meter.flushes.filter (fun f => !open_ f)
  let t := { t with meter := { t.meter with flushes := t.meter.flushes.filter open_ } }
  done.foldl (fun t f => t.reply f.slot stOK [f.count]) t

/-- RECEIPT_FLUSH in slot n from its start point (R458). -/
def State.receiptFlush (s : State) (n : Nat) : State :=
  let (f, g) := s.fref n
  if !s.frefOk n then (s.frefStale n).reply n stSTATE
  else
    let idle (a : Accum) : Bool := a.closed.isNone && a.flask == f && a.gen == g && !s.accBusy a.id
    let count := (s.meter.accs.filter idle).length
    let t := s.closeAccs (fun a => idle a) 0
    let mine := (t.meter.accs.filter (fun a => a.flask == f && a.closed.isSome)).map Accum.id
    let w : Flush := { slot := n, flask := f, count := count, accs := mine }
    { t with meter := { t.meter with flushes := t.meter.flushes ++ [w] } }

end Sys2Proof.Machine
end

