-- ==== Sys2Proof/Machine/Tier.lean ====
section
/-! DEFINITION. Migration, the tier pool and the hot-sheet table (08). -/
namespace Sys2Proof.Machine

/-! ## Frames (R249, R250) -/

/-- The frames of a size class, lowest first. -/
def State.framesOf (s : State) (size : Nat) : List Nat :=
  let base := s.rd .TIER_POOL_BASE * sheet1G
  let n1 := s.rd .TIER_POOL_N1G
  if size = sheet1G then (List.range n1).map (fun i => base + i * sheet1G)
  else if size = sheet32M then (List.range (s.rd .TIER_POOL_N32)).map (fun j => base + n1 * sheet1G + j * sheet32M) else []

/-- A frame holds a promotion, or a migration has taken it. -/
def State.frameUsed (s : State) (a : Nat) : Bool :=
  s.tier.promos.any (fun p => p.frame == a) || s.tier.migs.any (fun m => m.frame == some a)

/-- [a, a + n) meets the tier pool. -/
def State.meetsPool (s : State) (a n : Nat) : Bool :=
  match s.areas.head? with | some r => overlaps a n r.1 r.2 | none => false

/-- Migration j. -/
def State.mig? (s : State) (j : Nat) : Option Mig := s.tier.migs.find? (fun m => m.id == j)

/-- Migration m takes the place of the one with its number. -/
def State.setMig (s : State) (m : Mig) : State :=
  { s with tier := { s.tier with migs := updAll s.tier.migs (fun x => x.id == m.id) (fun _ => m) } }

/-- Migration m is over, and the requests it held walk again (R245). -/
def State.dropMig (s : State) (m : Mig) : State :=
  ({ s with tier := { s.tier with migs := s.tier.migs.filter (fun x => x.id != m.id) } }.forget (.mig m.id)).wakeMig m.id

/-- A promotion leaves its frame. -/
def State.dropPromo (s : State) (p : Promo) : State :=
  { s with tier := { s.tier with promos := s.tier.promos.filter (fun q => q != p) } }

/-! ## Leaves -/

/-- A leaf with TIER and the local address [43:25] of its place replaced, and VALID 1. -/
def leafTo (e tier node a : Nat) : Nat :=
  setBits (setBits (setBits e 8 2 tier) 25 31 (node * 2 ^ 19 + a / sheet32M)) 0 1 1

/-- The place of a leaf. -/
def leafPa (e : Nat) : Nat := bits e 25 31 * sheet32M
def leafTier (e : Nat) : Nat := bits e 8 2

/-- The 64-bit compare-and-swap of a leaf at the HBM atomic unit; a line that a host core holds is first given back. -/
def State.swapLeaf (s : State) (a old new : Nat) : Bool × State :=
  let (bs, t) := s.hbmAtomic a 2 8 new old
  (ofLe bs == old, t)

/-- The swap of migration m's leaf is sent. -/
def State.sendSwap (s : State) (m : Mig) (st : MigStage) : State :=
  (s.setMig { m with stage := st }).say (.swap m.id m.leafAt)

/-! ## Outcomes (R243) -/

/-- Codes of R243. -/
def mgOK : Nat := 0
def mgSEALED : Nat := 1
def mgTIER : Nat := 2
def mgDEST : Nat := 3
def mgCHANGED : Nat := 4
def mgRACED : Nat := 5
def mgNOFRAME : Nat := 6
def mgHOSTLOST : Nat := 7
def mgSIZE : Nat := 8

/-- Migration m ends with a code, which CZ_TIER_MIG of its flask records; an eviction records nothing there. -/
def State.endMig (s : State) (m : Mig) (code : Nat) : State :=
  let t := s.dropMig m
  if m.ctx.isNone then t
  else
    let t := t.wr .TIER_MIG_LAST code m.flask
    if code = mgOK then t.adv .TIER_MIG_DONE m.flask else t.bump .TIER_MIG_FAILED m.flask

/-- The pour of m ends, or is gone (R247). -/
def State.migPourEnds (s : State) (m : Mig) : Bool :=
  match m.ctx with
  | none => false
  | some c => match s.ctx? c with
    | some x => s.ending x
    | none => true

/-- The walk of m waits on a held fault, which a pour that drains waits for (R74, R234). -/
def State.migHeld (s : State) (m : Mig) : Bool :=
  s.xl.asks.any (fun a => a.owner == .mig m.id && (match a.wait with | .held _ _ => true | _ => false)) &&
  (match m.ctx.bind s.ctx? with
   | some x => (s.rootOf x).cause.map EndCause.kind == some .drain
   | none => false)

/-! ## Taking a migration (R243, R246) -/

/-- BULK_MOVE with MODE MIGRATE in context c. -/
def State.recMigrate (s : State) (c : Nat) : State :=
  s.record c opMOVE (fun r => fld r 0 8 2 == 2) (fun s x _ r =>
    if 8 ≤ (s.tier.migs.filter (fun m => m.ctx.isSome)).length then s.park c .run
    else
      let (id, s) := s.newId
      let m : Mig := { id := id, ctx := some c, root := some (s.rootOf x).pour, payer := (s.rootOf x).charge, flask := x.flask,
                       slot := (s.slotOf x).getD 1024, dest := x.gate (fld r 0 24 6),
                       va := addMod 64 (x.gate (fld r 0 16 6)) (fld r 1 0 57) }
      ({ s with tier := { s.tier with migs := s.tier.migs ++ [m] } }).goTo c (x.pc + 1))

/-- The checks of R243 up to SIZE for a leaf e of a sheet of `size`: the code that fails; none when the migration goes
on. -/
def State.migCheck (s : State) (f dest e size : Nat) : Option Nat :=
  let tier := bits dest 0 2
  let pool := bit dest 2
  let a := bits dest 25 19 * sheet32M
  let own := s.rd .PEER_CTL_NODE_ID
  let pa := own * 2 ^ 44 + a
  let src := leafPa e
  let same := if pool then leafTier e == 0 && s.meetsPool (src % 2 ^ 44) 1 else leafTier e == tier && src == pa
  if s.flaskSealed f then some mgSEALED
  else if leafTier e = 2 ∨ 2 ≤ tier then some mgTIER
  else if bits dest 3 22 ≠ 0 ∨ bits dest 44 20 ≠ 0 ∨ (pool ∧ (tier ≠ 0 ∨ a ≠ 0)) then some mgDEST
  else if !pool && (a % size != 0 || !s.sheetOk f tier pa size || (tier == 0 && s.meetsPool a size) ||
      (!same && leafTier e == tier && overlaps a size (src % 2 ^ 44) size)) then some mgDEST
  else if same then some mgOK
  else if pool && size == sheet64G then some mgSIZE
  else none

/-- The oldest promotion of a size class that may be evicted for m (R250). -/
def State.poolVictim (s : State) (m : Mig) (size : Nat) : Option Promo :=
  s.tier.promos.find? (fun p => p.size == size && !m.passed.contains p.frame && !(p.orphan && s.headless) &&
    !s.tier.migs.any (fun k => k.slot == p.slot && k.va == p.va && k.stage != .walk))

/-- Migration m, whose checks have passed, takes a frame or has one freed by eviction, and goes on to the swap of its leaf
(R250, R253). -/
def State.takeFrame (s : State) (m : Mig) : State :=
  match (s.framesOf m.size).find? (fun a => !s.frameUsed a) with
  | some a => s.sendSwap { m with frame := some a, destPa := s.rd .PEER_CTL_NODE_ID * 2 ^ 44 + a } .swap1
  | none =>
    match s.poolVictim m m.size with
    | none => s.endMig m mgNOFRAME
    | some p =>
      if p.orphan then ((s.setMig { m with stage := .evict }).dropPromo p).bump .TIER_STATS_ORPHAN_DROPS
      else match s.leafOf p.slot p.va with
        | .error l => s.recallSoft l
        | .ok none => (s.setMig { m with stage := .evict }).discard p
        | .ok (some (a, e, _)) =>
          if !s.mapsFrame e p.frame p.size then (s.setMig { m with stage := .evict }).discard p
          else
            let (id, s) := s.newId
            let k : Mig := { id := id, ctx := none, root := m.root, parent := some m.id, payer := m.payer, flask := p.flask, slot := p.slot, va := p.va,
                             size := p.size, leafAt := a, leaf := e, first := e, destPa := p.home, dest := p.tier }
            let t := s.setMig { m with stage := .evict }
            ({ t with tier := { t.tier with migs := t.tier.migs ++ [k] } }).sendSwap k .swap1

/-- The entry e of a level is still the leaf that a walk has found. -/
def Leaf.isAt (l : Leaf) (e lv : Nat) : Bool :=
  bit e 0 && bit e 1 && levelSize lv == l.size && leafPa e == l.pa && leafTier e == l.tier && bit e 4 == l.rd &&
  bit e 5 == l.wr && bit e 6 == l.at_ && bit e 7 == l.sealed && bit e 10 == l.pub && bit e 11 == l.exempt

/-- Migration m's walk has found the leaf l: its value is read and checked (R243, R244 step 1). A leaf that is another by then
has changed before step 2. -/
def State.migLeaf (s : State) (m : Mig) (l : Leaf) : State :=
  match s.leafOf m.slot l.va with
  | .error line => s.recallSoft line
  | .ok none => s.endMig m mgCHANGED
  | .ok (some (a, e, lv)) =>
    if !l.isAt e lv then s.endMig m mgCHANGED
    else
      let size := levelSize lv
      let m := { m with va := l.va / size * size, size := size, leafAt := a, leaf := e, first := e }
      match s.migCheck m.flask m.dest e size with
      | some code => s.endMig m code
      | none =>
        if bit m.dest 2 then s.takeFrame m
        else s.sendSwap { m with destPa := s.rd .PEER_CTL_NODE_ID * 2 ^ 44 + bits m.dest 25 19 * sheet32M } .swap1

/-- Migration m touches host memory. -/
def Mig.host (m : Mig) : Bool := leafTier m.first == 1 || bits m.dest 0 2 == 1

/-- Migration m's copy stops, and its leaf is to be restored (R247). -/
def State.restoreMig (s : State) (m : Mig) : State := s.sendSwap { m with code := mgHOSTLOST, frame := none } .restore

/-- Migration j moves on as far as it can without another command. -/
def State.pumpMig (s : State) (j : Nat) : State :=
  match s.mig? j with
  | none => s
  | some m =>
    let early := match m.stage with | .walk | .evict | .swap1 => true | _ => false
    if early && s.migPourEnds m then (if s.migHeld m then s else s.dropMig m)
    else match m.stage, m.ctx with
      | .walk, some c => match s.ctx? c with
        | none => s
        | some x =>
          let t := s.ask (.mig j) x.seqr c m.va .read
          match t.granted (.mig j) m.va .read with
          | none => t
          | some l =>
            if bits m.dest 0 2 = 1 && t.hostAway then
              match t.askFor (.mig j) m.va .read with
              | some a => t.faultAsk a xfHOST_ABSENT (leafLevel l.size)
              | none => t
            else t.migLeaf m l
      | .evict, _ => if s.tier.migs.any (fun k => k.parent == some j) then s else s.takeFrame m
      | .copying, _ => if m.host && s.headless then s.restoreMig m else s
      | _, _ => s

/-- The migrations move on. -/
def State.pumpTier (s : State) : State :=
  let once (s : State) : State := (s.tier.migs.map Mig.id).foldl State.pumpMig s
  (once (once s)).pumpPromos

/-! ## Swaps and the copy (R244, R247) -/

/-- A failed swap of eviction m: its victim is looked at again, and passed over after four failures (R250). -/
def State.evictFailed (s : State) (m : Mig) : State :=
  let t := s.dropMig m
  match m.parent.bind t.mig?, t.tier.promos.find? (fun p => p.slot == m.slot && p.va == m.va) with
  | some q, some p => t.setMig (if 4 ≤ q.tries + 1 then { q with tries := 0, passed := p.frame :: q.passed }
      else { q with tries := q.tries + 1 })
  | _, _ => t

/-- MIGRATE_SWAP_RETURN (R244): the swap of migration j's leaf is carried out and returns. It is an atomic like any other for the
host cores that hold the leaf's line: one whose compare fails is a read (R319, R323). A promotion that it records while the host
is lost is an orphan (R253). -/
def State.swapReturn (s : State) (j : Nat) : State :=
  match s.mig? j with
  | none => s
  | some m =>
    let at_ := match m.stage with | .swap1 | .swap2 | .restore => true | _ => false
    if !at_ then s
    else match s.atomicHolds m.leafAt 2 8 m.leaf with
    | some l => if s.readsFirst 2 l then s.recallSoft l else s.recall l
    | none => match m.stage with
      | .swap1 =>
        if s.migPourEnds m then s.dropMig m
        else
          let new := setBits m.leaf 0 1 0
          match s.swapLeaf m.leafAt m.leaf new with
          | (true, t) => (t.setMig { m with leaf := new, stage := .inval }).invalidate (.mig j) [m.slot] (some (m.va, m.size))
          | (false, t) => if m.ctx.isNone then t.evictFailed m else t.endMig m mgCHANGED
      | .swap2 =>
        let new := leafTo m.first (bits m.dest 0 2) (paNode m.destPa) (paLocal m.destPa)
        match s.swapLeaf m.leafAt m.leaf new with
        | (false, t) => if m.ctx.isNone then t.evictFailed m else t.endMig m mgRACED
        | (true, t) =>
          let old := t.tier.promos.find? (fun p => p.slot == m.slot && p.va == m.va && leafPa m.first % 2 ^ 44 == p.frame)
          let t := match old with | some p => t.dropPromo p | none => t
          let t := match m.frame with
            | some a =>
              let p : Promo := { frame := a, size := m.size, flask := m.flask, slot := m.slot, va := m.va,
                                 home := leafPa m.first, tier := leafTier m.first, time := t.time, orphan := t.headless }
              { t with tier := { t.tier with promos := t.tier.promos ++ [p] } }
            | none => t
          if m.ctx.isNone then (t.dropMig m).bump .TIER_STATS_EVICTED else t.endMig m mgOK
      | _ =>
        let (_, t) := s.swapLeaf m.leafAt m.leaf m.first
        if m.ctx.isNone then t.evictFailed { m with stage := .restore } else t.endMig m m.code

/-- The listed bytes of [a, a + n) in HBM, by offset, as the die port returns them. -/
def State.rangeCells (s : State) (a n : Nat) : List (Nat × Byte) :=
  let here (x : Nat) : Bool := decide (a ≤ x ∧ x < a + n)
  let ks := (s.hbm.filter (fun c => here c.1)).map Prod.fst ++ s.wbuf.flatMap (fun st => (st.cells.filter (fun c => here c.1)).map Prod.fst)
  (ks.eraseDups.map (fun k => (k - a, s.dieByte k)))

/-- The range [a, a + n) of HBM takes the bytes of cells, by offset, and zero where none is listed. -/
def State.fillRange (s : State) (a n : Nat) (cells : List (Nat × Byte)) : State :=
  let cut (st : BufStore) : BufStore := { st with cells := st.cells.filter (fun c => !decide (a ≤ c.1 ∧ c.1 < a + n)) }
  let t := { s with wbuf := s.wbuf.map cut }
  (t.zero a n).putCells ((cells.filter (fun c => decide (c.1 < n))).map (fun c => (a + c.1, c.2)))

/-- Lines of the sheet at a, by number within it, as slag. -/
def slagLines (ls : List Nat) (cells : List (Nat × Byte)) : List (Nat × Byte) :=
  cells.filter (fun c => !ls.contains (c.1 / 64)) ++ ls.flatMap (fun l => cellsAt (64 * l) (slagBytes 64))

/-- What a migration and the evictions it causes are charged to (R414): the migrating pour's accumulator or counter. An eviction
that a FLASK reset leaves behind, after the receipt of that pour has been written, is charged to its flask's overhead (DESIGN
CHOICE, log entry 157). -/
def State.migCharge (s : State) (m : Mig) : Charge :=
  match m.payer with
  | .acc a => if s.meter.accs.any (fun b => b.id == a) then .acc a else .overhead m.flask
  | ch => ch

/-- MIGRATE_COPY_DONE (R244 step 4, R247): every write of migration j's copy is acknowledged. `host` lists the bytes of a
host source, by offset, that are not zero; `bad` the lines that met an error. -/
def State.copyDone (s : State) (j : Nat) (host : List (Nat × Byte)) (bad : List Nat) : State :=
  match s.mig? j with
  | none => s
  | some m =>
    let src := leafPa m.first % 2 ^ 44
    let dst := paLocal m.destPa
    let toHost := bits m.dest 0 2 == 1
    let within (a : Nat) (h : HostLine) : Bool := decide (a ≤ h.line * 64) && decide (h.line * 64 < a + m.size)
    let dirty := s.hlp.filter.filter (fun h => leafTier m.first == 0 && h.excl && within src h)
    let held := s.hlp.filter.filter (fun h => !toHost && within dst h)
    let bad := (bad.filter (fun l => decide (l * 64 < m.size))).eraseDups
    if m.stage ≠ .copying then s
    else if m.host && !s.on .CFG_BME then s
    else if !(dirty ++ held).isEmpty then
      (held.map HostLine.line).foldl State.recall ((dirty.map HostLine.line).foldl State.recallSoft s)
    else if leafTier m.first = 1 && !bad.isEmpty then s.restoreMig m
    else
      let cells := if leafTier m.first = 1 then host else slagLines bad (s.rangeCells src m.size)
      let ue (t : State) (l : Nat) : State :=
        (t.hbmUe (src + 64 * l) 4 0 0 m.flask ((m.root.map PourId.word).getD 0) 0x0C).bump .POISON_WR
      let ch := s.migCharge m
      let hosts := b2n (leafTier m.first == 1) + b2n toHost
      let t := ((bad.foldl ue s).countFor ch 9 ((2 - hosts) * m.size)).countFor ch 8 (hosts * m.size)
      let t := if toHost then t.say (.sheetOut dst m.size cells) else t.fillRange dst m.size cells
      t.sendSwap m .swap2

/-! ## Resets and host loss (R247, R252, R253) -/

/-- The migrations and frames of flask f are gone. -/
def State.tierFlaskReset (s : State) (f : Nat) : State :=
  let (mine, rest) := s.tier.migs.partition (fun m => m.flask == f)
  let t := { s with tier := { s.tier with migs := rest, promos := s.tier.promos.filter (fun p => p.flask != f) } }
  mine.foldl (fun t m => (t.forget (.mig m.id)).wakeMig m.id) t

/-- Entry to HEADLESS: every promotion is marked ORPHAN. -/
def State.orphanAll (s : State) : State :=
  { s with tier := { s.tier with promos := s.tier.promos.map (fun p => { p with orphan := true }) } }

/-! ## The hot-sheet table (R239, R241) -/

/-- HOT_DECAY (R239): the next multiple of the decay period has come. -/
def State.hotDecay (s : State) : State :=
  let p := 2 ^ s.rd .TIER_CTL_DECAY_LOG2 * 1000
  let t := s.elapse ((s.time / p + 1) * p)
  (t.listed .TIER_HOT_VALID).foldl (fun t i =>
    let n := t.rd .TIER_HOT_COUNT i / 2
    let t := t.wr .TIER_HOT_COUNT n i
    if t.on .TIER_HOT_FLAGGED i && decide (n < max (t.rd .TIER_CTL_THRESH) 1 / 2) then t.wr .TIER_HOT_FLAGGED 0 i else t) t

/-- TIER_CTL_WRITE (R241): a write of the register; HOT_EN at 0 disarms every counter. -/
def State.tierCtl (s : State) (size half val : Nat) : State :=
  let t := s.regWrite 0x410000 size half val
  if t.on .TIER_CTL_HOT_EN then t else t.disarmIf (fun _ => true)

end Sys2Proof.Machine
end

