-- ==== Sys2Proof/Machine/Flask.lean ====
section
/-! DEFINITION. Flasks (14): creation, the scrub, and the reset and teardown of a flask (R377, R378, R401 to R406). -/
namespace Sys2Proof.Machine

/-! ## FLASK_CREATE (R377, R378) -/

/-- What a FLASK_CREATE names; base, size and store are in granules, granules and MiB, off in 4 KiB. -/
structure Plan where
  f      : Nat
  groups : Nat
  base   : Nat
  size   : Nat
  qfirst : Nat
  qcount : Nat
  tfirst : Nat
  tcount : Nat
  off    : Nat
  store  : Nat
  deriving DecidableEq, Repr

/-- The parameters of the FLASK_CREATE in slot n (R455). -/
def State.plan (s : State) (n : Nat) : Plan :=
  { f := bits (s.par n 0) 0 6, groups := s.par n 1, base := bits (s.par n 2) 0 14, size := bits (s.par n 2) 16 14,
    qfirst := bits (s.par n 3) 0 12, qcount := bits (s.par n 3) 12 13, tfirst := bits (s.par n 3) 32 16,
    tcount := bits (s.par n 3) 48 16 + 1, off := bits (s.par n 4) 0 32, store := bits (s.par n 4) 32 12 }

/-- The ranges and the store of the plan are well formed. -/
def Plan.ok (p : Plan) : Bool :=
  p.groups != 0 && p.qcount != 0 && p.size != 0 && decide (p.base + p.size ≤ 12288) &&
  decide (p.qfirst + p.qcount ≤ 4096) && decide (p.tfirst + p.tcount ≤ 65536) &&
  decide (p.off * 4096 + p.store * 2 ^ 20 ≤ p.size * granule)

/-- Flask g owns something that the plan asks for. -/
def State.meetsPlan (s : State) (p : Plan) (g : Nat) : Bool :=
  (p.groups &&& s.rd .FL_GROUPS g) != 0 || overlaps p.base p.size (s.rd .FL_BASE g) (s.rd .FL_SIZE g) ||
  overlaps p.qfirst p.qcount (s.rd .FL_QFIRST g) (s.rd .FL_QCOUNT g) ||
  overlaps p.tfirst p.tcount (s.rd .FL_TFIRST g) (s.rd .FL_TCOUNT_M1 g + 1)

/-- The areas that a private range must avoid, as first byte and length (R377, R473). -/
def State.avoided (s : State) : List (Nat × Nat) :=
  s.areas ++ [(s.rd .RAS_REC_BASE_BASE * 4096, s.rd .RAS_REC_BASE_SIZE * 4096)]

/-- The first status of R377 that applies to the plan. -/
def State.createFails (s : State) (p : Plan) : Option Nat :=
  if s.flaskState p.f ≠ flFREE then some stSTATE
  else if !p.ok then some stBADARG
  else if s.flasks.any (s.meetsPlan p) ||
      s.avoided.any (fun r => overlaps (p.base * granule) (p.size * granule) r.1 r.2) then some stNORES
  else none

/-! ## The scrub (R405) -/

/-- The time until the scrub that has l bytes left has got them, among scrubs with ls left. -/
def scrubWait : (fuel l : Nat) → List Nat → Nat
  | 0, _, _ => 0
  | n + 1, l, ls =>
    let run := ls.filter (fun x => x != 0)
    match run with
    | [] => 0
    | x :: rest =>
      if l = 0 then 0
      else
        let m := rest.foldl min x
        ceilDiv (m * run.length) 8000 + scrubWait n (l - m) (ls.map (fun y => y - m))

/-- A scrub of granules gs of flask f starts. -/
def State.startScrub (s : State) (f : Nat) (slot : Option Nat) (gs : List Nat) : State :=
  let t := s.scrubNow
  { t with scrubs := t.scrubs ++ [{ flask := f, slot := slot, granules := gs, left := gs.length * granule }] }

/-- Every byte of the granules is zero, and no store accepted before is to be committed there. -/
def State.zeroGranules (s : State) (gs : List Nat) : State :=
  let out (c : Nat × Byte) : Bool := !gs.contains (c.1 / granule)
  let cut (st : BufStore) : BufStore := { st with cells := st.cells.filter out }
  { s with hbm := s.hbm.filter out, wbuf := s.wbuf.map cut }

/-- FLASK_CREATE in slot n from its start point (R377, R378). -/
def State.flaskCreate (s : State) (n : Nat) : State :=
  let p := s.plan n
  match s.createFails p with
  | some st => s.reply n st
  | none =>
    let f := p.f
    let t := (((s.wr .FL_GROUPS p.groups f).wr .FL_BASE p.base f).wr .FL_SIZE p.size f).wr .FL_QFIRST p.qfirst f
    let t := ((t.wr .FL_QCOUNT p.qcount f).wr .FL_TFIRST p.tfirst f).wr .FL_TCOUNT_M1 (p.tcount - 1) f
    let t := ((t.wr .MC_STORE_BASE (p.base * 8192 + p.off) f).wr .MC_STORE_SIZE p.store f).wr .FL_LABEL (s.par n 5) f
    let t := (t.wr .FL_AUTO_RESET (bits (s.par n 0) 48 1) f).wr .FL_STATE flCREATING f
    t.startScrub f (some n) (((List.range p.size).map (fun i => p.base + i)).filter (fun g => t.on .SEAL_GRAN_DIRTY g))

/-! ## Key slots -/

/-- The fields of a key slot. -/
def slotFields : List Field := [.KEY_SLOT_VALID, .KEY_SLOT_USE, .KEY_SLOT_FLASK, .KEY_SLOT_FLASK_GEN]

/-- The key slots that hold a key of flask f. -/
def State.slotsOf (s : State) (f : Nat) : List Nat :=
  (s.listed .KEY_SLOT_VALID).filter (fun k => s.rd .KEY_SLOT_FLASK k == f)

/-- Key slot k is empty. -/
def State.clearSlot (s : State) (k : Nat) : State :=
  let f := s.rd .KEY_SLOT_FLASK k
  let t := if s.on .FL_EGRESS_VALID f && s.rd .FL_EGRESS_SLOT f == k then s.rstAll [.FL_EGRESS_VALID, .FL_EGRESS_SLOT] f else s
  let t := if s.rd .KEY_SLOT_USE k = 3 then t.rst .FL_CMD_SLOT f else t
  ({ t with keys := t.keys.filter (fun m => m.slot != k) }).rstAll slotFields k

/-- Key slot k is zeroed and R304 applies. -/
def State.zeroSlot (s : State) (k : Nat) : State := (s.keyRevoked k).clearSlot k

/-! ## The start of a reset or teardown (R402, steps 1 to 4) -/

/-- Request r belongs to a pour of flask f, or is a completion record of one of its queues. -/
def State.reqIn (s : State) (f : Nat) (r : Req) : Bool :=
  match r.purpose with
  | .record q _ => s.rd .QCTX_FLASK q == f
  | .inbound _ _ _ => false
  | _ => r.root.isSome && r.flask == f && !(s.ctx? r.ctx).any Ctx.mgmt

/-- An accepted write that is dropped by the reset of flask f is counted. -/
def State.countDrop (s : State) (f : Nat) (n : Nat := 1) : State :=
  (s.bump .HAP_DROP_FLASK_DROPS 0 n).bump .FL_TEAR_DROPPED f n

/-- The FLASK row of R270: a write of flask f that has not been issued is dropped; one to a peer gets a loss record
(R354). -/
def State.dropWrite (s : State) (f : Nat) (r : Req) : State :=
  let t := (s.dropReq r.id).countDrop f
  let t := if r.tier = 2 then (t.errRecord (s.lossBytes r 6)).bump .FL_TEAR_PEER_LOST f else t
  let t := match r.purpose with
    | .record _ _ => { t with qm := { t.qm with records := t.qm.records.filter (fun x => x.id != r.id) } }
    | _ => t
  t.answerFences

/-- Everything of flask f that has been accepted and not issued is dropped. -/
def State.dropUnissued (s : State) (f : Nat) : State :=
  let mine := s.reqs.filter (fun r => !r.issued && s.reqIn f r)
  let t := mine.foldl (fun t r => if r.isWrite then t.dropWrite f r else t.dropReq r.id) s
  let blocks := t.cast.egress.filter (fun e => e.flask == f)
  let t := blocks.foldl (fun t e =>
    let r := { e.req with kind := .write (cellsAt e.pa e.data) }
    let t := t.countDrop f
    if e.tier = 2 then (t.errRecord (t.lossBytes r 6)).bump .FL_TEAR_PEER_LOST f else t) t
  let t := { t with cast := { t.cast with egress := t.cast.egress.filter (fun e => e.flask != f) } }
  let held := t.hlp.holdWait.filter (fun h => t.qm.records.any (fun r => r.id == h.1 && t.rd .QCTX_FLASK r.queue == f))
  let t := t.countDrop f held.length
  { t with hlp := { t.hlp with holdWait := t.hlp.holdWait.filter (fun h => !held.contains h) },
           qm := { t.qm with records := t.qm.records.filter (fun r => !held.any (fun h => h.1 == r.id)) } }

/-- The outputs with which item `it` of job j is completed as slag. -/
def Job.slagOut (j : Job) (it : Item) : List Output :=
  let k := if cdEgress j.d then
      (j.rowsOf it.n).foldl (fun (y : Job) r => y.emit it.caster false (j.rowAt it.n r).1 (slagBytes (j.rowAt it.n r).2)) j
    else j.emitTile it.caster it.n (j.place it.n) true [] []
  k.out.drop j.out.length

/-- The tier and place that the atlas of context x gives address va now: by the sheet cache, or by its leaf in memory. -/
def State.placeOf (s : State) (x : Ctx) (va : Nat) : Option (Nat × Nat) :=
  (s.slotOf x).bind (fun a => match s.sheetHit a va with
    | some l => some (l.tier, l.at! va)
    | none => match s.leafOf a va with
      | .ok (some (_, e, lv)) => if bit e 0 then some (bits e 8 2, bits e 25 31 * sheet32M + va % levelSize lv) else none
      | _ => none)

/-- The slag output o of job j meets the FLASK row of R270: it is dropped and counted, and one bound for a peer sheet has its loss
record (R354). -/
def State.dropSlag (s : State) (f : Nat) (j : Job) (o : Output) : State :=
  let t := s.countDrop f
  match (s.ctx? j.ctx).bind (fun x => s.placeOf x o.va) with
  | some (2, pa) =>
    let r := t.reqOf (.caster o.caster) j.ctx 2 (paNode pa) (paLocal pa) o.va (.write (cellsAt (paLocal pa) o.data))
    (t.errRecord (t.lossBytes r 6)).bump .FL_TEAR_PEER_LOST f
  | _ => t

/-- The items of flask f that are in progress under a key are completed as slag; their writes meet the FLASK row of R270,
which drops them (R402, step 3). -/
def State.tearItems (s : State) (f : Nat) : State :=
  s.cast.jobs.foldl (fun t j =>
    if j.flask != f || j.desc.isNone || !cdSealed j.d || (s.jobKey j).isNone || j.code.isSome then t
    else j.items.foldl (fun t it =>
      (j.slagOut it).foldl (fun t o => t.dropSlag f j o) (((t.bump .CAST_STATS_SLAGGED).bump .POISON_WR).bump .FL_TEAR_SLAGGED f)) t) s

/-- The migrations of flask f are removed (R247). -/
def State.dropMigs (s : State) (f : Nat) : State :=
  let mine := s.tier.migs.filter (fun m => m.flask == f)
  let t := { s with tier := { s.tier with migs := s.tier.migs.filter (fun m => m.flask != f) } }
  mine.foldl (fun t m => (t.forget (.mig m.id)).wakeMig m.id) t

/-- The moulds of ms, which are being loaded, are given up: their entries, fills and segments go. -/
def State.dropLoads (s : State) (ms : List Mould) : State :=
  let gone (i : Nat) : Bool := ms.any (fun m => m.idx == i)
  { s with moulds := { s.moulds with table := s.moulds.table.filter (fun m => !gone m.idx),
                                     fills := s.moulds.fills.filter (fun x => !gone x.idx),
                                     segs := s.moulds.segs.filter (fun x => !gone x.idx) } }

/-- Commands of flask f that wait end with STATE: loads, seals, sealed commands, migration messages and a quench (R404,
R432); a CONFIRM among them is a refused sealed command (R388). A legend whose snapshot is taken goes on (R397). -/
def State.endCommands (s : State) (f : Nat) : State :=
  let loads := s.moulds.table.filter (fun m => m.flask == some f && !m.loaded)
  let mine (r : KyReq) : Bool := match r.ask with
    | .legend _ _ | .cert _ _ | .image _ _ | .commit _ => false
    | _ => r.flask == f
  let slots := loads.filterMap Mould.slot ++ (s.kyreqs.filter mine).map KyReq.slot ++
    (s.seals.filter (fun w => w.flask == f)).map SealWait.slot ++ (s.quenches.filter (fun q => q.flask == f)).map Quench.slot
  let t := s.dropLoads loads
  let t := { t with kyreqs := s.kyreqs.filter (fun r => !mine r), seals := s.seals.filter (fun w => w.flask != f),
                    quenches := s.quenches.filter (fun q => q.flask != f) }
  let t := if s.sealsAsked.any (fun p => p.1 == f) then t.setSeals f (fun _ => 0) else t
  let confirms := ((s.kyreqs.filter mine).filter (fun r => r.ask.isConfirm)).length
  (t.bump .FL_STATS_CMD_REFUSED 0 confirms).replyAll slots stSTATE

/-- The contexts of flask f. -/
def State.ctxsOf (s : State) (f : Nat) : List Ctx := s.ctxs.filter (fun x => x.flask == f && !x.mgmt)

/-- The walks of flask f stop, what its units hold for it is removed, its unstarted lane records go, and its running
kernels are asked to stop and killed 20 µs later (R402, step 3). -/
def State.stopFlask (s : State) (f : Nat) : State :=
  let cs := (s.ctxsOf f).map Ctx.num
  let t := (s.ctxsOf f).foldl (fun t x => if x.depth = 0 then t.refuseTree x.num else t) s
  let t := { t with ctxs := updAll t.ctxs (fun x => cs.contains x.num) (fun x => { x with stopped := true, begun := false, patch := none }) }
  let t := t.dropUnits (fun c => cs.contains c)
  let ks := t.kernels.filter (fun k => cs.contains k.ctx)
  let t := ks.foldl (fun t k => (t.removeUnstarted k).stopKernel k) t
  let t := t.lanes.foldl (fun t l => match l.running with
    | some k => if ks.any (fun x => x.id == k) then t.setLane { t.lane l.eng with killReq := some (t.time + 20000) } else t
    | none => t) t
  t.pump

/-- A FLASK reset or teardown of flask f starts (R402), or joins the one under way (R404). -/
def State.startTear (s : State) (f : Nat) (destroy : Bool) (slots : List Nat) : State :=
  if s.tears.any (fun w => w.flask == f) then
    let join (w : Tear) : Tear := { w with destroy := w.destroy || destroy, slots := w.slots ++ slots }
    let t := { s with tears := updAll s.tears (fun w => w.flask == f) join }
    if destroy then t.wr .FL_STATE flDESTROYING f else t
  else if s.flaskState f = flFREE ∨ s.flaskState f = flCREATING then s
  else
    let t := s.rstAll [.FL_TEAR_KILLED, .FL_TEAR_SLAGGED, .FL_TEAR_DROPPED, .FL_TEAR_PEER_LOST] f
    let t := (t.closeAccs (fun a => a.flask == f) rfRESET).tearItems f
    let t := (s.slotsOf f).foldl State.clearSlot t
    let t := (t.adv .FL_GEN f).wr .FL_STATE (if destroy then flDESTROYING else flRESETTING) f
    let w : Tear := { flask := f, destroy := destroy, slots := slots }
    let t := { t with tears := t.tears ++ [w] }
    let t := (t.rstAll [.FL_DEBUG, .FL_PROFILE, .FL_CMD_SLOT] f).endCommands f
    let t := t.disarmIf (fun i => t.rd .XL_ATLAS_FLASK (t.rd .TIER_HOT_SLOT i) == f)
    ((t.stopFlask f).dropMigs f).dropUnissued f

/-- FLASK_RESET or FLASK_DESTROY in slot n from its start point (R401, R404). -/
def State.flaskTear (s : State) (n : Nat) (destroy : Bool) : State :=
  let f := (s.fref n).1
  let st := s.flaskState f
  if !s.frefOk n then (s.frefStale n).reply n stSTATE
  else if st = flFREE ∨ st = flCREATING ∨ (st = flDESTROYING ∧ destroy = false) then s.reply n stSTATE
  else s.startTear f destroy [n]

/-! ## Step 5 -/

/-- Steps 3 and 4 of the reset of flask f are complete. -/
def State.quiet (s : State) (f : Nat) : Bool :=
  !s.lanes.any (fun l => match l.running.bind s.kernel? with
    | some k => k.flask == f && !(s.ctx? k.ctx).any Ctx.mgmt
    | none => false) &&
  !s.reqs.any (fun r => r.issued && r.writes && s.reqIn f r) &&
  !s.hlp.waits.any (fun w => match w.act with
    | .store st => (s.ctx? st.ctx).any (fun x => x.flask == f && !x.mgmt)
    | _ => false)

/-- The fields of a flask that a FLASK reset returns to their reset values beside those of step 1 (R402, R470). -/
def flaskFields : List Field :=
  [.QM_FLASK_W_WEIGHT, .SEQ_FLASK_WP_LOG2, .SEQ_DEADLOCK_COUNT, .SEQ_DEADLOCK_Q0, .SEQ_DEADLOCK_Q1, .SEQ_DEADLOCK_Q2,
   .SEQ_DEADLOCK_Q3, .XL_FLASK_STALL, .XL_FLASK_HELD, .XL_FLASK_NEXT_ID, .XL_FRING_BASE_BASE, .XL_FRING_BASE_SIZE,
   .XL_FRING_PTRS_WR_IDX, .XL_FRING_PTRS_RD_IDX, .TIER_MIG_LAST, .TIER_MIG_DONE, .TIER_MIG_FAILED, .TIER_HRING_BASE_BASE,
   .TIER_HRING_BASE_SIZE, .TIER_HRING_PTRS_WR_IDX, .TIER_HRING_PTRS_RD_IDX, .TIER_HRING_PTRS_LOST, .CAST_ELOG_BASE_BASE,
   .CAST_ELOG_BASE_SIZE, .CAST_ELOG_PTRS_WR_IDX, .CAST_ELOG_PTRS_RD_IDX, .FL_LOCKED, .FL_EGRESS_SLOT, .FL_EGRESS_VALID,
   .FL_CAUSE_EXCEPTION, .FL_CAUSE_DEADLOCK, .FL_CAUSE_HOT_SHEET, .FL_CAUSE_ELOG_FULL, .FL_CAUSE_SEALED_OK, .QN_PHASE,
   .QN_LAST, .QN_REMAINING, .QN_IMG_LEN, .QN_QP]

/-- The engines of flask f. -/
def State.flaskEngines (s : State) (f : Nat) : List Nat := (onesOf (s.rd .FL_GROUPS f) 64).flatMap enginesOf

/-- The fields, granules and timelines of flask f as a reset leaves them. -/
def State.resetFlaskFields (s : State) (f : Nat) : State :=
  let t := s.rstAll flaskFields f
  let t := (List.range 16).foldl (fun t j =>
    t.rstAll [.FL_PUBVA_PASID, .FL_PUBVA_VALID, .FL_PUBVA_SIZE, .FL_PUBVA_BASE] (f * 16 + j)) t
  let t := (s.flaskEngines f).foldl (fun t e => t.rstAll [.LANE_WP_VALUE, .LANE_WP_STALLED, .LANE_WP_MOVED_AT] e) t
  let t := ((t.listed .TL_COUNTER).filter (fun i => decide (t.rd .FL_TFIRST f ≤ i) &&
    decide (i ≤ t.rd .FL_TFIRST f + t.rd .FL_TCOUNT_M1 f))).foldl (fun t i => t.rst .TL_COUNTER i) t
  (t.setSeals f (fun _ => 0)).setVault { flask := f, everSealed := (t.vault f).everSealed }

/-- The contexts and kernels of flask f are freed. -/
def State.freeFlaskWork (s : State) (f : Nat) : State :=
  let cs := (s.ctxsOf f).map Ctx.num
  let ks := (s.kernels.filter (fun k => cs.contains k.ctx)).map Kernel.id
  let strip (l : Lane) : Lane :=
    { l with queue := l.queue.filter (fun k => !ks.contains k),
             shadow := l.shadow.bind (fun k => if ks.contains k then none else some k) }
  let s := s.dropWaiters (fun c => cs.contains c)
  { s with ctxs := s.ctxs.filter (fun x => !cs.contains x.num), kernels := s.kernels.filter (fun k => !ks.contains k.id),
           lanes := s.lanes.map strip,
           faulted := s.faulted.filter (fun g => g != f), waiting := s.waiting.filter (fun p => p.1 != f),
           cycles := s.cycles.filter (fun p => p.1 != f) }

/-- FLASK_RESET_QUIESCED (R402, steps 5 and 6): the queues, moulds, atlases and frames of flask f are reset and its scrub
starts. A queue whose destruction is under way is left to it (R469). -/
def State.tearQuiesced (s : State) (f : Nat) : State :=
  match s.tears.find? (fun w => w.flask == f && !w.scrub) with
  | none => s
  | some _ =>
    if !s.quiet f then s
    else
      let t := s.freeFlaskWork f
      let keep (r : PendRec) : Bool := t.rd .QCTX_FLASK r.queue != f || t.qState r.queue == 0
      let t := { t with qm := { t.qm with records := t.qm.records.filter keep } }
      let qs := (t.listed .QCTX_STATE).filter (fun q => t.rd .QCTX_FLASK q == f && !t.qm.destroys.any (fun d => d.queue == q))
      let t := qs.foldl State.queueReset t
      let t := (t.moulds.table.filter (fun m => m.flask == some f)).foldl State.dropMould t
      let as := t.atlases.filter (fun a => t.rd .XL_ATLAS_FLASK a == f)
      let t := if as.isEmpty then t else t.invalidate (.unbind none) as none
      let joined (a : Ask) : Bool := match a.wait with | .held g _ => g == f | _ => false
      let t := { t with xl := { t.xl with helds := t.xl.helds.filter (fun h => h.flask != f),
                                          asks := t.xl.asks.filter (fun a => !joined a),
                                          ringFull := t.xl.ringFull.filter (fun g => g != f) },
                        cast := { t.cast with full := t.cast.full.filter (fun g => g != f) } }
      let t := ((t.tierFlaskReset f).resetFlaskFields f)
      let t := { t with tears := updAll t.tears (fun x => x.flask == f) (fun x => { x with scrub := true }) }
      (t.startScrub f none ((List.range (t.rd .FL_SIZE f)).map (fun i => t.rd .FL_BASE f + i))).settleDestroys

/-! ## The end (R378, R403) -/

/-- The fields that describe the resources of a destroyed flask (R403). -/
def resourceFields : List Field :=
  [.FL_GROUPS, .FL_BASE, .FL_SIZE, .FL_QFIRST, .FL_QCOUNT, .FL_TFIRST, .FL_TCOUNT_M1, .FL_AUTO_RESET, .FL_LABEL,
   .FL_EXC_ENGINE, .FL_EXC_QUEUE, .FL_EXC_QGEN, .MC_STORE_BASE, .MC_STORE_SIZE]

/-- The reset or teardown of flask f ends with its scrub (R403). -/
def State.endTear (s : State) (f : Nat) : State :=
  match s.tears.find? (fun w => w.flask == f && w.scrub) with
  | none => s
  | some w =>
    let t := { s with tears := s.tears.filter (fun x => x.flask != f) }
    let t := (t.adv .FL_RESETS f).flaskCause f .FL_CAUSE_DONE
    let t := if w.destroy then ((t.rstAll resourceFields f).wr .FL_STATE flFREE f).setVault { flask := f } else t.wr .FL_STATE flOPEN f
    t.replyAll w.slots stOK

/-- The creation of flask f ends with its scrub (R378). -/
def State.endCreate (s : State) (f n : Nat) : State :=
  let gs := (List.range (s.rd .FL_SIZE f)).map (fun i => s.rd .FL_BASE f + i)
  let t := gs.foldl (fun t g => (t.wr .SEAL_GRAN_DIRTY 1 g).wr .SEAL_GRAN_SEAL 0 g) s
  (t.wr .FL_STATE flOPEN f).reply n stOK [t.flaskGen f]

/-- The unbinding of flask f's atlases has not completed. -/
def State.unbinding (s : State) (f : Nat) : Bool :=
  s.xl.invs.any (fun v => v.source == .unbind none && v.slots.any (fun a => s.rd .XL_ATLAS_FLASK a == f))

/-- SCRUB_COMPLETE (R405): the scrub of flask f has its share, and its writes are committed. -/
def State.scrubComplete (s : State) (f : Nat) : State :=
  match s.scrubs.find? (fun c => c.flask == f) with
  | none => s
  | some _ =>
    if s.unbinding f then s
    else
      let t := s.scrubNow
      let ls := t.scrubs.map Scrub.left
      let left := ((t.scrubs.find? (fun c => c.flask == f)).map Scrub.left).getD 0
      let t := (t.elapse (t.time + scrubWait (ls.length + 1) left ls)).scrubNow
      match t.scrubs.find? (fun c => c.flask == f) with
      | none => t
      | some c =>
        let t := ({ t with scrubs := t.scrubs.filter (fun x => x.flask != f) }).zeroGranules c.granules
        let t := c.granules.foldl (fun t g => t.wr .SEAL_GRAN_DIRTY 0 g) t
        match c.slot with
        | some n => t.endCreate f n
        | none => t.endTear f

end Sys2Proof.Machine
end

