-- ==== Sys2Proof/Machine/Seal.lean ====
section
/-! DEFINITION. Sealing (14): FLASK_SEAL, the sealed commands, and the legend (R380 to R397). -/
namespace Sys2Proof.Machine

/-! ## Kyrdo -/

/-- The command in slot n asks Kyrdo. -/
def State.askKyrdo (s : State) (n f : Nat) (ask : KyAsk) : State :=
  let r : KyReq := { slot := n, flask := f, gen := s.flaskGen f, at_ := s.time, ask := ask }
  { s.say (.kyrdo n ask) with kyreqs := s.kyreqs ++ [r] }

/-- What the command in slot n has asked Kyrdo. -/
def State.kyreq? (s : State) (n : Nat) : Option KyReq := s.kyreqs.find? (fun r => r.slot == n)

/-- The request of slot n is over. -/
def State.dropKy (s : State) (n : Nat) : State := { s with kyreqs := s.kyreqs.filter (fun r => r.slot != n) }

/-! ## FLASK_SEAL (R380, R381) -/

/-- Some run meets a later one. -/
def runsMeet : List (Nat × Nat) → Bool
  | [] => false
  | r :: rest => rest.any (fun q => overlaps r.1 r.2 q.1 q.2) || runsMeet rest

/-- Granules [first, first + n) of flask f, from its range start, touch its mould store. -/
def State.touchesStore (s : State) (f first n : Nat) : Bool :=
  let (a, z) := s.storeArea (some f)
  overlaps (s.flaskBase f + first * granule) (n * granule) a z

/-- Granules [first, first + n) may be public: inside the range and clear of the mould store. -/
def State.mayPublish (s : State) (f first n : Nat) : Bool :=
  decide (first + n ≤ s.rd .FL_SIZE f) && !s.touchesStore f first n

/-- Work of flask f is in flight, or a frame of the tier pool holds a sheet of it (R380). -/
def State.flaskBusy (s : State) (f : Nat) : Bool :=
  !(s.ctxsOf f).isEmpty || s.cast.jobs.any (fun j => j.flask == f) || s.tier.migs.any (fun m => m.flask == f) ||
  s.tier.promos.any (fun p => p.flask == f)

/-- FLASK_SEAL in slot n from its start point (R380): Kyrdo is asked for a key pair. -/
def State.flaskSeal (s : State) (n : Nat) : State :=
  let f := (s.fref n).1
  let runs := s.sealRuns n
  if !s.frefOk n then (s.frefStale n).reply n stSTATE
  else if s.flaskState f ≠ flOPEN then s.reply n stSTATE
  else if s.flaskBusy f then s.reply n stSTATE
  else if runs.any (fun r => !s.mayPublish f r.1 r.2) || runsMeet runs then s.reply n stBADARG
  else s.askKyrdo n f .create

/-- The lines that host cores hold in sealed granules of flask f. -/
def State.sealedLines (s : State) (f : Nat) : List Nat :=
  (s.hlp.filter.map HostLine.line).filter (fun l => s.inFlask f (l * 64) 64 && s.granSealed (l * 64 / granule))

/-- The lines of sealed granules of flask f for which host accesses accepted before the seal point wait: they complete
normally, and the copies they bring are recalled (R40). -/
def State.sealedWaits (s : State) (f : Nat) : List Nat :=
  (s.hlp.waits.filterMap (fun w => w.act.hpa?.bind (fun hpa => (s.windowAt hpa).map (fun n => lineOf (s.winAddr n hpa))))).filter
    (fun l => s.inFlask f (l * 64) 64 && s.granSealed (l * 64 / granule))

/-- Host copies of sealed granules of flask f are recalled, and the command in slot n waits for them, for the accesses under
way to such granules and for its invalidations (R40). -/
def State.waitSeal (s : State) (w : SealWait) : State :=
  let ls := s.sealedLines w.flask
  let t := ls.foldl State.recall s
  { t with seals := t.seals ++ [{ w with lines := ls ++ s.sealedWaits w.flask }] }

/-- The sealing unit's records of sheets that differ between two states, by key, as they are in the first. -/
def State.sealOld (s t : State) : List (Nat × Nat) :=
  let fs := [Field.FL_STATE, .SEAL_GRAN_SEAL, .FL_PUBVA_VALID, .FL_PUBVA_PASID, .FL_PUBVA_BASE, .FL_PUBVA_SIZE].map Field.num
  let ks := ((s.regs ++ t.regs).map Prod.fst).filter (fun k => fs.contains (k % 1024) && aget s.regs k 0 != aget t.regs k 0)
  ks.eraseDups.map (fun k => (k, aget s.regs k 0))

/-- An invalidation of form PASID for each atlas of flask f, for the command in slot n, after a change of the records from
those of s0 (R204, R220). -/
def State.sealInv (s s0 : State) (n f : Nat) : State :=
  let old := s0.sealOld s
  (s.atlases.filter (fun a => s.rd .XL_ATLAS_FLASK a == f)).foldl (fun t a => t.invalidate (.seal n) [a] none false old) s

/-- The loaded moulds of flask f in ascending handle index. -/
def State.mouldsOf (s : State) (f : Nat) : List Mould :=
  let mine := s.moulds.table.filter (fun m => m.flask == some f && m.loaded)
  let order := mine.foldl (fun l m => insertNat m.idx l) []
  order.filterMap (fun i => mine.find? (fun m => m.idx == i))

/-- KYRDO_SEAL_ANSWER (R381): Kyrdo has made the key pair for the FLASK_SEAL in slot n. -/
def State.sealAnswer (s : State) (n : Nat) (pub : List Byte) : State :=
  match s.kyreq? n with
  | none => s
  | some r =>
    match r.ask with
    | .create =>
      let f := r.flask
      let t := (s.dropKy n).setSeals f (sealedAs (s.sealRuns n))
      let t := ((t.wr .FL_STATE flSEALING f).wr .FL_DEBUG 0 f).wr .FL_PROFILE 0 f
      let chain := (t.mouldsOf f).foldl (fun c m => chainNext c m.digest m.idx m.gen) (zeros 48)
      let t := t.setVault { flask := f, chain := chain, pub := pub, everSealed := true }
      let t := t.disarmIf (fun i => t.rd .XL_ATLAS_FLASK (t.rd .TIER_HOT_SLOT i) == f)
      (t.sealInv s n f).waitSeal { slot := n, flask := f }
    | _ => s

/-- SEAL_RECALL_COMPLETE (R40): the host has given up every line of flask f's newly sealed granules. -/
def State.sealRecallComplete (s : State) (f : Nat) : State :=
  let done (w : SealWait) : Bool := w.flask == f && !w.lines.any s.hostHeld && (s.sealedWaits f).isEmpty
  { s with seals := updAll s.seals done (fun w => { w with lines := [] }) }

/-! ## Envelopes (R384, R385) -/

def envOp (b : List Byte) : Nat := fld b 0 0 8
def envClen (b : List Byte) : Nat := fld b 0 16 12
def envElen (b : List Byte) : Nat := fld b 0 32 12
def envFlask (b : List Byte) : Nat := fld b 0 44 6
def envGen (b : List Byte) : Nat := fld b 0 50 10
def envSeq (b : List Byte) : Nat := leAt b 8 8

/-- Bytes of the envelope whose header is b. -/
def envLen (b : List Byte) : Nat := 64 + envClen b + envElen b + 16

/-- The reserved bits of an envelope's header are zero. -/
def envClean (b : List Byte) : Bool :=
  fld b 0 8 8 == 0 && fld b 0 28 4 == 0 && fld b 0 60 4 == 0 && (slice b 16 48).all (fun x => x == 0)

/-- The envelope that slot n names, as the sealing unit reads it. -/
def State.envelope (s : State) (n : Nat) : List Byte :=
  s.dieRead (s.par n 1) (envLen (s.dieRead (s.par n 1) 64))

/-- The encrypted part of an envelope, where its tag verifies under the key (R385). -/
def envOpen (key b : List Byte) : Option (List Byte) :=
  gcmOpen key (beBytes 12 (2 ^ 64 + envSeq b)) (b.take (64 + envClen b)) (slice b (64 + envClen b) (envElen b))
    (slice b (64 + envClen b + envElen b) 16)

/-- The envelope b has been decrypted under a key of flask f (R385): its bytes are counted as overhead (R415). -/
def State.countOpen (s : State) (f : Nat) (b : List Byte) : State := s.countFor (.overhead f) 11 (envElen b)

/-- The operations of R387. -/
def opCONFIRM : Nat := 1
def opPUBLIC_SET : Nat := 2
def opKEY_IMPORT : Nat := 3
def opKEY_DESTROY : Nat := 4
def opCONSENT : Nat := 5
def opMOULD_ALLOW : Nat := 6

/-- [a, a + n) lies in public granules of flask f and starts on a 64 B boundary. -/
def State.publicBuf (s : State) (f a n : Nat) : Bool := a % 64 == 0 && s.inFlask f a n && s.allPublic a n

/-- The reply envelope of slot n may be written, with a payload of n bytes. -/
def State.replyPlace (s : State) (n f len : Nat) : Bool := s.publicBuf f (s.par n 2) (80 + len)

/-- The reply envelope of the command in slot n under key slot m: header, payload and tag (R385). -/
def State.replyEnv (s : State) (n : Nat) (m : KeyMat) (op f gen cseq status : Nat) (payload : List Byte) : State :=
  let h := leBytes 8 (op + payload.length * 2 ^ 32 + f * 2 ^ 44 + gen * 2 ^ 50) ++ leBytes 8 cseq ++ leBytes 8 status ++
    leBytes 8 m.ctr ++ zeros 32
  let (ct, tag, t) := s.encrypt m h payload
  (t.countFor (.overhead f) 11 payload.length).mailWrite f (s.par n 2) (h ++ ct ++ tag)

/-- A sealed command is refused (R388). -/
def State.refuseCmd (s : State) (n status : Nat) : State := (s.bump .FL_STATS_CMD_REFUSED).reply n status

/-- A sealed command is refused after its tag has verified: a reply envelope goes out where its address permits. -/
def State.refuseEnv (s : State) (n : Nat) (m : KeyMat) (b : List Byte) (status : Nat) : State :=
  let t := if s.replyPlace n (envFlask b) 0 then
      s.replyEnv n m (envOp b) (envFlask b) (envGen b) (envSeq b) status [] else s
  t.refuseCmd n status

/-- The flask, generation and state of the envelope agree with the command in slot n (R388, first row). -/
def State.envFits (s : State) (n : Nat) (b : List Byte) : Bool :=
  let f := (s.fref n).1
  envFlask b == f && envGen b == s.flaskGen f &&
  (if envOp b = opCONFIRM then s.flaskState f == flSEALING else s.flaskState f == flSEALED)

/-- The key that sealed commands of flask f come under. -/
def State.cmdKey (s : State) (f : Nat) : Option KeyMat :=
  let k := s.rd .FL_CMD_SLOT f
  if s.rd .KEY_SLOT_USE k = 3 then s.keyFor k f else none

/-- The bytes of an encrypted part from i to j (not included) are zero. -/
def zeroFrom (pt : List Byte) (i j : Nat) : Bool := (slice pt i (j - i)).all (fun x => x == 0)

/-! ## The operations (R387) -/

/-- What an operation does: a status that refuses it, or the reply payload, the state, and whether it replies only once
its invalidations and recalls are complete. -/
abbrev Effect := Except Nat (List Byte × State × Bool)

/-- The format of an encrypted part and the range of its arguments. -/
def State.argsOk (s : State) (f op : Nat) (pt : List Byte) : Bool :=
  let at_ (i n : Nat) : Nat := leAt pt i n
  if op = opPUBLIC_SET then
    decide (at_ 0 1 ≤ 1) && decide (at_ 1 1 ≤ 1) && zeroFrom pt 2 8 &&
    (if at_ 0 1 = 0 then pt.length == 16 && s.mayPublish f (at_ 8 4) (at_ 12 4)
     else pt.length == 40 && decide (at_ 8 1 < 16) && zeroFrom pt 9 16 && decide (at_ 16 4 < 2 ^ 20) && zeroFrom pt 20 24 &&
      at_ 24 8 % sheet32M == 0 && at_ 32 8 % sheet32M == 0 && decide (at_ 24 8 + at_ 32 8 ≤ 2 ^ 57) &&
      (at_ 1 1 == 0 || (at_ 32 8 != 0 && decide (at_ 32 8 / sheet32M < 2 ^ 25) &&
        !(List.range 16).any (fun j => j != at_ 8 1 && s.on .FL_PUBVA_VALID (f * 16 + j) &&
          s.rd .FL_PUBVA_PASID (f * 16 + j) == at_ 16 4 &&
          overlaps (at_ 24 8) (at_ 32 8) (s.rd .FL_PUBVA_BASE (f * 16 + j) * sheet32M)
            (s.rd .FL_PUBVA_SIZE (f * 16 + j) * sheet32M)))))
  else if op = opKEY_IMPORT then pt.length == 64 && (at_ 0 1 == 1 || at_ 0 1 == 2) && zeroFrom pt 1 32
  else if op = opKEY_DESTROY then pt.length == 1 && (s.keyFor (at_ 0 1) f).isSome
  else if op = opCONSENT then pt.length == 1 && decide (at_ 0 1 ≤ 3)
  else if op = opMOULD_ALLOW then
    decide (at_ 0 1 ≤ 64) && decide (at_ 1 1 ≤ 1) && zeroFrom pt 2 64 && pt.length == 64 + 48 * at_ 0 1
  else false

/-- PUBLIC_SET (R389). -/
def State.doPublicSet (s : State) (n f : Nat) (pt : List Byte) : Effect :=
  let new := leAt pt 1 1
  if leAt pt 0 1 = 0 then
    let t := (List.range (leAt pt 12 4)).foldl (fun t i =>
      t.wr .SEAL_GRAN_SEAL (new + 1) (s.rd .FL_BASE f + leAt pt 8 4 + i)) s
    .ok ([], t.sealInv s n f, true)
  else
    let j := f * 16 + leAt pt 8 1
    let pasid := if new = 1 then leAt pt 16 4 else s.rd .FL_PUBVA_PASID j
    let base := if new = 1 then leAt pt 24 8 else s.rd .FL_PUBVA_BASE j * sheet32M
    let size := if new = 1 then leAt pt 32 8 else s.rd .FL_PUBVA_SIZE j * sheet32M
    let old := (s.rd .FL_PUBVA_PASID j, s.rd .FL_PUBVA_BASE j * sheet32M, s.rd .FL_PUBVA_SIZE j * sheet32M)
    let t := if new = 1 then
        (((s.wr .FL_PUBVA_PASID pasid j).wr .FL_PUBVA_BASE (base / sheet32M) j).wr .FL_PUBVA_SIZE (size / sheet32M) j).wr .FL_PUBVA_VALID 1 j
      else s.rstAll [.FL_PUBVA_PASID, .FL_PUBVA_VALID, .FL_PUBVA_SIZE, .FL_PUBVA_BASE] j
    let before := s.sealOld t
    let inv (t : State) (w : Nat × Nat × Nat) : State := match t.boundSlot w.1 f with
      | some a => t.invalidate (.seal n) [a] (some w.2) false before
      | none => t
    let t := if s.on .FL_PUBVA_VALID j then inv t old else t
    .ok ([], if new = 1 then inv t (pasid, base, size) else t, true)

/-- KEY_IMPORT (R390, R391). -/
def State.doKeyImport (s : State) (_n f : Nat) (pt : List Byte) : Effect :=
  let use := leAt pt 0 1
  let mine (u : Nat) : List Nat := (s.slotsOf f).filter (fun k => s.rd .KEY_SLOT_USE k == u)
  let full := use == 1 && decide (14 ≤ (mine 1).length)
  let t := if use = 2 then (mine 2).foldl State.zeroSlot s else s
  match if full then none else lowest 256 (fun k => !t.on .KEY_SLOT_VALID k) with
  | none => .error stNORES
  | some k =>
    let t := (((t.wr .KEY_SLOT_VALID 1 k).wr .KEY_SLOT_USE use k).wr .KEY_SLOT_FLASK f k).wr .KEY_SLOT_FLASK_GEN (t.flaskGen f) k
    let t := t.putKey k (slice pt 32 32)
    let t := if use = 2 then (t.wr .FL_EGRESS_SLOT k f).wr .FL_EGRESS_VALID 1 f else t
    .ok ([BitVec.ofNat 8 k], t, false)

/-- KEY_DESTROY (R304, R387). -/
def State.doKeyDestroy (s : State) (_n _f : Nat) (pt : List Byte) : Effect := .ok ([], s.zeroSlot (leAt pt 0 1), false)

/-- CONSENT (R398). -/
def State.doConsent (s : State) (_n f : Nat) (pt : List Byte) : Effect :=
  .ok ([], (s.wr .FL_DEBUG (bits (leAt pt 0 1) 0 1) f).wr .FL_PROFILE (bits (leAt pt 0 1) 1 1) f, false)

/-- MOULD_ALLOW (R393). -/
def State.doMouldAllow (s : State) (_n f : Nat) (pt : List Byte) : Effect :=
  let v := s.vault f
  let allow := v.allow ++ (List.range (leAt pt 0 1)).map (fun i => slice pt (64 + 48 * i) 48)
  if 256 < allow.length then .error stNORES
  else if leAt pt 1 1 = 1 && !(s.mouldsOf f).all (fun m => allow.contains m.digest) then .error stSTATE
  else
    let t := s.setVault { v with allow := allow }
    .ok ([], if leAt pt 1 1 = 1 then t.wr .FL_LOCKED 1 f else t, false)

/-- The body of a sealed command other than CONFIRM in slot n, whose effect is `act` (R388). -/
def State.sealedBody (s : State) (n : Nat) (act : State → Nat → Nat → List Byte → Effect) : State :=
  let f := (s.fref n).1
  if !s.frefOk n then (s.frefStale n).refuseCmd n stSTATE
  else
    let b := s.envelope n
    let s := s.countFor (.overhead f) 9 b.length
    let op := envOp b
    let denied := (s.wr .FL_ERR_CMD_AUTH 1).refuseCmd n stDENIED
    if !s.envFits n b then s.refuseCmd n stSTATE
    else match s.cmdKey f with
      | none => denied
      | some m =>
        let s := s.countOpen f b
        match envOpen m.key b with
        | none => (s.wr .FL_ERR_CMD_AUTH 1).refuseCmd n stDENIED
        | some pt =>
          let reply := if op = opKEY_IMPORT then 1 else 0
          let seq := (s.vault f).cseq + 1
          if envSeq b ≠ seq then (s.wr .FL_ERR_CMD_SEQ 1).refuseCmd n stSTATE
          else if !(s.publicBuf f (s.par n 1) (envLen b) && decide (envLen b ≤ 4096) && s.replyPlace n f reply && envClean b &&
              envClen b == 0 && s.argsOk f op pt) then s.refuseEnv n m b stBADARG
          else match act s n f pt with
            | .error st => s.refuseEnv n m b st
            | .ok (payload, t, wait) =>
              let t := (t.setVault { t.vault f with cseq := seq }).bump .FL_STATS_CMD_OK
              if wait then t.waitSeal { slot := n, flask := f, op := some (op, payload), cseq := seq }
              else (t.replyEnv n m op f (s.flaskGen f) seq stOK payload).reply n stOK

/-- The row of a sealed command with operation op: an envelope of another known operation is left to its own row. -/
def State.sealedRow (s : State) (n op : Nat) (body : State → State) : State :=
  let h := envOp (s.dieRead (s.par n 1) 64)
  if s.opcode n = 0x0014 && h != op && decide (1 ≤ h ∧ h ≤ 6) then s
  else s.mbHome n 0x0014 (fun s => [(s.par n 1, 4096)]) body

/-- A change of the sealing unit whose invalidations and recalls are complete replies (R381, R389). -/
def State.pumpSeals (s : State) : State :=
  let settled (w : SealWait) : Bool := w.lines.isEmpty && !s.xl.invs.any (fun v => v.source == .seal w.slot)
  let done := s.seals.filter settled
  let t := { s with seals := s.seals.filter (fun w => !settled w) }
  done.foldl (fun t w =>
    let t := match w.op, t.cmdKey w.flask with
      | some (op, payload), some m => t.replyEnv w.slot m op w.flask (t.flaskGen w.flask) w.cseq stOK payload
      | _, _ => t
    t.reply w.slot stOK w.outs) t

/-! ## CONFIRM (R386) -/

/-- The public set of flask f: maximal runs of public granules by absolute number (R395, claim -70011). -/
def State.publicRuns (s : State) (f : Nat) : List (Nat × Nat) :=
  let step (rs : List (Nat × Nat)) (i : Nat) : List (Nat × Nat) :=
    let g := s.rd .FL_BASE f + i
    if s.rd .SEAL_GRAN_SEAL g ≠ 2 then rs
    else match rs with
      | (a, n) :: rest => if a + n = g then (a, n + 1) :: rest else (g, 1) :: rs
      | [] => [(g, 1)]
  ((List.range (s.rd .FL_SIZE f)).foldl step []).reverse

/-- The value of claim -70011. -/
def State.publicClaim (s : State) (f : Nat) : List Byte := cbArray ((s.publicRuns f).map (fun r => cbUints [r.1, r.2]))

/-- CONFIRM in slot n from its start point: Kyrdo is asked for K_cmd. An envelope of an unknown operation is refused as
every other operation is (R388). -/
def State.confirmBody (s : State) (n : Nat) : State :=
  let f := (s.fref n).1
  if !s.frefOk n then (s.frefStale n).refuseCmd n stSTATE
  else
    let b := s.envelope n
    if envOp b ≠ opCONFIRM then s.sealedBody n (fun _ _ _ _ => .error stBADARG)
    else
    let s := s.countFor (.overhead f) 9 b.length
    if !s.envFits n b || s.claimed f KyAsk.isConfirm then s.refuseCmd n stSTATE
    else s.askKyrdo n f (.confirm (s.flaskGen f) b)

/-- Kyrdo has derived K_cmd for the CONFIRM b in slot n, or refuses its key. A reply envelope that finds no slot for the key
takes slot number 0 into its IV (DESIGN CHOICE, log entry 80), and the key that slot 0 holds is untouched: a refused command
changes nothing (R388). -/
def State.confirmAnswer (s : State) (n : Nat) (b : List Byte) (key : Option (List Byte)) : State :=
  let f := (s.fref n).1
  let free := lowest 256 (fun k => !s.on .KEY_SLOT_VALID k)
  if !s.envFits n b then s.refuseCmd n stSTATE
  else match key with
    | none => s.refuseCmd n stDENIED
    | some key =>
      let s := s.countOpen f b
      match envOpen key b with
      | none => (s.wr .FL_ERR_CMD_AUTH 1).refuseCmd n stDENIED
      | some pt =>
        let m : KeyMat := { slot := free.getD 0, key := key }
        let refuse (st : Nat) : State := { s.refuseEnv n m b st with keys := s.keys }
        if envSeq b ≠ 0 then (s.wr .FL_ERR_CMD_SEQ 1).refuseCmd n stSTATE
        else if !(s.publicBuf f (s.par n 1) (envLen b) && decide (envLen b ≤ 4096) && s.replyPlace n f 0 && envClean b &&
            envClen b == 128 && envElen b == 48 && zeroFrom b 161 192) then refuse stBADARG
        else if pt ≠ sha384 (s.publicClaim f) then s.refuseCmd n stDENIED
        else match free with
          | none => refuse stNORES
          | some k =>
            let t := (((s.wr .KEY_SLOT_VALID 1 k).wr .KEY_SLOT_USE 3 k).wr .KEY_SLOT_FLASK f k).wr .KEY_SLOT_FLASK_GEN (s.flaskGen f) k
            let t := t.putKey k key
            let t := t.setVault { t.vault f with everSealed := true }
            let t := (((t.wr .FL_CMD_SLOT k f).wr .FL_STATE flSEALED f).flaskCause f .FL_CAUSE_SEALED_OK).bump .FL_STATS_CMD_OK
            (t.replyEnv n m opCONFIRM f (s.flaskGen f) 0 stOK []).reply n stOK

/-! ## The legend (R394 to R397) -/

/-- The measured components with their committed digests. -/
def State.components (s : State) : List (Nat × List Byte) := [(1, s.kyrdo.own), (2, s.kyrdo.mgmt), (3, s.kyrdo.ucode)]

/-- The firmware claim (R395, -70004). -/
def State.firmwareClaim (s : State) : List Byte := cbFirmware s.components

/-- The claims of flask f as they stand, but for the legend counter (R395). -/
def State.legendClaims (s : State) (f : Nat) (nonce : List Byte) : List (Nat × List Byte) :=
  let v := s.vault f
  let ms := s.mouldsOf f
  let windows := (List.range 16).filter (fun j => s.on .FL_PUBVA_VALID (f * 16 + j))
  let keys (l : List (Nat × List Byte)) : List (Nat × List Byte) := if v.pub.isEmpty then [] else l
  [(70001, cbBytes nonce), (70002, cbBytes s.kyrdo.device), (70003, cbUint 0xB0), (70004, s.firmwareClaim),
   (70006, cbUint s.kyrdo.resets), (70007, cbUints [f, s.flaskGen f, s.rd .FL_RESETS f]), (70008, cbUint (s.flaskState f)),
   (70009, cbUint (s.rd .FL_GROUPS f)), (70010, cbUints [s.flaskBase f, s.flaskBytes f]), (70011, s.publicClaim f),
   (70012, cbArray (windows.map (fun j => cbUints [j, s.rd .FL_PUBVA_PASID (f * 16 + j),
      s.rd .FL_PUBVA_BASE (f * 16 + j) * sheet32M, s.rd .FL_PUBVA_SIZE (f * 16 + j) * sheet32M]))),
   (70013, cbUint (s.rd .FL_DEBUG f + 2 * s.rd .FL_PROFILE f))] ++
  keys [(70014, cbBytes v.pub), (70015, cbBytes v.chain)] ++
  [(70016, if 1024 < ms.length then cbNull else cbArray (ms.map (fun m => cbArray [cbUint m.idx, cbUint m.gen, cbBytes m.digest]))),
   (70017, cbBytes (if v.allow.isEmpty then zeros 48 else sha384 v.allow.flatten)), (70018, cbBool (s.on .FL_LOCKED f)),
   (70019, cbArray (((s.slotsOf f).map (fun k => cbUints [k, s.rd .KEY_SLOT_USE k])))), (70021, cbUint (s.clock .management)),
   (70022, cbUint (v.cseq + 1)), (70023, cbUint (s.rd .FL_LABEL f)), (70024, cbUint (s.rd .ID_ENGINE_REV))]

/-- The nonce of the LEGEND_REQ in slot n. -/
def State.nonce (s : State) (n : Nat) : List Byte := (List.range 6).flatMap (fun i => leBytes 8 (s.par n (i + 1)))

/-- Legend requests at Kyrdo. -/
def State.legendsOpen (s : State) : Nat :=
  (s.kyreqs.filter (fun r => match r.ask with | .legend _ _ => true | _ => false)).length

/-- A buffer of a flask for Kyrdo's output: inside its range, in public granules while it is sealed (R396). -/
def State.flaskBuf (s : State) (f a n : Nat) : Bool := s.inFlask f a n && (!s.flaskSealed f || s.allPublic a n)

/-- LEGEND_REQ in slot n from its start point (R396, R397): the snapshot is taken at once. -/
def State.legendReq (s : State) (n : Nat) : State :=
  let f := (s.fref n).1
  let st := s.flaskState f
  let buf := s.par n 7
  if !s.frefOk n then (s.frefStale n).reply n stSTATE
  else if st = flFREE ∨ st = flCREATING ∨ st = flRESETTING ∨ st = flDESTROYING ∨ 3 ≤ s.rd .QN_PHASE f then s.reply n stSTATE
  else if !s.flaskBuf f buf (128 * 1024) then s.reply n stDENIED
  else if buf % 64 ≠ 0 then s.reply n stBADARG
  else if 4 ≤ s.legendsOpen then s.reply n stBUSY
  else if s.staged.any Staged.ok then
    let m := cbClaims [(70004, s.firmwareClaim), (70020, cbBool true)]
    (s.mailWrite f buf m).reply n stUPDATING [m.length]
  else s.askKyrdo n f (.legend buf (s.unclaim.legendClaims f (s.nonce n)))

/-- LEGEND_SIGNED (R394): Kyrdo has signed the legend of slot n. -/
def State.legendSigned (s : State) (n : Nat) (sig : List Byte) : State :=
  match s.kyreq? n with
  | none => s
  | some r => match r.ask with
    | .legend buf cs =>
      let c := s.kyrdo.legends + 1
      let all := cs.filter (fun p => decide (p.1 < 70005)) ++ [(70005, cbUint c)] ++ cs.filter (fun p => decide (70005 < p.1))
      let bytes := coseSign1 s.kyrdo.kid (cbClaims all) sig
      let t := { s.dropKy n with kyrdo := { s.kyrdo with legends := c } }
      (t.mailWrite r.flask buf bytes).reply n stOK [bytes.length]
    | _ => s

end Sys2Proof.Machine
end

