-- ==== Sys2Proof/Machine/Quench.lean ====
section
/-! DEFINITION. Quench (16): the drain, the state-save image, and what a quench that fails undoes (R426 to R434). -/
namespace Sys2Proof.Machine

/-! ## The start of a quench (R426, R427, R429) -/

/-- The queues of flask f that are not FREE, in ascending order. -/
def State.queuesOf (s : State) (f : Nat) : List Nat :=
  s.queues.filter (fun q => decide (s.rd .FL_QFIRST f ≤ q ∧ q < s.rd .FL_QFIRST f + s.rd .FL_QCOUNT f))

/-- The rings of flask f in device memory, as first byte and length. -/
def State.flaskRings (s : State) (f : Nat) : List (Nat × Nat) :=
  let ring (q : Nat) : List (Nat × Nat) :=
    (if s.on .QCTX_LOC q then [] else [(s.rd .QCTX_BASE q * 4096, s.qLen q * 64)]) ++
    (if s.on .QCTX_CLOC q then [] else [(s.rd .QCTX_CBASE q * 4096, s.qLen q * 32)])
  (s.queuesOf f).flatMap ring ++
  [(s.rd .XL_FRING_BASE_BASE f * 4096, s.rd .XL_FRING_BASE_SIZE f * 4096),
   (s.rd .TIER_HRING_BASE_BASE f * 4096, s.rd .TIER_HRING_BASE_SIZE f * 4096),
   (s.rd .CAST_ELOG_BASE_BASE f * 4096, s.rd .CAST_ELOG_BASE_SIZE f * 4096)]

/-- The image area may not lie at [a, a + n) (R426). -/
def State.imageDenied (s : State) (f a n : Nat) : Bool :=
  let st := s.storeArea (some f)
  !s.inFlask f a n || overlaps a n st.1 st.2 || (s.flaskRings f).any (fun r => overlaps a n r.1 r.2) ||
  (s.flaskSealed f && !(granulesOf a n).all s.granSealed)

/-- The kernels of flask f that run on some engine. -/
def State.runningOf (s : State) (f : Nat) : List Kernel :=
  let ids := s.lanes.filterMap Lane.running
  s.kernels.filter (fun k => ids.contains k.id && (s.ctxsOf f).any (fun x => x.num == k.ctx))

/-- The drain of R429 in ns. -/
def State.drainTime (s : State) (f wait : Nat) : Nat :=
  let ks := s.runningOf f
  if ks.isEmpty && wait == 0 then 10000
  else ks.foldl (fun m k => max m (k.started.getD s.time + k.budget * 1000 - s.time)) (wait * 1000)

/-- The checked entries and reads of queue q are discarded: their slots are read again at thaw. -/
def State.unread (s : State) (q : Nat) : State :=
  let n := (s.entriesOf q).length
  let t := (s.wr .QCTX_HEAD (subMod (s.qLen q) (s.rd .QCTX_HEAD q) n) q).wr .QCTX_NEXT (subMod (2 ^ 44) (s.rd .QCTX_NEXT q) n) q
  let t := (t.dropFetches q).dropGuard q
  { t with qm := { t.qm with entries := t.qm.entries.filter (fun e => e.queue != q) } }

/-- A record that is parked is abandoned without effect; one that is executing goes on (R427). -/
def Ctx.abandon (x : Ctx) : Ctx :=
  if x.walkDone || x.st == .run || x.st == .gates || x.st == .ending then x
  else { x with st := .run, begun := false, asked := false, want := [], spawn := none, fencing := false, fence := [] }

/-- FLASK_QUENCH in slot n from its start point. -/
def State.flaskQuench (s : State) (n : Nat) : State :=
  let f := (s.fref n).1
  let base := s.par n 2
  let size := bits (s.par n 3) 0 32 * 65536
  let st := s.flaskState f
  if !s.frefOk n then (s.frefStale n).reply n stSTATE
  else if (st ≠ flOPEN ∧ st ≠ flSEALED) ∨ s.rd .QN_PHASE f = 1 then s.reply n stSTATE
  else if base % 65536 ≠ 0 ∨ size = 0 then s.reply n stBADARG
  else if s.imageDenied f base size then s.reply n stDENIED
  else
    let q : Quench := { flask := f, slot := n, q0 := s.time, limit := s.time + s.drainTime f (bits (s.par n 1) 0 32),
                        base := base, size := size, phase := s.rd .QN_PHASE f }
    let t := (s.queuesOf f).foldl State.unread s
    let cs := (t.ctxsOf f).map Ctx.num
    let t := { t with ctxs := updAll t.ctxs (fun x => cs.contains x.num) Ctx.abandon, quenches := t.quenches ++ [q] }
    t.wr .QN_PHASE 1 f

/-! ## The drain (R428) -/

/-- The record that context x executes has one of the opcodes. -/
def State.executes (s : State) (x : Ctx) (ops : List Nat) : Bool :=
  x.begun && x.st == .run && !x.walkDone && (s.mould? x.mould x.mgen).any (fun m => ops.contains (opOf (s.recordOf m x.pc)))

/-- The PUTs of flask f that have not been acknowledged: each counts once, whatever lines of it are outstanding. -/
def State.putsOut (s : State) (f : Nat) : Nat :=
  let cs := s.ctxsOf f
  let mine (c : Nat) : Bool := cs.any (fun x => x.num == c)
  let ids := (s.reqs.filter (fun r => mine r.ctx && r.purpose == .put)).map Req.put ++
    (s.cast.egress.filter (fun e => mine e.ctx && e.purpose == .put)).map Egress.put ++
    (cs.filter (fun x => s.executes x [opPUT] && x.putAt != 0)).map Ctx.putId
  ids.eraseDups.length + (cs.filter (fun x => s.executes x [opPUT] && x.putAt == 0)).length

/-- The items of R428 that remain for flask f. A completion write counts from the moment at which its pour owes it, and an
operation from the moment at which its record executes; a write in the home-agent check counts as the request that it still is. -/
def State.drainItems (s : State) (f : Nat) : Nat :=
  let cs := s.ctxsOf f
  let mine (c : Nat) : Bool := cs.any (fun x => x.num == c)
  let moves := (s.copies.filter (fun j => mine j.ctx)).length + (s.cast.jobs.filter (fun j => j.flask == f)).length +
    (s.route.ops.filter (fun o => mine o.ctx)).length
  let stores := (s.reqs.filter (fun r => s.reqIn f r && r.writes && r.purpose == .plain)).length +
    (s.hlp.waits.filter (fun w => match w.act with
      | .store st => mine st.ctx && st.purpose == .plain && (s.req? st.id).isNone
      | _ => false)).length +
    (s.cast.egress.filter (fun e => e.flask == f && e.purpose == .plain)).length
  let records := (s.qm.records.filter (fun r => s.rd .QCTX_FLASK r.queue == f)).length +
    (cs.filter (fun x => x.depth == 0 && x.cause.isSome && x.stamp == .none)).length
  let after := (cs.filter (fun x => x.stamp != .none && s.executes x [opSIGNAL, opEVENT])).length
  let doing := (cs.filter (fun x => s.executes x [opMOVE, opROUTE])).length
  (s.runningOf f).length + s.putsOut f + moves + (s.tier.migs.filter (fun m => m.flask == f)).length +
  (s.xl.helds.filter (fun h => h.flask == f)).length + stores + records + after + doing

/-- The drain of flask f has ended: no item of R428 remains, no record executes (R427), no remote signal is outstanding, and
no engine exception waits for its reset (R432). -/
def State.quenchReady (s : State) (f : Nat) : Bool :=
  s.drainItems f == 0 && !s.faulted.contains f &&
  (s.ctxsOf f).all (fun x => x.signals == 0 && !(x.begun && x.st == .run && !x.walkDone))

/-- Reasons of a PARTIAL. -/
def qrTIME : Nat := 1
def qrSPACE : Nat := 2

/-- A quench that fails is undone (R431). -/
def State.quenchFail (s : State) (q : Quench) (reason items need : Nat) : State :=
  let t := { s with quenches := s.quenches.filter (fun p => p.flask != q.flask) }
  let t := ((t.wr .QN_PHASE q.phase q.flask).wr .QN_LAST (reason + 1) q.flask).wr .QN_REMAINING items q.flask
  let t := if reason = qrSPACE then t.wr .QN_IMG_LEN need q.flask else t
  (t.reply q.slot stPARTIAL [need, reason + bits items 0 24 * 256]).pump

/-- QUENCH_DRAIN_LIMIT (R429): the limit of flask f's drain has come. -/
def State.drainLimit (s : State) (f : Nat) : State :=
  match s.quenches.find? (fun q => q.flask == f) with
  | none => s
  | some q =>
    if s.quenchReady f then s else (s.elapse q.limit).quenchFail q qrTIME (s.drainItems f) 0

/-! ## The image (R433, R434) -/

/-- The codes of CZ_SEQ_CTX.STATE (R166). -/
def CtxState.code : CtxState → Nat
  | .gates => 1
  | .run => 2
  | .waitTl => 3
  | .waitLane => 4
  | .waitWork => 5
  | .waitGate => 6
  | .waitFetch => 7
  | .waitSpawn => 8
  | .ending => 9

/-- The two doublewords of CZ_SEQ_CTX for context x, with a queue number (R166). -/
def State.ctxWords (s : State) (x : Ctx) (queue : Nat) : Nat × Nat :=
  (x.st.code + queue * 2 ^ 8 + x.pour.qgen * 2 ^ 20 + x.depth * 2 ^ 28 + x.pc * 2 ^ 48,
   (if x.st = .waitTl then x.timeline else 0) + (s.kernelsOf x.num).length * 2 ^ 16 +
     min (s.spawnedOf x.num).length 255 * 2 ^ 32)

/-- The kernels of flask f with a held lane record, in their order. -/
def State.heldKernels (s : State) (f : Nat) : List Kernel :=
  s.kernels.filter (fun k => (s.ctxsOf f).any (fun x => x.num == k.ctx) && k.left.any (fun e => (s.heldOn e).contains k.id))

/-- Engines that hold a kernel record of queue q. -/
def State.queueEngines (s : State) (q : Nat) : Nat :=
  (s.lanes.filter (fun l => (l.running.toList ++ l.shadow.toList ++ l.queue).any (fun k =>
    (s.kernel? k).any (fun x => x.pour.queue == q && !(s.ctx? x.ctx).any Ctx.mgmt)))).length

/-- A mask of groups as a mask over flask f's own groups. -/
def State.relGroups (s : State) (f m : Nat) : Nat :=
  let gs := onesOf (s.rd .FL_GROUPS f) 64
  (List.range gs.length).foldl (fun v i => v + b2n (bit m (nth gs i 0)) * 2 ^ i) 0

/-- A mask over flask f's own groups as a mask of groups. -/
def State.absGroups (s : State) (f m : Nat) : Nat :=
  let gs := onesOf (s.rd .FL_GROUPS f) 64
  (List.range gs.length).foldl (fun v i => v + b2n (bit m i) * 2 ^ (nth gs i 0)) 0

/-- The entry of queue q in section 0. -/
def State.imgQueue (s : State) (f q : Nat) : List Byte :=
  let dw (i : Nat) : Nat := s.regValue (0x100000 + q * 0x80 + 8 * i)
  (List.range 10).flatMap (fun i => leBytes 8 (if i = 8 then setBits (dw 8) 16 10 (s.queueEngines q) else dw i)) ++
  leBytes 8 (q - s.rd .FL_QFIRST f) ++ leBytes 8 (s.relGroups f (s.rd .QCTX_RT_GROUPS q)) ++ zeros 32

/-- The contexts of flask f in ascending number. -/
def State.imgCtxs (s : State) (f : Nat) : List Ctx :=
  ((s.ctxsOf f).foldl (fun l x => insertNat x.num l) []).filterMap s.ctx?

/-- The entry of context x in section 1; xs are the contexts of the image. -/
def State.imgCtx (s : State) (f : Nat) (xs : List Ctx) (x : Ctx) : List Byte :=
  let w := s.ctxWords x (x.pour.queue - s.rd .FL_QFIRST f)
  let up := match x.parent with | some p => (xs.map Ctx.num).idxOf p | none => 0xFFFF
  let loops := x.loops.reverse
  let calls := x.calls.reverse
  let loop (i : Nat) : List Byte := match loops[i]? with
    | some l => leBytes 2 l.index ++ zeros 6 ++ leBytes 8 l.trip ++ leBytes 8 l.iter
    | none => zeros 24
  leBytes 8 w.1 ++ leBytes 8 w.2 ++ leBytes 8 x.pour.word ++ leBytes 8 x.ticket ++ leBytes 8 (x.pasid + up * 2 ^ 20) ++ zeros 8 ++
  (List.range 8).flatMap loop ++ (List.range 8).flatMap (fun i => leBytes 2 (nth calls i 0)) ++
  leBytes 8 (loops.length + calls.length * 2 ^ 8) ++ zeros 248 ++
  (List.range 64).flatMap (fun g => leBytes 8 (gateAt x.gates g))

/-- The entry of kernel k in section 2. -/
def imgKernel (xs : List Ctx) (k : Kernel) : List Byte :=
  leBytes 8 ((xs.map Ctx.num).idxOf k.ctx + k.index * 2 ^ 16 + k.total * 2 ^ 32 + (k.targets.length - k.left.length) * 2 ^ 42) ++ zeros 8

/-- The entries of section 3: the held lane records of flask f's engines, in virtual form. -/
def State.imgLanes (s : State) (f : Nat) (xs : List Ctx) : List (List Byte) :=
  let es := s.flaskEngines f
  es.flatMap (fun e =>
    let ks := ((s.heldOn e).filterMap s.kernel?).filter (fun k => xs.any (fun x => x.num == k.ctx))
    (List.range ks.length).map (fun i =>
      match ks[i]? with
      | some k => leBytes 8 (es.idxOf e + i * 2 ^ 9) ++ zeros 56 ++
          s.laneBytes e { k with phys := false, ctx := (xs.map Ctx.num).idxOf k.ctx }
      | none => []))

/-- The entry of mould m in section 5. -/
def State.imgMould (s : State) (f : Nat) (m : Mould) : List Byte :=
  leBytes 8 (m.idx + m.gen * 2 ^ 20 + (m.addr - (s.storeArea (some f)).1) * 2 ^ 32) ++ leBytes 8 m.len ++ m.digest

/-- The sealed state of flask f, in the order in which R434 lists it. -/
def State.sealedState (s : State) (f : Nat) : List Byte :=
  let v := s.vault f
  let runs := s.publicRuns f
  let ws := (List.range 16).filter (fun j => s.on .FL_PUBVA_VALID (f * 16 + j))
  slice v.chain 0 48 ++ leBytes 8 v.allow.length ++ v.allow.flatten ++ leBytes 8 (s.rd .FL_LOCKED f) ++ leBytes 8 v.cseq ++
  leBytes 8 (s.rd .FL_DEBUG f + 2 * s.rd .FL_PROFILE f) ++ leBytes 8 runs.length ++
  runs.flatMap (fun r => leBytes 8 (r.1 - s.rd .FL_BASE f) ++ leBytes 8 r.2) ++ leBytes 8 ws.length ++
  ws.flatMap (fun j => leBytes 8 j ++ leBytes 8 (s.rd .FL_PUBVA_PASID (f * 16 + j)) ++
    leBytes 8 (s.rd .FL_PUBVA_BASE (f * 16 + j)) ++ leBytes 8 (s.rd .FL_PUBVA_SIZE (f * 16 + j)))

/-- The sections of flask f's image: entry count and bytes. -/
def State.imgSections (s : State) (f : Nat) : List (Nat × List Byte) :=
  let qs := s.queuesOf f
  let xs := s.imgCtxs f
  let ks := s.heldKernels f
  let ls := s.imgLanes f xs
  let ms := s.mouldsOf f
  let n := s.rd .FL_TCOUNT_M1 f + 1
  [(qs.length, qs.flatMap (s.imgQueue f)), (xs.length, xs.flatMap (s.imgCtx f xs)), (ks.length, ks.flatMap (imgKernel xs)),
   (ls.length, ls.flatten), (n, (List.range n).flatMap (fun i => leBytes 8 (s.timeline (s.rd .FL_TFIRST f + i)))),
   (ms.length, ms.flatMap (s.imgMould f)),
   if s.flaskSealed f then (1, (List.range 16384).map (Config.sealedByte (s.sealedState f))) else (0, [])]

/-- The image of flask f at QP, now (R433). -/
def State.image (s : State) (f : Nat) : List Byte :=
  let secs := s.imgSections f
  let pad (b : List Byte) : List Byte := b ++ zeros (roundUp b.length 64 - b.length)
  let offs := secs.foldl (fun (a : List Nat × Nat) x => (a.1 ++ [a.2], a.2 + roundUp x.2.length 64)) ([], 4096)
  let dir := (List.range 7).flatMap (fun i => leBytes 8 (nth offs.1 i 0) ++ leBytes 8 ((secs.map Prod.fst).getD i 0))
  let head := leBytes 4 0x4D495A43 ++ leBytes 4 1 ++ leBytes 8 offs.2 ++ slice s.kyrdo.device 0 16 ++
    leBytes 8 (f + s.flaskGen f * 2 ^ 6 + b2n (s.flaskSealed f) * 2 ^ 16) ++
    leBytes 8 (popCount (s.rd .FL_GROUPS f) 64 + s.rd .FL_SIZE f * 2 ^ 8 + s.rd .FL_QCOUNT f * 2 ^ 22 +
      (s.rd .FL_TCOUNT_M1 f + 1) * 2 ^ 35) ++
    leBytes 8 (s.rd .MC_STORE_BASE f - s.rd .FL_BASE f * 8192 + s.rd .MC_STORE_SIZE f * 2 ^ 32) ++ leBytes 8 (s.clock .core) ++ dir ++
    zeros 32
  let rest := zeros (4096 - 0x100) ++ secs.flatMap (fun x => pad x.2)
  head ++ sha384 (head ++ zeros 48 ++ rest) ++ rest

/-- What the image has no place for. -/
def State.freeze (s : State) (f : Nat) (img : List Byte) : Frozen :=
  { digest := slice img 0xD0 48, flask := f, ctxs := (s.imgCtxs f).map (fun x =>
      { idx := x.mould, gen := x.mgen, bank := x.bank, pass := x.pass, read := !x.gates.isEmpty }),
    moulds := (s.mouldsOf f).map (fun m => (m.idx, m.gbase - s.flaskBase f)), sealed := if s.flaskSealed f then s.sealedState f else [] }

/-- QUENCH_POINT (R430): no item remains, and the image is written; host copies of its lines are first given up (R41). -/
def State.quenchPoint (s : State) (q : Quench) : State :=
  let f := q.flask
  let img := s.image f
  let held := (s.hlp.filter.map HostLine.line).filter (fun l => decide (lineOf q.base ≤ l ∧ l * 64 < q.base + img.length))
  if q.size < img.length then s.quenchFail q qrSPACE 0 img.length
  else if !held.isEmpty then held.foldl State.recall s
  else
    let t := (s.overPut (cellsAt q.base img)).countFor (.overhead f) 9 img.length
    let t := { t with frozen := t.frozen.filter (fun (z : Frozen) => z.flask != f) ++ [s.freeze f img],
                      quenches := t.quenches.filter (fun p => p.flask != f) }
    let cs := (t.ctxsOf f).map Ctx.num
    let t := ((t.dropUnits (fun c => cs.contains c)).freeFlaskWork f).closeAccs (fun a => a.flask == f) rfQUENCH
    let t := t.setVault { t.vault f with before := s.flaskState f, consent := s.rd .FL_DEBUG f + 2 * s.rd .FL_PROFILE f }
    let t := (s.queuesOf f).foldl (fun (t : State) k => t.wr .QCTX_STATE qQUENCHED k) t
    let t := (t.wr .FL_DEBUG 1 f).wr .FL_PROFILE 1 f
    let t := (((t.wr .FL_STATE flQUENCHED f).wr .QN_PHASE 2 f).wr .QN_LAST 1 f).wr .QN_IMG_LEN img.length f
    (t.wr .QN_QP (s.clock .core) f).reply q.slot stOK [img.length, 0]

/-- The quenches whose drain is over come to their QP. -/
def State.pumpQuench (s : State) : State :=
  s.quenches.foldl (fun t q => if t.quenchReady q.flask then t.quenchPoint q else t) s

end Sys2Proof.Machine
end

