-- ==== Sys2Proof/Machine/Thaw.lean ====
section
/-! DEFINITION. Thaw (16): the checks of an image and what a thaw restores (R435 to R438). -/
namespace Sys2Proof.Machine

/-! ## The image as a thaw reads it (R433, R434, R436) -/

/-- A thaw under way in its checks: the target flask, the kind, the image, the PASID pairs, and what this machine keeps of
a quench of its own beside the image. -/
structure Thaw where
  f     : Nat
  into  : Bool
  b     : List Byte
  pairs : List (Nat × Nat)
  own   : Option Frozen
  deriving DecidableEq, Repr

/-- Entries of section s of an image, of n bytes each. -/
def imgSec (b : List Byte) (s n : Nat) : List (List Byte) :=
  let off := leAt b (0x40 + 16 * s) 8
  (List.range (leAt b (0x48 + 16 * s) 8)).map (fun i => slice b (off + n * i) n)

def Thaw.queues (w : Thaw) : List (List Byte) := imgSec w.b 0 128
def Thaw.ctxs (w : Thaw) : List (List Byte) := imgSec w.b 1 1024
def Thaw.kernels (w : Thaw) : List (List Byte) := imgSec w.b 2 16
def Thaw.lanes (w : Thaw) : List (List Byte) := imgSec w.b 3 256
def Thaw.timelines (w : Thaw) : List (List Byte) := imgSec w.b 4 8
def Thaw.moulds (w : Thaw) : List (List Byte) := imgSec w.b 5 64
def Thaw.sealedImg (w : Thaw) : Bool := bit (leAt w.b 0x20 4) 16

/-- Bytes of an entry of section s. -/
def imgEntry (s : Nat) : Nat := nth [128, 1024, 16, 256, 8, 64, 16384] s 0

/-- Every section lies inside the image. -/
def Thaw.framed (w : Thaw) : Bool :=
  (List.range 7).all (fun s => decide (4096 ≤ leAt w.b (0x40 + 16 * s) 8 ∧
    leAt w.b (0x40 + 16 * s) 8 + leAt w.b (0x48 + 16 * s) 8 * imgEntry s ≤ w.b.length))

/-- The PASID that takes the place of p (R436). -/
def Thaw.pasid (w : Thaw) (p : Nat) : Nat := ((w.pairs.find? (fun q => q.1 == p)).map Prod.snd).getD p

/-- MAGIC, FORMAT and DIGEST are right. -/
def Thaw.genuine (w : Thaw) : Bool :=
  leAt w.b 0 4 == 0x4D495A43 && leAt w.b 4 2 == 1 && slice w.b 0xD0 48 == sha384 (patch w.b 0xD0 (zeros 48))

/-- The shape of the image is the target's (R436). -/
def State.shapeOk (s : State) (w : Thaw) : Bool :=
  let d := leAt w.b 0x28 8
  bits d 0 7 == popCount (s.rd .FL_GROUPS w.f) 64 && bits d 8 14 == s.rd .FL_SIZE w.f && bits d 22 13 == s.rd .FL_QCOUNT w.f &&
  bits d 35 17 == s.rd .FL_TCOUNT_M1 w.f + 1 &&
  leAt w.b 0x30 4 == s.rd .MC_STORE_BASE w.f - s.rd .FL_BASE w.f * 8192 && bits (leAt w.b 0x30 8) 32 12 == s.rd .MC_STORE_SIZE w.f

/-! ## Moulds (R437) -/

/-- The mould of an entry of section 5 as it stands in the target's mould store. -/
def State.thawMould (s : State) (w : Thaw) (e : List Byte) : Mould :=
  let a := (s.storeArea (some w.f)).1 + leAt e 4 4
  let len := leAt e 8 8
  let body := s.dieRead a len
  let kept := w.own.bind (fun z => z.moulds.find? (fun m => m.1 == fld e 0 0 20))
  { idx := fld e 0 0 20, gen := fld e 0 20 12, flask := some w.f, fgen := s.flaskGen w.f, addr := a, len := len,
    records := imRecords body, banks := imBanks body,
    gbase := s.flaskBase w.f + (kept.map Prod.snd).getD ((Config.imageBanks (slice e 16 48)).toNat * 512), tsize := imTable body,
    digest := slice e 16 48, pinned := false, loaded := true }

/-- The moulds that the image's contexts run: those of its section 5 for INTO, the flask's own for SAME. -/
def State.thawMoulds (s : State) (w : Thaw) : List Mould :=
  if w.into then w.moulds.map (s.thawMould w) else s.mouldsOf w.f

/-- The sealed state of a sealed image (R434). -/
def Thaw.sealedState (w : Thaw) : List Byte :=
  (w.own.map Frozen.sealed).getD (Config.sealedOf (slice w.b (leAt w.b 0xA0 8) 16384))

/-- The public runs of a sealed state: first granule within the flask and count, as sealedState lists them. -/
def sealedRuns (v : List Byte) : List (Nat × Nat) :=
  let o := 56 + 48 * leAt v 48 8
  (List.range (leAt v (o + 24) 8)).map (fun i => (leAt v (o + 32 + 16 * i) 8, leAt v (o + 40 + 16 * i) 8))

/-- Every granule of the range of n bytes at a is in the public set that the thaw of a sealed image restores (R443). -/
def State.thawPublic (s : State) (w : Thaw) (a n : Nat) : Bool :=
  (granulesOf a n).all (fun g => sealedAs (sealedRuns w.sealedState) (g - s.rd .FL_BASE w.f) == 2)

/-- A mould of the image would pass MOULD_LOAD, and its digest is the image's (R435, R437). -/
def State.thawMouldOk (s : State) (w : Thaw) (ms : List Mould) (m : Mould) : Bool :=
  let st := s.storeArea (some w.f)
  let b := s.dieRead m.addr m.len
  let env : LoadEnv := {
    len := m.len, gbase := m.gbase, tls := s.rd .FL_TCOUNT_M1 w.f + 1, groups := popCount (s.rd .FL_GROUPS w.f) 64,
    mgmt := false, rev := s.rd .ID_ENGINE_REV,
    child := fun idx gen => (ms.find? (fun c => c.idx == idx && c.gen == gen)).map (fun c => (c.banks, s.descsOf c)) }
  inside m.addr m.len st.1 st.2 && m.addr % 4096 == 0 && s.inFlask w.f m.gbase (m.banks * 512) &&
  (!w.sealedImg || s.thawPublic w m.gbase (m.banks * 512)) && imDigest b == m.digest && (loadHead env b).isNone &&
  (loadBody env b m.digest).isNone && !ms.any (fun c => c != m && (c.idx == m.idx || overlaps m.addr m.len c.addr c.len))

/-- The index of mould m can be taken (R437). -/
def State.takesIndex (s : State) (m : Mould) : Bool :=
  s.on .MC_HTAB_EN && !s.moulds.table.any (fun c => c.idx == m.idx) &&
  (!s.moulds.gens.any (fun g => g.1 == m.idx) || s.handleGen m.idx == m.gen)

/-- Mould m is registered at its index and generation. -/
def State.register (s : State) (m : Mould) : State :=
  { s with moulds := { s.moulds with table := s.moulds.table ++ [m], gens := aset s.moulds.gens m.idx m.gen } }

/-- What belongs to context i of the image and stands beside it. -/
def Thaw.mould (w : Thaw) (i : Nat) : FrozenCtx :=
  match w.own.bind (fun z => z.ctxs[i]?) with
  | some m => m
  | none =>
    let h := (Config.imageMould (leAt (nth w.ctxs i []) 0x10 8) i).toNat
    { idx := bits h 0 20, gen := bits h 20 12, bank := bits h 32 8, read := bit h 40 }

/-! ## Checks of R435 -/

/-- A queue entry would be accepted by QUEUE_CREATE. -/
def State.thawQueueOk (s : State) (w : Thaw) (e : List Byte) : Bool :=
  let log2 := fld e 2 0 5
  let n := 2 ^ log2
  decide (fld e 10 0 64 < s.rd .FL_QCOUNT w.f) && decide (6 ≤ log2 ∧ log2 ≤ 24) && fld e 2 16 8 != 0 &&
  decide (1 ≤ fld e 2 24 7 ∧ fld e 2 24 7 ≤ 64) && fld e 7 0 32 != 0 && decide (fld e 6 0 24 < n) && decide (fld e 6 32 24 < n) &&
  s.ringOk w.f (leAt e 0 8) (n * 64) && s.ringOk w.f (leAt e 8 8) (n * 32) &&
  decide (leAt e 0x58 8 < 2 ^ popCount (s.rd .FL_GROUPS w.f) 64)

/-- The queue entry of number k. -/
def Thaw.queue? (w : Thaw) (k : Nat) : Option (List Byte) := w.queues.find? (fun e => fld e 10 0 64 == k)

/-- Fields of a context entry: parent, queue and depth. -/
def icUp (e : List Byte) : Nat := fld e 4 20 16
def icQueue (e : List Byte) : Nat := fld e 0 8 12
def icDepth (e : List Byte) : Nat := fld e 0 28 6

/-- Operand o of a record of mould m can give the value v: its immediate, or a value within its gate's bounds (R85, R87). -/
def State.operandGives (s : State) (m : Mould) (o v : Nat) : Bool :=
  if bit o 15 then decide (v ≤ (s.descAt m (bits o 0 6)).partMax (bits o 6 2)) else v == bits o 0 15

/-- Context entry i agrees with its mould, its queue and its parent, which may stand before or after it. -/
def State.thawCtxOk (s : State) (w : Thaw) (ms : List Mould) (i : Nat) (e : List Byte) : Bool :=
  let h := w.mould i
  let depth := leAt e 0x100 1
  let calls := fld e 32 8 4
  let root := if icUp e = 0xFFFF then icDepth e == 0
    else decide (icUp e < w.ctxs.length) && icDepth (nth w.ctxs (icUp e) []) + 1 == icDepth e && decide (icDepth e ≤ 32)
  match ms.find? (fun m => m.idx == h.idx && m.gen == h.gen) with
  | none => false
  | some m =>
    root && (w.queue? (icQueue e)).isSome && decide (h.bank < m.banks) && decide (fld e 0 48 16 < m.records) && decide (depth ≤ 8) &&
    decide (calls ≤ 8) && (List.range depth).all (fun j =>
      decide (leAt e (0x30 + 24 * j) 2 < m.records) && opOf (s.recordOf m (leAt e (0x30 + 24 * j) 2)) == opLOOP &&
      s.operandGives m (fld (s.recordOf m (leAt e (0x30 + 24 * j) 2)) 0 32 16) (leAt e (0x38 + 24 * j) 8) &&
      decide (leAt e (0x38 + 24 * j) 8 < 2 ^ 48) && decide (leAt e (0x40 + 24 * j) 8 < leAt e (0x38 + 24 * j) 8)) &&
    (List.range calls).all (fun j => decide (leAt e (0xF0 + 2 * j) 2 < m.records))

/-- The mould of context i of the image. -/
def Thaw.mouldOf (w : Thaw) (ms : List Mould) (i : Nat) : Option Mould :=
  ms.find? (fun m => m.idx == (w.mould i).idx && m.gen == (w.mould i).gen)

/-- The engine groups, by their numbers in the flask, on which KERNEL record r of context entry i runs (R135, R136). -/
def State.thawGroups (s : State) (w : Thaw) (i : Nat) (r : List Byte) : List Nat :=
  let q := (w.queue? (icQueue (nth w.ctxs i []))).getD []
  let rt : Bool := fld q 2 31 1 == 1
  let gs := if rt then onesOf (leAt q 0x58 8) 64 else List.range (popCount (s.rd .FL_GROUPS w.f) 64)
  if rt && decide (gs.length < fld r 0 16 6 + fld r 0 24 7) then gs else (gs.drop (fld r 0 16 6)).take (fld r 0 24 7)

/-- A kernel entry names a KERNEL record of its context's mould, with the engines that it has there. -/
def State.thawKernelOk (s : State) (w : Thaw) (ms : List Mould) (e : List Byte) : Bool :=
  decide (fld e 0 0 16 < w.ctxs.length) && (match w.mouldOf ms (fld e 0 0 16) with
    | some m =>
      let r := s.recordOf m (fld e 0 16 16)
      decide (fld e 0 16 16 < m.records) && opOf r == opKERNEL &&
      fld e 0 32 10 == 8 * (s.thawGroups w (fld e 0 0 16) r).length && decide (fld e 0 42 10 ≤ fld e 0 32 10)
    | none => false)

/-- Context and record of a lane record entry. -/
def ilPair (e : List Byte) : Nat × Nat := (fld e 11 55 9, fld e 11 32 16)

/-- A lane record entry names an engine of the flask and a kernel entry, and is one that its KERNEL record can have brought
about: its engine and rank, its code, grid, flags and limits are those of the record, or within the bounds of the gates that
it takes them from (R94, R137, R138). -/
def State.thawLaneOk (s : State) (w : Thaw) (ms : List Mould) (e : List Byte) : Bool :=
  let p := ilPair e
  decide (fld e 0 0 9 < (s.flaskEngines w.f).length) &&
  w.kernels.any (fun k => (fld k 0 0 16, fld k 0 16 16) == p) && (match w.mouldOf ms p.1 with
    | none => false
    | some m =>
      let r := s.recordOf m p.2
      let dims := [0, 16, 32].map (fun lo => (fld r 2 lo 16, fld e 10 lo 16))
      let engines := (s.thawGroups w p.1 r).flatMap (fun g => (List.range 8).map (fun j => g * 8 + j))
      let targets := engines.take (dims.foldl (fun n d => n * d.2) 1)
      let rt := ((w.queue? (icQueue (nth w.ctxs p.1 []))).map (fun q => fld q 2 31 1)).getD 0
      leAt e 0x40 8 == leAt (nth w.ctxs p.1 []) 0x10 8 && fld e 9 0 64 == fld r 1 0 57 &&
      dims.all (fun d => d.2 != 0 && s.operandGives m d.1 d.2) && fld e 10 48 16 == 0 &&
      targets.contains (fld e 0 0 9) && fld e 11 0 10 == targets.idxOf (fld e 0 0 9) && fld e 11 16 10 == engines.length &&
      fld e 11 48 1 == fld r 0 9 1 && decide (fld e 11 49 1 ≤ fld r 0 8 1) && fld e 11 50 1 == rt &&
      fld e 12 0 32 == fld r 4 0 32 && (fld r 5 16 8 == 0xFF || fld e 12 32 5 == fld r 5 16 8) &&
      fld e 12 40 8 == popCount (fld r 3 0 64) 64 && fld e 12 48 9 == fld r 5 0 9)

/-- The image passes the checks of R435. -/
def State.thawOk (s : State) (w : Thaw) : Bool :=
  let ms := s.thawMoulds w
  let ks := w.queues.map (fun e => fld e 10 0 64)
  w.queues.all (s.thawQueueOk w) && ks.eraseDups.length == ks.length && (!w.into || ms.all (s.thawMouldOk w ms)) &&
  (List.range w.ctxs.length).all (fun i => s.thawCtxOk w ms i (nth w.ctxs i [])) && w.kernels.all (s.thawKernelOk w ms) &&
  w.lanes.all (s.thawLaneOk w ms)

/-- The valid VA windows of a sealed state: number, PASID, base and size, as sealedState lists them. -/
def sealedWindows (v : List Byte) : List (List Nat) :=
  let o := 56 + 48 * leAt v 48 8
  let p := o + 32 + 16 * leAt v (o + 24) 8
  (List.range (min (leAt v p 8) 16)).map (fun i => (List.range 4).map (fun k => leAt v (p + 8 + 32 * i + 8 * k) 8))

/-- Every PASID of the image is bound for the target, after pairing: those of its queues, its contexts and its VA windows. -/
def State.thawBound (s : State) (w : Thaw) : Bool :=
  w.queues.all (fun e => s.boundTo (w.pasid (fld e 3 0 20)) w.f) &&
  w.ctxs.all (fun e => s.boundTo (w.pasid (fld e 4 0 20)) w.f) &&
  (!w.sealedImg || (sealedWindows w.sealedState).all (fun d => s.boundTo (w.pasid (nth d 1 0)) w.f))

/-! ## What a thaw restores (R438) -/

/-- One queue of the image is restored; none where R68 refuses its reservation. -/
def State.thawQueue (s : State) (w : Thaw) (e : List Byte) : Option State :=
  let q := s.rd .FL_QFIRST w.f + fld e 10 0 64
  let seen := s.rd .QCTX_TAIL q
  let groups := s.absGroups w.f (leAt e 0x58 8)
  let t := s.rstAll queueFields q
  if fld e 2 31 1 = 1 ∧ (t.rtCheck w.f groups).isSome then none
  else
    let t := (t.wr .QCTX_LOC (fld e 0 0 1) q).wr .QCTX_BASE (fld e 0 12 40) q
    let t := (t.wr .QCTX_CLOC (fld e 1 0 1) q).wr .QCTX_CBASE (fld e 1 12 40) q
    let t := ((t.wr .QCTX_RING_LOG2 (fld e 2 0 5) q).wr .QCTX_LEVEL (fld e 2 8 2) q).wr .QCTX_WEIGHT (fld e 2 16 8) q
    let t := ((t.wr .QCTX_MAX_INFLIGHT (fld e 2 24 7) q).wr .QCTX_RT (fld e 2 31 1) q).wr .QCTX_FLASK w.f q
    let t := ((t.wr .QCTX_FLASK_GEN (s.flaskGen w.f) q).wr .QCTX_PASID (w.pasid (fld e 3 0 20)) q).wr .QCTX_RT_GROUPS groups q
    let t := ((t.wr .QCTX_ERR_CODE (fld e 5 16 8) q).wr .QCTX_DB_MISMATCH (fld e 5 24 1) q).wr .QCTX_ERR_IDX (fld e 5 32 24) q
    let t := ((t.wr .QCTX_HEAD (fld e 6 0 24) q).wr .QCTX_TAIL (fld e 6 32 24) q).wr .QCTX_NEXT (fld e 7 0 44) q
    let t := ((t.wr .QCTX_REREADS (fld e 9 0 32) q).wr .QCTX_ADMITTED (fld e 9 32 32) q).wr .QCTX_STATE qACTIVE q
    let n := t.qLen q
    let ahead (x : Nat) : Nat := subMod n x (t.rd .QCTX_HEAD q)
    some (if !w.into && decide (seen < n ∧ ahead (t.rd .QCTX_TAIL q) < ahead seen) then t.wr .QCTX_TAIL seen q else t)

/-- The index of the STAMP of mould m. -/
def State.stampAt (s : State) (m : Mould) : Option Nat :=
  ((imList (s.dieRead m.addr m.len) m.records 0 0).find? (fun p => opOf p.2 == opSTAMP)).map Prod.fst

/-- The context that context entry e takes: a pour context for a root, a spawn context for a spawned pour. -/
def State.thawNum (s : State) (q : Nat) (e : List Byte) : Option Nat :=
  if icDepth e = 0 then (List.range 256).find? (fun c => s.ctxFor c q) else s.spawnCtx (icDepth e)

/-- Context entry i is restored, where a context is free for it; at_ are the contexts of the entries restored before it, by
entry. -/
def State.thawCtx (s : State) (w : Thaw) (i : Nat) (at_ : List (Nat × Nat)) : Option (Nat × State) :=
  let e := nth w.ctxs i []
  let h := w.mould i
  let q := s.rd .FL_QFIRST w.f + icQueue e
  let seq := leAt e 0x10 8 % 2 ^ 44
  let n := s.qLen q
  let behind := subMod (2 ^ 44) (s.rd .QCTX_NEXT q) seq
  match s.thawNum q e, s.mould? h.idx h.gen with
  | some c, some m =>
    let up := if icDepth e = 0 then none else (at_.find? (fun p => p.1 == icUp e)).map Prod.snd
    let root := ((up.bind s.ctx?).map Ctx.root).getD c
    let loop (j : Nat) : LoopFrame :=
      { index := leAt e (0x30 + 24 * j) 2, trip := leAt e (0x38 + 24 * j) 8, iter := leAt e (0x40 + 24 * j) 8 }
    let stamped : Bool := icDepth e == 0 && (match s.stampAt m with | some k => decide (k < fld e 0 48 16) | none => false)
    let x : Ctx := {
      num := c, st := .run, pour := { queue := q, qgen := s.rd .QCTX_GEN q, seq := seq },
      slot := subMod n (s.rd .QCTX_HEAD q) (behind % n), ticket := leAt e 0x18 8, pasid := w.pasid (fld e 4 0 20),
      flask := w.f, fgen := s.flaskGen w.f, depth := icDepth e, parent := up, root := root, rt := s.on .QCTX_RT q,
      mould := h.idx, mgen := h.gen, bank := h.bank, pc := fld e 0 48 16,
      loops := ((List.range (leAt e 0x100 1)).map loop).reverse,
      calls := ((List.range (fld e 32 8 4)).map (fun j => leAt e (0xF0 + 2 * j) 2)).reverse,
      stamp := if stamped then .acked else .none, admitted := s.time }
    if fld e 0 0 4 = 1 && !h.read then
      let t := { s with ctxs := s.ctxs ++ [{ x with st := .gates, pass := h.pass }] }
      some (c, t.say (.bankRead c (m.gbase + h.bank * 0x200)))
    else
      let t := { s with ctxs := s.ctxs ++ [{ x with gates := List.replicate 64 0 }] }
      let t := (List.range 64).foldl (fun t g => t.gateWrite c g (leAt e (0x200 + 8 * g) 8)) t
      let t := if fld e 0 0 4 = 1 || x.rt then t.modCtx c (fun y => { y with st := .gates }) else t
      some (c, if x.rt then t.askPins c m else t)
  | _, _ => none

/-- The context entries of the image, each parent before its children. -/
def Thaw.byDepth (w : Thaw) : List Nat :=
  (List.range 33).flatMap (fun d => (List.range w.ctxs.length).filter (fun i => icDepth (nth w.ctxs i []) == d))

/-- Every context of the image is restored; the answer lists them by entry. -/
def State.thawCtxs (s : State) (w : Thaw) : Option (List Nat × State) :=
  (w.byDepth.foldl (fun (r : Option (List (Nat × Nat) × State)) i => r.bind (fun p =>
    (p.2.thawCtx w i p.1).map (fun q => (p.1 ++ [(i, q.1)], q.2)))) (some ([], s))).map (fun p =>
      ((List.range w.ctxs.length).map (fun i => aget p.1 i 0), p.2))

/-- The lane records of engine e (by its number in the flask), from the head. -/
def Thaw.laneOf (w : Thaw) (e : Nat) : List (List Byte) :=
  (List.range 64).flatMap (fun p => w.lanes.filter (fun r => fld r 0 0 9 == e && fld r 0 9 6 == p))

/-- Engine and position of a lane record entry. -/
def ilPlace (r : List Byte) : Nat × Nat := (fld r 0 0 9, fld r 0 9 6)

/-- Among the lane records rs of one KERNEL record of a context, those of the kernel issued last. It targets the engines of the
lowest ranks (R137), and each of them that has not ended it holds its record behind those of the kernels before: the last record
on the engine of the lowest rank that holds any is its, and its grid tells how many engines it targets. -/
def lastIssued (rs : List (List Byte)) : List (List Byte) :=
  let ends := rs.filter (fun r => !rs.any (fun q => fld q 0 0 9 == fld r 0 0 9 && decide (fld r 0 9 6 < fld q 0 9 6)))
  match ends.find? (fun r => ends.all (fun q => decide (fld r 11 0 10 ≤ fld q 11 0 10))) with
  | some r => ends.filter (fun q => decide (fld q 11 0 10 < fld r 10 0 16 * fld r 10 16 16 * fld r 10 32 16))
  | none => []

/-- The lane records rs, by place, dealt out to the kernel entries ks of their context and KERNEL record, the last issued
first. -/
def dealOut : List Nat → List (List Byte) → List (Nat × (Nat × Nat))
  | [], _ => []
  | k :: ks, rs =>
    let own := (lastIssued rs).map ilPlace
    own.map (fun p => (k, p)) ++ dealOut ks (rs.filter (fun r => !own.contains (ilPlace r)))

/-- The kernel entry that each lane record of the image belongs to, by place. -/
def Thaw.owners (w : Thaw) : List (Nat × (Nat × Nat)) :=
  let pair (i : Nat) : Nat × Nat := let k := nth w.kernels i []; (fld k 0 0 16, fld k 0 16 16)
  let ks := List.range w.kernels.length
  (ks.map pair).eraseDups.flatMap (fun p =>
    dealOut (ks.filter (fun i => pair i == p)).reverse (w.lanes.filter (fun r => ilPair r == p)))

/-- The kernel entry of lane record r among the owners. -/
def ownerIn (owners : List (Nat × (Nat × Nat))) (r : List Byte) : Option Nat :=
  (owners.find? (fun p => p.2 == ilPlace r)).map Prod.fst

/-- Kernel entry i is restored as kernel id, from the first of its lane records; it is again the producer of the gates
that its record passes (R169). While CZ_SEQ_CTL.PRELOAD_EN is 0 its lane records are written with PRELOAD 0 (R140). -/
def State.thawKernel (s : State) (w : Thaw) (at_ : List Nat) (i id : Nat) (held : List (Nat × List Byte)) : State :=
  let k := nth w.kernels i []
  let c := nth at_ (fld k 0 0 16) 0
  match s.ctx? c, held with
  | some x, (_, lr) :: _ =>
    match s.mould? x.mould x.mgen with
    | none => s
    | some m =>
      let r := s.recordOf m (fld k 0 16 16)
      let ags := onesOf (fld r 3 0 64) 64
      let grid := (fld lr 10 0 16, fld lr 10 16 16, fld lr 10 32 16)
      let es := (s.kernelGroups x r).1.flatMap enginesOf
      let left := held.map Prod.fst
      let arg (j : Nat) : Nat := clampGate (s.descAt m (nth ags j 0)) (s.tlCount x) (leAt lr (0x80 + 8 * j) 8)
      let z : Kernel := {
        id := id, ctx := c, index := fld k 0 16 16, pour := x.pour, flask := w.f, rt := x.rt, phys := x.rt,
        serial := fld lr 11 48 1 == 1, preload := fld r 0 8 1 == 1, code := fld lr 9 0 57, grid := grid,
        noPre := (held.filter (fun h => !s.on .SEQ_CTL_PRELOAD_EN || fld h.2 11 49 1 == 0)).map Prod.fst,
        targets := es.take (grid.1 * grid.2.1 * grid.2.2), total := fld k 0 32 10,
        args := (List.range (leAt lr 0x65 1)).map (fun j => BitVec.ofNat 64 (arg j)),
        vaArgs := ags.map (fun g => (s.descAt m g).type == gtVA), budget := fld lr 12 0 32, deadline := fld r 4 32 16,
        grace := fld r 4 48 16, sram := fld lr 12 48 9, wpLog2 := fld lr 12 32 5, left := left, lent := left.filter (s.borrows x) }
      { s with kernels := s.kernels ++ [z] }.modCtx c (fun y =>
        { y with passed := ags.foldl (fun l g => aset l g id) y.passed })
  | _, _ => s

/-- The kernels and lane records of the image are restored. -/
def State.thawLanes (s : State) (w : Thaw) (at_ : List Nat) : State :=
  let es := s.flaskEngines w.f
  let owners := w.owners
  let first := s.nextId
  let t := { s with nextId := s.nextId + w.kernels.length }
  let held (i : Nat) : List (Nat × List Byte) := (List.range es.length).flatMap (fun e =>
    ((w.laneOf e).filter (fun r => ownerIn owners r == some i)).map (fun r => (nth es e 0, r)))
  let t := (List.range w.kernels.length).foldl (fun t i => t.thawKernel w at_ i (first + i) (held i)) t
  let t := (List.range es.length).foldl (fun (t : State) e =>
    let ids := (w.laneOf e).filterMap (fun r => (ownerIn owners r).map (fun i => first + i))
    let l := t.lane (nth es e 0)
    t.setLane { l with queue := ids.filter (fun i => (t.kernel? i).isSome) ++ l.queue }) t
  t.ungate (t.kernels.filter (fun k => decide (first ≤ k.id) && decide (k.id < s.nextId + w.kernels.length)) |>.flatMap Kernel.left)

/-- Pinned entries that the restored real-time pours need. -/
def State.thawPins (s : State) (w : Thaw) (ms : List Mould) : Nat :=
  ((List.range w.ctxs.length).map (fun i =>
    let e := nth w.ctxs i []
    let rt := ((w.queue? (icQueue e)).map (fun q => fld q 2 31 1)).getD 0
    match w.mouldOf ms i with
    | some m => if rt = 1 then (s.codeList m).length + (s.vaArgs m).length else 0
    | none => 0)).sum

/-- The sealed state v of the image is restored, its VA windows under the paired PASIDs (R436, R443). -/
def State.thawSealed (s : State) (w : Thaw) (v : List Byte) : State :=
  let f := w.f
  let n := leAt v 48 8
  let o := 56 + 48 * n
  let consent := leAt v (o + 16) 8
  let t := s.setVault { s.vault f with chain := slice v 0 48, cseq := leAt v (o + 8) 8, sess := none,
                                       allow := (List.range n).map (fun i => slice v (56 + 48 * i) 48) }
  let t := ((t.wr .FL_LOCKED (leAt v o 8) f).wr .FL_DEBUG (bits consent 0 1) f).wr .FL_PROFILE (bits consent 1 1) f
  let t := t.setSeals f (sealedAs (sealedRuns v))
  (sealedWindows v).foldl (fun t l =>
    let d (k : Nat) : Nat := nth l k 0
    let j := f * 16 + d 0 % 16
    (((t.wr .FL_PUBVA_PASID (w.pasid (d 1)) j).wr .FL_PUBVA_BASE (d 2) j).wr .FL_PUBVA_SIZE (d 3) j).wr .FL_PUBVA_VALID 1 j) t

/-- The thaw w takes effect; none where something it needs is not free (R436, last row; R438). -/
def State.thawApply (s : State) (w : Thaw) : Option State :=
  let ms := s.thawMoulds w
  if w.into && ms.any (fun m => !s.takesIndex m) then none
  else if 4096 < s.pinsUsed + s.thawPins w ms then none
  else
    let t := if w.into then ms.foldl State.register s else s
    let t := (s.queuesOf w.f).foldl (fun (t : State) q => t.rstAll [.QCTX_RT, .QCTX_RT_GROUPS] q) t
    let t := (t.wr .QN_PHASE 0 w.f).wr .FL_STATE
      (if w.into then (if w.sealedImg || (s.vault w.f).sess.any Session.bundled then flSEALED else flOPEN) else (s.vault w.f).before) w.f
    match w.queues.foldl (fun (r : Option State) e => r.bind (fun t => t.thawQueue w e)) (some t) with
    | none => none
    | some t =>
      match t.thawCtxs w with
      | none => none
      | some (at_, t) =>
        let t := (t.thawLanes w at_)
        let t := at_.foldl (fun t c => match t.ctx? c with
          | some x => if x.depth = 0 then t.wr .QCTX_POURS (t.rd .QCTX_POURS x.pour.queue + 1) x.pour.queue else t
          | none => t) t
        let t := if w.into then
            (List.range w.timelines.length).foldl (fun (t : State) i =>
              t.wr .TL_COUNTER (ofLe (nth w.timelines i [])) (t.rd .FL_TFIRST w.f + i)) t
          else t
        let t := if w.into && w.sealedImg then
            t.thawSealed w w.sealedState
          else if w.into then t
          else (t.wr .FL_DEBUG (bits (t.vault w.f).consent 0 1) w.f).wr .FL_PROFILE (bits (t.vault w.f).consent 1 1) w.f
        some (t.setVault { t.vault w.f with
          before := 0, everSealed := (t.vault w.f).everSealed || t.flaskState w.f == flSEALED }).pump

/-- The image that slot n's FLASK_THAW names: address and length. -/
def State.thawRange (s : State) (n : Nat) : Nat × Nat := (s.par n 1, leAt (s.dieRead (s.par n 1) 16) 8 8)

/-- The state of the target refuses the thaw (R436, first row). -/
def State.thawState (s : State) (f : Nat) (into : Bool) : Bool :=
  if into then s.flaskState f != flOPEN || !(s.queuesOf f).isEmpty || s.moulds.table.any (fun m => m.flask == some f) ||
    !(s.ctxsOf f).isEmpty || (s.rd .QN_PHASE f != 0 && s.rd .QN_PHASE f != 5)
  else s.flaskState f != flQUENCHED || s.rd .QN_PHASE f != 2

/-- The first status that refuses the FLASK_THAW in slot n before its image is read whole (R436). -/
def State.thawFails (s : State) (n : Nat) : Option Nat :=
  let f := (s.fref n).1
  let into := bit (s.par n 0) 48
  let (a, len) := s.thawRange n
  let head := s.dieRead a 64
  if !s.frefOk n || s.thawState f into then some stSTATE
  else if !s.inFlask f a 4096 then some stDENIED
  else if into && bit (leAt head 0x20 4) 16 && !((s.vault f).sess.any Session.bundled && s.rd .QN_PHASE f == 5) then some stSTATE
  else if len < 4096 || !s.inFlask f a len then some stBADARG
  else none

/-- FLASK_THAW in slot n from its start point (R436); bad is a line of its image that is read in error, if any: the DIGEST check
then fails (R484). -/
def State.flaskThaw (s : State) (n : Nat) (bad : Option Nat := none) : State :=
  let f := (s.fref n).1
  let into := bit (s.par n 0) 48
  let (a, len) := s.thawRange n
  match s.thawFails n with
  | some st => (if s.frefOk n then s else s.frefStale n).reply n st
  | none =>
    let s := s.countFor (.overhead f) 9 len
    match bad with
    | some l => (s.hbmUe (a + 64 * (l % ceilDiv len 64)) 0x0B 0 0 f 0).reply n stBADARG
    | none =>
    let b := s.dieRead a len
    let w : Thaw := {
      f := f, into := into, b := b,
      pairs := (List.range (bits (s.par n 0) 49 5)).map (fun i => (bits (s.par n (i + 2)) 0 20, bits (s.par n (i + 2)) 32 20)),
      own := s.frozen.find? (fun z => z.digest == slice b 0xD0 48) }
    if !(w.genuine && w.framed && s.thawOk w) then s.reply n stBADARG
    else if into && !s.shapeOk w then s.reply n stBADARG
    else if !s.thawBound w then s.reply n stSTATE
    else match s.thawApply w with
      | none => s.reply n stNORES
      | some t => t.reply n stOK

end Sys2Proof.Machine
end

