-- ==== Sys2Proof/Machine/Migrate.lean ====
section
/-! DEFINITION. Migration of a sealed flask (16): the session, MIG_EXPORT and MIG_IMPORT (R440 to R443). -/
namespace Sys2Proof.Machine

/-- PHASE values of CZ_QN (R444). -/
def qnNONE : Nat := 0
def qnQUENCHED : Nat := 2
def qnEXPORTING : Nat := 3
def qnEXPORTED : Nat := 4
def qnIMPORTING : Nat := 5

/-- The session of flask f. -/
def State.sess (s : State) (f : Nat) : Option Session := (s.vault f).sess

/-- The session of flask f takes the value v. -/
def State.setSess (s : State) (f : Nat) (v : Option Session) : State := s.setVault { s.vault f with sess := v }

/-- The key slot of flask f's session is zeroed (R441). -/
def State.dropMigKey (s : State) (f : Nat) : State :=
  match (s.sess f).bind Session.slot with
  | some k => s.clearSlot k
  | none => s

/-- K_mig goes into a free key slot for flask f: VALID 1 and USE 0 (R441). -/
def State.putMigKey (s : State) (f : Nat) (key : List Byte) : Option (Nat × State) :=
  (lowest 256 (fun k => !s.on .KEY_SLOT_VALID k)).map (fun k =>
    let t := (((s.wr .KEY_SLOT_VALID 1 k).wr .KEY_SLOT_USE 0 k).wr .KEY_SLOT_FLASK f k).wr .KEY_SLOT_FLASK_GEN (s.flaskGen f) k
    (k, t.putKey k (slice key 0 32)))

/-- Bytes of the buffer of a migration message (R441). -/
def migBuf : Nat := 16384

/-- The buffer of a migration message: placed and aligned as a legend buffer (R396, R441). -/
def State.migBufFails (s : State) (f a : Nat) : Option Nat :=
  if !s.flaskBuf f a migBuf then some stDENIED else if a % 64 ≠ 0 then some stBADARG else none

/-! ## Migration messages (R440) -/

/-- The claims of a migration message. -/
structure MigMsg where
  device : List Byte
  comps  : List (Nat × List Byte)       -- the firmware claim: component and digest
  nonce  : List Byte
  eph    : List Byte
  shape  : List Nat
  digest : Option (List Byte)           -- of the offer, in an accept
  flask  : Nat × Nat                    -- ID and generation of the sender's flask
  deriving DecidableEq, Repr

/-- The payload of a migration message: an accept is the message that carries the offer's digest. -/
def MigMsg.payload (m : MigMsg) : List Byte :=
  cbClaims ([(70201, cbUint (b2n m.digest.isSome)), (70202, cbBytes (slice m.device 0 16)), (70203, cbFirmware m.comps),
    (70204, cbBytes (slice m.nonce 0 48)), (70205, cbBytes (slice m.eph 0 97)), (70206, cbUints m.shape)] ++
    m.digest.toList.map (fun d => (70207, cbBytes (slice d 0 48))) ++ [(70208, cbUints [m.flask.1, m.flask.2])])

/-- One component of a firmware claim. -/
def readComp (b : List Byte) : Option ((Nat × List Byte) × List Byte) := do
  let (_, r) ← cbRead 4 b
  let (c, r) ← cbRead 0 r
  let (d, r) ← cbReadBytes r
  some ((c, d), r)

/-- The claims of the payload p of an offer, or of an accept: any payload but one in the form of `MigMsg.payload` is
refused. -/
def MigMsg.read (accept : Bool) (p : List Byte) : Option MigMsg := do
  let (_, r) ← cbRead 5 p
  let (_, r) ← cbRead 0 (← cbKey 70201 r)
  let (device, r) ← cbReadBytes (← cbKey 70202 r)
  let (_, r) ← cbRead 4 (← cbKey 70203 r)
  let (c1, r) ← readComp r
  let (c2, r) ← readComp r
  let (c3, r) ← readComp r
  let (nonce, r) ← cbReadBytes (← cbKey 70204 r)
  let (eph, r) ← cbReadBytes (← cbKey 70205 r)
  let (shape, r) ← cbReadUints 6 (← cbKey 70206 r)
  let (digest, r) ← if accept then do
      let (d, r) ← cbReadBytes (← cbKey 70207 r)
      some (some d, r)
    else some (none, r)
  let (flask, _) ← cbReadUints 2 (← cbKey 70208 r)
  let m : MigMsg := { device := device, comps := [c1, c2, c3], nonce := nonce, eph := eph, shape := shape, digest := digest,
                      flask := (nth flask 0 0, nth flask 1 0) }
  if m.payload = p then some m else none

/-- The claims of the migration message b. -/
def migMsg (accept : Bool) (b : List Byte) : Option MigMsg := (cosePayload b).bind (MigMsg.read accept)

/-- The shape of flask f (R440). -/
def State.shape (s : State) (f : Nat) : List Nat :=
  [popCount (s.rd .FL_GROUPS f) 64, s.rd .FL_SIZE f, s.rd .FL_QCOUNT f, s.rd .FL_TCOUNT_M1 f + 1,
   s.rd .MC_STORE_BASE f - s.rd .FL_BASE f * 8192, s.rd .MC_STORE_SIZE f]

/-- The claims of this package's message for flask f. -/
def State.migClaims (s : State) (f : Nat) (nonce eph : List Byte) (digest : Option (List Byte)) : MigMsg :=
  { device := s.kyrdo.device, comps := s.components, nonce := nonce, eph := eph, shape := s.shape f, digest := digest,
    flask := (f, s.flaskGen f) }

/-- The message itself, signed with Kyrdo's attestation key. -/
def State.migSigned (s : State) (m : MigMsg) (sig : List Byte) : List Byte := coseSign1 s.kyrdo.kid m.payload sig

/-- The firmware claim of a message for components 2 and 3 names the digests committed here (R441). -/
def State.sameFirmware (s : State) (m : MigMsg) : Bool :=
  [2, 3].all (fun c => m.comps.filter (fun p => p.1 == c) == s.components.filter (fun p => p.1 == c))

/-! ## MIG_OFFER, MIG_ACCEPT, MIG_BIND (R441) -/

/-- MIG_OFFER in slot n from its start point. -/
def State.migOffer (s : State) (n : Nat) : State :=
  let f := (s.fref n).1
  if !s.frefOk n then (s.frefStale n).reply n stSTATE
  else if s.flaskState f ≠ flQUENCHED ∨ (s.vault f).before ≠ flSEALED ∨ s.rd .QN_PHASE f ≠ qnQUENCHED then s.reply n stSTATE
  else match s.migBufFails f (s.par n 1) with
    | some st => s.reply n st
    | none => s.askKyrdo n f (.offer (s.par n 1))

/-- Kyrdo A's offer for the MIG_OFFER in slot n: the session nonce, its ephemeral key and the message's signature. -/
def State.offerAnswer (s : State) (n f buf : Nat) (nonce eph sig : List Byte) : State :=
  let msg := s.migSigned (s.migClaims f nonce eph none) sig
  let t := (s.dropMigKey f).setSess f (some { source := true, offer := sha384 msg })
  (t.mailWrite f buf msg).reply n stOK [msg.length]

/-- The bytes of the message that parameters 1 and 2 of the command in slot n name. -/
def State.migIn (s : State) (n : Nat) : List Byte := s.dieRead (s.par n 1) (bits (s.par n 2) 0 15)

/-- The mailbox has read k bytes of memory for flask f: overhead of the flask (R414). -/
def State.mailRead (s : State) (f k : Nat) : State := s.countFor (.overhead f) 9 k

/-- MIG_ACCEPT in slot n from its start point. An offer whose form or firmware claim fails replies DENIED, one of another
shape STATE (log entry 100); its signature is for Kyrdo B. -/
def State.migAccept (s : State) (n : Nat) : State :=
  let f := (s.fref n).1
  let atlas : Bool := s.atlases.any (fun a => s.rd .XL_ATLAS_FLASK a == f)
  if !s.frefOk n then (s.frefStale n).reply n stSTATE
  else if s.flaskState f ≠ flOPEN ∨ s.rd .QN_PHASE f ≠ qnNONE ∨ s.claimed f KyAsk.isAccept then s.reply n stSTATE
  else if !(s.queuesOf f).isEmpty || s.moulds.table.any (fun m => m.flask == some f) || atlas then s.reply n stSTATE
  else match s.migBufFails f (s.par n 3) with
    | some st => s.reply n st
    | none =>
      let s := s.mailRead f (s.migIn n).length
      match migMsg false (s.migIn n) with
      | none => s.reply n stDENIED
      | some m =>
        if m.shape ≠ s.shape f then s.reply n stSTATE
        else if !s.sameFirmware m then s.reply n stDENIED
        else s.askKyrdo n f (.accept (s.par n 3) (s.migIn n))

/-- Kyrdo B's accept for the MIG_ACCEPT in slot n of the offer: every granule of the target becomes SEALED under R40. -/
def State.acceptAnswer (s : State) (n f buf : Nat) (offer eph sig kmig : List Byte) : State :=
  match s.putMigKey f kmig with
  | none => s.reply n stNORES
  | some (k, t) =>
    let nonce := match migMsg false offer with | some m => m.nonce | none => []
    let msg := s.migSigned (s.migClaims f nonce eph (some (sha384 offer))) sig
    let t := t.setSess f (some { source := false, offer := sha384 offer, accept := sha384 msg, slot := some k })
    let t := (t.wr .QN_PHASE qnIMPORTING f).setSeals f (fun _ => 1)
    (t.mailWrite f buf msg).waitSeal { slot := n, flask := f, outs := [msg.length] }

/-- The accept b passes the checks of MIG_BIND that rest on its claims: its form, its firmware claim, and the digest of
the offer of session v (R441). -/
def State.acceptOk (s : State) (v : Session) (b : List Byte) : Bool :=
  (migMsg true b).any (fun m => s.sameFirmware m && m.digest == some v.offer)

/-- MIG_BIND in slot n from its start point. -/
def State.migBind (s : State) (n : Nat) : State :=
  let f := (s.fref n).1
  if !s.frefOk n then (s.frefStale n).reply n stSTATE
  else match (s.sess f).filter (fun v => v.source && v.slot.isNone && s.rd .QN_PHASE f == qnQUENCHED &&
      !s.claimed f KyAsk.isBind) with
    | none => s.reply n stSTATE
    | some v =>
      let s := s.mailRead f (s.migIn n).length
      if s.acceptOk v (s.migIn n) then s.askKyrdo n f (.bind (s.migIn n)) else s.reply n stDENIED

/-- Kyrdo A's answer to the MIG_BIND in slot n of an accept. -/
def State.bindAnswer (s : State) (n f : Nat) (accept kmig : List Byte) : State :=
  match s.sess f, s.putMigKey f kmig with
  | some v, some (k, t) => (t.setSess f (some { v with accept := sha384 accept, slot := some k })).reply n stOK
  | _, _ => s.reply n stNORES

/-! ## The staging area (R442, R444) -/

/-- First byte and length of the staging area. -/
def State.stage (s : State) : Nat × Nat := (s.rd .MIG_STAGE_BASE * granule, s.rd .MIG_STAGE_SIZE * granule)

/-- The staging area lies where it may. -/
def State.stageOk (s : State) : Bool :=
  let (a, n) := s.stage
  decide (a + n ≤ hbmSize) && !s.meetsFlask a n &&
  !overlaps a n (s.rd .TIER_POOL_BASE * 2 ^ 30) (s.rd .TIER_POOL_N1G * 2 ^ 30 + s.rd .TIER_POOL_N32 * granule)

/-- Bytes that a run of n granules takes in the staging area. -/
def runBytes (n : Nat) : Nat := n * granule + n * 32

/-- The additional authenticated data of granule offset o in a session (R442). -/
def Session.aad (v : Session) (o : Nat) : List Byte := leBytes 4 o ++ zeros 4 ++ slice v.accept 0 8

/-- The key of a session. -/
def State.migKey (s : State) (v : Session) : Option KeyMat := v.slot.bind s.keyOf

/-- MIG_EXPORT with PART RUN in slot n from its start point. -/
def State.exportRun (s : State) (n : Nat) : State :=
  let f := (s.fref n).1
  let j := bits (s.par n 1) 0 32
  let k := bits (s.par n 1) 32 32
  let (a, size) := s.stage
  let ph := s.rd .QN_PHASE f
  if !s.frefOk n then (s.frefStale n).reply n stSTATE
  else if size = 0 then s.reply n stNORES
  else match s.sess f with
    | none => s.reply n stSTATE
    | some v =>
      if !v.source || v.slot.isNone || (ph != qnQUENCHED && ph != qnEXPORTING) then s.reply n stSTATE
      else if !s.stageOk then s.reply n stDENIED
      else if size < runBytes k ∨ s.rd .FL_SIZE f < j + k then s.reply n stBADARG
      else
        let t := s.wr .QN_PHASE qnEXPORTING f
        let (t, done) := (List.range k).foldl (fun (r : State × List Nat) i =>
          let (t, done) := r
          let o := j + i
          let e := a + k * granule + i * 32
          if t.granSealed (t.rd .FL_BASE f + o) then
            match t.migKey v with
            | none => (t, done)
            | some m =>
              let (ct, tag, u) := t.encrypt m (v.aad o) (t.dieRead (t.flaskBase f + o * granule) granule)
              let w := ((u.mailRead f granule).countFor (.overhead f) 11 granule).mailWrite f (a + i * granule) ct
              (w.mailWrite f e (leBytes 4 o ++ ownIv m.slot m.ctr ++ tag), done ++ [o])
          else
            (t.mailWrite f e (leBytes 4 0xFFFFFFFF ++ (List.range 28).map (fun b => Config.exportByte (e + 4 + b))), done)) (t, [])
        let t := match t.sess f with
          | some u => t.setSess f (some { u with granules := done.foldl (fun l o => insertNat o l) u.granules })
          | none => t
        t.reply n stOK [done.length * granule + k * 32]

/-- MIG_EXPORT with PART BUNDLE in slot n from its start point: Kyrdo gives its part. -/
def State.exportBundle (s : State) (n : Nat) : State :=
  let f := (s.fref n).1
  let ph := s.rd .QN_PHASE f
  if !s.frefOk n then (s.frefStale n).reply n stSTATE
  else if s.stage.2 = 0 then s.reply n stNORES
  else if !(s.sess f).any (fun v => v.source && v.slot.isSome) || (ph != qnQUENCHED && ph != qnEXPORTING) then s.reply n stSTATE
  else if !s.stageOk then s.reply n stDENIED
  else s.askKyrdo n f .bundle

/-- The digest over the offsets of the granules of a session (R442, R443). -/
def Session.digest (v : Session) : List Byte := sha384 (v.granules.flatMap (leBytes 4))

/-- The keys of flask f that go into its bundle: use, counter and key of each DATA, EGRESS and COMMAND key. -/
def State.bundleKeys (s : State) (f : Nat) : List (Nat × Nat × List Byte) :=
  ((s.slotsOf f).filter (fun k => s.rd .KEY_SLOT_USE k != 0)).filterMap (fun k =>
    (s.keyOf k).map (fun m => (s.rd .KEY_SLOT_USE k, m.ctr, m.key)))

/-- The bundle of flask f with Kyrdo's part: R442 names its parts and gives them no layout (DESIGN CHOICE, log entry 144). A
header of 128 B holds the number of keys, the length of Kyrdo's part, the digest of the granules, and the IV and tag of the
keys; the keys under K_mig and Kyrdo's part follow. -/
def State.bundle (s : State) (f : Nat) (v : Session) (m : KeyMat) (part : List Byte) : List Byte × State :=
  let ks := s.bundleKeys f
  let pt := ks.flatMap (fun k => leBytes 8 k.1 ++ leBytes 8 k.2.1 ++ slice k.2.2 0 32)
  let (ct, tag, t) := s.encrypt m (v.aad 0xFFFFFFFF) pt
  (leBytes 8 ks.length ++ leBytes 8 part.length ++ v.digest ++ ownIv m.slot m.ctr ++ zeros 4 ++ tag ++ zeros 32 ++ ct ++ part,
   t.countFor (.overhead f) 11 ct.length)

/-- The bundle of the MIG_EXPORT in slot n is written: every key of the source goes, and PHASE becomes EXPORTED. -/
def State.bundleAnswer (s : State) (n f : Nat) (part : List Byte) : State :=
  match (s.sess f).bind (fun v => (s.migKey v).map (fun m => (v, m))) with
  | none => s.reply n stSTATE
  | some (v, m) =>
    let (bytes, t) := s.bundle f v m part
    let t := t.mailWrite f s.stage.1 bytes
    let t := (s.slotsOf f).foldl State.clearSlot t
    ((t.setSess f none).wr .QN_PHASE qnEXPORTED f).reply n stOK [bytes.length]

/-! ## MIG_IMPORT (R443) -/

/-- The import in slot n fails on a tag or a digest: DENIED, and the target is reset. -/
def State.importBad (s : State) (n f : Nat) : State := (s.callFlask f).reply n stDENIED

/-- The address of the data lies in the staging area. -/
def State.inStage (s : State) (a n : Nat) : Bool := inside a n s.stage.1 s.stage.2

/-- What a run's entries do, one after another. -/
inductive ImportEnd where
  | going
  | again                       -- a granule already imported
  | bad                         -- a tag has failed
  deriving DecidableEq, Repr

/-- Entry i of a run of k granules at address a is imported into flask f. -/
def State.importOne (s : State) (f : Nat) (key : List Byte) (a k i : Nat) : State × ImportEnd :=
  let e := s.dieRead (a + k * granule + i * 32) 32
  let o := leAt e 0 4
  let s := s.mailRead f 32
  match s.sess f with
  | none => (s, .bad)
  | some v =>
    if o = 0xFFFFFFFF then (s, .going)
    else if v.granules.contains o then (s, .again)
    else if s.rd .FL_SIZE f ≤ o then (s, .bad)
    else
      let s := (s.mailRead f granule).countFor (.overhead f) 11 granule
      match gcmOpen key (slice e 4 12) (v.aad o) (s.dieRead (a + i * granule) granule) (slice e 16 16) with
      | none => (s, .bad)
      | some pt =>
        let t := s.mailWrite f (s.flaskBase f + o * granule) pt
        (t.setSess f (some { v with granules := insertNat o v.granules }), .going)

/-- MIG_IMPORT with PART RUN in slot n from its start point. -/
def State.importRun (s : State) (n : Nat) : State :=
  let f := (s.fref n).1
  let a := s.par n 1
  let k := bits (s.par n 2) 0 32
  if !s.frefOk n then (s.frefStale n).reply n stSTATE
  else if s.stage.2 = 0 then s.reply n stNORES
  else if s.rd .QN_PHASE f ≠ qnIMPORTING then s.reply n stSTATE
  else match (s.sess f).bind s.migKey with
    | none => s.reply n stSTATE
    | some m =>
      if !(s.stageOk && s.inStage a (runBytes k)) then s.reply n stDENIED
      else
        let (t, e) := (List.range k).foldl (fun (r : State × ImportEnd) i =>
          if r.2 = .going then r.1.importOne f m.key a k i else r) (s, .going)
        match e with
        | .going => t.reply n stOK
        | .again => t.reply n stDENIED
        | .bad => t.importBad n f

/-- The keys of a bundle that begins with the bytes b, its header and encrypted keys, by use, counter and key, where their tag
verifies under the session's key. They are opened inside the sealing unit (R13). -/
def openBundle (v : Session) (m : KeyMat) (b : List Byte) : Option (List (Nat × Nat × List Byte)) :=
  (gcmOpen m.key (slice b 64 12) (v.aad 0xFFFFFFFF) (b.drop 128) (slice b 80 16)).map (fun pt =>
    (List.range (pt.length / 48)).map (fun i => (leAt pt (48 * i) 8, leAt pt (48 * i + 8) 8, slice pt (48 * i + 16) 32)))

/-- The bundle that slot n's MIG_IMPORT names: address and length. -/
def State.bundleRange (s : State) (n : Nat) : Nat × Nat :=
  let h := s.dieRead (s.par n 1) 16
  (s.par n 1, 128 + 48 * min (leAt h 0 8) 256 + leAt h 8 8 % 2 ^ 44)

/-- MIG_IMPORT with PART BUNDLE in slot n from its start point: the sealing unit checks the tag of the keys and compares the
digest of the granules imported, and Kyrdo is asked to take in its part (R443). The keys stay encrypted until they enter their
slots (R13). -/
def State.importBundle (s : State) (n : Nat) : State :=
  let f := (s.fref n).1
  let a := s.par n 1
  if !s.frefOk n then (s.frefStale n).reply n stSTATE
  else if s.stage.2 = 0 then s.reply n stNORES
  else if s.rd .QN_PHASE f ≠ qnIMPORTING ∨ s.claimed f KyAsk.isImport then s.reply n stSTATE
  else match (s.sess f).bind (fun v => (s.migKey v).map (fun m => (v, m))) with
    | none => s.reply n stSTATE
    | some (v, m) =>
      let h := s.dieRead a 128
      let k := leAt h 0 8
      let z := leAt h 8 8
      if !(s.stageOk && s.inStage a 128) then s.reply n stDENIED
      else if 256 < k || !s.inStage a (128 + 48 * k + z) then s.importBad n f
      else
        let s := (s.mailRead f (128 + 48 * k + z)).countFor (.overhead f) 11 (48 * k)
        let b := s.dieRead a (128 + 48 * k)
        if (openBundle v m b).isNone ∨ slice h 16 48 ≠ v.digest then s.importBad n f
        else s.askKyrdo n f (.import_ b (s.dieRead (a + 128 + 48 * k) z))

/-- The keys of a bundle enter free slots of flask f with their counters; none where the slots do not suffice. -/
def State.importKeys (s : State) (f : Nat) (keys : List (Nat × Nat × List Byte)) : Option State :=
  keys.foldl (fun (r : Option State) q => r.bind (fun t =>
    (lowest 256 (fun k => !t.on .KEY_SLOT_VALID k)).map (fun k =>
      let t := (((t.wr .KEY_SLOT_VALID 1 k).wr .KEY_SLOT_USE q.1 k).wr .KEY_SLOT_FLASK f k).wr .KEY_SLOT_FLASK_GEN (t.flaskGen f) k
      let t := t.putKey k (slice q.2.2 0 32) q.2.1
      if q.1 = 2 then (t.wr .FL_EGRESS_SLOT k f).wr .FL_EGRESS_VALID 1 f
      else if q.1 = 3 then t.wr .FL_CMD_SLOT k f else t))) (some s)

/-- Kyrdo has taken in its part of the bundle of the MIG_IMPORT in slot n: the keys of the bundle that begins with b enter
their slots, and the flask has its key pair and counts as sealed from then on (R443), also for its RWS fields (R6). -/
def State.importAnswer (s : State) (n f : Nat) (b : List Byte) (pub : List Byte) : State :=
  match (s.sess f).bind (fun v => (s.migKey v).bind (fun m => (openBundle v m b).map (fun keys => (v, keys)))) with
  | none => s.reply n stSTATE
  | some (v, keys) =>
    match (s.dropMigKey f).importKeys f keys with
    | none => s.reply n stNORES
    | some t =>
      let w := { t.vault f with pub := pub, sess := some { v with slot := none, bundled := true }, everSealed := true }
      (t.setVault w).reply n stOK

end Sys2Proof.Machine
end

