-- ==== Sys2Proof/Machine/Mgmt.lean ====
section
/-! DEFINITION. The mailbox itself and the commands that chapter 17 defines: submits, INFO, certificates, management pours,
firmware, the watchdog, and what Kyrdo answers (R446, R456 to R465). -/
namespace Sys2Proof.Machine

/-! ## Submits (R446, R471) -/

/-- MB_SUBMIT: a write to CZ_MB_SUBMIT. Only an 8-byte write acts (R493); the host away discards it (R452). -/
def State.mbSubmit (s : State) (size val : Nat) : State :=
  let n := bits val 0 4
  let ph := s.rd .RAS_STATUS_PHASE
  if ph = 0 ∨ ph = 5 ∨ ph = 6 then (s.bump .RAS_COUNT_RESET_WRITES).wr .RAS_ERR_RESET_WRITE 1
  else if s.hostAway then s
  else if size ≠ 8 then s.wr .HLP_ERR_BAD_REG 1
  else if val / 16 ≠ 0 then s.wr .MB_ERR_BAD_SUBMIT 1
  else if s.slotState n = mbQUEUED ∨ s.slotState n = mbRUNNING then s.wr .MB_ERR_BAD_SUBMIT 1
  else
    let t := (s.clearReply n).setSlot n mbQUEUED
    let cut (w : PowerWait) : PowerWait := { w with prior := w.prior.filter (fun m => m != n) }
    { t with mbox := { t.mbox with order := t.mbox.order ++ [n] }, power := t.power.map cut }

/-! ## INFO (R456) -/

/-- The 6 doublewords of a SHA-384 digest. -/
def digestWords (d : List Byte) : List Nat := (List.range 6).map (fun i => leAt d (8 * i) 8)

/-- An image of the component is staged. -/
def State.isStaged (s : State) (comp : Nat) : Bool := s.staged.any (fun x => x.comp == comp && x.ok)

/-- The version of component comp that runs: until a switch to a committed image is over, the one before it (R456, R464). -/
def State.running (s : State) (comp : Nat) : Nat :=
  match s.mbox.switches.find? (fun w => w.comp == comp) with
  | some w => w.old
  | none => if comp = 2 then s.kyrdo.mgmtVer else s.kyrdo.ucodeVer

/-- INFO in slot n from its start point. -/
def State.info (s : State) (n : Nat) : State :=
  s.reply n stOK ([s.running 2 % 2 ^ 16 + s.running 3 % 2 ^ 16 * 2 ^ 16] ++ digestWords s.kyrdo.mgmt ++
    digestWords s.kyrdo.ucode ++ [b2n (s.isStaged 2) + 2 * b2n (s.isStaged 3)])

/-! ## CERT_GET (R457) -/

/-- CERT_GET in slot n from its start point. -/
def State.certGet (s : State) (n : Nat) : State :=
  let buf := s.par n 1
  if buf % 64 ≠ 0 then s.reply n stBADARG
  else if !s.outsideAll buf migBuf then s.reply n stDENIED
  else s.askKyrdo n 0 (.cert (bit (s.par n 0) 48) buf)

/-! ## MGMT_RUN (R459) -/

/-- The first status of R459 that refuses slot n's MGMT_RUN, and the mould it names otherwise. -/
def State.mgmtRunCheck (s : State) (n : Nat) : Except Nat Mould :=
  let idx := bits (s.par n 1) 0 20
  let gen := bits (s.par n 1) 20 12
  let groups := s.par n 2
  match s.moulds.table.find? (fun m => m.idx == idx && m.loaded && m.flask.isNone && m.gen == gen) with
  | none => .error stSTATE
  | some m =>
    if groups = 0 || s.flasks.any (fun f => s.rd .FL_GROUPS f &&& groups != 0) || (onesOf groups 64).any s.reservedBy then
      .error stDENIED
    else if s.mbox.run.isSome || s.mbox.runWait.isSome then .error stBUSY
    else if m.banks ≤ bits (s.par n 1) 32 8 then .error stBADARG
    else .ok m

/-- A pour context of sequencer 0 that is free. -/
def State.seqZero (s : State) : Option Nat := (List.range 16).find? (fun c => (s.ctx? c).isNone)

/-- The pour of slot n's MGMT_RUN of mould m takes context c, unless the sequencers are loading an image (R459, R464). -/
def State.mgmtStart (s : State) (n : Nat) (m : Mould) (c : Nat) : State :=
  let bank := bits (s.par n 1) 32 8
  let x : Ctx := { num := c, st := .gates, pour := {}, flask := noFlask, root := c, mgmt := true, mould := m.idx, mgen := m.gen,
                   bank := bank, groups := s.par n 2, admitted := s.time }
  let t := { s with ctxs := s.ctxs ++ [x], mbox := { s.mbox with run := some (n, c), runWait := none } }
  t.say (.bankRead c (m.gbase + bank * 0x200))

/-- MGMT_RUN in slot n from its start point: its pour takes a context of sequencer 0, or waits for one. -/
def State.mgmtRun (s : State) (n : Nat) : State :=
  let idx := bits (s.par n 1) 0 20
  let gen := bits (s.par n 1) 20 12
  match s.mgmtRunCheck n, s.seqZero with
  | .error st, _ =>
    (if st = stSTATE && gen != s.handleGen idx then s.stale .mould idx gen (s.handleGen idx) else s).reply n st
  | .ok m, none => { s with mbox := { s.mbox with runWait := some (n, m.idx, m.gen) } }
  | .ok m, some c =>
    if s.loading then { s with mbox := { s.mbox with runWait := some (n, m.idx, m.gen) } } else s.mgmtStart n m c

/-- The MGMT_RUN that waits for a context takes one, and the one whose pour has ended replies. -/
def State.pumpRun (s : State) : State :=
  match s.mbox.run, s.mbox.runWait with
  | some (n, c), _ =>
    if (s.ctx? c).any Ctx.mgmt then s else ({ s with mbox := { s.mbox with run := none } }).reply n stOK
  | none, some (n, i, g) =>
    (match s.moulds.table.find? (fun m => m.idx == i && m.gen == g), s.seqZero with
    | some m, some c => if s.loading then s else s.mgmtStart n m c
    | _, _ => s)
  | none, none => s

/-! ## Firmware (R461 to R465) -/

/-- Bytes of a staged bank. -/
def bankSize (comp : Nat) : Nat := if comp = 2 then 2 ^ 20 else 2 ^ 18

/-- The component that slot n names. -/
def State.comp (s : State) (n : Nat) : Nat := bits (s.par n 0) 48 4

/-- The staged bits of CZ_MB_FW. -/
def State.fwBits (s : State) : State :=
  (s.wr .MB_FW_MGMT_STAGED (b2n (s.isStaged 2))).wr .MB_FW_UCODE_STAGED (b2n (s.isStaged 3))

/-- The requests of a FW_COMMIT of component comp. -/
def State.commits (s : State) (comp : Nat) : List KyReq :=
  s.kyreqs.filter (fun r => match r.ask with | .commit c => c == comp | _ => false)

/-- The FW_COMMITs of component comp that wait reply STATE. -/
def State.dropCommits (s : State) (comp : Nat) : State :=
  let ns := (s.commits comp).map KyReq.slot
  ({ s with kyreqs := s.kyreqs.filter (fun r => !ns.contains r.slot) }).replyAll ns stSTATE

/-- The staged image of a component is gone. A FW_COMMIT that waits for it, which can have met only its FW_STAGE's claim, finds
nothing staged (DESIGN CHOICE, log entry 142). -/
def State.unstage (s : State) (comp : Nat) : State :=
  { s.dropCommits comp with staged := s.staged.filter (fun x => x.comp != comp) }.fwBits

/-- The range of memory that slot n's FW_STAGE reads. -/
def State.fwRange (s : State) (n : Nat) : List (Nat × Nat) := [(s.par n 1, bits (s.par n 2) 0 32)]

/-- FW_STAGE in slot n from its start point (R463). -/
def State.fwStage (s : State) (n : Nat) : State :=
  let comp := s.comp n
  let a := s.par n 1
  let len := bits (s.par n 2) 0 32
  if s.staged.any (fun x => x.comp == comp) then s.reply n stSTATE
  else if a % 4096 ≠ 0 ∨ len = 0 ∨ bankSize comp < len then s.reply n stBADARG
  else if !s.outsideAll a len then s.reply n stDENIED
  else
    let data := s.dieRead a len
    let x : Staged := { comp := comp, digest := sha384 data, version := 0, coefs := [], est := 0, bank := data }
    ({ s with staged := s.staged ++ [x] }.countFor .package 9 len).askKyrdo n 0 (.image comp data)

/-- Kyrdo's checks of an image of component comp have passed: the component is staged. -/
def State.stageAnswer (s : State) (n comp : Nat) (data : List Byte) (version : Nat) (coefs : List Nat) (est : Nat) : State :=
  let put (x : Staged) : Staged := { x with version := version, coefs := coefs, est := est, ok := true }
  let t := { s with staged := updAll s.staged (fun x => x.comp == comp && x.bank == data) put }
  t.fwBits.reply n stOK (digestWords (sha384 data))

/-- Kyrdo's checks of an image of component comp have failed, or it has not answered: the staged bank holds no image. -/
def State.stageFailed (s : State) (n comp : Nat) (data : List Byte) (status : Nat) : State :=
  (if s.staged.any (fun x => x.comp == comp && x.bank == data) then s.unstage comp else s).reply n status

/-- An image of the component is staged, or a started FW_STAGE claims that it is (R450). -/
def State.claimsStaged (s : State) (comp : Nat) : Bool := s.staged.any (fun x => x.comp == comp)

/-- FW_COMMIT in slot n from its start point (R464): a second one joins the first, before its commit point or in its switch
(R465). -/
def State.fwCommit (s : State) (n : Nat) : State :=
  let comp := s.comp n
  if s.mbox.switches.any (fun w => w.comp == comp) then
    let join (w : Switch) : Switch := { w with slots := w.slots ++ [n] }
    { s with mbox := { s.mbox with switches := updAll s.mbox.switches (fun w => w.comp == comp) join } }
  else if !s.claimsStaged comp then s.reply n stSTATE
  else if !(s.commits comp).isEmpty then
    { s with kyreqs := s.kyreqs ++ [{ slot := n, at_ := s.time, ask := .commit comp }] }
  else if comp = 3 && (s.on .QM_CTL_ADMIT_EN || !s.ctxs.isEmpty || s.mbox.runWait.isSome) then s.reply n stSTATE
  else s.askKyrdo n 0 (.commit comp)

/-- The commit point of component comp: the staged bank becomes the committed one, and the switch to it begins (R464). -/
def State.commitAnswer (s : State) (comp : Nat) : State :=
  match s.staged.find? (fun x => x.comp == comp && x.ok) with
  | none => s
  | some x =>
    let ns := (s.commits comp).map KyReq.slot
    let t := { s with kyreqs := s.kyreqs.filter (fun r => !ns.contains r.slot) }
    let t := if comp = 2 then
        let k := { t.kyrdo with mgmt := x.digest, mgmtVer := x.version, mgmtBank := x.bank, coefs := x.coefs, est := x.est }
        { t with kyrdo := k, meter := { t.meter with coefs := some (x.coefs, x.est) } }
      else { t with kyrdo := { t.kyrdo with ucode := x.digest, ucodeVer := x.version, ucodeBank := x.bank } }
    let sw : Switch := { comp := comp, slots := ns, from_ := s.time,
                         till := s.time + (Config.switchTime s.time).toNat % 2000001, old := s.running comp }
    let t := t.unstage comp
    { t with mbox := { t.mbox with switches := t.mbox.switches ++ [sw] } }

/-- The switches whose time is over: the cores or the sequencers run the new image, and FW_COMMIT replies (R464). -/
def State.pumpSwitch (s : State) : State :=
  let ended := s.mbox.switches.filter (fun w => decide (w.till ≤ s.time))
  ended.foldl (fun t w =>
    let t := { t with mbox := { t.mbox with switches := t.mbox.switches.filter (fun x => x != w) } }
    (if w.comp = 2 then t.wr .MB_FW_VERSION t.kyrdo.mgmtVer else t).replyAll w.slots stOK) s

/-- The row of FW_COMMIT: from its start point; and, for a command whose image is being switched to, the end of the switch. -/
def State.fwCommitRow (s : State) (n : Nat) : State :=
  match s.mbox.switches.find? (fun w => w.slots.contains n) with
  | some w => (s.elapse w.till).pumpSwitch
  | none => s.mbRun n 0x71 (fun t => t.fwCommit n)

/-- The mailbox moves on: its management pour and its switches. -/
def State.pumpMgmt (s : State) : State := s.pumpRun.pumpSwitch

/-- FW_ABORT in slot n from its start point (R465); a FW_COMMIT that has not come to its commit point finds nothing staged, and
a FW_STAGE that still waits for Kyrdo replies as if it had ended before (DESIGN CHOICE, log entry 142). -/
def State.fwAbort (s : State) (n : Nat) : State :=
  let comp := s.comp n
  if !s.claimsStaged comp then s.reply n stSTATE
  else
    (s.unstage comp).reply n stOK

/-- The command in slot n, whose core has expired, is resumed from its journal (R462). One that waits for Kyrdo has passed no
effect point, but LEGEND_REQ its snapshot (R397), nor has a MOULD_LOAD whose mould is not yet valid, or a MGMT_RUN that waits
for a context: it starts again from its start point and its checks. Every other started command goes on from the effect points
that it has passed. -/
def State.resumeSlot (s : State) (n : Nat) : State :=
  let t := s.wr .MB_RPL_RESUMED 1 n
  let again (t : State) : State :=
    { t.dropKy n with mbox := { t.mbox with order := n :: t.mbox.order.filter (fun m => m != n) } }
  match s.kyreq? n with
  | none =>
    if s.mbox.runWait.any (fun w => w.1 == n) then again { t with mbox := { t.mbox with runWait := none } }
    else match s.moulds.table.find? (fun m => m.slot == some n && !m.loaded) with
      | some m => again (t.dropLoads [m])
      | none => t
  | some r => match r.ask with
    | .legend _ _ => t
    | .image comp data => again { t with staged := t.staged.filter (fun x => !(x.comp == comp && x.bank == data && !x.ok)) }
    | _ => again t

/-- MGMT_WATCHDOG_EXPIRY (R462): core `core` restarts; the commands in `slots` are resumed from their journals. -/
def State.watchdog (s : State) (core : Nat) (slots : List Nat) : State :=
  if !(s.ready && decide (core < 2)) then s
  else
    let t := (s.wr .MB_ERR_WATCHDOG 1).bump .MB_FW_WDOG
    let t := (slots.filter (fun n => decide (n < 16) && s.slotState n == mbRUNNING)).foldl State.resumeSlot t
    let last (c : Nat) : Option Nat := (s.mbox.dogs.find? (fun d => d.1 == c)).map Prod.snd
    let again : Bool := match last core with | some a => decide (s.time < a + 10 ^ 9) | none => false
    let both : Bool := match last (1 - core) with | some a => decide (s.time < a + 10 ^ 7) | none => false
    let t := { t with mbox := { t.mbox with dogs := aset t.mbox.dogs core s.time } }
    if again || both then (t.ras { severity := 3, unit := 0x0B, code := 6, index := core }).callBlock else t

/-! ## What Kyrdo answers -/

/-- Kyrdo gives the certificates of a chain, the leaf first: they are written as a CBOR array of byte strings, within the 16 KiB
of the buffer (R457). -/
def State.certAnswer (s : State) (n buf : Nat) (cs : List (List Byte)) : State :=
  let b := (cbArray (cs.map cbBytes)).take migBuf
  ((s.ownWrite buf b).countFor .package 9 b.length).reply n stOK [b.length]

/-- KYRDO_ANSWER: Kyrdo answers the command in slot n. -/
def State.kyrdoAnswer (s : State) (n : Nat) (ans : KyAns) : State :=
  match s.kyreq? n with
  | none => s
  | some r =>
    let t := s.dropKy n
    let f := r.flask
    match r.ask, ans with
    | .confirm _ env, .key k => t.confirmAnswer n env (some k)
    | .confirm _ env, .refused => t.confirmAnswer n env none
    | .cert _ buf, .chain cs => t.certAnswer n buf cs
    | .image comp data, .image v cs est => t.stageAnswer n comp data v cs est
    | .image comp data, .refused => t.stageFailed n comp data stDENIED
    | .commit comp, .committed => s.commitAnswer comp
    | .offer buf, .offer nonce eph sig => t.offerAnswer n f buf nonce eph sig
    | .offer _, .refused => t.reply n stDENIED
    | .accept buf offer, .accept eph sig k => t.acceptAnswer n f buf offer eph sig k
    | .accept _ _, .refused => t.reply n stDENIED
    | .bind acc, .bound k => t.bindAnswer n f acc k
    | .bind _, .refused => t.reply n stDENIED
    | .bundle, .bundle b => t.bundleAnswer n f b
    | .import_ b _, .imported pub => t.importAnswer n f b pub
    | .import_ _ _, .refused => t.importBad n f
    | _, _ => s

/-- KYRDO_TIMEOUT for the command in slot n (R380, R397, R457, R463): Kyrdo has not answered within 100 ms. -/
def State.kyrdoTimeout (s : State) (n : Nat) : State :=
  match s.kyreq? n with
  | none => s
  | some r =>
    let t := (s.dropKy n).elapse (r.at_ + 100000000)
    match r.ask with
    | .create | .legend _ _ => (t.wr .FL_ERR_KYRDO_TIMEOUT 1).reply n stTIMEOUT
    | .cert _ _ => t.reply n stTIMEOUT
    | .image comp data => t.stageFailed n comp data stTIMEOUT
    | _ => s

end Sys2Proof.Machine
end

