-- ==== Sys2Proof/Machine/Power.lean ====
section
/-! DEFINITION. Power states (18): POWER_SET and its drain, DROWSE and its exit, and idle gating (R476 to R479); and what a
reset of everything leaves (R470). -/
namespace Sys2Proof.Machine

/-! ## What a whole-block reset leaves (R470) -/

/-- The fields that live hardware or fuses hold, and that no BLOCK reset changes (R468, R471). -/
def liveFields : List Field :=
  [.HLP_STATUS_LINK_UP, .HLP_CREDIT_NP_GRANTED, .HLP_CREDIT_P_GRANTED, .HLP_CREDIT_EVT_GRANTED, .PEER_STATUS_LANES_UP,
   .CFG_SUBSYS, .ID_ENGINE_REV, .DEVID_LO, .DEVID_HI]

/-- Field f keeps its value across a BLOCK reset. -/
def Field.keptBlock (f : Field) : Bool := bit f.row.kept 0 || liveFields.contains f

/-- The numbers of the fields that keep their values across a BLOCK reset. -/
def keptNums : List Nat := (Field.all.filter Field.keptBlock).map Field.num

/-- The state with everything the block holds initialised: no register field but those in keep, no work; the committed
memory, and what Kyrdo keeps. -/
def State.cleared (s : State) (keep : List Nat) (hlp : Hlp) : State :=
  { time := s.time, nextId := s.nextId, regs := s.regs.filter (fun p => keep.contains (p.1 % 1024)),
    hbm := (s.wbuf.foldl (fun (t : State) st => t.putCells st.cells) s).hbm, sent := s.sent, hlp := hlp, kyrdo := s.kyrdo,
    pending := s.pending }

/-! ## POWER_SET (R478) -/

/-- The exit from DROWSE starts for a cause and, for POWER_SET ACTIVE, a slot; or it is under way and the slot joins it. -/
def State.startExit (s : State) (cause : Nat) (ns : List Nat) : State :=
  match s.exit with
  | some (c, ms) => { s with exit := some (c, ms ++ ns) }
  | none => { s.wr .PWR_STATUS_EXITING 1 with exit := some (cause, ns) }

/-- A POWER_SET of a STATE has started and waits: it claims that state (R450). -/
def State.powerClaimed (s : State) (state : Nat) : Bool :=
  s.power.any (fun w => w.state == state || w.also.any (fun p => p.2 == state))

/-- POWER_SET with STATE 0 in slot n from its start point: it ends a wait, or DROWSE. A DROWSE that waits counts as entered
(R450), so that the command which ends its wait replies OK (DEDUCED, log entry 120). -/
def State.powerActive (s : State) (n : Nat) : State :=
  let t := match s.power with
    | some w => ({ s with power := none }.wr .PWR_STATUS_ENTERING 0).replyAll (w.slot :: w.also.map Prod.fst) stPARTIAL
    | none => s
  if s.drowse then t.startExit 1 [n] else t.reply n (if s.powerClaimed 2 then stOK else stSTATE)

/-- The slots whose commands were accepted before the one in slot n and have not replied. -/
def State.earlier (s : State) (n : Nat) : List Nat :=
  (List.range 16).filter (fun m => m != n && s.slotState m == mbRUNNING && !s.mbox.order.contains m) ++
  s.mbox.order.takeWhile (fun m => m != n)

/-- POWER_SET with STATE 2 or 3 in slot n from its start point; prior are the commands accepted before it. One that comes while
another waits finds the state that this one claims (R450): it waits with it if it asks for the other state. -/
def State.powerDown (s : State) (n state : Nat) (prior : List Nat) : State :=
  if (state = 2 && s.drowse) || s.powerClaimed state then s.reply n stSTATE
  else match s.power with
    | some w => { s with power := some { w with also := w.also ++ [(n, state)] } }
    | none => { s.wr .PWR_STATUS_ENTERING 1 with power := some { slot := n, state := state, prior := prior } }

/-- The row of POWER_SET with a STATE: a command with another STATE is left to its own row. -/
def State.powerRow (s : State) (n state : Nat) : State :=
  if s.opcode n = 0x0073 && (s.mbCheck n).isNone && bits (s.par n 0) 48 2 != state then s
  else s.mbRun n 0x0073 (fun t => if state = 0 then t.powerActive n else t.powerDown n state (s.earlier n))

/-- Nothing that a POWER_SET waits for is left (R478). -/
def State.drained (s : State) (w : PowerWait) : Bool :=
  w.prior.all (fun m => s.slotState m != mbQUEUED && s.slotState m != mbRUNNING) && s.ctxs.isEmpty && s.cast.jobs.isEmpty &&
  s.route.ops.isEmpty && s.tier.migs.isEmpty && s.quenches.isEmpty && s.scrubs.isEmpty && s.tears.isEmpty && s.copies.isEmpty &&
  !s.reqs.any Req.isWrite && s.cast.egress.isEmpty && s.qm.records.isEmpty && s.errWait.isEmpty &&
  !s.hlp.waits.any (fun x => match x.act with | .store _ => true | _ => false)

/-- On the way to OFF every open accumulator closes and every block of receipts is sent, once the drain is over (R421,
R478). -/
def State.pumpPower (s : State) : State :=
  match s.power with
  | none => s
  | some w =>
    if w.state ≠ 3 || !s.drained w then s
    else
      let t := s.closeAccs (fun _ => true) 0
      { t with meter := { t.meter with blocks := t.meter.blocks.map (fun b => { b with due := true }) } }

/-- The stored fields that DROWSE returns to their reset values (R7). -/
def drowseFields : List Field := [.QM_STATUS_TOKENS, .PWR_STATUS_WAKE_CAUSE]

/-- Entry to DROWSE: every POWER_SET that waits for it replies; one that waits for OFF goes on waiting (R478). -/
def State.enterDrowse (s : State) (w : PowerWait) : State :=
  let (sleep, off) := w.also.partition (fun p => p.2 == 2)
  let t := ((s.rstAll drowseFields 0).wr .PWR_STATUS_STATE 2).replyAll (w.slot :: sleep.map Prod.fst) stOK
  match off with
  | [] => t
  | (n, st) :: rest =>
    { t.wr .PWR_STATUS_ENTERING 1 with power := some { slot := n, state := st, prior := [], also := rest } }

/-- POWER_DRAIN_COMPLETE (R470, R476, R478): the block enters DROWSE, or OFF, in which nothing is kept but what Kyrdo holds
and which only COLD leaves. -/
def State.powerDrained (s : State) : State :=
  match s.power with
  | none => s
  | some w =>
    if !s.drained w then s
    else
      let t := { s with power := none }.wr .PWR_STATUS_ENTERING 0
      if w.state = 2 then t.enterDrowse w
      else if s.meter.accs.isEmpty && s.meter.blocks.isEmpty then
        { (t.replyAll (w.slot :: w.also.map Prod.fst) stOK).cleared [] {} with hbm := [] }.say .powerOff
      else s

/-! ## DROWSE (R479) -/

/-- A wake for a cause, where the registers enable it: 2 window, 3 doorbell, 4 peer. -/
def State.wake (s : State) (cause : Nat) : State :=
  let en : Bool := if cause = 2 then s.on .PWR_CTL_WAKE_WINDOW else if cause = 3 then s.on .PWR_CTL_WAKE_DOORBELL
    else cause == 4 && s.on .PWR_CTL_WAKE_PEER
  if s.drowse && s.exit.isNone && en then s.startExit cause [] else s

/-- The exit from DROWSE is over: the block is ACTIVE, and POWER_SET ACTIVE replies. -/
def State.exitDone (s : State) : State :=
  match s.exit with
  | none => s
  | some (cause, ns) =>
    let t := { s with exit := none }
    let t := ((t.wr .PWR_STATUS_EXITING 0).wr .PWR_STATUS_STATE 0).wr .PWR_STATUS_WAKE_CAUSE cause
    t.replyAll ns stOK

/-! ## IDLE (R477) -/

/-- A lane of group g holds a lane record, or an engine of it runs a kernel. -/
def State.groupBusy (s : State) (g : Nat) : Bool :=
  (enginesOf g).any (fun e => (s.lane e).running.isSome || (s.lane e).shadow.isSome || !(s.lane e).queue.isEmpty)

/-- IDLE_GATE: group g has been without work for IDLE_US µs. -/
def State.idleGate (s : State) (g : Nat) : State :=
  if !(s.ready && s.on .PWR_CTL_IDLE_EN && decide (g < 64)) || s.groupBusy g || s.reservedBy g || bit (s.rd .PWR_GATED_GROUPS) g then s
  else
    let from_ := max (aget s.groupUse g 0) s.readyAt
    (s.elapse (from_ + max (s.rd .PWR_CTL_IDLE_US) 1 * 1000)).wr .PWR_GATED_GROUPS (s.rd .PWR_GATED_GROUPS + 2 ^ g)

/-- What follows an inbound packet that met the state s, with effect t: in DROWSE it may start a wake (R479). -/
def State.wakeFor (s : State) (p : List Byte) (t : State) : State :=
  match s.inboundWakes p with
  | some cause => t.wake cause
  | none => t

end Sys2Proof.Machine
end

