-- ==== Sys2Proof/Machine/Reset.lean ====
section
/-! DEFINITION. Whole-block resets, start-up, and the faults the block detects in itself (R467 to R475, R480 to R484). -/
namespace Sys2Proof.Machine

/-- The state after a reset of everything but `keep`: CZ_MB_FW shows the version of the committed image (R10, R466). -/
def State.initial (s : State) (keep : List Nat) (hlp : Hlp) : State := (s.cleared keep hlp).wr .MB_FW_VERSION s.kyrdo.mgmtVer

/-! ## COLD and PACKAGE (R467, R470, R471) -/

/-- COLD (R467, R471): power is applied, and start-up runs from its first step. HBM holds no data relied on. -/
def State.cold (s : State) : State :=
  let t := s.initial [] {}
  ({ t with hbm := [], kyrdo := { t.kyrdo with resets := 0 }, breset := some { start := s.time, upAt := s.time } }).wr .RAS_STATUS_PHASE 1

/-- PACKAGE_RESET (R467, R470): as COLD, but HBM keeps its contents and the package reset count advances. -/
def State.package (s : State) : State :=
  let t := s.initial [] {}
  let t := { t with kyrdo := { t.kyrdo with resets := t.kyrdo.resets + 1 }, breset := some { start := s.time, upAt := s.time } }
  (t.wr .RAS_STATUS_PHASE 1).wr .RAS_STATUS_LAST_RESET 1

/-! ## The BLOCK reset (R474, R475) -/

/-- The fields that the rest of a BLOCK reset still needs: those that describe it, the windows whose lines are being recalled,
and what the header of the peer writes on their way and their loss records hold (R340, R354, R474, R475). -/
def drainFields : List Field :=
  [.RAS_STATUS_PHASE, .RAS_STATUS_LAST_RESET, .RAS_COUNT_RESET_WRITES, .RAS_ERR_RESET_WRITE, .WIN_EN, .WIN_COHERENT, .WIN_OWNED,
   .WIN_HBASE, .WIN_SIZE, .WIN_DBASE, .WIN_FLASK, .WIN_FLASK_GEN, .PEER_CTL_NODE_ID, .PEER_NODE_GEN]

/-- What a store that waits for a host copy still does once it is written, when a BLOCK reset has come (R474): an error
record takes its place in its ring, and nothing else that a store would bring about is left. -/
def LineAct.bare (a : LineAct) : Option LineAct :=
  match a with
  | .store st => some (.store { st with purpose := if st.purpose = .errRec then .errRec else .log })
  | _ => none

/-- A fuse value as its register shows it. At COLD and PACKAGE the fuses are read 10 µs after the start (R471): from then on
it is what Kyrdo is known to hold, or, in the first start-up, a value that the model does not know (log entry 143). -/
def State.fuseNow (s : State) (f : Field) : Nat :=
  let v := s.rd f
  match s.breset with
  | some b =>
    if s.rd .RAS_STATUS_PHASE ≠ 1 || s.rd .RAS_STATUS_LAST_RESET = 2 || decide (s.time < b.start + 10000) then v
    else
      let known := !s.kyrdo.device.isEmpty
      match f with
      | .CFG_SUBSYS => (if known then s.kyrdo.subsys else (Config.fuseShown 0).toNat) % 2 ^ 16
      | .ID_ENGINE_REV => (if known then s.kyrdo.engRev else (Config.fuseShown 1).toNat) % 2 ^ 16
      | .DEVID_LO => if known then leAt s.kyrdo.device 0 8 else (Config.fuseShown 2).toNat
      | .DEVID_HI => if known then leAt s.kyrdo.device 8 8 else (Config.fuseShown 3).toNat
      | _ => v
  | none => v

/-- The fuse registers keep what they show. -/
def State.keepFuses (s : State) : State :=
  [Field.CFG_SUBSYS, .ID_ENGINE_REV, .DEVID_LO, .DEVID_HI].foldl (fun t f => t.wr f (s.fuseNow f)) s

/-- A fault calls for a BLOCK reset before READY: start-up begins again, at most twice (R469); what fuses have been read stay
in FAILED (R495). -/
def State.restart (s : State) : State :=
  match s.breset with
  | none => s
  | some b =>
    let ph := s.rd .RAS_STATUS_PHASE
    if ph = 6 ∨ ph = 5 ∨ ph = 0 then s
    else if 2 ≤ b.tries then { s.keepFuses.wr .RAS_STATUS_PHASE 5 with breset := none }
    else { s.wr .RAS_STATUS_PHASE 1 with breset := some { b with tries := b.tries + 1, upAt := s.time } }

/-- T_B: every unit's state takes its initial value, the keys and the peer nodes among it; the engines are asked to stop,
writes on their way go on, the window accesses that wait are refused, and the lines that host cores hold are recalled (R474,
steps 1 to 6). -/
def State.startBlock (s : State) (fault : Bool) : State :=
  if s.inReset then (if fault then s.restart else s)
  else
    let running := s.lanes.filter (fun l => l.running.isSome)
    let t := s.sayAll ((List.range 512).map Msg.stopRequest)
    let lanes := running.map (fun l => ({ eng := l.eng, running := l.running, killReq := some (s.time + 20000) } : Lane))
    let t := ((t.hlp.waits.map LineWait.act).filter LineAct.ofHost ++ t.hlp.asleep).foldl State.refuseHost t
    let t := (t.hlp.filter.map HostLine.line).foldl State.recall t
    let tags := t.xl.invs.filterMap (fun v => match v.source with | .host tag => some tag | _ => none)
    let t := tags.foldl State.invDone t
    let waits := t.hlp.waits.filterMap (fun w => w.act.bare.map (fun a => { w with act := a }))
    let hlp : Hlp := { filter := t.hlp.filter, recalls := t.hlp.recalls, waits := waits, downAt := t.hlp.downAt,
                       npCred := t.hlp.npCred, pCred := t.hlp.pCred, evtCred := t.hlp.evtCred }
    let owners := s.flasks.map (fun f => (s.rd .FL_TFIRST f, s.rd .FL_TCOUNT_M1 f, s.flaskState f))
    let t := { t.initial (keptNums ++ drainFields.map Field.num) hlp with
      lanes := lanes, reqs := t.reqs.filter Req.isWrite, errWait := t.errWait,
      breset := some { start := s.time, fault := fault, owners := owners } }
    (((t.wr .RAS_STATUS_PHASE 6).wr .RAS_STATUS_LAST_RESET 2).wr .RAS_COUNT_RESET_WRITES 0).wr .RAS_ERR_RESET_WRITE 0

/-- The 32 bytes of a poison record (R272). -/
def State.poisonBytes (s : State) (r : Req) : List Byte :=
  leBytes 8 (r.addr % 2 ^ 52) ++ leBytes 8 (r.size + r.flask % 64 * 2 ^ 16 + r.fgen * 2 ^ 22) ++
  leBytes 8 ((r.root.map PourId.word).getD 0) ++ leBytes 8 (s.clock .core)

/-- BLOCK_DRAIN_LIMIT (R474, step 3): 100 µs after T_B the writes not yet issued are discarded and remembered. -/
def State.blockDrain (s : State) : State :=
  match s.breset with
  | none => s
  | some b =>
    if s.rd .RAS_STATUS_PHASE ≠ 6 || b.drained then s
    else
      let t := s.elapse (b.start + 100000)
      let left := t.reqs.filter (fun r => !r.issued)
      let recs := (left.filter (fun r => r.tier != 0)).map (fun r => if r.tier = 1 then t.poisonBytes r else t.lossBytes r 1)
      { t with reqs := [], lanes := [], breset := some { b with drained := true, records := recs } }

/-- The steps of a BLOCK reset have ended: start-up begins with the SRAM initialisation (R474, step 7). -/
def State.pumpBlock (s : State) : State :=
  match s.breset with
  | none => s
  | some b =>
    let lines : Bool := !s.hlp.filter.isEmpty && s.on .HLP_STATUS_LINK_UP
    if s.rd .RAS_STATUS_PHASE ≠ 6 || !b.drained || lines then s
    else
      let waits := s.hlp.waits
      let s := { s with hlp := { s.hlp with filter := [], recalls := [], waits := [] } }
      let s := (waits.foldl (fun (t : State) w => match w.act with
        | .store st => (t.overPut st.cells).fire st.purpose
        | _ => t) s).drainErr
      let h : Hlp := { downAt := s.hlp.downAt, npCred := s.hlp.npCred, pCred := s.hlp.pCred, evtCred := s.hlp.evtCred }
      let keep : List Field := [.RAS_STATUS_LAST_RESET, .RAS_COUNT_RESET_WRITES, .RAS_ERR_RESET_WRITE]
      let t := s.initial (keptNums ++ keep.map Field.num) h
      let b := { b with owners := [], upAt := s.time }
      let t := { t with kyrdo := { t.kyrdo with resets := t.kyrdo.resets + 1 }, breset := some b }
      t.wr .RAS_STATUS_PHASE 1

/-! ## Start-up (R471, R472) -/

/-- The fuse values are read: at COLD and PACKAGE, where what Kyrdo has kept is known from then on. -/
def State.takeFuses (s : State) (z : Fuses) : State :=
  let k := s.kyrdo
  let k := if k.device.isEmpty then
      { k with mgmt := z.mgmt, ucode := z.ucode, mgmtVer := z.mgmtVer, ucodeVer := z.ucodeVer, legends := z.legends,
               blocks := z.blocks, coefs := z.coefs, est := z.est }
    else k
  let t := { s with kyrdo := { k with device := slice z.device 0 16, kid := z.kid, rkid := z.rkid, own := z.own,
                                      subsys := z.subsystem, engRev := z.engineRev } }
  ((((t.wr .CFG_SUBSYS z.subsystem).wr .ID_ENGINE_REV z.engineRev).wr .DEVID_LO (leAt z.device 0 8)).wr .DEVID_HI
    (leAt z.device 8 8))

/-- The failures of the self-test make the block useless (R472). -/
def testFails (pairs lanes casters : Nat) (route : Bool) (mgmt : Nat) : Bool :=
  bit pairs 0 || route || bits mgmt 0 2 != 0 || decide (4 < popCount pairs 16) || decide (8 < popCount casters 32) || decide (4 < popCount lanes 16)

/-- The records of a self-test: one for each failed unit. -/
def testRecords (pairs lanes casters : Nat) (route : Bool) (mgmt : Nat) : List RasRec :=
  let sev := if testFails pairs lanes casters route mgmt then 3 else 2
  let one (unit i : Nat) : RasRec := { severity := sev, unit := unit, code := 8, index := i }
  (onesOf pairs 16).map (one 2) ++ (onesOf lanes 16).map (one 6) ++ (onesOf casters 32).map (one 6) ++
  (if route then [one 3 0] else []) ++ (onesOf mgmt 2).map (one 0xB)

/-- STARTUP_READY (R471, R472, R474 step 8): the self-test has found the failures given; PHASE becomes READY, or FAILED. The
remembered poison and loss records, of discards before the self-test, are written before its records (R485). -/
def State.startupReady (s : State) (z : Fuses) (pairs lanes casters : Nat) (route : Bool) (mgmt : Nat) : State :=
  match s.breset with
  | none => s
  | some b =>
    if s.rd .RAS_STATUS_PHASE = 6 then s
    else
      let t := if s.rd .RAS_STATUS_LAST_RESET = 2 then s else s.takeFuses z
      let t := ((t.wr .RAS_SELFTEST_PAIRS pairs).wr .RAS_SELFTEST_LANES lanes).wr .RAS_SELFTEST_CASTERS casters
      let t := (t.wr .RAS_STATUS_ROUTE_FAIL (b2n route)).wr .RAS_STATUS_MGMT_FAIL (b2n (bits mgmt 0 2 != 0))
      let recs := testRecords pairs lanes casters route mgmt
      let fails := testFails pairs lanes casters route mgmt
      let t := if fails then t else b.records.foldl State.errRecord t
      let t := if recs.isEmpty then t else (recs.foldl State.ras t).wr .RAS_ERR_SELFTEST 1
      let t := t.wr .SEQ_STATUS_PAIR_OK (0xFFFF - pairs % 2 ^ 16)
      let t := (onesOf casters 32).foldl (fun (u : State) c =>
        u.wr .CAST_STATUS_OUT_OF_SERVICE (setBits (u.rd .CAST_STATUS_OUT_OF_SERVICE) c 1 1)) t
      let t := (t.wr .MB_FW_VERSION t.kyrdo.mgmtVer).wr .EN_STATIC_EST t.kyrdo.est
      let t := (List.range 13).foldl (fun (u : State) c => u.wr .EN_COEF_COEF (nth u.kyrdo.coefs c 0) c) t
      if fails then { t.wr .RAS_STATUS_PHASE 5 with breset := none }
      else
        let t := { t with breset := none, readyAt := t.time,
                          hlp := { t.hlp with hbFrom := t.time,
                                              downAt := if t.on .HLP_STATUS_LINK_UP then none else some t.time },
                          meter := { t.meter with window := t.time / 1000000, digest := t.kyrdo.mgmt } }
        let t := t.wr .RAS_STATUS_PHASE 4
        let t := if b.records.isEmpty then t else (t.wr .HAP_ERR_BLOCK_DISCARD 1).bump .HAP_DROP_BLOCK_DISCARDS 0 b.records.length
        if b.fault then t.wr .RAS_ERR_BLOCK_FAULT 1 else t

/-! ## Faults of the block's own parts (R481 to R483) -/

/-- PATROL_SCRUB (R480, R481): the patrol has corrected n single-bit errors. -/
def State.patrol (s : State) (n : Nat) : State := if s.ready then s.bump .RAS_CE_SRAM 0 n else s

/-- The flasks that hold a context on sequencer pair p. -/
def State.flasksOn (s : State) (p : Nat) : List Nat :=
  ((s.ctxs.filter (fun x => x.root / 16 == p && !x.mgmt)).map Ctx.flask).eraseDups

/-- LOCKSTEP_MISCOMPARE (R482, R483): the pair that executes a record of context c miscompares; a second time within 1 s it
goes out of service. -/
def State.miscompare (s : State) (c : Nat) : State :=
  match s.ctx? c with
  | none => s
  | some x =>
    let p := x.root / 16
    let r : RasRec := { severity := 0, unit := 2, code := 0xA, flask := x.flask, fgen := x.fgen, index := p, pour := x.pour.word }
    let again : Bool := match s.misses.find? (fun m => m.1 == p) with | some m => decide (s.time < m.2 + 10 ^ 9) | none => false
    let t := { s with misses := aset s.misses p s.time }
    if !again then (t.ras r).wr .RAS_ERR_LOCKSTEP 1
    else
      let t := (t.ras { r with severity := 2, code := 3 }).wr .RAS_ERR_LOCKSTEP 1
      let ok := setBits (t.rd .SEQ_STATUS_PAIR_OK) p 1 0
      let t := t.wr .SEQ_STATUS_PAIR_OK ok
      if p = 0 || popCount ok 16 < 12 || t.ctxs.any (fun y => y.root / 16 == p && y.mgmt) then t.callBlock
      else (t.flasksOn p).foldl State.callFlask t

/-- PARITY_ERROR (R480, R483) in the control state of a unit. -/
def State.parity (s : State) (unit : Nat) : State :=
  if s.rd .RAS_STATUS_PHASE = 0 then s else (s.ras { severity := 3, unit := unit, code := 4 }).callBlock

/-- SRAM_UE (R483); that it also brings the HBM errors of R484 for which the table has no row is the model's (DESIGN CHOICE, log
entry 141). -/
def State.sramUe (s : State) (w : SramUe) : State :=
  let note (r : RasRec) : State := (s.ras r).wr .RAS_ERR_SRAM_UE 1
  match w with
  | .mould idx seg =>
    match s.moulds.segs.find? (fun g => g.idx == idx && g.seg == seg) with
    | none => s
    | some g =>
      let t := note { severity := 0, unit := 0xD, code := 1 }
      let t := { t with moulds := { t.moulds with segs := t.moulds.segs.filter (fun x => x != g) } }
      if g.pinned then
        let f : Fill := { idx := idx, gen := g.gen, seg := seg, pin := true }
        { (t.bump .MC_STATS_MISSES).say (.fillRead idx seg) with moulds := { t.moulds with fills := t.moulds.fills ++ [f] } }
      else t
  | .sheet slot va =>
    match s.sheetHit slot va with
    | none => s
    | some l =>
      let t := note { severity := 0, unit := 4, code := 1 }
      { t with xl := { t.xl with sheets := t.xl.sheets.filter (fun x => x != l) } }
  | .walk slot level pre =>
    let hit (h : TableHit) : Bool := h.slot == slot && h.level == level && h.pre == pre
    if !s.xl.tables.any hit then s
    else
      let t := note { severity := 0, unit := 4, code := 1 }
      { t with xl := { t.xl with tables := t.xl.tables.filter (fun h => !hit h) } }
  | .flask f unit =>
    if s.flaskState f = flFREE then s
    else (note { severity := 1, unit := unit, code := 1, flask := f, fgen := s.flaskGen f }).callFlask f
  | .shared unit => (note { severity := 3, unit := unit, code := 1 }).callBlock
  | .handles i =>
    if s.on .MC_HTAB_EN then (s.hbmUe (s.rd .MC_HTAB_BASE * granule + 32 * i) 0xD 3 0 noFlask 0).callBlock else s
  | .image n l =>
    if s.opcode n == 0x61 && (s.mbCheck n).isNone then s.mbRun n 0x61 (fun t => t.flaskThaw n (some l)) else s

end Sys2Proof.Machine
end

