-- ==== Sys2Proof/Machine/Hlp.lean ====
section
/-! DEFINITION. The host link port (02): configuration writes, coherent windows and the lines host cores hold, heartbeat,
link, host loss, attach and detach. -/
namespace Sys2Proof.Machine

/-! ## Messages and credits (R24, R25, R28) -/

/-- UNSUPPORTED_REQUEST (R24). -/
def State.unsupported (s : State) (posted : Bool) (tag : Nat) : State :=
  let t := s.wr .HLP_ERR_UNSUP 1
  if posted then t else t.say (.unsupported tag)

/-- CREDIT_RETURN: the host returns n credits, up to what it granted. -/
def State.creditReturn (s : State) (ch : Channel) (n : Nat) : State :=
  let h := s.hlp
  match ch with
  | .np => { s with hlp := { h with npCred := min (h.npCred + n) (s.rd .HLP_CREDIT_NP_GRANTED) } }
  | .p => { s with hlp := { h with pCred := min (h.pCred + n) (s.rd .HLP_CREDIT_P_GRANTED) } }
  | .evt => { s with hlp := { h with evtCred := min (h.evtCred + n) (s.rd .HLP_CREDIT_EVT_GRANTED) } }

/-! ## The configuration header (R29, R31) -/

/-- The fields of the doubleword at configuration offset dw. -/
def configFields (dw : Nat) : List Field := Field.all.filter (fun f => f.row.config && f.row.base == dw)

/-- The doubleword at configuration offset dw. -/
def State.configDw (s : State) (dw : Nat) : Nat :=
  (configFields dw).foldl (fun v f => v + s.rd f * 2 ^ f.row.lo) 0

/-- CONFIG_WRITE: `size` bytes at header offset off, within one doubleword; RW fields take the written bytes. -/
def State.configWrite (s : State) (off size val : Nat) : State :=
  let dw := off / 4 * 4
  if !([1, 2, 4].contains size) || decide (4 < off % 4 + size) then s
  else
    let v := setBits (s.configDw dw) (8 * (off % 4)) (8 * size) val
    (configFields dw).foldl (fun t f => t.fieldWrite f 0 (bits v f.row.lo f.row.width)) s

/-! ## Windows (R35 to R38) -/

/-- First byte and length of window n's device range. -/
def State.winRange (s : State) (n : Nat) : Nat × Nat := (s.rd .WIN_DBASE n * granule, s.rd .WIN_SIZE n * granule)

/-- Address a lies in a mould store, which no window reaches (R115). -/
def State.inStore (s : State) (a : Nat) : Bool :=
  (none :: s.flasks.map some).any (fun f => overlaps a 1 (s.storeArea f).1 (s.storeArea f).2)

/-- The checks of R37 on window n, with the values its registers hold. -/
def State.winOk (s : State) (n : Nat) : Bool :=
  let (a, len) := s.winRange n
  let h := s.rd .WIN_HBASE n
  let z := s.rd .WIN_SIZE n
  let f := s.rd .WIN_FLASK n
  z != 0 && decide (a + len ≤ hbmSize) &&
  !(s.listed .WIN_EN).any (fun m => m != n && overlaps h z (s.rd .WIN_HBASE m) (s.rd .WIN_SIZE m)) &&
  (if s.on .WIN_OWNED n then s.rd .WIN_FLASK_GEN n == s.flaskGen f && s.inFlask f a len else !s.meetsFlask a len) &&
  !(s.listed .SEAL_GRAN_SEAL).any (fun g => s.granSealed g && overlaps a len (g * granule) granule)

/-- Lines of [a, a + n) that the filter records. -/
def State.heldIn (s : State) (a n : Nat) : List Nat :=
  (s.hlp.filter.map HostLine.line).filter (fun l => decide (a ≤ l * 64 ∧ l * 64 < a + n))

/-- Lines of window n that the filter records; it records none for a window with COHERENT 0 (R39). -/
def State.winHeld (s : State) (n : Nat) : List Nat :=
  if s.on .WIN_COHERENT n then s.heldIn (s.winRange n).1 (s.winRange n).2 else []

/-- EN of window n is cleared: new accesses are refused, and the lines that host cores hold are recalled (R39). -/
def State.closeWindow (s : State) (n : Nat) : State :=
  let t := { s with hlp := { s.hlp with closing := s.hlp.closing ++ [n] } }
  (t.winHeld n).foldl State.recall t

/-- WIN_CTL_WRITE (R37): a write of window n's control register. The stores that stand in the controllers' buffers are
committed as a coherent window opens over their lines, whose one point of order is the HLP from then on (R309). -/
def State.winCtl (s : State) (n size half val : Nat) : State :=
  let enWritten := size == 8 || half == 0
  if s.on .WIN_EN n then
    let s := s.heldWrite (0x11010 + 0x20 * n) size
    if enWritten && bits val 0 1 == 0 && !s.hlp.closing.contains n then s.closeWindow n else s
  else
    let t := s.regWrite (0x11010 + 0x20 * n) size half val
    if !enWritten then t
    else if t.winOk n then
      let u := if t.on .WIN_EN n && t.on .WIN_COHERENT n then t.commitRange (t.winRange n).1 (t.winRange n).2 else t
      u.wr .WIN_CFG_ERR 0 n
    else if t.on .WIN_EN n then (s.wr .WIN_CFG_ERR 1 n).wr .HLP_ERR_WIN_CFG 1
    else t

/-- A write of doubleword dw of window n: HBASE, DBASE or CTL. -/
def State.winWrite (s : State) (n dw size half val : Nat) : State :=
  if dw = 2 then s.winCtl n size half val
  else if s.on .WIN_EN n then s.heldWrite (0x11000 + 0x20 * n + 8 * dw) size
  else s.regWrite (0x11000 + 0x20 * n + 8 * dw) size half val

/-- A host access that the loss or the detach of the host refuses (R38, second row). -/
def State.dropHost (s : State) : State := s.bump .HLP_DROP_COUNT_HEADLESS_DROPS

/-- The checks of R38 on an access to hpa, in their order: the state that a refusal leaves. A closing window refuses
(R39), from the start of a BLOCK reset every window does (R474, step 4), and none reaches a mould store (R115). -/
def State.winRefusal (s : State) (hpa : Nat) (write : Bool) : Option State :=
  match (s.windowAt hpa).filter (fun n => s.ready && !s.hlp.closing.contains n && !s.inStore (s.winAddr n hpa)) with
  | none => some (s.wr .HLP_ERR_NO_WINDOW 1)
  | some n =>
    let f := s.rd .WIN_FLASK n
    if s.hostAway then some s.dropHost
    else if s.on .WIN_OWNED n && s.rd .WIN_FLASK_GEN n != s.flaskGen f then
      some (s.stale .flask f (s.rd .WIN_FLASK_GEN n) (s.flaskGen f))
    else if s.granSealed (s.winAddr n hpa / granule) then
      some ((s.wr .HLP_ERR_SEALED 1).bump .HLP_DROP_COUNT_SEALED_REFUSALS)
    else if !(if write then s.on .WIN_WR n else s.on .WIN_RD n) then some (s.wr .HLP_ERR_RIGHTS 1)
    else none

/-! ## Lines that host cores hold (R41) -/

/-- Ways of a set of the snoop filter: 262,144 entries in 16,384 sets; which set a line falls in is a free value of Config
(R41 gives no index function). -/
def filterWays : Nat := 16

/-- Host cores that the filter records for a line. -/
def State.sharersOf (s : State) (line : Nat) : Nat := ((s.hlp.filter.find? (fun h => h.line == line)).map HostLine.sharers).getD 0

/-- A line is recorded, as the most recent of its set: for one core more, or for one alone. -/
def State.recordLine (s : State) (line : Nat) (excl : Bool) : State :=
  let h : HostLine := { line := line, excl := excl, sharers := if excl then 1 else s.sharersOf line + 1 }
  { s with hlp := { s.hlp with filter := s.hlp.filter.filter (fun h => h.line != line) ++ [h] } }

/-- The line that must be recalled before `line` is recorded: the least recently recorded of a full set. -/
def State.filterVictim (s : State) (line : Nat) : Option Nat :=
  if s.hostHeld line || decide (s.hlp.filter.length < filterWays) then none
  else
    let set := s.hlp.filter.filter (fun h => Config.snoopSet h.line == Config.snoopSet line)
    if set.length < filterWays then none else set.head?.map HostLine.line

/-- A copy handed out on an access accepted before a seal, a window close or a detach is recalled again at once. -/
def State.recallAgain (s : State) (n line : Nat) : State :=
  if s.granSealed (line * 64 / granule) || s.hlp.closing.contains n || s.hostAway then s.recall line else s

/-- A host access to a line of coherent window n goes on once no copy of another core stands in its way, no recall of the
line is under way and its set has room. A read leaves another core's copy, shared (R322). -/
def State.onLine (s : State) (n line : Nat) (a : LineAct) (blocked : Bool) (go : State → State) : State :=
  if blocked || s.hlp.recalls.contains line then
    (match a with | .read _ _ => s.waitSoft line a | _ => s.waitLine line a)
  else match s.filterVictim line with
    | some v => s.waitLine v a
    | none => (go s).recallAgain n line

/-- An ownership or upgrade request is answered, and its access is over (R24, R27). -/
def State.giveOwned (s : State) (tag : Nat) (ok : Bool) : State := (s.say (.windowOwned tag ok)).giveCredit .window

/-- The data of a line go to the host, from the HBM system port. -/
def State.giveLine (s : State) (tag line : Nat) : State := s.say (.windowData tag (s.sysRead (line * 64) 64) false)

/-- A permitted read of a window line. Through a window with COHERENT 0, which the snoop filter does not track, it takes the
data of a core that holds the line through a coherent window. -/
def State.hostRead (s : State) (hpa tag : Nat) : State :=
  match s.windowAt hpa with
  | none => s
  | some n =>
    let line := lineOf (s.winAddr n hpa)
    if !s.on .WIN_COHERENT n then
      (if s.hostExcl line then s.waitSoft line (.read hpa tag) else (s.giveLine tag line).giveCredit .window)
    else s.onLine n line (.read hpa tag) (s.hostExcl line)
      (fun t => ((t.recordLine line false).giveLine tag line).giveCredit .window)

/-- A permitted read for ownership of a window line: copies of other host cores go first. -/
def State.hostOwn (s : State) (hpa tag : Nat) : State :=
  match s.windowAt hpa with
  | none => s
  | some n =>
    let line := lineOf (s.winAddr n hpa)
    if !s.on .WIN_COHERENT n then
      (if s.hostExcl line then s.waitSoft line (.own hpa tag) else (s.giveLine tag line).giveOwned tag true)
    else s.onLine n line (.own hpa tag) (s.hostHeld line)
      (fun t => ((t.recordLine line true).giveLine tag line).giveOwned tag true)

/-- A permitted upgrade of a shared window line: the copies of other cores go first (R24, R323). A core whose copy has been
recalled, or has gone to another core's upgrade, gets none. -/
def State.hostUpgrade (s : State) (hpa tag : Nat) : State :=
  match s.windowAt hpa with
  | none => s
  | some n =>
    let line := lineOf (s.winAddr n hpa)
    if !s.on .WIN_COHERENT n then s.giveOwned tag true
    else if s.hlp.recalls.contains line then s.waitLine line (.upgrade hpa tag)
    else if !s.hostHeld line || s.hostExcl line then s.giveOwned tag false
    else if 1 < s.sharersOf line then s.waitSoft line (.upgrade hpa tag)
    else ((s.recordLine line true).giveOwned tag true).recallAgain n line

/-- A permitted host write or write-back at hpa, within one line: it is performed at HBM as a store of the host, and a
whole line that a host core held exclusive is given up with it (R331). A write to a line that cores share, or through a
window with COHERENT 0 to a line that a core holds through a coherent one, waits until they have given it up (R323). -/
def State.hostStore (s : State) (hpa : Nat) (data : List Byte) : State :=
  match s.windowAt hpa with
  | none => s
  | some n =>
    let a := s.winAddr n hpa
    let d := data.take (64 - a % 64)
    if s.hostHeld (lineOf a) && !(s.on .WIN_COHERENT n && s.hostExcl (lineOf a)) then s.waitLine (lineOf a) (.writeBack hpa data)
    else
    let t := ((s.overPut (cellsAt a d)).say (.windowAck hpa)).giveCredit .window
    if s.on .WIN_COHERENT n && s.hostExcl (lineOf a) && d.length == 64 then
      { t with hlp := { t.hlp with filter := t.hlp.filter.filter (fun h => h.line != lineOf a) } }
    else t

/-- A waiting store takes effect, or waits for its next line (R41, R309). -/
def State.storeGo (s : State) (st : BufStore) : State :=
  match s.storeBlock (linesOf st.cells) with
  | some l => s.waitLine l (.store st)
  | none =>
    let t := (s.overPut st.cells).fire st.purpose
    let t := match st.purpose with
      | .inbound n tag gen => if t.removable n && t.ndGen n == gen then t.packet pkACK n gen 0 tag 0 0 else t
      | _ => t
    match t.req? st.id with
    | some r => t.ackWrite r
    | none => t

/-- An access that has waited for a line goes on. -/
def State.lineAct (s : State) (a : LineAct) : State :=
  match a with
  | .read hpa tag => s.hostRead hpa tag
  | .own hpa tag => s.hostOwn hpa tag
  | .upgrade hpa tag => s.hostUpgrade hpa tag
  | .store st => s.storeGo st
  | .load id => s.loadGo id
  | .inbound _ _ p => s.inboundAccess p
  | .writeBack hpa data => s.hostStore hpa data

/-- The accesses that wait for a line go on, oldest first. -/
def State.runWaits (s : State) (line : Nat) : State :=
  let mine := s.hlp.waits.filter (fun w => w.line == line)
  let t := { s with hlp := { s.hlp with waits := s.hlp.waits.filter (fun w => w.line != line) } }
  mine.foldl (fun t w => t.lineAct w.act) t

/-- A line of which a copy was left must go after all: its granule has been sealed, its window closes, or the host leaves
(R39, R40, R49, R474). -/
def State.mustGo (s : State) (line : Nat) : Bool :=
  s.granSealed (line * 64 / granule) || s.hostAway || !s.ready ||
  s.hlp.closing.any (fun n => (s.winHeld n).contains line)

/-- HOST_RECALL_RESPONSE (R41): the host has given up a line, with its data where it held the line modified, or has given the
data and kept a shared copy. -/
def State.recallResponse (s : State) (line : Nat) (data : Option (List Byte)) : State :=
  if !s.hlp.recalls.contains line then s
  else
    let t := match data with
      | some d => if s.hostExcl line then s.overPut (cellsAt (line * 64) (slice d 0 64)) else s
      | none => s
    let h := t.hlp
    let kept := if h.soft.contains line then updAll h.filter (fun x => x.line == line) (fun x => { x with excl := false, sharers := 1 })
      else h.filter.filter (fun x => x.line != line)
    let t := { t with hlp := { h with filter := kept, recalls := h.recalls.filter (fun l => l != line),
                                      soft := h.soft.filter (fun l => l != line) } }
    let t := t.runWaits line
    if t.hostHeld line && t.mustGo line then t.recall line else t

/-- A host access a to hpa reaches the HLP: it is checked (R38), and in DROWSE it waits for a wake or is refused (R479). -/
def State.hostAccess (s : State) (hpa : Nat) (write : Bool) (a : LineAct) : State :=
  match s.winRefusal hpa write with
  | some t => t.refuseHost a
  | none =>
    if !s.credit .window then s
    else if !s.drowse then s.lineAct a
    else if s.on .PWR_CTL_WAKE_WINDOW then { s with hlp := { s.hlp with asleep := s.hlp.asleep ++ [a] } }.wake 2
    else ((s.bump .RAS_COUNT_DROWSE_REFUSED).wr .RAS_ERR_DROWSE_REFUSED 1).refuseHost a

/-- WINDOW_WRITE_BACK (R38, R331); during a BLOCK reset the write-back of a line that is being recalled is merged into HBM
(R475). -/
def State.writeBack (s : State) (hpa : Nat) (data : List Byte) : State :=
  let recalled := match s.windowAt hpa with
    | some n => s.hlp.recalls.contains (lineOf (s.winAddr n hpa))
    | none => false
  if !s.ready && recalled then s.hostStore hpa data else s.hostAccess hpa true (.writeBack hpa data)

/-- DROWSE_EXIT_COMPLETE (R476, R479): the block is ACTIVE, and the window accesses held are performed. -/
def State.exitComplete (s : State) : State :=
  if s.exit.isNone then s
  else
    let t := s.exitDone
    let held := t.hlp.asleep
    held.foldl (fun u a => match a with
      | .read hpa _ => u.hostAccess hpa false a
      | .own hpa _ | .upgrade hpa _ | .writeBack hpa _ => u.hostAccess hpa true a
      | _ => u) { t with hlp := { t.hlp with asleep := [] } }

/-- WINDOW_CLOSE_COMPLETE (R39): the host has given up every line of closing window n. -/
def State.closeComplete (s : State) (n : Nat) : State :=
  let through := s.hlp.waits.any (fun w => (w.act.hpa?.bind s.windowAt) == some n)
  if !s.hlp.closing.contains n || through || !(s.winHeld n).isEmpty then s
  else { s.wr .WIN_EN 0 n with hlp := { s.hlp with closing := s.hlp.closing.filter (fun m => m != n) } }

/-! ## Heartbeat and link (R45, R28) -/

/-- HLP_CTL_WRITE (R45): a change of HB_PERIOD or HB_MISS restarts the count. -/
def State.hlpCtl (s : State) (size half val : Nat) : State :=
  let t := s.regWrite 0x10000 size half val
  if t.rd .HLP_CTL_HB_PERIOD = s.rd .HLP_CTL_HB_PERIOD ∧ t.rd .HLP_CTL_HB_MISS = s.rd .HLP_CTL_HB_MISS then t
  else { t with hlp := { t.hlp with hbFrom := t.time } }

/-- HEARTBEAT (R45): any write of CZ_HLP_HB that is not discarded. -/
def State.heartbeat (s : State) (size half val : Nat) : State :=
  let t := s.regWrite 0x10010 size half val
  { t with hlp := { t.hlp with hbFrom := t.time } }

/-- LINK_TRAINED (R28): the grants of a training are recorded, and traffic flows. -/
def State.linkTrained (s : State) (np p evt : Nat) : State :=
  if s.rd .RAS_STATUS_PHASE = 0 then s
  else
    let t := (((s.wr .HLP_STATUS_LINK_UP 1).wr .HLP_CREDIT_NP_GRANTED np).wr .HLP_CREDIT_P_GRANTED p).wr
      .HLP_CREDIT_EVT_GRANTED evt
    { t with hlp := { t.hlp with downAt := none, npCred := t.rd .HLP_CREDIT_NP_GRANTED,
                                 pCred := t.rd .HLP_CREDIT_P_GRANTED, evtCred := t.rd .HLP_CREDIT_EVT_GRANTED } }

/-- A request to host memory. -/
def Req.toHost (r : Req) : Bool := r.tier == 1 && r.fin.isNone

/-- Requests already on ZCI are lost with the link: reads complete with slag, and writes are counted (R46). -/
def State.loseIssued (s : State) : State :=
  (s.reqs.filter (fun r => r.toHost && r.issued)).foldl (fun t r =>
    if r.isWrite then (t.bump .HLP_DROP_COUNT_LOST_WRITES).ackWrite r else t.finishSlag r) s

/-- Requests not yet on ZCI at the loss of the host: reads complete with slag, completion records go to the holding ring,
and other writes are dropped and end their pours (R46, R47, R270, R271). -/
def State.dropWaiting (s : State) : State :=
  let t := (s.reqs.filter (fun r => r.toHost && !r.issued)).foldl (fun t r =>
    match r.kind, r.purpose with
    | .write cells, .record _ _ => (t.dropReq r.id).holdRecord r.id (cells.map Prod.snd)
    | .write _, _ => (t.ackWrite r).hostDropped r.who (t.holderOf r) r.va
    | _, _ => t.finishSlag r) s
  let cut (p : Part) : Part := if p.sent then p else { p with sent := true, got := some (slagBytes p.len, true) }
  (t.reqs.filter (fun r => r.toHost && r.parts.any (fun p => !p.sent))).foldl (fun t r =>
    (t.modReq r.id (fun x => { x with parts := x.parts.map cut })).joinParts r) t

/-- The snoop filter is cleared: copies are lost, engine accesses that waited for them go on, and host accesses that
waited are refused (R46). -/
def State.clearFilter (s : State) (lost : Nat) : State :=
  let n := min lost (s.hlp.filter.filter HostLine.excl).length
  let t := if n = 0 then s else (s.bump .HLP_DROP_COUNT_LOST_LINES 0 n).wr .HLP_ERR_LOST_LINES 1
  let waits := t.hlp.waits
  let asleep := t.hlp.asleep
  let t := { t with hlp := { t.hlp with filter := [], recalls := [], soft := [], waits := [], asleep := [], leaving := [] } }
  let t := waits.foldl (fun t w => match w.act with
    | .store _ | .load _ | .inbound _ _ _ => t.lineAct w.act
    | a => t.dropHost.refuseHost a) t
  asleep.foldl (fun t a => t.dropHost.refuseHost a) t

/-- The fields of a LINK reset that no other effect of it sets (R7, R44, R64, R470). -/
def linkFields : List Field := [.HLP_STATUS_DETACHING, .HLP_HB_HB_VALUE, .QM_STATUS_TOKENS]

/-- Entry to HEADLESS with a CAUSE, a LINK reset (R45, R46, R78, R227, R372); `lost` host copies were modified. -/
def State.enterHeadless (s : State) (cause lost : Nat) : State :=
  let t := s.takeBack.rstAll linkFields 0
  let t := (((t.wr .HLP_STATUS_HEADLESS 1).wr .HLP_STATUS_ATTACHED 0).wr .HLP_STATUS_CAUSE cause).adv .HLP_STATUS_EPOCH
  let t := t.clearFilter lost
  let t := if t.on .HLP_STATUS_LINK_UP then t else t.loseIssued
  t.holdQueues.dropWaiting.orphanAll.headlessInv

/-- HB_LOST (R45). -/
def State.hbLost (s : State) (lost : Nat) : State :=
  let p := s.rd .HLP_CTL_HB_PERIOD
  if p = 0 || s.hostAway || !s.ready then s
  else (s.elapse (s.hlp.hbFrom + p * max (s.rd .HLP_CTL_HB_MISS) 1 * 100000)).enterHeadless 1 lost

/-- ZCI_LINK_LOST (R45, R46): ZCI goes down; while HEADLESS, what was on it is lost. -/
def State.linkLost (s : State) : State :=
  if !s.on .HLP_STATUS_LINK_UP then s
  else
    let t := { s.wr .HLP_STATUS_LINK_UP 0 with hlp := { s.hlp with downAt := some s.time } }
    if t.headless then t.loseIssued else t

/-- LINK_DOWN (R45): ZCI has been down for 2 ms. -/
def State.linkDown (s : State) (lost : Nat) : State :=
  match s.hlp.downAt with
  | none => s
  | some t0 =>
    if !s.ready then s
    else
      let t := s.elapse (max t0 s.readyAt + 2000000)
      let t := { t with hlp := { t.hlp with downAt := none } }
      if t.headless then t.adv .HLP_STATUS_EPOCH else t.enterHeadless 2 lost

/-! ## Attach and detach (R48, R49) -/

/-- An attach with the epoch the requester read. -/
def State.attach (s : State) (epoch : Nat) : State :=
  if s.headless && epoch == s.rd .HLP_STATUS_EPOCH && s.on .CFG_BME && s.on .CFG_MSE then
    let t := (s.wr .HLP_STATUS_HEADLESS 0).wr .HLP_STATUS_ATTACHED 1
    { t with hlp := { t.hlp with hbFrom := t.time } }
  else s.wr .HLP_ERR_ATTACH_EPOCH 1

/-- Identifiers of the host requests and entry reads on ZCI. -/
def State.onZci (s : State) : List Nat :=
  (s.reqs.filter (fun r => r.toHost && r.issued)).map Req.id ++
  (s.qm.fetches.filter (fun f => s.on .QCTX_LOC f.queue)).map Fetch.id

/-- An orderly detach begins (R49, R372): every line that host cores hold is recalled. -/
def State.detach (s : State) : State :=
  if s.hostAway then s
  else
    let t := (s.wr .HLP_STATUS_DETACHING 1).takeBack
    let asleep := t.hlp.asleep
    let t := { t with hlp := { t.hlp with leaving := t.onZci, asleep := [] } }
    let t := asleep.foldl (fun t a => t.dropHost.refuseHost a) t
    (t.hlp.filter.map HostLine.line).foldl State.recall t

/-- A write of CZ_HLP_ATTACH (R48, R49, R493). The spec does not say what a write with ATTACH and DETACH both 1 does: the
attach is made first, and the detach then begins (DESIGN CHOICE, log entry 12). -/
def State.attachWrite (s : State) (size val : Nat) : State :=
  if size ≠ 8 then s.wr .HLP_ERR_BAD_REG 1
  else
    let t := if bit val 0 then s.attach (bits val 16 16) else s
    if bit val 1 then t.detach else t

/-- DETACH_COMPLETE (R49): ZCI is up, what was on it is answered, and every line is given up. While ZCI is down the detach
ends with CAUSE LINK_DOWN instead. -/
def State.detachComplete (s : State) : State :=
  let open_ := s.onZci
  if s.on .HLP_STATUS_DETACHING && s.on .HLP_STATUS_LINK_UP && !s.hlp.leaving.any open_.contains && s.hlp.filter.isEmpty &&
      s.hlp.recalls.isEmpty && !s.hlp.waits.any (fun w => w.act.ofHost) then
    s.enterHeadless 3 0
  else s

end Sys2Proof.Machine
end

