-- ==== Sys2Proof/Machine/Route.lean ====
section
/-! DEFINITION. The route unit (06): taking a ROUTE record, score delivery, selection, weights, capacity, outputs and the
gate write-back. -/
namespace Sys2Proof.Machine

/-! ## Score rows (R168, R173, R189, R190) -/

/-- The limit of T in a mode (R168). -/
def rowLimit (mode : Nat) : Nat := if mode = 0 then 16384 else 65536

/-- Bytes of a score. -/
def scoreSize (fmt : Nat) : Nat := if fmt ≤ 1 then 2 else 1

/-- Bytes of a row, S_row. -/
def RouteOp.rowBytes (o : RouteOp) : Nat :=
  if o.mode = 0 then roundUp (o.experts * scoreSize o.fmt) 64
  else if o.mode = 1 then roundUp o.experts 512 / 8 else 64

/-- Chunks of a row. -/
def RouteOp.parts (o : RouteOp) : Nat := o.rowBytes / 64

/-- Every chunk of row t has been pushed. -/
def RouteOp.pushed (o : RouteOp) (t : Nat) : Bool :=
  (List.range o.parts).all (fun p => o.pushes.any (fun q => q.1 == t && q.2.1 == p))

/-- Chunk p of row t, as pushed or else as read, with the slag marker (R172). -/
def RouteOp.chunk (o : RouteOp) (t p : Nat) : Option (List Byte × Bool) :=
  match o.pushes.find? (fun q => q.1 == t && q.2.1 == p) with
  | some q => some (q.2.2, false)
  | none =>
    let a := o.score + t * o.rowBytes + 64 * p
    (o.got.find? (fun g => decide (g.1 ≤ a ∧ a < g.1 + g.2.1.length))).map (fun g => (slice g.2.1 (a - g.1) 64, g.2.2))

/-- Every chunk of row t is there. -/
def RouteOp.complete (o : RouteOp) (t : Nat) : Bool := (List.range o.parts).all (fun p => (o.chunk t p).isSome)

/-- Rows that are complete and not yet selected. -/
def RouteOp.readyRows (o : RouteOp) : List Nat :=
  (List.range o.rows).filter (fun t => !o.selected.contains t && o.complete t)

/-- The operation is ready (R191). -/
def RouteOp.ready (o : RouteOp) : Bool := o.writes.isNone && !o.readyRows.isEmpty

/-- The value of a score in a format (R173). -/
def scoreOf (fmt v : Nat) : Fp :=
  if fmt = 0 then bf16.value true v else if fmt = 1 then fp16.value true v
  else if fmt = 2 then e4m3.value false v else e5m2.value true v

/-- The n scores of row t; a poisoned score is not a number (R174). -/
def RouteOp.scores (o : RouteOp) (t n : Nat) : List Fp :=
  let z := scoreSize o.fmt
  (List.range n).map (fun e =>
    match o.chunk t (e * z / 64) with
    | some (b, slag) => if slag then .nan false else scoreOf o.fmt (leAt b (e * z % 64) z)
    | none => .nan false)

/-- The set bits of row t of a block mask, poisoned bits being 0. -/
def RouteOp.maskBits (o : RouteOp) (t : Nat) : List Nat :=
  (List.range o.experts).filter (fun c =>
    match o.chunk t (c / 512) with
    | some (b, slag) => !slag && bit (leAt b (c % 512 / 8) 1) (c % 8)
    | none => false)

/-! ## Selection (R174, R175) -/

/-- The place of a score in the order of real numbers; none for one that is not a number. -/
def Fp.key (x : Fp) : Option Int :=
  match x with
  | .nan _ => none
  | .inf s => some (if s then -0x7F800000 else 0x7F800000)
  | .fin s n d => let v : Int := fp32.round none n d; some (if s then -v else v)

/-- A selection: expert and score. -/
structure Pick where
  expert : Nat
  score  : Fp
  deriving DecidableEq, Repr

/-- x goes before the first entry that ranks below it. -/
def insertPick (k : Int) (p : Pick) : List (Int × Pick) → List (Int × Pick)
  | [] => [(k, p)]
  | q :: l => if q.1 < k then (k, p) :: q :: l else q :: insertPick k p l

/-- The highest-ranking experts of a row, at most n. -/
def topPicks (scores : List Fp) (n : Nat) : List Pick :=
  let l := ((List.range scores.length).zip scores).foldl (fun l p =>
    match p.2.key with
    | some k => (insertPick k { expert := p.1, score := p.2 } l).take n
    | none => l) []
  l.map Prod.snd

/-! ## The table and the weights (R176 to R178) -/

/-- A renormalisation table. -/
structure Table where
  kind    : Nat
  norm    : Bool
  outFmt  : Nat
  entries : Nat
  x0      : Fp
  step    : Fp
  scale   : Fp
  deriving DecidableEq, Repr

/-- The fallback table (R178). -/
def fallback : Table :=
  { kind := 0, norm := false, outFmt := 0, entries := 0, x0 := .nat 0, step := .nat 0, scale := .nat 1 }

def Fp.isFin : Fp → Bool
  | .fin _ _ _ => true
  | _ => false

/-- The header of a table of `len` units; none where R178 calls it invalid. -/
def tableHead (b : List Byte) (len : Nat) : Option Table :=
  let kind := leAt b 0 1
  let norm := leAt b 1 1 % 2
  let outFmt := bits (leAt b 1 1) 1 2
  let n := leAt b 2 2
  let x0 := fp32Of (leAt b 4 4)
  let step := fp32Of (leAt b 8 4)
  let scale := fp32Of (leAt b 12 4)
  let bad := decide (2 < kind) || outFmt == 3 || decide (8 ≤ leAt b 1 1) || (slice b 16 48).any (fun x => x != 0) ||
    (kind == 0 && (norm == 1 || n != 0 || leAt b 8 4 != 0)) ||
    (kind != 0 && (decide (n < 2) || decide ((len - 1) * 16 < n))) ||
    (kind != 2 && leAt b 4 4 != 0) ||
    (kind != 0 && !(step.isFin && (Fp.nat 0).lt step)) || (kind == 2 && !x0.isFin) || !scale.isFin
  if bad then none
  else some { kind := kind, norm := norm == 1, outFmt := outFmt, entries := n, x0 := x0, step := step, scale := scale }

/-- Entry i of a table. -/
def tableEntry (b : List Byte) (i : Nat) : Fp := fp32Of (leAt b (0x40 + 4 * i) 4)

/-- An entry that makes the table invalid (R178). -/
def entryBad (x : Fp) : Bool := !x.isFin || x.lt (.nat 0) || (Fp.nat (2 ^ 100)).lt x

/-- The value v_j of a score under a table, and the entries it reads (R177). -/
def tableValue (tb : Table) (b : List Byte) (top s : Fp) : Fp × List Nat :=
  if tb.kind = 0 then (s, [])
  else
    let rstep := (Fp.nat 1).div tb.step
    let x := if tb.kind = 1 then (if s.eq top then .nat 0 else s.sub top) else s
    let p := if tb.kind = 1 then x.neg.mul rstep else (x.sub tb.x0).mul rstep
    let n := tb.entries
    if !(Fp.nat 0).lt p then (tableEntry b 0, [0])
    else if !p.lt (.nat (n - 1)) then (tableEntry b (n - 1), [n - 1])
    else
      let i := p.floor
      let f := p.sub (.nat i)
      let e0 := tableEntry b i
      (e0.add (f.mul ((tableEntry b (i + 1)).sub e0)), [i, i + 1])

/-- The bit pattern of a weight in the output format. -/
def weightBits (outFmt : Nat) (w : Fp) : Nat :=
  let f := if outFmt = 0 then bf16 else if outFmt = 1 then fp16 else fp32
  match f.clip w with
  | some v => v
  | none => (Config.nanWeight outFmt).toNat % 2 ^ (if outFmt = 2 then 32 else 16)

/-- The weights of a row's primary selections, and the table entries read for them (R177). -/
def rowWeights (tb : Table) (b : List Byte) (picks : List Pick) : List Nat × List Nat :=
  match picks with
  | [] => ([], [])
  | top :: _ =>
    let vs := picks.map (fun p => tableValue tb b top.score p.score)
    let sum := match vs with
      | [] => .nat 0
      | v :: rest => rest.foldl (fun a x => a.add x.1) v.1
    let w (v : Fp) : Fp :=
      if tb.norm then (if sum.isZero then tb.scale.div (.nat picks.length) else tb.scale.mul (v.div sum)) else tb.scale.mul v
    (vs.map (fun v => weightBits tb.outFmt (w v.1)), vs.flatMap Prod.snd)

/-! ## Capacity (R180, R181) -/

/-- Fates of R185. -/
def ftKEPT : Nat := 0
def ftMOVED : Nat := 1
def ftDROPPED : Nat := 2
def ftSPILLED : Nat := 3
def ftNONE : Nat := 4

/-- What became of a selection. -/
structure Fate where
  fate   : Nat
  expert : Nat
  deriving DecidableEq, Repr

/-- The list with 1 added at position e. -/
def bumpAt (l : List Nat) (e : Nat) : List Nat := l.set e (nth l e 0 + 1)

/-- The effective capacity (R180). -/
def RouteOp.ceff (o : RouteOp) : Nat :=
  let c := if o.cap = 0 then o.rows else min o.cap o.rows
  min c o.maxSlot

/-- Counts and fates, while selections are assigned: fates by (row, rank), and the overflow list. -/
structure Fill4 where
  counts : List Nat
  fates  : List (Nat × Nat × Fate) := []
  excess : List (Nat × Nat × Nat) := []     -- row, rank, expert
  taken  : List (Nat × Nat) := []           -- row and alternate
  deriving DecidableEq, Repr

/-- Rank-major assignment of the primary selections (R181); sel holds each row's picks. -/
def assign (ceff k : Nat) (sel : List (List Pick)) (counts : List Nat) : Fill4 :=
  (List.range k).foldl (fun a r => ((List.range sel.length).zip sel).foldl (fun (a : Fill4) p =>
    match p.2[r]? with
    | none => { a with fates := (p.1, r, { fate := ftNONE, expert := 0 }) :: a.fates }
    | some q =>
      if nth a.counts q.expert 0 < ceff then
        { a with counts := bumpAt a.counts q.expert, fates := (p.1, r, { fate := ftKEPT, expert := q.expert }) :: a.fates }
      else { a with excess := a.excess ++ [(p.1, r, q.expert)] }) a) { counts := counts }

/-- The policy is applied to the overflow list, in order (R181). -/
def overflow (policy ceff k : Nat) (sel : List (List Pick)) (a : Fill4) : Fill4 :=
  a.excess.foldl (fun (a : Fill4) o =>
    let (t, r, e) := o
    let put (f : Fate) (a : Fill4) : Fill4 := { a with fates := (t, r, f) :: a.fates }
    if policy = 0 then put { fate := ftDROPPED, expert := e } a
    else if policy = 2 then put { fate := ftSPILLED, expert := e } a
    else match ((nth sel t []).drop k).find? (fun q => !a.taken.contains (t, q.expert) && decide (nth a.counts q.expert 0 < ceff)) with
      | some q => put { fate := ftMOVED, expert := q.expert }
          { a with counts := bumpAt a.counts q.expert, taken := (t, q.expert) :: a.taken }
      | none => put { fate := ftDROPPED, expert := e } a) a

/-- The fate of selection (t, r). -/
def Fill4.fateOf (a : Fill4) (t r : Nat) : Fate :=
  ((a.fates.find? (fun f => f.1 == t && f.2.1 == r)).map (fun f => f.2.2)).getD { fate := ftNONE, expert := 0 }

/-! ## Outputs (R183 to R187, R189, R190) -/

/-- The result of an operation: its output writes, the values of its gates, and what it counted. -/
structure RouteOut where
  writes  : List (Nat × List Byte)
  vals    : List (Nat × Nat)
  dropped : Nat := 0
  spilled : Nat := 0
  badTab  : Bool := false
  deriving DecidableEq, Repr

/-- The list header (R183). -/
def listHeader (o : RouteOp) (kept dropped spilled nonempty : Nat) (ovf : Bool) (cap stride : Nat) : List Byte :=
  leBytes 4 kept ++ leBytes 4 dropped ++ leBytes 4 spilled ++
  leBytes 4 (nonempty + b2n ovf * 2 ^ 16 + b2n (o.rows == 0) * 2 ^ 17) ++
  leBytes 4 (cap + (o.rows - 1) * 2 ^ 16) ++ leBytes 4 stride ++ leBytes 8 o.pour.word ++ zeros 32

/-- Bytes padded with zeros to a multiple of 64. -/
def pad64 (b : List Byte) : List Byte := b ++ zeros (roundUp b.length 64 - b.length)

/-- The value of a slot gate. -/
def slotValue (count expert offset : Nat) : Nat := count + expert * 2 ^ 16 + offset * 2 ^ 32

/-- Gates slotBase on take the values of vs, and the rest of the slots take 0. -/
def slotVals (o : RouteOp) (vs : List Nat) : List (Nat × Nat) :=
  (List.range o.slots).map (fun j => (o.slotBase + j, nth vs j 0))

/-- TOTAL_GATE takes n. -/
def totalVal (o : RouteOp) (n : Nat) : List (Nat × Nat) := (o.total.map (fun g => (g, n))).toList

/-- The table of an operation: the fallback where it has none or its header is invalid. -/
def RouteOp.tableUsed (o : RouteOp) : Option Table × Bool :=
  if o.table.isEmpty then (some fallback, false)
  else match tableHead o.table (o.table.length / 64) with
    | some t => (some t, false)
    | none => (some fallback, true)

/-- The output of mode TOPK. -/
def RouteOp.topk (o : RouteOp) : RouteOut :=
  let want := if o.policy = 1 then 2 * o.k else o.k
  let sel := (List.range o.rows).map (fun t => topPicks (o.scores t o.experts) want)
  let (tb, badHead) := o.tableUsed
  let tb := tb.getD fallback
  let ws := sel.map (fun p => rowWeights tb o.table (p.take o.k))
  let badEntry := ws.any (fun w => w.2.any (fun i => entryBad (tableEntry o.table i)))
  let ws := (if badEntry then sel.map (fun p => rowWeights fallback [] (p.take o.k)) else ws).map Prod.fst
  let ceff := o.ceff
  let a := overflow o.policy ceff o.k sel (assign ceff o.k sel (List.replicate o.experts 0))
  let l0 := 0x40 + roundUp (4 * o.experts) 64
  let stride := roundUp (4 * ceff) 64
  let cells := (List.range o.rows).flatMap (fun t => (List.range o.k).map (fun r => (t, r, a.fateOf t r)))
  let inList (f : Fate) : Bool := f.fate == ftKEPT || f.fate == ftMOVED
  let gather (e : Nat) : List (Nat × Nat × Fate) := cells.filter (fun c => inList c.2.2 && c.2.2.expert == e)
  let spills := a.excess.filter (fun c => (a.fateOf c.1 c.2.1).fate == ftSPILLED)
  let entry (c : Nat × Nat × Fate) : List Byte := leBytes 4 (c.1 + c.2.1 * 2 ^ 16 + b2n (c.2.2.fate == ftMOVED) * 2 ^ 19)
  let lists := ((List.range o.experts).filter (fun e => nth a.counts e 0 != 0)).map (fun e =>
    (o.list + l0 + e * stride, (gather e).flatMap entry))
  let pos (c : Nat × Nat × Fate) : Nat :=
    if inList c.2.2 then ((gather c.2.2.expert).map (fun d => (d.1, d.2.1))).idxOf (c.1, c.2.1)
    else if c.2.2.fate = ftSPILLED then (spills.map (fun d => (d.1, d.2.1))).idxOf (c.1, c.2.1) else 0
  let combine := cells.flatMap (fun c =>
    let w := if c.2.2.fate = ftNONE then 0 else nth (nth ws c.1 []) c.2.1 0
    leBytes 8 (w + c.2.2.expert * 2 ^ 32 + c.2.2.fate * 2 ^ 42 + pos c * 2 ^ 48))
  let count (f : Nat) : Nat := (cells.filter (fun c => c.2.2.fate == f)).length
  let kept := count ftKEPT + count ftMOVED
  let full := (List.range o.experts).filter (fun e => nth a.counts e 0 != 0)
  let slotOf (e : Nat) : Nat := slotValue (nth a.counts e 0) e (l0 + e * stride)
  let each := decide (o.experts ≤ o.slots)
  let ovf := !each && decide (o.slots < full.length)
  let head := listHeader o kept (count ftDROPPED) (count ftSPILLED) full.length ovf ceff stride
  let residual := if o.policy = 2 then
      [(o.spill, pad64 (leBytes 4 spills.length) ++
        spills.flatMap (fun c => leBytes 4 (c.1 + c.2.1 * 2 ^ 16 + c.2.2 * 2 ^ 19)))] else []
  { writes := (o.list, head) :: (o.list + 0x40, pad64 (a.counts.flatMap (leBytes 4))) :: lists ++
      [(o.weight, combine)] ++ residual,
    vals := slotVals o (if each then (List.range o.experts).map slotOf else full.map slotOf) ++ totalVal o kept,
    dropped := count ftDROPPED, spilled := count ftSPILLED, badTab := badHead || badEntry }

/-- The output of mode BLOCKS (R189). -/
def RouteOp.blocks (o : RouteOp) : RouteOut :=
  let rows := (List.range o.rows).map (fun t => (t, o.maskBits t))
  let counts := rows.map (fun p => p.2.length)
  let below (t : Nat) : Nat := (counts.take t).sum
  let total := counts.sum
  let l0 := 0x40 + roundUp (4 * (o.rows + 1)) 64
  let index := (List.range (o.rows + 1)).flatMap (fun t => leBytes 4 (below t))
  let entries := rows.flatMap (fun p => p.2.flatMap (fun c => leBytes 4 (p.1 + c * 2 ^ 16)))
  { writes := [(o.list, listHeader o total 0 0 0 false 0 0), (o.list + 0x40, pad64 index), (o.list + l0, entries)],
    vals := slotVals o ((List.range (min o.slots o.rows)).map (fun j => slotValue (nth counts j 0) j (l0 + 4 * below j))) ++
      totalVal o total }

/-- The output of mode EXIT (R190). -/
def RouteOp.exits (o : RouteOp) : RouteOut :=
  let th := bf16.value true o.thresh
  let n := ((List.range o.rows).filter (fun t =>
    let x := nth (o.scores t 1) 0 (.nan false)
    th.isNan || x.isNan || x.lt th)).length
  { writes := [], vals := (o.pred, b2n (n != 0)) :: totalVal o n }

/-- The output of an operation. The table of an operation of mode BLOCKS or EXIT is checked too, though no weight is made from
it: none of its entries is read (R178). -/
def RouteOp.output (o : RouteOp) : RouteOut :=
  if o.mode = 0 then o.topk else { (if o.mode = 1 then o.blocks else o.exits) with badTab := o.tableUsed.2 }

/-! ## Errors (R194) -/

/-- A condition of R194 or R195 is recorded for operation o. -/
def State.routeLast (s : State) (o : RouteOp) (cause : Nat) : State :=
  (((s.wr .RT_LAST_QUEUE o.pour.queue).wr .RT_LAST_QGEN o.pour.qgen).wr .RT_LAST_RECORD o.index).wr .RT_LAST_CAUSE cause

/-- A condition of the table of R194 is reported: the bit, the operation, and the root queue's error source once. -/
def State.routeErr (s : State) (o : RouteOp) (bit : Field) (cause : Nat) : State :=
  let t := (s.wr bit 1).routeLast o cause
  if o.mgmt || t.route.raised.contains o.pour then t
  else { t.raiseQueueErr o.pour.queue with route := { t.route with raised := o.pour :: t.route.raised } }

/-! ## Taking a ROUTE record (R167 to R169, R180, R192) -/

/-- Operation o takes the place of the held one. -/
def State.setOp (s : State) (o : RouteOp) : State :=
  { s with route := { s.route with ops := updAll s.route.ops (fun x => x.id == o.id) (fun _ => o) } }

/-- The held operation `id`. -/
def State.op? (s : State) (id : Nat) : Option RouteOp := s.route.ops.find? (fun o => o.id == id)

/-- The gates a ROUTE record writes. -/
def routeGates (r : List Byte) : List Nat :=
  (List.range (fld r 1 56 7)).map (fun i => fld r 1 48 6 + i) ++ (if fld r 3 6 1 = 1 then [fld r 3 0 6] else []) ++
  (if fld r 0 8 2 = 2 then [fld r 3 8 6] else [])

/-- The producer of an operation of x whose SCORE_GATE is g (R169). -/
def State.producerOf (s : State) (x : Ctx) (g : Nat) : Option Nat :=
  match x.passed.find? (fun p => p.1 == g) with
  | some p => if (s.kernel? p.2).isSome then some p.2 else none
  | none => none

/-- The operation of the ROUTE record r of x is taken. -/
def State.takeRoute (s : State) (x : Ctx) (m : Mould) (r : List Byte) : State :=
  let (id, s) := s.newId
  let mode := fld r 0 8 2
  let tokens := x.op r 0 32
  let marks := routeGates r
  let slots := fld r 1 56 7
  let base := fld r 1 48 6
  let maxSlot := (List.range slots).foldl (fun m' j => min m' (s.descAt m (base + j)).max) 65535
  let len := fld r 2 32 16
  let o : RouteOp := {
    id := id, ctx := x.num, pour := (s.rootOf x).pour, mgmt := x.mgmt, index := x.pc, mode := mode, fmt := fld r 0 10 3,
    policy := fld r 0 13 2, k := fld r 0 16 4, rows := min tokens (rowLimit mode), cap := x.op r 0 48,
    experts := fld r 1 0 11, score := x.gate (fld r 1 16 6), list := x.gate (fld r 1 24 6),
    weight := x.gate (fld r 1 32 6), spill := x.gate (fld r 1 40 6), slotBase := base, slots := slots, maxSlot := maxSlot,
    total := if fld r 3 6 1 = 1 then some (fld r 3 0 6) else none, pred := fld r 3 8 6, thresh := fld r 3 16 16,
    table := s.dieRead (m.addr + 0x300 + m.records * 64 + fld r 2 0 32) (len * 64),
    marks := marks, producer := s.producerOf x (fld r 1 16 6) }
  let t := { s with route := { s.route with ops := s.route.ops ++ [o] } }
  let t := if rowLimit mode < tokens then t.routeErr o .RT_ERR_TOKENS 2 else t
  let mask := marks.foldl (fun v g => setBits v g 1 1) x.pending
  ((t.count x.num 9 (o.table.length)).modCtx x.num (fun y => { y with pending := mask })).goTo x.num (x.pc + 1)

/-- ROUTE of a mode in context c: handed to the route unit, or waiting for room behind those that began to wait before
it and whose walks may go on (R167). -/
def State.recRoute (s : State) (c : Nat) (p : List Byte → Bool) : State :=
  s.record c opROUTE p (fun s x m r =>
    let ahead := (s.route.waits.takeWhile (fun k => k != c)).filter (fun k => (s.ctx? k).any s.mayWalk)
    if decide (s.route.ops.length < 64) && ahead.isEmpty then
      ({ s with route := { s.route with waits := s.route.waits.filter (fun k => k != c) } }).takeRoute x m r
    else
      let waits := if s.route.waits.contains c then s.route.waits else s.route.waits ++ [c]
      ({ s with route := { s.route with waits := waits } }).park c .run)

/-- ROUTE records that waited are taken while there is room (R167). -/
def State.pumpRouteTake (s : State) : State :=
  s.route.waits.foldl (fun t c => if t.route.ops.length < 64 then t.recRoute c (fun _ => true) else t) s

/-! ## Score delivery (R171, R172) -/

/-- Chunks in the score buffer. -/
def State.scoreChunks (s : State) : Nat := (s.route.ops.map (fun o => o.pushes.length)).sum

/-- SCORE_PUSH (R172): engine e pushes chunk `part` of a row. A chunk that no row of the operation has is refused and counted,
though the rule's three conditions do not name it (DESIGN CHOICE, log entry 154). -/
def State.scorePush (s : State) (e c rec_ row part : Nat) (data : List Byte) : State :=
  let takes (o : RouteOp) : Bool := match o.producer.bind s.kernel? with
    | some k => k.ctx == c && k.index == rec_ && k.left.contains e && !k.reported.contains e &&
        decide (row < o.rows) && decide (part < o.parts)
    | none => false
  match s.route.ops.find? takes with
  | some o =>
    if !(s.on .RT_CTL_PUSH_EN && decide (s.scoreChunks < 4096)) then s.bump .RT_STATS_PUSH_REFUSED
    else if o.pushes.any (fun q => q.1 == row && q.2.1 == part) then s
    else s.setOp { o with pushes := o.pushes ++ [(row, part, slice data 0 64)] }
  | none => s.bump .RT_STATS_PUSH_REFUSED

/-- SCORE_REPORT (R169): engine e has stored every row that it computes in its kernel. -/
def State.scoreReport (s : State) (e c rec_ : Nat) : State :=
  match (s.lane e).running.bind s.kernel? with
  | some k =>
    if k.ctx = c ∧ k.index = rec_ ∧ !k.reported.contains e then
      s.modKernel k.id (fun x => { x with reported := e :: x.reported }) else s
  | none => s

/-- The score condition of o holds (R169). -/
def State.scoresDone (s : State) (o : RouteOp) : Bool :=
  match o.producer.bind s.kernel? with
  | none => true
  | some k => k.left.all (fun e => k.reported.contains e)

/-- The reads of an operation whose score condition is met: every row that is not pushed, as naturally aligned reads of
256 B, or of the largest of 64 B and 128 B that take no byte of a pushed row and none outside the operation (R172). -/
def RouteOp.readList (o : RouteOp) : List (Nat × Nat) :=
  let z := o.rowBytes
  let rowAt (a : Nat) : Nat := (a - o.score) / z
  let fits (a n : Nat) : Bool := decide (o.score ≤ a) && decide (a + n ≤ o.score + o.rows * z) &&
    (List.range (n / 64)).all (fun i => !o.pushed (rowAt (a + 64 * i)))
  let rec go : Nat → Nat → List (Nat × Nat)
    | 0, _ => []
    | fuel + 1, a =>
      if o.score + o.rows * z ≤ a then []
      else if o.pushed (rowAt a) then go fuel (a + 64)
      else
        let n := if a % 256 = 0 && fits a 256 then 256 else if a % 128 = 0 && fits a 128 then 128 else 64
        (a, n) :: go fuel (a + n)
  go (o.rows * o.parts + 1) o.score

/-- Reads of route operations that have returned reach their operations (R172, R194, R484). -/
def State.routeReturns (s : State) : State :=
  (s.reqs.filter (fun r => match r.purpose with | .route _ => r.fin.isSome | _ => false)).foldl (fun t r =>
    match r.purpose, r.fin with
    | .route i, some (bs, slag) =>
      let t := t.dropReq r.id
      match t.op? i with
      | none => t
      | some o =>
        let at_ := r.addr + 64 * r.bad.headD 0
        let t := if slag && r.tier == 0 then t.hbmUe at_ 3 0 o.index r.flask ((r.root.map PourId.word).getD 0) else t
        let t := if slag then t.routeErr o .RT_ERR_POISON 3 else t
        let line (i : Nat) : Nat × List Byte × Bool := (r.va + 64 * i, slice bs (64 * i) 64, r.bad.contains i)
        t.setOp { o with got := o.got ++ (List.range (bs.length / 64)).map line }
    | _, _ => t) s

/-- ROUTE_SCORE_READ_RETURN (R172): read `id` of the route unit returns. -/
def State.routeReadReturn (s : State) (id : Nat) (ret : Ret) : State :=
  match s.req? id with
  | some r => (match r.purpose with | .route _ => (s.hapResponse id ret).routeReturns | _ => s)
  | none => s

/-- The next read of o is translated and issued; none when it must wait. -/
def State.routeRead (s : State) (o : RouteOp) : State × Bool :=
  match o.reads with
  | [] => (s, false)
  | (va, n) :: rest =>
    let t := s.ask (.route o.id) .route o.ctx va .read n
    match t.granted (.route o.id) va .read with
    | none => (t, false)
    | some l =>
      match t.acceptTagged (t.reqUnder .route o.ctx l va (.read n) (.route o.id)) with
      | none => (t, false)
      | some (_, u) => match u.op? o.id with
        | none => (u, false)
        | some o => ((u.setOp { o with reads := rest }).forget (.route o.id), true)

/-- The next output of o is translated and handed over. -/
def State.routeWrite (s : State) (o : RouteOp) : State × Bool :=
  match o.writes with
  | some ((va, bs) :: rest) =>
    let t := s.ask (.route o.id) .route o.ctx va .write bs.length
    match t.granted (.route o.id) va .write with
    | none => (t, false)
    | some l =>
      let r := t.reqUnder .route o.ctx l va (.write []) (.route o.id)
      match t.storeOut r (cellsAt r.addr bs) l.sealed l.pub with
      | none => (t, false)
      | some u => match u.op? o.id with
        | none => (u, false)
        | some o => ((u.setOp { o with writes := some rest }).forget (.route o.id), true)
  | _ => (s, false)

/-- Step f is taken for operation i while it succeeds. -/
def State.whileOp (s : State) (i : Nat) (f : State → RouteOp → State × Bool) : Nat → State
  | 0 => s
  | n + 1 => match s.op? i with
    | none => s
    | some o => match f s o with
      | (t, true) => t.whileOp i f n
      | (t, false) => t

/-- Runs of bytes cut at multiples of 256 B. -/
def cutWrites (ws : List (Nat × List Byte)) : List (Nat × List Byte) :=
  ws.flatMap (fun w => if w.2.isEmpty then []
    else (pieces 256 w.1 w.2.length).map (fun p => (w.1 + p.1, slice w.2 p.1 p.2)))

/-- The outputs of an operation all of whose rows are selected are formed (R181 to R187). An invalid table is reported now, which
the spec ties to no moment (DESIGN CHOICE, log entry 153). -/
def State.routeOutput (s : State) (o : RouteOp) : State :=
  let out := o.output
  let t := if out.badTab then s.routeErr o .RT_ERR_BAD_TABLE 1 else s
  t.setOp { o with writes := some (cutWrites out.writes), vals := out.vals, dropped := out.dropped, spilled := out.spilled }

/-- Operation i moves on as far as it can without another command. -/
def State.pumpOp (s : State) (i : Nat) : State :=
  match s.op? i with
  | none => s
  | some o =>
    let s := if !o.met && s.scoresDone o then s.setOp { o with met := true, reads := o.readList } else s
    let s := s.whileOp i State.routeRead (o.rows * o.parts + 1)
    let s := match s.op? i with
      | some o => if o.met && o.writes.isNone && o.selected.length == o.rows then s.routeOutput o else s
      | none => s
    let n := match s.op? i with | some o => (o.writes.getD []).length | none => 0
    s.whileOp i State.routeWrite (n + 1)

/-- The operations that have become ready take their turns behind those that were ready before (R191). -/
def State.routeTurns (s : State) : State :=
  let ready := (s.route.ops.filter RouteOp.ready).map RouteOp.id
  let old := s.route.turn.filter (fun i => ready.contains i)
  let turn := old ++ ready.filter (fun i => !old.contains i)
  let live := s.route.raised.filter (fun p => s.ctxs.any (fun x => x.pour == p))
  { s with route := { s.route with turn := turn, raised := live } }

/-- The route unit moves on. -/
def State.pumpRoute (s : State) : State :=
  let t := s.routeReturns.pumpRouteTake
  ((t.route.ops.map RouteOp.id).foldl State.pumpOp t).routeTurns

/-- ROUTE_SELECT_TILE (R191, R195): the pipeline takes up to 64 rows of the operation whose turn it is; residue says that
the tile's checks find a mismatch. -/
def State.routeSelect (s : State) (residue : Bool) : State :=
  match s.route.turn with
  | [] => s
  | i :: rest => match s.op? i with
    | none => s
    | some o =>
      if !o.ready then s
      else if residue then
        let f := ((s.ctx? o.ctx).map Ctx.flask).getD 0
        let r (severity code : Nat) : RasRec :=
          { severity := severity, unit := 3, code := code, flask := f, fgen := s.flaskGen f, index := o.index,
            pour := o.pour.word }
        if o.retried then ((s.wr .RT_STATUS_OUT_OF_SERVICE 1).ras (r 3 2)).callBlock
        else (((s.wr .RT_ERR_RESIDUE 1).routeLast o 4).ras (r 0 0x0B)).setOp { o with selected := [], retried := true }
      else
        let t := s.setOp { o with selected := o.selected ++ o.readyRows.take 64 }
        { t with route := { t.route with turn := rest } }

/-- ROUTE_WRITE_BACK (R188): every output of operation i is accepted at its home, and its gates are written in one
clock. -/
def State.routeBack (s : State) (i : Nat) : State :=
  match s.op? i with
  | none => s
  | some o =>
    if o.writes ≠ some [] ∨ !o.out.isEmpty ∨ s.cast.egress.any (fun e => e.purpose == .route i) then s
    else
      let t := o.vals.foldl (fun t v => t.gateWrite o.ctx v.1 v.2) s
      let clear (x : Ctx) : Ctx := { x with pending := o.marks.foldl (fun v g => setBits v g 1 0) x.pending }
      let t := t.modCtx o.ctx clear
      let ops := t.route.ops.filter (fun p => p.id != i)
      ((({ t with route := { t.route with ops := ops } }).bump .RT_STATS_OPS).bump .RT_CAP_DROPPED 0 o.dropped).bump
        .RT_CAP_SPILLED 0 o.spilled

end Sys2Proof.Machine
end

