-- ==== Sys2Proof/Machine/View.lean ====
section
/-! DEFINITION. What a BAR0 or configuration read returns (R10, R33, R400, R422, R468, R492, R493): live fields, counts and
occupancies of the units, coarsened while a flask is sealed. A read changes nothing (R492), so it is no command; this
is the observation that the host's read makes. -/
namespace Sys2Proof.Machine

/-- Elements of a field that hold v. -/
def State.countOf (s : State) (f : Field) (v : Nat) : Nat := ((s.listed f).filter (fun i => s.rd f i == v)).length

/-- Pool frames in use of the given size. -/
def State.framesUsed (s : State) (size : Nat) : Nat := ((s.framesOf size).filter s.frameUsed).length

/-- CZ_LANE_STATE of engine e: running kernel, its queue and generation. -/
def State.laneKernel (s : State) (e : Nat) : Option Kernel := (s.lane e).running.bind s.kernel?

/-- The context words of entry c of CZ_SEQ_CTX. -/
def State.ctxEntry (s : State) (c : Nat) : Nat × Nat :=
  match s.ctx? c with
  | none => (0, 0)
  | some x => s.ctxWords x (if x.mgmt then 0xFFF else x.pour.queue)

/-- Bytes of scores that the route unit buffers. -/
def State.scoreBytes (s : State) : Nat := 64 * s.scoreChunks

/-- Management core c runs: it is not being restarted after its watchdog's expiry, nor switching to a committed image, which
the cores do one at a time, core 0 first (R462, R464; DESIGN CHOICE, log entry 142). -/
def State.coreUp (s : State) (c : Nat) : Bool :=
  !s.mbox.dogs.any (fun d => d.1 == c && decide (s.time < d.2 + (Config.coreRestart d.2).toNat % 200001)) &&
  !s.mbox.switches.any (fun w =>
    let mid := (w.from_ + w.till) / 2
    w.comp == 2 && (if c = 0 then decide (s.time < mid) else decide (mid ≤ s.time)))

/-- PHASE: during start-up SELFTEST and FIRMWARE follow INIT, each within its bound (R471; DESIGN CHOICE, log entry 143). -/
def State.phaseNow (s : State) : Nat :=
  match s.rd .RAS_STATUS_PHASE, s.breset with
  | 1, some b =>
    let at2 := b.upAt + (Config.startupStep b.upAt 0).toNat % 1010001
    if s.time < at2 then 1
    else if s.time < max at2 (b.upAt + (Config.startupStep b.upAt 1).toNat % 6010001) then 2 else 3
  | p, _ => p

/-- CZ_RAS_CE.ZCI_REPLAY: beside its stored count, the packets that the link layer has replayed since the block became READY,
a free number in each nanosecond (R490, log entry 130). -/
def State.replays (s : State) : Nat :=
  let since := (List.range (s.time - s.readyAt)).map (fun k => (Config.zciReplays (s.readyAt + k)).toNat)
  min (s.rd .RAS_CE_ZCI_REPLAY + since.sum) (2 ^ 32 - 1)

/-- CZ_MB_FW.VERSION: the version of the committed image; until STARTUP_READY has brought the model what Kyrdo holds, a free
value (R500, log entry 143). -/
def State.fwShown (s : State) : Nat :=
  if s.kyrdo.device.isEmpty && !s.ready then (Config.fuseShown 4).toNat % 2 ^ 16 else s.rd .MB_FW_VERSION

/-- CZ_SEAL_GRAN.DIRTY of granule g: a running scrub clears it as it completes the granule (R405). It takes the granules of its
range in ascending order, which the spec leaves open (DESIGN CHOICE, log entry 158). -/
def State.granDirty (s : State) (g : Nat) : Nat :=
  let done (c : Scrub) : List Nat := c.granules.take (c.granules.length - ceilDiv c.left granule)
  if s.scrubNow.scrubs.any (fun c => (done c).contains g) then 0 else s.rd .SEAL_GRAN_DIRTY g

/-- The value of element i of field f that the hardware holds at this moment. -/
def State.live (s : State) (f : Field) (i : Nat) : Nat :=
  match f with
  | .TIMEBASE => s.clock .hlp % 2 ^ 64
  | .QCTX_ENGINES => s.queueEngines i
  | .QM_STATUS_RT_QUEUES => s.rtQueues
  | .QM_STATUS_SEQ_RESERVED => b2n (s.rtQueues != 0)
  | .QM_STATUS_ACTIVE => s.queues.length
  | .MC_STATUS_VALID => s.moulds.segs.length
  | .MC_STATUS_PINNED => (s.moulds.segs.filter Seg.pinned).length
  | .MC_STATUS_LOADED => s.loadedCount
  | .SEQ_STATUS_POUR_CTX => (s.ctxs.filter (fun x => decide (x.num < 256))).length
  | .SEQ_STATUS_SPAWN_CTX => (s.ctxs.filter (fun x => decide (256 ≤ x.num))).length
  | .LANE_STATE_DEPTH => (s.lane i).queue.length
  | .LANE_STATE_SHADOW => b2n (s.lane i).shadow.isSome
  | .LANE_STATE_RUNNING => b2n (s.lane i).running.isSome
  | .LANE_STATE_BORROWED => b2n ((s.laneKernel i).any (fun k => k.lent.contains i))
  | .LANE_STATE_QUEUE => ((s.laneKernel i).map (fun k => k.pour.queue)).getD 0
  | .LANE_STATE_QGEN => ((s.laneKernel i).map (fun k => k.pour.qgen)).getD 0
  | .SEQ_CTX_STATE => bits (s.ctxEntry i).1 0 4
  | .SEQ_CTX_QUEUE => bits (s.ctxEntry i).1 8 12
  | .SEQ_CTX_QGEN => bits (s.ctxEntry i).1 20 8
  | .SEQ_CTX_DEPTH => bits (s.ctxEntry i).1 28 6
  | .SEQ_CTX_RECORD => bits (s.ctxEntry i).1 48 16
  | .SEQ_CTX_TIMELINE => bits (s.ctxEntry i).2 0 16
  | .SEQ_CTX_KERNELS => bits (s.ctxEntry i).2 16 16
  | .SEQ_CTX_SPAWNED => bits (s.ctxEntry i).2 32 8
  | .RT_STATUS_HELD => s.route.ops.length
  | .RT_STATUS_BUF_KIB => ceilDiv s.scoreBytes 1024
  | .XL_STATUS_SURVEYORS => (s.xl.walks.filter Walk.started).length
  | .XL_STATUS_WAITING => (s.xl.asks.filter (fun a => match a.wait with | .walk _ | .held _ _ | .mig _ => true | _ => false)).length
  | .XL_STATUS_PINNED => s.pinsUsed
  | .XL_INV_STATUS_HOST_OPEN => (s.xl.invs.filter (fun v => v.started && (match v.source with | .host _ => true | _ => false))).length
  | .XL_INV_STATUS_CMD_OPEN => 
    (s.xl.invs.filter (fun v => v.started && (match v.source with | .cmd _ | .seal _ | .headless => true | _ => false))).length +
    (s.tier.migs.filter (fun m => m.ctx.isSome)).length
  | .XL_INV_STATUS_PHYS_WAIT => b2n (s.xl.invs.any (fun v => !(s.invKernels v).isEmpty))
  | .XL_FLASK_HELD => s.heldCount i
  | .TIER_POOL_STATUS_USED1G => s.framesUsed sheet1G
  | .TIER_POOL_STATUS_USED32 => s.framesUsed sheet32M
  | .TIER_POOL_STATUS_ORPHANS => (s.tier.promos.filter Promo.orphan).length
  | .HAP_STATUS_HOST_TAGS => (s.tagHolders false).length
  | .HAP_STATUS_PEER_TAGS => (s.tagHolders true).length
  | .HAP_STATUS_WR_ENTRIES => s.entryHolders.length
  | .HAP_STATUS_BM_STALL => b2n (!s.on .CFG_BME && s.reqs.any (fun r => r.toHost && !r.issued))
  | .HAP_STATUS_ACK_WAIT => s.ackTable
  | .CAST_STATUS_JOBS => s.cast.jobs.length
  | .CAST_STATUS_BUSY => ((s.cast.jobs.flatMap (fun j => (j.items.filter (fun i => !i.held)).map Item.caster)).eraseDups).length
  | .PEER_STATUS_ATTACHED => s.countOf .PEER_NODE_STATE ndATTACHED
  | .PEER_STATUS_OUTSTANDING => s.outPeers.length
  | .PEER_STATUS_INBOUND => s.inboundUse
  | .PEER_NODE_OUT => (s.outTo i).length
  | .EV_STATUS_PENDING => s.pendingSrcs.length
  | .EV_STATUS_ACTIVE => (s.listed .EV_SRC_ACTIVE).length
  | .EV_STATUS_HELD => (s.waitingSrcs.filter (fun n => (s.eligibles n).isEmpty)).length
  | .EV_STATUS_WAIT_CREDIT => s.ev.msgs.length
  | .EV_THRESH_RPRI => s.rpri i
  | .SEAL_GRAN_DIRTY => s.granDirty i
  | .FL_STATUS_FLASKS => s.flasks.length
  | .FL_STATUS_SCRUBBING => b2n (!s.scrubs.isEmpty)
  | .FL_STATUS_SLOTS_FREE => 256 - (s.listed .KEY_SLOT_VALID).length
  | .FL_STATUS_SCRUB_LEFT => ceilDiv ((s.scrubNow.scrubs.map Scrub.left).sum) (2 ^ 20)
  | .MB_RPL_RESUMED => if s.slotState i = mbDONE then s.rd .MB_RPL_RESUMED i else 0
  | .EN_STATUS_OPEN => min s.accsUsed 4096
  | .EN_STATUS_UNSIGNED => (s.meter.accs.filter (fun a => a.closed.isSome)).length
  | .EN_STATUS_K => if s.coarse then 0 else s.rd .EN_STATUS_K
  | .PWR_STATUS_GATED => popCount (s.rd .PWR_GATED_GROUPS) 64
  | .PWR_STATUS_STATE => if !s.drowse && s.rd .PWR_GATED_GROUPS == 2 ^ 64 - 1 then 1 else s.rd .PWR_STATUS_STATE
  | .PEER_STATUS_LANES_UP => (Config.lanesUp s.time).toNat % 73
  | .EV_SRC_PENDING => b2n (s.pendingOf i)
  | .RAS_CE_ZCI_REPLAY => s.replays
  | .MB_FW_VERSION => s.fwShown
  | .MB_FW_CORE0_UP => b2n (s.coreUp 0)
  | .MB_FW_CORE1_UP => b2n (s.coreUp 1)
  | .RAS_STATUS_PHASE => s.phaseNow
  | .CFG_SUBSYS | .ID_ENGINE_REV | .DEVID_LO | .DEVID_HI => s.fuseNow f
  | f => s.rd f i

/-! ## Coarsening (R400) -/

/-- Counts that are coarsened while any flask is sealed with PROFILE 0. -/
def coarseCounts : List Field :=
  [.MC_STATS_HITS, .MC_STATS_MISSES, .SEQ_SPAWN_REFUSED, .SEQ_SPAWN_WAITED, .QM_RACE_REREADS, .QM_RACE_STALE, .RT_STATS_OPS,
   .RT_STATS_PUSH_REFUSED, .RT_CAP_DROPPED, .RT_CAP_SPILLED, .XL_STATS_HITS, .XL_STATS_WALKS, .XL_FAULTS_RECORDED,
   .XL_FAULTS_UNRECORDED, .HAP_STATS_READS, .HAP_STATS_WRITES, .HAP_DROP_FLASK_DROPS, .HAP_DROP_HOST_DROPS,
   .HAP_DROP_BLOCK_DISCARDS, .HAP_DROP_WR_ERRORS, .CAST_STATS_ITEMS, .CAST_STATS_SLAGGED, .CAST_SEAL_STATS_BLOCKS,
   .CAST_SEAL_STATS_AUTH_FAILS, .PEER_STATS_RETRIES, .PEER_STATS_DENIED, .PEER_LOSS_LOST_WRITES, .PEER_LOSS_LOST_READS,
   .PEER_LOSS_LOST_SIGNALS, .EV_STATS_MERGED, .EV_STATS_DENIED, .EV_STATS_BAD_COMPL, .XL_INV_STATUS_DONE]

/-- Occupancies that are coarsened under the same condition. -/
def coarseOccupancies : List Field :=
  [.SEQ_STATUS_POUR_CTX, .SEQ_STATUS_SPAWN_CTX, .RT_STATUS_HELD, .RT_STATUS_BUF_KIB, .XL_STATUS_SURVEYORS, .XL_STATUS_WAITING,
   .XL_STATUS_PINNED, .HAP_STATUS_HOST_TAGS, .HAP_STATUS_PEER_TAGS, .HAP_STATUS_WR_ENTRIES, .HAP_STATUS_ACK_WAIT,
   .CAST_STATUS_JOBS, .CAST_STATUS_BUSY, .PEER_STATUS_ATTACHED, .PEER_STATUS_OUTSTANDING, .PEER_STATUS_INBOUND,
   .EV_STATUS_PENDING, .EV_STATUS_ACTIVE, .EV_STATUS_HELD, .EV_STATUS_WAIT_CREDIT]

/-- Counts of a queue, coarsened while its own flask is sealed with PROFILE 0. -/
def coarseQueue : List Field := [.QCTX_POURS, .QCTX_ENGINES, .QCTX_REREADS, .QCTX_ADMITTED]

/-- Fields of a flask's engines and contexts, hidden while it is sealed with DEBUG 0. -/
def hiddenLane : List Field :=
  [.LANE_WP_VALUE, .LANE_WP_MOVED_AT, .LANE_STATE_DEPTH, .LANE_STATE_SHADOW, .LANE_STATE_RUNNING, .LANE_STATE_BORROWED,
   .LANE_STATE_QUEUE, .LANE_STATE_QGEN]
def hiddenCtx : List Field := [.SEQ_CTX_RECORD, .SEQ_CTX_TIMELINE, .SEQ_CTX_KERNELS, .SEQ_CTX_SPAWNED]

/-- Flask f is sealed with PROFILE 0, or with DEBUG 0. -/
def State.noProfile (s : State) (f : Nat) : Bool := s.flaskSealed f && !s.on .FL_PROFILE f
def State.noDebug (s : State) (f : Nat) : Bool := s.flaskSealed f && !s.on .FL_DEBUG f

/-- The flask that owns engine group g. -/
def State.groupOwner (s : State) (g : Nat) : Option Nat := s.flasks.find? (fun f => bit (s.rd .FL_GROUPS f) g)

/-- DEBUG_ALLOW of engine group g (R399). -/
def State.debugAllow (s : State) (g : Nat) : Bool := (s.groupOwner g).any (fun f => !s.noDebug f)

/-- A value of the last snapshot tick, rounded down to a multiple of m. -/
def State.latched (s : State) (f : Field) (i m : Nat) : Nat := aget s.snap (f.key i) 0 / m * m

/-- The value of element i of field f as R400 lets a read see it. -/
def State.veiled (s : State) (f : Field) (i : Nat) : Nat :=
  let owner (c : Nat) : Bool := (s.ctx? c).any (fun x => !x.mgmt && s.noDebug x.flask)
  if coarseCounts.contains f && s.coarse then s.latched f i 4096
  else if coarseOccupancies.contains f && s.coarse then s.latched f i 64
  else if coarseQueue.contains f && s.rd .QCTX_STATE i != 0 && s.noProfile (s.rd .QCTX_FLASK i) then s.latched f i 4096
  else if hiddenLane.contains f && (s.groupOwner (i / 8)).any s.noDebug then 0
  else if hiddenCtx.contains f && owner i then 0
  else if f == .SEQ_CTX_STATE && owner i then 2
  else if f == .RT_LAST_RECORD && (List.range 64).any (fun g => s.ownsQueue g (s.rd .RT_LAST_QUEUE) && s.noDebug g) then 0
  else s.live f i

/-- SNAPSHOT_TICK (R400, R422): at the next multiple of 100,000,000 ns the coarsened fields and the energy telemetry are
latched. -/
def State.snapshot (s : State) : State :=
  let t := s.elapse ((s.time / 100000000 + 1) * 100000000)
  let one (f : Field) : Nat × Nat := (f.key 0, t.live f 0)
  let queue (q : Nat) : List (Nat × Nat) := coarseQueue.map (fun f => (f.key q, t.live f q))
  let vals := (coarseCounts ++ coarseOccupancies).map one ++ t.queues.flatMap queue
  { t.energyRegs with snap := vals.filter (fun p => p.2 != 0) }

/-! ## Reads -/

/-- Occupancies beside those of R400. -/
def occupancies : List Field :=
  [.QM_STATUS_RT_QUEUES, .QM_STATUS_SEQ_RESERVED, .QM_STATUS_ACTIVE, .MC_STATUS_VALID, .MC_STATUS_PINNED, .MC_STATUS_LOADED,
   .XL_INV_STATUS_HOST_OPEN, .XL_INV_STATUS_CMD_OPEN, .XL_INV_STATUS_PHYS_WAIT, .TIER_POOL_STATUS_USED1G,
   .TIER_POOL_STATUS_USED32, .TIER_POOL_STATUS_ORPHANS, .HAP_STATUS_BM_STALL, .FL_STATUS_FLASKS, .FL_STATUS_SCRUBBING,
   .FL_STATUS_SLOTS_FREE, .FL_STATUS_SCRUB_LEFT, .EN_STATUS_OPEN, .EN_STATUS_UNSIGNED]

/-- Fields that a read shows as they stand during a reset (R468): those that show live hardware, and those whose reset value
is what fuses, the committed firmware or the reset itself makes it. -/
def shownInReset (f : Field) : Bool :=
  f.keptBlock || coarseOccupancies.contains f || occupancies.contains f ||
  [Field.TIMEBASE, .RAS_STATUS_PHASE, .RAS_STATUS_LAST_RESET, .MB_FW_VERSION, .PWR_STATUS_STATE, .PWR_STATUS_ENTERING,
    .PWR_STATUS_EXITING, .PWR_STATUS_GATED, .PWR_STATUS_WAKE_CAUSE, .PWR_GATED_GROUPS].contains f

/-- PHASE FAILED. Whether R10 still hides registers there the spec does not say; the self-test's outcome, which R472 records
for software to read, shows: reads are as after READY (DESIGN CHOICE, log entry 10). -/
def State.failed (s : State) : Bool := s.rd .RAS_STATUS_PHASE == 5

/-- Element i of field f as a read returns it (R6, R10). -/
def State.seen (s : State) (f : Field) (i : Nat) : Nat :=
  if f.row.access = .WO then 0
  else if s.inReset && !s.failed && !shownInReset f then f.resetAt i
  else if flaskFields.contains f && s.flaskResetting i then f.resetAt i
  else s.veiled f i

/-- The 64-bit register at offset off as an 8-byte read returns it. -/
def State.regRead (s : State) (off : Nat) : Nat :=
  (fieldsAt off).foldl (fun v p => v + s.seen p.1 p.2 * 2 ^ p.1.row.bitOf p.2) 0

/-- What a BAR0 read of `size` bytes at offset off returns; none is an unsupported-request completion (R32, R33, R493). -/
def State.barRead (s : State) (off size : Nat) : Option Nat :=
  if !s.on .CFG_MSE then none
  else if !(size == 4 || size == 8) || off % max size 1 != 0 then some 0
  else if size = 8 then some (s.regRead off)
  else some (bits (s.regRead (off / 8 * 8)) (8 * (off % 8)) 32)

/-- The state that a BAR0 read leaves: one of wrong size or alignment sets CZ_HLP_ERR.BAD_REG (R33), but in an event doorbell
page, where every read has no side effect (R359), and any other changes nothing (R492). The access's credit goes back to the
host (R27). -/
def State.barReadLeaves (s : State) (off size : Nat) : State :=
  let bad : Bool := !(size == 4 || size == 8) || off % max size 1 != 0
  let page : Bool := decide (0x740000 ≤ off) && decide (off < 0x780000)
  (if s.on .CFG_MSE && bad && !page then s.wr .HLP_ERR_BAD_REG 1 else s).giveCredit .register

/-- What a read of BAR1 returns: zero, with no side effect (R34); none is an unsupported-request completion (R32). -/
def State.bar1Read (s : State) : Option Nat := if s.on .CFG_MSE then some 0 else none

/-- What a configuration read of the doubleword at dw returns (R29). -/
def State.configRead (s : State) (dw : Nat) : Nat :=
  (configFields dw).foldl (fun v f => v + s.live f 0 * 2 ^ f.row.lo) 0

/-- The state that a configuration read leaves: the access's credit goes back to the host (R27). -/
def State.configReadLeaves (s : State) : State := s.giveCredit .register

end Sys2Proof.Machine
end

