-- ==== Sys2Proof/Machine/Bar.lean ====
section
/-! DEFINITION. Stores into the two BARs (R32 to R34, R46, R475, R491 to R498): where each goes, and what stops it. -/
namespace Sys2Proof.Machine

/-- A write that a reset in progress discards (R10). -/
def State.resetWrite (s : State) : State := (s.bump .RAS_COUNT_RESET_WRITES).wr .RAS_ERR_RESET_WRITE 1

/-- A timeline lies at the 8-byte offset o. -/
def timelineAt (o : Nat) : Bool := decide (0x1000000 ≤ o) && decide (o < 0x1080000)

/-- A timeline, the store place of an event doorbell page (its offset 0x000, R359), or another register lies at the 8-byte
offset o. -/
def isRegister (o : Nat) : Bool :=
  timelineAt o || (decide (0x740000 ≤ o) && decide (o < 0x780000) && o % 4096 == 0) || !(fieldsAt o).isEmpty

/-- The reset of its flask holds the field at its reset value (R10). -/
def State.flaskHolds (s : State) (p : Field × Nat) : Bool := flaskFields.contains p.1 && s.flaskResetting p.2

/-- A write to a register with no behaviour of its own (R6): a field that a FLASK reset holds stays and the write counts as
one made during a reset (R10), and the register's other fields take it. A 4-byte write that touches a field spanning the halves
is reported, held or not (R493). -/
def State.plainWrite (s : State) (o size half val : Nat) : State :=
  let held := (fieldsAt o).filter s.flaskHolds
  let touched (p : Field × Nat) : Bool :=
    reaches (p.1.row.bitOf p.2) p.1.row.width size half || spans (p.1.row.bitOf p.2) p.1.row.width size
  let t := if held.any touched then s.resetWrite else s
  let t := if held.any (fun p => spans (p.1.row.bitOf p.2) p.1.row.width size) then t.wr .HLP_ERR_BAD_REG 1 else t
  t.writeFields size half val ((fieldsAt o).filter (fun p => !s.flaskHolds p))

/-- A write that reaches the upper half of its register, where a ring's RD_IDX lies. -/
def upper (size half : Nat) : Bool := size == 8 || half == 1

/-- A write of CZ_PEER_CTL: NODE_ID and EN keep their values while any node is ATTACHING, ATTACHED or DETACHING. -/
def State.peerCtl (s : State) (size half val : Nat) : State :=
  let t := s.regWrite 0x600000 size half val
  let busy (n : Nat) : Bool := s.ndState n == ndATTACHING || s.ndState n == ndATTACHED || s.ndState n == ndDETACHING
  if (s.listed .PEER_NODE_STATE).any busy then
    (t.wr .PEER_CTL_NODE_ID (s.rd .PEER_CTL_NODE_ID)).wr .PEER_CTL_EN (s.rd .PEER_CTL_EN)
  else t

/-- A frame of the tier pool is in use. -/
def State.poolUsed (s : State) : Bool := s.framesUsed sheet1G != 0 || s.framesUsed sheet32M != 0

/-- A management mould is loaded. -/
def State.mgmtLoaded (s : State) : Bool := s.moulds.table.any (fun m => m.flask.isNone)

/-- A migration run or bundle is in progress on some flask. -/
def State.stageBusy (s : State) : Bool :=
  s.flasks.any (fun f => s.rd .QN_PHASE f == qnEXPORTING || s.rd .QN_PHASE f == qnIMPORTING)

/-- Writes to the registers that stand alone and have behaviour of their own; o is the register's offset. -/
def State.singleWrite (s : State) (o size half val : Nat) : State :=
  match o with
  | 0x38 => s.tlOp size val
  | 0x10000 => s.hlpCtl size half val
  | 0x10010 => s.heartbeat size half val
  | 0x10018 => s.attachWrite size val
  | 0x208000 => s.mcCtl size half val
  | 0x208018 => s.mcHtab size half val
  | 0x400000 => s.xlCtl size half val
  | 0x410000 => s.tierCtl size half val
  | 0x410008 => if s.poolUsed then s.heldWrite o size else s.regWrite o size half val
  | 0x600000 => s.peerCtl size half val
  | 0x700020 => s.wr .EV_ERR_BAD_STORE 1   -- only the management cores' writes take effect
  | 0x80D000 => if s.stageBusy then s.heldWrite o size else s.regWrite o size half val
  | 0x900020 => if s.live .EN_STATUS_UNSIGNED 0 = 0 then s.regWrite o size half val else s.heldWrite o size
  | 0xA00000 => s.mbSubmit size val
  | 0xA00020 => if s.mgmtLoaded then s.heldWrite o size else s.regWrite o size half val
  | _ => s.plainWrite o size half val

/-- A well-formed BAR0 write reaches its register: o is the register's offset and half the half that a 4-byte write
reaches. -/
def State.place (s : State) (o size half val : Nat) : State :=
  if 0x1000000 ≤ o then (if o < 0x1080000 then s.tlStore ((o - 0x1000000) / 8) size val else s)
  else if 0x740000 ≤ o ∧ o < 0x780000 then s.eventStore ((o - 0x740000) / 4096) (o % 4096 + 4 * half) size val
  else if 0x11000 ≤ o ∧ o < 0x13000 then
    (if (o - 0x11000) % 0x20 = 0x18 then s else s.winWrite ((o - 0x11000) / 0x20) ((o - 0x11000) % 0x20 / 8) size half val)
  else if 0x601000 ≤ o ∧ o < 0x603000 then s.bindWrite ((o - 0x601000) / 0x20) ((o - 0x601000) % 0x20 / 8) size half val
  else if 0x710000 ≤ o ∧ o < 0x730000 then s.srcWrite ((o - 0x710000) / 8) size half val
  else if 0xA01000 ≤ o ∧ o < 0xA05000 then
    (let st := s.slotState ((o - 0xA01000) / 0x400)
     if st = mbQUEUED ∨ st = mbRUNNING then s.heldWrite o size else s.regWrite o size half val)
  else if 0x400500 ≤ o ∧ o < 0x400700 then
    (let t := s.plainWrite o size half val
     if upper size half then t.fringRdIdx ((o - 0x400500) / 8) else t)
  else if 0x510300 ≤ o ∧ o < 0x510500 then
    (let t := s.plainWrite o size half val
     if upper size half then t.elogRdIdx ((o - 0x510300) / 8) else t)
  else s.singleWrite o size half val

/-- A BAR0 write of `size` bytes with value val at offset off: nothing decodes it while Memory Space Enable is 0 (R32); a
reset discards it, a mailbox submit during start-up apart (R10, R471, R475), and in a BLOCK reset the timelines answer by their
own table (R497, R498); so does the host's loss, but for CZ_HLP_ATTACH and CZ_HLP_ERR (R46); and so does a wrong size or
alignment (R33). The spec gives no order between R33 and R46: a write of wrong size or alignment while the host is lost or
leaves counts in HEADLESS_DROPS alone (DESIGN CHOICE, log entry 13). In an event doorbell page and at CZ_EV_MCOMPL it also sets
CZ_EV_ERR.BAD_STORE, as any other store there does (R359, R375). -/
def State.barWrite (s : State) (off size val : Nat) : State :=
  let o := off / 8 * 8
  let half := if off % 8 = 0 then 0 else 1
  let v := val % 2 ^ (8 * size)
  let good : Bool := (size == 4 || size == 8) && off % max size 1 == 0
  if !s.on .CFG_MSE then s
  else if s.inReset then
    if o = 0xA00000 then s.mbSubmit size val
    else if s.blockReset && good && (o = 0x38 || timelineAt o) then s.place o size half v
    else if isRegister o then s.resetWrite else s
  else if s.hostAway && o != 0x10018 && o != 0x10048 then (if isRegister o then s.dropHost else s)
  else if !good then
    let t := s.wr .HLP_ERR_BAD_REG 1
    if (decide (0x740000 ≤ off) && decide (off < 0x780000)) || o == 0x700020 then t.wr .EV_ERR_BAD_STORE 1 else t
  else s.place o size half v

/-- DOORBELL_WRITE (R34, R59): a BAR1 store. A reset discards it (R475), and so does the host's loss (R46); in DROWSE it
also wakes the block (R479). -/
def State.bar1Write (s : State) (off size val : Nat) : State :=
  if !s.on .CFG_MSE then s
  else if size ≠ 8 ∨ off % 4096 ≠ 0 ∨ 2 ^ 24 ≤ off then s.wr .HLP_ERR_BAD_DB 1
  else if s.inReset then s.resetWrite
  else if s.hostAway then s.dropHost
  else (s.doorbell (off / 4096) val).wake 3

/-- DOORBELL_WRITE: the store, whose credit goes back to the host once it is in the doorbell table or refused (R27). -/
def State.doorbellStore (s : State) (off size val : Nat) : State := (s.bar1Write off size val).giveCredit .doorbell

/-- A write of CZ_EV_MCOMPL by a management core (R370, R375). -/
def State.mcompl (s : State) (size val : Nat) : State :=
  if s.inReset then s else if size = 8 then s.complete val else s.wr .EV_ERR_BAD_STORE 1

end Sys2Proof.Machine
end

