-- ==== Sys2Proof/Machine/Settle.lean ====
section
/-! DEFINITION. What comes about within a command once its own effect has been made: resets that it has called for, pours
that can end, and every unit that can move on; and the state in which a command leaves the block. -/
namespace Sys2Proof.Machine

/-- Resets called for by faults start (R157, R483, R484). -/
def State.takeCalls (s : State) : State :=
  s.calls.foldl (fun t c => match c with
    | .flask f => t.startTear f false []
    | .block => t.startBlock true) { s with calls := [] }

/-- What a read or atomic has returned is dropped when nothing takes it any more. -/
def State.dropOrphans (s : State) : State :=
  let gone (r : Req) : Bool := r.fin.isSome && (match r.purpose with
    | .patch _ => !(s.ctx? r.ctx).any (fun x => x.patch == some r.id)
    | .copy j => !s.copies.any (fun c => c.id == j)
    | .cast j _ => !s.cast.jobs.any (fun x => x.id == j)
    | .route o => !s.route.ops.any (fun x => x.id == o)
    | _ => false)
  { s with reqs := s.reqs.filter (fun r => !gone r) }

/-- Completion records in device memory whose writes are committed are acknowledged. -/
def State.ackRecords (s : State) : State :=
  s.qm.records.foldl (fun t r =>
    if t.reqs.any (fun q => q.id == r.id) || t.storeWaits r.id || t.hlp.holdWait.any (fun h => h.1 == r.id) then t
    else t.recordAcked r.id) s

/-- Every unit moves on once. -/
def State.pass (s : State) : State :=
  let t := s.takeCalls.dropOrphans.drainErr.drainHold.ackRecords.settlePours
  let t := t.pumpGates.pumpPins.pumpPatch.pumpCopies.pumpSpawns.pumpEgress.pumpNodes
  let t := t.pumpCast.pumpRoute.pumpTier.pumpInvs.pumpSeals.acceptSlots.pumpMgmt
  t.pumpQuench.pumpPower.pumpBlock.pumpMeter.pumpReceipts.dropFences.markWaiting

/-- What one pass sets off, the next one takes up. -/
def State.settle (s : State) : State := s.pass.pass.pass

/-! ## The end of a command -/

/-- The value that an unlisted key of the register store reads as. -/
def regDefault (k : Nat) : Nat := ((Field.all[k % 1024]?).map (fun f => f.resetAt (k / 1024))).getD 0

/-- A sparse store in canonical form: the same value at every key, keys rising, nothing listed that an unlisted key reads
as. -/
def scanon {α : Type} [DecidableEq α] (d : Nat → α) (l : List (Nat × α)) : List (Nat × α) :=
  l.foldr (fun p acc => sset (d p.1) acc p.1 p.2) []

/-- The state in which a command that came in state s leaves the block, when its effect is t: the two sparse stores are in
canonical form, the queue of waiting commands is as it was, and the timebase does not run back (R16). -/
def State.close (s t : State) : State :=
  { t with regs := scanon regDefault t.regs, hbm := scanon (fun _ => unwritten) t.hbm, pending := s.pending,
           time := max s.time t.time }

/-- The outcome of a command that came in state s and whose own effect is t. -/
def State.done (s t : State) : Host.Outcome State Fault Refusal := .next (s.close t)

/-- The outcome of a command whose own effect t lets units move on. -/
def State.after (s t : State) : Host.Outcome State Fault Refusal := s.done t.settle

/-! ## Shapes that several rows share -/

/-- A BAR0 write as a row makes it. The read index of a ring lets what waits for room go on; a timeline's new value may end
a flask's wait. The write's credit goes back to the host (R27). -/
def State.hostWrite (s : State) (off size val : Nat) : State :=
  let t := (s.barWrite off size val).giveCredit .register
  let o := off / 8 * 8
  if o = 0x10028 ∨ o = 0x900028 ∨ (0x510300 ≤ o ∧ o < 0x510500) then t.settle
  else if o = 0x38 ∨ 0x1000000 ≤ o then t.markWaiting
  else t

/-- One of several rows of a mailbox command, told apart by FLAGS [48 + width - 1:48]: a command with another value there is
left to its own row. -/
def State.mbPart (s : State) (n op width v : Nat) (body : State → State)
    (ranges : State → List (Nat × Nat) := fun _ => []) : State :=
  if s.opcode n == op && (s.mbCheck n).isNone && bits (s.par n 0) 48 width != v then s else s.mbHome n op ranges body

end Sys2Proof.Machine
end

