-- ==== Sys2Proof/Machine/ExecCast.lean ====
section
/-! DEFINITION. The meanings of the commands of the casters (10), one for each row. -/
namespace Sys2Proof.Machine

/-- CAST_DESCRIPTOR_RETURN (R284): A cast job's descriptor is read and checked, and the job is cut into items or
refused with BAD_DESC. -/
def execCastDescriptorReturn (id : Nat) (ret : Ret) (s : State) : Host.Outcome State Fault Refusal :=
  s.after (s.descReturn id ret)

/-- CASTER_ITEM_TAKE (R287): A free caster takes the next item of the oldest held job below its MAX_CASTERS. -/
def execCasterItemTake (c : Nat) (s : State) : Host.Outcome State Fault Refusal :=
  s.after (s.itemTake c)

/-- CASTER_ITEM_COMPLETE (R295): A caster finishes an item: its residue check is made and its tiles or host region are
written. -/
def execCasterItemComplete (c job item : Nat) (check : ItemCheck) (s : State) : Host.Outcome State Fault Refusal :=
  s.after (s.itemComplete c job item check)

/-- CAST_CHUNK_TAG_CHECK (R301): A sealed ingress chunk's GCM tag is checked; on failure its tiles are rewritten as
slag. -/
def execCastChunkTagCheck (job : Nat) (s : State) : Host.Outcome State Fault Refusal :=
  s.after (s.chunkCheck job)

end Sys2Proof.Machine
end

