-- ==== Sys2Proof/Machine/ExecEnergy.lean ====
section
/-! DEFINITION. The meanings of the commands of energy and receipts (15), one for each row. -/
namespace Sys2Proof.Machine

/-- LINGER_EXPIRY (R409): No pour of a key has been in flight for LINGER µs, and its accumulator closes. -/
def execLingerExpiry (acc : Nat) (s : State) : Host.Outcome State Fault Refusal :=
  s.after (s.lingerExpiry acc)

/-- ACTIVITY_REPORT (R412): An engine's 10 µs activity report adds class counts to the contexts it names. -/
def execActivityReport (e interval : Nat) (entries : List (Nat × List Nat))
    (s : State) : Host.Outcome State Fault Refusal :=
  s.after (s.activity e interval entries)

/-- ACTIVITY_REPORT_MISSING (R412): A report that has not arrived 5 µs after its interval counts as zero, and the
accumulators are flagged ESTIMATED. -/
def execActivityReportMissing (e interval : Nat) (s : State) : Host.Outcome State Fault Refusal :=
  s.after (s.activityMissing e interval)

/-- RAIL_REPORT (R416): The package power controller reports the rails' energy for a calibration window. -/
def execRailReport (nJ : Nat) (s : State) : Host.Outcome State Fault Refusal :=
  s.after (s.railReport nJ)

/-- CALIBRATION_WINDOW_END (R416): A 1 ms window is calibrated: k and the static pool are computed and the
accumulators are charged. -/
def execCalibrationWindowEnd (s : State) : Host.Outcome State Fault Refusal :=
  s.after (s.windowEnd)

/-- RECEIPT_BATCH_EXPIRY (R419): BATCH µs after a block's first receipt, the block is sent to Kyrdo to sign. -/
def execReceiptBatchExpiry (b : Nat) (s : State) : Host.Outcome State Fault Refusal :=
  s.after (s.batchExpiry b)

/-- RECEIPT_SIGNED (R420): Kyrdo returns a signed receipt block, which is written to the receipt ring or waits for
room. -/
def execReceiptSigned (b : Nat) (sig : List Byte) (s : State) : Host.Outcome State Fault Refusal :=
  s.after (s.blockSigned b sig)

/-- RECEIPT_FLUSH (R458): The mailbox command closes idle accumulators and sends the partly filled block at once. -/
def execReceiptFlush (n : Nat) (s : State) : Host.Outcome State Fault Refusal :=
  s.after (s.mbRun n 0x17 (fun t => t.receiptFlush n))

/-- RECEIPT_RING_RD_IDX_WRITE (R420): The mediator advances RD_IDX of the receipt ring, which lets buffered signed
blocks and waiting accumulators proceed. -/
def execReceiptRingRdIdxWrite (half size val : Nat) (s : State) : Host.Outcome State Fault Refusal :=
  s.done (s.hostWrite (0x900028 + 4 * (half % 2)) size val)

end Sys2Proof.Machine
end

