-- ==== Sys2Proof/Machine/ExecEvent.lean ====
section
/-! DEFINITION. The meanings of the commands of the event controller, the timelines and the egress logs (13, 05, 10), one for each row. -/
namespace Sys2Proof.Machine

/-- EVENT_DOORBELL_STORE (R359): A store to an event doorbell page raises an owned software source, or is discarded.
-/
def execEventDoorbellStore (f off size val : Nat) (s : State) : Host.Outcome State Fault Refusal :=
  s.done (if f < 64 ∧ off < 4096 then s.hostWrite (0x740000 + 4096 * f + off) size val else s)

/-- ENGINE_EVENT_RAISE (R358): An engine raises a software source, subject to the ownership checks. -/
def execEngineEventRaise (e src c : Nat) (s : State) : Host.Outcome State Fault Refusal :=
  s.done (s.engineRaise e src c)

/-- LEVEL_LINE_CHANGE (R357): A management and RAS level line rises or falls with its unit's error register. -/
def execLevelLineChange (unit : Nat) (s : State) : Host.Outcome State Fault Refusal :=
  s.done (if s.ready ∧ unit ∈ errUnits then s.followLine unit else s)

/-- EVENT_DELIVERY (R366): Each core clock, the controller selects the highest-priority pending source and delivers it
to the least busy eligible target. -/
def execEventDelivery (s : State) : Host.Outcome State Fault Refusal :=
  s.done (s.eventDelivery)

/-- EVENT_MESSAGE_SEND (R368): A held host-thread delivery leaves as an event message once credit is available and Bus
Master Enable is 1. -/
def execEventMessageSend (s : State) : Host.Outcome State Fault Refusal :=
  s.done (s.eventSend)

/-- EVENT_MCOMPL_WRITE (R370): A management core writes an event completion to CZ_EV_MCOMPL. -/
def execEventMcomplWrite (size val : Nat) (s : State) : Host.Outcome State Fault Refusal :=
  s.done (s.mcompl size val)

/-- EVENT_PENDING_DISCARD (R363): A write of 1 to PENDING discards a pending edge event. -/
def execEventPendingDiscard (src half size val : Nat) (s : State) : Host.Outcome State Fault Refusal :=
  s.done (if src < 0x4000 then s.hostWrite (0x710000 + 8 * src + 4 * (half % 2)) size val else s)

/-- EVENT_CTL_WRITE (R371): A write of DELIVER_EN stops or resumes deliveries. -/
def execEventCtlWrite (half size val : Nat) (s : State) : Host.Outcome State Fault Refusal :=
  s.done (s.hostWrite (0x700000 + 4 * (half % 2)) size val)

/-- TIMELINE_STORE (R497): An 8-byte store to a timeline applies a SET after the owner checks. -/
def execTimelineStore (tl half size val : Nat) (s : State) : Host.Outcome State Fault Refusal :=
  s.done (if tl < 65536 then s.hostWrite (0x1000000 + 8 * tl + 4 * (half % 2)) size val else s)

/-- TL_OP_SET (R498): A CZ_TL_OP write with MODE SET sets the timeline to CZ_TL_VALUE. -/
def execTlOpSet (size timeline : Nat) (s : State) : Host.Outcome State Fault Refusal :=
  s.done (s.hostWrite 0x38 size (timeline % 2 ^ 16))

/-- TL_OP_ADD (R498): A CZ_TL_OP write with MODE ADD adds CZ_TL_VALUE to the timeline. -/
def execTlOpAdd (size timeline : Nat) (s : State) : Host.Outcome State Fault Refusal :=
  s.done (s.hostWrite 0x38 size (timeline % 2 ^ 16 + 2 ^ 16))

/-- TL_OP_MAX (R498): A CZ_TL_OP write with MODE MAX applies the maximum with CZ_TL_VALUE. -/
def execTlOpMax (size timeline : Nat) (s : State) : Host.Outcome State Fault Refusal :=
  s.done (s.hostWrite 0x38 size (timeline % 2 ^ 16 + 2 ^ 17))

/-- ELOG_RD_IDX_WRITE (R303): The mediator advances RD_IDX of a flask's egress log, which frees room for waiting
sealed egress blocks and re-arms the ELOG_FULL raise. -/
def execElogRdIdxWrite (f half size val : Nat) (s : State) : Host.Outcome State Fault Refusal :=
  s.done (if f < 64 then s.hostWrite (0x510300 + 8 * f + 4 * (half % 2)) size val else s)

end Sys2Proof.Machine
end

