-- ==== Sys2Proof/Machine/ExecFlask.lean ====
section
/-! DEFINITION. The meanings of the commands of flasks and sealing (14), one for each row. -/
namespace Sys2Proof.Machine

/-- FLASK_CREATE (R377): The mailbox command allocates a flask's resources and starts scrubbing its dirty granules. -/
def execFlaskCreate (n : Nat) (s : State) : Host.Outcome State Fault Refusal :=
  s.after (s.mbRun n 0x10 (fun t => t.flaskCreate n))

/-- SCRUB_COMPLETE (R405): A scrub's writes are committed; its granules go clean, and a create or reset ends. -/
def execScrubComplete (f : Nat) (s : State) : Host.Outcome State Fault Refusal :=
  s.after (s.scrubComplete f)

/-- FLASK_SEAL (R380): The mailbox command checks the flask and asks Kyrdo for a key pair. -/
def execFlaskSeal (n : Nat) (s : State) : Host.Outcome State Fault Refusal :=
  s.after (s.mbRun n 0x11 (fun t => t.flaskSeal n))

/-- KYRDO_SEAL_ANSWER (R381): Kyrdo returns the flask key pair; granules are sealed, the mould chain is set and
invalidations are made. -/
def execKyrdoSealAnswer (n : Nat) (pub : List Byte) (s : State) : Host.Outcome State Fault Refusal :=
  s.after (s.sealAnswer n pub)

/-- KYRDO_TIMEOUT (R380): Kyrdo has not answered within 100 ms; the command replies TIMEOUT or the block is resent. -/
def execKyrdoTimeout (block : Bool) (id : Nat) (s : State) : Host.Outcome State Fault Refusal :=
  s.after (if block then s.blockTimeout id else s.kyrdoTimeout id)

/-- CONFIRM (R386): The sealed command derives K_cmd, checks PUBSET and makes the flask SEALED. -/
def execConfirm (n : Nat) (s : State) : Host.Outcome State Fault Refusal :=
  s.after (s.sealedRow n opCONFIRM (fun t => t.confirmBody n))

/-- PUBLIC_SET (R389): The sealed command changes the SEAL state of granules or the validity of public VA windows. -/
def execPublicSet (n : Nat) (s : State) : Host.Outcome State Fault Refusal :=
  s.after (s.sealedRow n opPUBLIC_SET (fun t => t.sealedBody n State.doPublicSet))

/-- KEY_IMPORT (R390): The sealed command decrypts a key into the lowest free key slot with its use. -/
def execKeyImport (n : Nat) (s : State) : Host.Outcome State Fault Refusal :=
  s.after (s.sealedRow n opKEY_IMPORT (fun t => t.sealedBody n State.doKeyImport))

/-- KEY_DESTROY (R387): The sealed command zeroes a key slot, and R304 applies. -/
def execKeyDestroy (n : Nat) (s : State) : Host.Outcome State Fault Refusal :=
  s.after (s.sealedRow n opKEY_DESTROY (fun t => t.sealedBody n State.doKeyDestroy))

/-- CONSENT (R398): The sealed command sets the DEBUG and PROFILE consent bits. -/
def execConsent (n : Nat) (s : State) : Host.Outcome State Fault Refusal :=
  s.after (s.sealedRow n opCONSENT (fun t => t.sealedBody n State.doConsent))

/-- MOULD_ALLOW (R393): The sealed command appends digests to the allow list and may lock the flask. -/
def execMouldAllow (n : Nat) (s : State) : Host.Outcome State Fault Refusal :=
  s.after (s.sealedRow n opMOULD_ALLOW (fun t => t.sealedBody n State.doMouldAllow))

/-- LEGEND_REQ (R396): The mailbox command takes a snapshot of the flask and asks Kyrdo to sign a legend. -/
def execLegendReq (n : Nat) (s : State) : Host.Outcome State Fault Refusal :=
  s.after (s.mbRun n 0x15 (fun t => t.legendReq n))

/-- LEGEND_SIGNED (R397): Kyrdo returns the signed legend, which is written to the buffer and the command replies. -/
def execLegendSigned (n : Nat) (sig : List Byte) (s : State) : Host.Outcome State Fault Refusal :=
  s.after (s.legendSigned n sig)

/-- FLASK_RESET (R402): The mailbox command zeroes the flask's keys, advances GEN and stops its work. -/
def execFlaskReset (n : Nat) (s : State) : Host.Outcome State Fault Refusal :=
  s.after (s.mbRun n 0x12 (fun t => t.flaskTear n false))

/-- FLASK_DESTROY (R402): The mailbox command tears the flask down as a reset that ends with the flask FREE. -/
def execFlaskDestroy (n : Nat) (s : State) : Host.Outcome State Fault Refusal :=
  s.after (s.mbRun n 0x13 (fun t => t.flaskTear n true))

/-- FLASK_RESET_QUIESCED (R402): A reset's kernels have stopped and its writes are answered; queues, moulds and
atlases are reset and the scrub starts. -/
def execFlaskResetQuiesced (f : Nat) (s : State) : Host.Outcome State Fault Refusal :=
  s.after (s.tearQuiesced f)

end Sys2Proof.Machine
end

