-- ==== Sys2Proof/Machine/ExecHap.lean ====
section
/-! DEFINITION. The meanings of the commands of the host access path and the HBM controllers (09, 11), one for each row. -/
namespace Sys2Proof.Machine

/-- HAP_READ_REQUEST (R256): A read request to host, peer or HBM memory takes a tag in the host access path. -/
def execHapReadRequest (who : Requester) (c va tier node addr n : Nat) (s : State) : Host.Outcome State Fault Refusal :=
  s.after (s.hapRead who c va tier node addr n)

/-- HAP_WRITE_REQUEST (R264): A write is accepted into write entries and counted against its pour. -/
def execHapWriteRequest (who : Requester) (c va tier node addr : Nat) (data : List (Option Byte)) (sealed pub : Bool)
    (s : State) : Host.Outcome State Fault Refusal :=
  s.after (s.hapWrite who c va tier node addr data sealed pub)

/-- HAP_ATOMIC_REQUEST (R257): An atomic request takes a tag and is performed at its home. -/
def execHapAtomicRequest (who : Requester) (c va tier node addr code size operand compare : Nat)
    (s : State) : Host.Outcome State Fault Refusal :=
  s.after (s.hapAtomic who c va tier node addr code size operand compare)

/-- HAP_ISSUE (R259): A held request is issued once credit, acknowledgement room and line order allow. -/
def execHapIssue (id : Nat) (s : State) : Host.Outcome State Fault Refusal :=
  s.after (s.hapIssue id)

/-- HAP_READ_RESPONSE (R269): A read or atomic response returns to its requester, slag-marked on poison or error. -/
def execHapReadResponse (id : Nat) (ret : Ret) (s : State) : Host.Outcome State Fault Refusal :=
  s.after (s.hapResponse id ret)

/-- HBM_WRITE_ACCEPT (R308): An HBM controller accepts a store into its write buffer. -/
def execHbmWriteAccept (ctl : Nat) (src : StoreSrc) (s : State) : Host.Outcome State Fault Refusal :=
  match src with
  | .engine c cells =>
    if cells.any (fun p => decide (hbmSize ≤ p.1)) then .fault .outsideHbm else s.after (s.hbmAcceptEngine ctl c cells)
  | .entry id => s.after (s.hbmAcceptEntry ctl id)

/-- COMMIT_MARKER_ANSWER (R308): An HBM controller answers a commit marker after committing its earlier stores. -/
def execCommitMarkerAnswer (ctl : Nat) (src : MarkSrc) (s : State) : Host.Outcome State Fault Refusal :=
  match src with
  | .pour c => s.after (s.markerPour c ctl)
  | .engine e => s.after (s.markerEngine e ctl)

/-- ENGINE_FENCE_REQUEST (R312): An engine's DIE or SYSTEM fence request is answered once its stores are acknowledged
and, for SYSTEM, committed. -/
def execEngineFenceRequest (e : Nat) (system : Bool) (s : State) : Host.Outcome State Fault Refusal :=
  s.after (s.engineFence e system)

/-- HBM_COMMIT (R308): An HBM controller commits an accepted store, after which an inbound peer write is ACKed and a
scrub's writes count as complete. -/
def execHbmCommit (id : Nat) (s : State) : Host.Outcome State Fault Refusal :=
  s.after (s.hbmCommit id)

end Sys2Proof.Machine
end

