-- ==== Sys2Proof/Machine/ExecLane.lean ====
section
/-! DEFINITION. The meanings of the commands of lanes, engines, deadlines and waypoints (05), one for each row. -/
namespace Sys2Proof.Machine

/-- LANE_FETCH (R138): An engine fetches the lane record at the head of its lane, which frees lane room. -/
def execLaneFetch (e : Nat) (s : State) : Host.Outcome State Fault Refusal :=
  s.after (s.laneFetch e)

/-- KERNEL_END_REPORT (R141): An engine reports a kernel's end with its status and LOST flag. -/
def execKernelEndReport (e c r pour : Nat) (status : EndStatus) (_lost : Bool)
    (s : State) : Host.Outcome State Fault Refusal :=
  s.after (s.kernelEnd e c r pour status)

/-- WAYPOINT_ADVANCE (R161): An engine reports a waypoint advance, which clears STALLED. -/
def execWaypointAdvance (e : Nat) (report : WpReport) (s : State) : Host.Outcome State Fault Refusal :=
  s.done (s.wpAdvance e report.pour report.value)

/-- WAYPOINT_STALL (R161): A whole waypoint window passes without an advance; STALLED is set and the stall source is
raised. -/
def execWaypointStall (e : Nat) (s : State) : Host.Outcome State Fault Refusal :=
  s.after (s.wpStall e)

/-- SPAWN_REQUEST (R149): A running kernel's spawn-port request is checked and answered with ACCEPTED or a refusal
code. -/
def execSpawnRequest (e : Nat) (req : List Byte) (s : State) : Host.Outcome State Fault Refusal :=
  s.after (s.spawnRequest e req)

/-- BORROW_OVERRUN (R153): A borrowed kernel still runs BUDGET µs after its start while a real-time record waits; it
is stopped and its pour ends DEADLINE. -/
def execBorrowOverrun (e : Nat) (s : State) : Host.Outcome State Fault Refusal :=
  s.after (s.borrowOverrun e)

/-- DEADLINE_MISS (R159): A real-time kernel's deadline passes; the walk stops and stop requests go to the pour's
engines. -/
def execDeadlineMiss (c r : Nat) (s : State) : Host.Outcome State Fault Refusal :=
  s.after (s.deadlineMiss c r)

/-- GRACE_EXPIRY (R160): GRACE µs pass; engines that have not stopped are killed, and the pour completes with
DEADLINE. -/
def execGraceExpiry (c : Nat) (s : State) : Host.Outcome State Fault Refusal :=
  s.after (s.graceExpiry c)

/-- DEADLOCK_CHECK (R164): A flask that has been wholly waiting for a window is checked for a wait-for cycle, which is
reported. -/
def execDeadlockCheck (f : Nat) (s : State) : Host.Outcome State Fault Refusal :=
  s.after (s.deadlockCheck f)

/-- STOP_TIMEOUT_KILL (R402): An engine that has not stopped 20 µs after a reset starts is killed. -/
def execStopTimeoutKill (e : Nat) (s : State) : Host.Outcome State Fault Refusal :=
  s.after (s.stopTimeout e)

end Sys2Proof.Machine
end

