-- ==== Sys2Proof/Machine/ExecLink.lean ====
section
/-! DEFINITION. The meanings of the commands of the host link port (02), one for each row. -/
namespace Sys2Proof.Machine

/-- REGISTER_WRITE (R6): A BAR0 write to a register field that has no behaviour row of its own sets the field under
its access code. -/
def execRegisterWrite (off size val : Nat) (s : State) : Host.Outcome State Fault Refusal :=
  s.done (s.hostWrite off size val)

/-- CONFIG_WRITE (R31): A configuration write sets the RW fields of the type 0 header, including Memory Space Enable
and Bus Master Enable. -/
def execConfigWrite (off size val : Nat) (s : State) : Host.Outcome State Fault Refusal :=
  s.done ((s.configWrite off size val).giveCredit .register)

/-- UNSUPPORTED_REQUEST (R24): A ZCI message of an unsupported class gets an unsupported-request completion if it is
non-posted, or is discarded if it is posted. -/
def execUnsupportedRequest (posted : Bool) (tag : Nat) (s : State) : Host.Outcome State Fault Refusal :=
  s.done (s.unsupported posted tag)

/-- SNOOP (R25): A snoop received by the HLP is answered 'not held' within 4 HLP clocks. -/
def execSnoop (tag : Nat) (s : State) : Host.Outcome State Fault Refusal :=
  s.done (s.say (.notHeld tag))

/-- COHERENT_READ (R41): A host coherent read of a window line is checked under R38, performed at HBM, and its sharer
is recorded in the snoop filter. -/
def execCoherentRead (hpa tag : Nat) (s : State) : Host.Outcome State Fault Refusal :=
  s.after (s.hostAccess hpa false (.read hpa tag))

/-- READ_FOR_OWNERSHIP (R41): A host core takes a window line exclusive, subject to the checks of R38. -/
def execReadForOwnership (hpa tag : Nat) (s : State) : Host.Outcome State Fault Refusal :=
  s.after (s.hostAccess hpa true (.own hpa tag))

/-- HOST_INVALIDATE (R41): A host upgrade of a shared window line is checked and recorded. -/
def execHostInvalidate (hpa tag : Nat) (s : State) : Host.Outcome State Fault Refusal :=
  s.after (s.hostAccess hpa true (.upgrade hpa tag))

/-- WINDOW_WRITE_BACK (R38): A host write-back of a window line is checked and performed at HBM, or refused. -/
def execWindowWriteBack (hpa : Nat) (data : List Byte) (s : State) : Host.Outcome State Fault Refusal :=
  s.after (s.writeBack hpa data)

/-- DOORBELL_WRITE (R59): An 8-byte store to a BAR1 doorbell page is recorded by the queue manager, or discarded,
according to the table of R59. -/
def execDoorbellWrite (off size val : Nat) (s : State) : Host.Outcome State Fault Refusal :=
  s.done (s.doorbellStore off size val)

/-- TRANSLATION_INVALIDATION_BROADCAST (R42): A host broadcast is filtered by PASID and either forwarded to the
translation unit or completed at once. -/
def execTranslationInvalidationBroadcast (pasid : Nat) (form : InvForm) (tag : Nat)
    (s : State) : Host.Outcome State Fault Refusal :=
  s.after (s.broadcast pasid form tag)

/-- GLOBAL_OBSERVATION_ACK (R26): A home acknowledges a write of the HLP, and the pour's accepted-store count falls by
1. -/
def execGlobalObservationAck (id : Nat) (ok : Bool) (s : State) : Host.Outcome State Fault Refusal :=
  s.after (s.hostAck id ok)

/-- CREDIT_RETURN (R27): Credits of a ZCI channel are returned to the HLP. -/
def execCreditReturn (ch : Channel) (n : Nat) (s : State) : Host.Outcome State Fault Refusal :=
  s.done (s.creditReturn ch n)

/-- EVENT_COMPLETION (R370): A host thread's event completion is applied if it matches the source's TARGET and DELIV,
and dropped otherwise. -/
def execEventCompletion (val : Nat) (s : State) : Host.Outcome State Fault Refusal :=
  s.done ((if s.ready then s.complete val else s).giveCredit .event)

/-- WIN_CTL_WRITE (R37): A write to a window control register enables the window after the checks of R37, or closes
it. -/
def execWinCtlWrite (n half size val : Nat) (s : State) : Host.Outcome State Fault Refusal :=
  s.done (if n < 256 then s.hostWrite (0x11010 + 0x20 * n + 4 * (half % 2)) size val else s)

/-- WINDOW_CLOSE_COMPLETE (R39): The last recall of a closing window completes, and EN reads 0. -/
def execWindowCloseComplete (n : Nat) (s : State) : Host.Outcome State Fault Refusal :=
  s.done (s.closeComplete n)

/-- SEAL_RECALL_COMPLETE (R40): The recall of host copies of newly sealed granules completes, and the seal completes.
-/
def execSealRecallComplete (f : Nat) (s : State) : Host.Outcome State Fault Refusal :=
  s.after (s.sealRecallComplete f)

/-- HEARTBEAT (R45): A write to CZ_HLP_HB restarts the heartbeat count, unless HEADLESS or DETACHING is 1. -/
def execHeartbeat (half size val : Nat) (s : State) : Host.Outcome State Fault Refusal :=
  s.done (s.hostWrite (0x10010 + 4 * (half % 2)) size val)

/-- HLP_CTL_WRITE (R45): A write that changes HB_PERIOD or HB_MISS restarts the host-loss count under the new limit.
-/
def execHlpCtlWrite (half size val : Nat) (s : State) : Host.Outcome State Fault Refusal :=
  s.done (s.hostWrite (0x10000 + 4 * (half % 2)) size val)

/-- HB_LOST (R45): HB_PERIOD × HB_MISS × 100 µs pass without a heartbeat, and the HLP enters HEADLESS with CAUSE
HB_LOST. -/
def execHbLost (lost : Nat) (s : State) : Host.Outcome State Fault Refusal :=
  s.after (s.hbLost lost)

/-- LINK_DOWN (R45): ZCI stays down for 2 ms; the HLP enters HEADLESS with CAUSE LINK_DOWN, or only advances EPOCH if
it is already HEADLESS. -/
def execLinkDown (lost : Nat) (s : State) : Host.Outcome State Fault Refusal :=
  s.after (s.linkDown lost)

/-- LINK_TRAINED (R28): ZCI training ends; LINK_UP is set and the granted credits are recorded in CZ_HLP_CREDIT. -/
def execLinkTrained (np p evt : Nat) (s : State) : Host.Outcome State Fault Refusal :=
  s.done (s.linkTrained np p evt)

/-- ATTACH (R48): An ATTACH write with the current EPOCH and Bus Master Enable 1 leaves HEADLESS; otherwise it sets
ATTACH_EPOCH. -/
def execAttach (size val : Nat) (s : State) : Host.Outcome State Fault Refusal :=
  s.after (s.hostWrite 0x10018 size val)

/-- DETACH (R49): A DETACH write starts an orderly detach and sets DETACHING. -/
def execDetach (size val : Nat) (s : State) : Host.Outcome State Fault Refusal :=
  s.after (s.hostWrite 0x10018 size val)

/-- DETACH_COMPLETE (R49): Outstanding requests are answered and host lines are recalled, and the HLP enters HEADLESS
with CAUSE DETACH. -/
def execDetachComplete (s : State) : Host.Outcome State Fault Refusal :=
  s.after (s.detachComplete)

/-- HOLD_RD_IDX_WRITE (R47): The mediator advances RD_IDX of the holding ring, which frees space for a STAMP that
waits. -/
def execHoldRdIdxWrite (half size val : Nat) (s : State) : Host.Outcome State Fault Refusal :=
  s.done (s.hostWrite (0x10028 + 4 * (half % 2)) size val)

/-- ZCI_LINK_LOST (R45): ZCI goes down; LINK_UP falls, the 2 ms count starts, and requests already on ZCI meet the
link-down outcomes of R46. -/
def execZciLinkLost (s : State) : Host.Outcome State Fault Refusal :=
  s.after (s.linkLost)

/-- HOST_RECALL_RESPONSE (R41): A host core answers an HLP recall or invalidation of a window line, with write-back if
modified, which lets a waiting engine store or load proceed or frees a snoop-filter way. -/
def execHostRecallResponse (line : Nat) (data : Option (List Byte)) (s : State) : Host.Outcome State Fault Refusal :=
  s.after (s.recallResponse line data)

end Sys2Proof.Machine
end

