-- ==== Sys2Proof/Machine/ExecMgmt.lean ====
section
/-! DEFINITION. The meanings of the commands of the management mailbox (17), one for each row. -/
namespace Sys2Proof.Machine

/-- INFO (R456): The mailbox command returns firmware versions, committed digests and staging state. -/
def execInfo (n : Nat) (s : State) : Host.Outcome State Fault Refusal :=
  s.after (s.mbRun n 0x01 (fun t => t.info n))

/-- CERT_GET (R457): The mailbox command writes Kyrdo's attestation or receipt certificate chain into a buffer. -/
def execCertGet (n : Nat) (s : State) : Host.Outcome State Fault Refusal :=
  s.after (s.mbRun n 0x16 (fun t => t.certGet n))

/-- MGMT_RUN (R459): The mailbox command admits one pour of a management-class mould on unowned groups. -/
def execMgmtRun (n : Nat) (s : State) : Host.Outcome State Fault Refusal :=
  s.after (s.mbRun n 0x32 (fun t => t.mgmtRun n))

/-- FW_STAGE (R463): The mailbox command copies a firmware image into the staged bank, and Kyrdo checks it. -/
def execFwStage (n : Nat) (s : State) : Host.Outcome State Fault Refusal :=
  s.after (s.mbHome n 0x70 (fun t => t.fwRange n) (fun t => t.fwStage n))

/-- FW_COMMIT (R464): The mailbox command makes the staged bank the committed bank and switches the cores or
sequencers to it. -/
def execFwCommit (n : Nat) (s : State) : Host.Outcome State Fault Refusal :=
  s.after (s.fwCommitRow n)

/-- FW_ABORT (R465): The mailbox command discards the staged image of a component. -/
def execFwAbort (n : Nat) (s : State) : Host.Outcome State Fault Refusal :=
  s.after (s.mbRun n 0x72 (fun t => t.fwAbort n))

/-- MGMT_WATCHDOG_EXPIRY (R462): A management core's 1 ms watchdog expires; the core restarts and its commands resume
from their journals. -/
def execMgmtWatchdogExpiry (core : Nat) (slots : List Nat) (s : State) : Host.Outcome State Fault Refusal :=
  s.after (s.watchdog core slots)

/-- KYRDO_ANSWER (R463): Kyrdo answers a pending request other than a seal or legend: an image check for FW_STAGE, a
certificate chain, the ECDH derivation of CONFIRM, a migration offer or accept, or a commit record. -/
def execKyrdoAnswer (n : Nat) (ans : KyAns) (s : State) : Host.Outcome State Fault Refusal :=
  s.after (s.kyrdoAnswer n ans)

/-- MB_SUBMIT (R446): A write to CZ_MB_SUBMIT makes a FREE or DONE slot QUEUED and zeroes its reply, or is discarded
with BAD_SUBMIT. -/
def execMbSubmit (size val : Nat) (s : State) : Host.Outcome State Fault Refusal :=
  s.done (s.hostWrite 0xA00000 size val)

end Sys2Proof.Machine
end

