-- ==== Sys2Proof/Machine/ExecMould.lean ====
section
/-! DEFINITION. The meanings of the commands of mould images and the mould cache (04), one for each row. -/
namespace Sys2Proof.Machine

/-- MOULD_LOAD (R116): The mailbox command copies a mould body into the flask's mould store and checks and digests it.
-/
def execMouldLoad (n : Nat) (s : State) : Host.Outcome State Fault Refusal :=
  s.after (s.mbHome n 0x30 (fun t => t.loadRanges n) (fun t => t.mouldLoad n))

/-- MOULD_LOAD_COMPLETE (R118): The load's checks and any pinned fills end, and the handle table entry turns valid. -/
def execMouldLoadComplete (idx : Nat) (s : State) : Host.Outcome State Fault Refusal :=
  s.after (s.loadComplete idx)

/-- MOULD_UNLOAD (R120): The mailbox command frees a handle, advances its generation and invalidates the mould's
segments. -/
def execMouldUnload (n : Nat) (s : State) : Host.Outcome State Fault Refusal :=
  s.after (s.mbRun n 0x31 (fun t => t.mouldUnload n))

/-- SEGMENT_FILL_RETURN (R122): A 4 KiB mould segment returns from the mould store and is installed in a victim way,
or held in a fill buffer. -/
def execSegmentFillReturn (idx seg : Nat) (ret : Ret) (s : State) : Host.Outcome State Fault Refusal :=
  s.after (s.fillReturn idx seg ret)

/-- MC_CTL_WRITE (R125): Clearing EN invalidates unpinned segments; clearing PREFETCH_EN stops prefetches. -/
def execMcCtlWrite (half size val : Nat) (s : State) : Host.Outcome State Fault Refusal :=
  s.done (s.hostWrite (0x208000 + 4 * (half % 2)) size val)

/-- MC_HTAB_WRITE (R126): A write that sets EN zeroes the handle table; writes have no effect while moulds are loaded.
-/
def execMcHtabWrite (half size val : Nat) (s : State) : Host.Outcome State Fault Refusal :=
  s.done (s.hostWrite (0x208018 + 4 * (half % 2)) size val)

end Sys2Proof.Machine
end

