-- ==== Sys2Proof/Machine/ExecPeer.lean ====
section
/-! DEFINITION. The meanings of the commands of the peer fabric (12), one for each row. -/
namespace Sys2Proof.Machine

/-- PEER_DATA (R341): A DATA response completes an outbound peer read or atomic. -/
def execPeerData (p : List Byte) (slag : Bool) (s : State) : Host.Outcome State Fault Refusal :=
  s.after (s.peerData p slag)

/-- PEER_ACK (R341): An ACK response completes an outbound peer write, SIG or BYE. -/
def execPeerAck (p : List Byte) (s : State) : Host.Outcome State Fault Refusal :=
  s.after (s.peerAck p)

/-- PEER_BUSY (R343): A BUSY response schedules a resend of the request with exponential back-off. -/
def execPeerBusy (p : List Byte) (s : State) : Host.Outcome State Fault Refusal :=
  s.after (s.peerBusy p)

/-- PEER_BUSY_RESEND (R343): The back-off expires and the request is sent again with the same tag. -/
def execPeerBusyResend (tag : Nat) (s : State) : Host.Outcome State Fault Refusal :=
  s.after (s.peerResend tag)

/-- PEER_ERR (R343): An ERR response completes the request with the outcome of R269. -/
def execPeerErr (p : List Byte) (s : State) : Host.Outcome State Fault Refusal :=
  s.after (s.peerErr p)

/-- PEER_REQUEST_TIMEOUT (R344): A request unanswered 2 ms after its last send removes its node with CAUSE TIMEOUT. -/
def execPeerRequestTimeout (tag : Nat) (s : State) : Host.Outcome State Fault Refusal :=
  s.after (s.peerTimeout tag)

/-- PEER_PATH_LOST (R353): The link layer reports no path to a node, and the node is removed. -/
def execPeerPathLost (k : Nat) (s : State) : Host.Outcome State Fault Refusal :=
  s.after (s.pathLost k)

/-- INBOUND_RD (R338): An inbound peer read is checked against its binding and performed at HBM. -/
def execInboundRd (p : List Byte) (s : State) : Host.Outcome State Fault Refusal :=
  s.after (s.wakeFor p (s.inboundRd p))

/-- INBOUND_WR (R349): An inbound peer write, or a peer doorbell, is checked and performed, and ACKed after commit. -/
def execInboundWr (p : List Byte) (ctl : Nat) (s : State) : Host.Outcome State Fault Refusal :=
  s.after (s.wakeFor p (s.inboundWr p ctl))

/-- INBOUND_AT (R349): An inbound peer atomic is checked and performed at the HBM atomic unit. -/
def execInboundAt (p : List Byte) (s : State) : Host.Outcome State Fault Refusal :=
  s.after (s.wakeFor p (s.inboundAt p))

/-- INBOUND_SIG (R350): An inbound SIG applies its OP and VALUE to a timeline of the bound flask. -/
def execInboundSig (p : List Byte) (s : State) : Host.Outcome State Fault Refusal :=
  s.after (s.inboundSig p)

/-- INBOUND_HELLO (R351): An inbound HELLO is answered with HELLO_ACK if the node is attaching or attached with the
same generation. -/
def execInboundHello (p : List Byte) (s : State) : Host.Outcome State Fault Refusal :=
  s.after (s.inboundHello p)

/-- PEER_HELLO_ACK (R351): A HELLO_ACK is received, which completes the attach together with an answered HELLO. -/
def execPeerHelloAck (p : List Byte) (s : State) : Host.Outcome State Fault Refusal :=
  s.after (s.helloAck p)

/-- INBOUND_BYE (R352): An inbound BYE stops issuing to the sender and ACKs once this side's requests are answered. -/
def execInboundBye (p : List Byte) (s : State) : Host.Outcome State Fault Refusal :=
  s.after (s.inboundBye p)

/-- PEER_ATTACH (R351): The mailbox command starts attaching a node with generation G. -/
def execPeerAttach (n : Nat) (s : State) : Host.Outcome State Fault Refusal :=
  s.after (s.mbRun n 0x50 (fun t => t.peerAttach n))

/-- PEER_HELLO_RESEND (R351): Every 1 ms a HELLO is sent again until it is answered. -/
def execPeerHelloResend (k : Nat) (s : State) : Host.Outcome State Fault Refusal :=
  s.done (s.helloResend k)

/-- PEER_ATTACH_TIMEOUT (R351): No HELLO_ACK within 100 ms; the attach replies TIMEOUT and the node returns to FREE.
-/
def execPeerAttachTimeout (k : Nat) (s : State) : Host.Outcome State Fault Refusal :=
  s.after (s.attachTimeout k)

/-- PEER_DETACH_ORDERLY (R352): PEER_DETACH in mode ORDERLY sends BYE and drains the node's outstanding requests. -/
def execPeerDetachOrderly (n : Nat) (s : State) : Host.Outcome State Fault Refusal :=
  s.after (s.mbPart n 0x51 1 0 (fun t => t.detachOrderly n))

/-- PEER_DETACH_REMOVED (R353): PEER_DETACH in mode REMOVED removes the node at once. -/
def execPeerDetachRemoved (n : Nat) (s : State) : Host.Outcome State Fault Refusal :=
  s.after (s.mbPart n 0x51 1 1 (fun t => t.detachRemoved n))

/-- PEER_QUARANTINE_END (R355): 1 s after a detach, removal or READY, a QUARANTINED node becomes FREE. -/
def execPeerQuarantineEnd (k : Nat) (s : State) : Host.Outcome State Fault Refusal :=
  s.done (s.quarantineEnd k)

/-- PEER_BIND_WRITE (R337): A write that sets a binding's EN takes effect only after the checks of R337. -/
def execPeerBindWrite (b dw half size val : Nat) (s : State) : Host.Outcome State Fault Refusal :=
  s.done (if b < 256 ∧ dw < 3 then s.hostWrite (0x601000 + 0x20 * b + 8 * dw + 4 * (half % 2)) size val else s)

end Sys2Proof.Machine
end

