-- ==== Sys2Proof/Machine/ExecPour.lean ====
section
/-! DEFINITION. The meanings of the commands of records of a pour (05), one for each row. -/
namespace Sys2Proof.Machine

/-- KERNEL (R135): The sequencer writes a lane record to each target engine's lane in the single total order of R137.
-/
def execRecKernel (c : Nat) (s : State) : Host.Outcome State Fault Refusal :=
  s.after (s.recKernel c)

/-- GUARD (R95): The sequencer compares two operands and skips forward to TARGET when the condition fails. -/
def execRecGuard (c : Nat) (s : State) : Host.Outcome State Fault Refusal :=
  s.after (s.recGuard c)

/-- JUMP (R95): The sequencer continues at TARGET. -/
def execRecJump (c : Nat) (s : State) : Host.Outcome State Fault Refusal :=
  s.after (s.recJump c)

/-- LOOP (R96): The sequencer reads the trip count once, pushes the loop and writes the index. -/
def execRecLoop (c : Nat) (s : State) : Host.Outcome State Fault Refusal :=
  s.after (s.recLoop c)

/-- ENDLOOP (R96): The sequencer advances the iteration and returns to the loop body while iterations remain. -/
def execRecEndloop (c : Nat) (s : State) : Host.Outcome State Fault Refusal :=
  s.after (s.recEndloop c)

/-- CALL (R97): The sequencer pushes the return index and continues at TARGET. -/
def execRecCall (c : Nat) (s : State) : Host.Outcome State Fault Refusal :=
  s.after (s.recCall c)

/-- RETURN (R97): The sequencer continues at the index popped from the call stack. -/
def execRecReturn (c : Nat) (s : State) : Host.Outcome State Fault Refusal :=
  s.after (s.recReturn c)

/-- WAIT (R142): The record completes if the timeline already holds the value; otherwise the context parks in WAIT_TL.
-/
def execRecWait (c : Nat) (s : State) : Host.Outcome State Fault Refusal :=
  s.after (s.recWait c)

/-- SIGNAL_SET (R98): The sequencer sets a local or remote timeline to the value. -/
def execRecSignalSet (c : Nat) (s : State) : Host.Outcome State Fault Refusal :=
  s.after (s.recSignal c 0)

/-- SIGNAL_ADD (R98): The sequencer adds the value to a local or remote timeline, modulo 2^64. -/
def execRecSignalAdd (c : Nat) (s : State) : Host.Outcome State Fault Refusal :=
  s.after (s.recSignal c 1)

/-- SIGNAL_MAX (R98): The sequencer sets a local or remote timeline to the larger of its value and the given value. -/
def execRecSignalMax (c : Nat) (s : State) : Host.Outcome State Fault Refusal :=
  s.after (s.recSignal c 2)

/-- FENCE (R313): The pour waits until its earlier work has ended and its stores are visible at scope DIE or SYSTEM.
-/
def execRecFence (c : Nat) (s : State) : Host.Outcome State Fault Refusal :=
  s.after (s.recFence c)

/-- PUT (R267): The sequencer translates the destination once and hands the inline payload to the host access path as
line writes. -/
def execRecPut (c : Nat) (s : State) : Host.Outcome State Fault Refusal :=
  s.after (s.recPut c)

/-- ROUTE_TOPK (R175): The sequencer hands a top-k expert routing operation to the route unit and marks its gates
pending. -/
def execRecRouteTopk (c : Nat) (s : State) : Host.Outcome State Fault Refusal :=
  s.after (s.recRoute c (fun r => fld r 0 8 2 == 0))

/-- ROUTE_BLOCKS (R189): The sequencer hands a block-sparse index-list operation to the route unit. -/
def execRecRouteBlocks (c : Nat) (s : State) : Host.Outcome State Fault Refusal :=
  s.after (s.recRoute c (fun r => fld r 0 8 2 == 1))

/-- ROUTE_EXIT (R190): The sequencer hands an early-exit predicate operation to the route unit. -/
def execRecRouteExit (c : Nat) (s : State) : Host.Outcome State Fault Refusal :=
  s.after (s.recRoute c (fun r => fld r 0 8 2 == 2))

/-- SPAWN (R145): The sequencer checks and starts a child pour in a spawn context, or refuses it. -/
def execRecSpawn (c : Nat) (s : State) : Host.Outcome State Fault Refusal :=
  s.after (s.recSpawn c)

/-- EVENT (R103): The sequencer raises the queue's completion source or an owned software source. -/
def execRecEvent (c : Nat) (s : State) : Host.Outcome State Fault Refusal :=
  s.after (s.recEvent c)

/-- PATCH_SET (R104): The sequencer writes IMM to the destination gate. -/
def execRecPatchSet (c : Nat) (s : State) : Host.Outcome State Fault Refusal :=
  s.after (s.recPatch c 0)

/-- PATCH_ADD (R104): The sequencer writes SRC + IMM to the destination gate. -/
def execRecPatchAdd (c : Nat) (s : State) : Host.Outcome State Fault Refusal :=
  s.after (s.recPatch c 1)

/-- PATCH_MIN (R104): The sequencer writes min(SRC, IMM) to the destination gate. -/
def execRecPatchMin (c : Nat) (s : State) : Host.Outcome State Fault Refusal :=
  s.after (s.recPatch c 2)

/-- PATCH_MAX (R104): The sequencer writes max(SRC, IMM) to the destination gate. -/
def execRecPatchMax (c : Nat) (s : State) : Host.Outcome State Fault Refusal :=
  s.after (s.recPatch c 3)

/-- PATCH_LOAD (R104): The sequencer issues an 8-byte load at SRC + IMM for the destination gate. -/
def execRecPatchLoad (c : Nat) (s : State) : Host.Outcome State Fault Refusal :=
  s.after (s.recPatchLoad c)

/-- PATCH_TIMELINE (R104): The sequencer writes the current value of a timeline to the destination gate. -/
def execRecPatchTimeline (c : Nat) (s : State) : Host.Outcome State Fault Refusal :=
  s.after (s.recPatchTl c)

/-- STAMP (R105): The sequencer writes the completion record with status DONE, to the ring or to the holding ring. -/
def execRecStamp (c : Nat) (s : State) : Host.Outcome State Fault Refusal :=
  s.after (s.recStamp c)

/-- BARRIER (R106): The pour waits for its earlier kernels, PUTs, BULK_MOVEs and, optionally, its spawned pours. -/
def execRecBarrier (c : Nat) (s : State) : Host.Outcome State Fault Refusal :=
  s.after (s.recBarrier c)

/-- BULK_MOVE_COPY (R107): The sequencer starts a sheet-by-sheet copy of LEN × 4 KiB. -/
def execRecBulkMoveCopy (c : Nat) (s : State) : Host.Outcome State Fault Refusal :=
  s.after (s.recCopy c)

/-- BULK_MOVE_CAST (R283): The sequencer hands the cast job at the source address to the caster unit. -/
def execRecBulkMoveCast (c : Nat) (s : State) : Host.Outcome State Fault Refusal :=
  s.after (s.recCast c)

/-- BULK_MOVE_MIGRATE (R244): The sequencer starts the break-before-make migration of one sheet. -/
def execRecBulkMoveMigrate (c : Nat) (s : State) : Host.Outcome State Fault Refusal :=
  s.after (s.recMigrate c)

/-- END (R108): The walk ends; the pour ends once its outstanding work has ended. -/
def execRecEnd (c : Nat) (s : State) : Host.Outcome State Fault Refusal :=
  s.after (s.recEnd c)

end Sys2Proof.Machine
end

