-- ==== Sys2Proof/Machine/ExecPower.lean ====
section
/-! DEFINITION. The meanings of the commands of power states and snapshots (18), one for each row. -/
namespace Sys2Proof.Machine

/-- POWER_SET_ACTIVE (R478): POWER_SET ACTIVE exits DROWSE, or abandons a pending entry. -/
def execPowerSetActive (n : Nat) (s : State) : Host.Outcome State Fault Refusal :=
  s.after (s.powerRow n 0)

/-- POWER_SET_DROWSE (R478): POWER_SET DROWSE stops admission and waits for the drain before entering DROWSE. -/
def execPowerSetDrowse (n : Nat) (s : State) : Host.Outcome State Fault Refusal :=
  s.after (s.powerRow n 2)

/-- POWER_SET_OFF (R478): POWER_SET OFF stops admission, drains, closes accumulators and then enters OFF. -/
def execPowerSetOff (n : Nat) (s : State) : Host.Outcome State Fault Refusal :=
  s.after (s.powerRow n 3)

/-- POWER_DRAIN_COMPLETE (R478): The drain of a POWER_SET ends and the block enters DROWSE or OFF. -/
def execPowerDrainComplete (s : State) : Host.Outcome State Fault Refusal :=
  s.after (s.settle.powerDrained)

/-- DROWSE_WAKE (R479): A doorbell, window access or peer request in DROWSE starts a wake, as enabled. -/
def execDrowseWake (cause : Nat) (s : State) : Host.Outcome State Fault Refusal :=
  s.done (s.wake cause)

/-- IDLE_GATE (R477): A group without work for IDLE_US µs is gated. -/
def execIdleGate (g : Nat) (s : State) : Host.Outcome State Fault Refusal :=
  s.done (s.idleGate g)

/-- SNAPSHOT_TICK (R400): At every multiple of 100,000,000 ns of timebase, the coarsened counts and the energy
telemetry of R422 are latched. -/
def execSnapshotTick (s : State) : Host.Outcome State Fault Refusal :=
  s.done (s.snapshot)

/-- DROWSE_EXIT_COMPLETE (R476): The exit from DROWSE ends within 25 µs: the block is ACTIVE, held window accesses are
performed and POWER_SET ACTIVE replies. -/
def execDrowseExitComplete (s : State) : Host.Outcome State Fault Refusal :=
  s.after (s.exitComplete)

end Sys2Proof.Machine
end

