-- ==== Sys2Proof/Machine/ExecQuench.lean ====
section
/-! DEFINITION. The meanings of the commands of quench, thaw and migration between packages (16), one for each row. -/
namespace Sys2Proof.Machine

/-- FLASK_QUENCH (R427): The mailbox command stops admission, holds the flask's lanes and stops its walks for the
drain. -/
def execFlaskQuench (n : Nat) (s : State) : Host.Outcome State Fault Refusal :=
  s.after (s.mbRun n 0x60 (fun t => t.flaskQuench n))

/-- QUENCH_DRAIN_LIMIT (R429): The drain limit passes with items left; the quench is undone and replies PARTIAL TIME.
-/
def execQuenchDrainLimit (f : Nat) (s : State) : Host.Outcome State Fault Refusal :=
  s.after (s.drainLimit f)

/-- FLASK_THAW (R438): The mailbox command checks an image and restores its queues, pours, lanes and timelines in one
clock. -/
def execFlaskThaw (n : Nat) (s : State) : Host.Outcome State Fault Refusal :=
  s.after (s.mbHome n 0x61 (fun t => [t.thawRange n]) (fun t => t.flaskThaw n))

/-- MIG_OFFER (R441): Kyrdo A writes a signed migration offer for a quenched sealed flask. -/
def execMigOffer (n : Nat) (s : State) : Host.Outcome State Fault Refusal :=
  s.after (s.mbRun n 0x62 (fun t => t.migOffer n))

/-- MIG_ACCEPT (R441): Kyrdo B checks the offer, writes an accept, and the target flask enters IMPORTING. -/
def execMigAccept (n : Nat) (s : State) : Host.Outcome State Fault Refusal :=
  s.after (s.mbHome n 0x63 (fun t => [(t.par n 1, bits (t.par n 2) 0 15)]) (fun t => t.migAccept n))

/-- MIG_BIND (R441): Kyrdo A checks the accept, and both sides derive K_mig into a key slot. -/
def execMigBind (n : Nat) (s : State) : Host.Outcome State Fault Refusal :=
  s.after (s.mbHome n 0x64 (fun t => [(t.par n 1, bits (t.par n 2) 0 15)]) (fun t => t.migBind n))

/-- MIG_EXPORT_RUN (R442): The sealed granules of a run are encrypted under K_mig into the staging area. -/
def execMigExportRun (n : Nat) (s : State) : Host.Outcome State Fault Refusal :=
  s.after (s.mbPart n 0x65 1 0 (fun t => t.exportRun n))

/-- MIG_EXPORT_BUNDLE (R442): The flask's keys and private key are exported, the source slots are zeroed, and PHASE
becomes EXPORTED. -/
def execMigExportBundle (n : Nat) (s : State) : Host.Outcome State Fault Refusal :=
  s.after (s.mbPart n 0x65 1 1 (fun t => t.exportBundle n))

/-- MIG_IMPORT_RUN (R443): Staged granules are decrypted into the target and their tags are checked. -/
def execMigImportRun (n : Nat) (s : State) : Host.Outcome State Fault Refusal :=
  s.after (s.mbPart n 0x66 1 0 (fun t => t.importRun n) (fun t => [(t.par n 1, runBytes (bits (t.par n 2) 0 32))]))

/-- MIG_IMPORT_BUNDLE (R443): The bundle is checked against the imported granules, and the keys enter the target's
slots. -/
def execMigImportBundle (n : Nat) (s : State) : Host.Outcome State Fault Refusal :=
  s.after (s.mbPart n 0x66 1 1 (fun t => t.importBundle n) (fun t => [t.bundleRange n]))

end Sys2Proof.Machine
end

