-- ==== Sys2Proof/Machine/ExecQueue.lean ====
section
/-! DEFINITION. The meanings of the commands of queues, doorbells and their mailbox commands (03), one for each row. -/
namespace Sys2Proof.Machine

/-- ENTRY_FETCH (R60): The queue manager issues a 64 B read of the next unfetched pour slot while TAIL differs from
HEAD. -/
def execEntryFetch (q : Nat) (s : State) : Host.Outcome State Fault Refusal :=
  s.done (s.entryFetch q)

/-- ENTRY_RETURN (R55): A fetched pour entry returns and is checked for SEQ and reserved bits, or it starts the race
guard. -/
def execEntryReturn (id : Nat) (ret : Ret) (s : State) : Host.Outcome State Fault Refusal :=
  s.done (s.entryReturn id ret)

/-- RACE_GUARD_REREAD (R61): Race-guard re-read k is issued at the later of t0 + k × 128 ns and the return of the
previous re-read. -/
def execRaceGuardReread (q : Nat) (s : State) : Host.Outcome State Fault Refusal :=
  s.done (s.reread q)

/-- ADMISSION_TOKEN (R66): One admission token is added every 250 ns, up to TOKEN_DEPTH. -/
def execAdmissionToken (s : State) : Host.Outcome State Fault Refusal :=
  s.done (s.addToken)

/-- GRANT (R67): Every 8 core clocks the arbitration procedure grants the oldest checked entry of the selected queue
to a sequencer. -/
def execGrant (c : Nat) (s : State) : Host.Outcome State Fault Refusal :=
  s.after (s.grant c)

/-- BANK_READ_RETURN (R89): The gate bank read at admission returns; each gate is clamped and the pour's gate copy is
formed. -/
def execBankReadReturn (c : Nat) (ret : Ret) (s : State) : Host.Outcome State Fault Refusal :=
  s.after (s.bankReturn c ret)

/-- QUEUE_CREATE (R70): The mailbox command creates a queue in ACTIVE state after its checks. -/
def execQueueCreate (n : Nat) (s : State) : Host.Outcome State Fault Refusal :=
  s.after (s.mbRun n 0x20 (fun t => t.queueCreate n))

/-- QUEUE_RESUME (R71): The mailbox command returns a queue in ERROR to ACTIVE and restarts the race guard at HEAD. -/
def execQueueResume (n : Nat) (s : State) : Host.Outcome State Fault Refusal :=
  s.after (s.mbRun n 0x21 (fun t => t.queueResume n))

/-- POUR_CANCEL (R72): The mailbox command ends an in-flight pour as an abort with DETAIL 0x02. -/
def execPourCancel (n : Nat) (s : State) : Host.Outcome State Fault Refusal :=
  s.after (s.mbRun n 0x23 (fun t => t.pourCancel n))

/-- QUEUE_DESTROY (R73): The mailbox command sets the stop point, discards unadmitted entries and starts DRAIN or
ABORT. -/
def execQueueDestroy (n : Nat) (s : State) : Host.Outcome State Fault Refusal :=
  s.after (s.mbRun n 0x22 (fun t => t.queueDestroy n))

end Sys2Proof.Machine
end

