-- ==== Sys2Proof/Machine/ExecReset.lean ====
section
/-! DEFINITION. The meanings of the commands of resets and faults (18), one for each row. -/
namespace Sys2Proof.Machine

/-- BLOCK_RESET (R474): A BLOCK reset by command or fault zeroes the keys, stops the engines and drains writes for up
to 100 µs. -/
def execBlockReset (n : Nat) (s : State) : Host.Outcome State Fault Refusal :=
  s.after (s.mbRun n 0x74 (fun t => t.startBlock false))

/-- BLOCK_DRAIN_LIMIT (R474): 100 µs after a BLOCK reset starts, unissued writes are discarded and remembered for
poison and loss records. -/
def execBlockDrainLimit (s : State) : Host.Outcome State Fault Refusal :=
  s.after (s.blockDrain)

/-- COLD (R471): Power is applied and start-up runs from its first step. -/
def execCold (s : State) : Host.Outcome State Fault Refusal :=
  s.after (s.cold)

/-- PACKAGE_RESET (R467): The package reset input starts start-up while HBM keeps its contents. -/
def execPackageReset (s : State) : Host.Outcome State Fault Refusal :=
  s.after (if s.rd .RAS_STATUS_PHASE = 0 ∧ s.breset.isNone then s else s.package)

/-- STARTUP_READY (R471): SRAM initialisation, self-test, firmware load and the HBM ready report end, and PHASE
becomes READY. -/
def execStartupReady (fuses : Fuses) (pairs lanes casters : Nat) (route : Bool) (mgmt : Nat)
    (s : State) : Host.Outcome State Fault Refusal :=
  s.after (s.startupReady fuses pairs lanes casters route mgmt)

/-- PATROL_SCRUB (R481): The patrol reads and corrects each SRAM word at least once every 100 ms. -/
def execPatrolScrub (n : Nat) (s : State) : Host.Outcome State Fault Refusal :=
  s.done (s.patrol n)

/-- LOCKSTEP_MISCOMPARE (R482): A sequencer pair miscompares; the record is retried, or a second miscompare takes the
pair out of service. -/
def execLockstepMiscompare (c : Nat) (s : State) : Host.Outcome State Fault Refusal :=
  s.after (s.miscompare c)

/-- PARITY_ERROR (R480): A control-state parity error calls for a BLOCK reset. -/
def execParityError (unit : Nat) (s : State) : Host.Outcome State Fault Refusal :=
  s.after (s.parity unit)

/-- SRAM_UE (R483): An uncorrectable SRAM error is handled by a refill, a FLASK reset or a BLOCK reset. -/
def execSramUe (at_ : SramUe) (s : State) : Host.Outcome State Fault Refusal :=
  s.after (s.sramUe at_)

end Sys2Proof.Machine
end

