-- ==== Sys2Proof/Machine/ExecRoute.lean ====
section
/-! DEFINITION. The meanings of the commands of the route unit (06), one for each row. -/
namespace Sys2Proof.Machine

/-- SCORE_PUSH (R172): An engine pushes a 64 B score chunk, which the oldest matching operation takes or which is
discarded. -/
def execScorePush (e c r row part : Nat) (data : List Byte) (s : State) : Host.Outcome State Fault Refusal :=
  s.after (s.scorePush e c r row part data)

/-- SCORE_REPORT (R169): An engine's score report arrives; once all have arrived, the score condition is met and
memory reads of the scores start. -/
def execScoreReport (e c r : Nat) (s : State) : Host.Outcome State Fault Refusal :=
  s.after (s.scoreReport e c r)

/-- ROUTE_SCORE_READ_RETURN (R172): A read of score rows from memory returns to the route unit. -/
def execRouteScoreReadReturn (id : Nat) (ret : Ret) (s : State) : Host.Outcome State Fault Refusal :=
  s.after (s.routeReadReturn id ret)

/-- ROUTE_SELECT_TILE (R191): The selection pipeline takes one score tile of a ready operation and selects, weights
and assigns its rows. -/
def execRouteSelectTile (residue : Bool) (s : State) : Host.Outcome State Fault Refusal :=
  s.after (s.routeSelect residue)

/-- ROUTE_WRITE_BACK (R188): Once every output write is accepted, all the operation's gates are written in one clock
and the pending marks are cleared. -/
def execRouteWriteBack (op : Nat) (s : State) : Host.Outcome State Fault Refusal :=
  s.after (s.routeBack op)

end Sys2Proof.Machine
end

