-- ==== Sys2Proof/Machine/ExecTier.lean ====
section
/-! DEFINITION. The meanings of the commands of tiers and migration (08), one for each row. -/
namespace Sys2Proof.Machine

/-- HOT_DECAY (R239): Every 2^DECAY_LOG2 µs each armed COUNT is shifted right, and FLAGGED may clear. -/
def execHotDecay (s : State) : Host.Outcome State Fault Refusal :=
  s.after (s.hotDecay)

/-- TIER_CTL_WRITE (R241): Writing 0 to HOT_EN disarms every counter. -/
def execTierCtlWrite (half size val : Nat) (s : State) : Host.Outcome State Fault Refusal :=
  s.done (s.hostWrite (0x410000 + 4 * (half % 2)) size val)

/-- MIGRATE_SWAP_RETURN (R244): The compare-and-swap of a leaf returns; the migration proceeds, or ends CHANGED or
RACED. -/
def execMigrateSwapReturn (job : Nat) (s : State) : Host.Outcome State Fault Refusal :=
  s.after (s.swapReturn job)

/-- MIGRATE_COPY_DONE (R244): Every destination write of the sheet copy has been acknowledged, and the new leaf is
swapped in. -/
def execMigrateCopyDone (job : Nat) (host : List (Nat × Byte)) (bad : List Nat)
    (s : State) : Host.Outcome State Fault Refusal :=
  s.after (s.copyDone job host bad)

end Sys2Proof.Machine
end

