-- ==== Sys2Proof/Machine/ExecXlate.lean ====
section
/-! DEFINITION. The meanings of the commands of the atlas and its surveyors (07), one for each row. -/
namespace Sys2Proof.Machine

/-- TRANSLATION_REQUEST (R213): An engine or other requester asks for a translation, which a sheet-cache hit answers
with a grant or a fault. -/
def execTranslationRequest (who : Requester) (c va : Nat) (acc : Acc) (s : State) : Host.Outcome State Fault Refusal :=
  s.after (s.xlRequest who c va acc)

/-- SURVEYOR_WALK_START (R212): A free surveyor takes the oldest queued walk, after one more sheet-cache lookup. -/
def execSurveyorWalkStart (s : State) : Host.Outcome State Fault Refusal :=
  s.after (s.surveyorStart)

/-- WALK_READ_RETURN (R207): An atlas entry read by a walk returns and is checked; the walk descends, installs a leaf
or faults. -/
def execWalkReadReturn (id : Nat) (ret : Ret) (s : State) : Host.Outcome State Fault Refusal :=
  s.after (s.walkReturn id ret)

/-- ATLAS_BIND (R205): The mailbox command binds a PASID to a level-0 table in the lowest free atlas slot. -/
def execAtlasBind (n : Nat) (s : State) : Host.Outcome State Fault Refusal :=
  s.after (s.mbRun n 0x40 (fun t => t.atlasBind n))

/-- ATLAS_UNBIND (R206): The mailbox command removes an atlas slot's cache entries, purges grants and frees the slot.
-/
def execAtlasUnbind (n : Nat) (s : State) : Host.Outcome State Fault Refusal :=
  s.after (s.mbRun n 0x41 (fun t => t.atlasUnbind n))

/-- ATLAS_INVALIDATE (R220): The mailbox command starts an invalidation of form PASID or RANGE in a command slot. -/
def execAtlasInvalidate (n : Nat) (s : State) : Host.Outcome State Fault Refusal :=
  s.after (s.mbRun n 0x42 (fun t => t.atlasInvalidate n))

/-- FAULT_RESUME_RETRY (R233): FAULT_RESUME with action RETRY walks every joined request again and releases the held
record. -/
def execFaultResumeRetry (n : Nat) (s : State) : Host.Outcome State Fault Refusal :=
  s.after (s.mbPart n 0x43 1 0 (fun t => t.faultResume n false))

/-- FAULT_RESUME_ABORT (R233): FAULT_RESUME with action ABORT ends every joined pour with XLATE_FAULT. -/
def execFaultResumeAbort (n : Nat) (s : State) : Host.Outcome State Fault Refusal :=
  s.after (s.mbPart n 0x43 1 1 (fun t => t.faultResume n true))

/-- PURGE_ACK (R226): An engine acknowledges a purge after it has dropped the matching grants. -/
def execPurgeAck (e inv : Nat) (s : State) : Host.Outcome State Fault Refusal :=
  s.after (s.purgeAck e inv)

/-- PURGE_TIMEOUT (R226): An engine that has not acknowledged a purge within 100 µs is killed and treated as an
EXCEPTION. -/
def execPurgeTimeout (e inv : Nat) (s : State) : Host.Outcome State Fault Refusal :=
  s.after (s.purgeTimeout e inv)

/-- INV_OVERRUN (R224): A PHYS kernel is still running at start + BUDGET while an invalidation waits; it is killed and
its pour ends INV_OVERRUN. -/
def execInvOverrun (kernel : Nat) (s : State) : Host.Outcome State Fault Refusal :=
  s.after (s.invOverrun kernel)

/-- INVALIDATION_COMPLETE (R223): An invalidation's purge acknowledgements and access completions are all in, and it
is reported complete. -/
def execInvalidationComplete (inv : Nat) (s : State) : Host.Outcome State Fault Refusal :=
  s.after (s.invComplete inv)

/-- XL_CTL_WRITE (R211): Clearing WC_EN empties the walk cache within 512 core clocks. -/
def execXlCtlWrite (half size val : Nat) (s : State) : Host.Outcome State Fault Refusal :=
  s.done (s.hostWrite (0x400000 + 4 * (half % 2)) size val)

end Sys2Proof.Machine
end

