-- ==== Sys2Proof/Machine/Dispatch.lean ====
section
/-! DEFINITION. What each command does: one arm for each constructor of Instr. -/
namespace Sys2Proof.Machine

/-- The effect of a command on everything but the queue of waiting commands. -/
def exec (i : Instr) (s : State) : Host.Outcome State Fault Refusal :=
  match i with
  | .registerWrite off size val => Sys2Proof.Machine.execRegisterWrite off size val s
  | .configWrite off size val => Sys2Proof.Machine.execConfigWrite off size val s
  | .unsupportedRequest posted tag => Sys2Proof.Machine.execUnsupportedRequest posted tag s
  | .snoop tag => Sys2Proof.Machine.execSnoop tag s
  | .coherentRead hpa tag => Sys2Proof.Machine.execCoherentRead hpa tag s
  | .readForOwnership hpa tag => Sys2Proof.Machine.execReadForOwnership hpa tag s
  | .hostInvalidate hpa tag => Sys2Proof.Machine.execHostInvalidate hpa tag s
  | .windowWriteBack hpa data => Sys2Proof.Machine.execWindowWriteBack hpa data s
  | .doorbellWrite off size val => Sys2Proof.Machine.execDoorbellWrite off size val s
  | .translationInvalidationBroadcast pasid form tag => Sys2Proof.Machine.execTranslationInvalidationBroadcast pasid form tag s
  | .globalObservationAck id ok => Sys2Proof.Machine.execGlobalObservationAck id ok s
  | .creditReturn ch n => Sys2Proof.Machine.execCreditReturn ch n s
  | .eventCompletion val => Sys2Proof.Machine.execEventCompletion val s
  | .winCtlWrite n half size val => Sys2Proof.Machine.execWinCtlWrite n half size val s
  | .windowCloseComplete n => Sys2Proof.Machine.execWindowCloseComplete n s
  | .sealRecallComplete f => Sys2Proof.Machine.execSealRecallComplete f s
  | .heartbeat half size val => Sys2Proof.Machine.execHeartbeat half size val s
  | .hlpCtlWrite half size val => Sys2Proof.Machine.execHlpCtlWrite half size val s
  | .hbLost lost => Sys2Proof.Machine.execHbLost lost s
  | .linkDown lost => Sys2Proof.Machine.execLinkDown lost s
  | .linkTrained np p evt => Sys2Proof.Machine.execLinkTrained np p evt s
  | .attach size val => Sys2Proof.Machine.execAttach size val s
  | .detach size val => Sys2Proof.Machine.execDetach size val s
  | .detachComplete => Sys2Proof.Machine.execDetachComplete s
  | .holdRdIdxWrite half size val => Sys2Proof.Machine.execHoldRdIdxWrite half size val s
  | .entryFetch q => Sys2Proof.Machine.execEntryFetch q s
  | .entryReturn id ret => Sys2Proof.Machine.execEntryReturn id ret s
  | .raceGuardReread q => Sys2Proof.Machine.execRaceGuardReread q s
  | .admissionToken => Sys2Proof.Machine.execAdmissionToken s
  | .grant c => Sys2Proof.Machine.execGrant c s
  | .bankReadReturn c ret => Sys2Proof.Machine.execBankReadReturn c ret s
  | .queueCreate n => Sys2Proof.Machine.execQueueCreate n s
  | .queueResume n => Sys2Proof.Machine.execQueueResume n s
  | .pourCancel n => Sys2Proof.Machine.execPourCancel n s
  | .queueDestroy n => Sys2Proof.Machine.execQueueDestroy n s
  | .mouldLoad n => Sys2Proof.Machine.execMouldLoad n s
  | .mouldLoadComplete idx => Sys2Proof.Machine.execMouldLoadComplete idx s
  | .mouldUnload n => Sys2Proof.Machine.execMouldUnload n s
  | .segmentFillReturn idx seg ret => Sys2Proof.Machine.execSegmentFillReturn idx seg ret s
  | .mcCtlWrite half size val => Sys2Proof.Machine.execMcCtlWrite half size val s
  | .mcHtabWrite half size val => Sys2Proof.Machine.execMcHtabWrite half size val s
  | .recKernel c => Sys2Proof.Machine.execRecKernel c s
  | .recGuard c => Sys2Proof.Machine.execRecGuard c s
  | .recJump c => Sys2Proof.Machine.execRecJump c s
  | .recLoop c => Sys2Proof.Machine.execRecLoop c s
  | .recEndloop c => Sys2Proof.Machine.execRecEndloop c s
  | .recCall c => Sys2Proof.Machine.execRecCall c s
  | .recReturn c => Sys2Proof.Machine.execRecReturn c s
  | .recWait c => Sys2Proof.Machine.execRecWait c s
  | .recSignalSet c => Sys2Proof.Machine.execRecSignalSet c s
  | .recSignalAdd c => Sys2Proof.Machine.execRecSignalAdd c s
  | .recSignalMax c => Sys2Proof.Machine.execRecSignalMax c s
  | .recFence c => Sys2Proof.Machine.execRecFence c s
  | .recPut c => Sys2Proof.Machine.execRecPut c s
  | .recRouteTopk c => Sys2Proof.Machine.execRecRouteTopk c s
  | .recRouteBlocks c => Sys2Proof.Machine.execRecRouteBlocks c s
  | .recRouteExit c => Sys2Proof.Machine.execRecRouteExit c s
  | .recSpawn c => Sys2Proof.Machine.execRecSpawn c s
  | .recEvent c => Sys2Proof.Machine.execRecEvent c s
  | .recPatchSet c => Sys2Proof.Machine.execRecPatchSet c s
  | .recPatchAdd c => Sys2Proof.Machine.execRecPatchAdd c s
  | .recPatchMin c => Sys2Proof.Machine.execRecPatchMin c s
  | .recPatchMax c => Sys2Proof.Machine.execRecPatchMax c s
  | .recPatchLoad c => Sys2Proof.Machine.execRecPatchLoad c s
  | .recPatchTimeline c => Sys2Proof.Machine.execRecPatchTimeline c s
  | .recStamp c => Sys2Proof.Machine.execRecStamp c s
  | .recBarrier c => Sys2Proof.Machine.execRecBarrier c s
  | .recBulkMoveCopy c => Sys2Proof.Machine.execRecBulkMoveCopy c s
  | .recBulkMoveCast c => Sys2Proof.Machine.execRecBulkMoveCast c s
  | .recBulkMoveMigrate c => Sys2Proof.Machine.execRecBulkMoveMigrate c s
  | .recEnd c => Sys2Proof.Machine.execRecEnd c s
  | .laneFetch e => Sys2Proof.Machine.execLaneFetch e s
  | .kernelEndReport e c r pour status lost => Sys2Proof.Machine.execKernelEndReport e c r pour status lost s
  | .waypointAdvance e report => Sys2Proof.Machine.execWaypointAdvance e report s
  | .waypointStall e => Sys2Proof.Machine.execWaypointStall e s
  | .spawnRequest e req => Sys2Proof.Machine.execSpawnRequest e req s
  | .borrowOverrun e => Sys2Proof.Machine.execBorrowOverrun e s
  | .deadlineMiss c r => Sys2Proof.Machine.execDeadlineMiss c r s
  | .graceExpiry c => Sys2Proof.Machine.execGraceExpiry c s
  | .deadlockCheck f => Sys2Proof.Machine.execDeadlockCheck f s
  | .stopTimeoutKill e => Sys2Proof.Machine.execStopTimeoutKill e s
  | .scorePush e c r row part data => Sys2Proof.Machine.execScorePush e c r row part data s
  | .scoreReport e c r => Sys2Proof.Machine.execScoreReport e c r s
  | .routeScoreReadReturn id ret => Sys2Proof.Machine.execRouteScoreReadReturn id ret s
  | .routeSelectTile residue => Sys2Proof.Machine.execRouteSelectTile residue s
  | .routeWriteBack op => Sys2Proof.Machine.execRouteWriteBack op s
  | .translationRequest who c va acc => Sys2Proof.Machine.execTranslationRequest who c va acc s
  | .surveyorWalkStart => Sys2Proof.Machine.execSurveyorWalkStart s
  | .walkReadReturn id ret => Sys2Proof.Machine.execWalkReadReturn id ret s
  | .atlasBind n => Sys2Proof.Machine.execAtlasBind n s
  | .atlasUnbind n => Sys2Proof.Machine.execAtlasUnbind n s
  | .atlasInvalidate n => Sys2Proof.Machine.execAtlasInvalidate n s
  | .faultResumeRetry n => Sys2Proof.Machine.execFaultResumeRetry n s
  | .faultResumeAbort n => Sys2Proof.Machine.execFaultResumeAbort n s
  | .purgeAck e inv => Sys2Proof.Machine.execPurgeAck e inv s
  | .purgeTimeout e inv => Sys2Proof.Machine.execPurgeTimeout e inv s
  | .invOverrun kernel => Sys2Proof.Machine.execInvOverrun kernel s
  | .invalidationComplete inv => Sys2Proof.Machine.execInvalidationComplete inv s
  | .xlCtlWrite half size val => Sys2Proof.Machine.execXlCtlWrite half size val s
  | .hotDecay => Sys2Proof.Machine.execHotDecay s
  | .tierCtlWrite half size val => Sys2Proof.Machine.execTierCtlWrite half size val s
  | .migrateSwapReturn job => Sys2Proof.Machine.execMigrateSwapReturn job s
  | .migrateCopyDone job host bad => Sys2Proof.Machine.execMigrateCopyDone job host bad s
  | .hapReadRequest who c va tier node addr n => Sys2Proof.Machine.execHapReadRequest who c va tier node addr n s
  | .hapWriteRequest who c va tier node addr data sealed pub => Sys2Proof.Machine.execHapWriteRequest who c va tier node addr data sealed pub s
  | .hapAtomicRequest who c va tier node addr code size operand compare => Sys2Proof.Machine.execHapAtomicRequest who c va tier node addr code size operand compare s
  | .hapIssue id => Sys2Proof.Machine.execHapIssue id s
  | .hapReadResponse id ret => Sys2Proof.Machine.execHapReadResponse id ret s
  | .hbmWriteAccept ctl src => Sys2Proof.Machine.execHbmWriteAccept ctl src s
  | .commitMarkerAnswer ctl src => Sys2Proof.Machine.execCommitMarkerAnswer ctl src s
  | .engineFenceRequest e system => Sys2Proof.Machine.execEngineFenceRequest e system s
  | .castDescriptorReturn id ret => Sys2Proof.Machine.execCastDescriptorReturn id ret s
  | .casterItemTake c => Sys2Proof.Machine.execCasterItemTake c s
  | .casterItemComplete c job item check => Sys2Proof.Machine.execCasterItemComplete c job item check s
  | .castChunkTagCheck job => Sys2Proof.Machine.execCastChunkTagCheck job s
  | .peerData p slag => Sys2Proof.Machine.execPeerData p slag s
  | .peerAck p => Sys2Proof.Machine.execPeerAck p s
  | .peerBusy p => Sys2Proof.Machine.execPeerBusy p s
  | .peerBusyResend tag => Sys2Proof.Machine.execPeerBusyResend tag s
  | .peerErr p => Sys2Proof.Machine.execPeerErr p s
  | .peerRequestTimeout tag => Sys2Proof.Machine.execPeerRequestTimeout tag s
  | .peerPathLost k => Sys2Proof.Machine.execPeerPathLost k s
  | .inboundRd p => Sys2Proof.Machine.execInboundRd p s
  | .inboundWr p ctl => Sys2Proof.Machine.execInboundWr p ctl s
  | .inboundAt p => Sys2Proof.Machine.execInboundAt p s
  | .inboundSig p => Sys2Proof.Machine.execInboundSig p s
  | .inboundHello p => Sys2Proof.Machine.execInboundHello p s
  | .peerHelloAck p => Sys2Proof.Machine.execPeerHelloAck p s
  | .inboundBye p => Sys2Proof.Machine.execInboundBye p s
  | .peerAttach n => Sys2Proof.Machine.execPeerAttach n s
  | .peerHelloResend k => Sys2Proof.Machine.execPeerHelloResend k s
  | .peerAttachTimeout k => Sys2Proof.Machine.execPeerAttachTimeout k s
  | .peerDetachOrderly n => Sys2Proof.Machine.execPeerDetachOrderly n s
  | .peerDetachRemoved n => Sys2Proof.Machine.execPeerDetachRemoved n s
  | .peerQuarantineEnd k => Sys2Proof.Machine.execPeerQuarantineEnd k s
  | .peerBindWrite b dw half size val => Sys2Proof.Machine.execPeerBindWrite b dw half size val s
  | .eventDoorbellStore f off size val => Sys2Proof.Machine.execEventDoorbellStore f off size val s
  | .engineEventRaise e src c => Sys2Proof.Machine.execEngineEventRaise e src c s
  | .levelLineChange unit => Sys2Proof.Machine.execLevelLineChange unit s
  | .eventDelivery => Sys2Proof.Machine.execEventDelivery s
  | .eventMessageSend => Sys2Proof.Machine.execEventMessageSend s
  | .eventMcomplWrite size val => Sys2Proof.Machine.execEventMcomplWrite size val s
  | .eventPendingDiscard src half size val => Sys2Proof.Machine.execEventPendingDiscard src half size val s
  | .eventCtlWrite half size val => Sys2Proof.Machine.execEventCtlWrite half size val s
  | .flaskCreate n => Sys2Proof.Machine.execFlaskCreate n s
  | .scrubComplete f => Sys2Proof.Machine.execScrubComplete f s
  | .flaskSeal n => Sys2Proof.Machine.execFlaskSeal n s
  | .kyrdoSealAnswer n pub => Sys2Proof.Machine.execKyrdoSealAnswer n pub s
  | .kyrdoTimeout block id => Sys2Proof.Machine.execKyrdoTimeout block id s
  | .confirm n => Sys2Proof.Machine.execConfirm n s
  | .publicSet n => Sys2Proof.Machine.execPublicSet n s
  | .keyImport n => Sys2Proof.Machine.execKeyImport n s
  | .keyDestroy n => Sys2Proof.Machine.execKeyDestroy n s
  | .consent n => Sys2Proof.Machine.execConsent n s
  | .mouldAllow n => Sys2Proof.Machine.execMouldAllow n s
  | .legendReq n => Sys2Proof.Machine.execLegendReq n s
  | .legendSigned n sig => Sys2Proof.Machine.execLegendSigned n sig s
  | .flaskReset n => Sys2Proof.Machine.execFlaskReset n s
  | .flaskDestroy n => Sys2Proof.Machine.execFlaskDestroy n s
  | .flaskResetQuiesced f => Sys2Proof.Machine.execFlaskResetQuiesced f s
  | .lingerExpiry acc => Sys2Proof.Machine.execLingerExpiry acc s
  | .activityReport e interval entries => Sys2Proof.Machine.execActivityReport e interval entries s
  | .activityReportMissing e interval => Sys2Proof.Machine.execActivityReportMissing e interval s
  | .railReport nJ => Sys2Proof.Machine.execRailReport nJ s
  | .calibrationWindowEnd => Sys2Proof.Machine.execCalibrationWindowEnd s
  | .receiptBatchExpiry b => Sys2Proof.Machine.execReceiptBatchExpiry b s
  | .receiptSigned b sig => Sys2Proof.Machine.execReceiptSigned b sig s
  | .receiptFlush n => Sys2Proof.Machine.execReceiptFlush n s
  | .flaskQuench n => Sys2Proof.Machine.execFlaskQuench n s
  | .quenchDrainLimit f => Sys2Proof.Machine.execQuenchDrainLimit f s
  | .flaskThaw n => Sys2Proof.Machine.execFlaskThaw n s
  | .migOffer n => Sys2Proof.Machine.execMigOffer n s
  | .migAccept n => Sys2Proof.Machine.execMigAccept n s
  | .migBind n => Sys2Proof.Machine.execMigBind n s
  | .migExportRun n => Sys2Proof.Machine.execMigExportRun n s
  | .migExportBundle n => Sys2Proof.Machine.execMigExportBundle n s
  | .migImportRun n => Sys2Proof.Machine.execMigImportRun n s
  | .migImportBundle n => Sys2Proof.Machine.execMigImportBundle n s
  | .info n => Sys2Proof.Machine.execInfo n s
  | .certGet n => Sys2Proof.Machine.execCertGet n s
  | .mgmtRun n => Sys2Proof.Machine.execMgmtRun n s
  | .fwStage n => Sys2Proof.Machine.execFwStage n s
  | .fwCommit n => Sys2Proof.Machine.execFwCommit n s
  | .fwAbort n => Sys2Proof.Machine.execFwAbort n s
  | .mgmtWatchdogExpiry core slots => Sys2Proof.Machine.execMgmtWatchdogExpiry core slots s
  | .powerSetActive n => Sys2Proof.Machine.execPowerSetActive n s
  | .powerSetDrowse n => Sys2Proof.Machine.execPowerSetDrowse n s
  | .powerSetOff n => Sys2Proof.Machine.execPowerSetOff n s
  | .powerDrainComplete => Sys2Proof.Machine.execPowerDrainComplete s
  | .drowseWake cause => Sys2Proof.Machine.execDrowseWake cause s
  | .idleGate g => Sys2Proof.Machine.execIdleGate g s
  | .blockReset n => Sys2Proof.Machine.execBlockReset n s
  | .blockDrainLimit => Sys2Proof.Machine.execBlockDrainLimit s
  | .cold => Sys2Proof.Machine.execCold s
  | .packageReset => Sys2Proof.Machine.execPackageReset s
  | .startupReady fuses pairs lanes casters route mgmt => Sys2Proof.Machine.execStartupReady fuses pairs lanes casters route mgmt s
  | .patrolScrub n => Sys2Proof.Machine.execPatrolScrub n s
  | .lockstepMiscompare c => Sys2Proof.Machine.execLockstepMiscompare c s
  | .parityError unit => Sys2Proof.Machine.execParityError unit s
  | .sramUe at_ => Sys2Proof.Machine.execSramUe at_ s
  | .timelineStore tl half size val => Sys2Proof.Machine.execTimelineStore tl half size val s
  | .tlOpSet size timeline => Sys2Proof.Machine.execTlOpSet size timeline s
  | .tlOpAdd size timeline => Sys2Proof.Machine.execTlOpAdd size timeline s
  | .tlOpMax size timeline => Sys2Proof.Machine.execTlOpMax size timeline s
  | .zciLinkLost => Sys2Proof.Machine.execZciLinkLost s
  | .hostRecallResponse line data => Sys2Proof.Machine.execHostRecallResponse line data s
  | .hbmCommit id => Sys2Proof.Machine.execHbmCommit id s
  | .kyrdoAnswer n ans => Sys2Proof.Machine.execKyrdoAnswer n ans s
  | .mbSubmit size val => Sys2Proof.Machine.execMbSubmit size val s
  | .snapshotTick => Sys2Proof.Machine.execSnapshotTick s
  | .drowseExitComplete => Sys2Proof.Machine.execDrowseExitComplete s
  | .elogRdIdxWrite f half size val => Sys2Proof.Machine.execElogRdIdxWrite f half size val s
  | .receiptRingRdIdxWrite half size val => Sys2Proof.Machine.execReceiptRingRdIdxWrite half size val s

end Sys2Proof.Machine
end

