-- ==== Sys2Proof/Machine/Step.lean ====
section
/-! DEFINITION. One step: the command at the front of the queue runs; with no command waiting, the timebase ticks. -/
namespace Sys2Proof.Machine

/-- One step. On an empty queue the block idles, and 1 ns of timebase passes. -/
def step (s : State) : Host.Outcome State Fault Refusal :=
  match s.pending with
  | [] => .next { s with time := s.time + 1 }
  | c :: rest => exec c { s with pending := rest }

/-- s with the command that a table word spells put at the front of its queue; the table gives no row a word. -/
def State.withFetchWord (s : State) (nbits w : Nat) : State :=
  match decodeTableWord nbits w with
  | some c => { s with pending := c :: s.pending }
  | none => s

end Sys2Proof.Machine
end

