-- ==== Sys2Proof/Laws/Store.lean ====
section
/-! SUPPORT. Laws of the sparse stores: what a key reads as after a write, and that every operation keeps the canonical
form. -/
namespace Sys2Proof.Laws

open Sys2Proof.Machine

theorem sget_sput_same {α : Type} (d : α) (l : List (Nat × α)) (k : Nat) (v : α) : sget d (sput l k v) k = v := by
  induction l with
  | nil => simp [sput, sget]
  | cons p t ih =>
    obtain ⟨k', v'⟩ := p
    simp only [sput]
    split
    · simp [sget]
    · split
      · simp [sget]
      · rename_i h _
        simp [sget, h, ih]

theorem sget_sput_ne {α : Type} (d : α) (l : List (Nat × α)) {k j : Nat} (v : α) (h : k ≠ j) :
    sget d (sput l k v) j = sget d l j := by
  induction l with
  | nil => simp [sput, sget, h]
  | cons p t ih =>
    obtain ⟨k', v'⟩ := p
    simp only [sput]
    split
    · rename_i e
      subst e
      simp [sget, h]
    · split
      · simp [sget, h]
      · simp [sget, ih]

theorem sget_sdel_same {α : Type} (d : α) (l : List (Nat × α)) (k : Nat) : sget d (sdel l k) k = d := by
  induction l with
  | nil => simp [sdel, sget]
  | cons p t ih =>
    obtain ⟨k', v'⟩ := p
    simp only [sdel]
    split
    · exact ih
    · rename_i h
      simp [sget, h, ih]

theorem sget_sdel_ne {α : Type} (d : α) (l : List (Nat × α)) {k j : Nat} (h : k ≠ j) :
    sget d (sdel l k) j = sget d l j := by
  induction l with
  | nil => simp [sdel]
  | cons p t ih =>
    obtain ⟨k', v'⟩ := p
    simp only [sdel]
    split
    · rename_i e
      subst e
      simp [sget, h, ih]
    · simp [sget, ih]

/-- A read after a write to the same key gives the value written. -/
theorem sget_sset_same {α : Type} [DecidableEq α] (d : α) (l : List (Nat × α)) (k : Nat) (v : α) :
    sget d (sset d l k v) k = v := by
  unfold sset
  split
  · rename_i h
    rw [sget_sdel_same, h]
  · exact sget_sput_same d l k v

/-- A write leaves every other key alone, whatever an unlisted key is read as. -/
theorem sget_sset_ne {α : Type} [DecidableEq α] (d d' : α) (l : List (Nat × α)) {k j : Nat} (v : α) (h : k ≠ j) :
    sget d' (sset d l k v) j = sget d' l j := by
  unfold sset
  split
  · exact sget_sdel_ne d' l h
  · exact sget_sput_ne d' l v h

/-- Every key of a rising store is above the bound. -/
theorem srising_cons {α : Type} (k : Nat) (v : α) (t : List (Nat × α)) :
    srising ((k, v) :: t) = true ↔ (∀ p ∈ t, k < p.1) ∧ srising t = true := by
  induction t generalizing k v with
  | nil => simp [srising]
  | cons p t ih =>
    obtain ⟨k', v'⟩ := p
    have h1 : srising ((k, v) :: (k', v') :: t) = (decide (k < k') && srising ((k', v') :: t)) := rfl
    rw [h1, Bool.and_eq_true, decide_eq_true_eq]
    constructor
    · rintro ⟨hk, hr⟩
      refine ⟨?_, hr⟩
      intro q hq
      rcases List.mem_cons.1 hq with rfl | hq
      · exact hk
      · exact lt_trans hk (((ih k' v').1 hr).1 q hq)
    · rintro ⟨hk, hr⟩
      exact ⟨hk (k', v') (by simp), hr⟩

theorem mem_sdel {α : Type} {l : List (Nat × α)} {k : Nat} {p : Nat × α} (h : p ∈ sdel l k) : p ∈ l := by
  induction l with
  | nil => simp [sdel] at h
  | cons q t ih =>
    obtain ⟨k', v'⟩ := q
    simp only [sdel] at h
    split at h
    · exact List.mem_cons_of_mem _ (ih h)
    · rcases List.mem_cons.1 h with rfl | h
      · simp
      · exact List.mem_cons_of_mem _ (ih h)

theorem mem_sput {α : Type} {l : List (Nat × α)} {k : Nat} {v : α} {p : Nat × α} (h : p ∈ sput l k v) :
    p = (k, v) ∨ p ∈ l := by
  induction l with
  | nil => simpa [sput] using h
  | cons q t ih =>
    obtain ⟨k', v'⟩ := q
    simp only [sput] at h
    split at h
    · rcases List.mem_cons.1 h with rfl | h
      · simp
      · exact .inr (List.mem_cons_of_mem _ h)
    · split at h
      · rcases List.mem_cons.1 h with rfl | h
        · simp
        · exact .inr h
      · rcases List.mem_cons.1 h with rfl | h
        · simp
        · rcases ih h with h | h
          · exact .inl h
          · exact .inr (List.mem_cons_of_mem _ h)

theorem srising_sdel {α : Type} {l : List (Nat × α)} (k : Nat) (h : srising l = true) : srising (sdel l k) = true := by
  induction l with
  | nil => simp [sdel, srising]
  | cons q t ih =>
    obtain ⟨k', v'⟩ := q
    obtain ⟨h1, h2⟩ := (srising_cons k' v' t).1 h
    simp only [sdel]
    split
    · exact ih h2
    · exact (srising_cons _ _ _).2 ⟨fun p hp => h1 p (mem_sdel hp), ih h2⟩

theorem srising_sput {α : Type} {l : List (Nat × α)} (k : Nat) (v : α) (h : srising l = true) :
    srising (sput l k v) = true := by
  induction l with
  | nil => simp [sput, srising]
  | cons q t ih =>
    obtain ⟨k', v'⟩ := q
    obtain ⟨h1, h2⟩ := (srising_cons k' v' t).1 h
    simp only [sput]
    split
    · rename_i e
      subst e
      exact (srising_cons _ _ _).2 ⟨h1, h2⟩
    · split
      · rename_i hlt
        refine (srising_cons _ _ _).2 ⟨fun p hp => ?_, h⟩
        rcases List.mem_cons.1 hp with rfl | hp
        · exact hlt
        · exact lt_trans hlt (h1 p hp)
      · refine (srising_cons _ _ _).2 ⟨fun p hp => ?_, ih h2⟩
        rcases mem_sput hp with rfl | hp
        · simp only
          omega
        · exact h1 p hp

/-- A write keeps the canonical form. -/
theorem swf_sset {α : Type} [DecidableEq α] (d : Nat → α) {l : List (Nat × α)} (k : Nat) (v : α) (h : swf d l = true) :
    swf d (sset (d k) l k v) = true := by
  simp only [swf, Bool.and_eq_true, List.all_eq_true, decide_eq_true_eq] at h ⊢
  unfold sset
  split
  · exact ⟨srising_sdel k h.1, fun p hp => h.2 p (mem_sdel hp)⟩
  · rename_i hv
    refine ⟨srising_sput k v h.1, fun p hp => ?_⟩
    rcases mem_sput hp with rfl | hp
    · exact hv
    · exact h.2 p hp

/-- scanon gives the canonical form of any store. -/
theorem swf_scanon {α : Type} [DecidableEq α] (d : Nat → α) (l : List (Nat × α)) : swf d (scanon d l) = true := by
  unfold scanon
  induction l with
  | nil => simp [swf, srising]
  | cons p t ih => exact swf_sset d p.1 p.2 ih

/-- scanon changes no reading. -/
theorem sget_scanon {α : Type} [DecidableEq α] (d : Nat → α) (l : List (Nat × α)) (k : Nat) :
    sget (d k) (scanon d l) k = sget (d k) l k := by
  unfold scanon
  induction l with
  | nil => rfl
  | cons p t ih =>
    obtain ⟨k', v'⟩ := p
    simp only [List.foldr_cons]
    by_cases h : k' = k
    · subst h
      rw [sget_sset_same]
      simp [sget]
    · rw [sget_sset_ne _ _ _ _ h, ih]
      simp [sget, h]

end Sys2Proof.Laws
end

