-- ==== Sys2Proof/Safety.lean ====
section
/-! DEFINITION. What counts as a safe run: every step goes on, in states whose sparse stores are in canonical form and whose
work between two commands is the queue alone. -/
namespace Sys2Proof.Machine

/-- A memory in canonical form: addresses rise strictly, and none is listed with what an unlisted address reads as. -/
def Memory.wf (m : List Host.Cell) : Bool := swf (fun _ => unwritten) m

/-- The register store in canonical form: a field is listed only where it differs from its reset value. -/
def State.regsWf (s : State) : Bool := swf regDefault s.regs

/-- The invariant of the machine: both sparse stores are in canonical form. -/
def State.Inv (s : State) : Prop := s.regsWf = true ∧ Memory.wf s.hbm = true

/-- An outcome that goes on. -/
def goesOn : Host.Outcome State Fault Refusal → Bool
  | .next _ => true
  | _ => false

/-- A run of k steps from s that never stops. -/
def State.safe : (k : Nat) → State → Bool
  | 0, _ => true
  | k + 1, s =>
    match step s with
    | .next t => State.safe k t
    | _ => false

/-! ## The words that statements use -/

/-- Command i goes on from s, and what the next state holds is P. -/
def does (i : Instr) (s : State) (P : State → Prop) : Prop := ∃ t, exec i s = .next t ∧ P t

/-- Command i goes on from s by its own effect u, of which P holds; after it the units move on as far as they can, and the
command is over. -/
def acts (i : Instr) (s : State) (P : State → Prop) : Prop := ∃ u, exec i s = .next (s.close u.settle) ∧ P u

/-- Every byte of HBM reads in t, through either port, as it did in s. -/
def sameMem (s t : State) : Prop := ∀ a, t.sysByte a = s.sysByte a ∧ t.dieByte a = s.dieByte a

/-- Every register field reads in t as it did in s, but for the elements listed. -/
def onlyRegs (s t : State) (l : List (Field × Nat)) : Prop := ∀ f i, (f, i) ∉ l → t.rd f i = s.rd f i

/-- BAR0 and BAR1 writes reach the block: Memory Space Enable is 1, the block is READY, and the host is attached. -/
def State.hears (s : State) : Prop := s.on .CFG_MSE = true ∧ s.ready = true ∧ s.hostAway = false

/-- The size of a BAR0 write that reaches the half of its register: 8 bytes at half 0, or 4 bytes. -/
def okSize (half size : Nat) : Prop := (half = 0 ∧ size = 8) ∨ (half < 2 ∧ size = 4)

/-- Context x, number c, stands before record r of mould m, whose segment it holds and none of whose gates is pending, and
its walk may go on; it is its context's turn at the sequencer (R129). -/
def State.faces (s : State) (c : Nat) (x : Ctx) (m : Mould) (r : List Byte) : Prop :=
  s.ctx? c = some x ∧ s.mayWalk x = true ∧ s.myTurn x = true ∧ s.mould? x.mould x.mgen = some m ∧
  (s.cached m.idx m.gen (x.pc / 64) || x.buf == some (x.pc / 64)) = true ∧ s.recordOf m x.pc = r ∧
  (gatesOf r).any (fun g => bit x.pending g) = false

/-- Context c goes on with the record at index pc. -/
def State.goesTo (u : State) (c pc : Nat) : Prop := ∃ y, u.ctx? c = some y ∧ y.pc = pc ∧ y.st = .run ∧ y.begun = false

/-- Context c waits at the record at index pc. -/
def State.waitsAt (u : State) (c pc : Nat) (st : CtxState) : Prop := ∃ y, u.ctx? c = some y ∧ y.pc = pc ∧ y.st = st

/-- The command in mailbox slot n is one of opcode op and comes to its start point: nothing that R447 and R450 check stops
it, and no state of the block or of its flask answers in its place. -/
def State.starts (s : State) (n op : Nat) : Prop :=
  n < 16 ∧ s.ready = true ∧ s.mayStart n = true ∧ s.opcode n = op ∧ s.mbCheck n = none ∧ s.powerBusy n op = false ∧
  s.flaskGate n op = none

/-- The state as the checks of the command in slot n see it from its start point. -/
def State.begun (s : State) (n : Nat) : State := (s.takeSlot n).claim

/-- Slot n is DONE with a status. -/
def State.replied (u : State) (n status : Nat) : Prop := u.slotState n = mbDONE ∧ u.rd .MB_RPL_STATUS n = status

/-- Offsets of BAR0 whose register has no behaviour of its own: a write changes its fields under their access codes alone. -/
def plainOffset (o : Nat) : Bool :=
  decide (o < 0x1000000) && !(decide (0x740000 ≤ o) && decide (o < 0x780000)) &&
  !(decide (0x11000 ≤ o) && decide (o < 0x13000)) && !(decide (0x601000 ≤ o) && decide (o < 0x603000)) &&
  !(decide (0x710000 ≤ o) && decide (o < 0x730000)) && !(decide (0xA01000 ≤ o) && decide (o < 0xA05000)) &&
  !(decide (0x400500 ≤ o) && decide (o < 0x400700)) && !(decide (0x510300 ≤ o) && decide (o < 0x510500)) &&
  !([0x38, 0x10000, 0x10010, 0x10018, 0x10028, 0x208000, 0x208018, 0x400000, 0x410000, 0x410008, 0x600000, 0x700020,
     0x80D000, 0x900020, 0x900028, 0xA00000, 0xA00020].contains o)

/-- Mailbox command i goes on from s: its body leaves u, of which P holds; then the claims of seals that still wait are
taken back, the units move on, and the command is over. -/
def answers (i : Instr) (s : State) (P : State → Prop) : Prop := ∃ u, exec i s = .next (s.close u.unclaim.settle) ∧ P u

/-- The register fields that a reply of slot n writes. -/
def replyFields (n : Nat) : List (Field × Nat) :=
  [(.MB_RPL_STATUS, n), (.MB_RPL_OPCODE, n), (.MB_RPL_TAG, n), (.MB_RPL_RLEN, n), (.MB_ERR_DONE, 0), (.MB_STATE_STATE, 0)] ++
  (List.range 30).map (fun i => (.MB_OUT, n * 128 + i))

/-- The register fields that a stale item of a kind writes. -/
def staleFields (k : StaleKind) : List (Field × Nat) :=
  [(k.field, 0), (.STALE_LAST_KIND, 0), (.STALE_LAST_ID, 0), (.STALE_LAST_GEN_SEEN, 0), (.STALE_LAST_GEN_NOW, 0)]

/-- The counter f, element i, of u is that of s advanced by n, or at its maximum. -/
def State.counts (s u : State) (f : Field) (i : Nat := 0) (n : Nat := 1) : Prop :=
  u.rd f i = min (s.rd f i + n) (2 ^ f.row.width - 1)

/-- The context of a record in u after s: every byte and every register but the cache's counters reads as before, and every
other context is as it was. -/
def walked (s : State) (c : Nat) (u : State) : Prop :=
  sameMem s u ∧ onlyRegs s u [(.MC_STATS_HITS, 0), (.MC_STATS_MISSES, 0)] ∧ ∀ d, d ≠ c → u.ctx? d = s.ctx? d

/-- The bytes bs written at HBM address a by the block itself: they are there, or they wait for a host core's copy of a line
of theirs to be given up, or behind an earlier store to such a line. -/
def State.landed (s u : State) (a : Nat) (bs : List Byte) : Prop :=
  (s.storeBlock (linesOf (cellsAt a bs)) = none → a + bs.length ≤ hbmSize → u.sysRead a bs.length = bs) ∧
  (s.storeBlock (linesOf (cellsAt a bs)) ≠ none →
    ∃ w ∈ u.hlp.waits, ∃ st, w.act = .store st ∧ st.cells = cellsAt a bs)

/-- The completion record of a pour has been issued to its ring, or to the holding ring while the host is lost. -/
def State.recorded (s u : State) (p : PourId) (slot ticket status detail : Nat) (raise : Bool) : Prop :=
  let a := s.rd .QCTX_CBASE p.queue * 4096 + slot * 32
  let bs := recordBytes p ticket status detail (s.clock .core)
  (∃ r ∈ u.qm.records, r.id = s.nextId ∧ r.queue = p.queue ∧ r.seq = p.seq ∧ r.raise = raise) ∧
  (s.rd .QCTX_CLOC p.queue = 0 → s.landed u a bs) ∧
  (s.rd .QCTX_CLOC p.queue ≠ 0 → s.headless = false →
    ∃ w ∈ u.reqs, w.id = s.nextId ∧ w.tier = 1 ∧ w.addr = a ∧ w.kind = .write (cellsAt a bs)) ∧
  (s.rd .QCTX_CLOC p.queue ≠ 0 → s.headless = true →
    if (s.holdFull || s.parkedFor .hold || !s.hlp.holdWait.isEmpty) = true then
      (s.nextId, bs) ∈ u.hlp.holdWait ∧ (s.holdFull = true → u.rd .HLP_ERR_HOLD_FULL = 1)
    else s.landed u (s.rd .HLP_HOLD_BASE_BASE * 4096 + s.rd .HLP_HOLD_PTRS_WR_IDX * 32) bs)

/-- In u, the command in slot n has asked Kyrdo, and waits for the answer. -/
def State.asked (s u : State) (n f : Nat) (ask : KyAsk) : Prop :=
  u.slotState n = mbRUNNING ∧ .kyrdo n ask ∈ u.sent ∧
  u.kyreqs = s.kyreqs ++ [{ slot := n, flask := f, gen := s.flaskGen f, at_ := s.time, ask := ask }]

/-- Key slot k holds key material for flask f with a use. -/
def State.holdsKey (u : State) (k use f : Nat) : Prop :=
  u.rd .KEY_SLOT_VALID k = 1 ∧ u.rd .KEY_SLOT_USE k = use ∧ u.rd .KEY_SLOT_FLASK k = f ∧ ∃ m ∈ u.keys, m.slot = k

/-- Key slot k is empty. -/
def State.noKey (u : State) (k : Nat) : Prop := u.rd .KEY_SLOT_VALID k = 0 ∧ ∀ m ∈ u.keys, m.slot ≠ k

/-- The envelope that slot n names is one of operation op, in public granules of its flask, that no host core holds
modified. -/
def State.envelopeOf (s : State) (n op : Nat) : Prop :=
  envOp (s.dieRead (s.par n 1) 64) = op ∧ s.dirtyLines (s.par n 1) 4096 = []

/-- The sealed command in slot n, of operation op, passes the checks of its flask, its key, its tag and its sequence number:
m is its key and pt its encrypted part. -/
def State.opens (s : State) (n op : Nat) (m : KeyMat) (pt : List Byte) : Prop :=
  let f := (s.fref n).1
  let e := s.envelope n
  s.frefOk n = true ∧ s.envFits n e = true ∧ envOp e = op ∧ s.cmdKey f = some m ∧ envOpen m.key e = some pt ∧
  envSeq e = (s.vault f).cseq + 1

/-- The envelope, the place of its reply, whose payload has a length, and the arguments are well formed. -/
def State.wellPut (s : State) (n op payload : Nat) (pt : List Byte) : Bool :=
  let f := (s.fref n).1
  let e := s.envelope n
  s.publicBuf f (s.par n 1) (envLen e) && decide (envLen e ≤ 4096) && s.replyPlace n f payload && envClean e && envClen e == 0 &&
  s.argsOk f op pt

/-- Every byte of the granules gs of u is zero, and every byte outside them is as in s. -/
def State.zeroed (s u : State) (gs : List Nat) : Prop :=
  ∀ a, if a / granule ∈ gs then u.sysByte a = 0 ∧ u.dieByte a = 0 else u.sysByte a = s.sysByte a ∧ u.dieByte a = s.dieByte a

/-- Element i of field f, from s to t, takes the bits w of a value that a write carries, under its access code (R6). -/
def State.takes (s t : State) (f : Field) (i w : Nat) : Prop :=
  (f.row.access = .RW → t.rd f i = w % 2 ^ f.row.width) ∧
  (f.row.access = .RO ∨ f.row.access = .WO → t.rd f i = s.rd f i) ∧
  (f.row.access = .W1C → t.rd f i = (s.rd f i - (s.rd f i &&& w)) % 2 ^ f.row.width) ∧
  (f.row.access = .W1S → t.rd f i = (s.rd f i ||| w) % 2 ^ f.row.width) ∧
  (f.row.access = .RWS → t.rd f i = (if s.flaskSealed i || (s.vault i).everSealed then s.rd f i else w % 2 ^ f.row.width))

/-- A field lies across bits 31 and 32 of its register. -/
def spansHalves (p : Field × Nat) : Prop := p.1.row.bitOf p.2 < 32 ∧ 32 < p.1.row.bitOf p.2 + p.1.row.width

/-- The register at offset o has a field that lies across its halves. -/
def spanning (o : Nat) : Prop := ∃ p ∈ fieldsAt o, spansHalves p

/-- From s to t the register at offset o takes a write of `size` bytes with value v, to its half `half` where that is 4, and
nothing else changes but what reports a field that spans the halves (R6, R493). -/
def State.written (s t : State) (o size half v : Nat) : Prop :=
  sameMem s t ∧ onlyRegs s t ((.HLP_ERR_BAD_REG, 0) :: fieldsAt o) ∧ (size = 8 ∨ ¬ spanning o → onlyRegs s t (fieldsAt o)) ∧
  ∀ f i, (f, i) ∈ fieldsAt o →
    let lo := f.row.bitOf i
    (size = 8 → s.takes t f i (bits v lo f.row.width)) ∧
    (size = 4 → spansHalves (f, i) → t.rd f i = s.rd f i ∧ t.rd .HLP_ERR_BAD_REG = 1) ∧
    (size = 4 → ¬ spansHalves (f, i) → lo / 32 = half → s.takes t f i (bits v (lo % 32) f.row.width)) ∧
    (size = 4 → ¬ spansHalves (f, i) → lo / 32 ≠ half → t.rd f i = s.rd f i)

end Sys2Proof.Machine
end

