-- ==== Sys2Proof/Laws/Ops.lean ====
section
/-! SUPPORT. Laws of the named operations: register fields read after a write, bytes of memory read after a write, what
State.close keeps, the canonical form of the memory, and when a store waits for a line or a record for its turn. -/
namespace Sys2Proof.Laws

open Sys2Proof.Machine

/-! ## The least number with a property -/

theorem lowestFrom_some {p : Nat → Bool} {n i k : Nat} :
    lowestFrom p n i = some k ↔ i ≤ k ∧ k < i + n ∧ p k = true ∧ ∀ j, i ≤ j → j < k → p j = false := by
  induction n generalizing i with
  | zero => simp [lowestFrom]; omega
  | succ n ih =>
    rw [lowestFrom]
    split
    · rename_i h
      constructor
      · rintro ⟨⟩; exact ⟨Nat.le_refl _, by omega, h, by omega⟩
      · rintro ⟨h1, _, _, h4⟩
        rcases Nat.lt_or_ge i k with hlt | hge
        · simp [h4 i (Nat.le_refl _) hlt] at h
        · rw [Nat.le_antisymm h1 hge]
    · rename_i h
      rw [ih]
      constructor
      · rintro ⟨h1, h2, h3, h4⟩
        refine ⟨by omega, by omega, h3, fun j hj hk => ?_⟩
        rcases Nat.lt_or_ge i j with hlt | hge
        · exact h4 j hlt hk
        · have : j = i := by omega
          simpa [this] using h
      · rintro ⟨h1, h2, h3, h4⟩
        have : i ≠ k := by rintro rfl; exact h h3
        exact ⟨by omega, by omega, h3, fun j hj hk => h4 j (by omega) hk⟩

/-- The least number: below the bound, with the property, and none before it has it. -/
theorem lowest_some {p : Nat → Bool} {n k : Nat} :
    lowest n p = some k ↔ k < n ∧ p k = true ∧ ∀ j < k, p j = false := by
  simp [lowest, lowestFrom_some]

/-! ## Register fields -/

theorem all_map_num : Field.all.map Field.num = List.range Field.all.length := by decide +kernel

theorem field_num_lt_length (f : Field) : f.num < Field.all.length := by
  have h : Field.all.length = 520 := by decide +kernel
  rw [h]
  cases f <;> exact of_decide_eq_true rfl

theorem field_num_lt (f : Field) : f.num < 1024 := by
  have h : Field.all.length = 520 := by decide +kernel
  have := field_num_lt_length f
  omega

theorem field_num_inj {f g : Field} (h : f.num = g.num) : f = g := by
  have h1 := Field.ofNat_ctorIdx f
  have h2 := Field.ofNat_ctorIdx g
  simp only [Field.num] at h
  rw [← h1, ← h2, h]

theorem field_all_num (f : Field) : Field.all[f.num]? = some f := by
  have hl := field_num_lt_length f
  rw [List.getElem?_eq_getElem hl]
  congr 1
  apply field_num_inj
  have h := congrArg (fun l => l[f.num]?) all_map_num
  simp only [List.getElem?_map, List.getElem?_range hl, List.getElem?_eq_getElem hl, Option.map_some, Option.some.injEq] at h
  exact h

theorem field_key_inj {f g : Field} {i j : Nat} (h : f.key i = g.key j) : f = g ∧ i = j := by
  have hf := field_num_lt f
  have hg := field_num_lt g
  simp only [Field.key] at h
  have hn : f.num = g.num := by omega
  exact ⟨field_num_inj hn, by omega⟩

theorem regDefault_key (f : Field) (i : Nat) : regDefault (f.key i) = f.resetAt i := by
  have hf := field_num_lt f
  have h1 : f.key i % 1024 = f.num := by simp only [Field.key]; omega
  have h2 : f.key i / 1024 = i := by simp only [Field.key]; omega
  simp [regDefault, h1, h2, field_all_num]

/-- A field reads as what was written to it, cut to its width. -/
@[simp] theorem rd_wr_same (s : State) (f : Field) (v i : Nat) : (s.wr f v i).rd f i = v % 2 ^ f.row.width := by
  simp [State.rd, State.wr, sget_sset_same]

/-- A write to a field leaves every other field and element alone. -/
theorem rd_wr_ne (s : State) {f g : Field} {i j : Nat} (v : Nat) (h : f ≠ g ∨ i ≠ j) : (s.wr f v i).rd g j = s.rd g j := by
  have hk : f.key i ≠ g.key j := by
    intro e
    obtain ⟨h1, h2⟩ := field_key_inj e
    rcases h with h | h
    · exact h h1
    · exact h h2
  simp only [State.rd, State.wr]
  exact sget_sset_ne _ _ _ _ hk

/-- A read after a write, as one conditional. -/
theorem rd_wr (s : State) (f g : Field) (i j v : Nat) :
    (s.wr f v i).rd g j = if f = g ∧ i = j then v % 2 ^ f.row.width else s.rd g j := by
  split
  · rename_i h
    obtain ⟨rfl, rfl⟩ := h
    exact rd_wr_same s f v i
  · rename_i h
    exact rd_wr_ne s v (by tauto)

theorem regsWf_wr (s : State) (f : Field) (v i : Nat) (h : s.regsWf = true) : (s.wr f v i).regsWf = true := by
  have := swf_sset regDefault (f.key i) (v % 2 ^ f.row.width) h
  rw [regDefault_key] at this
  exact this

/-! ## Memory -/

/-- A byte reads as what was written to it. -/
theorem sysByte_putByte_same (s : State) (a : Nat) (b : Byte) (h : a < hbmSize) : (s.putByte a b).sysByte a = b := by
  simp [State.sysByte, State.putByte, h, sget_sset_same]

/-- A write of a byte leaves every other byte alone. -/
theorem sysByte_putByte_ne (s : State) {a c : Nat} (b : Byte) (h : a ≠ c) : (s.putByte a b).sysByte c = s.sysByte c := by
  simp only [State.sysByte, State.putByte]
  split
  · exact sget_sset_ne _ _ _ _ h
  · rfl

theorem wf_putByte (s : State) (a : Nat) (b : Byte) (h : Memory.wf s.hbm = true) : Memory.wf (s.putByte a b).hbm = true := by
  simp only [State.putByte]
  split
  · exact swf_sset (fun _ => unwritten) a b h
  · exact h

theorem wf_put (bs : List Byte) (s : State) (a : Nat) (h : Memory.wf s.hbm = true) : Memory.wf (s.put a bs).hbm = true := by
  induction bs generalizing s a with
  | nil => exact h
  | cons b bs ih => exact ih _ _ (wf_putByte s a b h)

theorem wf_putCells (cells : List (Nat × Byte)) (s : State) (h : Memory.wf s.hbm = true) :
    Memory.wf (s.putCells cells).hbm = true := by
  unfold State.putCells
  induction cells generalizing s with
  | nil => exact h
  | cons c cs ih => exact ih _ (wf_putByte s c.1 c.2 h)

/-- A fold of steps that each keep the memory's canonical form keeps it. -/
theorem wf_foldl {α : Type} (f : State → α → State) (hf : ∀ s a, Memory.wf s.hbm = true → Memory.wf (f s a).hbm = true)
    (l : List α) (s : State) (h : Memory.wf s.hbm = true) : Memory.wf (l.foldl f s).hbm = true := by
  induction l generalizing s with
  | nil => exact h
  | cons a l ih => exact ih _ (hf s a h)

theorem wf_commitLine (s : State) (line : Nat) (h : Memory.wf s.hbm = true) : Memory.wf (s.commitLine line).hbm = true :=
  wf_foldl _ (fun _ _ => wf_putCells _ _) _ s h

theorem wf_overPut (cells : List (Nat × Byte)) (s : State) (h : Memory.wf s.hbm = true) :
    Memory.wf (s.overPut cells).hbm = true := wf_putCells cells _ (wf_foldl _ wf_commitLine _ s h)

theorem wf_filter (p : Host.Cell → Bool) {m : List Host.Cell} (h : Memory.wf m = true) : Memory.wf (m.filter p) = true := by
  simp only [Memory.wf, swf, Bool.and_eq_true, List.all_eq_true, decide_eq_true_eq] at h ⊢
  refine ⟨?_, fun q hq => h.2 q (List.mem_filter.1 hq).1⟩
  have h1 := h.1
  clear h
  induction m with
  | nil => rfl
  | cons q t ih =>
    obtain ⟨k, v⟩ := q
    obtain ⟨ha, hb⟩ := (srising_cons k v t).1 h1
    rw [List.filter_cons]
    split
    · exact (srising_cons _ _ _).2 ⟨fun r hr => ha r (List.mem_filter.1 hr).1, ih hb⟩
    · exact ih hb

theorem wf_zero (s : State) (a n : Nat) (h : Memory.wf s.hbm = true) : Memory.wf (s.zero a n).hbm = true := wf_filter _ h

/-- A byte outside the bytes that a run of bytes is written to reads as before. -/
theorem sysByte_put_out (bs : List Byte) (s : State) (a c : Nat) (h : c < a ∨ a + bs.length ≤ c) :
    (s.put a bs).sysByte c = s.sysByte c := by
  induction bs generalizing s a with
  | nil => rfl
  | cons b bs ih =>
    simp only [List.length_cons] at h
    rw [State.put, ih _ _ (by omega), sysByte_putByte_ne _ _ (by omega)]

/-- A byte that no cell names reads as before. -/
theorem sysByte_putCells_out (cells : List (Nat × Byte)) (s : State) (c : Nat) (h : ∀ p ∈ cells, p.1 ≠ c) :
    (s.putCells cells).sysByte c = s.sysByte c := by
  unfold State.putCells
  induction cells generalizing s with
  | nil => rfl
  | cons p ps ih =>
    rw [List.foldl_cons, ih _ (fun q hq => h q (List.mem_cons_of_mem _ hq)),
      sysByte_putByte_ne _ _ (h p (by simp))]

theorem cellsAt_cons (a : Nat) (b : Byte) (bs : List Byte) : cellsAt a (b :: bs) = (a, b) :: cellsAt (a + 1) bs := by
  simp only [cellsAt, List.length_cons, List.range_succ_eq_map, List.zip_cons_cons, List.map_cons, Nat.add_zero, List.zip_map_left,
    List.map_map]
  congr 1
  apply List.map_congr_left
  intro p _
  simp [Function.comp, Prod.map]; omega

theorem sget_below {a k : Nat} {bs : List Byte} (h : k < a) : sget unwritten ((cellsAt a bs).filter (fun c => c.2 != 0)) k = 0 := by
  induction bs generalizing a with
  | nil => rfl
  | cons b bs ih =>
    rw [cellsAt_cons, List.filter_cons]
    split
    · rw [sget, if_neg (by omega)]; exact ih (by omega)
    · exact ih (by omega)

theorem sget_cells {a i : Nat} {bs : List Byte} :
    sget unwritten ((cellsAt a bs).filter (fun c => c.2 != 0)) (a + i) = bs.getD i 0 := by
  induction bs generalizing a i with
  | nil => rfl
  | cons b bs ih =>
    rw [cellsAt_cons, List.filter_cons]
    cases i with
    | zero =>
      split
      · simp [sget]
      · rename_i h
        rw [Nat.add_zero a, sget_below (show a < a + 1 by omega)]
        simpa using (by simpa using h : b = 0).symm
    | succ i =>
      have := ih (a := a + 1) (i := i)
      rw [show a + (i + 1) = a + 1 + i by omega]
      split
      · rw [sget, if_neg (by omega), this]; rfl
      · rw [this]; rfl

/-- A block of bytes stored as it is laid out reads back whole through the die port. -/
theorem dieRead_cells {s : State} {a : Nat} {bs : List Byte} (hw : s.wbuf = [])
    (hb : s.hbm = (cellsAt a bs).filter (fun c => c.2 != 0)) : s.dieRead a bs.length = bs := by
  apply List.ext_getElem
  · simp [State.dieRead]
  · intro i h1 h2
    simp only [State.dieRead, List.getElem_map, List.getElem_range, State.dieByte, State.sysByte, hw, hb, sget_cells, lastStored, List.foldl_nil, Option.getD_none]
    simp [h2]

/-! ## The end of a command -/

/-- Closing a command changes no register field. -/
@[simp] theorem rd_close (s t : State) (f : Field) (i : Nat) : (s.close t).rd f i = t.rd f i := by
  have := sget_scanon regDefault t.regs (f.key i)
  rw [regDefault_key] at this
  exact this

@[simp] theorem on_close (s t : State) (f : Field) (i : Nat) : (s.close t).on f i = t.on f i := by
  simp [State.on]

/-- Closing a command changes no byte of memory. -/
@[simp] theorem sysByte_close (s t : State) (a : Nat) : (s.close t).sysByte a = t.sysByte a :=
  sget_scanon (fun _ => unwritten) t.hbm a

/-- A command leaves both sparse stores in canonical form. -/
theorem inv_close (s t : State) : (s.close t).Inv :=
  ⟨swf_scanon regDefault t.regs, swf_scanon (fun _ => unwritten) t.hbm⟩

/-- A command leaves the queue of waiting commands as it was. -/
theorem pending_close (s t : State) : (s.close t).pending = s.pending := rfl

/-- The timebase after a command is the later of the command's own and the one before it. -/
theorem time_close (s t : State) : (s.close t).time = max s.time t.time := rfl

/-- A command does not move the timebase back. -/
theorem time_le_close (s t : State) : s.time ≤ (s.close t).time := Nat.le_max_left _ _

/-! ## Waits for a line, and turns -/

/-- A store to the lines ls, or an atomic, waits for nothing exactly if no host core holds one of them and no store in the
home-agent check touches one. -/
theorem storeBlock_none (s : State) (ls : List Nat) : s.storeBlock ls = none ↔
    (∀ l ∈ ls, s.hostHeld l = false) ∧
      ∀ w ∈ s.hlp.waits, ∀ st, w.act = .store st → ∀ l ∈ linesOf st.cells, l ∉ ls := by
  unfold State.storeBlock
  simp only []
  constructor
  · intro h
    split at h
    · cases h
    · rename_i hn
      rw [List.find?_eq_none] at hn h
      refine ⟨fun l hl => by simpa using h l hl, fun w hw st hst l hl hc => ?_⟩
      have := hn w (by simpa using hw)
      rw [hst] at this
      exact this (by simpa using ⟨l, hl, hc⟩)
  · rintro ⟨h1, h2⟩
    split
    · rename_i w hw
      have hm := List.mem_of_find?_eq_some hw
      have hp := List.find?_some hw
      cases ha : w.act <;> rw [ha] at hp <;> try cases hp
      obtain ⟨l, hl, hc⟩ := List.any_eq_true.mp hp
      exact absurd (by simpa using hc) (h2 w (by simpa using hm) _ ha l hl)
    · rw [List.find?_eq_none]
      exact fun l hl => by simp [h1 l hl]

/-- It is the turn of a context beside which its sequencer has none with a record ready to be issued. -/
theorem myTurn_alone (s : State) (x : Ctx)
    (h : ∀ y ∈ s.ctxs, y.root / 16 = x.root / 16 → y.num = x.num ∨ s.issuable y = false) : s.myTurn x = true := by
  simp only [State.myTurn, Bool.or_eq_true, Bool.not_eq_true']
  right
  rw [List.any_eq_false]
  intro y hy
  by_cases hr : y.root / 16 = x.root / 16
  · rcases h y hy hr with hn | hi
    · simp [hn]
    · simp [hi]
  · simp [hr]

end Sys2Proof.Laws
end

