-- ==== Sys2Proof/Laws/State.lean ====
section
/-! SUPPORT. What each named update of the state leaves unchanged, one lemma for each update and field of State, so that no
proof unfolds a record update. -/
namespace Sys2Proof.Laws

open Sys2Proof.Machine

/-! ## State.wr -/

@[simp] theorem wr_time (s : State) (f : Field) (v i : Nat) : (s.wr f v i).time = s.time := rfl
@[simp] theorem wr_nextId (s : State) (f : Field) (v i : Nat) : (s.wr f v i).nextId = s.nextId := rfl
@[simp] theorem wr_hbm (s : State) (f : Field) (v i : Nat) : (s.wr f v i).hbm = s.hbm := rfl
@[simp] theorem wr_wbuf (s : State) (f : Field) (v i : Nat) : (s.wr f v i).wbuf = s.wbuf := rfl
@[simp] theorem wr_sent (s : State) (f : Field) (v i : Nat) : (s.wr f v i).sent = s.sent := rfl
@[simp] theorem wr_hlp (s : State) (f : Field) (v i : Nat) : (s.wr f v i).hlp = s.hlp := rfl
@[simp] theorem wr_qm (s : State) (f : Field) (v i : Nat) : (s.wr f v i).qm = s.qm := rfl
@[simp] theorem wr_moulds (s : State) (f : Field) (v i : Nat) : (s.wr f v i).moulds = s.moulds := rfl
@[simp] theorem wr_ctxs (s : State) (f : Field) (v i : Nat) : (s.wr f v i).ctxs = s.ctxs := rfl
@[simp] theorem wr_kernels (s : State) (f : Field) (v i : Nat) : (s.wr f v i).kernels = s.kernels := rfl
@[simp] theorem wr_lanes (s : State) (f : Field) (v i : Nat) : (s.wr f v i).lanes = s.lanes := rfl
@[simp] theorem wr_reqs (s : State) (f : Field) (v i : Nat) : (s.wr f v i).reqs = s.reqs := rfl
@[simp] theorem wr_fences (s : State) (f : Field) (v i : Nat) : (s.wr f v i).fences = s.fences := rfl
@[simp] theorem wr_keys (s : State) (f : Field) (v i : Nat) : (s.wr f v i).keys = s.keys := rfl
@[simp] theorem wr_nodes (s : State) (f : Field) (v i : Nat) : (s.wr f v i).nodes = s.nodes := rfl
@[simp] theorem wr_readyAt (s : State) (f : Field) (v i : Nat) : (s.wr f v i).readyAt = s.readyAt := rfl
@[simp] theorem wr_xl (s : State) (f : Field) (v i : Nat) : (s.wr f v i).xl = s.xl := rfl
@[simp] theorem wr_tier (s : State) (f : Field) (v i : Nat) : (s.wr f v i).tier = s.tier := rfl
@[simp] theorem wr_copies (s : State) (f : Field) (v i : Nat) : (s.wr f v i).copies = s.copies := rfl
@[simp] theorem wr_route (s : State) (f : Field) (v i : Nat) : (s.wr f v i).route = s.route := rfl
@[simp] theorem wr_cast (s : State) (f : Field) (v i : Nat) : (s.wr f v i).cast = s.cast := rfl
@[simp] theorem wr_ev (s : State) (f : Field) (v i : Nat) : (s.wr f v i).ev = s.ev := rfl
@[simp] theorem wr_mbox (s : State) (f : Field) (v i : Nat) : (s.wr f v i).mbox = s.mbox := rfl
@[simp] theorem wr_vaults (s : State) (f : Field) (v i : Nat) : (s.wr f v i).vaults = s.vaults := rfl
@[simp] theorem wr_tears (s : State) (f : Field) (v i : Nat) : (s.wr f v i).tears = s.tears := rfl
@[simp] theorem wr_scrubs (s : State) (f : Field) (v i : Nat) : (s.wr f v i).scrubs = s.scrubs := rfl
@[simp] theorem wr_scrubAt (s : State) (f : Field) (v i : Nat) : (s.wr f v i).scrubAt = s.scrubAt := rfl
@[simp] theorem wr_seals (s : State) (f : Field) (v i : Nat) : (s.wr f v i).seals = s.seals := rfl
@[simp] theorem wr_quenches (s : State) (f : Field) (v i : Nat) : (s.wr f v i).quenches = s.quenches := rfl
@[simp] theorem wr_frozen (s : State) (f : Field) (v i : Nat) : (s.wr f v i).frozen = s.frozen := rfl
@[simp] theorem wr_meter (s : State) (f : Field) (v i : Nat) : (s.wr f v i).meter = s.meter := rfl
@[simp] theorem wr_kyrdo (s : State) (f : Field) (v i : Nat) : (s.wr f v i).kyrdo = s.kyrdo := rfl
@[simp] theorem wr_kyreqs (s : State) (f : Field) (v i : Nat) : (s.wr f v i).kyreqs = s.kyreqs := rfl
@[simp] theorem wr_staged (s : State) (f : Field) (v i : Nat) : (s.wr f v i).staged = s.staged := rfl
@[simp] theorem wr_power (s : State) (f : Field) (v i : Nat) : (s.wr f v i).power = s.power := rfl
@[simp] theorem wr_exit (s : State) (f : Field) (v i : Nat) : (s.wr f v i).exit = s.exit := rfl
@[simp] theorem wr_breset (s : State) (f : Field) (v i : Nat) : (s.wr f v i).breset = s.breset := rfl
@[simp] theorem wr_misses (s : State) (f : Field) (v i : Nat) : (s.wr f v i).misses = s.misses := rfl
@[simp] theorem wr_snap (s : State) (f : Field) (v i : Nat) : (s.wr f v i).snap = s.snap := rfl
@[simp] theorem wr_faulted (s : State) (f : Field) (v i : Nat) : (s.wr f v i).faulted = s.faulted := rfl
@[simp] theorem wr_waiting (s : State) (f : Field) (v i : Nat) : (s.wr f v i).waiting = s.waiting := rfl
@[simp] theorem wr_cycles (s : State) (f : Field) (v i : Nat) : (s.wr f v i).cycles = s.cycles := rfl
@[simp] theorem wr_groupUse (s : State) (f : Field) (v i : Nat) : (s.wr f v i).groupUse = s.groupUse := rfl
@[simp] theorem wr_calls (s : State) (f : Field) (v i : Nat) : (s.wr f v i).calls = s.calls := rfl
@[simp] theorem wr_turns (s : State) (f : Field) (v i : Nat) : (s.wr f v i).turns = s.turns := rfl
@[simp] theorem wr_sigBuf (s : State) (f : Field) (v i : Nat) : (s.wr f v i).sigBuf = s.sigBuf := rfl
@[simp] theorem wr_dbBuf (s : State) (f : Field) (v i : Nat) : (s.wr f v i).dbBuf = s.dbBuf := rfl
@[simp] theorem wr_errWait (s : State) (f : Field) (v i : Nat) : (s.wr f v i).errWait = s.errWait := rfl
@[simp] theorem wr_pending (s : State) (f : Field) (v i : Nat) : (s.wr f v i).pending = s.pending := rfl

/-! ## State.bump -/

@[simp] theorem bump_time (s : State) (f : Field) (i n : Nat) : (s.bump f i n).time = s.time := rfl
@[simp] theorem bump_nextId (s : State) (f : Field) (i n : Nat) : (s.bump f i n).nextId = s.nextId := rfl
@[simp] theorem bump_hbm (s : State) (f : Field) (i n : Nat) : (s.bump f i n).hbm = s.hbm := rfl
@[simp] theorem bump_wbuf (s : State) (f : Field) (i n : Nat) : (s.bump f i n).wbuf = s.wbuf := rfl
@[simp] theorem bump_sent (s : State) (f : Field) (i n : Nat) : (s.bump f i n).sent = s.sent := rfl
@[simp] theorem bump_hlp (s : State) (f : Field) (i n : Nat) : (s.bump f i n).hlp = s.hlp := rfl
@[simp] theorem bump_qm (s : State) (f : Field) (i n : Nat) : (s.bump f i n).qm = s.qm := rfl
@[simp] theorem bump_moulds (s : State) (f : Field) (i n : Nat) : (s.bump f i n).moulds = s.moulds := rfl
@[simp] theorem bump_ctxs (s : State) (f : Field) (i n : Nat) : (s.bump f i n).ctxs = s.ctxs := rfl
@[simp] theorem bump_kernels (s : State) (f : Field) (i n : Nat) : (s.bump f i n).kernels = s.kernels := rfl
@[simp] theorem bump_lanes (s : State) (f : Field) (i n : Nat) : (s.bump f i n).lanes = s.lanes := rfl
@[simp] theorem bump_reqs (s : State) (f : Field) (i n : Nat) : (s.bump f i n).reqs = s.reqs := rfl
@[simp] theorem bump_fences (s : State) (f : Field) (i n : Nat) : (s.bump f i n).fences = s.fences := rfl
@[simp] theorem bump_keys (s : State) (f : Field) (i n : Nat) : (s.bump f i n).keys = s.keys := rfl
@[simp] theorem bump_nodes (s : State) (f : Field) (i n : Nat) : (s.bump f i n).nodes = s.nodes := rfl
@[simp] theorem bump_readyAt (s : State) (f : Field) (i n : Nat) : (s.bump f i n).readyAt = s.readyAt := rfl
@[simp] theorem bump_xl (s : State) (f : Field) (i n : Nat) : (s.bump f i n).xl = s.xl := rfl
@[simp] theorem bump_tier (s : State) (f : Field) (i n : Nat) : (s.bump f i n).tier = s.tier := rfl
@[simp] theorem bump_copies (s : State) (f : Field) (i n : Nat) : (s.bump f i n).copies = s.copies := rfl
@[simp] theorem bump_route (s : State) (f : Field) (i n : Nat) : (s.bump f i n).route = s.route := rfl
@[simp] theorem bump_cast (s : State) (f : Field) (i n : Nat) : (s.bump f i n).cast = s.cast := rfl
@[simp] theorem bump_ev (s : State) (f : Field) (i n : Nat) : (s.bump f i n).ev = s.ev := rfl
@[simp] theorem bump_mbox (s : State) (f : Field) (i n : Nat) : (s.bump f i n).mbox = s.mbox := rfl
@[simp] theorem bump_vaults (s : State) (f : Field) (i n : Nat) : (s.bump f i n).vaults = s.vaults := rfl
@[simp] theorem bump_tears (s : State) (f : Field) (i n : Nat) : (s.bump f i n).tears = s.tears := rfl
@[simp] theorem bump_scrubs (s : State) (f : Field) (i n : Nat) : (s.bump f i n).scrubs = s.scrubs := rfl
@[simp] theorem bump_scrubAt (s : State) (f : Field) (i n : Nat) : (s.bump f i n).scrubAt = s.scrubAt := rfl
@[simp] theorem bump_seals (s : State) (f : Field) (i n : Nat) : (s.bump f i n).seals = s.seals := rfl
@[simp] theorem bump_quenches (s : State) (f : Field) (i n : Nat) : (s.bump f i n).quenches = s.quenches := rfl
@[simp] theorem bump_frozen (s : State) (f : Field) (i n : Nat) : (s.bump f i n).frozen = s.frozen := rfl
@[simp] theorem bump_meter (s : State) (f : Field) (i n : Nat) : (s.bump f i n).meter = s.meter := rfl
@[simp] theorem bump_kyrdo (s : State) (f : Field) (i n : Nat) : (s.bump f i n).kyrdo = s.kyrdo := rfl
@[simp] theorem bump_kyreqs (s : State) (f : Field) (i n : Nat) : (s.bump f i n).kyreqs = s.kyreqs := rfl
@[simp] theorem bump_staged (s : State) (f : Field) (i n : Nat) : (s.bump f i n).staged = s.staged := rfl
@[simp] theorem bump_power (s : State) (f : Field) (i n : Nat) : (s.bump f i n).power = s.power := rfl
@[simp] theorem bump_exit (s : State) (f : Field) (i n : Nat) : (s.bump f i n).exit = s.exit := rfl
@[simp] theorem bump_breset (s : State) (f : Field) (i n : Nat) : (s.bump f i n).breset = s.breset := rfl
@[simp] theorem bump_misses (s : State) (f : Field) (i n : Nat) : (s.bump f i n).misses = s.misses := rfl
@[simp] theorem bump_snap (s : State) (f : Field) (i n : Nat) : (s.bump f i n).snap = s.snap := rfl
@[simp] theorem bump_faulted (s : State) (f : Field) (i n : Nat) : (s.bump f i n).faulted = s.faulted := rfl
@[simp] theorem bump_waiting (s : State) (f : Field) (i n : Nat) : (s.bump f i n).waiting = s.waiting := rfl
@[simp] theorem bump_cycles (s : State) (f : Field) (i n : Nat) : (s.bump f i n).cycles = s.cycles := rfl
@[simp] theorem bump_groupUse (s : State) (f : Field) (i n : Nat) : (s.bump f i n).groupUse = s.groupUse := rfl
@[simp] theorem bump_calls (s : State) (f : Field) (i n : Nat) : (s.bump f i n).calls = s.calls := rfl
@[simp] theorem bump_turns (s : State) (f : Field) (i n : Nat) : (s.bump f i n).turns = s.turns := rfl
@[simp] theorem bump_sigBuf (s : State) (f : Field) (i n : Nat) : (s.bump f i n).sigBuf = s.sigBuf := rfl
@[simp] theorem bump_dbBuf (s : State) (f : Field) (i n : Nat) : (s.bump f i n).dbBuf = s.dbBuf := rfl
@[simp] theorem bump_errWait (s : State) (f : Field) (i n : Nat) : (s.bump f i n).errWait = s.errWait := rfl
@[simp] theorem bump_pending (s : State) (f : Field) (i n : Nat) : (s.bump f i n).pending = s.pending := rfl

/-! ## State.adv -/

@[simp] theorem adv_time (s : State) (f : Field) (i n : Nat) : (s.adv f i n).time = s.time := rfl
@[simp] theorem adv_nextId (s : State) (f : Field) (i n : Nat) : (s.adv f i n).nextId = s.nextId := rfl
@[simp] theorem adv_hbm (s : State) (f : Field) (i n : Nat) : (s.adv f i n).hbm = s.hbm := rfl
@[simp] theorem adv_wbuf (s : State) (f : Field) (i n : Nat) : (s.adv f i n).wbuf = s.wbuf := rfl
@[simp] theorem adv_sent (s : State) (f : Field) (i n : Nat) : (s.adv f i n).sent = s.sent := rfl
@[simp] theorem adv_hlp (s : State) (f : Field) (i n : Nat) : (s.adv f i n).hlp = s.hlp := rfl
@[simp] theorem adv_qm (s : State) (f : Field) (i n : Nat) : (s.adv f i n).qm = s.qm := rfl
@[simp] theorem adv_moulds (s : State) (f : Field) (i n : Nat) : (s.adv f i n).moulds = s.moulds := rfl
@[simp] theorem adv_ctxs (s : State) (f : Field) (i n : Nat) : (s.adv f i n).ctxs = s.ctxs := rfl
@[simp] theorem adv_kernels (s : State) (f : Field) (i n : Nat) : (s.adv f i n).kernels = s.kernels := rfl
@[simp] theorem adv_lanes (s : State) (f : Field) (i n : Nat) : (s.adv f i n).lanes = s.lanes := rfl
@[simp] theorem adv_reqs (s : State) (f : Field) (i n : Nat) : (s.adv f i n).reqs = s.reqs := rfl
@[simp] theorem adv_fences (s : State) (f : Field) (i n : Nat) : (s.adv f i n).fences = s.fences := rfl
@[simp] theorem adv_keys (s : State) (f : Field) (i n : Nat) : (s.adv f i n).keys = s.keys := rfl
@[simp] theorem adv_nodes (s : State) (f : Field) (i n : Nat) : (s.adv f i n).nodes = s.nodes := rfl
@[simp] theorem adv_readyAt (s : State) (f : Field) (i n : Nat) : (s.adv f i n).readyAt = s.readyAt := rfl
@[simp] theorem adv_xl (s : State) (f : Field) (i n : Nat) : (s.adv f i n).xl = s.xl := rfl
@[simp] theorem adv_tier (s : State) (f : Field) (i n : Nat) : (s.adv f i n).tier = s.tier := rfl
@[simp] theorem adv_copies (s : State) (f : Field) (i n : Nat) : (s.adv f i n).copies = s.copies := rfl
@[simp] theorem adv_route (s : State) (f : Field) (i n : Nat) : (s.adv f i n).route = s.route := rfl
@[simp] theorem adv_cast (s : State) (f : Field) (i n : Nat) : (s.adv f i n).cast = s.cast := rfl
@[simp] theorem adv_ev (s : State) (f : Field) (i n : Nat) : (s.adv f i n).ev = s.ev := rfl
@[simp] theorem adv_mbox (s : State) (f : Field) (i n : Nat) : (s.adv f i n).mbox = s.mbox := rfl
@[simp] theorem adv_vaults (s : State) (f : Field) (i n : Nat) : (s.adv f i n).vaults = s.vaults := rfl
@[simp] theorem adv_tears (s : State) (f : Field) (i n : Nat) : (s.adv f i n).tears = s.tears := rfl
@[simp] theorem adv_scrubs (s : State) (f : Field) (i n : Nat) : (s.adv f i n).scrubs = s.scrubs := rfl
@[simp] theorem adv_scrubAt (s : State) (f : Field) (i n : Nat) : (s.adv f i n).scrubAt = s.scrubAt := rfl
@[simp] theorem adv_seals (s : State) (f : Field) (i n : Nat) : (s.adv f i n).seals = s.seals := rfl
@[simp] theorem adv_quenches (s : State) (f : Field) (i n : Nat) : (s.adv f i n).quenches = s.quenches := rfl
@[simp] theorem adv_frozen (s : State) (f : Field) (i n : Nat) : (s.adv f i n).frozen = s.frozen := rfl
@[simp] theorem adv_meter (s : State) (f : Field) (i n : Nat) : (s.adv f i n).meter = s.meter := rfl
@[simp] theorem adv_kyrdo (s : State) (f : Field) (i n : Nat) : (s.adv f i n).kyrdo = s.kyrdo := rfl
@[simp] theorem adv_kyreqs (s : State) (f : Field) (i n : Nat) : (s.adv f i n).kyreqs = s.kyreqs := rfl
@[simp] theorem adv_staged (s : State) (f : Field) (i n : Nat) : (s.adv f i n).staged = s.staged := rfl
@[simp] theorem adv_power (s : State) (f : Field) (i n : Nat) : (s.adv f i n).power = s.power := rfl
@[simp] theorem adv_exit (s : State) (f : Field) (i n : Nat) : (s.adv f i n).exit = s.exit := rfl
@[simp] theorem adv_breset (s : State) (f : Field) (i n : Nat) : (s.adv f i n).breset = s.breset := rfl
@[simp] theorem adv_misses (s : State) (f : Field) (i n : Nat) : (s.adv f i n).misses = s.misses := rfl
@[simp] theorem adv_snap (s : State) (f : Field) (i n : Nat) : (s.adv f i n).snap = s.snap := rfl
@[simp] theorem adv_faulted (s : State) (f : Field) (i n : Nat) : (s.adv f i n).faulted = s.faulted := rfl
@[simp] theorem adv_waiting (s : State) (f : Field) (i n : Nat) : (s.adv f i n).waiting = s.waiting := rfl
@[simp] theorem adv_cycles (s : State) (f : Field) (i n : Nat) : (s.adv f i n).cycles = s.cycles := rfl
@[simp] theorem adv_groupUse (s : State) (f : Field) (i n : Nat) : (s.adv f i n).groupUse = s.groupUse := rfl
@[simp] theorem adv_calls (s : State) (f : Field) (i n : Nat) : (s.adv f i n).calls = s.calls := rfl
@[simp] theorem adv_turns (s : State) (f : Field) (i n : Nat) : (s.adv f i n).turns = s.turns := rfl
@[simp] theorem adv_sigBuf (s : State) (f : Field) (i n : Nat) : (s.adv f i n).sigBuf = s.sigBuf := rfl
@[simp] theorem adv_dbBuf (s : State) (f : Field) (i n : Nat) : (s.adv f i n).dbBuf = s.dbBuf := rfl
@[simp] theorem adv_errWait (s : State) (f : Field) (i n : Nat) : (s.adv f i n).errWait = s.errWait := rfl
@[simp] theorem adv_pending (s : State) (f : Field) (i n : Nat) : (s.adv f i n).pending = s.pending := rfl

/-! ## State.rst -/

@[simp] theorem rst_time (s : State) (f : Field) (i : Nat) : (s.rst f i).time = s.time := rfl
@[simp] theorem rst_nextId (s : State) (f : Field) (i : Nat) : (s.rst f i).nextId = s.nextId := rfl
@[simp] theorem rst_hbm (s : State) (f : Field) (i : Nat) : (s.rst f i).hbm = s.hbm := rfl
@[simp] theorem rst_wbuf (s : State) (f : Field) (i : Nat) : (s.rst f i).wbuf = s.wbuf := rfl
@[simp] theorem rst_sent (s : State) (f : Field) (i : Nat) : (s.rst f i).sent = s.sent := rfl
@[simp] theorem rst_hlp (s : State) (f : Field) (i : Nat) : (s.rst f i).hlp = s.hlp := rfl
@[simp] theorem rst_qm (s : State) (f : Field) (i : Nat) : (s.rst f i).qm = s.qm := rfl
@[simp] theorem rst_moulds (s : State) (f : Field) (i : Nat) : (s.rst f i).moulds = s.moulds := rfl
@[simp] theorem rst_ctxs (s : State) (f : Field) (i : Nat) : (s.rst f i).ctxs = s.ctxs := rfl
@[simp] theorem rst_kernels (s : State) (f : Field) (i : Nat) : (s.rst f i).kernels = s.kernels := rfl
@[simp] theorem rst_lanes (s : State) (f : Field) (i : Nat) : (s.rst f i).lanes = s.lanes := rfl
@[simp] theorem rst_reqs (s : State) (f : Field) (i : Nat) : (s.rst f i).reqs = s.reqs := rfl
@[simp] theorem rst_fences (s : State) (f : Field) (i : Nat) : (s.rst f i).fences = s.fences := rfl
@[simp] theorem rst_keys (s : State) (f : Field) (i : Nat) : (s.rst f i).keys = s.keys := rfl
@[simp] theorem rst_nodes (s : State) (f : Field) (i : Nat) : (s.rst f i).nodes = s.nodes := rfl
@[simp] theorem rst_readyAt (s : State) (f : Field) (i : Nat) : (s.rst f i).readyAt = s.readyAt := rfl
@[simp] theorem rst_xl (s : State) (f : Field) (i : Nat) : (s.rst f i).xl = s.xl := rfl
@[simp] theorem rst_tier (s : State) (f : Field) (i : Nat) : (s.rst f i).tier = s.tier := rfl
@[simp] theorem rst_copies (s : State) (f : Field) (i : Nat) : (s.rst f i).copies = s.copies := rfl
@[simp] theorem rst_route (s : State) (f : Field) (i : Nat) : (s.rst f i).route = s.route := rfl
@[simp] theorem rst_cast (s : State) (f : Field) (i : Nat) : (s.rst f i).cast = s.cast := rfl
@[simp] theorem rst_ev (s : State) (f : Field) (i : Nat) : (s.rst f i).ev = s.ev := rfl
@[simp] theorem rst_mbox (s : State) (f : Field) (i : Nat) : (s.rst f i).mbox = s.mbox := rfl
@[simp] theorem rst_vaults (s : State) (f : Field) (i : Nat) : (s.rst f i).vaults = s.vaults := rfl
@[simp] theorem rst_tears (s : State) (f : Field) (i : Nat) : (s.rst f i).tears = s.tears := rfl
@[simp] theorem rst_scrubs (s : State) (f : Field) (i : Nat) : (s.rst f i).scrubs = s.scrubs := rfl
@[simp] theorem rst_scrubAt (s : State) (f : Field) (i : Nat) : (s.rst f i).scrubAt = s.scrubAt := rfl
@[simp] theorem rst_seals (s : State) (f : Field) (i : Nat) : (s.rst f i).seals = s.seals := rfl
@[simp] theorem rst_quenches (s : State) (f : Field) (i : Nat) : (s.rst f i).quenches = s.quenches := rfl
@[simp] theorem rst_frozen (s : State) (f : Field) (i : Nat) : (s.rst f i).frozen = s.frozen := rfl
@[simp] theorem rst_meter (s : State) (f : Field) (i : Nat) : (s.rst f i).meter = s.meter := rfl
@[simp] theorem rst_kyrdo (s : State) (f : Field) (i : Nat) : (s.rst f i).kyrdo = s.kyrdo := rfl
@[simp] theorem rst_kyreqs (s : State) (f : Field) (i : Nat) : (s.rst f i).kyreqs = s.kyreqs := rfl
@[simp] theorem rst_staged (s : State) (f : Field) (i : Nat) : (s.rst f i).staged = s.staged := rfl
@[simp] theorem rst_power (s : State) (f : Field) (i : Nat) : (s.rst f i).power = s.power := rfl
@[simp] theorem rst_exit (s : State) (f : Field) (i : Nat) : (s.rst f i).exit = s.exit := rfl
@[simp] theorem rst_breset (s : State) (f : Field) (i : Nat) : (s.rst f i).breset = s.breset := rfl
@[simp] theorem rst_misses (s : State) (f : Field) (i : Nat) : (s.rst f i).misses = s.misses := rfl
@[simp] theorem rst_snap (s : State) (f : Field) (i : Nat) : (s.rst f i).snap = s.snap := rfl
@[simp] theorem rst_faulted (s : State) (f : Field) (i : Nat) : (s.rst f i).faulted = s.faulted := rfl
@[simp] theorem rst_waiting (s : State) (f : Field) (i : Nat) : (s.rst f i).waiting = s.waiting := rfl
@[simp] theorem rst_cycles (s : State) (f : Field) (i : Nat) : (s.rst f i).cycles = s.cycles := rfl
@[simp] theorem rst_groupUse (s : State) (f : Field) (i : Nat) : (s.rst f i).groupUse = s.groupUse := rfl
@[simp] theorem rst_calls (s : State) (f : Field) (i : Nat) : (s.rst f i).calls = s.calls := rfl
@[simp] theorem rst_turns (s : State) (f : Field) (i : Nat) : (s.rst f i).turns = s.turns := rfl
@[simp] theorem rst_sigBuf (s : State) (f : Field) (i : Nat) : (s.rst f i).sigBuf = s.sigBuf := rfl
@[simp] theorem rst_dbBuf (s : State) (f : Field) (i : Nat) : (s.rst f i).dbBuf = s.dbBuf := rfl
@[simp] theorem rst_errWait (s : State) (f : Field) (i : Nat) : (s.rst f i).errWait = s.errWait := rfl
@[simp] theorem rst_pending (s : State) (f : Field) (i : Nat) : (s.rst f i).pending = s.pending := rfl

/-! ## State.say -/

@[simp] theorem say_time (s : State) (m : Msg) : (s.say m).time = s.time := rfl
@[simp] theorem say_nextId (s : State) (m : Msg) : (s.say m).nextId = s.nextId := rfl
@[simp] theorem say_regs (s : State) (m : Msg) : (s.say m).regs = s.regs := rfl
@[simp] theorem say_hbm (s : State) (m : Msg) : (s.say m).hbm = s.hbm := rfl
@[simp] theorem say_wbuf (s : State) (m : Msg) : (s.say m).wbuf = s.wbuf := rfl
@[simp] theorem say_hlp (s : State) (m : Msg) : (s.say m).hlp = s.hlp := rfl
@[simp] theorem say_qm (s : State) (m : Msg) : (s.say m).qm = s.qm := rfl
@[simp] theorem say_moulds (s : State) (m : Msg) : (s.say m).moulds = s.moulds := rfl
@[simp] theorem say_ctxs (s : State) (m : Msg) : (s.say m).ctxs = s.ctxs := rfl
@[simp] theorem say_kernels (s : State) (m : Msg) : (s.say m).kernels = s.kernels := rfl
@[simp] theorem say_lanes (s : State) (m : Msg) : (s.say m).lanes = s.lanes := rfl
@[simp] theorem say_reqs (s : State) (m : Msg) : (s.say m).reqs = s.reqs := rfl
@[simp] theorem say_fences (s : State) (m : Msg) : (s.say m).fences = s.fences := rfl
@[simp] theorem say_keys (s : State) (m : Msg) : (s.say m).keys = s.keys := rfl
@[simp] theorem say_nodes (s : State) (m : Msg) : (s.say m).nodes = s.nodes := rfl
@[simp] theorem say_readyAt (s : State) (m : Msg) : (s.say m).readyAt = s.readyAt := rfl
@[simp] theorem say_xl (s : State) (m : Msg) : (s.say m).xl = s.xl := rfl
@[simp] theorem say_tier (s : State) (m : Msg) : (s.say m).tier = s.tier := rfl
@[simp] theorem say_copies (s : State) (m : Msg) : (s.say m).copies = s.copies := rfl
@[simp] theorem say_route (s : State) (m : Msg) : (s.say m).route = s.route := rfl
@[simp] theorem say_cast (s : State) (m : Msg) : (s.say m).cast = s.cast := rfl
@[simp] theorem say_ev (s : State) (m : Msg) : (s.say m).ev = s.ev := rfl
@[simp] theorem say_mbox (s : State) (m : Msg) : (s.say m).mbox = s.mbox := rfl
@[simp] theorem say_vaults (s : State) (m : Msg) : (s.say m).vaults = s.vaults := rfl
@[simp] theorem say_tears (s : State) (m : Msg) : (s.say m).tears = s.tears := rfl
@[simp] theorem say_scrubs (s : State) (m : Msg) : (s.say m).scrubs = s.scrubs := rfl
@[simp] theorem say_scrubAt (s : State) (m : Msg) : (s.say m).scrubAt = s.scrubAt := rfl
@[simp] theorem say_seals (s : State) (m : Msg) : (s.say m).seals = s.seals := rfl
@[simp] theorem say_quenches (s : State) (m : Msg) : (s.say m).quenches = s.quenches := rfl
@[simp] theorem say_frozen (s : State) (m : Msg) : (s.say m).frozen = s.frozen := rfl
@[simp] theorem say_meter (s : State) (m : Msg) : (s.say m).meter = s.meter := rfl
@[simp] theorem say_kyrdo (s : State) (m : Msg) : (s.say m).kyrdo = s.kyrdo := rfl
@[simp] theorem say_kyreqs (s : State) (m : Msg) : (s.say m).kyreqs = s.kyreqs := rfl
@[simp] theorem say_staged (s : State) (m : Msg) : (s.say m).staged = s.staged := rfl
@[simp] theorem say_power (s : State) (m : Msg) : (s.say m).power = s.power := rfl
@[simp] theorem say_exit (s : State) (m : Msg) : (s.say m).exit = s.exit := rfl
@[simp] theorem say_breset (s : State) (m : Msg) : (s.say m).breset = s.breset := rfl
@[simp] theorem say_misses (s : State) (m : Msg) : (s.say m).misses = s.misses := rfl
@[simp] theorem say_snap (s : State) (m : Msg) : (s.say m).snap = s.snap := rfl
@[simp] theorem say_faulted (s : State) (m : Msg) : (s.say m).faulted = s.faulted := rfl
@[simp] theorem say_waiting (s : State) (m : Msg) : (s.say m).waiting = s.waiting := rfl
@[simp] theorem say_cycles (s : State) (m : Msg) : (s.say m).cycles = s.cycles := rfl
@[simp] theorem say_groupUse (s : State) (m : Msg) : (s.say m).groupUse = s.groupUse := rfl
@[simp] theorem say_calls (s : State) (m : Msg) : (s.say m).calls = s.calls := rfl
@[simp] theorem say_turns (s : State) (m : Msg) : (s.say m).turns = s.turns := rfl
@[simp] theorem say_sigBuf (s : State) (m : Msg) : (s.say m).sigBuf = s.sigBuf := rfl
@[simp] theorem say_dbBuf (s : State) (m : Msg) : (s.say m).dbBuf = s.dbBuf := rfl
@[simp] theorem say_errWait (s : State) (m : Msg) : (s.say m).errWait = s.errWait := rfl
@[simp] theorem say_pending (s : State) (m : Msg) : (s.say m).pending = s.pending := rfl

/-! ## State.elapse -/

@[simp] theorem elapse_nextId (s : State) (t : Nat) : (s.elapse t).nextId = s.nextId := rfl
@[simp] theorem elapse_regs (s : State) (t : Nat) : (s.elapse t).regs = s.regs := rfl
@[simp] theorem elapse_hbm (s : State) (t : Nat) : (s.elapse t).hbm = s.hbm := rfl
@[simp] theorem elapse_wbuf (s : State) (t : Nat) : (s.elapse t).wbuf = s.wbuf := rfl
@[simp] theorem elapse_sent (s : State) (t : Nat) : (s.elapse t).sent = s.sent := rfl
@[simp] theorem elapse_hlp (s : State) (t : Nat) : (s.elapse t).hlp = s.hlp := rfl
@[simp] theorem elapse_qm (s : State) (t : Nat) : (s.elapse t).qm = s.qm := rfl
@[simp] theorem elapse_moulds (s : State) (t : Nat) : (s.elapse t).moulds = s.moulds := rfl
@[simp] theorem elapse_ctxs (s : State) (t : Nat) : (s.elapse t).ctxs = s.ctxs := rfl
@[simp] theorem elapse_kernels (s : State) (t : Nat) : (s.elapse t).kernels = s.kernels := rfl
@[simp] theorem elapse_lanes (s : State) (t : Nat) : (s.elapse t).lanes = s.lanes := rfl
@[simp] theorem elapse_reqs (s : State) (t : Nat) : (s.elapse t).reqs = s.reqs := rfl
@[simp] theorem elapse_fences (s : State) (t : Nat) : (s.elapse t).fences = s.fences := rfl
@[simp] theorem elapse_keys (s : State) (t : Nat) : (s.elapse t).keys = s.keys := rfl
@[simp] theorem elapse_nodes (s : State) (t : Nat) : (s.elapse t).nodes = s.nodes := rfl
@[simp] theorem elapse_readyAt (s : State) (t : Nat) : (s.elapse t).readyAt = s.readyAt := rfl
@[simp] theorem elapse_xl (s : State) (t : Nat) : (s.elapse t).xl = s.xl := rfl
@[simp] theorem elapse_tier (s : State) (t : Nat) : (s.elapse t).tier = s.tier := rfl
@[simp] theorem elapse_copies (s : State) (t : Nat) : (s.elapse t).copies = s.copies := rfl
@[simp] theorem elapse_route (s : State) (t : Nat) : (s.elapse t).route = s.route := rfl
@[simp] theorem elapse_cast (s : State) (t : Nat) : (s.elapse t).cast = s.cast := rfl
@[simp] theorem elapse_ev (s : State) (t : Nat) : (s.elapse t).ev = s.ev := rfl
@[simp] theorem elapse_mbox (s : State) (t : Nat) : (s.elapse t).mbox = s.mbox := rfl
@[simp] theorem elapse_vaults (s : State) (t : Nat) : (s.elapse t).vaults = s.vaults := rfl
@[simp] theorem elapse_tears (s : State) (t : Nat) : (s.elapse t).tears = s.tears := rfl
@[simp] theorem elapse_scrubs (s : State) (t : Nat) : (s.elapse t).scrubs = s.scrubs := rfl
@[simp] theorem elapse_scrubAt (s : State) (t : Nat) : (s.elapse t).scrubAt = s.scrubAt := rfl
@[simp] theorem elapse_seals (s : State) (t : Nat) : (s.elapse t).seals = s.seals := rfl
@[simp] theorem elapse_quenches (s : State) (t : Nat) : (s.elapse t).quenches = s.quenches := rfl
@[simp] theorem elapse_frozen (s : State) (t : Nat) : (s.elapse t).frozen = s.frozen := rfl
@[simp] theorem elapse_meter (s : State) (t : Nat) : (s.elapse t).meter = s.meter := rfl
@[simp] theorem elapse_kyrdo (s : State) (t : Nat) : (s.elapse t).kyrdo = s.kyrdo := rfl
@[simp] theorem elapse_kyreqs (s : State) (t : Nat) : (s.elapse t).kyreqs = s.kyreqs := rfl
@[simp] theorem elapse_staged (s : State) (t : Nat) : (s.elapse t).staged = s.staged := rfl
@[simp] theorem elapse_power (s : State) (t : Nat) : (s.elapse t).power = s.power := rfl
@[simp] theorem elapse_exit (s : State) (t : Nat) : (s.elapse t).exit = s.exit := rfl
@[simp] theorem elapse_breset (s : State) (t : Nat) : (s.elapse t).breset = s.breset := rfl
@[simp] theorem elapse_misses (s : State) (t : Nat) : (s.elapse t).misses = s.misses := rfl
@[simp] theorem elapse_snap (s : State) (t : Nat) : (s.elapse t).snap = s.snap := rfl
@[simp] theorem elapse_faulted (s : State) (t : Nat) : (s.elapse t).faulted = s.faulted := rfl
@[simp] theorem elapse_waiting (s : State) (t : Nat) : (s.elapse t).waiting = s.waiting := rfl
@[simp] theorem elapse_cycles (s : State) (t : Nat) : (s.elapse t).cycles = s.cycles := rfl
@[simp] theorem elapse_groupUse (s : State) (t : Nat) : (s.elapse t).groupUse = s.groupUse := rfl
@[simp] theorem elapse_calls (s : State) (t : Nat) : (s.elapse t).calls = s.calls := rfl
@[simp] theorem elapse_turns (s : State) (t : Nat) : (s.elapse t).turns = s.turns := rfl
@[simp] theorem elapse_sigBuf (s : State) (t : Nat) : (s.elapse t).sigBuf = s.sigBuf := rfl
@[simp] theorem elapse_dbBuf (s : State) (t : Nat) : (s.elapse t).dbBuf = s.dbBuf := rfl
@[simp] theorem elapse_errWait (s : State) (t : Nat) : (s.elapse t).errWait = s.errWait := rfl
@[simp] theorem elapse_pending (s : State) (t : Nat) : (s.elapse t).pending = s.pending := rfl

/-! ## State.modCtx -/

@[simp] theorem modCtx_time (s : State) (c : Nat) (g : Ctx → Ctx) : (s.modCtx c g).time = s.time := rfl
@[simp] theorem modCtx_nextId (s : State) (c : Nat) (g : Ctx → Ctx) : (s.modCtx c g).nextId = s.nextId := rfl
@[simp] theorem modCtx_regs (s : State) (c : Nat) (g : Ctx → Ctx) : (s.modCtx c g).regs = s.regs := rfl
@[simp] theorem modCtx_hbm (s : State) (c : Nat) (g : Ctx → Ctx) : (s.modCtx c g).hbm = s.hbm := rfl
@[simp] theorem modCtx_wbuf (s : State) (c : Nat) (g : Ctx → Ctx) : (s.modCtx c g).wbuf = s.wbuf := rfl
@[simp] theorem modCtx_sent (s : State) (c : Nat) (g : Ctx → Ctx) : (s.modCtx c g).sent = s.sent := rfl
@[simp] theorem modCtx_hlp (s : State) (c : Nat) (g : Ctx → Ctx) : (s.modCtx c g).hlp = s.hlp := rfl
@[simp] theorem modCtx_qm (s : State) (c : Nat) (g : Ctx → Ctx) : (s.modCtx c g).qm = s.qm := rfl
@[simp] theorem modCtx_moulds (s : State) (c : Nat) (g : Ctx → Ctx) : (s.modCtx c g).moulds = s.moulds := rfl
@[simp] theorem modCtx_kernels (s : State) (c : Nat) (g : Ctx → Ctx) : (s.modCtx c g).kernels = s.kernels := rfl
@[simp] theorem modCtx_lanes (s : State) (c : Nat) (g : Ctx → Ctx) : (s.modCtx c g).lanes = s.lanes := rfl
@[simp] theorem modCtx_reqs (s : State) (c : Nat) (g : Ctx → Ctx) : (s.modCtx c g).reqs = s.reqs := rfl
@[simp] theorem modCtx_fences (s : State) (c : Nat) (g : Ctx → Ctx) : (s.modCtx c g).fences = s.fences := rfl
@[simp] theorem modCtx_keys (s : State) (c : Nat) (g : Ctx → Ctx) : (s.modCtx c g).keys = s.keys := rfl
@[simp] theorem modCtx_nodes (s : State) (c : Nat) (g : Ctx → Ctx) : (s.modCtx c g).nodes = s.nodes := rfl
@[simp] theorem modCtx_readyAt (s : State) (c : Nat) (g : Ctx → Ctx) : (s.modCtx c g).readyAt = s.readyAt := rfl
@[simp] theorem modCtx_xl (s : State) (c : Nat) (g : Ctx → Ctx) : (s.modCtx c g).xl = s.xl := rfl
@[simp] theorem modCtx_tier (s : State) (c : Nat) (g : Ctx → Ctx) : (s.modCtx c g).tier = s.tier := rfl
@[simp] theorem modCtx_copies (s : State) (c : Nat) (g : Ctx → Ctx) : (s.modCtx c g).copies = s.copies := rfl
@[simp] theorem modCtx_route (s : State) (c : Nat) (g : Ctx → Ctx) : (s.modCtx c g).route = s.route := rfl
@[simp] theorem modCtx_cast (s : State) (c : Nat) (g : Ctx → Ctx) : (s.modCtx c g).cast = s.cast := rfl
@[simp] theorem modCtx_ev (s : State) (c : Nat) (g : Ctx → Ctx) : (s.modCtx c g).ev = s.ev := rfl
@[simp] theorem modCtx_mbox (s : State) (c : Nat) (g : Ctx → Ctx) : (s.modCtx c g).mbox = s.mbox := rfl
@[simp] theorem modCtx_vaults (s : State) (c : Nat) (g : Ctx → Ctx) : (s.modCtx c g).vaults = s.vaults := rfl
@[simp] theorem modCtx_tears (s : State) (c : Nat) (g : Ctx → Ctx) : (s.modCtx c g).tears = s.tears := rfl
@[simp] theorem modCtx_scrubs (s : State) (c : Nat) (g : Ctx → Ctx) : (s.modCtx c g).scrubs = s.scrubs := rfl
@[simp] theorem modCtx_scrubAt (s : State) (c : Nat) (g : Ctx → Ctx) : (s.modCtx c g).scrubAt = s.scrubAt := rfl
@[simp] theorem modCtx_seals (s : State) (c : Nat) (g : Ctx → Ctx) : (s.modCtx c g).seals = s.seals := rfl
@[simp] theorem modCtx_quenches (s : State) (c : Nat) (g : Ctx → Ctx) : (s.modCtx c g).quenches = s.quenches := rfl
@[simp] theorem modCtx_frozen (s : State) (c : Nat) (g : Ctx → Ctx) : (s.modCtx c g).frozen = s.frozen := rfl
@[simp] theorem modCtx_meter (s : State) (c : Nat) (g : Ctx → Ctx) : (s.modCtx c g).meter = s.meter := rfl
@[simp] theorem modCtx_kyrdo (s : State) (c : Nat) (g : Ctx → Ctx) : (s.modCtx c g).kyrdo = s.kyrdo := rfl
@[simp] theorem modCtx_kyreqs (s : State) (c : Nat) (g : Ctx → Ctx) : (s.modCtx c g).kyreqs = s.kyreqs := rfl
@[simp] theorem modCtx_staged (s : State) (c : Nat) (g : Ctx → Ctx) : (s.modCtx c g).staged = s.staged := rfl
@[simp] theorem modCtx_power (s : State) (c : Nat) (g : Ctx → Ctx) : (s.modCtx c g).power = s.power := rfl
@[simp] theorem modCtx_exit (s : State) (c : Nat) (g : Ctx → Ctx) : (s.modCtx c g).exit = s.exit := rfl
@[simp] theorem modCtx_breset (s : State) (c : Nat) (g : Ctx → Ctx) : (s.modCtx c g).breset = s.breset := rfl
@[simp] theorem modCtx_misses (s : State) (c : Nat) (g : Ctx → Ctx) : (s.modCtx c g).misses = s.misses := rfl
@[simp] theorem modCtx_snap (s : State) (c : Nat) (g : Ctx → Ctx) : (s.modCtx c g).snap = s.snap := rfl
@[simp] theorem modCtx_faulted (s : State) (c : Nat) (g : Ctx → Ctx) : (s.modCtx c g).faulted = s.faulted := rfl
@[simp] theorem modCtx_waiting (s : State) (c : Nat) (g : Ctx → Ctx) : (s.modCtx c g).waiting = s.waiting := rfl
@[simp] theorem modCtx_cycles (s : State) (c : Nat) (g : Ctx → Ctx) : (s.modCtx c g).cycles = s.cycles := rfl
@[simp] theorem modCtx_groupUse (s : State) (c : Nat) (g : Ctx → Ctx) : (s.modCtx c g).groupUse = s.groupUse := rfl
@[simp] theorem modCtx_calls (s : State) (c : Nat) (g : Ctx → Ctx) : (s.modCtx c g).calls = s.calls := rfl
@[simp] theorem modCtx_turns (s : State) (c : Nat) (g : Ctx → Ctx) : (s.modCtx c g).turns = s.turns := rfl
@[simp] theorem modCtx_sigBuf (s : State) (c : Nat) (g : Ctx → Ctx) : (s.modCtx c g).sigBuf = s.sigBuf := rfl
@[simp] theorem modCtx_dbBuf (s : State) (c : Nat) (g : Ctx → Ctx) : (s.modCtx c g).dbBuf = s.dbBuf := rfl
@[simp] theorem modCtx_errWait (s : State) (c : Nat) (g : Ctx → Ctx) : (s.modCtx c g).errWait = s.errWait := rfl
@[simp] theorem modCtx_pending (s : State) (c : Nat) (g : Ctx → Ctx) : (s.modCtx c g).pending = s.pending := rfl

/-! ## State.setSlot -/

@[simp] theorem setSlot_time (s : State) (n v : Nat) : (s.setSlot n v).time = s.time := rfl
@[simp] theorem setSlot_nextId (s : State) (n v : Nat) : (s.setSlot n v).nextId = s.nextId := rfl
@[simp] theorem setSlot_hbm (s : State) (n v : Nat) : (s.setSlot n v).hbm = s.hbm := rfl
@[simp] theorem setSlot_wbuf (s : State) (n v : Nat) : (s.setSlot n v).wbuf = s.wbuf := rfl
@[simp] theorem setSlot_sent (s : State) (n v : Nat) : (s.setSlot n v).sent = s.sent := rfl
@[simp] theorem setSlot_hlp (s : State) (n v : Nat) : (s.setSlot n v).hlp = s.hlp := rfl
@[simp] theorem setSlot_qm (s : State) (n v : Nat) : (s.setSlot n v).qm = s.qm := rfl
@[simp] theorem setSlot_moulds (s : State) (n v : Nat) : (s.setSlot n v).moulds = s.moulds := rfl
@[simp] theorem setSlot_ctxs (s : State) (n v : Nat) : (s.setSlot n v).ctxs = s.ctxs := rfl
@[simp] theorem setSlot_kernels (s : State) (n v : Nat) : (s.setSlot n v).kernels = s.kernels := rfl
@[simp] theorem setSlot_lanes (s : State) (n v : Nat) : (s.setSlot n v).lanes = s.lanes := rfl
@[simp] theorem setSlot_reqs (s : State) (n v : Nat) : (s.setSlot n v).reqs = s.reqs := rfl
@[simp] theorem setSlot_fences (s : State) (n v : Nat) : (s.setSlot n v).fences = s.fences := rfl
@[simp] theorem setSlot_keys (s : State) (n v : Nat) : (s.setSlot n v).keys = s.keys := rfl
@[simp] theorem setSlot_nodes (s : State) (n v : Nat) : (s.setSlot n v).nodes = s.nodes := rfl
@[simp] theorem setSlot_readyAt (s : State) (n v : Nat) : (s.setSlot n v).readyAt = s.readyAt := rfl
@[simp] theorem setSlot_xl (s : State) (n v : Nat) : (s.setSlot n v).xl = s.xl := rfl
@[simp] theorem setSlot_tier (s : State) (n v : Nat) : (s.setSlot n v).tier = s.tier := rfl
@[simp] theorem setSlot_copies (s : State) (n v : Nat) : (s.setSlot n v).copies = s.copies := rfl
@[simp] theorem setSlot_route (s : State) (n v : Nat) : (s.setSlot n v).route = s.route := rfl
@[simp] theorem setSlot_cast (s : State) (n v : Nat) : (s.setSlot n v).cast = s.cast := rfl
@[simp] theorem setSlot_ev (s : State) (n v : Nat) : (s.setSlot n v).ev = s.ev := rfl
@[simp] theorem setSlot_mbox (s : State) (n v : Nat) : (s.setSlot n v).mbox = s.mbox := rfl
@[simp] theorem setSlot_vaults (s : State) (n v : Nat) : (s.setSlot n v).vaults = s.vaults := rfl
@[simp] theorem setSlot_tears (s : State) (n v : Nat) : (s.setSlot n v).tears = s.tears := rfl
@[simp] theorem setSlot_scrubs (s : State) (n v : Nat) : (s.setSlot n v).scrubs = s.scrubs := rfl
@[simp] theorem setSlot_scrubAt (s : State) (n v : Nat) : (s.setSlot n v).scrubAt = s.scrubAt := rfl
@[simp] theorem setSlot_seals (s : State) (n v : Nat) : (s.setSlot n v).seals = s.seals := rfl
@[simp] theorem setSlot_quenches (s : State) (n v : Nat) : (s.setSlot n v).quenches = s.quenches := rfl
@[simp] theorem setSlot_frozen (s : State) (n v : Nat) : (s.setSlot n v).frozen = s.frozen := rfl
@[simp] theorem setSlot_meter (s : State) (n v : Nat) : (s.setSlot n v).meter = s.meter := rfl
@[simp] theorem setSlot_kyrdo (s : State) (n v : Nat) : (s.setSlot n v).kyrdo = s.kyrdo := rfl
@[simp] theorem setSlot_kyreqs (s : State) (n v : Nat) : (s.setSlot n v).kyreqs = s.kyreqs := rfl
@[simp] theorem setSlot_staged (s : State) (n v : Nat) : (s.setSlot n v).staged = s.staged := rfl
@[simp] theorem setSlot_power (s : State) (n v : Nat) : (s.setSlot n v).power = s.power := rfl
@[simp] theorem setSlot_exit (s : State) (n v : Nat) : (s.setSlot n v).exit = s.exit := rfl
@[simp] theorem setSlot_breset (s : State) (n v : Nat) : (s.setSlot n v).breset = s.breset := rfl
@[simp] theorem setSlot_misses (s : State) (n v : Nat) : (s.setSlot n v).misses = s.misses := rfl
@[simp] theorem setSlot_snap (s : State) (n v : Nat) : (s.setSlot n v).snap = s.snap := rfl
@[simp] theorem setSlot_faulted (s : State) (n v : Nat) : (s.setSlot n v).faulted = s.faulted := rfl
@[simp] theorem setSlot_waiting (s : State) (n v : Nat) : (s.setSlot n v).waiting = s.waiting := rfl
@[simp] theorem setSlot_cycles (s : State) (n v : Nat) : (s.setSlot n v).cycles = s.cycles := rfl
@[simp] theorem setSlot_groupUse (s : State) (n v : Nat) : (s.setSlot n v).groupUse = s.groupUse := rfl
@[simp] theorem setSlot_calls (s : State) (n v : Nat) : (s.setSlot n v).calls = s.calls := rfl
@[simp] theorem setSlot_turns (s : State) (n v : Nat) : (s.setSlot n v).turns = s.turns := rfl
@[simp] theorem setSlot_sigBuf (s : State) (n v : Nat) : (s.setSlot n v).sigBuf = s.sigBuf := rfl
@[simp] theorem setSlot_dbBuf (s : State) (n v : Nat) : (s.setSlot n v).dbBuf = s.dbBuf := rfl
@[simp] theorem setSlot_errWait (s : State) (n v : Nat) : (s.setSlot n v).errWait = s.errWait := rfl
@[simp] theorem setSlot_pending (s : State) (n v : Nat) : (s.setSlot n v).pending = s.pending := rfl

/-! ## State.close -/

@[simp] theorem close_nextId (s : State) (t : State) : (t.close s).nextId = s.nextId := rfl
@[simp] theorem close_wbuf (s : State) (t : State) : (t.close s).wbuf = s.wbuf := rfl
@[simp] theorem close_sent (s : State) (t : State) : (t.close s).sent = s.sent := rfl
@[simp] theorem close_hlp (s : State) (t : State) : (t.close s).hlp = s.hlp := rfl
@[simp] theorem close_qm (s : State) (t : State) : (t.close s).qm = s.qm := rfl
@[simp] theorem close_moulds (s : State) (t : State) : (t.close s).moulds = s.moulds := rfl
@[simp] theorem close_ctxs (s : State) (t : State) : (t.close s).ctxs = s.ctxs := rfl
@[simp] theorem close_kernels (s : State) (t : State) : (t.close s).kernels = s.kernels := rfl
@[simp] theorem close_lanes (s : State) (t : State) : (t.close s).lanes = s.lanes := rfl
@[simp] theorem close_reqs (s : State) (t : State) : (t.close s).reqs = s.reqs := rfl
@[simp] theorem close_fences (s : State) (t : State) : (t.close s).fences = s.fences := rfl
@[simp] theorem close_keys (s : State) (t : State) : (t.close s).keys = s.keys := rfl
@[simp] theorem close_nodes (s : State) (t : State) : (t.close s).nodes = s.nodes := rfl
@[simp] theorem close_readyAt (s : State) (t : State) : (t.close s).readyAt = s.readyAt := rfl
@[simp] theorem close_xl (s : State) (t : State) : (t.close s).xl = s.xl := rfl
@[simp] theorem close_tier (s : State) (t : State) : (t.close s).tier = s.tier := rfl
@[simp] theorem close_copies (s : State) (t : State) : (t.close s).copies = s.copies := rfl
@[simp] theorem close_route (s : State) (t : State) : (t.close s).route = s.route := rfl
@[simp] theorem close_cast (s : State) (t : State) : (t.close s).cast = s.cast := rfl
@[simp] theorem close_ev (s : State) (t : State) : (t.close s).ev = s.ev := rfl
@[simp] theorem close_mbox (s : State) (t : State) : (t.close s).mbox = s.mbox := rfl
@[simp] theorem close_vaults (s : State) (t : State) : (t.close s).vaults = s.vaults := rfl
@[simp] theorem close_tears (s : State) (t : State) : (t.close s).tears = s.tears := rfl
@[simp] theorem close_scrubs (s : State) (t : State) : (t.close s).scrubs = s.scrubs := rfl
@[simp] theorem close_scrubAt (s : State) (t : State) : (t.close s).scrubAt = s.scrubAt := rfl
@[simp] theorem close_seals (s : State) (t : State) : (t.close s).seals = s.seals := rfl
@[simp] theorem close_quenches (s : State) (t : State) : (t.close s).quenches = s.quenches := rfl
@[simp] theorem close_frozen (s : State) (t : State) : (t.close s).frozen = s.frozen := rfl
@[simp] theorem close_meter (s : State) (t : State) : (t.close s).meter = s.meter := rfl
@[simp] theorem close_kyrdo (s : State) (t : State) : (t.close s).kyrdo = s.kyrdo := rfl
@[simp] theorem close_kyreqs (s : State) (t : State) : (t.close s).kyreqs = s.kyreqs := rfl
@[simp] theorem close_staged (s : State) (t : State) : (t.close s).staged = s.staged := rfl
@[simp] theorem close_power (s : State) (t : State) : (t.close s).power = s.power := rfl
@[simp] theorem close_exit (s : State) (t : State) : (t.close s).exit = s.exit := rfl
@[simp] theorem close_breset (s : State) (t : State) : (t.close s).breset = s.breset := rfl
@[simp] theorem close_misses (s : State) (t : State) : (t.close s).misses = s.misses := rfl
@[simp] theorem close_snap (s : State) (t : State) : (t.close s).snap = s.snap := rfl
@[simp] theorem close_faulted (s : State) (t : State) : (t.close s).faulted = s.faulted := rfl
@[simp] theorem close_waiting (s : State) (t : State) : (t.close s).waiting = s.waiting := rfl
@[simp] theorem close_cycles (s : State) (t : State) : (t.close s).cycles = s.cycles := rfl
@[simp] theorem close_groupUse (s : State) (t : State) : (t.close s).groupUse = s.groupUse := rfl
@[simp] theorem close_calls (s : State) (t : State) : (t.close s).calls = s.calls := rfl
@[simp] theorem close_turns (s : State) (t : State) : (t.close s).turns = s.turns := rfl
@[simp] theorem close_sigBuf (s : State) (t : State) : (t.close s).sigBuf = s.sigBuf := rfl
@[simp] theorem close_dbBuf (s : State) (t : State) : (t.close s).dbBuf = s.dbBuf := rfl
@[simp] theorem close_errWait (s : State) (t : State) : (t.close s).errWait = s.errWait := rfl

@[simp] theorem elapse_time (s : State) (t : Nat) : (s.elapse t).time = max s.time t := rfl
@[simp] theorem say_sent (s : State) (m : Msg) : (s.say m).sent = m :: s.sent := rfl
@[simp] theorem rd_say (s : State) (m : Msg) (f : Field) (i : Nat) : (s.say m).rd f i = s.rd f i := rfl
@[simp] theorem rd_elapse (s : State) (t : Nat) (f : Field) (i : Nat) : (s.elapse t).rd f i = s.rd f i := rfl
@[simp] theorem rd_modCtx (s : State) (c : Nat) (g : Ctx → Ctx) (f : Field) (i : Nat) : (s.modCtx c g).rd f i = s.rd f i := rfl

/-- The reset value of a field to which it is returned. -/
theorem rd_rst_same (s : State) (f : Field) (i : Nat) : (s.rst f i).rd f i = f.resetAt i % 2 ^ f.row.width :=
  rd_wr_same s f _ i

/-- A saturating counter that advances. -/
theorem rd_bump_same (s : State) (f : Field) (i n : Nat) :
    (s.bump f i n).rd f i = min (s.rd f i + n) (2 ^ f.row.width - 1) := by
  have h : 0 < 2 ^ f.row.width := by positivity
  rw [State.bump, rd_wr_same, Nat.mod_eq_of_lt]
  omega

theorem rd_bump_ne (s : State) {f g : Field} {i j : Nat} (n : Nat) (h : f ≠ g ∨ i ≠ j) :
    (s.bump f i n).rd g j = s.rd g j := rd_wr_ne s _ h

theorem rd_adv_same (s : State) (f : Field) (i n : Nat) : (s.adv f i n).rd f i = (s.rd f i + n) % 2 ^ f.row.width := by
  rw [State.adv, rd_wr_same, Nat.mod_mod]

theorem rd_adv_ne (s : State) {f g : Field} {i j : Nat} (n : Nat) (h : f ≠ g ∨ i ≠ j) :
    (s.adv f i n).rd g j = s.rd g j := rd_wr_ne s _ h

end Sys2Proof.Laws
end

