-- ==== Sys2Proof/Certificates/Slice0/Obligations.lean ====
section
/-! DEFINITION. The statements for the provers: what each command of the Celzaig does to its registers, its memory and its
units, what it leaves alone, and the invariant that every step keeps. -/

open Sys2Proof Sys2Proof.Machine

/-- A step runs the command at the front of the queue: With command c at the front of the waiting commands, a step is exec
of c on the same state with the queue's rest; the commands behind it are left in their order. -/
def Obligations.StepRunsFrontCommand : Prop :=
  ∀ (c : Instr) (rest : List Instr) (s : State),
    step { s with pending := c :: rest } = exec c { s with pending := rest }

/-- No command touches the queue of waiting commands, and on an empty queue the block idles: Whatever command runs, when
it answers a next state the commands that wait are those that waited before, in the same order. With no command
waiting a step answers the same state one nanosecond of timebase later. That the idle step passes 1 ns is the model's
choice (DESIGN CHOICE, log entry 1). -/
def Obligations.QueueOfCommands : Prop :=
  (∀ (c : Instr) (s t : State), exec c s = .next t → t.pending = s.pending) ∧
  (∀ s : State, s.pending = [] → step s = .next { s with time := s.time + 1 })

/-- Every command of the table answers a next state in every state: For every command and every state exec answers a next
state, but for one form: HBM_WRITE_ACCEPT of an engine's store that has a byte at or above 384 GiB, which faults as
outsideHbm. No command is ever refused. That a command which meets a state in which its event cannot happen still goes
on is the model's choice (DESIGN CHOICE, log entry 6), and so is the fault (DEDUCED, log entry 5). -/
def Obligations.EveryCommandGoesOn : Prop :=
  ∀ (c : Instr) (s : State),
    (∃ t, exec c s = .next t) ∨
    (∃ ctl x cells, c = .hbmWriteAccept ctl (.engine x cells) ∧ (∃ p ∈ cells, hbmSize ≤ p.1) ∧
      exec c s = .fault .outsideHbm)

/-- Every step keeps the canonical form of the stores, and no copy of the timebase runs back: From every state that meets
the invariant, whatever waits in its queue, a step that answers a next state answers one that meets it: the register
store lists a field only where it differs from its reset value, HBM lists a byte only where it differs from what an
unlisted byte reads as, and both in strictly rising order. That form is the model's choice (DESIGN CHOICE, log entry
8). Neither the reference count of the timebase nor the copy of it in any clock domain decreases; how far a copy lags
within its bound is a free value (log entry 11). -/
def Obligations.EveryStepKeepsInvariant : Prop :=
  ∀ s t : State, step s = .next t → (s.Inv → t.Inv) ∧ s.time ≤ t.time ∧ ∀ d : Domain, s.clock d ≤ t.clock d

/-- The reset state meets the invariant, with every register at its reset value: The state after reset meets the
invariant; every register field, at every element, reads as its reset value; the start-up phase is RESET; no command
waits, and every byte of HBM reads as 0. That HBM reads 0 before it is written, the form of the lists, and that
State.reset is the block before the first step of start-up, are the model's choices (DESIGN CHOICE, log entries 2, 8
and 9). -/
def Obligations.ResetMeetsInvariant : Prop :=
  State.reset.Inv ∧ (∀ (f : Field) (i : Nat), State.reset.rd f i = f.resetAt i) ∧
  State.reset.rd .RAS_STATUS_PHASE = 0 ∧ State.reset.pending = [] ∧ ∀ a, State.reset.dieByte a = 0

/-- Register writes of 4 and 8 bytes by access code, the registers that hold their fields, and register reads:
REGISTER_WRITE of 8 bytes, or of 4 bytes to one half, of a register with no behaviour of its own that no flask reset
holds: each RW field in the written half takes its bits, RO and WO fields keep their values, a W1C field loses the
bits written 1, a W1S field gains them, an RWS field (a flask's label) takes its bits unless the flask is or was
sealed since its creation; a field of the other half stays, and one spanning both halves stays at a 4-byte write and
sets BAD_REG; all other register fields and memory are unchanged. Where a flask reset holds every field, an 8-byte
write changes none and is counted in RESET_WRITES. The same holds of guarded registers while the guard is off:
TIER_POOL, MIG_STAGE, EN_RING_BASE, MB_MSTORE and a mailbox slot's command and parameter registers; while a pool frame
is in use, a migration run or bundle is in progress, a closed accumulator is unsigned, a management mould is loaded,
or the slot is QUEUED or RUNNING, the write changes nothing (but BAD_REG at a spanning field). PEER_CTL keeps NODE_ID
and EN while a node is ATTACHING, ATTACHED or DETACHING and takes NODE_LIMIT. A write of XL_FRING_PTRS's upper half
takes RD_IDX and re-arms the full report. A read changes nothing but that its credit goes back, and that a wrong size
or alignment outside an event doorbell page sets BAD_REG and returns zeros; an offset without a register reads zeros;
with Memory Space Enable 0 a read is unsupported. A read returns each field at its bits; a WO field reads 0; in a
reset (but PHASE FAILED: DESIGN CHOICE, log entry 10) or, for a flask's field, a FLASK reset, the reset value; while a
flask is sealed without PROFILE the counts of R400 read the last snapshot rounded down to 4,096 and occupancies to 64,
lane fields of one sealed without DEBUG read 0, other fields as they stand. That reads are views and no commands
(DEDUCED, log entry 128) and coarsened counts before the first tick (DEDUCED, log entry 133) are the model's. -/
def Obligations.RegisterWriteByAccess : Prop :=
  (∀ (s : State) (o half size v : Nat), s.hears → okSize half size → o % 8 = 0 → plainOffset o = true →
    (∀ p ∈ fieldsAt o, s.flaskHolds p = false) →
    does (.registerWrite (o + 4 * half) size v) s (fun t => s.written t o size half v)) ∧
  (∀ (s : State) (o v : Nat), s.hears → o % 8 = 0 → plainOffset o = true → fieldsAt o ≠ [] →
    (∀ p ∈ fieldsAt o, s.flaskHolds p = true) →
    does (.registerWrite o 8 v) s (fun t => sameMem s t ∧ t.rd .RAS_ERR_RESET_WRITE = 1 ∧ s.counts t .RAS_COUNT_RESET_WRITES ∧
      onlyRegs s t [(.RAS_COUNT_RESET_WRITES, 0), (.RAS_ERR_RESET_WRITE, 0)])) ∧
  (∀ (s : State) (o half size v : Nat), s.hears → okSize half size →
    (o = 0x410008 ∨ o = 0x80D000 ∨ o = 0x900020 ∨ o = 0xA00020 ∨ (o % 8 = 0 ∧ 0xA01000 ≤ o ∧ o < 0xA05000)) →
    let slot := s.slotState ((o - 0xA01000) / 0x400)
    let held : Prop :=
      if o = 0x410008 then s.framesUsed sheet1G ≠ 0 ∨ s.framesUsed sheet32M ≠ 0
      else if o = 0x80D000 then ∃ f ∈ s.flasks, s.rd .QN_PHASE f = qnEXPORTING ∨ s.rd .QN_PHASE f = qnIMPORTING
      else if o = 0x900020 then ∃ a ∈ s.meter.accs, a.closed ≠ none
      else if o = 0xA00020 then ∃ m ∈ s.moulds.table, m.flask = none
      else slot = mbQUEUED ∨ slot = mbRUNNING
    (¬ held → does (.registerWrite (o + 4 * half) size v) s (fun t => s.written t o size half v)) ∧
    (held → does (.registerWrite (o + 4 * half) size v) s (fun t => sameMem s t ∧
      (size = 4 ∧ spanning o → t.rd .HLP_ERR_BAD_REG = 1 ∧ onlyRegs s t [(.HLP_ERR_BAD_REG, 0)]) ∧
      (¬ (size = 4 ∧ spanning o) → onlyRegs s t [])))) ∧
  (∀ (s : State) (half size v : Nat), s.hears → okSize half size →
    let busy : Prop := ∃ n ∈ s.listed .PEER_NODE_STATE, s.ndState n = ndATTACHING ∨ s.ndState n = ndATTACHED ∨ s.ndState n = ndDETACHING
    (¬ busy → does (.registerWrite (0x600000 + 4 * half) size v) s (fun t => s.written t 0x600000 size half v)) ∧
    (busy → does (.registerWrite (0x600000 + 4 * half) size v) s (fun t => sameMem s t ∧
      onlyRegs s t [(.PEER_CTL_NODE_LIMIT, 0)] ∧
      t.rd .PEER_CTL_NODE_LIMIT = (if half = 0 then bits v 16 15 else s.rd .PEER_CTL_NODE_LIMIT)))) ∧
  (∀ (s : State) (f half size v : Nat), s.hears → okSize half size → f < 64 → s.flaskResetting f = false →
    does (.registerWrite (0x400500 + 8 * f + 4 * half) size v) s (fun t => s.written t (0x400500 + 8 * f) size half v ∧
      (size = 8 ∨ half = 1 → t.xl.ringFull.contains f = false))) ∧
  (∀ (s : State) (o size : Nat),
    let good : Prop := (size = 4 ∨ size = 8) ∧ o % size = 0
    let page : Prop := 0x740000 ≤ o ∧ o < 0x780000
    (s.on .CFG_MSE = false → s.barRead o size = none ∧ s.bar1Read = none) ∧
    (s.on .CFG_MSE = true → ¬ good → s.barRead o size = some 0) ∧
    (s.on .CFG_MSE = true → s.bar1Read = some 0) ∧
    (good ∨ page ∨ s.on .CFG_MSE = false → s.barReadLeaves o size = s.say (.poolCredit .register)) ∧
    (¬ good → ¬ page → s.on .CFG_MSE = true →
      s.barReadLeaves o size = (s.wr .HLP_ERR_BAD_REG 1).say (.poolCredit .register)) ∧
    s.configReadLeaves = s.say (.poolCredit .register) ∧
    (s.on .CFG_MSE = true → o % 8 = 0 → fieldsAt o = [] → s.barRead o 8 = some 0) ∧
    (s.on .CFG_MSE = true → o % 8 = 0 → (∀ p ∈ fieldsAt o, s.seen p.1 p.2 < 2 ^ p.1.row.width) →
      ∃ v, s.barRead o 8 = some v ∧ s.barRead o 4 = some (bits v 0 32) ∧ s.barRead (o + 4) 4 = some (bits v 32 32) ∧
        ∀ p ∈ fieldsAt o, bits v (p.1.row.bitOf p.2) p.1.row.width = s.seen p.1 p.2)) ∧
  (∀ (s : State) (f : Field) (i : Nat),
    (f.row.access = .WO → s.seen f i = 0) ∧
    (f.row.access ≠ .WO → s.inReset = true → s.failed = false → shownInReset f = false → s.seen f i = f.resetAt i) ∧
    (f.row.access ≠ .WO → flaskFields.contains f = true → s.flaskResetting i = true → s.seen f i = f.resetAt i) ∧
    (f.row.access ≠ .WO → s.inReset = false ∨ s.failed = true → (flaskFields.contains f = false ∨ s.flaskResetting i = false) →
      (coarseCounts.contains f = true → s.coarse = true → s.seen f i = aget s.snap (f.key i) 0 / 4096 * 4096) ∧
      (coarseOccupancies.contains f = true → s.coarse = true → s.seen f i = aget s.snap (f.key i) 0 / 64 * 64) ∧
      (∀ g, hiddenLane.contains f = true → s.groupOwner (i / 8) = some g → s.flaskSealed g = true → s.on .FL_DEBUG g = false →
        s.seen f i = 0) ∧
      ((coarseCounts ++ coarseOccupancies ++ coarseQueue ++ hiddenLane ++ hiddenCtx ++
        [Field.SEQ_CTX_STATE, .RT_LAST_RECORD]).contains f = false → s.seen f i = s.live f i)))

/-- Which BAR0 writes have no effect, and what they report: A BAR0 write while Memory Space Enable is 0 changes nothing. A
write to a register while a reset is in progress, but for a mailbox submit and, in a BLOCK reset, a well-formed
timeline write, is discarded, counted in RESET_WRITES and sets RESET_WRITE. A write to a register while the host is
lost or detaching, but to CZ_HLP_ATTACH or CZ_HLP_ERR, is discarded and counted in HEADLESS_DROPS; one to an offset
without a register changes nothing then, nor in a reset. Otherwise a write of another size than 4 or 8 bytes, or
misaligned, has no effect and sets CZ_HLP_ERR.BAD_REG, and in an event doorbell page or at CZ_EV_MCOMPL
CZ_EV_ERR.BAD_STORE as well. In each case no other register and no memory changes. That PHASE FAILED counts as a reset
here, and the order of these checks, are the model's choices (log entries 10, 13 and 58). -/
def Obligations.RegisterWriteRefused : Prop :=
  ∀ (s : State) (o size v : Nat), o / 8 * 8 ≠ 0x10028 → o / 8 * 8 ≠ 0x900028 → ¬ (0x510300 ≤ o / 8 * 8 ∧ o / 8 * 8 < 0x510500) →
    (s.on .CFG_MSE = false → does (.registerWrite o size v) s (fun t => sameMem s t ∧ onlyRegs s t [])) ∧
    (s.on .CFG_MSE = true → s.ready = false → o / 8 * 8 ≠ 0xA00000 → isRegister (o / 8 * 8) = true →
      (s.blockReset && (size == 4 || size == 8) && o % size == 0 && (o / 8 * 8 == 0x38 || timelineAt (o / 8 * 8))) = false →
      does (.registerWrite o size v) s (fun t => sameMem s t ∧
        onlyRegs s t [(.RAS_COUNT_RESET_WRITES, 0), (.RAS_ERR_RESET_WRITE, 0)] ∧ t.rd .RAS_ERR_RESET_WRITE = 1 ∧
        t.rd .RAS_COUNT_RESET_WRITES = min (s.rd .RAS_COUNT_RESET_WRITES + 1) (2 ^ Field.RAS_COUNT_RESET_WRITES.row.width - 1))) ∧
    (s.on .CFG_MSE = true → s.ready = true → s.hostAway = true → o / 8 * 8 ≠ 0x10018 → o / 8 * 8 ≠ 0x10048 →
      isRegister (o / 8 * 8) = true →
      does (.registerWrite o size v) s (fun t => sameMem s t ∧ onlyRegs s t [(.HLP_DROP_COUNT_HEADLESS_DROPS, 0)] ∧
        t.rd .HLP_DROP_COUNT_HEADLESS_DROPS =
          min (s.rd .HLP_DROP_COUNT_HEADLESS_DROPS + 1) (2 ^ Field.HLP_DROP_COUNT_HEADLESS_DROPS.row.width - 1))) ∧
    (s.on .CFG_MSE = true → s.ready = false ∨ s.hostAway = true → o / 8 * 8 ≠ 0xA00000 → isRegister (o / 8 * 8) = false →
      does (.registerWrite o size v) s (fun t => sameMem s t ∧ onlyRegs s t [])) ∧
    (s.hears → ((size ≠ 4 ∧ size ≠ 8) ∨ o % size ≠ 0) →
      does (.registerWrite o size v) s (fun t => sameMem s t ∧
        onlyRegs s t [(.HLP_ERR_BAD_REG, 0), (.EV_ERR_BAD_STORE, 0)] ∧ t.rd .HLP_ERR_BAD_REG = 1 ∧
        t.rd .EV_ERR_BAD_STORE =
          (if (0x740000 ≤ o ∧ o < 0x780000) ∨ o / 8 * 8 = 0x700020 then 1 else s.rd .EV_ERR_BAD_STORE)))

/-- Configuration writes and the host messages that are answered at once: CONFIG_WRITE of 2 or 4 bytes at header offset 4
leaves Memory Space Enable at bit 1 and Bus Master Enable at bit 2 of the value, in every state; no field outside the
header's second doubleword changes, nor any memory. A write of another size or across a doubleword changes nothing.
That credits beyond the last grant are cut is the model's reading (DEDUCED, log entry 60). UNSUPPORTED_REQUEST sets
CZ_HLP_ERR.UNSUP and answers an unsupported-request completion exactly when the message is non-posted. SNOOP is
answered not held. CREDIT_RETURN adds the credits of its channel up to what the last training granted. None of them
changes memory or another register. -/
def Obligations.ConfigWritesAndHostMessages : Prop :=
  ((∀ (s : State) (size v : Nat), size = 2 ∨ size = 4 → does (.configWrite 4 size v) s (fun t => sameMem s t ∧
     t.rd .CFG_MSE = bits v 1 1 ∧ t.rd .CFG_BME = bits v 2 1 ∧ onlyRegs s t ((configFields 4).map (fun f => (f, 0))))) ∧
   (∀ (s : State) (off size v : Nat), (size ≠ 1 ∧ size ≠ 2 ∧ size ≠ 4) ∨ 4 < off % 4 + size →
     does (.configWrite off size v) s (fun t => sameMem s t ∧ onlyRegs s t []))) ∧
  ((∀ (s : State) (posted : Bool) (tag : Nat), does (.unsupportedRequest posted tag) s (fun t => sameMem s t ∧
     onlyRegs s t [(.HLP_ERR_UNSUP, 0)] ∧ t.rd .HLP_ERR_UNSUP = 1 ∧
     t.sent = (if posted then s.sent else .unsupported tag :: s.sent))) ∧
   (∀ (s : State) (tag : Nat), does (.snoop tag) s (fun t => sameMem s t ∧ onlyRegs s t [] ∧ t.sent = .notHeld tag :: s.sent)) ∧
   (∀ (s : State) (n : Nat),
     does (.creditReturn .np n) s (fun t => sameMem s t ∧ onlyRegs s t [] ∧
       t.hlp = { s.hlp with npCred := min (s.hlp.npCred + n) (s.rd .HLP_CREDIT_NP_GRANTED) }) ∧
     does (.creditReturn .p n) s (fun t => sameMem s t ∧ onlyRegs s t [] ∧
       t.hlp = { s.hlp with pCred := min (s.hlp.pCred + n) (s.rd .HLP_CREDIT_P_GRANTED) }) ∧
     does (.creditReturn .evt n) s (fun t => sameMem s t ∧ onlyRegs s t [] ∧
       t.hlp = { s.hlp with evtCred := min (s.hlp.evtCred + n) (s.rd .HLP_CREDIT_EVT_GRANTED) })))

/-- The checks on a host access through a window: A coherent read, a read for ownership, an upgrade and a write-back are
refused, in this order: no window whose EN reads 1 holds the address, or its window is being closed
(CZ_HLP_ERR.NO_WINDOW), or the window comes out in a mould store, which no window reaches (NO_WINDOW as well: the
model's reading, DEDUCED, log entry 57); the HLP is HEADLESS or detaching (HEADLESS_DROPS advances); the window is
owned and its flask's generation has moved on (CZ_STALE_DROP.FLASK advances); the granule is sealed and not public
(SEALED is set and SEALED_REFUSALS advances); the window has RD 0 for a read, WR 0 for the others (RIGHTS). A refused
read gets all ones with poison, any other access is discarded; its credit goes back, no other register changes and no
memory. -/
def Obligations.WindowAccessRefusals : Prop :=
  ∀ (s : State) (hpa tag : Nat) (data : List Byte), s.ready = true →
    let reads (P : State → Prop) : Prop := acts (.coherentRead hpa tag) s (fun u => sameMem s u ∧ P u ∧
      u.sent = .poolCredit .window :: .windowData tag (List.replicate 64 0xFF) true :: s.sent)
    let writes (P : State → Prop) : Prop :=
      ∀ c ∈ [Instr.readForOwnership hpa tag, .hostInvalidate hpa tag, .windowWriteBack hpa data],
        acts c s (fun u => sameMem s u ∧ P u ∧ u.sent = .poolCredit .window :: s.sent)
    let refused (P : State → Prop) : Prop := reads P ∧ writes P
    let noWindow : Prop := refused (fun u => u.rd .HLP_ERR_NO_WINDOW = 1 ∧ onlyRegs s u [(.HLP_ERR_NO_WINDOW, 0)])
    (s.windowAt hpa = none → noWindow) ∧
    (∀ n, s.windowAt hpa = some n → s.hlp.closing.contains n = true ∨ s.inStore (s.winAddr n hpa) = true → noWindow) ∧
    (∀ n, s.windowAt hpa = some n → s.hlp.closing.contains n = false → s.inStore (s.winAddr n hpa) = false →
      let f := s.rd .WIN_FLASK n
      let stale := s.on .WIN_OWNED n && s.rd .WIN_FLASK_GEN n != s.flaskGen f
      let sealed := s.granSealed (s.winAddr n hpa / granule)
      let rights (u : State) : Prop := u.rd .HLP_ERR_RIGHTS = 1 ∧ onlyRegs s u [(.HLP_ERR_RIGHTS, 0)]
      (s.hostAway = true → refused (fun u => s.counts u .HLP_DROP_COUNT_HEADLESS_DROPS ∧
        onlyRegs s u [(.HLP_DROP_COUNT_HEADLESS_DROPS, 0)])) ∧
      (s.hostAway = false → stale = true → refused (fun u => s.counts u .STALE_DROP_FLASK ∧ onlyRegs s u (staleFields .flask))) ∧
      (s.hostAway = false → stale = false → sealed = true → refused (fun u => u.rd .HLP_ERR_SEALED = 1 ∧
        s.counts u .HLP_DROP_COUNT_SEALED_REFUSALS ∧
        onlyRegs s u [(.HLP_ERR_SEALED, 0), (.HLP_DROP_COUNT_SEALED_REFUSALS, 0)])) ∧
      (s.hostAway = false → stale = false → sealed = false → s.on .WIN_RD n = false → reads rights) ∧
      (s.hostAway = false → stale = false → sealed = false → s.on .WIN_WR n = false → writes rights))

/-- Permitted coherent reads, reads for ownership and upgrades: An access that no check of R38 refuses (a read needs RD,
ownership needs WR), for which the host holds a credit, outside DROWSE, completes. Through a window with COHERENT 0,
of a line that no host core holds exclusive through another, a coherent read gives the 64 bytes of the line from HBM,
a read for ownership gives them and says owned, and an upgrade says owned; the snoop filter stays as it was. Through a
window with COHERENT 1, with no recall of the line under way and room in the filter: a coherent read of a line that no
host core holds exclusive gives the line and records the sharer; a read for ownership of a line that no host core
holds gives it, says owned and records it exclusive; an upgrade of a line that one host core shares records it
exclusive and says owned, and one of a line that no host core holds any more says not owned (the model's reading,
DEDUCED, log entry 54; the filter counts a line's sharers, DESIGN CHOICE, log entry 52). No memory and no register
changes. -/
def Obligations.WindowReadsGiveTheLine : Prop :=
  ∀ (s : State) (hpa tag n : Nat), s.windowAt hpa = some n → s.credit .window = true → s.drowse = false →
    let line := lineOf (s.winAddr n hpa)
    let gives (u : State) : Prop := .windowData tag (s.sysRead (line * 64) 64) false ∈ u.sent
    let still (u : State) : Prop := sameMem s u ∧ onlyRegs s u []
    (s.winRefusal hpa false = none → s.on .WIN_COHERENT n = false → s.hostExcl line = false →
      ∃ u, exec (.coherentRead hpa tag) s = .next (s.close u.settle) ∧ still u ∧ gives u ∧ u.hlp = s.hlp) ∧
    (s.winRefusal hpa true = none → s.on .WIN_COHERENT n = false → s.hostExcl line = false →
      (∃ u, exec (.readForOwnership hpa tag) s = .next (s.close u.settle) ∧ still u ∧ gives u ∧
        .windowOwned tag true ∈ u.sent ∧ u.hlp = s.hlp) ∧
      (∃ u, exec (.hostInvalidate hpa tag) s = .next (s.close u.settle) ∧ still u ∧
        .windowOwned tag true ∈ u.sent ∧ u.hlp = s.hlp)) ∧
    (s.on .WIN_COHERENT n = true → s.hlp.recalls.contains line = false → s.filterVictim line = none →
      (s.winRefusal hpa false = none → s.hostExcl line = false →
        ∃ u, exec (.coherentRead hpa tag) s = .next (s.close u.settle) ∧ still u ∧ gives u ∧ u.hostHeld line = true ∧
          u.hostExcl line = false) ∧
      (s.winRefusal hpa true = none → s.hostHeld line = false →
        ∃ u, exec (.readForOwnership hpa tag) s = .next (s.close u.settle) ∧ still u ∧ gives u ∧
          .windowOwned tag true ∈ u.sent ∧ u.hostExcl line = true) ∧
      (s.winRefusal hpa true = none → s.hostHeld line = true → s.hostExcl line = false → s.sharersOf line ≤ 1 →
        ∃ u, exec (.hostInvalidate hpa tag) s = .next (s.close u.settle) ∧ still u ∧ .windowOwned tag true ∈ u.sent ∧
          u.hostExcl line = true) ∧
      (s.winRefusal hpa true = none → s.hostHeld line = false →
        ∃ u, exec (.hostInvalidate hpa tag) s = .next (s.close u.settle) ∧ still u ∧ .windowOwned tag false ∈ u.sent ∧
          u.hostHeld line = false))

/-- Write-backs reach HBM, and recalled lines are given up: A write-back that no check refuses, for which the host holds a
credit, outside DROWSE, with at most 64 bytes of data that end within the line, of a line that host cores do not share
(nor hold, where the window has COHERENT 0): byte i of the data is what HBM then holds at the window's device address
plus i, every byte of another line reads as before, as does every other byte of the line where no accepted store to it
waits to be committed; the access is acknowledged, its credit goes back and no register changes. HOST_RECALL_RESPONSE
of a line that is being recalled and for which no access waits: with data of a line a host core held exclusive, the 64
bytes are merged into HBM; afterwards its recall is over, and no host core holds the line, but where the recall asked
for the data alone and nothing else needs the copy gone: then one copy stays, shared (the model's reading, DEDUCED,
log entry 54). Memory outside the line does not change, nor any register. A response for a line that is not being
recalled changes nothing. -/
def Obligations.WriteBacksAndRecalls : Prop :=
  (∀ (s : State) (hpa n : Nat) (data : List Byte), s.windowAt hpa = some n → s.ready = true → s.winRefusal hpa true = none →
     s.credit .window = true → s.drowse = false →
     let a := s.winAddr n hpa
     (s.hostHeld (lineOf a) = true → s.on .WIN_COHERENT n = true ∧ s.hostExcl (lineOf a) = true) →
     a % 64 + data.length ≤ 64 → a / 64 * 64 + 64 ≤ hbmSize →
     acts (.windowWriteBack hpa data) s (fun u => onlyRegs s u [] ∧ u.sent = .poolCredit .window :: .windowAck hpa :: s.sent ∧
       (∀ i, i < data.length → u.sysByte (a + i) = nth data i 0) ∧
       (∀ b, lineOf b ≠ lineOf a → u.sysByte b = s.sysByte b ∧ u.dieByte b = s.dieByte b) ∧
       ((∀ st ∈ s.wbuf, ∀ c ∈ st.cells, lineOf c.1 ≠ lineOf a) → ∀ b, b < a ∨ a + data.length ≤ b →
         u.sysByte b = s.sysByte b ∧ u.dieByte b = s.dieByte b))) ∧
  ((∀ (s : State) (line : Nat) (data : Option (List Byte)), s.hlp.recalls.contains line = true →
     (∀ w ∈ s.hlp.waits, w.line ≠ line) → (s.hlp.soft.contains line = true → s.mustGo line = false) →
     acts (.hostRecallResponse line data) s (fun u => onlyRegs s u [] ∧ u.hostExcl line = false ∧
       u.hostHeld line = (s.hostHeld line && s.hlp.soft.contains line) ∧
       u.hlp.recalls.contains line = false ∧ (∀ a, lineOf a ≠ line → u.sysByte a = s.sysByte a ∧ u.dieByte a = s.dieByte a) ∧
       (∀ d i, data = some d → s.hostExcl line = true → d.length = 64 → i < 64 → line * 64 + 64 ≤ hbmSize →
         u.sysByte (line * 64 + i) = nth d i 0))) ∧
   (∀ (s : State) (line : Nat) (data : Option (List Byte)), s.hlp.recalls.contains line = false →
     acts (.hostRecallResponse line data) s (fun u => u = s)))

/-- Opening and closing a window: WIN_CTL_WRITE of 8 bytes to a window whose EN reads 0: where the checks pass on the
written values, every field of the register takes its bits and CFG_ERR becomes 0, and where the window opens coherent
the stores accepted for its lines are committed; where they do not and EN is written 1, no field but CFG_ERR changes,
CFG_ERR becomes 1 and CZ_HLP_ERR.WIN_CFG is set. A write of EN 0 to an open window starts its close.
WINDOW_CLOSE_COMPLETE of a closing window of which no host core holds a line and through which no access waits makes
EN read 0. WIN_CTL_WRITE changes no byte that the die's port reads, and but for those commits none that the system
port reads (of stores that name each byte once). -/
def Obligations.WindowControl : Prop :=
  (∀ (s : State) (n v : Nat), s.hears → n < 256 → s.on .WIN_EN n = false →
    let t := s.regWrite (0x11010 + 0x20 * n) 8 0 (v % 2 ^ 64)
    (t.winOk n = true → does (.winCtlWrite n 0 8 v) s (fun u => u.rd .WIN_CFG_ERR n = 0 ∧
      (∀ f i, (f, i) ≠ (Field.WIN_CFG_ERR, n) → u.rd f i = t.rd f i) ∧
      (∀ a, a < (t.winRange n).1 ∨ (t.winRange n).1 + (t.winRange n).2 ≤ a →
        u.sysByte a = s.sysByte a ∧ u.dieByte a = s.dieByte a) ∧
      (t.on .WIN_EN n = false ∨ t.on .WIN_COHERENT n = false → sameMem s u) ∧
      (t.on .WIN_EN n = true → t.on .WIN_COHERENT n = true → (∀ st ∈ s.wbuf, (st.cells.map Prod.fst).Nodup) →
        ∀ a, (t.winRange n).1 ≤ a → a < (t.winRange n).1 + (t.winRange n).2 →
          u.sysByte a = s.dieByte a ∧ u.dieByte a = s.dieByte a))) ∧
    (t.winOk n = false → t.on .WIN_EN n = true → does (.winCtlWrite n 0 8 v) s (fun u => sameMem s u ∧
      u.rd .WIN_CFG_ERR n = 1 ∧ u.rd .HLP_ERR_WIN_CFG = 1 ∧ onlyRegs s u [(.WIN_CFG_ERR, n), (.HLP_ERR_WIN_CFG, 0)]))) ∧
  (∀ (s : State) (n v : Nat), s.hears → n < 256 → s.on .WIN_EN n = true → s.hlp.closing.contains n = false → v % 2 = 0 →
    does (.winCtlWrite n 0 8 v) s (fun u => sameMem s u ∧ onlyRegs s u [] ∧ u.hlp.closing.contains n = true)) ∧
  (∀ (s : State) (n : Nat), s.hlp.closing.contains n = true → s.hlp.waits = [] →
    s.heldIn (s.winRange n).1 (s.winRange n).2 = [] →
    does (.windowCloseComplete n) s (fun u => sameMem s u ∧ u.rd .WIN_EN n = 0 ∧ onlyRegs s u [(.WIN_EN, n)] ∧
      u.hlp.closing.contains n = false))

/-- The heartbeat and control writes, and the read indexes of rings: A write of CZ_HLP_HB of a permitted size restarts the
count at the current time and changes no register but HB_VALUE (and BAD_REG). An 8-byte write of CZ_HLP_CTL sets
HB_PERIOD and HB_MISS, and restarts the count exactly when it changed one of them. An 8-byte write of the pointers of
the holding ring, of a flask's egress log or of the receipt ring sets RD_IDX to its bits of the value, and then lets
what waits for room go on. No memory is changed by the write itself when nothing waits for the ring. -/
def Obligations.HeartbeatAndReadIndexes : Prop :=
  ((∀ (s : State) (half size v : Nat), s.hears → okSize half size → does (.heartbeat half size v) s (fun t => sameMem s t ∧
     t.hlp.hbFrom = s.time ∧ onlyRegs s t [(.HLP_HB_HB_VALUE, 0), (.HLP_ERR_BAD_REG, 0)])) ∧
   (∀ (s : State) (v : Nat), s.hears → does (.hlpCtlWrite 0 8 v) s (fun t => sameMem s t ∧
     t.rd .HLP_CTL_HB_PERIOD = bits v Field.HLP_CTL_HB_PERIOD.row.lo Field.HLP_CTL_HB_PERIOD.row.width ∧
     t.rd .HLP_CTL_HB_MISS = bits v Field.HLP_CTL_HB_MISS.row.lo Field.HLP_CTL_HB_MISS.row.width ∧
     onlyRegs s t (fieldsAt 0x10000) ∧
     t.hlp.hbFrom = (if t.rd .HLP_CTL_HB_PERIOD = s.rd .HLP_CTL_HB_PERIOD ∧ t.rd .HLP_CTL_HB_MISS = s.rd .HLP_CTL_HB_MISS
       then s.hlp.hbFrom else s.time)))) ∧
  ((∀ (s : State) (v : Nat), s.hears → acts (.holdRdIdxWrite 0 8 v) s (fun u => sameMem s u ∧
     u.rd .HLP_HOLD_PTRS_RD_IDX = bits v Field.HLP_HOLD_PTRS_RD_IDX.row.lo Field.HLP_HOLD_PTRS_RD_IDX.row.width ∧
     onlyRegs s u (fieldsAt 0x10028))) ∧
   (∀ (s : State) (f v : Nat), s.hears → f < 64 → (∀ p ∈ fieldsAt (0x510300 + 8 * f), s.flaskHolds p = false) → s.cast.egress = [] →
     acts (.elogRdIdxWrite f 0 8 v) s (fun u => sameMem s u ∧ u.cast.full.contains f = false ∧
     u.rd .CAST_ELOG_PTRS_RD_IDX f = bits v Field.CAST_ELOG_PTRS_RD_IDX.row.lo Field.CAST_ELOG_PTRS_RD_IDX.row.width)) ∧
   (∀ (s : State) (v : Nat), s.hears → acts (.receiptRingRdIdxWrite 0 8 v) s (fun u => sameMem s u ∧
     u.rd .EN_RING_PTRS_RD_IDX = bits v Field.EN_RING_PTRS_RD_IDX.row.lo Field.EN_RING_PTRS_RD_IDX.row.width ∧
     onlyRegs s u (fieldsAt 0x900028))))

/-- Link training, link loss, and what the loss of the host does: HB_LOST while checking is on (from the end of the
period), LINK_DOWN after ZCI went down, and DETACH_COMPLETE while detaching with ZCI up leave HEADLESS 1, ATTACHED 0,
CAUSE 1, 2 and 3 and EPOCH advanced by one; the snoop filter is empty and no recall goes on. Of the lines that host
cores held exclusive those that were modified are lost and counted in LOST_LINES; a host read that waits for a line or
for a wake gets all ones with poison, and every waiting host access is counted in HEADLESS_DROPS. With no request
under way no memory changes. An engine's read of host memory that is not on ZCI completes with slag-marked data, and
its write is dropped with HOST_DROP and HOST_DROPS and ends its pour with status 3; a completion record goes to the
holding ring; while ZCI is up, a request that is on it stays; once ZCI has been down, a read on it completes with
slag-marked data and a write on it is lost and counted in LOST_WRITES. LINK_DOWN while HEADLESS changes no register
but EPOCH, which advances by one, and no memory. That an expiry moves the time on to its moment (DESIGN CHOICE, log
entry 1), and from when the 2 ms run (DEDUCED, log entry 61), are the model's. LINK_TRAINED while the block is powered
sets LINK_UP, records the credits granted and makes them available. The counts it sets are the model's reading
(DEDUCED, log entry 60). ZCI_LINK_LOST while LINK_UP is 1 and the host is not lost clears LINK_UP and starts the 2 ms
count at the current time. -/
def Obligations.TheLinkAndItsLoss : Prop :=
  ((∀ (s : State) (lost : Nat), s.ready = true →
     let hb (P : State → Prop) : Prop := s.hostAway = false → s.rd .HLP_CTL_HB_PERIOD ≠ 0 → acts (.hbLost lost) s (fun u => P u ∧
       u.headless = true ∧ u.rd .HLP_STATUS_ATTACHED = 0 ∧ u.rd .HLP_STATUS_CAUSE = 1 ∧
       u.rd .HLP_STATUS_EPOCH = (s.rd .HLP_STATUS_EPOCH + 1) % 2 ^ 16 ∧ u.hlp.filter = [] ∧ u.hlp.recalls = [] ∧
       s.hlp.hbFrom + s.rd .HLP_CTL_HB_PERIOD * max (s.rd .HLP_CTL_HB_MISS) 1 * 100000 ≤ u.time)
     let down (P : State → Prop) : Prop := ∀ t0, s.hlp.downAt = some t0 → s.headless = false → acts (.linkDown lost) s (fun u => P u ∧
       u.headless = true ∧ u.rd .HLP_STATUS_ATTACHED = 0 ∧ u.rd .HLP_STATUS_CAUSE = 2 ∧
       u.rd .HLP_STATUS_EPOCH = (s.rd .HLP_STATUS_EPOCH + 1) % 2 ^ 16 ∧ u.hlp.filter = [] ∧ u.hlp.recalls = [] ∧
       t0 + 2000000 ≤ u.time)
     let modified := min lost (s.hlp.filter.filter HostLine.excl).length
     let lines (u : State) : Prop := sameMem s u ∧
       (modified = 0 → u.rd .HLP_DROP_COUNT_LOST_LINES = s.rd .HLP_DROP_COUNT_LOST_LINES ∧
         u.rd .HLP_ERR_LOST_LINES = s.rd .HLP_ERR_LOST_LINES) ∧
       (0 < modified → s.counts u .HLP_DROP_COUNT_LOST_LINES 0 modified ∧ u.rd .HLP_ERR_LOST_LINES = 1)
     let waiters := s.hlp.waits.map LineWait.act ++ s.hlp.asleep
     let refused (u : State) : Prop := s.counts u .HLP_DROP_COUNT_HEADLESS_DROPS 0 waiters.length ∧
       ∀ hpa tag, .read hpa tag ∈ waiters → .windowData tag (List.replicate 64 0xFF) true ∈ u.sent
     (s.reqs = [] → s.hlp.waits = [] → s.hlp.asleep = [] → hb lines ∧ down lines) ∧
     (s.reqs = [] → waiters ≠ [] → (∀ a ∈ waiters, a.ofHost = true) → hb refused ∧ down refused) ∧
     (∀ r, s.reqs = [r] → r.tier = 1 → r.fin = none → r.parts = [] → s.hlp.waits = [] → s.hlp.asleep = [] →
       let slag (u : State) : Prop := u.req? r.id = none ∧ s.counts u .POISON_RD ∧
         .readData r.id (slagBytes r.kind.bytes) true ∈ u.sent
       let dropped (u : State) : Prop := u.req? r.id = none ∧ s.counts u .HAP_DROP_HOST_DROPS ∧ u.rd .HAP_ERR_HOST_DROP = 1 ∧
         ∀ x, s.ctx? (s.holderOf r) = some x → x.root = x.num → x.mgmt = false → x.stopped = false → x.cause = none → x.stamp = .none →
           ∃ y, u.ctx? x.num = some y ∧ y.cause.map EndCause.status = some 3
       (r.issued = false → r.isWrite = false → r.purpose = .plain → hb slag ∧ down slag) ∧
       (r.issued = false → r.isWrite = true → r.purpose = .plain → s.fences = [] → hb dropped ∧ down dropped) ∧
       (∀ cells q d, r.issued = false → r.kind = .write cells → r.purpose = .record q d → s.holdFull = false →
         s.hlp.holdWait = [] →
         let kept (u : State) : Prop := u.req? r.id = none ∧
           s.landed u (s.rd .HLP_HOLD_BASE_BASE * 4096 + s.rd .HLP_HOLD_PTRS_WR_IDX * 32) (cells.map Prod.snd)
         s.hlp.filter = [] → hb kept ∧ down kept) ∧
       (r.issued = true → s.on .HLP_STATUS_LINK_UP = true → hb (fun u => u.reqs = [r])) ∧
       (r.issued = true → s.on .HLP_STATUS_LINK_UP = false → r.isWrite = false → r.purpose = .plain → down slag) ∧
       (r.issued = true → s.on .HLP_STATUS_LINK_UP = false → r.isWrite = true → r.purpose = .plain → s.fences = [] →
         down (fun u => u.req? r.id = none ∧ s.counts u .HLP_DROP_COUNT_LOST_WRITES)))) ∧
   (∀ (s : State) (lost t0 : Nat), s.ready = true → s.hlp.downAt = some t0 → s.headless = true →
     acts (.linkDown lost) s (fun u => sameMem s u ∧ t0 + 2000000 ≤ u.time ∧ u.reqs = s.reqs ∧ u.hlp.downAt = none ∧
       u.rd .HLP_STATUS_EPOCH = (s.rd .HLP_STATUS_EPOCH + 1) % 2 ^ 16 ∧ onlyRegs s u [(.HLP_STATUS_EPOCH, 0)])) ∧
   (∀ s : State, s.reqs = [] → s.qm.fetches = [] → s.hlp.waits = [] → s.hlp.asleep = [] → s.hlp.filter = [] →
     s.hlp.recalls = [] → s.on .HLP_STATUS_DETACHING = true → s.on .HLP_STATUS_LINK_UP = true →
     acts .detachComplete s (fun u => sameMem s u ∧ u.headless = true ∧ u.rd .HLP_STATUS_ATTACHED = 0 ∧
       u.rd .HLP_STATUS_DETACHING = 0 ∧ u.rd .HLP_STATUS_CAUSE = 3 ∧
       u.rd .HLP_STATUS_EPOCH = (s.rd .HLP_STATUS_EPOCH + 1) % 2 ^ 16))) ∧
  ((∀ (s : State) (np p evt : Nat), s.rd .RAS_STATUS_PHASE ≠ 0 → does (.linkTrained np p evt) s (fun t => sameMem s t ∧
     t.rd .HLP_STATUS_LINK_UP = 1 ∧ t.rd .HLP_CREDIT_NP_GRANTED = np % 2 ^ Field.HLP_CREDIT_NP_GRANTED.row.width ∧
     t.hlp.npCred = t.rd .HLP_CREDIT_NP_GRANTED ∧ t.hlp.pCred = t.rd .HLP_CREDIT_P_GRANTED ∧
     t.hlp.evtCred = t.rd .HLP_CREDIT_EVT_GRANTED ∧ t.hlp.downAt = none ∧
     onlyRegs s t [(.HLP_STATUS_LINK_UP, 0), (.HLP_CREDIT_NP_GRANTED, 0), (.HLP_CREDIT_P_GRANTED, 0),
       (.HLP_CREDIT_EVT_GRANTED, 0)])) ∧
   (∀ s : State, s.on .HLP_STATUS_LINK_UP = true → s.headless = false → acts .zciLinkLost s (fun u => sameMem s u ∧
     u.rd .HLP_STATUS_LINK_UP = 0 ∧ u.hlp.downAt = some s.time ∧ onlyRegs s u [(.HLP_STATUS_LINK_UP, 0)])))

/-- Attach with the current epoch, and the start of a detach: An ATTACH write of 8 bytes with ATTACH 1, DETACH 0 and EPOCH
equal to the status's EPOCH, while HEADLESS is 1 and both enables are 1, makes HEADLESS 0 and ATTACHED 1 and restarts
the heartbeat count; with another epoch, while not HEADLESS, or with Bus Master Enable 0 it has no effect but
CZ_HLP_ERR.ATTACH_EPOCH. A DETACH write while attached, with no delivery in service and no window access held for a
wake, sets DETACHING and recalls every line that host cores hold. -/
def Obligations.AttachAndDetach : Prop :=
  (∀ (s : State) (v : Nat), s.on .CFG_MSE = true → s.ready = true → bits v 0 2 = 1 →
    (s.headless = true → bits v 16 16 = s.rd .HLP_STATUS_EPOCH → s.on .CFG_BME = true →
      ∃ u, exec (.attach 8 v) s = .next (s.close u.settle) ∧ sameMem s u ∧ u.headless = false ∧
        u.rd .HLP_STATUS_ATTACHED = 1 ∧ u.hlp.hbFrom = s.time ∧
        onlyRegs s u [(.HLP_STATUS_HEADLESS, 0), (.HLP_STATUS_ATTACHED, 0)]) ∧
    (s.headless = false ∨ bits v 16 16 ≠ s.rd .HLP_STATUS_EPOCH ∨ s.on .CFG_BME = false →
      ∃ u, exec (.attach 8 v) s = .next (s.close u.settle) ∧ sameMem s u ∧ u.rd .HLP_ERR_ATTACH_EPOCH = 1 ∧
        onlyRegs s u [(.HLP_ERR_ATTACH_EPOCH, 0)])) ∧
  (∀ (s : State) (v : Nat), s.hears → bits v 0 2 = 2 → s.listed .EV_SRC_ACTIVE = [] → s.hlp.asleep = [] →
    ∃ u, exec (.detach 8 v) s = .next (s.close u.settle) ∧ sameMem s u ∧ u.rd .HLP_STATUS_DETACHING = 1 ∧
      onlyRegs s u [(.HLP_STATUS_DETACHING, 0)] ∧ u.hlp.leaving = s.onZci ∧
      ∀ h ∈ s.hlp.filter, u.hlp.recalls.contains h.line = true)

/-- Invalidation broadcasts and acknowledgements of host writes: A broadcast of form PASID or RANGE for which the host
holds a credit and whose PASID no atlas has bound is completed at once, its credit goes back and nothing else changes;
a broadcast for a bound PASID, or of form ALL, is handed to the translation unit as an invalidation.
GLOBAL_OBSERVATION_ACK of an issued plain write to host memory takes it from the requests, with an error completion
also setting CZ_HAP_ERR.WR_ERR. -/
def Obligations.BroadcastsAndAcknowledgements : Prop :=
  (∀ (s : State) (pasid tag base size : Nat), s.credit .invalidation = true → s.slotOfPasid pasid = none →
    acts (.translationInvalidationBroadcast pasid .pasid tag) s (fun u => u = (s.say (.invCompletion tag)).say (.poolCredit .invalidation)) ∧
    acts (.translationInvalidationBroadcast pasid (.range base size) tag) s (fun u => u = (s.say (.invCompletion tag)).say (.poolCredit .invalidation))) ∧
  (∀ (s : State) (pasid tag a : Nat), s.credit .invalidation = true → s.slotOfPasid pasid = some a →
    acts (.translationInvalidationBroadcast pasid .pasid tag) s (fun u => sameMem s u ∧
      ∃ v ∈ u.xl.invs, v.id = s.nextId ∧ v.source = .host tag ∧ v.slots = [a] ∧ v.range = none)) ∧
  (∀ (s : State) (pasid tag : Nat), s.credit .invalidation = true → acts (.translationInvalidationBroadcast pasid .all tag) s (fun u => sameMem s u ∧
      ∃ v ∈ u.xl.invs, v.id = s.nextId ∧ v.source = .host tag ∧ v.slots = s.atlases)) ∧
  (∀ (s : State) (id : Nat) (r : Req), s.req? id = some r → r.issued = true → r.isWrite = true → r.tier = 1 →
    r.purpose = .plain → s.fences = [] →
    acts (.globalObservationAck id true) s (fun u => u.req? id = none ∧ sameMem s u ∧ onlyRegs s u []) ∧
    acts (.globalObservationAck id false) s (fun u => u.req? id = none ∧ sameMem s u ∧ u.rd .HAP_ERR_WR_ERR = 1 ∧
      onlyRegs s u [(.HAP_ERR_WR_ERR, 0), (.HAP_DROP_WR_ERRORS, 0)]))

/-- What a doorbell does to its queue: A doorbell of a permitted form, outside DROWSE and with the host attached, acts on
the first row that applies: reserved bits or a tail outside the ring count MALFORMED; a queue that is FREE, DRAINING,
ABORTING or HELD counts INACTIVE; a tail behind the recorded one counts BEHIND; the same tail changes nothing; a
sequence byte that does not fit sets DB_MISMATCH, counts MISMATCH and raises the queue's error source; otherwise the
tail is recorded. No other register and no memory changes. -/
def Obligations.DoorbellActsByTheTable : Prop :=
  ∀ (s : State) (q v : Nat), s.hears → s.drowse = false → q < 4096 →
    let tail := bits v 0 24
    let head := s.rd .QCTX_HEAD q
    let dOld := subMod (s.qLen q) (s.rd .QCTX_TAIL q) head
    let dNew := subMod (s.qLen q) tail head
    let leaves (P : State → Prop) : Prop := does (.doorbellWrite (q * 4096) 8 v) s (fun t => sameMem s t ∧ P t)
    let ignored (f : Field) : Prop := leaves (fun t => onlyRegs s t [(f, 0)] ∧ s.counts t f)
    if bits v 32 32 ≠ 0 ∨ (s.qState q ≠ qFREE ∧ s.qLen q ≤ tail) then ignored .QM_DB_IGNORED_MALFORMED
    else if s.qState q = qFREE ∨ s.qState q = qDRAINING ∨ s.qState q = qABORTING ∨ s.qState q = qHELD then
      ignored .QM_DB_IGNORED_INACTIVE
    else if dNew < dOld then ignored .QM_DB_IGNORED_BEHIND
    else if dNew = dOld then leaves (fun t => onlyRegs s t [])
    else if bits v 24 8 ≠ (s.rd .QCTX_NEXT q + dNew - 1) % 256 then
      leaves (fun t => s.counts t .QM_DB_IGNORED_MISMATCH ∧ t.rd .QCTX_DB_MISMATCH q = 1 ∧
        t.on .EV_SRC_PENDING (0x1000 + q) = true ∧ onlyRegs s t [(.QM_DB_IGNORED_MISMATCH, 0), (.QCTX_DB_MISMATCH, q),
          (.EV_SRC_PENDING, 0x1000 + q), (.EV_STATS_MERGED, 0)])
    else leaves (fun t => t.rd .QCTX_TAIL q = tail ∧ onlyRegs s t [(.QCTX_TAIL, q)])

/-- The fetch of a pour slot, and its re-read by the race guard: While TAIL differs from the next unfetched slot, no race
guard runs, fewer than two entries are checked or on their way and the queue may be read, ENTRY_FETCH issues a read of
that slot; otherwise it does nothing. RACE_GUARD_REREAD of a guarded queue with no read under way and fewer than 16
re-reads lets time pass to the later of t0 plus the re-read's number times 128 ns and the last return, counts it, and
reads slot HEAD again. Memory does not change. That a re-read moves the time on to its moment (DESIGN CHOICE, log
entry 1), the numbers of reads (DESIGN CHOICE, log entry 7) and when HEAD advances (DEDUCED, log entry 21) are the
model's. -/
def Obligations.EntriesAreFetched : Prop :=
  (∀ (s : State) (q : Nat),
    let k := (s.fetchesOf q).length
    let i := (s.rd .QCTX_HEAD q + k) % s.qLen q
    let may := s.mayFetch q = true ∧ s.guardOf q = none ∧ s.rd .QCTX_TAIL q ≠ i ∧ k + (s.entriesOf q).length < 2
    (may → does (.entryFetch q) s (fun t => sameMem s t ∧ onlyRegs s t [] ∧
      t.qm.fetches = s.qm.fetches ++
        [{ id := s.nextId, queue := q, slot := i, seq := (s.rd .QCTX_NEXT q + k) % 2 ^ 44, reread := false }] ∧
      .entryRead s.nextId (s.rd .QCTX_LOC q) (s.rd .QCTX_BASE q * 4096 + i * 64) ∈ t.sent)) ∧
    (¬ may → exec (.entryFetch q) s = .next (s.close s))) ∧
  (∀ (s : State) (q : Nat) (g : Guard), s.guardOf q = some g → s.mayFetch q = true → s.fetchesOf q = [] → g.count < 16 →
    does (.raceGuardReread q) s (fun t => sameMem s t ∧
      t.time = max s.time (max (g.t0 + (g.count + 1) * 128) g.lastAt) ∧ s.counts t .QM_RACE_REREADS ∧
      s.counts t .QCTX_REREADS q ∧ onlyRegs s t [(.QM_RACE_REREADS, 0), (.QCTX_REREADS, q)] ∧
      t.qm.fetches = s.qm.fetches ++
        [{ id := s.nextId, queue := q, slot := s.rd .QCTX_HEAD q, seq := s.rd .QCTX_NEXT q, reread := true }] ∧ t.guardOf q = some { g with count := g.count + 1 }))

/-- The checks on a fetched entry: Of the read of slot HEAD, where no younger read of the queue has overtaken it: a
fetched entry whose SEQ is the expected one and whose reserved bits are zero joins the checked entries, and HEAD and
NEXT advance by one. With another SEQ the race guard starts at the current time with no re-read, or, after 16
re-reads, the queue enters ERROR with code 1 and CZ_QM_RACE.STALE counts; with a reserved bit set it enters ERROR with
code 2, and on a read error with code 3, each at the entry's slot with the queue's error source raised; poison is
counted in CZ_POISON.RD. A read of a slot behind HEAD that comes back first is kept for its turn and changes nothing
else. That HEAD advances with the checks is the model's reading (DEDUCED, log entry 21). -/
def Obligations.FetchedEntryIsChecked : Prop :=
  ∀ (s : State) (id : Nat) (f : Fetch) (d : List Byte), s.qm.fetches.find? (fun x => x.id == id) = some f →
    f.back = none →
    (f.slot ≠ s.rd .QCTX_HEAD f.queue → (∀ x ∈ s.qm.fetches, x.queue = f.queue → x.back = none) → does (.entryReturn id (.ok d)) s
      (fun t => sameMem s t ∧ onlyRegs s t [] ∧ t.qm.entries = s.qm.entries ∧ t.qm.guards = s.qm.guards ∧
        t.qm.fetches = s.qm.fetches.map (fun x => if x.id = id then { x with back := some (.ok (s.slotBytes f d)) } else x))) ∧
    (f.slot = s.rd .QCTX_HEAD f.queue →
      (∀ x ∈ s.qm.fetches, x.queue = f.queue → x.id ≠ id → x.back = none ∧ x.slot ≠ f.slot) →
    let q := f.queue
    let b := s.slotBytes f d
    let stopped (ret : Ret) (code : Nat) (P : State → Prop) : Prop := does (.entryReturn id ret) s (fun t => t.qState q = qERROR ∧
      t.rd .QCTX_ERR_CODE q = code ∧ t.rd .QCTX_ERR_IDX q = f.slot % 2 ^ 24 ∧ t.on .EV_SRC_PENDING (0x1000 + q) = true ∧
      t.fetchesOf q = [] ∧ t.guardOf q = none ∧ t.rd .QCTX_HEAD q = s.rd .QCTX_HEAD q ∧ P t)
    (leAt b 0 4 = f.seq % 2 ^ 32 → entryReserved b = false → does (.entryReturn id (.ok d)) s (fun t => sameMem s t ∧
      t.qm.entries = s.qm.entries ++ [entryOf f b] ∧ t.guardOf q = none ∧
      t.rd .QCTX_HEAD q = (f.slot + 1) % s.qLen q % 2 ^ 24 ∧ t.rd .QCTX_NEXT q = (f.seq + 1) % 2 ^ 44 ∧
      onlyRegs s t [(.QCTX_HEAD, q), (.QCTX_NEXT, q)])) ∧
    (leAt b 0 4 ≠ f.seq % 2 ^ 32 → s.guardOf q = none → does (.entryReturn id (.ok d)) s (fun t => sameMem s t ∧
      onlyRegs s t [] ∧ t.fetchesOf q = [] ∧
      t.guardOf q = some { queue := q, t0 := s.time, count := 0, lastAt := s.time })) ∧
    (∀ g, leAt b 0 4 ≠ f.seq % 2 ^ 32 → s.guardOf q = some g → g.count < 16 →
      does (.entryReturn id (.ok d)) s (fun t => sameMem s t ∧ onlyRegs s t [] ∧
        t.guardOf q = some { g with lastAt := s.time })) ∧
    (∀ g, leAt b 0 4 ≠ f.seq % 2 ^ 32 → s.guardOf q = some g → 16 ≤ g.count → stopped (.ok d) 1 (fun t => s.counts t .QM_RACE_STALE)) ∧
    (leAt b 0 4 = f.seq % 2 ^ 32 → entryReserved b = true → stopped (.ok d) 2 (fun _ => True)) ∧
    (∀ l, stopped (.poison l) 3 (fun t => s.counts t .POISON_RD)) ∧ stopped .error 3 (fun _ => True))

/-- Admission tokens, and what a grant does: An admission token is added up to TOKEN_DEPTH, none while the block is not
READY. Outside a firmware switch of the sequencers, a grant takes one token and the selected queue's oldest checked
entry, where a free context is named. If its mould handle is good for the queue's flask, the named context holds the
pour at its gates, with the entry's mould, bank and ticket and the queue's PASID and flask, and the bank is read; if
not, no context is taken and the completion record BAD_MOULD is issued with the reason in DETAIL, to be followed by
the queue's source. What a lowered or unlisted TOKEN_DEPTH does (DESIGN CHOICE, log entries 16 and 140), the
procedure's first choices and credits (log entries 14, 15 and 23), when a record counts as written (DESIGN CHOICE, log
entry 17), which reason an unloaded index gives (DESIGN CHOICE, log entry 149), that a faulted flask's entry gets its
record (DESIGN CHOICE, log entry 150) and that a record waits for no write entry (DESIGN CHOICE, log entry 140) are
the model's. -/
def Obligations.TokensAndGrants : Prop :=
  (∀ s : State, s.ready = true → does .admissionToken s (fun t => sameMem s t ∧ onlyRegs s t [(.QM_STATUS_TOKENS, 0)] ∧
    t.rd .QM_STATUS_TOKENS = min (s.rd .QM_STATUS_TOKENS + 1) (max (s.rd .QM_CTL_TOKEN_DEPTH) 1) % 2 ^ Field.QM_STATUS_TOKENS.row.width)) ∧
  (∀ s : State, s.ready = false → exec .admissionToken s = .next (s.close s)) ∧
  (∀ (s v : State) (c q : Nat) (e : Entry), s.ready = true → s.drowse = false → s.power = none → s.loading = false → s.on .QM_CTL_ADMIT_EN = true →
    0 < s.rd .QM_STATUS_TOKENS → s.select = some (q, v) → s.oldest q = some e → s.ctxFor c q = true →
    (∀ m, s.badMould e (s.rd .QCTX_FLASK q) = none → s.mould? e.mould e.mgen = some m → acts (.grant c) s (fun u => sameMem s u ∧
      u.rd .QM_STATUS_TOKENS = (s.rd .QM_STATUS_TOKENS - 1) % 2 ^ Field.QM_STATUS_TOKENS.row.width ∧ e ∉ u.qm.entries ∧
      (∃ y, u.ctx? c = some y ∧ y.st = .gates ∧ y.pour = { queue := q, qgen := s.rd .QCTX_GEN q, seq := e.seq } ∧
        y.mould = e.mould ∧ y.mgen = e.mgen ∧ y.bank = e.bank ∧ y.slot = e.slot ∧ y.ticket = e.ticket ∧ y.pc = 0 ∧
        y.depth = 0 ∧ y.pasid = s.rd .QCTX_PASID q ∧ y.flask = s.rd .QCTX_FLASK q ∧ y.rt = s.on .QCTX_RT q) ∧
      .bankRead c (m.gbase + e.bank * 0x200) ∈ u.sent ∧
      onlyRegs s u [(.QM_STATUS_TOKENS, 0), (.QCTX_ADMITTED, q), (.QCTX_POURS, q)])) ∧
    (∀ d, s.badMould e (s.rd .QCTX_FLASK q) = some d → e.queue = q → acts (.grant c) s (fun u => u.ctxs = s.ctxs ∧ e ∉ u.qm.entries ∧
      u.rd .QM_STATUS_TOKENS = (s.rd .QM_STATUS_TOKENS - 1) % 2 ^ Field.QM_STATUS_TOKENS.row.width ∧
      s.recorded u { queue := q, qgen := s.rd .QCTX_GEN q, seq := e.seq } e.slot e.ticket 8 d true ∧
      (d = 1 → s.counts u .STALE_DROP_MOULD))))

/-- The gate copy is read from the bank and brought within the descriptors: The bank read of a context that waits for its
gates makes its gate copy: 64 gates, each gate that no SPAWN passed a value for holding the bank's doubleword clamped
by its descriptor; a pour of a real-time queue then asks for its pinned set, the sheets of its VA arguments and of its
code. Which of the values that a racing store allows is taken (DESIGN CHOICE, log entry 137), and what a TIMELINE gate
of a management pour is brought to (DESIGN CHOICE, log entry 25), are the model's. A read error of a flask's pour
makes no gate copy, records the HBM error and calls for the flask's reset. No memory is changed by the good read. -/
def Obligations.GateCopyIsClamped : Prop :=
  ∀ (s : State) (c : Nat) (x : Ctx) (m : Mould) (d : List Byte), s.ctx? c = some x → x.st = .gates → x.gates = [] →
    s.mould? x.mould x.mgen = some m →
    let a := m.gbase + x.bank * 0x200
    acts (.bankReadReturn c (.ok d)) s (fun u => sameMem s u ∧ ∃ y, u.ctx? c = some y ∧ y.gates.length = 64 ∧
      y.pass = [] ∧ y.st = .gates ∧
      (x.rt = true → y.pinAsk = (s.vaArgs m).map (fun g => (false, gateAt y.gates g)) ++
        (s.codeList m).map (fun r => (true, r * sheet32M))) ∧ ∀ g, g < 64 → (∀ p ∈ x.pass, p.1 ≠ g) →
        gateAt y.gates g = clampGate (s.descAt m g) (s.tlCount x) (leAt (s.homeRead a 0x200 d) (8 * g) 8) % 2 ^ 64) ∧
    (x.mgmt = false → ∀ bad, (∃ l, bad = .poison l) ∨ bad = .error → acts (.bankReadReturn c bad) s (fun u => u.ctx? c = some x ∧ s.counts u .POISON_RD ∧
      u.rd .RAS_ERR_HBM_UE = 1 ∧ .flask x.flask ∈ u.calls))

/-- QUEUE_CREATE, POUR_CANCEL and QUEUE_DESTROY: A QUEUE_CREATE that passes its checks makes the queue ACTIVE with the
rings, length, level, weight, limit, flask, PASID and first sequence number of its parameters, HEAD and TAIL 0, and
replies OK with the queue's generation; one that fails a check replies that status, and no register but those of its
reply and of a stale flask reference changes. Neither changes memory. POUR_CANCEL of a pour in flight that is not
ending and whose STAMP has not run makes it end with status ABORTED and DETAIL 0x02 and replies OK; a pour that is not
in flight gives STATE; so does a pour ID with an old generation of its queue, which is counted in CZ_STALE_DROP.QUEUE
and changes nothing else. QUEUE_DESTROY of a queue that exists makes it DRAINING, or ABORTING with the flag, discards
its unadmitted entries and its fetches, and its reply waits; with another generation, or of a FREE queue, it replies
STATE. When the units move on and no pour and no unacknowledged record of the queue is left, the queue becomes FREE
with every field at its reset value, its generation advances by one modulo 256, nothing of it stays in the queue
manager, and every joined command replies OK with the count and first sequence of the discarded entries; until then
nothing changes. -/
def Obligations.QueuesComeAndGo : Prop :=
  (∀ (s : State) (n : Nat), s.starts n 0x20 →
     let b := s.begun n
     let q := bits (s.par n 0) 16 12
     let f := bits (s.par n 0) 0 6
     let cfg := s.par n 3
     (b.queueCreateFails n = none → answers (.queueCreate n) s (fun u => sameMem s u ∧ u.replied n stOK ∧ u.qState q = qACTIVE ∧
       u.rd .MB_OUT (n * 128) = s.rd .QCTX_GEN q % 2 ^ 64 ∧ u.rd .QCTX_HEAD q = 0 ∧ u.rd .QCTX_TAIL q = 0 ∧
       u.rd .QCTX_NEXT q = s.par n 6 % 2 ^ 44 ∧ u.rd .QCTX_LOC q = bits (s.par n 1) 0 1 ∧
       u.rd .QCTX_BASE q = bits (s.par n 1) 12 40 % 2 ^ Field.QCTX_BASE.row.width ∧ u.rd .QCTX_CLOC q = bits (s.par n 2) 0 1 ∧
       u.rd .QCTX_CBASE q = bits (s.par n 2) 12 40 % 2 ^ Field.QCTX_CBASE.row.width ∧ u.rd .QCTX_RING_LOG2 q = bits cfg 0 5 ∧
       u.rd .QCTX_LEVEL q = bits cfg 8 2 ∧ u.rd .QCTX_WEIGHT q = bits cfg 16 8 ∧ u.rd .QCTX_MAX_INFLIGHT q = bits cfg 24 7 ∧
       u.rd .QCTX_RT q = bits cfg 31 1 ∧ u.rd .QCTX_FLASK q = f ∧ u.rd .QCTX_PASID q = s.par n 4 % 2 ^ 20 ∧
       onlyRegs b u (replyFields n ++ [.QCTX_LOC, .QCTX_BASE, .QCTX_CLOC, .QCTX_CBASE, .QCTX_RING_LOG2, .QCTX_LEVEL, .QCTX_WEIGHT,
         .QCTX_MAX_INFLIGHT, .QCTX_RT, .QCTX_FLASK, .QCTX_FLASK_GEN, .QCTX_PASID, .QCTX_RT_GROUPS, .QCTX_NEXT, .QCTX_HEAD,
         .QCTX_TAIL, .QCTX_STATE].map (fun g => (g, q))))) ∧
     let drop : List (Field × Nat) := if b.frefOk n then [] else staleFields .flask
     (∀ st, b.queueCreateFails n = some st → answers (.queueCreate n) s (fun u => sameMem s u ∧ u.replied n st ∧
       onlyRegs b u (replyFields n ++ drop)))) ∧
  ((∀ (s : State) (n : Nat), s.starts n 0x23 →
     let p0 := s.par n 0
     bits p0 44 8 = s.rd .QCTX_GEN (bits p0 52 12) →
     (s.ctxs.find? (fun x => x.depth == 0 && !x.mgmt && x.pour.word == p0) = none →
       answers (.pourCancel n) s (fun u => u.replied n stSTATE ∧ u.ctxs = s.ctxs)) ∧
     (∀ x, s.ctxs.find? (fun x => x.depth == 0 && !x.mgmt && x.pour.word == p0) = some x → s.ctx? x.num = some x →
       x.cause = none → x.stamp = .none → answers (.pourCancel n) s (fun u => u.replied n stOK ∧
         ∃ y, u.ctx? x.num = some y ∧ y.cause = some { kind := .abort, status := 1, detail := 2 }))) ∧
   (∀ (s : State) (n : Nat), s.starts n 0x23 → bits (s.par n 0) 44 8 ≠ s.rd .QCTX_GEN (bits (s.par n 0) 52 12) →
     answers (.pourCancel n) s (fun u => sameMem s u ∧ u.replied n stSTATE ∧ u.ctxs = s.ctxs ∧ s.counts u .STALE_DROP_QUEUE ∧
       onlyRegs (s.begun n) u (replyFields n ++ staleFields .queue))) ∧
   (∀ (s : State) (d : Destroy), s.qm.destroys = [d] → (∀ n ∈ d.slots, n < 16) →
     let open_ := s.ctxs.any (fun x => x.pour.queue == d.queue && !x.mgmt) || s.qm.records.any (fun r => r.queue == d.queue)
     (open_ = true → s.settleDestroys = s) ∧
     (open_ = false →
       let u := s.settleDestroys
       sameMem s u ∧ u.qm.destroys = [] ∧ u.qState d.queue = qFREE ∧ u.rd .QCTX_GEN d.queue = (s.rd .QCTX_GEN d.queue + 1) % 256 ∧
       (∀ f ∈ queueFields, u.rd f d.queue = f.resetAt d.queue) ∧ u.entriesOf d.queue = [] ∧ u.fetchesOf d.queue = [] ∧
       u.guardOf d.queue = none ∧
       ∀ n ∈ d.slots, u.replied n stOK ∧ u.rd .MB_OUT (n * 128) = d.count % 2 ^ 64 ∧ u.rd .MB_OUT (n * 128 + 1) = d.first % 2 ^ 64)) ∧
   (∀ (s : State) (n : Nat), s.starts n 0x22 →
     let q := bits (s.par n 0) 16 12
     let gen := bits (s.par n 0) 28 8
     (gen ≠ s.rd .QCTX_GEN q ∨ s.qState q = qFREE → answers (.queueDestroy n) s (fun u => u.replied n stSTATE ∧ u.qm = s.qm)) ∧
     (gen = s.rd .QCTX_GEN q → s.qState q ≠ qFREE → s.qm.destroys.find? (fun d => d.queue == q) = none →
       answers (.queueDestroy n) s (fun u => u.qState q = (if bit (s.par n 0) 48 then qABORTING else qDRAINING) ∧
         u.entriesOf q = [] ∧ u.fetchesOf q = [] ∧ u.guardOf q = none ∧ u.slotState n = mbRUNNING ∧
         ∃ d ∈ u.qm.destroys, d.queue = q ∧ d.slots = [n] ∧ d.count = (s.entriesOf q).length))))

/-- QUEUE_RESUME: QUEUE_RESUME of a queue in ERROR with its generation clears ERR_CODE and ERR_IDX, makes the queue
ACTIVE, ends any race guard with its count, and issues a read of slot HEAD when the queue may be read, and replies OK.
In any other state, and with a generation that differs, it replies STATE and changes nothing but its reply; the
generation mismatch is also counted in CZ_STALE_DROP. -/
def Obligations.QueueResumeLeavesError : Prop :=
  ∀ (s : State) (n : Nat), s.starts n 0x21 →
    let b := s.begun n
    let q := bits (s.par n 0) 16 12
    let gen := bits (s.par n 0) 28 8
    (gen ≠ s.rd .QCTX_GEN q → answers (.queueResume n) s (fun u => sameMem s u ∧ u.replied n stSTATE ∧
      s.counts u .STALE_DROP_QUEUE ∧ u.qm = s.qm ∧ onlyRegs b u (replyFields n ++ staleFields .queue))) ∧
    (gen = s.rd .QCTX_GEN q → s.qState q ≠ qERROR → answers (.queueResume n) s (fun u => sameMem s u ∧ u.replied n stSTATE ∧
      u.qm = s.qm ∧ onlyRegs b u (replyFields n))) ∧
    (gen = s.rd .QCTX_GEN q → s.qState q = qERROR → answers (.queueResume n) s (fun u => sameMem s u ∧ u.replied n stOK ∧
      u.qState q = qACTIVE ∧ u.rd .QCTX_ERR_CODE q = 0 ∧ u.rd .QCTX_ERR_IDX q = 0 ∧ u.guardOf q = none ∧
      (s.drowse = false → s.admitStopped (s.rd .QCTX_FLASK q) = false → (s.rd .QCTX_LOC q = 0 ∨ s.mayIssueHost false = true) →
        s.rd .QCTX_TAIL q ≠ s.rd .QCTX_HEAD q → u.fetchesOf q =
          [{ id := s.nextId, queue := q, slot := s.rd .QCTX_HEAD q, seq := s.rd .QCTX_NEXT q, reread := false }]) ∧
      onlyRegs b u (replyFields n ++ [(.QCTX_STATE, q), (.QCTX_ERR_CODE, q), (.QCTX_ERR_IDX, q)])))

/-- MOULD_LOAD and its completion: A MOULD_LOAD of a flask's mould, or of a management mould, whose ranges, image and
digest pass every check copies the body to the first free run of its mould store and enters the mould at the lowest
free handle, not yet loaded; with PIN a read of each of its segments is issued and counted as a miss. A load whose
ranges are not permitted replies DENIED (so does one whose body is not aligned to 64 B: the model's reading, DEDUCED,
log entry 24), and one while the handle table is off, or whose segments PIN has no room for, replies NO_RESOURCE,
without a copy. MOULD_LOAD_COMPLETE, of a pinned load once every segment is in the cache, makes the handle valid and
replies OK with index and generation, but where the flask has been locked meanwhile by a list that does not hold the
mould: then the handle stays invalid, the load replies STATE and the flask's reset is called for, which is the model's
choice (DEDUCED, log entry 81). -/
def Obligations.MouldIsLoaded : Prop :=
  (∀ (s : State) (n : Nat), s.starts n 0x30 → s.dirtyLines (s.par n 1) (max (s.par n 2) 0x300) = [] →
    let b := s.begun n
    let f := bits (s.par n 0) 0 6
    let hdr := b.dieRead (s.par n 1) 0x300
    let img := b.dieRead (s.par n 1) (s.par n 2)
    let pin := bit (s.par n 0) 48
    let mgmt := bit (s.par n 0) 49
    let owner := if mgmt then none else some f
    let env : LoadEnv := { len := s.par n 2, gbase := s.par n 3, tls := s.rd .FL_TCOUNT_M1 f + 1,
                           groups := popCount (s.rd .FL_GROUPS f) 64, mgmt := mgmt, rev := s.rd .ID_ENGINE_REV,
                           child := b.childOf owner }
    (mgmt = true → bits (s.par n 0) 0 16 = 0) → (mgmt = false → b.frefOk n = true ∧ b.flaskLive f = true) →
    (b.loadDenied mgmt f (s.par n 1) (s.par n 2) (s.par n 3) (imBanks hdr) = true →
      answers (.mouldLoad n) s (fun u => sameMem s u ∧ u.replied n stDENIED ∧ u.moulds = s.moulds)) ∧
    (b.loadDenied mgmt f (s.par n 1) (s.par n 2) (s.par n 3) (imBanks hdr) = false →
      (s.on .MC_HTAB_EN = false → answers (.mouldLoad n) s (fun u => sameMem s u ∧ u.replied n stNORES ∧ u.moulds = s.moulds)) ∧
      (∀ idx a, s.on .MC_HTAB_EN = true → b.freeHandle = some idx → b.freeRun owner (s.par n 2) = some a →
        (pin = true → b.pinFits idx (imRecords hdr) = false → answers (.mouldLoad n) s (fun u => sameMem s u ∧
          u.replied n stNORES ∧ u.moulds = s.moulds)) ∧
        ((pin = true → b.pinFits idx (imRecords hdr) = true) →
        loadHead env hdr = none → (mgmt = false → s.on .FL_LOCKED f = false) → loadBody env img (imDigest img) = none →
        s.par n 2 ≤ 2 ^ 30 → a + s.par n 2 ≤ hbmSize →
        answers (.mouldLoad n) s (fun u => onlyRegs b u (if pin then [(.MC_STATS_MISSES, 0)] else []) ∧
          u.sysRead a (s.par n 2) = img ∧
          (pin = true → ∀ g, g < segsOf (imRecords img) → .fillRead idx g ∈ u.sent ∧
            ∃ w ∈ u.moulds.fills, w.idx = idx ∧ w.seg = g ∧ w.pin = true) ∧
          ∃ m ∈ u.moulds.table, m.idx = idx ∧ m.gen = s.handleGen idx ∧ m.flask = owner ∧ m.addr = a ∧ m.pinned = pin ∧
            m.len = s.par n 2 ∧ m.gbase = s.par n 3 ∧ m.loaded = false ∧ m.slot = some n ∧ m.records = imRecords img))))) ∧
  (∀ (s : State) (idx n : Nat) (m : Mould), n < 16 → s.moulds.table.find? (fun m => m.idx == idx && !m.loaded) = some m →
    m.slot = some n → (m.pinned = true → s.allFilled m = false → acts (.mouldLoadComplete idx) s (fun u => u = s)) ∧
    ((m.pinned = true → s.allFilled m = true) →
    (s.lockedOut m = none → acts (.mouldLoadComplete idx) s (fun u => sameMem s u ∧ onlyRegs s u (replyFields n) ∧
      u.replied n stOK ∧ u.rd .MB_OUT (n * 128) = (idx + m.gen * 2 ^ 20) % 2 ^ 64 ∧
      (∃ k ∈ u.moulds.table, k.idx = idx ∧ k.loaded = true))) ∧
    (∀ f, s.lockedOut m = some f → acts (.mouldLoadComplete idx) s (fun u => sameMem s u ∧ u.replied n stSTATE ∧
      u.rd .FL_CAUSE_FOREIGN_MOULD f = 1 ∧ .flask f ∈ u.calls ∧ ∀ k ∈ u.moulds.table, k.idx = idx → k.loaded = true →
        ∃ k0 ∈ s.moulds.table, k0.idx = idx ∧ k0.loaded = true))))

/-- MOULD_UNLOAD, the return of a segment, and cache control: MOULD_UNLOAD of a loaded mould by its flask, with both
generations current and no pour of it in flight, frees the handle, advances its generation and drops its segments;
while a pour of it is in flight it replies BUSY and nothing changes but the reply. A segment that returns into a set
with room is valid in the cache and its waiting contexts run. A segment of a flask's mould that returns with an error
is recorded and calls for the flask's reset. An 8-byte write of CZ_MC_CTL sets EN and PREFETCH_EN from the value and
changes no other register; with EN 0 afterwards every segment left in the cache is pinned, with EN 1 the cache is as
before. A write of CZ_MC_HTAB while a mould is loaded changes nothing; otherwise its fields take the value, and when
EN is then 1 every byte of the 32 MiB table area reads 0, through either port, but in a line that a host core holds:
its copy is recalled, and the zeros wait for it. That the table's entries are kept beside memory is the model's choice
(DESIGN CHOICE, log entry 135). -/
def Obligations.MouldsLeaveAndSegmentsReturn : Prop :=
  ((∀ (s : State) (n f : Nat) (m : Mould), s.starts n 0x31 →
     let b := s.begun n
     s.moulds.table.find? (fun m => m.idx == bits (s.par n 1) 0 20 && m.loaded) = some m → m.flask = some f →
     bits (s.par n 0) 0 6 = f → b.frefOk n = true → bits (s.par n 1) 20 12 = m.gen →
     (s.mouldBusy m = true → answers (.mouldUnload n) s (fun u => sameMem s u ∧ u.replied n stBUSY ∧ u.moulds = s.moulds ∧
       onlyRegs b u (replyFields n))) ∧
     (s.mouldBusy m = false → answers (.mouldUnload n) s (fun u => sameMem s u ∧ u.replied n stOK ∧ onlyRegs b u (replyFields n) ∧
       (∀ k ∈ u.moulds.table, k.idx ≠ m.idx) ∧ u.handleGen m.idx = (m.gen + 1) % 4096 ∧
       (∀ g ∈ u.moulds.segs, g.idx ≠ m.idx) ∧ ∀ g ∈ u.moulds.fills, g.idx ≠ m.idx))) ∧
   (∀ (s : State) (idx seg : Nat) (f : Fill), s.moulds.fills.find? (fun x => x.idx == idx && x.seg == seg) = some f →
     (∀ d v, f.keep = true → s.victim (setOf idx seg) = some v → acts (.segmentFillReturn idx seg (.ok d)) s (fun u =>
       sameMem s u ∧ onlyRegs s u [] ∧ u.cached idx f.gen seg = true ∧
       ∀ c ∈ f.waiters, ∀ x, s.ctx? c = some x → x.st = .waitFetch → ∃ y, u.ctx? c = some y ∧ y.st = .run ∧ y.pc = x.pc)) ∧
     (∀ d, f.keep = false → acts (.segmentFillReturn idx seg (.ok d)) s (fun u => sameMem s u ∧ onlyRegs s u [] ∧
       u.moulds.segs = s.moulds.segs ∧ ∀ c ∈ f.waiters, ∀ x, s.ctx? c = some x → x.st = .waitFetch →
         ∃ y, u.ctx? c = some y ∧ y.st = .run ∧ y.buf = some seg)) ∧
     (∀ m o bad, s.moulds.table.find? (fun m => m.idx == idx) = some m → m.flask = some o → (∃ l, bad = .poison l) ∨ bad = .error →
       acts (.segmentFillReturn idx seg bad) s (fun u => u.cached idx f.gen seg = s.cached idx f.gen seg ∧
         s.counts u .POISON_RD ∧ u.rd .RAS_ERR_HBM_UE = 1 ∧ .flask o ∈ u.calls)))) ∧
  (∀ (s : State) (v : Nat), s.hears →
     does (.mcCtlWrite 0 8 v) s (fun t => sameMem s t ∧ onlyRegs s t (fieldsAt 0x208000) ∧
       t.rd .MC_CTL_EN = bits v Field.MC_CTL_EN.row.lo 1 ∧ t.rd .MC_CTL_PREFETCH_EN = bits v Field.MC_CTL_PREFETCH_EN.row.lo 1 ∧
       (t.rd .MC_CTL_EN = 0 → t.moulds.segs = s.moulds.segs.filter Seg.pinned) ∧
       (t.rd .MC_CTL_EN = 1 → t.moulds = s.moulds)) ∧
     (s.loadedCount ≠ 0 → does (.mcHtabWrite 0 8 v) s (fun t => sameMem s t ∧ onlyRegs s t [])) ∧
     (s.loadedCount = 0 → does (.mcHtabWrite 0 8 v) s (fun t => onlyRegs s t (fieldsAt 0x208018) ∧
       t.rd .MC_HTAB_EN = bits v Field.MC_HTAB_EN.row.lo 1 ∧
       ∀ a, t.sysByte a = (if t.rd .MC_HTAB_EN = 1 ∧ t.rd .MC_HTAB_BASE * granule ≤ a ∧ a < (t.rd .MC_HTAB_BASE + 1) * granule
           ∧ s.hostHeld (lineOf a) = false then 0 else s.sysByte a) ∧
         (t.rd .MC_HTAB_EN = 1 → t.rd .MC_HTAB_BASE * granule ≤ a → a < (t.rd .MC_HTAB_BASE + 1) * granule →
           (s.hostHeld (lineOf a) = false → t.dieByte a = 0) ∧
           (s.hostHeld (lineOf a) = true → t.hlp.recalls ≠ [] ∧ ∃ w ∈ t.hlp.waits, ∃ st, w.act = .store st ∧
             st.cells = cellsAt (lineOf a * 64) (zeros 64))))))

/-- GUARD, JUMP, LOOP, ENDLOOP, CALL and RETURN: With the record before the walk and no pending gate: GUARD goes to the
next record if its condition holds and to TARGET if not; JUMP goes to TARGET; LOOP with trip count 0 goes past its
ENDLOOP, and otherwise opens a loop at iteration 0; ENDLOOP goes back to the first record of the body with the next
iteration, or leaves the loop after the last; an index gate takes the iteration clamped by its descriptor; CALL stacks
the next index and goes to TARGET; RETURN goes to the index it takes from the stack. No byte of memory and no other
context changes. That ENDLOOP writes the index gate without the LOOP record's segment being at hand is the model's
choice (DESIGN CHOICE, log entry 138), and so is its reading of the turns at a sequencer (DEDUCED, log entry 145),
which every statement about a record shares. -/
def Obligations.ControlFlowRecords : Prop :=
  ∀ (s : State) (c : Nat) (x : Ctx) (m : Mould) (r : List Byte), s.faces c x m r →
    let goes (i : Instr) (pc : Nat) (P : Ctx → Prop) : Prop := acts i s (fun u => walked s c u ∧ u.goesTo c pc ∧
      ∃ y, u.ctx? c = some y ∧ P y)
    let goesIdx (i : Instr) (pc g v : Nat) (P : Ctx → Prop) : Prop := acts i s (fun u => sameMem s u ∧ u.goesTo c pc ∧
      ∃ y, u.ctx? c = some y ∧ y.gates = x.gates.set g (BitVec.ofNat 64 (clampGate (s.descAt m g) (s.tlCount x) (v % 2 ^ 64))) ∧ P y)
    (opOf r = opGUARD → goes (.recGuard c)
      (if condHolds (fld r 0 8 3) (x.op r 0 16) (x.op r 0 32) then x.pc + 1 else fld r 0 48 16)
      (fun y => y.gates = x.gates ∧ y.loops = x.loops ∧ y.calls = x.calls)) ∧
    (opOf r = opJUMP → goes (.recJump c) (fld r 0 48 16) (fun y => y.gates = x.gates ∧ y.loops = x.loops ∧ y.calls = x.calls)) ∧
    (opOf r = opLOOP →
      (x.op r 0 32 = 0 → goes (.recLoop c) (fld r 0 48 16 + 1) (fun y => y.gates = x.gates ∧ y.loops = x.loops)) ∧
      (x.op r 0 32 ≠ 0 →
        let open_ (y : Ctx) : Prop := y.loops = { index := x.pc, trip := x.op r 0 32, iter := 0 } :: x.loops
        (fld r 0 8 1 = 0 → goes (.recLoop c) (x.pc + 1) (fun y => y.gates = x.gates ∧ open_ y)) ∧
        (fld r 0 8 1 = 1 → goesIdx (.recLoop c) (x.pc + 1) (fld r 0 16 6) 0 open_))) ∧
    (opOf r = opENDLOOP → ∀ (f : LoopFrame) (rest : List LoopFrame), x.loops = f :: rest →
      let l := s.recordOf m f.index
      (f.iter + 1 < f.trip →
        let next (y : Ctx) : Prop := y.loops = { f with iter := f.iter + 1 } :: rest
        (fld l 0 8 1 = 0 → goes (.recEndloop c) (f.index + 1) (fun y => y.gates = x.gates ∧ next y)) ∧
        (fld l 0 8 1 = 1 → bit x.pending (fld l 0 16 6) = false →
          goesIdx (.recEndloop c) (f.index + 1) (fld l 0 16 6) (f.iter + 1) next) ∧
        (fld l 0 8 1 = 1 → bit x.pending (fld l 0 16 6) = true →
          acts (.recEndloop c) s (fun u => walked s c u ∧ u.waitsAt c x.pc .waitGate))) ∧
      (f.trip ≤ f.iter + 1 → goes (.recEndloop c) (x.pc + 1) (fun y => y.gates = x.gates ∧ y.loops = rest))) ∧
    (opOf r = opCALL → goes (.recCall c) (fld r 0 48 16) (fun y => y.gates = x.gates ∧ y.calls = (x.pc + 1) :: x.calls)) ∧
    (opOf r = opRETURN → ∀ (a : Nat) (rest : List Nat), x.calls = a :: rest →
      goes (.recReturn c) a (fun y => y.gates = x.gates ∧ y.calls = rest))

/-- WAIT and the three SIGNAL records: WAIT goes on when the flask's timeline has reached the value and otherwise parks
the walk on it. A SIGNAL of the flask's own timeline applies SET, ADD or MAX to it, goes on, and lets every WAIT
parked on it that the new value meets go on; it changes no other register. A remote SIGNAL sends an update for the
flask to the node and waits for its answer. A SIGNAL after a STAMP that is not yet acknowledged waits and changes no
timeline. -/
def Obligations.WaitAndSignalRecords : Prop :=
  ∀ (s : State) (c : Nat) (x : Ctx) (m : Mould) (r : List Byte), s.faces c x m r →
    let i := s.globalTl x (x.op r 0 16)
    let v := x.tlValue r
    (opOf r = opWAIT →
      (v ≤ s.timeline i → acts (.recWait c) s (fun u => walked s c u ∧ u.goesTo c (x.pc + 1))) ∧
      (s.timeline i < v → acts (.recWait c) s (fun u => walked s c u ∧ u.waitsAt c x.pc .waitTl ∧
        ∃ y, u.ctx? c = some y ∧ y.timeline = i ∧ y.value = v))) ∧
    (∀ (k : Nat) (sig : Instr), (k, sig) ∈ [(0, Instr.recSignalSet c), (1, .recSignalAdd c), (2, .recSignalMax c)] →
      opOf r = opSIGNAL → fld r 0 8 3 = k →
      (x.stampWait = true → acts sig s (fun u => walked s c u ∧ u.waitsAt c x.pc .run)) ∧
      (x.stampWait = false →
        (fld r 0 11 1 = 0 → acts sig s (fun u => sameMem s u ∧ u.goesTo c (x.pc + 1) ∧
          u.timeline i = tlResult k (s.timeline i) v % 2 ^ 64 ∧
          onlyRegs s u [(.MC_STATS_HITS, 0), (.MC_STATS_MISSES, 0), (.TL_COUNTER, i)] ∧
          ∀ d y, d ≠ c → s.ctx? d = some y →
            if y.st = .waitTl ∧ y.timeline = i ∧ y.value ≤ u.timeline i then u.ctx? d = some { y with st := .run, pc := y.pc + 1 }
            else u.ctx? d = some y)) ∧
        (fld r 0 11 1 = 1 → x.asked = false → acts sig s (fun u => walked s c u ∧ u.waitsAt c x.pc .run ∧
          ∃ q ∈ u.reqs, q.tier = 2 ∧ q.node = x.op r 0 48 ∧ q.kind = .sig k x.flask (x.op r 0 16) v ∧ q.issued = false))))

/-- FENCE, BARRIER and END: A FENCE waits while earlier work of the pour, spawned pours or accepted stores are
outstanding; then one of scope DIE goes on, and one of scope SYSTEM sends commit markers to the HBM controllers, and
goes on once all have answered. BARRIER waits for kernels, PUTs and BULK_MOVEs, with its bit also for spawned pours,
and then goes on. END ends the walk at its record. None changes memory or another context. -/
def Obligations.FenceBarrierEndRecords : Prop :=
  ∀ (s : State) (c : Nat) (x : Ctx) (m : Mould) (r : List Byte), s.faces c x m r →
    (opOf r = opFENCE →
      (s.fenceReady x = false → acts (.recFence c) s (fun u => walked s c u ∧ u.waitsAt c x.pc .waitWork)) ∧
      (s.fenceReady x = true →
        (fld r 0 8 2 = 1 → acts (.recFence c) s (fun u => walked s c u ∧ u.goesTo c (x.pc + 1))) ∧
        (fld r 0 8 2 ≠ 1 → x.fencing = false → acts (.recFence c) s (fun u => walked s c u ∧ u.waitsAt c x.pc .waitWork ∧
          .commitMarker c ∈ u.sent ∧ ∃ y, u.ctx? c = some y ∧ y.fencing = true ∧ y.fence = Config.hbmControllers)) ∧
        (fld r 0 8 2 ≠ 1 → x.fencing = true → x.fence = [] → acts (.recFence c) s (fun u => walked s c u ∧
          u.goesTo c (x.pc + 1))))) ∧
    (opOf r = opBARRIER →
      let busy := !(s.kernelsOf c).isEmpty || x.puts != 0 || s.movesOf c || (fld r 0 8 1 == 1 && !(s.spawnedOf c).isEmpty)
      (busy = true → acts (.recBarrier c) s (fun u => walked s c u ∧ u.waitsAt c x.pc .waitWork)) ∧
      (busy = false → acts (.recBarrier c) s (fun u => walked s c u ∧ u.goesTo c (x.pc + 1)))) ∧
    (opOf r = opEND → acts (.recEnd c) s (fun u => walked s c u ∧ u.waitsAt c x.pc .waitWork ∧
      ∃ y, u.ctx? c = some y ∧ y.walkDone = true))

/-- KERNEL: A KERNEL with a zero in its grid goes on without a kernel. In a real-time pour whose pinned entries are
current and hold its code it first withdraws the unstarted borrowed records of its engines' groups, and then, with
room, issues a PHYS kernel with its deadline and grace to every target, and sets RT_GROUPS where the queue's reserved
groups are fewer than it asks for; without a pinned entry for its code it waits and asks for one. How many records a
lane holds, withdrawn ones among them, is the model's choice (DESIGN CHOICE, log entry 139). Outside a real-time
queue, with room in the lane of every engine it targets, it issues one kernel: the first engines of the pour's groups,
as many as the grid has blocks and the groups have engines, each take a lane record behind those they hold; the kernel
has the record's grid, budget and the gates of its mask as arguments, and the walk goes on. Without room the walk
waits for the lanes and no kernel is issued. Memory does not change. -/
def Obligations.KernelRecord : Prop :=
  ∀ (s : State) (c : Nat) (x : Ctx) (m : Mould) (r : List Byte), s.faces c x m r → opOf r = opKERNEL →
    let gx := x.op r 2 0
    let gy := x.op r 2 16
    let gz := x.op r 2 32
    let targets := ((s.kernelGroups x r).1.flatMap enginesOf).take (gx * gy * gz)
    (gx = 0 ∨ gy = 0 ∨ gz = 0 → acts (.recKernel c) s (fun u => walked s c u ∧ u.goesTo c (x.pc + 1) ∧
      u.kernels = s.kernels ∧ u.lanes = s.lanes)) ∧
    (gx ≠ 0 → gy ≠ 0 → gz ≠ 0 → x.rt = false →
      (targets.all (s.laneRoom x) = false → acts (.recKernel c) s (fun u => walked s c u ∧ u.waitsAt c x.pc .waitLane ∧
        u.kernels = s.kernels ∧ u.lanes = s.lanes)) ∧
      (targets.all (s.laneRoom x) = true → acts (.recKernel c) s (fun u => sameMem s u ∧ u.goesTo c (x.pc + 1) ∧
        (∀ e, (u.lane e).queue = (s.lane e).queue ++ (if e ∈ targets then [s.nextId] else []) ∧
          (u.lane e).running = (s.lane e).running) ∧
        onlyRegs s u [(.MC_STATS_HITS, 0), (.MC_STATS_MISSES, 0), (.PWR_GATED_GROUPS, 0)] ∧
        ∃ k, u.kernels = s.kernels ++ [k] ∧ k.id = s.nextId ∧ k.ctx = c ∧ k.index = x.pc ∧ k.pour = x.pour ∧ k.targets = targets ∧
          k.left = targets ∧ k.grid = (gx, gy, gz) ∧ k.code = fld r 1 0 57 ∧ k.budget = fld r 4 0 32 ∧
          k.serial = (fld r 0 9 1 == 1) ∧ k.noPre = (if s.on .SEQ_CTL_PRELOAD_EN then [] else targets) ∧
          k.args = (onesOf (fld r 3 0 64) 64).map (fun g => nth x.gates g 0)))) ∧
    (gx ≠ 0 → gy ≠ 0 → gz ≠ 0 → x.rt = true → x.pins.any Pin.stale = false →
      (x.pinFor (fld r 1 0 57) = none → x.codeFault.find? (fun q => q.1 == fld r 1 0 57 / sheet32M) = none → x.pinAsk = [] →
        acts (.recKernel c) s (fun u => walked s c u ∧ u.waitsAt c x.pc .run ∧ u.kernels = s.kernels ∧ u.lanes = s.lanes ∧
          ∃ y, u.ctx? c = some y ∧ y.pinAsk = [(true, fld r 1 0 57 / sheet32M * sheet32M)])) ∧
      ((x.pinFor (fld r 1 0 57)).isSome = true → targets.all ((s.withdraw targets).laneRoom x) = true →
        acts (.recKernel c) s (fun u => sameMem s u ∧ u.goesTo c (x.pc + 1) ∧
          (∀ e ∈ targets, (u.lane e).queue = ((s.withdraw targets).lane e).queue ++ [s.nextId]) ∧
          ((s.kernelGroups x r).2 = true → u.rd .SEQ_ERR_RT_GROUPS = 1) ∧
          ∃ k ∈ u.kernels, k.id = s.nextId ∧ k.ctx = c ∧ k.index = x.pc ∧ k.rt = true ∧ k.phys = true ∧ k.targets = targets ∧
            k.grid = (gx, gy, gz) ∧ k.code = fld r 1 0 57 ∧ k.budget = fld r 4 0 32 ∧ k.deadline = fld r 4 32 16 ∧
            k.grace = fld r 4 48 16)))

/-- STAMP: STAMP in a pour from a queue issues its completion record with status DONE (0) to the pour's slot of its
completion ring, or to the holding ring while the host is lost and the completion ring lies in host memory, and the
walk goes on. In a spawned pour, and in a pour of MGMT_RUN, the walk goes on and nothing else happens: no record, no
request, no register but the cache's counters and no byte of memory changes. That the record waits for no write entry
of its sequencer (DESIGN CHOICE, log entry 140) is the model's. -/
def Obligations.StampWritesTheRecord : Prop :=
  ∀ (s : State) (c : Nat) (x : Ctx) (m : Mould) (r : List Byte), s.faces c x m r → opOf r = opSTAMP →
    (x.depth = 0 → x.mgmt = false → acts (.recStamp c) s (fun u => u.goesTo c (x.pc + 1) ∧
      s.recorded u x.pour x.slot x.ticket 0 0 false ∧ ∃ y, u.ctx? c = some y ∧ y.stamp = .written s.nextId)) ∧
    (x.depth ≠ 0 ∨ x.mgmt = true → acts (.recStamp c) s (fun u => walked s c u ∧ u.goesTo c (x.pc + 1) ∧ u.qm.records = s.qm.records ∧
      u.reqs = s.reqs ∧ u.hlp = s.hlp ∧ ∃ y, u.ctx? c = some y ∧ y.stamp = x.stamp))

/-- EVENT and PATCH: EVENT with QUEUE_SRC 1 raises the queue's completion source and goes on; with QUEUE_SRC 0 it raises
its source if the flask owns it at its generation, and otherwise counts a denial, or, where the flask owns the source
at an old generation, drops the raise and counts it in CZ_STALE_DROP; after a STAMP not yet acknowledged it waits.
PATCH writes to its gate, clamped by the gate's descriptor, the immediate, the sum, the minimum or the maximum of
source gate and immediate, the value of a timeline, or the 8 bytes a load has returned, and goes on; in a real-time
pour a PATCH of a VA argument first asks for the new sheet's pinned entry and waits for it; a LOAD whose translation
is granted and accepted waits for them. What PATCH TIMELINE and the clamp of a TIMELINE gate take in a management pour
are the model's (DESIGN CHOICE, log entries 25 and 137). -/
def Obligations.EventAndPatchRecords : Prop :=
  ∀ (s : State) (c : Nat) (x : Ctx) (m : Mould) (r : List Byte), s.faces c x m r →
    let src := x.gate (fld r 0 24 6)
    let imm := leAt r 8 8
    let sets (i : Instr) (v : Nat) : Prop := acts i s (fun u => sameMem s u ∧ u.goesTo c (x.pc + 1) ∧ ∃ y, u.ctx? c = some y ∧
      y.gates = x.gates.set (fld r 0 16 6)
        (BitVec.ofNat 64 (clampGate (s.descAt m (fld r 0 16 6)) (s.tlCount x) (v % 2 ^ 64))))
    (opOf r = opEVENT →
      (x.stampWait = true → acts (.recEvent c) s (fun u => walked s c u ∧ u.waitsAt c x.pc .run)) ∧
      (x.stampWait = false → fld r 0 8 1 = 1 → acts (.recEvent c) s (fun u => sameMem s u ∧ u.goesTo c (x.pc + 1) ∧
        u.on .EV_SRC_PENDING x.pour.queue = true)) ∧
      (x.stampWait = false → fld r 0 8 1 = 0 →
        let n := fld r 0 16 14
        let owns := 0x2400 ≤ n ∧ n ≤ 0x3EFF ∧ s.on .EV_SRC_OWNED n = true ∧ s.rd .EV_SRC_FLASK n = x.flask
        (owns → s.rd .EV_SRC_FLASK_GEN n = s.flaskGen x.flask → acts (.recEvent c) s (fun u => sameMem s u ∧
          u.goesTo c (x.pc + 1) ∧ u.on .EV_SRC_PENDING n = true)) ∧
        (owns → s.rd .EV_SRC_FLASK_GEN n ≠ s.flaskGen x.flask → acts (.recEvent c) s (fun u => sameMem s u ∧
          u.goesTo c (x.pc + 1) ∧ s.counts u .STALE_DROP_FLASK ∧ u.rd .EV_ERR_DENIED = s.rd .EV_ERR_DENIED ∧
          ∀ k, u.rd .EV_SRC_PENDING k = s.rd .EV_SRC_PENDING k)) ∧
        (¬ owns → acts (.recEvent c) s (fun u => sameMem s u ∧ u.goesTo c (x.pc + 1) ∧ u.rd .EV_ERR_DENIED = 1 ∧
          s.counts u .EV_STATS_DENIED ∧ ∀ k, u.rd .EV_SRC_PENDING k = s.rd .EV_SRC_PENDING k)))) ∧
    let g := fld r 0 16 6
    let pinned := x.rt = true ∧ (s.vaArgs m).contains g = true
    (opOf r = opPATCH → pinned → x.asked = false → ∀ (k : Nat) (i : Instr) (v : Nat), (k, i, v) ∈
        [(0, Instr.recPatchSet c, imm), (1, .recPatchAdd c, (src + imm) % 2 ^ 64), (2, .recPatchMin c, min src imm),
         (3, .recPatchMax c, max src imm), (5, .recPatchTimeline c, s.timeline (s.globalTl x src))] → fld r 0 8 3 = k →
      acts i s (fun u => sameMem s u ∧ u.waitsAt c x.pc .run ∧ ∃ y, u.ctx? c = some y ∧ y.gates = x.gates ∧ y.asked = true ∧
        y.pinAsk = x.pinAsk ++ [(false, clampGate (s.descAt m g) (s.tlCount x) (v % 2 ^ 64))])) ∧
    (opOf r = opPATCH → (pinned → x.asked = true ∧ x.pinAsk = []) →
      (fld r 0 8 3 = 0 → sets (.recPatchSet c) imm) ∧
      (fld r 0 8 3 = 1 → sets (.recPatchAdd c) ((src + imm) % 2 ^ 64)) ∧
      (fld r 0 8 3 = 2 → sets (.recPatchMin c) (min src imm)) ∧
      (fld r 0 8 3 = 3 → sets (.recPatchMax c) (max src imm)) ∧
      (fld r 0 8 3 = 5 → sets (.recPatchTimeline c) (s.timeline (s.globalTl x src))) ∧
      (fld r 0 8 3 = 4 → x.patch = none →
        (∀ v, x.loaded = some v → sets (.recPatchLoad c) v) ∧
        (x.loaded = none →
          let va := (src + imm) % 2 ^ 64
          let t := (s.beginRecord x m).ask (.record c) x.seqr c va .read 8
          (t.granted (.record c) va .read = none → acts (.recPatchLoad c) s (fun u => sameMem s u ∧ u.reqs = s.reqs)) ∧
          (∀ l id v, t.granted (.record c) va .read = some l →
            t.acceptTagged (t.reqUnder x.seqr c l va (.read 8) (.patch (fld r 0 16 6))) = some (id, v) →
            acts (.recPatchLoad c) s (fun u => ∃ y, u.ctx? c = some y ∧ y.patch = some id ∧ y.pc = x.pc ∧
              ∃ q ∈ u.reqs, q.id = id ∧ q.kind = .read 8 ∧ q.addr = paLocal (l.at! va))))))

/-- PUT and SPAWN records: A PUT whose continuation records are at hand and whose destination is granted by a sheet that
holds all of it and, in a sealed flask, is sealed or public, with the host present or not its home, hands over the 64
B lines it touches that it has not handed over before, as far as there are write entries, with the bytes of its
payload at the sheet's physical addresses, and counts the writes as outstanding PUTs; with every line handed over it
goes past its continuation records, and with lines left it waits at its record. While the translation has not come it
waits at its record and hands over nothing, and while a segment that its continuation records run on into is not at
hand it has it fetched. In a sealed flask a PUT to a sheet that is neither sealed nor public, which never is a whole
block, hands over nothing and sets CZ_CAST_ERR.SEAL_PARTIAL. A SPAWN whose handle, depth and passed gates are good
takes the free context for the child, one level deeper in the same tree with the mould, bank and passed gates it
names, has its bank read and goes on; when no context is free it waits and that is counted; when a check refuses it,
it is counted as refused and goes on without a child. An engine's well-formed request does the same and the engine is
answered 0; a malformed one is refused with code 3. -/
def Obligations.PutsAndSpawns : Prop :=
  (∀ (s : State) (c : Nat) (x : Ctx) (m : Mould) (r : List Byte), s.faces c x m r → opOf r = opPUT →
     let va := leAt r 8 8 % 2 ^ 57 + (if bit (fld r 0 32 16) 15 then x.op r 0 32 else 0)
     let lacks (g : Nat) : Prop := x.nextSeg r = some g ∧ x.second = false ∧ s.cached m.idx m.gen g = false
     let v := s.beginRecord x m
     let data := s.putPayload x m r
     let t := v.ask (.record c) x.seqr c va .write data.length
     (∀ g, lacks g → acts (.recPut c) s (fun u => sameMem s u ∧ u.reqs = s.reqs ∧ (∃ y, u.ctx? c = some y ∧ y.puts = x.puts ∧
       y.pc = x.pc ∧ y.st = .waitFetch) ∧ ∃ w ∈ u.moulds.fills, w.idx = m.idx ∧ w.gen = m.gen ∧ w.seg = g ∧ c ∈ w.waiters)) ∧
     ((∀ g, ¬ lacks g) →
       (t.granted (.record c) va .write = none → acts (.recPut c) s (fun u => sameMem s u ∧ u.reqs = s.reqs ∧
         ∃ y, u.ctx? c = some y ∧ y.puts = x.puts ∧ y.pc = x.pc)) ∧
       (∀ l y, t.granted (.record c) va .write = some l → va + data.length ≤ l.va + l.size →
         (s.flaskSealed x.flask = false ∨ l.sealed = true ∨ l.pub = true) →
         (l.tier = 1 → s.headless = false) → (t.putLines x l va data).ctx? c = some y → (t.putLines x l va data).ending y = false →
         (y.putAt = data.length → acts (.recPut c) s (fun u => sameMem s u ∧ u.goesTo c (x.pc + 1 + fld r 0 9 2) ∧
           (∃ z, u.ctx? c = some z ∧ z.puts = x.puts + (u.reqs.length - s.reqs.length)) ∧
           (x.putAt = 0 → ∀ p ∈ pieces 64 va data.length, ∀ j, j < p.2 → ∃ q ∈ u.reqs, ∃ cells, q.kind = .write cells ∧
             q.purpose = .put ∧ q.ctx = c ∧ q.tier = l.tier ∧
             (paLocal (l.at! (va + p.1)) + j, nth data (p.1 + j) 0) ∈ cells))) ∧
         (y.putAt ≠ data.length → acts (.recPut c) s (fun u => sameMem s u ∧ u.waitsAt c x.pc .run ∧
           ∃ z, u.ctx? c = some z ∧ z.putAt = y.putAt ∧ z.puts = x.puts + (u.reqs.length - s.reqs.length)))) ∧
       (∀ l, t.granted (.record c) va .write = some l → va + data.length ≤ l.va + l.size → s.flaskSealed x.flask = true →
         l.sealed = false → l.pub = false → x.putAt = 0 → acts (.recPut c) s (fun u => u.rd .CAST_ERR_SEAL_PARTIAL = 1)))) ∧
  ((∀ (s : State) (c : Nat) (x : Ctx) (m : Mould) (r : List Byte), s.faces c x m r → opOf r = opSPAWN → x.spawn = none →
     let h := if fld r 0 8 1 = 1 then x.gate (fld r 0 16 6) else leAt r 8 8
     let w : SpawnWish := { idx := bits h 0 20, gen := bits h 20 12, bank := bits h 32 8,
                            pass := (onesOf (fld r 2 0 64) 64).map (fun g => (g, nth x.gates g 0)), engine := none }
     let v := s.beginRecord x m
     ((v.spawnCheck x w).1 = 0 →
       (∀ k, v.spawnCtx (x.depth + 1) = some k → acts (.recSpawn c) s (fun u => sameMem s u ∧ u.goesTo c (x.pc + 1) ∧
         onlyRegs s u [(.MC_STATS_HITS, 0), (.MC_STATS_MISSES, 0)] ∧
         ∃ y, u.ctx? k = some y ∧ y.st = .gates ∧ y.parent = some c ∧ y.depth = x.depth + 1 ∧ y.mould = w.idx ∧ y.mgen = w.gen ∧
           y.bank = w.bank ∧ y.pass = w.pass)) ∧
       (v.spawnCtx (x.depth + 1) = none → acts (.recSpawn c) s (fun u => sameMem s u ∧ u.waitsAt c x.pc .waitSpawn ∧
         s.counts u .SEQ_SPAWN_WAITED))) ∧
     ((v.spawnCheck x w).1 ≠ 0 → acts (.recSpawn c) s (fun u => sameMem s u ∧ u.goesTo c (x.pc + 1) ∧
       s.counts u .SEQ_SPAWN_REFUSED ∧ u.rd .SEQ_ERR_SPAWN_REFUSED = 1 ∧ u.ctxs.length = s.ctxs.length))) ∧
   (∀ (s : State) (e : Nat) (b : List Byte) (k : Kernel) (x : Ctx), (s.lane e).running.bind s.kernel? = some k →
     s.ctx? k.ctx = some x → x.pour = k.pour → (s.lane e).wish = none →
     let w : SpawnWish := {
       idx := fld b 0 0 20, gen := fld b 0 20 12, bank := fld b 0 32 8,
       pass := (List.range (fld b 0 40 3)).map (fun i => (fld b 1 (8 * i) 6, BitVec.ofNat 64 (leAt b (16 + 8 * i) 8))),
       engine := some e }
     (spawnBad b = true → acts (.spawnRequest e b) s (fun u => sameMem s u ∧ s.counts u .SEQ_SPAWN_REFUSED ∧
       .spawnAnswer e 3 ∈ u.sent ∧ u.ctxs = s.ctxs)) ∧
     (∀ j, spawnBad b = false → (s.spawnCheck x w).1 = 0 → s.spawnCtx (x.depth + 1) = some j →
       acts (.spawnRequest e b) s (fun u => sameMem s u ∧ onlyRegs s u [] ∧ .spawnAnswer e 0 ∈ u.sent ∧
         ∃ y, u.ctx? j = some y ∧ y.st = .gates ∧ y.parent = some x.num ∧ y.mould = w.idx ∧ y.pass = w.pass))))

/-- Fetching a lane record, and the end of a kernel: An idle engine with no staged record fetches the record at the head
of its lane when it is released and may be used: the record's bytes go out and the engine runs the kernel; a busy
engine stages a record whose PRELOAD is 1 for it instead. A kernel's end with OK leaves the lane without it and the
kernel without that engine; CRC_FAIL ends its pour with status 4; EXCEPTION of a flask's pour marks the flask faulted.
A report whose context is gone is dropped as stale. -/
def Obligations.LanesRunKernels : Prop :=
  (∀ (s : State) (e id : Nat) (rest : List Nat) (k : Kernel), (s.lane e).queue = id :: rest → s.kernel? id = some k →
    s.staleKernel k = false → s.laneHeld k = false →
    ((s.lane e).running = none → (s.lane e).shadow = none → s.released k = true → acts (.laneFetch e) s (fun u => sameMem s u ∧
      (u.lane e).running = some id ∧ .laneRecord e (s.laneBytes e k) ∈ u.sent ∧ u.rd .LANE_WP_STALLED e = 0)) ∧
    (∀ j, (s.lane e).running = some j → k.preloads e = true → (s.lane e).shadow = none → acts (.laneFetch e) s (fun u =>
      sameMem s u ∧ (u.lane e).running = some j ∧ (u.lane e).shadow = some id ∧ .laneRecord e (s.laneBytes e k) ∈ u.sent))) ∧
  (∀ (s : State) (e c r p : Nat) (k : Kernel), s.ready = true → (s.lane e).running.bind s.kernel? = some k →
    (s.ctx? c = none → ∀ st l, acts (.kernelEndReport e c r p st l) s (fun u => sameMem s u ∧ s.counts u .STALE_DROP_QUEUE ∧
      u.lanes = s.lanes ∧ u.kernels = s.kernels)) ∧
    (∀ (x : Ctx) (l : Bool), s.ctx? c = some x → ((x.mgmt = true ∧ x.pour.word = p) ∨ bits p 44 8 = s.rd .QCTX_GEN (p / 2 ^ 52)) → k.ctx = c → k.index = r →
      k.pour.word = p → s.flaskResetting k.flask = false → (s.lane e).shadow = none →
      let ended (u : State) : Prop := (u.lane e).running = none ∧ ∀ j ∈ u.kernels, j.id = k.id → e ∉ j.left
      acts (.kernelEndReport e c r p .ok l) s (fun u => sameMem s u ∧ ended u) ∧
      (∀ z, x.mgmt = false → s.ctx? x.root = some z → z.cause = none → z.stamp = .none →
        acts (.kernelEndReport e c r p .crcFail l) s (fun u => ended u ∧
          ∃ y, u.ctx? x.root = some y ∧ y.cause = some { kind := .error, status := 4, detail := 0 })) ∧
      (x.mgmt = false → acts (.kernelEndReport e c r p .exception l) s (fun u => ended u ∧ k.flask ∈ u.faulted ∧
        u.rd .FL_CAUSE_EXCEPTION k.flask = 1))))

/-- Waypoints, kills, deadlines and deadlocks: An advance of the pour that a running engine runs records its value and
time and clears STALLED; one of an old queue generation is dropped as stale. A whole window without an advance, once
per stall, sets STALLED and raises source 0x2000 + e. At the end of a pour's grace every engine that runs a kernel of
its tree is killed; an engine that has not stopped by the limit of a reset is killed then. That an expiry moves the
time on to its moment (DESIGN CHOICE, log entry 1), that a report carries its kernel's pour (DEDUCED, log entry 34)
and how far the copy of the timebase lags (a free value, log entry 11) are the model's. A borrower still running at
the end of its budget while a real-time record wants its engine ends its pour with status DEADLINE and its record in
DETAIL, and LEND_OVERRUN is set. A real-time kernel still running at its deadline ends its pour so, unless it is
already ending, and counts its grace from then. A wait-for check of a wholly waiting flask that finds a cycle not
reported before records its size and its first queues and sets the flask's DEADLOCK cause; without a cycle it changes
no register. Which waits count as waiting (DEDUCED, log entry 35) and when a loan is overrun (DEDUCED, log entry 36)
are the model's readings. -/
def Obligations.WatchesOnPours : Prop :=
  ((∀ (s : State) (e p v : Nat) (k : Kernel), s.ready = true → (s.lane e).running.bind s.kernel? = some k →
     let old := bits p 44 8 ≠ s.rd .QCTX_GEN (p / 2 ^ 52) ∧ ∀ x, s.ctx? k.ctx = some x → ¬ (x.mgmt = true ∧ x.pour.word = p)
     (¬ old → k.pour.word = p → does (.waypointAdvance e { pour := p, value := v }) s (fun t => sameMem s t ∧
       t.rd .LANE_WP_VALUE e = v % 2 ^ Field.LANE_WP_VALUE.row.width ∧ t.rd .LANE_WP_STALLED e = 0 ∧
       t.rd .LANE_WP_MOVED_AT e = bits (s.clock .fabric) 20 24 ∧ (t.lane e).moved = s.time ∧ (t.lane e).running = (s.lane e).running ∧
       onlyRegs s t [(.LANE_WP_VALUE, e), (.LANE_WP_STALLED, e), (.LANE_WP_MOVED_AT, e)])) ∧
     (old → does (.waypointAdvance e { pour := p, value := v }) s (fun t => sameMem s t ∧ t.lanes = s.lanes ∧ s.counts t .STALE_DROP_QUEUE ∧
       onlyRegs s t (staleFields .queue)))) ∧
   (∀ (s : State) (e : Nat) (k : Kernel), (s.lane e).running.bind s.kernel? = some k → s.on .LANE_WP_STALLED e = false →
     s.on .FL_AUTO_RESET k.flask = false → s.flaskResetting k.flask = false → (∀ x, s.ctx? k.ctx = some x → x.mgmt = false) →
     acts (.waypointStall e) s (fun u => sameMem s u ∧ u.time = max s.time ((s.lane e).moved + 2 ^ k.wpLog2 * 1000) ∧
       u.rd .LANE_WP_STALLED e = 1 ∧ u.on .EV_SRC_PENDING (0x2000 + e) = true ∧
       onlyRegs s u [(.LANE_WP_STALLED, e), (.EV_SRC_PENDING, 0x2000 + e), (.EV_STATS_MERGED, 0)])) ∧
   (∀ (s : State) (c g : Nat) (x : Ctx), s.ctx? c = some x → x.grace = some g → acts (.graceExpiry c) s (fun u => sameMem s u ∧
     onlyRegs s u [] ∧ u.time = max s.time g ∧ (∃ y, u.ctx? c = some y ∧ y.grace = none) ∧
     ∀ l ∈ s.lanes, ∀ k, l.running.bind s.kernel? = some k → k.ctx ∈ (s.tree c).map Ctx.num → .kill l.eng ∈ u.sent)) ∧
   (∀ (s : State) (e g : Nat), (s.lane e).killReq = some g → acts (.stopTimeoutKill e) s (fun u => sameMem s u ∧
     u.time = max s.time g ∧ .kill e ∈ u.sent ∧ (u.lane e).killReq = none))) ∧
  ((∀ (s : State) (e : Nat) (k : Kernel) (x z : Ctx), (s.lane e).running.bind s.kernel? = some k → k.lent.contains e = true →
     s.rtWanted e = true → k.overrun = false → s.ctx? k.ctx = some x → s.ctx? x.root = some z → z.cause = none → z.stamp = .none →
     acts (.borrowOverrun e) s (fun u => u.rd .SEQ_ERR_LEND_OVERRUN = 1 ∧
       u.time = max s.time ((s.lane e).since + k.budget * 1000) ∧
       ∃ y, u.ctx? x.root = some y ∧ y.cause = some { kind := .error, status := 2, detail := k.index % 256 })) ∧
   (∀ (s : State) (c r : Nat) (x z : Ctx) (k : Kernel), s.ctx? c = some x → s.ctx? x.root = some z → z.cause = none →
     z.stamp = .none →
     s.kernels.find? (fun k => k.ctx == c && k.index == r && k.rt && k.started.isSome && !k.left.isEmpty) = some k →
     acts (.deadlineMiss c r) s (fun u =>
       u.time = max s.time (k.started.getD 0 + (if k.deadline = 0 then k.budget else k.deadline) * 1000) ∧
       ∃ y, u.ctx? x.root = some y ∧ y.cause = some { kind := .deadline, status := 2, detail := k.index % 256, record := k.index } ∧
         (k.grace ≠ 0 → y.grace = some (u.time + k.grace * 1000)))) ∧
   (∀ (s : State) (f : Nat) (p : Nat × Nat), s.waiting.find? (fun p => p.1 == f) = some p → s.on .SEQ_CTL_DL_CHECK_EN = true →
     s.whollyWaiting f = true →
     let t := s.elapse (p.2 + 2 ^ s.rd .SEQ_FLASK_WP_LOG2 f * 1000)
     let qs := cycleOf (t.waitEdges f)
     (qs = [] → acts (.deadlockCheck f) s (fun u => u = t)) ∧
     (qs ≠ [] → t.cycles.any (fun c => c.1 == f && c.2 == qs) = false → acts (.deadlockCheck f) s (fun u => sameMem s u ∧
       u.rd .SEQ_DEADLOCK_COUNT f = min qs.length 255 % 2 ^ Field.SEQ_DEADLOCK_COUNT.row.width ∧
       u.rd .SEQ_DEADLOCK_Q0 f = nth qs 0 0 % 2 ^ Field.SEQ_DEADLOCK_Q0.row.width ∧ u.rd .SEQ_ERR_DEADLOCK = 1 ∧
       u.rd .FL_CAUSE_DEADLOCK f = 1 ∧ u.on .EV_SRC_PENDING (0x2200 + f) = true))))

/-- ROUTE records and the route unit's commands: A ROUTE record of each mode is taken by the route unit while it holds
fewer than 64 operations and no earlier record whose walk may go on waits, with its token count limited, its gates
marked pending, and the walk going on; otherwise, with 64 held or behind such a record, it waits in its turn. A score
push for a row and part of a producing kernel that has not reported is kept, any other is counted as refused. A report
marks the engine. A score read's data reach their operation. A tile selects up to 64 ready rows, or with a residue
mismatch selection starts again once and then the unit goes out of service. Write-back, once every output is accepted,
ends the operation, clears its pending marks and writes each of its gates, clamped by its descriptor; before that it
does nothing. That a push of a part that no row has is refused is the model's choice (DESIGN CHOICE, log entry 154).
That a push of an ended kernel is not taken (DEDUCED, log entry 76) and that the capacity counts advance at the
write-back (DEDUCED, log entry 77) are the model's readings. -/
def Obligations.RouteOperations : Prop :=
  (∀ (s : State) (c : Nat) (x : Ctx) (m : Mould) (r : List Byte), s.faces c x m r → opOf r = opROUTE →
    ∀ (mode : Nat) (i : Instr), (mode, i) ∈ [(0, Instr.recRouteTopk c), (1, .recRouteBlocks c), (2, .recRouteExit c)] →
      fld r 0 8 2 = mode →
      (s.route.ops.length < 64 → (s.route.waits.takeWhile (fun k => k != c)).filter (fun k => (s.ctx? k).any s.mayWalk) = [] → acts i s (fun u => sameMem s u ∧
        u.goesTo c (x.pc + 1) ∧ (∃ y, u.ctx? c = some y ∧ ∀ g ∈ routeGates r, bit y.pending g = true) ∧
        ∃ o, u.route.ops = s.route.ops ++ [o] ∧ o.id = s.nextId ∧ o.ctx = c ∧ o.index = x.pc ∧ o.mode = mode ∧
          o.rows = min (x.op r 0 32) (rowLimit mode) ∧ o.k = fld r 0 16 4 ∧ o.score = x.gate (fld r 1 16 6) ∧
          o.marks = routeGates r)) ∧
      (64 ≤ s.route.ops.length ∨ (s.route.waits.takeWhile (fun k => k != c)).filter (fun k => (s.ctx? k).any s.mayWalk) ≠ [] → acts i s (fun u => walked s c u ∧ u.waitsAt c x.pc .run ∧ u.route.ops = s.route.ops ∧
        c ∈ u.route.waits))) ∧
  (∀ (s : State) (e c r row part : Nat) (data : List Byte),
    let takes (o : RouteOp) : Bool := match o.producer.bind s.kernel? with
      | some k => k.ctx == c && k.index == r && k.left.contains e && !k.reported.contains e &&
          decide (row < o.rows) && decide (part < o.parts)
      | none => false
    (∀ o, s.route.ops.find? takes = some o → s.on .RT_CTL_PUSH_EN = true → s.scoreChunks < 4096 →
      o.pushes.any (fun q => q.1 == row && q.2.1 == part) = false → acts (.scorePush e c r row part data) s (fun u =>
        sameMem s u ∧ onlyRegs s u [] ∧ ∃ p ∈ u.route.ops, p.id = o.id ∧ (row, part, slice data 0 64) ∈ p.pushes)) ∧
    (s.route.ops.find? takes = none ∨ s.on .RT_CTL_PUSH_EN = false ∨ 4096 ≤ s.scoreChunks →
      acts (.scorePush e c r row part data) s (fun u => sameMem s u ∧ s.counts u .RT_STATS_PUSH_REFUSED ∧
        onlyRegs s u [(.RT_STATS_PUSH_REFUSED, 0)] ∧ u.route = s.route))) ∧
  (∀ (s : State) (e : Nat) (k : Kernel), (s.lane e).running.bind s.kernel? = some k → k.reported.contains e = false →
    acts (.scoreReport e k.ctx k.index) s (fun u => sameMem s u ∧ onlyRegs s u [] ∧
      ∀ j ∈ u.kernels, j.id = k.id → e ∈ j.reported)) ∧
  (∀ (s : State) (id i n : Nat) (q : Req) (o : RouteOp) (d : List Byte), s.req? id = some q → q.purpose = .route i →
    q.issued = true → q.fin = none → q.tier = 0 → q.kind = .read n → q.parts = [] → s.homeHolds q = none → s.hlp.waits = [] → s.op? i = some o →
    acts (.routeScoreReadReturn id (.ok d)) s (fun u => u.req? id = none ∧
      ∃ p, u.op? i = some p ∧ ∀ k, k < n / 64 → (q.va + 64 * k, slice (s.dieRead q.addr n) (64 * k) 64, false) ∈ p.got)) ∧
  (∀ (s : State) (i : Nat) (rest : List Nat) (o : RouteOp), s.route.turn = i :: rest → s.op? i = some o → o.ready = true →
    acts (.routeSelectTile false) s (fun u => sameMem s u ∧ onlyRegs s u [] ∧ u.route.turn = rest ∧
      ∃ p, u.op? i = some p ∧ p.selected = o.selected ++ o.readyRows.take 64) ∧
    (o.retried = false → acts (.routeSelectTile true) s (fun u => u.rd .RT_ERR_RESIDUE = 1 ∧
      ∃ p, u.op? i = some p ∧ p.selected = [] ∧ p.retried = true)) ∧
    (o.retried = true → acts (.routeSelectTile true) s (fun u => u.rd .RT_STATUS_OUT_OF_SERVICE = 1 ∧ .block ∈ u.calls))) ∧
  (∀ (s : State) (i : Nat) (o : RouteOp), s.op? i = some o →
    (o.writes ≠ some [] ∨ o.out ≠ [] ∨ ∃ e ∈ s.cast.egress, e.purpose = .route i) → acts (.routeWriteBack i) s (fun u => u = s)) ∧
  (∀ (s : State) (i : Nat) (o : RouteOp) (x : Ctx) (m : Mould), s.op? i = some o → o.writes = some [] → o.out = [] →
    (∀ e ∈ s.cast.egress, e.purpose ≠ .route i) → s.ctx? o.ctx = some x → s.mould? x.mould x.mgen = some m →
    acts (.routeWriteBack i) s (fun u => sameMem s u ∧ u.op? i = none ∧ s.counts u .RT_STATS_OPS ∧
      s.counts u .RT_CAP_DROPPED 0 o.dropped ∧ s.counts u .RT_CAP_SPILLED 0 o.spilled ∧
      ∃ y, u.ctx? o.ctx = some y ∧ (∀ g ∈ o.marks, bit y.pending g = false) ∧
        y.gates = o.vals.foldl (fun gs p => gs.set p.1
          (BitVec.ofNat 64 (clampGate (s.descAt m p.1) (s.tlCount x) (p.2 % 2 ^ 64)))) x.gates))

/-- An engine's translation request, and the surveyors' walks: A request of an engine that runs no PHYS kernel, for a
bound pour, below the engine's limit, is granted at once from a cached leaf that permits the access, joins the walk of
its region or starts a queue for one; an address of 2^57 or more faults ADDR. A free surveyor takes the oldest queued
walk, counts it and reads the entry at its start level; a walk from a root that may not lie where it lies ends at
once. An entry read that is a good table leads to the read of the next level; a good leaf, of the host's tier while
the host is not lost, enters the sheet cache and ends the walk; an entry that is not valid ends it; a read error ends
it and is recorded. How requests count toward the limits (DEDUCED, log entry 37), where a walk starts from a cached
table (DEDUCED, log entry 40) and the count of a second lookup (DEDUCED, log entry 43) are the model's readings. -/
def Obligations.TranslationsAndWalks : Prop :=
  (∀ (s : State) (e c va a : Nat) (acc : Acc) (x : Ctx), s.ready = true → s.ctx? c = some x → x.mgmt = false →
    s.physOn e c = none → s.asksOf (.engine e) < 4 → s.slotOf x = some a →
    (2 ^ 57 ≤ va → s.ending x = false → acts (.translationRequest (.engine e) c va acc) s (fun u => .xlFault e xfADDR ∈ u.sent)) ∧
    (va < 2 ^ 57 →
      (∀ l, s.sheetHit a va = some l → s.accessFault l x (.engine e) acc = none →
        acts (.translationRequest (.engine e) c va acc) s (fun u => sameMem s u ∧ s.counts u .XL_STATS_HITS ∧
          onlyRegs s u [(.XL_STATS_HITS, 0)] ∧
          .grant e l.va l.size l.pa l.tier l.rd l.wr l.at_ l.sealed l.pub l.slot ∈ u.sent)) ∧
      (s.sheetHit a va = none →
        let same (w : Walk) : Bool := w.slot == a && w.va / sheet32M == va / sheet32M
        acts (.translationRequest (.engine e) c va acc) s (fun u => sameMem s u ∧ onlyRegs s u [] ∧
          ∃ w ∈ u.xl.walks, same w = true ∧
            (match s.xl.walks.find? same with
             | some v => w = v ∧ u.xl.walks = s.xl.walks
             | none => u.xl.walks = s.xl.walks ++ [w] ∧ w.started = false) ∧
            ∃ b ∈ u.xl.asks, b.owner = .engine e ∧ b.va = va ∧ b.acc = acc ∧ b.ctx = c ∧ b.wait = .walk w.id)))) ∧
  (∀ (s : State) (w : Walk), s.ready = true → (s.xl.walks.filter Walk.started).length < 32 →
    s.xl.walks.find? (fun w => !w.started) = some w → (w.fresh = true ∨ s.sheetHit w.slot w.va = none) →
    let p := s.walkStart w.slot w.va
    let rooted := p.1 ≠ 0 ∨ s.tableOk (s.rd .XL_ATLAS_FLASK w.slot) 0 (p.2 + s.rd .PEER_CTL_NODE_ID * 2 ^ 44) = true
    (¬ rooted → acts .surveyorWalkStart s (fun u => s.counts u .XL_STATS_WALKS ∧ ∀ v ∈ u.xl.walks, v.id ≠ w.id)) ∧
    (rooted → acts .surveyorWalkStart s (fun u => sameMem s u ∧ s.counts u .XL_STATS_WALKS ∧ onlyRegs s u [(.XL_STATS_WALKS, 0)] ∧
      .atlasRead w.id (p.2 + levelIndex p.1 w.va * 8) ∈ u.sent ∧
      ∃ v ∈ u.xl.walks, v.id = w.id ∧ v.started = true ∧ v.level = p.1 ∧ v.table = p.2))) ∧
  (∀ (s : State) (id : Nat) (w : Walk) (d : List Byte), s.xl.walks.find? (fun w => w.id == id && w.started) = some w →
    w.marked = false →
    let a := w.table + levelIndex w.level w.va * 8
    let e := ofLe (s.homeRead a 8 d)
    let f := s.rd .XL_ATLAS_FLASK w.slot
    let size := levelSize w.level
    let pa := bits e 25 31 * sheet32M
    let va := w.va / size * size
    let gone (u : State) : Prop := ∀ v ∈ u.xl.walks, v.id ≠ id
    (bit e 0 = false → s.migAt w.slot a = none → acts (.walkReadReturn id (.ok d)) s gone) ∧
    (bit e 0 = true → bits e 56 6 = f → bits e 62 2 = 0 →
      (bit e 1 = false → w.level < 3 → bits e 2 10 = 0 → s.tableOk f (w.level + 1) (bits e 12 44 * 4096) = true →
        acts (.walkReadReturn id (.ok d)) s (fun u => sameMem s u ∧ onlyRegs s u [] ∧
          .atlasRead id (bits e 12 44 * 4096 % 2 ^ 44 + levelIndex (w.level + 1) w.va * 8) ∈ u.sent)) ∧
      (bit e 1 = true → w.level ≠ 0 → bits e 2 2 = 4 - w.level → bits e 8 2 ≠ 3 → pa % size = 0 → (bits e 8 2 = 1 → s.headless = false) →
        s.sheetOk f (bits e 8 2) pa size = true → s.sealAttr f w.slot (bits e 8 2) pa va size = some (bit e 7, bit e 10) →
        acts (.walkReadReturn id (.ok d)) s (fun u => gone u ∧ ∃ l ∈ u.xl.sheets, l.slot = w.slot ∧ l.va = va ∧ l.size = size ∧
          l.pa = pa ∧ l.tier = bits e 8 2 ∧ l.rd = bit e 4 ∧ l.wr = bit e 5 ∧ l.at_ = bit e 6))) ∧
    (∀ bad, (∃ l, bad = .poison l) ∨ bad = .error → acts (.walkReadReturn id bad) s (fun u => gone u ∧ s.counts u .POISON_RD)))

/-- Binding, unbinding, invalidating, and resuming a held fault: ATLAS_BIND of an unbound PASID to a root that may lie
there binds the lowest free slot and replies OK with it; of a bound PASID it replies STATE. ATLAS_UNBIND of a bound
PASID that no queue uses, and ATLAS_INVALIDATE with a free slot of its pool, start an invalidation of the slot and
reply when it ends; with eight ATLAS_INVALIDATEs open the next replies BUSY. FAULT_RESUME releases the held record and
replies OK: with RETRY its requests walk afresh, with ABORT they are answered with the fault. -/
def Obligations.AtlasCommands : Prop :=
  (∀ (s : State) (n a : Nat), s.starts n 0x40 →
    let b := s.begun n
    let f := bits (s.par n 0) 0 6
    let pasid := bits (s.par n 1) 0 20
    let root := s.par n 2
    b.frefOk n = true → b.flaskLive f = true →
    (b.slotOfPasid pasid ≠ none → answers (.atlasBind n) s (fun u => sameMem s u ∧ u.replied n stSTATE ∧
      onlyRegs b u (replyFields n))) ∧
    (b.slotOfPasid pasid = none → b.inPrivate f root 8192 = true → (b.flaskSealed f = true → b.allPublic root 8192 = true) →
      lowest 1024 (fun a => !b.atlases.contains a) = some a → root % 8192 = 0 →
      answers (.atlasBind n) s (fun u => sameMem s u ∧ u.replied n stOK ∧ u.rd .MB_OUT (n * 128) = a ∧ u.rd .XL_ATLAS_VALID a = 1 ∧
        u.rd .XL_ATLAS_PASID a = pasid ∧ u.rd .XL_ATLAS_FLASK a = f ∧
        u.rd .XL_ATLAS_ROOT a = root / 8192 % 2 ^ Field.XL_ATLAS_ROOT.row.width ∧
        onlyRegs b u (replyFields n ++ [(.XL_ATLAS_PASID, a), (.XL_ATLAS_FLASK, a), (.XL_ATLAS_FLASK_GEN, a),
          (.XL_ATLAS_ROOT, a), (.XL_ATLAS_VALID, a)])))) ∧
  (∀ (s : State) (n a : Nat), s.starts n 0x41 →
    let b := s.begun n
    b.frefOk n = true → b.boundSlot (bits (s.par n 1) 0 20) (bits (s.par n 0) 0 6) = some a →
    let used := (b.listed .QCTX_STATE).any (fun q => b.rd .QCTX_PASID q == bits (s.par n 1) 0 20) ||
      b.xl.invs.any (fun v => v.slots.contains a)
    (used = true → answers (.atlasUnbind n) s (fun u => u.replied n stBUSY)) ∧
    (used = false → answers (.atlasUnbind n) s (fun u => u.slotState n = mbRUNNING ∧ ∃ v ∈ u.xl.invs, v.id = s.nextId ∧
      v.source = .unbind (some n) ∧ v.slots = [a] ∧ v.range = none))) ∧
  (∀ (s : State) (n a : Nat), s.starts n 0x42 →
    let b := s.begun n
    (8 ≤ (b.invPool (.cmd n)).1 → answers (.atlasInvalidate n) s (fun u => u.replied n stBUSY)) ∧
    ((b.invPool (.cmd n)).1 < 8 → b.frefOk n = true →
      b.boundSlot (bits (s.par n 1) 0 20) (bits (s.par n 0) 0 6) = some a →
      answers (.atlasInvalidate n) s (fun u => u.slotState n = mbRUNNING ∧ ∃ v ∈ u.xl.invs, v.id = s.nextId ∧
        v.source = .cmd n ∧ v.slots = [a] ∧ v.started = true ∧
        v.range = (if bit (s.par n 0) 48 then some (bits (s.par n 2) 0 32 * sheet32M, bits (s.par n 2) 32 32 * sheet32M)
          else none)))) ∧
  (∀ (s : State) (n : Nat) (h : Held), s.starts n 0x43 →
    let b := s.begun n
    b.frefOk n = true → b.heldOf n = some h →
    let joined := b.xl.asks.filter (fun a => a.wait == .held (bits (s.par n 0) 0 6) h.fid)
    (bits (s.par n 0) 48 1 = 0 → answers (.faultResumeRetry n) s (fun u => sameMem s u ∧ u.replied n stOK ∧ h ∉ u.xl.helds ∧
      ∀ k, joined.head? = some k → ∃ w ∈ u.xl.walks, w.id = s.nextId ∧ w.fresh = true ∧ w.va = k.va ∧ w.slot = h.slot ∧
        ∀ j ∈ joined, { j with wait := .walk w.id } ∈ u.xl.asks)) ∧
    (bits (s.par n 0) 48 1 = 1 → answers (.faultResumeAbort n) s (fun u => u.replied n stOK ∧ h ∉ u.xl.helds ∧
      ∀ j ∈ joined, ∀ e, j.owner = .engine e → .xlFault e h.kind ∈ u.sent)))

/-- How an invalidation runs to its end, and CZ_XL_CTL: A purge acknowledgement is taken from a started invalidation and
changes nothing else; an engine that has not acknowledged is reported and killed. A PHYS kernel that an invalidation
waits for is killed at the end of its budget and INV_OVERRUN is set. An invalidation with every condition met is over
and counted: a host broadcast gets its completion, an ATLAS_INVALIDATE its reply, an ATLAS_UNBIND its reply with the
slot free. A write of CZ_XL_CTL with WC_EN 0 empties the walk cache. That an expiry moves the time on to its moment
(DESIGN CHOICE, log entry 1), and which invalidations take a slot of a pool (DEDUCED, log entry 41), are the model's. -/
def Obligations.Invalidations : Prop :=
  (∀ (s : State) (e i : Nat), acts (.purgeAck e i) s (fun u => sameMem s u ∧ onlyRegs s u [] ∧
    (∀ v ∈ u.xl.invs, v.id = i → v.started = true → e ∉ v.acks) ∧ u.xl.invs.length = s.xl.invs.length)) ∧
  (∀ (s : State) (e i : Nat) (v : Inv) (k : Kernel),
    s.xl.invs.find? (fun v => v.id == i && v.started && v.acks.contains e) = some v →
    (s.lane e).running.bind s.kernel? = some k → acts (.purgeTimeout e i) s (fun u => u.rd .XL_ERR_PURGE_TIMEOUT = 1 ∧
      .kill e ∈ u.sent ∧ ∀ v ∈ u.xl.invs, v.id = i → v.started = true → e ∉ v.acks)) ∧
  (∀ (s : State) (k : Nat) (x : Kernel) (y z : Ctx), s.kernel? k = some x →
    s.xl.invs.any (fun v => v.started && v.kernels.contains k) = true → s.ctx? x.ctx = some y → s.ctx? y.root = some z →
    z.cause = none → z.stamp = .none → acts (.invOverrun k) s (fun u => u.rd .XL_ERR_INV_OVERRUN = 1 ∧
      u.time = max s.time (x.started.getD 0 + x.budget * 1000) ∧
      (∀ e ∈ x.left, (s.lane e).running = some k → .kill e ∈ u.sent) ∧
      ∃ w, u.ctx? y.root = some w ∧ w.cause = some { kind := .error, status := 3, detail := xfINV_OVERRUN })) ∧
  (∀ (s : State) (i : Nat) (v : Inv), s.xl.invs.find? (fun v => v.id == i && v.started) = some v → v.acks = [] →
    s.invKernels v = [] → s.invBusy v = false →
    let gone (u : State) : Prop := (∀ w ∈ u.xl.invs, w.id ≠ i) ∧
      u.rd .XL_INV_STATUS_DONE = (s.rd .XL_INV_STATUS_DONE + 1) % 2 ^ Field.XL_INV_STATUS_DONE.row.width
    (∀ tag, v.source = .host tag → acts (.invalidationComplete i) s (fun u => sameMem s u ∧ gone u ∧ .invCompletion tag ∈ u.sent)) ∧
    (∀ n, n < 16 → v.source = .cmd n → acts (.invalidationComplete i) s (fun u => sameMem s u ∧ gone u ∧ u.replied n stOK)) ∧
    (∀ n, n < 16 → v.source = .unbind (some n) → acts (.invalidationComplete i) s (fun u => gone u ∧ u.replied n stOK ∧
      ∀ a ∈ v.slots, u.rd .XL_ATLAS_VALID a = 0))) ∧
  (∀ (s : State) (v : Nat), s.hears → does (.xlCtlWrite 0 8 v) s (fun t => sameMem s t ∧ onlyRegs s t (fieldsAt 0x400000) ∧
    t.rd .XL_CTL_WC_EN = bits v Field.XL_CTL_WC_EN.row.lo 1 ∧
    t.xl.tables = (if t.rd .XL_CTL_WC_EN = 1 then s.xl.tables else []) ∧ t.xl.sheets = s.xl.sheets))

/-- BULK_MOVE with its three modes: With a tag and a write entry to be had for the sequencer, COPY of a length that is not
zero hands over one copy from source to destination and goes on, and of length zero only goes on; CAST hands over one
job for the descriptor at its address while fewer than 64 are held, MIGRATE one migration of the sheet at its address
while fewer than 8 are held, and each goes on; otherwise it waits at its record. None of them changes memory by
itself. What the wait for the path's credit means is the model's reading (DEDUCED, log entry 30). -/
def Obligations.BulkMovesAreTaken : Prop :=
  ∀ (s : State) (c : Nat) (x : Ctx) (m : Mould) (r : List Byte), s.faces c x m r → opOf r = opMOVE →
    (fld r 0 8 2 = 0 →
      let n := x.op r 0 32 * 4096
      let k : Copy := { id := s.nextId, ctx := c, src := x.gate (fld r 0 16 6) + fld r 1 0 57,
                        dst := x.gate (fld r 0 24 6) + fld r 2 0 57, left := n }
      let more : List Copy := if n = 0 then [] else [k]
      let room := s.tagRoom x.seqr false && s.entryRoom x.seqr
      (room = true → acts (.recBulkMoveCopy c) s (fun u => walked s c u ∧ u.goesTo c (x.pc + 1) ∧ u.copies = s.copies ++ more)) ∧
      (room = false → acts (.recBulkMoveCopy c) s (fun u => walked s c u ∧ u.waitsAt c x.pc .run ∧ u.copies = s.copies))) ∧
    (fld r 0 8 2 = 1 →
      let a := (x.gate (fld r 0 16 6) + fld r 1 0 57) % 2 ^ 64
      (s.cast.jobs.length < 64 → acts (.recBulkMoveCast c) s (fun u => walked s c u ∧ u.goesTo c (x.pc + 1) ∧
        ∃ j, u.cast.jobs = s.cast.jobs ++ [j] ∧ j.id = s.nextId ∧ j.ctx = c ∧ j.flask = x.flask ∧ j.at_ = a ∧ j.desc = none ∧
          j.reads = cover a 192)) ∧
      (64 ≤ s.cast.jobs.length → acts (.recBulkMoveCast c) s (fun u => walked s c u ∧ u.waitsAt c x.pc .run ∧
        u.cast = s.cast))) ∧
    (fld r 0 8 2 = 2 →
      let n := (s.tier.migs.filter (fun m => m.ctx.isSome)).length
      (n < 8 → acts (.recBulkMoveMigrate c) s (fun u => walked s c u ∧ u.goesTo c (x.pc + 1) ∧
        ∃ k, u.tier.migs = s.tier.migs ++ [k] ∧ k.id = s.nextId ∧ k.ctx = some c ∧ k.flask = x.flask ∧ k.stage = .walk ∧
          k.dest = x.gate (fld r 0 24 6) ∧ k.va = (x.gate (fld r 0 16 6) + fld r 1 0 57) % 2 ^ 64)) ∧
      (8 ≤ n → acts (.recBulkMoveMigrate c) s (fun u => walked s c u ∧ u.waitsAt c x.pc .run ∧ u.tier = s.tier)))

/-- Hot-sheet counters, and the steps of a migration: At the next decay tick every armed counter is halved. A write of
CZ_TIER_CTL with HOT_EN 0 disarms every counter. The first swap of a migration's leaf clears its VALID and starts the
invalidation of the sheet, or ends the migration as CHANGED when the leaf has another value. When the copy's writes
are acknowledged, a destination in HBM holds the source's bytes and the second swap is sent; when that swap succeeds
the migration is over with code OK. That a tick moves the time on to its moment (DESIGN CHOICE, log entry 1), and that
a copy takes effect as a whole (DEDUCED, log entry 47), are the model's. -/
def Obligations.TiersAndMigration : Prop :=
  (∀ s : State, s.Inv → acts .hotDecay s (fun u => sameMem s u ∧
    u.time = (let p := 2 ^ s.rd .TIER_CTL_DECAY_LOG2 * 1000; (s.time / p + 1) * p) ∧
    ∀ i, u.rd .TIER_HOT_COUNT i = (if i ∈ s.listed .TIER_HOT_VALID then s.rd .TIER_HOT_COUNT i / 2 % 2 ^ Field.TIER_HOT_COUNT.row.width
      else s.rd .TIER_HOT_COUNT i))) ∧
  (∀ (s : State) (v : Nat), s.hears → bits v Field.TIER_CTL_HOT_EN.row.lo 1 = 0 → does (.tierCtlWrite 0 8 v) s (fun t => sameMem s t ∧
    t.rd .TIER_CTL_HOT_EN = 0 ∧ t.rd .TIER_CTL_THRESH = bits v Field.TIER_CTL_THRESH.row.lo Field.TIER_CTL_THRESH.row.width ∧
    ∀ i, t.rd .TIER_HOT_VALID i = 0)) ∧
  (∀ (s : State) (j : Nat) (m : Mig), s.mig? j = some m → s.hostHeld (lineOf m.leafAt) = false → m.leafAt + 8 ≤ hbmSize →
    m.leafAt % 8 = 0 → m.leaf < 2 ^ 64 →
    let old := ofLe ((s.commitLine (lineOf m.leafAt)).sysRead m.leafAt 8)
    let ended (u : State) (code : Nat) : Prop := u.mig? j = none ∧
      u.rd .TIER_MIG_LAST m.flask = code % 2 ^ Field.TIER_MIG_LAST.row.width
    (m.stage = .swap1 → s.migPourEnds m = false →
      (old = m.leaf → acts (.migrateSwapReturn j) s (fun u => ofLe (u.sysRead m.leafAt 8) = setBits m.leaf 0 1 0 ∧
        (∃ k, u.mig? j = some k ∧ k.stage = .inval ∧ k.leaf = setBits m.leaf 0 1 0) ∧
        ∃ v ∈ u.xl.invs, v.source = .mig j ∧ v.slots = [m.slot] ∧ v.range = some (m.va, m.size))) ∧
      (old ≠ m.leaf → m.ctx ≠ none → acts (.migrateSwapReturn j) s (fun u => ended u mgCHANGED ∧
        s.counts u .TIER_MIG_FAILED m.flask))) ∧
    (m.stage = .swap2 → m.ctx ≠ none → old = m.leaf → acts (.migrateSwapReturn j) s (fun u => ended u mgOK ∧
      ofLe (u.sysRead m.leafAt 8) = leafTo m.first (bits m.dest 0 2) (paNode m.destPa) (paLocal m.destPa) % 2 ^ 64 ∧
      u.rd .TIER_MIG_DONE m.flask = (s.rd .TIER_MIG_DONE m.flask + 1) % 2 ^ Field.TIER_MIG_DONE.row.width))) ∧
  (∀ (s : State) (j : Nat) (m : Mig) (host : List (Nat × Byte)), s.mig? j = some m → m.stage = .copying → s.hlp.filter = [] → (m.host = true → s.on .CFG_BME = true) →
    leafTier m.first = 0 → bits m.dest 0 2 = 0 → paLocal m.destPa + m.size ≤ hbmSize →
    acts (.migrateCopyDone j host []) s (fun u => onlyRegs s u [] ∧ .swap j m.leafAt ∈ u.sent ∧
      (∃ k, u.mig? j = some k ∧ k.stage = .swap2) ∧
      (∀ i, i < m.size → u.dieByte (paLocal m.destPa + i) = s.dieByte (leafPa m.first % 2 ^ 44 + i)) ∧
      ∀ a, a < paLocal m.destPa ∨ paLocal m.destPa + m.size ≤ a → u.dieByte a = s.dieByte a))

/-- Requests on ZCI, and stores and fences on HBM: A malformed read, atomic or write of a permitted requester is reported
and not accepted, and a read or atomic gets a slag-marked answer; a well-formed one with room in its pool, the host
present where it is its home, is held with its operands; an engine's own read of HBM goes past the path to its
controller at once. A held request with no earlier write to its lines is handed to its HBM controller, to ZCI against
credits, or to its node, where no credit of the peer link limits it (the model's reading, DEDUCED, log entry 71). Data
returned for an engine's read go out and the request is over; an HBM atomic leaves its result in memory and returns
the old value; an error returns slag in the lines that met it, and is counted. That the commands of the host access
path bring an engine's own HBM loads and atomics too is the model's reading (DEDUCED, log entry 39). A store that an
HBM controller accepts for lines of no coherent window stands in its buffer, behind those before it: the die port sees
it and the system port does not; of a coherent window that no host core holds, and behind no store that waits there,
it is committed in the same clock. The commit of the oldest store of its lines puts its bytes into HBM. An accepted
write of the host access path is acknowledged by that. A marker's answer with every earlier store of the controller
committed is taken from its fence. A fence of scope DIE with no store outstanding is answered at once; one of scope
SYSTEM sends markers to the controllers. To how many controllers (DEDUCED, log entry 49) and that the command cuts a
store to them (DEDUCED, log entry 50) are the model's readings. -/
def Obligations.RequestsToHostAndHbm : Prop :=
  ((∀ (s : State) (who : Requester) (c va tier node addr : Nat) (x : Ctx), who.legal tier = true → s.ctx? c = some x →
     let rejected (i : Instr) (slag : Option Nat) : Prop := acts i s (fun u => sameMem s u ∧ u.reqs = s.reqs ∧ u.rd .HAP_ERR_BAD_REQ = 1 ∧
       onlyRegs s u [(.HAP_ERR_BAD_REQ, 0)] ∧ ∀ z, slag = some z → .readData s.nextId (slagBytes z) true ∈ u.sent)
     let held (i : Instr) (k : ReqKind) : Prop := acts i s (fun u => sameMem s u ∧ onlyRegs s u [] ∧
       ∃ q, u.reqs = s.reqs ++ [q] ∧ q.id = s.nextId ∧ q.who = who ∧ q.ctx = c ∧ q.tier = tier ∧ q.node = node ∧ q.addr = addr ∧
         q.kind = k ∧ q.issued = false ∧ q.fin = none)
     let present := tier = 1 → s.headless = false
     let own := tier = 0 ∧ ∃ e, who = .engine e
     (∀ n, (¬ own → readBad addr n = true → rejected (.hapReadRequest who c va tier node addr n) (some n)) ∧
       (¬ own → readBad addr n = false → s.tagRoom who (tier == 2) = true → present →
         held (.hapReadRequest who c va tier node addr n) (.read n)) ∧
       (own → s.hlp.filter = [] → s.req? s.nextId = none → acts (.hapReadRequest who c va tier node addr n) s (fun u =>
         sameMem s u ∧ onlyRegs s u [] ∧ .hbmRead s.nextId addr n ∈ u.sent ∧
         ∃ q, u.req? s.nextId = some q ∧ q.who = who ∧ q.kind = .read n ∧ q.issued = true))) ∧
     (∀ code z a b, (atomicBad addr code z = true → rejected (.hapAtomicRequest who c va tier node addr code z a b) (some z)) ∧
       (¬ own → atomicBad addr code z = false → s.tagRoom who (tier == 2) = true → present →
         held (.hapAtomicRequest who c va tier node addr code z a b) (.atomic code z a b))) ∧
     (∀ (data : List (Option Byte)) (sealed pub : Bool),
       let bad := writeBad addr data.length || (maskedCells addr data).isEmpty
       (¬ own → bad = true → rejected (.hapWriteRequest who c va tier node addr data sealed pub) none) ∧
       (¬ own → bad = false → s.flaskSealed x.flask = false → s.entryRoom who = true → present →
         acts (.hapWriteRequest who c va tier node addr data sealed pub) s (fun u => sameMem s u ∧ onlyRegs s u [] ∧
           ∀ p ∈ maskedCells addr data, ∃ q ∈ u.reqs, ∃ cells, q.kind = .write cells ∧ p ∈ cells ∧ q.who = who ∧ q.ctx = c ∧
             q.tier = tier ∧ q.issued = false)))) ∧
   (∀ (s : State) (id : Nat) (q : Req), s.req? id = some q → q.issued = false → q.fin = none → s.lineBusy q = false →
     let leaves (P : State → Prop) : Prop := acts (.hapIssue id) s (fun u => sameMem s u ∧
       (∃ r, u.req? id = some r ∧ r.issued = true ∧ r.sentAt = s.time ∧ r.kind = q.kind) ∧ P u)
     (∀ cells, q.tier = 0 → q.kind = .write cells → leaves (fun u => onlyRegs s u [])) ∧
     (∀ n, q.tier = 0 → q.kind = .read n → q.lines.find? s.hostExcl = none → leaves (fun u => .hbmRead id q.addr n ∈ u.sent)) ∧
     (∀ cells, q.tier = 1 → q.parts = [] → q.kind = .write cells → s.mayIssueHost true = true → s.ackTable < 16384 →
       s.listed .TIER_HOT_VALID = [] →
       leaves (fun u => .hostWrite id q.addr cells ∈ u.sent ∧ u.hlp.pCred = s.hlp.pCred - 1)) ∧
     (∀ n, q.tier = 1 → q.parts = [] → q.kind = .read n → s.mayIssueHost false = true → s.listed .TIER_HOT_VALID = [] →
       leaves (fun u => .hostRead id q.addr n ∈ u.sent ∧ u.hlp.npCred = s.hlp.npCred - 1)) ∧
     (∀ n, q.tier = 2 → q.kind = .read n → s.issuing q.node = true → s.freeTag? ≠ none →
       (s.outTo q.node).length < max (s.rd .PEER_CTL_NODE_LIMIT) 1 → s.outPeers.length < 24576 →
       leaves (fun u => ∃ bytes, .packet q.node bytes ∈ u.sent ∧ pkType bytes = pkRD))) ∧
   (∀ (s : State) (id : Nat) (q : Req) (d : List Byte), s.req? id = some q → q.issued = true → q.fin = none → q.tier ≠ 2 →
     s.hlp.waits = [] → q.purpose = .plain → q.parts = [] → (q.tier = 0 → s.homeHolds q = none) →
     let returns (ret : Ret) (bs : List Byte) (slag : Bool) (P : State → Prop) : Prop := acts (.hapReadResponse id ret) s (fun u =>
       u.req? id = none ∧ .readData id bs slag ∈ u.sent ∧ P u)
     (∀ n, q.kind = .read n →
       (q.tier = 1 → returns (.ok d) (slice d 0 n) false (fun u => sameMem s u ∧ onlyRegs s u [])) ∧
       (q.tier = 0 → returns (.ok d) (s.dieRead q.addr n) false (fun u => sameMem s u ∧ onlyRegs s u [])) ∧
       (∀ bad, (∃ l, bad = .poison l) ∨ bad = .error → q.direct = false →
         (q.tier ≠ 0 → returns bad (slagBytes n) true (fun u => u.rd .HAP_ERR_RD_POISON = 1 ∧ s.counts u .POISON_RD)) ∧
         (q.tier = 0 → acts (.hapReadResponse id bad) s (fun u => u.req? id = none ∧ u.rd .HAP_ERR_RD_POISON = 1 ∧
           s.counts u .POISON_RD ∧ ∃ bs, .readData id bs true ∈ u.sent ∧ bs.length = n ∧
             ∀ i, i < n → (badLines bad q.kind.lineCount).contains (i / 64) = true → nth bs i 0 = 0xFF)))) ∧
     (∀ code z a b, q.kind = .atomic code z a b → q.tier = 0 → q.addr + z ≤ hbmSize →
       let old := (s.commitLine (lineOf q.addr)).sysRead q.addr z
       returns (.ok d) old false (fun u => u.sysRead q.addr z = leBytes z (atomicResult code z (ofLe old) a b))))) ∧
  ((∀ (s : State) (ctl c : Nat) (x : Ctx) (cells : List (Nat × Byte)), s.ctx? c = some x → (∀ p ∈ cells, p.1 < hbmSize) →
     ((linesOf cells).any s.coherentLine = false → acts (.hbmWriteAccept ctl (.engine c cells)) s (fun u => onlyRegs s u [] ∧
       (∃ st, u.wbuf = s.wbuf ++ [st] ∧ st.id = s.nextId ∧ st.ctl = ctl ∧ st.cells = cells ∧ st.ctx = c) ∧
       (∀ a, u.sysByte a = s.sysByte a) ∧
       ∀ a, u.dieByte a = ((cells.find? (fun p => p.1 == a)).map Prod.snd).getD (s.dieByte a))) ∧
     ((linesOf cells).any s.coherentLine = true → s.storeBlock (linesOf cells) = none → (cells.map Prod.fst).Nodup →
       acts (.hbmWriteAccept ctl (.engine c cells)) s (fun u => onlyRegs s u [] ∧ (∀ p ∈ cells, u.sysByte p.1 = p.2) ∧
         ∀ a, (∀ p ∈ cells, p.1 ≠ a) → (s.wbuf = [] ∨ lineOf a ∉ linesOf cells) →
           u.sysByte a = s.sysByte a ∧ u.dieByte a = s.dieByte a))) ∧
   (∀ (s : State) (ctl id : Nat) (q : Req) (cells : List (Nat × Byte)), s.req? id = some q → q.kind = .write cells →
     q.issued = true → q.tier = 0 → q.purpose = .plain → s.storeWaits id = false →
     (linesOf cells).any s.coherentLine = false → acts (.hbmWriteAccept ctl (.entry id)) s (fun u => onlyRegs s u [] ∧
       u.req? id = none ∧ (∃ st, u.wbuf = s.wbuf ++ [st] ∧ st.ctl = ctl ∧ st.cells = cells) ∧ ∀ a, u.sysByte a = s.sysByte a)) ∧
   (∀ (s : State) (id : Nat) (st : BufStore), s.wbuf.find? (fun st => st.id == id) = some st → s.mayCommit st = true →
     (st.cells.map Prod.fst).Nodup → st.purpose = .plain → acts (.hbmCommit id) s (fun u => onlyRegs s u [] ∧
       (∀ w ∈ u.wbuf, w.id ≠ id) ∧ (∀ p ∈ st.cells, p.1 < hbmSize → u.sysByte p.1 = p.2) ∧
       ∀ a, (∀ p ∈ st.cells, p.1 ≠ a) → u.sysByte a = s.sysByte a)) ∧
   (∀ (s : State) (c ctl : Nat) (x : Ctx), s.ctx? c = some x → x.fence.contains ctl = true → s.committed ctl x.markAt = true →
     acts (.commitMarkerAnswer ctl (.pour c)) s (fun u => sameMem s u ∧ onlyRegs s u [] ∧
       ∃ y, u.ctx? c = some y ∧ y.fence = x.fence.filter (fun k => k != ctl))) ∧
   (∀ (s : State) (e ctl : Nat), (∀ f ∈ s.fences, f.eng = e → s.committed ctl f.mark = true) →
     acts (.commitMarkerAnswer ctl (.engine e)) s (fun u => sameMem s u ∧ onlyRegs s u [] ∧
       (∀ f ∈ u.fences, f.eng = e → ctl ∉ f.ctls) ∧
       ∀ f ∈ s.fences, f.eng = e → s.fenceWaits f = false → (∀ k ∈ f.ctls, k = ctl) → .fenceAnswer e ∈ u.sent)) ∧
   (∀ (s : State) (e : Nat), (s.lane e).running ≠ none →
     ((∀ q ∈ s.reqs, q.who = .engine e → q.isWrite = false) → (∀ b ∈ s.cast.egress, b.who ≠ .engine e) →
       acts (.engineFenceRequest e false) s (fun u => sameMem s u ∧
       onlyRegs s u [] ∧ .fenceAnswer e ∈ u.sent)) ∧
     acts (.engineFenceRequest e true) s (fun u => sameMem s u ∧ onlyRegs s u [] ∧ .fenceMarkers e ∈ u.sent ∧
       ∃ f ∈ u.fences, f.eng = e ∧ f.system = true ∧ f.ctls = Config.hbmControllers)))

/-- The casters' commands: The data of a job's descriptor read reach the job. A caster in service with room takes the next
item of the oldest job that offers one. A completed item is done and counted; one of a BLOCKS ingress job that comes
before its turn is kept; a residue mismatch marks it for one retry, and a second takes the caster out of service and
gives its items back; a mismatch of an AES lane marks the item for one redo, and a second takes the lane out of
service. That the completion brings a lane's mismatch, and what becomes of an early item, are the model's choices
(DESIGN CHOICE, log entry 141). The tag check of a sealed chunk goes on to the next chunk, and counts an
authentication failure exactly when the tag differs. -/
def Obligations.Casters : Prop :=
  (∀ (s : State) (id i n : Nat) (q : Req) (j : Job) (d : List Byte), s.req? id = some q → q.purpose = .cast i jkSelf →
    q.issued = true → q.fin = none → q.tier = 0 → q.kind = .read n → q.parts = [] → s.homeHolds q = none → s.hlp.waits = [] →
    s.job? i = some j →
    acts (.castDescriptorReturn id (.ok d)) s (fun u => u.req? id = none ∧
      ∃ k, u.job? i = some k ∧ (q.va, s.dieRead q.addr n, false) ∈ k.got)) ∧
  (∀ (s : State) (c : Nat) (j : Job), s.ready = true → s.casterFree c = true → s.cast.jobs.find? Job.offers = some j → j.back = [] →
    acts (.casterItemTake c) s (fun u => sameMem s u ∧ onlyRegs s u [] ∧ ∃ k, u.job? j.id = some k ∧ k.next = j.next + 1 ∧
      ∃ it ∈ k.items, it.n = j.next ∧ it.caster = c ∧ it.out = 0)) ∧
  (∀ (s : State) (c i n : Nat) (j : Job) (it : Item), s.job? i = some j →
    j.items.find? (fun x => x.n == n && x.caster == c) = some it → it.ready = true →
    it.held = false → c < 32 →
    ((cdSparse j.d = 2 → cdEgress j.d = false → j.done.length = n) → (∀ x ∈ j.items, x.held = false) →
      acts (.casterItemComplete c i n .good) s (fun u => sameMem s u ∧
      u.rd .CAST_STATS_ITEMS = (s.rd .CAST_STATS_ITEMS + 1) % 2 ^ Field.CAST_STATS_ITEMS.row.width ∧
      ∃ k, u.job? i = some k ∧ n ∈ k.done ∧ ∀ x ∈ k.items, x.n ≠ n)) ∧
    (cdSparse j.d = 2 → cdEgress j.d = false → j.done.length ≠ n → acts (.casterItemComplete c i n .good) s (fun u => sameMem s u ∧
      onlyRegs s u [] ∧ ∃ k, u.job? i = some k ∧ k.done = j.done ∧
        ∃ x ∈ k.items, x.n = n ∧ x.caster = c ∧ x.held = j.back.contains j.done.length)) ∧
    (it.retried = false → acts (.casterItemComplete c i n .residue) s (fun u => u.rd .CAST_ERR_RESIDUE = 1 ∧
      ∃ k, u.job? i = some k ∧ ∀ x ∈ k.items, x.n = n → x.retried = true)) ∧
    (it.retried = true → acts (.casterItemComplete c i n .residue) s (fun u => u.rd .CAST_ERR_RESIDUE = 1 ∧
      bit (u.rd .CAST_STATUS_OUT_OF_SERVICE) c = true ∧ ∀ k ∈ u.cast.jobs, ∀ x ∈ k.items, x.caster = c → x.held = true)) ∧
    (∀ l, cdSealed j.d = true → s.laneServes l = true →
      (it.redone ≠ some l → acts (.casterItemComplete c i n (.lane l)) s (fun u => u.cast.lanesOut = s.cast.lanesOut ∧
        ∃ k, u.job? i = some k ∧ ∀ x ∈ k.items, x.n = n → x.redone = some l)) ∧
      (it.redone = some l → acts (.casterItemComplete c i n (.lane l)) s (fun u => u.laneServes l = false ∧
        ((List.range 16).any u.laneServes = false → .block ∈ u.calls))))) ∧
  (∀ (s : State) (i : Nat) (j : Job) (k : KeyMat), s.job? i = some j → s.jobKey j = some k → cdEgress j.d = false → j.code = none →
    j.reads = [] → j.reading = 0 → j.got ≠ [] → j.chunk < j.chunks → j.chunkReady j.chunk = true →
    let ct := gotBytes j.ciph (cdHostVa j.d + (j.chunkAt j.chunk).1) (j.chunkAt j.chunk).2
    let good := gcmTag (aesExpand k.key) (j.chunkIv j.chunk) (j.chunkAad j.chunk) ct =
      gotBytes j.got (cdTagVa j.d + 16 * j.chunk) 16
    acts (.castChunkTagCheck i) s (fun u => sameMem s u ∧ (∃ z, u.job? i = some z ∧ z.chunk = j.chunk + 1 ∧ z.got = []) ∧
      (good → onlyRegs s u []) ∧ (¬ good → u.rd .CAST_ERR_AUTH_FAIL = 1 ∧ s.counts u .CAST_SEAL_STATS_AUTH_FAILS)))

/-- Answers and requests of peers: The packet that answers an outstanding request: DATA gives its data to the engine that
reads and ends it, slag-marked data give slag; ACK ends a write or a signal; BUSY sets the time of its next send by
the number of BUSY answers, and at that time it is sent again and counted; ERR ends it, with the error's bit. A
request unanswered for 2 ms, or the loss of the path, removes its node: the node is QUARANTINED with its cause and has
no request outstanding; a node that was still ATTACHING is FREE again with its earlier generation, and its command
replies TIMEOUT (DESIGN CHOICE, log entry 67). That an expiry moves the time on to its moment is the model's choice
(DESIGN CHOICE, log entry 1). A request that its node's state, its binding and its form admit is performed: RD answers
with the bytes of its lines and changes nothing; WR's bytes are accepted at HBM; AT leaves its result at its address
and answers with the old value; SIG updates the bound flask's timeline and is acknowledged; a doorbell acts on the
queue and is acknowledged. One that a row of the refusal table turns away is answered with ERR, counted as denied, and
changes no memory. How long an entry of the inbound buffer is held (DESIGN CHOICE, log entry 68), and the form of a
doorbell packet (DEDUCED, log entry 73), are the model's. -/
def Obligations.PeerAnswersAndRequests : Prop :=
  ((∀ (s : State) (p : List Byte) (q : Req),
     (s.answering pkDATA p = (some q, s) → q.purpose = .plain →
       (∀ n, q.kind = .read n → p.length = 24 + 64 * q.lines.length →
         acts (.peerData p false) s (fun u => sameMem s u ∧ onlyRegs s u [] ∧ u.req? q.id = none ∧
           .readData q.id (slice (p.drop 24) (q.addr % 64) n) false ∈ u.sent) ∧
         acts (.peerData p true) s (fun u => sameMem s u ∧ u.rd .HAP_ERR_RD_POISON = 1 ∧ u.req? q.id = none ∧
           .readData q.id (slagBytes n) true ∈ u.sent))) ∧
     (s.answering pkACK p = (some q, s) → p.length = 24 →
       (∀ cells, q.kind = .write cells → q.purpose = .plain → acts (.peerAck p) s (fun u => sameMem s u ∧ onlyRegs s u [] ∧
         u.req? q.id = none)) ∧
       (∀ op f i v, q.kind = .sig op f i v → acts (.peerAck p) s (fun u => sameMem s u ∧ onlyRegs s u [] ∧ u.req? q.id = none))) ∧
     (s.answering pkBUSY p = (some q, s) → p.length = 24 → acts (.peerBusy p) s (fun u => sameMem s u ∧ onlyRegs s u [] ∧
       ∃ r, u.req? q.id = some r ∧ r.busy = q.busy + 1 ∧ r.resend = some (s.time + 256 * 2 ^ min (q.busy + 1) 6))) ∧
     (s.answering pkERR p = (some q, s) → p.length = 24 → q.purpose = .plain →
       (∀ n, q.kind = .read n → acts (.peerErr p) s (fun u => u.rd .HAP_ERR_RD_POISON = 1 ∧ u.req? q.id = none ∧
         .readData q.id (slagBytes n) true ∈ u.sent)) ∧
       (∀ cells, q.kind = .write cells → acts (.peerErr p) s (fun u => sameMem s u ∧ u.rd .HAP_ERR_WR_ERR = 1 ∧
         s.counts u .HAP_DROP_WR_ERRORS ∧ u.req? q.id = none)) ∧
       (∀ op f i v, q.kind = .sig op f i v → acts (.peerErr p) s (fun u => sameMem s u ∧ u.rd .PEER_ERR_SIG_REFUSED = 1 ∧
         u.req? q.id = none)))) ∧
   (∀ (s : State) (tag : Nat) (q : Req), s.sentPeers.find? (fun r => r.tag == tag && r.resend.isSome) = some q →
     acts (.peerBusyResend tag) s (fun u => sameMem s u ∧ u.time = max s.time (q.resend.getD 0) ∧ s.counts u .PEER_STATS_RETRIES ∧
       (∃ bytes, .packet q.node bytes ∈ u.sent) ∧ ∃ r, u.req? q.id = some r ∧ r.resend = none ∧ r.sentAt = u.time)) ∧
   (∀ (s : State) (tag : Nat) (q : Req), s.sentPeers.find? (fun r => r.tag == tag && r.resend.isNone) = some q →
     (s.node q.node).slots = [] → acts (.peerRequestTimeout tag) s (fun u => s.time ≤ u.time ∧ q.sentAt + 2000000 ≤ u.time ∧
       u.rd .PEER_ERR_NODE_TIMEOUT = 1 ∧ u.ndState q.node = ndQUARANTINED ∧ u.rd .PEER_NODE_CAUSE q.node = 4 ∧ u.outTo q.node = [])) ∧
   (∀ (s : State) (k : Nat), s.removable k = true → (s.node k).slots = [] → acts (.peerPathLost k) s (fun u =>
     u.rd .PEER_ERR_NODE_LOST = 1 ∧ u.ndState k = ndQUARANTINED ∧ u.rd .PEER_NODE_CAUSE k = 3 ∧ u.outTo k = [] ∧
     u.on .EV_SRC_PENDING 0x2340 = true)) ∧
   (∀ (s : State) (k n : Nat), n < 16 → s.ndState k = ndATTACHING → (s.node k).slots = [n] → acts (.peerPathLost k) s (fun u =>
     sameMem s u ∧ u.ndState k = ndFREE ∧ u.ndGen k = (s.node k).oldGen % 2 ^ Field.PEER_NODE_GEN.row.width ∧
     u.rd .PEER_ERR_ATTACH_FAIL = 1 ∧ u.replied n stTIMEOUT))) ∧
  ((∀ (s : State) (p : List Byte) (b : Nat),
     (s.inboundGate pkRD p = .ok b → pkType p = pkRD → (∀ a ∈ pkLineAddrs p, s.hostExcl (lineOf a) = false) →
       acts (.inboundRd p) s (fun u => sameMem s u ∧ onlyRegs s u [] ∧
         .packet (pkSrc p) (leBytes 8 (s.head0 pkDATA (pkSrc p) (pkGen p) 0 (pkTag p)) ++ leBytes 8 0 ++ leBytes 8 0 ++
           (pkLineAddrs p).flatMap (fun l => s.sysRead l 64)) ∈ u.sent)) ∧
     (∀ ctl, s.inboundGate pkWR p = .ok b → inDoorbells (pkLocal p) = false → pkCells p ≠ [] →
       (linesOf (pkCells p)).any s.coherentLine = false → acts (.inboundWr p ctl) s (fun u => onlyRegs s u [] ∧
         (∀ a, u.sysByte a = s.sysByte a) ∧ ∃ st, u.wbuf = s.wbuf ++ [st] ∧ st.ctl = ctl ∧ st.cells = pkCells p ∧
           st.purpose = .inbound (pkSrc p) (pkTag p) (pkGen p))) ∧
     (∀ ctl, s.inboundGate pkWR p = .ok b → inDoorbells (pkLocal p) = true →
       let q := (pkLocal p - 0xF0000000000) / 4096
       let f := s.rd .PEER_BIND_FLASK b
       let v := ofLe ((pkCells p).map Prod.snd)
       popCount (pkLines p) 4 = 1 → pkMasked p = true → pkLocal p % 256 = 0 →
       (pkCells p).map Prod.fst = (List.range 8).map (fun i => pkLocal p + i) → bits v 32 8 = s.rd .QCTX_GEN q → s.drowse = false →
       s.rd .FL_QFIRST f ≤ q → q < s.rd .FL_QFIRST f + s.rd .FL_QCOUNT f → acts (.inboundWr p ctl) s (fun u => sameMem s u ∧
         (∀ g i, u.rd g i = (s.doorbell q (setBits v 32 8 0)).rd g i) ∧ ∃ bytes, .packet (pkSrc p) bytes ∈ u.sent ∧ pkType bytes = pkACK)) ∧
     (s.inboundGate pkAT p = .ok b → pkType p = pkAT → (∀ a ∈ pkLineAddrs p, s.hostHeld (lineOf a) = false) →
       s.storeBlock [lineOf (pkLocal p)] = none →
       let z := if fld p 1 52 1 = 1 then 8 else 4
       let old := (s.commitLine (lineOf (pkLocal p))).sysRead (pkLocal p) z
       pkLocal p + z ≤ hbmSize → acts (.inboundAt p) s (fun u => onlyRegs s u [] ∧
         u.sysRead (pkLocal p) z = leBytes z (atomicResult (pkOp p) z (ofLe old) (leAt p 24 8) (leAt p 32 8)) ∧
         .packet (pkSrc p) (leBytes 8 (s.head0 pkDATA (pkSrc p) (pkGen p) 0 (pkTag p)) ++ leBytes 8 0 ++ leBytes 8 0 ++
           slice old 0 8) ∈ u.sent)) ∧
     (s.inboundGate pkSIG p = .ok b →
       let f := s.rd .PEER_BIND_FLASK b
       let i := bits (pkLocal p) 0 16
       (i ≤ s.rd .FL_TCOUNT_M1 f → acts (.inboundSig p) s (fun u => sameMem s u ∧
         u.timeline (s.rd .FL_TFIRST f + i) = tlResult (pkOp p) (s.timeline (s.rd .FL_TFIRST f + i)) (pkValue p) % 2 ^ 64 ∧
         onlyRegs s u [(.TL_COUNTER, s.rd .FL_TFIRST f + i)] ∧ ∃ bytes, .packet (pkSrc p) bytes ∈ u.sent ∧ pkType bytes = pkACK)) ∧
       (s.rd .FL_TCOUNT_M1 f < i → acts (.inboundSig p) s (fun u => sameMem s u ∧ s.counts u .PEER_STATS_DENIED ∧
         u.rd .PEER_ERR_INBOUND_DENIED = 1 ∧ ∀ k, u.timeline k = s.timeline k)))) ∧
   (∀ (s : State) (p : List Byte) (ctl : Nat) (ty : Nat) (i : Instr),
     (ty, i) ∈ [(pkRD, Instr.inboundRd p), (pkWR, .inboundWr p ctl), (pkAT, .inboundAt p), (pkSIG, .inboundSig p)] →
     pkType p = ty → s.on .PEER_CTL_EN = true → s.ready = true → s.admits p = true → s.drowse = false → s.inboundUse < 4096 →
     s.bufUse s.sigBuf < 256 → s.bufUse s.dbBuf < 256 → (s.inboundFault p).1 ≠ 0 → acts i s (fun u => sameMem s u ∧ s.counts u .PEER_STATS_DENIED ∧ u.rd .PEER_ERR_INBOUND_DENIED = 1 ∧
       ∃ bytes, .packet (pkSrc p) bytes ∈ u.sent ∧ pkType bytes = pkERR ∧ fld bytes 1 56 8 = (s.inboundFault p).1)))

/-- Attaching, detaching and binding nodes: PEER_ATTACH of a FREE node with a new generation makes it ATTACHING and sends
HELLO; of any other it replies STATE. A HELLO of an attaching or attached node is answered; with its HELLO_ACK and the
other side's HELLO the node is ATTACHED and the command replies OK. HELLO goes out again after 1 ms, and the attach
fails after 100 ms. An orderly detach makes the node DETACHING and sends BYE; a BYE received makes it DETACHING; a
removal quarantines it at once; 1 s later it is FREE. A write that enables a binding takes effect when its checks
pass, and otherwise sets CFG_ERR and leaves it off. The number that a BYE carries (DESIGN CHOICE, log entry 66), when
a HELLO_ACK counts (DEDUCED, log entry 72) and that an expiry moves the time on to its moment (DESIGN CHOICE, log
entry 1) are the model's. -/
def Obligations.PeerNodes : Prop :=
  (∀ (s : State) (n : Nat), s.starts n 0x50 →
    let k := bits (s.par n 0) 16 12
    let g := bits (s.par n 0) 28 8
    (s.on .PEER_CTL_EN = false ∨ s.ndState k ≠ ndFREE → answers (.peerAttach n) s (fun u => sameMem s u ∧ u.replied n stSTATE)) ∧
    (s.on .PEER_CTL_EN = true → s.ndState k = ndFREE → k ≠ s.self → g ≠ s.ndGen k → answers (.peerAttach n) s (fun u =>
      sameMem s u ∧ u.ndState k = ndATTACHING ∧ u.ndGen k = g ∧ u.slotState n = mbRUNNING ∧ (u.node k).slots = [n] ∧
      ∃ bytes, .packet k bytes ∈ u.sent ∧ pkType bytes = pkHELLO ∧ pkGen bytes = g))) ∧
  (∀ (s : State) (p : List Byte), s.ready = true → s.on .PEER_CTL_EN = true → helloBad p = false →
    let k := pkSrc p
    pkGen p = s.ndGen k →
    (pkType p = pkHELLO → s.ndState k = ndATTACHED → acts (.inboundHello p) s (fun u => sameMem s u ∧ onlyRegs s u [] ∧
      ∃ bytes, .packet k bytes ∈ u.sent ∧ pkType bytes = pkHELLOACK)) ∧
    (pkType p = pkHELLO → s.ndState k = ndATTACHING → (s.node k).gotAck = false → acts (.inboundHello p) s (fun u => sameMem s u ∧
      onlyRegs s u [] ∧ (u.node k).answered = true)) ∧
    (∀ n, n < 16 → pkType p = pkHELLOACK → s.ndState k = ndATTACHING → (s.node k).gotAck = false → (s.node k).answered = true →
      (s.node k).slots = [n] → acts (.peerHelloAck p) s (fun u => sameMem s u ∧ u.ndState k = ndATTACHED ∧ u.replied n stOK ∧
        u.on .EV_SRC_PENDING 0x2340 = true)) ∧
    (pkType p = pkBYE → s.ndState k = ndATTACHED → s.nodes = [] → s.outTo k ≠ [] → acts (.inboundBye p) s (fun u => sameMem s u ∧
      u.ndState k = ndDETACHING ∧ (u.node k).closing = true ∧ (u.node k).byeTag = some (pkTag p)))) ∧
  (∀ (s : State) (k : Nat), s.ndState k = ndATTACHING → (s.node k).gotAck = false →
    does (.peerHelloResend k) s (fun t => sameMem s t ∧ onlyRegs s t [] ∧ t.time = max s.time ((s.node k).helloAt + 1000000) ∧
      ∃ bytes, .packet k bytes ∈ t.sent ∧ pkType bytes = pkHELLO) ∧
    (∀ n, n < 16 → (s.node k).slots = [n] → acts (.peerAttachTimeout k) s (fun u => sameMem s u ∧ u.ndState k = ndFREE ∧
      u.time = max s.time ((s.node k).since + 100000000) ∧ u.rd .PEER_ERR_ATTACH_FAIL = 1 ∧ u.replied n stTIMEOUT))) ∧
  (∀ (s : State) (n : Nat), s.starts n 0x51 →
    let k := bits (s.par n 0) 16 12
    bits (s.par n 0) 28 8 = s.ndGen k → s.removable k = true → (s.node k).slots = [] →
    (bits (s.par n 0) 48 1 = 0 → s.nodes = [] → s.freeTag? ≠ none → (∀ q ∈ s.reqs, q.isBye = false) → answers (.peerDetachOrderly n) s (fun u => sameMem s u ∧ u.ndState k = ndDETACHING ∧
      u.slotState n = mbRUNNING ∧ ∃ bytes, .packet k bytes ∈ u.sent ∧ pkType bytes = pkBYE)) ∧
    (bits (s.par n 0) 48 1 = 1 → answers (.peerDetachRemoved n) s (fun u => u.ndState k = ndQUARANTINED ∧
      u.rd .PEER_NODE_CAUSE k = 2 ∧ u.replied n stOK))) ∧
  (∀ (s : State) (k : Nat), s.ready = true → s.ndState k = ndQUARANTINED → k < 4096 → does (.peerQuarantineEnd k) s (fun t =>
    sameMem s t ∧ t.ndState k = ndFREE ∧ t.time = max s.time ((s.node k).since + 1000000000) ∧ onlyRegs s t [(.PEER_NODE_STATE, k)])) ∧
  (∀ (s : State) (b v : Nat), s.hears → b < 256 → s.on .PEER_BIND_EN b = false → bits v 63 1 = 1 →
    let t := s.regWrite (0x601000 + 0x20 * b) 8 0 (v % 2 ^ 64)
    (t.bindOk b = true → does (.peerBindWrite b 0 0 8 v) s (fun u => sameMem s u ∧ u.rd .PEER_BIND_EN b = 1 ∧
      u.rd .PEER_BIND_CFG_ERR b = 0)) ∧
    (t.bindOk b = false → does (.peerBindWrite b 0 0 8 v) s (fun u => sameMem s u ∧ u.rd .PEER_BIND_EN b = 0 ∧
      u.rd .PEER_BIND_CFG_ERR b = 1 ∧ u.rd .PEER_ERR_BIND_CFG = 1 ∧ onlyRegs s u [(.PEER_BIND_CFG_ERR, b), (.PEER_ERR_BIND_CFG, 0)])))

/-- Raising and delivering events, and the controller's registers: A well-formed store to a flask's doorbell page, and an
engine's raise for a pour of a current queue, make the source PENDING when the flask owns it at its current
generation; one that the flask owns at an old generation is dropped and counted in CZ_STALE_DROP, and any other sets
DENIED and is counted as a denial; a management pour owns no source, and a raise for no pour or for a pour of an old
queue generation is dropped as stale. Another store to the page of 4 or 8 aligned bytes only sets BAD_STORE. A level
line makes its source PENDING while it is high and the source is not in service. A delivery takes the chosen source
from PENDING to ACTIVE at the chosen target, counts it and puts its message behind those that wait, or hands it to a
management core. The oldest message is sent when Bus Master Enable and a credit are there. An 8-byte write of
CZ_EV_SRC discards what its PENDING bit names and sets the source's configuration, and one of CZ_EV_CTL sets
DELIVER_EN. How far the timestamp of a message lags is a free value (log entry 11); that the configuration is taken by
the write that discards (DEDUCED, log entry 129) is the model's reading. -/
def Obligations.EventController : Prop :=
  (∀ (s : State) (f src : Nat), s.hears → f < 64 → src < 2 ^ 14 →
    let owns := 0x2400 ≤ src ∧ src ≤ 0x3EFF ∧ s.on .EV_SRC_OWNED src = true ∧ s.rd .EV_SRC_FLASK src = f
    (owns → s.rd .EV_SRC_FLASK_GEN src = s.flaskGen f → does (.eventDoorbellStore f 0 8 src) s (fun t => sameMem s t ∧
      t.rd .EV_SRC_PENDING src = 1 ∧ onlyRegs s t [(.EV_SRC_PENDING, src), (.EV_STATS_MERGED, 0)] ∧
      (s.on .EV_SRC_PENDING src = true → s.counts t .EV_STATS_MERGED) ∧
      (s.on .EV_SRC_PENDING src = false → t.rd .EV_STATS_MERGED = s.rd .EV_STATS_MERGED))) ∧
    (owns → s.rd .EV_SRC_FLASK_GEN src ≠ s.flaskGen f → does (.eventDoorbellStore f 0 8 src) s (fun t => sameMem s t ∧
      s.counts t .STALE_DROP_FLASK ∧ onlyRegs s t (staleFields .flask))) ∧
    (¬ owns → does (.eventDoorbellStore f 0 8 src) s (fun t => sameMem s t ∧ t.rd .EV_ERR_DENIED = 1 ∧
      s.counts t .EV_STATS_DENIED ∧ onlyRegs s t [(.EV_ERR_DENIED, 0), (.EV_STATS_DENIED, 0)]))) ∧
  (∀ (s : State) (f off size v : Nat), s.hears → f < 64 → off < 4096 → size = 4 ∨ size = 8 → off % size = 0 →
    off ≠ 0 ∨ size ≠ 8 ∨ 2 ^ 14 ≤ v % 2 ^ (8 * size) → does (.eventDoorbellStore f off size v) s (fun t => sameMem s t ∧
      t.rd .EV_ERR_BAD_STORE = 1 ∧ onlyRegs s t [(.EV_ERR_BAD_STORE, 0)])) ∧
  (∀ (s : State) (e src c : Nat) (x : Ctx), s.ctx? c = some x →
    (x.mgmt = false → x.pour.qgen = s.rd .QCTX_GEN x.pour.queue) →
    let owns := x.mgmt = false ∧ 0x2400 ≤ src ∧ src ≤ 0x3EFF ∧ s.on .EV_SRC_OWNED src = true ∧ s.rd .EV_SRC_FLASK src = x.flask
    (owns → s.rd .EV_SRC_FLASK_GEN src = s.flaskGen x.flask → does (.engineEventRaise e src c) s (fun t => sameMem s t ∧
      t.rd .EV_SRC_PENDING src = 1 ∧ onlyRegs s t [(.EV_SRC_PENDING, src), (.EV_STATS_MERGED, 0)])) ∧
    (owns → s.rd .EV_SRC_FLASK_GEN src ≠ s.flaskGen x.flask → does (.engineEventRaise e src c) s (fun t => sameMem s t ∧
      s.counts t .STALE_DROP_FLASK ∧ onlyRegs s t (staleFields .flask))) ∧
    (¬ owns → does (.engineEventRaise e src c) s (fun t => sameMem s t ∧ t.rd .EV_ERR_DENIED = 1 ∧ s.counts t .EV_STATS_DENIED ∧
      onlyRegs s t [(.EV_ERR_DENIED, 0), (.EV_STATS_DENIED, 0)]))) ∧
  (∀ (s : State) (e src c : Nat),
    s.ctx? c = none ∨ (∃ x, s.ctx? c = some x ∧ x.mgmt = false ∧ x.pour.qgen ≠ s.rd .QCTX_GEN x.pour.queue) →
    does (.engineEventRaise e src c) s (fun t => sameMem s t ∧ s.counts t .STALE_DROP_QUEUE ∧ onlyRegs s t (staleFields .queue))) ∧
  (∀ (s : State) (unit : Nat), s.ready = true → unit ∈ errUnits → does (.levelLineChange unit) s (fun t => sameMem s t ∧
    onlyRegs s t [(.EV_SRC_PENDING, 0x3F00 + unit)] ∧
    t.rd .EV_SRC_PENDING (0x3F00 + unit) = (if s.line unit = true ∧ s.on .EV_SRC_ACTIVE (0x3F00 + unit) = false then 1 else 0))) ∧
  (∀ (s : State) (n g : Nat), s.ready = true → s.on .EV_CTL_DELIVER_EN = true → s.choose = some (n, g) →
    let deliv := (s.rd .EV_SRC_DELIV n + 1) % 2 ^ Field.EV_SRC_DELIV.row.width
    let bs := eventBytes n (s.rd .EV_SRC_PRIO n) g deliv (s.clock .core)
    does .eventDelivery s (fun t => sameMem s t ∧ t.rd .EV_SRC_PENDING n = 0 ∧ t.rd .EV_SRC_ACTIVE n = 1 ∧
      t.rd .EV_SRC_TARGET n = g % 2 ^ Field.EV_SRC_TARGET.row.width ∧ t.rd .EV_SRC_DELIV n = deliv ∧
      (510 ≤ g → .mgmtEvent (g - 510) bs ∈ t.sent) ∧ (g < 510 → t.ev.msgs = s.ev.msgs ++ [(g, s.rd .EV_TGT_DEST g, bs)]) ∧
      onlyRegs s t [(.EV_SRC_PENDING, n), (.EV_SRC_ACTIVE, n), (.EV_SRC_TARGET, n), (.EV_SRC_DPRIO, n), (.EV_SRC_DELIV, n),
        (.EV_THRESH_INSVC, g)])) ∧
  (∀ (s : State) (g d : Nat) (bs : List Byte) (rest : List (Nat × Nat × List Byte)), s.ev.msgs = (g, d, bs) :: rest →
    s.on .CFG_BME = true → 0 < s.hlp.evtCred → does .eventMessageSend s (fun t => sameMem s t ∧ onlyRegs s t [] ∧
      t.sent = .event d bs :: s.sent ∧ t.ev.msgs = rest ∧ t.hlp.evtCred = s.hlp.evtCred - 1)) ∧
  (∀ (s : State) (n v : Nat), s.hears → n < 0x3F00 → does (.eventPendingDiscard n 0 8 v) s (fun t => sameMem s t ∧
    t.rd .EV_SRC_PENDING n = (s.rd .EV_SRC_PENDING n - (s.rd .EV_SRC_PENDING n &&& bits v Field.EV_SRC_PENDING.row.lo 1)) % 2 ∧
    t.rd .EV_SRC_PRIO n = bits v Field.EV_SRC_PRIO.row.lo Field.EV_SRC_PRIO.row.width ∧
    t.rd .EV_SRC_MASK n = bits v Field.EV_SRC_MASK.row.lo 1 ∧ onlyRegs s t (fieldsAt (0x710000 + 8 * n)))) ∧
  (∀ (s : State) (v : Nat), s.hears → does (.eventCtlWrite 0 8 v) s (fun t => sameMem s t ∧ onlyRegs s t (fieldsAt 0x700000) ∧
    t.rd .EV_CTL_DELIVER_EN = bits v Field.EV_CTL_DELIVER_EN.row.lo 1))

/-- Completing an event: An event completion on ZCI, or a management core's write of the same value to CZ_EV_MCOMPL, is
applied exactly when the source it names is in service with the TARGET and the DELIV it names, whatever that target's
EN: ACTIVE of the source becomes 0, bit DPRIO of the target's INSVC becomes 0 and its other bits stay, and PENDING of
the source is, for a level source, whether its line is high, and for any other as it was. Any other completion only
sets BAD_COMPL and is counted in CZ_EV_STATS.BAD_COMPL, so that one left over from an earlier delivery frees nothing.
No memory changes; the host's credit goes back. -/
def Obligations.CompletionEndsTheDelivery : Prop :=
  ∀ (s : State) (v : Nat), s.ready = true →
    let n := bits v 0 14
    let g := bits v 16 9
    let names := s.on .EV_SRC_ACTIVE n = true ∧ s.rd .EV_SRC_TARGET n = g ∧ s.rd .EV_SRC_DELIV n = bits v 32 16
    let ends (t : State) : Prop := sameMem s t ∧ t.rd .EV_SRC_ACTIVE n = 0 ∧
      (∀ k, k < Field.EV_THRESH_INSVC.row.width → bit (t.rd .EV_THRESH_INSVC g) k =
        (if k = s.rd .EV_SRC_DPRIO n then false else bit (s.rd .EV_THRESH_INSVC g) k)) ∧
      (n < 0x3F00 → t.rd .EV_SRC_PENDING n = s.rd .EV_SRC_PENDING n) ∧
      (0x3F00 ≤ n → n - 0x3F00 ∈ errUnits → t.rd .EV_SRC_PENDING n = (if s.line (n - 0x3F00) = true then 1 else 0)) ∧
      onlyRegs s t ([(.EV_SRC_ACTIVE, n), (.EV_THRESH_INSVC, g)] ++ if 0x3F00 ≤ n then [(.EV_SRC_PENDING, n)] else [])
    let dropped (t : State) : Prop := sameMem s t ∧ t.rd .EV_ERR_BAD_COMPL = 1 ∧ s.counts t .EV_STATS_BAD_COMPL ∧
      onlyRegs s t [(.EV_ERR_BAD_COMPL, 0), (.EV_STATS_BAD_COMPL, 0)]
    (names → does (.eventCompletion v) s (fun t => ends t ∧ t.sent = .poolCredit .event :: s.sent) ∧
      does (.eventMcomplWrite 8 v) s (fun t => ends t ∧ t.sent = s.sent)) ∧
    (¬ names → does (.eventCompletion v) s (fun t => dropped t ∧ t.sent = .poolCredit .event :: s.sent) ∧
      does (.eventMcomplWrite 8 v) s (fun t => dropped t ∧ t.sent = s.sent))

/-- Updates of timelines by the host: An 8-byte store to a timeline that an OPEN, SEALING, SEALED or QUENCHED flask owns
sets it; CZ_TL_OP applies SET, ADD or MAX of CZ_TL_VALUE to it; every WAIT that the new value meets goes on and no
other register changes. A timeline that no flask owns, or a flask being created owns, keeps its value and the update
is counted; one that a flask in RESETTING or DESTROYING owns keeps its value, and the update counts in RESET_WRITES
and sets RESET_WRITE; in a BLOCK reset an update of a timeline that a flask owned at its start in another state counts
in RESET_WRITES alone (that the owner at its start counts is the model's reading, DEDUCED, log entry 134). An update
of another size than 8 bytes only sets BAD_REG. -/
def Obligations.HostTimelineUpdates : Prop :=
  (∀ (s : State) (i : Nat), s.hears → i < 65536 →
    ∀ (c : Instr) (mode v : Nat), (∃ w, w < 2 ^ 64 ∧ v = w ∧ mode = 0 ∧ c = .timelineStore i 0 8 w) ∨
      (v = s.rd .TL_VALUE ∧ (mode, c) ∈ [(0, Instr.tlOpSet 8 i), (1, .tlOpAdd 8 i), (2, .tlOpMax 8 i)]) →
      (∀ f, s.tlOwner i = some f → s.flaskState f ≠ flCREATING → s.flaskResetting f = false → does c s (fun t => sameMem s t ∧
        t.timeline i = tlResult mode (s.timeline i) v % 2 ^ 64 ∧ onlyRegs s t [(.TL_COUNTER, i)] ∧
        ∀ d y, s.ctx? d = some y →
          if y.st = .waitTl ∧ y.timeline = i ∧ y.value ≤ t.timeline i then t.ctx? d = some { y with st := .run, pc := y.pc + 1 }
          else t.ctx? d = some y)) ∧
      (s.tlOwner i = none → does c s (fun t => sameMem s t ∧ s.counts t .TL_STATS_UNOWNED ∧ onlyRegs s t [(.TL_STATS_UNOWNED, 0)])) ∧
      (∀ f, s.tlOwner i = some f → s.flaskState f = flCREATING → does c s (fun t => sameMem s t ∧ s.counts t .TL_STATS_UNOWNED ∧
        onlyRegs s t [(.TL_STATS_UNOWNED, 0)])) ∧
      (∀ f, s.tlOwner i = some f → s.flaskResetting f = true → does c s (fun t => sameMem s t ∧
        s.counts t .RAS_COUNT_RESET_WRITES ∧ t.rd .RAS_ERR_RESET_WRITE = 1 ∧
        onlyRegs s t [(.RAS_COUNT_RESET_WRITES, 0), (.RAS_ERR_RESET_WRITE, 0)])) ∧
      does (.timelineStore i 0 4 v) s (fun t => sameMem s t ∧ t.rd .HLP_ERR_BAD_REG = 1 ∧ onlyRegs s t [(.HLP_ERR_BAD_REG, 0)])) ∧
  (∀ (s : State) (i : Nat) (c : Instr) (w : Nat), s.on .CFG_MSE = true → s.blockReset = true → i < 65536 →
    s.tlState i ∈ [flOPEN, flSEALING, flSEALED, flQUENCHED] →
    c ∈ [Instr.timelineStore i 0 8 w, .tlOpSet 8 i, .tlOpAdd 8 i, .tlOpMax 8 i] → does c s (fun t => sameMem s t ∧
      s.counts t .RAS_COUNT_RESET_WRITES ∧ onlyRegs s t [(.RAS_COUNT_RESET_WRITES, 0)]))

/-- FLASK_CREATE, and the end of a scrub: A FLASK_CREATE that fails a check replies that status and changes nothing but
its reply. Otherwise the flask is CREATING with the groups, range, queues, timelines, store, label and AUTO_RESET of
its parameters, the scrub of its dirty granules starts and the slot stays RUNNING; no other register and no memory
changes. When a creation's scrub completes, its granules read zero and no other byte changes, the flask is OPEN, its
granules are dirty and unsealed, and the reply is OK with the flask's generation. When the scrub of a reset or
teardown completes, its granules read zero and are clean, RESETS advances, DONE is set with the flask's source raised,
the flask is OPEN after a reset and FREE after a teardown, and every waiting slot replies OK. While an unbinding of
the flask's atlases goes on the scrub does not complete (the model's reading, DEDUCED, log entry 93); a store of size
0 is taken and a flask of size 0 refused (DEDUCED, log entry 89). -/
def Obligations.FlasksAreMadeAndScrubbed : Prop :=
  (∀ (s : State) (n : Nat), s.starts n 0x10 →
    let b := s.begun n
    let p := s.plan n
    let f := p.f
    (∀ st, b.createFails p = some st → answers (.flaskCreate n) s (fun u => sameMem s u ∧ u.replied n st ∧ onlyRegs b u (replyFields n))) ∧
    (b.createFails p = none → answers (.flaskCreate n) s (fun u => sameMem s u ∧ u.slotState n = mbRUNNING ∧
      u.flaskState f = flCREATING ∧ u.rd .FL_GROUPS f = p.groups % 2 ^ 64 ∧ u.rd .FL_BASE f = p.base ∧ u.rd .FL_SIZE f = p.size ∧
      u.rd .FL_QFIRST f = p.qfirst ∧ u.rd .FL_QCOUNT f = p.qcount ∧ u.rd .FL_TFIRST f = p.tfirst ∧
      u.rd .FL_TCOUNT_M1 f = p.tcount - 1 ∧ u.rd .MC_STORE_BASE f = (p.base * 8192 + p.off) % 2 ^ 32 ∧
      u.rd .MC_STORE_SIZE f = p.store ∧ u.rd .FL_LABEL f = s.par n 5 % 2 ^ 64 ∧ u.rd .FL_AUTO_RESET f = bits (s.par n 0) 48 1 ∧
      (∃ c ∈ u.scrubs, c.flask = f ∧ c.slot = some n ∧
        c.granules = ((List.range p.size).map (fun i => p.base + i)).filter (fun g => b.on .SEAL_GRAN_DIRTY g)) ∧
      onlyRegs b u ([.FL_GROUPS, .FL_BASE, .FL_SIZE, .FL_QFIRST, .FL_QCOUNT, .FL_TFIRST, .FL_TCOUNT_M1, .MC_STORE_BASE,
        .MC_STORE_SIZE, .FL_LABEL, .FL_AUTO_RESET, .FL_STATE].map (fun g => (g, f)))))) ∧
  (∀ (s : State) (f : Nat) (c : Scrub), s.scrubs.find? (fun c => c.flask == f) = some c →
    (s.unbinding f = true → exec (.scrubComplete f) s = .next (s.close s.settle)) ∧
    (∀ n, n < 16 → c.slot = some n → s.unbinding f = false → acts (.scrubComplete f) s (fun u => s.zeroed u c.granules ∧
      u.replied n stOK ∧ u.rd .MB_OUT (n * 128) = s.flaskGen f % 2 ^ 64 ∧ u.flaskState f = flOPEN ∧
      (∀ d ∈ u.scrubs, d.flask ≠ f) ∧ s.time ≤ u.time ∧
      ∀ i, i < s.rd .FL_SIZE f → u.rd .SEAL_GRAN_DIRTY (s.rd .FL_BASE f + i) = 1 ∧ u.rd .SEAL_GRAN_SEAL (s.rd .FL_BASE f + i) = 0)) ∧
    (∀ w, c.slot = none → s.unbinding f = false → s.tears.find? (fun w => w.flask == f && w.scrub) = some w →
      acts (.scrubComplete f) s (fun u => s.zeroed u c.granules ∧ (∀ n ∈ w.slots, n < 16 → u.replied n stOK) ∧
        (∀ g ∈ c.granules, u.rd .SEAL_GRAN_DIRTY g = 0) ∧ u.rd .FL_RESETS f = (s.rd .FL_RESETS f + 1) % 2 ^ 16 ∧
        u.rd .FL_CAUSE_DONE f = 1 ∧ u.on .EV_SRC_PENDING (0x2200 + f) = true ∧
        u.flaskState f = (if w.destroy then flFREE else flOPEN) ∧ (w.destroy = true → u.rd .FL_GROUPS f = 0 ∧ u.rd .FL_SIZE f = 0) ∧
        (∀ d ∈ u.tears, d.flask ≠ f) ∧ ∀ d ∈ u.scrubs, d.flask ≠ f)))

/-- FLASK_RESET, FLASK_DESTROY and the point at which the flask is quiet: FLASK_RESET and FLASK_DESTROY of a flask with a
current reference, neither FREE nor CREATING, that is not being torn down make it RESETTING or DESTROYING, advance
GEN, empty every key slot of the flask, stop its contexts, and have the slot wait for the end; with an old generation,
or of a FREE or CREATING flask, they reply STATE. A second one joins the first. Once the kernels of the flask have
stopped and its writes are answered, FLASK_RESET_QUIESCED frees its contexts, makes its timelines 0 and starts the
scrub of its whole range; before that it only lets units move on. -/
def Obligations.FlasksAreTornDown : Prop :=
  (∀ (s : State) (n : Nat) (i : Instr) (d : Bool), (i = .flaskReset n ∧ d = false ∧ s.starts n 0x12) ∨ (i = .flaskDestroy n ∧ d = true ∧ s.starts n 0x13) →
    let b := s.begun n
    let f := (s.fref n).1
    let st := b.flaskState f
    (b.frefOk n = false → answers i s (fun u => sameMem s u ∧ u.replied n stSTATE ∧ u.tears = s.tears ∧ s.counts u .STALE_DROP_FLASK ∧
      onlyRegs b u (replyFields n ++ staleFields .flask))) ∧
    (b.frefOk n = true → (st = flFREE ∨ st = flCREATING) → answers i s (fun u => sameMem s u ∧ u.replied n stSTATE ∧
      u.tears = s.tears ∧ onlyRegs b u (replyFields n))) ∧
    (b.frefOk n = true → st ≠ flFREE → st ≠ flCREATING → st ≠ flDESTROYING → s.tears.any (fun w => w.flask == f) = false →
      answers i s (fun u => u.flaskState f = (if d then flDESTROYING else flRESETTING) ∧ u.flaskGen f = (s.flaskGen f + 1) % 2 ^ 10 ∧
        (∀ k, s.rd .KEY_SLOT_VALID k ≠ 0 → s.rd .KEY_SLOT_FLASK k = f → u.noKey k) ∧
        (∀ x ∈ u.ctxs, x.flask = f → x.mgmt = false → x.stopped = true) ∧
        { flask := f, destroy := d, slots := [n] } ∈ u.tears)) ∧
    (∀ w, b.frefOk n = true → st ≠ flFREE → st ≠ flCREATING → (st = flDESTROYING → d = true) → w ∈ s.tears → w.flask = f →
      answers i s (fun u => u.slotState n = mbRUNNING ∧
        { flask := f, destroy := w.destroy || d, slots := w.slots ++ [n], scrub := w.scrub } ∈ u.tears))) ∧
  (∀ (s : State) (f : Nat) (w : Tear), s.tears.find? (fun w => w.flask == f && !w.scrub) = some w →
    (s.quiet f = false → exec (.flaskResetQuiesced f) s = .next (s.close s.settle)) ∧
    (s.quiet f = true → acts (.flaskResetQuiesced f) s (fun u => (∀ x ∈ u.ctxs, x.flask = f → x.mgmt = true) ∧
      (∃ c ∈ u.scrubs, c.flask = f ∧ c.slot = none ∧
        c.granules = (List.range (s.rd .FL_SIZE f)).map (fun i => s.rd .FL_BASE f + i)) ∧
      (∃ v ∈ u.tears, v.flask = f ∧ v.scrub = true) ∧
      ∀ i, s.rd .FL_TFIRST f ≤ i → i ≤ s.rd .FL_TFIRST f + s.rd .FL_TCOUNT_M1 f → u.timeline i = 0)))

/-- FLASK_SEAL, its answer, and CONFIRM: A FLASK_SEAL of an OPEN flask with no work in flight and well-formed public runs
asks Kyrdo for a key pair; a flask in another state, or with work in flight, gives STATE, and bad runs give BAD_ARG.
Kyrdo's answer makes the flask SEALING with DEBUG and PROFILE 0, each granule public in the runs and sealed elsewhere,
and the vault's public key and mould chain; the reply waits for host copies to be given up. SEAL_RECALL_COMPLETE frees
a wait whose lines no host core holds. CONFIRM for a SEALING flask asks Kyrdo for its key, and for a flask in another
state replies STATE. With the key, a CONFIRM whose tag, sequence number, form and digest of the public set are right
puts the key in the lowest free slot with use 3, makes the flask SEALED with its cause set and replies OK; a wrong tag
sets CMD_AUTH, and a refusal or a wrong tag replies DENIED. The order of the envelope's checks and the DENIED without
a reply envelope are the model's reading (DEDUCED, log entries 95 and 98), as is the claim of a CONFIRM that waits at
Kyrdo (DEDUCED, log entry 105). -/
def Obligations.FlasksAreSealed : Prop :=
  (∀ (s : State) (n : Nat), s.starts n 0x11 →
    let b := s.begun n
    let f := (s.fref n).1
    let runs := s.sealRuns n
    let bad := runs.any (fun r => !b.mayPublish f r.1 r.2) || runsMeet runs
    b.frefOk n = true →
    (b.flaskState f = flOPEN → b.flaskBusy f = false → bad = false → answers (.flaskSeal n) s (fun u => sameMem s u ∧
      b.asked u n f .create ∧ onlyRegs b u [])) ∧
    ((b.flaskState f ≠ flOPEN ∨ b.flaskBusy f = true) → answers (.flaskSeal n) s (fun u => sameMem s u ∧ u.replied n stSTATE ∧
      onlyRegs b u (replyFields n))) ∧
    (b.flaskState f = flOPEN → b.flaskBusy f = false → bad = true → answers (.flaskSeal n) s (fun u => sameMem s u ∧
      u.replied n stBADARG ∧ onlyRegs b u (replyFields n)))) ∧
  (∀ (s : State) (n : Nat) (pub : List Byte) (r : KyReq), s.kyreq? n = some r → r.ask = .create →
    acts (.kyrdoSealAnswer n pub) s (fun u => sameMem s u ∧ u.flaskState r.flask = flSEALING ∧ u.rd .FL_DEBUG r.flask = 0 ∧
      u.rd .FL_PROFILE r.flask = 0 ∧ (u.vault r.flask).pub = pub ∧
      (u.vault r.flask).chain = (s.mouldsOf r.flask).foldl (fun c m => chainNext c m.digest m.idx m.gen) (zeros 48) ∧
      (∀ i, i < s.rd .FL_SIZE r.flask → u.rd .SEAL_GRAN_SEAL (s.rd .FL_BASE r.flask + i) = sealedAs (s.sealRuns n) i) ∧
      ∃ w ∈ u.seals, w.slot = n ∧ w.flask = r.flask ∧ w.op = none ∧
        ∀ l, s.hostHeld l = true → u.inFlask r.flask (l * 64) 64 = true → u.granSealed (l * 64 / granule) = true → l ∈ w.lines)) ∧
  (∀ (s : State) (f : Nat), acts (.sealRecallComplete f) s (fun u => sameMem s u ∧ onlyRegs s u [] ∧
    ∀ w ∈ s.seals, if w.flask = f ∧ s.sealedWaits f = [] ∧ (∀ l ∈ w.lines, s.hostHeld l = false) then { w with lines := [] } ∈ u.seals else w ∈ u.seals)) ∧
  (∀ (s : State) (n : Nat), s.starts n 0x14 → s.envelopeOf n opCONFIRM →
    let b := s.begun n
    let f := (s.fref n).1
    b.frefOk n = true →
    (b.envFits n (s.envelope n) = true → b.claimed f KyAsk.isConfirm = false → answers (.confirm n) s (fun u => sameMem s u ∧
      b.asked u n f (.confirm (s.flaskGen f) (s.envelope n)) ∧ onlyRegs b u [])) ∧
    (b.envFits n (s.envelope n) = false → answers (.confirm n) s (fun u => sameMem s u ∧ u.replied n stSTATE ∧
      s.counts u .FL_STATS_CMD_REFUSED ∧ onlyRegs b u (replyFields n ++ [(.FL_STATS_CMD_REFUSED, 0)])))) ∧
  (∀ (s : State) (n g : Nat) (r : KyReq) (e : List Byte), n < 16 → s.kyreq? n = some r → r.ask = .confirm g e →
    let f := (s.fref n).1
    (s.envFits n e = true → acts (.kyrdoAnswer n .refused) s (fun u => sameMem s u ∧ u.replied n stDENIED ∧
      s.counts u .FL_STATS_CMD_REFUSED ∧ onlyRegs s u (replyFields n ++ [(.FL_STATS_CMD_REFUSED, 0)]))) ∧
    ∀ (key : List Byte) (k : Nat), lowest 256 (fun k => !s.on .KEY_SLOT_VALID k) = some k → s.envFits n e = true →
      (envOpen key e = none → acts (.kyrdoAnswer n (.key key)) s (fun u => sameMem s u ∧ u.replied n stDENIED ∧
        u.rd .FL_ERR_CMD_AUTH = 1 ∧ onlyRegs s u (replyFields n ++ [(.FL_STATS_CMD_REFUSED, 0), (.FL_ERR_CMD_AUTH, 0)]))) ∧
      (envOpen key e = some (sha384 (s.publicClaim f)) → envSeq e = 0 →
        (s.publicBuf f (s.par n 1) (envLen e) && decide (envLen e ≤ 4096) && s.replyPlace n f 0 && envClean e && envClen e == 128 &&
          envElen e == 48 && zeroFrom e 161 192) = true →
        acts (.kyrdoAnswer n (.key key)) s (fun u => u.replied n stOK ∧ u.flaskState f = flSEALED ∧ u.holdsKey k 3 f ∧
          u.rd .FL_CMD_SLOT f = k ∧ u.rd .FL_CAUSE_SEALED_OK f = 1 ∧ s.counts u .FL_STATS_CMD_OK)))

/-- The sealed commands of a SEALED flask: A sealed command whose flask or state does not fit replies STATE, one whose tag
does not verify sets CMD_AUTH and replies DENIED, and one with a wrong sequence number sets CMD_SEQ and replies STATE;
each is counted in CMD_REFUSED and changes no memory. One that passes every check has its effect, advances CSEQ, is
counted in CMD_OK and, but for PUBLIC_SET, replies OK: PUBLIC_SET of granules makes them public or sealed, PUBLIC_SET
of a VA window makes it valid with its PASID, base and size or removes it, and either waits for its invalidations and
recalls; KEY_IMPORT of a DATA key puts it into the lowest free slot with its use and flask, or with 14 such slots is
refused NO_RESOURCE; KEY_IMPORT of an EGRESS key empties the flask's EGRESS slot first and makes the new one the
flask's; KEY_DESTROY empties the slot; CONSENT sets DEBUG and PROFILE; MOULD_ALLOW appends digests to the allow list
and may lock the flask. -/
def Obligations.SealedCommands : Prop :=
  ∀ (s : State) (n : Nat), s.starts n 0x14 →
    let b := s.begun n
    let f := (s.fref n).1
    let e := s.envelope n
    b.frefOk n = true →
    (∀ (i : Instr) (op : Nat), (i, op) ∈ [(Instr.publicSet n, opPUBLIC_SET), (.keyImport n, opKEY_IMPORT), (.keyDestroy n, opKEY_DESTROY),
        (.consent n, opCONSENT), (.mouldAllow n, opMOULD_ALLOW)] → s.envelopeOf n op →
      let refused (status : Nat) (l : List (Field × Nat)) : Prop := answers i s (fun u => sameMem s u ∧ u.replied n status ∧
        s.counts u .FL_STATS_CMD_REFUSED ∧ (∀ p ∈ l, u.rd p.1 p.2 = 1) ∧ (u.vault f).cseq = (s.vault f).cseq ∧
        onlyRegs b u (replyFields n ++ (.FL_STATS_CMD_REFUSED, 0) :: l))
      (b.envFits n e = false → refused stSTATE []) ∧
      (∀ m, b.envFits n e = true → b.cmdKey f = some m → envOpen m.key e = none → refused stDENIED [(.FL_ERR_CMD_AUTH, 0)]) ∧
      (∀ m pt, b.envFits n e = true → b.cmdKey f = some m → envOpen m.key e = some pt → envSeq e ≠ (s.vault f).cseq + 1 →
        refused stSTATE [(.FL_ERR_CMD_SEQ, 0)])) ∧
    (∀ (op : Nat) (m : KeyMat) (pt : List Byte), s.envelopeOf n op → b.opens n op m pt →
      let good (payload : Nat) : Prop := b.wellPut n op payload pt = true
      let done (i : Instr) (P : State → Prop) : Prop := answers i s (fun u => u.replied n stOK ∧ s.counts u .FL_STATS_CMD_OK ∧
        (u.vault f).cseq = (s.vault f).cseq + 1 ∧ P u)
      (op = opPUBLIC_SET → good 0 → leAt pt 0 1 = 0 → answers (.publicSet n) s (fun u => sameMem s u ∧ u.slotState n = mbRUNNING ∧
        (u.vault f).cseq = (s.vault f).cseq + 1 ∧ s.counts u .FL_STATS_CMD_OK ∧
        (∀ i, i < leAt pt 12 4 → u.rd .SEAL_GRAN_SEAL (s.rd .FL_BASE f + leAt pt 8 4 + i) = leAt pt 1 1 + 1) ∧
        ∃ w ∈ u.seals, w.slot = n ∧ w.flask = f ∧ w.op = some (op, []))) ∧
      (op = opPUBLIC_SET → good 0 → leAt pt 0 1 = 1 → answers (.publicSet n) s (fun u => sameMem s u ∧ u.slotState n = mbRUNNING ∧
        (u.vault f).cseq = (s.vault f).cseq + 1 ∧ s.counts u .FL_STATS_CMD_OK ∧
        (let j := f * 16 + leAt pt 8 1
        (leAt pt 1 1 = 0 → u.rd .FL_PUBVA_VALID j = 0) ∧
        (leAt pt 1 1 = 1 → u.rd .FL_PUBVA_VALID j = 1 ∧ u.rd .FL_PUBVA_PASID j = leAt pt 16 4 ∧
          u.rd .FL_PUBVA_BASE j = leAt pt 24 8 / sheet32M % 2 ^ Field.FL_PUBVA_BASE.row.width ∧
          u.rd .FL_PUBVA_SIZE j = leAt pt 32 8 / sheet32M % 2 ^ Field.FL_PUBVA_SIZE.row.width ∧
          ∀ a, s.boundSlot (leAt pt 16 4) f = some a → ∃ v ∈ u.xl.invs, v.source = .seal n ∧ v.slots = [a] ∧
            v.range = some (leAt pt 24 8, leAt pt 32 8))) ∧
        ∃ w ∈ u.seals, w.slot = n ∧ w.flask = f ∧ w.op = some (op, []))) ∧
      (op = opKEY_IMPORT → good 1 → leAt pt 0 1 = 1 →
        14 ≤ ((s.slotsOf f).filter (fun k => s.rd .KEY_SLOT_USE k == 1)).length →
        answers (.keyImport n) s (fun u => u.replied n stNORES ∧ s.counts u .FL_STATS_CMD_REFUSED ∧
          (u.vault f).cseq = (s.vault f).cseq)) ∧
      (∀ k, op = opKEY_IMPORT → good 1 → leAt pt 0 1 = 2 →
        let old := (s.slotsOf f).filter (fun k => s.rd .KEY_SLOT_USE k == 2)
        lowest 256 (fun k => !s.on .KEY_SLOT_VALID k || old.contains k) = some k →
        done (.keyImport n) (fun u => u.holdsKey k 2 f ∧ (∃ m ∈ u.keys, m.slot = k ∧ m.key = slice pt 32 32) ∧
          u.rd .FL_EGRESS_SLOT f = k ∧ u.rd .FL_EGRESS_VALID f = 1 ∧ ∀ j ∈ old, j ≠ k → u.noKey j)) ∧
      (∀ k, op = opKEY_IMPORT → good 1 → lowest 256 (fun k => !s.on .KEY_SLOT_VALID k) = some k → leAt pt 0 1 = 1 →
        ((s.slotsOf f).filter (fun k => s.rd .KEY_SLOT_USE k == 1)).length < 14 →
        done (.keyImport n) (fun u => u.holdsKey k 1 f ∧ ∃ m ∈ u.keys, m.slot = k ∧ m.key = slice pt 32 32)) ∧
      (op = opKEY_DESTROY → good 0 → done (.keyDestroy n) (fun u => u.rd .KEY_SLOT_VALID (leAt pt 0 1) = 0)) ∧
      (op = opCONSENT → good 0 → done (.consent n) (fun u => u.rd .FL_DEBUG f = bits (leAt pt 0 1) 0 1 ∧
        u.rd .FL_PROFILE f = bits (leAt pt 0 1) 1 1)) ∧
      (op = opMOULD_ALLOW → good 0 →
        let allow := (s.vault f).allow ++ (List.range (leAt pt 0 1)).map (fun i => slice pt (64 + 48 * i) 48)
        allow.length ≤ 256 → (leAt pt 1 1 = 1 → ∀ m ∈ s.mouldsOf f, m.digest ∈ allow) →
        done (.mouldAllow n) (fun u => (u.vault f).allow = allow ∧ u.rd .FL_LOCKED f = (if leAt pt 1 1 = 1 then 1 else s.rd .FL_LOCKED f))))

/-- Legends, certificates, and Kyrdo's silence: LEGEND_REQ with a current reference, a flask in a state that has a legend,
a buffer in its place and fewer than four legends open asks Kyrdo to sign the claims of that moment, or, while
firmware is staged, replies UPDATING with the measurement written to the buffer. The signed legend takes the next
legend counter, is written to the buffer and the reply is OK with its length. CERT_GET with a buffer in its place asks
Kyrdo; the certificates are written there as a CBOR array of byte strings, within the buffer, and the reply is OK with
the length. When Kyrdo is silent for 100 ms, a seal, a legend, a certificate and an image reply TIMEOUT; for a seal
and a legend KYRDO_TIMEOUT is set; a receipt block is sent again, due from then, and KYRDO_TIMEOUT of the energy unit
is set. A flask that is being reset has no legend (the model's reading, DEDUCED, log entry 99); what a waiting
FLASK_SEAL claims does not show in one (DEDUCED, log entry 105); signatures and chains are operands (DEDUCED, log
entries 103 and 104), and the time moves to the limit (DESIGN CHOICE, log entry 1). -/
def Obligations.LegendsAndCertificates : Prop :=
  (∀ (s : State) (n : Nat), s.starts n 0x15 →
    let b := s.begun n
    let f := (s.fref n).1
    let st := b.flaskState f
    let buf := s.par n 7
    b.frefOk n = true → st ∉ [flFREE, flCREATING, flRESETTING, flDESTROYING] → s.rd .QN_PHASE f < 3 →
    (b.flaskBuf f buf (128 * 1024) = false → answers (.legendReq n) s (fun u => sameMem s u ∧ u.replied n stDENIED)) ∧
    (b.flaskBuf f buf (128 * 1024) = true → buf % 64 = 0 → s.legendsOpen < 4 →
      (s.staged.any Staged.ok = false → answers (.legendReq n) s (fun u => sameMem s u ∧
        b.asked u n f (.legend buf (b.unclaim.legendClaims f (s.nonce n))))) ∧
      (s.staged.any Staged.ok = true →
        let m := cbClaims [(70004, s.firmwareClaim), (70020, cbBool true)]
        answers (.legendReq n) s (fun u => u.replied n stUPDATING ∧ s.landed u buf m)))) ∧
  (∀ (s : State) (n : Nat) (sig : List Byte) (r : KyReq) (buf : Nat) (cs : List (Nat × List Byte)), n < 16 →
    s.kyreq? n = some r → r.ask = .legend buf cs →
    let all := cs.filter (fun p => decide (p.1 < 70005)) ++ [(70005, cbUint (s.kyrdo.legends + 1))] ++
      cs.filter (fun p => decide (70005 < p.1))
    let bytes := coseSign1 s.kyrdo.kid (cbClaims all) sig
    acts (.legendSigned n sig) s (fun u => u.replied n stOK ∧ u.kyrdo.legends = s.kyrdo.legends + 1 ∧ s.landed u buf bytes ∧
      u.rd .MB_OUT (n * 128) = bytes.length % 2 ^ 64)) ∧
  (∀ (s : State) (n : Nat), s.starts n 0x16 →
    let buf := s.par n 1
    let b := s.begun n
    (buf % 64 = 0 → b.outsideAll buf migBuf = true → answers (.certGet n) s (fun u => sameMem s u ∧
      u.slotState n = mbRUNNING ∧ .kyrdo n (.cert (bit (s.par n 0) 48) buf) ∈ u.sent)) ∧
    (buf % 64 ≠ 0 → answers (.certGet n) s (fun u => sameMem s u ∧ u.replied n stBADARG)) ∧
    (buf % 64 = 0 → b.outsideAll buf migBuf = false → answers (.certGet n) s (fun u => sameMem s u ∧ u.replied n stDENIED))) ∧
  (∀ (s : State) (n buf : Nat) (r : KyReq) (w : Bool) (c : List (List Byte)), n < 16 → s.kyreq? n = some r → r.ask = .cert w buf →
    let bytes := (cbArray (c.map cbBytes)).take 16384
    acts (.kyrdoAnswer n (.chain c)) s (fun u => u.replied n stOK ∧ s.landed u buf bytes ∧ u.rd .MB_OUT (n * 128) = bytes.length)) ∧
  (∀ (s : State) (b t0 : Nat) (x : Block), s.meter.blocks.find? (fun x => x.id == b && x.signed.isNone) = some x → x.sent = some t0 →
    acts (.kyrdoTimeout true b) s (fun u => sameMem s u ∧ u.time = max s.time (t0 + 100000000) ∧ u.rd .EN_ERR_KYRDO_TIMEOUT = 1 ∧
      onlyRegs s u [(.EN_ERR_KYRDO_TIMEOUT, 0)] ∧ (∃ payload, .kyrdoBlock b payload ∈ u.sent) ∧
      { x with sent := some u.time, due := true } ∈ u.meter.blocks)) ∧
  (∀ (s : State) (n : Nat) (r : KyReq), n < 16 → s.kyreq? n = some r →
    (match r.ask with | .create | .legend _ _ | .cert _ _ | .image _ _ => True | _ => False) →
    acts (.kyrdoTimeout false n) s (fun u => sameMem s u ∧ u.replied n stTIMEOUT ∧ u.time = max s.time (r.at_ + 100000000) ∧
      u.kyreq? n = none ∧
      ((match r.ask with | .create | .legend _ _ => True | _ => False) → u.rd .FL_ERR_KYRDO_TIMEOUT = 1)))

/-- Activity, calibration, accumulators and receipts: An activity report that comes in time counts what its first eight
entries name, for what the engine was charged to with each context then, in the interval's window or, once that is
calibrated, the next; one that comes more than 5 µs after its interval counts as a missing one, and nothing if it has
been taken as missing; a missing one lets time pass to 5 µs after its interval, sets ENG_MISSING and flags the
accumulators that the engine ran for. A rail report is kept for the window to be calibrated. The end of a window takes
its rail report, advances the window, drops its counts, and fixes k, which K of CZ_EN_STATUS shows, flagging a missing
report; the coefficients of a committed image take effect then, and receipts computed from then on carry its digest.
An idle accumulator closes once LINGER has passed; one with a pour in flight does not. A block's BATCH makes it due;
Kyrdo's signature signs it with the next block counter. RECEIPT_FLUSH closes the idle accumulators of the flask and
waits. A snapshot tick lets time pass to the next multiple of 100 ms and latches the coarsened counts. None of these
changes memory. The model's own in these clauses: that a command brings the time to its moment (DESIGN CHOICE, log
entry 1); the unit of the report, and the exact sums rounded once (DEDUCED, log entries 85 and 86); what the ended or
unknown context of a report is charged to, and the window of a late one (DEDUCED, log entry 101); that at most 16
blocks are at Kyrdo or wait for the ring (DEDUCED, log entry 88). -/
def Obligations.EnergyAndReceipts : Prop :=
  (∀ (s : State) (e i : Nat) (es : List (Nat × List Nat)),
    ((e, i) ∈ s.meter.missed → exec (.activityReport e i es) s = .next (s.close s.settle)) ∧
    ((e, i) ∉ s.meter.missed → (i + 1) * 10000 + 5000 < s.time → exec (.activityReport e i es) s = exec (.activityReportMissing e i) s) ∧
    ((e, i) ∉ s.meter.missed → s.time ≤ (i + 1) * 10000 + 5000 → acts (.activityReport e i es) s (fun u => sameMem s u ∧ onlyRegs s u [] ∧
    u.meter.counts = s.meter.counts ++ (es.take 8).flatMap (fun p =>
      ((List.range 8).filter (fun c => nth p.2 c 0 != 0)).map (fun c =>
        { charge := s.chargeAt e p.1 i, window := max (i / 100) s.meter.window, cls := c, n := nth p.2 c 0 }))))) ∧
  (∀ (s : State) (e i : Nat), acts (.activityReportMissing e i) s (fun u => sameMem s u ∧ u.rd .EN_ERR_ENG_MISSING = 1 ∧
    u.time = max s.time ((i + 1) * 10000 + 5000) ∧ (e, i) ∈ u.meter.missed ∧ onlyRegs s u [(.EN_ERR_ENG_MISSING, 0)] ∧
    ∀ a ∈ s.meter.accs, if s.meter.ran.any (fun r => r.eng == e && r.charge == .acc a.id && r.meets i) then { a with flags := a.flags ||| rfESTIMATED } ∈ u.meter.accs else a ∈ u.meter.accs)) ∧
  (∀ (s : State) (nj : Nat), acts (.railReport nj) s (fun u => sameMem s u ∧ onlyRegs s u [] ∧ u.meter.rail = some nj ∧
    u.time = max s.time ((s.meter.window + 1) * 1000000))) ∧
  (∀ s : State, s.ready = true → acts .calibrationWindowEnd s (fun u => sameMem s u ∧ u.meter.window = s.meter.window + 1 ∧
    u.meter.rail = none ∧ (∀ c ∈ u.meter.counts, s.meter.window < c.window) ∧
    u.time = max s.time ((s.meter.window + 1) * 1000000 + (if s.meter.rail.isNone then 10000 else 0)) ∧
    u.meter.total = s.meter.total + s.meter.rail.getD 0 * 256 ∧ (s.meter.rail = none → u.rd .EN_ERR_RAIL_MISSING = 1) ∧
    u.rd .EN_STATUS_K = u.meter.k % 2 ^ 32 ∧ (s.meter.coefs = none → u.meter.digest = s.meter.digest) ∧
    (∀ cf e, s.meter.coefs = some (cf, e) → u.meter.coefs = none ∧ u.meter.digest = s.kyrdo.mgmt ∧ u.rd .EN_STATIC_EST = e % 2 ^ 32 ∧
      ∀ c, c < 13 → u.rd .EN_COEF_COEF c = nth cf c 0 % 2 ^ (Field.row .EN_COEF_COEF).width) ∧
    (s.scrubs = [] → u.meter.k = (fp32.clip (s.calibrate (fpRatio (((s.meter.counts.filter (fun c => c.window == s.meter.window)).map s.rawOf).sum) rawDen)
      (fpRatio (s.rd .EN_STATIC_EST) (10 ^ 6))).1).getD 0x3F800000))) ∧
  (∀ (s : State) (a : Nat) (x : Accum), s.meter.accs.find? (fun x => x.id == a && x.closed.isNone) = some x →
    (s.accBusy a = true → exec (.lingerExpiry a) s = .next (s.close s.settle)) ∧
    (s.accBusy a = false → acts (.lingerExpiry a) s (fun u => sameMem s u ∧ onlyRegs s u [] ∧
      u.time = max s.time (x.last + max (s.rd .EN_CTL_LINGER) 1 * 1000) ∧ { x with closed := some u.time } ∈ u.meter.accs))) ∧
  (∀ (s : State) (b : Nat) (x : Block), s.meter.blocks.find? (fun x => x.id == b && !x.due) = some x →
    acts (.receiptBatchExpiry b) s (fun u => sameMem s u ∧ onlyRegs s u [] ∧
      u.time = max s.time (x.since + max (s.rd .EN_CTL_BATCH) 1 * 1000) ∧ { x with due := true } ∈ u.meter.blocks)) ∧
  (∀ (s : State) (b : Nat) (sig : List Byte) (x : Block),
    s.meter.blocks.find? (fun x => x.id == b && x.sent.isSome && x.signed.isNone) = some x →
    acts (.receiptSigned b sig) s (fun u => sameMem s u ∧ onlyRegs s u [] ∧ u.kyrdo.blocks = s.kyrdo.blocks + 1 ∧
      { x with signed := some (coseSign1 s.kyrdo.rkid (s.blockClaims x (s.kyrdo.blocks + 1)) sig) } ∈ u.meter.blocks)) ∧
  (∀ (s : State) (n : Nat), s.starts n 0x17 → (s.begun n).frefOk n = true → answers (.receiptFlush n) s (fun u => sameMem s u ∧
    onlyRegs (s.begun n) u [] ∧ u.slotState n = mbRUNNING ∧ (∃ w ∈ u.meter.flushes, w.slot = n ∧ w.flask = (s.fref n).1) ∧
    ∀ a ∈ u.meter.accs, a.flask = (s.fref n).1 → a.gen = (s.fref n).2 → s.accBusy a.id = false → a.closed.isSome = true)) ∧
  (∀ s : State, does .snapshotTick s (fun t => sameMem s t ∧ t.time = max s.time ((s.time / 100000000 + 1) * 100000000) ∧
    ∀ f ∈ coarseCounts, aget t.snap (f.key 0) 0 = (s.elapse ((s.time / 100000000 + 1) * 100000000)).live f 0))

/-- FLASK_QUENCH, its drain limit, the quench point, and FLASK_THAW: A FLASK_QUENCH of an OPEN or SEALED flask that is not
draining and passes its checks makes PHASE DRAINING, discards the checked entries of the flask's queues, abandons the
parked records of its pours, and waits until its drain is over or the limit has passed; one that fails a check replies
STATE, BAD_ARG or DENIED. At the limit with items left, the quench is undone: PHASE is what it was before, LAST says
so, REMAINING has the number of items and the reply is PARTIAL with it. At the quench point, to which the units come
once the drain is over, the image of the flask stands in HBM where the command names it, no context of the flask is
left, every queue of it is QUENCHED, the flask is QUENCHED with PHASE 2, LAST and the image's length say so, and the
reply is OK with that length; an image longer than its area undoes the quench and the reply is PARTIAL with the
length. A FLASK_THAW whose image passes every check takes effect and replies OK: the flask is in the state it had
before its quench, or for INTO is OPEN or SEALED, PHASE is 0, and every queue of the image is ACTIVE for the flask
with its HEAD and NEXT; one whose target is in the wrong state or whose PASIDs are not bound replies STATE, one whose
image fails a check BAD_ARG, and one for which something is not free NO_RESOURCE. The model's own: what is counted as
an item while its record executes (DEDUCED, log entry 112), where an image address outside the range or a wrong LENGTH
is DENIED or BAD_ARG (DEDUCED, log entry 113), the fields that the image has no place for (DESIGN CHOICE, log entries
107 and 108), the form of the saved fields and that an ERROR queue thaws ACTIVE (DEDUCED, log entries 110 and 111),
TAIL (DEDUCED, log entry 114), and that the limit's command brings the time to it (DESIGN CHOICE, log entry 1). -/
def Obligations.QuenchAndThaw : Prop :=
  (∀ (s : State) (q : Quench), q.slot < 16 →
    let f := q.flask
    let img := s.image f
    let u := s.quenchPoint q
    (q.size < img.length → u.replied q.slot stPARTIAL ∧ u.rd .QN_PHASE f = q.phase % 2 ^ 3 ∧ u.rd .QN_LAST f = 3 ∧
      u.rd .QN_IMG_LEN f = img.length % 2 ^ Field.QN_IMG_LEN.row.width ∧ u.rd .MB_OUT (q.slot * 128) = img.length % 2 ^ 64 ∧
      ∀ p ∈ u.quenches, p.flask ≠ f) ∧
    (img.length ≤ q.size → q.base + img.length ≤ hbmSize →
      (∀ h ∈ s.hlp.filter, h.line < lineOf q.base ∨ q.base + img.length ≤ h.line * 64) →
      u.sysRead q.base img.length = img ∧
      (∀ a, a < q.base ∨ q.base + img.length ≤ a → lineOf a ≠ lineOf q.base → lineOf a ≠ lineOf (q.base + img.length - 1) →
        u.dieByte a = s.dieByte a) ∧
      (∀ x ∈ u.ctxs, x.flask = f → x.mgmt = true) ∧ (∀ k ∈ s.queuesOf f, u.qState k = qQUENCHED) ∧
      u.flaskState f = flQUENCHED ∧ u.rd .QN_PHASE f = 2 ∧ u.rd .QN_LAST f = 1 ∧
      u.rd .QN_IMG_LEN f = img.length % 2 ^ Field.QN_IMG_LEN.row.width ∧ u.replied q.slot stOK ∧
      u.rd .MB_OUT (q.slot * 128) = img.length % 2 ^ 64 ∧ (∀ p ∈ u.quenches, p.flask ≠ f) ∧
      ∀ a ∈ u.meter.accs, a.flask = f → a.closed ≠ none)) ∧
  (∀ (s : State) (n : Nat), s.starts n 0x60 →
    let b := s.begun n
    let f := (s.fref n).1
    let st := b.flaskState f
    let size := bits (s.par n 3) 0 32 * 65536
    let may := (st = flOPEN ∨ st = flSEALED) ∧ s.rd .QN_PHASE f ≠ 1
    let put := s.par n 2 % 65536 = 0 ∧ size ≠ 0
    b.frefOk n = true →
    (¬ may → answers (.flaskQuench n) s (fun u => sameMem s u ∧ u.replied n stSTATE ∧ u.quenches = s.quenches)) ∧
    (may → ¬ put → answers (.flaskQuench n) s (fun u => sameMem s u ∧ u.replied n stBADARG ∧ u.quenches = s.quenches)) ∧
    (may → put → b.imageDenied f (s.par n 2) size = true → answers (.flaskQuench n) s (fun u => sameMem s u ∧
      u.replied n stDENIED ∧ u.quenches = s.quenches)) ∧
    (may → put → b.imageDenied f (s.par n 2) size = false → answers (.flaskQuench n) s (fun u => sameMem s u ∧
      u.rd .QN_PHASE f = 1 ∧ u.slotState n = mbRUNNING ∧ (∀ q ∈ s.queuesOf f, u.entriesOf q = [] ∧ u.fetchesOf q = []) ∧
      (∀ x ∈ s.ctxs, if x.flask = f ∧ x.mgmt = false ∧ s.ctx? x.num = some x then x.abandon ∈ u.ctxs else True) ∧
      { flask := f, slot := n, q0 := s.time, limit := s.time + b.drainTime f (bits (s.par n 1) 0 32), base := s.par n 2, size := size,
        phase := s.rd .QN_PHASE f } ∈ u.quenches))) ∧
  (∀ (s : State) (f : Nat) (q : Quench), s.quenches.find? (fun q => q.flask == f) = some q →
    (s.quenchReady f = true → exec (.quenchDrainLimit f) s = .next (s.close s.settle)) ∧
    (q.slot < 16 → s.quenchReady f = false → acts (.quenchDrainLimit f) s (fun u => u.replied q.slot stPARTIAL ∧
      u.time = max s.time q.limit ∧ u.rd .QN_PHASE f = q.phase % 2 ^ 3 ∧ u.rd .QN_LAST f = 2 ∧ u.rd .QN_REMAINING f = s.drainItems f % 2 ^ 24 ∧
      u.rd .MB_OUT (q.slot * 128 + 1) = 1 + bits (s.drainItems f) 0 24 * 256 ∧ ∀ p ∈ u.quenches, p.flask ≠ f))) ∧
  (∀ (s : State) (n : Nat), s.starts n 0x61 → s.dirtyLines (s.thawRange n).1 (s.thawRange n).2 = [] →
    let b := s.begun n
    let f := (s.fref n).1
    let into := bit (s.par n 0) 48
    let a := (s.thawRange n).1
    let len := (s.thawRange n).2
    let c := b.countFor (.overhead f) 9 len
    b.frefOk n = true →
    (b.thawState f into = true → answers (.flaskThaw n) s (fun u => sameMem s u ∧ u.replied n stSTATE)) ∧
    (b.thawState f into = false → b.inFlask f a 4096 = false → answers (.flaskThaw n) s (fun u => sameMem s u ∧ u.replied n stDENIED)) ∧
    (∀ (w : Thaw), b.thawState f into = false → b.inFlask f a 4096 = true →
      (into && bit (leAt (s.dieRead a 64) 0x20 4) 16 && !((s.vault f).sess.any Session.bundled && s.rd .QN_PHASE f == 5)) = false →
      4096 ≤ len → b.inFlask f a len = true → w.f = f → w.into = into → w.b = s.dieRead a len →
      w.pairs = (List.range (bits (s.par n 0) 49 5)).map (fun i => (bits (s.par n (i + 2)) 0 20, bits (s.par n (i + 2)) 32 20)) →
      w.own = s.frozen.find? (fun z => z.digest == slice w.b 0xD0 48) → 
      let good := w.genuine = true ∧ w.framed = true ∧ c.thawOk w = true ∧ (into = true → c.shapeOk w = true)
      (¬ good → answers (.flaskThaw n) s (fun u => sameMem s u ∧ u.replied n stBADARG)) ∧
      (good → c.thawBound w = false → answers (.flaskThaw n) s (fun u => sameMem s u ∧ u.replied n stSTATE)) ∧
      (good → c.thawBound w = true → c.thawApply w = none → answers (.flaskThaw n) s (fun u => sameMem s u ∧ u.replied n stNORES)) ∧
      ∀ t, good → c.thawBound w = true → c.thawApply w = some t → answers (.flaskThaw n) s (fun u => u.replied n stOK ∧ u.rd .QN_PHASE f = 0 ∧
        u.flaskState f = (if into then (if w.sealedImg || (s.vault f).sess.any Session.bundled then flSEALED else flOPEN) else (s.vault f).before % 8) ∧
        ∀ e ∈ w.queues, let q := s.rd .FL_QFIRST f + fld e 10 0 64
          u.qState q = qACTIVE ∧ u.rd .QCTX_FLASK q = f ∧ u.rd .QCTX_HEAD q = fld e 6 0 24 ∧ u.rd .QCTX_NEXT q = fld e 7 0 44)))

/-- The migration of a sealed flask: Each message of a migration with a current reference and a flask in its state asks
Kyrdo: MIG_OFFER of a quenched sealed flask, MIG_ACCEPT of an empty OPEN flask with an offer of its shape and
firmware, MIG_BIND of a source with an offer out and an accept of that offer, the bundle parts of MIG_EXPORT and
MIG_IMPORT. An offer or accept of another form, firmware or offer gives DENIED, an offer of another shape STATE (the
model's choice, log entry 100). The offer, signed by Kyrdo, is written to the buffer and opens a session; the accept,
signed, is written, puts K_mig into a slot, makes the target IMPORTING and every granule SEALED; its bound key puts
K_mig into a slot of the source. MIG_EXPORT of a run makes the source EXPORTING, records the sealed granules of the
run and replies OK with the bytes. The bundle, with the flask's keys and counters under K_mig, the digest of the
exported granules and Kyrdo's part, in a layout of the model's (DESIGN CHOICE, log entry 144), is written to the
staging area, empties every key slot of the source and makes it EXPORTED. MIG_IMPORT of a run whose entries verify
replies OK, a granule that was imported before gives DENIED, and a tag that fails gives DENIED and calls for the
flask's reset. A bundle whose tag fails under K_mig or whose digest of the granules is wrong does so too; one that
fits asks Kyrdo to take in its part, and with Kyrdo's answer its keys, encrypted until then, enter their slots, the
public key is the flask's and the flask counts as sealed. The model's own besides: what is Kyrdo's and what the
sealing unit's (DEDUCED, log entry 104), the refusals by Kyrdo and the want of a slot (DEDUCED, log entry 115), the
checks of the staging area and of offsets (DEDUCED, log entry 116), the order of the offsets in the digest (DEDUCED,
log entry 117), and the bytes of an entry that is not sealed (DESIGN CHOICE, log entry 109). -/
def Obligations.FlasksMigrate : Prop :=
  (∀ (s : State) (n : Nat), s.starts n 0x62 →
    let b := s.begun n
    let f := (s.fref n).1
    b.frefOk n = true → b.flaskState f = flQUENCHED → (s.vault f).before = flSEALED → s.rd .QN_PHASE f = qnQUENCHED →
    b.migBufFails f (s.par n 1) = none → answers (.migOffer n) s (fun u => sameMem s u ∧ b.asked u n f (.offer (s.par n 1)) ∧ onlyRegs b u [])) ∧
  (∀ (s : State) (n buf : Nat) (r : KyReq) (nonce eph sig : List Byte), n < 16 → s.kyreq? n = some r → r.ask = .offer buf →
    let msg := s.migSigned (s.migClaims r.flask nonce eph none) sig
    acts (.kyrdoAnswer n (.offer nonce eph sig)) s (fun u => u.replied n stOK ∧ s.landed u buf msg ∧
      u.sess r.flask = some { source := true, offer := sha384 msg })) ∧
  (∀ (s : State) (n : Nat), s.starts n 0x63 → s.dirtyLines (s.par n 1) (bits (s.par n 2) 0 15) = [] →
    let b := s.begun n
    let f := (s.fref n).1
    b.frefOk n = true → b.flaskState f = flOPEN → s.rd .QN_PHASE f = qnNONE → s.queuesOf f = [] →
    s.moulds.table.any (fun m => m.flask == some f) = false → s.atlases.any (fun a => s.rd .XL_ATLAS_FLASK a == f) = false →
    b.migBufFails f (s.par n 3) = none → b.claimed f KyAsk.isAccept = false →
    (migMsg false (s.migIn n) = none → answers (.migAccept n) s (fun u => sameMem s u ∧ u.replied n stDENIED)) ∧
    (∀ m, migMsg false (s.migIn n) = some m →
      (m.shape ≠ s.shape f → answers (.migAccept n) s (fun u => sameMem s u ∧ u.replied n stSTATE)) ∧
      (m.shape = s.shape f → s.sameFirmware m = false → answers (.migAccept n) s (fun u => sameMem s u ∧ u.replied n stDENIED)) ∧
      (m.shape = s.shape f → s.sameFirmware m = true → answers (.migAccept n) s (fun u => sameMem s u ∧ onlyRegs b u [] ∧
        b.asked u n f (.accept (s.par n 3) (s.migIn n)))))) ∧
  (∀ (s : State) (n buf k : Nat) (r : KyReq) (offer eph sig key : List Byte) (m : MigMsg), s.kyreq? n = some r →
    r.ask = .accept buf offer → r.flask < 64 → migMsg false offer = some m →
    lowest 256 (fun k => !s.on .KEY_SLOT_VALID k) = some k →
    let msg := s.migSigned (s.migClaims r.flask m.nonce eph (some (sha384 offer))) sig
    acts (.kyrdoAnswer n (.accept eph sig key)) s (fun u => u.rd .QN_PHASE r.flask = qnIMPORTING ∧ u.holdsKey k 0 r.flask ∧
      s.landed u buf msg ∧ u.sess r.flask = some { source := false, offer := sha384 offer, accept := sha384 msg, slot := some k } ∧
      (∀ i, i < s.rd .FL_SIZE r.flask → u.rd .SEAL_GRAN_SEAL (s.rd .FL_BASE r.flask + i) = 1) ∧
      ∃ w ∈ u.seals, w.slot = n ∧ w.flask = r.flask)) ∧
  (∀ (s : State) (n : Nat) (v : Session), s.starts n 0x64 → s.dirtyLines (s.par n 1) (bits (s.par n 2) 0 15) = [] →
    let b := s.begun n
    let f := (s.fref n).1
    b.frefOk n = true → s.sess f = some v → v.source = true → v.slot = none → s.rd .QN_PHASE f = qnQUENCHED →
    b.claimed f KyAsk.isBind = false →
    (s.acceptOk v (s.migIn n) = true → answers (.migBind n) s (fun u => sameMem s u ∧ onlyRegs b u [] ∧
      b.asked u n f (.bind (s.migIn n)))) ∧
    (s.acceptOk v (s.migIn n) = false → answers (.migBind n) s (fun u => sameMem s u ∧ u.replied n stDENIED))) ∧
  (∀ (s : State) (n k : Nat) (r : KyReq) (v : Session) (acc key : List Byte), n < 16 → s.kyreq? n = some r → r.ask = .bind acc → r.flask < 64 →
    s.sess r.flask = some v → lowest 256 (fun k => !s.on .KEY_SLOT_VALID k) = some k →
    acts (.kyrdoAnswer n (.bound key)) s (fun u => sameMem s u ∧ u.replied n stOK ∧ u.holdsKey k 0 r.flask ∧
      u.sess r.flask = some { v with accept := sha384 acc, slot := some k })) ∧
  (∀ (s : State) (n : Nat) (v : Session), s.starts n 0x65 →
    let b := s.begun n
    let f := (s.fref n).1
    b.frefOk n = true → s.stage.2 ≠ 0 → s.sess f = some v → v.source = true → v.slot.isSome = true →
    (s.rd .QN_PHASE f = qnQUENCHED ∨ s.rd .QN_PHASE f = qnEXPORTING) → b.stageOk = true →
    let j := bits (s.par n 1) 0 32
    let k := bits (s.par n 1) 32 32
    (bits (s.par n 0) 48 1 = 0 → runBytes k ≤ s.stage.2 → j + k ≤ s.rd .FL_SIZE f → (s.migKey v).isSome = true →
      let done := ((List.range k).map (fun i => j + i)).filter (fun o => b.granSealed (s.rd .FL_BASE f + o))
      answers (.migExportRun n) s (fun u => u.replied n stOK ∧ u.rd .QN_PHASE f = qnEXPORTING ∧
        u.rd .MB_OUT (n * 128) = (done.length * granule + k * 32) % 2 ^ 64 ∧
        u.sess f = some { v with granules := done.foldl (fun l o => insertNat o l) v.granules })) ∧
    (bits (s.par n 0) 48 1 = 1 → answers (.migExportBundle n) s (fun u => sameMem s u ∧ b.asked u n f .bundle ∧ onlyRegs b u []))) ∧
  (∀ (s : State) (n : Nat) (r : KyReq) (v : Session) (m : KeyMat) (part : List Byte), n < 16 → s.kyreq? n = some r → r.ask = .bundle →
    s.sess r.flask = some v → s.migKey v = some m →
    let bytes := (s.bundle r.flask v m part).1
    acts (.kyrdoAnswer n (.bundle part)) s (fun u => u.replied n stOK ∧ u.rd .QN_PHASE r.flask = qnEXPORTED ∧ u.sess r.flask = none ∧
      u.rd .MB_OUT (n * 128) = bytes.length % 2 ^ 64 ∧ s.landed u s.stage.1 bytes ∧ ∀ k, s.rd .KEY_SLOT_VALID k ≠ 0 → s.rd .KEY_SLOT_FLASK k = r.flask → u.noKey k)) ∧
  (∀ (s : State) (n : Nat) (m : KeyMat), s.starts n 0x66 →
    let b := s.begun n
    let f := (s.fref n).1
    let a := s.par n 1
    let k := bits (s.par n 2) 0 32
    b.frefOk n = true → s.stage.2 ≠ 0 → s.rd .QN_PHASE f = qnIMPORTING → (s.sess f).bind s.migKey = some m → b.stageOk = true →
    let run := (List.range k).foldl (fun (r : State × ImportEnd) i => if r.2 = .going then r.1.importOne f m.key a k i else r) (b, .going)
    (bits (s.par n 0) 48 1 = 0 → s.dirtyLines a (runBytes k) = [] → s.inStage a (runBytes k) = true →
      (run.2 = .going → answers (.migImportRun n) s (fun u => u.replied n stOK ∧ sameMem run.1 u)) ∧
      (run.2 = .again → answers (.migImportRun n) s (fun u => u.replied n stDENIED ∧ sameMem run.1 u)) ∧
      (run.2 = .bad → answers (.migImportRun n) s (fun u => u.replied n stDENIED ∧ .flask f ∈ u.calls))) ∧
    ∀ v, bits (s.par n 0) 48 1 = 1 → s.sess f = some v → s.dirtyLines (s.bundleRange n).1 (s.bundleRange n).2 = [] →
      s.inStage a 128 = true → b.claimed f KyAsk.isImport = false →
      let h := s.dieRead a 128
      let k := leAt h 0 8
      let z := leAt h 8 8
      let fits := k ≤ 256 ∧ s.inStage a (128 + 48 * k + z) = true
      let bundle := s.dieRead a (128 + 48 * k)
      (fits → openBundle v m bundle ≠ none → slice h 16 48 = v.digest → answers (.migImportBundle n) s (fun u => sameMem s u ∧
        b.asked u n f (.import_ bundle (s.dieRead (a + 128 + 48 * k) z)) ∧ onlyRegs b u [])) ∧
      (¬ fits ∨ openBundle v m bundle = none ∨ slice h 16 48 ≠ v.digest → answers (.migImportBundle n) s (fun u => sameMem s u ∧
        u.replied n stDENIED ∧ .flask f ∈ u.calls))) ∧
  (∀ (s : State) (n : Nat) (r : KyReq) (v : Session) (bundle part pub : List Byte), n < 16 →
    s.kyreq? n = some r → r.ask = .import_ bundle part → s.sess r.flask = some v →
    (acts (.kyrdoAnswer n .refused) s (fun u => sameMem s u ∧ u.replied n stDENIED ∧ .flask r.flask ∈ u.calls)) ∧
    (∀ m ks t, s.migKey v = some m → openBundle v m bundle = some ks → (s.dropMigKey r.flask).importKeys r.flask ks = some t →
      acts (.kyrdoAnswer n (.imported pub)) s (fun u => sameMem s u ∧ u.replied n stOK ∧ u.keys = t.keys ∧
      (∀ k, u.rd .KEY_SLOT_VALID k = t.rd .KEY_SLOT_VALID k ∧ u.rd .KEY_SLOT_USE k = t.rd .KEY_SLOT_USE k) ∧
      (u.vault r.flask).pub = pub ∧ (u.vault r.flask).everSealed = true ∧ u.sess r.flask = some { v with slot := none, bundled := true })))

/-- Submits, INFO, management pours, firmware and the watchdog: A submit of a FREE or DONE slot in phases 1 to 4 makes it
QUEUED behind the others with its reply zeroed; one of a slot in use, or with reserved bits, only sets BAD_SUBMIT, and
one of another size only sets BAD_REG. INFO replies OK with the versions that run, which during a switch are those
before it, the committed digests and the staging state. MGMT_RUN of a loaded management mould on unowned, unreserved
groups, with a context of sequencer 0 free, admits the pour and waits; with no context free, or while the sequencers
load an image, it waits for one (the model's reading, DEDUCED, log entry 119); a refused one replies the first status
that applies. FW_STAGE of a well-placed image copies it into the staged bank and asks Kyrdo; the answer stages it and
replies OK with its digest, a refusal drops it and replies DENIED. FW_COMMIT of a staged image asks for its commit, or
joins one under way, before its commit point or in its switch; the commit makes the staged bank the committed one and
begins the switch to it, which ends within 2 ms; with its end VERSION is the new one and every waiting FW_COMMIT
replies OK. FW_ABORT drops what is staged. A watchdog expiry is recorded and counted and marks the commands it
resumes; one of them that waits for Kyrdo, but a legend, a MGMT_RUN that waits for a context and a MOULD_LOAD that is
not complete start again from their checks. The model's own: the time of a switch, and what becomes of a FW_COMMIT or
FW_STAGE that still waits when its image goes (DESIGN CHOICE, log entries 118 and 142). -/
def Obligations.ManagementCommands : Prop :=
  (∀ (s : State) (v : Nat), s.on .CFG_MSE = true → s.hostAway = false →
    (s.rd .RAS_STATUS_PHASE = 1 ∨ s.rd .RAS_STATUS_PHASE = 2 ∨ s.rd .RAS_STATUS_PHASE = 3 ∨ s.rd .RAS_STATUS_PHASE = 4) →
    let n := bits v 0 4
    let used := s.slotState n = mbQUEUED ∨ s.slotState n = mbRUNNING
    (v < 16 → ¬ used → does (.mbSubmit 8 v) s (fun t => sameMem s t ∧ t.slotState n = mbQUEUED ∧ t.mbox.order = s.mbox.order ++ [n] ∧
      t.rd .MB_RPL_STATUS n = 0 ∧ t.rd .MB_RPL_RESUMED n = 0 ∧ (∀ i, i < 30 → t.rd .MB_OUT (n * 128 + i) = 0) ∧
      onlyRegs s t (replyFields n ++ [(.MB_RPL_RESUMED, n)]))) ∧
    (v < 2 ^ 64 → (used ∨ 16 ≤ v) → does (.mbSubmit 8 v) s (fun t => sameMem s t ∧ t.rd .MB_ERR_BAD_SUBMIT = 1 ∧ t.mbox = s.mbox ∧
      onlyRegs s t [(.MB_ERR_BAD_SUBMIT, 0)])) ∧
    does (.mbSubmit 4 v) s (fun t => sameMem s t ∧ t.rd .HLP_ERR_BAD_REG = 1 ∧ t.mbox = s.mbox ∧ onlyRegs s t [(.HLP_ERR_BAD_REG, 0)])) ∧
  (∀ (s : State) (n : Nat), s.starts n 0x01 → answers (.info n) s (fun u => sameMem s u ∧ u.replied n stOK ∧
    (let runs (comp committed : Nat) : Nat := ((s.mbox.switches.find? (fun w => w.comp == comp)).map Switch.old).getD committed
    u.rd .MB_OUT (n * 128) = runs 2 s.kyrdo.mgmtVer % 2 ^ 16 + runs 3 s.kyrdo.ucodeVer % 2 ^ 16 * 2 ^ 16) ∧
    (∀ i, i < 6 → u.rd .MB_OUT (n * 128 + 1 + i) = leAt s.kyrdo.mgmt (8 * i) 8 ∧
      u.rd .MB_OUT (n * 128 + 7 + i) = leAt s.kyrdo.ucode (8 * i) 8) ∧
    u.rd .MB_OUT (n * 128 + 13) = b2n (s.isStaged 2) + 2 * b2n (s.isStaged 3) ∧ onlyRegs (s.begun n) u (replyFields n))) ∧
  (∀ (s : State) (n : Nat), s.starts n 0x32 →
    (∀ (m : Mould), (s.begun n).mgmtRunCheck n = .ok m → s.seqZero = none ∨ s.loading = true → answers (.mgmtRun n) s (fun u => sameMem s u ∧
      onlyRegs (s.begun n) u [] ∧ u.slotState n = mbRUNNING ∧ u.mbox.runWait = some (n, m.idx, m.gen) ∧ u.ctxs = s.ctxs)) ∧
    (∀ (m : Mould) (c : Nat), (s.begun n).mgmtRunCheck n = .ok m → s.seqZero = some c → s.loading = false → answers (.mgmtRun n) s (fun u => sameMem s u ∧
      onlyRegs (s.begun n) u [] ∧ u.slotState n = mbRUNNING ∧ u.mbox.run = some (n, c) ∧
      (∃ x, u.ctx? c = some x ∧ x.mgmt = true ∧ x.mould = m.idx ∧ x.mgen = m.gen ∧ x.groups = s.par n 2 ∧ x.st = .gates) ∧
      .bankRead c (m.gbase + bits (s.par n 1) 32 8 * 0x200) ∈ u.sent)) ∧
    (∀ st, s.mgmtRunCheck n = .error st → (s.begun n).mgmtRunCheck n = .error st → answers (.mgmtRun n) s (fun u => sameMem s u ∧ u.replied n st ∧ u.ctxs = s.ctxs))) ∧
  (∀ (s : State) (n : Nat), s.starts n 0x70 → s.dirtyLines (s.par n 1) (bits (s.par n 2) 0 32) = [] →
    let comp := s.comp n
    let len := bits (s.par n 2) 0 32
    let data := s.dieRead (s.par n 1) len
    s.staged.any (fun x => x.comp == comp) = false → s.par n 1 % 4096 = 0 → len ≠ 0 → len ≤ bankSize comp → (s.begun n).outsideAll (s.par n 1) len = true →
    answers (.fwStage n) s (fun u => sameMem s u ∧ u.slotState n = mbRUNNING ∧ .kyrdo n (.image comp data) ∈ u.sent ∧
      (∃ x ∈ u.staged, x.comp = comp ∧ x.digest = sha384 data ∧ x.bank = data ∧ x.ok = false) ∧ onlyRegs (s.begun n) u [])) ∧
  (∀ (s : State) (n comp : Nat) (r : KyReq) (data : List Byte), n < 16 → s.kyreq? n = some r → r.ask = .image comp data →
    ∀ x, s.staged.filter (fun x => x.comp == comp) = [x] → x.bank = data →
    (∀ v cs est, acts (.kyrdoAnswer n (.image v cs est)) s (fun u => sameMem s u ∧ u.replied n stOK ∧
      { x with version := v, coefs := cs, est := est, ok := true } ∈ u.staged ∧
      ∀ i, i < 6 → u.rd .MB_OUT (n * 128 + i) = leAt (sha384 data) (8 * i) 8 % 2 ^ 64)) ∧
    acts (.kyrdoAnswer n .refused) s (fun u => sameMem s u ∧ u.replied n stDENIED ∧ u.claimsStaged comp = false)) ∧
  (∀ (s : State) (n : Nat), s.starts n 0x71 →
    let comp := s.comp n
    let idle := s.on .QM_CTL_ADMIT_EN = false ∧ s.ctxs = [] ∧ s.mbox.runWait = none
    s.mbox.switches.find? (fun w => w.slots.contains n) = none →
    (s.mbox.switches.any (fun w => w.comp == comp) = true → answers (.fwCommit n) s (fun u => sameMem s u ∧ u.slotState n = mbRUNNING ∧
      ∀ w ∈ s.mbox.switches, w.comp = comp → { w with slots := w.slots ++ [n] } ∈ u.mbox.switches)) ∧
    (s.mbox.switches.any (fun w => w.comp == comp) = false →
    (s.claimsStaged comp = false → answers (.fwCommit n) s (fun u => sameMem s u ∧ u.replied n stSTATE)) ∧
    (s.claimsStaged comp = true → s.commits comp = [] → (comp = 3 → idle) → answers (.fwCommit n) s (fun u => sameMem s u ∧
      u.slotState n = mbRUNNING ∧ .kyrdo n (.commit comp) ∈ u.sent ∧ ∃ r ∈ u.commits comp, r.slot = n)) ∧
    (s.claimsStaged comp = true → s.commits comp ≠ [] → answers (.fwCommit n) s (fun u => sameMem s u ∧ u.slotState n = mbRUNNING ∧
      ∃ r ∈ u.commits comp, r.slot = n)) ∧
    (s.claimsStaged comp = true → s.commits comp = [] → comp = 3 → ¬ idle → answers (.fwCommit n) s (fun u => sameMem s u ∧
      u.replied n stSTATE)))) ∧
  (∀ (s : State) (n comp : Nat) (r : KyReq) (x : Staged), s.kyreq? n = some r → r.ask = .commit comp →
    s.staged.find? (fun x => x.comp == comp && x.ok) = some x → acts (.kyrdoAnswer n .committed) s (fun u => sameMem s u ∧
      (∃ w ∈ u.mbox.switches, w.comp = comp ∧ w.slots = (s.commits comp).map KyReq.slot ∧ s.time ≤ w.till ∧ w.till ≤ s.time + 2000000) ∧
      u.claimsStaged comp = false ∧ u.commits comp = [] ∧
      (comp = 2 → u.kyrdo.mgmt = x.digest ∧ u.kyrdo.mgmtVer = x.version ∧ u.kyrdo.mgmtBank = x.bank ∧
        u.meter.coefs = some (x.coefs, x.est)) ∧
      (comp ≠ 2 → u.kyrdo.ucode = x.digest ∧ u.kyrdo.ucodeVer = x.version ∧ u.kyrdo.ucodeBank = x.bank))) ∧
  (∀ (s : State) (n : Nat) (w : Switch), s.mbox.switches.find? (fun w => w.slots.contains n) = some w →
    acts (.fwCommit n) s (fun u => sameMem s u ∧ u.time = max s.time w.till ∧ w ∉ u.mbox.switches ∧
      (∀ m ∈ w.slots, m < 16 → u.replied m stOK) ∧ (w.comp = 2 → u.rd .MB_FW_VERSION = s.kyrdo.mgmtVer % 2 ^ 16))) ∧
  (∀ (s : State) (n : Nat), s.starts n 0x72 →
    (s.claimsStaged (s.comp n) = true → answers (.fwAbort n) s (fun u => sameMem s u ∧ u.replied n stOK ∧ u.claimsStaged (s.comp n) = false ∧
      ∀ r ∈ s.commits (s.comp n), r.slot < 16 → r.slot ≠ n → u.replied r.slot stSTATE)) ∧
    (s.claimsStaged (s.comp n) = false → answers (.fwAbort n) s (fun u => sameMem s u ∧ u.replied n stSTATE ∧ u.staged = s.staged))) ∧
  (∀ (s : State) (core : Nat) (slots : List Nat), s.ready = true → core < 2 → acts (.mgmtWatchdogExpiry core slots) s (fun u =>
    u.rd .MB_ERR_WATCHDOG = 1 ∧ s.counts u .MB_FW_WDOG ∧ (∀ n ∈ slots, n < 16 → s.slotState n = mbRUNNING → u.rd .MB_RPL_RESUMED n = 1 ∧
      ∀ r, s.kyreq? n = some r → (∀ b c, r.ask ≠ .legend b c) → n ∈ u.mbox.order ∧ u.kyreq? n = none) ∧
    (∀ n, slots = [n] → n < 16 → s.slotState n = mbRUNNING → s.kyreq? n = none →
      (s.mbox.runWait.any (fun w => w.1 == n) = true → n ∈ u.mbox.order ∧ u.mbox.runWait = none) ∧
      (s.mbox.runWait.any (fun w => w.1 == n) = false → ∀ m, s.moulds.table.find? (fun m => m.slot == some n && !m.loaded) = some m →
        n ∈ u.mbox.order ∧ m ∉ u.moulds.table ∧ ∀ g ∈ u.moulds.fills, g.idx ≠ m.idx)) ∧
    ((s.mbox.dogs.find? (fun d => d.1 == core)).any (fun d => decide (s.time < d.2 + 10 ^ 9)) = true → .block ∈ u.calls)))

/-- POWER_SET, DROWSE and idle gating: POWER_SET DROWSE or OFF, with no other waiting and not DROWSE in DROWSE, sets
ENTERING and waits for the commands accepted before it and for the drain; with one waiting for the other state it
waits with it, and with one waiting for the same state it replies STATE, since that state is claimed. POWER_SET ACTIVE
gives up every such wait with PARTIAL; in DROWSE it starts the exit or joins it; otherwise it replies OK where it ends
a wait for DROWSE, else STATE (the model's readings, DEDUCED, log entry 120). When the drain is complete the block
enters DROWSE and the command replies OK, and those that wait for DROWSE with it, while one for OFF goes on waiting;
for OFF, with every receipt gone, power goes and with it all that the block held, PHASE becoming RESET (the model's
reading, DEDUCED, log entry 121). In DROWSE an enabled cause starts the exit; the end of the exit makes the block
ACTIVE with the cause recorded and the waiting commands reply OK. A group without work is gated once IDLE_US has
passed, to which the command brings the time (DESIGN CHOICE, log entry 1); a busy or reserved group is not. -/
def Obligations.PowerStates : Prop :=
  (∀ (s : State) (n : Nat), s.starts n 0x73 →
    (∀ (i : Instr) (v : Nat), (i, v) ∈ [(Instr.powerSetDrowse n, 2), (.powerSetOff n, 3)] → bits (s.par n 0) 48 2 = v → s.power = none →
      (v = 2 → s.drowse = false) → answers i s (fun u => sameMem s u ∧ u.rd .PWR_STATUS_ENTERING = 1 ∧ u.slotState n = mbRUNNING ∧
        onlyRegs (s.begun n) u [(.PWR_STATUS_ENTERING, 0)] ∧
        ∃ w, u.power = some w ∧ w.slot = n ∧ w.state = v ∧ w.also = [] ∧ (∀ m ∈ s.mbox.order.takeWhile (fun m => m != n), m ∈ w.prior) ∧
          ∀ m, m < 16 → m ≠ n → s.slotState m = mbRUNNING → m ∉ s.mbox.order → m ∈ w.prior)) ∧
    (∀ (i : Instr) (v : Nat) (w : PowerWait), (i, v) ∈ [(Instr.powerSetDrowse n, 2), (.powerSetOff n, 3)] → bits (s.par n 0) 48 2 = v →
      s.power = some w → (v = 2 → s.drowse = false) →
      let claimed := w.state = v ∨ ∃ p ∈ w.also, p.2 = v
      (¬ claimed → answers i s (fun u => sameMem s u ∧ u.slotState n = mbRUNNING ∧
        u.power = some { w with also := w.also ++ [(n, v)] } ∧ onlyRegs (s.begun n) u [])) ∧
      (claimed → answers i s (fun u => sameMem s u ∧ u.replied n stSTATE ∧ u.power = some w ∧
        onlyRegs (s.begun n) u (replyFields n)))) ∧
    (bits (s.par n 0) 48 2 = 2 → s.power = none → s.drowse = true → answers (.powerSetDrowse n) s (fun u => sameMem s u ∧
      u.replied n stSTATE ∧ u.power = none)) ∧
    (bits (s.par n 0) 48 2 = 0 → s.power = none → s.drowse = false → answers (.powerSetActive n) s (fun u => sameMem s u ∧
      u.replied n stSTATE)) ∧
    (∀ w, bits (s.par n 0) 48 2 = 0 → s.power = some w → w.slot < 16 → w.slot ≠ n → answers (.powerSetActive n) s (fun u =>
      sameMem s u ∧ (s.drowse = false → u.replied n (if w.state = 2 ∨ (∃ p ∈ w.also, p.2 = 2) then stOK else stSTATE)) ∧ u.replied w.slot stPARTIAL ∧ (∀ p ∈ w.also, p.1 < 16 → p.1 ≠ n → u.replied p.1 stPARTIAL) ∧ u.power = none ∧
      u.rd .PWR_STATUS_ENTERING = 0)) ∧
    (bits (s.par n 0) 48 2 = 0 → s.power = none → s.drowse = true → answers (.powerSetActive n) s (fun u => sameMem s u ∧
      u.slotState n = mbRUNNING ∧ (s.exit = none → u.rd .PWR_STATUS_EXITING = 1 ∧ u.exit = some (1, [n])) ∧
      ∀ c ms, s.exit = some (c, ms) → u.exit = some (c, ms ++ [n])))) ∧
  (∀ (s : State) (w : PowerWait), s.settle.power = some w →
    (s.settle.drained w = false → exec .powerDrainComplete s = .next (s.close s.settle.settle)) ∧
    (w.slot < 16 → s.settle.drained w = true →
      (w.state = 2 → acts .powerDrainComplete s (fun u => sameMem s.settle u ∧ u.drowse = true ∧
        u.replied w.slot stOK ∧ (∀ p ∈ w.also, p.2 = 2 → p.1 < 16 → u.replied p.1 stOK) ∧
        ((∀ p ∈ w.also, p.2 = 2) → u.power = none ∧ u.rd .PWR_STATUS_ENTERING = 0) ∧
        ∀ p ∈ w.also, p.2 ≠ 2 → u.rd .PWR_STATUS_ENTERING = 1 ∧ ∃ x, u.power = some x ∧ (x.slot, x.state) :: x.also = w.also.filter (fun p => p.2 != 2))) ∧
      (w.state ≠ 2 → s.settle.meter.accs = [] → s.settle.meter.blocks = [] → acts .powerDrainComplete s (fun u =>
        (∀ f i, u.rd f i = f.resetAt i) ∧ u.rd .RAS_STATUS_PHASE = 0 ∧ u.hbm = [] ∧ u.keys = [] ∧ u.ctxs = [] ∧
        u.power = none ∧ .powerOff ∈ u.sent)))) ∧
  (∀ (s : State) (c : Nat),
    let en := (c = 2 ∧ s.on .PWR_CTL_WAKE_WINDOW = true) ∨ (c = 3 ∧ s.on .PWR_CTL_WAKE_DOORBELL = true) ∨
      (c = 4 ∧ s.on .PWR_CTL_WAKE_PEER = true)
    if s.drowse = true ∧ s.exit = none ∧ en then does (.drowseWake c) s (fun t => sameMem s t ∧ t.exit = some (c, []) ∧
      t.rd .PWR_STATUS_EXITING = 1 ∧ onlyRegs s t [(.PWR_STATUS_EXITING, 0)])
    else exec (.drowseWake c) s = .next (s.close s)) ∧
  (∀ (s : State) (c : Nat) (ns : List Nat), s.exit = some (c, ns) → acts .drowseExitComplete s (fun u => (s.hlp.asleep = [] → sameMem s u) ∧
    u.rd .PWR_STATUS_STATE = 0 ∧ u.rd .PWR_STATUS_EXITING = 0 ∧ u.rd .PWR_STATUS_WAKE_CAUSE = c % 16 ∧ u.exit = none ∧
    ∀ n ∈ ns, n < 16 → u.replied n stOK)) ∧
  (∀ (s : State) (g : Nat), s.ready = true → s.on .PWR_CTL_IDLE_EN = true → g < 64 → bit (s.rd .PWR_GATED_GROUPS) g = false →
    if s.groupBusy g = true ∨ s.reservedBy g = true then exec (.idleGate g) s = .next (s.close s)
    else does (.idleGate g) s (fun t => sameMem s t ∧ t.rd .PWR_GATED_GROUPS = (s.rd .PWR_GATED_GROUPS + 2 ^ g) % 2 ^ 64 ∧
      t.time = max s.time (max (aget s.groupUse g 0) s.readyAt + max (s.rd .PWR_CTL_IDLE_US) 1 * 1000) ∧
      onlyRegs s t [(.PWR_GATED_GROUPS, 0)]))

/-- COLD, PACKAGE and BLOCK resets, and start-up: COLD, from every state, leaves PHASE INIT, LAST_RESET COLD, no context,
lane, queue or key, every register at its reset value but PHASE, and HBM empty; VERSION of CZ_MB_FW has as its reset
value the version of the committed image, of which a read before the first READY shows a free value (DESIGN CHOICE,
log entry 143). PACKAGE_RESET of a powered block does the same with LAST_RESET PACKAGE, keeps HBM's contents (nothing
else being on its way there), and advances the package reset count. BLOCK_RESET makes PHASE DRAIN, empties every key
slot and every unit's work, stops the engines, and keeps the node number and the attachment generations for the peer
writes on their way. At the drain limit, where every request left is a write as the start of the reset leaves them,
those not yet issued are discarded and those to host and peers remembered. While start-up goes on, PHASE reads INIT,
SELFTEST or FIRMWARE by the time, whose moments the spec bounds and the model leaves free (DESIGN CHOICE, log entry
143). STARTUP_READY with a self-test that passes makes PHASE READY with the self-test's results, the package's
identity after COLD and PACKAGE, and BLOCK_FAULT after a reset by a fault; with one that fails it makes PHASE FAILED.
A failed management core has a record of its own. The model's own besides: contents of HBM after COLD (DESIGN CHOICE,
log entry 2), what keeps its value through the drain (DEDUCED, log entry 124), the timebase across resets (DEDUCED,
log entry 126), the severity of a self-test's records (DEDUCED, log entry 125), and the time of the limit (DESIGN
CHOICE, log entry 1). -/
def Obligations.ResetsAndStartUp : Prop :=
  (∀ s : State, acts .cold s (fun u => u.rd .RAS_STATUS_PHASE = 1 ∧ u.rd .MB_FW_VERSION = s.kyrdo.mgmtVer % 2 ^ 16 ∧
    (∀ f i, (f, i) ≠ (.RAS_STATUS_PHASE, 0) → (f, i) ≠ (.MB_FW_VERSION, 0) → u.rd f i = f.resetAt i) ∧
    u.ctxs = [] ∧ u.lanes = [] ∧ u.keys = [] ∧ u.reqs = [] ∧ u.hbm = [] ∧ u.wbuf = [] ∧ u.kyrdo.resets = 0)) ∧
  (∀ s : State, (s.rd .RAS_STATUS_PHASE ≠ 0 ∨ s.breset.isSome = true) → acts .packageReset s (fun u => u.rd .RAS_STATUS_PHASE = 1 ∧
    u.rd .RAS_STATUS_LAST_RESET = 1 ∧ u.rd .MB_FW_VERSION = s.kyrdo.mgmtVer % 2 ^ 16 ∧
    (∀ f i, (f, i) ≠ (.RAS_STATUS_PHASE, 0) → (f, i) ≠ (.RAS_STATUS_LAST_RESET, 0) → (f, i) ≠ (.MB_FW_VERSION, 0) →
      u.rd f i = f.resetAt i) ∧
    u.ctxs = [] ∧ u.lanes = [] ∧ u.keys = [] ∧ u.reqs = [] ∧ u.wbuf = [] ∧ u.kyrdo.resets = s.kyrdo.resets + 1 ∧
    (s.wbuf = [] → u.hbm = s.hbm))) ∧
  (∀ (s : State) (n : Nat), s.starts n 0x74 → answers (.blockReset n) s (fun u => (s.wbuf = [] → sameMem s u) ∧ u.rd .RAS_STATUS_PHASE = 6 ∧
    u.rd .RAS_COUNT_RESET_WRITES = 0 ∧ (∀ k, s.rd .KEY_SLOT_VALID k ≠ 0 → u.noKey k) ∧ u.keys = [] ∧ u.ctxs = [] ∧ u.kernels = [] ∧
    u.tears = [] ∧ u.kyreqs = [] ∧ (∀ e, e < 512 → .stopRequest e ∈ u.sent) ∧
    (∀ i, u.rd .PEER_NODE_GEN i = s.rd .PEER_NODE_GEN i) ∧ u.rd .PEER_CTL_NODE_ID = s.rd .PEER_CTL_NODE_ID ∧
    (∀ r ∈ u.reqs, r.isWrite = true) ∧ ∃ b, u.breset = some b ∧ b.start = s.time ∧ b.fault = false ∧ b.drained = false)) ∧
  (∀ (s : State) (b : BlockReset), s.breset = some b → s.rd .RAS_STATUS_PHASE = 6 → b.drained = false →
    (∀ r ∈ s.reqs, r.isWrite = true) → acts .blockDrainLimit s (fun u => sameMem s u ∧ onlyRegs s u [] ∧ u.time = max s.time (b.start + 100000) ∧ u.reqs = [] ∧
      u.lanes = [] ∧ ∃ c, u.breset = some c ∧ c.drained = true ∧ c.records.length = (s.reqs.filter (fun r => !r.issued && r.tier != 0)).length)) ∧
  (∀ (s : State) (b : BlockReset), s.breset = some b → s.rd .RAS_STATUS_PHASE = 1 → b.upAt ≤ s.time →
    s.live .RAS_STATUS_PHASE 0 ∈ [1, 2, 3] ∧ (b.upAt + 6010000 < s.time → s.live .RAS_STATUS_PHASE 0 = 3)) ∧
  (∀ (s : State) (b : BlockReset) (z : Fuses) (pairs lanes casters : Nat) (route : Bool) (mgmt : Nat), s.breset = some b → s.rd .RAS_STATUS_PHASE ≠ 6 →
    (testFails pairs lanes casters route mgmt = false → acts (.startupReady z pairs lanes casters route mgmt) s (fun u => u.ready = true ∧
      u.breset = none ∧ u.readyAt = s.time ∧ u.rd .RAS_SELFTEST_PAIRS = pairs % 2 ^ 16 ∧ u.rd .SEQ_STATUS_PAIR_OK = 0xFFFF - pairs % 2 ^ 16 ∧
      u.rd .MB_FW_VERSION = u.kyrdo.mgmtVer % 2 ^ 16 ∧ (s.rd .RAS_STATUS_LAST_RESET ≠ 2 → u.rd .DEVID_LO = leAt z.device 0 8 ∧ u.kyrdo.device = slice z.device 0 16) ∧
      (b.fault = true → u.rd .RAS_ERR_BLOCK_FAULT = 1))) ∧
    (testFails pairs lanes casters route mgmt = true → acts (.startupReady z pairs lanes casters route mgmt) s (fun u =>
      u.rd .RAS_STATUS_PHASE = 5 ∧ u.breset = none)))

/-- Corrected errors, miscompares, parity and SRAM errors: A patrol's corrected errors are added to CE_SRAM. A sequencer
pair's first miscompare within 1 s sets LOCKSTEP and leaves the pair in service; a second one takes it out of service,
and calls for a BLOCK reset and nothing else where it is pair 0, fewer than 12 pairs are left in service or a
management pour has a context on the pair, and otherwise for the reset of each flask with a context on the pair, and
of no other. A parity error while the block is powered calls for a BLOCK reset. An uncorrectable SRAM error sets
SRAM_UE; one in a mould segment drops the segment, one in a cached sheet or table entry drops it, one in a flask's
state calls for the flask's reset and one in shared state for a BLOCK reset. An error in the handle table in HBM calls
for a BLOCK reset and one on the image of a FLASK_THAW gives BAD_ARG, each counted in POISON.RD with HBM_UE (that
SRAM_UE brings them is the model's, DESIGN CHOICE, log entry 141; a reset called for starts at the end of the command,
DEDUCED, log entry 127). -/
def Obligations.FaultsOfTheBlock : Prop :=
  (∀ (s : State) (n : Nat), s.ready = true → does (.patrolScrub n) s (fun t => sameMem s t ∧ s.counts t .RAS_CE_SRAM 0 n ∧
    onlyRegs s t [(.RAS_CE_SRAM, 0)])) ∧
  (∀ (s : State) (c : Nat) (x : Ctx), s.ctx? c = some x →
    let p := x.root / 16
    let again := (s.misses.find? (fun m => m.1 == p)).any (fun m => decide (s.time < m.2 + 10 ^ 9))
    let ok := setBits (s.rd .SEQ_STATUS_PAIR_OK) p 1 0 % 2 ^ 16
    acts (.lockstepMiscompare c) s (fun u => u.rd .RAS_ERR_LOCKSTEP = 1 ∧ (p, s.time) ∈ u.misses ∧
      (again = false → u.rd .SEQ_STATUS_PAIR_OK = s.rd .SEQ_STATUS_PAIR_OK ∧ u.calls = s.calls) ∧
      (again = true → u.rd .SEQ_STATUS_PAIR_OK = ok ∧
        (let whole := p = 0 ∨ popCount ok 16 < 12 ∨ ∃ y ∈ s.ctxs, y.root / 16 = p ∧ y.mgmt = true
        (whole → u.calls = s.calls ++ [.block]) ∧
        (¬ whole → (∀ y ∈ s.ctxs, y.root / 16 = p → .flask y.flask ∈ u.calls) ∧
          ∀ k, k ∈ u.calls → k ∈ s.calls ∨ ∃ y ∈ s.ctxs, y.root / 16 = p ∧ k = .flask y.flask))))) ∧
  (∀ (s : State) (unit : Nat), s.rd .RAS_STATUS_PHASE ≠ 0 → acts (.parityError unit) s (fun u => .block ∈ u.calls)) ∧
  (∀ (s : State) (idx seg : Nat) (g : Seg), s.moulds.segs.find? (fun g => g.idx == idx && g.seg == seg) = some g →
    acts (.sramUe (.mould idx seg)) s (fun u => u.rd .RAS_ERR_SRAM_UE = 1 ∧ g ∉ u.moulds.segs ∧ u.calls = s.calls)) ∧
  (∀ (s : State) (slot va : Nat) (l : Leaf), s.sheetHit slot va = some l → acts (.sramUe (.sheet slot va)) s (fun u =>
    u.rd .RAS_ERR_SRAM_UE = 1 ∧ l ∉ u.xl.sheets ∧ u.calls = s.calls)) ∧
  (∀ (s : State) (slot level pre : Nat) (h : TableHit), h ∈ s.xl.tables → h.slot = slot → h.level = level → h.pre = pre →
    acts (.sramUe (.walk slot level pre)) s (fun u => u.rd .RAS_ERR_SRAM_UE = 1 ∧ h ∉ u.xl.tables ∧ u.calls = s.calls)) ∧
  (∀ (s : State) (f unit : Nat), s.flaskState f ≠ flFREE → acts (.sramUe (.flask f unit)) s (fun u => u.rd .RAS_ERR_SRAM_UE = 1 ∧
    u.calls = s.calls ++ [.flask f])) ∧
  (∀ (s : State) (unit : Nat), acts (.sramUe (.shared unit)) s (fun u => u.rd .RAS_ERR_SRAM_UE = 1 ∧ u.calls = s.calls ++ [.block])) ∧
  (∀ (s : State) (i : Nat), s.on .MC_HTAB_EN = true → acts (.sramUe (.handles i)) s (fun u => u.rd .RAS_ERR_HBM_UE = 1 ∧
    s.counts u .POISON_RD ∧ .block ∈ u.calls)) ∧
  (∀ (s : State) (n l : Nat), s.starts n 0x61 → (s.begun n).thawFails n = none → answers (.sramUe (.image n l)) s (fun u =>
    u.replied n stBADARG ∧ u.rd .RAS_ERR_HBM_UE = 1 ∧ s.counts u .POISON_RD))

/-- A command that fails a check of the mailbox replies so and does nothing else: From its start point, a command of a
known opcode with a wrong length, a bit set outside the named bits, or a value that its opcode excludes replies
BAD_ARG through its own row, and an unknown opcode, which INFO's row meets, replies BAD_OPCODE: the slot is DONE with
that status and RLEN 0, no other register and no memory changes, and nothing is done. -/
def Obligations.MailboxChecksComeFirst : Prop :=
  ∀ (s : State) (n : Nat), n < 16 → s.ready = true → s.mayStart n = true → (∀ w ∈ s.mbox.switches, n ∉ w.slots) →
    let fails (i : Instr) (st : Nat) : Prop := acts i s (fun u => sameMem s u ∧ u.replied n st ∧ u.rd .MB_RPL_RLEN n = 0 ∧
      onlyRegs s u (replyFields n) ∧ u.ctxs = s.ctxs ∧ u.kyreqs = s.kyreqs ∧ n ∉ u.mbox.order)
    (∀ i, (i, s.opcode n) ∈ [(Instr.info n, 0x01), (.flaskCreate n, 0x10), (.flaskSeal n, 0x11), (.flaskReset n, 0x12),
        (.flaskDestroy n, 0x13), (.legendReq n, 0x15), (.certGet n, 0x16), (.receiptFlush n, 0x17), (.queueCreate n, 0x20),
        (.queueResume n, 0x21), (.queueDestroy n, 0x22), (.pourCancel n, 0x23), (.mouldLoad n, 0x30), (.mouldUnload n, 0x31),
        (.mgmtRun n, 0x32), (.atlasBind n, 0x40), (.atlasUnbind n, 0x41), (.atlasInvalidate n, 0x42), (.faultResumeRetry n, 0x43),
        (.faultResumeAbort n, 0x43), (.peerAttach n, 0x50), (.peerDetachOrderly n, 0x51), (.peerDetachRemoved n, 0x51),
        (.flaskQuench n, 0x60), (.flaskThaw n, 0x61), (.migOffer n, 0x62), (.migAccept n, 0x63), (.migBind n, 0x64),
        (.migExportRun n, 0x65), (.migExportBundle n, 0x65), (.migImportRun n, 0x66), (.migImportBundle n, 0x66), (.fwStage n, 0x70),
        (.fwCommit n, 0x71), (.fwAbort n, 0x72), (.powerSetActive n, 0x73), (.powerSetDrowse n, 0x73), (.powerSetOff n, 0x73),
        (.blockReset n, 0x74)] → s.mbCheck n ≠ none → fails i stBADARG) ∧
    (∀ i, (i, envOp (s.dieRead (s.par n 1) 64)) ∈ [(Instr.confirm n, opCONFIRM), (.publicSet n, opPUBLIC_SET), (.keyImport n, opKEY_IMPORT),
        (.keyDestroy n, opKEY_DESTROY), (.consent n, opCONSENT), (.mouldAllow n, opMOULD_ALLOW)] → s.opcode n = 0x14 →
      s.mbCheck n ≠ none → fails i stBADARG) ∧
    (opParams (s.opcode n) (s.par n 0) = none → fails (.info n) stBADOP)
end

