-- ==== Sys2Proof/WellFormed.lean ====
section
/-! DEFINITION. Which commands are well formed: every operand that numbers a thing of the block names one that it has. -/
namespace Sys2Proof

/-- A mailbox slot (R444). -/
def okSlot (n : Nat) : Bool := decide (n < 16)

/-- A window (R35). -/
def okWindow (n : Nat) : Bool := decide (n < 256)

/-- A caster (R283). -/
def okCaster (c : Nat) : Bool := decide (c < 32)

/-- A pour context: 256 of the sequencers and 256 for spawned pours. -/
def okCtx (c : Nat) : Bool := decide (c < 512)

/-- An engine. -/
def okEngine (e : Nat) : Bool := decide (e < 512)

/-- A queue. -/
def okQueue (q : Nat) : Bool := decide (q < 4096)

/-- A flask. -/
def okFlask (f : Nat) : Bool := decide (f < 64)

/-- An engine group. -/
def okGroup (g : Nat) : Bool := decide (g < 64)

/-- A node. -/
def okNode (k : Nat) : Bool := decide (k < 4096)

/-- A half of an 8-byte register. -/
def okHalf (h : Nat) : Bool := decide (h < 2)

/-- A peer binding. -/
def okBinding (b : Nat) : Bool := decide (b < 256)

/-- A doubleword pair of a binding. -/
def okBindWord (d : Nat) : Bool := decide (d < 3)

/-- The address of a 64 B line. -/
def okLineAddr (a : Nat) : Bool := a % 64 == 0

/-- An HBM controller. -/
def okController (c : Nat) : Bool := Config.hbmControllers.contains c

/-- A timeline. -/
def okTimeline (i : Nat) : Bool := decide (i < 65536)

/-- An event source. -/
def okSource (n : Nat) : Bool := decide (n < 16384)

/-- A unit number. -/
def okUnit (u : Nat) : Bool := decide (u < 256)

/-- A management core. -/
def okCore (c : Nat) : Bool := decide (c < 2)

/-- What wakes the block: 2 a window access, 3 a doorbell, 4 a peer request (R479). -/
def okCause (c : Nat) : Bool := decide (2 ≤ c) && decide (c ≤ 4)

/-- A PASID. -/
def okPasid (p : Nat) : Bool := decide (p < 2 ^ 20)

/-- A packet with its 24-byte header (R340). -/
def okPacket (p : List Byte) : Bool := decide (24 ≤ p.length)

/-- The data of a line. -/
def okLine (d : List Byte) : Bool := d.length == 64

/-- A spawn-port request of 64 bytes (R149). -/
def okSpawn (b : List Byte) : Bool := b.length == 64

/-- A requester that the block has (R258). -/
def okRequester : Machine.Requester → Bool
  | .engine e => okEngine e
  | .caster c => okCaster c
  | .route => true
  | .seqr s => decide (s < 16)

/-- Command i is well formed. -/
def Instr.wellFormed (i : Instr) : Bool :=
  match i with
  | .registerWrite _ _ _ => true
  | .configWrite _ _ _ => true
  | .unsupportedRequest _ _ => true
  | .snoop _ => true
  | .doorbellWrite _ _ _ => true
  | .globalObservationAck _ _ => true
  | .creditReturn _ _ => true
  | .eventCompletion _ => true
  | .hbLost _ => true
  | .linkDown _ => true
  | .linkTrained _ _ _ => true
  | .attach _ _ => true
  | .detach _ _ => true
  | .detachComplete => true
  | .entryReturn _ _ => true
  | .admissionToken => true
  | .mouldLoadComplete _ => true
  | .segmentFillReturn _ _ _ => true
  | .routeScoreReadReturn _ _ => true
  | .routeSelectTile _ => true
  | .routeWriteBack _ => true
  | .surveyorWalkStart => true
  | .walkReadReturn _ _ => true
  | .invOverrun _ => true
  | .invalidationComplete _ => true
  | .hotDecay => true
  | .migrateSwapReturn _ => true
  | .migrateCopyDone _ _ _ => true
  | .hapIssue _ => true
  | .hapReadResponse _ _ => true
  | .castDescriptorReturn _ _ => true
  | .castChunkTagCheck _ => true
  | .peerBusyResend _ => true
  | .peerRequestTimeout _ => true
  | .eventDelivery => true
  | .eventMessageSend => true
  | .eventMcomplWrite _ _ => true
  | .kyrdoTimeout _ _ => true
  | .lingerExpiry _ => true
  | .railReport _ => true
  | .calibrationWindowEnd => true
  | .receiptBatchExpiry _ => true
  | .receiptSigned _ _ => true
  | .fwCommit _ => true
  | .powerDrainComplete => true
  | .blockDrainLimit => true
  | .cold => true
  | .packageReset => true
  | .startupReady _ _ _ _ _ _ => true
  | .patrolScrub _ => true
  | .sramUe _ => true
  | .zciLinkLost => true
  | .hostRecallResponse _ _ => true
  | .hbmCommit _ => true
  | .mbSubmit _ _ => true
  | .snapshotTick => true
  | .drowseExitComplete => true
  | .coherentRead hpa _ => okLineAddr hpa
  | .readForOwnership hpa _ => okLineAddr hpa
  | .hostInvalidate hpa _ => okLineAddr hpa
  | .windowWriteBack hpa data => okLineAddr hpa && okLine data
  | .translationInvalidationBroadcast pasid _ _ => okPasid pasid
  | .winCtlWrite n half _ _ => okWindow n && okHalf half
  | .windowCloseComplete n => okWindow n
  | .sealRecallComplete f => okFlask f
  | .deadlockCheck f => okFlask f
  | .eventDoorbellStore f _ _ _ => okFlask f
  | .scrubComplete f => okFlask f
  | .flaskResetQuiesced f => okFlask f
  | .quenchDrainLimit f => okFlask f
  | .heartbeat half _ _ => okHalf half
  | .hlpCtlWrite half _ _ => okHalf half
  | .holdRdIdxWrite half _ _ => okHalf half
  | .mcCtlWrite half _ _ => okHalf half
  | .mcHtabWrite half _ _ => okHalf half
  | .xlCtlWrite half _ _ => okHalf half
  | .tierCtlWrite half _ _ => okHalf half
  | .eventCtlWrite half _ _ => okHalf half
  | .receiptRingRdIdxWrite half _ _ => okHalf half
  | .entryFetch q => okQueue q
  | .raceGuardReread q => okQueue q
  | .grant c => okCtx c
  | .bankReadReturn c _ => okCtx c
  | .recKernel c => okCtx c
  | .recGuard c => okCtx c
  | .recJump c => okCtx c
  | .recLoop c => okCtx c
  | .recEndloop c => okCtx c
  | .recCall c => okCtx c
  | .recReturn c => okCtx c
  | .recWait c => okCtx c
  | .recSignalSet c => okCtx c
  | .recSignalAdd c => okCtx c
  | .recSignalMax c => okCtx c
  | .recFence c => okCtx c
  | .recPut c => okCtx c
  | .recRouteTopk c => okCtx c
  | .recRouteBlocks c => okCtx c
  | .recRouteExit c => okCtx c
  | .recSpawn c => okCtx c
  | .recEvent c => okCtx c
  | .recPatchSet c => okCtx c
  | .recPatchAdd c => okCtx c
  | .recPatchMin c => okCtx c
  | .recPatchMax c => okCtx c
  | .recPatchLoad c => okCtx c
  | .recPatchTimeline c => okCtx c
  | .recStamp c => okCtx c
  | .recBarrier c => okCtx c
  | .recBulkMoveCopy c => okCtx c
  | .recBulkMoveCast c => okCtx c
  | .recBulkMoveMigrate c => okCtx c
  | .recEnd c => okCtx c
  | .deadlineMiss c _ => okCtx c
  | .graceExpiry c => okCtx c
  | .lockstepMiscompare c => okCtx c
  | .queueCreate n => okSlot n
  | .queueResume n => okSlot n
  | .pourCancel n => okSlot n
  | .queueDestroy n => okSlot n
  | .mouldLoad n => okSlot n
  | .mouldUnload n => okSlot n
  | .atlasBind n => okSlot n
  | .atlasUnbind n => okSlot n
  | .atlasInvalidate n => okSlot n
  | .faultResumeRetry n => okSlot n
  | .faultResumeAbort n => okSlot n
  | .peerAttach n => okSlot n
  | .peerDetachOrderly n => okSlot n
  | .peerDetachRemoved n => okSlot n
  | .flaskCreate n => okSlot n
  | .flaskSeal n => okSlot n
  | .kyrdoSealAnswer n _ => okSlot n
  | .confirm n => okSlot n
  | .publicSet n => okSlot n
  | .keyImport n => okSlot n
  | .keyDestroy n => okSlot n
  | .consent n => okSlot n
  | .mouldAllow n => okSlot n
  | .legendReq n => okSlot n
  | .legendSigned n _ => okSlot n
  | .flaskReset n => okSlot n
  | .flaskDestroy n => okSlot n
  | .receiptFlush n => okSlot n
  | .flaskQuench n => okSlot n
  | .flaskThaw n => okSlot n
  | .migOffer n => okSlot n
  | .migAccept n => okSlot n
  | .migBind n => okSlot n
  | .migExportRun n => okSlot n
  | .migExportBundle n => okSlot n
  | .migImportRun n => okSlot n
  | .migImportBundle n => okSlot n
  | .info n => okSlot n
  | .certGet n => okSlot n
  | .mgmtRun n => okSlot n
  | .fwStage n => okSlot n
  | .fwAbort n => okSlot n
  | .powerSetActive n => okSlot n
  | .powerSetDrowse n => okSlot n
  | .powerSetOff n => okSlot n
  | .blockReset n => okSlot n
  | .kyrdoAnswer n _ => okSlot n
  | .laneFetch e => okEngine e
  | .waypointAdvance e _ => okEngine e
  | .waypointStall e => okEngine e
  | .borrowOverrun e => okEngine e
  | .stopTimeoutKill e => okEngine e
  | .purgeAck e _ => okEngine e
  | .purgeTimeout e _ => okEngine e
  | .engineFenceRequest e _ => okEngine e
  | .activityReport e _ _ => okEngine e
  | .activityReportMissing e _ => okEngine e
  | .kernelEndReport e c _ _ _ _ => okEngine e && okCtx c
  | .scorePush e c _ _ _ _ => okEngine e && okCtx c
  | .scoreReport e c _ => okEngine e && okCtx c
  | .spawnRequest e req => okEngine e && okSpawn req
  | .translationRequest who c _ _ => okRequester who && okCtx c
  | .hapReadRequest who c _ _ _ _ _ => okRequester who && okCtx c
  | .hapWriteRequest who c _ _ _ _ _ _ _ => okRequester who && okCtx c
  | .hapAtomicRequest who c _ _ _ _ _ _ _ _ => okRequester who && okCtx c
  | .hbmWriteAccept ctl _ => okController ctl
  | .commitMarkerAnswer ctl _ => okController ctl
  | .casterItemTake c => okCaster c
  | .casterItemComplete c _ _ _ => okCaster c
  | .peerData p _ => okPacket p
  | .peerAck p => okPacket p
  | .peerBusy p => okPacket p
  | .peerErr p => okPacket p
  | .inboundRd p => okPacket p
  | .inboundAt p => okPacket p
  | .inboundSig p => okPacket p
  | .inboundHello p => okPacket p
  | .peerHelloAck p => okPacket p
  | .inboundBye p => okPacket p
  | .peerPathLost k => okNode k
  | .peerHelloResend k => okNode k
  | .peerAttachTimeout k => okNode k
  | .peerQuarantineEnd k => okNode k
  | .inboundWr p ctl => okPacket p && okController ctl
  | .peerBindWrite b dw half _ _ => okBinding b && okBindWord dw && okHalf half
  | .engineEventRaise e src c => okEngine e && okSource src && okCtx c
  | .levelLineChange unit => okUnit unit
  | .parityError unit => okUnit unit
  | .eventPendingDiscard src half _ _ => okSource src && okHalf half
  | .mgmtWatchdogExpiry core _ => okCore core
  | .drowseWake cause => okCause cause
  | .idleGate g => okGroup g
  | .timelineStore tl half _ _ => okTimeline tl && okHalf half
  | .tlOpSet _ timeline => okTimeline timeline
  | .tlOpAdd _ timeline => okTimeline timeline
  | .tlOpMax _ timeline => okTimeline timeline
  | .elogRdIdxWrite f half _ _ => okFlask f && okHalf half

end Sys2Proof
end

