-- ==== Sys2Proof/Tests/Slice0.lean ====
section
/-! SUPPORT. Tests: an ill-formed term for each check of WellFormed; known answers of the algorithms; single steps with values
from the spec; and, for each statement, states and operands that meet the hypotheses of each of its clauses. -/
namespace Sys2Proof.Tests
open Sys2Proof Sys2Proof.Machine
set_option Elab.async false
set_option linter.unusedTactic false
set_option linter.unreachableTactic false
set_option linter.unusedVariables false

/-! ## Ill-formed commands

For each check of WellFormed, a command that it refuses and its neighbour that it lets through. -/

theorem test_bad_slot : Instr.wellFormed (.queueCreate 16) = false ∧ Instr.wellFormed (.queueCreate 15) = true := by decide

theorem test_bad_window : Instr.wellFormed (.windowCloseComplete 256) = false ∧ Instr.wellFormed (.windowCloseComplete 255) = true := by decide

theorem test_bad_caster : Instr.wellFormed (.casterItemTake 32) = false ∧ Instr.wellFormed (.casterItemTake 31) = true := by decide

theorem test_bad_context : Instr.wellFormed (.grant 512) = false ∧ Instr.wellFormed (.grant 511) = true := by decide

theorem test_bad_engine : Instr.wellFormed (.laneFetch 512) = false ∧ Instr.wellFormed (.laneFetch 511) = true := by decide

theorem test_bad_queue : Instr.wellFormed (.entryFetch 4096) = false ∧ Instr.wellFormed (.entryFetch 4095) = true := by decide

theorem test_bad_flask : Instr.wellFormed (.scrubComplete 64) = false ∧ Instr.wellFormed (.scrubComplete 63) = true := by decide

theorem test_bad_group : Instr.wellFormed (.idleGate 64) = false ∧ Instr.wellFormed (.idleGate 63) = true := by decide

theorem test_bad_node : Instr.wellFormed (.peerPathLost 4096) = false ∧ Instr.wellFormed (.peerPathLost 4095) = true := by decide

theorem test_bad_half : Instr.wellFormed (.heartbeat 2 4 0) = false ∧ Instr.wellFormed (.heartbeat 1 4 0) = true := by decide

theorem test_bad_binding : Instr.wellFormed (.peerBindWrite 256 0 0 8 0) = false ∧ Instr.wellFormed (.peerBindWrite 255 0 0 8 0) = true := by decide

theorem test_bad_binding_word : Instr.wellFormed (.peerBindWrite 0 3 0 8 0) = false ∧ Instr.wellFormed (.peerBindWrite 0 2 0 8 0) = true := by decide

theorem test_bad_line_address : Instr.wellFormed (.coherentRead 63 0) = false ∧ Instr.wellFormed (.coherentRead 64 0) = true := by decide

theorem test_bad_controller : Instr.wellFormed (.hbmWriteAccept 8 (.entry 0)) = false ∧ Instr.wellFormed (.hbmWriteAccept 7 (.entry 0)) = true := by decide

theorem test_bad_timeline : Instr.wellFormed (.timelineStore 65536 0 8 0) = false ∧ Instr.wellFormed (.timelineStore 65535 0 8 0) = true := by decide

theorem test_bad_source : Instr.wellFormed (.engineEventRaise 0 16384 0) = false ∧ Instr.wellFormed (.engineEventRaise 0 16383 0) = true := by decide

theorem test_bad_unit : Instr.wellFormed (.parityError 256) = false ∧ Instr.wellFormed (.parityError 255) = true := by decide

theorem test_bad_core : Instr.wellFormed (.mgmtWatchdogExpiry 2 []) = false ∧ Instr.wellFormed (.mgmtWatchdogExpiry 1 []) = true := by decide

theorem test_bad_cause : Instr.wellFormed (.drowseWake 5) = false ∧ Instr.wellFormed (.drowseWake 4) = true := by decide

theorem test_bad_low_cause : Instr.wellFormed (.drowseWake 1) = false ∧ Instr.wellFormed (.drowseWake 2) = true := by decide

theorem test_bad_pasid : Instr.wellFormed (.translationInvalidationBroadcast (2 ^ 20) .all 0) = false ∧ Instr.wellFormed (.translationInvalidationBroadcast (2 ^ 20 - 1) .all 0) = true := by decide

theorem test_bad_packet : Instr.wellFormed (.inboundRd (zeros 23)) = false ∧ Instr.wellFormed (.inboundRd (zeros 24)) = true := by decide

theorem test_bad_line : Instr.wellFormed (.windowWriteBack 0 (zeros 63)) = false ∧ Instr.wellFormed (.windowWriteBack 0 (zeros 64)) = true := by decide

theorem test_bad_spawn : Instr.wellFormed (.spawnRequest 0 (zeros 65)) = false ∧ Instr.wellFormed (.spawnRequest 0 (zeros 64)) = true := by decide

theorem test_bad_requester : Instr.wellFormed (.hapReadRequest (.seqr 16) 0 0 0 0 0 64) = false ∧ Instr.wellFormed (.hapReadRequest (.seqr 15) 0 0 0 0 0 64) = true := by decide

/-! ## States that the tests use -/

/-- s with the listed register elements written. -/
def put (s : State) (l : List (Field × Nat × Nat)) : State := l.foldl (fun t p => t.wr p.1 p.2.2 p.2.1) s

/-- A block that is READY, with the host attached and both enables set. -/
def up : State :=
  put {} [(.RAS_STATUS_PHASE, 0, 4), (.CFG_MSE, 0, 1), (.CFG_BME, 0, 1), (.HLP_STATUS_LINK_UP, 0, 1)]

/-- The host address at which window 3 opens. -/
def hostA : Nat := 2 ^ 32

/-- s with window 3 open for one granule at hostA and device address 0. -/
def win (s : State) (rd wr coh : Nat) : State :=
  put s [(.WIN_HBASE, 3, 128), (.WIN_DBASE, 3, 0), (.WIN_SIZE, 3, 1), (.WIN_EN, 3, 1), (.WIN_RD, 3, rd), (.WIN_WR, 3, wr),
    (.WIN_COHERENT, 3, coh)]

/-- s with two bytes of line 0 written. -/
def memW (s : State) : State := { s with hbm := [(0, 7), (63, 9)] }

/-- s with one line in the filter. -/
def held (s : State) (line : Nat) (excl : Bool) : State :=
  { s with hlp := { s.hlp with filter := [{ line := line, excl := excl }] } }

/-- s with one line recalled. -/
def recalled (s : State) (line : Nat) : State := { s with hlp := { s.hlp with recalls := [line] } }

/-- s with the command of opcode op and parameters ps QUEUED in mailbox slot n. -/
def mail (s : State) (n op : Nat) (ps : List Nat) : State :=
  let t := put s ([(.MB_CMD_OPCODE, n, op), (.MB_CMD_PLEN, n, ps.length)] ++
    (List.range ps.length).map (fun i => (.MB_P, n * 128 + i, ps.getD i 0)))
  { t.setSlot n mbQUEUED with mbox := { t.mbox with order := t.mbox.order ++ [n] } }

/-- Flask 4 is OPEN at granule 8, two granules long, with group 1, queues 5 and 6, and timelines 0 to 9; PASID 5 is bound
for it in slot 7. -/
def flask4 (s : State) : State :=
  put s [(.FL_STATE, 4, 2), (.FL_GROUPS, 4, 2), (.FL_BASE, 4, 8), (.FL_SIZE, 4, 2), (.FL_QFIRST, 4, 5), (.FL_QCOUNT, 4, 2),
    (.FL_TCOUNT_M1, 4, 9), (.XL_ATLAS_VALID, 7, 1), (.XL_ATLAS_PASID, 7, 5), (.XL_ATLAS_FLASK, 7, 4), (.MC_STORE_BASE, 4, 0x10000),
    (.MC_STORE_SIZE, 4, 1)]

/-- The first byte of flask 4's range. -/
def base4 : Nat := 8 * 2 ^ 25

/-- Queue 5 of flask 4 is ACTIVE with 64 slots and rings in device memory. -/
def queue5 (s : State) : State :=
  put (flask4 s) [(.QCTX_STATE, 5, 1), (.QCTX_FLASK, 5, 4), (.QCTX_RING_LOG2, 5, 6), (.QCTX_BASE, 5, 0x10200), (.QCTX_CBASE, 5, 0x10210),
    (.QCTX_PASID, 5, 5), (.QCTX_NEXT, 5, 1), (.QCTX_MAX_INFLIGHT, 5, 4), (.QCTX_WEIGHT, 5, 1)]

/-- A record or image part of doublewords. -/
def dws (l : List Nat) (n : Nat) : List Byte := slice (l.flatMap (leBytes 8)) 0 n

/-- s with bytes in memory. -/
def laid (s : State) (a : Nat) (bs : List Byte) : State := s.putCells (cellsAt a bs)

/-- A mould of flask 4 at handle 1, generation 2. -/
def mould1 : Mould :=
  { idx := 1, gen := 2, flask := some 4, addr := base4 + 0x1000, len := 0x1000, records := 4, banks := 2, gbase := base4 + 0x8000,
    tsize := 0, digest := [], pinned := false, loaded := true }

/-- A root pour of queue 5 in context 0. -/
def ctx0 : Ctx :=
  { num := 0, st := .run, pour := { queue := 5, seq := 1 }, flask := 4, root := 0, mould := 1, mgen := 2, ticket := 77, pasid := 5,
    gates := List.replicate 64 3 }

/-- s with bytes in an HBM that holds nothing else. -/
def fresh (s : State) (a : Nat) (bs : List Byte) : State := { s with hbm := (cellsAt a bs).filter (fun c => c.2 != 0) }

/-- Context 0 before a record. -/
def before (x : Ctx) (r : List Nat) : State :=
  { laid (queue5 up) (base4 + 0x1000 + 0x300 + 64 * x.pc) (dws r 64) with
    ctxs := [x], moulds := { table := [mould1], gens := [(1, 2)], segs := [{ idx := 1, gen := 2, seg := 0, pinned := false }] } }

/-- A kernel of context 0, issued to engine 8. -/
def kern0 : Kernel :=
  { id := 20, ctx := 0, index := 0, pour := { queue := 5, seq := 1 }, flask := 4, rt := false, phys := false, serial := false,
    preload := false, code := 0, grid := (1, 1, 1), targets := [8], total := 1, args := [], vaArgs := [], budget := 5, deadline := 0,
    grace := 0, sram := 0, wpLog2 := 10, left := [8] }

/-- A leaf of flask 4's address space in HBM: 4096 bytes at virtual 0x5000, at a physical address of granule 9. -/
def leaf0 : Leaf := { slot := 7, va := 0x5000, size := 4096, pa := 9 * 2 ^ 25, tier := 0, rd := true, wr := true, at_ := true }

/-- s with leaf0 in the sheet cache. -/
def sheeted (s : State) : State := { s with xl := { s.xl with sheets := [leaf0] } }

/-- Engine 8 runs kern0. -/
def lane8 : Lane := { eng := 8, queue := [20], running := some 20 }

/-- s with kern0 and a lane. -/
def runs (s : State) (k : Kernel) (l : Lane) : State := { s with kernels := [k], lanes := [l], nextId := 50 }

/-- A body of three records, FENCE, STAMP and END, with a digest. -/
def body0 (digest : Nat) : List Byte :=
  leBytes 4 0x444D5A43 ++ leBytes 4 1 ++ leBytes 4 3 ++ leBytes 4 1 ++ zeros 192 ++ leBytes 48 digest ++ zeros 512 ++
  dws [10 + 2 * 2 ^ 8] 64 ++ dws [16] 64 ++ dws [31] 64

/-- The SHA-384 of the body without a digest. -/
def digest0 : Nat :=
  5235697032147590750118685006240745405418564342204088293443478519543811148665471505062779584525145042693593665245761

/-- Flask 4 in a state, its granule 8 sealed and its granule 9 public, with key slot 7 as its command key. -/
def sealed4 (st : Nat) (s : State) : State :=
  { put (flask4 s) [(.FL_STATE, 4, st), (.SEAL_GRAN_SEAL, 8, 1), (.SEAL_GRAN_SEAL, 9, 2), (.KEY_SLOT_VALID, 7, 1), (.KEY_SLOT_USE, 7, 3),
      (.KEY_SLOT_FLASK, 7, 4), (.FL_CMD_SLOT, 4, 7)] with
    keys := [{ slot := 7, key := zeros 32 }] }

/-- Where the tests put an envelope: in granule 9. -/
def envA : Nat := base4 + 2 ^ 25

/-- An envelope for flask 4 of generation 0 with an operation, a sequence number, clen zero bytes in clear, and n encrypted
bytes with their tag. -/
def env (op seq clen n tail : Nat) : List Byte :=
  leBytes 8 (op + clen * 2 ^ 16 + n * 2 ^ 32 + 4 * 2 ^ 44) ++ leBytes 8 seq ++ zeros 48 ++ zeros clen ++ leBytes (n + 16) tail

/-- s with the sealed command that an envelope holds in slot 2. -/
def command (s : State) (e : List Byte) : State := mail (fresh s envA e) 2 0x14 [4, envA, envA + 8192]

/-- s with one request of slot 2 at Kyrdo for flask 4. -/
def kyWaits (s : State) (a : KyAsk) : State :=
  { put s [(.MB_STATE_STATE,0,32)] with kyreqs := [{ slot := 2, flask := 4, at_ := 100, ask := a }] }

/-! ## Known answers of the algorithms -/

/-- SHA-384 of "abc" (FIPS 180-4's example). -/
theorem test_sha384 : ofBe (sha384 [0x61, 0x62, 0x63]) =
    0xcb00753f45a35e8bb5a03d699ac65007272c32ab0eded1631a8b605a43ff5bed8086072ba1e7cc2358baeca134c825a7 := by decide +kernel

/-- CRC-32C of the digits 1 to 9 (RFC 3720's polynomial). -/
theorem test_crc32c : crc32c [0x31, 0x32, 0x33, 0x34, 0x35, 0x36, 0x37, 0x38, 0x39] = 0xE3069283 := by decide +kernel

/-- AES-256-GCM of 16 zero bytes under the zero key and vector: ciphertext and tag of the GCM specification's test case 14. -/
theorem test_gcm : (gcmSeal (zeros 32) (zeros 12) [] (zeros 16)).map ofBe ofBe =
    (0xcea7403d4d606b6e074ec5d3baf39d18, 0xd0d1c8a799996bf0265b98b5d48ab919) := by decide +kernel

/-- The same of no data: test case 13. -/
theorem test_gcm_empty : ofBe (gcmSeal (zeros 32) (zeros 12) [] []).2 = 0x530f8afbc74536b9a963b4f1c4cb738b := by decide +kernel

/-- A changed tag does not open. -/
theorem test_gcm_open : gcmOpen (zeros 32) (zeros 12) [] [] (beBytes 16 0x530f8afbc74536b9a963b4f1c4cb738b) = some [] ∧
    gcmOpen (zeros 32) (zeros 12) [] [] (zeros 16) = none := by decide +kernel

/-! ## Worked examples of the spec -/

/-- A legend's first bytes and its stepping claim (14_flasks_and_sealing.md, R395). -/
theorem test_legend_head : (coseSign1 (zeros 16) [] []).take 10 = [0xD2, 0x84, 0x44, 0xA1, 0x01, 0x38, 0x22, 0xA1, 0x04, 0x50] ∧
    cbNeg 70003 ++ cbUint 0xB0 = [0x3A, 0x00, 0x01, 0x11, 0x72, 0x18, 0xB0] := by decide

/-- The four indices of VA 0x0000_7F41_0234_5678 (07, a walk that ends in a fault). -/
theorem test_walk_indices : (List.range 4).map (fun l => levelIndex l 0x00007F4102345678) = [0, 0x7F4, 4, 1] := by decide

/-- The values of the first block of row 0 (10, a matrix cast into MXFP8). -/
def row0 : List (Fp × Option Nat) :=
  ([0x43960000, 0xBDCCCCCD, 0x38D1B717] ++ List.replicate 29 0x3F800000).map (fun v => (fp32Of v, none))

/-- Its scale and its first elements. -/
theorem test_mx_block : (mxBlock 5 row0).1 = 0x7F ∧ (mxBlock 5 row0).2.1.take 4 = [0x79, 0x9D, 0x00, 0x38] := by decide +kernel

/-- That job's descriptor. -/
def castDesc : List Byte :=
  dws [0x00A7000000008500, 0x00007F1004000000, 0x0000012C00000064, 0x4B0, 0x00007F4108000000, 0x00007F4108010000, 0x00007F4108011000] 192

/-- It passes its checks; its twelfth tile's header. -/
theorem test_tile_header : cdCheck castDesc 0x00007F4108012000 false = none ∧ cdTR castDesc * cdTC castDesc = 12 ∧
    (headerBytes castDesc 11 false).take 24 = leBytes 8 0x00A7002C00040005 ++ leBytes 8 0xB ++ leBytes 8 0x80 := by decide +kernel

/-- The scores of four tokens for eight experts (06, four tokens, eight experts). -/
def fourRows : List (List Fp) :=
  let one : Fp := .fin false 1 1
  let two : Fp := .fin false 2 1
  let three : Fp := .fin false 3 1
  let zero : Fp := .fin false 0 1
  [[one, three, two, .nan false, .fin false 1 2, three, .fin true 1 1, zero],
   [zero, .fin false 5 2, zero, zero, zero, .fin false 3 2, zero, zero],
   [zero, .fin false 4 1, one, zero, zero, .fin false 7 2, zero, zero],
   [zero, one, zero, zero, zero, zero, zero, two]]

/-- Ranks and alternates of each token, and the counts after assignment with SECOND_CHOICE. -/
theorem test_route_four : fourRows.map (fun r => (topPicks r 4).map Pick.expert) = [[1, 5, 2, 0], [1, 5, 0, 2], [1, 5, 2, 0], [7, 1, 0, 2]] ∧
    (overflow 1 2 2 (fourRows.map (fun r => topPicks r 4))
      (assign 2 2 (fourRows.map (fun r => topPicks r 4)) (List.replicate 8 0))).counts = [2, 2, 1, 0, 0, 2, 0, 1] := by decide +kernel

/-- Group 3 of targets 4 to 7, and source 0x21 pending (13, choosing targets). -/
def chooser : State :=
  put up [(.EV_CTL_DELIVER_EN, 0, 1), (.EV_GROUP_MEMBERS, 24, 0xF0), (.EV_TGT_EN, 4, 1), (.EV_TGT_EN, 5, 1), (.EV_TGT_EN, 6, 1),
    (.EV_THRESH_THRESH, 4, 2), (.EV_THRESH_INSVC, 5, 0x40), (.EV_TGT_DEST, 6, 0x0A2), (.EV_SRC_PRIO, 0x21, 5),
    (.EV_SRC_GROUP, 0x21, 3), (.EV_SRC_PENDING, 0x21, 1)]

/-- The source goes to target 6, with that message. -/
theorem test_choose_target : chooser.choose = some (0x21, 6) ∧
    (chooser.deliver 0x21 6).rd .EV_THRESH_INSVC 6 = 0x20 ∧ (chooser.deliver 0x21 6).rpri 6 = 6 ∧
    ((chooser.deliver 0x21 6).ev.msgs.map fun m => (m.2.1, leAt m.2.2 0 8)) = [(0x0A2, 0x0001000006050021)] := by decide +kernel

/-- A 40-byte PUT to host physical address 0x40_0000_1038 cut into lines (09, a 40-byte PUT across two lines). -/
theorem test_put_lines : pieces 64 0x00007F1000001038 40 = [(0, 8), (8, 32)] := by decide

/-- Queue 0x3C7 before its doorbell (03, a doorbell that overtakes its entry). -/
def rung : State :=
  put up [(.QCTX_STATE, 0x3C7, 1), (.QCTX_RING_LOG2, 0x3C7, 8), (.QCTX_HEAD, 0x3C7, 5), (.QCTX_TAIL, 0x3C7, 5), (.QCTX_NEXT, 0x3C7, 0x305)]

/-- The doorbell's tail is taken; one with another sequence byte is not. -/
theorem test_doorbell : (rung.doorbell 0x3C7 0x05000006).rd .QCTX_TAIL 0x3C7 = 6 ∧
    (rung.doorbell 0x3C7 0x04000006).rd .QCTX_TAIL 0x3C7 = 5 := by decide +kernel

/-- Epoch 9 and HEADLESS (02, a host crash and a re-attach). -/
def crashed : State :=
  put up [(.HLP_STATUS_HEADLESS, 0, 1), (.HLP_STATUS_ATTACHED, 0, 0), (.HLP_STATUS_CAUSE, 0, 1), (.HLP_STATUS_EPOCH, 0, 9)]

/-- An attach with epoch 9 is taken, one with epoch 8 refused. -/
theorem test_attach : (crashed.attachWrite 8 0x90001).rd .HLP_STATUS_HEADLESS 0 = 0 ∧
    (crashed.attachWrite 8 0x90001).rd .HLP_STATUS_ATTACHED 0 = 1 ∧ (crashed.attachWrite 8 0x80001).rd .HLP_STATUS_HEADLESS 0 = 1 ∧
    (crashed.attachWrite 8 0x80001).rd .HLP_ERR_ATTACH_EPOCH 0 = 1 := by decide +kernel

/-- The FREF of an ATLAS_BIND (17, two binds of one PASID). -/
theorem test_fref : (mail up 2 0x40 [0xC4, 0xA11C, 0x2FFF000000]).fref 2 = (4, 3) := by decide +kernel

/-- Flask 2 owns timelines 1,024 to 2,047, and timeline 1,041 holds 40 (19, a guest wakes a waiting pour). -/
def guest : State :=
  put up [(.FL_STATE, 2, 4), (.FL_TFIRST, 2, 1024), (.FL_TCOUNT_M1, 2, 1023), (.TL_COUNTER, 1041, 40)]

/-- The guest's store sets it to 41. -/
theorem test_guest_store : ∃ t, exec (.timelineStore 1041 0 8 41) guest = .next t ∧ t.rd .TL_COUNTER 1041 = 41 :=
  ⟨_, rfl, by decide +kernel⟩


/-! ## Hypotheses that are met

Each theorem shows, for the statement in its name, a state and operands that meet all hypotheses of each clause. -/

/-- A property of the value of an option, checked. -/
theorem all_some {α : Type} {o : Option α} {P : α → Prop} [DecidablePred P] (h : (o.all fun a => decide (P a)) = true) :
    ∀ y, o = some y → P y := by
  intro y hy
  subst hy
  simpa using h

/-- The outcome of a command is a next state, checked. -/
theorem next_of {o : Host.Outcome State Fault Refusal} {t : State}
    (h : (match o with | .next u => decide (u = t) | _ => false) = true) : o = .next t := by
  cases o <;> simp_all

/-- No value of an option lacks something, checked. -/
theorem none_lacks {o : Option Nat} {P : Nat → Prop} [DecidablePred P] (h : (o.all fun g => decide (¬P g)) = true) :
    ∀ g, ¬(fun g => o = some g ∧ P g) g := by
  intro g hg
  have := hg.1
  subst this
  exact absurd hg.2 (by simpa using h)

/-! ### The host link, windows and broadcasts -/

namespace Link

def exec2S : State := match exec (.snoop 1) up with | .next t => t | _ => {}
def closingW0 : State := { win up 1 1 1 with hlp := { (win up 1 1 1).hlp with closing := [3] } }
def goodWin : State := put up [(.WIN_HBASE, 3, 128), (.WIN_SIZE, 3, 1)]
def closingW : State := { win up 1 1 1 with hlp := { (win up 1 1 1).hlp with closing := [3] } }
def beat : State := put up [(.HLP_CTL_HB_PERIOD,0,3)]
def downS : State := { put up [(.HLP_STATUS_LINK_UP,0,0)] with hlp := { downAt := some 500 } }
def waitsT (s : State) : State := { s with hlp := { s.hlp with filter := [{ line := 5, excl := true }], recalls := [5],
                                                               waits := [{ line := 5, act := .read hostA 3 },
                                                                          { line := 5, act := .own hostA 4 }],
                                                               asleep := [.read hostA 6] } }
def hq : Req := { id := 9, who := .engine 8, ctx := 0, root := none, kind := .read 16, tier := 1, addr := 0 }
def inCtx (s : State) (r : Req) : State := { s with ctxs := [ctx0], reqs := [r], regs := s.regs }
def hw : Req := { hq with kind := .write [(0,1)], ctx := 0 }
def hrec : Req := { hq with who := .seqr 0, kind := .write (cellsAt 0 (List.replicate 32 7)), purpose := .record 5 0 }
def hri : Req := { hq with issued := true }
def hwi : Req := { hw with issued := true }
def atl : State := put up [(.FL_STATE,4,2),(.XL_ATLAS_VALID,7,1),(.XL_ATLAS_PASID,7,5),(.XL_ATLAS_FLASK,7,4)]
def hreq (r : Req) : State := { up with reqs := [r] }
def req0 : Req :=
  { id := 9, who := .engine 1, ctx := 0, root := none, kind := .write [(0,1)], tier := 1, addr := 0, issued := true }
def a4 : State := put up [(.FL_STATE,4,5)]
def a6 : State := put up [(.QN_PHASE,4,3),(.FL_STATE,4,2)]
def a14 : State := put up [(.PEER_NODE_STATE,3,2)]
def a17 : State := { up with xl := { up.xl with ringFull := [4,5] } }
def a20 : State := put up [(.CFG_MSE,0,0)]
def a22 : State := put up [(.RAS_STATUS_PHASE,0,3)]
def a23 : State := put up [(.FL_STATE,4,6),(.XL_FRING_PTRS_RD_IDX,4,6)]
def a24 : State := { put (sealed4 4 up) [(.FL_PROFILE,4,0),(.FL_DEBUG,4,0),(.HAP_STATS_READS,0,9000)] with
                    snap := [(Field.HAP_STATS_READS.key 0, 8200)] }
def a25 : State := { put (sealed4 4 up) [(.FL_PROFILE,4,0),(.FL_DEBUG,4,0)] with snap := [(Field.RT_STATUS_HELD.key 0, 130)] }
def a26 : State := put (sealed4 4 up) [(.FL_PROFILE,4,0),(.FL_DEBUG,4,0),(.LANE_WP_VALUE,8,5)]
def a27 : State := put up [(.CFG_MSE,0,0)]
def a28 : State := put up [(.RAS_STATUS_PHASE,0,6)]
def a29 : State := put up [(.HLP_STATUS_HEADLESS,0,1)]
def a31 : State := put up [(.HLP_STATUS_HEADLESS,0,1)]
def a33 : State := { up with pending := [.snoop 1] }
def a34 : State := { up with sent := [.notHeld 1] }
def a37 : State := win (put up [(.HLP_STATUS_HEADLESS,0,1)]) 1 1 1
def a39 : State := win (put up [(.WIN_OWNED,3,1),(.WIN_FLASK_GEN,3,5)]) 1 1 1
def a40 : State := win (put up [(.SEAL_GRAN_SEAL,0,1)]) 1 1 1
def a41 : State := win up 0 1 1
def a42 : State := win up 1 0 1
def a45 : State := memW (win up 1 0 0)
def a46 : State := memW (win up 0 1 0)
def a47 : State := memW (win up 0 1 0)
def a48 : State := memW (win up 1 0 1)
def a49 : State := memW (win up 0 1 1)
def a50 : State := held (memW (win up 1 1 1)) 0 false
def a51 : State := memW (win up 1 1 1)
def a53 : State := memW (win up 1 1 1)
def a55 : State := recalled (held (memW (win up 1 1 1)) 0 true) 0
def a58 : State := held (memW (win up 1 1 1)) 0 true
def a60 : State := win up 1 1 1
def a63 : State := waitsT (win beat 1 1 1)
def a64 : State := waitsT (win downS 1 1 1)
def a65 : State := put downS [(.HLP_STATUS_HEADLESS,0,1)]
def a66 : State := inCtx beat hq
def a67 : State := inCtx downS hq
def a68 : State := inCtx beat hw
def a69 : State := inCtx downS hw
def a71 : State := { put beat [(.HLP_HOLD_BASE_SIZE,0,1)] with reqs := [hrec] }
def a72 : State := { put downS [(.HLP_HOLD_BASE_SIZE,0,1)] with reqs := [hrec] }
def a73 : State := inCtx beat hri
def a74 : State := inCtx downS hri
def a76 : State := inCtx downS hwi
def a77 : State := put up [(.HLP_STATUS_DETACHING,0,1)]
def a78 : State := put up [(.HLP_STATUS_HEADLESS,0,1),(.HLP_STATUS_ATTACHED,0,0),(.HLP_STATUS_EPOCH,0,3)]
def a79 : State := put up [(.HLP_STATUS_HEADLESS,0,1),(.HLP_STATUS_ATTACHED,0,0),(.HLP_STATUS_EPOCH,0,3)]
def a80 : State := held up 5 true
def a81 : State := hreq req0
def a82 : State := hreq req0

theorem hyps_QueueOfCommands :
    ((exec (Instr.snoop 1) up = Host.Outcome.next exec2S)) ∧
    ((up.pending = [])) := by
  repeat' apply And.intro
  all_goals first | decide +kernel | (apply next_of; decide +kernel)

theorem hyps_RegisterWriteByAccess :
    ((up.hears) ∧
     (okSize 0 8) ∧
     (131104 % 8 = 0) ∧
     (plainOffset 131104 = true) ∧
     (∀ p ∈ fieldsAt 131104, up.flaskHolds p = false)) ∧
    ((a4.hears) ∧
     (4195104 % 8 = 0) ∧
     (plainOffset 4195104 = true) ∧
     (fieldsAt 4195104 ≠ []) ∧
     (∀ p ∈ fieldsAt 4195104, a4.flaskHolds p = true)) ∧
    ((up.hears) ∧
     (okSize 0 8) ∧
     (4259848 = 4259848 ∨ 4259848 = 8441856 ∨ 4259848 = 9437216 ∨ 4259848 = 10485792 ∨ 4259848 % 8 = 0 ∧ 10489856 ≤ 4259848 ∧
       4259848 < 10506240) ∧
     (¬if 4259848 = 4259848 then up.framesUsed sheet1G ≠ 0 ∨ up.framesUsed sheet32M ≠ 0 else if 4259848 = 8441856 then ∃ f ∈
       up.flasks, up.rd Field.QN_PHASE f = qnEXPORTING ∨ up.rd Field.QN_PHASE f = qnIMPORTING else if 4259848 = 9437216 then ∃
       a ∈ up.meter.accs, a.closed ≠ none else if 4259848 = 10485792 then ∃ m ∈ up.moulds.table, m.flask = none else
       up.slotState ((4259848 - 10489856) / 1024) = mbQUEUED ∨ up.slotState ((4259848 - 10489856) / 1024) = mbRUNNING)) ∧
    ((a6.hears) ∧
     (okSize 0 8) ∧
     (8441856 = 4259848 ∨ 8441856 = 8441856 ∨ 8441856 = 9437216 ∨ 8441856 = 10485792 ∨ 8441856 % 8 = 0 ∧ 10489856 ≤ 8441856 ∧
       8441856 < 10506240) ∧
     (if 8441856 = 4259848 then a6.framesUsed sheet1G ≠ 0 ∨ a6.framesUsed sheet32M ≠ 0 else if 8441856 = 8441856 then ∃ f ∈
       a6.flasks, a6.rd Field.QN_PHASE f = qnEXPORTING ∨ a6.rd Field.QN_PHASE f = qnIMPORTING else if 8441856 = 9437216 then ∃
       a ∈ a6.meter.accs, a.closed ≠ none else if 8441856 = 10485792 then ∃ m ∈ a6.moulds.table, m.flask = none else
       a6.slotState ((8441856 - 10489856) / 1024) = mbQUEUED ∨ a6.slotState ((8441856 - 10489856) / 1024) = mbRUNNING)) ∧
    ((up.hears) ∧
     (okSize 0 8) ∧
     (¬∃ n ∈ up.listed Field.PEER_NODE_STATE, up.ndState n = ndATTACHING ∨ up.ndState n = ndATTACHED ∨ up.ndState n =
       ndDETACHING)) ∧
    ((a14.hears) ∧
     (okSize 0 8) ∧
     (∃ n ∈ a14.listed Field.PEER_NODE_STATE, a14.ndState n = ndATTACHING ∨ a14.ndState n = ndATTACHED ∨ a14.ndState n =
       ndDETACHING)) ∧
    ((a17.hears) ∧
     (okSize 0 8) ∧
     (4 < 64) ∧
     (a17.flaskResetting 4 = false)) ∧
    ((a20.on Field.CFG_MSE = false)) ∧
    ((up.on Field.CFG_MSE = true) ∧
     (¬((8 = 4 ∨ 8 = 8) ∧ 131106 % 8 = 0))) ∧
    ((up.on Field.CFG_MSE = true)) ∧
    (((1 = 4 ∨ 1 = 8) ∧ 7602185 % 1 = 0 ∨ 7602176 ≤ 7602185 ∧ 7602185 < 7864320 ∨ up.on Field.CFG_MSE = false)) ∧
    ((¬((8 = 4 ∨ 8 = 8) ∧ 7602172 % 8 = 0)) ∧
     (¬(7602176 ≤ 7602172 ∧ 7602172 < 7864320)) ∧
     (up.on Field.CFG_MSE = true)) ∧
    ((up.on Field.CFG_MSE = true) ∧
     (7602184 % 8 = 0) ∧
     (fieldsAt 7602184 = [])) ∧
    ((up.on Field.CFG_MSE = true) ∧
     (131104 % 8 = 0) ∧
     (∀ p ∈ fieldsAt 131104, up.seen p.1 p.2 < 2 ^ p.1.row.width)) ∧
    ((Field.HLP_ATTACH_EPOCH.row.access = Access.WO)) ∧
    ((Field.LANE_WP_VALUE.row.access ≠ Access.WO) ∧
     (a22.inReset = true) ∧
     (a22.failed = false) ∧
     (shownInReset Field.LANE_WP_VALUE = false)) ∧
    ((Field.XL_FRING_PTRS_RD_IDX.row.access ≠ Access.WO) ∧
     (flaskFields.contains Field.XL_FRING_PTRS_RD_IDX = true) ∧
     (a23.flaskResetting 4 = true)) ∧
    ((Field.HAP_STATS_READS.row.access ≠ Access.WO) ∧
     (a24.inReset = false ∨ a24.failed = true) ∧
     (flaskFields.contains Field.HAP_STATS_READS = false ∨ a24.flaskResetting 0 = false) ∧
     (coarseCounts.contains Field.HAP_STATS_READS = true) ∧
     (a24.coarse = true)) ∧
    ((Field.RT_STATUS_HELD.row.access ≠ Access.WO) ∧
     (a25.inReset = false ∨ a25.failed = true) ∧
     (flaskFields.contains Field.RT_STATUS_HELD = false ∨ a25.flaskResetting 0 = false) ∧
     (coarseOccupancies.contains Field.RT_STATUS_HELD = true) ∧
     (a25.coarse = true)) ∧
    ((Field.LANE_WP_VALUE.row.access ≠ Access.WO) ∧
     (a26.inReset = false ∨ a26.failed = true) ∧
     (flaskFields.contains Field.LANE_WP_VALUE = false ∨ a26.flaskResetting 8 = false) ∧
     (hiddenLane.contains Field.LANE_WP_VALUE = true) ∧
     (a26.groupOwner (8 / 8) = some 4) ∧
     (a26.flaskSealed 4 = true) ∧
     (a26.on Field.FL_DEBUG 4 = false)) ∧
    ((Field.RAS_STATUS_PHASE.row.access ≠ Access.WO) ∧
     (up.inReset = false ∨ up.failed = true) ∧
     (flaskFields.contains Field.RAS_STATUS_PHASE = false ∨ up.flaskResetting 0 = false) ∧
     ((coarseCounts ++ coarseOccupancies ++ coarseQueue ++ hiddenLane ++ hiddenCtx ++
        [Field.SEQ_CTX_STATE, Field.RT_LAST_RECORD]).contains Field.RAS_STATUS_PHASE = false)) := by
  repeat' apply And.intro
  all_goals first | decide +kernel | (apply Or.inl; constructor <;> decide +kernel)

theorem hyps_RegisterWriteRefused :
    ((32 / 8 * 8 ≠ 65576) ∧
     (32 / 8 * 8 ≠ 9437224) ∧
     (¬(5309184 ≤ 32 / 8 * 8 ∧ 32 / 8 * 8 < 5309696)) ∧
     (a27.on Field.CFG_MSE = false)) ∧
    ((2097152 / 8 * 8 ≠ 65576) ∧
     (2097152 / 8 * 8 ≠ 9437224) ∧
     (¬(5309184 ≤ 2097152 / 8 * 8 ∧ 2097152 / 8 * 8 < 5309696)) ∧
     (a28.on Field.CFG_MSE = true) ∧
     (a28.ready = false) ∧
     (2097152 / 8 * 8 ≠ 10485760) ∧
     (isRegister (2097152 / 8 * 8) = true) ∧
     ((a28.blockReset && (8 == 4 || 8 == 8) && 2097152 % 8 == 0 && (2097152 / 8 * 8 == 56 || timelineAt (2097152 / 8 * 8))) =
       false)) ∧
    ((2097152 / 8 * 8 ≠ 65576) ∧
     (2097152 / 8 * 8 ≠ 9437224) ∧
     (¬(5309184 ≤ 2097152 / 8 * 8 ∧ 2097152 / 8 * 8 < 5309696)) ∧
     (a29.on Field.CFG_MSE = true) ∧
     (a29.ready = true) ∧
     (a29.hostAway = true) ∧
     (2097152 / 8 * 8 ≠ 65560) ∧
     (2097152 / 8 * 8 ≠ 65608) ∧
     (isRegister (2097152 / 8 * 8) = true)) ∧
    ((12296 / 8 * 8 ≠ 65576) ∧
     (12296 / 8 * 8 ≠ 9437224) ∧
     (¬(5309184 ≤ 12296 / 8 * 8 ∧ 12296 / 8 * 8 < 5309696)) ∧
     (a31.on Field.CFG_MSE = true) ∧
     (a31.ready = false ∨ a31.hostAway = true) ∧
     (12296 / 8 * 8 ≠ 10485760) ∧
     (isRegister (12296 / 8 * 8) = false)) ∧
    ((2097152 / 8 * 8 ≠ 65576) ∧
     (2097152 / 8 * 8 ≠ 9437224) ∧
     (¬(5309184 ≤ 2097152 / 8 * 8 ∧ 2097152 / 8 * 8 < 5309696)) ∧
     (up.hears) ∧
     (2 ≠ 4 ∧ 2 ≠ 8 ∨ 2097152 % 2 ≠ 0)) := by
  repeat' apply And.intro
  all_goals first | decide +kernel | (apply Or.inl; constructor <;> decide +kernel)

theorem hyps_EveryStepKeepsInvariant :
    ((step a33 = Host.Outcome.next a34)) := by
  repeat' apply And.intro
  all_goals first | (apply next_of; decide +kernel)

theorem hyps_ConfigWritesAndHostMessages :
    ((2 = 2 ∨ 2 = 4)) ∧
    ((2 ≠ 1 ∧ 2 ≠ 2 ∧ 2 ≠ 4 ∨ 4 < 3 % 4 + 2)) := by
  repeat' apply And.intro
  all_goals decide +kernel

theorem hyps_WindowAccessRefusals :
    ((up.ready = true) ∧
     (up.windowAt hostA = none)) ∧
    ((closingW0.ready = true) ∧
     (closingW0.windowAt hostA = some 3) ∧
     (closingW0.hlp.closing.contains 3 = true ∨ closingW0.inStore (closingW0.winAddr 3 hostA) = true)) ∧
    ((a37.ready = true) ∧
     (a37.windowAt hostA = some 3) ∧
     (a37.hlp.closing.contains 3 = false) ∧
     (a37.inStore (a37.winAddr 3 hostA) = false) ∧
     (a37.hostAway = true)) ∧
    ((a39.ready = true) ∧
     (a39.windowAt hostA = some 3) ∧
     (a39.hlp.closing.contains 3 = false) ∧
     (a39.inStore (a39.winAddr 3 hostA) = false) ∧
     (a39.hostAway = false) ∧
     ((a39.on Field.WIN_OWNED 3 && a39.rd Field.WIN_FLASK_GEN 3 != a39.flaskGen (a39.rd Field.WIN_FLASK 3)) = true)) ∧
    ((a40.ready = true) ∧
     (a40.windowAt hostA = some 3) ∧
     (a40.hlp.closing.contains 3 = false) ∧
     (a40.inStore (a40.winAddr 3 hostA) = false) ∧
     (a40.hostAway = false) ∧
     ((a40.on Field.WIN_OWNED 3 && a40.rd Field.WIN_FLASK_GEN 3 != a40.flaskGen (a40.rd Field.WIN_FLASK 3)) = false) ∧
     (a40.granSealed (a40.winAddr 3 hostA / granule) = true)) ∧
    ((a41.ready = true) ∧
     (a41.windowAt hostA = some 3) ∧
     (a41.hlp.closing.contains 3 = false) ∧
     (a41.inStore (a41.winAddr 3 hostA) = false) ∧
     (a41.hostAway = false) ∧
     ((a41.on Field.WIN_OWNED 3 && a41.rd Field.WIN_FLASK_GEN 3 != a41.flaskGen (a41.rd Field.WIN_FLASK 3)) = false) ∧
     (a41.granSealed (a41.winAddr 3 hostA / granule) = false) ∧
     (a41.on Field.WIN_RD 3 = false)) ∧
    ((a42.ready = true) ∧
     (a42.windowAt hostA = some 3) ∧
     (a42.hlp.closing.contains 3 = false) ∧
     (a42.inStore (a42.winAddr 3 hostA) = false) ∧
     (a42.hostAway = false) ∧
     ((a42.on Field.WIN_OWNED 3 && a42.rd Field.WIN_FLASK_GEN 3 != a42.flaskGen (a42.rd Field.WIN_FLASK 3)) = false) ∧
     (a42.granSealed (a42.winAddr 3 hostA / granule) = false) ∧
     (a42.on Field.WIN_WR 3 = false)) := by
  repeat' apply And.intro
  all_goals decide +kernel

theorem hyps_WindowReadsGiveTheLine :
    ((a45.windowAt hostA = some 3) ∧
     (a45.credit Pool.window = true) ∧
     (a45.drowse = false) ∧
     (a45.winRefusal hostA false = none) ∧
     (a45.on Field.WIN_COHERENT 3 = false) ∧
     (a45.hostExcl (lineOf (a45.winAddr 3 hostA)) = false)) ∧
    ((a46.windowAt hostA = some 3) ∧
     (a46.credit Pool.window = true) ∧
     (a46.drowse = false) ∧
     (a46.winRefusal hostA true = none) ∧
     (a46.on Field.WIN_COHERENT 3 = false) ∧
     (a46.hostExcl (lineOf (a46.winAddr 3 hostA)) = false)) ∧
    ((a47.windowAt hostA = some 3) ∧
     (a47.credit Pool.window = true) ∧
     (a47.drowse = false) ∧
     (a47.winRefusal hostA true = none) ∧
     (a47.on Field.WIN_COHERENT 3 = false) ∧
     (a47.hostExcl (lineOf (a47.winAddr 3 hostA)) = false)) ∧
    ((a48.windowAt hostA = some 3) ∧
     (a48.credit Pool.window = true) ∧
     (a48.drowse = false) ∧
     (a48.on Field.WIN_COHERENT 3 = true) ∧
     (a48.hlp.recalls.contains (lineOf (a48.winAddr 3 hostA)) = false) ∧
     (a48.filterVictim (lineOf (a48.winAddr 3 hostA)) = none) ∧
     (a48.winRefusal hostA false = none) ∧
     (a48.hostExcl (lineOf (a48.winAddr 3 hostA)) = false)) ∧
    ((a49.windowAt hostA = some 3) ∧
     (a49.credit Pool.window = true) ∧
     (a49.drowse = false) ∧
     (a49.on Field.WIN_COHERENT 3 = true) ∧
     (a49.hlp.recalls.contains (lineOf (a49.winAddr 3 hostA)) = false) ∧
     (a49.filterVictim (lineOf (a49.winAddr 3 hostA)) = none) ∧
     (a49.winRefusal hostA true = none) ∧
     (a49.hostHeld (lineOf (a49.winAddr 3 hostA)) = false)) ∧
    ((a50.windowAt hostA = some 3) ∧
     (a50.credit Pool.window = true) ∧
     (a50.drowse = false) ∧
     (a50.on Field.WIN_COHERENT 3 = true) ∧
     (a50.hlp.recalls.contains (lineOf (a50.winAddr 3 hostA)) = false) ∧
     (a50.filterVictim (lineOf (a50.winAddr 3 hostA)) = none) ∧
     (a50.winRefusal hostA true = none) ∧
     (a50.hostHeld (lineOf (a50.winAddr 3 hostA)) = true) ∧
     (a50.hostExcl (lineOf (a50.winAddr 3 hostA)) = false) ∧
     (a50.sharersOf (lineOf (a50.winAddr 3 hostA)) ≤ 1)) ∧
    ((a51.windowAt hostA = some 3) ∧
     (a51.credit Pool.window = true) ∧
     (a51.drowse = false) ∧
     (a51.on Field.WIN_COHERENT 3 = true) ∧
     (a51.hlp.recalls.contains (lineOf (a51.winAddr 3 hostA)) = false) ∧
     (a51.filterVictim (lineOf (a51.winAddr 3 hostA)) = none) ∧
     (a51.winRefusal hostA true = none) ∧
     (a51.hostHeld (lineOf (a51.winAddr 3 hostA)) = false)) := by
  repeat' apply And.intro
  all_goals decide +kernel

theorem hyps_WriteBacksAndRecalls :
    ((a53.windowAt hostA = some 3) ∧
     (a53.ready = true) ∧
     (a53.winRefusal hostA true = none) ∧
     (a53.credit Pool.window = true) ∧
     (a53.drowse = false) ∧
     (a53.hostHeld (lineOf (a53.winAddr 3 hostA)) = true → a53.on Field.WIN_COHERENT 3 = true ∧ a53.hostExcl
       (lineOf (a53.winAddr 3 hostA)) = true) ∧
     (a53.winAddr 3 hostA % 64 + [1, 2, 3].length ≤ 64) ∧
     (a53.winAddr 3 hostA / 64 * 64 + 64 ≤ hbmSize)) ∧
    ((a55.hlp.recalls.contains 0 = true) ∧
     (∀ w ∈ a55.hlp.waits, w.line ≠ 0) ∧
     (a55.hlp.soft.contains 0 = true → a55.mustGo 0 = false)) ∧
    ((a58.hlp.recalls.contains 0 = false)) := by
  repeat' apply And.intro
  all_goals decide +kernel

theorem hyps_WindowControl :
    ((goodWin.hears) ∧
     (3 < 256) ∧
     (goodWin.on Field.WIN_EN 3 = false) ∧
     ((goodWin.regWrite (69648 + 32 * 3) 8 0 ((2 ^ 32 + 15) % 2 ^ 64)).winOk 3 = true)) ∧
    ((goodWin.hears) ∧
     (3 < 256) ∧
     (goodWin.on Field.WIN_EN 3 = false) ∧
     ((goodWin.regWrite (69648 + 32 * 3) 8 0 (15 % 2 ^ 64)).winOk 3 = false) ∧
     ((goodWin.regWrite (69648 + 32 * 3) 8 0 (15 % 2 ^ 64)).on Field.WIN_EN 3 = true)) ∧
    ((a60.hears) ∧
     (3 < 256) ∧
     (a60.on Field.WIN_EN 3 = true) ∧
     (a60.hlp.closing.contains 3 = false) ∧
     (0 % 2 = 0)) ∧
    ((closingW.hlp.closing.contains 3 = true) ∧
     (closingW.hlp.waits = []) ∧
     (closingW.heldIn (closingW.winRange 3).1 (closingW.winRange 3).2 = [])) := by
  repeat' apply And.intro
  all_goals decide +kernel

theorem hyps_HeartbeatAndReadIndexes :
    ((up.hears) ∧
     (okSize 0 8)) ∧
    ((up.hears)) ∧
    ((up.hears)) ∧
    ((up.hears) ∧
     (5 < 64) ∧
     (∀ p ∈ fieldsAt (5309184 + 8 * 5), up.flaskHolds p = false) ∧
     (up.cast.egress = [])) ∧
    ((up.hears)) := by
  repeat' apply And.intro
  all_goals first | decide +kernel | exact Or.inl ⟨rfl, rfl⟩

theorem hyps_TheLinkAndItsLoss :
    ((beat.ready = true) ∧
     (beat.reqs = []) ∧
     (beat.hlp.waits = []) ∧
     (beat.hlp.asleep = []) ∧
     (beat.hostAway = false) ∧
     (beat.rd Field.HLP_CTL_HB_PERIOD ≠ 0)) ∧
    ((downS.ready = true) ∧
     (downS.reqs = []) ∧
     (downS.hlp.waits = []) ∧
     (downS.hlp.asleep = []) ∧
     (downS.hlp.downAt = some 500) ∧
     (downS.headless = false)) ∧
    ((a63.ready = true) ∧
     (a63.reqs = []) ∧
     (List.map LineWait.act a63.hlp.waits ++ a63.hlp.asleep ≠ []) ∧
     (∀ a ∈ List.map LineWait.act a63.hlp.waits ++ a63.hlp.asleep, a.ofHost = true) ∧
     (a63.hostAway = false) ∧
     (a63.rd Field.HLP_CTL_HB_PERIOD ≠ 0)) ∧
    ((a64.ready = true) ∧
     (a64.reqs = []) ∧
     (List.map LineWait.act a64.hlp.waits ++ a64.hlp.asleep ≠ []) ∧
     (∀ a ∈ List.map LineWait.act a64.hlp.waits ++ a64.hlp.asleep, a.ofHost = true) ∧
     (a64.hlp.downAt = some 500) ∧
     (a64.headless = false)) ∧
    ((a65.ready = true) ∧
     (a65.hlp.downAt = some 500) ∧
     (a65.headless = true)) ∧
    ((a66.ready = true) ∧
     (a66.reqs = [hq]) ∧
     (hq.tier = 1) ∧
     (hq.fin = none) ∧
     (hq.parts = []) ∧
     (a66.hlp.waits = []) ∧
     (a66.hlp.asleep = []) ∧
     (hq.issued = false) ∧
     (hq.isWrite = false) ∧
     (hq.purpose = Purpose.plain) ∧
     (a66.hostAway = false) ∧
     (a66.rd Field.HLP_CTL_HB_PERIOD ≠ 0)) ∧
    ((a67.ready = true) ∧
     (a67.reqs = [hq]) ∧
     (hq.tier = 1) ∧
     (hq.fin = none) ∧
     (hq.parts = []) ∧
     (a67.hlp.waits = []) ∧
     (a67.hlp.asleep = []) ∧
     (hq.issued = false) ∧
     (hq.isWrite = false) ∧
     (hq.purpose = Purpose.plain) ∧
     (a67.hlp.downAt = some 500) ∧
     (a67.headless = false)) ∧
    ((a68.ready = true) ∧
     (a68.reqs = [hw]) ∧
     (hw.tier = 1) ∧
     (hw.fin = none) ∧
     (hw.parts = []) ∧
     (a68.hlp.waits = []) ∧
     (a68.hlp.asleep = []) ∧
     (hw.issued = false) ∧
     (hw.isWrite = true) ∧
     (hw.purpose = Purpose.plain) ∧
     (a68.fences = []) ∧
     (a68.hostAway = false) ∧
     (a68.rd Field.HLP_CTL_HB_PERIOD ≠ 0)) ∧
    ((a69.ready = true) ∧
     (a69.reqs = [hw]) ∧
     (hw.tier = 1) ∧
     (hw.fin = none) ∧
     (hw.parts = []) ∧
     (a69.hlp.waits = []) ∧
     (a69.hlp.asleep = []) ∧
     (hw.issued = false) ∧
     (hw.isWrite = true) ∧
     (hw.purpose = Purpose.plain) ∧
     (a69.fences = []) ∧
     (a69.hlp.downAt = some 500) ∧
     (a69.headless = false)) ∧
    ((a71.ready = true) ∧
     (a71.reqs = [hrec]) ∧
     (hrec.tier = 1) ∧
     (hrec.fin = none) ∧
     (hrec.parts = []) ∧
     (a71.hlp.waits = []) ∧
     (a71.hlp.asleep = []) ∧
     (hrec.issued = false) ∧
     (hrec.kind = ReqKind.write (cellsAt 0 (List.replicate 32 7))) ∧
     (hrec.purpose = Purpose.record 5 0) ∧
     (a71.holdFull = false) ∧
     (a71.hlp.holdWait = []) ∧
     (a71.hlp.filter = []) ∧
     (a71.hostAway = false) ∧
     (a71.rd Field.HLP_CTL_HB_PERIOD ≠ 0)) ∧
    ((a72.ready = true) ∧
     (a72.reqs = [hrec]) ∧
     (hrec.tier = 1) ∧
     (hrec.fin = none) ∧
     (hrec.parts = []) ∧
     (a72.hlp.waits = []) ∧
     (a72.hlp.asleep = []) ∧
     (hrec.issued = false) ∧
     (hrec.kind = ReqKind.write (cellsAt 0 (List.replicate 32 7))) ∧
     (hrec.purpose = Purpose.record 5 0) ∧
     (a72.holdFull = false) ∧
     (a72.hlp.holdWait = []) ∧
     (a72.hlp.filter = []) ∧
     (a72.hlp.downAt = some 500) ∧
     (a72.headless = false)) ∧
    ((a73.ready = true) ∧
     (a73.reqs = [hri]) ∧
     (hri.tier = 1) ∧
     (hri.fin = none) ∧
     (hri.parts = []) ∧
     (a73.hlp.waits = []) ∧
     (a73.hlp.asleep = []) ∧
     (hri.issued = true) ∧
     (a73.on Field.HLP_STATUS_LINK_UP = true) ∧
     (a73.hostAway = false) ∧
     (a73.rd Field.HLP_CTL_HB_PERIOD ≠ 0)) ∧
    ((a74.ready = true) ∧
     (a74.reqs = [hri]) ∧
     (hri.tier = 1) ∧
     (hri.fin = none) ∧
     (hri.parts = []) ∧
     (a74.hlp.waits = []) ∧
     (a74.hlp.asleep = []) ∧
     (hri.issued = true) ∧
     (a74.on Field.HLP_STATUS_LINK_UP = false) ∧
     (hri.isWrite = false) ∧
     (hri.purpose = Purpose.plain) ∧
     (a74.hlp.downAt = some 500) ∧
     (a74.headless = false)) ∧
    ((a76.ready = true) ∧
     (a76.reqs = [hwi]) ∧
     (hwi.tier = 1) ∧
     (hwi.fin = none) ∧
     (hwi.parts = []) ∧
     (a76.hlp.waits = []) ∧
     (a76.hlp.asleep = []) ∧
     (hwi.issued = true) ∧
     (a76.on Field.HLP_STATUS_LINK_UP = false) ∧
     (hwi.isWrite = true) ∧
     (hwi.purpose = Purpose.plain) ∧
     (a76.fences = []) ∧
     (a76.hlp.downAt = some 500) ∧
     (a76.headless = false)) ∧
    ((a77.reqs = []) ∧
     (a77.qm.fetches = []) ∧
     (a77.hlp.waits = []) ∧
     (a77.hlp.asleep = []) ∧
     (a77.hlp.filter = []) ∧
     (a77.hlp.recalls = []) ∧
     (a77.on Field.HLP_STATUS_DETACHING = true) ∧
     (a77.on Field.HLP_STATUS_LINK_UP = true)) ∧
    ((up.rd Field.RAS_STATUS_PHASE ≠ 0)) ∧
    ((up.on Field.HLP_STATUS_LINK_UP = true) ∧
     (up.headless = false)) := by
  repeat' apply And.intro
  all_goals decide +kernel

theorem hyps_AttachAndDetach :
    ((a78.on Field.CFG_MSE = true) ∧
     (a78.ready = true) ∧
     (bits 196609 0 2 = 1) ∧
     (a78.headless = true) ∧
     (bits 196609 16 16 = a78.rd Field.HLP_STATUS_EPOCH) ∧
     (a78.on Field.CFG_BME = true)) ∧
    ((a79.on Field.CFG_MSE = true) ∧
     (a79.ready = true) ∧
     (bits 131073 0 2 = 1) ∧
     (a79.headless = false ∨ bits 131073 16 16 ≠ a79.rd Field.HLP_STATUS_EPOCH ∨ a79.on Field.CFG_BME = false)) ∧
    ((a80.hears) ∧
     (bits 2 0 2 = 2) ∧
     (a80.listed Field.EV_SRC_ACTIVE = []) ∧
     (a80.hlp.asleep = [])) := by
  repeat' apply And.intro
  all_goals decide +kernel

theorem hyps_BroadcastsAndAcknowledgements :
    ((up.credit Pool.invalidation = true) ∧
     (up.slotOfPasid 5 = none)) ∧
    ((atl.credit Pool.invalidation = true) ∧
     (atl.slotOfPasid 5 = some 7)) ∧
    ((atl.credit Pool.invalidation = true)) ∧
    ((a81.req? 9 = some req0) ∧
     (req0.issued = true) ∧
     (req0.isWrite = true) ∧
     (req0.tier = 1) ∧
     (req0.purpose = Purpose.plain) ∧
     (a81.fences = [])) ∧
    ((a82.req? 9 = some req0) ∧
     (req0.issued = true) ∧
     (req0.isWrite = true) ∧
     (req0.tier = 1) ∧
     (req0.purpose = Purpose.plain) ∧
     (a82.fences = [])) := by
  repeat' apply And.intro
  all_goals decide +kernel

end Link

/-! ### Queues, moulds and their cache -/

namespace Queues

def q5 : State := queue5 up
def g0 : Guard := { queue := 5, t0 := 10, count := 3, lastAt := 20 }
def guarded (g : Guard) : State := { put q5 [(.QCTX_TAIL,5,9)] with qm := { guards := [g] } }
def f0 : Fetch := { id := 30, queue := 5, slot := 0, seq := 1, reread := false }
def slotS (l : List Nat) : State := { laid q5 (0x10200*4096) (dws l 64) with qm := { fetches := [f0] } }
def f1 : Fetch := { id := 31, queue := 5, slot := 1, seq := 2, reread := false }
def slotTwo : State := { laid q5 (0x10200*4096) (dws [1 + 2^32, 0, 77] 64) with qm := { fetches := [f0, f1] } }
def slotG (l : List Nat) (g : Guard) : State := { slotS l with qm := { fetches := [f0], guards := [g] } }
def g16 : Guard := { g0 with count := 16 }
def e0 : Entry := { queue := 5, slot := 0, seq := 1, mould := 1, mgen := 2, bank := 1, ordered := false, ticket := 77 }
def grantS (e : Entry) : State :=
  { put (before ctx0 []) [(.QM_CTL_ADMIT_EN,0,1),(.QM_STATUS_TOKENS,0,2)] with ctxs := [], qm := { entries := [e] } }
def sel (s : State) : State := (s.select.map Prod.snd).getD s
def e1 : Entry := { e0 with mgen := 3 }
def xg : Ctx := { ctx0 with st := .gates, gates := [], pass := [(3, 9)] }
def qc (cfg : Nat) : State := mail (flask4 up) 2 0x20 [4 + 5 * 2^16, 0x10200000, 0x10210000, cfg, 5, 0, 1]
def mq (s : State) (op p : Nat) : State := mail s 2 op [p]
def des0 : Destroy := { queue := 5, slots := [2, 3], count := 4, first := 9, abort := false }
def desS (s : State) : State := { put s [(.QCTX_STATE,5,3),(.QCTX_GEN,5,255)] with qm := { s.qm with destroys := [des0] } }
def un (s : State) (p1 : Nat) : State := mail s 2 0x31 [4, p1]
def noCtx (s : State) : State := { s with ctxs := [] }
def xf : Ctx := { ctx0 with st := .waitFetch }
def fill0 : Fill := { idx := 1, gen := 2, seg := 0, waiters := [0] }
def filling (f : Fill) : State := { before xf [] with moulds := { table := [mould1], gens := [(1,2)], fills := [f] } }
def fill1 : Fill := { fill0 with keep := false }
def b5 : State := put q5 [(.QCTX_TAIL,5,9)]
def b6 : State := guarded g0
def b7 : State := slotS [1 + 2^32, 0, 77]
def b8 : State := slotS [2]
def b9 : State := slotG [2] g0
def b10 : State := slotG [2] g16
def b11 : State := slotS [1, 2^9]
def b12 : State := slotS [1]
def b13 : State := slotS [1]
def b16 : State := put up [(.RAS_STATUS_PHASE,0,1)]
def b17 : State := grantS e0
def b18 : State := sel (grantS e0)
def b19 : State := grantS e1
def b20 : State := sel (grantS e1)
def b27 : State := before xg []
def b28 : State := before xg []
def b31 : State := qc (6 + 2^16 + 4*2^24)
def b32 : State := qc (5 + 2^16 + 4*2^24)
def b33 : State := mq (put q5 [(.QCTX_STATE,5,2)]) 0x21 (5 * 2^16 + 2^28)
def b34 : State := mq q5 0x21 (5 * 2^16)
def b35 : State := mq (put q5 [(.QCTX_STATE,5,2),(.QCTX_ERR_CODE,5,1),(.QCTX_TAIL,5,3)]) 0x21 (5 * 2^16)
def b36 : State := mq (before ctx0 []) 0x23 (5 * 2^52 + 9)
def b37 : State := mq (before ctx0 []) 0x23 (5 * 2^52 + 1)
def b38 : State := mq q5 0x22 (5 * 2^16 + 2^28)
def b40 : State := mq { put q5 [(.QCTX_POURS,5,1)] with qm := { entries := [e0], fetches := [f0] } } 0x22 (5 * 2^16 + 2^48)
def b42 : State := mq (put (before ctx0 []) [(.QCTX_GEN,5,3)]) 0x23 (5 * 2^52 + 1)
def b44 : State := desS (before ctx0 [])
def b45 : State := desS q5
def b48 : State := un (before ctx0 []) (1 + 2 * 2^20)
def b49 : State := un (noCtx (before ctx0 [])) (1 + 2 * 2^20)
def b50 : State := filling fill0
def b51 : State := filling fill1
def b52 : State := filling fill0
def b53 : State := before ctx0 []
def b55 : State := before ctx0 []
def b56 : State := memW up

theorem hyps_DoorbellActsByTheTable :
    ((q5.hears) ∧
     (q5.drowse = false) ∧
     (5 < 4096)) := by
  repeat' apply And.intro
  all_goals decide +kernel

theorem hyps_EntriesAreFetched :
    ((b5.mayFetch 5 = true ∧ b5.guardOf 5 = none ∧ b5.rd Field.QCTX_TAIL 5 ≠
       (b5.rd Field.QCTX_HEAD 5 + (b5.fetchesOf 5).length) % b5.qLen 5 ∧ (b5.fetchesOf 5).length + (b5.entriesOf 5).length < 2)) ∧
    ((¬(q5.mayFetch 5 = true ∧ q5.guardOf 5 = none ∧ q5.rd Field.QCTX_TAIL 5 ≠
         (q5.rd Field.QCTX_HEAD 5 + (q5.fetchesOf 5).length) % q5.qLen 5 ∧ (q5.fetchesOf 5).length + (q5.entriesOf 5).length <
         2))) ∧
    ((b6.guardOf 5 = some g0) ∧
     (b6.mayFetch 5 = true) ∧
     (b6.fetchesOf 5 = []) ∧
     (g0.count < 16)) := by
  repeat' apply And.intro
  all_goals decide +kernel

theorem hyps_FetchedEntryIsChecked :
    ((List.find? (fun x => x.id == 30) b7.qm.fetches = some f0) ∧
     (f0.back = none) ∧
     (f0.slot = b7.rd Field.QCTX_HEAD f0.queue) ∧
     (∀ x ∈ b7.qm.fetches, x.queue = f0.queue → x.id ≠ 30 → x.back = none ∧ x.slot ≠ f0.slot) ∧
     (leAt (b7.slotBytes f0 []) 0 4 = f0.seq % 2 ^ 32) ∧
     (entryReserved (b7.slotBytes f0 []) = false)) ∧
    ((List.find? (fun x => x.id == 30) b8.qm.fetches = some f0) ∧
     (f0.back = none) ∧
     (f0.slot = b8.rd Field.QCTX_HEAD f0.queue) ∧
     (∀ x ∈ b8.qm.fetches, x.queue = f0.queue → x.id ≠ 30 → x.back = none ∧ x.slot ≠ f0.slot) ∧
     (leAt (b8.slotBytes f0 []) 0 4 ≠ f0.seq % 2 ^ 32) ∧
     (b8.guardOf f0.queue = none)) ∧
    ((List.find? (fun x => x.id == 31) slotTwo.qm.fetches = some f1) ∧
     (f1.back = none) ∧
     (f1.slot ≠ slotTwo.rd Field.QCTX_HEAD f1.queue) ∧
     (∀ x ∈ slotTwo.qm.fetches, x.queue = f1.queue → x.back = none)) ∧
    ((List.find? (fun x => x.id == 30) b9.qm.fetches = some f0) ∧
     (f0.back = none) ∧
     (f0.slot = b9.rd Field.QCTX_HEAD f0.queue) ∧
     (∀ x ∈ b9.qm.fetches, x.queue = f0.queue → x.id ≠ 30 → x.back = none ∧ x.slot ≠ f0.slot) ∧
     (leAt (b9.slotBytes f0 []) 0 4 ≠ f0.seq % 2 ^ 32) ∧
     (b9.guardOf f0.queue = some g0) ∧
     (g0.count < 16)) ∧
    ((List.find? (fun x => x.id == 30) b10.qm.fetches = some f0) ∧
     (f0.back = none) ∧
     (f0.slot = b10.rd Field.QCTX_HEAD f0.queue) ∧
     (∀ x ∈ b10.qm.fetches, x.queue = f0.queue → x.id ≠ 30 → x.back = none ∧ x.slot ≠ f0.slot) ∧
     (leAt (b10.slotBytes f0 []) 0 4 ≠ f0.seq % 2 ^ 32) ∧
     (b10.guardOf f0.queue = some g16) ∧
     (16 ≤ g16.count)) ∧
    ((List.find? (fun x => x.id == 30) b11.qm.fetches = some f0) ∧
     (f0.back = none) ∧
     (f0.slot = b11.rd Field.QCTX_HEAD f0.queue) ∧
     (∀ x ∈ b11.qm.fetches, x.queue = f0.queue → x.id ≠ 30 → x.back = none ∧ x.slot ≠ f0.slot) ∧
     (leAt (b11.slotBytes f0 []) 0 4 = f0.seq % 2 ^ 32) ∧
     (entryReserved (b11.slotBytes f0 []) = true)) ∧
    ((List.find? (fun x => x.id == 30) b12.qm.fetches = some f0) ∧
     (f0.back = none) ∧
     (f0.slot = b12.rd Field.QCTX_HEAD f0.queue) ∧
     (∀ x ∈ b12.qm.fetches, x.queue = f0.queue → x.id ≠ 30 → x.back = none ∧ x.slot ≠ f0.slot)) ∧
    ((List.find? (fun x => x.id == 30) b13.qm.fetches = some f0) ∧
     (f0.back = none) ∧
     (f0.slot = b13.rd Field.QCTX_HEAD f0.queue) ∧
     (∀ x ∈ b13.qm.fetches, x.queue = f0.queue → x.id ≠ 30 → x.back = none ∧ x.slot ≠ f0.slot)) := by
  repeat' apply And.intro
  all_goals decide +kernel

theorem hyps_TokensAndGrants :
    ((up.ready = true)) ∧
    ((b16.ready = false)) ∧
    ((b17.ready = true) ∧
     (b17.drowse = false) ∧
     (b17.power = none) ∧
     (b17.loading = false) ∧
     (b17.on Field.QM_CTL_ADMIT_EN = true) ∧
     (0 < b17.rd Field.QM_STATUS_TOKENS) ∧
     (b17.select = some (5, b18)) ∧
     (b17.oldest 5 = some e0) ∧
     (b17.ctxFor 3 5 = true) ∧
     (b17.badMould e0 (b17.rd Field.QCTX_FLASK 5) = none) ∧
     (b17.mould? e0.mould e0.mgen = some mould1)) ∧
    ((b19.ready = true) ∧
     (b19.drowse = false) ∧
     (b19.power = none) ∧
     (b19.loading = false) ∧
     (b19.on Field.QM_CTL_ADMIT_EN = true) ∧
     (0 < b19.rd Field.QM_STATUS_TOKENS) ∧
     (b19.select = some (5, b20)) ∧
     (b19.oldest 5 = some e1) ∧
     (b19.ctxFor 3 5 = true) ∧
     (b19.badMould e1 (b19.rd Field.QCTX_FLASK 5) = some 1) ∧
     (e1.queue = 5)) := by
  repeat' apply And.intro
  all_goals decide +kernel

theorem hyps_GateCopyIsClamped :
    ((b27.ctx? 0 = some xg) ∧
     (xg.st = CtxState.gates) ∧
     (xg.gates = []) ∧
     (b27.mould? xg.mould xg.mgen = some mould1)) ∧
    ((b28.ctx? 0 = some xg) ∧
     (xg.st = CtxState.gates) ∧
     (xg.gates = []) ∧
     (b28.mould? xg.mould xg.mgen = some mould1) ∧
     (xg.mgmt = false) ∧
     ((∃ l, Ret.poison 3 = Ret.poison l) ∨ Ret.poison 3 = Ret.error)) := by
  repeat' apply And.intro
  all_goals first | decide +kernel | exact Or.inl ⟨_, rfl⟩ | exact Or.inr rfl

theorem hyps_QueuesComeAndGo :
    ((b31.starts 2 32) ∧
     ((b31.begun 2).queueCreateFails 2 = none)) ∧
    ((b32.starts 2 32) ∧
     ((b32.begun 2).queueCreateFails 2 = some 3)) ∧
    ((b36.starts 2 35) ∧
     (bits (b36.par 2 0) 44 8 = b36.rd Field.QCTX_GEN (bits (b36.par 2 0) 52 12)) ∧
     (List.find? (fun x => x.depth == 0 && !x.mgmt && x.pour.word == b36.par 2 0) b36.ctxs = none)) ∧
    ((b37.starts 2 35) ∧
     (bits (b37.par 2 0) 44 8 = b37.rd Field.QCTX_GEN (bits (b37.par 2 0) 52 12)) ∧
     (List.find? (fun x => x.depth == 0 && !x.mgmt && x.pour.word == b37.par 2 0) b37.ctxs = some ctx0) ∧
     (b37.ctx? ctx0.num = some ctx0) ∧
     (ctx0.cause = none) ∧
     (ctx0.stamp = Stamp.none)) ∧
    ((b38.starts 2 34) ∧
     (bits (b38.par 2 0) 28 8 ≠ b38.rd Field.QCTX_GEN (bits (b38.par 2 0) 16 12) ∨ b38.qState (bits (b38.par 2 0) 16 12) =
       qFREE)) ∧
    ((b40.starts 2 34) ∧
     (bits (b40.par 2 0) 28 8 = b40.rd Field.QCTX_GEN (bits (b40.par 2 0) 16 12)) ∧
     (b40.qState (bits (b40.par 2 0) 16 12) ≠ qFREE) ∧
     (List.find? (fun d => d.queue == bits (b40.par 2 0) 16 12) b40.qm.destroys = none)) ∧
    ((b42.starts 2 35) ∧
     (bits (b42.par 2 0) 44 8 ≠ b42.rd Field.QCTX_GEN (bits (b42.par 2 0) 52 12))) ∧
    ((b44.qm.destroys = [des0]) ∧
     (∀ n ∈ des0.slots, n < 16) ∧
     (((b44.ctxs.any fun x => x.pour.queue == des0.queue && !x.mgmt) || b44.qm.records.any fun r => r.queue == des0.queue) =
       true)) ∧
    ((b45.qm.destroys = [des0]) ∧
     (∀ n ∈ des0.slots, n < 16) ∧
     (((b45.ctxs.any fun x => x.pour.queue == des0.queue && !x.mgmt) || b45.qm.records.any fun r => r.queue == des0.queue) =
       false)) := by
  repeat' apply And.intro
  all_goals decide +kernel

theorem hyps_QueueResumeLeavesError :
    ((b33.starts 2 33) ∧
     (bits (b33.par 2 0) 28 8 ≠ b33.rd Field.QCTX_GEN (bits (b33.par 2 0) 16 12))) ∧
    ((b34.starts 2 33) ∧
     (bits (b34.par 2 0) 28 8 = b34.rd Field.QCTX_GEN (bits (b34.par 2 0) 16 12)) ∧
     (b34.qState (bits (b34.par 2 0) 16 12) ≠ qERROR)) ∧
    ((b35.starts 2 33) ∧
     (bits (b35.par 2 0) 28 8 = b35.rd Field.QCTX_GEN (bits (b35.par 2 0) 16 12)) ∧
     (b35.qState (bits (b35.par 2 0) 16 12) = qERROR)) := by
  repeat' apply And.intro
  all_goals decide +kernel

theorem hyps_MouldsLeaveAndSegmentsReturn :
    ((b48.starts 2 49) ∧
     (List.find? (fun m => m.idx == bits (b48.par 2 1) 0 20 && m.loaded) b48.moulds.table = some mould1) ∧
     (mould1.flask = some 4) ∧
     (bits (b48.par 2 0) 0 6 = 4) ∧
     ((b48.begun 2).frefOk 2 = true) ∧
     (bits (b48.par 2 1) 20 12 = mould1.gen) ∧
     (b48.mouldBusy mould1 = true)) ∧
    ((b49.starts 2 49) ∧
     (List.find? (fun m => m.idx == bits (b49.par 2 1) 0 20 && m.loaded) b49.moulds.table = some mould1) ∧
     (mould1.flask = some 4) ∧
     (bits (b49.par 2 0) 0 6 = 4) ∧
     ((b49.begun 2).frefOk 2 = true) ∧
     (bits (b49.par 2 1) 20 12 = mould1.gen) ∧
     (b49.mouldBusy mould1 = false)) ∧
    ((List.find? (fun x => x.idx == 1 && x.seg == 0) b50.moulds.fills = some fill0) ∧
     (fill0.keep = true) ∧
     (b50.victim (Machine.setOf 1 0) = some none)) ∧
    ((List.find? (fun x => x.idx == 1 && x.seg == 0) b51.moulds.fills = some fill1) ∧
     (fill1.keep = false)) ∧
    ((List.find? (fun x => x.idx == 1 && x.seg == 0) b52.moulds.fills = some fill0) ∧
     (List.find? (fun m => m.idx == 1) b52.moulds.table = some mould1) ∧
     (mould1.flask = some 4) ∧
     ((∃ l, Ret.error = Ret.poison l) ∨ Ret.error = Ret.error)) ∧
    ((b53.hears)) ∧
    ((b55.hears) ∧
     (b55.loadedCount ≠ 0)) ∧
    ((b56.hears) ∧
     (b56.loadedCount = 0)) := by
  repeat' apply And.intro
  all_goals first | decide +kernel | exact Or.inl ⟨_, rfl⟩ | exact Or.inr rfl

end Queues

/-! ### Records of a walk -/

namespace Records

def R (l : List Nat) : List Byte := dws l 64
def xl (l : List LoopFrame) : Ctx := { ctx0 with loops := l, pc := 2 }
def lf (n : Nat) : LoopFrame := { index := 0, trip := 2, iter := n }
def loopS (x : Ctx) (l : Nat) : State := laid (before x [5]) (base4 + 0x1000 + 0x300) (dws [l] 64)
def xp : Ctx := { xl [lf 0] with pending := 8 }
def xc : Ctx := { ctx0 with calls := [3] }
def xw : Ctx := { ctx0 with num := 9, st := .waitTl, timeline := 3, value := 5 }
def two (x : Ctx) (l : List Nat) : State := let s := before ctx0 l; { s with ctxs := s.ctxs ++ [x] }
def xs : Ctx := { ctx0 with stamp := .written 3 }
def xput : Ctx := { ctx0 with puts := 1 }
def xfen : Ctx := { ctx0 with fencing := true }
def kr (x y z : Nat) : List Nat := [1 + 2^24, 2^25 * 9, x + y * 2^16 + z * 2^32, 5, 100]
def xd : Ctx := { ctx0 with depth := 1 }
def pt (k : Nat) : List Nat := [15 + k * 2^8 + 7 * 2^16 + 8 * 2^24, 100]
def xld : Ctx := { ctx0 with loaded := some 300 }
def pva : List Nat := [15 + 3 * 2^16 + 8 * 2^24, 0x7018]
def xrt : Ctx := { ctx0 with rt := true }
def vaS (x : Ctx) : State := laid (laid (before x pva) (base4 + 0x1000 + 0x340) (dws (kr 2 2 1 |>.set 3 8) 64))
  (base4 + 0x1000 + 0x118) (leBytes 8 2)
def xpin : Ctx := { xrt with pins := [{ leaf := { slot := 7, va := 9 * 2^25, size := 2^25, pa := 9 * 2^25, tier := 0,
                                                  rd := true, wr := true, at_ := true } }] }
def c1 : State := before ctx0 [2 + 0 * 2^8 + 7 * 2^16 + 7 * 2^32 + 3 * 2^48]
def c3 : State := before ctx0 [3 + 2 * 2^48]
def c4 : State := before ctx0 [4 + 2 * 2^48]
def c5 : State := before ctx0 [4 + 5 * 2^32 + 2 * 2^48]
def c6 : State := before ctx0 [4 + 2^8 + 3 * 2^16 + 5 * 2^32 + 2 * 2^48]
def c7 : State := loopS (xl [lf 0]) 4
def c8 : Ctx := xl [lf 0]
def c9 : State := loopS (xl [lf 0]) (4 + 2^8 + 3 * 2^16)
def c10 : Ctx := xl [lf 0]
def c11 : State := loopS xp (4 + 2^8 + 3 * 2^16)
def c12 : State := loopS (xl [lf 1]) 4
def c13 : Ctx := xl [lf 1]
def c14 : State := before ctx0 [6 + 2 * 2^48]
def c15 : State := before xc [7]
def c16 : State := before ctx0 [8 + 3 * 2^16]
def c17 : State := before ctx0 [8 + 3 * 2^16, 5]
def c18 : State := before xs [9 + 3 * 2^16, 5]
def c19 : State := two xw [9 + 3 * 2^16, 5]
def c22 : State := two xw [9 + 2*2^8 + 2^11 + 3 * 2^16, 4]
def c23 : State := before xput [10]
def c24 : State := before ctx0 [10 + 2^8]
def c25 : State := before ctx0 [10]
def c26 : State := before xfen [10]
def c27 : State := before xput [17]
def c28 : State := before ctx0 [17]
def c29 : State := before ctx0 [31]
def c30 : State := before ctx0 (kr 2 0 1)
def c31 : State := before ctx0 (kr 2 2 1)
def c32 : State := { before ctx0 (kr 2 2 1) with lanes := [{ eng := 8, queue := List.replicate 64 4 }] }
def c33 : State := before ctx0 [16]
def c36 : State := before xd [16]
def c37 : State := before xs [14]
def c38 : State := before ctx0 [14 + 2^8]
def c39 : State := put (before ctx0 [14 + 0x2401 * 2^16]) [(.EV_SRC_OWNED,0x2401,1),(.EV_SRC_FLASK,0x2401,4)]
def c40 : State := put (before ctx0 [14 + 0x2401 * 2^16])
  [(.EV_SRC_OWNED,0x2401,1),(.EV_SRC_FLASK,0x2401,4),(.EV_SRC_FLASK_GEN,0x2401,3)]
def c41 : State := put (before ctx0 [14 + 0x2401 * 2^16]) [(.EV_SRC_OWNED,0x2401,1),(.EV_SRC_FLASK,0x2401,5)]
def c42 : State := before ctx0 (pt 0)
def c43 : State := before ctx0 (pt 1)
def c44 : State := before ctx0 (pt 2)
def c45 : State := before ctx0 (pt 3)
def c46 : State := before ctx0 (pt 5)
def c47 : State := before xld (pt 4)
def c48 : State := before ctx0 (pt 4)
def c49 : State := vaS xrt
def c51 : State := put (before xrt (kr 2 2 1)) [(.QCTX_RT_GROUPS,5,2)]
def c52 : State := put (before xpin (kr 2 2 1)) [(.QCTX_RT_GROUPS,5,2)]

theorem hyps_ControlFlowRecords :
    ((c1.faces 0 ctx0 mould1 (R [2 + 0 * 2 ^ 8 + 7 * 2 ^ 16 + 7 * 2 ^ 32 + 3 * 2 ^ 48])) ∧
     (opOf (R [2 + 0 * 2 ^ 8 + 7 * 2 ^ 16 + 7 * 2 ^ 32 + 3 * 2 ^ 48]) = opGUARD)) ∧
    ((c3.faces 0 ctx0 mould1 (R [3 + 2 * 2 ^ 48])) ∧
     (opOf (R [3 + 2 * 2 ^ 48]) = opJUMP)) ∧
    ((c4.faces 0 ctx0 mould1 (R [4 + 2 * 2 ^ 48])) ∧
     (opOf (R [4 + 2 * 2 ^ 48]) = opLOOP) ∧
     (ctx0.op (R [4 + 2 * 2 ^ 48]) 0 32 = 0)) ∧
    ((c5.faces 0 ctx0 mould1 (R [4 + 5 * 2 ^ 32 + 2 * 2 ^ 48])) ∧
     (opOf (R [4 + 5 * 2 ^ 32 + 2 * 2 ^ 48]) = opLOOP) ∧
     (ctx0.op (R [4 + 5 * 2 ^ 32 + 2 * 2 ^ 48]) 0 32 ≠ 0) ∧
     (fld (R [4 + 5 * 2 ^ 32 + 2 * 2 ^ 48]) 0 8 1 = 0)) ∧
    ((c6.faces 0 ctx0 mould1 (R [4 + 2 ^ 8 + 3 * 2 ^ 16 + 5 * 2 ^ 32 + 2 * 2 ^ 48])) ∧
     (opOf (R [4 + 2 ^ 8 + 3 * 2 ^ 16 + 5 * 2 ^ 32 + 2 * 2 ^ 48]) = opLOOP) ∧
     (ctx0.op (R [4 + 2 ^ 8 + 3 * 2 ^ 16 + 5 * 2 ^ 32 + 2 * 2 ^ 48]) 0 32 ≠ 0) ∧
     (fld (R [4 + 2 ^ 8 + 3 * 2 ^ 16 + 5 * 2 ^ 32 + 2 * 2 ^ 48]) 0 8 1 = 1)) ∧
    ((c7.faces 0 c8 mould1 (R [5])) ∧
     (opOf (R [5]) = opENDLOOP) ∧
     (c8.loops = [lf 0]) ∧
     ((lf 0).iter + 1 < (lf 0).trip) ∧
     (fld (c7.recordOf mould1 (lf 0).index) 0 8 1 = 0)) ∧
    ((c9.faces 0 c10 mould1 (R [5])) ∧
     (opOf (R [5]) = opENDLOOP) ∧
     (c10.loops = [lf 0]) ∧
     ((lf 0).iter + 1 < (lf 0).trip) ∧
     (fld (c9.recordOf mould1 (lf 0).index) 0 8 1 = 1) ∧
     (bit c10.pending (fld (c9.recordOf mould1 (lf 0).index) 0 16 6) = false)) ∧
    ((c11.faces 0 xp mould1 (R [5])) ∧
     (opOf (R [5]) = opENDLOOP) ∧
     (xp.loops = [lf 0]) ∧
     ((lf 0).iter + 1 < (lf 0).trip) ∧
     (fld (c11.recordOf mould1 (lf 0).index) 0 8 1 = 1) ∧
     (bit xp.pending (fld (c11.recordOf mould1 (lf 0).index) 0 16 6) = true)) ∧
    ((c12.faces 0 c13 mould1 (R [5])) ∧
     (opOf (R [5]) = opENDLOOP) ∧
     (c13.loops = [lf 1]) ∧
     ((lf 1).trip ≤ (lf 1).iter + 1)) ∧
    ((c14.faces 0 ctx0 mould1 (R [6 + 2 * 2 ^ 48])) ∧
     (opOf (R [6 + 2 * 2 ^ 48]) = opCALL)) ∧
    ((c15.faces 0 xc mould1 (R [7])) ∧
     (opOf (R [7]) = opRETURN) ∧
     (xc.calls = [3])) := by
  repeat' apply And.intro
  all_goals decide +kernel

theorem hyps_WaitAndSignalRecords :
    ((c16.faces 0 ctx0 mould1 (R [8 + 3 * 2 ^ 16])) ∧
     (opOf (R [8 + 3 * 2 ^ 16]) = opWAIT) ∧
     (ctx0.tlValue (R [8 + 3 * 2 ^ 16]) ≤ c16.timeline (c16.globalTl ctx0 (ctx0.op (R [8 + 3 * 2 ^ 16]) 0 16)))) ∧
    ((c17.faces 0 ctx0 mould1 (R [8 + 3 * 2 ^ 16, 5])) ∧
     (opOf (R [8 + 3 * 2 ^ 16, 5]) = opWAIT) ∧
     (c17.timeline (c17.globalTl ctx0 (ctx0.op (R [8 + 3 * 2 ^ 16, 5]) 0 16)) < ctx0.tlValue (R [8 + 3 * 2 ^ 16, 5]))) ∧
    ((c18.faces 0 xs mould1 (R [9 + 3 * 2 ^ 16, 5])) ∧
     ((0, Instr.recSignalSet 0) ∈ [(0, Instr.recSignalSet 0), (1, Instr.recSignalAdd 0), (2, Instr.recSignalMax 0)]) ∧
     (opOf (R [9 + 3 * 2 ^ 16, 5]) = opSIGNAL) ∧
     (fld (R [9 + 3 * 2 ^ 16, 5]) 0 8 3 = 0) ∧
     (xs.stampWait = true)) ∧
    ((c19.faces 0 ctx0 mould1 (R [9 + 3 * 2 ^ 16, 5])) ∧
     ((0, Instr.recSignalSet 0) ∈ [(0, Instr.recSignalSet 0), (1, Instr.recSignalAdd 0), (2, Instr.recSignalMax 0)]) ∧
     (opOf (R [9 + 3 * 2 ^ 16, 5]) = opSIGNAL) ∧
     (fld (R [9 + 3 * 2 ^ 16, 5]) 0 8 3 = 0) ∧
     (ctx0.stampWait = false) ∧
     (fld (R [9 + 3 * 2 ^ 16, 5]) 0 11 1 = 0)) ∧
    ((c22.faces 0 ctx0 mould1 (R [9 + 2 * 2 ^ 8 + 2 ^ 11 + 3 * 2 ^ 16, 4])) ∧
     ((2, Instr.recSignalMax 0) ∈ [(0, Instr.recSignalSet 0), (1, Instr.recSignalAdd 0), (2, Instr.recSignalMax 0)]) ∧
     (opOf (R [9 + 2 * 2 ^ 8 + 2 ^ 11 + 3 * 2 ^ 16, 4]) = opSIGNAL) ∧
     (fld (R [9 + 2 * 2 ^ 8 + 2 ^ 11 + 3 * 2 ^ 16, 4]) 0 8 3 = 2) ∧
     (ctx0.stampWait = false) ∧
     (fld (R [9 + 2 * 2 ^ 8 + 2 ^ 11 + 3 * 2 ^ 16, 4]) 0 11 1 = 1) ∧
     (ctx0.asked = false)) := by
  repeat' apply And.intro
  all_goals decide +kernel

theorem hyps_FenceBarrierEndRecords :
    ((c23.faces 0 xput mould1 (R [10])) ∧
     (opOf (R [10]) = opFENCE) ∧
     (c23.fenceReady xput = false)) ∧
    ((c24.faces 0 ctx0 mould1 (R [10 + 2 ^ 8])) ∧
     (opOf (R [10 + 2 ^ 8]) = opFENCE) ∧
     (c24.fenceReady ctx0 = true) ∧
     (fld (R [10 + 2 ^ 8]) 0 8 2 = 1)) ∧
    ((c25.faces 0 ctx0 mould1 (R [10])) ∧
     (opOf (R [10]) = opFENCE) ∧
     (c25.fenceReady ctx0 = true) ∧
     (fld (R [10]) 0 8 2 ≠ 1) ∧
     (ctx0.fencing = false)) ∧
    ((c26.faces 0 xfen mould1 (R [10])) ∧
     (opOf (R [10]) = opFENCE) ∧
     (c26.fenceReady xfen = true) ∧
     (fld (R [10]) 0 8 2 ≠ 1) ∧
     (xfen.fencing = true) ∧
     (xfen.fence = [])) ∧
    ((c27.faces 0 xput mould1 (R [17])) ∧
     (opOf (R [17]) = opBARRIER) ∧
     ((!(c27.kernelsOf 0).isEmpty || xput.puts != 0 || c27.movesOf 0 || fld (R [17]) 0 8 1 == 1 && !(c27.spawnedOf 0).isEmpty)
       = true)) ∧
    ((c28.faces 0 ctx0 mould1 (R [17])) ∧
     (opOf (R [17]) = opBARRIER) ∧
     ((!(c28.kernelsOf 0).isEmpty || ctx0.puts != 0 || c28.movesOf 0 || fld (R [17]) 0 8 1 == 1 && !(c28.spawnedOf 0).isEmpty)
       = false)) ∧
    ((c29.faces 0 ctx0 mould1 (R [31])) ∧
     (opOf (R [31]) = opEND)) := by
  repeat' apply And.intro
  all_goals decide +kernel

theorem hyps_KernelRecord :
    ((c30.faces 0 ctx0 mould1 (R (kr 2 0 1))) ∧
     (opOf (R (kr 2 0 1)) = opKERNEL) ∧
     (ctx0.op (R (kr 2 0 1)) 2 0 = 0 ∨ ctx0.op (R (kr 2 0 1)) 2 16 = 0 ∨ ctx0.op (R (kr 2 0 1)) 2 32 = 0)) ∧
    ((c31.faces 0 ctx0 mould1 (R (kr 2 2 1))) ∧
     (opOf (R (kr 2 2 1)) = opKERNEL) ∧
     (ctx0.op (R (kr 2 2 1)) 2 0 ≠ 0) ∧
     (ctx0.op (R (kr 2 2 1)) 2 16 ≠ 0) ∧
     (ctx0.op (R (kr 2 2 1)) 2 32 ≠ 0) ∧
     (ctx0.rt = false) ∧
     ((List.take (ctx0.op (R (kr 2 2 1)) 2 0 * ctx0.op (R (kr 2 2 1)) 2 16 * ctx0.op (R (kr 2 2 1)) 2 32)
        (List.flatMap enginesOf (c31.kernelGroups ctx0 (R (kr 2 2 1))).1)).all (c31.laneRoom ctx0) = true)) ∧
    ((c32.faces 0 ctx0 mould1 (R (kr 2 2 1))) ∧
     (opOf (R (kr 2 2 1)) = opKERNEL) ∧
     (ctx0.op (R (kr 2 2 1)) 2 0 ≠ 0) ∧
     (ctx0.op (R (kr 2 2 1)) 2 16 ≠ 0) ∧
     (ctx0.op (R (kr 2 2 1)) 2 32 ≠ 0) ∧
     (ctx0.rt = false) ∧
     ((List.take (ctx0.op (R (kr 2 2 1)) 2 0 * ctx0.op (R (kr 2 2 1)) 2 16 * ctx0.op (R (kr 2 2 1)) 2 32)
        (List.flatMap enginesOf (c32.kernelGroups ctx0 (R (kr 2 2 1))).1)).all (c32.laneRoom ctx0) = false)) ∧
    ((c51.faces 0 xrt mould1 (R (kr 2 2 1))) ∧
     (opOf (R (kr 2 2 1)) = opKERNEL) ∧
     (xrt.op (R (kr 2 2 1)) 2 0 ≠ 0) ∧
     (xrt.op (R (kr 2 2 1)) 2 16 ≠ 0) ∧
     (xrt.op (R (kr 2 2 1)) 2 32 ≠ 0) ∧
     (xrt.rt = true) ∧
     (xrt.pins.any Pin.stale = false) ∧
     (xrt.pinFor (fld (R (kr 2 2 1)) 1 0 57) = none) ∧
     (List.find? (fun q => q.1 == fld (R (kr 2 2 1)) 1 0 57 / sheet32M) xrt.codeFault = none) ∧
     (xrt.pinAsk = [])) ∧
    ((c52.faces 0 xpin mould1 (R (kr 2 2 1))) ∧
     (opOf (R (kr 2 2 1)) = opKERNEL) ∧
     (xpin.op (R (kr 2 2 1)) 2 0 ≠ 0) ∧
     (xpin.op (R (kr 2 2 1)) 2 16 ≠ 0) ∧
     (xpin.op (R (kr 2 2 1)) 2 32 ≠ 0) ∧
     (xpin.rt = true) ∧
     (xpin.pins.any Pin.stale = false) ∧
     ((xpin.pinFor (fld (R (kr 2 2 1)) 1 0 57)).isSome = true) ∧
     ((List.take (xpin.op (R (kr 2 2 1)) 2 0 * xpin.op (R (kr 2 2 1)) 2 16 * xpin.op (R (kr 2 2 1)) 2 32)
        (List.flatMap enginesOf (c52.kernelGroups xpin (R (kr 2 2 1))).1)).all
       ((c52.withdraw (List.take (xpin.op (R (kr 2 2 1)) 2 0 * xpin.op (R (kr 2 2 1)) 2 16 * xpin.op (R (kr 2 2 1)) 2 32)
                        (List.flatMap enginesOf (c52.kernelGroups xpin (R (kr 2 2 1))).1))).laneRoom xpin) = true)) := by
  repeat' apply And.intro
  all_goals decide +kernel

theorem hyps_StampWritesTheRecord :
    ((c33.faces 0 ctx0 mould1 (R [16])) ∧
     (opOf (R [16]) = opSTAMP) ∧
     (ctx0.depth = 0) ∧
     (ctx0.mgmt = false)) ∧
    ((c36.faces 0 xd mould1 (R [16])) ∧
     (opOf (R [16]) = opSTAMP) ∧
     (xd.depth ≠ 0 ∨ xd.mgmt = true)) := by
  repeat' apply And.intro
  all_goals decide +kernel

theorem hyps_EventAndPatchRecords :
    ((c37.faces 0 xs mould1 (R [14])) ∧
     (opOf (R [14]) = opEVENT) ∧
     (xs.stampWait = true)) ∧
    ((c38.faces 0 ctx0 mould1 (R [14 + 2 ^ 8])) ∧
     (opOf (R [14 + 2 ^ 8]) = opEVENT) ∧
     (ctx0.stampWait = false) ∧
     (fld (R [14 + 2 ^ 8]) 0 8 1 = 1)) ∧
    ((c39.faces 0 ctx0 mould1 (R [14 + 9217 * 2 ^ 16])) ∧
     (opOf (R [14 + 9217 * 2 ^ 16]) = opEVENT) ∧
     (ctx0.stampWait = false) ∧
     (fld (R [14 + 9217 * 2 ^ 16]) 0 8 1 = 0) ∧
     (9216 ≤ fld (R [14 + 9217 * 2 ^ 16]) 0 16 14 ∧ fld (R [14 + 9217 * 2 ^ 16]) 0 16 14 ≤ 16127 ∧ c39.on Field.EV_SRC_OWNED
       (fld (R [14 + 9217 * 2 ^ 16]) 0 16 14) = true ∧ c39.rd Field.EV_SRC_FLASK (fld (R [14 + 9217 * 2 ^ 16]) 0 16 14) =
       ctx0.flask) ∧
     (c39.rd Field.EV_SRC_FLASK_GEN (fld (R [14 + 9217 * 2 ^ 16]) 0 16 14) = c39.flaskGen ctx0.flask)) ∧
    ((c40.faces 0 ctx0 mould1 (R [14 + 9217 * 2 ^ 16])) ∧
     (opOf (R [14 + 9217 * 2 ^ 16]) = opEVENT) ∧
     (ctx0.stampWait = false) ∧
     (fld (R [14 + 9217 * 2 ^ 16]) 0 8 1 = 0) ∧
     (9216 ≤ fld (R [14 + 9217 * 2 ^ 16]) 0 16 14 ∧ fld (R [14 + 9217 * 2 ^ 16]) 0 16 14 ≤ 16127 ∧ c40.on Field.EV_SRC_OWNED
       (fld (R [14 + 9217 * 2 ^ 16]) 0 16 14) = true ∧ c40.rd Field.EV_SRC_FLASK (fld (R [14 + 9217 * 2 ^ 16]) 0 16 14) =
       ctx0.flask) ∧
     (c40.rd Field.EV_SRC_FLASK_GEN (fld (R [14 + 9217 * 2 ^ 16]) 0 16 14) ≠ c40.flaskGen ctx0.flask)) ∧
    ((c41.faces 0 ctx0 mould1 (R [14 + 9217 * 2 ^ 16])) ∧
     (opOf (R [14 + 9217 * 2 ^ 16]) = opEVENT) ∧
     (ctx0.stampWait = false) ∧
     (fld (R [14 + 9217 * 2 ^ 16]) 0 8 1 = 0) ∧
     (¬(9216 ≤ fld (R [14 + 9217 * 2 ^ 16]) 0 16 14 ∧ fld (R [14 + 9217 * 2 ^ 16]) 0 16 14 ≤ 16127 ∧ c41.on Field.EV_SRC_OWNED
         (fld (R [14 + 9217 * 2 ^ 16]) 0 16 14) = true ∧ c41.rd Field.EV_SRC_FLASK (fld (R [14 + 9217 * 2 ^ 16]) 0 16 14) =
         ctx0.flask))) ∧
    ((c42.faces 0 ctx0 mould1 (R (pt 0))) ∧
     (opOf (R (pt 0)) = opPATCH) ∧
     (ctx0.rt = true ∧ (c42.vaArgs mould1).contains (fld (R (pt 0)) 0 16 6) = true → ctx0.asked = true ∧ ctx0.pinAsk = []) ∧
     (fld (R (pt 0)) 0 8 3 = 0)) ∧
    ((c43.faces 0 ctx0 mould1 (R (pt 1))) ∧
     (opOf (R (pt 1)) = opPATCH) ∧
     (ctx0.rt = true ∧ (c43.vaArgs mould1).contains (fld (R (pt 1)) 0 16 6) = true → ctx0.asked = true ∧ ctx0.pinAsk = []) ∧
     (fld (R (pt 1)) 0 8 3 = 1)) ∧
    ((c44.faces 0 ctx0 mould1 (R (pt 2))) ∧
     (opOf (R (pt 2)) = opPATCH) ∧
     (ctx0.rt = true ∧ (c44.vaArgs mould1).contains (fld (R (pt 2)) 0 16 6) = true → ctx0.asked = true ∧ ctx0.pinAsk = []) ∧
     (fld (R (pt 2)) 0 8 3 = 2)) ∧
    ((c45.faces 0 ctx0 mould1 (R (pt 3))) ∧
     (opOf (R (pt 3)) = opPATCH) ∧
     (ctx0.rt = true ∧ (c45.vaArgs mould1).contains (fld (R (pt 3)) 0 16 6) = true → ctx0.asked = true ∧ ctx0.pinAsk = []) ∧
     (fld (R (pt 3)) 0 8 3 = 3)) ∧
    ((c46.faces 0 ctx0 mould1 (R (pt 5))) ∧
     (opOf (R (pt 5)) = opPATCH) ∧
     (ctx0.rt = true ∧ (c46.vaArgs mould1).contains (fld (R (pt 5)) 0 16 6) = true → ctx0.asked = true ∧ ctx0.pinAsk = []) ∧
     (fld (R (pt 5)) 0 8 3 = 5)) ∧
    ((c47.faces 0 xld mould1 (R (pt 4))) ∧
     (opOf (R (pt 4)) = opPATCH) ∧
     (xld.rt = true ∧ (c47.vaArgs mould1).contains (fld (R (pt 4)) 0 16 6) = true → xld.asked = true ∧ xld.pinAsk = []) ∧
     (fld (R (pt 4)) 0 8 3 = 4) ∧
     (xld.patch = none) ∧
     (xld.loaded = some 300)) ∧
    ((c48.faces 0 ctx0 mould1 (R (pt 4))) ∧
     (opOf (R (pt 4)) = opPATCH) ∧
     (ctx0.rt = true ∧ (c48.vaArgs mould1).contains (fld (R (pt 4)) 0 16 6) = true → ctx0.asked = true ∧ ctx0.pinAsk = []) ∧
     (fld (R (pt 4)) 0 8 3 = 4) ∧
     (ctx0.patch = none) ∧
     (ctx0.loaded = none) ∧
     (((c48.beginRecord ctx0 mould1).ask (Owner.record 0) ctx0.seqr 0
        ((ctx0.gate (fld (R (pt 4)) 0 24 6) + leAt (R (pt 4)) 8 8) % 2 ^ 64) Acc.read 8).granted (Owner.record 0)
       ((ctx0.gate (fld (R (pt 4)) 0 24 6) + leAt (R (pt 4)) 8 8) % 2 ^ 64) Acc.read = none)) ∧
    ((c49.faces 0 xrt mould1 (R pva)) ∧
     (opOf (R pva) = opPATCH) ∧
     (xrt.rt = true ∧ (c49.vaArgs mould1).contains (fld (R pva) 0 16 6) = true) ∧
     (xrt.asked = false) ∧
     ((0, Instr.recPatchSet 0, 28696) ∈ [(0, Instr.recPatchSet 0, leAt (R pva) 8 8),
                                          (1, Instr.recPatchAdd 0, (xrt.gate (fld (R pva) 0 24 6) + leAt (R pva) 8 8) % 2 ^ 64),
                                          (2, Instr.recPatchMin 0, min (xrt.gate (fld (R pva) 0 24 6)) (leAt (R pva) 8 8)),
                                          (3, Instr.recPatchMax 0, max (xrt.gate (fld (R pva) 0 24 6)) (leAt (R pva) 8 8)),
                                          (5, Instr.recPatchTimeline 0, c49.timeline
                                            (c49.globalTl xrt (xrt.gate (fld (R pva) 0 24 6))))]) ∧
     (fld (R pva) 0 8 3 = 0)) := by
  repeat' apply And.intro
  all_goals decide +kernel

end Records

/-! ### Lanes, spawns and watches -/

namespace Lanes

def R (l : List Nat) : List Byte := dws l 64
def pt (k : Nat) : List Nat := [15 + k * 2^8 + 7 * 2^16 + 8 * 2^24, 100]
def xa : Ctx := { ctx0 with gates := List.replicate 64 (BitVec.ofNat 64 0x5008) }
def askS (s : State) (x : Ctx) (va : Nat) (a : Acc) (n : Nat) : State := (s.beginRecord x mould1).ask (.record 0) x.seqr 0 va
  a n
def ptS : State := sheeted (before xa (pt 4))
def ptT : State := askS ptS xa (0x5008 + 100) .read 8
def accId : Nat × State := (ptT.acceptTagged (ptT.reqUnder xa.seqr 0 leaf0 (0x5008+100) (.read 8) (.patch 7))).getD (0, {})
def pu : List Nat := [11 + 2^8 + 24 * 2^16, 0x5030, 7]
def sl (pub : Bool) : State := put { before xa pu with xl := { sheets := [{ leaf0 with pub := pub }] } } [(.FL_STATE,4,4)]
def x63 : Ctx := { ctx0 with pc := 63 }
def pn : List Nat := [11 + 2 ^ 9 + 24 * 2^16, 0x5030, 7]
def sp (idx gen : Nat) : List Nat := [13, idx + gen * 2^20 + 1 * 2^32, 8]
def mg (s : State) : State := laid s (base4 + 0x1000 + 0x100 + 8*3) (leBytes 8 (1 + 100 * 2^16))
def full (s : State) : State := { s with ctxs := s.ctxs ++ ((List.range 132).map (fun i => { ctx0 with
                    num := 256 + i, depth := 3, root := 0, parent := some 0, pour := {queue := 6, seq := 1} })) }
def running : State := runs (before ctx0 [31]) kern0 lane8
def xmgd : Ctx := { ctx0 with mgmt := true, flask := noFlask }
def kp : Kernel := { kern0 with id := 21, preload := true }
def two : State :=
  { before ctx0 [31] with kernels := [kern0, kp], lanes := [{ eng := 8, queue := [21], running := some 20 }], nextId := 50 }
def xgr : Ctx := { ctx0 with grace := some 3000 }
def kl : Kernel := { kern0 with lent := [8] }
def xr : Ctx := { ctx0 with num := 9, root := 9, rt := true, st := .waitLane, want := [8], pour := { queue := 6, seq := 1 } }
def kd : Kernel := { kern0 with rt := true, started := some 5, grace := 7 }
def xwt : Ctx := { ctx0 with st := .waitTl, timeline := 3, value := 5 }
def wtS : State := { put (before xwt []) [(.SEQ_CTL_DL_CHECK_EN,0,1)] with waiting := [(4, 10)] }
def w6 : Ctx := { ctx0 with num := 1, root := 1, st := .waitTl, timeline := 3, value := 5, pour := { queue := 6, seq := 1 } }
def cyc : State := { laid (queue5 up) (base4 + 0x1000 + 0x300) (dws [8] 64 ++ dws [9 + 3 * 2^16] 64 ++ dws [9 + 4 * 2^16] 64 ++ dws [31] 64) with
                    ctxs := [{ ctx0 with st := .waitTl, timeline := 3, value := 5 }, { w6 with timeline := 4 }],
                    moulds := { table := [mould1], gens := [(1,2)] }, waiting := [(4,10)] }
def ml (gb : Nat) (on : Nat) : State := put (mail (fresh (flask4 up) base4 (body0 digest0)) 2 0x30 [4, base4, 0x3C0, gb])
  [(.MC_HTAB_EN,0,on)]
def mc : State := { put up [(.MB_STATE_STATE,0,32)] with moulds :=
                                                           { table := [{ mould1 with loaded := false, slot := some 2 }],
                                                             gens := [(1,2)] } }
def d1 : State := accId.2
def d2 : State := sheeted (before xa pu)
def d3 : Ctx := (((askS (sheeted (before xa pu)) xa 0x5030 .write 24).putLines xa leaf0 0x5030
                   ((sheeted (before xa pu)).putPayload xa mould1 (R pu))).ctx? 0).getD ctx0
def d6 : State := sl false
def d7 : State := (before xa pu)
def d8 : State := (before x63 pn)
def d9 : State := before ctx0 (sp 1 2)
def d10 : State := mg (before ctx0 (sp 1 2))
def d11 : State := full (mg (before ctx0 (sp 1 2)))
def d13 : State := mg running
def d14 : State := runs (before ctx0 [31]) kern0 { eng := 8, queue := [20] }
def d15 : State := { running with ctxs := [xmgd] }
def d16 : State := { running with ctxs := [] }
def d17 : State := { running with ctxs := [xgr] }
def d18 : State := { running with lanes := [{ lane8 with killReq := some 500 }] }
def d19 : State := { runs (before ctx0 [31]) kl lane8 with ctxs := [ctx0, xr] }
def d20 : State := runs (before ctx0 [31]) kd lane8
def d21 : State := put cyc [(.SEQ_CTL_DL_CHECK_EN,0,1)]
def d22 : State := ml 0x1000 0
def d23 : State := ml base4 0
def d24 : State := ml base4 1
def d25 : Mould := { mould1 with loaded := false, slot := some 2 }

theorem hyps_EventAndPatchRecords_more :
    ((ptS.faces 0 xa mould1 (R (pt 4))) ∧
     (opOf (R (pt 4)) = opPATCH) ∧
     (xa.rt = true ∧ (ptS.vaArgs mould1).contains (fld (R (pt 4)) 0 16 6) = true → xa.asked = true ∧ xa.pinAsk = []) ∧
     (fld (R (pt 4)) 0 8 3 = 4) ∧
     (xa.patch = none) ∧
     (xa.loaded = none) ∧
     (((ptS.beginRecord xa mould1).ask (Owner.record 0) xa.seqr 0
        ((xa.gate (fld (R (pt 4)) 0 24 6) + leAt (R (pt 4)) 8 8) % 2 ^ 64) Acc.read 8).granted (Owner.record 0)
       ((xa.gate (fld (R (pt 4)) 0 24 6) + leAt (R (pt 4)) 8 8) % 2 ^ 64) Acc.read = some leaf0) ∧
     (((ptS.beginRecord xa mould1).ask (Owner.record 0) xa.seqr 0
        ((xa.gate (fld (R (pt 4)) 0 24 6) + leAt (R (pt 4)) 8 8) % 2 ^ 64) Acc.read 8).acceptTagged
       (((ptS.beginRecord xa mould1).ask (Owner.record 0) xa.seqr 0
          ((xa.gate (fld (R (pt 4)) 0 24 6) + leAt (R (pt 4)) 8 8) % 2 ^ 64) Acc.read 8).reqUnder xa.seqr 0 leaf0
         ((xa.gate (fld (R (pt 4)) 0 24 6) + leAt (R (pt 4)) 8 8) % 2 ^ 64) (ReqKind.read 8)
         (Purpose.patch (fld (R (pt 4)) 0 16 6))) = some (accId.1, d1))) := by
  repeat' apply And.intro
  all_goals decide +kernel

theorem hyps_PutsAndSpawns :
    ((d2.faces 0 xa mould1 (R pu)) ∧
     (opOf (R pu) = opPUT) ∧
     (∀ (g : ℕ), ¬(fun g => xa.nextSeg (R pu) = some g ∧ xa.second = false ∧ d2.cached mould1.idx mould1.gen g = false) g) ∧
     (((d2.beginRecord xa mould1).ask (Owner.record 0) xa.seqr 0
        (leAt (R pu) 8 8 % 2 ^ 57 + if bit (fld (R pu) 0 32 16) 15 = true then xa.op (R pu) 0 32 else 0) Acc.write
        (d2.putPayload xa mould1 (R pu)).length).granted (Owner.record 0)
       (leAt (R pu) 8 8 % 2 ^ 57 + if bit (fld (R pu) 0 32 16) 15 = true then xa.op (R pu) 0 32 else 0) Acc.write = some leaf0) ∧
     ((leAt (R pu) 8 8 % 2 ^ 57 + if bit (fld (R pu) 0 32 16) 15 = true then xa.op (R pu) 0 32 else 0) +
       (d2.putPayload xa mould1 (R pu)).length ≤ leaf0.va + leaf0.size) ∧
     (d2.flaskSealed xa.flask = false ∨ leaf0.sealed = true ∨ leaf0.pub = true) ∧
     (leaf0.tier = 1 → d2.headless = false) ∧
     ((((d2.beginRecord xa mould1).ask (Owner.record 0) xa.seqr 0
         (leAt (R pu) 8 8 % 2 ^ 57 + if bit (fld (R pu) 0 32 16) 15 = true then xa.op (R pu) 0 32 else 0) Acc.write
         (d2.putPayload xa mould1 (R pu)).length).putLines xa leaf0
        (leAt (R pu) 8 8 % 2 ^ 57 + if bit (fld (R pu) 0 32 16) 15 = true then xa.op (R pu) 0 32 else 0)
        (d2.putPayload xa mould1 (R pu))).ctx? 0 = some d3) ∧
     ((((d2.beginRecord xa mould1).ask (Owner.record 0) xa.seqr 0
         (leAt (R pu) 8 8 % 2 ^ 57 + if bit (fld (R pu) 0 32 16) 15 = true then xa.op (R pu) 0 32 else 0) Acc.write
         (d2.putPayload xa mould1 (R pu)).length).putLines xa leaf0
        (leAt (R pu) 8 8 % 2 ^ 57 + if bit (fld (R pu) 0 32 16) 15 = true then xa.op (R pu) 0 32 else 0)
        (d2.putPayload xa mould1 (R pu))).ending d3 = false) ∧
     (d3.putAt = (d2.putPayload xa mould1 (R pu)).length)) ∧
    ((d6.faces 0 xa mould1 (R pu)) ∧
     (opOf (R pu) = opPUT) ∧
     (∀ (g : ℕ), ¬(fun g => xa.nextSeg (R pu) = some g ∧ xa.second = false ∧ d6.cached mould1.idx mould1.gen g = false) g) ∧
     (((d6.beginRecord xa mould1).ask (Owner.record 0) xa.seqr 0
        (leAt (R pu) 8 8 % 2 ^ 57 + if bit (fld (R pu) 0 32 16) 15 = true then xa.op (R pu) 0 32 else 0) Acc.write
        (d6.putPayload xa mould1 (R pu)).length).granted (Owner.record 0)
       (leAt (R pu) 8 8 % 2 ^ 57 + if bit (fld (R pu) 0 32 16) 15 = true then xa.op (R pu) 0 32 else 0) Acc.write = some leaf0) ∧
     ((leAt (R pu) 8 8 % 2 ^ 57 + if bit (fld (R pu) 0 32 16) 15 = true then xa.op (R pu) 0 32 else 0) +
       (d6.putPayload xa mould1 (R pu)).length ≤ leaf0.va + leaf0.size) ∧
     (d6.flaskSealed xa.flask = true) ∧
     (leaf0.sealed = false) ∧
     (leaf0.pub = false) ∧
     (xa.putAt = 0)) ∧
    ((d7.faces 0 xa mould1 (R pu)) ∧
     (opOf (R pu) = opPUT) ∧
     (∀ (g : ℕ), ¬(fun g => xa.nextSeg (R pu) = some g ∧ xa.second = false ∧ d7.cached mould1.idx mould1.gen g = false) g) ∧
     (((d7.beginRecord xa mould1).ask (Owner.record 0) xa.seqr 0
        (leAt (R pu) 8 8 % 2 ^ 57 + if bit (fld (R pu) 0 32 16) 15 = true then xa.op (R pu) 0 32 else 0) Acc.write
        (d7.putPayload xa mould1 (R pu)).length).granted (Owner.record 0)
       (leAt (R pu) 8 8 % 2 ^ 57 + if bit (fld (R pu) 0 32 16) 15 = true then xa.op (R pu) 0 32 else 0) Acc.write = none)) ∧
    ((d8.faces 0 x63 mould1 (R pn)) ∧
     (opOf (R pn) = opPUT) ∧
     ((fun g => x63.nextSeg (R pn) = some g ∧ x63.second = false ∧ d8.cached mould1.idx mould1.gen g = false) 1)) ∧
    ((d9.faces 0 ctx0 mould1 (R (sp 1 2))) ∧
     (opOf (R (sp 1 2)) = opSPAWN) ∧
     (ctx0.spawn = none) ∧
     (((d9.beginRecord ctx0 mould1).spawnCheck ctx0 { idx := bits
                                                        (if fld (R (sp 1 2)) 0 8 1 = 1 then ctx0.gate
                                                          (fld (R (sp 1 2)) 0 16 6) else leAt (R (sp 1 2)) 8 8) 0 20,
                                                      gen := bits
                                                        (if fld (R (sp 1 2)) 0 8 1 = 1 then ctx0.gate
                                                          (fld (R (sp 1 2)) 0 16 6) else leAt (R (sp 1 2)) 8 8) 20 12,
                                                      bank := bits
                                                        (if fld (R (sp 1 2)) 0 8 1 = 1 then ctx0.gate
                                                          (fld (R (sp 1 2)) 0 16 6) else leAt (R (sp 1 2)) 8 8) 32 8,
                                                      pass := List.map (fun g => (g, nth ctx0.gates g 0))
                                                        (onesOf (fld (R (sp 1 2)) 2 0 64) 64), engine := none }).1 ≠ 0)) ∧
    ((d10.faces 0 ctx0 mould1 (R (sp 1 2))) ∧
     (opOf (R (sp 1 2)) = opSPAWN) ∧
     (ctx0.spawn = none) ∧
     (((d10.beginRecord ctx0 mould1).spawnCheck ctx0 { idx := bits
                                                         (if fld (R (sp 1 2)) 0 8 1 = 1 then ctx0.gate
                                                           (fld (R (sp 1 2)) 0 16 6) else leAt (R (sp 1 2)) 8 8) 0 20,
                                                       gen := bits
                                                         (if fld (R (sp 1 2)) 0 8 1 = 1 then ctx0.gate
                                                           (fld (R (sp 1 2)) 0 16 6) else leAt (R (sp 1 2)) 8 8) 20 12,
                                                       bank := bits
                                                         (if fld (R (sp 1 2)) 0 8 1 = 1 then ctx0.gate
                                                           (fld (R (sp 1 2)) 0 16 6) else leAt (R (sp 1 2)) 8 8) 32 8,
                                                       pass := List.map (fun g => (g, nth ctx0.gates g 0))
                                                         (onesOf (fld (R (sp 1 2)) 2 0 64) 64), engine := none }).1 = 0) ∧
     ((d10.beginRecord ctx0 mould1).spawnCtx (ctx0.depth + 1) = some 256)) ∧
    ((d11.faces 0 ctx0 mould1 (R (sp 1 2))) ∧
     (opOf (R (sp 1 2)) = opSPAWN) ∧
     (ctx0.spawn = none) ∧
     (((d11.beginRecord ctx0 mould1).spawnCheck ctx0 { idx := bits
                                                         (if fld (R (sp 1 2)) 0 8 1 = 1 then ctx0.gate
                                                           (fld (R (sp 1 2)) 0 16 6) else leAt (R (sp 1 2)) 8 8) 0 20,
                                                       gen := bits
                                                         (if fld (R (sp 1 2)) 0 8 1 = 1 then ctx0.gate
                                                           (fld (R (sp 1 2)) 0 16 6) else leAt (R (sp 1 2)) 8 8) 20 12,
                                                       bank := bits
                                                         (if fld (R (sp 1 2)) 0 8 1 = 1 then ctx0.gate
                                                           (fld (R (sp 1 2)) 0 16 6) else leAt (R (sp 1 2)) 8 8) 32 8,
                                                       pass := List.map (fun g => (g, nth ctx0.gates g 0))
                                                         (onesOf (fld (R (sp 1 2)) 2 0 64) 64), engine := none }).1 = 0) ∧
     ((d11.beginRecord ctx0 mould1).spawnCtx (ctx0.depth + 1) = none)) ∧
    (((running.lane 8).running.bind running.kernel? = some kern0) ∧
     (running.ctx? kern0.ctx = some ctx0) ∧
     (ctx0.pour = kern0.pour) ∧
     ((running.lane 8).wish = none) ∧
     (spawnBad (dws [2 ^ 43] 64) = true)) ∧
    (((d13.lane 8).running.bind d13.kernel? = some kern0) ∧
     (d13.ctx? kern0.ctx = some ctx0) ∧
     (ctx0.pour = kern0.pour) ∧
     ((d13.lane 8).wish = none) ∧
     (spawnBad (dws [1 + 2 * 2 ^ 20 + 1 * 2 ^ 32 + 1 * 2 ^ 40, 3, 77] 64) = false) ∧
     ((d13.spawnCheck ctx0 { idx := fld (dws [1 + 2 * 2 ^ 20 + 1 * 2 ^ 32 + 1 * 2 ^ 40, 3, 77] 64) 0 0 20,
                             gen := fld (dws [1 + 2 * 2 ^ 20 + 1 * 2 ^ 32 + 1 * 2 ^ 40, 3, 77] 64) 0 20 12,
                             bank := fld (dws [1 + 2 * 2 ^ 20 + 1 * 2 ^ 32 + 1 * 2 ^ 40, 3, 77] 64) 0 32 8,
                             pass := List.map (fun i => (fld (dws [1 + 2 * 2 ^ 20 + 1 * 2 ^ 32 + 1 * 2 ^ 40, 3, 77] 64) 1
                                                          (8 * i) 6, BitVec.ofNat 64
                                                          (leAt (dws [1 + 2 * 2 ^ 20 + 1 * 2 ^ 32 + 1 * 2 ^ 40, 3, 77] 64)
                                                            (16 + 8 * i) 8)))
                               (List.range (fld (dws [1 + 2 * 2 ^ 20 + 1 * 2 ^ 32 + 1 * 2 ^ 40, 3, 77] 64) 0 40 3)),
                             engine := some 8 }).1 = 0) ∧
     (d13.spawnCtx (ctx0.depth + 1) = some 256)) := by
  repeat' apply And.intro
  all_goals first | decide +kernel | (apply none_lacks; decide +kernel)

theorem hyps_LanesRunKernels :
    (((d14.lane 8).queue = [20]) ∧
     (d14.kernel? 20 = some kern0) ∧
     (d14.staleKernel kern0 = false) ∧
     (d14.laneHeld kern0 = false) ∧
     ((d14.lane 8).running = none) ∧
     ((d14.lane 8).shadow = none) ∧
     (d14.released kern0 = true)) ∧
    ((d15.ready = true) ∧
     ((d15.lane 8).running.bind d15.kernel? = some kern0) ∧
     (d15.ctx? 0 = some xmgd) ∧
     (xmgd.mgmt = true ∧ xmgd.pour.word = kern0.pour.word ∨ bits kern0.pour.word 44 8 = d15.rd Field.QCTX_GEN
       (kern0.pour.word / 2 ^ 52)) ∧
     (kern0.ctx = 0) ∧
     (kern0.index = 0) ∧
     (kern0.pour.word = kern0.pour.word) ∧
     (d15.flaskResetting kern0.flask = false) ∧
     ((d15.lane 8).shadow = none)) ∧
    (((two.lane 8).queue = [21]) ∧
     (two.kernel? 21 = some kp) ∧
     (two.staleKernel kp = false) ∧
     (two.laneHeld kp = false) ∧
     ((two.lane 8).running = some 20) ∧
     (kp.preloads 8 = true) ∧
     ((two.lane 8).shadow = none)) ∧
    ((d16.ready = true) ∧
     ((d16.lane 8).running.bind d16.kernel? = some kern0) ∧
     (d16.ctx? 0 = none)) ∧
    ((running.ready = true) ∧
     ((running.lane 8).running.bind running.kernel? = some kern0) ∧
     (running.ctx? 0 = some ctx0) ∧
     (ctx0.mgmt = true ∧ ctx0.pour.word = kern0.pour.word ∨ bits kern0.pour.word 44 8 = running.rd Field.QCTX_GEN
       (kern0.pour.word / 2 ^ 52)) ∧
     (kern0.ctx = 0) ∧
     (kern0.index = 0) ∧
     (kern0.pour.word = kern0.pour.word) ∧
     (running.flaskResetting kern0.flask = false) ∧
     ((running.lane 8).shadow = none) ∧
     (ctx0.mgmt = false) ∧
     (running.ctx? ctx0.root = some ctx0) ∧
     (ctx0.cause = none) ∧
     (ctx0.stamp = Stamp.none)) ∧
    ((running.ready = true) ∧
     ((running.lane 8).running.bind running.kernel? = some kern0) ∧
     (running.ctx? 0 = some ctx0) ∧
     (ctx0.mgmt = true ∧ ctx0.pour.word = kern0.pour.word ∨ bits kern0.pour.word 44 8 = running.rd Field.QCTX_GEN
       (kern0.pour.word / 2 ^ 52)) ∧
     (kern0.ctx = 0) ∧
     (kern0.index = 0) ∧
     (kern0.pour.word = kern0.pour.word) ∧
     (running.flaskResetting kern0.flask = false) ∧
     ((running.lane 8).shadow = none) ∧
     (ctx0.mgmt = false)) := by
  repeat' apply And.intro
  all_goals decide +kernel

theorem hyps_WatchesOnPours :
    ((running.ready = true) ∧
     ((running.lane 8).running.bind running.kernel? = some kern0) ∧
     (¬(bits kern0.pour.word 44 8 ≠ running.rd Field.QCTX_GEN (kern0.pour.word / 2 ^ 52) ∧ ∀ (x : Ctx), running.ctx? kern0.ctx
         = some x → ¬(x.mgmt = true ∧ x.pour.word = kern0.pour.word))) ∧
     (kern0.pour.word = kern0.pour.word)) ∧
    ((running.ready = true) ∧
     ((running.lane 8).running.bind running.kernel? = some kern0) ∧
     (bits (kern0.pour.word + 3 * 2 ^ 44) 44 8 ≠ running.rd Field.QCTX_GEN ((kern0.pour.word + 3 * 2 ^ 44) / 2 ^ 52) ∧ ∀
       (x : Ctx), running.ctx? kern0.ctx = some x → ¬(x.mgmt = true ∧ x.pour.word = kern0.pour.word + 3 * 2 ^ 44))) ∧
    (((running.lane 8).running.bind running.kernel? = some kern0) ∧
     (running.on Field.LANE_WP_STALLED 8 = false) ∧
     (running.on Field.FL_AUTO_RESET kern0.flask = false) ∧
     (running.flaskResetting kern0.flask = false) ∧
     (∀ (x : Ctx), running.ctx? kern0.ctx = some x → x.mgmt = false)) ∧
    ((d17.ctx? 0 = some xgr) ∧
     (xgr.grace = some 3000)) ∧
    (((d18.lane 8).killReq = some 500)) ∧
    (((d19.lane 8).running.bind d19.kernel? = some kl) ∧
     (kl.lent.contains 8 = true) ∧
     (d19.rtWanted 8 = true) ∧
     (kl.overrun = false) ∧
     (d19.ctx? kl.ctx = some ctx0) ∧
     (d19.ctx? ctx0.root = some ctx0) ∧
     (ctx0.cause = none) ∧
     (ctx0.stamp = Stamp.none)) ∧
    ((d20.ctx? 0 = some ctx0) ∧
     (d20.ctx? ctx0.root = some ctx0) ∧
     (ctx0.cause = none) ∧
     (ctx0.stamp = Stamp.none) ∧
     (List.find? (fun k => k.ctx == 0 && k.index == 0 && k.rt && k.started.isSome && !k.left.isEmpty) d20.kernels = some kd)) ∧
    ((List.find? (fun p => p.1 == 4) wtS.waiting = some (4, 10)) ∧
     (wtS.on Field.SEQ_CTL_DL_CHECK_EN = true) ∧
     (wtS.whollyWaiting 4 = true) ∧
     (cycleOf ((wtS.elapse ((4, 10).2 + 2 ^ wtS.rd Field.SEQ_FLASK_WP_LOG2 4 * 1000)).waitEdges 4) = [])) ∧
    ((List.find? (fun p => p.1 == 4) d21.waiting = some (4, 10)) ∧
     (d21.on Field.SEQ_CTL_DL_CHECK_EN = true) ∧
     (d21.whollyWaiting 4 = true) ∧
     (cycleOf ((d21.elapse ((4, 10).2 + 2 ^ d21.rd Field.SEQ_FLASK_WP_LOG2 4 * 1000)).waitEdges 4) ≠ []) ∧
     (((d21.elapse ((4, 10).2 + 2 ^ d21.rd Field.SEQ_FLASK_WP_LOG2 4 * 1000)).cycles.any fun c => c.1 == 4 && c.2 == cycleOf
        ((d21.elapse ((4, 10).2 + 2 ^ d21.rd Field.SEQ_FLASK_WP_LOG2 4 * 1000)).waitEdges 4)) = false)) := by
  repeat' apply And.intro
  all_goals decide +kernel

theorem hyps_MouldIsLoaded_0 :
    (d22.starts 2 48) ∧
    (d22.dirtyLines (d22.par 2 1) (max (d22.par 2 2) 768) = []) ∧
    (bit (d22.par 2 0) 49 = true → bits (d22.par 2 0) 0 16 = 0) ∧
    (bit (d22.par 2 0) 49 = false → (d22.begun 2).frefOk 2 = true ∧ (d22.begun 2).flaskLive (bits (d22.par 2 0) 0 6) = true) ∧
    ((d22.begun 2).loadDenied (bit (d22.par 2 0) 49) (bits (d22.par 2 0) 0 6) (d22.par 2 1) (d22.par 2 2) (d22.par 2 3)
      (imBanks ((d22.begun 2).dieRead (d22.par 2 1) 768)) = true) := by
  repeat' apply And.intro
  all_goals decide +kernel

theorem hyps_MouldIsLoaded_1 :
    (d23.starts 2 48) ∧
    (d23.dirtyLines (d23.par 2 1) (max (d23.par 2 2) 768) = []) ∧
    (bit (d23.par 2 0) 49 = true → bits (d23.par 2 0) 0 16 = 0) ∧
    (bit (d23.par 2 0) 49 = false → (d23.begun 2).frefOk 2 = true ∧ (d23.begun 2).flaskLive (bits (d23.par 2 0) 0 6) = true) ∧
    ((d23.begun 2).loadDenied (bit (d23.par 2 0) 49) (bits (d23.par 2 0) 0 6) (d23.par 2 1) (d23.par 2 2) (d23.par 2 3)
      (imBanks ((d23.begun 2).dieRead (d23.par 2 1) 768)) = false) ∧
    (d23.on Field.MC_HTAB_EN = false) := by
  repeat' apply And.intro
  all_goals decide +kernel

theorem hyps_MouldIsLoaded_2_0 :
    (d24.starts 2 48) := by
  repeat' apply And.intro
  all_goals decide +kernel

theorem hyps_MouldIsLoaded_2_1 :
    (d24.dirtyLines (d24.par 2 1) (max (d24.par 2 2) 768) = []) := by
  decide +kernel

theorem hyps_MouldIsLoaded_2_2 :
    (bit (d24.par 2 0) 49 = true → bits (d24.par 2 0) 0 16 = 0) := by
  decide +kernel

theorem hyps_MouldIsLoaded_2_3 :
    (bit (d24.par 2 0) 49 = false → (d24.begun 2).frefOk 2 = true ∧ (d24.begun 2).flaskLive (bits (d24.par 2 0) 0 6) = true) := by
  decide +kernel

theorem hyps_MouldIsLoaded_2_4 :
    ((d24.begun 2).loadDenied (bit (d24.par 2 0) 49) (bits (d24.par 2 0) 0 6) (d24.par 2 1) (d24.par 2 2) (d24.par 2 3)
      (imBanks ((d24.begun 2).dieRead (d24.par 2 1) 768)) = false) := by
  decide +kernel

theorem hyps_MouldIsLoaded_2_5 :
    (d24.on Field.MC_HTAB_EN = true) := by
  decide +kernel

theorem hyps_MouldIsLoaded_2_6 :
    ((d24.begun 2).freeHandle = some 0) := by
  decide +kernel

theorem hyps_MouldIsLoaded_2_7 :
    ((d24.begun 2).freeRun (if bit (d24.par 2 0) 49 = true then none else some (bits (d24.par 2 0) 0 6)) (d24.par 2 2) = some
      (65536 * 4096)) := by
  decide +kernel

theorem hyps_MouldIsLoaded_2 :
    (d24.starts 2 48) ∧
    (d24.dirtyLines (d24.par 2 1) (max (d24.par 2 2) 768) = []) ∧
    (bit (d24.par 2 0) 49 = true → bits (d24.par 2 0) 0 16 = 0) ∧
    (bit (d24.par 2 0) 49 = false → (d24.begun 2).frefOk 2 = true ∧ (d24.begun 2).flaskLive (bits (d24.par 2 0) 0 6) = true) ∧
    ((d24.begun 2).loadDenied (bit (d24.par 2 0) 49) (bits (d24.par 2 0) 0 6) (d24.par 2 1) (d24.par 2 2) (d24.par 2 3)
      (imBanks ((d24.begun 2).dieRead (d24.par 2 1) 768)) = false) ∧
    (d24.on Field.MC_HTAB_EN = true) ∧
    ((d24.begun 2).freeHandle = some 0) ∧
    ((d24.begun 2).freeRun (if bit (d24.par 2 0) 49 = true then none else some (bits (d24.par 2 0) 0 6)) (d24.par 2 2) = some
      (65536 * 4096)) :=
  ⟨hyps_MouldIsLoaded_2_0, hyps_MouldIsLoaded_2_1, hyps_MouldIsLoaded_2_2, hyps_MouldIsLoaded_2_3, hyps_MouldIsLoaded_2_4,
    hyps_MouldIsLoaded_2_5, hyps_MouldIsLoaded_2_6, hyps_MouldIsLoaded_2_7⟩

theorem hyps_MouldIsLoaded_3 :
    (2 < 16) ∧
    (List.find? (fun m => m.idx == 1 && !m.loaded) mc.moulds.table = some d25) ∧
    (d25.slot = some 2) := by
  repeat' apply And.intro
  all_goals decide +kernel

end Lanes

/-! ### Routes, translations and invalidations -/

namespace Walks

def R (l : List Nat) : List Byte := dws l 64
def rt (mode : Nat) : List Nat :=
  [12 + mode * 2^8 + 3 * 2^16 + 5 * 2^32 + 2 * 2^48, 2 * 2^16 + 3 * 2^24 + 4 * 2^32, 0, 5 * 2^8]
def op0 : RouteOp := { id := 40, ctx := 0, pour := { queue := 5, seq := 1 }, mgmt := false, index := 0, mode := 2, fmt := 0,
                       policy := 0, k := 0, rows := 1, cap := 0, experts := 0, score := 0x5000, list := 0, weight := 0,
                       spill := 0, slotBase := 0, slots := 0, maxSlot := 0, total := none, pred := 5, thresh := 0,
                       table := [], marks := [5, 6], producer := some 20 }
def rfull : State := { before ctx0 (rt 0) with route := { ops := List.replicate 64 op0, turn := [] } }
def rs (o : RouteOp) : State :=
  { runs (before { ctx0 with pending := 96 } [31]) kern0 lane8 with route := { ops := [o], turn := [40] } }
def q0 : Req := { id := 41, who := .route, ctx := 0, root := none, tier := 0, addr := base4 + 64, va := 0x5000,
                  kind := .read 64, purpose := .route 40, issued := true }
def o1 : RouteOp := { op0 with got := [], met := true }
def o2 : RouteOp := { op0 with got := [(0x5000, zeros 64, false)], met := true }
def o2r : RouteOp := { o2 with retried := true }
def o3 : RouteOp := { o2 with selected := [0], writes := some [], vals := [(5, 1)], dropped := 2, spilled := 3 }
def o3w : RouteOp := { o3 with out := [50] }
def xl : State := put (before ctx0 [31]) [(.XL_CTL_WC_EN, 0, 1)]
def w0 : Walk := { id := 44, slot := 7, va := 0x5008 }
def walks (w : Walk) : State := { put xl [(.XL_ATLAS_ROOT,7,base4/8192+1)] with xl := { walks := [w] } }
def w1 : Walk := { w0 with started := true, level := 0, table := base4 + 8192 }
def a0 : Ask :=
  { id := 45, owner := .engine 8, who := .engine 8, ctx := 0, slot := 7, va := 0x5008, acc := .read, wait := .walk 44 }
def tbl (w : Walk) (e : Nat) : State := let s := walks w; laid { s with xl := { s.xl with asks := [a0] } } w.table
  (leBytes 8 e)
def w3 : Walk := { w1 with level := 3 }
def ab (root : Nat) (pasid : Nat) : State := mail (flask4 up) 2 0x40 [4, pasid, root]
def au (s : State) (op p0 p1 p2 : Nat) : State := mail s 2 op [p0, p1, p2]
def inv0 (n : Nat) : Inv := { id := n, source := .cmd n, slots := [7], range := none, started := true, acks := [3] }
def h0 : Held := { flask := 4, fid := 6, slot := 7, region := 0, kind := 3 }
def ah : Ask := { a0 with wait := .held 4 6 }
def fr (a : Nat) : State := { mail (before ctx0 [31]) 2 0x43 [4 + a * 2^48, 6] with xl := { helds := [h0], asks := [ah] } }
def iv : Inv := { id := 46, source := .host 9, slots := [7], range := none, started := true, acks := [8], kernels := [20] }
def ivS (v : Inv) : State := { running with xl := { invs := [v] } } where running := runs (before ctx0 [31]) kern0 lane8
def ivd (f : InvFrom) : Inv := { iv with source := f, acks := [], kernels := [] }
def ivR (f : InvFrom) : State := { put up [(.MB_STATE_STATE,0,32),(.XL_ATLAS_VALID,7,1)] with xl := { invs := [ivd f] } }
def e1 : State := before ctx0 (rt 0)
def e4 : State := put (rs op0) [(.RT_CTL_PUSH_EN,0,1)]
def e5 : State := put (rs op0) [(.RT_CTL_PUSH_EN,0,0)]
def e6 : State := rs op0
def e7 : State := { rs o1 with reqs := [q0] }
def e8 : State := rs o2
def e9 : State := rs o2
def e10 : State := rs o2r
def e11 : State := rs o3w
def e14 : State := rs o3
def e15 : Ctx := { ctx0 with pending := 96 }
def e18 : State := sheeted xl
def e20 : State := walks w0
def e21 : State := walks w1
def e22 : State := tbl w1 (1 + base4 + 2^24 + 4 * 2^56)
def e23 : State := tbl w3 (3 + 4 + 16 + 32 + 64 + 9 * 2^25 + 4 * 2^56)
def e25 : State := tbl w3 0
def e26 : State := ab (base4 + 2^24) 5
def e27 : State := ab (base4 + 2^24) 6
def e28 : State := mail (queue5 up) 2 0x41 [4, 5]
def e29 : State := mail (flask4 up) 2 0x41 [4, 5]
def e30 : State := au (flask4 up) 0x42 4 5 0
def e32 : State := { au (flask4 up) 0x42 4 5 0 with xl := { invs := (List.range 8).map (fun i => inv0 (i+3)) } }
def e33 : State := fr 0
def e34 : State := fr 1
def e36 : State := ivS iv
def e37 : State := ivS iv
def e38 : State := ivR (.host 9)
def e39 : State := ivR (.cmd 2)
def e40 : State := ivR (.unbind (some 2))
def e41 : State := { up with xl := { tables := [{ slot := 7, level := 0, pre := 0, next := 5 }] } }

theorem hyps_RouteOperations :
    ((e1.faces 0 ctx0 mould1 (R (rt 0))) ∧
     (opOf (R (rt 0)) = opROUTE) ∧
     ((0, Instr.recRouteTopk 0) ∈ [(0, Instr.recRouteTopk 0), (1, Instr.recRouteBlocks 0), (2, Instr.recRouteExit 0)]) ∧
     (fld (R (rt 0)) 0 8 2 = 0) ∧
     (e1.route.ops.length < 64) ∧
     (List.filter (fun k => Option.any e1.mayWalk (e1.ctx? k)) (List.takeWhile (fun k => k != 0) e1.route.waits) = [])) ∧
    ((rfull.faces 0 ctx0 mould1 (R (rt 0))) ∧
     (opOf (R (rt 0)) = opROUTE) ∧
     ((0, Instr.recRouteTopk 0) ∈ [(0, Instr.recRouteTopk 0), (1, Instr.recRouteBlocks 0), (2, Instr.recRouteExit 0)]) ∧
     (fld (R (rt 0)) 0 8 2 = 0) ∧
     (64 ≤ rfull.route.ops.length ∨ List.filter (fun k => Option.any rfull.mayWalk (rfull.ctx? k))
       (List.takeWhile (fun k => k != 0) rfull.route.waits) ≠ [])) ∧
    ((List.find? (fun o => match o.producer.bind e4.kernel? with
                   | some k => k.ctx == 0 && k.index == 0 && k.left.contains 8 && !k.reported.contains 8 && decide
                       (0 < o.rows) && decide (0 < o.parts)
                   | none => false) e4.route.ops = some op0) ∧
     (e4.on Field.RT_CTL_PUSH_EN = true) ∧
     (e4.scoreChunks < 4096) ∧
     ((op0.pushes.any fun q => q.1 == 0 && q.2.1 == 0) = false)) ∧
    ((List.find? (fun o => match o.producer.bind e5.kernel? with
                   | some k => k.ctx == 0 && k.index == 0 && k.left.contains 8 && !k.reported.contains 8 && decide
                       (0 < o.rows) && decide (0 < o.parts)
                   | none => false) e5.route.ops = none ∨ e5.on Field.RT_CTL_PUSH_EN = false ∨ 4096 ≤ e5.scoreChunks)) ∧
    (((e6.lane 8).running.bind e6.kernel? = some kern0) ∧
     (kern0.reported.contains 8 = false)) ∧
    ((e7.req? 41 = some q0) ∧
     (q0.purpose = Purpose.route 40) ∧
     (q0.issued = true) ∧
     (q0.fin = none) ∧
     (q0.tier = 0) ∧
     (q0.kind = ReqKind.read 64) ∧
     (q0.parts = []) ∧
     (e7.homeHolds q0 = none) ∧
     (e7.hlp.waits = []) ∧
     (e7.op? 40 = some o1)) ∧
    ((e8.route.turn = [40]) ∧
     (e8.op? 40 = some o2) ∧
     (o2.ready = true)) ∧
    ((e9.route.turn = [40]) ∧
     (e9.op? 40 = some o2) ∧
     (o2.ready = true) ∧
     (o2.retried = false)) ∧
    ((e10.route.turn = [40]) ∧
     (e10.op? 40 = some o2r) ∧
     (o2r.ready = true) ∧
     (o2r.retried = true)) ∧
    ((e11.op? 40 = some o3w) ∧
     (o3w.writes ≠ some [] ∨ o3w.out ≠ [] ∨ ∃ e ∈ e11.cast.egress, e.purpose = Purpose.route 40)) ∧
    ((e14.op? 40 = some o3) ∧
     (o3.writes = some []) ∧
     (o3.out = []) ∧
     (∀ e ∈ e14.cast.egress, e.purpose ≠ Purpose.route 40) ∧
     (e14.ctx? o3.ctx = some e15) ∧
     (e14.mould? e15.mould e15.mgen = some mould1)) := by
  repeat' apply And.intro
  all_goals decide +kernel

theorem hyps_TranslationsAndWalks :
    ((xl.ready = true) ∧
     (xl.ctx? 0 = some ctx0) ∧
     (ctx0.mgmt = false) ∧
     (xl.physOn 8 0 = none) ∧
     (xl.asksOf (Requester.engine 8) < 4) ∧
     (xl.slotOf ctx0 = some 7) ∧
     (2 ^ 57 ≤ 2 ^ 57) ∧
     (xl.ending ctx0 = false)) ∧
    ((e18.ready = true) ∧
     (e18.ctx? 0 = some ctx0) ∧
     (ctx0.mgmt = false) ∧
     (e18.physOn 8 0 = none) ∧
     (e18.asksOf (Requester.engine 8) < 4) ∧
     (e18.slotOf ctx0 = some 7) ∧
     (20488 < 2 ^ 57) ∧
     (e18.sheetHit 7 20488 = some leaf0) ∧
     (e18.accessFault leaf0 ctx0 (Requester.engine 8) Acc.read = none)) ∧
    ((xl.ready = true) ∧
     (xl.ctx? 0 = some ctx0) ∧
     (ctx0.mgmt = false) ∧
     (xl.physOn 8 0 = none) ∧
     (xl.asksOf (Requester.engine 8) < 4) ∧
     (xl.slotOf ctx0 = some 7) ∧
     (20488 < 2 ^ 57) ∧
     (xl.sheetHit 7 20488 = none)) ∧
    ((e20.ready = true) ∧
     ((List.filter Walk.started e20.xl.walks).length < 32) ∧
     (List.find? (fun w => !w.started) e20.xl.walks = some w0) ∧
     (w0.fresh = true ∨ e20.sheetHit w0.slot w0.va = none)) ∧
    ((List.find? (fun w => w.id == 44 && w.started) e21.xl.walks = some w1) ∧
     (w1.marked = false) ∧
     (bit (ofLe (e21.homeRead (w1.table + levelIndex w1.level w1.va * 8) 8 [])) 0 = false) ∧
     (e21.migAt w1.slot (w1.table + levelIndex w1.level w1.va * 8) = none)) ∧
    ((List.find? (fun w => w.id == 44 && w.started) e22.xl.walks = some w1) ∧
     (w1.marked = false) ∧
     (bit (ofLe (e22.homeRead (w1.table + levelIndex w1.level w1.va * 8) 8 [])) 0 = true) ∧
     (bits (ofLe (e22.homeRead (w1.table + levelIndex w1.level w1.va * 8) 8 [])) 56 6 = e22.rd Field.XL_ATLAS_FLASK w1.slot) ∧
     (bits (ofLe (e22.homeRead (w1.table + levelIndex w1.level w1.va * 8) 8 [])) 62 2 = 0) ∧
     (bit (ofLe (e22.homeRead (w1.table + levelIndex w1.level w1.va * 8) 8 [])) 1 = false) ∧
     (w1.level < 3) ∧
     (bits (ofLe (e22.homeRead (w1.table + levelIndex w1.level w1.va * 8) 8 [])) 2 10 = 0) ∧
     (e22.tableOk (e22.rd Field.XL_ATLAS_FLASK w1.slot) (w1.level + 1)
       (bits (ofLe (e22.homeRead (w1.table + levelIndex w1.level w1.va * 8) 8 [])) 12 44 * 4096) = true)) ∧
    ((List.find? (fun w => w.id == 44 && w.started) e23.xl.walks = some w3) ∧
     (w3.marked = false) ∧
     (bit (ofLe (e23.homeRead (w3.table + levelIndex w3.level w3.va * 8) 8 [])) 0 = true) ∧
     (bits (ofLe (e23.homeRead (w3.table + levelIndex w3.level w3.va * 8) 8 [])) 56 6 = e23.rd Field.XL_ATLAS_FLASK w3.slot) ∧
     (bits (ofLe (e23.homeRead (w3.table + levelIndex w3.level w3.va * 8) 8 [])) 62 2 = 0) ∧
     (bit (ofLe (e23.homeRead (w3.table + levelIndex w3.level w3.va * 8) 8 [])) 1 = true) ∧
     (w3.level ≠ 0) ∧
     (bits (ofLe (e23.homeRead (w3.table + levelIndex w3.level w3.va * 8) 8 [])) 2 2 = 4 - w3.level) ∧
     (bits (ofLe (e23.homeRead (w3.table + levelIndex w3.level w3.va * 8) 8 [])) 8 2 ≠ 3) ∧
     (bits (ofLe (e23.homeRead (w3.table + levelIndex w3.level w3.va * 8) 8 [])) 25 31 * sheet32M % levelSize w3.level = 0) ∧
     (bits (ofLe (e23.homeRead (w3.table + levelIndex w3.level w3.va * 8) 8 [])) 8 2 = 1 → e23.headless = false) ∧
     (e23.sheetOk (e23.rd Field.XL_ATLAS_FLASK w3.slot)
       (bits (ofLe (e23.homeRead (w3.table + levelIndex w3.level w3.va * 8) 8 [])) 8 2)
       (bits (ofLe (e23.homeRead (w3.table + levelIndex w3.level w3.va * 8) 8 [])) 25 31 * sheet32M) (levelSize w3.level) =
       true) ∧
     (e23.sealAttr (e23.rd Field.XL_ATLAS_FLASK w3.slot) w3.slot
       (bits (ofLe (e23.homeRead (w3.table + levelIndex w3.level w3.va * 8) 8 [])) 8 2)
       (bits (ofLe (e23.homeRead (w3.table + levelIndex w3.level w3.va * 8) 8 [])) 25 31 * sheet32M)
       (w3.va / levelSize w3.level * levelSize w3.level) (levelSize w3.level) = some
       (bit (ofLe (e23.homeRead (w3.table + levelIndex w3.level w3.va * 8) 8 [])) 7, bit
         (ofLe (e23.homeRead (w3.table + levelIndex w3.level w3.va * 8) 8 [])) 10))) ∧
    ((List.find? (fun w => w.id == 44 && w.started) e25.xl.walks = some w3) ∧
     (w3.marked = false) ∧
     ((∃ l, Ret.poison = Ret.poison l) ∨ Ret.poison = Ret.error)) := by
  repeat' apply And.intro
  all_goals first | decide +kernel | exact Or.inl ⟨_, rfl⟩ | exact Or.inr rfl

theorem hyps_AtlasCommands :
    ((e26.starts 2 64) ∧
     ((e26.begun 2).frefOk 2 = true) ∧
     ((e26.begun 2).flaskLive (bits (e26.par 2 0) 0 6) = true) ∧
     ((e26.begun 2).slotOfPasid (bits (e26.par 2 1) 0 20) ≠ none)) ∧
    ((e27.starts 2 64) ∧
     ((e27.begun 2).frefOk 2 = true) ∧
     ((e27.begun 2).flaskLive (bits (e27.par 2 0) 0 6) = true) ∧
     ((e27.begun 2).slotOfPasid (bits (e27.par 2 1) 0 20) = none) ∧
     ((e27.begun 2).inPrivate (bits (e27.par 2 0) 0 6) (e27.par 2 2) 8192 = true) ∧
     ((e27.begun 2).flaskSealed (bits (e27.par 2 0) 0 6) = true → (e27.begun 2).allPublic (e27.par 2 2) 8192 = true) ∧
     ((lowest 1024 fun a => !(e27.begun 2).atlases.contains a) = some 0) ∧
     (e27.par 2 2 % 8192 = 0)) ∧
    ((e28.starts 2 65) ∧
     ((e28.begun 2).frefOk 2 = true) ∧
     ((e28.begun 2).boundSlot (bits (e28.par 2 1) 0 20) (bits (e28.par 2 0) 0 6) = some 7) ∧
     (((((e28.begun 2).listed Field.QCTX_STATE).any fun q => (e28.begun 2).rd Field.QCTX_PASID q == bits (e28.par 2 1) 0 20)
        || (e28.begun 2).xl.invs.any fun v => v.slots.contains 7) = true)) ∧
    ((e29.starts 2 65) ∧
     ((e29.begun 2).frefOk 2 = true) ∧
     ((e29.begun 2).boundSlot (bits (e29.par 2 1) 0 20) (bits (e29.par 2 0) 0 6) = some 7) ∧
     (((((e29.begun 2).listed Field.QCTX_STATE).any fun q => (e29.begun 2).rd Field.QCTX_PASID q == bits (e29.par 2 1) 0 20)
        || (e29.begun 2).xl.invs.any fun v => v.slots.contains 7) = false)) ∧
    ((e30.starts 2 66) ∧
     (((e30.begun 2).invPool (InvFrom.cmd 2)).1 < 8) ∧
     ((e30.begun 2).frefOk 2 = true) ∧
     ((e30.begun 2).boundSlot (bits (e30.par 2 1) 0 20) (bits (e30.par 2 0) 0 6) = some 7)) ∧
    ((e32.starts 2 66) ∧
     (8 ≤ ((e32.begun 2).invPool (InvFrom.cmd 2)).1)) ∧
    ((e33.starts 2 67) ∧
     ((e33.begun 2).frefOk 2 = true) ∧
     ((e33.begun 2).heldOf 2 = some h0) ∧
     (bits (e33.par 2 0) 48 1 = 0)) ∧
    ((e34.starts 2 67) ∧
     ((e34.begun 2).frefOk 2 = true) ∧
     ((e34.begun 2).heldOf 2 = some h0) ∧
     (bits (e34.par 2 0) 48 1 = 1)) := by
  repeat' apply And.intro
  all_goals decide +kernel

theorem hyps_Invalidations :
    ((List.find? (fun v => v.id == 46 && v.started && v.acks.contains 8) e36.xl.invs = some iv) ∧
     ((e36.lane 8).running.bind e36.kernel? = some kern0)) ∧
    ((e37.kernel? 20 = some kern0) ∧
     ((e37.xl.invs.any fun v => v.started && v.kernels.contains 20) = true) ∧
     (e37.ctx? kern0.ctx = some ctx0) ∧
     (e37.ctx? ctx0.root = some ctx0) ∧
     (ctx0.cause = none) ∧
     (ctx0.stamp = Stamp.none)) ∧
    ((List.find? (fun v => v.id == 46 && v.started) e38.xl.invs = some (ivd (InvFrom.host 9))) ∧
     ((ivd (InvFrom.host 9)).acks = []) ∧
     (e38.invKernels (ivd (InvFrom.host 9)) = []) ∧
     (e38.invBusy (ivd (InvFrom.host 9)) = false) ∧
     ((ivd (InvFrom.host 9)).source = InvFrom.host 9)) ∧
    ((List.find? (fun v => v.id == 46 && v.started) e39.xl.invs = some (ivd (InvFrom.cmd 2))) ∧
     ((ivd (InvFrom.cmd 2)).acks = []) ∧
     (e39.invKernels (ivd (InvFrom.cmd 2)) = []) ∧
     (e39.invBusy (ivd (InvFrom.cmd 2)) = false) ∧
     (2 < 16) ∧
     ((ivd (InvFrom.cmd 2)).source = InvFrom.cmd 2)) ∧
    ((List.find? (fun v => v.id == 46 && v.started) e40.xl.invs = some (ivd (InvFrom.unbind (some 2)))) ∧
     ((ivd (InvFrom.unbind (some 2))).acks = []) ∧
     (e40.invKernels (ivd (InvFrom.unbind (some 2))) = []) ∧
     (e40.invBusy (ivd (InvFrom.unbind (some 2))) = false) ∧
     (2 < 16) ∧
     ((ivd (InvFrom.unbind (some 2))).source = InvFrom.unbind (some 2))) ∧
    ((e41.hears)) := by
  repeat' apply And.intro
  all_goals decide +kernel

end Walks

/-! ### Moves, requests, stores and casters -/

namespace Traffic

def R (l : List Nat) : List Byte := dws l 64
def bm (mode n : Nat) : List Nat := [18 + mode * 2^8 + 3 * 2^16 + 4 * 2^24 + n * 2^32, 64, 128]
def job0 : Job := { id := 60, ctx := 0, pour := { queue := 5, seq := 1 }, flask := 4, at_ := 64 }
def mig0 : Mig := { id := 61, ctx := some 0, flask := 4, slot := 7, va := 0, size := 2^25, leafAt := base4 + 2^24,
                    leaf := 3 + 4 + 16 + 4 * 2^56 + 9 * 2^25, first := 3 + 4 + 16 + 4 * 2^56 + 9 * 2^25, dest := 0,
                    destPa := 10 * 2^25, stage := .swap1, root := some { queue := 5, seq := 1 } }
def migS (m : Mig) (v : Nat) : State := laid { before ctx0 [31] with tier := { migs := [m] } } m.leafAt (leBytes 8 v)
def mig2 : Mig := { mig0 with stage := .swap2 }
def mig3 : Mig := { mig0 with stage := .copying, size := 128 }
def nodata : List (Option Byte) := []
def H : State := before ctx0 [31]
def rq (tier : Nat) (k : ReqKind) : Req :=
  { id := 62, who := .engine 8, ctx := 0, root := none, tier := tier, node := 3, addr := 64, kind := k }
def RS (r : Req) : State := put { before ctx0 [31] with reqs := [r], hlp := { pCred := 5, npCred := 5, evtCred := 3 } }
  [(.CFG_BME,0,1),(.PEER_CTL_EN,0,1),(.PEER_NODE_STATE,3,2),(.PEER_CTL_NODE_LIMIT,0,9)]
def rqi (tier : Nat) (k : ReqKind) : Req := { rq tier k with issued := true }
def bst : BufStore := { id := 63, ctl := 3, cells := [(64,1)], ctx := 0, root := some { queue := 5, seq := 1 } }
def BS : State := { before ctx0 [31] with wbuf := [bst] }
def xfn : Ctx := { ctx0 with fence := [3, 4], fencing := true, st := .waitWork }
def ef : EngFence := { eng := 8, system := true, mark := 5, ctls := [3] }
def running : State := runs (before ctx0 [31]) kern0 lane8
def jq : Req := { rqi 0 (.read 192) with purpose := .cast 60 (2^32), who := .caster 0, va := 64 }
def job1 : Job := { job0 with reading := 1 }
def JS (j : Job) (qs : List Req) : State := put { before ctx0 [31] with cast := { jobs := [j] }, reqs := qs, nextId := 90 }
  [(.CAST_CTL_CASTER_EN,0,0xFFFFFFFF)]
def desc0 : List Byte := dws [3 * 2^8, 0, 1 + 2^32, 64, 0x8000] 192
def job2 : Job := { job0 with desc := some desc0, total := 2 }
def it0 : Item := { n := 0, caster := 3, reads := [], got := [(0, [], true)] }
def job3 : Job := { job2 with items := [it0], next := 1 }
def descb : List Byte := dws [3 * 2^8 + 2 * 2^12, 0, 1 + 2^32, 64, 0x8000] 192
def it1 : Item := { n := 1, caster := 3, reads := [], got := [(0, [], true)] }
def job6 : Job := { job3 with desc := some descb, items := [it1], total := 2 }
def itr : Item := { it0 with retried := true }
def job4 : Job := { job3 with items := [itr] }
def desck : List Byte := dws [4 + 5 * 2^16 + 6 * 2^24, 0, 1 + 2^32, 64, 0x8000] 192
def itl : Item := { it0 with redone := some 9 }
def job7 (i : Item) : Job := { job3 with desc := some desck, items := [i] }
def job5 (tag : List Byte) : Job :=
  { job2 with desc := some desck, chunks := 1, got := [(0, tag, false)], done := [0], ciph := [(0, zeros 64, false)] }
def km : KeyMat := { slot := 5, key := zeros 32 }
def JK (tag : List Byte) : State :=
  { put (JS (job5 tag) []) [(.KEY_SLOT_VALID,5,1),(.KEY_SLOT_USE,5,1),(.KEY_SLOT_FLASK,5,4)] with keys := [km] }
def f1 : State := before ctx0 (bm 0 2)
def f3 : State := before ctx0 (bm 1 0)
def f4 : State := { before ctx0 (bm 1 0) with cast := { jobs := List.replicate 64 job0 } }
def f5 : State := before ctx0 (bm 2 0)
def f6 : State := { before ctx0 (bm 2 0) with tier := { migs := List.replicate 8 mig0 } }
def f7 : State := put up [(.TIER_HOT_VALID, 3, 1), (.TIER_HOT_COUNT, 3, 9), (.TIER_HOT_COUNT, 4, 9)]
def f8 : State := put up [(.TIER_HOT_VALID, 3, 1), (.TIER_CTL_HOT_EN, 0, 1)]
def f9 : State := migS mig0 mig0.leaf
def f10 : State := migS mig0 7
def f11 : State := migS mig2 mig0.leaf
def f12 : State := laid (migS mig3 mig0.leaf) (9 * 2^25) [1,2,3]
def f13 : State := RS (rq 0 (.write [(64,1)]))
def f14 : Req := rq 0 (.write [(64,1)])
def f15 : State := RS (rq 0 (.read 64))
def f16 : Req := rq 0 (.read 64)
def f17 : State := RS (rq 1 (.write [(64,1)]))
def f18 : Req := rq 1 (.write [(64,1)])
def f19 : State := RS (rq 1 (.read 64))
def f20 : Req := rq 1 (.read 64)
def f21 : State := RS (rq 2 (.read 64))
def f22 : Req := rq 2 (.read 64)
def f23 : State := RS (rqi 1 (.read 64))
def f24 : Req := rqi 1 (.read 64)
def f25 : State := laid (RS (rqi 0 (.read 64))) 64 [9]
def f26 : Req := rqi 0 (.read 64)
def f27 : State := RS (rqi 1 (.read 64))
def f28 : Req := rqi 1 (.read 64)
def f29 : State := laid (RS (rqi 0 (.atomic 0 8 5 0))) 64 [9]
def f30 : Req := rqi 0 (.atomic 0 8 5 0)
def f31 : State := win (before ctx0 [31]) 1 1 1
def f32 : State := RS (rqi 0 (.write [(64,1)]))
def f33 : Req := rqi 0 (.write [(64,1)])
def f34 : State := { BS with ctxs := [xfn], wbuf := [] }
def f35 : State := { BS with fences := [ef], wbuf := [] }
def f36 : State := JS job1 [jq]
def f37 : State := JS job2 []
def f38 : State := JS job3 []
def f39 : State := JS job6 []
def f40 : State := JS job3 []
def f41 : State := JS job4 []
def f42 : State := JS (job7 it0) []
def f43 : State := JS (job7 itl) []
def f44 : State := JK (zeros 16)

theorem hyps_BulkMovesAreTaken :
    ((f1.faces 0 ctx0 mould1 (R (bm 0 2))) ∧
     (opOf (R (bm 0 2)) = opMOVE) ∧
     (fld (R (bm 0 2)) 0 8 2 = 0)) ∧
    ((f3.faces 0 ctx0 mould1 (R (bm 1 0))) ∧
     (opOf (R (bm 1 0)) = opMOVE) ∧
     (fld (R (bm 1 0)) 0 8 2 = 1) ∧
     (f3.cast.jobs.length < 64)) ∧
    ((f4.faces 0 ctx0 mould1 (R (bm 1 0))) ∧
     (opOf (R (bm 1 0)) = opMOVE) ∧
     (fld (R (bm 1 0)) 0 8 2 = 1) ∧
     (64 ≤ f4.cast.jobs.length)) ∧
    ((f5.faces 0 ctx0 mould1 (R (bm 2 0))) ∧
     (opOf (R (bm 2 0)) = opMOVE) ∧
     (fld (R (bm 2 0)) 0 8 2 = 2) ∧
     ((List.filter (fun m => m.ctx.isSome) f5.tier.migs).length < 8)) ∧
    ((f6.faces 0 ctx0 mould1 (R (bm 2 0))) ∧
     (opOf (R (bm 2 0)) = opMOVE) ∧
     (fld (R (bm 2 0)) 0 8 2 = 2) ∧
     (8 ≤ (List.filter (fun m => m.ctx.isSome) f6.tier.migs).length)) := by
  repeat' apply And.intro
  all_goals decide +kernel

theorem hyps_TiersAndMigration :
    ((f7.Inv)) ∧
    ((f8.hears) ∧
     (bits 0 Field.TIER_CTL_HOT_EN.row.lo 1 = 0)) ∧
    ((f9.mig? 61 = some mig0) ∧
     (f9.hostHeld (lineOf mig0.leafAt) = false) ∧
     (mig0.leafAt + 8 ≤ hbmSize) ∧
     (mig0.leafAt % 8 = 0) ∧
     (mig0.leaf < 2 ^ 64) ∧
     (mig0.stage = MigStage.swap1) ∧
     (f9.migPourEnds mig0 = false) ∧
     (ofLe ((f9.commitLine (lineOf mig0.leafAt)).sysRead mig0.leafAt 8) = mig0.leaf)) ∧
    ((f10.mig? 61 = some mig0) ∧
     (f10.hostHeld (lineOf mig0.leafAt) = false) ∧
     (mig0.leafAt + 8 ≤ hbmSize) ∧
     (mig0.leafAt % 8 = 0) ∧
     (mig0.leaf < 2 ^ 64) ∧
     (mig0.stage = MigStage.swap1) ∧
     (f10.migPourEnds mig0 = false) ∧
     (ofLe ((f10.commitLine (lineOf mig0.leafAt)).sysRead mig0.leafAt 8) ≠ mig0.leaf) ∧
     (mig0.ctx ≠ none)) ∧
    ((f11.mig? 61 = some mig2) ∧
     (f11.hostHeld (lineOf mig2.leafAt) = false) ∧
     (mig2.leafAt + 8 ≤ hbmSize) ∧
     (mig2.leafAt % 8 = 0) ∧
     (mig2.leaf < 2 ^ 64) ∧
     (mig2.stage = MigStage.swap2) ∧
     (mig2.ctx ≠ none) ∧
     (ofLe ((f11.commitLine (lineOf mig2.leafAt)).sysRead mig2.leafAt 8) = mig2.leaf)) ∧
    ((f12.mig? 61 = some mig3) ∧
     (mig3.stage = MigStage.copying) ∧
     (f12.hlp.filter = []) ∧
     (mig3.host = true → f12.on Field.CFG_BME = true) ∧
     (leafTier mig3.first = 0) ∧
     (bits mig3.dest 0 2 = 0) ∧
     (paLocal mig3.destPa + mig3.size ≤ hbmSize)) := by
  repeat' apply And.intro
  all_goals decide +kernel

theorem hyps_RequestsToHostAndHbm :
    (((Requester.engine 8).legal 1 = true) ∧
     (H.ctx? 0 = some ctx0) ∧
     (¬(1 = 0 ∧ ∃ e, Requester.engine 8 = Requester.engine e)) ∧
     (readBad 64 5 = true)) ∧
    (((Requester.engine 8).legal 1 = true) ∧
     (H.ctx? 0 = some ctx0) ∧
     (¬(1 = 0 ∧ ∃ e, Requester.engine 8 = Requester.engine e)) ∧
     (readBad 64 64 = false) ∧
     (H.tagRoom (Requester.engine 8) (1 == 2) = true) ∧
     (1 = 1 → H.headless = false)) ∧
    (((Requester.engine 8).legal 2 = true) ∧
     (H.ctx? 0 = some ctx0) ∧
     (atomicBad 64 10 8 = true)) ∧
    (((Requester.engine 8).legal 2 = true) ∧
     (H.ctx? 0 = some ctx0) ∧
     (¬(2 = 0 ∧ ∃ e, Requester.engine 8 = Requester.engine e)) ∧
     (atomicBad 64 9 8 = false) ∧
     (H.tagRoom (Requester.engine 8) (2 == 2) = true) ∧
     (2 = 1 → H.headless = false)) ∧
    (((Requester.engine 8).legal 2 = true) ∧
     (H.ctx? 0 = some ctx0) ∧
     (¬(2 = 0 ∧ ∃ e, Requester.engine 8 = Requester.engine e)) ∧
     ((writeBad 64 nodata.length || (maskedCells 64 nodata).isEmpty) = true)) ∧
    (((Requester.engine 8).legal 2 = true) ∧
     (H.ctx? 0 = some ctx0) ∧
     (¬(2 = 0 ∧ ∃ e, Requester.engine 8 = Requester.engine e)) ∧
     ((writeBad 62 [some 5, none, some 7].length || (maskedCells 62 [some 5, none, some 7]).isEmpty) = false) ∧
     (H.flaskSealed ctx0.flask = false) ∧
     (H.entryRoom (Requester.engine 8) = true) ∧
     (2 = 1 → H.headless = false)) ∧
    ((f13.req? 62 = some f14) ∧
     (f14.issued = false) ∧
     (f14.fin = none) ∧
     (f13.lineBusy f14 = false) ∧
     (f14.tier = 0) ∧
     (f14.kind = ReqKind.write [(64, 1)])) ∧
    ((f15.req? 62 = some f16) ∧
     (f16.issued = false) ∧
     (f16.fin = none) ∧
     (f15.lineBusy f16 = false) ∧
     (f16.tier = 0) ∧
     (f16.kind = ReqKind.read 64) ∧
     (List.find? f15.hostExcl f16.lines = none)) ∧
    ((f17.req? 62 = some f18) ∧
     (f18.issued = false) ∧
     (f18.fin = none) ∧
     (f17.lineBusy f18 = false) ∧
     (f18.tier = 1) ∧
     (f18.parts = []) ∧
     (f18.kind = ReqKind.write [(64, 1)]) ∧
     (f17.mayIssueHost true = true) ∧
     (f17.ackTable < 16384) ∧
     (f17.listed Field.TIER_HOT_VALID = [])) ∧
    ((f19.req? 62 = some f20) ∧
     (f20.issued = false) ∧
     (f20.fin = none) ∧
     (f19.lineBusy f20 = false) ∧
     (f20.tier = 1) ∧
     (f20.parts = []) ∧
     (f20.kind = ReqKind.read 64) ∧
     (f19.mayIssueHost false = true) ∧
     (f19.listed Field.TIER_HOT_VALID = [])) ∧
    ((f21.req? 62 = some f22) ∧
     (f22.issued = false) ∧
     (f22.fin = none) ∧
     (f21.lineBusy f22 = false) ∧
     (f22.tier = 2) ∧
     (f22.kind = ReqKind.read 64) ∧
     (f21.issuing f22.node = true) ∧
     (f21.freeTag? ≠ none) ∧
     ((f21.outTo f22.node).length < max (f21.rd Field.PEER_CTL_NODE_LIMIT) 1) ∧
     (f21.outPeers.length < 24576)) ∧
    (((Requester.engine 8).legal 0 = true) ∧
     (H.ctx? 0 = some ctx0) ∧
     (0 = 0 ∧ ∃ e, Requester.engine 8 = Requester.engine e) ∧
     (H.hlp.filter = []) ∧
     (H.req? H.nextId = none)) ∧
    ((f23.req? 62 = some f24) ∧
     (f24.issued = true) ∧
     (f24.fin = none) ∧
     (f24.tier ≠ 2) ∧
     (f23.hlp.waits = []) ∧
     (f24.purpose = Purpose.plain) ∧
     (f24.parts = []) ∧
     (f24.tier = 0 → f23.homeHolds f24 = none) ∧
     (f24.kind = ReqKind.read 64) ∧
     (f24.tier = 1)) ∧
    ((f25.req? 62 = some f26) ∧
     (f26.issued = true) ∧
     (f26.fin = none) ∧
     (f26.tier ≠ 2) ∧
     (f25.hlp.waits = []) ∧
     (f26.purpose = Purpose.plain) ∧
     (f26.parts = []) ∧
     (f26.tier = 0 → f25.homeHolds f26 = none) ∧
     (f26.kind = ReqKind.read 64) ∧
     (f26.tier = 0)) ∧
    ((f27.req? 62 = some f28) ∧
     (f28.issued = true) ∧
     (f28.fin = none) ∧
     (f28.tier ≠ 2) ∧
     (f27.hlp.waits = []) ∧
     (f28.purpose = Purpose.plain) ∧
     (f28.parts = []) ∧
     (f28.tier = 0 → f27.homeHolds f28 = none) ∧
     (f28.kind = ReqKind.read 64) ∧
     ((∃ l, Ret.poison = Ret.poison l) ∨ Ret.poison = Ret.error) ∧
     (f28.direct = false)) ∧
    ((f29.req? 62 = some f30) ∧
     (f30.issued = true) ∧
     (f30.fin = none) ∧
     (f30.tier ≠ 2) ∧
     (f29.hlp.waits = []) ∧
     (f30.purpose = Purpose.plain) ∧
     (f30.parts = []) ∧
     (f30.tier = 0 → f29.homeHolds f30 = none) ∧
     (f30.kind = ReqKind.atomic 0 8 5 0) ∧
     (f30.tier = 0) ∧
     (f30.addr + 8 ≤ hbmSize)) ∧
    ((H.ctx? 0 = some ctx0) ∧
     (∀ p ∈ [(base4 + 2 ^ 24, 5)], p.1 < hbmSize) ∧
     ((linesOf [(base4 + 2 ^ 24, 5)]).any H.coherentLine = false)) ∧
    ((f31.ctx? 0 = some ctx0) ∧
     (∀ p ∈ [(64, 5)], p.1 < hbmSize) ∧
     ((linesOf [(64, 5)]).any f31.coherentLine = true) ∧
     (f31.storeBlock (linesOf [(64, 5)]) = none) ∧
     ((List.map Prod.fst [(64, 5)]).Nodup)) ∧
    ((f32.req? 62 = some f33) ∧
     (f33.kind = ReqKind.write [(64, 1)]) ∧
     (f33.issued = true) ∧
     (f33.tier = 0) ∧
     (f33.purpose = Purpose.plain) ∧
     (f32.storeWaits 62 = false) ∧
     ((linesOf [(64, 1)]).any f32.coherentLine = false)) ∧
    ((List.find? (fun st => st.id == 63) BS.wbuf = some bst) ∧
     (BS.mayCommit bst = true) ∧
     ((List.map Prod.fst bst.cells).Nodup) ∧
     (bst.purpose = Purpose.plain)) ∧
    ((f34.ctx? 0 = some xfn) ∧
     (xfn.fence.contains 3 = true) ∧
     (f34.committed 3 xfn.markAt = true)) ∧
    ((∀ f ∈ f35.fences, f.eng = 8 → f35.committed 3 f.mark = true)) ∧
    (((running.lane 8).running ≠ none) ∧
     (∀ q ∈ running.reqs, q.who = Requester.engine 8 → q.isWrite = false) ∧
     (∀ b ∈ running.cast.egress, b.who ≠ Requester.engine 8)) ∧
    (((running.lane 8).running ≠ none)) := by
  repeat' apply And.intro
  all_goals first | decide +kernel | exact fun h => absurd h.1 (by decide) | exact ⟨_, rfl⟩ | exact Or.inl ⟨_, rfl⟩ | exact Or.inr rfl

theorem hyps_Casters :
    ((f36.req? 62 = some jq) ∧
     (jq.purpose = Purpose.cast 60 jkSelf) ∧
     (jq.issued = true) ∧
     (jq.fin = none) ∧
     (jq.tier = 0) ∧
     (jq.kind = ReqKind.read 192) ∧
     (jq.parts = []) ∧
     (f36.homeHolds jq = none) ∧
     (f36.hlp.waits = []) ∧
     (f36.job? 60 = some job1)) ∧
    ((f37.ready = true) ∧
     (f37.casterFree 3 = true) ∧
     (List.find? Job.offers f37.cast.jobs = some job2) ∧
     (job2.back = [])) ∧
    ((f38.job? 60 = some job3) ∧
     (List.find? (fun x => x.n == 0 && x.caster == 3) job3.items = some it0) ∧
     (it0.ready = true) ∧
     (it0.held = false) ∧
     (3 < 32) ∧
     (cdSparse job3.d = 2 → cdEgress job3.d = false → job3.done.length = 0) ∧
     (∀ x ∈ job3.items, x.held = false)) ∧
    ((f39.job? 60 = some job6) ∧
     (List.find? (fun x => x.n == 1 && x.caster == 3) job6.items = some it1) ∧
     (it1.ready = true) ∧
     (it1.held = false) ∧
     (3 < 32) ∧
     (cdSparse job6.d = 2) ∧
     (cdEgress job6.d = false) ∧
     (job6.done.length ≠ 1)) ∧
    ((f40.job? 60 = some job3) ∧
     (List.find? (fun x => x.n == 0 && x.caster == 3) job3.items = some it0) ∧
     (it0.ready = true) ∧
     (it0.held = false) ∧
     (3 < 32) ∧
     (it0.retried = false)) ∧
    ((f41.job? 60 = some job4) ∧
     (List.find? (fun x => x.n == 0 && x.caster == 3) job4.items = some itr) ∧
     (itr.ready = true) ∧
     (itr.held = false) ∧
     (3 < 32) ∧
     (itr.retried = true)) ∧
    ((f42.job? 60 = some (job7 it0)) ∧
     (List.find? (fun x => x.n == 0 && x.caster == 3) (job7 it0).items = some it0) ∧
     (it0.ready = true) ∧
     (it0.held = false) ∧
     (3 < 32) ∧
     (cdSealed (job7 it0).d = true) ∧
     (f42.laneServes 9 = true) ∧
     (it0.redone ≠ some 9)) ∧
    ((f43.job? 60 = some (job7 itl)) ∧
     (List.find? (fun x => x.n == 0 && x.caster == 3) (job7 itl).items = some itl) ∧
     (itl.ready = true) ∧
     (itl.held = false) ∧
     (3 < 32) ∧
     (cdSealed (job7 itl).d = true) ∧
     (f43.laneServes 9 = true) ∧
     (itl.redone = some 9)) ∧
    ((f44.job? 60 = some (job5 (zeros 16))) ∧
     (f44.jobKey (job5 (zeros 16)) = some km) ∧
     (cdEgress (job5 (zeros 16)).d = false) ∧
     ((job5 (zeros 16)).code = none) ∧
     ((job5 (zeros 16)).reads = []) ∧
     ((job5 (zeros 16)).reading = 0) ∧
     ((job5 (zeros 16)).got ≠ []) ∧
     ((job5 (zeros 16)).chunk < (job5 (zeros 16)).chunks) ∧
     ((job5 (zeros 16)).chunkReady (job5 (zeros 16)).chunk = true)) := by
  repeat' apply And.intro
  all_goals decide +kernel

end Traffic

/-! ### Peers, events and timelines -/

namespace Peers

def rq (k : ReqKind) (p : Purpose) : Req := { id := 62, who := .engine 8, ctx := 0, root := none, tier := 2, node := 3,
                                              addr := 64, kind := k, issued := true, tag := 9, gen := 1, purpose := p }
def RS (r : Req) : State := put { before ctx0 [31] with reqs := [r], hlp := { pCred := 5, npCred := 5, evtCred := 3 } }
  [(.PEER_CTL_EN,0,1),(.PEER_NODE_STATE,3,2),(.PEER_NODE_GEN,3,1),(.PEER_CTL_NODE_LIMIT,0,9)]
def pk (ty h1 v : Nat) (pl : List Byte) : List Byte := leBytes 8 (ty + 3 * 2^20 + 1 * 2^32 + 9 * 2^48) ++ leBytes 8 h1 ++
  leBytes 8 v ++ pl
def rR := rq (.read 64) .plain
def rW := rq (.write [(64,1)]) .plain
def rS := rq (.sig 0 4 3 9) .signal
def rS' := rq (.sig 0 4 3 9) .plain
def rB : Req := { rR with resend := some 700, busy := 2 }
def bound (s : State) : State := put s [(.PEER_CTL_EN,0,1),(.PEER_NODE_STATE,3,2),(.PEER_NODE_GEN,3,1),(.PEER_BIND_EN,7,1),(.PEER_BIND_NODE_LO,7,2),(.PEER_BIND_NODE_HI,7,3),(.PEER_BIND_FLASK,7,4),(.PEER_BIND_RD,7,1),(.PEER_BIND_WR,7,1),(.PEER_BIND_AT,7,1),(.PEER_BIND_SIG,7,1),(.PEER_BIND_DB,7,1),(.PEER_BIND_BASE,7,9),(.PEER_BIND_SIZE,7,1)]
def B : State := bound (queue5 up)
def pa (p0 : Nat) : State := mail (put up [(.PEER_CTL_EN,0,1),(.PEER_NODE_STATE,3,0)]) 2 0x50 [p0]
def nd (st : Nat) (x : Node) : State :=
  { put up [(.PEER_CTL_EN,0,1),(.PEER_NODE_STATE,3,st),(.PEER_NODE_GEN,3,1),(.MB_STATE_STATE,0,32)] with nodes := [x] }
def hel (ty : Nat) : List Byte := pk ty 0 0 []
def n0 : Node := { num := 3, slots := [2] }
def byeS : State := { RS rR with nodes := [] }
def dt (m : Nat) : State := mail (put up [(.PEER_CTL_EN,0,1),(.PEER_NODE_STATE,3,2),(.PEER_NODE_GEN,3,1)]) 2 0x51
  [3 * 2^16 + 2^28 + m * 2^48]
def ev4 : State := put (flask4 up) [(.EV_SRC_OWNED,0x2401,1),(.EV_SRC_FLASK,0x2401,4)]
def es : State := put (before ctx0 [31]) [(.EV_SRC_OWNED,0x2401,1),(.EV_SRC_FLASK,0x2401,4)]
def evs (tgt : Nat) : State := put up [(.EV_CTL_DELIVER_EN,0,1),(.EV_SRC_PENDING,0x2401,1),(.EV_SRC_GROUP,0x2401,3),(.EV_SRC_PRIO,0x2401,4),(.EV_GROUP_MEMBERS,24 + tgt / 64, 2^(tgt % 64)),(.EV_TGT_EN,tgt,1),(.EV_TGT_DEST,tgt,77)]
def msg : List Byte := eventBytes 0x2401 4 5 1 0
def act : State := put up [(.EV_SRC_ACTIVE,0x2401,1),(.EV_SRC_TARGET,0x2401,5),(.EV_SRC_DELIV,0x2401,1),(.EV_SRC_DPRIO,0x2401,4),(.EV_THRESH_INSVC,5,16)]
def v1 : Nat := 0x2401 + 5 * 2^16 + 2^32
def v2 : Nat := 0x2401 + 5 * 2^16 + 2^33
def tl : State := let s := before { ctx0 with num := 0, st := .waitTl, timeline := 3, value := 5 } []; s
def tlr : State := put { tl with breset := some { start := 0, owners := [(20, 9, 2)] } }
  [(.RAS_STATUS_PHASE,0,6),(.RAS_STATUS_LAST_RESET,0,2)]
def g1 : State := RS rR
def g2 : State := RS rR
def g3 : State := RS rW
def g4 : State := RS rS
def g5 : State := RS rR
def g6 : State := RS rR
def g7 : State := RS rW
def g8 : State := RS rS'
def g9 : State := RS rB
def g10 : State := RS rR
def g11 : State := RS rR
def g12 : State := { put up [(.PEER_CTL_EN,0,1),(.PEER_NODE_STATE,3,1),(.PEER_NODE_GEN,3,1),(.MB_STATE_STATE,0,32)] with
                    nodes := [{ num := 3, slots := [2], oldGen := 6 }] }
def g15 : State := pa (3 * 2^16 + 5 * 2^28)
def g16 : State := put (pa (3 * 2^16 + 5 * 2^28)) [(.PEER_NODE_STATE,3,2)]
def g17 : State := nd 2 n0
def g18 : State := nd 1 n0
def g19 : State := nd 1 { n0 with answered := true }
def g20 : State := nd 1 n0
def g21 : State := nd 1 n0
def g22 : State := dt 0
def g23 : State := dt 1
def g24 : State := nd 5 { num := 3, since := 7 }
def g25 : State := flask4 up
def g26 : State := flask4 up
def g28 : State := put ev4 [(.EV_SRC_FLASK_GEN,0x2401,6)]
def g29 : State := put es [(.EV_SRC_FLASK_GEN,0x2401,6)]
def g31 : State := put up [(.XL_ERR_PURGE_TIMEOUT,0,1)]
def g32 : State := evs 5
def g34 : State := { up with ev := { msgs := [(5, 77, msg)] }, hlp := { evtCred := 2 } }
def g35 : State := put up [(.EV_SRC_PENDING,0x2401,1)]
def g40 : State := put tl [(.TL_VALUE,0,6)]
def g41 : State := put tl [(.TL_VALUE,0,6),(.FL_STATE,4,1)]
def g42 : State := put tl [(.TL_VALUE,0,6),(.FL_STATE,4,6)]

theorem hyps_PeerAnswersAndRequests :
    ((g1.answering pkDATA (pk 8 0 0 (zeros 64)) = (some rR, g1)) ∧
     (rR.purpose = Purpose.plain) ∧
     (rR.kind = ReqKind.read 64) ∧
     ((pk 8 0 0 (zeros 64)).length = 24 + 64 * rR.lines.length)) ∧
    ((g2.answering pkDATA (pk 8 0 0 (zeros 64)) = (some rR, g2)) ∧
     (rR.purpose = Purpose.plain) ∧
     (rR.kind = ReqKind.read 64) ∧
     ((pk 8 0 0 (zeros 64)).length = 24 + 64 * rR.lines.length)) ∧
    ((g3.answering pkACK (pk 9 0 0 []) = (some rW, g3)) ∧
     ((pk 9 0 0 []).length = 24) ∧
     (rW.kind = ReqKind.write [(64, 1)]) ∧
     (rW.purpose = Purpose.plain)) ∧
    ((g4.answering pkACK (pk 9 0 0 []) = (some rS, g4)) ∧
     ((pk 9 0 0 []).length = 24) ∧
     (rS.kind = ReqKind.sig 0 4 3 9)) ∧
    ((g5.answering pkBUSY (pk 10 0 0 []) = (some rR, g5)) ∧
     ((pk 10 0 0 []).length = 24)) ∧
    ((g6.answering pkERR (pk 11 (3 * 2 ^ 56) 0 []) = (some rR, g6)) ∧
     ((pk 11 (3 * 2 ^ 56) 0 []).length = 24) ∧
     (rR.purpose = Purpose.plain) ∧
     (rR.kind = ReqKind.read 64)) ∧
    ((g7.answering pkERR (pk 11 (3 * 2 ^ 56) 0 []) = (some rW, g7)) ∧
     ((pk 11 (3 * 2 ^ 56) 0 []).length = 24) ∧
     (rW.purpose = Purpose.plain) ∧
     (rW.kind = ReqKind.write [(64, 1)])) ∧
    ((g8.answering pkERR (pk 11 (3 * 2 ^ 56) 0 []) = (some rS', g8)) ∧
     ((pk 11 (3 * 2 ^ 56) 0 []).length = 24) ∧
     (rS'.purpose = Purpose.plain) ∧
     (rS'.kind = ReqKind.sig 0 4 3 9)) ∧
    ((List.find? (fun r => r.tag == 9 && r.resend.isSome) g9.sentPeers = some rB)) ∧
    ((List.find? (fun r => r.tag == 9 && r.resend.isNone) g10.sentPeers = some rR) ∧
     ((g10.node rR.node).slots = [])) ∧
    ((g11.removable 3 = true) ∧
     ((g11.node 3).slots = [])) ∧
    ((2 < 16) ∧
     (g12.ndState 3 = ndATTACHING) ∧
     ((g12.node 3).slots = [2])) ∧
    ((B.inboundGate pkRD (pk 1 (9 * 2 ^ 25 + 1 * 2 ^ 48) 0 []) = Except.ok 7) ∧
     (pkType (pk 1 (9 * 2 ^ 25 + 1 * 2 ^ 48) 0 []) = pkRD) ∧
     (∀ a ∈ pkLineAddrs (pk 1 (9 * 2 ^ 25 + 1 * 2 ^ 48) 0 []), B.hostExcl (lineOf a) = false)) ∧
    ((B.inboundGate pkWR (pk 2 (9 * 2 ^ 25 + 1 * 2 ^ 48) 0 (zeros 64)) = Except.ok 7) ∧
     (inDoorbells (pkLocal (pk 2 (9 * 2 ^ 25 + 1 * 2 ^ 48) 0 (zeros 64))) = false) ∧
     (pkCells (pk 2 (9 * 2 ^ 25 + 1 * 2 ^ 48) 0 (zeros 64)) ≠ []) ∧
     ((linesOf (pkCells (pk 2 (9 * 2 ^ 25 + 1 * 2 ^ 48) 0 (zeros 64)))).any B.coherentLine = false)) ∧
    ((B.inboundGate pkWR (pk 2 (16492674437120 + 1 * 2 ^ 48 + 2 ^ 53) 0 (leBytes 32 255 ++ leBytes 8 3 ++ zeros 56)) =
       Except.ok 7) ∧
     (inDoorbells (pkLocal (pk 2 (16492674437120 + 1 * 2 ^ 48 + 2 ^ 53) 0 (leBytes 32 255 ++ leBytes 8 3 ++ zeros 56))) = true) ∧
     (popCount (pkLines (pk 2 (16492674437120 + 1 * 2 ^ 48 + 2 ^ 53) 0 (leBytes 32 255 ++ leBytes 8 3 ++ zeros 56))) 4 = 1) ∧
     (pkMasked (pk 2 (16492674437120 + 1 * 2 ^ 48 + 2 ^ 53) 0 (leBytes 32 255 ++ leBytes 8 3 ++ zeros 56)) = true) ∧
     (pkLocal (pk 2 (16492674437120 + 1 * 2 ^ 48 + 2 ^ 53) 0 (leBytes 32 255 ++ leBytes 8 3 ++ zeros 56)) % 256 = 0) ∧
     (List.map Prod.fst (pkCells (pk 2 (16492674437120 + 1 * 2 ^ 48 + 2 ^ 53) 0 (leBytes 32 255 ++ leBytes 8 3 ++ zeros 56)))
       = List.map
       (fun i => pkLocal (pk 2 (16492674437120 + 1 * 2 ^ 48 + 2 ^ 53) 0 (leBytes 32 255 ++ leBytes 8 3 ++ zeros 56)) + i)
       (List.range 8)) ∧
     (bits (ofLe (List.map Prod.snd
                   (pkCells (pk 2 (16492674437120 + 1 * 2 ^ 48 + 2 ^ 53) 0 (leBytes 32 255 ++ leBytes 8 3 ++ zeros 56))))) 32
       8 = B.rd Field.QCTX_GEN ((pkLocal
                                  (pk 2 (16492674437120 + 1 * 2 ^ 48 + 2 ^ 53) 0 (leBytes 32 255 ++ leBytes 8 3 ++ zeros 56))
                                  - 16492674416640) / 4096)) ∧
     (B.drowse = false) ∧
     (B.rd Field.FL_QFIRST (B.rd Field.PEER_BIND_FLASK 7) ≤
       (pkLocal (pk 2 (16492674437120 + 1 * 2 ^ 48 + 2 ^ 53) 0 (leBytes 32 255 ++ leBytes 8 3 ++ zeros 56)) - 16492674416640)
       / 4096) ∧
     ((pkLocal (pk 2 (16492674437120 + 1 * 2 ^ 48 + 2 ^ 53) 0 (leBytes 32 255 ++ leBytes 8 3 ++ zeros 56)) - 16492674416640) /
       4096 < B.rd Field.FL_QFIRST (B.rd Field.PEER_BIND_FLASK 7) + B.rd Field.FL_QCOUNT (B.rd Field.PEER_BIND_FLASK 7))) ∧
    ((B.inboundGate pkAT (pk 3 (9 * 2 ^ 25 + 0 * 2 ^ 44 + 2 ^ 52) 0 (leBytes 8 5)) = Except.ok 7) ∧
     (pkType (pk 3 (9 * 2 ^ 25 + 0 * 2 ^ 44 + 2 ^ 52) 0 (leBytes 8 5)) = pkAT) ∧
     (∀ a ∈ pkLineAddrs (pk 3 (9 * 2 ^ 25 + 0 * 2 ^ 44 + 2 ^ 52) 0 (leBytes 8 5)), B.hostHeld (lineOf a) = false) ∧
     (B.storeBlock [lineOf (pkLocal (pk 3 (9 * 2 ^ 25 + 0 * 2 ^ 44 + 2 ^ 52) 0 (leBytes 8 5)))] = none) ∧
     ((pkLocal (pk 3 (9 * 2 ^ 25 + 0 * 2 ^ 44 + 2 ^ 52) 0 (leBytes 8 5)) + if fld
        (pk 3 (9 * 2 ^ 25 + 0 * 2 ^ 44 + 2 ^ 52) 0 (leBytes 8 5)) 1 52 1 = 1 then 8 else 4) ≤ hbmSize)) ∧
    ((B.inboundGate pkSIG (pk 4 (3 + 1 * 2 ^ 44) 6 []) = Except.ok 7) ∧
     (bits (pkLocal (pk 4 (3 + 1 * 2 ^ 44) 6 [])) 0 16 ≤ B.rd Field.FL_TCOUNT_M1 (B.rd Field.PEER_BIND_FLASK 7))) ∧
    ((B.inboundGate pkSIG (pk 4 (30 + 1 * 2 ^ 44) 6 []) = Except.ok 7) ∧
     (B.rd Field.FL_TCOUNT_M1 (B.rd Field.PEER_BIND_FLASK 7) < bits (pkLocal (pk 4 (30 + 1 * 2 ^ 44) 6 [])) 0 16)) ∧
    (((1, Instr.inboundRd (pk 1 (8 * 2 ^ 25 + 1 * 2 ^ 48) 0 [])) ∈
       [(pkRD, Instr.inboundRd (pk 1 (8 * 2 ^ 25 + 1 * 2 ^ 48) 0 [])),
         (pkWR, Instr.inboundWr (pk 1 (8 * 2 ^ 25 + 1 * 2 ^ 48) 0 []) 0),
         (pkAT, Instr.inboundAt (pk 1 (8 * 2 ^ 25 + 1 * 2 ^ 48) 0 [])),
         (pkSIG, Instr.inboundSig (pk 1 (8 * 2 ^ 25 + 1 * 2 ^ 48) 0 []))]) ∧
     (pkType (pk 1 (8 * 2 ^ 25 + 1 * 2 ^ 48) 0 []) = 1) ∧
     (B.on Field.PEER_CTL_EN = true) ∧
     (B.ready = true) ∧
     (B.admits (pk 1 (8 * 2 ^ 25 + 1 * 2 ^ 48) 0 []) = true) ∧
     (B.drowse = false) ∧
     (B.inboundUse < 4096) ∧
     (B.bufUse B.sigBuf < 256) ∧
     (B.bufUse B.dbBuf < 256) ∧
     ((B.inboundFault (pk 1 (8 * 2 ^ 25 + 1 * 2 ^ 48) 0 [])).1 ≠ 0)) := by
  repeat' apply And.intro
  all_goals decide +kernel

theorem hyps_PeerNodes :
    ((g15.starts 2 80) ∧
     (g15.on Field.PEER_CTL_EN = true) ∧
     (g15.ndState (bits (g15.par 2 0) 16 12) = ndFREE) ∧
     (bits (g15.par 2 0) 16 12 ≠ g15.self) ∧
     (bits (g15.par 2 0) 28 8 ≠ g15.ndGen (bits (g15.par 2 0) 16 12))) ∧
    ((g16.starts 2 80) ∧
     (g16.on Field.PEER_CTL_EN = false ∨ g16.ndState (bits (g16.par 2 0) 16 12) ≠ ndFREE)) ∧
    ((g17.ready = true) ∧
     (g17.on Field.PEER_CTL_EN = true) ∧
     (helloBad (hel 5) = false) ∧
     (pkGen (hel 5) = g17.ndGen (pkSrc (hel 5))) ∧
     (pkType (hel 5) = pkHELLO) ∧
     (g17.ndState (pkSrc (hel 5)) = ndATTACHED)) ∧
    ((g18.ready = true) ∧
     (g18.on Field.PEER_CTL_EN = true) ∧
     (helloBad (hel 5) = false) ∧
     (pkGen (hel 5) = g18.ndGen (pkSrc (hel 5))) ∧
     (pkType (hel 5) = pkHELLO) ∧
     (g18.ndState (pkSrc (hel 5)) = ndATTACHING) ∧
     ((g18.node (pkSrc (hel 5))).gotAck = false)) ∧
    ((g19.ready = true) ∧
     (g19.on Field.PEER_CTL_EN = true) ∧
     (helloBad (hel 12) = false) ∧
     (pkGen (hel 12) = g19.ndGen (pkSrc (hel 12))) ∧
     (2 < 16) ∧
     (pkType (hel 12) = pkHELLOACK) ∧
     (g19.ndState (pkSrc (hel 12)) = ndATTACHING) ∧
     ((g19.node (pkSrc (hel 12))).gotAck = false) ∧
     ((g19.node (pkSrc (hel 12))).answered = true) ∧
     ((g19.node (pkSrc (hel 12))).slots = [2])) ∧
    ((byeS.ready = true) ∧
     (byeS.on Field.PEER_CTL_EN = true) ∧
     (helloBad (hel 6) = false) ∧
     (pkGen (hel 6) = byeS.ndGen (pkSrc (hel 6))) ∧
     (pkType (hel 6) = pkBYE) ∧
     (byeS.ndState (pkSrc (hel 6)) = ndATTACHED) ∧
     (byeS.nodes = []) ∧
     (byeS.outTo (pkSrc (hel 6)) ≠ [])) ∧
    ((g20.ndState 3 = ndATTACHING) ∧
     ((g20.node 3).gotAck = false)) ∧
    ((g21.ndState 3 = ndATTACHING) ∧
     ((g21.node 3).gotAck = false) ∧
     (2 < 16) ∧
     ((g21.node 3).slots = [2])) ∧
    ((g22.starts 2 81) ∧
     (bits (g22.par 2 0) 28 8 = g22.ndGen (bits (g22.par 2 0) 16 12)) ∧
     (g22.removable (bits (g22.par 2 0) 16 12) = true) ∧
     ((g22.node (bits (g22.par 2 0) 16 12)).slots = []) ∧
     (bits (g22.par 2 0) 48 1 = 0) ∧
     (g22.nodes = []) ∧
     (g22.freeTag? ≠ none) ∧
     (∀ q ∈ g22.reqs, q.isBye = false)) ∧
    ((g23.starts 2 81) ∧
     (bits (g23.par 2 0) 28 8 = g23.ndGen (bits (g23.par 2 0) 16 12)) ∧
     (g23.removable (bits (g23.par 2 0) 16 12) = true) ∧
     ((g23.node (bits (g23.par 2 0) 16 12)).slots = []) ∧
     (bits (g23.par 2 0) 48 1 = 1)) ∧
    ((g24.ready = true) ∧
     (g24.ndState 3 = ndQUARANTINED) ∧
     (3 < 4096)) ∧
    ((g25.hears) ∧
     (7 < 256) ∧
     (g25.on Field.PEER_BIND_EN 7 = false) ∧
     (bits (2 ^ 63 + 2 + 3 * 2 ^ 12 + 4 * 2 ^ 24) 63 1 = 1) ∧
     ((g25.regWrite (6295552 + 32 * 7) 8 0 ((2 ^ 63 + 2 + 3 * 2 ^ 12 + 4 * 2 ^ 24) % 2 ^ 64)).bindOk 7 = true)) ∧
    ((g26.hears) ∧
     (7 < 256) ∧
     (g26.on Field.PEER_BIND_EN 7 = false) ∧
     (bits (2 ^ 63 + 5 + 3 * 2 ^ 12) 63 1 = 1) ∧
     ((g26.regWrite (6295552 + 32 * 7) 8 0 ((2 ^ 63 + 5 + 3 * 2 ^ 12) % 2 ^ 64)).bindOk 7 = false)) := by
  repeat' apply And.intro
  all_goals decide +kernel

theorem hyps_EventController :
    ((ev4.hears) ∧
     (4 < 64) ∧
     (9217 < 2 ^ 14) ∧
     (9216 ≤ 9217 ∧ 9217 ≤ 16127 ∧ ev4.on Field.EV_SRC_OWNED 9217 = true ∧ ev4.rd Field.EV_SRC_FLASK 9217 = 4) ∧
     (ev4.rd Field.EV_SRC_FLASK_GEN 9217 = ev4.flaskGen 4)) ∧
    ((g28.hears) ∧
     (4 < 64) ∧
     (9217 < 2 ^ 14) ∧
     (9216 ≤ 9217 ∧ 9217 ≤ 16127 ∧ g28.on Field.EV_SRC_OWNED 9217 = true ∧ g28.rd Field.EV_SRC_FLASK 9217 = 4) ∧
     (g28.rd Field.EV_SRC_FLASK_GEN 9217 ≠ g28.flaskGen 4)) ∧
    ((ev4.hears) ∧
     (5 < 64) ∧
     (9217 < 2 ^ 14) ∧
     (¬(9216 ≤ 9217 ∧ 9217 ≤ 16127 ∧ ev4.on Field.EV_SRC_OWNED 9217 = true ∧ ev4.rd Field.EV_SRC_FLASK 9217 = 5))) ∧
    ((ev4.hears) ∧
     (4 < 64) ∧
     (0 < 4096) ∧
     (4 = 4 ∨ 4 = 8) ∧
     (0 % 4 = 0) ∧
     (0 ≠ 0 ∨ 4 ≠ 8 ∨ 2 ^ 14 ≤ 9217 % 2 ^ (8 * 4))) ∧
    ((es.ctx? 0 = some ctx0) ∧
     (ctx0.mgmt = false → ctx0.pour.qgen = es.rd Field.QCTX_GEN ctx0.pour.queue) ∧
     (ctx0.mgmt = false ∧ 9216 ≤ 9217 ∧ 9217 ≤ 16127 ∧ es.on Field.EV_SRC_OWNED 9217 = true ∧ es.rd Field.EV_SRC_FLASK 9217 =
       ctx0.flask) ∧
     (es.rd Field.EV_SRC_FLASK_GEN 9217 = es.flaskGen ctx0.flask)) ∧
    ((g29.ctx? 0 = some ctx0) ∧
     (ctx0.mgmt = false → ctx0.pour.qgen = g29.rd Field.QCTX_GEN ctx0.pour.queue) ∧
     (ctx0.mgmt = false ∧ 9216 ≤ 9217 ∧ 9217 ≤ 16127 ∧ g29.on Field.EV_SRC_OWNED 9217 = true ∧ g29.rd Field.EV_SRC_FLASK 9217
       = ctx0.flask) ∧
     (g29.rd Field.EV_SRC_FLASK_GEN 9217 ≠ g29.flaskGen ctx0.flask)) ∧
    ((es.ctx? 0 = some ctx0) ∧
     (ctx0.mgmt = false → ctx0.pour.qgen = es.rd Field.QCTX_GEN ctx0.pour.queue) ∧
     (¬(ctx0.mgmt = false ∧ 9216 ≤ 9218 ∧ 9218 ≤ 16127 ∧ es.on Field.EV_SRC_OWNED 9218 = true ∧ es.rd Field.EV_SRC_FLASK 9218
         = ctx0.flask))) ∧
    ((es.ctx? 9 = none ∨ ∃ x, es.ctx? 9 = some x ∧ x.mgmt = false ∧ x.pour.qgen ≠ es.rd Field.QCTX_GEN x.pour.queue)) ∧
    ((g31.ready = true) ∧
     (4 ∈ errUnits)) ∧
    ((g32.ready = true) ∧
     (g32.on Field.EV_CTL_DELIVER_EN = true) ∧
     (g32.choose = some (9217, 5))) ∧
    ((g34.ev.msgs = [(5, 77, msg)]) ∧
     (g34.on Field.CFG_BME = true) ∧
     (0 < g34.hlp.evtCred)) ∧
    ((g35.hears) ∧
     (9217 < 16128)) ∧
    ((up.hears)) := by
  repeat' apply And.intro
  all_goals decide +kernel

theorem hyps_CompletionEndsTheDelivery :
    ((act.ready = true) ∧
     (act.on Field.EV_SRC_ACTIVE (bits v1 0 14) = true ∧ act.rd Field.EV_SRC_TARGET (bits v1 0 14) = bits v1 16 9 ∧ act.rd
       Field.EV_SRC_DELIV (bits v1 0 14) = bits v1 32 16)) ∧
    ((act.ready = true) ∧
     (¬(act.on Field.EV_SRC_ACTIVE (bits v2 0 14) = true ∧ act.rd Field.EV_SRC_TARGET (bits v2 0 14) = bits v2 16 9 ∧ act.rd
         Field.EV_SRC_DELIV (bits v2 0 14) = bits v2 32 16))) := by
  repeat' apply And.intro
  all_goals decide +kernel

theorem hyps_HostTimelineUpdates :
    ((tl.hears) ∧
     (3 < 65536) ∧
     ((∃ w < 2 ^ 64, 6 = w ∧ 0 = 0 ∧ Instr.timelineStore 3 0 8 6 = Instr.timelineStore 3 0 8 w) ∨ 6 = tl.rd Field.TL_VALUE ∧
       (0, Instr.timelineStore 3 0 8 6) ∈ [(0, Instr.tlOpSet 8 3), (1, Instr.tlOpAdd 8 3), (2, Instr.tlOpMax 8 3)]) ∧
     (tl.tlOwner 3 = some 4) ∧
     (tl.flaskState 4 ≠ flCREATING) ∧
     (tl.flaskResetting 4 = false)) ∧
    ((g40.hears) ∧
     (30 < 65536) ∧
     ((∃ w < 2 ^ 64, 6 = w ∧ 2 = 0 ∧ Instr.tlOpMax 8 30 = Instr.timelineStore 30 0 8 w) ∨ 6 = g40.rd Field.TL_VALUE ∧
       (2, Instr.tlOpMax 8 30) ∈ [(0, Instr.tlOpSet 8 30), (1, Instr.tlOpAdd 8 30), (2, Instr.tlOpMax 8 30)]) ∧
     (g40.tlOwner 30 = none)) ∧
    ((g41.hears) ∧
     (3 < 65536) ∧
     ((∃ w < 2 ^ 64, 6 = w ∧ 2 = 0 ∧ Instr.tlOpMax 8 3 = Instr.timelineStore 3 0 8 w) ∨ 6 = g41.rd Field.TL_VALUE ∧
       (2, Instr.tlOpMax 8 3) ∈ [(0, Instr.tlOpSet 8 3), (1, Instr.tlOpAdd 8 3), (2, Instr.tlOpMax 8 3)]) ∧
     (g41.tlOwner 3 = some 4) ∧
     (g41.flaskState 4 = flCREATING)) ∧
    ((g42.hears) ∧
     (3 < 65536) ∧
     ((∃ w < 2 ^ 64, 6 = w ∧ 2 = 0 ∧ Instr.tlOpMax 8 3 = Instr.timelineStore 3 0 8 w) ∨ 6 = g42.rd Field.TL_VALUE ∧
       (2, Instr.tlOpMax 8 3) ∈ [(0, Instr.tlOpSet 8 3), (1, Instr.tlOpAdd 8 3), (2, Instr.tlOpMax 8 3)]) ∧
     (g42.tlOwner 3 = some 4) ∧
     (g42.flaskResetting 4 = true)) ∧
    ((tl.hears) ∧
     (30 < 65536) ∧
     ((∃ w < 2 ^ 64, 6 = w ∧ 0 = 0 ∧ Instr.timelineStore 30 0 8 6 = Instr.timelineStore 30 0 8 w) ∨ 6 = tl.rd Field.TL_VALUE ∧
       (0, Instr.timelineStore 30 0 8 6) ∈ [(0, Instr.tlOpSet 8 30), (1, Instr.tlOpAdd 8 30), (2, Instr.tlOpMax 8 30)])) ∧
    ((tlr.on Field.CFG_MSE = true) ∧
     (tlr.blockReset = true) ∧
     (23 < 65536) ∧
     (tlr.tlState 23 ∈ [flOPEN, flSEALING, flSEALED, flQUENCHED]) ∧
     (Instr.timelineStore 23 0 8 6 ∈
       [Instr.timelineStore 23 0 8 6, Instr.tlOpSet 8 23, Instr.tlOpAdd 8 23, Instr.tlOpMax 8 23])) := by
  repeat' apply And.intro
  all_goals first | exact Or.inl ⟨6, by decide, rfl, rfl, rfl⟩ | decide +kernel | exact Or.inr ⟨rfl, by decide⟩

end Peers

/-! ### Flasks and their sealing -/

namespace Flasks

def kq (a : KyAsk) : KyReq := { slot := 2, flask := 4, at_ := 100, ask := a }
def fc (s : State) (f grp : Nat) : State := mail s 2 0x10
  [f + 2^48, grp, 20 + 2 * 2^16, 8 + 1 * 2^12 + 100 * 2^32 + 9 * 2^48, 0 + 1 * 2^32, 77]
def sc0 : Scrub := { flask := 4, slot := some 2, granules := [9], left := 2^25 }
def scr (c : Scrub) : State :=
  { laid (put (flask4 up) [(.FL_STATE,4,1),(.MB_STATE_STATE,0,32)]) (base4 + 2^25) [1,2,3] with scrubs := [c] }
def iv : Inv := { id := 46, source := .unbind none, slots := [7], range := none, started := true, acks := [8] }
def sc1 : Scrub := { sc0 with slot := none }
def tear0 (d : Bool) : Tear := { flask := 4, destroy := d, slots := [2], scrub := true }
def tj : Tear := { flask := 4, destroy := false, slots := [3] }
def fr (s : State) (op p0 : Nat) : State := mail s 2 op [p0]
def tq : Tear := { flask := 4, destroy := true, slots := [2] }
def fs (s : State) (first n : Nat) : State := mail s 2 0x11 [4 + 2^48, first + n * 2^32]
def goodEnv : List Byte := env 1 0 128 48 12333460737052311774209670878242549821335652316662650368592396834518953597109640248354817173423860695707119146429606886365076386844045427502486963280761072
def badEnv : List Byte := env 1 0 128 48 0
def kr (e : List Byte) : KyReq := { slot := 2, flask := 4, at_ := 100, ask := .confirm 0 e }
def km : KeyMat := { slot := 7, key := zeros 32 }
def ps : List Byte := zeros 8 ++ leBytes 4 1 ++ leBytes 4 1
def ki : List Byte := [1] ++ zeros 31 ++ List.replicate 32 9
def pv : List Byte := [1,1] ++ zeros 6 ++ [3] ++ zeros 7 ++ leBytes 4 5 ++ zeros 4 ++ leBytes 8 (2^25) ++ leBytes 8 (2^26)
def many : State := (List.range 14).foldl
  (fun s i => put s [(.KEY_SLOT_VALID,20+i,1),(.KEY_SLOT_USE,20+i,1),(.KEY_SLOT_FLASK,20+i,4)]) (sealed4 4 up)
def ke : List Byte := [2] ++ zeros 31 ++ List.replicate 32 9
def ma : List Byte := [1, 0] ++ zeros 62 ++ List.replicate 48 5
def lr (s : State) (buf : Nat) : State := mail s 2 0x15 [4, 1, 2, 3, 4, 5, 6, buf]
def stg : Staged := { comp := 2, digest := zeros 48, version := 7, coefs := [], est := 0, ok := true }
def cl : List (Nat × List Byte) := [(70004, cbUint 3), (70006, cbUint 4)]
def lg : KyReq := { slot := 2, flask := 4, at_ := 100, ask := .legend base4 cl }
def cg (b : Nat) : State := mail (flask4 up) 2 0x16 [2^48, b]
def blk0 : Block := { id := 6, flask := 4, gen := 0, accs := [], since := 5, due := false, sent := some 100 }
def h1 : State := fc (flask4 up) 4 4
def h3 : State := fc (put (flask4 up) [(.SEAL_GRAN_DIRTY,21,1)]) 6 4
def h4 : State := scr sc0
def h5 : State := { scr sc0 with xl := { invs := [iv] } }
def h6 : State := { scr sc1 with tears := [tear0 false] }
def h8 : State := fr (flask4 up) 0x12 (4 + 2^6)
def h9 : State := fr (flask4 up) 0x13 5
def h10 : State := fr (sealed4 4 (before ctx0 [31])) 0x13 4
def h12 : State := { fr (sealed4 4 (before ctx0 [31])) 0x13 4 with tears := [tj] }
def h13 : State := { put (before { ctx0 with stopped := true } [31]) [(.FL_STATE,4,6),(.TL_COUNTER,3,8)] with tears := [tq] }
def h14 : State := { put (runs (before { ctx0 with stopped := true } [31]) kern0 lane8) [(.FL_STATE,4,6)] with tears := [tq] }
def h15 : State := fs (flask4 up) 1 1
def h16 : State := fs (before ctx0 [31]) 1 1
def h17 : State := fs (flask4 up) 0 1
def h18 : State := kyWaits (fs (flask4 up) 1 1) .create
def h20 : State := command (sealed4 3 up) (env 1 0 128 48 0)
def h21 : State := command (sealed4 4 up) (env 1 0 128 48 0)
def h22 : State := kyWaits (command (sealed4 3 up) badEnv) (.confirm 0 badEnv)
def h23 : State := kyWaits (command (sealed4 3 up) badEnv) (.confirm 0 badEnv)
def h24 : State := kyWaits (command (sealed4 3 up) goodEnv) (.confirm 0 goodEnv)
def h25 : State := command (sealed4 3 up) (env 5 1 0 1 0)
def h26 : State := command (sealed4 4 up) (env 5 1 0 1 0)
def h27 : State := command (sealed4 4 up) (env 5 2 0 1 73474565948632259525267909567749582829533)
def h28 : State := command (sealed4 4 up)
  (env 2 1 0 16 17318206050594829246604294452120193247301291593995396640361712677139736605030)
def h29 : State := command (sealed4 4 up) (env 3 1 0 64 725993135553120566590623827672562049815763061372430071090891781480574929472843551530515190276332539271071334201944929765977317007256561686146357769653311990640793001487668593927858010039693671)
def h30 : State := command (sealed4 4 up) (env 4 1 0 1 53170562949767997136112133937952685460065)
def h31 : State := command (sealed4 4 up) (env 2 1 0 40 529011114316320291326874023439796632497596009573706658646449573296560320788531045972974261365326935946019815869021530498384668314742887)
def h33 : State := command many (env 3 1 0 64 725993135553120566590623827672562049815763061372430071090891781480574929472843551530515190276332539271071334201944929765977317007256561686146357769653311990640793001487668593927858010039693671)
def h34 : State := command (sealed4 4 up) (env 3 1 0 64 662250316777945140743048504068333052363267559617191716916528738747575747529234876947851332191950548355709437034212538370674080082484197657876314433632653222493798571974269017527743665050399076)
def h36 : State := command (sealed4 4 up) (env 5 1 0 1 2275433659441734567122748094114874036325)
def h37 : State := command (sealed4 4 up) (env 6 1 0 112 138220197306828675095528081640500969309274826166461542071212976166602291768607108398250303848220446848033974223281465138189581270910395611225195699884303414287928493485895266198699873484444460174533404446824063726070074509770674108827112718610019248076303435579461263881121645362435451195714153547112314220903)
def h38 : State := lr (flask4 up) 0
def h39 : State := lr (flask4 up) base4
def h40 : State := { lr (flask4 up) base4 with staged := [stg] }
def h41 : State := kyWaits (flask4 up) (.legend base4 cl)
def h42 : State := cg 0x100000
def h43 : State := cg 0x100001
def h44 : State := cg base4
def h45 : State := kyWaits (flask4 up) (.cert true 0x100000)
def h46 : State := kyWaits (flask4 up) .create
def h49 : State := { flask4 up with meter := { (flask4 up).meter with blocks := [{ blk0 with id := 5 }, blk0] } }

theorem hyps_FlasksAreMadeAndScrubbed :
    ((h1.starts 2 16) ∧
     ((h1.begun 2).createFails (h1.plan 2) = some 5)) ∧
    ((h3.starts 2 16) ∧
     ((h3.begun 2).createFails (h3.plan 2) = none)) ∧
    ((List.find? (fun c => c.flask == 4) h4.scrubs = some sc0) ∧
     (2 < 16) ∧
     (sc0.slot = some 2) ∧
     (h4.unbinding 4 = false)) ∧
    ((List.find? (fun c => c.flask == 4) h5.scrubs = some sc0) ∧
     (h5.unbinding 4 = true)) ∧
    ((List.find? (fun c => c.flask == 4) h6.scrubs = some sc1) ∧
     (sc1.slot = none) ∧
     (h6.unbinding 4 = false) ∧
     (List.find? (fun w => w.flask == 4 && w.scrub) h6.tears = some (tear0 false))) := by
  repeat' apply And.intro
  all_goals decide +kernel

theorem hyps_FlasksAreTornDown :
    ((Instr.flaskReset 2 = Instr.flaskReset 2 ∧ false = false ∧ h8.starts 2 18 ∨ Instr.flaskReset 2 = Instr.flaskDestroy 2 ∧
       false = true ∧ h8.starts 2 19) ∧
     ((h8.begun 2).frefOk 2 = false)) ∧
    ((Instr.flaskDestroy 2 = Instr.flaskReset 2 ∧ true = false ∧ h9.starts 2 18 ∨ Instr.flaskDestroy 2 = Instr.flaskDestroy 2
       ∧ true = true ∧ h9.starts 2 19) ∧
     ((h9.begun 2).frefOk 2 = true) ∧
     ((h9.begun 2).flaskState (h9.fref 2).1 = flFREE ∨ (h9.begun 2).flaskState (h9.fref 2).1 = flCREATING)) ∧
    ((Instr.flaskDestroy 2 = Instr.flaskReset 2 ∧ true = false ∧ h10.starts 2 18 ∨ Instr.flaskDestroy 2 = Instr.flaskDestroy 2
       ∧ true = true ∧ h10.starts 2 19) ∧
     ((h10.begun 2).frefOk 2 = true) ∧
     ((h10.begun 2).flaskState (h10.fref 2).1 ≠ flFREE) ∧
     ((h10.begun 2).flaskState (h10.fref 2).1 ≠ flCREATING) ∧
     ((h10.begun 2).flaskState (h10.fref 2).1 ≠ flDESTROYING) ∧
     ((h10.tears.any fun w => w.flask == (h10.fref 2).1) = false)) ∧
    ((Instr.flaskDestroy 2 = Instr.flaskReset 2 ∧ true = false ∧ h12.starts 2 18 ∨ Instr.flaskDestroy 2 = Instr.flaskDestroy 2
       ∧ true = true ∧ h12.starts 2 19) ∧
     ((h12.begun 2).frefOk 2 = true) ∧
     ((h12.begun 2).flaskState (h12.fref 2).1 ≠ flFREE) ∧
     ((h12.begun 2).flaskState (h12.fref 2).1 ≠ flCREATING) ∧
     ((h12.begun 2).flaskState (h12.fref 2).1 = flDESTROYING → true = true) ∧
     (tj ∈ h12.tears) ∧
     (tj.flask = (h12.fref 2).1)) ∧
    ((List.find? (fun w => w.flask == 4 && !w.scrub) h13.tears = some tq) ∧
     (h13.quiet 4 = true)) ∧
    ((List.find? (fun w => w.flask == 4 && !w.scrub) h14.tears = some tq) ∧
     (h14.quiet 4 = false)) := by
  repeat' apply And.intro
  all_goals first | decide +kernel | exact Or.inl ⟨rfl, rfl, by repeat (first | apply And.intro | decide +kernel)⟩ | exact Or.inr ⟨rfl, rfl, by repeat (first | apply And.intro | decide +kernel)⟩

theorem hyps_FlasksAreSealed_0 :
    (h15.starts 2 17) ∧
    ((h15.begun 2).frefOk 2 = true) ∧
    ((h15.begun 2).flaskState (h15.fref 2).1 = flOPEN) ∧
    ((h15.begun 2).flaskBusy (h15.fref 2).1 = false) ∧
    ((((h15.sealRuns 2).any fun r => !(h15.begun 2).mayPublish (h15.fref 2).1 r.1 r.2) || runsMeet (h15.sealRuns 2)) = false) := by
  repeat' apply And.intro
  all_goals decide +kernel

theorem hyps_FlasksAreSealed_1 :
    (h16.starts 2 17) ∧
    ((h16.begun 2).frefOk 2 = true) ∧
    ((h16.begun 2).flaskState (h16.fref 2).1 ≠ flOPEN ∨ (h16.begun 2).flaskBusy (h16.fref 2).1 = true) := by
  repeat' apply And.intro
  all_goals decide +kernel

theorem hyps_FlasksAreSealed_2 :
    (h17.starts 2 17) ∧
    ((h17.begun 2).frefOk 2 = true) ∧
    ((h17.begun 2).flaskState (h17.fref 2).1 = flOPEN) ∧
    ((h17.begun 2).flaskBusy (h17.fref 2).1 = false) ∧
    ((((h17.sealRuns 2).any fun r => !(h17.begun 2).mayPublish (h17.fref 2).1 r.1 r.2) || runsMeet (h17.sealRuns 2)) = true) := by
  repeat' apply And.intro
  all_goals decide +kernel

theorem hyps_FlasksAreSealed_3 :
    (h18.kyreq? 2 = some (kq KyAsk.create)) ∧
    ((kq KyAsk.create).ask = KyAsk.create) := by
  repeat' apply And.intro
  all_goals decide +kernel

theorem hyps_FlasksAreSealed_4 :
    (h20.starts 2 20) ∧
    (h20.envelopeOf 2 opCONFIRM) ∧
    ((h20.begun 2).frefOk 2 = true) ∧
    ((h20.begun 2).envFits 2 (h20.envelope 2) = true) ∧
    ((h20.begun 2).claimed (h20.fref 2).1 KyAsk.isConfirm = false) := by
  repeat' apply And.intro
  all_goals decide +kernel

theorem hyps_FlasksAreSealed_5 :
    (h21.starts 2 20) ∧
    (h21.envelopeOf 2 opCONFIRM) ∧
    ((h21.begun 2).frefOk 2 = true) ∧
    ((h21.begun 2).envFits 2 (h21.envelope 2) = false) := by
  repeat' apply And.intro
  all_goals decide +kernel

theorem hyps_FlasksAreSealed_6 :
    (2 < 16) ∧
    (h22.kyreq? 2 = some (kr badEnv)) ∧
    ((kr badEnv).ask = KyAsk.confirm 0 badEnv) ∧
    (h22.envFits 2 badEnv = true) := by
  repeat' apply And.intro
  all_goals decide +kernel

theorem hyps_FlasksAreSealed_7 :
    (2 < 16) ∧
    (h23.kyreq? 2 = some (kr badEnv)) ∧
    ((kr badEnv).ask = KyAsk.confirm 0 badEnv) ∧
    ((lowest 256 fun k => !h23.on Field.KEY_SLOT_VALID k) = some 0) ∧
    (h23.envFits 2 badEnv = true) ∧
    (envOpen (zeros 32) badEnv = none) := by
  repeat' apply And.intro
  all_goals decide +kernel

theorem hyps_FlasksAreSealed_8 :
    (2 < 16) ∧
    (h24.kyreq? 2 = some (kr goodEnv)) ∧
    ((kr goodEnv).ask = KyAsk.confirm 0 goodEnv) ∧
    ((lowest 256 fun k => !h24.on Field.KEY_SLOT_VALID k) = some 0) ∧
    (h24.envFits 2 goodEnv = true) ∧
    (envOpen (zeros 32) goodEnv = some (sha384 (h24.publicClaim (h24.fref 2).1))) ∧
    (envSeq goodEnv = 0) ∧
    ((h24.publicBuf (h24.fref 2).1 (h24.par 2 1) (envLen goodEnv) && decide (envLen goodEnv ≤ 4096) && h24.replyPlace 2
       (h24.fref 2).1 0 && envClean goodEnv && envClen goodEnv == 128 && envElen goodEnv == 48 && zeroFrom goodEnv 161 192) =
      true) := by
  repeat' apply And.intro
  all_goals decide +kernel

theorem hyps_SealedCommands_0 :
    (h25.starts 2 20) ∧
    ((h25.begun 2).frefOk 2 = true) ∧
    ((Instr.consent 2, opCONSENT) ∈ [(Instr.publicSet 2, opPUBLIC_SET), (Instr.keyImport 2, opKEY_IMPORT),
                                      (Instr.keyDestroy 2, opKEY_DESTROY), (Instr.consent 2, opCONSENT),
                                      (Instr.mouldAllow 2, opMOULD_ALLOW)]) ∧
    (h25.envelopeOf 2 opCONSENT) ∧
    ((h25.begun 2).envFits 2 (h25.envelope 2) = false) := by
  repeat' apply And.intro
  all_goals decide +kernel

theorem hyps_SealedCommands_1 :
    (h26.starts 2 20) ∧
    ((h26.begun 2).frefOk 2 = true) ∧
    ((Instr.consent 2, opCONSENT) ∈ [(Instr.publicSet 2, opPUBLIC_SET), (Instr.keyImport 2, opKEY_IMPORT),
                                      (Instr.keyDestroy 2, opKEY_DESTROY), (Instr.consent 2, opCONSENT),
                                      (Instr.mouldAllow 2, opMOULD_ALLOW)]) ∧
    (h26.envelopeOf 2 opCONSENT) ∧
    ((h26.begun 2).envFits 2 (h26.envelope 2) = true) ∧
    ((h26.begun 2).cmdKey (h26.fref 2).1 = some km) ∧
    (envOpen km.key (h26.envelope 2) = none) := by
  repeat' apply And.intro
  all_goals decide +kernel

theorem hyps_SealedCommands_2 :
    (h27.starts 2 20) ∧
    ((h27.begun 2).frefOk 2 = true) ∧
    ((Instr.consent 2, opCONSENT) ∈ [(Instr.publicSet 2, opPUBLIC_SET), (Instr.keyImport 2, opKEY_IMPORT),
                                      (Instr.keyDestroy 2, opKEY_DESTROY), (Instr.consent 2, opCONSENT),
                                      (Instr.mouldAllow 2, opMOULD_ALLOW)]) ∧
    (h27.envelopeOf 2 opCONSENT) ∧
    ((h27.begun 2).envFits 2 (h27.envelope 2) = true) ∧
    ((h27.begun 2).cmdKey (h27.fref 2).1 = some km) ∧
    (envOpen km.key (h27.envelope 2) = some [1]) ∧
    (envSeq (h27.envelope 2) ≠ (h27.vault (h27.fref 2).1).cseq + 1) := by
  repeat' apply And.intro
  all_goals decide +kernel

theorem hyps_SealedCommands_3 :
    (h28.starts 2 20) ∧
    ((h28.begun 2).frefOk 2 = true) ∧
    (h28.envelopeOf 2 2) ∧
    ((h28.begun 2).opens 2 2 km ps) ∧
    (2 = opPUBLIC_SET) ∧
    ((fun payload => (h28.begun 2).wellPut 2 2 payload ps = true) 0) ∧
    (leAt ps 0 1 = 0) := by
  repeat' apply And.intro
  all_goals decide +kernel

theorem hyps_SealedCommands_4 :
    (h29.starts 2 20) ∧
    ((h29.begun 2).frefOk 2 = true) ∧
    (h29.envelopeOf 2 3) ∧
    ((h29.begun 2).opens 2 3 km ki) ∧
    (3 = opKEY_IMPORT) ∧
    ((fun payload => (h29.begun 2).wellPut 2 3 payload ki = true) 1) ∧
    ((lowest 256 fun k => !h29.on Field.KEY_SLOT_VALID k) = some 0) ∧
    (leAt ki 0 1 = 1) ∧
    ((List.filter (fun k => h29.rd Field.KEY_SLOT_USE k == 1) (h29.slotsOf (h29.fref 2).1)).length < 14) := by
  repeat' apply And.intro
  all_goals decide +kernel

theorem hyps_SealedCommands_5 :
    (h30.starts 2 20) ∧
    ((h30.begun 2).frefOk 2 = true) ∧
    (h30.envelopeOf 2 4) ∧
    ((h30.begun 2).opens 2 4 km [7]) ∧
    (4 = opKEY_DESTROY) ∧
    ((fun payload => (h30.begun 2).wellPut 2 4 payload [7] = true) 0) := by
  repeat' apply And.intro
  all_goals decide +kernel

theorem hyps_SealedCommands_6 :
    (h31.starts 2 20) ∧
    ((h31.begun 2).frefOk 2 = true) ∧
    (h31.envelopeOf 2 2) ∧
    ((h31.begun 2).opens 2 2 km pv) ∧
    (2 = opPUBLIC_SET) ∧
    ((fun payload => (h31.begun 2).wellPut 2 2 payload pv = true) 0) ∧
    (leAt pv 0 1 = 1) := by
  repeat' apply And.intro
  all_goals decide +kernel

theorem hyps_SealedCommands_7 :
    (h33.starts 2 20) ∧
    ((h33.begun 2).frefOk 2 = true) ∧
    (h33.envelopeOf 2 3) ∧
    ((h33.begun 2).opens 2 3 km ki) ∧
    (3 = opKEY_IMPORT) ∧
    ((fun payload => (h33.begun 2).wellPut 2 3 payload ki = true) 1) ∧
    (leAt ki 0 1 = 1) ∧
    (14 ≤ (List.filter (fun k => h33.rd Field.KEY_SLOT_USE k == 1) (h33.slotsOf (h33.fref 2).1)).length) := by
  repeat' apply And.intro
  all_goals decide +kernel

theorem hyps_SealedCommands_8 :
    (h34.starts 2 20) ∧
    ((h34.begun 2).frefOk 2 = true) ∧
    (h34.envelopeOf 2 3) ∧
    ((h34.begun 2).opens 2 3 km ke) ∧
    (3 = opKEY_IMPORT) ∧
    ((fun payload => (h34.begun 2).wellPut 2 3 payload ke = true) 1) ∧
    (leAt ke 0 1 = 2) ∧
    ((lowest 256 fun k => !h34.on Field.KEY_SLOT_VALID k ||
       (List.filter (fun k => h34.rd Field.KEY_SLOT_USE k == 2) (h34.slotsOf (h34.fref 2).1)).contains k) = some 0) := by
  repeat' apply And.intro
  all_goals decide +kernel

theorem hyps_SealedCommands_9 :
    (h36.starts 2 20) ∧
    ((h36.begun 2).frefOk 2 = true) ∧
    (h36.envelopeOf 2 5) ∧
    ((h36.begun 2).opens 2 5 km [3]) ∧
    (5 = opCONSENT) ∧
    ((fun payload => (h36.begun 2).wellPut 2 5 payload [3] = true) 0) := by
  repeat' apply And.intro
  all_goals decide +kernel

theorem hyps_SealedCommands_10 :
    (h37.starts 2 20) ∧
    ((h37.begun 2).frefOk 2 = true) ∧
    (h37.envelopeOf 2 6) ∧
    ((h37.begun 2).opens 2 6 km ma) ∧
    (6 = opMOULD_ALLOW) ∧
    ((fun payload => (h37.begun 2).wellPut 2 6 payload ma = true) 0) ∧
    (((h37.vault (h37.fref 2).1).allow ++ List.map (fun i => slice ma (64 + 48 * i) 48) (List.range (leAt ma 0 1))).length ≤
      256) ∧
    (leAt ma 1 1 = 1 → ∀ m ∈ h37.mouldsOf (h37.fref 2).1, m.digest ∈ (h37.vault (h37.fref 2).1).allow ++ List.map
      (fun i => slice ma (64 + 48 * i) 48) (List.range (leAt ma 0 1))) := by
  repeat' apply And.intro
  all_goals decide +kernel

theorem hyps_LegendsAndCertificates :
    ((h38.starts 2 21) ∧
     ((h38.begun 2).frefOk 2 = true) ∧
     ((h38.begun 2).flaskState (h38.fref 2).1 ∉ [flFREE, flCREATING, flRESETTING, flDESTROYING]) ∧
     (h38.rd Field.QN_PHASE (h38.fref 2).1 < 3) ∧
     ((h38.begun 2).flaskBuf (h38.fref 2).1 (h38.par 2 7) (128 * 1024) = false)) ∧
    ((h39.starts 2 21) ∧
     ((h39.begun 2).frefOk 2 = true) ∧
     ((h39.begun 2).flaskState (h39.fref 2).1 ∉ [flFREE, flCREATING, flRESETTING, flDESTROYING]) ∧
     (h39.rd Field.QN_PHASE (h39.fref 2).1 < 3) ∧
     ((h39.begun 2).flaskBuf (h39.fref 2).1 (h39.par 2 7) (128 * 1024) = true) ∧
     (h39.par 2 7 % 64 = 0) ∧
     (h39.legendsOpen < 4) ∧
     (h39.staged.any Staged.ok = false)) ∧
    ((h40.starts 2 21) ∧
     ((h40.begun 2).frefOk 2 = true) ∧
     ((h40.begun 2).flaskState (h40.fref 2).1 ∉ [flFREE, flCREATING, flRESETTING, flDESTROYING]) ∧
     (h40.rd Field.QN_PHASE (h40.fref 2).1 < 3) ∧
     ((h40.begun 2).flaskBuf (h40.fref 2).1 (h40.par 2 7) (128 * 1024) = true) ∧
     (h40.par 2 7 % 64 = 0) ∧
     (h40.legendsOpen < 4) ∧
     (h40.staged.any Staged.ok = true)) ∧
    ((2 < 16) ∧
     (h41.kyreq? 2 = some lg) ∧
     (lg.ask = KyAsk.legend base4 cl)) ∧
    ((h42.starts 2 22) ∧
     (h42.par 2 1 % 64 = 0) ∧
     ((h42.begun 2).outsideAll (h42.par 2 1) migBuf = true)) ∧
    ((h43.starts 2 22) ∧
     (h43.par 2 1 % 64 ≠ 0)) ∧
    ((h44.starts 2 22) ∧
     (h44.par 2 1 % 64 = 0) ∧
     ((h44.begun 2).outsideAll (h44.par 2 1) migBuf = false)) ∧
    ((2 < 16) ∧
     (h45.kyreq? 2 = some (kq (KyAsk.cert true 1048576))) ∧
     ((kq (KyAsk.cert true 1048576)).ask = KyAsk.cert true 1048576)) ∧
    ((2 < 16) ∧
     (h46.kyreq? 2 = some (kq KyAsk.create)) ∧
     (match (kq KyAsk.create).ask with
       | KyAsk.create => True
       | KyAsk.legend buf claims => True
       | KyAsk.cert receipt buf => True
       | KyAsk.image comp data => True
       | x => False)) ∧
    ((List.find? (fun x => x.id == 6 && x.signed.isNone) h49.meter.blocks = some blk0) ∧
     (blk0.sent = some 100)) := by
  repeat' apply And.intro
  all_goals first | decide +kernel | trivial

end Flasks

/-! ### Energy, quench and thaw -/

namespace Quenches

def acc0 : Accum := { id := 70, flask := 4, gen := 0, ticket := 77, first := 5, opened := 3, last := 9 }
def me (m : Meter) : State := { before ctx0 [31] with meter := m }
def bl : Block := { id := 71, flask := 4, gen := 0, accs := [acc0], since := 10 }
def bls : Block := { bl with due := true, sent := some 20 }
def rf : State := { mail (flask4 up) 2 0x17 [4] with meter := { accs := [acc0] } }
def fq (s : State) (a n : Nat) : State := mail s 2 0x60 [4, 100, a, n]
def e0 : Entry := { queue := 5, slot := 0, seq := 1, mould := 1, mgen := 2, bank := 1, ordered := false, ticket := 77 }
def qq : State := { fq (before { ctx0 with st := .waitWork } [17]) (base4+2^25) 1 with qm := { entries := [e0] } }
def qu : Quench := { flask := 4, slot := 2, q0 := 0, limit := 900, base := base4+2^25, size := 65536 }
def dr (s : State) : State := { put s [(.QN_PHASE,4,1),(.MB_STATE_STATE,0,32)] with quenches := [qu] }
def th (s : State) (a : Nat) : State := mail s 2 0x61 [4, a]
def qd (s : State) : State := { put s [(.FL_STATE,4,7),(.QN_PHASE,4,2)] with vaults := [{ flask := 4, before := 2 }] }
def qent : List Byte := leBytes 8 (0x10200 * 4096) ++ leBytes 8 (0x10210 * 4096) ++ leBytes 8 (6 + 2^16 + 4 * 2^24) ++ leBytes
  8 5 ++ zeros 16 ++ leBytes 8 3 ++ leBytes 8 1 ++ zeros 64
def img (digest : Nat) : List Byte := leBytes 4 0x4D495A43 ++ leBytes 4 1 ++ leBytes 8 4224 ++ zeros 48 ++
  (leBytes 8 4096 ++ leBytes 8 1) ++ ((List.range 6).flatMap (fun _ => leBytes 8 4096 ++ leBytes 8 0)) ++ zeros 32 ++ leBytes
  48 digest ++ zeros (4096 - 256) ++ qent
def thS : State := th (fresh (qd (flask4 up)) (base4+2^25) (img 11461492430950651088105437612360443732803406960976570429059288904368108923655389707424965358694061834819878522912699))
  (base4+2^25)
def wT : Thaw := { f := 4, into := false,
                   b := img 11461492430950651088105437612360443732803406960976570429059288904368108923655389707424965358694061834819878522912699,
                   pairs := [], own := none }
def thC (s : State) : State := ((s.begun 2).countFor (.overhead 4) 9 4224)
def wB : Thaw := { f := 4, into := false, b := zeros 8 ++ leBytes 8 4096 ++ zeros 4080, pairs := [], own := none }
def thB : State := th (fresh (qd (flask4 up)) (base4+2^25) wB.b) (base4+2^25)
def thU : State := put thS [(.XL_ATLAS_VALID,7,0)]
def xp : Ctx := { ctx0 with flask := 9, pins := List.replicate 4097 { leaf := leaf0 } }
def thP : State := { thS with ctxs := [xp] }
def qpS : State := { dr (put (before { ctx0 with st := .waitTl, timeline := 3, value := 9, stopped := false } [8]) [(.QCTX_STATE,6,2),(.QCTX_FLASK,6,4),(.FL_STATE,4,3)]) with
                    meter := { accs := [acc0] } }
def quS : Quench := { qu with size := 100, phase := 0 }
def i1 : State := before ctx0 [31]
def i2 : State := { before ctx0 [31] with meter := { missed := [(8, 350)] } }
def i3 : State := { before ctx0 [31] with time := 9000000 }
def i5 : State := me { counts := [{ charge := .acc 70, window := 0, cls := 2, n := 4 },
                                   { charge := .acc 70, window := 1, cls := 2, n := 4 }], accs := [acc0], rail := some 500 }
def i8 : State := me { accs := [acc0] }
def i9 : State := me
  { accs := [acc0], spans := [{ ctx := 0, pour := { queue := 5, seq := 1 }, charge := .acc 70, flask := 4, start := 3 }] }
def i10 : State := me { blocks := [bl] }
def i11 : State := me { blocks := [bls] }
def i13 : State := put (fq (flask4 up) (base4+2^25) 1) [(.FL_STATE,4,3)]
def i14 : State := fq (flask4 up) (base4+2^25+4096) 1
def i15 : State := fq (flask4 up) (base4) 1
def i16 : State := dr (flask4 up)
def i17 : State := dr ({ runs (before ctx0 [31]) kern0 lane8 with ctxs := [ctx0] })
def i18 : State := th (flask4 up) (base4+2^25)
def i19 : State := th (qd (flask4 up)) (2^30)
def i20 : State := ((thC thS).thawApply wT).getD {}
def i22 : State := { qpS with quenches := [quS] }

theorem hyps_EnergyAndReceipts :
    (((8, 350) ∉ i1.meter.missed) ∧
     (i1.time ≤ (350 + 1) * 10000 + 5000)) ∧
    (((8, 350) ∈ i2.meter.missed)) ∧
    (((8, 350) ∉ i3.meter.missed) ∧
     ((350 + 1) * 10000 + 5000 < i3.time)) ∧
    ((i5.ready = true)) ∧
    ((List.find? (fun x => x.id == 70 && x.closed.isNone) i8.meter.accs = some acc0) ∧
     (i8.accBusy 70 = false)) ∧
    ((List.find? (fun x => x.id == 70 && x.closed.isNone) i9.meter.accs = some acc0) ∧
     (i9.accBusy 70 = true)) ∧
    ((List.find? (fun x => x.id == 71 && !x.due) i10.meter.blocks = some bl)) ∧
    ((List.find? (fun x => x.id == 71 && x.sent.isSome && x.signed.isNone) i11.meter.blocks = some bls)) ∧
    ((rf.starts 2 23) ∧
     ((rf.begun 2).frefOk 2 = true)) := by
  repeat' apply And.intro
  all_goals decide +kernel

/-- The digest of the image of wT is right. -/
theorem wT_genuine : wT.genuine = true := by decide +kernel

theorem hyps_QuenchAndThaw_0 :
    (i13.starts 2 96) ∧
    ((i13.begun 2).frefOk 2 = true) ∧
    (¬(((i13.begun 2).flaskState (i13.fref 2).1 = flOPEN ∨ (i13.begun 2).flaskState (i13.fref 2).1 = flSEALED) ∧ i13.rd
        Field.QN_PHASE (i13.fref 2).1 ≠ 1)) := by
  repeat' apply And.intro
  all_goals decide +kernel

theorem hyps_QuenchAndThaw_1 :
    (i14.starts 2 96) ∧
    ((i14.begun 2).frefOk 2 = true) ∧
    (((i14.begun 2).flaskState (i14.fref 2).1 = flOPEN ∨ (i14.begun 2).flaskState (i14.fref 2).1 = flSEALED) ∧ i14.rd
      Field.QN_PHASE (i14.fref 2).1 ≠ 1) ∧
    (¬(i14.par 2 2 % 65536 = 0 ∧ bits (i14.par 2 3) 0 32 * 65536 ≠ 0)) := by
  repeat' apply And.intro
  all_goals decide +kernel

theorem hyps_QuenchAndThaw_2 :
    (i15.starts 2 96) ∧
    ((i15.begun 2).frefOk 2 = true) ∧
    (((i15.begun 2).flaskState (i15.fref 2).1 = flOPEN ∨ (i15.begun 2).flaskState (i15.fref 2).1 = flSEALED) ∧ i15.rd
      Field.QN_PHASE (i15.fref 2).1 ≠ 1) ∧
    (i15.par 2 2 % 65536 = 0 ∧ bits (i15.par 2 3) 0 32 * 65536 ≠ 0) ∧
    ((i15.begun 2).imageDenied (i15.fref 2).1 (i15.par 2 2) (bits (i15.par 2 3) 0 32 * 65536) = true) := by
  repeat' apply And.intro
  all_goals decide +kernel

theorem hyps_QuenchAndThaw_3 :
    (qq.starts 2 96) ∧
    ((qq.begun 2).frefOk 2 = true) ∧
    (((qq.begun 2).flaskState (qq.fref 2).1 = flOPEN ∨ (qq.begun 2).flaskState (qq.fref 2).1 = flSEALED) ∧ qq.rd
      Field.QN_PHASE (qq.fref 2).1 ≠ 1) ∧
    (qq.par 2 2 % 65536 = 0 ∧ bits (qq.par 2 3) 0 32 * 65536 ≠ 0) ∧
    ((qq.begun 2).imageDenied (qq.fref 2).1 (qq.par 2 2) (bits (qq.par 2 3) 0 32 * 65536) = false) := by
  repeat' apply And.intro
  all_goals decide +kernel

theorem hyps_QuenchAndThaw_4 :
    (List.find? (fun q => q.flask == 4) i16.quenches = some qu) ∧
    (i16.quenchReady 4 = true) := by
  repeat' apply And.intro
  all_goals decide +kernel

theorem hyps_QuenchAndThaw_5 :
    (List.find? (fun q => q.flask == 4) i17.quenches = some qu) ∧
    (qu.slot < 16) ∧
    (i17.quenchReady 4 = false) := by
  repeat' apply And.intro
  all_goals decide +kernel

theorem hyps_QuenchAndThaw_6 :
    (i18.starts 2 97) ∧
    (i18.dirtyLines (i18.thawRange 2).1 (i18.thawRange 2).2 = []) ∧
    ((i18.begun 2).frefOk 2 = true) ∧
    ((i18.begun 2).thawState (i18.fref 2).1 (bit (i18.par 2 0) 48) = true) := by
  repeat' apply And.intro
  all_goals decide +kernel

theorem hyps_QuenchAndThaw_7 :
    (i19.starts 2 97) ∧
    (i19.dirtyLines (i19.thawRange 2).1 (i19.thawRange 2).2 = []) ∧
    ((i19.begun 2).frefOk 2 = true) ∧
    ((i19.begun 2).thawState (i19.fref 2).1 (bit (i19.par 2 0) 48) = false) ∧
    ((i19.begun 2).inFlask (i19.fref 2).1 (i19.thawRange 2).1 4096 = false) := by
  repeat' apply And.intro
  all_goals decide +kernel

theorem hyps_QuenchAndThaw_8_0 :
    (thS.starts 2 97) := by
  repeat' apply And.intro
  all_goals decide +kernel

theorem hyps_QuenchAndThaw_8_1 :
    (thS.dirtyLines (thS.thawRange 2).1 (thS.thawRange 2).2 = []) := by
  decide +kernel

theorem hyps_QuenchAndThaw_8_2 :
    ((thS.begun 2).frefOk 2 = true) := by
  decide +kernel

theorem hyps_QuenchAndThaw_8_3 :
    ((thS.begun 2).thawState (thS.fref 2).1 (bit (thS.par 2 0) 48) = false) := by
  decide +kernel

theorem hyps_QuenchAndThaw_8_4 :
    ((thS.begun 2).inFlask (thS.fref 2).1 (thS.thawRange 2).1 4096 = true) := by
  decide +kernel

theorem hyps_QuenchAndThaw_8_5 :
    ((bit (thS.par 2 0) 48 && bit (leAt (thS.dieRead (thS.thawRange 2).1 64) 32 4) 16 &&
       !(Option.any Session.bundled (thS.vault (thS.fref 2).1).sess && thS.rd Field.QN_PHASE (thS.fref 2).1 == 5)) = false) := by
  decide +kernel

theorem hyps_QuenchAndThaw_8_6 :
    (4096 ≤ (thS.thawRange 2).2) := by
  decide +kernel

theorem hyps_QuenchAndThaw_8_7 :
    ((thS.begun 2).inFlask (thS.fref 2).1 (thS.thawRange 2).1 (thS.thawRange 2).2 = true) := by
  decide +kernel

theorem hyps_QuenchAndThaw_8_8 :
    (wT.f = (thS.fref 2).1) := by
  decide +kernel

theorem hyps_QuenchAndThaw_8_9 :
    (wT.into = bit (thS.par 2 0) 48) := by
  decide +kernel

theorem hyps_QuenchAndThaw_8_10 :
    (wT.b = thS.dieRead (thS.thawRange 2).1 (thS.thawRange 2).2) := by
  have h : thS.thawRange 2 = (base4 + 2 ^ 25, wT.b.length) := by decide +kernel
  rw [h]
  exact (Sys2Proof.Laws.dieRead_cells (by decide +kernel) (by decide +kernel)).symm

theorem hyps_QuenchAndThaw_8_11 :
    (wT.pairs = List.map (fun i => (bits (thS.par 2 (i + 2)) 0 20, bits (thS.par 2 (i + 2)) 32 20))
      (List.range (bits (thS.par 2 0) 49 5))) := by
  decide +kernel

theorem hyps_QuenchAndThaw_8_12 :
    (wT.own = List.find? (fun z => z.digest == slice wT.b 208 48) thS.frozen) := by
  decide +kernel

theorem hyps_QuenchAndThaw_8_13 :
    (wT.genuine = true ∧ wT.framed = true ∧
      ((thS.begun 2).countFor (Charge.overhead (thS.fref 2).1) 9 (thS.thawRange 2).2).thawOk wT = true ∧
      (bit (thS.par 2 0) 48 = true → ((thS.begun 2).countFor (Charge.overhead (thS.fref 2).1) 9 (thS.thawRange 2).2).shapeOk
        wT = true)) := by
  exact ⟨wT_genuine, by decide +kernel, by decide +kernel, by decide +kernel⟩

theorem hyps_QuenchAndThaw_8_14 :
    (((thS.begun 2).countFor (Charge.overhead (thS.fref 2).1) 9 (thS.thawRange 2).2).thawBound wT = true) := by
  decide +kernel

theorem hyps_QuenchAndThaw_8_15 :
    (((thS.begun 2).countFor (Charge.overhead (thS.fref 2).1) 9 (thS.thawRange 2).2).thawApply wT = some i20) := by
  decide +kernel

theorem hyps_QuenchAndThaw_8 :
    (thS.starts 2 97) ∧
    (thS.dirtyLines (thS.thawRange 2).1 (thS.thawRange 2).2 = []) ∧
    ((thS.begun 2).frefOk 2 = true) ∧
    ((thS.begun 2).thawState (thS.fref 2).1 (bit (thS.par 2 0) 48) = false) ∧
    ((thS.begun 2).inFlask (thS.fref 2).1 (thS.thawRange 2).1 4096 = true) ∧
    ((bit (thS.par 2 0) 48 && bit (leAt (thS.dieRead (thS.thawRange 2).1 64) 32 4) 16 &&
       !(Option.any Session.bundled (thS.vault (thS.fref 2).1).sess && thS.rd Field.QN_PHASE (thS.fref 2).1 == 5)) = false) ∧
    (4096 ≤ (thS.thawRange 2).2) ∧
    ((thS.begun 2).inFlask (thS.fref 2).1 (thS.thawRange 2).1 (thS.thawRange 2).2 = true) ∧
    (wT.f = (thS.fref 2).1) ∧
    (wT.into = bit (thS.par 2 0) 48) ∧
    (wT.b = thS.dieRead (thS.thawRange 2).1 (thS.thawRange 2).2) ∧
    (wT.pairs = List.map (fun i => (bits (thS.par 2 (i + 2)) 0 20, bits (thS.par 2 (i + 2)) 32 20))
      (List.range (bits (thS.par 2 0) 49 5))) ∧
    (wT.own = List.find? (fun z => z.digest == slice wT.b 208 48) thS.frozen) ∧
    (wT.genuine = true ∧ wT.framed = true ∧
      ((thS.begun 2).countFor (Charge.overhead (thS.fref 2).1) 9 (thS.thawRange 2).2).thawOk wT = true ∧
      (bit (thS.par 2 0) 48 = true → ((thS.begun 2).countFor (Charge.overhead (thS.fref 2).1) 9 (thS.thawRange 2).2).shapeOk
        wT = true)) ∧
    (((thS.begun 2).countFor (Charge.overhead (thS.fref 2).1) 9 (thS.thawRange 2).2).thawBound wT = true) ∧
    (((thS.begun 2).countFor (Charge.overhead (thS.fref 2).1) 9 (thS.thawRange 2).2).thawApply wT = some i20) :=
  ⟨hyps_QuenchAndThaw_8_0, hyps_QuenchAndThaw_8_1, hyps_QuenchAndThaw_8_2, hyps_QuenchAndThaw_8_3, hyps_QuenchAndThaw_8_4,
    hyps_QuenchAndThaw_8_5, hyps_QuenchAndThaw_8_6, hyps_QuenchAndThaw_8_7, hyps_QuenchAndThaw_8_8, hyps_QuenchAndThaw_8_9,
    hyps_QuenchAndThaw_8_10, hyps_QuenchAndThaw_8_11, hyps_QuenchAndThaw_8_12, hyps_QuenchAndThaw_8_13,
    hyps_QuenchAndThaw_8_14, hyps_QuenchAndThaw_8_15⟩

theorem hyps_QuenchAndThaw_9_0 :
    (thB.starts 2 97) := by
  repeat' apply And.intro
  all_goals decide +kernel

theorem hyps_QuenchAndThaw_9_1 :
    (thB.dirtyLines (thB.thawRange 2).1 (thB.thawRange 2).2 = []) := by
  decide +kernel

theorem hyps_QuenchAndThaw_9_2 :
    ((thB.begun 2).frefOk 2 = true) := by
  decide +kernel

theorem hyps_QuenchAndThaw_9_3 :
    ((thB.begun 2).thawState (thB.fref 2).1 (bit (thB.par 2 0) 48) = false) := by
  decide +kernel

theorem hyps_QuenchAndThaw_9_4 :
    ((thB.begun 2).inFlask (thB.fref 2).1 (thB.thawRange 2).1 4096 = true) := by
  decide +kernel

theorem hyps_QuenchAndThaw_9_5 :
    ((bit (thB.par 2 0) 48 && bit (leAt (thB.dieRead (thB.thawRange 2).1 64) 32 4) 16 &&
       !(Option.any Session.bundled (thB.vault (thB.fref 2).1).sess && thB.rd Field.QN_PHASE (thB.fref 2).1 == 5)) = false) := by
  decide +kernel

theorem hyps_QuenchAndThaw_9_6 :
    (4096 ≤ (thB.thawRange 2).2) := by
  decide +kernel

theorem hyps_QuenchAndThaw_9_7 :
    ((thB.begun 2).inFlask (thB.fref 2).1 (thB.thawRange 2).1 (thB.thawRange 2).2 = true) := by
  decide +kernel

theorem hyps_QuenchAndThaw_9_8 :
    (wB.f = (thB.fref 2).1) := by
  decide +kernel

theorem hyps_QuenchAndThaw_9_9 :
    (wB.into = bit (thB.par 2 0) 48) := by
  decide +kernel

theorem hyps_QuenchAndThaw_9_10 :
    (wB.b = thB.dieRead (thB.thawRange 2).1 (thB.thawRange 2).2) := by
  have h : thB.thawRange 2 = (base4 + 2 ^ 25, wB.b.length) := by decide +kernel
  rw [h]
  exact (Sys2Proof.Laws.dieRead_cells (by decide +kernel) (by decide +kernel)).symm

theorem hyps_QuenchAndThaw_9_11 :
    (wB.pairs = List.map (fun i => (bits (thB.par 2 (i + 2)) 0 20, bits (thB.par 2 (i + 2)) 32 20))
      (List.range (bits (thB.par 2 0) 49 5))) := by
  decide +kernel

theorem hyps_QuenchAndThaw_9_12 :
    (wB.own = List.find? (fun z => z.digest == slice wB.b 208 48) thB.frozen) := by
  decide +kernel

theorem hyps_QuenchAndThaw_9_13 :
    (¬(wB.genuine = true ∧ wB.framed = true ∧
        ((thB.begun 2).countFor (Charge.overhead (thB.fref 2).1) 9 (thB.thawRange 2).2).thawOk wB = true ∧
        (bit (thB.par 2 0) 48 = true → ((thB.begun 2).countFor (Charge.overhead (thB.fref 2).1) 9 (thB.thawRange 2).2).shapeOk
          wB = true))) := by
  decide +kernel

theorem hyps_QuenchAndThaw_9 :
    (thB.starts 2 97) ∧
    (thB.dirtyLines (thB.thawRange 2).1 (thB.thawRange 2).2 = []) ∧
    ((thB.begun 2).frefOk 2 = true) ∧
    ((thB.begun 2).thawState (thB.fref 2).1 (bit (thB.par 2 0) 48) = false) ∧
    ((thB.begun 2).inFlask (thB.fref 2).1 (thB.thawRange 2).1 4096 = true) ∧
    ((bit (thB.par 2 0) 48 && bit (leAt (thB.dieRead (thB.thawRange 2).1 64) 32 4) 16 &&
       !(Option.any Session.bundled (thB.vault (thB.fref 2).1).sess && thB.rd Field.QN_PHASE (thB.fref 2).1 == 5)) = false) ∧
    (4096 ≤ (thB.thawRange 2).2) ∧
    ((thB.begun 2).inFlask (thB.fref 2).1 (thB.thawRange 2).1 (thB.thawRange 2).2 = true) ∧
    (wB.f = (thB.fref 2).1) ∧
    (wB.into = bit (thB.par 2 0) 48) ∧
    (wB.b = thB.dieRead (thB.thawRange 2).1 (thB.thawRange 2).2) ∧
    (wB.pairs = List.map (fun i => (bits (thB.par 2 (i + 2)) 0 20, bits (thB.par 2 (i + 2)) 32 20))
      (List.range (bits (thB.par 2 0) 49 5))) ∧
    (wB.own = List.find? (fun z => z.digest == slice wB.b 208 48) thB.frozen) ∧
    (¬(wB.genuine = true ∧ wB.framed = true ∧
        ((thB.begun 2).countFor (Charge.overhead (thB.fref 2).1) 9 (thB.thawRange 2).2).thawOk wB = true ∧
        (bit (thB.par 2 0) 48 = true → ((thB.begun 2).countFor (Charge.overhead (thB.fref 2).1) 9 (thB.thawRange 2).2).shapeOk
          wB = true))) :=
  ⟨hyps_QuenchAndThaw_9_0, hyps_QuenchAndThaw_9_1, hyps_QuenchAndThaw_9_2, hyps_QuenchAndThaw_9_3, hyps_QuenchAndThaw_9_4,
    hyps_QuenchAndThaw_9_5, hyps_QuenchAndThaw_9_6, hyps_QuenchAndThaw_9_7, hyps_QuenchAndThaw_9_8, hyps_QuenchAndThaw_9_9,
    hyps_QuenchAndThaw_9_10, hyps_QuenchAndThaw_9_11, hyps_QuenchAndThaw_9_12, hyps_QuenchAndThaw_9_13⟩

theorem hyps_QuenchAndThaw_10_0 :
    (thU.starts 2 97) := by
  repeat' apply And.intro
  all_goals decide +kernel

theorem hyps_QuenchAndThaw_10_1 :
    (thU.dirtyLines (thU.thawRange 2).1 (thU.thawRange 2).2 = []) := by
  decide +kernel

theorem hyps_QuenchAndThaw_10_2 :
    ((thU.begun 2).frefOk 2 = true) := by
  decide +kernel

theorem hyps_QuenchAndThaw_10_3 :
    ((thU.begun 2).thawState (thU.fref 2).1 (bit (thU.par 2 0) 48) = false) := by
  decide +kernel

theorem hyps_QuenchAndThaw_10_4 :
    ((thU.begun 2).inFlask (thU.fref 2).1 (thU.thawRange 2).1 4096 = true) := by
  decide +kernel

theorem hyps_QuenchAndThaw_10_5 :
    ((bit (thU.par 2 0) 48 && bit (leAt (thU.dieRead (thU.thawRange 2).1 64) 32 4) 16 &&
       !(Option.any Session.bundled (thU.vault (thU.fref 2).1).sess && thU.rd Field.QN_PHASE (thU.fref 2).1 == 5)) = false) := by
  decide +kernel

theorem hyps_QuenchAndThaw_10_6 :
    (4096 ≤ (thU.thawRange 2).2) := by
  decide +kernel

theorem hyps_QuenchAndThaw_10_7 :
    ((thU.begun 2).inFlask (thU.fref 2).1 (thU.thawRange 2).1 (thU.thawRange 2).2 = true) := by
  decide +kernel

theorem hyps_QuenchAndThaw_10_8 :
    (wT.f = (thU.fref 2).1) := by
  decide +kernel

theorem hyps_QuenchAndThaw_10_9 :
    (wT.into = bit (thU.par 2 0) 48) := by
  decide +kernel

theorem hyps_QuenchAndThaw_10_10 :
    (wT.b = thU.dieRead (thU.thawRange 2).1 (thU.thawRange 2).2) := by
  have h : thU.thawRange 2 = (base4 + 2 ^ 25, wT.b.length) := by decide +kernel
  rw [h]
  exact (Sys2Proof.Laws.dieRead_cells (by decide +kernel) (by decide +kernel)).symm

theorem hyps_QuenchAndThaw_10_11 :
    (wT.pairs = List.map (fun i => (bits (thU.par 2 (i + 2)) 0 20, bits (thU.par 2 (i + 2)) 32 20))
      (List.range (bits (thU.par 2 0) 49 5))) := by
  decide +kernel

theorem hyps_QuenchAndThaw_10_12 :
    (wT.own = List.find? (fun z => z.digest == slice wT.b 208 48) thU.frozen) := by
  decide +kernel

theorem hyps_QuenchAndThaw_10_13 :
    (wT.genuine = true ∧ wT.framed = true ∧
      ((thU.begun 2).countFor (Charge.overhead (thU.fref 2).1) 9 (thU.thawRange 2).2).thawOk wT = true ∧
      (bit (thU.par 2 0) 48 = true → ((thU.begun 2).countFor (Charge.overhead (thU.fref 2).1) 9 (thU.thawRange 2).2).shapeOk
        wT = true)) := by
  exact ⟨wT_genuine, by decide +kernel, by decide +kernel, by decide +kernel⟩

theorem hyps_QuenchAndThaw_10_14 :
    (((thU.begun 2).countFor (Charge.overhead (thU.fref 2).1) 9 (thU.thawRange 2).2).thawBound wT = false) := by
  decide +kernel

theorem hyps_QuenchAndThaw_10 :
    (thU.starts 2 97) ∧
    (thU.dirtyLines (thU.thawRange 2).1 (thU.thawRange 2).2 = []) ∧
    ((thU.begun 2).frefOk 2 = true) ∧
    ((thU.begun 2).thawState (thU.fref 2).1 (bit (thU.par 2 0) 48) = false) ∧
    ((thU.begun 2).inFlask (thU.fref 2).1 (thU.thawRange 2).1 4096 = true) ∧
    ((bit (thU.par 2 0) 48 && bit (leAt (thU.dieRead (thU.thawRange 2).1 64) 32 4) 16 &&
       !(Option.any Session.bundled (thU.vault (thU.fref 2).1).sess && thU.rd Field.QN_PHASE (thU.fref 2).1 == 5)) = false) ∧
    (4096 ≤ (thU.thawRange 2).2) ∧
    ((thU.begun 2).inFlask (thU.fref 2).1 (thU.thawRange 2).1 (thU.thawRange 2).2 = true) ∧
    (wT.f = (thU.fref 2).1) ∧
    (wT.into = bit (thU.par 2 0) 48) ∧
    (wT.b = thU.dieRead (thU.thawRange 2).1 (thU.thawRange 2).2) ∧
    (wT.pairs = List.map (fun i => (bits (thU.par 2 (i + 2)) 0 20, bits (thU.par 2 (i + 2)) 32 20))
      (List.range (bits (thU.par 2 0) 49 5))) ∧
    (wT.own = List.find? (fun z => z.digest == slice wT.b 208 48) thU.frozen) ∧
    (wT.genuine = true ∧ wT.framed = true ∧
      ((thU.begun 2).countFor (Charge.overhead (thU.fref 2).1) 9 (thU.thawRange 2).2).thawOk wT = true ∧
      (bit (thU.par 2 0) 48 = true → ((thU.begun 2).countFor (Charge.overhead (thU.fref 2).1) 9 (thU.thawRange 2).2).shapeOk
        wT = true)) ∧
    (((thU.begun 2).countFor (Charge.overhead (thU.fref 2).1) 9 (thU.thawRange 2).2).thawBound wT = false) :=
  ⟨hyps_QuenchAndThaw_10_0, hyps_QuenchAndThaw_10_1, hyps_QuenchAndThaw_10_2, hyps_QuenchAndThaw_10_3,
    hyps_QuenchAndThaw_10_4, hyps_QuenchAndThaw_10_5, hyps_QuenchAndThaw_10_6, hyps_QuenchAndThaw_10_7,
    hyps_QuenchAndThaw_10_8, hyps_QuenchAndThaw_10_9, hyps_QuenchAndThaw_10_10, hyps_QuenchAndThaw_10_11,
    hyps_QuenchAndThaw_10_12, hyps_QuenchAndThaw_10_13, hyps_QuenchAndThaw_10_14⟩

theorem hyps_QuenchAndThaw_11_0 :
    (thP.starts 2 97) := by
  repeat' apply And.intro
  all_goals decide +kernel

theorem hyps_QuenchAndThaw_11_1 :
    (thP.dirtyLines (thP.thawRange 2).1 (thP.thawRange 2).2 = []) := by
  decide +kernel

theorem hyps_QuenchAndThaw_11_2 :
    ((thP.begun 2).frefOk 2 = true) := by
  decide +kernel

theorem hyps_QuenchAndThaw_11_3 :
    ((thP.begun 2).thawState (thP.fref 2).1 (bit (thP.par 2 0) 48) = false) := by
  decide +kernel

theorem hyps_QuenchAndThaw_11_4 :
    ((thP.begun 2).inFlask (thP.fref 2).1 (thP.thawRange 2).1 4096 = true) := by
  decide +kernel

theorem hyps_QuenchAndThaw_11_5 :
    ((bit (thP.par 2 0) 48 && bit (leAt (thP.dieRead (thP.thawRange 2).1 64) 32 4) 16 &&
       !(Option.any Session.bundled (thP.vault (thP.fref 2).1).sess && thP.rd Field.QN_PHASE (thP.fref 2).1 == 5)) = false) := by
  decide +kernel

theorem hyps_QuenchAndThaw_11_6 :
    (4096 ≤ (thP.thawRange 2).2) := by
  decide +kernel

theorem hyps_QuenchAndThaw_11_7 :
    ((thP.begun 2).inFlask (thP.fref 2).1 (thP.thawRange 2).1 (thP.thawRange 2).2 = true) := by
  decide +kernel

theorem hyps_QuenchAndThaw_11_8 :
    (wT.f = (thP.fref 2).1) := by
  decide +kernel

theorem hyps_QuenchAndThaw_11_9 :
    (wT.into = bit (thP.par 2 0) 48) := by
  decide +kernel

theorem hyps_QuenchAndThaw_11_10 :
    (wT.b = thP.dieRead (thP.thawRange 2).1 (thP.thawRange 2).2) := by
  have h : thP.thawRange 2 = (base4 + 2 ^ 25, wT.b.length) := by decide +kernel
  rw [h]
  exact (Sys2Proof.Laws.dieRead_cells (by decide +kernel) (by decide +kernel)).symm

theorem hyps_QuenchAndThaw_11_11 :
    (wT.pairs = List.map (fun i => (bits (thP.par 2 (i + 2)) 0 20, bits (thP.par 2 (i + 2)) 32 20))
      (List.range (bits (thP.par 2 0) 49 5))) := by
  decide +kernel

theorem hyps_QuenchAndThaw_11_12 :
    (wT.own = List.find? (fun z => z.digest == slice wT.b 208 48) thP.frozen) := by
  decide +kernel

theorem hyps_QuenchAndThaw_11_13 :
    (wT.genuine = true ∧ wT.framed = true ∧
      ((thP.begun 2).countFor (Charge.overhead (thP.fref 2).1) 9 (thP.thawRange 2).2).thawOk wT = true ∧
      (bit (thP.par 2 0) 48 = true → ((thP.begun 2).countFor (Charge.overhead (thP.fref 2).1) 9 (thP.thawRange 2).2).shapeOk
        wT = true)) := by
  exact ⟨wT_genuine, by decide +kernel, by decide +kernel, by decide +kernel⟩

theorem hyps_QuenchAndThaw_11_14 :
    (((thP.begun 2).countFor (Charge.overhead (thP.fref 2).1) 9 (thP.thawRange 2).2).thawBound wT = true) := by
  decide +kernel

theorem hyps_QuenchAndThaw_11_15 :
    (((thP.begun 2).countFor (Charge.overhead (thP.fref 2).1) 9 (thP.thawRange 2).2).thawApply wT = none) := by
  decide +kernel

theorem hyps_QuenchAndThaw_11 :
    (thP.starts 2 97) ∧
    (thP.dirtyLines (thP.thawRange 2).1 (thP.thawRange 2).2 = []) ∧
    ((thP.begun 2).frefOk 2 = true) ∧
    ((thP.begun 2).thawState (thP.fref 2).1 (bit (thP.par 2 0) 48) = false) ∧
    ((thP.begun 2).inFlask (thP.fref 2).1 (thP.thawRange 2).1 4096 = true) ∧
    ((bit (thP.par 2 0) 48 && bit (leAt (thP.dieRead (thP.thawRange 2).1 64) 32 4) 16 &&
       !(Option.any Session.bundled (thP.vault (thP.fref 2).1).sess && thP.rd Field.QN_PHASE (thP.fref 2).1 == 5)) = false) ∧
    (4096 ≤ (thP.thawRange 2).2) ∧
    ((thP.begun 2).inFlask (thP.fref 2).1 (thP.thawRange 2).1 (thP.thawRange 2).2 = true) ∧
    (wT.f = (thP.fref 2).1) ∧
    (wT.into = bit (thP.par 2 0) 48) ∧
    (wT.b = thP.dieRead (thP.thawRange 2).1 (thP.thawRange 2).2) ∧
    (wT.pairs = List.map (fun i => (bits (thP.par 2 (i + 2)) 0 20, bits (thP.par 2 (i + 2)) 32 20))
      (List.range (bits (thP.par 2 0) 49 5))) ∧
    (wT.own = List.find? (fun z => z.digest == slice wT.b 208 48) thP.frozen) ∧
    (wT.genuine = true ∧ wT.framed = true ∧
      ((thP.begun 2).countFor (Charge.overhead (thP.fref 2).1) 9 (thP.thawRange 2).2).thawOk wT = true ∧
      (bit (thP.par 2 0) 48 = true → ((thP.begun 2).countFor (Charge.overhead (thP.fref 2).1) 9 (thP.thawRange 2).2).shapeOk
        wT = true)) ∧
    (((thP.begun 2).countFor (Charge.overhead (thP.fref 2).1) 9 (thP.thawRange 2).2).thawBound wT = true) ∧
    (((thP.begun 2).countFor (Charge.overhead (thP.fref 2).1) 9 (thP.thawRange 2).2).thawApply wT = none) :=
  ⟨hyps_QuenchAndThaw_11_0, hyps_QuenchAndThaw_11_1, hyps_QuenchAndThaw_11_2, hyps_QuenchAndThaw_11_3,
    hyps_QuenchAndThaw_11_4, hyps_QuenchAndThaw_11_5, hyps_QuenchAndThaw_11_6, hyps_QuenchAndThaw_11_7,
    hyps_QuenchAndThaw_11_8, hyps_QuenchAndThaw_11_9, hyps_QuenchAndThaw_11_10, hyps_QuenchAndThaw_11_11,
    hyps_QuenchAndThaw_11_12, hyps_QuenchAndThaw_11_13, hyps_QuenchAndThaw_11_14, hyps_QuenchAndThaw_11_15⟩

theorem hyps_QuenchAndThaw_12 :
    (qu.slot < 16) ∧
    ((qpS.image qu.flask).length ≤ qu.size) ∧
    (qu.base + (qpS.image qu.flask).length ≤ hbmSize) ∧
    (∀ h ∈ qpS.hlp.filter, h.line < lineOf qu.base ∨ qu.base + (qpS.image qu.flask).length ≤ h.line * 64) := by
  repeat' apply And.intro
  all_goals decide +kernel

theorem hyps_QuenchAndThaw_13 :
    (quS.slot < 16) ∧
    (quS.size < (i22.image quS.flask).length) := by
  repeat' apply And.intro
  all_goals decide +kernel

end Quenches

/-! ### Migration, management, power, resets and faults -/

namespace Managed

def kq (a : KyAsk) : KyReq := { slot := 2, flask := 4, at_ := 100, ask := a }
def vq (v : Vault) (st ph : Nat) (s : State) : State := { put s [(.FL_STATE,4,st),(.QN_PHASE,4,ph),(.SEAL_GRAN_SEAL,8,1),(.SEAL_GRAN_SEAL,9,2),(.MIG_STAGE_BASE,0,40),(.MIG_STAGE_SIZE,0,3)] with
                    vaults := [v] }
def v0 : Vault := { flask := 4, before := 4 }
def full : State := { flask4 up with kyrdo := { (flask4 up).kyrdo with
                    device := zeros 16, kid := zeros 16, own := zeros 48, mgmt := zeros 48, ucode := zeros 48 } }
def offM : MigMsg := full.migClaims 4 (zeros 48) (zeros 97) none
def offB : List Byte := full.migSigned offM (zeros 96)
def rd0 (b : List Byte) : MigMsg := (migMsg false b).getD offM
def acS (b : List Byte) : State := mail (fresh (put full [(.XL_ATLAS_VALID,7,0)]) base4 b) 2 0x63
  [4, base4, b.length, base4+2^25]
def offC : List Byte := full.migSigned { offM with shape := [1,2,3,4,5,6] } (zeros 96)
def offD : List Byte := full.migSigned { offM with comps := [(1,zeros 48),(2,List.replicate 48 1),(3,zeros 48)] } (zeros 96)
def accA : KyAsk := .accept (base4+2^25) offB
def sv : Session := { source := true, offer := [1] }
def v1 : Vault := { v0 with sess := some sv }
def accM : List Byte := full.migSigned (full.migClaims 4 (zeros 48) (zeros 97) (some (zeros 48))) (zeros 96)
def svz : Session := { source := true, offer := zeros 48 }
def bindS (v : Session) (b : List Byte) : State := mail (fresh (vq { v0 with sess := some v } 7 2 full) (base4+2^25) b) 2 0x64
  [4, base4+2^25, b.length]
def sv2 : Session := { source := true, offer := [1], accept := zeros 48, slot := some 7 }
def v2 : Vault := { v0 with sess := some sv2 }
def ex (p0 p1 : Nat) : State := mail
  { put (vq v2 7 2 (flask4 up)) [(.KEY_SLOT_VALID,7,1),(.KEY_SLOT_FLASK,7,4)] with keys := [{ slot := 7, key := zeros 32 }] }
  2 0x65 [p0, p1]
def kmig : KeyMat := { slot := 7, key := zeros 32 }
def svi : Session := { source := false, offer := [1], accept := zeros 48, slot := some 7, granules := [1] }
def vi : Vault := { flask := 4, sess := some svi }
def km : KeyMat := { slot := 7, key := zeros 32 }
def im (p0 k : Nat) (ents : List Byte) : State := mail (laid { put (vq vi 4 5 (flask4 up)) [(.KEY_SLOT_VALID,7,1),(.KEY_SLOT_FLASK,7,4)] with
                    keys := [km] } (40*2^25 + k * 2^25) ents) 2 0x66 [p0, 40*2^25, k]
def svj : Session := { svi with granules := [] }
def vj : Vault := { flask := 4, sess := some svj }
def imk (s : State) (p0 k : Nat) : State := mail
  { put (vq vj 4 5 (flask4 s)) [(.KEY_SLOT_VALID,7,1),(.KEY_SLOT_FLASK,7,4)] with keys := [km] } 2 0x66 [p0, 40*2^25, k]
def bunB : List Byte := ((imk up 4 0).bundle 4 svj km [9]).1
def imb (b : List Byte) : State := imk (fresh up (40*2^25) b) (4 + 2^48) 0
def bunK : List Byte := (({ imk (put up [(.KEY_SLOT_VALID,9,1),(.KEY_SLOT_USE,9,1),(.KEY_SLOT_FLASK,9,4)]) 4 0 with
                    keys := [km, { slot := 9, key := zeros 32 }] }.bundle 4 svj km [9]).1).take (128 + 48)
def bun : KyReq := { slot := 2, flask := 4, at_ := 100, ask := .import_ bunK (zeros 64) }
def kb : State := kyWaits (imk up 4 0) (.import_ bunK (zeros 64))
def ksB : List (Nat × Nat × List Byte) := (openBundle svj km bunK).getD []
def mm : Mould := { mould1 with flask := none }
def mr (groups bank : Nat) : State :=
  { mail (flask4 up) 2 0x32 [0, 1 + 2 * 2^20 + bank * 2^32, groups] with moulds := { table := [mm], gens := [(1,2)] } }
def allctx : List Ctx := (List.range 32).map (fun c => { ctx0 with num := c, root := c })
def fw (op p0 p1 p2 : Nat) : State := mail (laid up 0x100000 [1,2,3]) 2 op [p0,p1,p2]
def stg (ok : Bool) : Staged := { comp := 2, digest := List.replicate 48 8, version := 7, coefs := [], est := 0, ok := ok }
def ig : KyReq := { slot := 2, flask := 4, at_ := 100, ask := .image 2 [1,2] }
def stb : Staged := { stg false with bank := [1,2] }
def fcm (comp : Nat) (s : State) : State := mail s 2 0x71 [comp * 2^48]
def cmr : KyReq := { slot := 3, at_ := 100, ask := .commit 2 }
def stg3 : Staged := { stg true with comp := 3 }
def sw : Switch := { comp := 2, slots := [2], from_ := 100, till := 900 }
def swJ : Switch := { comp := 2, slots := [5], from_ := 100, till := 900, old := 3 }
def ps (v : Nat) (s : State) : State := mail s 2 0x73 [v * 2^48]
def dz (s : State) : State := put s [(.PWR_STATUS_STATE,0,2)]
def pw : PowerWait := { slot := 5, state := 2, prior := [] }
def pwW (s : State) : State := { put s [(.MB_STATE_STATE,0,2048),(.PWR_STATUS_ENTERING,0,1)] with power := some pw }
def pz (st : Nat) (pr : List Nat) : PowerWait := { slot := 2, state := st, prior := pr }
def pwS (w : PowerWait) : State := { put up [(.MB_STATE_STATE,0,160),(.PWR_STATUS_ENTERING,0,1)] with power := some w }
def br : BlockReset := { start := 3 }
def rq : Req := { id := 62, who := .engine 8, ctx := 0, root := none, tier := 0, addr := 64, kind := .write [(64,1)] }
def brf : BlockReset := { start := 3, fault := true }
def th : TableHit := { slot := 7, level := 0, pre := 0, next := 5 }
def thw : State := mail (fresh
                          { put (flask4 up) [(.FL_STATE,4,7),(.QN_PHASE,4,2)] with vaults := [{ flask := 4, before := 2 }] }
                          (base4+2^25) (zeros 8 ++ leBytes 8 4096)) 2 0x61 [4, base4+2^25]
def j1 : State := mail (vq v0 7 2 (flask4 up)) 2 0x62 [4, base4+2^25]
def j2 : State := kyWaits (vq v0 7 2 (flask4 up)) (.offer (base4+2^25))
def j3 : State := mail (put (flask4 up) [(.XL_ATLAS_VALID,7,0)]) 2 0x63 [4, base4, 100, base4+2^25]
def j4 : State := acS offB
def j5 : State := acS offC
def j6 : State := acS offD
def j7 : State := kyWaits (flask4 up) accA
def j8 : State := bindS svz accM
def j9 : State := bindS sv accM
def j10 : State := kyWaits (vq v1 7 2 (flask4 up)) (.bind [5])
def j11 : State := ex 4 (1 + 1 * 2^32)
def j13 : State := ex (4 + 2^48) 0
def j14 : State := kyWaits (ex 4 0) .bundle
def j15 : State := im 4 0 []
def j17 : State := im 4 1 (leBytes 4 1)
def j18 : State := im 4 1 (leBytes 4 5)
def j19 : State := imb bunB
def j20 : State := imb (leBytes 8 300)
def j21 : State := kyWaits (im 4 0 []) (.import_ bunK (zeros 64))
def j22 : State := ((kb.dropMigKey 4).importKeys 4 ksB).getD {}
def j24 : State := put up [(.RAS_STATUS_PHASE,0,1)]
def j25 : State := mail
  { up with kyrdo := { mgmt := List.replicate 48 3, ucode := List.replicate 48 4, mgmtVer := 5, ucodeVer := 6 } } 2 1 []
def j27 : State := { mr 4 1 with ctxs := allctx }
def j28 : State := mr 4 1
def j29 : State := mr 2 1
def j31 : State := fw 0x70 (2 * 2^48) 0x100000 3
def j32 : State := { kyWaits up (.image 2 [1,2]) with staged := [stb] }
def j33 : State := { kyWaits up (.image 2 [1,2]) with staged := [stb] }
def j34 : State := fcm 2 up
def j35 : State := fcm 2 { up with staged := [stg true] }
def j36 : State := fcm 2 { put up [(.MB_STATE_STATE,0,128)] with staged := [stg true], kyreqs := [cmr] }
def j37 : State := fcm 3 { put up [(.QM_CTL_ADMIT_EN,0,1)] with staged := [stg3] }
def j39 : State := { put up [(.MB_STATE_STATE,0,128)] with staged := [stg true], kyreqs := [cmr] }
def j40 : State := fcm 2 { up with mbox := { switches := [swJ] } }
def j42 : State := fcm 2 { put up [(.MB_STATE_STATE,0,0)] with mbox := { switches := [sw] } }
def j43 : State := mail { up with staged := [stg true] } 2 0x72 [2 * 2^48]
def j45 : State := mail { up with staged := [stg true] } 2 0x72 [3 * 2^48]
def j46 : State := put up [(.MB_STATE_STATE,0,128)]
def j51 : State := ps 2 (put up [(.MB_STATE_STATE,0,128)])
def j53 : State := ps 3 (pwW up)
def j55 : State := ps 2 (dz up)
def j56 : State := ps 0 up
def j57 : State := ps 0 (pwW up)
def j58 : State := ps 0 (dz up)
def j60 : State := pwS (pz 2 [])
def j61 : State := pwS (pz 3 [])
def j62 : State := pwS (pz 2 [3])
def j66 : State := { put (dz up) [(.PWR_STATUS_EXITING,0,1),(.MB_STATE_STATE,0,32)] with exit := some (3, [2]) }
def j67 : State := put up [(.PWR_CTL_IDLE_EN,0,1)]
def j70 : State := memW (before ctx0 [31])
def j71 : State := mail (sealed4 4 (runs (before ctx0 [31]) kern0 lane8)) 2 0x74 []
def j72 : State := { put up [(.RAS_STATUS_PHASE,0,6)] with breset := some br, reqs := [rq] }
def j73 : State := { put up [(.RAS_STATUS_PHASE,0,1)] with breset := some brf, time := 100 }
def j75 : State := { put up [(.RAS_STATUS_PHASE,0,1)] with breset := some brf }
def j76 : State := { put up [(.RAS_STATUS_PHASE,0,1)] with breset := some brf }
def j78 : State := before ctx0 [31]
def j88 : State := before ctx0 [31]
def j89 : State := sheeted (before ctx0 [31])
def j90 : State := { up with xl := { tables := [th] } }
def j91 : State := flask4 up
def j92 : State := put up [(.MC_HTAB_EN,0,1)]
def j93 : State := mail (flask4 up) 2 0x17 [4, 4]
def j95 : State := put (command (sealed4 4 up) (env 5 1 0 1 0)) [(.MB_CMD_PLEN,2,2)]
def j96 : State := mail up 2 0x7777 []

theorem hyps_FlasksMigrate_0 :
    (j1.starts 2 98) ∧
    ((j1.begun 2).frefOk 2 = true) ∧
    ((j1.begun 2).flaskState (j1.fref 2).1 = flQUENCHED) ∧
    ((j1.vault (j1.fref 2).1).before = flSEALED) ∧
    (j1.rd Field.QN_PHASE (j1.fref 2).1 = qnQUENCHED) ∧
    ((j1.begun 2).migBufFails (j1.fref 2).1 (j1.par 2 1) = none) := by
  repeat' apply And.intro
  all_goals decide +kernel

theorem hyps_FlasksMigrate_1 :
    (2 < 16) ∧
    (j2.kyreq? 2 = some (kq (KyAsk.offer (base4 + 2 ^ 25)))) ∧
    ((kq (KyAsk.offer (base4 + 2 ^ 25))).ask = KyAsk.offer (base4 + 2 ^ 25)) := by
  repeat' apply And.intro
  all_goals decide +kernel

theorem hyps_FlasksMigrate_2 :
    (j3.starts 2 99) ∧
    (j3.dirtyLines (j3.par 2 1) (bits (j3.par 2 2) 0 15) = []) ∧
    ((j3.begun 2).frefOk 2 = true) ∧
    ((j3.begun 2).flaskState (j3.fref 2).1 = flOPEN) ∧
    (j3.rd Field.QN_PHASE (j3.fref 2).1 = qnNONE) ∧
    (j3.queuesOf (j3.fref 2).1 = []) ∧
    ((j3.moulds.table.any fun m => m.flask == some (j3.fref 2).1) = false) ∧
    ((j3.atlases.any fun a => j3.rd Field.XL_ATLAS_FLASK a == (j3.fref 2).1) = false) ∧
    ((j3.begun 2).migBufFails (j3.fref 2).1 (j3.par 2 3) = none) ∧
    ((j3.begun 2).claimed (j3.fref 2).1 KyAsk.isAccept = false) ∧
    (migMsg false (j3.migIn 2) = none) := by
  repeat' apply And.intro
  all_goals decide +kernel

theorem hyps_FlasksMigrate_3 :
    (j4.starts 2 99) ∧
    (j4.dirtyLines (j4.par 2 1) (bits (j4.par 2 2) 0 15) = []) ∧
    ((j4.begun 2).frefOk 2 = true) ∧
    ((j4.begun 2).flaskState (j4.fref 2).1 = flOPEN) ∧
    (j4.rd Field.QN_PHASE (j4.fref 2).1 = qnNONE) ∧
    (j4.queuesOf (j4.fref 2).1 = []) ∧
    ((j4.moulds.table.any fun m => m.flask == some (j4.fref 2).1) = false) ∧
    ((j4.atlases.any fun a => j4.rd Field.XL_ATLAS_FLASK a == (j4.fref 2).1) = false) ∧
    ((j4.begun 2).migBufFails (j4.fref 2).1 (j4.par 2 3) = none) ∧
    ((j4.begun 2).claimed (j4.fref 2).1 KyAsk.isAccept = false) ∧
    (migMsg false (j4.migIn 2) = some (rd0 offB)) ∧
    ((rd0 offB).shape = j4.shape (j4.fref 2).1) ∧
    (j4.sameFirmware (rd0 offB) = true) := by
  repeat' apply And.intro
  all_goals decide +kernel

theorem hyps_FlasksMigrate_4 :
    (j5.starts 2 99) ∧
    (j5.dirtyLines (j5.par 2 1) (bits (j5.par 2 2) 0 15) = []) ∧
    ((j5.begun 2).frefOk 2 = true) ∧
    ((j5.begun 2).flaskState (j5.fref 2).1 = flOPEN) ∧
    (j5.rd Field.QN_PHASE (j5.fref 2).1 = qnNONE) ∧
    (j5.queuesOf (j5.fref 2).1 = []) ∧
    ((j5.moulds.table.any fun m => m.flask == some (j5.fref 2).1) = false) ∧
    ((j5.atlases.any fun a => j5.rd Field.XL_ATLAS_FLASK a == (j5.fref 2).1) = false) ∧
    ((j5.begun 2).migBufFails (j5.fref 2).1 (j5.par 2 3) = none) ∧
    ((j5.begun 2).claimed (j5.fref 2).1 KyAsk.isAccept = false) ∧
    (migMsg false (j5.migIn 2) = some (rd0 offC)) ∧
    ((rd0 offC).shape ≠ j5.shape (j5.fref 2).1) := by
  repeat' apply And.intro
  all_goals decide +kernel

theorem hyps_FlasksMigrate_5 :
    (j6.starts 2 99) ∧
    (j6.dirtyLines (j6.par 2 1) (bits (j6.par 2 2) 0 15) = []) ∧
    ((j6.begun 2).frefOk 2 = true) ∧
    ((j6.begun 2).flaskState (j6.fref 2).1 = flOPEN) ∧
    (j6.rd Field.QN_PHASE (j6.fref 2).1 = qnNONE) ∧
    (j6.queuesOf (j6.fref 2).1 = []) ∧
    ((j6.moulds.table.any fun m => m.flask == some (j6.fref 2).1) = false) ∧
    ((j6.atlases.any fun a => j6.rd Field.XL_ATLAS_FLASK a == (j6.fref 2).1) = false) ∧
    ((j6.begun 2).migBufFails (j6.fref 2).1 (j6.par 2 3) = none) ∧
    ((j6.begun 2).claimed (j6.fref 2).1 KyAsk.isAccept = false) ∧
    (migMsg false (j6.migIn 2) = some (rd0 offD)) ∧
    ((rd0 offD).shape = j6.shape (j6.fref 2).1) ∧
    (j6.sameFirmware (rd0 offD) = false) := by
  repeat' apply And.intro
  all_goals decide +kernel

theorem hyps_FlasksMigrate_6 :
    (j7.kyreq? 2 = some (kq accA)) ∧
    ((kq accA).ask = KyAsk.accept (base4 + 2 ^ 25) offB) ∧
    ((kq accA).flask < 64) ∧
    (migMsg false offB = some (rd0 offB)) ∧
    ((lowest 256 fun k => !j7.on Field.KEY_SLOT_VALID k) = some 0) := by
  repeat' apply And.intro
  all_goals decide +kernel

theorem hyps_FlasksMigrate_7 :
    (j8.starts 2 100) ∧
    (j8.dirtyLines (j8.par 2 1) (bits (j8.par 2 2) 0 15) = []) ∧
    ((j8.begun 2).frefOk 2 = true) ∧
    (j8.sess (j8.fref 2).1 = some svz) ∧
    (svz.source = true) ∧
    (svz.slot = none) ∧
    (j8.rd Field.QN_PHASE (j8.fref 2).1 = qnQUENCHED) ∧
    ((j8.begun 2).claimed (j8.fref 2).1 KyAsk.isBind = false) ∧
    (j8.acceptOk svz (j8.migIn 2) = true) := by
  repeat' apply And.intro
  all_goals decide +kernel

theorem hyps_FlasksMigrate_8 :
    (j9.starts 2 100) ∧
    (j9.dirtyLines (j9.par 2 1) (bits (j9.par 2 2) 0 15) = []) ∧
    ((j9.begun 2).frefOk 2 = true) ∧
    (j9.sess (j9.fref 2).1 = some sv) ∧
    (sv.source = true) ∧
    (sv.slot = none) ∧
    (j9.rd Field.QN_PHASE (j9.fref 2).1 = qnQUENCHED) ∧
    ((j9.begun 2).claimed (j9.fref 2).1 KyAsk.isBind = false) ∧
    (j9.acceptOk sv (j9.migIn 2) = false) := by
  repeat' apply And.intro
  all_goals decide +kernel

theorem hyps_FlasksMigrate_9 :
    (2 < 16) ∧
    (j10.kyreq? 2 = some (kq (KyAsk.bind [5]))) ∧
    ((kq (KyAsk.bind [5])).ask = KyAsk.bind [5]) ∧
    ((kq (KyAsk.bind [5])).flask < 64) ∧
    (j10.sess (kq (KyAsk.bind [5])).flask = some sv) ∧
    ((lowest 256 fun k => !j10.on Field.KEY_SLOT_VALID k) = some 0) := by
  repeat' apply And.intro
  all_goals decide +kernel

theorem hyps_FlasksMigrate_10 :
    (j11.starts 2 101) ∧
    ((j11.begun 2).frefOk 2 = true) ∧
    (j11.stage.2 ≠ 0) ∧
    (j11.sess (j11.fref 2).1 = some sv2) ∧
    (sv2.source = true) ∧
    (sv2.slot.isSome = true) ∧
    (j11.rd Field.QN_PHASE (j11.fref 2).1 = qnQUENCHED ∨ j11.rd Field.QN_PHASE (j11.fref 2).1 = qnEXPORTING) ∧
    ((j11.begun 2).stageOk = true) ∧
    (bits (j11.par 2 0) 48 1 = 0) ∧
    (runBytes (bits (j11.par 2 1) 32 32) ≤ j11.stage.2) ∧
    (bits (j11.par 2 1) 0 32 + bits (j11.par 2 1) 32 32 ≤ j11.rd Field.FL_SIZE (j11.fref 2).1) ∧
    ((j11.migKey sv2).isSome = true) := by
  repeat' apply And.intro
  all_goals decide +kernel

theorem hyps_FlasksMigrate_11 :
    (j13.starts 2 101) ∧
    ((j13.begun 2).frefOk 2 = true) ∧
    (j13.stage.2 ≠ 0) ∧
    (j13.sess (j13.fref 2).1 = some sv2) ∧
    (sv2.source = true) ∧
    (sv2.slot.isSome = true) ∧
    (j13.rd Field.QN_PHASE (j13.fref 2).1 = qnQUENCHED ∨ j13.rd Field.QN_PHASE (j13.fref 2).1 = qnEXPORTING) ∧
    ((j13.begun 2).stageOk = true) ∧
    (bits (j13.par 2 0) 48 1 = 1) := by
  repeat' apply And.intro
  all_goals decide +kernel

theorem hyps_FlasksMigrate_12 :
    (2 < 16) ∧
    (j14.kyreq? 2 = some (kq KyAsk.bundle)) ∧
    ((kq KyAsk.bundle).ask = KyAsk.bundle) ∧
    (j14.sess (kq KyAsk.bundle).flask = some sv2) ∧
    (j14.migKey sv2 = some kmig) := by
  repeat' apply And.intro
  all_goals decide +kernel

theorem hyps_FlasksMigrate_13 :
    (j15.starts 2 102) ∧
    ((j15.begun 2).frefOk 2 = true) ∧
    (j15.stage.2 ≠ 0) ∧
    (j15.rd Field.QN_PHASE (j15.fref 2).1 = qnIMPORTING) ∧
    ((j15.sess (j15.fref 2).1).bind j15.migKey = some km) ∧
    ((j15.begun 2).stageOk = true) ∧
    (bits (j15.par 2 0) 48 1 = 0) ∧
    (j15.dirtyLines (j15.par 2 1) (runBytes (bits (j15.par 2 2) 0 32)) = []) ∧
    (j15.inStage (j15.par 2 1) (runBytes (bits (j15.par 2 2) 0 32)) = true) ∧
    ((List.foldl (fun r i => if r.2 = ImportEnd.going then r.1.importOne (j15.fref 2).1 km.key (j15.par 2 1)
                   (bits (j15.par 2 2) 0 32) i else r) (j15.begun 2, ImportEnd.going) (List.range (bits (j15.par 2 2) 0 32))).2
      = ImportEnd.going) := by
  repeat' apply And.intro
  all_goals decide +kernel

theorem hyps_FlasksMigrate_14 :
    (j17.starts 2 102) ∧
    ((j17.begun 2).frefOk 2 = true) ∧
    (j17.stage.2 ≠ 0) ∧
    (j17.rd Field.QN_PHASE (j17.fref 2).1 = qnIMPORTING) ∧
    ((j17.sess (j17.fref 2).1).bind j17.migKey = some km) ∧
    ((j17.begun 2).stageOk = true) ∧
    (bits (j17.par 2 0) 48 1 = 0) ∧
    (j17.dirtyLines (j17.par 2 1) (runBytes (bits (j17.par 2 2) 0 32)) = []) ∧
    (j17.inStage (j17.par 2 1) (runBytes (bits (j17.par 2 2) 0 32)) = true) ∧
    ((List.foldl (fun r i => if r.2 = ImportEnd.going then r.1.importOne (j17.fref 2).1 km.key (j17.par 2 1)
                   (bits (j17.par 2 2) 0 32) i else r) (j17.begun 2, ImportEnd.going) (List.range (bits (j17.par 2 2) 0 32))).2
      = ImportEnd.again) := by
  repeat' apply And.intro
  all_goals decide +kernel

theorem hyps_FlasksMigrate_15 :
    (j18.starts 2 102) ∧
    ((j18.begun 2).frefOk 2 = true) ∧
    (j18.stage.2 ≠ 0) ∧
    (j18.rd Field.QN_PHASE (j18.fref 2).1 = qnIMPORTING) ∧
    ((j18.sess (j18.fref 2).1).bind j18.migKey = some km) ∧
    ((j18.begun 2).stageOk = true) ∧
    (bits (j18.par 2 0) 48 1 = 0) ∧
    (j18.dirtyLines (j18.par 2 1) (runBytes (bits (j18.par 2 2) 0 32)) = []) ∧
    (j18.inStage (j18.par 2 1) (runBytes (bits (j18.par 2 2) 0 32)) = true) ∧
    ((List.foldl (fun r i => if r.2 = ImportEnd.going then r.1.importOne (j18.fref 2).1 km.key (j18.par 2 1)
                   (bits (j18.par 2 2) 0 32) i else r) (j18.begun 2, ImportEnd.going) (List.range (bits (j18.par 2 2) 0 32))).2
      = ImportEnd.bad) := by
  repeat' apply And.intro
  all_goals decide +kernel

theorem hyps_FlasksMigrate_16 :
    (j19.starts 2 102) ∧
    ((j19.begun 2).frefOk 2 = true) ∧
    (j19.stage.2 ≠ 0) ∧
    (j19.rd Field.QN_PHASE (j19.fref 2).1 = qnIMPORTING) ∧
    ((j19.sess (j19.fref 2).1).bind j19.migKey = some km) ∧
    ((j19.begun 2).stageOk = true) ∧
    (bits (j19.par 2 0) 48 1 = 1) ∧
    (j19.sess (j19.fref 2).1 = some svj) ∧
    (j19.dirtyLines (j19.bundleRange 2).1 (j19.bundleRange 2).2 = []) ∧
    (j19.inStage (j19.par 2 1) 128 = true) ∧
    ((j19.begun 2).claimed (j19.fref 2).1 KyAsk.isImport = false) ∧
    (leAt (j19.dieRead (j19.par 2 1) 128) 0 8 ≤ 256 ∧ j19.inStage (j19.par 2 1)
      (128 + 48 * leAt (j19.dieRead (j19.par 2 1) 128) 0 8 + leAt (j19.dieRead (j19.par 2 1) 128) 8 8) = true) ∧
    (openBundle svj km (j19.dieRead (j19.par 2 1) (128 + 48 * leAt (j19.dieRead (j19.par 2 1) 128) 0 8)) ≠ none) ∧
    (slice (j19.dieRead (j19.par 2 1) 128) 16 48 = svj.digest) := by
  repeat' apply And.intro
  all_goals decide +kernel

theorem hyps_FlasksMigrate_17 :
    (j20.starts 2 102) ∧
    ((j20.begun 2).frefOk 2 = true) ∧
    (j20.stage.2 ≠ 0) ∧
    (j20.rd Field.QN_PHASE (j20.fref 2).1 = qnIMPORTING) ∧
    ((j20.sess (j20.fref 2).1).bind j20.migKey = some km) ∧
    ((j20.begun 2).stageOk = true) ∧
    (bits (j20.par 2 0) 48 1 = 1) ∧
    (j20.sess (j20.fref 2).1 = some svj) ∧
    (j20.dirtyLines (j20.bundleRange 2).1 (j20.bundleRange 2).2 = []) ∧
    (j20.inStage (j20.par 2 1) 128 = true) ∧
    ((j20.begun 2).claimed (j20.fref 2).1 KyAsk.isImport = false) ∧
    (¬(leAt (j20.dieRead (j20.par 2 1) 128) 0 8 ≤ 256 ∧ j20.inStage (j20.par 2 1)
        (128 + 48 * leAt (j20.dieRead (j20.par 2 1) 128) 0 8 + leAt (j20.dieRead (j20.par 2 1) 128) 8 8) = true) ∨ openBundle
      svj km (j20.dieRead (j20.par 2 1) (128 + 48 * leAt (j20.dieRead (j20.par 2 1) 128) 0 8)) = none ∨ slice
      (j20.dieRead (j20.par 2 1) 128) 16 48 ≠ svj.digest) := by
  repeat' apply And.intro
  all_goals decide +kernel

theorem hyps_FlasksMigrate_18 :
    (2 < 16) ∧
    (j21.kyreq? 2 = some bun) ∧
    (bun.ask = KyAsk.import_ bunK (zeros 64)) ∧
    (j21.sess bun.flask = some svi) := by
  repeat' apply And.intro
  all_goals decide +kernel

theorem hyps_FlasksMigrate_19 :
    (2 < 16) ∧
    (kb.kyreq? 2 = some bun) ∧
    (bun.ask = KyAsk.import_ bunK (zeros 64)) ∧
    (kb.sess bun.flask = some svj) ∧
    (kb.migKey svj = some km) ∧
    (openBundle svj km bunK = some ksB) ∧
    ((kb.dropMigKey bun.flask).importKeys bun.flask ksB = some j22) := by
  repeat' apply And.intro
  all_goals decide +kernel

theorem hyps_ManagementCommands :
    ((up.on Field.CFG_MSE = true) ∧
     (up.hostAway = false) ∧
     (up.rd Field.RAS_STATUS_PHASE = 1 ∨ up.rd Field.RAS_STATUS_PHASE = 2 ∨ up.rd Field.RAS_STATUS_PHASE = 3 ∨ up.rd
       Field.RAS_STATUS_PHASE = 4) ∧
     (2 < 16) ∧
     (¬(up.slotState (bits 2 0 4) = mbQUEUED ∨ up.slotState (bits 2 0 4) = mbRUNNING))) ∧
    ((up.on Field.CFG_MSE = true) ∧
     (up.hostAway = false) ∧
     (up.rd Field.RAS_STATUS_PHASE = 1 ∨ up.rd Field.RAS_STATUS_PHASE = 2 ∨ up.rd Field.RAS_STATUS_PHASE = 3 ∨ up.rd
       Field.RAS_STATUS_PHASE = 4) ∧
     (16 < 2 ^ 64) ∧
     ((up.slotState (bits 16 0 4) = mbQUEUED ∨ up.slotState (bits 16 0 4) = mbRUNNING) ∨ 16 ≤ 16)) ∧
    ((j24.on Field.CFG_MSE = true) ∧
     (j24.hostAway = false) ∧
     (j24.rd Field.RAS_STATUS_PHASE = 1 ∨ j24.rd Field.RAS_STATUS_PHASE = 2 ∨ j24.rd Field.RAS_STATUS_PHASE = 3 ∨ j24.rd
       Field.RAS_STATUS_PHASE = 4)) ∧
    ((j25.starts 2 1)) ∧
    ((j27.starts 2 50) ∧
     ((j27.begun 2).mgmtRunCheck 2 = Except.ok mm) ∧
     (j27.seqZero = none ∨ j27.loading = true)) ∧
    ((j28.starts 2 50) ∧
     ((j28.begun 2).mgmtRunCheck 2 = Except.ok mm) ∧
     (j28.seqZero = some 0) ∧
     (j28.loading = false)) ∧
    ((j29.starts 2 50) ∧
     (j29.mgmtRunCheck 2 = Except.error stDENIED) ∧
     ((j29.begun 2).mgmtRunCheck 2 = Except.error stDENIED)) ∧
    ((j31.starts 2 112) ∧
     (j31.dirtyLines (j31.par 2 1) (bits (j31.par 2 2) 0 32) = []) ∧
     ((j31.staged.any fun x => x.comp == j31.comp 2) = false) ∧
     (j31.par 2 1 % 4096 = 0) ∧
     (bits (j31.par 2 2) 0 32 ≠ 0) ∧
     (bits (j31.par 2 2) 0 32 ≤ bankSize (j31.comp 2)) ∧
     ((j31.begun 2).outsideAll (j31.par 2 1) (bits (j31.par 2 2) 0 32) = true)) ∧
    ((2 < 16) ∧
     (j32.kyreq? 2 = some ig) ∧
     (ig.ask = KyAsk.image 2 [1, 2]) ∧
     (List.filter (fun x => x.comp == 2) j32.staged = [stb]) ∧
     (stb.bank = [1, 2])) ∧
    ((2 < 16) ∧
     (j33.kyreq? 2 = some ig) ∧
     (ig.ask = KyAsk.image 2 [1, 2]) ∧
     (List.filter (fun x => x.comp == 2) j33.staged = [stb]) ∧
     (stb.bank = [1, 2])) ∧
    ((j34.starts 2 113) ∧
     (List.find? (fun w => w.slots.contains 2) j34.mbox.switches = none) ∧
     ((j34.mbox.switches.any fun w => w.comp == j34.comp 2) = false) ∧
     (j34.claimsStaged (j34.comp 2) = false)) ∧
    ((j35.starts 2 113) ∧
     (List.find? (fun w => w.slots.contains 2) j35.mbox.switches = none) ∧
     ((j35.mbox.switches.any fun w => w.comp == j35.comp 2) = false) ∧
     (j35.claimsStaged (j35.comp 2) = true) ∧
     (j35.commits (j35.comp 2) = []) ∧
     (j35.comp 2 = 3 → j35.on Field.QM_CTL_ADMIT_EN = false ∧ j35.ctxs = [] ∧ j35.mbox.runWait = none)) ∧
    ((j36.starts 2 113) ∧
     (List.find? (fun w => w.slots.contains 2) j36.mbox.switches = none) ∧
     ((j36.mbox.switches.any fun w => w.comp == j36.comp 2) = false) ∧
     (j36.claimsStaged (j36.comp 2) = true) ∧
     (j36.commits (j36.comp 2) ≠ [])) ∧
    ((j37.starts 2 113) ∧
     (List.find? (fun w => w.slots.contains 2) j37.mbox.switches = none) ∧
     ((j37.mbox.switches.any fun w => w.comp == j37.comp 2) = false) ∧
     (j37.claimsStaged (j37.comp 2) = true) ∧
     (j37.commits (j37.comp 2) = []) ∧
     (j37.comp 2 = 3) ∧
     (¬(j37.on Field.QM_CTL_ADMIT_EN = false ∧ j37.ctxs = [] ∧ j37.mbox.runWait = none))) ∧
    ((j39.kyreq? 3 = some cmr) ∧
     (cmr.ask = KyAsk.commit 2) ∧
     (List.find? (fun x => x.comp == 2 && x.ok) j39.staged = some (stg true))) ∧
    ((j40.starts 2 113) ∧
     (List.find? (fun w => w.slots.contains 2) j40.mbox.switches = none) ∧
     ((j40.mbox.switches.any fun w => w.comp == j40.comp 2) = true)) ∧
    ((List.find? (fun w => w.slots.contains 2) j42.mbox.switches = some sw)) ∧
    ((j43.starts 2 114) ∧
     (j43.claimsStaged (j43.comp 2) = true)) ∧
    ((j45.starts 2 114) ∧
     (j45.claimsStaged (j45.comp 2) = false)) ∧
    ((j46.ready = true) ∧
     (1 < 2)) := by
  repeat' apply And.intro
  all_goals decide +kernel

theorem hyps_PowerStates :
    ((j51.starts 2 115) ∧
     ((Instr.powerSetDrowse 2, 2) ∈ [(Instr.powerSetDrowse 2, 2), (Instr.powerSetOff 2, 3)]) ∧
     (bits (j51.par 2 0) 48 2 = 2) ∧
     (j51.power = none) ∧
     (2 = 2 → j51.drowse = false)) ∧
    ((j53.starts 2 115) ∧
     ((Instr.powerSetOff 2, 3) ∈ [(Instr.powerSetDrowse 2, 2), (Instr.powerSetOff 2, 3)]) ∧
     (bits (j53.par 2 0) 48 2 = 3) ∧
     (j53.power = some pw) ∧
     (3 = 2 → j53.drowse = false)) ∧
    ((j55.starts 2 115) ∧
     (bits (j55.par 2 0) 48 2 = 2) ∧
     (j55.power = none) ∧
     (j55.drowse = true)) ∧
    ((j56.starts 2 115) ∧
     (bits (j56.par 2 0) 48 2 = 0) ∧
     (j56.power = none) ∧
     (j56.drowse = false)) ∧
    ((j57.starts 2 115) ∧
     (bits (j57.par 2 0) 48 2 = 0) ∧
     (j57.power = some pw) ∧
     (pw.slot < 16) ∧
     (pw.slot ≠ 2)) ∧
    ((j58.starts 2 115) ∧
     (bits (j58.par 2 0) 48 2 = 0) ∧
     (j58.power = none) ∧
     (j58.drowse = true)) ∧
    ((j60.settle.power = some (pz 2 [])) ∧
     ((pz 2 []).slot < 16) ∧
     (j60.settle.drained (pz 2 []) = true) ∧
     ((pz 2 []).state = 2)) ∧
    ((j61.settle.power = some (pz 3 [])) ∧
     ((pz 3 []).slot < 16) ∧
     (j61.settle.drained (pz 3 []) = true) ∧
     ((pz 3 []).state ≠ 2) ∧
     (j61.settle.meter.accs = []) ∧
     (j61.settle.meter.blocks = [])) ∧
    ((j62.settle.power = some (pz 2 [3])) ∧
     (j62.settle.drained (pz 2 [3]) = false)) ∧
    ((j66.exit = some (3, [2]))) ∧
    ((j67.ready = true) ∧
     (j67.on Field.PWR_CTL_IDLE_EN = true) ∧
     (7 < 64) ∧
     (bit (j67.rd Field.PWR_GATED_GROUPS) 7 = false)) := by
  repeat' apply And.intro
  all_goals decide +kernel

theorem hyps_ResetsAndStartUp :
    ((j70.rd Field.RAS_STATUS_PHASE ≠ 0 ∨ j70.breset.isSome = true)) ∧
    ((j71.starts 2 116)) ∧
    ((j72.breset = some br) ∧
     (j72.rd Field.RAS_STATUS_PHASE = 6) ∧
     (br.drained = false) ∧
     (∀ r ∈ j72.reqs, r.isWrite = true)) ∧
    ((j73.breset = some brf) ∧
     (j73.rd Field.RAS_STATUS_PHASE = 1) ∧
     (brf.upAt ≤ j73.time)) ∧
    ((j75.breset = some brf) ∧
     (j75.rd Field.RAS_STATUS_PHASE ≠ 6) ∧
     (testFails 6 0 3 false 0 = false)) ∧
    ((j76.breset = some brf) ∧
     (j76.rd Field.RAS_STATUS_PHASE ≠ 6) ∧
     (testFails 1 0 3 false 0 = true)) := by
  repeat' apply And.intro
  all_goals decide +kernel

theorem hyps_FaultsOfTheBlock :
    ((up.ready = true)) ∧
    ((j78.ctx? 0 = some ctx0)) ∧
    ((up.rd Field.RAS_STATUS_PHASE ≠ 0)) ∧
    ((List.find? (fun g => g.idx == 1 && g.seg == 0) j88.moulds.segs = some { idx := 1, gen := 2, seg := 0, pinned := false })) ∧
    ((j89.sheetHit 7 20488 = some leaf0)) ∧
    ((th ∈ j90.xl.tables) ∧
     (th.slot = 7) ∧
     (th.level = 0) ∧
     (th.pre = 0)) ∧
    ((j91.flaskState 4 ≠ flFREE)) ∧
    ((j92.on Field.MC_HTAB_EN = true)) ∧
    ((thw.starts 2 97) ∧
     ((thw.begun 2).thawFails 2 = none)) := by
  repeat' apply And.intro
  all_goals decide +kernel

theorem hyps_MailboxChecksComeFirst :
    ((2 < 16) ∧
     (j93.ready = true) ∧
     (j93.mayStart 2 = true) ∧
     (∀ w ∈ j93.mbox.switches, 2 ∉ w.slots) ∧
     ((Instr.receiptFlush 2, j93.opcode 2) ∈ have y := have y := have y :=
       [(Instr.fwAbort 2, 114), (Instr.powerSetActive 2, 115), (Instr.powerSetDrowse 2, 115), (Instr.powerSetOff 2, 115),
         (Instr.blockReset 2, 116)]; (Instr.migExportBundle 2, 101) :: (Instr.migImportRun 2, 102) ::
       (Instr.migImportBundle 2, 102) :: (Instr.fwStage 2, 112) :: (Instr.fwCommit 2, 113) :: y; have y :=
       (Instr.flaskThaw 2, 97) :: (Instr.migOffer 2, 98) :: (Instr.migAccept 2, 99) :: (Instr.migBind 2, 100) ::
       (Instr.migExportRun 2, 101) :: y; (Instr.faultResumeAbort 2, 67) :: (Instr.peerAttach 2, 80) ::
       (Instr.peerDetachOrderly 2, 81) :: (Instr.peerDetachRemoved 2, 81) :: (Instr.flaskQuench 2, 96) :: y; have y := have y
       := (Instr.mgmtRun 2, 50) :: (Instr.atlasBind 2, 64) :: (Instr.atlasUnbind 2, 65) :: (Instr.atlasInvalidate 2, 66) ::
       (Instr.faultResumeRetry 2, 67) :: y; (Instr.queueResume 2, 33) :: (Instr.queueDestroy 2, 34) ::
       (Instr.pourCancel 2, 35) :: (Instr.mouldLoad 2, 48) :: (Instr.mouldUnload 2, 49) :: y; have y :=
       (Instr.flaskDestroy 2, 19) :: (Instr.legendReq 2, 21) :: (Instr.certGet 2, 22) :: (Instr.receiptFlush 2, 23) ::
       (Instr.queueCreate 2, 32) :: y; (Instr.info 2, 1) :: (Instr.flaskCreate 2, 16) :: (Instr.flaskSeal 2, 17) ::
       (Instr.flaskReset 2, 18) :: y) ∧
     (j93.mbCheck 2 ≠ none)) ∧
    ((2 < 16) ∧
     (j95.ready = true) ∧
     (j95.mayStart 2 = true) ∧
     (∀ w ∈ j95.mbox.switches, 2 ∉ w.slots) ∧
     ((Instr.consent 2, envOp (j95.dieRead (j95.par 2 1) 64)) ∈
       [(Instr.confirm 2, opCONFIRM), (Instr.publicSet 2, opPUBLIC_SET), (Instr.keyImport 2, opKEY_IMPORT),
         (Instr.keyDestroy 2, opKEY_DESTROY), (Instr.consent 2, opCONSENT), (Instr.mouldAllow 2, opMOULD_ALLOW)]) ∧
     (j95.opcode 2 = 20) ∧
     (j95.mbCheck 2 ≠ none)) ∧
    ((2 < 16) ∧
     (j96.ready = true) ∧
     (j96.mayStart 2 = true) ∧
     (∀ w ∈ j96.mbox.switches, 2 ∉ w.slots) ∧
     (opParams (j96.opcode 2) (j96.par 2 0) = none)) := by
  repeat' apply And.intro
  all_goals decide +kernel

end Managed

end Sys2Proof.Tests
end

/-! # Mailbox commands

The mailbox rules that every command of R455 shares: what its start point leaves alone (R450), that its body runs there
(R447), and what its reply writes and leaves alone (R445, R446). -/
namespace Sys2Proof.Laws

open Sys2Proof.Machine

/-! ## Bit fields -/

/-- A bit field reads as what was put into it, cut to its width. -/
theorem bits_setBits_same (v lo w x : Nat) : bits (setBits v lo w x) lo w = x % 2 ^ w := by
  have hlo : 0 < 2 ^ lo := by positivity
  have hcleared : (v - v / 2 ^ lo % 2 ^ w * 2 ^ lo) / 2 ^ lo = 2 ^ w * (v / 2 ^ lo / 2 ^ w) := by
    rw [Nat.mul_comm _ (2 ^ lo), Nat.sub_mul_div]
    have := Nat.div_add_mod (v / 2 ^ lo) (2 ^ w)
    omega
  unfold bits setBits bits
  rw [Nat.add_mul_div_right _ _ hlo, hcleared, Nat.mul_add_mod, Nat.mod_mod]

/-- A bit field that lies within the lowest k bits is kept by a cut to them. -/
theorem bits_mod_two_pow {lo w k : Nat} (v : Nat) (h : lo + w ≤ k) : bits (v % 2 ^ k) lo w = bits v lo w := by
  obtain ⟨d, rfl⟩ := Nat.exists_eq_add_of_le h
  unfold bits
  rw [Nat.add_assoc, Nat.pow_add, Nat.mod_mul_right_div_self, Nat.pow_add, Nat.mod_mul_right_mod]

/-! ## Frames of folds and writes -/

/-- What each step of a fold keeps, the fold keeps. -/
theorem foldl_keeps {α β : Type} (p : State → β) {f : State → α → State} (hf : ∀ t a, p (f t a) = p t) (l : List α)
    (s : State) : p (l.foldl f s) = p s :=
  List.foldlRecOn (motive := fun t => p t = p s) l f rfl fun t ht a _ => (hf t a).trans ht

theorem onlyRegs_refl (s : State) (l : List (Field × Nat)) : onlyRegs s s l := fun _ _ _ => rfl

/-- A write to a listed element. -/
theorem onlyRegs_wr {s t : State} {l : List (Field × Nat)} {f : Field} {i : Nat} (h : onlyRegs s t l) (hm : (f, i) ∈ l)
    (v : Nat) : onlyRegs s (t.wr f v i) l := fun g j hg => by
  have hne : f ≠ g ∨ i ≠ j := by
    by_contra hc
    push Not at hc
    exact hg (hc.1 ▸ hc.2 ▸ hm)
  rw [rd_wr_ne t v hne, h g j hg]

theorem onlyRegs_trans {s t u : State} {l m : List (Field × Nat)} (h : onlyRegs s t l) (h' : onlyRegs t u m) :
    onlyRegs s u (m ++ l) := fun f i hfi => by
  rw [List.mem_append, not_or] at hfi
  rw [h' f i hfi.1, h f i hfi.2]

/-- Memory reads alike where both of its stores are alike. -/
theorem sameMem_of_eq {s t : State} (hh : t.hbm = s.hbm) (hw : t.wbuf = s.wbuf) : sameMem s t := fun a => by
  simp [State.dieByte, State.sysByte, hh, hw]

/-! ## The start point of a command (R450) -/

/-- A seal's claim keeps whatever a write to FL_STATE or to a granule's SEAL keeps. -/
theorem claim_keeps {β : Type} (p : State → β) (hstate : ∀ t v i, p (t.wr .FL_STATE v i) = p t)
    (hseal : ∀ t v i, p (t.wr .SEAL_GRAN_SEAL v i) = p t) (s : State) : p s.claim = p s :=
  foldl_keeps p (fun _ _ => (foldl_keeps p (fun t _ => hseal t _ _) _ _).trans (hstate _ _ _)) _ s

/-- A flask that the claims leave in another state than SEALING is in the state it was in. -/
theorem flaskState_claim (s : State) (f : Nat) (h : s.claim.flaskState f ≠ flSEALING) :
    s.claim.flaskState f = s.flaskState f := by
  have hor : s.claim.flaskState f = flSEALING ∨ s.claim.flaskState f = s.flaskState f := by
    unfold State.claim
    refine List.foldlRecOn (motive := fun t : State => t.flaskState f = flSEALING ∨ t.flaskState f = s.flaskState f) _ _
      (.inr rfl) fun t ht p _ => ?_
    have hseals : ((t.wr .FL_STATE flSEALING p.1).setSeals p.1 (sealedAs (s.sealRuns p.2))).flaskState f =
        (t.wr .FL_STATE flSEALING p.1).flaskState f :=
      foldl_keeps (fun u => u.flaskState f) (fun u _ => rd_wr_ne u _ (.inl (by decide))) _ _
    rw [hseals, State.flaskState, rd_wr]
    split
    · exact .inl rfl
    · exact ht
  exact hor.resolve_left h

/-- A command's start point keeps whatever the slot's own start, a flask's state and a granule's SEAL do not touch. -/
theorem begun_keeps {β : Type} (p : State → β) (hslot : ∀ t n, p (t.takeSlot n) = p t)
    (hstate : ∀ t v i, p (t.wr .FL_STATE v i) = p t) (hseal : ∀ t v i, p (t.wr .SEAL_GRAN_SEAL v i) = p t) (s : State)
    (n : Nat) : p (s.begun n) = p s :=
  (claim_keeps p hstate hseal _).trans (hslot s n)

section
variable (s : State) (n : Nat)

@[simp] theorem begun_nextId : (s.begun n).nextId = s.nextId :=
  begun_keeps State.nextId (fun _ _ => rfl) (fun _ _ _ => rfl) (fun _ _ _ => rfl) s n
@[simp] theorem begun_hbm : (s.begun n).hbm = s.hbm :=
  begun_keeps State.hbm (fun _ _ => rfl) (fun _ _ _ => rfl) (fun _ _ _ => rfl) s n
@[simp] theorem begun_wbuf : (s.begun n).wbuf = s.wbuf :=
  begun_keeps State.wbuf (fun _ _ => rfl) (fun _ _ _ => rfl) (fun _ _ _ => rfl) s n
@[simp] theorem begun_hlp : (s.begun n).hlp = s.hlp :=
  begun_keeps State.hlp (fun _ _ => rfl) (fun _ _ _ => rfl) (fun _ _ _ => rfl) s n
@[simp] theorem begun_qm : (s.begun n).qm = s.qm :=
  begun_keeps State.qm (fun _ _ => rfl) (fun _ _ _ => rfl) (fun _ _ _ => rfl) s n

/-- A command's start point writes the slot states, flask states and SEALs alone. -/
theorem rd_begun {f : Field} (hslot : f ≠ .MB_STATE_STATE) (hstate : f ≠ .FL_STATE) (hseal : f ≠ .SEAL_GRAN_SEAL) (i : Nat) :
    (s.begun n).rd f i = s.rd f i :=
  begun_keeps (fun t => t.rd f i) (fun t _ => rd_wr_ne t _ (.inl hslot.symm)) (fun t _ _ => rd_wr_ne t _ (.inl hstate.symm))
    (fun t _ _ => rd_wr_ne t _ (.inl hseal.symm)) s n

@[simp] theorem par_begun (i : Nat) : (s.begun n).par n i = s.par n i :=
  rd_begun s n (by decide) (by decide) (by decide) _

/-- A flask that is not being reset is not so at a command's start point: a claim makes it SEALING. -/
theorem flaskResetting_begun {f : Nat} (h : s.flaskResetting f = false) : (s.begun n).flaskResetting f = false := by
  have hslot : (s.takeSlot n).flaskState f = s.flaskState f := rd_wr_ne s _ (.inl (by decide))
  by_cases hs : (s.begun n).flaskState f = flSEALING
  · simp [State.flaskResetting, hs, flSEALING, flRESETTING, flDESTROYING]
  · simpa only [State.flaskResetting, State.begun, flaskState_claim _ f hs, hslot] using h

end

/-- A command that comes to its start point runs its body there. -/
theorem mbRun_of_starts {s : State} {n op : Nat} (h : s.starts n op) (body : State → State) :
    s.mbRun n op body = (body (s.begun n)).unclaim := by
  obtain ⟨-, hready, hmay, hop, hcheck, hbusy, hgate⟩ := h
  have hknown : ∃ ms, opParams (s.opcode n) (s.par n 0) = some ms := by
    cases hp : opParams (s.opcode n) (s.par n 0) with
    | none => simp [State.mbCheck, hp] at hcheck
    | some ms => exact ⟨ms, rfl⟩
  obtain ⟨ms, hms⟩ := hknown
  rw [hop] at hms
  simp [State.mbRun, hready, hmay, hms, hop, hcheck, hbusy, hgate, State.begun]

/-! ## The reply (R445, R446) -/

/-- A reply keeps whatever every write of a register keeps. -/
theorem reply_keeps {β : Type} (p : State → β) (hwr : ∀ t f v i, p (t.wr f v i) = p t) (s : State) (n st : Nat)
    (outs : List Nat) : p (s.reply n st outs) = p s := by
  simp only [State.reply, State.setSlot, hwr]
  split <;> simp only [hwr, foldl_keeps p (fun t _ => hwr t _ _ _)]

section
variable (s : State) (n st : Nat) (outs : List Nat)

@[simp] theorem reply_hbm : (s.reply n st outs).hbm = s.hbm := reply_keeps State.hbm (fun _ _ _ _ => rfl) s n st outs
@[simp] theorem reply_wbuf : (s.reply n st outs).wbuf = s.wbuf := reply_keeps State.wbuf (fun _ _ _ _ => rfl) s n st outs
@[simp] theorem reply_qm : (s.reply n st outs).qm = s.qm := reply_keeps State.qm (fun _ _ _ _ => rfl) s n st outs

/-- A reply writes the slot's reply fields alone. -/
theorem onlyRegs_reply (hlen : outs.length ≤ 30) : onlyRegs s (s.reply n st outs) (replyFields n) := by
  have hhead : onlyRegs s ((((s.wr .MB_RPL_STATUS st n).wr .MB_RPL_OPCODE (s.opcode n) n).wr .MB_RPL_TAG
      (s.rd .MB_CMD_TAG n) n).wr .MB_RPL_RLEN outs.length n) (replyFields n) := by
    refine onlyRegs_wr (onlyRegs_wr (onlyRegs_wr (onlyRegs_wr (onlyRegs_refl s _) ?_ _) ?_ _) ?_ _) ?_ _ <;>
      simp [replyFields]
  have houts := List.foldlRecOn (motive := fun t => onlyRegs s t (replyFields n)) (List.range outs.length)
    (fun t i => t.wr .MB_OUT (nth outs i 0) (n * 128 + i)) hhead fun t ht i hi => by
      have hi30 : i < 30 := (List.mem_range.1 hi).trans_le hlen
      exact onlyRegs_wr ht (by simp [replyFields, hi30]) _
  simp only [State.reply, State.setSlot]
  split
  · exact onlyRegs_wr (onlyRegs_wr houts (by simp [replyFields]) _) (by simp [replyFields]) _
  · exact onlyRegs_wr houts (by simp [replyFields]) _

@[simp] theorem guardOf_reply (q : Nat) : (s.reply n st outs).guardOf q = s.guardOf q := by simp [State.guardOf]
@[simp] theorem fetchesOf_reply (q : Nat) : (s.reply n st outs).fetchesOf q = s.fetchesOf q := by simp [State.fetchesOf]

/-- A register that is not among a slot's reply fields reads as before its reply. -/
theorem rd_reply_nil {f : Field} {i : Nat} (h : (f, i) ∉ replyFields n) : (s.reply n st).rd f i = s.rd f i :=
  onlyRegs_reply s n st [] (by simp) f i h

/-- A slot is in the state to which it goes. -/
theorem slotState_setSlot {n : Nat} (hn : n < 16) (v : Nat) : (s.setSlot n v).slotState n = v % 4 := by
  have hwidth : Field.MB_STATE_STATE.row.width = 32 := rfl
  rw [State.slotState, State.setSlot, rd_wr_same, hwidth, bits_mod_two_pow _ (by omega), bits_setBits_same]
  rfl

/-- A reply leaves its slot DONE with its status. -/
theorem replied_reply {n st : Nat} (hn : n < 16) (hst : st < 2 ^ 16) : (s.reply n st outs).replied n st := by
  refine ⟨slotState_setSlot _ hn mbDONE, ?_⟩
  have houts (t : State) : ((List.range outs.length).foldl (fun t i => t.wr .MB_OUT (nth outs i 0) (n * 128 + i)) t).rd
      .MB_RPL_STATUS n = t.rd .MB_RPL_STATUS n :=
    foldl_keeps (fun t => t.rd .MB_RPL_STATUS n) (fun t _ => rd_wr_ne t _ (.inl (by decide))) _ t
  have hwidth : Field.MB_RPL_STATUS.row.width = 16 := rfl
  simp only [State.reply, State.setSlot]
  split <;> simpa [rd_wr, houts, hwidth] using hst

end

/-! ## The drop of a stale item (R489) -/

section
variable (s : State) (k : StaleKind) (id seen now : Nat)

@[simp] theorem stale_hbm : (s.stale k id seen now).hbm = s.hbm := rfl
@[simp] theorem stale_wbuf : (s.stale k id seen now).wbuf = s.wbuf := rfl
@[simp] theorem stale_qm : (s.stale k id seen now).qm = s.qm := rfl

theorem onlyRegs_stale : onlyRegs s (s.stale k id seen now) (staleFields k) := by
  refine onlyRegs_wr (onlyRegs_wr (onlyRegs_wr (onlyRegs_wr (onlyRegs_wr (onlyRegs_refl s _) ?_ _) ?_ _) ?_ _) ?_ _) ?_ _ <;>
    simp [staleFields]

/-- The counter of its kind advances by 1. -/
theorem counts_stale : s.counts (s.stale k id seen now) k.field := by
  have hne : k.field ≠ .STALE_LAST_KIND ∧ k.field ≠ .STALE_LAST_ID ∧ k.field ≠ .STALE_LAST_GEN_SEEN ∧
      k.field ≠ .STALE_LAST_GEN_NOW := by cases k <;> decide
  obtain ⟨hkind, hid, hseen, hnow⟩ := hne
  rw [State.counts, State.stale, rd_wr_ne _ _ (.inl hnow.symm), rd_wr_ne _ _ (.inl hseen.symm), rd_wr_ne _ _ (.inl hid.symm),
    rd_wr_ne _ _ (.inl hkind.symm), rd_bump_same]

end

end Sys2Proof.Laws

/-! # QUEUE_RESUME

QUEUE_RESUME (R71): its three outcomes, and the read of slot HEAD that it issues. -/
namespace Sys2Proof.Laws

open Sys2Proof.Machine

/-! ## The read of a slot (R60) -/

section
variable (s : State) (q i seq : Nat) (reread : Bool)

@[simp] theorem issueFetch_hbm : (s.issueFetch q i seq reread).hbm = s.hbm := by
  simp only [State.issueFetch]; split <;> rfl
@[simp] theorem issueFetch_wbuf : (s.issueFetch q i seq reread).wbuf = s.wbuf := by
  simp only [State.issueFetch]; split <;> rfl
@[simp] theorem rd_issueFetch (f : Field) (j : Nat) : (s.issueFetch q i seq reread).rd f j = s.rd f j := by
  simp only [State.issueFetch]; split <;> rfl

/-- The read joins the reads under way, under the next identifier, and nothing else of the queue manager changes. -/
@[simp] theorem issueFetch_qm : (s.issueFetch q i seq reread).qm =
    { s.qm with fetches := s.qm.fetches ++ [{ id := s.nextId, queue := q, slot := i, seq := seq, reread := reread }] } := by
  simp only [State.issueFetch]; split <;> rfl

end

/-! ## The outcomes of QUEUE_RESUME -/

/-- Queue q back in ACTIVE, with neither an error, nor a race guard, nor a read under way. -/
def resumed (s : State) (q : Nat) : State :=
  ((((s.wr .QCTX_ERR_CODE 0 q).wr .QCTX_ERR_IDX 0 q).wr .QCTX_STATE qACTIVE q).dropGuard q).dropFetches q

/-- Slot HEAD of queue q is read where the queue can be read and the slot holds an entry. -/
def readHead (s : State) (q : Nat) : State :=
  if s.mayFetch q && s.rd .QCTX_TAIL q != s.rd .QCTX_HEAD q then
    s.issueFetch q (s.rd .QCTX_HEAD q) (s.rd .QCTX_NEXT q) false
  else s

section
variable {s : State} {n : Nat}

theorem queueResume_of_stale (h : s.qrefOk n = false) :
    s.queueResume n = (s.staleQueue (s.qref n).1 (s.qref n).2).reply n stSTATE := by
  simp [State.queueResume, h]

theorem queueResume_of_not_error (h : s.qrefOk n = true) (hq : s.qState (s.qref n).1 ≠ qERROR) :
    s.queueResume n = s.reply n stSTATE := by
  simp [State.queueResume, h, hq]

theorem queueResume_of_error (h : s.qrefOk n = true) (hq : s.qState (s.qref n).1 = qERROR) :
    s.queueResume n = (readHead (resumed s (s.qref n).1) (s.qref n).1).reply n stOK := by
  simp [State.queueResume, h, hq, readHead, resumed]

end

section
variable (s : State) (q : Nat)

@[simp] theorem resumed_hbm : (resumed s q).hbm = s.hbm := rfl
@[simp] theorem resumed_wbuf : (resumed s q).wbuf = s.wbuf := rfl
@[simp] theorem resumed_hlp : (resumed s q).hlp = s.hlp := rfl
@[simp] theorem resumed_nextId : (resumed s q).nextId = s.nextId := rfl
@[simp] theorem fetchesOf_resumed : (resumed s q).fetchesOf q = [] := by
  simp [State.fetchesOf, resumed, State.dropFetches]
@[simp] theorem guardOf_resumed : (resumed s q).guardOf q = none := by
  simp [State.guardOf, resumed, State.dropFetches, State.dropGuard]

/-- The registers after the return to ACTIVE are those of its three writes. -/
theorem rd_resumed (f : Field) (i : Nat) : (resumed s q).rd f i =
    (((s.wr .QCTX_ERR_CODE 0 q).wr .QCTX_ERR_IDX 0 q).wr .QCTX_STATE qACTIVE q).rd f i := rfl

theorem rd_resumed_of_ne {f : Field} (hcode : f ≠ .QCTX_ERR_CODE) (hidx : f ≠ .QCTX_ERR_IDX) (hstate : f ≠ .QCTX_STATE)
    (i : Nat) : (resumed s q).rd f i = s.rd f i := by
  rw [rd_resumed, rd_wr_ne _ _ (.inl hstate.symm), rd_wr_ne _ _ (.inl hidx.symm), rd_wr_ne _ _ (.inl hcode.symm)]

@[simp] theorem qState_resumed : (resumed s q).qState q = qACTIVE := rd_wr_same _ .QCTX_STATE qACTIVE q
@[simp] theorem rd_resumed_errCode : (resumed s q).rd .QCTX_ERR_CODE q = 0 := by simp [rd_resumed, rd_wr]
@[simp] theorem rd_resumed_errIdx : (resumed s q).rd .QCTX_ERR_IDX q = 0 := by simp [rd_resumed, rd_wr]

theorem onlyRegs_resumed : onlyRegs s (resumed s q) [(.QCTX_STATE, q), (.QCTX_ERR_CODE, q), (.QCTX_ERR_IDX, q)] := by
  intro f i hfi
  rw [rd_resumed]
  refine onlyRegs_wr (onlyRegs_wr (onlyRegs_wr (onlyRegs_refl s _) ?_ _) ?_ _) ?_ _ f i hfi <;> simp

@[simp] theorem readHead_hbm : (readHead s q).hbm = s.hbm := by unfold readHead; split <;> simp
@[simp] theorem readHead_wbuf : (readHead s q).wbuf = s.wbuf := by unfold readHead; split <;> simp
@[simp] theorem rd_readHead (f : Field) (i : Nat) : (readHead s q).rd f i = s.rd f i := by unfold readHead; split <;> simp
@[simp] theorem guardOf_readHead (r : Nat) : (readHead s q).guardOf r = s.guardOf r := by
  unfold readHead; split <;> simp [State.guardOf]

/-- The read of slot HEAD is the queue's newest. -/
theorem fetchesOf_readHead (hmay : s.mayFetch q = true) (hne : s.rd .QCTX_TAIL q ≠ s.rd .QCTX_HEAD q) :
    (readHead s q).fetchesOf q = s.fetchesOf q ++
      [{ id := s.nextId, queue := q, slot := s.rd .QCTX_HEAD q, seq := s.rd .QCTX_NEXT q, reread := false }] := by
  simp [readHead, hmay, hne, State.fetchesOf]

end

/-- A queue that has returned to ACTIVE can be read where its flask's admission runs and its ring can be reached. -/
theorem mayFetch_resumed {s : State} {q : Nat} (hready : s.ready = true) (hawake : s.drowse = false)
    (hflask : s.admitStopped (s.rd .QCTX_FLASK q) = false) (hring : s.rd .QCTX_LOC q = 0 ∨ s.mayIssueHost false = true) :
    (resumed s q).mayFetch q = true := by
  have hready' : (resumed s q).ready = s.ready := by simp [State.ready, rd_resumed_of_ne]
  have hawake' : (resumed s q).drowse = s.drowse := by simp [State.drowse, rd_resumed_of_ne]
  have hflask' (f : Nat) : (resumed s q).admitStopped f = s.admitStopped f := by
    simp [State.admitStopped, State.flaskResetting, State.flaskState, rd_resumed_of_ne]
  have hring' : (resumed s q).mayIssueHost false = s.mayIssueHost false := by
    simp [State.mayIssueHost, State.headless, State.on, rd_resumed_of_ne]
  simp [State.mayFetch, hready', hawake', hflask', hring', rd_resumed_of_ne, hready, hawake, hflask, hring]

/-- A flask whose admission runs keeps it at a command's start point. -/
theorem admitStopped_begun {s : State} {f : Nat} (n : Nat) (h : s.admitStopped f = false) :
    (s.begun n).admitStopped f = false := by
  rw [State.admitStopped, Bool.or_eq_false_iff] at h ⊢
  exact ⟨by rw [rd_begun s n (by decide) (by decide) (by decide)]; exact h.1, flaskResetting_begun s n h.2⟩

theorem mayIssueHost_begun (s : State) (n : Nat) (posted : Bool) :
    (s.begun n).mayIssueHost posted = s.mayIssueHost posted := by
  simp [State.mayIssueHost, State.headless, State.on, rd_begun]

/-- What lets a queue be read before its command starts lets it be read once the command's body has made it ACTIVE. -/
theorem mayFetch_resumed_begun {s : State} {q : Nat} (n : Nat) (hready : s.ready = true) (hawake : s.drowse = false)
    (hflask : s.admitStopped (s.rd .QCTX_FLASK q) = false) (hring : s.rd .QCTX_LOC q = 0 ∨ s.mayIssueHost false = true) :
    (resumed (s.begun n) q).mayFetch q = true := by
  apply mayFetch_resumed
  · simpa [State.ready, rd_begun] using hready
  · simpa [State.drowse, rd_begun] using hawake
  · rw [rd_begun s n (by decide) (by decide) (by decide)]
    exact admitStopped_begun n hflask
  · rwa [rd_begun s n (by decide) (by decide) (by decide), mayIssueHost_begun]

/-- QUEUE_RESUME that starts goes on by its body at its start point. -/
theorem answers_queueResume {s : State} {n : Nat} {P : State → Prop} (h : s.starts n 0x21)
    (hP : P ((s.begun n).queueResume n)) : answers (.queueResume n) s P :=
  ⟨_, congrArg s.after (mbRun_of_starts h fun t => t.queueResume n), hP⟩

/-- Settles O23: each of the three outcomes of R71 is the reply to a state whose registers and reads are known. -/
theorem queueResumeLeavesError : Obligations.QueueResumeLeavesError := by
  intro s n hs b q gen
  have ⟨hn, hready, _⟩ := hs
  have hrd {f : Field} (h1 : f ≠ .MB_STATE_STATE) (h2 : f ≠ .FL_STATE) (h3 : f ≠ .SEAL_GRAN_SEAL) (i : Nat) :
      b.rd f i = s.rd f i := rd_begun s n h1 h2 h3 i
  have hmem {u : State} (hh : u.hbm = b.hbm) (hw : u.wbuf = b.wbuf) : sameMem s u :=
    sameMem_of_eq (hh.trans (begun_hbm s n)) (hw.trans (begun_wbuf s n))
  have hqref : b.qref n = (q, gen) := by simp only [State.qref, b, par_begun, q, gen]
  have hok : b.qrefOk n = (gen == s.rd .QCTX_GEN q) := by
    rw [State.qrefOk, hqref, hrd (by decide) (by decide) (by decide)]
  have hstate : b.qState (b.qref n).1 = s.qState q := by
    rw [hqref]; exact hrd (by decide) (by decide) (by decide) q
  refine ⟨fun hgen => answers_queueResume hs ?stale, fun hgen hq => answers_queueResume hs ?state,
    fun hgen hq => answers_queueResume hs ?error⟩
  case stale =>
    rw [queueResume_of_stale (hok.trans (by simpa using hgen)), hqref]
    refine ⟨hmem (reply_hbm _ _ _ _) (reply_wbuf _ _ _ _), replied_reply _ _ hn (by decide), ?_,
      (reply_qm _ _ _ _).trans (begun_qm s n),
      onlyRegs_trans (onlyRegs_stale b .queue q gen _) (onlyRegs_reply _ n _ _ (by simp))⟩
    have hcount : b.counts (b.staleQueue q gen) .STALE_DROP_QUEUE := counts_stale b .queue q gen _
    rw [State.counts] at hcount ⊢
    rw [rd_reply_nil _ _ _ (by simp [replyFields]), hcount, hrd (by decide) (by decide) (by decide)]
  case state =>
    rw [queueResume_of_not_error (hok.trans (by simpa using hgen)) (hstate ▸ hq)]
    exact ⟨hmem (reply_hbm _ _ _ _) (reply_wbuf _ _ _ _), replied_reply _ _ hn (by decide),
      (reply_qm _ _ _ _).trans (begun_qm s n), onlyRegs_reply _ n _ _ (by simp)⟩
  case error =>
    rw [queueResume_of_error (hok.trans (by simpa using hgen)) (hstate.trans hq), hqref]
    have hreg {f : Field} (hf : (f, q) ∉ replyFields n) :
        ((readHead (resumed b q) q).reply n stOK).rd f q = (resumed b q).rd f q := by
      rw [rd_reply_nil _ _ _ hf, rd_readHead]
    refine ⟨hmem (by simp) (by simp), replied_reply _ _ hn (by decide),
      (hreg (by simp [replyFields])).trans (qState_resumed b q), (hreg (by simp [replyFields])).trans (rd_resumed_errCode b q),
      (hreg (by simp [replyFields])).trans (rd_resumed_errIdx b q), by simp, ?fetch, ?frame⟩
    case fetch =>
      intro hawake hflask hring hne
      have hmay : (resumed b q).mayFetch q = true := mayFetch_resumed_begun n hready hawake hflask hring
      have hne' : (resumed b q).rd .QCTX_TAIL q ≠ (resumed b q).rd .QCTX_HEAD q := by
        simpa [rd_resumed_of_ne, hrd] using hne
      rw [fetchesOf_reply, fetchesOf_readHead _ _ hmay hne']
      simp [rd_resumed_of_ne, hrd, b]
    case frame =>
      have hread : onlyRegs b (readHead (resumed b q) q) [(.QCTX_STATE, q), (.QCTX_ERR_CODE, q), (.QCTX_ERR_IDX, q)] :=
        fun f i hfi => (rd_readHead _ q f i).trans (onlyRegs_resumed b q f i hfi)
      exact onlyRegs_trans hread (onlyRegs_reply _ n _ _ (by simp))

end Sys2Proof.Laws

/-! # Event completions

A completion of an event (R362, R370), by a host thread or by a management core: whether it names a delivery in service,
what it leaves when it does, and what is reported when it does not. -/
namespace Sys2Proof.Laws

open Sys2Proof.Machine

/-! ## Bits beside a bit field -/

/-- A value with a bit field replaced, by its bits above, in and below the field. -/
theorem setBits_eq (v lo w x : Nat) :
    setBits v lo w x = 2 ^ lo * (2 ^ w * (v / 2 ^ lo / 2 ^ w) + x % 2 ^ w) + v % 2 ^ lo := by
  have hv := Nat.div_add_mod v (2 ^ lo)
  have hfield := congrArg (2 ^ lo * ·) (Nat.div_add_mod (v / 2 ^ lo) (2 ^ w))
  simp only [Nat.mul_add] at hfield
  rw [setBits, bits, Nat.mul_add, Nat.mul_comm _ (2 ^ lo), Nat.mul_comm _ (2 ^ lo)]
  omega

/-- A bit field keeps its value where another one that shares no bit with it is replaced. -/
theorem bits_setBits_disjoint (v x : Nat) {lo w lo' w' : Nat} (h : lo' + w' ≤ lo ∨ lo + w ≤ lo') :
    bits (setBits v lo w x) lo' w' = bits v lo' w' := by
  rcases h with hbelow | habove
  · have hlow : setBits v lo w x % 2 ^ lo = v % 2 ^ lo := by
      rw [setBits_eq, Nat.mul_add_mod, Nat.mod_mod]
    rw [← bits_mod_two_pow _ hbelow, hlow, bits_mod_two_pow _ hbelow]
  · have hhigh : setBits v lo w x / 2 ^ lo / 2 ^ w = v / 2 ^ lo / 2 ^ w := by
      have hlow : v % 2 ^ lo < 2 ^ lo := Nat.mod_lt _ (by positivity)
      have hfield : x % 2 ^ w < 2 ^ w := Nat.mod_lt _ (by positivity)
      rw [setBits_eq, Nat.mul_add_div (by positivity), Nat.div_eq_of_lt hlow, Nat.add_zero,
        Nat.mul_add_div (by positivity), Nat.div_eq_of_lt hfield, Nat.add_zero]
    obtain ⟨d, rfl⟩ := Nat.exists_eq_add_of_le habove
    simp only [bits, Nat.pow_add, ← Nat.div_div_eq_div_mul, hhigh]

/-- A cleared bit reads 0, and every other bit as before. -/
theorem bit_setBits_zero (v p k : Nat) : bit (setBits v p 1 0) k = if k = p then false else bit v k := by
  split
  · next h => simp [bit, h, bits_setBits_same]
  · next h => rw [bit, bits_setBits_disjoint v 0 (by omega), bit]

/-- A bit below a cut is kept by it. -/
theorem bit_mod_two_pow (v : Nat) {k w : Nat} (h : k < w) : bit (v % 2 ^ w) k = bit v k := by
  rw [bit, bits_mod_two_pow v h, bit]

/-! ## The line of a level source (R357, R361) -/

/-- A unit's line does not move at a write to a field outside its error register. -/
theorem line_wr (s : State) {f : Field} {unit : Nat} (v i : Nat) (h : f ∉ errFields unit) :
    (s.wr f v i).line unit = s.line unit := by
  rw [Bool.eq_iff_iff]
  simp only [State.line, List.any_eq_true, State.on]
  refine exists_congr fun g => and_congr_right fun hg => ?_
  have hne : f ≠ g := fun e => h (e ▸ hg)
  rw [rd_wr_ne s v (.inl hne)]

section
variable (s : State) (unit : Nat)

theorem rd_followLine_same : (s.followLine unit).rd .EV_SRC_PENDING (0x3F00 + unit) =
    b2n (s.line unit && !s.on .EV_SRC_ACTIVE (0x3F00 + unit)) := by
  rw [State.followLine, rd_wr_same]
  exact Nat.mod_eq_of_lt (by unfold b2n; split <;> decide)

theorem rd_followLine_ne {f : Field} {i : Nat} (h : .EV_SRC_PENDING ≠ f ∨ 0x3F00 + unit ≠ i) :
    (s.followLine unit).rd f i = s.rd f i := rd_wr_ne s _ h

end

/-! ## A completion that names a delivery in service (R362) -/

/-- The value v names a source in service, with the TARGET and the DELIV of its delivery. -/
def namesDelivery (s : State) (v : Nat) : Prop :=
  s.on .EV_SRC_ACTIVE (bits v 0 14) = true ∧ s.rd .EV_SRC_TARGET (bits v 0 14) = bits v 16 9 ∧
  s.rd .EV_SRC_DELIV (bits v 0 14) = bits v 32 16

/-- Source n is out of service, and target g no longer serves the priority of its delivery. -/
def outOfService (s : State) (n g : Nat) : State :=
  (s.wr .EV_SRC_ACTIVE 0 n).wr .EV_THRESH_INSVC (setBits (s.rd .EV_THRESH_INSVC g) (s.rd .EV_SRC_DPRIO n) 1 0) g

/-- Source n is out of service, and its line, for a level source, has been sampled. -/
def completed (s : State) (n g : Nat) : State :=
  if isLevel n then (outOfService s n g).followLine (n - 0x3F00) else outOfService s n g

theorem complete_of_names {s : State} {v : Nat} (h : namesDelivery s v) :
    s.complete v = completed s (bits v 0 14) (bits v 16 9) := by
  obtain ⟨hactive, htarget, hdeliv⟩ := h
  simp [State.complete, hactive, htarget, hdeliv, completed, outOfService]

section
variable (s : State) (n g : Nat)

@[simp] theorem rd_outOfService_active : (outOfService s n g).rd .EV_SRC_ACTIVE n = 0 := by simp [outOfService, rd_wr]

theorem rd_outOfService_ne {f : Field} (hactive : f ≠ .EV_SRC_ACTIVE) (hinsvc : f ≠ .EV_THRESH_INSVC) (i : Nat) :
    (outOfService s n g).rd f i = s.rd f i := by
  rw [outOfService, rd_wr_ne _ _ (.inl hinsvc.symm), rd_wr_ne _ _ (.inl hactive.symm)]

/-- The target no longer serves the delivery's priority, and serves every other one as before. -/
theorem bit_outOfService_insvc {k : Nat} (hk : k < Field.EV_THRESH_INSVC.row.width) :
    bit ((outOfService s n g).rd .EV_THRESH_INSVC g) k =
      if k = s.rd .EV_SRC_DPRIO n then false else bit (s.rd .EV_THRESH_INSVC g) k := by
  rw [outOfService, rd_wr_same, bit_mod_two_pow _ hk, bit_setBits_zero]

/-- No unit's error register holds ACTIVE or INSVC, so no line moves. -/
theorem line_outOfService {unit : Nat} (h : unit ∈ errUnits) : (outOfService s n g).line unit = s.line unit := by
  have hfields : ∀ u ∈ errUnits, .EV_SRC_ACTIVE ∉ errFields u ∧ .EV_THRESH_INSVC ∉ errFields u := by decide
  obtain ⟨hactive, hinsvc⟩ := hfields unit h
  rw [outOfService, line_wr _ _ _ hinsvc, line_wr _ _ _ hactive]

theorem onlyRegs_outOfService {l : List (Field × Nat)} (hactive : (.EV_SRC_ACTIVE, n) ∈ l)
    (hinsvc : (.EV_THRESH_INSVC, g) ∈ l) : onlyRegs s (outOfService s n g) l :=
  onlyRegs_wr (onlyRegs_wr (onlyRegs_refl s l) hactive _) hinsvc _

theorem completed_of_edge {n : Nat} (h : n < 0x3F00) : completed s n g = outOfService s n g := by
  simp [completed, isLevel, h]

theorem completed_of_level {n : Nat} (h : 0x3F00 ≤ n) :
    completed s n g = (outOfService s n g).followLine (n - 0x3F00) := by
  simp [completed, isLevel, h]

/-- The sample of the line concerns PENDING alone. -/
theorem rd_completed {f : Field} (h : f ≠ .EV_SRC_PENDING) (i : Nat) :
    (completed s n g).rd f i = (outOfService s n g).rd f i := by
  unfold completed
  split
  · exact rd_followLine_ne _ _ (.inl h.symm)
  · rfl

theorem rd_completed_pending_of_edge {n : Nat} (h : n < 0x3F00) (i : Nat) :
    (completed s n g).rd .EV_SRC_PENDING i = s.rd .EV_SRC_PENDING i := by
  rw [completed_of_edge s g h, rd_outOfService_ne s n g (by decide) (by decide)]

/-- A level source that leaves service is pending again exactly where its line is high. -/
theorem rd_completed_pending_of_level {n : Nat} (h : 0x3F00 ≤ n) (hunit : n - 0x3F00 ∈ errUnits) :
    (completed s n g).rd .EV_SRC_PENDING n = if s.line (n - 0x3F00) = true then 1 else 0 := by
  have hn : 0x3F00 + (n - 0x3F00) = n := Nat.add_sub_cancel' h
  have hsample := rd_followLine_same (outOfService s n g) (n - 0x3F00)
  rw [hn, line_outOfService s n g hunit] at hsample
  rw [completed_of_level s g h, hsample]
  simp [State.on, b2n]

theorem onlyRegs_completed : onlyRegs s (completed s n g)
    ([(.EV_SRC_ACTIVE, n), (.EV_THRESH_INSVC, g)] ++ if 0x3F00 ≤ n then [(.EV_SRC_PENDING, n)] else []) := by
  rcases Nat.lt_or_ge n 0x3F00 with hedge | hlevel
  · rw [completed_of_edge s g hedge]
    exact onlyRegs_outOfService s n g (by simp) (by simp)
  · rw [completed_of_level s g hlevel, State.followLine, Nat.add_sub_cancel' hlevel]
    exact onlyRegs_wr (onlyRegs_outOfService s n g (by simp) (by simp)) (by simp [hlevel]) _

end

/-! ## A completion that names none (R370) -/

/-- A completion is dropped, reported and counted. -/
def completionDropped (s : State) : State := (s.wr .EV_ERR_BAD_COMPL 1).bump .EV_STATS_BAD_COMPL

theorem complete_of_not_names {s : State} {v : Nat} (h : ¬ namesDelivery s v) : s.complete v = completionDropped s := by
  simp only [State.complete, completionDropped]
  refine if_neg fun hc => h ?_
  simpa [namesDelivery, and_assoc] using hc

section
variable (s : State)

theorem rd_completionDropped_badCompl : (completionDropped s).rd .EV_ERR_BAD_COMPL = 1 := by
  rw [completionDropped, rd_bump_ne _ _ (.inl (by decide)), rd_wr_same]
  rfl

theorem counts_completionDropped : s.counts (completionDropped s) .EV_STATS_BAD_COMPL := by
  rw [State.counts, completionDropped, rd_bump_same, rd_wr_ne _ _ (.inl (by decide))]

theorem onlyRegs_completionDropped :
    onlyRegs s (completionDropped s) [(.EV_ERR_BAD_COMPL, 0), (.EV_STATS_BAD_COMPL, 0)] :=
  onlyRegs_wr (onlyRegs_wr (onlyRegs_refl s _) (by simp) _) (by simp) _

end

/-! ## The two commands that carry a completion -/

section
variable (s : State) (v : Nat)

/-- A completion keeps whatever every write of a register keeps. -/
theorem complete_keeps {β : Type} (p : State → β) (hwr : ∀ t f v i, p (t.wr f v i) = p t) :
    p (s.complete v) = p s := by
  by_cases h : namesDelivery s v
  · rw [complete_of_names h, completed]
    split <;> simp only [State.followLine, outOfService, hwr]
  · simp only [complete_of_not_names h, completionDropped, State.bump, hwr]

@[simp] theorem complete_hbm : (s.complete v).hbm = s.hbm := complete_keeps s v State.hbm fun _ _ _ _ => rfl
@[simp] theorem complete_wbuf : (s.complete v).wbuf = s.wbuf := complete_keeps s v State.wbuf fun _ _ _ _ => rfl
@[simp] theorem complete_sent : (s.complete v).sent = s.sent := complete_keeps s v State.sent fun _ _ _ _ => rfl

end

/-- Closing a command changes no byte that the die port returns. -/
@[simp] theorem dieByte_close (s t : State) (a : Nat) : (s.close t).dieByte a = t.dieByte a := by
  rw [State.dieByte, close_wbuf, sysByte_close, State.dieByte]

theorem sameMem_close {s t : State} (h : sameMem s t) : sameMem s (s.close t) := fun a => by simpa using h a

/-- The host's command and the management core's make the same completion, and differ in the credit that goes back to the
host. -/
theorem does_completion {s : State} {v : Nat} {P : State → Prop} (hready : s.ready = true)
    (hP : ∀ t, sameMem s t → (∀ f i, t.rd f i = (s.complete v).rd f i) → P t) :
    does (.eventCompletion v) s (fun t => P t ∧ t.sent = .poolCredit .event :: s.sent) ∧
    does (.eventMcomplWrite 8 v) s (fun t => P t ∧ t.sent = s.sent) := by
  have hhost : exec (.eventCompletion v) s = .next (s.close ((s.complete v).giveCredit .event)) := by
    simp [exec, execEventCompletion, State.done, hready]
  have hmgmt : exec (.eventMcomplWrite 8 v) s = .next (s.close (s.complete v)) := by
    simp [exec, execEventMcomplWrite, State.done, State.mcompl, State.inReset, hready]
  have hmem : sameMem s (s.complete v) := sameMem_of_eq (complete_hbm s v) (complete_wbuf s v)
  refine ⟨⟨_, hhost, hP _ (sameMem_close hmem) fun f i => ?_, ?_⟩, ⟨_, hmgmt, hP _ (sameMem_close hmem) fun f i => ?_, ?_⟩⟩
  · rw [rd_close, State.giveCredit, rd_say]
  · rw [close_sent, State.giveCredit, say_sent, complete_sent]
  · rw [rd_close]
  · rw [close_sent, complete_sent]

/-- Settles O46 (R362, R370): a completion that names a delivery in service takes its source out of service and samples
its line; any other is dropped, reported and counted. -/
theorem completionEndsTheDelivery : Obligations.CompletionEndsTheDelivery := by
  intro s v hready n g names ends dropped
  refine ⟨fun hnames => does_completion (P := ends) hready fun t hmem hrd => ?applied,
    fun hother => does_completion (P := dropped) hready fun t hmem hrd => ?refused⟩
  case applied =>
    rw [complete_of_names hnames] at hrd
    refine ⟨hmem, ?active, fun k hk => ?insvc, fun hedge => ?edge, fun hlevel hunit => ?level, fun f i hfi => ?frame⟩
    case active => rw [hrd, rd_completed _ _ _ (by decide), rd_outOfService_active]
    case insvc => rw [hrd, rd_completed _ _ _ (by decide), bit_outOfService_insvc _ _ _ hk]
    case edge => rw [hrd, rd_completed_pending_of_edge _ _ hedge]
    case level => rw [hrd, rd_completed_pending_of_level _ _ hlevel hunit]
    case frame => rw [hrd, onlyRegs_completed _ _ _ f i hfi]
  case refused =>
    rw [complete_of_not_names hother] at hrd
    refine ⟨hmem, ?error, ?count, fun f i hfi => ?frame⟩
    case error => rw [hrd, rd_completionDropped_badCompl]
    case count => rw [State.counts, hrd, counts_completionDropped]
    case frame => rw [hrd, onlyRegs_completionDropped _ f i hfi]

end Sys2Proof.Laws

/-! # Steps

What every command shares: it leaves the block in the state in which State.close leaves it, unless it is the one form that
faults; and so what every step keeps. -/
namespace Sys2Proof.Laws

open Sys2Proof.Machine

/-! ## The outcome of a command -/

/-- A command closes its own effect, but for an engine's store beyond HBM, which faults. -/
theorem exec_closes_or_faults (c : Instr) (s : State) :
    (∃ u, exec c s = .next (s.close u)) ∨
    (∃ ctl x cells, c = .hbmWriteAccept ctl (.engine x cells) ∧ (∃ p ∈ cells, hbmSize ≤ p.1) ∧
      exec c s = .fault .outsideHbm) := by
  cases c
  case hbmWriteAccept ctl src =>
    cases src with
    | entry id => exact .inl ⟨_, rfl⟩
    | engine x cells =>
      by_cases hout : cells.any (fun p => decide (hbmSize ≤ p.1)) = true
      · refine .inr ⟨ctl, x, cells, rfl, by simpa using hout, ?_⟩
        simp only [exec, execHbmWriteAccept, hout, if_true]
      · refine .inl ⟨(s.hbmAcceptEngine ctl x cells).settle, ?_⟩
        simp only [exec, execHbmWriteAccept, hout, State.after, State.done]
        rfl
  case commitMarkerAnswer ctl src => cases src <;> exact .inl ⟨_, rfl⟩
  all_goals exact .inl ⟨_, rfl⟩

/-- What a command that goes on leaves is its closed effect. -/
theorem eq_close_of_exec {c : Instr} {s t : State} (h : exec c s = .next t) : ∃ u, t = s.close u := by
  rcases exec_closes_or_faults c s with ⟨u, hu⟩ | ⟨ctl, x, cells, -, -, hfault⟩
  · exact ⟨u, by simpa [hu] using h.symm⟩
  · simp [hfault] at h

/-- Settles O1: a step takes the front of the queue and runs it. -/
theorem stepRunsFrontCommand : Obligations.StepRunsFrontCommand := fun _ _ _ => rfl

/-- Settles O2: every command ends in State.close, which puts the queue back as it was. -/
theorem queueOfCommands : Obligations.QueueOfCommands := by
  refine ⟨fun c s t h => ?_, fun s hidle => ?_⟩
  · obtain ⟨u, rfl⟩ := eq_close_of_exec h
    exact pending_close s u
  · simp only [step, hidle]

/-- Settles O3: the arms of exec all close an effect, but for the one that faults. -/
theorem everyCommandGoesOn : Obligations.EveryCommandGoesOn := fun c s =>
  (exec_closes_or_faults c s).imp_left fun ⟨_, hu⟩ => ⟨_, hu⟩

/-! ## The copies of the timebase (R16) -/

theorem foldl_max_le_iff (l : List Nat) (b c : Nat) : l.foldl max b ≤ c ↔ b ≤ c ∧ ∀ x ∈ l, x ≤ c := by
  induction l generalizing b with
  | nil => simp
  | cons x l ih => simp [ih, and_assoc]

/-- A domain's copy of the timebase shows what one of its lags within the bound gives. -/
theorem copyAt_le_iff (d : Domain) (t c : Nat) : d.copyAt t ≤ c ↔
    ∀ k ≤ d.lag, t - k - (Config.timebaseLag d.code (t - k)).toNat % (d.lag + 1) ≤ c := by
  simp [Domain.copyAt, foldl_max_le_iff]

/-- A domain's copy never runs back: a time within its bound of the later moment still counts there, and an earlier one is
below anything that the later moment can show. -/
theorem copyAt_mono (d : Domain) {t t' : Nat} (h : t ≤ t') : d.copyAt t ≤ d.copyAt t' := by
  rw [copyAt_le_iff]
  intro k hk
  have hshown := (copyAt_le_iff d t' _).1 le_rfl
  by_cases hnear : t' ≤ t - k + d.lag
  · have hsame := hshown (t' - (t - k)) (by omega)
    rwa [show t' - (t' - (t - k)) = t - k by omega] at hsame
  · have hnow := hshown 0 (Nat.zero_le _)
    have hcut : _ < d.lag + 1 := Nat.mod_lt (Config.timebaseLag d.code (t' - 0)).toNat d.lag.succ_pos
    omega

theorem clock_mono {s t : State} (h : s.time ≤ t.time) (d : Domain) : s.clock d ≤ t.clock d := copyAt_mono d h

/-- Settles O4 (R16): a command ends with both stores in canonical form and never moves the timebase back; the idle step
touches neither store. -/
theorem everyStepKeepsInvariant : Obligations.EveryStepKeepsInvariant := by
  intro s t hstep
  have hkept : (s.Inv → t.Inv) ∧ s.time ≤ t.time := by
    rw [step] at hstep
    split at hstep
    next =>
      cases hstep
      exact ⟨id, Nat.le_succ _⟩
    next c rest _ =>
      obtain ⟨u, rfl⟩ := eq_close_of_exec hstep
      exact ⟨fun _ => inv_close _ u, time_le_close { s with pending := rest } u⟩
  exact ⟨hkept.1, hkept.2, clock_mono hkept.2⟩

/-- Settles O5: nothing is listed in the state after reset. -/
theorem resetMeetsInvariant : Obligations.ResetMeetsInvariant :=
  ⟨⟨rfl, rfl⟩, fun _ _ => rfl, rfl, rfl, fun _ => rfl⟩

end Sys2Proof.Laws

/-! # Frames

What the named updates leave alone, in the words of the statements: memory (sameMem), the register fields outside a list
(onlyRegs), and the elements of a field that are listed. -/
namespace Sys2Proof.Laws

open Sys2Proof.Machine

/-! ## Memory -/

@[simp] theorem sameMem_refl (s : State) : sameMem s s := fun _ => ⟨rfl, rfl⟩

theorem sameMem_trans {s t u : State} (h : sameMem s t) (h' : sameMem t u) : sameMem s u := fun a =>
  ⟨(h' a).1.trans (h a).1, (h' a).2.trans (h a).2⟩

@[simp] theorem sameMem_close_iff (s r t : State) : sameMem s (r.close t) ↔ sameMem s t := by simp [sameMem]

section
variable (s t : State)

@[simp] theorem sameMem_wr (f : Field) (v i : Nat) : sameMem s (t.wr f v i) ↔ sameMem s t := Iff.rfl
@[simp] theorem sameMem_bump (f : Field) (i n : Nat) : sameMem s (t.bump f i n) ↔ sameMem s t := Iff.rfl
@[simp] theorem sameMem_adv (f : Field) (i n : Nat) : sameMem s (t.adv f i n) ↔ sameMem s t := Iff.rfl
@[simp] theorem sameMem_say (m : Msg) : sameMem s (t.say m) ↔ sameMem s t := Iff.rfl
@[simp] theorem sameMem_giveCredit (p : Pool) : sameMem s (t.giveCredit p) ↔ sameMem s t := Iff.rfl
@[simp] theorem sameMem_stale (k : StaleKind) (id seen now : Nat) : sameMem s (t.stale k id seen now) ↔ sameMem s t := by
  simp [State.stale]
@[simp] theorem sameMem_modCtx (c : Nat) (g : Ctx → Ctx) : sameMem s (t.modCtx c g) ↔ sameMem s t := Iff.rfl
@[simp] theorem sameMem_elapse (n : Nat) : sameMem s (t.elapse n) ↔ sameMem s t := Iff.rfl

end

section
variable (s : State) (a : Nat)

@[simp] theorem sysByte_wr (f : Field) (v i : Nat) : (s.wr f v i).sysByte a = s.sysByte a := rfl
@[simp] theorem dieByte_wr (f : Field) (v i : Nat) : (s.wr f v i).dieByte a = s.dieByte a := rfl
@[simp] theorem sysByte_giveCredit (p : Pool) : (s.giveCredit p).sysByte a = s.sysByte a := rfl
@[simp] theorem dieByte_giveCredit (p : Pool) : (s.giveCredit p).dieByte a = s.dieByte a := rfl

end

/-- A step of updates that keep both stores keeps memory. -/
theorem sameMem_foldl {α : Type} {f : State → α → State} (hf : ∀ t a, sameMem t (f t a)) (l : List α) (s : State) :
    sameMem s (l.foldl f s) :=
  List.foldlRecOn (motive := fun t => sameMem s t) l f (sameMem_refl s) fun t ht a _ => sameMem_trans ht (hf t a)

/-! ## Registers -/

/-- What holds of every field of the register tables. -/
theorem field_forall {P : Field → Prop} [DecidablePred P] (h : Field.all.all (fun f => decide (P f)) = true) (f : Field) : P f := by
  have hmem : f ∈ Field.all := List.mem_of_getElem? (field_all_num f)
  simpa using List.all_eq_true.1 h f hmem

@[simp] theorem row_width_pos (f : Field) : 0 < f.row.width :=
  field_forall (P := fun f => 0 < f.row.width) (by decide +kernel) f

/-- A flag that is set reads 1. -/
theorem rd_wr_one (s : State) (f : Field) (i : Nat) : (s.wr f 1 i).rd f i = 1 := by simp

theorem onlyRegs_mono {s t : State} {l m : List (Field × Nat)} (h : onlyRegs s t l) (hlm : ∀ p ∈ l, p ∈ m) : onlyRegs s t m :=
  fun f i hfi => h f i fun hl => hfi (hlm _ hl)

@[simp] theorem onlyRegs_close_iff (s r t : State) (l : List (Field × Nat)) : onlyRegs s (r.close t) l ↔ onlyRegs s t l := by
  simp [onlyRegs]

@[simp] theorem onlyRegs_self (s : State) (l : List (Field × Nat)) : onlyRegs s s l := onlyRegs_refl s l

section
variable {s t : State} {l : List (Field × Nat)} {f : Field} {i : Nat}

theorem onlyRegs_bump (h : onlyRegs s t l) (hm : (f, i) ∈ l) (n : Nat) : onlyRegs s (t.bump f i n) l := onlyRegs_wr h hm _
theorem onlyRegs_adv (h : onlyRegs s t l) (hm : (f, i) ∈ l) (n : Nat) : onlyRegs s (t.adv f i n) l := onlyRegs_wr h hm _

end

section
variable (s t : State) (l : List (Field × Nat))

@[simp] theorem onlyRegs_say (m : Msg) : onlyRegs s (t.say m) l ↔ onlyRegs s t l := Iff.rfl
@[simp] theorem onlyRegs_giveCredit (p : Pool) : onlyRegs s (t.giveCredit p) l ↔ onlyRegs s t l := Iff.rfl
@[simp] theorem onlyRegs_modCtx (c : Nat) (g : Ctx → Ctx) : onlyRegs s (t.modCtx c g) l ↔ onlyRegs s t l := Iff.rfl
@[simp] theorem onlyRegs_elapse (n : Nat) : onlyRegs s (t.elapse n) l ↔ onlyRegs s t l := Iff.rfl

end

@[simp] theorem rd_giveCredit (s : State) (p : Pool) (f : Field) (i : Nat) : (s.giveCredit p).rd f i = s.rd f i := rfl
@[simp] theorem on_giveCredit (s : State) (p : Pool) (f : Field) (i : Nat) : (s.giveCredit p).on f i = s.on f i := rfl
@[simp] theorem sent_giveCredit (s : State) (p : Pool) : (s.giveCredit p).sent = .poolCredit p :: s.sent := rfl

theorem on_wr_ne (s : State) {f g : Field} (v : Nat) {i j : Nat} (h : f ≠ g ∨ i ≠ j) : (s.wr f v i).on g j = s.on g j := by
  rw [State.on, rd_wr_ne s v h, State.on]

theorem counts_bump (s : State) (f : Field) (i n : Nat) : s.counts (s.bump f i n) f i n := rd_bump_same s f i n

/-! ## Edge raises (R360) -/

/-- A raised source is pending. -/
theorem on_raise_pending (s : State) (n : Nat) : (s.raise n).on .EV_SRC_PENDING n = true := by
  unfold State.raise
  split
  · rwa [State.bump, on_wr_ne _ _ (.inl (by decide))]
  · simp [State.on]

theorem onlyRegs_raise {s t : State} {l : List (Field × Nat)} {n : Nat} (h : onlyRegs s t l)
    (hp : (.EV_SRC_PENDING, n) ∈ l) (hm : (.EV_STATS_MERGED, 0) ∈ l) : onlyRegs s (t.raise n) l := by
  unfold State.raise
  split
  · exact onlyRegs_bump h hm _
  · exact onlyRegs_wr h hp _

/-- A raise keeps whatever every write of a register keeps. -/
theorem raise_keeps {β : Type} (p : State → β) (hwr : ∀ t f v i, p (t.wr f v i) = p t) (s : State) (n : Nat) :
    p (s.raise n) = p s := by
  unfold State.raise
  split
  · exact hwr s _ _ _
  · exact hwr s _ _ _

@[simp] theorem sameMem_raise (s t : State) (n : Nat) : sameMem s (t.raise n) ↔ sameMem s t := by
  unfold State.raise
  split <;> rfl

/-! ## Elements that are listed -/

theorem filter_sdel {α : Type} {p : Nat → Bool} {k : Nat} (h : p k = false) (l : List (Nat × α)) :
    (sdel l k).filter (fun e => p e.1) = l.filter (fun e => p e.1) := by
  induction l with
  | nil => rfl
  | cons e l ih =>
    obtain ⟨k', v'⟩ := e
    rw [sdel]
    split
    · next hk => rw [ih, List.filter_cons_of_neg (by simp [hk, h])]
    · simp only [List.filter_cons, ih]

theorem filter_sput {α : Type} {p : Nat → Bool} {k : Nat} (h : p k = false) (v : α) (l : List (Nat × α)) :
    (sput l k v).filter (fun e => p e.1) = l.filter (fun e => p e.1) := by
  induction l with
  | nil => simp [sput, h]
  | cons e l ih =>
    obtain ⟨k', v'⟩ := e
    rw [sput]
    split
    · next hk => rw [List.filter_cons_of_neg (by simp [h]), List.filter_cons_of_neg (by simp [hk, h])]
    · split
      · rw [List.filter_cons_of_neg (by simp [h])]
      · simp only [List.filter_cons, ih]

theorem field_key_mod (f : Field) (i : Nat) : f.key i % 1024 = f.num := by
  have := field_num_lt f
  simp only [Field.key]
  omega

/-- A write to another field changes no list of elements. -/
theorem listed_wr_ne (s : State) {f g : Field} (h : f ≠ g) (v i : Nat) : (s.wr f v i).listed g = s.listed g := by
  have hk : (f.key i % 1024 == g.num) = false := by
    rw [field_key_mod]
    simpa using fun hn => h (field_num_inj hn)
  unfold State.listed State.wr sset
  split
  · rw [filter_sdel (p := fun k => k % 1024 == g.num) hk]
  · rw [filter_sput (p := fun k => k % 1024 == g.num) hk]

end Sys2Proof.Laws

/-! # Messages of the host that are answered at once, and doorbells

Configuration writes (R31), unsupported messages, snoops and credits (R24 to R28), and what a doorbell does to its queue (R59). -/
namespace Sys2Proof.Laws

open Sys2Proof.Machine

/-! ## Register fields under their access codes (R6) -/

/-- A field write keeps whatever every write of that element keeps. -/
theorem fieldWrite_keeps {β : Type} (p : State → β) {f : Field} {i : Nat} (hwr : ∀ t v, p (t.wr f v i) = p t) (s : State)
    (v : Nat) : p (s.fieldWrite f i v) = p s := by
  unfold State.fieldWrite
  split
  · rfl
  · exact hwr s _
  · rfl
  · exact hwr s _
  · exact hwr s _
  · split
    · rfl
    · exact hwr s _

theorem rd_fieldWrite_ne (s : State) {f g : Field} {i j : Nat} (v : Nat) (h : f ≠ g ∨ i ≠ j) :
    (s.fieldWrite f i v).rd g j = s.rd g j :=
  fieldWrite_keeps (fun t => t.rd g j) (fun t v => rd_wr_ne t v h) s v

theorem sameMem_fieldWrite (s : State) (f : Field) (i v : Nat) : sameMem s (s.fieldWrite f i v) :=
  sameMem_of_eq (fieldWrite_keeps State.hbm (fun _ _ => rfl) s v) (fieldWrite_keeps State.wbuf (fun _ _ => rfl) s v)

theorem fieldWrite_of_RW (s : State) {f : Field} (h : f.row.access = .RW) (i v : Nat) : s.fieldWrite f i v = s.wr f v i := by
  simp [State.fieldWrite, h]

theorem fieldWrite_of_RO (s : State) {f : Field} (h : f.row.access = .RO) (i v : Nat) : s.fieldWrite f i v = s := by
  simp [State.fieldWrite, h]

/-! ## Configuration writes (R31) -/

theorem configFields_four : configFields 4 = [.CFG_IOSE, .CFG_MSE, .CFG_BME, .CFG_CMD_OTHER, .CFG_STATUS] := by decide +kernel

/-- A bit field of the bits that a wider field has taken. -/
theorem bits_setBits_zero {lo w k : Nat} (v x : Nat) (h : lo + w ≤ k) : bits (setBits v 0 k x) lo w = bits x lo w := by
  have hcut : bits (setBits v 0 k x) 0 k = x % 2 ^ k := bits_setBits_same v 0 k x
  have hlow (y : Nat) : bits y 0 k = y % 2 ^ k := by simp [bits]
  rw [← bits_mod_two_pow _ h, ← hlow, hcut, bits_mod_two_pow _ h]

/-- A write of the second doubleword's low half changes the two fields of it that are RW. -/
theorem configWrite_command (s : State) {size : Nat} (h : size = 2 ∨ size = 4) (v : Nat) :
    s.configWrite 4 size v = (s.wr .CFG_MSE (bits v 1 1)).wr .CFG_BME (bits v 2 1) := by
  have hmse : bits (setBits (s.configDw 4) 0 (8 * size) v) 1 1 = bits v 1 1 := bits_setBits_zero _ _ (by omega)
  have hbme : bits (setBits (s.configDw 4) 0 (8 * size) v) 2 1 = bits v 2 1 := bits_setBits_zero _ _ (by omega)
  have hform : ([1, 2, 4].contains size) = true ∧ ¬ 4 < size := by rcases h with rfl | rfl <;> decide
  rw [State.configWrite]
  simp only [hform, Bool.not_true, Nat.reduceMod, Nat.zero_add, decide_false, Bool.or_false, Bool.false_eq_true, if_false,
    Nat.reduceDiv, Nat.reduceMul, configFields_four, List.foldl_cons, List.foldl_nil]
  rw [fieldWrite_of_RO _ (f := .CFG_STATUS) rfl, fieldWrite_of_RO _ (f := .CFG_CMD_OTHER) rfl,
    fieldWrite_of_RO _ (f := .CFG_IOSE) rfl, fieldWrite_of_RW _ (f := .CFG_MSE) rfl, fieldWrite_of_RW _ (f := .CFG_BME) rfl]
  exact congrArg₂ (fun a b => (s.wr .CFG_MSE a).wr .CFG_BME b) hmse hbme

/-- A write of another size or across a doubleword is not taken. -/
theorem configWrite_of_bad (s : State) {off size : Nat} (v : Nat)
    (h : (size ≠ 1 ∧ size ≠ 2 ∧ size ≠ 4) ∨ 4 < off % 4 + size) : s.configWrite off size v = s := by
  rw [State.configWrite, if_pos]
  simpa [or_comm, and_assoc] using h

/-- Settles O8 (R24, R25, R27, R31). -/
theorem configWritesAndHostMessages : Obligations.ConfigWritesAndHostMessages := by
  refine ⟨⟨fun s size v h => ⟨_, rfl, ?_⟩, fun s off size v h => ⟨_, rfl, ?_⟩⟩, fun s posted tag => ⟨_, rfl, ?_⟩,
    fun s tag => ⟨_, rfl, ?_⟩, fun s n => ⟨⟨_, rfl, ?_⟩, ⟨_, rfl, ?_⟩, ⟨_, rfl, ?_⟩⟩⟩
  · rw [configWrite_command s h, configFields_four]
    have hcut (k : Nat) : bits v k 1 % 2 ^ 1 = bits v k 1 := Nat.mod_eq_of_lt (Nat.mod_lt _ (by decide))
    have hwidth : Field.CFG_MSE.row.width = 1 ∧ Field.CFG_BME.row.width = 1 := ⟨rfl, rfl⟩
    refine ⟨by simp, ?_, ?_, ?_⟩
    · simp only [rd_close, rd_giveCredit, rd_wr_same, rd_wr_ne _ _ (.inl (show Field.CFG_BME ≠ .CFG_MSE by decide)), hwidth, hcut]
    · simp only [rd_close, rd_giveCredit, rd_wr_same, hwidth, hcut]
    · simp only [onlyRegs_close_iff, onlyRegs_giveCredit]
      exact onlyRegs_wr (onlyRegs_wr (onlyRegs_refl s _) (by simp) _) (by simp) _
  · rw [configWrite_of_bad s v h]
    simp
  · refine ⟨?_, ?_, ?_, ?_⟩ <;> cases posted <;>
      simp [State.unsupported, onlyRegs_wr (onlyRegs_refl s _)]
  · simp
  all_goals
    exact ⟨(sameMem_close_iff _ _ _).2 (sameMem_of_eq rfl rfl), (onlyRegs_close_iff _ _ _ _).2 fun _ _ _ => rfl, rfl⟩

/-! ## Doorbells (R59) -/

/-- A doorbell leaves the power state as it is. -/
theorem drowse_doorbell (s : State) (q v : Nat) : (s.doorbell q v).drowse = s.drowse := by
  unfold State.doorbell State.drowse State.raiseQueueErr
  simp only [State.bump]
  split
  · rw [rd_wr_ne _ _ (.inl (by decide))]
  split
  · rw [rd_wr_ne _ _ (.inl (by decide))]
  split
  · rw [rd_wr_ne _ _ (.inl (by decide))]
  split
  · rfl
  split
  · unfold State.raise
    split <;> simp [rd_wr, State.bump]
  · rw [rd_wr_ne _ _ (.inl (by decide))]

theorem wake_of_awake {s : State} (h : s.drowse = false) (cause : Nat) : s.wake cause = s := by simp [State.wake, h]

/-- A doorbell of a permitted form, outside DROWSE and with the host attached, reaches its queue. -/
theorem does_doorbell {s : State} {q v : Nat} {P : State → Prop} (hs : s.hears) (hawake : s.drowse = false) (hq : q < 4096)
    (h : P (s.close ((s.doorbell q v).giveCredit .doorbell))) : does (.doorbellWrite (q * 4096) 8 v) s P := by
  obtain ⟨hmse, hready, hhost⟩ := hs
  refine ⟨_, ?_, h⟩
  have hform : ¬ (8 ≠ 8 ∨ q * 4096 % 4096 ≠ 0 ∨ 2 ^ 24 ≤ q * 4096) := by omega
  simp only [exec, execDoorbellWrite, State.done, State.doorbellStore, State.bar1Write, hmse, if_neg hform, State.inReset, hready,
    hhost, Nat.mul_div_cancel q (show 0 < 4096 by decide), wake_of_awake ((drowse_doorbell s q v).trans hawake)]
  rfl

/-- Settles O17 (R59): the rows of the table, in their order. -/
theorem doorbellActsByTheTable : Obligations.DoorbellActsByTheTable := by
  intro s q v hs hawake hq tail head dOld dNew leaves ignored
  have hleaves {P : State → Prop} (hmem : sameMem s (s.doorbell q v))
      (h : P (s.close ((s.doorbell q v).giveCredit .doorbell))) : leaves P :=
    does_doorbell hs hawake hq ⟨by simpa using hmem, h⟩
  have hignored {f : Field} (h : s.doorbell q v = s.bump f) : ignored f := by
    refine hleaves (by simp [h]) ⟨?_, ?_⟩
    · simpa [h] using onlyRegs_bump (onlyRegs_refl s _) (by simp) _
    · simpa [h, State.counts] using rd_bump_same s f 0 1
  have htable : s.doorbell q v = if bits v 32 32 ≠ 0 ∨ (s.qState q ≠ qFREE ∧ s.qLen q ≤ tail) then s.bump .QM_DB_IGNORED_MALFORMED
      else if s.qState q = qFREE ∨ s.qState q = qDRAINING ∨ s.qState q = qABORTING ∨ s.qState q = qHELD then
        s.bump .QM_DB_IGNORED_INACTIVE
      else if dNew < dOld then s.bump .QM_DB_IGNORED_BEHIND
      else if dNew = dOld then s
      else if bits v 24 8 ≠ (s.rd .QCTX_NEXT q + dNew - 1) % 256 then
        ((s.bump .QM_DB_IGNORED_MISMATCH).wr .QCTX_DB_MISMATCH 1 q).raiseQueueErr q
      else s.wr .QCTX_TAIL tail q := by
    simp [State.doorbell, or_assoc, tail, dNew, dOld, head]
  split_ifs with hmal hfree hbehind hsame hseq
  · exact hignored (by rw [htable, if_pos hmal])
  · exact hignored (by rw [htable, if_neg hmal, if_pos hfree])
  · exact hignored (by rw [htable, if_neg hmal, if_neg hfree, if_pos hbehind])
  · have hd : s.doorbell q v = s := by rw [htable, if_neg hmal, if_neg hfree, if_neg hbehind, if_pos hsame]
    exact hleaves (by simp [hd]) (by simp [hd])
  · have hd : s.doorbell q v = ((s.bump .QM_DB_IGNORED_MISMATCH).wr .QCTX_DB_MISMATCH 1 q).raise (0x1000 + q) := by
      rw [htable, if_neg hmal, if_neg hfree, if_neg hbehind, if_neg hsame, if_pos hseq, State.raiseQueueErr]
    refine hleaves (by simp [hd]) ⟨?_, ?_, ?_, ?_⟩
    · have hkeep (t : State) : (t.raise (0x1000 + q)).rd .QM_DB_IGNORED_MISMATCH = t.rd .QM_DB_IGNORED_MISMATCH :=
        onlyRegs_raise (l := [(.EV_SRC_PENDING, 0x1000 + q), (.EV_STATS_MERGED, 0)]) (onlyRegs_refl t _) (by simp) (by simp)
          _ _ (by simp)
      simp only [State.counts, rd_close, rd_giveCredit, hd, hkeep]
      rw [rd_wr_ne _ _ (.inl (by decide)), rd_bump_same]
    · have hkeep (t : State) : (t.raise (0x1000 + q)).rd .QCTX_DB_MISMATCH q = t.rd .QCTX_DB_MISMATCH q :=
        onlyRegs_raise (l := [(.EV_SRC_PENDING, 0x1000 + q), (.EV_STATS_MERGED, 0)]) (onlyRegs_refl t _) (by simp) (by simp)
          _ _ (by simp)
      simp only [rd_close, rd_giveCredit, hd, hkeep, rd_wr_one]
    · simpa [hd] using on_raise_pending _ _
    · simp only [onlyRegs_close_iff, onlyRegs_giveCredit, hd]
      exact onlyRegs_raise (onlyRegs_wr (onlyRegs_bump (onlyRegs_refl s _) (by simp) _) (by simp) _) (by simp) (by simp)
  · have hd : s.doorbell q v = s.wr .QCTX_TAIL tail q := by
      rw [htable, if_neg hmal, if_neg hfree, if_neg hbehind, if_neg hsame, if_neg hseq]
    refine hleaves (by simp [hd]) ⟨?_, ?_⟩
    · have hcut : tail % 2 ^ Field.QCTX_TAIL.row.width = tail := Nat.mod_mod _ _
      simpa [hd] using hcut
    · simp only [onlyRegs_close_iff, onlyRegs_giveCredit, hd]
      exact onlyRegs_wr (onlyRegs_refl s _) (by simp) _

end Sys2Proof.Laws

/-! # Host accesses through windows

The checks of R38 and what they refuse; reads, reads for ownership and upgrades that no check refuses (R24, R41). -/
namespace Sys2Proof.Laws

open Sys2Proof.Machine

/-! ## What a command that lets units move on does -/

theorem acts_mono {i : Instr} {s : State} {P Q : State → Prop} (h : acts i s P) (hPQ : ∀ u, P u → Q u) : acts i s Q := by
  obtain ⟨u, hu, hP⟩ := h
  exact ⟨u, hu, hPQ u hP⟩

theorem does_mono {i : Instr} {s : State} {P Q : State → Prop} (h : does i s P) (hPQ : ∀ u, P u → Q u) : does i s Q := by
  obtain ⟨u, hu, hP⟩ := h
  exact ⟨u, hu, hPQ u hP⟩

/-! ## Refusals (R38) -/

section
variable (s : State) (a : LineAct)

@[simp] theorem rd_refuseHost (f : Field) (i : Nat) : (s.refuseHost a).rd f i = s.rd f i := by cases a <;> rfl
@[simp] theorem refuseHost_hbm : (s.refuseHost a).hbm = s.hbm := by cases a <;> rfl
@[simp] theorem refuseHost_wbuf : (s.refuseHost a).wbuf = s.wbuf := by cases a <;> rfl
@[simp] theorem refuseHost_hlp : (s.refuseHost a).hlp = s.hlp := by cases a <;> rfl
@[simp] theorem refuseHost_reqs : (s.refuseHost a).reqs = s.reqs := by cases a <;> rfl

@[simp] theorem sameMem_refuseHost (t : State) : sameMem t (s.refuseHost a) ↔ sameMem t s := by cases a <;> rfl
@[simp] theorem onlyRegs_refuseHost (t : State) (l : List (Field × Nat)) : onlyRegs t (s.refuseHost a) l ↔ onlyRegs t s l := by
  cases a <;> rfl

end

theorem refuseHost_sent_read (s : State) (hpa tag : Nat) : (s.refuseHost (.read hpa tag)).sent =
    .poolCredit .window :: .windowData tag (List.replicate 64 0xFF) true :: s.sent := rfl

theorem hostAccess_of_refusal {s t : State} {hpa : Nat} {write : Bool} (h : s.winRefusal hpa write = some t) (a : LineAct) :
    s.hostAccess hpa write a = t.refuseHost a := by
  simp [State.hostAccess, h]

/-- While the block is READY a write-back is checked like any other access. -/
theorem writeBack_of_ready {s : State} (h : s.ready = true) (hpa : Nat) (data : List Byte) :
    s.writeBack hpa data = s.hostAccess hpa true (.writeBack hpa data) := by simp [State.writeBack, h]

/-- The window that an access goes through, where none of the first checks refuses it: it is open, and not in a mould store. -/
def throughWindow (s : State) (hpa n : Nat) : Prop :=
  s.windowAt hpa = some n ∧ s.ready = true ∧ s.hlp.closing.contains n = false ∧ s.inStore (s.winAddr n hpa) = false

section
variable {s : State} {hpa n : Nat}

theorem winRefusal_of_noWindow (write : Bool) (h : ∀ n, ¬ throughWindow s hpa n) :
    s.winRefusal hpa write = some (s.wr .HLP_ERR_NO_WINDOW 1) := by
  have hnone : (s.windowAt hpa).filter (fun n => s.ready && !s.hlp.closing.contains n && !s.inStore (s.winAddr n hpa)) = none := by
    rw [Option.filter_eq_none_iff]
    intro n hn hc
    simp only [Bool.and_eq_true, Bool.not_eq_true'] at hc
    obtain ⟨⟨hready, hclosing⟩, hstore⟩ := hc
    exact h n ⟨hn, hready, hclosing, hstore⟩
  simp only [State.winRefusal, hnone]

/-- The checks after the first ones, in their order. -/
theorem winRefusal_of_through (write : Bool) (h : throughWindow s hpa n) :
    s.winRefusal hpa write =
      if s.hostAway then some s.dropHost
      else if s.on .WIN_OWNED n && s.rd .WIN_FLASK_GEN n != s.flaskGen (s.rd .WIN_FLASK n) then
        some (s.stale .flask (s.rd .WIN_FLASK n) (s.rd .WIN_FLASK_GEN n) (s.flaskGen (s.rd .WIN_FLASK n)))
      else if s.granSealed (s.winAddr n hpa / granule) then
        some ((s.wr .HLP_ERR_SEALED 1).bump .HLP_DROP_COUNT_SEALED_REFUSALS)
      else if !(if write then s.on .WIN_WR n else s.on .WIN_RD n) then some (s.wr .HLP_ERR_RIGHTS 1)
      else none := by
  obtain ⟨hwin, hready, hclosing, hstore⟩ := h
  simp only [State.winRefusal, hwin, Option.filter, hready, hclosing, hstore]
  rfl

/-- An access that no check refuses goes through an open window, whose granule is not sealed, with the host there. -/
theorem through_of_unrefused {write : Bool} (h : s.winRefusal hpa write = none) (hwin : s.windowAt hpa = some n) :
    throughWindow s hpa n ∧ s.hostAway = false ∧ s.granSealed (s.winAddr n hpa / granule) = false := by
  have hthrough : throughWindow s hpa n := by
    by_contra hnot
    rw [winRefusal_of_noWindow write fun m hm => hnot (by rwa [Option.some.inj (hwin.symm.trans hm.1)])] at h
    cases h
  refine ⟨hthrough, ?_⟩
  rw [winRefusal_of_through write hthrough] at h
  split_ifs at h with haway hstale hsealed
  all_goals exact ⟨by simpa using haway, by simpa using hsealed⟩

/-- A refused access of each kind: what the refusal leaves, with what else its answer is. -/
theorem reads_of_refusal {t : State} {P : State → Prop} (tag : Nat) (h : s.winRefusal hpa false = some t) (hmem : sameMem s t)
    (hsent : t.sent = s.sent) (hP : ∀ a, P (t.refuseHost a)) :
    acts (.coherentRead hpa tag) s (fun u => sameMem s u ∧ P u ∧
      u.sent = .poolCredit .window :: .windowData tag (List.replicate 64 0xFF) true :: s.sent) := by
  refine ⟨s.hostAccess hpa false (.read hpa tag), rfl, ?_⟩
  rw [hostAccess_of_refusal h]
  exact ⟨by simpa using hmem, hP _, by rw [refuseHost_sent_read, hsent]⟩

theorem writes_of_refusal {t : State} {P : State → Prop} (tag : Nat) (data : List Byte) (hready : s.ready = true)
    (h : s.winRefusal hpa true = some t) (hmem : sameMem s t) (hsent : t.sent = s.sent) (hP : ∀ a, P (t.refuseHost a)) :
    ∀ c ∈ [Instr.readForOwnership hpa tag, .hostInvalidate hpa tag, .windowWriteBack hpa data],
      acts c s (fun u => sameMem s u ∧ P u ∧ u.sent = .poolCredit .window :: s.sent) := by
  have hall (a : LineAct) : sameMem s (s.hostAccess hpa true a) ∧ P (s.hostAccess hpa true a) := by
    rw [hostAccess_of_refusal h]
    exact ⟨by simpa using hmem, hP a⟩
  have hcredit : (s.hostAccess hpa true (.own hpa tag)).sent = .poolCredit .window :: s.sent ∧
      (s.hostAccess hpa true (.upgrade hpa tag)).sent = .poolCredit .window :: s.sent ∧
      (s.hostAccess hpa true (.writeBack hpa data)).sent = .poolCredit .window :: s.sent := by
    simp only [hostAccess_of_refusal h, ← hsent]
    exact ⟨rfl, rfl, rfl⟩
  obtain ⟨hown, hupgrade, hback⟩ := hcredit
  intro c hc
  simp only [List.mem_cons, List.not_mem_nil, or_false] at hc
  rcases hc with rfl | rfl | rfl
  · exact ⟨_, rfl, (hall _).1, (hall _).2, hown⟩
  · exact ⟨_, rfl, (hall _).1, (hall _).2, hupgrade⟩
  · exact ⟨_, by rw [exec, execWindowWriteBack, writeBack_of_ready hready]; rfl, (hall _).1, (hall _).2, hback⟩

end

/-- Settles O9 (R38): the rows of the table, in their order. -/
theorem windowAccessRefusals : Obligations.WindowAccessRefusals := by
  intro s hpa tag data hready reads writes refused noWindow
  have hrefused {t : State} {P : State → Prop} (h : ∀ write, s.winRefusal hpa write = some t) (hmem : sameMem s t)
      (hsent : t.sent = s.sent) (hP : ∀ a, P (t.refuseHost a)) : refused P :=
    ⟨reads_of_refusal tag (h false) hmem hsent hP, writes_of_refusal tag data hready (h true) hmem hsent hP⟩
  have hnoWindow (h : ∀ n, ¬ throughWindow s hpa n) : noWindow := by
    refine hrefused (fun write => winRefusal_of_noWindow write h) (by simp) rfl fun a => ⟨by simp, ?_⟩
    rw [onlyRegs_refuseHost]
    exact onlyRegs_wr (onlyRegs_refl s _) (by simp) _
  refine ⟨fun hnone => hnoWindow fun n hn => ?_, fun n hwin hshut => hnoWindow fun m hm => ?_, fun n hwin hclosing hstore => ?_⟩
  · simp [hn.1] at hnone
  · obtain ⟨hwin', -, hclosing, hstore⟩ := hm
    cases hwin.symm.trans hwin'
    rcases hshut with h | h
    · rw [hclosing] at h
      cases h
    · rw [hstore] at h
      cases h
  intro f stale sealed rights
  have hrow (write : Bool) := winRefusal_of_through write ⟨hwin, hready, hclosing, hstore⟩
  have hrights {u : State} (a : LineAct) (hu : u = s.wr .HLP_ERR_RIGHTS 1) : rights (u.refuseHost a) := by
    refine ⟨by simp [hu], ?_⟩
    rw [onlyRegs_refuseHost, hu]
    exact onlyRegs_wr (onlyRegs_refl s _) (by simp) _
  refine ⟨fun haway => ?_, fun hhere hstale => ?_, fun hhere hcurrent hsealed => ?_, fun hhere hcurrent hopen hrd => ?_,
    fun hhere hcurrent hopen hwr => ?_⟩
  · refine hrefused (fun write => (hrow write).trans (if_pos haway)) (sameMem_of_eq rfl rfl) rfl fun a => ⟨?_, ?_⟩
    · simpa only [State.counts, rd_refuseHost, State.dropHost] using rd_bump_same s .HLP_DROP_COUNT_HEADLESS_DROPS 0 1
    · rw [onlyRegs_refuseHost]
      exact onlyRegs_bump (onlyRegs_refl s _) (by simp) _
  · have hnot : ¬ s.hostAway = true := by simp [hhere]
    refine hrefused (t := s.stale .flask f (s.rd .WIN_FLASK_GEN n) (s.flaskGen f))
      (fun write => by rw [hrow, if_neg hnot, if_pos hstale]) (by simp) rfl fun a => ⟨?_, ?_⟩
    · simpa only [State.counts, rd_refuseHost] using! counts_stale s .flask _ _ _
    · rw [onlyRegs_refuseHost]
      exact onlyRegs_stale s .flask _ _ _
  · have hnot : ¬ s.hostAway = true ∧ ¬ stale = true := by simp [hhere, hcurrent]
    refine hrefused (t := (s.wr .HLP_ERR_SEALED 1).bump .HLP_DROP_COUNT_SEALED_REFUSALS)
      (fun write => by rw [hrow, if_neg hnot.1, if_neg hnot.2, if_pos hsealed])
      (sameMem_of_eq rfl rfl) rfl fun a => ⟨?_, ?_, ?_⟩
    · rw [rd_refuseHost, rd_bump_ne _ _ (.inl (by decide)), rd_wr_one]
    · rw [State.counts, rd_refuseHost, rd_bump_same, rd_wr_ne _ _ (.inl (by decide))]
    · rw [onlyRegs_refuseHost]
      exact onlyRegs_bump (onlyRegs_wr (onlyRegs_refl s _) (by simp) _) (by simp) _
  all_goals have hnot : ¬ s.hostAway = true ∧ ¬ stale = true ∧ ¬ sealed = true := by simp [hhere, hcurrent, hopen]
  · refine reads_of_refusal tag (t := s.wr .HLP_ERR_RIGHTS 1) ?_ (by simp) rfl fun a => hrights a rfl
    rw [hrow, if_neg hnot.1, if_neg hnot.2.1, if_neg hnot.2.2]
    simp [hrd]
  · refine writes_of_refusal tag data hready (t := s.wr .HLP_ERR_RIGHTS 1) ?_ (by simp) rfl fun a => hrights a rfl
    rw [hrow, if_neg hnot.1, if_neg hnot.2.1, if_neg hnot.2.2]
    simp [hwr]

/-! ## Permitted accesses (R24, R41) -/

/-- A permitted access with a credit, outside DROWSE, is performed. -/
theorem hostAccess_of_unrefused {s : State} {hpa : Nat} {write : Bool} (h : s.winRefusal hpa write = none)
    (hcredit : s.credit .window = true) (hawake : s.drowse = false) (a : LineAct) : s.hostAccess hpa write a = s.lineAct a := by
  simp [State.hostAccess, h, hcredit, hawake]

/-- A line lies in the granule of each of its bytes. -/
theorem line_div_granule (a : Nat) : lineOf a * 64 / granule = a / granule := by
  simp only [lineOf, granule]
  omega

section
variable (s : State) (line : Nat) (excl : Bool)

theorem hostHeld_recordLine : (s.recordLine line excl).hostHeld line = true := by
  simp [State.recordLine, State.hostHeld]

theorem hostExcl_recordLine : (s.recordLine line excl).hostExcl line = excl := by
  have hold : (s.hlp.filter.filter (fun h => h.line != line)).any (fun h => h.line == line && h.excl) = false := by
    simp only [List.any_eq_false, List.mem_filter]
    rintro h ⟨-, hne⟩
    simp [by simpa using hne]
  simp [State.recordLine, State.hostExcl, List.any_append, hold]

end

/-- The copy of a line that a permitted access hands out is not recalled at once. -/
theorem recallAgain_of_unrefused {s t : State} {hpa n : Nat} {write : Bool} (h : s.winRefusal hpa write = none)
    (hwin : s.windowAt hpa = some n) (hregs : t.regs = s.regs) (hclosing : t.hlp.closing = s.hlp.closing) :
    t.recallAgain n (lineOf (s.winAddr n hpa)) = t := by
  obtain ⟨⟨-, -, hopen, -⟩, hhere, hplain⟩ := through_of_unrefused h hwin
  have hrd (f : Field) (i : Nat) : t.rd f i = s.rd f i := by rw [State.rd, hregs, State.rd]
  have hopen' : t.hlp.closing.contains n = false := by rw [hclosing, hopen]
  have hhere' : t.hostAway = false := by simpa [State.hostAway, State.headless, State.on, hrd] using hhere
  have hplain' : t.granSealed (lineOf (s.winAddr n hpa) * 64 / granule) = false := by
    simpa [State.granSealed, hrd, line_div_granule] using hplain
  rw [State.recallAgain, hopen', hhere', hplain']
  rfl

/-- A permitted access of a coherent window's line goes on where no other copy, no recall and no full set stands in its way. -/
theorem onLine_of_unrefused {s : State} {hpa n : Nat} {write : Bool} (h : s.winRefusal hpa write = none)
    (hwin : s.windowAt hpa = some n) (hrecalls : s.hlp.recalls.contains (lineOf (s.winAddr n hpa)) = false)
    (hroom : s.filterVictim (lineOf (s.winAddr n hpa)) = none) (a : LineAct) (go : State → State)
    (hregs : (go s).regs = s.regs) (hclosing : (go s).hlp.closing = s.hlp.closing) :
    s.onLine n (lineOf (s.winAddr n hpa)) a false go = go s := by
  simp only [State.onLine, hrecalls, hroom]
  exact recallAgain_of_unrefused h hwin hregs hclosing

/-- Settles O10 (R24, R41). -/
theorem windowReadsGiveTheLine : Obligations.WindowReadsGiveTheLine := by
  intro s hpa tag n hwin hcredit hawake line gives still
  have hperform {write : Bool} (h : s.winRefusal hpa write = none) (a : LineAct) : s.hostAccess hpa write a = s.lineAct a :=
    hostAccess_of_unrefused h hcredit hawake a
  have hstill {u : State} (hh : u.hbm = s.hbm) (hw : u.wbuf = s.wbuf) (hr : u.regs = s.regs) : still u :=
    ⟨sameMem_of_eq hh hw, fun f i _ => by simp [State.rd, hr]⟩
  refine ⟨fun hok hplain hfree => ⟨_, rfl, ?_⟩, fun hok hplain hfree => ⟨⟨_, rfl, ?_⟩, ⟨_, rfl, ?_⟩⟩, fun hcoh hrecalls hroom =>
    ⟨fun hok hfree => ⟨_, rfl, ?_⟩, fun hok hfree => ⟨_, rfl, ?_⟩, fun hok hheld hshared hone => ⟨_, rfl, ?_⟩,
      fun hok hfree => ⟨_, rfl, ?_⟩⟩⟩
  · rw [hperform hok, State.lineAct, State.hostRead, hwin]
    simp only [hplain, show s.hostExcl (lineOf (s.winAddr n hpa)) = false from hfree]
    exact ⟨hstill rfl rfl rfl, by simp [gives, State.giveCredit, State.giveLine, line], rfl⟩
  · rw [hperform hok, State.lineAct, State.hostOwn, hwin]
    simp only [hplain, show s.hostExcl (lineOf (s.winAddr n hpa)) = false from hfree]
    exact ⟨hstill rfl rfl rfl, by simp [gives, State.giveOwned, State.giveLine, line], by simp [State.giveOwned], rfl⟩
  · rw [hperform hok, State.lineAct, State.hostUpgrade, hwin]
    simp only [hplain]
    exact ⟨hstill rfl rfl rfl, by simp [State.giveOwned], rfl⟩
  · rw [hperform hok, State.lineAct, State.hostRead, hwin]
    simp only [hcoh, show s.hostExcl (lineOf (s.winAddr n hpa)) = false from hfree, Bool.not_true, Bool.false_eq_true, if_false]
    rw [onLine_of_unrefused hok hwin hrecalls hroom _ _ rfl rfl]
    exact ⟨hstill rfl rfl rfl, by simp [gives, State.giveLine, line, State.sysRead, State.sysByte, State.recordLine],
      hostHeld_recordLine s line false, hostExcl_recordLine s line false⟩
  · rw [hperform hok, State.lineAct, State.hostOwn, hwin]
    simp only [hcoh, show s.hostHeld (lineOf (s.winAddr n hpa)) = false from hfree, Bool.not_true, Bool.false_eq_true, if_false]
    rw [onLine_of_unrefused hok hwin hrecalls hroom _ _ rfl rfl]
    exact ⟨hstill rfl rfl rfl, by simp [gives, State.giveOwned, State.giveLine, line, State.sysRead, State.sysByte, State.recordLine],
      by simp [State.giveOwned], hostExcl_recordLine s line true⟩
  · rw [hperform hok, State.lineAct, State.hostUpgrade, hwin]
    simp only [hcoh, show s.hlp.recalls.contains (lineOf (s.winAddr n hpa)) = false from hrecalls,
      show s.hostHeld (lineOf (s.winAddr n hpa)) = true from hheld,
      show s.hostExcl (lineOf (s.winAddr n hpa)) = false from hshared,
      show ¬ 1 < s.sharersOf (lineOf (s.winAddr n hpa)) from Nat.not_lt.2 hone, Bool.not_true, Bool.false_eq_true, if_false,
      Bool.or_false]
    rw [recallAgain_of_unrefused (t := (s.recordLine line true).giveOwned tag true) hok hwin rfl rfl]
    exact ⟨hstill rfl rfl rfl, by simp [State.giveOwned], hostExcl_recordLine s line true⟩
  · rw [hperform hok, State.lineAct, State.hostUpgrade, hwin]
    simp only [hcoh, show s.hlp.recalls.contains (lineOf (s.winAddr n hpa)) = false from hrecalls,
      show s.hostHeld (lineOf (s.winAddr n hpa)) = false from hfree, Bool.not_true, Bool.not_false, Bool.true_or,
      Bool.false_eq_true, if_false, if_true]
    exact ⟨hstill rfl rfl rfl, by simp [State.giveOwned], hfree⟩

end Sys2Proof.Laws

/-! # Commits

What a commit of accepted stores does to each byte: the bytes of its lines, and every other one (R308, R309). -/
namespace Sys2Proof.Laws

open Sys2Proof.Machine

/-! ## States that differ in the units' data alone -/

/-- The register store, HBM and the stores that wait there are as they were. -/
def still (s t : State) : Prop := t.regs = s.regs ∧ t.hbm = s.hbm ∧ t.wbuf = s.wbuf

section
variable {s t u : State}

theorem still_refl (s : State) : still s s := ⟨rfl, rfl, rfl⟩

theorem still.trans (h : still s t) (h' : still t u) : still s u :=
  ⟨h'.1.trans h.1, h'.2.1.trans h.2.1, h'.2.2.trans h.2.2⟩

theorem still.sameMem (h : still s t) : sameMem s t := sameMem_of_eq h.2.1 h.2.2

theorem still.rd (h : still s t) (f : Field) (i : Nat) : t.rd f i = s.rd f i := by rw [State.rd, h.1, State.rd]

theorem still.on (h : still s t) (f : Field) (i : Nat) : t.on f i = s.on f i := by rw [State.on, h.rd, State.on]

theorem still.listed (h : still s t) (f : Field) : t.listed f = s.listed f := by rw [State.listed, h.1, State.listed]

theorem still.onlyRegs (h : still s t) (l : List (Field × Nat)) : onlyRegs s t l := fun f i _ => h.rd f i

theorem still.onlyRegs_of {r : State} (h : still s t) {l : List (Field × Nat)} (hr : Machine.onlyRegs r s l) :
    Machine.onlyRegs r t l := fun f i hfi => (h.rd f i).trans (hr f i hfi)

theorem still_foldl {α : Type} {f : State → α → State} (hf : ∀ t a, still t (f t a)) (l : List α) (s : State) :
    still s (l.foldl f s) :=
  List.foldlRecOn (motive := still s) l f (still_refl s) fun t ht a _ => ht.trans (hf t a)

end

/-! ## Lines -/

/-- The lines that cells touch. -/
theorem mem_linesOf {cells : List (Nat × Byte)} {l : Nat} : l ∈ linesOf cells ↔ ∃ c ∈ cells, lineOf c.1 = l := by
  have hfold (ls : List Nat) : l ∈ cells.foldl (fun ls c => if ls.contains (lineOf c.1) then ls else ls ++ [lineOf c.1]) ls ↔
      l ∈ ls ∨ ∃ c ∈ cells, lineOf c.1 = l := by
    induction cells generalizing ls with
    | nil => simp
    | cons c cs ih =>
      rw [List.foldl_cons, ih]
      by_cases hin : lineOf c.1 ∈ ls
      · have hl : lineOf c.1 = l → l ∈ ls := fun e => e ▸ hin
        simp only [List.contains_iff_mem, hin, if_true, List.mem_cons, exists_eq_or_imp]
        tauto
      · simp [hin, or_assoc, eq_comm (a := l)]
  simpa [linesOf] using hfold []

theorem lineOf_of_mem_cellsAt {a : Nat} {bs : List Byte} {c : Nat × Byte} (h : c ∈ cellsAt a bs) :
    a ≤ c.1 ∧ c.1 < a + bs.length := by
  simp only [cellsAt, List.mem_map] at h
  obtain ⟨p, hp, rfl⟩ := h
  have := List.mem_range.1 (List.of_mem_zip hp).1
  exact ⟨Nat.le_add_right _ _, by simpa using this⟩

theorem nodup_cellsAt (a : Nat) (bs : List Byte) : ((cellsAt a bs).map Prod.fst).Nodup := by
  have hfst : (cellsAt a bs).map Prod.fst = (List.range bs.length).map (a + ·) := by
    rw [cellsAt, List.map_map, show Prod.fst ∘ (fun p : Nat × Byte => (a + p.1, p.2)) = (a + ·) ∘ Prod.fst from rfl, ← List.map_map,
      List.map_fst_zip (by simp)]
  rw [hfst]
  exact List.nodup_range.map fun _ _ h => Nat.add_left_cancel h

/-! ## Cells that are committed -/

/-- A byte after a commit of cells that name each byte once. -/
theorem sysByte_putCells {cells : List (Nat × Byte)} (h : (cells.map Prod.fst).Nodup) (s : State) {a : Nat} (ha : a < hbmSize) :
    (s.putCells cells).sysByte a = ((cells.find? (fun c => c.1 == a)).map Prod.snd).getD (s.sysByte a) := by
  induction cells generalizing s with
  | nil => rfl
  | cons c cs ih =>
    rw [List.map_cons, List.nodup_cons] at h
    obtain ⟨hnew, hrest⟩ := h
    show ((s.putByte c.1 c.2).putCells cs).sysByte a = _
    by_cases hc : c.1 = a
    · subst hc
      rw [sysByte_putCells_out cs _ _ fun p hp hpc => hnew (List.mem_map.2 ⟨p, hp, hpc⟩), sysByte_putByte_same _ _ _ ha]
      simp
    · rw [ih hrest, sysByte_putByte_ne _ _ hc, List.find?_cons_of_neg (by simpa using hc)]

theorem find?_cellsAt {a i : Nat} {bs : List Byte} (h : i < bs.length) :
    (cellsAt a bs).find? (fun c => c.1 == a + i) = some (a + i, bs[i]) := by
  induction bs generalizing a i with
  | nil => simp at h
  | cons b bs ih =>
    rw [cellsAt_cons]
    cases i with
    | zero => simp
    | succ i =>
      rw [List.find?_cons_of_neg (by simp), show a + (i + 1) = a + 1 + i by omega, ih (by simpa using h)]
      rfl

/-- The bytes of a run that is committed. -/
theorem sysByte_putCells_cellsAt (s : State) {a i : Nat} {bs : List Byte} (hi : i < bs.length) (ha : a + i < hbmSize) :
    (s.putCells (cellsAt a bs)).sysByte (a + i) = bs[i] := by
  rw [sysByte_putCells (nodup_cellsAt a bs) s ha, find?_cellsAt hi]
  rfl

@[simp] theorem putByte_wbuf (s : State) (a : Nat) (b : Byte) : (s.putByte a b).wbuf = s.wbuf := by
  unfold State.putByte
  split <;> rfl

@[simp] theorem putCells_wbuf (cells : List (Nat × Byte)) (s : State) : (s.putCells cells).wbuf = s.wbuf :=
  foldl_keeps State.wbuf (fun t (c : Nat × Byte) => putByte_wbuf t c.1 c.2) cells s

theorem dieByte_putCells_out (cells : List (Nat × Byte)) (s : State) (c : Nat) (h : ∀ p ∈ cells, p.1 ≠ c) :
    (s.putCells cells).dieByte c = s.dieByte c := by
  rw [State.dieByte, putCells_wbuf, sysByte_putCells_out cells s c h, State.dieByte]

/-! ## The commit of a line's accepted stores -/

/-- The last accepted value among stores that are cut to some of their cells. -/
theorem lastStored_filter (q : Nat → Bool) (l : List BufStore) (a : Nat) :
    lastStored (l.map (fun st => { st with cells := st.cells.filter (fun c => q c.1) })) a =
      if q a then lastStored l a else none := by
  have hfind (cells : List (Nat × Byte)) : (cells.filter (fun c => q c.1)).find? (fun c => c.1 == a) =
      if q a then cells.find? (fun c => c.1 == a) else none := by
    rw [List.find?_filter]
    split
    · next hq =>
      congr 1
      funext c
      by_cases hc : c.1 = a
      · simp [hc, hq]
      · simp [hc]
    · next hq =>
      rw [List.find?_eq_none]
      rintro c - hc
      obtain ⟨hqc, hca⟩ : q c.1 = true ∧ c.1 = a := by simpa using hc
      exact hq (hca ▸ hqc)
  unfold lastStored
  rw [List.foldl_map]
  simp only [hfind]
  split
  · rfl
  · exact List.foldlRecOn (motive := fun r => r = none) l _ rfl fun r hr st _ => by simpa using hr

section
variable (s : State) (l : Nat)

theorem commitLine_wbuf : (s.commitLine l).wbuf =
    s.wbuf.map (fun st => { st with cells := st.cells.filter (fun c => !(lineOf c.1 == l)) }) := by
  unfold State.commitLine
  simp only [foldl_keeps State.wbuf (fun t (st : BufStore) => putCells_wbuf (st.cells.filter fun c => lineOf c.1 == l) t)]

theorem sysByte_commitLine (a : Nat) : (s.commitLine l).sysByte a =
    (s.wbuf.foldl (fun t st => t.putCells (st.cells.filter (fun c => lineOf c.1 == l))) s).sysByte a := rfl

/-- The commit of a line leaves the bytes of other lines alone. -/
theorem sysByte_commitLine_ne {a : Nat} (h : lineOf a ≠ l) : (s.commitLine l).sysByte a = s.sysByte a := by
  rw [sysByte_commitLine]
  refine foldl_keeps (fun t : State => t.sysByte a) (fun t st => sysByte_putCells_out _ t a fun p hp hpa => h ?_) _ s
  have hline := (List.mem_filter.1 hp).2
  rw [hpa] at hline
  simpa using hline

theorem lastStored_commitLine (a : Nat) : lastStored (s.commitLine l).wbuf a =
    if lineOf a = l then none else lastStored s.wbuf a := by
  rw [commitLine_wbuf, lastStored_filter (fun b => !(lineOf b == l))]
  by_cases h : lineOf a = l <;> simp [h]

theorem dieByte_commitLine_ne {a : Nat} (h : lineOf a ≠ l) : (s.commitLine l).dieByte a = s.dieByte a := by
  rw [State.dieByte, lastStored_commitLine, if_neg h, sysByte_commitLine_ne s l h, State.dieByte]

/-- Where no accepted store touches a line, its commit leaves every byte alone. -/
theorem sysByte_commitLine_of_clean (h : ∀ st ∈ s.wbuf, ∀ c ∈ st.cells, lineOf c.1 ≠ l) (a : Nat) :
    (s.commitLine l).sysByte a = s.sysByte a := by
  rw [sysByte_commitLine]
  refine List.foldlRecOn (motive := fun t : State => t.sysByte a = s.sysByte a) s.wbuf _ rfl fun t ht st hst => ?_
  rw [List.filter_eq_nil_iff.2 fun c hc => by simpa using h st hst c hc]
  exact ht

theorem dieByte_commitLine_of_clean (h : ∀ st ∈ s.wbuf, ∀ c ∈ st.cells, lineOf c.1 ≠ l) (a : Nat) :
    (s.commitLine l).dieByte a = s.dieByte a := by
  have hwbuf : (s.commitLine l).wbuf = s.wbuf := by
    rw [commitLine_wbuf]
    refine (List.map_congr_left fun st hst => ?_).trans (List.map_id s.wbuf)
    rw [List.filter_eq_self.2 fun c hc => by simpa using h st hst c hc]
    rfl
  rw [State.dieByte, hwbuf, sysByte_commitLine_of_clean s l h, State.dieByte]

end

/-- The accepted stores name each byte once. -/
def onceEach (s : State) : Prop := ∀ st ∈ s.wbuf, (st.cells.map Prod.fst).Nodup

/-- A commit changes nothing that the die port returns: it puts the last accepted value of each byte where the port looks. -/
theorem sysByte_commitLine_same {s : State} (h : onceEach s) {a : Nat} (ha : a < hbmSize) :
    (s.commitLine (lineOf a)).sysByte a = s.dieByte a := by
  have hfind (cells : List (Nat × Byte)) : (cells.filter (fun c => lineOf c.1 == lineOf a)).find? (fun c => c.1 == a) =
      cells.find? (fun c => c.1 == a) := by
    rw [List.find?_filter]
    congr 1
    funext c
    by_cases hc : c.1 = a <;> simp [hc]
  have hfold (l : List BufStore) (hl : ∀ st ∈ l, (st.cells.map Prod.fst).Nodup) (t : State) (r : Option Byte)
      (ht : t.sysByte a = r.getD (s.sysByte a)) :
      (l.foldl (fun t st => t.putCells (st.cells.filter (fun c => lineOf c.1 == lineOf a))) t).sysByte a =
        (l.foldl (fun r st => match st.cells.find? (fun c => c.1 == a) with | some c => some c.2 | none => r) r).getD (s.sysByte a) := by
    induction l generalizing t r with
    | nil => exact ht
    | cons st l ih =>
      rw [List.forall_mem_cons] at hl
      refine ih hl.2 _ _ ?_
      rw [sysByte_putCells (hl.1.sublist (List.filter_sublist.map _)) _ ha, hfind]
      cases hc : st.cells.find? (fun c => c.1 == a) with
      | none => simpa [hc] using ht
      | some c => simp [hc]
  exact hfold s.wbuf h s none rfl

theorem dieByte_commitLine {s : State} (h : onceEach s) (l : Nat) {a : Nat} (ha : a < hbmSize) :
    (s.commitLine l).dieByte a = s.dieByte a := by
  by_cases hl : lineOf a = l
  · subst hl
    rw [State.dieByte, lastStored_commitLine, if_pos rfl, Option.getD_none, sysByte_commitLine_same h ha]
  · exact dieByte_commitLine_ne s l hl

theorem onceEach_commitLine {s : State} (h : onceEach s) (l : Nat) : onceEach (s.commitLine l) := by
  intro st hst
  rw [commitLine_wbuf, List.mem_map] at hst
  obtain ⟨st, hst, rfl⟩ := hst
  exact (h st hst).sublist (List.filter_sublist.map _)

/-! ## Commits of several lines -/

section
variable (s : State) (ls : List Nat)

theorem bytes_commitLines_ne {a : Nat} (h : lineOf a ∉ ls) :
    (ls.foldl State.commitLine s).sysByte a = s.sysByte a ∧ (ls.foldl State.commitLine s).dieByte a = s.dieByte a := by
  refine List.foldlRecOn (motive := fun t : State => t.sysByte a = s.sysByte a ∧ t.dieByte a = s.dieByte a) ls _ ⟨rfl, rfl⟩
    fun t ht l hl => ?_
  have hne : lineOf a ≠ l := fun e => h (e ▸ hl)
  exact ⟨(sysByte_commitLine_ne t l hne).trans ht.1, (dieByte_commitLine_ne t l hne).trans ht.2⟩

theorem dieByte_commitLines (h : onceEach s) {a : Nat} (ha : a < hbmSize) :
    (ls.foldl State.commitLine s).dieByte a = s.dieByte a :=
  (List.foldlRecOn (motive := fun t => onceEach t ∧ t.dieByte a = s.dieByte a) ls _ ⟨h, rfl⟩ fun _ ht l _ =>
    ⟨onceEach_commitLine ht.1 l, (dieByte_commitLine ht.1 l ha).trans ht.2⟩).2

theorem lastStored_commitLines (a : Nat) : lastStored (ls.foldl State.commitLine s).wbuf a =
    if lineOf a ∈ ls then none else lastStored s.wbuf a := by
  induction ls generalizing s with
  | nil => simp
  | cons l ls ih =>
    rw [List.foldl_cons, ih, lastStored_commitLine]
    by_cases hl : lineOf a = l <;> by_cases hls : lineOf a ∈ ls <;> simp [hl, hls]

/-- A byte that no accepted store names. -/
theorem lastStored_of_unnamed {l : List BufStore} {a : Nat} (h : ∀ st ∈ l, ∀ c ∈ st.cells, c.1 ≠ a) : lastStored l a = none := by
  unfold lastStored
  refine List.foldlRecOn (motive := fun r => r = none) l _ rfl fun r hr st hst => ?_
  have hnone : st.cells.find? (fun c => c.1 == a) = none := List.find?_eq_none.2 fun c hc => by simpa using h st hst c hc
  rw [hnone]
  exact hr

end

/-- The lines of a range that starts and ends at lines. -/
theorem lineOf_in_range {a n b : Nat} (ha : a % 64 = 0) (hn : n % 64 = 0) :
    (lineOf a ≤ lineOf b ∧ lineOf b * 64 < a + n) ↔ a ≤ b ∧ b < a + n := by
  simp only [lineOf]
  omega

/-- The commit of a range of whole lines leaves the bytes outside it alone. -/
theorem bytes_commitRange_ne (s : State) {a n b : Nat} (ha : a % 64 = 0) (hn : n % 64 = 0) (hb : b < a ∨ a + n ≤ b) :
    (s.commitRange a n).sysByte b = s.sysByte b ∧ (s.commitRange a n).dieByte b = s.dieByte b := by
  refine bytes_commitLines_ne s _ fun hmem => ?_
  have := (lineOf_in_range ha hn).1 (by simpa using (List.mem_filter.1 hmem).2)
  omega

/-- In the range, what the die port returned is then committed. -/
theorem bytes_commitRange {s : State} (h : onceEach s) {a n b : Nat} (ha : a % 64 = 0) (hn : n % 64 = 0) (hb : a ≤ b ∧ b < a + n)
    (hsize : b < hbmSize) : (s.commitRange a n).sysByte b = s.dieByte b ∧ (s.commitRange a n).dieByte b = s.dieByte b := by
  have hdie : (s.commitRange a n).dieByte b = s.dieByte b := dieByte_commitLines s _ h hsize
  have hnone : lastStored (s.commitRange a n).wbuf b = none := by
    rw [State.commitRange, lastStored_commitLines]
    split
    · rfl
    · next hout =>
      refine lastStored_of_unnamed fun st hst c hc hcb => hout ?_
      rw [List.mem_filter, mem_linesOf]
      refine ⟨⟨c, List.mem_flatMap.2 ⟨st, hst, hc⟩, by rw [hcb]⟩, ?_⟩
      simpa using (lineOf_in_range ha hn).2 hb
  refine ⟨?_, hdie⟩
  rw [← hdie, State.dieByte, hnone, Option.getD_none]

/-! ## What a commit leaves alone -/

/-- A commit keeps whatever HBM and the stores that wait there do not touch. -/
theorem putCells_keeps {β : Type} (p : State → β) (hhbm : ∀ t m, p { t with hbm := m } = p t) (cells : List (Nat × Byte))
    (s : State) : p (s.putCells cells) = p s := by
  refine foldl_keeps p (fun t c => ?_) cells s
  unfold State.putByte
  split
  · exact hhbm t _
  · rfl

theorem commitLine_keeps {β : Type} (p : State → β) (hhbm : ∀ t m, p { t with hbm := m } = p t)
    (hwbuf : ∀ t w, p { t with wbuf := w } = p t) (s : State) (l : Nat) : p (s.commitLine l) = p s :=
  (hwbuf _ _).trans (foldl_keeps p (fun t _ => putCells_keeps p hhbm _ t) _ s)

theorem commitRange_keeps {β : Type} (p : State → β) (hhbm : ∀ t m, p { t with hbm := m } = p t)
    (hwbuf : ∀ t w, p { t with wbuf := w } = p t) (s : State) (a n : Nat) : p (s.commitRange a n) = p s :=
  foldl_keeps p (fun t l => commitLine_keeps p hhbm hwbuf t l) _ s

theorem overPut_keeps {β : Type} (p : State → β) (hhbm : ∀ t m, p { t with hbm := m } = p t)
    (hwbuf : ∀ t w, p { t with wbuf := w } = p t) (cells : List (Nat × Byte)) (s : State) : p (s.overPut cells) = p s :=
  (putCells_keeps p hhbm cells _).trans (foldl_keeps p (fun t l => commitLine_keeps p hhbm hwbuf t l) _ s)

section
variable (s : State) (cells : List (Nat × Byte))

@[simp] theorem overPut_regs : (s.overPut cells).regs = s.regs := overPut_keeps State.regs (fun _ _ => rfl) (fun _ _ => rfl) cells s
@[simp] theorem overPut_hlp : (s.overPut cells).hlp = s.hlp := overPut_keeps State.hlp (fun _ _ => rfl) (fun _ _ => rfl) cells s
@[simp] theorem overPut_sent : (s.overPut cells).sent = s.sent := overPut_keeps State.sent (fun _ _ => rfl) (fun _ _ => rfl) cells s
@[simp] theorem overPut_reqs : (s.overPut cells).reqs = s.reqs := overPut_keeps State.reqs (fun _ _ => rfl) (fun _ _ => rfl) cells s
@[simp] theorem overPut_ctxs : (s.overPut cells).ctxs = s.ctxs := overPut_keeps State.ctxs (fun _ _ => rfl) (fun _ _ => rfl) cells s
@[simp] theorem overPut_time : (s.overPut cells).time = s.time := overPut_keeps State.time (fun _ _ => rfl) (fun _ _ => rfl) cells s
@[simp] theorem rd_overPut (f : Field) (i : Nat) : (s.overPut cells).rd f i = s.rd f i := by
  rw [State.rd, overPut_regs, State.rd]

end

/-! ## Stores over what was accepted before them -/

section
variable (s : State)

/-- A store's bytes. -/
theorem sysByte_overPut_cellsAt {a i : Nat} {bs : List Byte} (hi : i < bs.length) (ha : a + i < hbmSize) :
    (s.overPut (cellsAt a bs)).sysByte (a + i) = bs[i] := sysByte_putCells_cellsAt _ hi ha

/-- A store leaves the bytes of the lines it does not touch alone. -/
theorem bytes_overPut_ne {cells : List (Nat × Byte)} {b : Nat} (h : ∀ c ∈ cells, lineOf c.1 ≠ lineOf b) :
    (s.overPut cells).sysByte b = s.sysByte b ∧ (s.overPut cells).dieByte b = s.dieByte b := by
  have hline : lineOf b ∉ linesOf cells := fun hmem => by
    obtain ⟨c, hc, hcb⟩ := mem_linesOf.1 hmem
    exact h c hc hcb
  have hname : ∀ c ∈ cells, c.1 ≠ b := fun c hc hcb => h c hc (by rw [hcb])
  obtain ⟨hsys, hdie⟩ := bytes_commitLines_ne s (linesOf cells) hline
  exact ⟨(sysByte_putCells_out cells _ b hname).trans hsys, (dieByte_putCells_out cells _ b hname).trans hdie⟩

/-- Where no accepted store waits in its lines, a store changes the bytes it names alone. -/
theorem bytes_overPut_of_clean {cells : List (Nat × Byte)} {b : Nat}
    (hclean : ∀ l ∈ linesOf cells, ∀ st ∈ s.wbuf, ∀ c ∈ st.cells, lineOf c.1 ≠ l) (h : ∀ c ∈ cells, c.1 ≠ b) :
    (s.overPut cells).sysByte b = s.sysByte b ∧ (s.overPut cells).dieByte b = s.dieByte b := by
  have hlines : (∀ st ∈ ((linesOf cells).foldl State.commitLine s).wbuf, ∀ c ∈ st.cells, ∃ st' ∈ s.wbuf, c ∈ st'.cells) ∧
      ((linesOf cells).foldl State.commitLine s).sysByte b = s.sysByte b ∧
      ((linesOf cells).foldl State.commitLine s).dieByte b = s.dieByte b := by
    refine List.foldlRecOn (motive := fun t : State => (∀ st ∈ t.wbuf, ∀ c ∈ st.cells, ∃ st' ∈ s.wbuf, c ∈ st'.cells) ∧
      t.sysByte b = s.sysByte b ∧ t.dieByte b = s.dieByte b) (linesOf cells) _ ⟨fun st hst c hc => ⟨st, hst, hc⟩, rfl, rfl⟩
      fun t ht l hl => ?_
    obtain ⟨hsub, hsys, hdie⟩ := ht
    have hfree : ∀ st ∈ t.wbuf, ∀ c ∈ st.cells, lineOf c.1 ≠ l := fun st hst c hc => by
      obtain ⟨st', hst', hc'⟩ := hsub st hst c hc
      exact hclean l hl st' hst' c hc'
    refine ⟨fun st hst c hc => ?_, (sysByte_commitLine_of_clean t l hfree b).trans hsys,
      (dieByte_commitLine_of_clean t l hfree b).trans hdie⟩
    rw [commitLine_wbuf, List.mem_map] at hst
    obtain ⟨st, hst, rfl⟩ := hst
    exact hsub st hst c (List.mem_filter.1 hc).1
  exact ⟨(sysByte_putCells_out cells _ b h).trans hlines.2.1, (dieByte_putCells_out cells _ b h).trans hlines.2.2⟩

end

end Sys2Proof.Laws

/-! # Write-backs, recalls and window control

Write-backs through a window reach HBM (R331), recalled lines are given up (R41), and a window opens and closes (R37, R39). -/
namespace Sys2Proof.Laws

open Sys2Proof.Machine

/-! ## Write-backs (R331) -/

/-- Settles the first half of O11: a write-back of a whole or part line that no core shares. -/
theorem writeBack_reaches_hbm {s : State} {hpa n : Nat} {data : List Byte} (hwin : s.windowAt hpa = some n)
    (hready : s.ready = true) (hok : s.winRefusal hpa true = none) (hcredit : s.credit .window = true)
    (hawake : s.drowse = false)
    (hheld : s.hostHeld (lineOf (s.winAddr n hpa)) = true →
      s.on .WIN_COHERENT n = true ∧ s.hostExcl (lineOf (s.winAddr n hpa)) = true)
    (hfits : s.winAddr n hpa % 64 + data.length ≤ 64) :
    ∃ u, s.writeBack hpa data = u ∧ u.regs = s.regs ∧ u.sent = .poolCredit .window :: .windowAck hpa :: s.sent ∧
      u.hbm = (s.overPut (cellsAt (s.winAddr n hpa) data)).hbm ∧ u.wbuf = (s.overPut (cellsAt (s.winAddr n hpa) data)).wbuf := by
  refine ⟨_, rfl, ?_⟩
  have htake : data.take (64 - s.winAddr n hpa % 64) = data := List.take_of_length_le (by omega)
  have hfree : (s.hostHeld (lineOf (s.winAddr n hpa)) &&
      !(s.on .WIN_COHERENT n && s.hostExcl (lineOf (s.winAddr n hpa)))) = false := by
    cases h : s.hostHeld (lineOf (s.winAddr n hpa)) with
    | false => rfl
    | true =>
      obtain ⟨hcoh, hexcl⟩ := hheld h
      simp [hcoh, hexcl]
  rw [writeBack_of_ready hready, hostAccess_of_unrefused hok hcredit hawake, State.lineAct, State.hostStore, hwin]
  simp only [htake, hfree, Bool.false_eq_true, if_false]
  split
  · exact ⟨overPut_regs s _, by simp [State.giveCredit], rfl, rfl⟩
  · exact ⟨overPut_regs s _, by simp [State.giveCredit], rfl, rfl⟩

/-- The bytes of a state are those of its stores. -/
theorem bytes_congr {s t : State} (hh : t.hbm = s.hbm) (hw : t.wbuf = s.wbuf) (a : Nat) :
    t.sysByte a = s.sysByte a ∧ t.dieByte a = s.dieByte a := sameMem_of_eq hh hw a

/-! ## Recalls (R41) -/

/-- A run of the accesses that wait for a line where none does. -/
theorem runWaits_of_none {s : State} {line : Nat} (h : ∀ w ∈ s.hlp.waits, w.line ≠ line) : s.runWaits line = s := by
  have hmine : s.hlp.waits.filter (fun w => w.line == line) = [] :=
    List.filter_eq_nil_iff.2 fun w hw => by simpa using h w hw
  have hrest : s.hlp.waits.filter (fun w => w.line != line) = s.hlp.waits :=
    List.filter_eq_self.2 fun w hw => by simpa using h w hw
  simp only [State.runWaits, hmine, hrest, List.foldl_nil]

/-- What merges the data of a recalled line that a host core held exclusive. -/
def merged (s : State) (line : Nat) (data : Option (List Byte)) : State :=
  match data with
  | some d => if s.hostExcl line then s.overPut (cellsAt (line * 64) (slice d 0 64)) else s
  | none => s

/-- The snoop filter once a recalled line has been given up, or all but one copy of it. -/
def givenUp (s : State) (line : Nat) : List HostLine :=
  if s.hlp.soft.contains line then updAll s.hlp.filter (fun x => x.line == line) (fun x => { x with excl := false, sharers := 1 })
  else s.hlp.filter.filter (fun x => x.line != line)

section
variable (s : State) (line : Nat) (data : Option (List Byte))

@[simp] theorem merged_regs : (merged s line data).regs = s.regs := by
  unfold merged
  split
  · split
    · exact overPut_regs s _
    · rfl
  · rfl

@[simp] theorem merged_hlp : (merged s line data).hlp = s.hlp := by
  unfold merged
  split
  · split
    · exact overPut_hlp s _
    · rfl
  · rfl

theorem bytes_merged_ne {a : Nat} (h : lineOf a ≠ line) :
    (merged s line data).sysByte a = s.sysByte a ∧ (merged s line data).dieByte a = s.dieByte a := by
  unfold merged
  split
  · next d =>
    split
    · refine bytes_overPut_ne s fun c hc e => h ?_
      have hlen : (slice d 0 64).length = 64 := by simp [slice, zeros]
      have := lineOf_of_mem_cellsAt hc
      rw [hlen] at this
      rw [← e, lineOf]
      omega
    · exact ⟨rfl, rfl⟩
  · exact ⟨rfl, rfl⟩

theorem givenUp_excl : (givenUp s line).any (fun h => h.line == line && h.excl) = false := by
  unfold givenUp
  split
  · simp only [updAll, List.any_map, List.any_eq_false]
    intro h _
    by_cases hl : h.line = line <;> simp [hl]
  · simp only [List.any_eq_false, List.mem_filter]
    rintro h ⟨-, hne⟩
    simp [by simpa using hne]

theorem givenUp_held : (givenUp s line).any (fun h => h.line == line) = (s.hostHeld line && s.hlp.soft.contains line) := by
  unfold givenUp State.hostHeld
  split
  · next hsoft =>
    rw [hsoft, Bool.and_true, updAll, List.any_map]
    congr 1
    funext h
    by_cases hl : h.line = line <;> simp [hl]
  · next hsoft =>
    rw [Bool.not_eq_true] at hsoft
    rw [hsoft, Bool.and_false]
    simp only [List.any_eq_false, List.mem_filter]
    rintro h ⟨-, hne⟩
    simpa using hne

end

/-- The state once the host has given up a line for which no access waits. -/
def responded (s : State) (line : Nat) (data : Option (List Byte)) : State :=
  { merged s line data with hlp := { s.hlp with
      filter := givenUp s line, recalls := s.hlp.recalls.filter (fun l => l != line),
      soft := s.hlp.soft.filter (fun l => l != line) } }

/-- The lines that the filter records, of a copy that stays, are those it recorded. -/
theorem givenUp_lines {s : State} {line : Nat} (h : s.hlp.soft.contains line = true) :
    (givenUp s line).map HostLine.line = s.hlp.filter.map HostLine.line := by
  rw [givenUp, if_pos h, updAll, List.map_map]
  refine List.map_congr_left fun x _ => ?_
  by_cases hx : x.line = line <;> simp [hx]

theorem recallResponse_of_unwaited {s : State} {line : Nat} {data : Option (List Byte)}
    (hrecalled : s.hlp.recalls.contains line = true) (hwaits : ∀ w ∈ s.hlp.waits, w.line ≠ line)
    (hkept : s.hlp.soft.contains line = true → s.mustGo line = false) :
    s.recallResponse line data = responded s line data := by
  have hrun : (responded s line data).runWaits line = responded s line data := runWaits_of_none hwaits
  have hstays : ((responded s line data).hostHeld line && (responded s line data).mustGo line) = false := by
    cases hsoft : s.hlp.soft.contains line with
    | false =>
      have hgone : (responded s line data).hostHeld line = false := by
        rw [show (responded s line data).hostHeld line = (givenUp s line).any (fun h => h.line == line) from rfl, givenUp_held, hsoft,
          Bool.and_false]
      rw [hgone, Bool.false_and]
    | true =>
      have hrd (f : Field) (i : Nat) : (responded s line data).rd f i = s.rd f i :=
        show (merged s line data).rd f i = s.rd f i by rw [State.rd, merged_regs, State.rd]
      have hmust : (responded s line data).mustGo line = s.mustGo line := by
        have hheld (a k : Nat) : (responded s line data).heldIn a k = s.heldIn a k := by
          rw [State.heldIn, show (responded s line data).hlp.filter = givenUp s line from rfl, givenUp_lines hsoft, State.heldIn]
        simp only [State.mustGo, State.winHeld, State.winRange, State.granSealed, State.hostAway, State.headless, State.ready, State.on,
          hrd, hheld]
        rfl
      rw [hmust, hkept hsoft, Bool.and_false]
  have hmerged : s.recallResponse line data = (let t := (responded s line data).runWaits line
      if t.hostHeld line && t.mustGo line then t.recall line else t) := by
    unfold State.recallResponse
    simp only [hrecalled, Bool.not_true, Bool.false_eq_true, if_false]
    cases data with
    | none => rfl
    | some d =>
      by_cases hexcl : s.hostExcl line = true
      · simp only [hexcl, if_true, overPut_hlp, responded, merged, givenUp]
      · simp only [hexcl, responded, merged, givenUp]
        rfl
  rw [hmerged, hrun]
  simp only [hstays, Bool.false_eq_true, if_false]

/-- Settles O11 (R41, R331). -/
theorem writeBacksAndRecalls : Obligations.WriteBacksAndRecalls := by
  refine ⟨?_, fun s line data hrecalled hwaits hkept => ⟨_, rfl, ?_⟩, fun s line data hnot => ⟨_, rfl, ?_⟩⟩
  · intro s hpa n data hwin hready hok hcredit hawake a hheld hfits hsize
    refine ⟨_, rfl, ?_⟩
    obtain ⟨u, hu, hregs, hsent, hhbm, hwbuf⟩ := writeBack_reaches_hbm hwin hready hok hcredit hawake hheld hfits
    rw [hu]
    have hbytes (b : Nat) : u.sysByte b = (s.overPut (cellsAt a data)).sysByte b ∧
        u.dieByte b = (s.overPut (cellsAt a data)).dieByte b := bytes_congr hhbm hwbuf b
    have hline {c : Nat × Byte} (hc : c ∈ cellsAt a data) : lineOf c.1 = lineOf a := by
      have := lineOf_of_mem_cellsAt hc
      simp only [lineOf]
      omega
    refine ⟨fun f i _ => by rw [State.rd, hregs, State.rd], hsent, fun i hi => ?_, fun b hb => ?_, fun hclean b hb => ?_⟩
    · rw [(hbytes _).1, sysByte_overPut_cellsAt s hi (by omega)]
      simp [nth, hi]
    · rw [(hbytes b).1, (hbytes b).2]
      exact bytes_overPut_ne s fun c hc e => hb ((hline hc).symm.trans e).symm
    · rw [(hbytes b).1, (hbytes b).2]
      refine bytes_overPut_of_clean s (fun l hl st hst c hc => ?_) fun c hc e => ?_
      · obtain ⟨c', hc', rfl⟩ := mem_linesOf.1 hl
        rw [hline hc']
        exact hclean st hst c hc
      · have := lineOf_of_mem_cellsAt hc
        omega
  · rw [recallResponse_of_unwaited hrecalled hwaits hkept]
    have hbytes (b : Nat) := bytes_congr (s := merged s line data) (t := responded s line data) rfl rfl b
    refine ⟨fun f i _ => by rw [State.rd, show (responded s line data).regs = s.regs from merged_regs s line data, State.rd],
      givenUp_excl s line, givenUp_held s line, by simp [responded], fun a ha => ?_, fun d i hd hexcl hlen hi hsize => ?_⟩
    · rw [(hbytes a).1, (hbytes a).2]
      exact bytes_merged_ne s line data ha
    · subst hd
      have hslice : slice d 0 64 = d := by simp [slice, hlen, zeros]
      rw [(hbytes _).1, merged]
      simp only [hexcl, if_true, hslice]
      rw [sysByte_overPut_cellsAt s (by omega) (by omega)]
      simp [nth, hlen, hi]
  · unfold State.recallResponse
    simp only [hnot, Bool.not_false, if_true]

/-! ## The fields of a register (R6, R493) -/

/-- A write of fields keeps whatever every write of a register keeps. -/
theorem writeFields_keeps {β : Type} (p : State → β) (hwr : ∀ t f v i, p (t.wr f v i) = p t) (s : State) (size half v : Nat)
    (fs : List (Field × Nat)) : p (s.writeFields size half v fs) = p s := by
  refine foldl_keeps p (fun t q => ?_) fs s
  simp only
  split
  · exact hwr t _ _ _
  · split
    · exact fieldWrite_keeps p (fun t v => hwr t _ v _) t _
    · rfl

section
variable (s : State) (off size half v : Nat)

theorem regWrite_keeps {β : Type} (p : State → β) (hwr : ∀ t f v i, p (t.wr f v i) = p t) :
    p (s.regWrite off size half v) = p s := writeFields_keeps p hwr s size half v _

@[simp] theorem regWrite_hbm : (s.regWrite off size half v).hbm = s.hbm := regWrite_keeps s off size half v State.hbm fun _ _ _ _ => rfl
@[simp] theorem regWrite_wbuf : (s.regWrite off size half v).wbuf = s.wbuf :=
  regWrite_keeps s off size half v State.wbuf fun _ _ _ _ => rfl
@[simp] theorem regWrite_hlp : (s.regWrite off size half v).hlp = s.hlp := regWrite_keeps s off size half v State.hlp fun _ _ _ _ => rfl

theorem sameMem_regWrite : sameMem s (s.regWrite off size half v) := sameMem_of_eq (regWrite_hbm s off size half v) (regWrite_wbuf s off size half v)

/-- An 8-byte write reaches every field whole, so none is reported as spanning. -/
theorem heldWrite_eight : s.heldWrite off 8 = s := by simp [State.heldWrite, spans]

end

/-! ## Where a BAR0 write goes (R33) -/

/-- A well-formed BAR0 write that is heard reaches its register. -/
theorem barWrite_of_hears {s : State} (h : s.hears) {o half size : Nat} (ho : o % 8 = 0) (hsize : okSize half size) (v : Nat) :
    s.barWrite (o + 4 * half) size v = s.place o size half (v % 2 ^ (8 * size)) := by
  obtain ⟨hmse, hready, hhere⟩ := h
  have hreg : (o + 4 * half) / 8 * 8 = o := by rcases hsize with ⟨rfl, rfl⟩ | ⟨hh, rfl⟩ <;> omega
  have hhalf : (if (o + 4 * half) % 8 = 0 then 0 else 1) = half := by
    rcases hsize with ⟨rfl, rfl⟩ | ⟨hh, rfl⟩ <;> split <;> omega
  have hgood : ((size == 4 || size == 8) && (o + 4 * half) % max size 1 == 0) = true := by
    rcases hsize with ⟨rfl, rfl⟩ | ⟨hh, rfl⟩ <;> simp <;> omega
  simp only [State.barWrite, hmse, State.inReset, hready, hhere, hreg, hhalf, hgood]
  rfl

theorem barWrite_of_hears_eight {s : State} (h : s.hears) {o : Nat} (ho : o % 8 = 0) (v : Nat) :
    s.barWrite o 8 v = s.place o 8 0 (v % 2 ^ 64) := barWrite_of_hears (half := 0) h ho (.inl ⟨rfl, rfl⟩) v

/-- A write to a register at which nothing waits is over with its own effect. -/
theorem hostWrite_plain (s : State) {off size : Nat} (v : Nat) (hring : off / 8 * 8 ≠ 0x10028 ∧ off / 8 * 8 ≠ 0x900028)
    (helog : ¬ (0x510300 ≤ off / 8 * 8 ∧ off / 8 * 8 < 0x510500)) (htl : off / 8 * 8 ≠ 0x38 ∧ off / 8 * 8 < 0x1000000) :
    s.hostWrite off size v = (s.barWrite off size v).giveCredit .register := by
  have h1 : ¬ (off / 8 * 8 = 0x10028 ∨ off / 8 * 8 = 0x900028 ∨ (0x510300 ≤ off / 8 * 8 ∧ off / 8 * 8 < 0x510500)) := by tauto
  have h2 : ¬ (off / 8 * 8 = 0x38 ∨ 0x1000000 ≤ off / 8 * 8) := by omega
  simp only [State.hostWrite, if_neg h1, if_neg h2]

/-! ## Window control (R37, R39) -/

/-- An 8-byte write of window n's control register. -/
theorem does_winCtl {s : State} {n v : Nat} {P : State → Prop} (hs : s.hears) (hn : n < 256)
    (h : P (s.close ((s.winCtl n 8 0 (v % 2 ^ 64)).giveCredit .register))) : does (.winCtlWrite n 0 8 v) s P := by
  refine ⟨_, ?_, h⟩
  have hoff : 0x11010 + 0x20 * n + 4 * (0 % 2) = 0x11010 + 0x20 * n := by omega
  have hplace : s.place (0x11010 + 0x20 * n) 8 0 (v % 2 ^ 64) = s.winCtl n 8 0 (v % 2 ^ 64) := by
    have h1 : ¬ 0x1000000 ≤ 0x11010 + 0x20 * n := by omega
    have h2 : ¬ (0x740000 ≤ 0x11010 + 0x20 * n ∧ 0x11010 + 0x20 * n < 0x780000) := by omega
    have h3 : 0x11000 ≤ 0x11010 + 0x20 * n ∧ 0x11010 + 0x20 * n < 0x13000 := by omega
    have h4 : ¬ (0x11010 + 0x20 * n - 0x11000) % 0x20 = 0x18 := by omega
    have h5 : (0x11010 + 0x20 * n - 0x11000) / 0x20 = n := by omega
    have h6 : (0x11010 + 0x20 * n - 0x11000) % 0x20 / 8 = 2 := by omega
    rw [State.place, if_neg h1, if_neg h2, if_pos h3, if_neg h4, h5, h6]
    rfl
  rw [exec, execWinCtlWrite, if_pos hn, hoff, hostWrite_plain s v (by omega) (by omega) (by omega),
    barWrite_of_hears_eight hs (by omega), hplace]
  rfl

section
variable (s : State) (l : Nat)

@[simp] theorem recall_regs : (s.recall l).regs = s.regs := by
  unfold State.recall
  split <;> rfl
@[simp] theorem recall_hbm : (s.recall l).hbm = s.hbm := by
  unfold State.recall
  split <;> rfl
@[simp] theorem recall_wbuf : (s.recall l).wbuf = s.wbuf := by
  unfold State.recall
  split <;> rfl
@[simp] theorem recall_closing : (s.recall l).hlp.closing = s.hlp.closing := by
  unfold State.recall
  split <;> rfl
@[simp] theorem recall_filter : (s.recall l).hlp.filter = s.hlp.filter := by
  unfold State.recall
  split <;> rfl
@[simp] theorem recall_leaving : (s.recall l).hlp.leaving = s.hlp.leaving := by
  unfold State.recall
  split <;> rfl

theorem still_recall : still s (s.recall l) := ⟨recall_regs s l, recall_hbm s l, recall_wbuf s l⟩

/-- A recalled line is being recalled, and so are those that were. -/
theorem mem_recalls_recall (m : Nat) : m ∈ (s.recall l).hlp.recalls ↔ m = l ∨ m ∈ s.hlp.recalls := by
  unfold State.recall
  split
  · next h =>
    rw [List.contains_iff_mem] at h
    exact ⟨.inr, fun hm => hm.elim (fun e => e ▸ h) id⟩
  · simp [or_comm]

end

/-- A run of recalls brings each of its lines into recall. -/
theorem mem_recalls_foldl {ls : List Nat} {s : State} {m : Nat} :
    m ∈ (ls.foldl State.recall s).hlp.recalls ↔ m ∈ ls ∨ m ∈ s.hlp.recalls := by
  induction ls generalizing s with
  | nil => simp
  | cons l ls ih => rw [List.foldl_cons, ih, mem_recalls_recall, List.mem_cons, or_left_comm, or_assoc]

theorem winRange_aligned (s : State) (n : Nat) : (s.winRange n).1 % 64 = 0 ∧ (s.winRange n).2 % 64 = 0 := by
  simp only [State.winRange, granule]
  omega

theorem winRange_le_of_winOk {s : State} {n : Nat} (h : s.winOk n = true) : (s.winRange n).1 + (s.winRange n).2 ≤ hbmSize := by
  simp only [State.winOk, Bool.and_eq_true, decide_eq_true_eq] at h
  obtain ⟨⟨⟨⟨-, hsize⟩, -⟩, -⟩, -⟩ := h
  exact hsize

/-- A window that passes its checks opens: its control register has taken the write, and where it is coherent the stores
accepted for its lines are committed. -/
theorem winCtl_of_ok {s : State} {n v : Nat} (hshut : s.on .WIN_EN n = false)
    (hok : (s.regWrite (0x11010 + 0x20 * n) 8 0 v).winOk n = true) :
    let t := s.regWrite (0x11010 + 0x20 * n) 8 0 v
    s.winCtl n 8 0 v = (if t.on .WIN_EN n && t.on .WIN_COHERENT n then t.commitRange (t.winRange n).1 (t.winRange n).2 else t).wr
      .WIN_CFG_ERR 0 n := by
  simp [State.winCtl, hshut, hok]

/-- A window that fails its checks stays shut, and the failure is reported. -/
theorem winCtl_of_bad {s : State} {n v : Nat} (hshut : s.on .WIN_EN n = false)
    (hbad : (s.regWrite (0x11010 + 0x20 * n) 8 0 v).winOk n = false)
    (hen : (s.regWrite (0x11010 + 0x20 * n) 8 0 v).on .WIN_EN n = true) :
    s.winCtl n 8 0 v = (s.wr .WIN_CFG_ERR 1 n).wr .HLP_ERR_WIN_CFG 1 := by
  simp [State.winCtl, hshut, hbad, hen]

/-- Settles O12 (R37, R39, R309). -/
theorem windowControl : Obligations.WindowControl := by
  refine ⟨?_,
    fun s n v hs hn hopen hfresh heven => does_winCtl hs hn ?_, fun s n hclosing hwaits hheld => ⟨_, rfl, ?_⟩⟩
  · intro s n v hs hn hshut t
    refine ⟨fun hok => does_winCtl hs hn ?_, fun hbad hen => does_winCtl hs hn ?_⟩
    · have hctl : s.winCtl n 8 0 (v % 2 ^ 64) = (if t.on .WIN_EN n && t.on .WIN_COHERENT n then
          t.commitRange (t.winRange n).1 (t.winRange n).2 else t).wr .WIN_CFG_ERR 0 n := winCtl_of_ok hshut hok
      obtain ⟨hlo, hlen⟩ := winRange_aligned t n
      have hmem : ∀ a, t.sysByte a = s.sysByte a ∧ t.dieByte a = s.dieByte a := sameMem_regWrite s _ _ _ _
      have honce (h : onceEach s) : onceEach t := fun st hst => h st (by rwa [regWrite_wbuf] at hst)
      rw [hctl]
      clear_value t
      simp only [rd_close, rd_giveCredit, sysByte_close, dieByte_close, sysByte_giveCredit, dieByte_giveCredit, sysByte_wr, dieByte_wr]
      refine ⟨by simp, fun f i hfi => ?_, fun a ha => ?_, fun hnot => ?_, fun hen hcoh hnames a hlo' hhi => ?_⟩
      · have hne : Field.WIN_CFG_ERR ≠ f ∨ n ≠ i := by
          by_contra hc
          push Not at hc
          exact hfi (by rw [hc.1, hc.2])
        rw [rd_wr_ne _ _ hne]
        split
        · exact commitRange_keeps (fun u => u.rd f i) (fun _ _ => rfl) (fun _ _ => rfl) _ _ _
        · rfl
      · rw [← (hmem a).1, ← (hmem a).2]
        split
        · exact bytes_commitRange_ne t hlo hlen ha
        · exact ⟨rfl, rfl⟩
      · rw [sameMem_close_iff, sameMem_giveCredit, sameMem_wr, if_neg (by rcases hnot with h | h <;> simp [h])]
        exact hmem
      · have hsize := winRange_le_of_winOk hok
        rw [← (hmem a).2, if_pos (by simp [hen, hcoh])]
        exact bytes_commitRange (honce hnames) hlo hlen ⟨hlo', hhi⟩ (by omega)
    · have hctl : s.winCtl n 8 0 (v % 2 ^ 64) = (s.wr .WIN_CFG_ERR 1 n).wr .HLP_ERR_WIN_CFG 1 :=
        winCtl_of_bad hshut hbad hen
      rw [hctl]
      refine ⟨by simp, ?_, by simp, ?_⟩
      · rw [rd_close, rd_giveCredit, rd_wr_ne _ _ (.inl (by decide)), rd_wr_one]
      · rw [onlyRegs_close_iff, onlyRegs_giveCredit]
        exact onlyRegs_wr (onlyRegs_wr (onlyRegs_refl s _) (by simp) _) (by simp) _
  · have hcleared : bits (v % 2 ^ 64) 0 1 = 0 := by
      rw [bits_mod_two_pow v (by decide)]
      simpa [bits] using heven
    have hctl : s.winCtl n 8 0 (v % 2 ^ 64) = s.closeWindow n := by
      simp only [State.winCtl, hopen, if_true, heldWrite_eight, hcleared, hfresh]
      rfl
    have hclose : still s (s.closeWindow n) ∧ (s.closeWindow n).hlp.closing = s.hlp.closing ++ [n] :=
      ⟨still.trans (t := { s with hlp := { s.hlp with closing := s.hlp.closing ++ [n] } }) ⟨rfl, rfl, rfl⟩
        (still_foldl still_recall _ _), foldl_keeps (fun t : State => t.hlp.closing) recall_closing _ _⟩
    obtain ⟨hkept, hnow⟩ := hclose
    rw [hctl]
    refine ⟨by simpa using hkept.sameMem, by simpa using hkept.onlyRegs _, ?_⟩
    simp [State.giveCredit, State.say, hnow]
  · have hheld' : s.winHeld n = [] := by
      unfold State.winHeld
      split
      · exact hheld
      · rfl
    have hdone : s.closeComplete n =
        { s.wr .WIN_EN 0 n with hlp := { s.hlp with closing := s.hlp.closing.filter (fun m => m != n) } } := by
      simp [State.closeComplete, hwaits, hheld', show n ∈ s.hlp.closing by simpa using hclosing]
    rw [hdone]
    refine ⟨(sameMem_close_iff _ _ _).2 (sameMem_of_eq rfl rfl), ?_, ?_, by simp⟩
    · rw [rd_close]
      exact (rd_wr_same s .WIN_EN 0 n).trans (Nat.zero_mod _)
    · rw [onlyRegs_close_iff]
      exact onlyRegs_wr (f := .WIN_EN) (i := n) (onlyRegs_refl s _) (by simp) 0

end Sys2Proof.Laws

/-! # Registers and their fields

Which fields lie in a register, and what a write of a register does to each of them (R6, R493). -/
namespace Sys2Proof.Laws

open Sys2Proof.Machine

/-! ## The fields in a register -/

theorem fieldsAt_eq (o : Nat) : fieldsAt o = Field.all.flatMap (fun f => (f.elemsAt o).map (fun i => (f, i))) := by
  rw [fieldsAt]
  induction Field.all with
  | nil => rfl
  | cons f fs ih => rw [List.foldr_cons, ih, List.flatMap_cons]

theorem mem_fieldsAt {o : Nat} {f : Field} {i : Nat} : (f, i) ∈ fieldsAt o ↔ i ∈ f.elemsAt o := by
  have hmem : f ∈ Field.all := List.mem_of_getElem? (field_all_num f)
  simp [fieldsAt_eq, hmem]

theorem nodup_elemsAt (f : Field) (o : Nat) : (f.elemsAt o).Nodup := by
  unfold Field.elemsAt
  simp only
  split
  · exact List.nodup_nil
  · split
    · split
      · exact List.nodup_singleton 0
      · exact List.nodup_nil
    · split
      · exact List.nodup_nil
      · exact (List.nodup_range.map fun _ _ h => Nat.add_left_cancel h).filter _

/-- A register holds each of its fields once. -/
theorem nodup_fieldsAt (o : Nat) : (fieldsAt o).Nodup := by
  have hall : Field.all.Nodup := List.Nodup.of_map Field.num (all_map_num ▸ List.nodup_range)
  rw [fieldsAt_eq, List.nodup_flatMap]
  refine ⟨fun f _ => (nodup_elemsAt f o).map fun _ _ h => (Prod.mk.inj h).2, hall.imp fun {f g} hne => ?_⟩
  rintro ⟨h, i⟩ hf hg
  simp only [List.mem_map, Prod.mk.injEq] at hf hg
  obtain ⟨-, -, rfl, -⟩ := hf
  obtain ⟨-, -, hgf, -⟩ := hg
  exact hne hgf.symm

/-- A field lies within the 64 bits of its register. -/
theorem bitOf_add_width_le (f : Field) (i : Nat) : f.row.bitOf i + f.row.width ≤ 64 := by
  have hrow : 0 < f.row.perReg ∧ f.row.lo + f.row.bitStep * (f.row.perReg - 1) + f.row.width ≤ 64 :=
    field_forall (P := fun f => 0 < f.row.perReg ∧ f.row.lo + f.row.bitStep * (f.row.perReg - 1) + f.row.width ≤ 64)
      (by decide +kernel) f
  obtain ⟨hper, hlast⟩ := hrow
  have hi := Nat.mod_lt i hper
  have := Nat.mul_le_mul_left f.row.bitStep (show i % f.row.perReg ≤ f.row.perReg - 1 by omega)
  simp only [Row.bitOf]
  omega

/-! ## What a write of fields does (R6) -/

section
variable (s : State) (size half v : Nat) (fs : List (Field × Nat))

/-- A write of fields changes those fields, and reports one that spans the halves. -/
theorem onlyRegs_writeFields : onlyRegs s (s.writeFields size half v fs) ((.HLP_ERR_BAD_REG, 0) :: fs) := by
  refine List.foldlRecOn (motive := fun t => onlyRegs s t ((.HLP_ERR_BAD_REG, 0) :: fs)) fs _ (onlyRegs_refl s _) fun t ht p hp => ?_
  simp only
  split
  · exact onlyRegs_wr ht (by simp) _
  · split
    · intro f i hfi
      rw [rd_fieldWrite_ne t _ ?_, ht f i hfi]
      by_contra hc
      push Not at hc
      exact hfi (List.mem_cons_of_mem _ (hc.1 ▸ hc.2 ▸ hp))
    · exact ht

/-- A write of fields none of which spans the halves changes those fields alone. -/
theorem onlyRegs_writeFields_of_whole (h : ∀ p ∈ fs, spans (p.1.row.bitOf p.2) p.1.row.width size = false) :
    onlyRegs s (s.writeFields size half v fs) fs := by
  refine List.foldlRecOn (motive := fun t => onlyRegs s t fs) fs _ (onlyRegs_refl s _) fun t ht p hp => ?_
  simp only [h p hp, Bool.false_eq_true, if_false]
  split
  · intro f i hfi
    rw [rd_fieldWrite_ne t _ ?_, ht f i hfi]
    by_contra hc
    push Not at hc
    exact hfi (hc.1 ▸ hc.2 ▸ hp)
  · exact ht

/-- What a write of fields makes of one that is RW. -/
theorem rd_writeFields_RW {fs : List (Field × Nat)} (hnodup : fs.Nodup) {f : Field} {i : Nat} (hm : (f, i) ∈ fs)
    (hrw : f.row.access = .RW) (s : State) : (s.writeFields size half v fs).rd f i =
      if spans (f.row.bitOf i) f.row.width size then s.rd f i
      else if reaches (f.row.bitOf i) f.row.width size half then
        bits (if half = 0 then v else v * 2 ^ 32) (f.row.bitOf i) f.row.width
      else s.rd f i := by
  have hbad : f ≠ .HLP_ERR_BAD_REG := by
    rintro rfl
    cases hrw
  induction fs generalizing s with
  | nil => cases hm
  | cons p fs ih =>
    rw [List.nodup_cons] at hnodup
    obtain ⟨hnew, hrest⟩ := hnodup
    have hcons (s : State) : s.writeFields size half v (p :: fs) =
        (s.writeFields size half v [p]).writeFields size half v fs := rfl
    rw [hcons]
    rcases List.mem_cons.1 hm with rfl | hm
    · rw [onlyRegs_writeFields _ size half v fs f i (by simp [hbad, hnew])]
      simp only [State.writeFields, List.foldl_cons, List.foldl_nil]
      split
      · exact rd_wr_ne s _ (.inl hbad.symm)
      · split
        · rw [fieldWrite_of_RW _ hrw, rd_wr_same]
          exact Nat.mod_mod _ _
        · rfl
    · have hne : (f, i) ≠ p := fun e => hnew (e ▸ hm)
      rw [ih hrest hm, onlyRegs_writeFields s size half v [p] f i (by simp [hbad, hne])]

end

section
variable (s : State) (o size half v : Nat)

theorem onlyRegs_regWrite : onlyRegs s (s.regWrite o size half v) ((.HLP_ERR_BAD_REG, 0) :: fieldsAt o) :=
  onlyRegs_writeFields s size half v _

theorem onlyRegs_regWrite_eight : onlyRegs s (s.regWrite o 8 half v) (fieldsAt o) :=
  onlyRegs_writeFields_of_whole s 8 half v _ fun _ _ => rfl

/-- An 8-byte write of a register gives each RW field its bits. -/
theorem rd_regWrite_eight {o : Nat} {f : Field} {i : Nat} (hm : (f, i) ∈ fieldsAt o) (hrw : f.row.access = .RW) :
    (s.regWrite o 8 0 (v % 2 ^ 64)).rd f i = bits v (f.row.bitOf i) f.row.width := by
  rw [State.regWrite, rd_writeFields_RW 8 0 _ (nodup_fieldsAt o) hm hrw]
  exact bits_mod_two_pow v (bitOf_add_width_le f i)

/-- Where the reset of no flask holds a field, a write of the register is one of its fields. -/
theorem plainWrite_of_unheld {s : State} {o : Nat} (h : ∀ p ∈ fieldsAt o, s.flaskHolds p = false) (size half v : Nat) :
    s.plainWrite o size half v = s.regWrite o size half v := by
  have hheld : (fieldsAt o).filter s.flaskHolds = [] := List.filter_eq_nil_iff.2 fun p hp => by simp [h p hp]
  have hrest : (fieldsAt o).filter (fun p => !s.flaskHolds p) = fieldsAt o := List.filter_eq_self.2 fun p hp => by simp [h p hp]
  simp only [State.plainWrite, hheld, hrest, List.any_nil, Bool.false_eq_true, if_false, State.regWrite]

end

end Sys2Proof.Laws

/-! # BAR0 writes

Writes that have no effect and what they report (R10, R33, R46); the heartbeat, and the read indexes of rings (R45, R47). -/
namespace Sys2Proof.Laws

open Sys2Proof.Machine

/-! ## After the write -/

theorem still_markWaiting (s : State) : still s s.markWaiting := ⟨rfl, rfl, rfl⟩

/-- What a write that settles nothing leaves: its own effect, in all that a statement about registers and memory sees. -/
theorem still_hostWrite (s : State) {off : Nat} (size v : Nat) (hring : off / 8 * 8 ≠ 0x10028) (hreceipt : off / 8 * 8 ≠ 0x900028)
    (helog : ¬ (0x510300 ≤ off / 8 * 8 ∧ off / 8 * 8 < 0x510500)) : still (s.barWrite off size v) (s.hostWrite off size v) := by
  have hcredit (t : State) : still t (t.giveCredit .register) := ⟨rfl, rfl, rfl⟩
  have hnone : ¬ (off / 8 * 8 = 0x10028 ∨ off / 8 * 8 = 0x900028 ∨ (0x510300 ≤ off / 8 * 8 ∧ off / 8 * 8 < 0x510500)) := by tauto
  simp only [State.hostWrite, if_neg hnone]
  split
  · exact (hcredit _).trans (still_markWaiting _)
  · exact hcredit _

/-- A BAR0 write whose effect is t, of which P speaks in registers and memory. -/
theorem does_registerWrite {s t : State} {off size v : Nat} {P : State → Prop} (hring : off / 8 * 8 ≠ 0x10028)
    (hreceipt : off / 8 * 8 ≠ 0x900028) (helog : ¬ (0x510300 ≤ off / 8 * 8 ∧ off / 8 * 8 < 0x510500))
    (ht : s.barWrite off size v = t) (hP : ∀ u, sameMem t u → (∀ f i, u.rd f i = t.rd f i) → P u) :
    does (.registerWrite off size v) s P := by
  have hstill := still_hostWrite s size v hring hreceipt helog
  rw [ht] at hstill
  exact ⟨_, rfl, hP _ (by simpa using hstill.sameMem) fun f i => by rw [rd_close, hstill.rd]⟩

/-! ## Writes that are not taken -/

section
variable {s : State} {off size v : Nat}

theorem barWrite_of_shut (h : s.on .CFG_MSE = false) : s.barWrite off size v = s := by simp [State.barWrite, h]

theorem barWrite_in_reset (hmse : s.on .CFG_MSE = true) (hreset : s.ready = false) (hsubmit : off / 8 * 8 ≠ 0xA00000)
    (htl : (s.blockReset && (size == 4 || size == 8) && off % size == 0 && (off / 8 * 8 == 0x38 || timelineAt (off / 8 * 8))) = false) :
    s.barWrite off size v = if isRegister (off / 8 * 8) then s.resetWrite else s := by
  have hgood : ¬ ((s.blockReset && ((size == 4 || size == 8) && off % max size 1 == 0) &&
      (decide (off / 8 * 8 = 0x38) || timelineAt (off / 8 * 8))) = true) := by
    rintro hc
    simp only [Bool.and_eq_true, Bool.or_eq_true, beq_iff_eq, decide_eq_true_eq] at hc
    obtain ⟨⟨hblock, hsize, halign⟩, hplace⟩ := hc
    have halign' : off % size = 0 := by rcases hsize with rfl | rfl <;> exact halign
    simp only [hblock, halign', Bool.true_and, Bool.and_true, beq_self_eq_true, Bool.and_eq_false_iff, Bool.or_eq_false_iff] at htl
    rcases htl with ⟨h4, h8⟩ | ⟨h38, htime⟩
    · rcases hsize with rfl | rfl
      · simp at h4
      · simp at h8
    · rcases hplace with h | h
      · simp [h] at h38
      · rw [htime] at h
        cases h
  simp only [State.barWrite, hmse, State.inReset, hreset, if_neg hsubmit]
  simp only [Bool.not_true, Bool.false_eq_true, if_false, Bool.not_false, if_true]
  exact if_neg (by simpa using hgood)

theorem barWrite_of_away (hmse : s.on .CFG_MSE = true) (hready : s.ready = true) (haway : s.hostAway = true)
    (hattach : off / 8 * 8 ≠ 0x10018) (herr : off / 8 * 8 ≠ 0x10048) :
    s.barWrite off size v = if isRegister (off / 8 * 8) then s.dropHost else s := by
  simp [State.barWrite, hmse, State.inReset, hready, haway, hattach, herr]

/-- A write of wrong size or alignment is reported. -/
theorem barWrite_of_bad (hs : s.hears) (hbad : (size ≠ 4 ∧ size ≠ 8) ∨ off % size ≠ 0) :
    s.barWrite off size v = if (0x740000 ≤ off ∧ off < 0x780000) ∨ off / 8 * 8 = 0x700020 then
      (s.wr .HLP_ERR_BAD_REG 1).wr .EV_ERR_BAD_STORE 1 else s.wr .HLP_ERR_BAD_REG 1 := by
  obtain ⟨hmse, hready, hhere⟩ := hs
  have hgood : ((size == 4 || size == 8) && off % max size 1 == 0) = false := by
    rw [Bool.eq_false_iff]
    intro hc
    simp only [Bool.and_eq_true, Bool.or_eq_true, beq_iff_eq] at hc
    obtain ⟨hsize, halign⟩ := hc
    rcases hsize with rfl | rfl
    · exact hbad.elim (fun h => h.1 rfl) fun h => h halign
    · exact hbad.elim (fun h => h.2 rfl) fun h => h halign
  simp only [State.barWrite, hmse, State.inReset, hready, hhere, hgood]
  simp

end

/-- Settles O7 (R10, R32, R33, R46). -/
theorem registerWriteRefused : Obligations.RegisterWriteRefused := by
  intro s o size v hring hreceipt helog
  have hdoes {t : State} {P : State → Prop} (ht : s.barWrite o size v = t)
      (hP : ∀ u, sameMem t u → (∀ f i, u.rd f i = t.rd f i) → P u) : does (.registerWrite o size v) s P :=
    does_registerWrite hring hreceipt helog ht hP
  have hnothing (h : s.barWrite o size v = s) : does (.registerWrite o size v) s (fun t => sameMem s t ∧ onlyRegs s t []) :=
    hdoes h fun u hmem hrd => ⟨hmem, fun f i _ => hrd f i⟩
  refine ⟨fun hshut => hnothing (barWrite_of_shut hshut), fun hmse hreset hsubmit hreg htl => ?_,
    fun hmse hready haway hattach herr hreg => ?_, fun hmse hstopped hsubmit hreg => ?_, fun hs hbad => ?_⟩
  · refine hdoes (t := s.resetWrite) (by rw [barWrite_in_reset hmse hreset hsubmit htl, if_pos hreg]) fun u hmem hrd => ⟨hmem, ?_, ?_, ?_⟩
    · intro f i hfi
      rw [hrd]
      exact onlyRegs_wr (onlyRegs_bump (onlyRegs_refl s _) (by simp) _) (by simp) _ f i hfi
    · rw [hrd, State.resetWrite, rd_wr_one]
    · rw [hrd, State.resetWrite, rd_wr_ne _ _ (.inl (by decide)), rd_bump_same]
  · refine hdoes (t := s.dropHost) (by rw [barWrite_of_away hmse hready haway hattach herr, if_pos hreg]) fun u hmem hrd => ⟨hmem, ?_, ?_⟩
    · intro f i hfi
      rw [hrd]
      exact onlyRegs_bump (onlyRegs_refl s _) (by simp) _ f i hfi
    · rw [hrd, State.dropHost, rd_bump_same]
  · refine hnothing ?_
    have hplace : ¬ (o / 8 * 8 = 0x38 ∨ timelineAt (o / 8 * 8) = true) := by
      rintro (h | h)
      · rw [h] at hreg
        exact absurd hreg (by decide +kernel)
      · simp [isRegister, h] at hreg
    by_cases hready : s.ready = true
    · have haway : s.hostAway = true := hstopped.resolve_left (by simp [hready])
      have hne : o / 8 * 8 ≠ 0x10018 ∧ o / 8 * 8 ≠ 0x10048 := by
        constructor <;>
        · intro h
          rw [h] at hreg
          exact absurd hreg (by decide +kernel)
      rw [barWrite_of_away hmse hready haway hne.1 hne.2, hreg]
      rfl
    · rw [barWrite_in_reset hmse (by simpa using hready) hsubmit (by simp [not_or.1 hplace]), hreg]
      rfl
  · refine hdoes (barWrite_of_bad hs hbad) fun u hmem hrd => ⟨?_, ?_, ?_, ?_⟩
    · refine sameMem_trans ?_ hmem
      split <;> exact sameMem_of_eq rfl rfl
    · intro f i hfi
      rw [hrd]
      split
      · exact onlyRegs_wr (onlyRegs_wr (onlyRegs_refl s _) (by simp) _) (by simp) _ f i hfi
      · exact onlyRegs_wr (onlyRegs_refl s _) (by simp) _ f i hfi
    · rw [hrd]
      split
      · rw [rd_wr_ne _ _ (.inl (by decide)), rd_wr_one]
      · rw [rd_wr_one]
    · rw [hrd]
      split
      · rw [rd_wr_one]
      · rw [rd_wr_ne _ _ (.inl (by decide))]

/-! ## A register that is held at the value it reads -/

/-- A node is attached, and the store holds a NODE_ID wider than its field. -/
def wideNodeId : State :=
  { regs := [(Field.CFG_MSE.key 0, 1), (Field.PEER_CTL_NODE_ID.key 0, 2 ^ 12), (Field.RAS_STATUS_PHASE.key 0, 4),
      (Field.PEER_NODE_STATE.key 1, 2)] }

/-- Refutes O6 (R7, R342): while a node is attached, a write of CZ_PEER_CTL puts back what NODE_ID read, cut to the field's 12
bits; from a state that holds a wider value, NODE_ID does not stay. -/
theorem not_registerWriteByAccess : ¬ Obligations.RegisterWriteByAccess := by
  intro h
  obtain ⟨-, -, -, hctl, -⟩ := h
  have hheard : wideNodeId.hears := ⟨by decide +kernel, by decide +kernel, by decide +kernel⟩
  obtain ⟨t, ht, -, hkept, -⟩ := (hctl wideNodeId 0 8 0 hheard (.inl ⟨rfl, rfl⟩)).2 ⟨1, by decide +kernel, by decide +kernel⟩
  have hstays : t.rd .PEER_CTL_NODE_ID = wideNodeId.rd .PEER_CTL_NODE_ID := hkept _ _ (by simp)
  obtain rfl : wideNodeId.close (wideNodeId.hostWrite 0x600000 8 0) = t := Host.Outcome.next.inj ht
  rw [rd_close] at hstays
  exact absurd hstays (by decide +kernel)

end Sys2Proof.Laws

/-! # The host interface

The heartbeat and the read indexes of rings (R45, R47), attach and detach (R48, R49), and what the host says of
translations and of writes (R26, R42, R43). -/
namespace Sys2Proof.Laws

open Sys2Proof.Machine

/-! ## The heartbeat and the read indexes of rings -/

/-- A write that reaches CZ_HLP_HB restarts the count at the time it comes. -/
theorem heartbeat_eq (s : State) (size half v : Nat) : s.heartbeat size half v =
    { s.regWrite 0x10010 size half v with
      hlp := { (s.regWrite 0x10010 size half v).hlp with hbFrom := s.time } } := by
  have ht : (s.regWrite 0x10010 size half v).time = s.time := regWrite_keeps s _ _ _ _ State.time fun _ _ _ _ => rfl
  rw [State.heartbeat, ← ht]

/-- A write of CZ_HLP_CTL restarts the count where it changes one of the two limits. -/
theorem hlpCtl_eq (s : State) (size half v : Nat) :
    let t := s.regWrite 0x10000 size half v
    s.hlpCtl size half v =
      if t.rd .HLP_CTL_HB_PERIOD = s.rd .HLP_CTL_HB_PERIOD ∧ t.rd .HLP_CTL_HB_MISS = s.rd .HLP_CTL_HB_MISS then t
      else { t with hlp := { t.hlp with hbFrom := s.time } } := by
  have ht : (s.regWrite 0x10000 size half v).time = s.time := regWrite_keeps s _ _ _ _ State.time fun _ _ _ _ => rfl
  rw [← ht]
  rfl

/-- An 8-byte write of a ring's pointers: its own effect is that of the register's place. -/
theorem acts_of_ringWrite {i : Instr} {s : State} {o v : Nat} {P : State → Prop} (hs : s.hears) (ho : o % 8 = 0)
    (hring : o = 0x10028 ∨ o = 0x900028 ∨ (0x510300 ≤ o ∧ o < 0x510500)) (hi : exec i s = s.done (s.hostWrite o 8 v))
    (hP : P ((s.place o 8 0 (v % 2 ^ 64)).giveCredit .register)) : acts i s P := by
  have hoff : o / 8 * 8 = o := by omega
  refine ⟨_, ?_, hP⟩
  simp only [hi, State.hostWrite, hoff, if_pos hring, barWrite_of_hears_eight hs ho]
  rfl

/-- Where no field of a register belongs to a flask, no flask's reset holds one. -/
theorem unheld_of_shared (s : State) {o : Nat} (h : (fieldsAt o).all (fun p => !flaskFields.contains p.1) = true) :
    ∀ p ∈ fieldsAt o, s.flaskHolds p = false := by
  intro p hp
  have := List.all_eq_true.1 h p hp
  simp only [Bool.not_eq_eq_eq_not, Bool.not_true] at this
  rw [State.flaskHolds, this, Bool.false_and]

/-- An 8-byte write of a ring's pointers, in a register with no other behaviour, takes the read index. -/
theorem acts_of_plainRing {i : Instr} {s : State} {o v : Nat} {f : Field} (hs : s.hears) (ho : o % 8 = 0)
    (hring : o = 0x10028 ∨ o = 0x900028) (hshared : (fieldsAt o).all (fun p => !flaskFields.contains p.1) = true)
    (hi : exec i s = s.done (s.hostWrite o 8 v)) (hplace : ∀ w, s.place o 8 0 w = s.plainWrite o 8 0 w)
    (hm : (f, 0) ∈ fieldsAt o) (hrw : f.row.access = .RW) :
    acts i s (fun u => sameMem s u ∧ u.rd f = bits v (f.row.bitOf 0) f.row.width ∧ onlyRegs s u (fieldsAt o)) := by
  refine acts_of_ringWrite hs ho (by omega) hi ?_
  rw [hplace, plainWrite_of_unheld (unheld_of_shared s hshared)]
  exact ⟨by simpa using sameMem_regWrite s _ _ _ _, (rd_giveCredit _ _ _ _).trans (rd_regWrite_eight s v hm hrw),
    by simpa using onlyRegs_regWrite_eight s _ _ _⟩

/-- An 8-byte write of flask f's egress log pointers reaches its fields and re-arms the full report. -/
theorem place_elog (s : State) {f : Nat} (hf : f < 64) (w : Nat) :
    s.place (0x510300 + 8 * f) 8 0 w = (s.plainWrite (0x510300 + 8 * f) 8 0 w).elogRdIdx f := by
  have h1 : ¬ 0x1000000 ≤ 0x510300 + 8 * f := by omega
  have h2 : ¬ (0x740000 ≤ 0x510300 + 8 * f ∧ 0x510300 + 8 * f < 0x780000) := by omega
  have h3 : ¬ (0x11000 ≤ 0x510300 + 8 * f ∧ 0x510300 + 8 * f < 0x13000) := by omega
  have h4 : ¬ (0x601000 ≤ 0x510300 + 8 * f ∧ 0x510300 + 8 * f < 0x603000) := by omega
  have h5 : ¬ (0x710000 ≤ 0x510300 + 8 * f ∧ 0x510300 + 8 * f < 0x730000) := by omega
  have h6 : ¬ (0xA01000 ≤ 0x510300 + 8 * f ∧ 0x510300 + 8 * f < 0xA05000) := by omega
  have h7 : ¬ (0x400500 ≤ 0x510300 + 8 * f ∧ 0x510300 + 8 * f < 0x400700) := by omega
  have h8 : 0x510300 ≤ 0x510300 + 8 * f ∧ 0x510300 + 8 * f < 0x510500 := by omega
  have hidx : (0x510300 + 8 * f - 0x510300) / 8 = f := by omega
  rw [State.place, if_neg h1, if_neg h2, if_neg h3, if_neg h4, if_neg h5, if_neg h6, if_neg h7, if_pos h8, hidx]
  rfl

/-- With no egress block waiting, a write of the pointers only re-arms the report. -/
theorem elogRdIdx_of_idle {s : State} {f : Nat} (h : s.cast.egress = []) :
    s.elogRdIdx f = { s with cast := { s.cast with full := s.cast.full.filter (fun g => g != f) } } := by
  simp [State.elogRdIdx, State.pumpEgress, h]

/-- Settles O13 (R45, R47, R303, R420). -/
theorem heartbeatAndReadIndexes : Obligations.HeartbeatAndReadIndexes := by
  refine ⟨⟨fun s half size v hs hsize => ?_, fun s v hs => ?_⟩, fun s v hs => ?_, fun s f v hs hf hfree hidle => ?_, fun s v hs => ?_⟩
  · have hhalf : half % 2 = half := by rcases hsize with ⟨rfl, -⟩ | ⟨h, -⟩ <;> omega
    have hreg : (0x10010 + 4 * half) / 8 * 8 = 0x10010 := by rcases hsize with ⟨rfl, -⟩ | ⟨h, -⟩ <;> omega
    have hplace (w : Nat) : s.place 0x10010 size half w = s.heartbeat size half w := rfl
    refine ⟨_, rfl, ?_⟩
    rw [hhalf, hostWrite_plain s v (by omega) (by omega) (by omega), barWrite_of_hears hs (by decide) hsize, hplace, heartbeat_eq]
    have hmem := sameMem_regWrite s 0x10010 size half (v % 2 ^ (8 * size))
    have honly := onlyRegs_regWrite s 0x10010 size half (v % 2 ^ (8 * size))
    have hfields : fieldsAt 0x10010 = [(.HLP_HB_HB_VALUE, 0)] := by decide +kernel
    rw [hfields] at honly
    generalize s.regWrite 0x10010 size half (v % 2 ^ (8 * size)) = t at hmem honly ⊢
    refine ⟨?_, rfl, ?_⟩
    · rw [sameMem_close_iff, sameMem_giveCredit]
      exact hmem
    · rw [onlyRegs_close_iff, onlyRegs_giveCredit]
      exact onlyRegs_mono (t := { t with hlp := { t.hlp with hbFrom := s.time } }) honly (by simp)
  · have hplace (w : Nat) : s.place 0x10000 8 0 w = s.hlpCtl 8 0 w := by
      simp [State.place, State.singleWrite]
    have hperiod := rd_regWrite_eight s v (o := 0x10000) (f := .HLP_CTL_HB_PERIOD) (i := 0) (by decide +kernel) (by decide +kernel)
    have hmiss := rd_regWrite_eight s v (o := 0x10000) (f := .HLP_CTL_HB_MISS) (i := 0) (by decide +kernel) (by decide +kernel)
    have hmem := sameMem_regWrite s 0x10000 8 0 (v % 2 ^ 64)
    have honly := onlyRegs_regWrite_eight s 0x10000 0 (v % 2 ^ 64)
    have hhlp := regWrite_hlp s 0x10000 8 0 (v % 2 ^ 64)
    refine ⟨_, rfl, ?_⟩
    rw [show 0x10000 + 4 * (0 % 2) = 0x10000 from rfl, hostWrite_plain s v (by omega) (by omega) (by omega),
      barWrite_of_hears_eight hs (by decide), hplace, hlpCtl_eq]
    generalize s.regWrite 0x10000 8 0 (v % 2 ^ 64) = t at *
    split
    · next h =>
      refine ⟨(sameMem_close_iff _ _ _).2 ((sameMem_giveCredit _ _ _).2 hmem), (rd_close _ _ _ _).trans hperiod,
        (rd_close _ _ _ _).trans hmiss, (onlyRegs_close_iff _ _ _ _).2 honly, ?_⟩
      simp only [rd_close, rd_giveCredit, if_pos h]
      exact congrArg Hlp.hbFrom hhlp
    · next h =>
      refine ⟨(sameMem_close_iff _ _ _).2 ((sameMem_giveCredit _ _ _).2 hmem), (rd_close _ _ _ _).trans hperiod,
        (rd_close _ _ _ _).trans hmiss, (onlyRegs_close_iff _ _ _ _).2 honly, ?_⟩
      simp only [rd_close, rd_giveCredit]
      exact (if_neg h).symm
  · exact acts_of_plainRing hs (by decide) (.inl rfl) (by decide +kernel) rfl (fun _ => rfl) (by decide +kernel) (by decide +kernel)
  · have hoff : 0x510300 + 8 * f + 4 * (0 % 2) = 0x510300 + 8 * f := by omega
    refine acts_of_ringWrite hs (o := 0x510300 + 8 * f) (v := v) (by omega) (by omega) ?_ ?_
    · rw [exec, execElogRdIdxWrite, if_pos hf, hoff]
    have hm : (Field.CAST_ELOG_PTRS_RD_IDX, f) ∈ fieldsAt (0x510300 + 8 * f) :=
      mem_fieldsAt.2 ((by decide +kernel : ∀ g < 64, g ∈ Field.CAST_ELOG_PTRS_RD_IDX.elemsAt (0x510300 + 8 * g)) f hf)
    have hmem := sameMem_regWrite s (0x510300 + 8 * f) 8 0 (v % 2 ^ 64)
    have hrd := rd_regWrite_eight s v hm (by decide +kernel)
    have hcast : (s.regWrite (0x510300 + 8 * f) 8 0 (v % 2 ^ 64)).cast = s.cast := regWrite_keeps s _ _ _ _ State.cast fun _ _ _ _ => rfl
    rw [place_elog s hf, plainWrite_of_unheld hfree]
    generalize s.regWrite (0x510300 + 8 * f) 8 0 (v % 2 ^ 64) = t at *
    rw [elogRdIdx_of_idle (by rw [hcast, hidle])]
    refine ⟨?_, by simp [State.giveCredit, State.say], ?_⟩
    · rw [sameMem_giveCredit]
      exact hmem
    · rw [rd_giveCredit]
      have hbit : Field.CAST_ELOG_PTRS_RD_IDX.row.bitOf f = Field.CAST_ELOG_PTRS_RD_IDX.row.lo := by
        rw [Row.bitOf, show Field.CAST_ELOG_PTRS_RD_IDX.row.perReg = 1 from rfl, Nat.mod_one, Nat.mul_zero, Nat.add_zero]
      exact hbit ▸ hrd
  · exact acts_of_plainRing hs (by decide) (.inr rfl) (by decide +kernel) rfl (fun _ => rfl) (by decide +kernel) (by decide +kernel)

/-! ## Attach and detach (R48, R49, R372) -/

/-- The writes of CZ_HLP_ATTACH that reach it. -/
theorem barWrite_attach {s : State} (hmse : s.on .CFG_MSE = true) (hready : s.ready = true) (v : Nat) :
    s.barWrite 0x10018 8 v = s.attachWrite 8 (v % 2 ^ 64) := by
  simp [State.barWrite, hmse, State.inReset, hready, State.place, State.singleWrite]

theorem hostWrite_attach {s : State} (hmse : s.on .CFG_MSE = true) (hready : s.ready = true) (v : Nat) :
    s.hostWrite 0x10018 8 v = (s.attachWrite 8 (v % 2 ^ 64)).giveCredit .register := by
  rw [hostWrite_plain s v (by omega) (by omega) (by omega), barWrite_attach hmse hready]

/-- A write with ATTACH alone set. -/
theorem attachWrite_of_attach (s : State) {v : Nat} (h : bits v 0 2 = 1) :
    s.attachWrite 8 (v % 2 ^ 64) = s.attach (bits v 16 16) := by
  have h0 : bit (v % 2 ^ 64) 0 = true := by simp only [bit, bits, beq_iff_eq] at h ⊢; omega
  have h1 : bit (v % 2 ^ 64) 1 = false := by simp only [bit, bits, beq_eq_false_iff_ne, ne_eq] at h ⊢; omega
  have hepoch : bits (v % 2 ^ 64) 16 16 = bits v 16 16 := bits_mod_two_pow v (by decide)
  generalize v % 2 ^ 64 = w at *
  simp [State.attachWrite, h0, h1, hepoch]

/-- A write with DETACH alone set. -/
theorem attachWrite_of_detach (s : State) {v : Nat} (h : bits v 0 2 = 2) : s.attachWrite 8 (v % 2 ^ 64) = s.detach := by
  have h0 : bit (v % 2 ^ 64) 0 = false := by simp only [bit, bits, beq_eq_false_iff_ne, ne_eq] at h ⊢; omega
  have h1 : bit (v % 2 ^ 64) 1 = true := by simp only [bit, bits, beq_iff_eq] at h ⊢; omega
  generalize v % 2 ^ 64 = w at *
  simp [State.attachWrite, h0, h1]

/-- With no delivery in service, taking the deliveries back only drops the messages that wait. -/
theorem takeBack_of_idle {s : State} (h : s.listed .EV_SRC_ACTIVE = []) :
    s.takeBack = { s with ev := { s.ev with msgs := [] } } := by
  simp [State.takeBack, h]

/-- The state of a detach before its recalls: nothing is delivered any more, and what is on ZCI is waited for. -/
def leavingFrom (s : State) : State :=
  let t := s.wr .HLP_STATUS_DETACHING 1
  { t with ev := { t.ev with msgs := [] }, hlp := { t.hlp with leaving := s.onZci, asleep := [] } }

/-- With no delivery in service and no access held for a wake, a detach recalls the lines that host cores hold. -/
theorem detach_of_quiet {s : State} (hhere : s.hostAway = false) (hidle : s.listed .EV_SRC_ACTIVE = [])
    (hawake : s.hlp.asleep = []) :
    s.detach = (s.hlp.filter.map HostLine.line).foldl State.recall (leavingFrom s) := by
  have hlisted : (s.wr .HLP_STATUS_DETACHING 1).listed .EV_SRC_ACTIVE = [] := by rw [listed_wr_ne s (by decide), hidle]
  have hzci : (s.wr .HLP_STATUS_DETACHING 1).onZci = s.onZci := by
    simp only [State.onZci]
    congr 2
    exact List.filter_congr fun f _ => on_wr_ne s _ (.inl (by decide))
  simp only [State.detach, hhere, takeBack_of_idle hlisted, Bool.false_eq_true, if_false]
  have hzci' : ({ (s.wr .HLP_STATUS_DETACHING 1) with ev := { (s.wr .HLP_STATUS_DETACHING 1).ev with msgs := [] } }).onZci = s.onZci := hzci
  rw [hzci']
  have hsleep : (s.wr .HLP_STATUS_DETACHING 1).hlp.asleep = [] := hawake
  rw [hsleep]
  rfl

/-- Settles O15 (R48, R49). -/
theorem attachAndDetach : Obligations.AttachAndDetach := by
  refine ⟨fun s v hmse hready hop => ⟨fun haway hepoch hbme => ?_, fun hbad => ?_⟩, fun s v hs hop hidle hawake => ?_⟩
  · refine ⟨_, rfl, ?_⟩
    have hattach : s.attach (bits v 16 16) =
        let t := (s.wr .HLP_STATUS_HEADLESS 0).wr .HLP_STATUS_ATTACHED 1
        { t with hlp := { t.hlp with hbFrom := s.time } } := by
      simp [State.attach, haway, hepoch, hbme, hmse]
    rw [hostWrite_attach hmse hready, attachWrite_of_attach s hop, hattach]
    refine ⟨sameMem_of_eq rfl rfl, ?_, rd_wr_one _ _ _, rfl, ?_⟩
    · have hzero : ((s.wr .HLP_STATUS_HEADLESS 0).wr .HLP_STATUS_ATTACHED 1).rd .HLP_STATUS_HEADLESS = 0 := by
        rw [rd_wr_ne _ _ (.inl (by decide)), rd_wr_same]
        exact Nat.zero_mod _
      exact (beq_eq_false_iff_ne).2 (by rw [rd_giveCredit]; exact fun hc => absurd (hc.symm.trans hzero) (by decide))
    · rw [onlyRegs_giveCredit]
      exact onlyRegs_wr (onlyRegs_wr (onlyRegs_refl s _) (f := .HLP_STATUS_HEADLESS) (i := 0) (by simp) 0)
        (f := .HLP_STATUS_ATTACHED) (i := 0) (by simp) 1
  · refine ⟨_, rfl, ?_⟩
    have hattach : s.attach (bits v 16 16) = s.wr .HLP_ERR_ATTACH_EPOCH 1 := by
      simp only [State.attach]
      rw [if_neg]
      simp only [Bool.and_eq_true, beq_iff_eq]
      rintro ⟨⟨⟨h1, h2⟩, h3⟩, -⟩
      rcases hbad with h | h | h
      · rw [h] at h1; cases h1
      · exact h h2
      · rw [h] at h3; cases h3
    rw [hostWrite_attach hmse hready, attachWrite_of_attach s hop, hattach]
    exact ⟨by simp, by rw [rd_giveCredit, rd_wr_one], by
      rw [onlyRegs_giveCredit]; exact onlyRegs_wr (onlyRegs_refl s _) (by simp) _⟩
  · obtain ⟨hmse, hready, hhere⟩ := hs
    refine ⟨_, rfl, ?_⟩
    rw [hostWrite_attach hmse hready, attachWrite_of_detach s hop, detach_of_quiet hhere hidle hawake]
    have hstill := still_foldl still_recall (s.hlp.filter.map HostLine.line) (leavingFrom s)
    have hrecalls {m : Nat} := mem_recalls_foldl (ls := s.hlp.filter.map HostLine.line) (s := leavingFrom s) (m := m)
    have hleaving : ((s.hlp.filter.map HostLine.line).foldl State.recall (leavingFrom s)).hlp.leaving = s.onZci :=
      foldl_keeps (fun t : State => t.hlp.leaving) recall_leaving _ _
    generalize (s.hlp.filter.map HostLine.line).foldl State.recall (leavingFrom s) = t at *
    have hfrom : onlyRegs s (leavingFrom s) [(.HLP_STATUS_DETACHING, 0)] :=
      onlyRegs_wr (f := .HLP_STATUS_DETACHING) (i := 0) (onlyRegs_refl s _) (by simp) 1
    refine ⟨?_, ?_, ?_, hleaving, fun h hh => ?_⟩
    · rw [sameMem_giveCredit]
      exact sameMem_trans (t := leavingFrom s) (sameMem_of_eq rfl rfl) hstill.sameMem
    · rw [rd_giveCredit, hstill.rd]
      exact rd_wr_one s _ _
    · rw [onlyRegs_giveCredit]
      exact hstill.onlyRegs_of hfrom
    · exact List.contains_iff_mem.2 (hrecalls.2 (.inl (List.mem_map_of_mem hh)))

/-! ## Broadcasts (R42, R43, R220, R223) -/

theorem disarmIf_keeps {β : Type} (p : State → β) (hwr : ∀ t f v i, p (t.wr f v i) = p t) (s : State) (q : Nat → Bool) :
    p (s.disarmIf q) = p s := by
  refine foldl_keeps p (fun t i => ?_) _ s
  split
  · exact foldl_keeps p (fun t f => hwr t f _ _) _ t
  · rfl

section
variable (s : State) (v : Inv)

theorem sameMem_startInv : sameMem s (s.startInv v) := by
  refine sameMem_of_eq ?_ ?_
  · exact disarmIf_keeps State.hbm (fun _ _ _ _ => rfl) _ _
  · exact disarmIf_keeps State.wbuf (fun _ _ _ _ => rfl) _ _

theorem startInv_invs : (s.startInv v).xl.invs = updAll s.xl.invs (fun x => x.id == v.id)
    (fun _ => { v with started := true, mark := s.nextId, acks := List.range 512, kernels := s.physWaits v }) :=
  disarmIf_keeps (fun t : State => t.xl.invs) (fun _ _ _ _ => rfl) _ _

end

/-- An invalidation is made under the next identifier, whether it starts at once or waits for its pool. -/
theorem invalidate_made (s : State) (f : InvFrom) (slots : List Nat) (range : Option (Nat × Nat)) :
    sameMem s (s.invalidate f slots range) ∧
    ∃ v ∈ (s.invalidate f slots range).xl.invs, v.id = s.nextId ∧ v.source = f ∧ v.slots = slots ∧ v.range = range := by
  let v : Inv := { id := s.nextId, source := f, slots := slots, range := range }
  let t : State := { s with nextId := s.nextId + 1, xl := { s.xl with invs := s.xl.invs ++ [v] } }
  have hmade : s.invalidate f slots range = t.startInv v ∨ s.invalidate f slots range = t := by
    have h : s.invalidate f slots range =
        if ((s.newId).2.invPool f).1 < ((s.newId).2.invPool f).2 then t.startInv v else t := rfl
    rw [h]
    split
    · exact .inl rfl
    · exact .inr rfl
  rcases hmade with h | h
  · refine ⟨h ▸ sameMem_trans (t := t) (sameMem_of_eq rfl rfl) (sameMem_startInv t v),
      { v with started := true, mark := t.nextId, acks := List.range 512, kernels := t.physWaits v }, ?_, rfl, rfl, rfl, rfl⟩
    rw [h, startInv_invs]
    exact List.mem_map.2 ⟨v, List.mem_append_right _ (List.mem_singleton_self v), if_pos (beq_self_eq_true _)⟩
  · exact ⟨h ▸ sameMem_of_eq (t := t) rfl rfl, v, h ▸ List.mem_append_right _ (List.mem_singleton_self v), rfl, rfl, rfl, rfl⟩

/-! ## Acknowledgements of host writes (R26, R269) -/

theorem answerFences_of_none {s : State} (h : s.fences = []) : s.answerFences = s := by
  have : s = { s with fences := [] } := by rw [← h]
  simp only [State.answerFences, h]
  exact this.symm

/-- A plain write that is acknowledged leaves the requests, and nothing else hears of it. -/
theorem ackWrite_of_plain {s : State} {r : Req} (hplain : r.purpose = .plain) (hfences : s.fences = []) :
    still s (s.ackWrite r) ∧ (s.ackWrite r).req? r.id = none := by
  have hack : s.ackWrite r = { s.dropReq r.id with
      copies := s.copies.map fun c => { c with wrote := c.wrote.filter fun i => i != r.id },
      cast := { s.cast with jobs := s.cast.jobs.map fun j => { j with writes := j.writes.filter fun i => i != r.id } },
      route := { s.route with ops := s.route.ops.map fun o => { o with out := o.out.filter fun i => i != r.id } } } := by
    simp only [State.ackWrite, hplain]
    exact answerFences_of_none hfences
  rw [hack]
  refine ⟨⟨rfl, rfl, rfl⟩, ?_⟩
  simp [State.req?, State.dropReq]

theorem req_id {s : State} {id : Nat} {r : Req} (h : s.req? id = some r) : r.id = id := by
  simpa using List.find?_some h

/-- Settles O16 (R26, R42, R43, R269). -/
theorem broadcastsAndAcknowledgements : Obligations.BroadcastsAndAcknowledgements := by
  refine ⟨fun s pasid tag base size hcredit hfree => ⟨⟨_, rfl, ?_⟩, ⟨_, rfl, ?_⟩⟩, fun s pasid tag a hcredit hbound => ⟨_, rfl, ?_⟩,
    fun s pasid tag hcredit => ⟨_, rfl, ?_⟩, fun s id r hreq hissued hwrite hhost hplain hfences => ⟨⟨_, rfl, ?_⟩, ⟨_, rfl, ?_⟩⟩⟩
  · simp only [State.broadcast, hcredit, hfree]
    rfl
  · simp only [State.broadcast, hcredit, hfree]
    rfl
  · have h : s.broadcast pasid .pasid tag = s.invalidate (.host tag) [a] none := by
      simp only [State.broadcast, hcredit, hbound]
      rfl
    rw [h]
    exact invalidate_made s _ _ _
  · have h : s.broadcast pasid .all tag = s.invalidate (.host tag) s.atlases none := by
      simp only [State.broadcast, hcredit]
      rfl
    rw [h]
    obtain ⟨hmem, w, hw, hid, hsource, hslots, -⟩ := invalidate_made s (.host tag) s.atlases none
    exact ⟨hmem, w, hw, hid, hsource, hslots⟩
  · have h : s.hostAck id true = s.ackWrite r := by
      simp [State.hostAck, hreq, hissued, hwrite, hhost]
    obtain ⟨hstill, hgone⟩ := ackWrite_of_plain (s := s) hplain hfences
    rw [h]
    exact ⟨req_id hreq ▸ hgone, hstill.sameMem, hstill.onlyRegs _⟩
  · have h : s.hostAck id false = ((s.wr .HAP_ERR_WR_ERR 1).bump .HAP_DROP_WR_ERRORS).ackWrite r := by
      simp [State.hostAck, hreq, hissued, hwrite, hhost, hplain]
    obtain ⟨hstill, hgone⟩ :=
      ackWrite_of_plain (s := (s.wr .HAP_ERR_WR_ERR 1).bump .HAP_DROP_WR_ERRORS) hplain hfences
    rw [h]
    refine ⟨req_id hreq ▸ hgone, sameMem_trans (t := (s.wr .HAP_ERR_WR_ERR 1).bump .HAP_DROP_WR_ERRORS) (by simp) hstill.sameMem, ?_,
      hstill.onlyRegs_of (onlyRegs_bump (onlyRegs_wr (onlyRegs_refl s _) (by simp) _) (by simp) _)⟩
    rw [hstill.rd, rd_bump_ne _ _ (.inl (by decide)), rd_wr_one]

end Sys2Proof.Laws

/-! # The mailbox's checks

A command that fails a check of R447 replies so and does nothing else. -/
namespace Sys2Proof.Laws

open Sys2Proof.Machine

section
variable {s : State} {n op : Nat}

/-- From its start point a known command that fails a check of R447 replies BAD_ARG. -/
theorem mbRun_of_badArg (hready : s.ready = true) (hmay : s.mayStart n = true) (hop : s.opcode n = op)
    (hknown : opParams op (s.par n 0) ≠ none) (hbad : s.mbCheck n ≠ none) (body : State → State) :
    s.mbRun n op body = (s.takeSlot n).reply n stBADARG := by
  obtain ⟨ms, hms⟩ := Option.ne_none_iff_exists'.1 hknown
  have hst : s.mbCheck n = some stBADARG := by
    revert hbad
    simp only [State.mbCheck, hop, hms]
    split_ifs <;> simp
  simp only [State.mbRun, hready, hmay, hop, hms, hst]
  simp

theorem mbHome_of_badArg (hready : s.ready = true) (hmay : s.mayStart n = true) (hop : s.opcode n = op)
    (hknown : opParams op (s.par n 0) ≠ none) (hbad : s.mbCheck n ≠ none) (rs : State → List (Nat × Nat)) (body : State → State) :
    s.mbHome n op rs body = (s.takeSlot n).reply n stBADARG := by
  have hcheck : (s.mbCheck n).isNone = false := by simpa [Option.isNone_eq_false_iff, Option.isSome_iff_ne_none] using hbad
  simp only [State.mbHome, hcheck, Bool.and_false, Bool.false_and, Bool.false_eq_true, if_false]
  exact mbRun_of_badArg hready hmay hop hknown hbad body

theorem mbPart_of_badArg (hready : s.ready = true) (hmay : s.mayStart n = true) (hop : s.opcode n = op)
    (hknown : opParams op (s.par n 0) ≠ none) (hbad : s.mbCheck n ≠ none) (width v : Nat) (body : State → State)
    (rs : State → List (Nat × Nat)) : s.mbPart n op width v body rs = (s.takeSlot n).reply n stBADARG := by
  have hcheck : (s.mbCheck n).isNone = false := by simpa [Option.isNone_eq_false_iff, Option.isSome_iff_ne_none] using hbad
  simp only [State.mbPart, hcheck, Bool.and_false, Bool.false_and, Bool.false_eq_true, if_false]
  exact mbHome_of_badArg hready hmay hop hknown hbad rs body

theorem powerRow_of_badArg (hready : s.ready = true) (hmay : s.mayStart n = true) (hop : s.opcode n = 0x73)
    (hbad : s.mbCheck n ≠ none) (state : Nat) : s.powerRow n state = (s.takeSlot n).reply n stBADARG := by
  have hcheck : (s.mbCheck n).isNone = false := by simpa [Option.isNone_eq_false_iff, Option.isSome_iff_ne_none] using hbad
  simp only [State.powerRow, hcheck, Bool.and_false, Bool.false_and, Bool.false_eq_true, if_false]
  exact mbRun_of_badArg hready hmay hop (by simp [opParams]) hbad _

theorem sealedRow_of_badArg (hready : s.ready = true) (hmay : s.mayStart n = true) (hop : s.opcode n = 0x14)
    (hbad : s.mbCheck n ≠ none) {env : Nat} (henv : envOp (s.dieRead (s.par n 1) 64) = env) (body : State → State) :
    s.sealedRow n env body = (s.takeSlot n).reply n stBADARG := by
  simp only [State.sealedRow, henv, bne_self_eq_false, Bool.and_false, Bool.false_and, Bool.false_eq_true, if_false]
  exact mbHome_of_badArg hready hmay hop (by simp [opParams]) hbad _ body

theorem mbRun_of_unknown (hready : s.ready = true) (hmay : s.mayStart n = true)
    (hunknown : opParams (s.opcode n) (s.par n 0) = none) (op : Nat) (body : State → State) :
    s.mbRun n op body = (s.takeSlot n).reply n stBADOP := by
  simp [State.mbRun, hready, hmay, hunknown]

end

section
variable (s : State) (n : Nat)

@[simp] theorem takeSlot_hbm : (s.takeSlot n).hbm = s.hbm := rfl
@[simp] theorem takeSlot_wbuf : (s.takeSlot n).wbuf = s.wbuf := rfl

theorem rd_takeSlot {f : Field} (h : f ≠ .MB_STATE_STATE) (i : Nat) : (s.takeSlot n).rd f i = s.rd f i :=
  rd_wr_ne s _ (.inl h.symm)

@[simp] theorem sameMem_reply (s t : State) (n st : Nat) (outs : List Nat) : sameMem s (t.reply n st outs) ↔ sameMem s t := by
  simp only [sameMem, State.sysByte, State.dieByte, reply_hbm, reply_wbuf]

/-- A reply without outputs has length 0. -/
theorem rlen_reply_nil (s : State) (n st : Nat) : (s.reply n st).rd .MB_RPL_RLEN n = 0 := by
  simp only [State.reply, State.setSlot, List.length_nil, List.range_zero, List.foldl_nil]
  split
  · rw [rd_wr_ne _ _ (.inl (by decide)), rd_wr_ne _ _ (.inl (by decide)), rd_wr_same]
    exact Nat.zero_mod _
  · rw [rd_wr_ne _ _ (.inl (by decide)), rd_wr_same]
    exact Nat.zero_mod _

/-- What a command that is answered at its start point leaves. -/
theorem refused_at_start {n st : Nat} (hn : n < 16) (hst : st < 2 ^ 16) :
    let u := (s.takeSlot n).reply n st
    sameMem s u ∧ u.replied n st ∧ u.rd .MB_RPL_RLEN n = 0 ∧ onlyRegs s u (replyFields n) ∧ u.ctxs = s.ctxs ∧
      u.kyreqs = s.kyreqs ∧ n ∉ u.mbox.order := by
  have horder : ((s.takeSlot n).reply n st).mbox = (s.takeSlot n).mbox := reply_keeps State.mbox (fun _ _ _ _ => rfl) _ _ _ _
  have hctxs : ((s.takeSlot n).reply n st).ctxs = s.ctxs := reply_keeps State.ctxs (fun _ _ _ _ => rfl) _ _ _ _
  have hky : ((s.takeSlot n).reply n st).kyreqs = s.kyreqs := reply_keeps State.kyreqs (fun _ _ _ _ => rfl) _ _ _ _
  refine ⟨?_, replied_reply _ _ hn hst, rlen_reply_nil _ _ _, fun f i hfi => ?_, hctxs, hky, ?_⟩
  · rw [sameMem_reply]
    exact sameMem_of_eq rfl rfl
  · rw [rd_reply_nil _ _ _ hfi]
    exact onlyRegs_wr (f := .MB_STATE_STATE) (i := 0) (onlyRegs_refl s (replyFields n)) (by simp [replyFields]) _ f i hfi
  · rw [horder]
    simp [State.takeSlot]

end

/-- Settles O60 (R447). -/
theorem mailboxChecksComeFirst : Obligations.MailboxChecksComeFirst := by
  intro s n hn hready hmay hswitch fails
  have hfails {i : Instr} {st : Nat} {t : State} (hst : st < 2 ^ 16) (hi : exec i s = s.after t)
      (ht : t = (s.takeSlot n).reply n st) : fails i st := by
    subst ht
    exact ⟨_, hi, refused_at_start s hn hst⟩
  refine ⟨fun i hi hbad => ?_, fun i hi hop hbad => ?_, fun hunknown =>
    hfails (st := stBADOP) (by decide) rfl (mbRun_of_unknown hready hmay hunknown _ _)⟩
  · have run {i op body} (h : exec i s = s.after (s.mbRun n op body)) (hk : ∀ p, opParams op p ≠ none := by simp [opParams]) (hop : op = s.opcode n) :
        fails i stBADARG := hfails (by decide) h (mbRun_of_badArg hready hmay hop.symm (hk _) hbad body)
    have home {i op rs body} (h : exec i s = s.after (s.mbHome n op rs body)) (hk : ∀ p, opParams op p ≠ none := by simp [opParams]) (hop : op = s.opcode n) :
        fails i stBADARG := hfails (by decide) h (mbHome_of_badArg hready hmay hop.symm (hk _) hbad rs body)
    have part {i op w v body rs} (h : exec i s = s.after (s.mbPart n op w v body rs)) (hk : ∀ p, opParams op p ≠ none := by simp [opParams])
        (hop : op = s.opcode n) : fails i stBADARG :=
      hfails (by decide) h (mbPart_of_badArg hready hmay hop.symm (hk _) hbad w v body rs)
    have power {i state} (h : exec i s = s.after (s.powerRow n state)) (hop : 0x73 = s.opcode n) : fails i stBADARG :=
      hfails (by decide) h (powerRow_of_badArg hready hmay hop.symm hbad state)
    have commit (hop : 0x71 = s.opcode n) : fails (.fwCommit n) stBADARG := by
      refine hfails (by decide) rfl ?_
      have hnone : s.mbox.switches.find? (fun w => w.slots.contains n) = none :=
        List.find?_eq_none.2 fun w hw => by simpa using hswitch w hw
      rw [State.fwCommitRow, hnone]
      exact mbRun_of_badArg hready hmay hop.symm (by simp [opParams]) hbad _
    refine (?_ : ∀ p : Instr × Nat, p ∈ _ → p.2 = s.opcode n → fails p.1 stBADARG) (i, s.opcode n) hi rfl
    simp only [List.forall_mem_cons]
    exact ⟨run rfl, run rfl, run rfl, run rfl, run rfl, run rfl, run rfl, run rfl, run rfl, run rfl, run rfl, run rfl, home rfl,
      run rfl, run rfl, run rfl, run rfl, run rfl, part rfl, part rfl, run rfl, part rfl, part rfl, run rfl, home rfl, run rfl,
      home rfl, home rfl, part rfl, part rfl, part rfl, part rfl, home rfl, commit, run rfl, power rfl, power rfl, power rfl,
      run rfl, by simp⟩
  · have row {i env body} (h : exec i s = s.after (s.sealedRow n env body)) (henv : env = envOp (s.dieRead (s.par n 1) 64)) :
        fails i stBADARG := hfails (by decide) h (sealedRow_of_badArg hready hmay hop hbad henv.symm body)
    refine (?_ : ∀ p : Instr × Nat, p ∈ _ → p.2 = envOp (s.dieRead (s.par n 1) 64) → fails p.1 stBADARG) (i, _) hi rfl
    simp only [List.forall_mem_cons]
    exact ⟨row rfl, row rfl, row rfl, row rfl, row rfl, row rfl, by simp⟩

end Sys2Proof.Laws

/-! # Error records and the faults of the block

What the writing of an error record leaves alone (R485), and the faults of R481 to R484. -/
namespace Sys2Proof.Laws

open Sys2Proof.Machine

/-! ## Error records (R485, R486) -/

/-- A view of the state in which stores, messages, the host link and the records that wait do not show. -/
def blindToStores {β : Type} (p : State → β) : Prop :=
  ∀ (t : State) hbm wbuf hlp sent ew, p { t with hbm := hbm, wbuf := wbuf, hlp := hlp, sent := sent, errWait := ew } = p t

/-- The registers that an error record moves. -/
def recordRegs : List Field := [.RAS_COUNT_REC_LOST, .RAS_ERR_REC_FULL, .RAS_REC_PTRS_WR_IDX]

section
variable {β : Type} {p : State → β} (hblind : blindToStores p)
include hblind

theorem blind_recall (s : State) (l : Nat) : p (s.recall l) = p s := by
  unfold State.recall
  split
  · rfl
  · exact hblind s s.hbm s.wbuf _ _ s.errWait

theorem blind_waitLine (s : State) (l : Nat) (a : LineAct) : p (s.waitLine l a) = p s :=
  (hblind (s.recall l) _ _ _ _ _).trans (blind_recall hblind s l)

theorem blind_overPut (s : State) (cells : List (Nat × Byte)) : p (s.overPut cells) = p s :=
  overPut_keeps p (fun t m => hblind t m t.wbuf t.hlp t.sent t.errWait) (fun t w => hblind t t.hbm w t.hlp t.sent t.errWait) cells s

/-- A record's store keeps what its ring's write index does not move. -/
theorem errPut_keeps (hwr : ∀ t v, p (t.wr .RAS_REC_PTRS_WR_IDX v) = p t) (s : State) (bs : List Byte) : p (s.errPut bs) = p s := by
  rw [State.errPut, State.ownWrite, State.homeStore]
  split
  · exact blind_waitLine hblind _ _ _
  · exact (hwr _ _).trans (blind_overPut hblind _ _)

theorem errRecord_keeps (hwr : ∀ t f v, f ∈ recordRegs → p (t.wr f v) = p t) (s : State) (bs : List Byte) :
    p (s.errRecord bs) = p s := by
  simp only [State.errRecord]
  split
  · exact (hwr _ _ _ (by simp [recordRegs])).trans (hwr _ _ _ (by simp [recordRegs]))
  · split
    · exact errPut_keeps hblind (fun t v => hwr t _ v (by simp [recordRegs])) s bs
    · exact hblind s s.hbm s.wbuf s.hlp s.sent _

theorem ras_keeps (hwr : ∀ t f v, f ∈ recordRegs → p (t.wr f v) = p t) (s : State) (r : RasRec) : p (s.ras r) = p s :=
  errRecord_keeps hblind hwr s _

end

section
variable (s : State) (r : RasRec)

theorem rd_ras {f : Field} (h : f ∉ recordRegs) (i : Nat) : (s.ras r).rd f i = s.rd f i :=
  ras_keeps (p := fun t => t.rd f i) (fun _ _ _ _ _ _ => rfl)
    (fun t _ _ hg => rd_wr_ne t _ (.inl fun e => h (e ▸ hg))) s r

@[simp] theorem ras_time : (s.ras r).time = s.time := ras_keeps (p := State.time) (fun _ _ _ _ _ _ => rfl) (fun _ _ _ _ => rfl) s r
@[simp] theorem ras_ctxs : (s.ras r).ctxs = s.ctxs := ras_keeps (p := State.ctxs) (fun _ _ _ _ _ _ => rfl) (fun _ _ _ _ => rfl) s r
@[simp] theorem ras_calls : (s.ras r).calls = s.calls := ras_keeps (p := State.calls) (fun _ _ _ _ _ _ => rfl) (fun _ _ _ _ => rfl) s r
@[simp] theorem ras_misses : (s.ras r).misses = s.misses := ras_keeps (p := State.misses) (fun _ _ _ _ _ _ => rfl) (fun _ _ _ _ => rfl) s r
@[simp] theorem ras_moulds : (s.ras r).moulds = s.moulds := ras_keeps (p := State.moulds) (fun _ _ _ _ _ _ => rfl) (fun _ _ _ _ => rfl) s r
@[simp] theorem ras_xl : (s.ras r).xl = s.xl := ras_keeps (p := State.xl) (fun _ _ _ _ _ _ => rfl) (fun _ _ _ _ => rfl) s r
@[simp] theorem ras_reqs : (s.ras r).reqs = s.reqs := ras_keeps (p := State.reqs) (fun _ _ _ _ _ _ => rfl) (fun _ _ _ _ => rfl) s r
@[simp] theorem ras_qm : (s.ras r).qm = s.qm := ras_keeps (p := State.qm) (fun _ _ _ _ _ _ => rfl) (fun _ _ _ _ => rfl) s r
@[simp] theorem ras_nextId : (s.ras r).nextId = s.nextId := ras_keeps (p := State.nextId) (fun _ _ _ _ _ _ => rfl) (fun _ _ _ _ => rfl) s r

end

/-- An uncorrectable HBM error is recorded, counted in CZ_POISON.RD and reported. -/
theorem hbmUe_reports (s : State) (addr unit severity index flask pour code : Nat) :
    let u := s.hbmUe addr unit severity index flask pour code
    u.rd .RAS_ERR_HBM_UE = 1 ∧ s.counts u .POISON_RD ∧ u.calls = s.calls := by
  refine ⟨rd_wr_one _ _ _, ?_, ras_calls _ _⟩
  rw [State.counts, State.hbmUe, rd_wr_ne _ _ (.inl (by decide)), rd_bump_same, rd_ras _ _ (by decide)]

/-! ## Calls for a reset -/

theorem calls_callFlasks (s : State) (fs : List Nat) : (fs.foldl State.callFlask s).calls = s.calls ++ fs.map Call.flask := by
  induction fs generalizing s with
  | nil => simp
  | cons f fs ih => simp [ih, State.callFlask]

theorem callFlasks_keeps {β : Type} (p : State → β) (hp : ∀ t c, p { t with calls := c } = p t) (s : State) (fs : List Nat) :
    p (fs.foldl State.callFlask s) = p s := foldl_keeps p (fun t _ => hp t _) fs s

theorem popCount_mod_two_pow (v w : Nat) : ∀ k, k ≤ w → popCount (v % 2 ^ w) k = popCount v k
  | 0, _ => rfl
  | k + 1, h => by
    rw [popCount, popCount, popCount_mod_two_pow v w k (by omega), bit, bits_mod_two_pow v h, bit]

/-! ## A sequencer pair that miscompares (R482) -/

/-- The state in which a pair's miscompare has been recorded. -/
def missed (s : State) (p : Nat) (r : RasRec) : State := ({ s with misses := aset s.misses p s.time }.ras r).wr .RAS_ERR_LOCKSTEP 1

section
variable (s : State) (p : Nat) (r : RasRec)

theorem rd_missed {f : Field} (h : f ∉ recordRegs) (hl : f ≠ .RAS_ERR_LOCKSTEP) (i : Nat) : (missed s p r).rd f i = s.rd f i := by
  rw [missed, rd_wr_ne _ _ (.inl hl.symm), rd_ras _ _ h]
  rfl

theorem missed_ctxs : (missed s p r).ctxs = s.ctxs := ras_ctxs _ r
theorem missed_calls : (missed s p r).calls = s.calls := ras_calls _ r
theorem missed_misses : (missed s p r).misses = aset s.misses p s.time := ras_misses _ r

end

/-- The pair has miscompared within the last second. -/
def pairAgain (s : State) (p : Nat) : Bool := (s.misses.find? (fun m => m.1 == p)).any (fun m => decide (s.time < m.2 + 10 ^ 9))

/-- The error record of context x's pair p. -/
def missRecord (x : Ctx) (severity code : Nat) : RasRec :=
  { severity := severity, unit := 2, code := code, flask := x.flask, fgen := x.fgen, index := x.root / 16, pour := x.pour.word }

/-- A pair's first miscompare is recorded, and the pair stays in service. -/
theorem miscompare_of_first {s : State} {c : Nat} {x : Ctx} (hx : s.ctx? c = some x) (h : pairAgain s (x.root / 16) = false) :
    s.miscompare c = missed s (x.root / 16) (missRecord x 0 0xA) := by
  simp only [State.miscompare, hx]
  rw [if_pos]
  · rfl
  · revert h
    unfold pairAgain
    cases s.misses.find? (fun m => m.1 == x.root / 16) with
    | none => exact fun _ => rfl
    | some m => intro h; rw [Option.any_some] at h; simp only [h, Bool.not_false]

/-- The pair's bit in the mask of the pairs in service is cleared. -/
def pairMaskWithout (s : State) (p : Nat) : Nat := setBits (s.rd .SEQ_STATUS_PAIR_OK) p 1 0

/-- A pair's second miscompare within a second takes it out of service, with the resets that follow. -/
theorem miscompare_of_again {s : State} {c : Nat} {x : Ctx} (hx : s.ctx? c = some x) (h : pairAgain s (x.root / 16) = true) :
    let t := missed s (x.root / 16) (missRecord x 2 3)
    let u := t.wr .SEQ_STATUS_PAIR_OK (pairMaskWithout s (x.root / 16))
    s.miscompare c = if x.root / 16 = 0 || popCount (pairMaskWithout s (x.root / 16)) 16 < 12 || s.ctxs.any (fun y => y.root / 16 == x.root / 16 && y.mgmt)
      then u.callBlock else (u.flasksOn (x.root / 16)).foldl State.callFlask u := by
  intro t u
  have hok : t.rd .SEQ_STATUS_PAIR_OK = s.rd .SEQ_STATUS_PAIR_OK := rd_missed s _ _ (by decide) (by decide) 0
  have hctxs : u.ctxs = s.ctxs := missed_ctxs s _ _
  simp only [State.miscompare, hx]
  rw [if_neg]
  · have hfold (t' : State) (ht : t' = t) : (if (x.root / 16 = 0 || popCount (setBits (t'.rd .SEQ_STATUS_PAIR_OK) (x.root / 16) 1 0) 16 < 12 ||
          (t'.wr .SEQ_STATUS_PAIR_OK (setBits (t'.rd .SEQ_STATUS_PAIR_OK) (x.root / 16) 1 0)).ctxs.any
            (fun y => y.root / 16 == x.root / 16 && y.mgmt)) = true then
          (t'.wr .SEQ_STATUS_PAIR_OK (setBits (t'.rd .SEQ_STATUS_PAIR_OK) (x.root / 16) 1 0)).callBlock
        else ((t'.wr .SEQ_STATUS_PAIR_OK (setBits (t'.rd .SEQ_STATUS_PAIR_OK) (x.root / 16) 1 0)).flasksOn (x.root / 16)).foldl State.callFlask
          (t'.wr .SEQ_STATUS_PAIR_OK (setBits (t'.rd .SEQ_STATUS_PAIR_OK) (x.root / 16) 1 0))) =
        if x.root / 16 = 0 || popCount (pairMaskWithout s (x.root / 16)) 16 < 12 || s.ctxs.any (fun y => y.root / 16 == x.root / 16 && y.mgmt)
          then u.callBlock else (u.flasksOn (x.root / 16)).foldl State.callFlask u := by
      rw [ht, hok, ← hctxs]
      rfl
    exact hfold _ rfl
  · revert h
    unfold pairAgain
    cases s.misses.find? (fun m => m.1 == x.root / 16) with
    | none => exact fun h => absurd h (by simp)
    | some m => intro h; rw [Option.any_some] at h; simp only [h, Bool.not_true, Bool.false_eq_true, not_false_eq_true]

/-- What a second miscompare leaves. -/
theorem lockstep_again {s : State} {c : Nat} {x : Ctx} (hx : s.ctx? c = some x) (h : pairAgain s (x.root / 16) = true) :
    let p := x.root / 16
    let ok := pairMaskWithout s p % 2 ^ 16
    let u := s.miscompare c
    let whole := p = 0 ∨ popCount ok 16 < 12 ∨ ∃ y ∈ s.ctxs, y.root / 16 = p ∧ y.mgmt = true
    u.rd .RAS_ERR_LOCKSTEP = 1 ∧ (p, s.time) ∈ u.misses ∧ u.rd .SEQ_STATUS_PAIR_OK = ok ∧
      (whole → u.calls = s.calls ++ [.block]) ∧
      (¬ whole → (∀ y ∈ s.ctxs, y.root / 16 = p → .flask y.flask ∈ u.calls) ∧
        ∀ k, k ∈ u.calls → k ∈ s.calls ∨ ∃ y ∈ s.ctxs, y.root / 16 = p ∧ k = .flask y.flask) := by
  intro p ok u whole
  let t := (missed s p (missRecord x 2 3)).wr .SEQ_STATUS_PAIR_OK (pairMaskWithout s p)
  have hcalls : t.calls = s.calls := missed_calls s _ _
  have hctxs : t.ctxs = s.ctxs := missed_ctxs s _ _
  have hflasks {f : Nat} : f ∈ t.flasksOn p ↔ ∃ y ∈ s.ctxs, (y.root / 16 = p ∧ y.mgmt = false) ∧ y.flask = f := by
    simp [State.flasksOn, hctxs, List.mem_eraseDups, and_assoc]
  have hwhole : (decide (p = 0) || decide (popCount (pairMaskWithout s p) 16 < 12) || s.ctxs.any (fun y => y.root / 16 == p && y.mgmt)) = true ↔ whole := by
    simp only [whole, ok, popCount_mod_two_pow _ 16 16 le_rfl]
    simp [or_assoc]
  have hu : u = if whole then t.callBlock else (t.flasksOn p).foldl State.callFlask t := by
    rw [← if_congr hwhole rfl rfl]
    exact miscompare_of_again hx h
  have hkeeps {β : Type} (q : State → β) (hq : ∀ (t : State) c, q { t with calls := c } = q t) : q u = q t := by
    rw [hu]
    split
    · exact hq t _
    · exact callFlasks_keeps q hq t _
  have hlock : t.rd .RAS_ERR_LOCKSTEP = 1 := (rd_wr_ne _ _ (.inl (by decide))).trans (rd_wr_one _ _ _)
  have hmiss : t.misses = aset s.misses p s.time := missed_misses s _ _
  refine ⟨(hkeeps (fun t => t.rd .RAS_ERR_LOCKSTEP) fun _ _ => rfl).trans hlock, ?_,
    (hkeeps (fun t => t.rd .SEQ_STATUS_PAIR_OK) fun _ _ => rfl).trans (rd_wr_same _ _ _ _), fun hw => ?_, fun hw => ?_⟩
  · rw [hkeeps State.misses fun _ _ => rfl, hmiss]
    exact List.mem_cons_self
  · rw [hu, if_pos hw, State.callBlock, hcalls]
  · have hall : u.calls = s.calls ++ (t.flasksOn p).map Call.flask := by rw [hu, if_neg hw, calls_callFlasks, hcalls]
    refine ⟨fun y hy hyp => ?_, fun k hk => ?_⟩
    · have hnot : y.mgmt = false := by
        by_contra hc
        exact hw (.inr (.inr ⟨y, hy, hyp, by simpa using hc⟩))
      rw [hall]
      exact List.mem_append_right _ (List.mem_map_of_mem (hflasks.2 ⟨y, hy, ⟨hyp, hnot⟩, rfl⟩))
    · rw [hall, List.mem_append, List.mem_map] at hk
      rcases hk with hk | ⟨f, hf, rfl⟩
      · exact .inl hk
      · obtain ⟨y, hy, ⟨hyp, -⟩, rfl⟩ := hflasks.1 hf
        exact .inr ⟨y, hy, hyp, rfl⟩

/-- An uncorrectable SRAM error is recorded and reported. -/
def sramNoted (s : State) (r : RasRec) : State := (s.ras r).wr .RAS_ERR_SRAM_UE 1

theorem sramNoted_reports (s : State) (r : RasRec) : (sramNoted s r).rd .RAS_ERR_SRAM_UE = 1 ∧ (sramNoted s r).calls = s.calls ∧
    (sramNoted s r).moulds = s.moulds ∧ (sramNoted s r).xl = s.xl :=
  ⟨rd_wr_one _ _ _, ras_calls s r, ras_moulds s r, ras_xl s r⟩

/-- The image of a thaw that is otherwise in order, read in error. -/
theorem thaw_of_bad_image {s : State} {n l : Nat} (hn : n < 16) (h : s.thawFails n = none) :
    let u := s.flaskThaw n (some l)
    u.replied n stBADARG ∧ u.rd .RAS_ERR_HBM_UE = 1 ∧ s.counts u .POISON_RD := by
  intro u
  let b := s.countFor (.overhead (s.fref n).1) 9 (s.thawRange n).2
  have hregs : b.regs = s.regs := by
    simp only [b, State.countFor]
    split_ifs <;> rfl
  obtain ⟨a, hu⟩ : ∃ a, u = (b.hbmUe a 0x0B 0 0 (s.fref n).1 0).reply n stBADARG := by
    simp only [u, State.flaskThaw, h]
    exact ⟨_, rfl⟩
  obtain ⟨hue, hcount, -⟩ := hbmUe_reports b a 0x0B 0 0 (s.fref n).1 0 5
  rw [hu]
  refine ⟨replied_reply _ _ hn (by decide), ?_, ?_⟩
  · rw [rd_reply_nil _ _ _ (by simp [replyFields])]
    exact hue
  · rw [State.counts, rd_reply_nil _ _ _ (by simp [replyFields]), hcount, State.rd, hregs, State.rd]

/-- Settles O59 (R481 to R484). -/
theorem faultsOfTheBlock : Obligations.FaultsOfTheBlock := by
  refine ⟨fun s n hready => ?_, fun s c x hx => ?_, fun s unit hphase => ⟨_, rfl, ?_⟩, fun s idx seg g hg => ⟨_, rfl, ?_⟩,
    fun s slot va l hl => ⟨_, rfl, ?_⟩, fun s slot level pre h hmem hslot hlevel hpre => ⟨_, rfl, ?_⟩,
    fun s f unit hf => ⟨_, rfl, ?_⟩, fun s unit => ⟨_, rfl, ?_⟩, fun s i hen => ⟨_, rfl, ?_⟩, fun s n l hstarts hok => ?_⟩
  · refine ⟨_, rfl, ?_⟩
    have h : s.patrol n = s.bump .RAS_CE_SRAM 0 n := by simp [State.patrol, hready]
    rw [h]
    exact ⟨by simp, (rd_close _ _ _ _).trans (counts_bump s _ 0 n), by
      rw [onlyRegs_close_iff]; exact onlyRegs_bump (onlyRegs_refl s _) (by simp) _⟩
  · refine ⟨s.miscompare c, rfl, ?_⟩
    cases hagain : pairAgain s (x.root / 16) with
    | false =>
      rw [miscompare_of_first hx hagain]
      exact ⟨rd_wr_one _ _ _, missed_misses s _ _ ▸ List.mem_cons_self,
        fun _ => ⟨rd_missed s _ _ (by decide) (by decide) 0, missed_calls s _ _⟩, fun h => absurd (h.symm.trans hagain) (by decide)⟩
    | true =>
      obtain ⟨hlock, hmiss, hok, hcalls⟩ := lockstep_again hx hagain
      exact ⟨hlock, hmiss, fun h => absurd (hagain.symm.trans h) (by decide), fun _ => ⟨hok, hcalls⟩⟩
  · have h : s.parity unit = (s.ras { severity := 3, unit := unit, code := 4 }).callBlock := by simp [State.parity, hphase]
    rw [h]
    exact List.mem_append_right _ (List.mem_singleton_self _)
  · obtain ⟨hue, hcalls, hmoulds, -⟩ := sramNoted_reports s { severity := 0, unit := 0xD, code := 1 }
    have h : s.sramUe (.mould idx seg) =
        let t := sramNoted s { severity := 0, unit := 0xD, code := 1 }
        let t := { t with moulds := { t.moulds with segs := t.moulds.segs.filter (fun x => x != g) } }
        if g.pinned then
          { (t.bump .MC_STATS_MISSES).say (.fillRead idx seg) with
            moulds := { t.moulds with fills := t.moulds.fills ++ [{ idx := idx, gen := g.gen, seg := seg, pin := true }] } }
        else t := by
      simp only [State.sramUe, hg]
      rfl
    rw [h]
    generalize sramNoted s { severity := 0, unit := 0xD, code := 1 } = t at *
    dsimp only
    split
    · refine ⟨(rd_bump_ne t 1 (.inl (by decide))).trans hue, ?_, hcalls⟩
      simp [hmoulds]
    · exact ⟨hue, by simp [hmoulds], hcalls⟩
  · obtain ⟨hue, hcalls, -, hxl⟩ := sramNoted_reports s { severity := 0, unit := 4, code := 1 }
    have h : s.sramUe (.sheet slot va) =
        let t := sramNoted s { severity := 0, unit := 4, code := 1 }
        { t with xl := { t.xl with sheets := t.xl.sheets.filter (fun x => x != l) } } := by
      simp only [State.sramUe, hl]
      rfl
    rw [h]
    generalize sramNoted s { severity := 0, unit := 4, code := 1 } = t at *
    exact ⟨hue, by simp, hcalls⟩
  · obtain ⟨hue, hcalls, -, hxl⟩ := sramNoted_reports s { severity := 0, unit := 4, code := 1 }
    have hany : s.xl.tables.any (fun h => h.slot == slot && h.level == level && h.pre == pre) = true :=
      List.any_eq_true.2 ⟨h, hmem, by simp [hslot, hlevel, hpre]⟩
    have h' : s.sramUe (.walk slot level pre) =
        let t := sramNoted s { severity := 0, unit := 4, code := 1 }
        { t with xl := { t.xl with tables := t.xl.tables.filter (fun h => !(h.slot == slot && h.level == level && h.pre == pre)) } } := by
      simp only [State.sramUe, hany]
      rfl
    rw [h']
    generalize sramNoted s { severity := 0, unit := 4, code := 1 } = t at *
    exact ⟨hue, by simp [hslot, hlevel, hpre], hcalls⟩
  · obtain ⟨hue, hcalls, -⟩ := sramNoted_reports s { severity := 1, unit := unit, code := 1, flask := f, fgen := s.flaskGen f }
    simp only [State.sramUe, if_neg hf]
    exact ⟨hue, congrArg (· ++ [Call.flask f]) hcalls⟩
  · obtain ⟨hue, hcalls, -⟩ := sramNoted_reports s { severity := 3, unit := unit, code := 1 }
    exact ⟨hue, congrArg (· ++ [Call.block]) hcalls⟩
  · obtain ⟨hue, hcount, -⟩ := hbmUe_reports s (s.rd .MC_HTAB_BASE * granule + 32 * i) 0xD 3 0 noFlask 0 5
    simp only [State.sramUe, hen, if_true]
    exact ⟨hue, hcount, by simp [State.callBlock]⟩
  · obtain ⟨hn, -, -, hop, hcheck, -⟩ := id hstarts
    have hrun : s.sramUe (.image n l) = s.mbRun n 0x61 (fun t => t.flaskThaw n (some l)) := by
      simp [State.sramUe, hop, hcheck]
    obtain ⟨hreplied, hue, hcount⟩ := thaw_of_bad_image (l := l) hn hok
    refine ⟨_, congrArg s.after (hrun.trans (mbRun_of_starts hstarts _)), hreplied, hue, ?_⟩
    rwa [State.counts, rd_begun s n (by decide) (by decide) (by decide)] at hcount

end Sys2Proof.Laws

/-! # Power states

POWER_SET and its drain, DROWSE and its exit, and idle gating (R476 to R479). -/
namespace Sys2Proof.Laws

open Sys2Proof.Machine

/-! ## Replies to several slots -/

section
variable (s : State)

/-- The reply of one slot leaves the state of another. -/
theorem slotState_reply_ne {m n : Nat} (hm : m < 16) (hne : m ≠ n) (st : Nat) (outs : List Nat) :
    (s.reply n st outs).slotState m = s.slotState m := by
  have houts (t : State) : ((List.range outs.length).foldl (fun t i => t.wr .MB_OUT (nth outs i 0) (n * 128 + i)) t).rd
      .MB_STATE_STATE 0 = t.rd .MB_STATE_STATE 0 :=
    foldl_keeps (fun t => t.rd .MB_STATE_STATE 0) (fun t _ => rd_wr_ne t _ (.inl (by decide))) _ t
  have hwidth : Field.MB_STATE_STATE.row.width = 32 := rfl
  have hslot (t : State) (h : t.rd .MB_STATE_STATE = s.rd .MB_STATE_STATE) : (t.setSlot n mbDONE).slotState m = s.slotState m := by
    rw [State.slotState, State.setSlot, rd_wr_same, hwidth, bits_mod_two_pow _ (by omega), bits_setBits_disjoint _ _ (by omega), h]
    rfl
  simp only [State.reply]
  split <;> exact hslot _ (by simp [rd_wr, houts])

theorem replied_reply_ne {m n st : Nat} (hm : m < 16) (hne : m ≠ n) (st' : Nat) (outs : List Nat) :
    (s.reply n st' outs).replied m st ↔ s.replied m st := by
  have houts (t : State) : ((List.range outs.length).foldl (fun t i => t.wr .MB_OUT (nth outs i 0) (n * 128 + i)) t).rd
      .MB_RPL_STATUS m = t.rd .MB_RPL_STATUS m :=
    foldl_keeps (fun t => t.rd .MB_RPL_STATUS m) (fun t _ => rd_wr_ne t _ (.inl (by decide))) _ t
  have hstatus : (s.reply n st' outs).rd .MB_RPL_STATUS m = s.rd .MB_RPL_STATUS m := by
    simp only [State.reply, State.setSlot]
    split <;> simp [rd_wr, houts, hne.symm]
  rw [State.replied, State.replied, slotState_reply_ne s hm hne, hstatus]

end

/-- The fields that a reply writes. -/
def replyNames : List Field :=
  [.MB_RPL_STATUS, .MB_RPL_OPCODE, .MB_RPL_TAG, .MB_RPL_RLEN, .MB_ERR_DONE, .MB_STATE_STATE, .MB_OUT]

theorem not_mem_replyFields {f : Field} (h : f ∉ replyNames) (i n : Nat) : (f, i) ∉ replyFields n := by
  intro hm
  refine h ?_
  simp only [replyFields, List.mem_append, List.mem_cons, List.not_mem_nil, or_false, Prod.mk.injEq, List.mem_map] at hm
  rcases hm with (⟨rfl, -⟩ | ⟨rfl, -⟩ | ⟨rfl, -⟩ | ⟨rfl, -⟩ | ⟨rfl, -⟩ | ⟨rfl, -⟩) | ⟨_, -, rfl, -⟩ <;> simp [replyNames]

/-- Every slot of a list has replied. -/
theorem replied_replyAll {ns : List Nat} {n st : Nat} (hn : n < 16) (hst : st < 2 ^ 16) (outs : List Nat) {s : State}
    (h : n ∈ ns ∨ s.replied n st) : (s.replyAll ns st outs).replied n st := by
  induction ns generalizing s with
  | nil => exact h.resolve_left List.not_mem_nil
  | cons m ns ih =>
    refine ih ?_
    by_cases hm : n = m
    · exact .inr (hm ▸ replied_reply s outs (hm ▸ hn) hst)
    · exact h.imp (fun hmem => (List.mem_cons.1 hmem).resolve_left hm) fun hr => (replied_reply_ne s hn hm st outs).2 hr

theorem replyAll_keeps {β : Type} (p : State → β) (hwr : ∀ t f v i, p (t.wr f v i) = p t) (s : State) (ns : List Nat) (st : Nat)
    (outs : List Nat) : p (s.replyAll ns st outs) = p s :=
  foldl_keeps p (fun t n => reply_keeps p hwr t n st outs) ns s

/-- A register of no reply field reads as before the replies. -/
theorem rd_replyAll {f : Field} (i : Nat) (h : ∀ n, (f, i) ∉ replyFields n) (s : State) (ns : List Nat) (st : Nat) :
    (s.replyAll ns st).rd f i = s.rd f i :=
  foldl_keeps (fun t => t.rd f i) (fun t n => rd_reply_nil t n st (h n)) ns s

@[simp] theorem sameMem_replyAll (s t : State) (ns : List Nat) (st : Nat) (outs : List Nat) :
    sameMem s (t.replyAll ns st outs) ↔ sameMem s t := by
  have hh : (t.replyAll ns st outs).hbm = t.hbm := replyAll_keeps State.hbm (fun _ _ _ _ => rfl) _ _ _ _
  have hw : (t.replyAll ns st outs).wbuf = t.wbuf := replyAll_keeps State.wbuf (fun _ _ _ _ => rfl) _ _ _ _
  simp only [sameMem, State.sysByte, State.dieByte, hh, hw]

/-! ## The start point of a command -/

section
variable (s : State) (n : Nat)

theorem sameMem_begun : sameMem s (s.begun n) := sameMem_of_eq (begun_hbm s n) (begun_wbuf s n)

@[simp] theorem begun_power : (s.begun n).power = s.power :=
  begun_keeps State.power (fun _ _ => rfl) (fun _ _ _ => rfl) (fun _ _ _ => rfl) s n
@[simp] theorem begun_exit : (s.begun n).exit = s.exit :=
  begun_keeps State.exit (fun _ _ => rfl) (fun _ _ _ => rfl) (fun _ _ _ => rfl) s n
@[simp] theorem begun_drowse : (s.begun n).drowse = s.drowse := by
  simp only [State.drowse, rd_begun s n (f := .PWR_STATUS_STATE) (by decide) (by decide) (by decide)]

/-- A command's slot runs from its start point on. -/
theorem slotState_begun {n : Nat} (hn : n < 16) : (s.begun n).slotState n = mbRUNNING :=
  (claim_keeps (fun t => t.slotState n) (fun t _ _ => congrArg (bits · (2 * n) 2) (rd_wr_ne t _ (.inl (by decide))))
    (fun t _ _ => congrArg (bits · (2 * n) 2) (rd_wr_ne t _ (.inl (by decide)))) _).trans (slotState_setSlot s hn mbRUNNING)

end

/-! ## POWER_SET (R478) -/

/-- The row of POWER_SET with the STATE that the command asks for runs its body. -/
theorem answers_powerSet {s : State} {n v : Nat} {i : Instr} {P : State → Prop} (h : s.starts n 0x73)
    (hi : exec i s = s.after (s.powerRow n v)) (hv : bits (s.par n 0) 48 2 = v)
    (hP : P (if v = 0 then (s.begun n).powerActive n else (s.begun n).powerDown n v (s.earlier n))) : answers i s P := by
  refine ⟨_, hi.trans (congrArg s.after ?_), hP⟩
  have hrow : s.powerRow n v = s.mbRun n 0x73 (fun t => if v = 0 then t.powerActive n else t.powerDown n v (s.earlier n)) := by
    simp [State.powerRow, hv]
  rw [hrow, mbRun_of_starts h]

/-- The rows of POWER_SET DROWSE and OFF. -/
theorem powerSet_down {s : State} {n v : Nat} {i : Instr} (h : (i, v) ∈ [(Instr.powerSetDrowse n, 2), (.powerSetOff n, 3)]) :
    exec i s = s.after (s.powerRow n v) ∧ v ≠ 0 ∧ (v = 2 ∨ v = 3) := by
  simp only [List.mem_cons, Prod.mk.injEq, List.not_mem_nil, or_false] at h
  rcases h with ⟨rfl, rfl⟩ | ⟨rfl, rfl⟩
  · exact ⟨rfl, by decide, .inl rfl⟩
  · exact ⟨rfl, by decide, .inr rfl⟩

theorem powerClaimed_iff {s : State} {w : PowerWait} (h : s.power = some w) (v : Nat) :
    s.powerClaimed v = true ↔ w.state = v ∨ ∃ p ∈ w.also, p.2 = v := by
  simp [State.powerClaimed, h]

/-- POWER_SET DROWSE and OFF, where no other POWER_SET waits. -/
theorem powerDown_of_none {s : State} {n v : Nat} (hp : s.power = none) (hv : v = 2 → s.drowse = false) (prior : List Nat) :
    s.powerDown n v prior = { s.wr .PWR_STATUS_ENTERING 1 with power := some { slot := n, state := v, prior := prior } } := by
  have hgo : (decide (v = 2) && s.drowse || s.powerClaimed v) = false := by
    by_cases h2 : v = 2 <;> simp [State.powerClaimed, hp, h2, hv]
  simp only [State.powerDown, hgo, hp]
  rfl

/-- POWER_SET DROWSE and OFF of a state that the one that waits does not claim. -/
theorem powerDown_of_unclaimed {s : State} {n v : Nat} {w : PowerWait} (hp : s.power = some w) (hv : v = 2 → s.drowse = false)
    (hfree : s.powerClaimed v = false) (prior : List Nat) :
    s.powerDown n v prior = { s with power := some { w with also := w.also ++ [(n, v)] } } := by
  have hgo : (decide (v = 2) && s.drowse || s.powerClaimed v) = false := by
    by_cases h2 : v = 2 <;> simp [h2, hv] <;> simpa [h2] using hfree
  simp only [State.powerDown, hgo, hp]
  rfl

theorem powerDown_of_claimed {s : State} {n v : Nat} (h : (v = 2 ∧ s.drowse = true) ∨ s.powerClaimed v = true) (prior : List Nat) :
    s.powerDown n v prior = s.reply n stSTATE := by
  have hgo : (decide (v = 2) && s.drowse || s.powerClaimed v) = true := by
    rcases h with ⟨h, h'⟩ | h
    · simp [h, h']
    · simp [h]
  simp only [State.powerDown, hgo, if_true]

/-! ## The end of DROWSE (R476, R479) -/

/-- The registers that the checks of an access through a window may write. -/
def accessRegs : List Field :=
  [.HLP_ERR_NO_WINDOW, .HLP_DROP_COUNT_HEADLESS_DROPS, .HLP_ERR_SEALED, .HLP_DROP_COUNT_SEALED_REFUSALS, .HLP_ERR_RIGHTS,
   .STALE_DROP_FLASK, .STALE_LAST_KIND, .STALE_LAST_ID, .STALE_LAST_GEN_SEEN, .STALE_LAST_GEN_NOW]

/-- An access of a host core through a window. -/
def LineAct.viaWindow : LineAct → Prop
  | .read _ _ | .own _ _ | .upgrade _ _ | .writeBack _ _ => True
  | _ => False

section
variable {β : Type} {p : State → β} (hblind : blindToStores p) (hwr : ∀ t f v, f ∈ accessRegs → p (t.wr f v) = p t)
include hblind

theorem blind_hlp (t : State) (h : Hlp) : p { t with hlp := h } = p t := hblind t t.hbm t.wbuf h t.sent t.errWait

theorem blind_say (t : State) (m : Msg) : p (t.say m) = p t := hblind t t.hbm t.wbuf t.hlp _ t.errWait

theorem blind_giveCredit (t : State) (c : Pool) : p (t.giveCredit c) = p t := blind_say hblind t _

theorem blind_refuseHost (t : State) (a : LineAct) : p (t.refuseHost a) = p t := by
  unfold State.refuseHost
  cases a <;> simp only [blind_giveCredit hblind, blind_say hblind]

theorem blind_recallSoft (t : State) (l : Nat) : p (t.recallSoft l) = p t := by
  unfold State.recallSoft
  split
  · rfl
  · exact (blind_hlp hblind _ _).trans (blind_recall hblind t l)

theorem blind_waitSoft (t : State) (l : Nat) (a : LineAct) : p (t.waitSoft l a) = p t :=
  (blind_hlp hblind _ _).trans (blind_recallSoft hblind t l)

theorem blind_giveOwned (t : State) (tag : Nat) (ok : Bool) : p (t.giveOwned tag ok) = p t :=
  (blind_giveCredit hblind _ _).trans (blind_say hblind _ _)

theorem blind_giveLine (t : State) (tag line : Nat) : p (t.giveLine tag line) = p t := blind_say hblind _ _

theorem blind_recordLine (t : State) (line : Nat) (excl : Bool) : p (t.recordLine line excl) = p t := blind_hlp hblind _ _

theorem blind_recallAgain (t : State) (n line : Nat) : p (t.recallAgain n line) = p t := by
  unfold State.recallAgain
  split
  · exact blind_recall hblind t line
  · rfl

theorem blind_onLine (t : State) (n line : Nat) (a : LineAct) (blocked : Bool) {go : State → State} (hgo : ∀ t, p (go t) = p t) :
    p (t.onLine n line a blocked go) = p t := by
  unfold State.onLine
  split
  · cases a <;> simp only [blind_waitSoft hblind, blind_waitLine hblind]
  · split
    · exact blind_waitLine hblind t _ _
    · exact (blind_recallAgain hblind _ _ _).trans (hgo t)

theorem blind_hostRead (t : State) (hpa tag : Nat) : p (t.hostRead hpa tag) = p t := by
  unfold State.hostRead
  split
  · rfl
  · simp only
    split
    · split
      · exact blind_waitSoft hblind t _ _
      · exact (blind_giveCredit hblind _ _).trans (blind_giveLine hblind _ _ _)
    · exact blind_onLine hblind t _ _ _ _ fun u =>
        (blind_giveCredit hblind _ _).trans ((blind_giveLine hblind _ _ _).trans (blind_recordLine hblind u _ _))

theorem blind_hostOwn (t : State) (hpa tag : Nat) : p (t.hostOwn hpa tag) = p t := by
  unfold State.hostOwn
  split
  · rfl
  · simp only
    split
    · split
      · exact blind_waitSoft hblind t _ _
      · exact (blind_giveOwned hblind _ _ _).trans (blind_giveLine hblind _ _ _)
    · exact blind_onLine hblind t _ _ _ _ fun u =>
        (blind_giveOwned hblind _ _ _).trans ((blind_giveLine hblind _ _ _).trans (blind_recordLine hblind u _ _))

theorem blind_hostUpgrade (t : State) (hpa tag : Nat) : p (t.hostUpgrade hpa tag) = p t := by
  unfold State.hostUpgrade
  split
  · rfl
  · simp only
    split_ifs
    · exact blind_giveOwned hblind t _ _
    · exact blind_waitLine hblind t _ _
    · exact blind_giveOwned hblind t _ _
    · exact blind_waitSoft hblind t _ _
    · exact (blind_recallAgain hblind _ _ _).trans ((blind_giveOwned hblind _ _ _).trans (blind_recordLine hblind t _ _))

theorem blind_hostStore (t : State) (hpa : Nat) (data : List Byte) : p (t.hostStore hpa data) = p t := by
  unfold State.hostStore
  split
  · rfl
  · simp only
    have hput (u : State) (cells : List (Nat × Byte)) (m : Msg) (c : Pool) : p (((u.overPut cells).say m).giveCredit c) = p u :=
      (blind_giveCredit hblind _ _).trans ((blind_say hblind _ _).trans (blind_overPut hblind _ _))
    split_ifs
    · exact blind_waitLine hblind t _ _
    · exact (blind_hlp hblind _ _).trans (hput t _ _ _)
    · exact hput t _ _ _

theorem blind_lineAct (t : State) {a : LineAct} (ha : LineAct.viaWindow a) : p (t.lineAct a) = p t := by
  cases a with
  | read hpa tag => exact blind_hostRead hblind t hpa tag
  | own hpa tag => exact blind_hostOwn hblind t hpa tag
  | upgrade hpa tag => exact blind_hostUpgrade hblind t hpa tag
  | writeBack hpa data => exact blind_hostStore hblind t hpa data
  | store => exact ha.elim
  | load => exact ha.elim
  | inbound => exact ha.elim

include hwr

omit hblind in
theorem winRefusal_keeps {t u : State} {hpa : Nat} {write : Bool} (h : t.winRefusal hpa write = some u) : p u = p t := by
  unfold State.winRefusal at h
  split at h
  · cases h
    exact hwr _ _ _ (by simp [accessRegs])
  · simp only at h
    split_ifs at h
    · cases h
      exact hwr _ _ _ (by simp [accessRegs])
    · cases h
      simp only [State.stale]
      simp only [hwr _ .STALE_LAST_KIND _ (by simp [accessRegs]), hwr _ .STALE_LAST_ID _ (by simp [accessRegs]),
        hwr _ .STALE_LAST_GEN_SEEN _ (by simp [accessRegs]), hwr _ .STALE_LAST_GEN_NOW _ (by simp [accessRegs])]
      exact hwr _ _ _ (by simp [accessRegs, StaleKind.field])
    · cases h
      exact (hwr _ _ _ (by simp [accessRegs])).trans (hwr _ _ _ (by simp [accessRegs]))
    · cases h
      exact hwr _ _ _ (by simp [accessRegs])
    · cases h
      exact hwr _ _ _ (by simp [accessRegs])

/-- Outside DROWSE an access through a window keeps all that its checks and the link do not show. -/
theorem hostAccess_keeps {t : State} (hawake : t.drowse = false) (hpa : Nat) (write : Bool) {a : LineAct}
    (ha : LineAct.viaWindow a) : p (t.hostAccess hpa write a) = p t := by
  unfold State.hostAccess
  split
  · next u hu => exact (blind_refuseHost hblind _ _).trans (winRefusal_keeps hwr hu)
  · simp only [hawake, Bool.not_false, if_true]
    split
    · rfl
    · exact blind_lineAct hblind t ha

end

/-- The held accesses that are performed when DROWSE ends. -/
def performHeld (u : State) (a : LineAct) : State :=
  match a with
  | .read hpa _ => u.hostAccess hpa false a
  | .own hpa _ | .upgrade hpa _ | .writeBack hpa _ => u.hostAccess hpa true a
  | _ => u

/-- A view that no write of the accesses' registers moves, nor the state of DROWSE, is kept by the held accesses. -/
theorem performHeld_keeps {β : Type} {p : State → β} (hblind : blindToStores p)
    (hwr : ∀ t f v, f ∈ accessRegs → p (t.wr f v) = p t) {t : State} (hawake : t.drowse = false) (as : List LineAct) :
    p (as.foldl performHeld t) = p t ∧ (as.foldl performHeld t).drowse = false := by
  have hone {u : State} (hu : u.drowse = false) (a : LineAct) : p (performHeld u a) = p u ∧ (performHeld u a).drowse = u.drowse := by
    have hdrowse (v : State) (hpa : Nat) (write : Bool) (hv : v.drowse = false) (ha : LineAct.viaWindow a) :
        (v.hostAccess hpa write a).drowse = v.drowse :=
      hostAccess_keeps (p := State.drowse) (fun _ _ _ _ _ _ => rfl)
        (fun t f v hf => congrArg (· == 2) (rd_wr_ne t v (.inl (by rintro rfl; simp [accessRegs] at hf)))) hv hpa write ha
    cases a with
    | read hpa tag => exact ⟨hostAccess_keeps hblind hwr hu _ _ trivial, hdrowse u _ _ hu trivial⟩
    | own hpa tag => exact ⟨hostAccess_keeps hblind hwr hu _ _ trivial, hdrowse u _ _ hu trivial⟩
    | upgrade hpa tag => exact ⟨hostAccess_keeps hblind hwr hu _ _ trivial, hdrowse u _ _ hu trivial⟩
    | writeBack hpa data => exact ⟨hostAccess_keeps hblind hwr hu _ _ trivial, hdrowse u _ _ hu trivial⟩
    | store => exact ⟨rfl, rfl⟩
    | load => exact ⟨rfl, rfl⟩
    | inbound => exact ⟨rfl, rfl⟩
  refine List.foldlRecOn (motive := fun u : State => p u = p t ∧ u.drowse = false) as performHeld ⟨rfl, hawake⟩ fun u hu a _ => ?_
  exact ⟨(hone hu.2 a).1.trans hu.1, (hone hu.2 a).2.trans hu.2⟩

/-- The exit from DROWSE: the block is ACTIVE, then the replies go out and the held accesses are performed. -/
def activeAgain (s : State) (c : Nat) : State :=
  (({ s with exit := none }.wr .PWR_STATUS_EXITING 0).wr .PWR_STATUS_STATE 0).wr .PWR_STATUS_WAKE_CAUSE c

theorem exitComplete_eq {s : State} {c : Nat} {ns : List Nat} (h : s.exit = some (c, ns)) :
    let t := (activeAgain s c).replyAll ns stOK
    s.exitComplete = s.hlp.asleep.foldl performHeld { t with hlp := { t.hlp with asleep := [] } } := by
  have hhlp : ((activeAgain s c).replyAll ns stOK).hlp = s.hlp := replyAll_keeps State.hlp (fun _ _ _ _ => rfl) _ _ _ _
  intro t
  simp only [State.exitComplete, h, State.exitDone]
  rw [show t.hlp = s.hlp from hhlp]
  change (t.hlp.asleep.foldl _ { t with hlp := { t.hlp with asleep := [] } }) = _
  rw [show t.hlp = s.hlp from hhlp]
  rfl

/-- The end of DROWSE. -/
theorem exitComplete_leaves {s : State} {c : Nat} {ns : List Nat} (h : s.exit = some (c, ns)) :
    let u := s.exitComplete
    (s.hlp.asleep = [] → sameMem s u) ∧ u.rd .PWR_STATUS_STATE = 0 ∧ u.rd .PWR_STATUS_EXITING = 0 ∧
      u.rd .PWR_STATUS_WAKE_CAUSE = c % 16 ∧ u.exit = none ∧ ∀ n ∈ ns, n < 16 → u.replied n stOK := by
  intro u
  let t := (activeAgain s c).replyAll ns stOK
  let t' : State := { t with hlp := { t.hlp with asleep := [] } }
  have hu : u = s.hlp.asleep.foldl performHeld t' := exitComplete_eq h
  have hrd {f : Field} (hf : f ∉ replyNames) : t'.rd f = (activeAgain s c).rd f := rd_replyAll 0 (not_mem_replyFields hf 0) _ _ _
  have hstate : t'.rd .PWR_STATUS_STATE = 0 := by
    rw [hrd (by decide), activeAgain, rd_wr_ne _ _ (.inl (by decide)), rd_wr_same]
    exact Nat.zero_mod _
  have hexiting : t'.rd .PWR_STATUS_EXITING = 0 := by
    rw [hrd (by decide), activeAgain, rd_wr_ne _ _ (.inl (by decide)), rd_wr_ne _ _ (.inl (by decide)), rd_wr_same]
    exact Nat.zero_mod _
  have hcause : t'.rd .PWR_STATUS_WAKE_CAUSE = c % 16 := by
    rw [hrd (by decide), activeAgain, rd_wr_same]
    rfl
  have hawake : t'.drowse = false := by simp [State.drowse, hstate]
  have hkeeps {β : Type} (p : State → β) (hblind : blindToStores p) (hwr : ∀ t f v, f ∈ accessRegs → p (t.wr f v) = p t) : p u = p t' :=
    hu ▸ (performHeld_keeps hblind hwr hawake _).1
  have hkeepsRd {f : Field} (hf : f ∉ accessRegs) (i : Nat) : u.rd f i = t'.rd f i :=
    hkeeps (fun t => t.rd f i) (fun _ _ _ _ _ _ => rfl) fun t g v hg => rd_wr_ne t v (.inl fun e => hf (e ▸ hg))
  refine ⟨fun hquiet => ?_, (hkeepsRd (by decide) 0).trans hstate, (hkeepsRd (by decide) 0).trans hexiting,
    (hkeepsRd (by decide) 0).trans hcause, ?_, fun n hn h16 => ?_⟩
  · rw [hu, hquiet]
    exact (sameMem_replyAll _ _ _ _ _).2 (sameMem_of_eq rfl rfl)
  · rw [hkeeps State.exit (fun _ _ _ _ _ _ => rfl) fun _ _ _ _ => rfl]
    exact replyAll_keeps State.exit (fun _ _ _ _ => rfl) _ _ _ _
  · obtain ⟨hdone, hst⟩ : t'.replied n stOK := replied_replyAll h16 (by decide) [] (.inl hn)
    exact ⟨(congrArg (bits · (2 * n) 2) (hkeepsRd (by decide) 0)).trans hdone, (hkeepsRd (by decide) n).trans hst⟩

/-! ## The drain of a POWER_SET (R478) -/

/-- What a POWER_SET OFF leaves. -/
theorem rd_of_regs_nil {s : State} (h : s.regs = []) (f : Field) (i : Nat) : s.rd f i = f.resetAt i := by
  simp [State.rd, h, sget]

section
variable {s : State} {w : PowerWait} (hw : s.power = some w) (hdrained : s.drained w = true)
include hw hdrained

/-- The state in which no POWER_SET waits any more. -/
theorem powerDrained_of_drowse (hstate : w.state = 2) :
    s.powerDrained = (({ s with power := none }.wr .PWR_STATUS_ENTERING 0)).enterDrowse w := by
  simp only [State.powerDrained, hw, hdrained, hstate]
  rfl

theorem powerDrained_of_off (hstate : w.state ≠ 2) (haccs : s.meter.accs = []) (hblocks : s.meter.blocks = []) :
    s.powerDrained = State.say { ((({ s with power := none }.wr .PWR_STATUS_ENTERING 0)).replyAll (w.slot :: w.also.map Prod.fst) stOK).cleared
      [] {} with hbm := [] } .powerOff := by
  simp only [State.powerDrained, hw, hdrained, hstate, haccs, hblocks]
  rfl

end

/-- The block in DROWSE, in which the POWER_SETs that waited for it have replied. -/
def asleepFrom (s : State) (w : PowerWait) : State :=
  ((s.rstAll drowseFields 0).wr .PWR_STATUS_STATE 2).replyAll (w.slot :: (w.also.filter (fun p => p.2 == 2)).map Prod.fst) stOK

/-- Entry to DROWSE: the POWER_SETs that wait for OFF go on waiting. -/
theorem enterDrowse_eq (s : State) (w : PowerWait) :
    s.enterDrowse w = match w.also.filter (fun p => p.2 != 2) with
      | [] => asleepFrom s w
      | (n, st) :: rest => { (asleepFrom s w).wr .PWR_STATUS_ENTERING 1 with power := some { slot := n, state := st, prior := [], also := rest } } := by
  simp only [State.enterDrowse, List.partition_eq_filter_filter]
  rfl

theorem asleepFrom_leaves (s : State) (w : PowerWait) :
    let u := asleepFrom s w
    sameMem s u ∧ u.drowse = true ∧ (w.slot < 16 → u.replied w.slot stOK) ∧ (∀ p ∈ w.also, p.2 = 2 → p.1 < 16 → u.replied p.1 stOK) ∧
    u.power = s.power ∧ u.rd .PWR_STATUS_ENTERING = s.rd .PWR_STATUS_ENTERING := by
  intro u
  have hmem : sameMem s ((s.rstAll drowseFields 0).wr .PWR_STATUS_STATE 2) := sameMem_of_eq rfl rfl
  refine ⟨(sameMem_replyAll _ _ _ _ _).2 hmem, ?_, fun h => replied_replyAll h (by decide) [] (.inl List.mem_cons_self),
    fun p hp h2 h16 => replied_replyAll h16 (by decide) [] (.inl (List.mem_cons_of_mem _ (List.mem_map_of_mem (by simp [hp, h2])))),
    replyAll_keeps State.power (fun _ _ _ _ => rfl) _ _ _ _, ?_⟩
  · have hstate : u.rd .PWR_STATUS_STATE = 2 := (rd_replyAll 0 (not_mem_replyFields (by decide) 0) _ _ _).trans (rd_wr_same _ _ _ _)
    simp [State.drowse, hstate]
  · refine (rd_replyAll 0 (not_mem_replyFields (by decide) 0) _ _ _).trans ?_
    rw [rd_wr_ne _ _ (.inl (by decide))]
    exact (rd_wr_ne _ _ (.inl (by decide))).trans (rd_wr_ne s _ (.inl (by decide)))

/-- What a complete drain for DROWSE leaves. -/
theorem powerDrained_leaves_drowse {s : State} {w : PowerWait} (hw : s.power = some w) (hdrained : s.drained w = true) (hstate : w.state = 2)
    (h16 : w.slot < 16) :
    let u := s.powerDrained
    sameMem s u ∧ u.drowse = true ∧ u.replied w.slot stOK ∧ (∀ p ∈ w.also, p.2 = 2 → p.1 < 16 → u.replied p.1 stOK) ∧
    ((∀ p ∈ w.also, p.2 = 2) → u.power = none ∧ u.rd .PWR_STATUS_ENTERING = 0) ∧
    ∀ p ∈ w.also, p.2 ≠ 2 → u.rd .PWR_STATUS_ENTERING = 1 ∧ ∃ x, u.power = some x ∧
      (x.slot, x.state) :: x.also = w.also.filter (fun p => p.2 != 2) := by
  intro u
  let s' := { s with power := none }.wr .PWR_STATUS_ENTERING 0
  have hu : u = s'.enterDrowse w := powerDrained_of_drowse hw hdrained hstate
  rw [enterDrowse_eq] at hu
  obtain ⟨hmem, hdrowse, hslot, halso, hpower, hent⟩ := asleepFrom_leaves s' w
  have hzero : s'.rd .PWR_STATUS_ENTERING = 0 := (rd_wr_same _ _ _ _).trans (Nat.zero_mod _)
  have hs' : sameMem s s' := sameMem_of_eq rfl rfl
  cases hoff : w.also.filter (fun p => p.2 != 2) with
  | nil =>
    rw [hoff] at hu
    have hall : ∀ p ∈ w.also, p.2 = 2 := by simpa [List.filter_eq_nil_iff] using hoff
    rw [hu]
    exact ⟨sameMem_trans hs' hmem, hdrowse, hslot h16, halso, fun _ => ⟨hpower, hent.trans hzero⟩, fun p hp hne => absurd (hall p hp) hne⟩
  | cons q rest =>
    obtain ⟨n, st⟩ := q
    replace hu : u = { (asleepFrom s' w).wr .PWR_STATUS_ENTERING 1 with
        power := some { slot := n, state := st, prior := [], also := rest } } := by rw [hu, hoff]
    have hq : (n, st) ∈ w.also ∧ st ≠ 2 := by
      have : (n, st) ∈ w.also.filter (fun p => p.2 != 2) := hoff ▸ List.mem_cons_self
      simpa using this
    have hrd {f : Field} {i : Nat} (h : f ≠ .PWR_STATUS_ENTERING) : u.rd f i = (asleepFrom s' w).rd f i := by
      rw [hu]
      exact rd_wr_ne (asleepFrom s' w) 1 (f := .PWR_STATUS_ENTERING) (i := 0) (.inl h.symm)
    have hreplied {m st : Nat} (h : (asleepFrom s' w).replied m st) : u.replied m st :=
      ⟨(congrArg (bits · (2 * m) 2) (hrd (by decide))).trans h.1, (hrd (by decide)).trans h.2⟩
    refine ⟨?_, ?_, hreplied (hslot h16), fun p hp h2 hp16 => hreplied (halso p hp h2 hp16), fun hall => absurd (hall _ hq.1) hq.2, fun p hp hne => ?_⟩
    · exact hu ▸ sameMem_trans (sameMem_trans hs' hmem) (sameMem_of_eq rfl rfl)
    · rw [State.drowse, hrd (by decide)]
      exact hdrowse
    · exact ⟨hu ▸ rd_wr_one (asleepFrom s' w) _ _, { slot := n, state := st, prior := [], also := rest }, hu ▸ rfl, rfl⟩

/-- What a complete drain for OFF leaves. -/
theorem powerDrained_leaves_off {s : State} {w : PowerWait} (hw : s.power = some w) (hdrained : s.drained w = true) (hstate : w.state ≠ 2)
    (haccs : s.meter.accs = []) (hblocks : s.meter.blocks = []) :
    let u := s.powerDrained
    (∀ f i, u.rd f i = f.resetAt i) ∧ u.rd .RAS_STATUS_PHASE = 0 ∧ u.hbm = [] ∧ u.keys = [] ∧ u.ctxs = [] ∧ u.power = none ∧ .powerOff ∈ u.sent := by
  intro u
  have hu := powerDrained_of_off hw hdrained hstate haccs hblocks
  have hregs : u.regs = [] := by
    rw [show u = _ from hu]
    simp [State.say, State.cleared]
  refine ⟨rd_of_regs_nil hregs, rd_of_regs_nil hregs _ _, ?_⟩
  rw [show u = _ from hu]
  exact ⟨rfl, rfl, rfl, rfl, List.mem_cons_self⟩

/-- POWER_SET ACTIVE. -/
theorem powerActive_ends_wait {s : State} {n : Nat} {w : PowerWait} (hn : n < 16) (hw : s.power = some w) (h16 : w.slot < 16) (hne : w.slot ≠ n) :
    let u := s.powerActive n
    sameMem s u ∧ (s.drowse = false → u.replied n (if w.state = 2 ∨ (∃ p ∈ w.also, p.2 = 2) then stOK else stSTATE)) ∧
      u.replied w.slot stPARTIAL ∧ (∀ p ∈ w.also, p.1 < 16 → p.1 ≠ n → u.replied p.1 stPARTIAL) ∧ u.power = none ∧
      u.rd .PWR_STATUS_ENTERING = 0 := by
  intro u
  let t := ({ s with power := none }.wr .PWR_STATUS_ENTERING 0).replyAll (w.slot :: w.also.map Prod.fst) stPARTIAL
  have hmem : sameMem s t := (sameMem_replyAll _ _ _ _ _).2 (sameMem_of_eq rfl rfl)
  have hpower : t.power = none := replyAll_keeps State.power (fun _ _ _ _ => rfl) _ _ _ _
  have hzero : t.rd .PWR_STATUS_ENTERING = 0 := (rd_replyAll 0 (not_mem_replyFields (by decide) 0) _ _ _).trans
    ((rd_wr_same _ _ _ _).trans (Nat.zero_mod _))
  have hslot : t.replied w.slot stPARTIAL := replied_replyAll h16 (by decide) [] (.inl List.mem_cons_self)
  have halso (p : Nat × Nat) (hp : p ∈ w.also) (hp16 : p.1 < 16) : t.replied p.1 stPARTIAL :=
    replied_replyAll hp16 (by decide) [] (.inl (List.mem_cons_of_mem _ (List.mem_map_of_mem hp)))
  have hu : u = if s.drowse then t.startExit 1 [n] else t.reply n (if s.powerClaimed 2 then stOK else stSTATE) := by
    simp only [u, State.powerActive, hw]
    rfl
  by_cases hd : s.drowse = true
  · rw [if_pos hd] at hu
    have hstart : ∃ v, u = { v with exit := u.exit } ∧ sameMem t v ∧ v.power = t.power ∧
        ∀ f i, f ≠ .PWR_STATUS_EXITING → v.rd f i = t.rd f i := by
      rw [hu, State.startExit]
      split
      · exact ⟨t, rfl, sameMem_refl t, rfl, fun _ _ _ => rfl⟩
      · exact ⟨t.wr .PWR_STATUS_EXITING 1, rfl, by simp, rfl, fun f i h => rd_wr_ne t _ (.inl h.symm)⟩
    obtain ⟨v, hv, hvmem, hvpower, hvrd⟩ := hstart
    have hrd (f : Field) (i : Nat) (h : f ≠ .PWR_STATUS_EXITING) : u.rd f i = t.rd f i := by
      rw [hv]
      exact hvrd f i h
    have hreplied {m st : Nat} (h : t.replied m st) : u.replied m st :=
      ⟨(congrArg (bits · (2 * m) 2) (hrd _ _ (by decide))).trans h.1, (hrd _ _ (by decide)).trans h.2⟩
    exact ⟨hv ▸ sameMem_trans hmem (sameMem_trans hvmem (sameMem_of_eq rfl rfl)), fun h => absurd (hd.symm.trans h) (by decide), hreplied hslot,
      fun p hp hp16 _ => hreplied (halso p hp hp16), hv ▸ hvpower.trans hpower, (hrd _ _ (by decide)).trans hzero⟩
  · rw [if_neg hd] at hu
    refine ⟨hu ▸ (sameMem_reply _ _ _ _ _).2 hmem, fun _ => ?_, hu ▸ (replied_reply_ne t h16 hne _ _).2 hslot,
      fun p hp hp16 hpn => hu ▸ (replied_reply_ne t hp16 hpn _ _).2 (halso p hp hp16), ?_, ?_⟩
    · have hclaim := powerClaimed_iff hw 2
      rw [hu]
      by_cases hc : s.powerClaimed 2 = true
      · rw [if_pos hc, if_pos (hclaim.1 hc)]
        exact replied_reply _ _ hn (by decide)
      · rw [if_neg hc, if_neg fun h => hc (hclaim.2 h)]
        exact replied_reply _ _ hn (by decide)
    · rw [hu, reply_keeps State.power fun _ _ _ _ => rfl, hpower]
    · rw [hu, rd_reply_nil _ _ _ (not_mem_replyFields (by decide) 0 n), hzero]

/-- Settles O57 (R476 to R479). -/
theorem powerStates : Obligations.PowerStates := by
  refine ⟨fun s n hs => ⟨fun i v hi hv hnone hdrowse => ?_, ?_,
      fun hv hnone hdrowse => ?_, fun hv hnone hdrowse => ?_, fun w hv hw h16 hne => ?_, fun hv hnone hdrowse => ?_⟩,
    fun s w hw => ⟨fun hdrained => ?_, fun h16 hdrained => ⟨fun hstate => ?_, fun hstate haccs hblocks => ?_⟩⟩, ?_,
    fun s c ns hexit => ⟨_, rfl, exitComplete_leaves hexit⟩, fun s g hready hen hg hgated => ?_⟩
  · obtain ⟨hexec, hv0, -⟩ := powerSet_down hi
    refine answers_powerSet hs hexec hv ?_
    rw [if_neg hv0, powerDown_of_none (by simpa using hnone) (by simpa using hdrowse)]
    refine ⟨sameMem_trans (sameMem_begun s n) (sameMem_of_eq rfl rfl), rd_wr_one (s.begun n) _ _, ?_,
      onlyRegs_wr (f := .PWR_STATUS_ENTERING) (i := 0) (onlyRegs_refl _ _) (by simp) 1, _, rfl, rfl, rfl, rfl, fun m hm => ?_, fun m hm hmn hrun hnew => ?_⟩
    · exact (congrArg (bits · (2 * n) 2) (rd_wr_ne (s.begun n) 1 (f := .PWR_STATUS_ENTERING) (g := .MB_STATE_STATE) (i := 0) (.inl (by decide)))).trans (slotState_begun s hs.1)
    · exact List.mem_append_right _ hm
    · exact List.mem_append_left _ (by simp [hm, hmn, hrun, hnew])
  · intro i v w hi hv hw hdrowse claimed
    obtain ⟨hexec, hv0, -⟩ := powerSet_down hi
    refine ⟨fun hfree => answers_powerSet hs hexec hv ?_, fun hclaim => answers_powerSet hs hexec hv ?_⟩
    · have hunclaimed : (s.begun n).powerClaimed v = false := by
        rw [Bool.eq_false_iff]
        exact fun hc => hfree ((powerClaimed_iff (by simpa using hw) v).1 hc)
      rw [if_neg hv0, powerDown_of_unclaimed (w := w) (by simpa using hw) (by simpa using hdrowse) hunclaimed]
      exact ⟨sameMem_trans (sameMem_begun s n) (sameMem_of_eq rfl rfl), slotState_begun s hs.1, rfl, onlyRegs_refl (s.begun n) _⟩
    · rw [if_neg hv0, powerDown_of_claimed (.inr ((powerClaimed_iff (w := w) (by simpa using hw) v).2 hclaim))]
      exact ⟨by simpa using sameMem_begun s n, replied_reply _ _ hs.1 (by decide),
        (reply_keeps State.power (fun _ _ _ _ => rfl) _ _ _ _).trans (by simpa using hw), onlyRegs_reply _ _ _ _ (by simp)⟩
  · refine answers_powerSet hs rfl hv ?_
    rw [if_neg (by decide), powerDown_of_claimed (.inl ⟨rfl, by simpa using hdrowse⟩)]
    exact ⟨by simpa using sameMem_begun s n, replied_reply _ _ hs.1 (by decide),
      (reply_keeps State.power (fun _ _ _ _ => rfl) _ _ _ _).trans (by simpa using hnone)⟩
  · refine answers_powerSet hs rfl hv ?_
    have hbody : (s.begun n).powerActive n = (s.begun n).reply n stSTATE := by
      simp [State.powerActive, hnone, hdrowse, State.powerClaimed]
    rw [if_pos rfl, hbody]
    exact ⟨by simpa using sameMem_begun s n, replied_reply _ _ hs.1 (by decide)⟩
  · refine answers_powerSet hs rfl hv ?_
    obtain ⟨hmem, hrest⟩ := powerActive_ends_wait (s := s.begun n) hs.1 (by simpa using hw) h16 hne
    rw [begun_drowse] at hrest
    exact ⟨sameMem_trans (sameMem_begun s n) hmem, hrest⟩
  · refine answers_powerSet hs rfl hv ?_
    have hbody : (s.begun n).powerActive n = (s.begun n).startExit 1 [n] := by
      simp [State.powerActive, hnone, hdrowse]
    rw [if_pos rfl, hbody, State.startExit, begun_exit]
    cases hexit : s.exit with
    | none =>
      refine ⟨sameMem_trans (sameMem_begun s n) (sameMem_of_eq rfl rfl), ?_, fun _ => ⟨rd_wr_one (s.begun n) _ _, rfl⟩, fun _ _ h => nomatch h⟩
      exact (congrArg (bits · (2 * n) 2) (rd_wr_ne (s.begun n) 1 (f := .PWR_STATUS_EXITING) (g := .MB_STATE_STATE) (i := 0) (.inl (by decide)))).trans (slotState_begun s hs.1)
    | some p =>
      refine ⟨sameMem_trans (sameMem_begun s n) (sameMem_of_eq rfl rfl), slotState_begun s hs.1, fun h => (nomatch h), fun c ms h => ?_⟩
      cases h
      rfl
  · have hnone : s.settle.powerDrained = s.settle := by
      simp [State.powerDrained, hw, hdrained]
    rw [exec, execPowerDrainComplete, hnone]
    rfl
  · exact ⟨_, rfl, powerDrained_leaves_drowse hw hdrained hstate h16⟩
  · exact ⟨_, rfl, powerDrained_leaves_off hw hdrained hstate haccs hblocks⟩
  · intro s c en
    have hen : (if c = 2 then s.on .PWR_CTL_WAKE_WINDOW else if c = 3 then s.on .PWR_CTL_WAKE_DOORBELL
        else c == 4 && s.on .PWR_CTL_WAKE_PEER) = true ↔ en := by
      simp only [en]
      by_cases h2 : c = 2
      · simp [h2]
      · by_cases h3 : c = 3 <;> simp [h2, h3]
    have hwake : s.wake c = if s.drowse = true ∧ s.exit = none ∧ en then s.startExit c [] else s := by
      rw [State.wake]
      refine if_congr ?_ rfl rfl
      rw [Bool.and_eq_true, Bool.and_eq_true, hen, Option.isNone_iff_eq_none, and_assoc]
    split
    · next h =>
      refine ⟨_, rfl, ?_⟩
      rw [hwake, if_pos h, State.startExit, h.2.1]
      refine ⟨?_, rfl, ?_, ?_⟩
      · rw [sameMem_close_iff]
        exact sameMem_of_eq rfl rfl
      · rw [rd_close]
        exact rd_wr_one s _ _
      · rw [onlyRegs_close_iff]
        exact onlyRegs_wr (f := .PWR_STATUS_EXITING) (i := 0) (onlyRegs_refl s _) (by simp) 1
    · next h =>
      rw [exec, execDrowseWake, hwake, if_neg h]
      rfl
  · split
    · next h =>
      have hidle : s.idleGate g = s := by
        rcases h with h | h <;> simp [State.idleGate, h]
      rw [exec, execIdleGate, hidle]
      rfl
    · next h =>
      rw [not_or, Bool.not_eq_true, Bool.not_eq_true] at h
      have hgate : s.idleGate g = (s.elapse (max (aget s.groupUse g 0) s.readyAt + max (s.rd .PWR_CTL_IDLE_US) 1 * 1000)).wr
          .PWR_GATED_GROUPS (s.rd .PWR_GATED_GROUPS + 2 ^ g) := by
        simp [State.idleGate, hready, hen, hg, h.1, h.2, hgated]
      refine ⟨_, rfl, ?_⟩
      rw [hgate]
      refine ⟨?_, ?_, (time_close _ _).trans (Nat.max_eq_right (Nat.le_max_left _ _)), ?_⟩
      · rw [sameMem_close_iff]
        exact sameMem_of_eq rfl rfl
      · rw [rd_close, rd_wr_same]
        rfl
      · rw [onlyRegs_close_iff]
        exact onlyRegs_wr (f := .PWR_GATED_GROUPS) (i := 0) (onlyRegs_refl s _) (by simp) _

end Sys2Proof.Laws

/-! # Whole-block resets and start-up

COLD, PACKAGE and BLOCK resets, and start-up (R467 to R475). -/
namespace Sys2Proof.Laws

open Sys2Proof.Machine

/-! ## What a reset of everything leaves (R470) -/

/-- A register that is not kept takes its reset value. -/
theorem rd_cleared_nil (s : State) (hlp : Hlp) (f : Field) (i : Nat) : (s.cleared [] hlp).rd f i = f.resetAt i :=
  rd_of_regs_nil (by simp [State.cleared]) f i

/-- The value of a key in the part of a store whose keys meet q. -/
theorem sget_filter {α : Type} (d : α) (q : Nat → Bool) (l : List (Nat × α)) (k : Nat) :
    sget d (l.filter (fun p => q p.1)) k = if q k then sget d l k else d := by
  induction l with
  | nil => simp [sget]
  | cons p l ih =>
    by_cases hp : q p.1 = true
    · rw [List.filter_cons_of_pos (p := fun p : Nat × α => q p.1) hp, sget, ih, sget]
      by_cases hk : p.1 = k
      · simp [hk, hk ▸ hp]
      · simp [hk]
    · rw [List.filter_cons_of_neg (p := fun p : Nat × α => q p.1) hp, ih, sget]
      by_cases hk : p.1 = k
      · simp [← hk, hp]
      · simp [hk]

/-- A register that is kept reads as before, and another its reset value. -/
theorem rd_cleared (s : State) (keep : List Nat) (hlp : Hlp) (f : Field) (i : Nat) :
    (s.cleared keep hlp).rd f i = if keep.contains f.num then s.rd f i else f.resetAt i := by
  rw [State.rd, State.cleared, sget_filter _ (fun k => keep.contains (k % 1024)), field_key_mod, State.rd]

/-- COLD and PACKAGE leave every register but PHASE, LAST_RESET and the firmware's version at its reset value. -/
theorem rd_initial_nil (s : State) (hlp : Hlp) {f : Field} {i : Nat} (h : (f, i) ≠ (.MB_FW_VERSION, 0)) :
    (s.initial [] hlp).rd f i = f.resetAt i := by
  rw [State.initial, rd_wr_ne, rd_cleared_nil]
  by_contra hc
  push Not at hc
  exact h (by rw [hc.1, hc.2])

theorem rd_initial_version (s : State) (keep : List Nat) (hlp : Hlp) :
    (s.initial keep hlp).rd .MB_FW_VERSION = s.kyrdo.mgmtVer % 2 ^ 16 := rd_wr_same _ _ _ _

/-! ## Start-up (R471, R472) -/

section
variable (s : State) (z : Fuses) (pairs lanes casters : Nat) (route : Bool) (mgmt : Nat)

/-- The fuses are read and the results of the self-test noted. -/
def selfTested : State :=
  let t := if s.rd .RAS_STATUS_LAST_RESET = 2 then s else s.takeFuses z
  let t := ((t.wr .RAS_SELFTEST_PAIRS pairs).wr .RAS_SELFTEST_LANES lanes).wr .RAS_SELFTEST_CASTERS casters
  (t.wr .RAS_STATUS_ROUTE_FAIL (b2n route)).wr .RAS_STATUS_MGMT_FAIL (b2n (bits mgmt 0 2 != 0))

/-- The remembered records of a BLOCK reset and those of the self-test are written. -/
def testRecorded (b : BlockReset) : State :=
  let t := selfTested s z pairs lanes casters route mgmt
  let recs := testRecords pairs lanes casters route mgmt
  let t := if testFails pairs lanes casters route mgmt then t else b.records.foldl State.errRecord t
  if recs.isEmpty then t else (recs.foldl State.ras t).wr .RAS_ERR_SELFTEST 1

/-- The units that failed are out of service, and the firmware and the energy coefficients are loaded. -/
def broughtUp (b : BlockReset) : State :=
  let t := (testRecorded s z pairs lanes casters route mgmt b).wr .SEQ_STATUS_PAIR_OK (0xFFFF - pairs % 2 ^ 16)
  let t := (onesOf casters 32).foldl (fun (u : State) c =>
    u.wr .CAST_STATUS_OUT_OF_SERVICE (setBits (u.rd .CAST_STATUS_OUT_OF_SERVICE) c 1 1)) t
  let t := (t.wr .MB_FW_VERSION t.kyrdo.mgmtVer).wr .EN_STATIC_EST t.kyrdo.est
  (List.range 13).foldl (fun (u : State) c => u.wr .EN_COEF_COEF (nth u.kyrdo.coefs c 0) c) t

/-- READY: the heartbeat, the calibration windows and the link's count run from now on. -/
def readyFrom (t : State) (b : BlockReset) : State :=
  let t := { t with breset := none, readyAt := t.time,
                    hlp := { t.hlp with hbFrom := t.time,
                                        downAt := if t.on .HLP_STATUS_LINK_UP then none else some t.time },
                    meter := { t.meter with window := t.time / 1000000, digest := t.kyrdo.mgmt } }
  let t := t.wr .RAS_STATUS_PHASE 4
  let t := if b.records.isEmpty then t else (t.wr .HAP_ERR_BLOCK_DISCARD 1).bump .HAP_DROP_BLOCK_DISCARDS 0 b.records.length
  if b.fault then t.wr .RAS_ERR_BLOCK_FAULT 1 else t

variable {s}

theorem startupReady_eq {b : BlockReset} (hb : s.breset = some b) (hphase : s.rd .RAS_STATUS_PHASE ≠ 6) :
    s.startupReady z pairs lanes casters route mgmt =
      if testFails pairs lanes casters route mgmt then
        { (broughtUp s z pairs lanes casters route mgmt b).wr .RAS_STATUS_PHASE 5 with breset := none }
      else readyFrom (broughtUp s z pairs lanes casters route mgmt b) b := by
  simp only [State.startupReady, hb, if_neg hphase]
  rfl

variable (s)

/-- A view that neither a record nor the loading of the firmware moves is that of the self-test. -/
theorem broughtUp_keeps {β : Type} {p : State → β} (hblind : blindToStores p)
    (hwr : ∀ t f v i, f ∈ [Field.RAS_COUNT_REC_LOST, .RAS_ERR_REC_FULL, .RAS_REC_PTRS_WR_IDX, .RAS_ERR_SELFTEST, .CAST_STATUS_OUT_OF_SERVICE,
      .EN_STATIC_EST, .EN_COEF_COEF] → p (t.wr f v i) = p t)
    (hok : ∀ t v, p (t.wr .SEQ_STATUS_PAIR_OK v) = p t) (hver : ∀ t v, p (t.wr .MB_FW_VERSION v) = p t) (b : BlockReset) :
    p (broughtUp s z pairs lanes casters route mgmt b) = p (selfTested s z pairs lanes casters route mgmt) := by
  have hrec (t : State) (bs : List Byte) : p (t.errRecord bs) = p t :=
    errRecord_keeps hblind (fun t f v hf => hwr t f v 0 (by simp only [recordRegs, List.mem_cons, List.not_mem_nil, or_false] at hf; simp; tauto)) t bs
  have hras (t : State) (r : RasRec) : p (t.ras r) = p t := hrec t _
  have hrecorded : p (testRecorded s z pairs lanes casters route mgmt b) = p (selfTested s z pairs lanes casters route mgmt) := by
    have hfirst (t : State) : p (if testFails pairs lanes casters route mgmt then t else b.records.foldl State.errRecord t) = p t := by
      split
      · rfl
      · exact foldl_keeps p hrec _ _
    unfold testRecorded
    simp only
    split
    · exact hfirst _
    · rw [hwr _ _ _ _ (by simp), foldl_keeps p hras, hfirst]
  unfold broughtUp
  simp only
  rw [foldl_keeps p (fun t c => hwr t _ _ _ (by simp)), hwr _ _ _ _ (by simp), hver, foldl_keeps p (fun t c => hwr t _ _ _ (by simp)),
    hok, hrecorded]

/-- The pairs that the self-test found in order are in service. -/
theorem pairOk_broughtUp (b : BlockReset) :
    (broughtUp s z pairs lanes casters route mgmt b).rd .SEQ_STATUS_PAIR_OK = 0xFFFF - pairs % 2 ^ 16 := by
  unfold broughtUp
  simp only
  rw [foldl_keeps (fun t => t.rd .SEQ_STATUS_PAIR_OK) (fun t c => rd_wr_ne t _ (.inl (by decide))), rd_wr_ne _ _ (.inl (by decide)),
    rd_wr_ne _ _ (.inl (by decide)),
    foldl_keeps (fun t => t.rd .SEQ_STATUS_PAIR_OK) (fun t c => rd_wr_ne t _ (.inl (by decide))), rd_wr_same]
  exact Nat.mod_eq_of_lt (by rw [show Field.SEQ_STATUS_PAIR_OK.row.width = 16 from rfl]; omega)

/-- CZ_MB_FW shows the version of the committed image. -/
theorem version_broughtUp (b : BlockReset) :
    (broughtUp s z pairs lanes casters route mgmt b).rd .MB_FW_VERSION =
      (broughtUp s z pairs lanes casters route mgmt b).kyrdo.mgmtVer % 2 ^ 16 := by
  unfold broughtUp
  simp only
  rw [foldl_keeps (fun t => t.rd .MB_FW_VERSION) (fun t c => rd_wr_ne t _ (.inl (by decide))),
    foldl_keeps (fun t : State => t.kyrdo.mgmtVer) (f := fun u c => u.wr .EN_COEF_COEF (nth u.kyrdo.coefs c 0) c) (fun t c => rfl), rd_wr_ne _ _ (.inl (by decide)), rd_wr_same]
  rfl

end

theorem ofLe_lt (bs : List Byte) : ofLe bs < 256 ^ bs.length := by
  induction bs with
  | nil => simp [ofLe]
  | cons b bs ih =>
    have hb := b.isLt
    rw [ofLe, List.length_cons, Nat.pow_succ]
    omega

theorem length_slice (bs : List Byte) (off n : Nat) : (slice bs off n).length = n := by
  simp only [slice, zeros, List.length_append, List.length_replicate, List.length_take]
  omega

/-- Eight bytes make a doubleword. -/
theorem leAt_eight_lt (bs : List Byte) (off : Nat) : leAt bs off 8 < 2 ^ 64 := by
  have h := ofLe_lt (slice bs off 8)
  rw [length_slice] at h
  exact h

section
variable (t : State) (b : BlockReset)

/-- READY moves PHASE and, after a BLOCK reset, the reports of what it discarded and of its fault. -/
theorem readyFrom_leaves : (readyFrom t b).ready = true ∧ (readyFrom t b).breset = none ∧ (readyFrom t b).readyAt = t.time ∧
    (readyFrom t b).kyrdo = t.kyrdo ∧ (b.fault = true → (readyFrom t b).rd .RAS_ERR_BLOCK_FAULT = 1) ∧
    ∀ f i, f ≠ .RAS_STATUS_PHASE → f ≠ .HAP_ERR_BLOCK_DISCARD → f ≠ .HAP_DROP_BLOCK_DISCARDS → f ≠ .RAS_ERR_BLOCK_FAULT →
      (readyFrom t b).rd f i = t.rd f i := by
  let t₁ : State := { t with breset := none, readyAt := t.time,
                             hlp := { t.hlp with hbFrom := t.time,
                                                 downAt := if t.on .HLP_STATUS_LINK_UP then none else some t.time },
                             meter := { t.meter with window := t.time / 1000000, digest := t.kyrdo.mgmt } }
  let t₂ : State := let u := t₁.wr .RAS_STATUS_PHASE 4
    if b.records.isEmpty then u else (u.wr .HAP_ERR_BLOCK_DISCARD 1).bump .HAP_DROP_BLOCK_DISCARDS 0 b.records.length
  have hready : readyFrom t b = if b.fault then t₂.wr .RAS_ERR_BLOCK_FAULT 1 else t₂ := rfl
  have h₂ {β : Type} (p : State → β) (hwr : ∀ u f v, f = .HAP_ERR_BLOCK_DISCARD ∨ f = .HAP_DROP_BLOCK_DISCARDS → p (u.wr f v) = p u) :
      p t₂ = p (t₁.wr .RAS_STATUS_PHASE 4) := by
    simp only [t₂]
    split
    · rfl
    · exact (hwr _ _ _ (.inr rfl)).trans (hwr _ _ _ (.inl rfl))
  have h₃ {β : Type} (p : State → β) (hwr : ∀ u f v, f = .HAP_ERR_BLOCK_DISCARD ∨ f = .HAP_DROP_BLOCK_DISCARDS ∨ f = .RAS_ERR_BLOCK_FAULT →
      p (u.wr f v) = p u) : p (readyFrom t b) = p (t₁.wr .RAS_STATUS_PHASE 4) := by
    rw [hready]
    split
    · exact (hwr _ _ _ (.inr (.inr rfl))).trans (h₂ p fun u f v hf => hwr u f v (by tauto))
    · exact h₂ p fun u f v hf => hwr u f v (by tauto)
  refine ⟨?_, h₃ State.breset fun _ _ _ _ => rfl, h₃ State.readyAt fun _ _ _ _ => rfl, h₃ State.kyrdo fun _ _ _ _ => rfl, fun hf => ?_,
    fun f i h1 h2 h3 h4 => ?_⟩
  · have hphase : (readyFrom t b).rd .RAS_STATUS_PHASE = 4 :=
      (h₃ (fun u => u.rd .RAS_STATUS_PHASE) fun u f v hf => rd_wr_ne u v (.inl (by rcases hf with rfl | rfl | rfl <;> decide))).trans
        (rd_wr_same _ _ _ _)
    simp [State.ready, hphase]
  · rw [hready, if_pos hf, rd_wr_one]
  · refine (h₃ (fun u => u.rd f i) fun u g v hg => rd_wr_ne u v (.inl ?_)).trans (rd_wr_ne t₁ _ (.inl h1.symm))
    rcases hg with rfl | rfl | rfl
    · exact h2.symm
    · exact h3.symm
    · exact h4.symm

end

/-! ## The start of a BLOCK reset (R474, steps 1 to 6) -/

/-- The accesses that wait are refused, the engines are asked to stop, the lines that host cores hold are recalled, and the
host's invalidations are answered. -/
def blockTold (s : State) : State :=
  let t := s.sayAll ((List.range 512).map Msg.stopRequest)
  let t := ((t.hlp.waits.map LineWait.act).filter LineAct.ofHost ++ t.hlp.asleep).foldl State.refuseHost t
  let t := (t.hlp.filter.map HostLine.line).foldl State.recall t
  (t.xl.invs.filterMap (fun v => match v.source with | .host tag => some tag | _ => none)).foldl State.invDone t

/-- A view in which neither messages nor the host link show does not see it. -/
theorem blockTold_keeps {β : Type} {p : State → β} (hblind : blindToStores p) (s : State) : p (blockTold s) = p s := by
  have hdone (t : State) (tag : Nat) : p (t.invDone tag) = p t := (blind_giveCredit hblind _ _).trans (blind_say hblind t _)
  unfold blockTold
  simp only
  rw [foldl_keeps p hdone, foldl_keeps p (blind_recall hblind), foldl_keeps p (blind_refuseHost hblind)]
  exact foldl_keeps p (blind_say hblind) _ s

theorem still_blockTold (s : State) : still s (blockTold s) := by
  have hrefuse (t : State) (a : LineAct) : still t (t.refuseHost a) := by cases a <;> exact ⟨rfl, rfl, rfl⟩
  have hdone (t : State) (tag : Nat) : still t (t.invDone tag) := ⟨rfl, rfl, rfl⟩
  have hsay (t : State) (m : Msg) : still t (t.say m) := ⟨rfl, rfl, rfl⟩
  have hsays (ms : List Msg) : still s (s.sayAll ms) := still_foldl hsay ms s
  unfold blockTold
  exact (((hsays _).trans (still_foldl hrefuse _ _)).trans (still_foldl still_recall _ _)).trans (still_foldl hdone _ _)

/-- What has been sent stays sent. -/
theorem foldl_sent {α : Type} {f : State → α → State} (hf : ∀ t a m, m ∈ t.sent → m ∈ (f t a).sent) (l : List α) {s : State} {m : Msg}
    (h : m ∈ s.sent) : m ∈ (l.foldl f s).sent :=
  List.foldlRecOn (motive := fun t : State => m ∈ t.sent) l f h fun t ht a _ => hf t a m ht

theorem mem_sent_sayAll {ms : List Msg} {m : Msg} (h : m ∈ ms) (s : State) : m ∈ (s.sayAll ms).sent := by
  induction ms generalizing s with
  | nil => cases h
  | cons n ms ih =>
    rcases List.mem_cons.1 h with rfl | h
    · exact foldl_sent (fun t _ _ ht => List.mem_cons_of_mem _ ht) ms List.mem_cons_self
    · exact ih h _

/-- Every engine has been asked to stop. -/
theorem stopRequest_blockTold (s : State) {e : Nat} (he : e < 512) : .stopRequest e ∈ (blockTold s).sent := by
  have hsay (t : State) (n m : Msg) (h : m ∈ t.sent) : m ∈ (t.say n).sent := List.mem_cons_of_mem _ h
  unfold blockTold
  simp only
  refine foldl_sent (fun t tag m h => hsay _ _ _ (hsay _ _ _ h)) _ (foldl_sent (fun t l m h => ?_) _ (foldl_sent (fun t a m h => ?_) _
    (mem_sent_sayAll (List.mem_map_of_mem (List.mem_range.2 he)) s)))
  · unfold State.recall
    split
    · exact h
    · exact hsay _ _ _ h
  · unfold State.refuseHost
    cases a <;> simp [State.giveCredit, State.say, h]

/-- The registers that the rest of a BLOCK reset needs, and those that keep their values. -/
def blockKept : List Nat := keptNums ++ drainFields.map Field.num

/-- The state in which a BLOCK reset goes on. -/
theorem startBlock_leaves {s : State} (hready : s.ready = true) :
    let u := s.startBlock false
    (∀ f i, f ≠ .RAS_STATUS_PHASE → f ≠ .RAS_STATUS_LAST_RESET → f ≠ .RAS_COUNT_RESET_WRITES → f ≠ .RAS_ERR_RESET_WRITE → f ≠ .MB_FW_VERSION →
      u.rd f i = if blockKept.contains f.num then s.rd f i else f.resetAt i) ∧
    u.rd .RAS_STATUS_PHASE = 6 ∧ u.rd .RAS_COUNT_RESET_WRITES = 0 ∧ (s.wbuf = [] → sameMem s u) ∧ u.keys = [] ∧ u.ctxs = [] ∧ u.kernels = [] ∧
    u.tears = [] ∧ u.kyreqs = [] ∧ (∀ e, e < 512 → .stopRequest e ∈ u.sent) ∧ (∀ r ∈ u.reqs, r.isWrite = true) ∧
    ∃ b, u.breset = some b ∧ b.start = s.time ∧ b.fault = false ∧ b.drained = false := by
  intro u
  have hreset : s.inReset = false := by simp [State.inReset, hready]
  obtain ⟨hlp, lanes, ew, b, hb, hu⟩ : ∃ (hlp : Hlp) (lanes : List Lane) (ew : List (List Byte)) (b : BlockReset),
      (b.start = s.time ∧ b.fault = false ∧ b.drained = false) ∧
      u = ((({ (blockTold s).initial blockKept hlp with
        lanes := lanes, reqs := (blockTold s).reqs.filter Req.isWrite, errWait := ew, breset := some b }.wr .RAS_STATUS_PHASE 6).wr
        .RAS_STATUS_LAST_RESET 2).wr .RAS_COUNT_RESET_WRITES 0).wr .RAS_ERR_RESET_WRITE 0 := by
    simp only [u, State.startBlock, hreset]
    exact ⟨_, _, _, { start := s.time, fault := false, owners := s.flasks.map (fun f => (s.rd .FL_TFIRST f, s.rd .FL_TCOUNT_M1 f, s.flaskState f)) },
      ⟨rfl, rfl, rfl⟩, rfl⟩
  obtain ⟨hstart, hfault, hdrained⟩ := hb
  have htold {β : Type} (p : State → β) (hblind : blindToStores p) : p (blockTold s) = p s := blockTold_keeps hblind s
  have hstop (e : Nat) (he : e < 512) : .stopRequest e ∈ (blockTold s).sent := stopRequest_blockTold s he
  have hregs (f : Field) (i : Nat) (h5 : f ≠ .MB_FW_VERSION) : ((blockTold s).initial blockKept hlp).rd f i =
      if blockKept.contains f.num then s.rd f i else f.resetAt i := by
    rw [State.initial, rd_wr_ne _ _ (.inl h5.symm), rd_cleared, htold (fun t => t.rd f i) fun _ _ _ _ _ _ => rfl]
  have hstill := still_blockTold s
  generalize blockTold s = t at hu htold hregs hstop hstill
  generalize hkept : blockKept = keep at hu hregs
  generalize hinit : t.initial keep hlp = v at hu hregs
  have hcommitted (h : s.wbuf = []) : u.hbm = s.hbm := by
    have hv : v.hbm = (t.wbuf.foldl (fun (t : State) st => t.putCells st.cells) t).hbm := by rw [← hinit]; rfl
    have hu' : u.hbm = v.hbm := by rw [hu]; rfl
    rw [hu', hv, hstill.2.2, h]
    exact hstill.2.1
  have hv : v.wbuf = [] ∧ v.keys = [] ∧ v.ctxs = [] ∧ v.kernels = [] ∧ v.tears = [] ∧ v.kyreqs = [] ∧ v.sent = t.sent := by
    rw [← hinit]
    exact ⟨rfl, rfl, rfl, rfl, rfl, rfl, rfl⟩
  obtain ⟨hvw, hvkeys, hvctxs, hvkernels, hvtears, hvky, hvsent⟩ := hv
  have hwbuf : u.wbuf = [] := by rw [hu]; exact hvw
  refine ⟨fun f i h1 h2 h3 h4 h5 => ?_, ?_, ?_, fun h => sameMem_of_eq (hcommitted h) (hwbuf.trans h.symm), ?_⟩
  · rw [hu, rd_wr_ne _ _ (.inl h4.symm), rd_wr_ne _ _ (.inl h3.symm), rd_wr_ne _ _ (.inl h2.symm), rd_wr_ne _ _ (.inl h1.symm)]
    exact hregs f i h5
  · rw [hu, rd_wr_ne _ _ (.inl (by decide)), rd_wr_ne _ _ (.inl (by decide)), rd_wr_ne _ _ (.inl (by decide)), rd_wr_same]
    rfl
  · rw [hu, rd_wr_ne _ _ (.inl (by decide)), rd_wr_same]
    rfl
  · rw [hu]
    exact ⟨hvkeys, hvctxs, hvkernels, hvtears, hvky, fun e he => by
      change _ ∈ v.sent
      rw [hvsent]
      exact hstop e he, fun r hr => (List.mem_filter.1 hr).2, b, rfl, hstart, hfault, hdrained⟩

/-! ## The drain limit, and PHASE in start-up -/

/-- At the drain limit the writes not yet issued are dropped, and those to host and peers remembered. -/
theorem blockDrain_eq {s : State} {b : BlockReset} (hb : s.breset = some b) (hphase : s.rd .RAS_STATUS_PHASE = 6) (hd : b.drained = false) :
    ∃ c, c.drained = true ∧ c.records.length = (s.reqs.filter (fun r => !r.issued && r.tier != 0)).length ∧
      s.blockDrain = { s.elapse (b.start + 100000) with reqs := [], lanes := [], breset := some c } := by
  simp only [State.blockDrain, hb, hphase, hd]
  refine ⟨_, rfl, ?_, rfl⟩
  simp only [List.length_map, List.filter_filter]
  congr 1
  exact List.filter_congr fun r _ => Bool.and_comm _ _

/-- In start-up PHASE reads by the time. -/
theorem live_phase {s : State} {b : BlockReset} (hb : s.breset = some b) (hphase : s.rd .RAS_STATUS_PHASE = 1) :
    s.live .RAS_STATUS_PHASE 0 ∈ [1, 2, 3] ∧ (b.upAt + 6010000 < s.time → s.live .RAS_STATUS_PHASE 0 = 3) := by
  have hlive : s.live .RAS_STATUS_PHASE 0 =
      let at2 := b.upAt + (Config.startupStep b.upAt 0).toNat % 1010001
      if s.time < at2 then 1
      else if s.time < max at2 (b.upAt + (Config.startupStep b.upAt 1).toNat % 6010001) then 2 else 3 := by
    simp only [State.live, State.phaseNow, hphase, hb]
  rw [hlive]
  have h0 := Nat.mod_lt (Config.startupStep b.upAt 0).toNat (show 0 < 1010001 by decide)
  have h1 := Nat.mod_lt (Config.startupStep b.upAt 1).toNat (show 0 < 6010001 by decide)
  generalize (Config.startupStep b.upAt 0).toNat % 1010001 = x at *
  generalize (Config.startupStep b.upAt 1).toNat % 6010001 = y at *
  refine ⟨?_, fun h => ?_⟩
  · dsimp only
    split_ifs <;> simp
  · dsimp only
    rw [if_neg (by omega), if_neg (by omega)]

/-- Settles O58 (R467 to R475). -/
theorem resetsAndStartUp : Obligations.ResetsAndStartUp := by
  refine ⟨fun s => ⟨_, rfl, ?_⟩, fun s hon => ?_, fun s n hs => ?_, fun s b hb hphase hd hwrites => ⟨_, rfl, ?_⟩,
    fun s b hb hphase _ => live_phase hb hphase, fun s b z pairs lanes casters route mgmt hb hphase => ⟨fun hpass => ⟨_, rfl, ?_⟩, fun hfail => ⟨_, rfl, ?_⟩⟩⟩
  · refine ⟨(rd_wr_same _ _ _ _).trans rfl, ?_, fun f i h1 h2 => ?_, rfl, rfl, rfl, rfl, rfl, rfl, rfl⟩
    · exact (rd_wr_ne _ 1 (f := .RAS_STATUS_PHASE) (i := 0) (.inl (by decide))).trans (rd_initial_version s [] {})
    · exact (rd_wr_ne _ 1 (f := .RAS_STATUS_PHASE) (i := 0) (by by_contra hc; push Not at hc; exact h1 (by rw [hc.1, hc.2]))).trans (rd_initial_nil s {} h2)
  · have hgo : (if s.rd .RAS_STATUS_PHASE = 0 ∧ s.breset.isNone then s else s.package) = s.package := by
      refine if_neg fun h => ?_
      rcases hon with hp | hb
      · exact hp h.1
      · simp [Option.isNone_iff_eq_none.1 h.2] at hb
    refine ⟨s.package, by rw [exec, execPackageReset, hgo]; rfl, ?_⟩
    refine ⟨(rd_wr_ne _ 1 (f := .RAS_STATUS_LAST_RESET) (i := 0) (.inl (by decide))).trans ((rd_wr_same _ _ _ _).trans rfl),
      (rd_wr_same _ _ _ _).trans rfl, ?_, fun f i h1 h2 h3 => ?_, rfl, rfl, rfl, rfl, rfl, rfl, fun h => ?_⟩
    · exact (rd_wr_ne _ 1 (f := .RAS_STATUS_LAST_RESET) (i := 0) (.inl (by decide))).trans
        ((rd_wr_ne _ 1 (f := .RAS_STATUS_PHASE) (i := 0) (.inl (by decide))).trans (rd_initial_version s [] {}))
    · exact (rd_wr_ne _ 1 (f := .RAS_STATUS_LAST_RESET) (i := 0) (by by_contra hc; push Not at hc; exact h2 (by rw [hc.1, hc.2]))).trans
        ((rd_wr_ne _ 1 (f := .RAS_STATUS_PHASE) (i := 0) (by by_contra hc; push Not at hc; exact h1 (by rw [hc.1, hc.2]))).trans (rd_initial_nil s {} h3))
    · change (s.wbuf.foldl (fun (t : State) st => t.putCells st.cells) s).hbm = s.hbm
      rw [h]
      rfl
  · have hready : (s.begun n).ready = true := by
      rw [State.ready, rd_begun s n (by decide) (by decide) (by decide)]
      exact hs.2.1
    obtain ⟨hregs, hphase, hcount, hmem, hkeys, hctxs, hkernels, htears, hky, hstop, hreqs, b, hb, hstart, hfault, hdrained⟩ := startBlock_leaves hready
    refine ⟨_, congrArg s.after (mbRun_of_starts hs _), fun h => ?_, hphase, hcount, fun k _ => ⟨?_, ?_⟩, hkeys, hctxs, hkernels, htears, hky, hstop, fun i => ?_,
      ?_, hreqs, b, hb, hstart.trans ?_, hfault, hdrained⟩
    · exact sameMem_trans (sameMem_begun s n) (hmem (by rwa [begun_wbuf]))
    · rw [hregs _ _ (by decide) (by decide) (by decide) (by decide) (by decide), if_neg (by decide +kernel)]
      rfl
    · rw [hkeys]
      exact fun m hm => (nomatch hm)
    · rw [hregs _ _ (by decide) (by decide) (by decide) (by decide) (by decide), if_pos (by decide +kernel),
        rd_begun s n (by decide) (by decide) (by decide)]
    · rw [hregs _ _ (by decide) (by decide) (by decide) (by decide) (by decide), if_pos (by decide +kernel),
        rd_begun s n (by decide) (by decide) (by decide)]
    · exact begun_keeps State.time (fun _ _ => rfl) (fun _ _ _ => rfl) (fun _ _ _ => rfl) s n
  · obtain ⟨c, hc, hlen, hdrain⟩ := blockDrain_eq hb hphase hd
    rw [hdrain]
    exact ⟨sameMem_of_eq rfl rfl, onlyRegs_refl s _, rfl, rfl, rfl, c, rfl, hc, hlen⟩
  · rw [startupReady_eq z pairs lanes casters route mgmt hb hphase, if_neg (by simp [hpass])]
    obtain ⟨hready, hreset, hat, hky, hfault, hrd⟩ := readyFrom_leaves (broughtUp s z pairs lanes casters route mgmt b) b
    have hkeepRd {f : Field} (i : Nat) (hf : f ∉ [Field.RAS_COUNT_REC_LOST, .RAS_ERR_REC_FULL, .RAS_REC_PTRS_WR_IDX, .RAS_ERR_SELFTEST,
        .CAST_STATUS_OUT_OF_SERVICE, .EN_STATIC_EST, .EN_COEF_COEF, .SEQ_STATUS_PAIR_OK, .MB_FW_VERSION]) :
        (broughtUp s z pairs lanes casters route mgmt b).rd f i = (selfTested s z pairs lanes casters route mgmt).rd f i := by
      refine broughtUp_keeps (p := fun t => t.rd f i) s z pairs lanes casters route mgmt (fun _ _ _ _ _ _ => rfl) (fun t g v j hg => rd_wr_ne t v (.inl ?_))
        (fun t v => rd_wr_ne t v (.inl ?_)) (fun t v => rd_wr_ne t v (.inl ?_)) b
      · rintro rfl
        exact hf (List.mem_append_left [Field.SEQ_STATUS_PAIR_OK, .MB_FW_VERSION] hg)
      · rintro rfl
        simp at hf
      · rintro rfl
        simp at hf
    have htime : (broughtUp s z pairs lanes casters route mgmt b).time = s.time := by
      refine (broughtUp_keeps (p := State.time) s z pairs lanes casters route mgmt (fun _ _ _ _ _ _ => rfl) (fun _ _ _ _ _ => rfl) (fun _ _ => rfl) (fun _ _ => rfl) b).trans ?_
      simp only [selfTested]
      split <;> rfl
    refine ⟨hready, hreset, hat.trans htime, ?_, ?_, ?_, fun hfuses => ⟨?_, ?_⟩, hfault⟩
    · rw [hrd _ _ (by decide) (by decide) (by decide) (by decide), hkeepRd _ (by decide), selfTested]
      rw [rd_wr_ne _ _ (.inl (by decide)), rd_wr_ne _ _ (.inl (by decide)), rd_wr_ne _ _ (.inl (by decide)), rd_wr_ne _ _ (.inl (by decide)), rd_wr_same]
      rfl
    · rw [hrd _ _ (by decide) (by decide) (by decide) (by decide), pairOk_broughtUp]
    · rw [hrd _ _ (by decide) (by decide) (by decide) (by decide), version_broughtUp, hky]
    · rw [hrd _ _ (by decide) (by decide) (by decide) (by decide), hkeepRd _ (by decide), selfTested, if_neg hfuses]
      rw [rd_wr_ne _ _ (.inl (by decide)), rd_wr_ne _ _ (.inl (by decide)), rd_wr_ne _ _ (.inl (by decide)), rd_wr_ne _ _ (.inl (by decide)),
        rd_wr_ne _ _ (.inl (by decide)), State.takeFuses]
      rw [rd_wr_ne _ _ (.inl (by decide)), rd_wr_same]
      exact Nat.mod_eq_of_lt (leAt_eight_lt _ _)
    · rw [hky, broughtUp_keeps (p := State.kyrdo) s z pairs lanes casters route mgmt (fun _ _ _ _ _ _ => rfl) (fun _ _ _ _ _ => rfl) (fun _ _ => rfl) (fun _ _ => rfl) b,
        selfTested, if_neg hfuses]
      rfl
  · rw [startupReady_eq z pairs lanes casters route mgmt hb hphase, if_pos hfail]
    exact ⟨rd_wr_same (broughtUp s z pairs lanes casters route mgmt b) .RAS_STATUS_PHASE 5 0, rfl⟩

end Sys2Proof.Laws

/-! # Records of a walk

What the issue of a record leaves (R129, R130), how a record goes on or waits, and the rule that runs a record's body. -/
namespace Sys2Proof.Laws

open Sys2Proof.Machine

/-! ## The contexts -/

section
variable (s : State) {c d : Nat} {f : Ctx → Ctx}

theorem ctx_num {s : State} {c : Nat} {x : Ctx} (h : s.ctx? c = some x) : x.num = c := by simpa using List.find?_some h

theorem ctx_map (s : State) (d : Nat) {g : Ctx → Ctx} (hg : ∀ y, (g y).num = y.num) :
    State.ctx? { s with ctxs := s.ctxs.map g } d = (s.ctx? d).map g := by
  have hp : (fun y : Ctx => y.num == d) ∘ g = fun y => y.num == d := by
    funext y
    simp [hg y]
  simp only [State.ctx?, List.find?_map, hp]

/-- An update of context c that keeps its number. -/
theorem ctx_modCtx_same (hf : ∀ y, (f y).num = y.num) : (s.modCtx c f).ctx? c = (s.ctx? c).map f := by
  have h : (s.modCtx c f).ctx? c = (s.ctx? c).map (fun y => if y.num == c then f y else y) :=
    ctx_map s c fun y => by split <;> simp [hf]
  rw [h]
  cases hx : s.ctx? c with
  | none => rfl
  | some x => simp [ctx_num hx]

theorem ctx_modCtx_ne (hf : ∀ y, (f y).num = y.num) (hd : d ≠ c) : (s.modCtx c f).ctx? d = s.ctx? d := by
  have h : (s.modCtx c f).ctx? d = (s.ctx? d).map (fun y => if y.num == c then f y else y) :=
    ctx_map s d fun y => by split <;> simp [hf]
  rw [h]
  cases hx : s.ctx? d with
  | none => rfl
  | some x => simp [ctx_num hx, hd]

end

/-! ## What a record leaves alone -/

theorem walked_refl (s : State) (c : Nat) : walked s c s := ⟨sameMem_refl s, onlyRegs_refl s _, fun _ _ => rfl⟩

theorem walked_trans {s t u : State} {c : Nat} (h : walked s c t) (h' : walked t c u) : walked s c u := by
  obtain ⟨hmem, hregs, hctxs⟩ := h
  obtain ⟨hmem', hregs', hctxs'⟩ := h'
  exact ⟨sameMem_trans hmem hmem', fun f i hfi => (hregs' f i hfi).trans (hregs f i hfi), fun d hd => (hctxs' d hd).trans (hctxs d hd)⟩

theorem walked_of_still {s t : State} {c : Nat} (h : still s t) (hctxs : ∀ d, d ≠ c → t.ctx? d = s.ctx? d) : walked s c t :=
  ⟨h.sameMem, h.onlyRegs _, hctxs⟩

theorem walked_modCtx (s : State) (c : Nat) {f : Ctx → Ctx} (hf : ∀ y, (f y).num = y.num) : walked s c (s.modCtx c f) :=
  walked_of_still ⟨rfl, rfl, rfl⟩ fun _ hd => ctx_modCtx_ne s hf hd

/-- Counting activity touches the meter alone. -/
theorem countFor_eq (s : State) (ch : Charge) (cls n : Nat) : ∃ mt, s.countFor ch cls n = { s with meter := mt } := by
  simp only [State.countFor]
  split_ifs
  · exact ⟨s.meter, rfl⟩
  · exact ⟨_, rfl⟩
  · exact ⟨_, rfl⟩

theorem count_eq (s : State) (c cls n : Nat) : ∃ mt, s.count c cls n = { s with meter := mt } := by
  unfold State.count
  split
  · exact ⟨s.meter, rfl⟩
  · exact countFor_eq s _ cls n

theorem count_keeps {β : Type} (p : State → β) (hp : ∀ t m, p { t with meter := m } = p t) (s : State) (c cls n : Nat) :
    p (s.count c cls n) = p s := by
  obtain ⟨mt, h⟩ := count_eq s c cls n
  rw [h, hp]

/-! ## The issue of a record (R129, R130) -/

/-- The context holds the record whose segment is seg. -/
def issue (seg : Nat) (y : Ctx) : Ctx :=
  { y with begun := true, missed := false, seen := if y.seen.contains seg then y.seen else seg :: y.seen,
           buf := if y.buf == some seg then y.buf else none }

/-- Context x as it holds its record once that is issued. -/
def issued (x : Ctx) : Ctx := if x.begun then x else issue (x.pc / 64) x

/-- The segment of x's record is used, the next one is prefetched when the walk first comes to it, and the sequencer has
served x. -/
def segUsed (s : State) (x : Ctx) (m : Mould) : State :=
  let seg := x.pc / 64
  let t := if s.cached m.idx m.gen seg then (if x.missed then s else s.bump .MC_STATS_HITS).touchSeg m.idx seg else s
  let t := if x.seen.contains seg then t else t.prefetch m (seg + 1) x.num
  { t with turns := aset t.turns (x.root / 16) x.num }

theorem beginRecord_eq (s : State) (x : Ctx) (m : Mould) :
    s.beginRecord x m = if x.begun then s else (segUsed s x m).modCtx x.num (issue (x.pc / 64)) := rfl

/-- A view in which the use of a segment and the prefetch of the next do not show. -/
def blindToFetch {β : Type} (p : State → β) : Prop :=
  (∀ (t : State) segs fills sent turns, p { t with moulds := { t.moulds with segs := segs, fills := fills }, sent := sent, turns := turns } = p t) ∧
  (∀ t v, p (t.wr .MC_STATS_HITS v) = p t) ∧ (∀ t v, p (t.wr .MC_STATS_MISSES v) = p t)

section
variable {β : Type} {p : State → β} (hblind : blindToFetch p)
include hblind

theorem prefetch_keeps (s : State) (m : Mould) (seg c : Nat) : p (s.prefetch m seg c) = p s := by
  obtain ⟨hfetch, -, hmiss⟩ := hblind
  unfold State.prefetch
  split
  · exact (hfetch (s.bump .MC_STATS_MISSES) s.moulds.segs _ _ s.turns).trans (hmiss s _)
  · rfl

theorem segUsed_keeps (s : State) (x : Ctx) (m : Mould) : p (segUsed s x m) = p s := by
  obtain ⟨hfetch, hhit, -⟩ := id hblind
  have htouch (t : State) : p (t.touchSeg m.idx (x.pc / 64)) = p t := hfetch t _ t.moulds.fills t.sent t.turns
  have hused : p (if s.cached m.idx m.gen (x.pc / 64) then (if x.missed then s else s.bump .MC_STATS_HITS).touchSeg m.idx (x.pc / 64) else s) =
      p s := by
    split
    · rw [htouch]
      split
      · rfl
      · exact hhit s _
    · rfl
  unfold segUsed
  simp only
  rw [hfetch _ _ _ _ (aset _ _ _)]
  split
  · exact hused
  · rw [prefetch_keeps hblind]
    exact hused

/-- A view that shows no context either keeps the whole issue of a record. -/
theorem beginRecord_keeps (hctx : ∀ (t : State) c f, p (t.modCtx c f) = p t) (s : State) (x : Ctx) (m : Mould) :
    p (s.beginRecord x m) = p s := by
  rw [beginRecord_eq]
  split
  · rfl
  · rw [hctx, segUsed_keeps hblind]

end

section
variable (s : State) (x : Ctx) (m : Mould)

theorem ctx_segUsed (d : Nat) : (segUsed s x m).ctx? d = s.ctx? d :=
  segUsed_keeps (p := fun t => t.ctx? d) ⟨fun _ _ _ _ _ => rfl, fun _ _ => rfl, fun _ _ => rfl⟩ s x m

/-- The issue of context x's record leaves memory, the other contexts and every register but the cache's counters. -/
theorem walked_beginRecord : walked s x.num (s.beginRecord x m) := by
  have hkeep {β : Type} {p : State → β} (hblind : blindToFetch p) (hctx : ∀ (t : State) c f, p (t.modCtx c f) = p t) :
      p (s.beginRecord x m) = p s := beginRecord_keeps hblind hctx s x m
  refine ⟨sameMem_of_eq (hkeep (p := State.hbm) ⟨fun _ _ _ _ _ => rfl, fun _ _ => rfl, fun _ _ => rfl⟩ fun _ _ _ => rfl)
    (hkeep (p := State.wbuf) ⟨fun _ _ _ _ _ => rfl, fun _ _ => rfl, fun _ _ => rfl⟩ fun _ _ _ => rfl), fun f i hfi => ?_, fun d hd => ?_⟩
  · simp only [List.mem_cons, List.not_mem_nil, or_false, Prod.mk.injEq, not_or] at hfi
    exact hkeep (p := fun t => t.rd f i) ⟨fun _ _ _ _ _ => rfl, fun t v => rd_wr_ne t v (by tauto), fun t v => rd_wr_ne t v (by tauto)⟩
      fun _ _ _ => rfl
  · rw [beginRecord_eq]
    split
    · rfl
    · rw [ctx_modCtx_ne (f := issue (x.pc / 64)) _ (fun _ => rfl) hd, ctx_segUsed]

/-- Context x holds its record. -/
theorem ctx_beginRecord {s : State} {c : Nat} {x : Ctx} (h : s.ctx? c = some x) (m : Mould) :
    (s.beginRecord x m).ctx? c = some (issued x) := by
  rw [beginRecord_eq, issued]
  split
  · exact h
  · rw [ctx_num h, ctx_modCtx_same (f := issue (x.pc / 64)) _ (fun _ => rfl), ctx_segUsed, h]
    rfl

@[simp] theorem issued_num : (issued x).num = x.num := by unfold issued; split <;> rfl
@[simp] theorem issued_pc : (issued x).pc = x.pc := by unfold issued; split <;> rfl
@[simp] theorem issued_gates : (issued x).gates = x.gates := by unfold issued; split <;> rfl
@[simp] theorem issued_loops : (issued x).loops = x.loops := by unfold issued; split <;> rfl
@[simp] theorem issued_calls : (issued x).calls = x.calls := by unfold issued; split <;> rfl
@[simp] theorem issued_stamp : (issued x).stamp = x.stamp := by unfold issued; split <;> rfl
@[simp] theorem issued_fence : (issued x).fence = x.fence := by unfold issued; split <;> rfl
@[simp] theorem issued_mould : (issued x).mould = x.mould := by unfold issued; split <;> rfl
@[simp] theorem issued_mgen : (issued x).mgen = x.mgen := by unfold issued; split <;> rfl
@[simp] theorem issued_st : (issued x).st = x.st := by unfold issued; split <;> rfl
@[simp] theorem issued_mgmt : (issued x).mgmt = x.mgmt := by unfold issued; split <;> rfl
@[simp] theorem issued_flask : (issued x).flask = x.flask := by unfold issued; split <;> rfl
@[simp] theorem issued_root : (issued x).root = x.root := by unfold issued; split <;> rfl
@[simp] theorem issued_pour : (issued x).pour = x.pour := by unfold issued; split <;> rfl

end

/-! ## How a record ends (R132) -/

/-- Context y goes on with the record at index pc. -/
def freshAt (pc : Nat) (y : Ctx) : Ctx :=
  { y with pc := pc, st := .run, asked := false, begun := false, want := [], loaded := none, putAt := 0, second := false }

section
variable (s : State) (c pc : Nat)

/-- A view that shows neither the meter, nor the contexts, nor the translations keeps the end of a record. -/
theorem goTo_keeps {β : Type} (p : State → β) (hp : ∀ (t : State) m cs xl, p { t with meter := m, ctxs := cs, xl := xl } = p t) :
    p (s.goTo c pc) = p s := by
  obtain ⟨mt, h⟩ := count_eq s c 12 1
  rw [State.goTo, h]
  exact hp s mt _ _

theorem still_goTo : still s (s.goTo c pc) :=
  ⟨goTo_keeps s c pc State.regs fun _ _ _ _ => rfl, goTo_keeps s c pc State.hbm fun _ _ _ _ => rfl, goTo_keeps s c pc State.wbuf fun _ _ _ _ => rfl⟩

theorem ctx_goTo_same : (s.goTo c pc).ctx? c = (s.ctx? c).map (freshAt pc) := by
  obtain ⟨mt, h⟩ := count_eq s c 12 1
  have hctx : (s.goTo c pc).ctx? c = ((s.count c 12 1).modCtx c (freshAt pc)).ctx? c := rfl
  rw [hctx, ctx_modCtx_same (f := freshAt pc) _ fun _ => rfl, h]
  rfl

theorem ctx_goTo_ne {d : Nat} (hd : d ≠ c) : (s.goTo c pc).ctx? d = s.ctx? d := by
  obtain ⟨mt, h⟩ := count_eq s c 12 1
  have hctx : (s.goTo c pc).ctx? d = ((s.count c 12 1).modCtx c (freshAt pc)).ctx? d := rfl
  rw [hctx, ctx_modCtx_ne (f := freshAt pc) _ (fun _ => rfl) hd, h]
  rfl

theorem walked_goTo : walked s c (s.goTo c pc) := walked_of_still (still_goTo s c pc) fun _ hd => ctx_goTo_ne s c pc hd

theorem walked_park (st : CtxState) : walked s c (s.park c st) := walked_modCtx s c fun _ => rfl

end

/-- A record that goes on from a state in which its context is y. -/
theorem goesTo_goTo {s : State} {c : Nat} {y : Ctx} (h : s.ctx? c = some y) (pc : Nat) : (s.goTo c pc).goesTo c pc :=
  ⟨freshAt pc y, by rw [ctx_goTo_same, h]; rfl, rfl, rfl, rfl⟩

theorem ctx_park {s : State} {c : Nat} {y : Ctx} (h : s.ctx? c = some y) (st : CtxState) :
    (s.park c st).ctx? c = some { y with st := st } := by
  rw [State.park, ctx_modCtx_same _ (f := fun y => { y with st := st }) (fun _ => rfl), h]
  rfl

theorem waitsAt_park {s : State} {c : Nat} {y : Ctx} (h : s.ctx? c = some y) (st : CtxState) : (s.park c st).waitsAt c y.pc st :=
  ⟨_, ctx_park h st, rfl, rfl⟩

/-! ## The rule that runs a record's body -/

/-- A context that faces a record executes its body once the record is issued. -/
theorem record_of_faces {s : State} {c op : Nat} {x : Ctx} {m : Mould} {r : List Byte} (h : s.faces c x m r) (hop : opOf r = op)
    {p : List Byte → Bool} (hp : p r = true) (body : State → Ctx → Mould → List Byte → State) :
    s.record c op p body = body (s.beginRecord x m) x m r := by
  obtain ⟨hctx, hmay, hturn, hmould, hseg, hrec, hgates⟩ := h
  have hhand : (x.begun || s.cached m.idx m.gen (x.pc / 64) || x.buf == some (x.pc / 64)) = true := by
    rw [Bool.or_assoc, hseg, Bool.or_true]
  simp only [State.record, hctx, hmay, hmould, hhand, hrec, hop, hp, hturn, hgates]
  simp

/-- What stands before a record once it is issued. -/
theorem begun_of_faces {s : State} {c : Nat} {x : Ctx} {m : Mould} {r : List Byte} (h : s.faces c x m r) :
    walked s c (s.beginRecord x m) ∧ (s.beginRecord x m).ctx? c = some (issued x) := by
  obtain ⟨hctx, -⟩ := h
  exact ⟨ctx_num hctx ▸ walked_beginRecord s x m, ctx_beginRecord hctx m⟩

end Sys2Proof.Laws

/-! # Control flow, timelines, fences and stamps

The records of R95 to R99, R103, R106, R108 and R142 to R144. -/
namespace Sys2Proof.Laws

open Sys2Proof.Machine

/-! ## Gates (R85, R86) -/

theorem dieRead_congr {s t : State} (h : sameMem s t) (a n : Nat) : t.dieRead a n = s.dieRead a n := by
  simp only [State.dieRead]
  exact List.map_congr_left fun i _ => (h _).2

theorem noteClamp_leaves (s : State) (c g : Nat) : sameMem s (s.noteClamp c g) ∧
    ∀ y, s.ctx? c = some y → ∃ z, (s.noteClamp c g).ctx? c = some z ∧ z.gates = y.gates ∧ z.loops = y.loops := by
  cases hy : s.ctx? c with
  | none =>
    simp only [State.noteClamp, hy]
    exact ⟨sameMem_refl s, fun _ h => nomatch h⟩
  | some y =>
    have hraise (t : State) (q : Nat) : (t.raiseQueueErr q).ctx? c = t.ctx? c := raise_keeps (fun t => t.ctx? c) (fun _ _ _ _ => rfl) t _
    have hmem (t : State) (q : Nat) : sameMem t (t.raiseQueueErr q) := by simp [State.raiseQueueErr]
    simp only [State.noteClamp, hy]
    split
    · exact ⟨by simp, fun z hz => ⟨y, hy, by cases hz; exact ⟨rfl, rfl⟩⟩⟩
    · split
      · exact ⟨by simp, fun z hz => ⟨y, hy, by cases hz; exact ⟨rfl, rfl⟩⟩⟩
      · refine ⟨sameMem_trans (t := ((s.bump .MC_GATE_CLAMP_COUNT).wr .MC_GATE_CLAMP_QUEUE (s.rootOf y).pour.queue).wr .MC_GATE_CLAMP_GATE g)
          (by simp) (by simp [State.raiseQueueErr]), fun z hz => ?_⟩
        cases hz
        refine ⟨{ y with clamped := true }, ?_, rfl, rfl⟩
        rw [ctx_modCtx_same (f := fun y => { y with clamped := true }) _ fun _ => rfl, hraise]
        exact congrArg (Option.map _) hy

/-- A value that enters a gate is brought within the gate's descriptor. -/
theorem gateWrite_leaves {s : State} {c g v : Nat} {y : Ctx} {m : Mould} (hy : s.ctx? c = some y) (hm : s.mould? y.mould y.mgen = some m) :
    sameMem s (s.gateWrite c g v) ∧ ∃ z, (s.gateWrite c g v).ctx? c = some z ∧ z.loops = y.loops ∧
      z.gates = y.gates.set g (BitVec.ofNat 64 (clampGate (s.descAt m g) (s.tlCount y) (v % 2 ^ 64))) := by
  let w := clampGate (s.descAt m g) (s.tlCount y) (v % 2 ^ 64)
  let set (y : Ctx) : Ctx := { y with gates := y.gates.set g (BitVec.ofNat 64 w) }
  have hset : (s.modCtx c set).ctx? c = some (set y) := by
    rw [ctx_modCtx_same (f := set) _ fun _ => rfl, hy]
    rfl
  have heq : s.gateWrite c g v = if w = v % 2 ^ 64 then s.modCtx c set else (s.modCtx c set).noteClamp c g := by
    simp only [State.gateWrite, hy, hm]
    rfl
  rw [heq]
  split
  · exact ⟨by simp, set y, hset, rfl, rfl⟩
  · obtain ⟨hmem, hctx⟩ := noteClamp_leaves (s.modCtx c set) c g
    obtain ⟨z, hz, hgates, hloops⟩ := hctx _ hset
    exact ⟨sameMem_trans (t := s.modCtx c set) (by simp) hmem, z, hz, hloops, hgates⟩

theorem loopIndex_of_none {l : List Byte} (h : fld l 0 8 1 = 0) (s : State) (c i : Nat) : s.loopIndex c l i = s := by
  unfold State.loopIndex
  exact if_neg (by omega)

/-! ## Records that go on -/

/-- A record goes on from a state that the record's issue has led to. -/
theorem goes_of_goTo {s t : State} {c : Nat} {y : Ctx} {P : Ctx → Prop} (hw : walked s c t) (hy : t.ctx? c = some y) (pc : Nat)
    (hP : P (freshAt pc y)) :
    walked s c (t.goTo c pc) ∧ (t.goTo c pc).goesTo c pc ∧ ∃ z, (t.goTo c pc).ctx? c = some z ∧ P z :=
  ⟨walked_trans hw (walked_goTo t c pc), goesTo_goTo hy pc, freshAt pc y, by rw [ctx_goTo_same, hy]; rfl, hP⟩

section
variable {s : State} {c : Nat} {x : Ctx} {m : Mould} {r : List Byte} (h : s.faces c x m r)
include h

/-- The mould of a record that has been issued is the one it stands in. -/
theorem mould_begun : (s.beginRecord x m).mould? x.mould x.mgen = some m := by
  obtain ⟨-, -, -, hmould, -⟩ := h
  rw [beginRecord_keeps (p := fun t => t.mould? x.mould x.mgen) ⟨fun _ _ _ _ _ => rfl, fun _ _ => rfl, fun _ _ => rfl⟩ (fun _ _ _ => rfl), hmould]

/-- The walk goes on after a loop's frames and, where the LOOP record names one, its index gate are written. -/
theorem goes_loop (frames : Ctx → List LoopFrame) (l : List Byte) (i pc : Nat) (hl : fld l 0 8 1 = 1) :
    let t := (((s.beginRecord x m).modCtx c (fun y => { y with loops := frames y })).loopIndex c l i).goTo c pc
    sameMem s t ∧ t.goesTo c pc ∧ ∃ y, t.ctx? c = some y ∧
      y.gates = x.gates.set (fld l 0 16 6) (BitVec.ofNat 64 (clampGate (s.descAt m (fld l 0 16 6)) (s.tlCount x) (i % 2 ^ 64))) ∧ y.loops = frames (issued x) := by
  obtain ⟨hw, hctx⟩ := begun_of_faces h
  let b := (s.beginRecord x m).modCtx c (fun y => { y with loops := frames y })
  have hb : b.ctx? c = some { issued x with loops := frames (issued x) } := by
    rw [ctx_modCtx_same (f := fun y => { y with loops := frames y }) _ fun _ => rfl, hctx]
    rfl
  have hmem : sameMem s b := sameMem_trans hw.1 (by simp [b])
  have hm : b.mould? (issued x).mould (issued x).mgen = some m := by
    rw [issued_mould, issued_mgen]
    exact mould_begun h
  obtain ⟨hmem', z, hz, hzl, hzg⟩ := gateWrite_leaves (g := fld l 0 16 6) (v := i) (y := { issued x with loops := frames (issued x) }) hb hm
  have htl : b.tlCount { issued x with loops := frames (issued x) } = s.tlCount x := by
    have hrd : b.rd .FL_TCOUNT_M1 x.flask = s.rd .FL_TCOUNT_M1 x.flask := hw.2.1 _ _ (by simp)
    simp only [State.tlCount, issued_mgmt, issued_flask, hrd]
  have hdesc : b.descAt m (fld l 0 16 6) = s.descAt m (fld l 0 16 6) := by
    simp only [State.descAt, dieRead_congr hmem]
  intro t
  have ht : t = (b.gateWrite c (fld l 0 16 6) i).goTo c pc := by simp only [t, State.loopIndex, if_pos hl]; rfl
  rw [htl, hdesc] at hzg
  rw [ht]
  refine ⟨sameMem_trans (sameMem_trans hmem hmem') (still_goTo _ c pc).sameMem, goesTo_goTo hz pc, freshAt pc z, ?_, ?_, hzl⟩
  · rw [ctx_goTo_same, hz]
    rfl
  · exact hzg.trans (by rw [issued_gates])

end

/-- Settles O26 (R95 to R97). -/
theorem controlFlowRecords : Obligations.ControlFlowRecords := by
  intro s c x m r h goes goesIdx
  obtain ⟨hw, hctx⟩ := begun_of_faces h
  have hrun {op : Nat} (hop : opOf r = op) (body : State → Ctx → Mould → List Byte → State) :
      s.record c op (fun _ => true) body = body (s.beginRecord x m) x m r := record_of_faces h hop rfl body
  have hgo {i : Instr} {t : State} {f : Ctx → Ctx} {pc : Nat} {P : Ctx → Prop} (hi : exec i s = s.after (t.goTo c pc))
      (ht : t = (s.beginRecord x m).modCtx c f) (hf : ∀ y, (f y).num = y.num) (hP : P (freshAt pc (f (issued x)))) : goes i pc P := by
    subst ht
    have hy : ((s.beginRecord x m).modCtx c f).ctx? c = some (f (issued x)) := by
      rw [ctx_modCtx_same _ hf, hctx]
      rfl
    exact ⟨_, hi, goes_of_goTo (walked_trans hw (walked_modCtx _ c hf)) hy pc hP⟩
  have hplain {i : Instr} {pc : Nat} {P : Ctx → Prop} (hi : exec i s = s.after ((s.beginRecord x m).goTo c pc)) (hP : P (freshAt pc (issued x))) :
      goes i pc P := ⟨_, hi, goes_of_goTo hw hctx pc hP⟩
  have hsame (pc : Nat) : (freshAt pc (issued x)).gates = x.gates ∧ (freshAt pc (issued x)).loops = x.loops ∧
      (freshAt pc (issued x)).calls = x.calls := ⟨issued_gates x, issued_loops x, issued_calls x⟩
  refine ⟨fun hop => ?_, fun hop => ?_, fun hop => ⟨fun hzero => ?_, fun hne => ?_⟩, fun hop f rest hloops => ?_, fun hop => ?_, fun hop a rest hcalls => ?_⟩
  · have hexec : exec (.recGuard c) s = s.after _ := congrArg s.after (hrun hop _)
    split
    · next hc => exact hplain (hexec.trans (by rw [if_pos hc])) (hsame _)
    · next hc => exact hplain (hexec.trans (by rw [if_neg hc])) (hsame _)
  · exact hplain (congrArg s.after (hrun hop _)) (hsame _)
  · have hexec : exec (.recLoop c) s = s.after _ := congrArg s.after (hrun hop _)
    exact hplain (hexec.trans (by rw [if_pos hzero])) ⟨issued_gates x, issued_loops x⟩
  · have hexec : exec (.recLoop c) s = s.after _ := congrArg s.after (hrun hop _)
    let frame : LoopFrame := { index := x.pc, trip := x.op r 0 32, iter := 0 }
    have hbody := hexec.trans (by rw [if_neg hne])
    refine ⟨fun hplainLoop => ?_, fun hidx => ?_⟩
    · refine hgo (f := fun y => { y with loops := frame :: y.loops }) (hbody.trans (by dsimp only; rw [loopIndex_of_none hplainLoop])) rfl (fun _ => rfl)
        ⟨issued_gates x, congrArg _ (issued_loops x)⟩
    · obtain ⟨hmem, hgoes, y, hy, hgates, hframes⟩ := goes_loop h (fun y => frame :: y.loops) r 0 (x.pc + 1) hidx
      exact ⟨_, hbody, hmem, hgoes, y, hy, hgates, hframes.trans (congrArg _ (issued_loops x))⟩
  · have hexec : exec (.recEndloop c) s = s.after _ := congrArg s.after (hrun hop _)
    have hrec : (s.beginRecord x m).recordOf m f.index = s.recordOf m f.index := dieRead_congr hw.1 _ _
    rw [hloops] at hexec
    simp only [hrec] at hexec
    intro l
    refine ⟨fun hlt => ?_, fun hge => ?_⟩
    · rw [if_pos hlt] at hexec
      refine ⟨fun hplainLoop => ?_, fun hidx hfree => ?_, fun hidx hpending => ?_⟩
      · have hgate : (decide (fld (s.recordOf m f.index) 0 8 1 = 1) && bit x.pending (fld (s.recordOf m f.index) 0 16 6)) = false := by
          rw [show fld (s.recordOf m f.index) 0 8 1 = 0 from hplainLoop]
          rfl
        refine hgo (f := fun y => { y with loops := { f with iter := f.iter + 1 } :: rest }) (hexec.trans ?_) rfl (fun _ => rfl) ⟨issued_gates x, rfl⟩
        rw [if_neg (by simp [hgate]), loopIndex_of_none hplainLoop]
      · have hgate : (decide (fld (s.recordOf m f.index) 0 8 1 = 1) && bit x.pending (fld (s.recordOf m f.index) 0 16 6)) = false := by
          rw [show bit x.pending (fld (s.recordOf m f.index) 0 16 6) = false from hfree, Bool.and_false]
        obtain ⟨hmem, hgoes, y, hy, hgates, hframes⟩ := goes_loop h (fun _ => { f with iter := f.iter + 1 } :: rest) l (f.iter + 1) (f.index + 1) hidx
        exact ⟨_, hexec.trans (by rw [if_neg (by simp [hgate])]; rfl), hmem, hgoes, y, hy, hgates, hframes⟩
      · have hgate : (decide (fld (s.recordOf m f.index) 0 8 1 = 1) && bit x.pending (fld (s.recordOf m f.index) 0 16 6)) = true := by
          rw [show bit x.pending (fld (s.recordOf m f.index) 0 16 6) = true from hpending, show fld (s.recordOf m f.index) 0 8 1 = 1 from hidx]
          rfl
        exact ⟨_, hexec.trans (by rw [if_pos hgate]; rfl), walked_trans hw (walked_park _ c _), issued_pc x ▸ waitsAt_park hctx .waitGate⟩
    · exact hgo (f := fun y => { y with loops := rest }) (hexec.trans (by rw [if_neg (by omega)])) rfl (fun _ => rfl) ⟨issued_gates x, rfl⟩
  · exact hgo (f := fun y => { y with calls := (x.pc + 1) :: y.calls }) (congrArg s.after (hrun hop _)) rfl (fun _ => rfl)
      ⟨issued_gates x, congrArg _ (issued_calls x)⟩
  · have hexec : exec (.recReturn c) s = s.after _ := congrArg s.after (hrun hop _)
    exact hgo (f := fun y => { y with calls := rest }) (hexec.trans (by rw [hcalls])) rfl (fun _ => rfl) ⟨issued_gates x, rfl⟩

/-! ## Fences, barriers and the end of a walk (R99, R106, R108, R313) -/

/-- A view that shows no context, no meter and no translations is kept by a record's issue. -/
theorem kernelsOf_begun (s : State) (x : Ctx) (m : Mould) (c : Nat) : (s.beginRecord x m).kernelsOf c = s.kernelsOf c :=
  beginRecord_keeps (p := fun t => t.kernelsOf c) ⟨fun _ _ _ _ _ => rfl, fun _ _ => rfl, fun _ _ => rfl⟩ (fun _ _ _ => rfl) s x m

theorem movesOf_begun (s : State) (x : Ctx) (m : Mould) (c : Nat) : (s.beginRecord x m).movesOf c = s.movesOf c :=
  beginRecord_keeps (p := fun t => t.movesOf c) ⟨fun _ _ _ _ _ => rfl, fun _ _ => rfl, fun _ _ => rfl⟩ (fun _ _ _ => rfl) s x m

/-- The contexts after a record's issue: each has the number, parent, root and pour that it had. -/
theorem ctxs_beginRecord (s : State) (x : Ctx) (m : Mould) : ∃ g : Ctx → Ctx, (s.beginRecord x m).ctxs = s.ctxs.map g ∧
    ∀ y, (g y).num = y.num ∧ (g y).parent = y.parent ∧ (g y).pour = y.pour ∧ (g y).root = y.root := by
  have hused : (segUsed s x m).ctxs = s.ctxs :=
    segUsed_keeps (p := State.ctxs) ⟨fun _ _ _ _ _ => rfl, fun _ _ => rfl, fun _ _ => rfl⟩ s x m
  rw [beginRecord_eq]
  split
  · exact ⟨id, by simp, fun _ => ⟨rfl, rfl, rfl, rfl⟩⟩
  · refine ⟨fun y => if y.num == x.num then issue (x.pc / 64) y else y, by rw [State.modCtx, hused]; rfl, fun y => ?_⟩
    dsimp only
    split <;> exact ⟨rfl, rfl, rfl, rfl⟩

/-- No pour stands below context c exactly when none is its child. -/
theorem spawnedOf_isEmpty (s : State) (c : Nat) : (s.spawnedOf c).isEmpty = s.ctxs.all (fun y => y.parent != some c) := by
  rw [State.spawnedOf, State.spawnedOf.go]
  rw [List.filter_congr (q := fun y => y.parent == some c)]
  swap
  · intro y _
    cases y.parent <;> simp [Bool.beq_eq_decide_eq]
  cases hk : s.ctxs.filter (fun y => y.parent == some c) with
  | nil =>
    symm
    simpa [List.filter_eq_nil_iff] using hk
  | cons y ys =>
    have hy : y ∈ s.ctxs.filter (fun y => y.parent == some c) := hk ▸ List.mem_cons_self
    rw [List.mem_filter] at hy
    symm
    simpa using ⟨y, hy.1, by simpa using hy.2⟩

section
variable (s : State) (x : Ctx) (m : Mould)

theorem spawnedOf_begun (c : Nat) : ((s.beginRecord x m).spawnedOf c).isEmpty = (s.spawnedOf c).isEmpty := by
  obtain ⟨g, hg, hkeep⟩ := ctxs_beginRecord s x m
  rw [spawnedOf_isEmpty, spawnedOf_isEmpty, hg, List.all_map]
  congr 1
  funext y
  simp [(hkeep y).2.1]

theorem rootPour_begun (y : Ctx) : ((s.beginRecord x m).rootOf y).pour = (s.rootOf y).pour := by
  obtain ⟨g, hg, hkeep⟩ := ctxs_beginRecord s x m
  have hctx : (s.beginRecord x m).ctx? y.root = (s.ctx? y.root).map g := by
    rw [← ctx_map s y.root fun z => (hkeep z).1]
    simp only [State.ctx?, hg]
  rw [State.rootOf, State.rootOf, hctx]
  cases s.ctx? y.root with
  | none => rfl
  | some z => exact (hkeep z).2.2.1

theorem fenceReady_begun (y : Ctx) : (s.beginRecord x m).fenceReady y = s.fenceReady y := by
  have hout : (s.beginRecord x m).workOut y = s.workOut y :=
    beginRecord_keeps (p := fun t => t.workOut y) ⟨fun _ _ _ _ _ => rfl, fun _ _ => rfl, fun _ _ => rfl⟩ (fun _ _ _ => rfl) s x m
  have hstores (p : PourId) : (s.beginRecord x m).storesOut p = s.storesOut p :=
    beginRecord_keeps (p := fun t => t.storesOut p) ⟨fun _ _ _ _ _ => rfl, fun _ _ => rfl, fun _ _ => rfl⟩ (fun _ _ _ => rfl) s x m
  rw [State.fenceReady, State.fenceReady, hout, hstores, spawnedOf_begun, rootPour_begun]

end

/-- Settles O28 (R99, R106, R108, R313). -/
theorem fenceBarrierEndRecords : Obligations.FenceBarrierEndRecords := by
  intro s c x m r h
  obtain ⟨hw, hctx⟩ := begun_of_faces h
  have hnum : x.num = c := ctx_num h.1
  have hpark {i : Instr} (hi : exec i s = s.after ((s.beginRecord x m).park c .waitWork)) :
      acts i s (fun u => walked s c u ∧ u.waitsAt c x.pc .waitWork) :=
    ⟨_, hi, walked_trans hw (walked_park _ c _), issued_pc x ▸ waitsAt_park hctx .waitWork⟩
  have hgo {i : Instr} {f : Ctx → Ctx} (hf : ∀ y, (f y).num = y.num)
      (hi : exec i s = s.after (((s.beginRecord x m).modCtx c f).goTo c (x.pc + 1))) :
      acts i s (fun u => walked s c u ∧ u.goesTo c (x.pc + 1)) := by
    have hy : ((s.beginRecord x m).modCtx c f).ctx? c = some (f (issued x)) := by
      rw [ctx_modCtx_same _ hf, hctx]
      rfl
    obtain ⟨hwalk, hgoes, -⟩ := goes_of_goTo (P := fun _ => True) (walked_trans hw (walked_modCtx _ c hf)) hy (x.pc + 1) trivial
    exact ⟨_, hi, hwalk, hgoes⟩
  have hplain {i : Instr} (hi : exec i s = s.after ((s.beginRecord x m).goTo c (x.pc + 1))) :
      acts i s (fun u => walked s c u ∧ u.goesTo c (x.pc + 1)) := by
    obtain ⟨hwalk, hgoes, -⟩ := goes_of_goTo (P := fun _ => True) hw hctx (x.pc + 1) trivial
    exact ⟨_, hi, hwalk, hgoes⟩
  refine ⟨fun hop => ?_, fun hop => ?_, fun hop => ?_⟩
  · have hexec : exec (.recFence c) s = s.after _ := congrArg s.after (record_of_faces h hop rfl _)
    rw [fenceReady_begun] at hexec
    refine ⟨fun hbusy => hpark (hexec.trans (by rw [if_pos (by simp [hbusy])])), fun hready => ?_⟩
    rw [if_neg (by simp [hready])] at hexec
    refine ⟨fun hdie => hplain (hexec.trans (by rw [if_pos hdie])), fun hsys hfirst => ?_, fun hsys hfencing hall => ?_⟩
    · rw [if_neg hsys, if_pos (by simp [hfirst])] at hexec
      refine ⟨_, hexec, ?_, ?_⟩
      · exact walked_trans (walked_trans hw (walked_of_still (t := (s.beginRecord x m).say (.commitMarker c)) ⟨rfl, rfl, rfl⟩ fun _ _ => rfl))
          (walked_modCtx _ c fun _ => rfl)
      · have hy : (((s.beginRecord x m).say (.commitMarker c)).modCtx c (fun y =>
            { y with st := .waitWork, fencing := true, markAt := (s.beginRecord x m).nextId, fence := Config.hbmControllers })).ctx? c =
            some { issued x with st := .waitWork, fencing := true, markAt := (s.beginRecord x m).nextId, fence := Config.hbmControllers } := by
          rw [ctx_modCtx_same _ (f := fun y =>
            { y with st := .waitWork, fencing := true, markAt := (s.beginRecord x m).nextId, fence := Config.hbmControllers }) fun _ => rfl]
          exact congrArg (Option.map _) hctx
        exact ⟨⟨_, hy, issued_pc x, rfl⟩, List.mem_cons_self, _, hy, rfl, rfl⟩
    · rw [if_neg hsys, if_neg (by simp [hfencing]), if_pos (by simp [hall])] at hexec
      exact hgo (f := fun y => { y with fencing := false }) (fun _ => rfl) hexec
  · have hexec : exec (.recBarrier c) s = s.after _ := congrArg s.after (record_of_faces h hop rfl _)
    rw [kernelsOf_begun, movesOf_begun, spawnedOf_begun] at hexec
    refine ⟨fun hbusy => hpark (hexec.trans (by rw [if_pos hbusy])), fun hfree => hplain (hexec.trans (by rw [if_neg (by simp [hfree])]))⟩
  · have hexec : exec (.recEnd c) s = s.after _ := congrArg s.after (record_of_faces h hop rfl _)
    let last (y : Ctx) : Ctx := { y with pc := x.pc, walkDone := true, st := .waitWork, begun := false }
    have hexec : exec (.recEnd c) s = s.after (((s.beginRecord x m).count c 12 1).modCtx c last) := hexec
    obtain ⟨mt, hcount⟩ := count_eq (s.beginRecord x m) c 12 1
    rw [hcount] at hexec
    have hy : (State.modCtx { s.beginRecord x m with meter := mt } c last).ctx? c = some (last (issued x)) := by
      rw [ctx_modCtx_same _ (f := last) fun _ => rfl]
      exact congrArg (Option.map last) hctx
    exact ⟨_, hexec, walked_trans (walked_trans hw (walked_of_still (t := { s.beginRecord x m with meter := mt }) ⟨rfl, rfl, rfl⟩ fun _ _ => rfl))
      (walked_modCtx _ c fun _ => rfl), ⟨_, hy, rfl, rfl⟩, _, hy, rfl⟩

end Sys2Proof.Laws

/-! # Timelines, stamps and bulk moves

The records of R98, R103, R107, R142 to R144, R244 and R287. -/
namespace Sys2Proof.Laws

open Sys2Proof.Machine

/-! ## BULK_MOVE (R107, R244, R283) -/

section
variable (s : State) (x : Ctx) (m : Mould)

theorem nextId_begun : (s.beginRecord x m).nextId = s.nextId :=
  beginRecord_keeps (p := State.nextId) ⟨fun _ _ _ _ _ => rfl, fun _ _ => rfl, fun _ _ => rfl⟩ (fun _ _ _ => rfl) s x m
theorem copies_begun : (s.beginRecord x m).copies = s.copies :=
  beginRecord_keeps (p := State.copies) ⟨fun _ _ _ _ _ => rfl, fun _ _ => rfl, fun _ _ => rfl⟩ (fun _ _ _ => rfl) s x m
theorem cast_begun : (s.beginRecord x m).cast = s.cast :=
  beginRecord_keeps (p := State.cast) ⟨fun _ _ _ _ _ => rfl, fun _ _ => rfl, fun _ _ => rfl⟩ (fun _ _ _ => rfl) s x m
theorem tier_begun : (s.beginRecord x m).tier = s.tier :=
  beginRecord_keeps (p := State.tier) ⟨fun _ _ _ _ _ => rfl, fun _ _ => rfl, fun _ _ => rfl⟩ (fun _ _ _ => rfl) s x m
theorem reqs_begun : (s.beginRecord x m).reqs = s.reqs :=
  beginRecord_keeps (p := State.reqs) ⟨fun _ _ _ _ _ => rfl, fun _ _ => rfl, fun _ _ => rfl⟩ (fun _ _ _ => rfl) s x m
theorem hlp_begun : (s.beginRecord x m).hlp = s.hlp :=
  beginRecord_keeps (p := State.hlp) ⟨fun _ _ _ _ _ => rfl, fun _ _ => rfl, fun _ _ => rfl⟩ (fun _ _ _ => rfl) s x m
theorem qm_begun : (s.beginRecord x m).qm = s.qm :=
  beginRecord_keeps (p := State.qm) ⟨fun _ _ _ _ _ => rfl, fun _ _ => rfl, fun _ _ => rfl⟩ (fun _ _ _ => rfl) s x m
theorem time_begun : (s.beginRecord x m).time = s.time :=
  beginRecord_keeps (p := State.time) ⟨fun _ _ _ _ _ => rfl, fun _ _ => rfl, fun _ _ => rfl⟩ (fun _ _ _ => rfl) s x m
theorem rd_beginRecord {f : Field} (i : Nat) (hh : f ≠ .MC_STATS_HITS) (hm : f ≠ .MC_STATS_MISSES) : (s.beginRecord x m).rd f i = s.rd f i :=
  (walked_beginRecord s x m).2.1 f i (by simp [hh, hm])

theorem tagRoom_begun (who : Requester) : (s.beginRecord x m).tagRoom who false = s.tagRoom who false :=
  beginRecord_keeps (p := fun t => t.tagRoom who false)
    ⟨fun _ _ _ _ _ => rfl, fun t v => by simp only [State.tagRoom, rd_wr_ne t v (f := .MC_STATS_HITS) (i := 0) (.inl (show _ ≠ Field.HAP_CTL_SHARE_LIMIT by decide))]; rfl,
      fun t v => by simp only [State.tagRoom, rd_wr_ne t v (f := .MC_STATS_MISSES) (i := 0) (.inl (show _ ≠ Field.HAP_CTL_SHARE_LIMIT by decide))]; rfl⟩
    (fun _ _ _ => rfl) s x m
theorem entryRoom_begun (who : Requester) : (s.beginRecord x m).entryRoom who = s.entryRoom who :=
  beginRecord_keeps (p := fun t => t.entryRoom who)
    ⟨fun _ _ _ _ _ => rfl, fun t v => by simp only [State.entryRoom, rd_wr_ne t v (f := .MC_STATS_HITS) (i := 0) (.inl (show _ ≠ Field.HAP_CTL_SHARE_LIMIT by decide))]; rfl,
      fun t v => by simp only [State.entryRoom, rd_wr_ne t v (f := .MC_STATS_MISSES) (i := 0) (.inl (show _ ≠ Field.HAP_CTL_SHARE_LIMIT by decide))]; rfl⟩
    (fun _ _ _ => rfl) s x m

end

/-- A walk that goes on from a state which differs from that of the record's issue in work handed over alone. -/
theorem goes_of_handover {s t : State} {c pc : Nat} {x : Ctx} {m : Mould} {r : List Byte} (h : s.faces c x m r)
    (ht : still (s.beginRecord x m) t) (hctxs : t.ctxs = (s.beginRecord x m).ctxs) :
    walked s c (t.goTo c pc) ∧ (t.goTo c pc).goesTo c pc := by
  obtain ⟨hw, hctx⟩ := begun_of_faces h
  have hall (d : Nat) : t.ctx? d = (s.beginRecord x m).ctx? d := by simp only [State.ctx?, hctxs]
  obtain ⟨hwalk, hgoes, -⟩ := goes_of_goTo (P := fun _ => True) (walked_trans hw (walked_of_still ht fun d _ => hall d))
    ((hall c).trans hctx) pc trivial
  exact ⟨hwalk, hgoes⟩

/-- Settles O39 (R107, R244, R283, R287). -/
theorem bulkMovesAreTaken : Obligations.BulkMovesAreTaken := by
  intro s c x m r h hop
  obtain ⟨hw, hctx⟩ := begun_of_faces h
  have hpark : walked s c ((s.beginRecord x m).park c .run) ∧ ((s.beginRecord x m).park c .run).waitsAt c x.pc .run :=
    ⟨walked_trans hw (walked_park _ c _), issued_pc x ▸ waitsAt_park hctx .run⟩
  refine ⟨fun hmode => ?_, fun hmode => ?_, fun hmode => ?_⟩
  · have hexec : exec (.recBulkMoveCopy c) s = s.after _ := congrArg s.after (record_of_faces h hop (p := fun r => fld r 0 8 2 == 0) (by simp [hmode]) _)
    rw [tagRoom_begun, entryRoom_begun] at hexec
    intro n k more room
    refine ⟨fun hroom => ?_, fun hfull => ?_⟩
    · rw [if_neg (by simp only [room] at hroom; simp [hroom])] at hexec
      let t := (s.beginRecord x m).startCopy c (x.gate (fld r 0 16 6) + fld r 1 0 57) (x.gate (fld r 0 24 6) + fld r 2 0 57) n
      have ht : still (s.beginRecord x m) t ∧ t.ctxs = (s.beginRecord x m).ctxs ∧ t.copies = s.copies ++ more := by
        by_cases hn : n = 0
        · have ht : t = s.beginRecord x m := if_pos hn
          rw [ht, copies_begun]
          exact ⟨still_refl _, rfl, by simp [more, hn]⟩
        · have ht : t = { s.beginRecord x m with
              nextId := (s.beginRecord x m).nextId + 1, copies := (s.beginRecord x m).copies ++
                [{ k with id := (s.beginRecord x m).nextId }] } := if_neg hn
          rw [ht]
          refine ⟨⟨rfl, rfl, rfl⟩, rfl, ?_⟩
          simp only [copies_begun, nextId_begun, more, if_neg hn]
          rfl
      obtain ⟨hstill, hctxs, hcopies⟩ := ht
      obtain ⟨hwalk, hgoes⟩ := goes_of_handover (pc := x.pc + 1) h hstill hctxs
      exact ⟨_, hexec, hwalk, hgoes, (goTo_keeps t c _ State.copies fun _ _ _ _ => rfl).trans hcopies⟩
    · rw [if_pos (by simp only [room] at hfull; simp [hfull])] at hexec
      exact ⟨_, hexec, hpark.1, hpark.2, copies_begun s x m⟩
  · have hexec : exec (.recBulkMoveCast c) s = s.after _ := congrArg s.after (record_of_faces h hop (p := fun r => fld r 0 8 2 == 1) (by simp [hmode]) _)
    rw [cast_begun] at hexec
    intro a
    refine ⟨fun hroom => ?_, fun hfull => ?_⟩
    · rw [if_neg (by omega)] at hexec
      let j : Job := { id := (s.beginRecord x m).nextId, ctx := c, pour := ((s.beginRecord x m).rootOf x).pour, flask := x.flask, at_ := a,
                       reads := cover a 192 }
      let t : State := { s.beginRecord x m with nextId := (s.beginRecord x m).nextId + 1,
                                                 cast := { (s.beginRecord x m).cast with jobs := (s.beginRecord x m).cast.jobs ++ [j] } }
      obtain ⟨hwalk, hgoes⟩ := goes_of_handover (t := t) (pc := x.pc + 1) h ⟨rfl, rfl, rfl⟩ rfl
      refine ⟨t.goTo c (x.pc + 1), hexec, hwalk, hgoes, j, ?_, nextId_begun s x m, rfl, rfl, rfl, rfl, rfl⟩
      rw [goTo_keeps t c _ State.cast fun _ _ _ _ => rfl]
      exact congrArg (fun k : Cast => k.jobs ++ [j]) (cast_begun s x m)
    · rw [if_pos hfull] at hexec
      exact ⟨_, hexec, hpark.1, hpark.2, cast_begun s x m⟩
  · have hexec : exec (.recBulkMoveMigrate c) s = s.after _ := congrArg s.after (record_of_faces h hop (p := fun r => fld r 0 8 2 == 2) (by simp [hmode]) _)
    rw [tier_begun] at hexec
    intro n
    refine ⟨fun hroom => ?_, fun hfull => ?_⟩
    · rw [if_neg (by omega)] at hexec
      let b := s.beginRecord x m
      let k : Mig := { id := b.nextId, ctx := some c, root := some (b.rootOf x).pour, payer := (b.rootOf x).charge, flask := x.flask,
                       slot := (b.slotOf x).getD 1024, dest := x.gate (fld r 0 24 6), va := addMod 64 (x.gate (fld r 0 16 6)) (fld r 1 0 57) }
      let t : State := { b with nextId := b.nextId + 1, tier := { b.tier with migs := b.tier.migs ++ [k] } }
      obtain ⟨hwalk, hgoes⟩ := goes_of_handover (t := t) (pc := x.pc + 1) h ⟨rfl, rfl, rfl⟩ rfl
      refine ⟨t.goTo c (x.pc + 1), hexec, hwalk, hgoes, k, ?_, nextId_begun s x m, rfl, rfl, rfl, rfl, rfl⟩
      rw [goTo_keeps t c _ State.tier fun _ _ _ _ => rfl]
      exact congrArg (fun t : Tier => t.migs ++ [k]) (tier_begun s x m)
    · rw [if_pos hfull] at hexec
      exact ⟨_, hexec, hpark.1, hpark.2, tier_begun s x m⟩

/-! ## WAIT and SIGNAL (R98, R142 to R144) -/

/-- A WAIT parked on timeline i is met by the value `new`. -/
def metBy (i new : Nat) (y : Ctx) : Bool := y.st == .waitTl && y.timeline == i && decide (y.value ≤ new)

/-- A met WAIT is over. -/
def wokenBy (i new : Nat) (y : Ctx) : Ctx := if metBy i new y then { y with st := .run, pc := y.pc + 1 } else y

theorem tlApply_eq (s : State) (i mode v : Nat) :
    let new := tlResult mode (s.timeline i) v % 2 ^ 64
    ∃ mt, s.tlApply i mode v = { s.wr .TL_COUNTER new i with meter := mt, ctxs := s.ctxs.map (wokenBy i new) } := by
  have hcounts (xs : List Ctx) (t : State) : ∃ mt, xs.foldl (fun (t : State) x => t.count x.num 12 1) t = { t with meter := mt } := by
    induction xs generalizing t with
    | nil => exact ⟨t.meter, rfl⟩
    | cons y ys ih =>
      obtain ⟨mt, h⟩ := count_eq t y.num 12 1
      obtain ⟨mt', h'⟩ := ih (t.count y.num 12 1)
      exact ⟨mt', h'.trans (by rw [h])⟩
  intro new
  obtain ⟨mt, h⟩ := hcounts (s.ctxs.filter (metBy i new)) (s.wr .TL_COUNTER new i)
  refine ⟨mt, ?_⟩
  have happly : s.tlApply i mode v = (fun t : State => { t with ctxs := updAll t.ctxs (metBy i new) (fun x => { x with st := .run, pc := x.pc + 1 }) })
      ((s.ctxs.filter (metBy i new)).foldl (fun (t : State) x => t.count x.num 12 1) (s.wr .TL_COUNTER new i)) := rfl
  rw [happly, h]
  rfl

section
variable {s : State} {c : Nat} {x : Ctx} {m : Mould} {r : List Byte} (h : s.faces c x m r)
include h

/-- A context whose walk may go on is parked on no timeline. -/
theorem not_waitTl_of_faces : x.st ≠ .waitTl := by
  intro hst
  have hmay := h.2.1
  simp [State.mayWalk, hst] at hmay

/-- What an update of a timeline by a SIGNAL leaves. -/
theorem signal_local (i k v : Nat) :
    let u := ((s.beginRecord x m).tlApply i k v).goTo c (x.pc + 1)
    sameMem s u ∧ u.goesTo c (x.pc + 1) ∧ u.timeline i = tlResult k (s.timeline i) v % 2 ^ 64 ∧
      onlyRegs s u [(.MC_STATS_HITS, 0), (.MC_STATS_MISSES, 0), (.TL_COUNTER, i)] ∧
      ∀ d y, d ≠ c → s.ctx? d = some y →
        if y.st = .waitTl ∧ y.timeline = i ∧ y.value ≤ u.timeline i then u.ctx? d = some { y with st := .run, pc := y.pc + 1 }
        else u.ctx? d = some y := by
  obtain ⟨⟨hmem, hregs, hctxs⟩, hctx⟩ := begun_of_faces h
  intro u
  let b := s.beginRecord x m
  let new := tlResult k (s.timeline i) v % 2 ^ 64
  have htl : b.timeline i = s.timeline i := rd_beginRecord s x m i (by decide) (by decide)
  obtain ⟨mt, happly⟩ := tlApply_eq b i k v
  rw [htl] at happly
  let t : State := { b.wr .TL_COUNTER new i with meter := mt, ctxs := b.ctxs.map (wokenBy i new) }
  have hu : u = t.goTo c (x.pc + 1) := congrArg (State.goTo · c (x.pc + 1)) happly
  have hwoken (d : Nat) : t.ctx? d = (b.ctx? d).map (wokenBy i new) :=
    ctx_map b d (g := wokenBy i new) fun y => by unfold wokenBy; split <;> rfl
  have hstill : still t u := hu ▸ still_goTo t c _
  have hc : t.ctx? c = some (issued x) := by
    have hnot : metBy i new (issued x) = false := by simp [metBy, not_waitTl_of_faces h]
    rw [hwoken, hctx]
    simp [wokenBy, hnot]
  have htimeline : u.timeline i = new := by
    rw [State.timeline, hstill.rd]
    exact (rd_wr_same b .TL_COUNTER new i).trans (Nat.mod_mod _ _)
  refine ⟨sameMem_trans (sameMem_trans hmem (sameMem_of_eq rfl rfl)) hstill.sameMem, hu ▸ goesTo_goTo hc _, htimeline, ?_, fun d y hd hy => ?_⟩
  · refine hstill.onlyRegs_of ?_
    have hb : onlyRegs s b [(.MC_STATS_HITS, 0), (.MC_STATS_MISSES, 0), (.TL_COUNTER, i)] :=
      onlyRegs_mono hregs fun p hp => by simp only [List.mem_cons] at hp ⊢; tauto
    exact onlyRegs_wr (f := .TL_COUNTER) (i := i) hb (by simp) new
  · have hud : u.ctx? d = some (wokenBy i new y) := by
      rw [hu, ctx_goTo_ne t c _ hd, hwoken, hctxs d hd, hy]
      rfl
    rw [htimeline, hud, wokenBy]
    by_cases hm : metBy i new y = true
    · have hcond : y.st = .waitTl ∧ y.timeline = i ∧ y.value ≤ new := by simpa [metBy, and_assoc] using hm
      rw [if_pos hcond, if_pos hm]
    · have hcond : ¬ (y.st = .waitTl ∧ y.timeline = i ∧ y.value ≤ new) := by simpa [metBy, and_assoc] using hm
      rw [if_neg hcond, if_neg hm]

end

theorem reqOf_asks (s : State) (who : Requester) (c tier node addr va : Nat) (kind : ReqKind) (p : Purpose) :
    let q := s.reqOf who c tier node addr va kind p
    q.tier = tier ∧ q.node = node ∧ q.kind = kind ∧ q.issued = false := by
  intro q
  simp only [q, State.reqOf]
  split <;> exact ⟨rfl, rfl, rfl, rfl⟩

/-- Settles O27 (R98, R142 to R144). -/
theorem waitAndSignalRecords : Obligations.WaitAndSignalRecords := by
  intro s c x m r h i v
  obtain ⟨hw, hctx⟩ := begun_of_faces h
  have htl (j : Nat) : (s.beginRecord x m).timeline j = s.timeline j := rd_beginRecord s x m j (by decide) (by decide)
  have hglobal : (s.beginRecord x m).globalTl x (x.op r 0 16) = i := by
    rw [State.globalTl, rd_beginRecord s x m _ (by decide) (by decide)]
    rfl
  refine ⟨fun hop => ?_, fun k sig hsig hop hk => ?_⟩
  · have hexec : exec (.recWait c) s = s.after _ := congrArg s.after (record_of_faces h hop rfl _)
    dsimp only at hexec
    rw [hglobal, htl] at hexec
    refine ⟨fun hmet => ?_, fun hlt => ?_⟩
    · rw [if_pos hmet] at hexec
      obtain ⟨hwalk, hgoes, -⟩ := goes_of_goTo (P := fun _ => True) hw hctx (x.pc + 1) trivial
      exact ⟨_, hexec, hwalk, hgoes⟩
    · rw [if_neg (by omega)] at hexec
      let parked (y : Ctx) : Ctx := { y with st := .waitTl, timeline := i, value := v, begun := false }
      have hy : ((s.beginRecord x m).modCtx c parked).ctx? c = some (parked (issued x)) := by
        rw [ctx_modCtx_same (f := parked) _ fun _ => rfl, hctx]
        rfl
      exact ⟨_, hexec, walked_trans hw (walked_modCtx _ c fun _ => rfl), ⟨_, hy, issued_pc x, rfl⟩, _, hy, rfl, rfl⟩
  · have hexec : exec sig s = s.after (s.recSignal c k) := by
      simp only [List.mem_cons, Prod.mk.injEq, List.not_mem_nil, or_false] at hsig
      rcases hsig with ⟨rfl, rfl⟩ | ⟨rfl, rfl⟩ | ⟨rfl, rfl⟩ <;> rfl
    have hexec := hexec.trans (congrArg s.after (record_of_faces h hop (p := fun r => fld r 0 8 3 == k) (by simp [hk]) _))
    dsimp only at hexec
    refine ⟨fun hstamp => ?_, fun hstamp => ⟨fun hhere => ?_, fun haway hfirst => ?_⟩⟩
    · rw [if_pos hstamp] at hexec
      exact ⟨_, hexec, walked_trans hw (walked_park _ c _), issued_pc x ▸ waitsAt_park hctx .run⟩
    · rw [if_neg (by simp [hstamp]), if_pos hhere, hglobal] at hexec
      exact ⟨_, hexec, signal_local h i k v⟩
    · rw [if_neg (by simp [hstamp]), if_neg (by omega), if_neg (by simp [hfirst])] at hexec
      let b := s.beginRecord x m
      let q : Req := { State.reqOf { b with nextId := b.nextId + 1 } x.seqr c 2 (x.op r 0 48) 0 0 (.sig k x.flask (x.op r 0 16) v) .signal with id := b.nextId }
      let t : State := { b with nextId := b.nextId + 1, reqs := b.reqs ++ [q] }
      let asked (y : Ctx) : Ctx := { y with st := .run, asked := true, signals := y.signals + 1 }
      have hexec : exec sig s = s.after (t.modCtx c asked) := hexec
      obtain ⟨htier, hnode, hkind, hissued⟩ :=
        reqOf_asks { b with nextId := b.nextId + 1 } x.seqr c 2 (x.op r 0 48) 0 0 (.sig k x.flask (x.op r 0 16) v) .signal
      have hy : (t.modCtx c asked).ctx? c = some (asked (issued x)) := by
        rw [ctx_modCtx_same (f := asked) _ fun _ => rfl]
        exact congrArg (Option.map asked) hctx
      refine ⟨_, hexec, walked_trans (walked_trans hw (walked_of_still (t := t) ⟨rfl, rfl, rfl⟩ fun _ _ => rfl)) (walked_modCtx t c fun _ => rfl),
        ⟨_, hy, issued_pc x, rfl⟩, q, List.mem_append_right _ (List.mem_singleton_self _), htier, hnode, hkind, hissued⟩

/-! ## STAMP (R18, R47, R56, R103, R105) -/

/-- A view that no write of a ring's index moves hears nothing of what a store brings about. -/
theorem landed_ownWrite (s : State) (a : Nat) (bs : List Byte) (id : Nat) {p : Purpose} (hp : p = .log ∨ p = .hold) :
    s.landed (s.ownWrite a bs id p) a bs := by
  have hfire (t : State) : (t.fire p).hbm = t.hbm := by rcases hp with rfl | rfl <;> rfl
  refine ⟨fun hfree ha => ?_, fun hblocked => ?_⟩
  · have hput : s.ownWrite a bs id p = (s.overPut (cellsAt a bs)).fire p := by
      simp only [State.ownWrite, State.homeStore, hfree]
    have hbyte (b : Nat) : (s.ownWrite a bs id p).sysByte b = (s.overPut (cellsAt a bs)).sysByte b := by
      rw [hput, State.sysByte, hfire, State.sysByte]
    refine List.ext_getElem (by simp [State.sysRead]) fun i h₁ h₂ => ?_
    simp only [State.sysRead, List.getElem_map, List.getElem_range, hbyte]
    exact sysByte_overPut_cellsAt s h₂ (by omega)
  · obtain ⟨l, hl⟩ := Option.ne_none_iff_exists'.1 hblocked
    have hwait : s.ownWrite a bs id p = s.waitLine l (.store { id := id, ctl := 0, cells := cellsAt a bs, ctx := 512, root := none, purpose := p }) := by
      simp only [State.ownWrite, State.homeStore, hl]
    rw [hwait]
    exact ⟨_, List.mem_append_right _ (List.mem_singleton_self _), _, rfl, rfl⟩

/-- Where a store lands is decided by memory and the host link alone. -/
theorem landed_congr {s t u v : State} {a : Nat} {bs : List Byte} (hs : t.hlp = s.hlp) (hu : v.hbm = u.hbm) (hw : v.hlp = u.hlp)
    (h : t.landed u a bs) : s.landed v a bs := by
  have hblock : t.storeBlock (linesOf (cellsAt a bs)) = s.storeBlock (linesOf (cellsAt a bs)) := by
    simp only [State.storeBlock, State.hostHeld, hs]
  rw [State.landed, hblock] at h
  simpa only [State.landed, State.sysRead, State.sysByte, hu, hw] using h

/-- What the block writes on its own behalf keeps a view in which stores do not show, and that its purpose does not move. -/
theorem ownWrite_keeps {β : Type} {p : State → β} (hblind : blindToStores p) {q : Purpose} (hfire : ∀ t : State, p (t.fire q) = p t) (s : State)
    (a : Nat) (bs : List Byte) (id c : Nat) (root : Option PourId) : p (s.ownWrite a bs id q c root) = p s := by
  simp only [State.ownWrite, State.homeStore]
  split
  · exact blind_waitLine hblind s _ _
  · exact (hfire _).trans (blind_overPut hblind s _)

theorem countPour_eq (s : State) (p : PourId) (cls n : Nat) : ∃ mt, s.countPour p cls n = { s with meter := mt } := by
  unfold State.countPour
  split
  · exact countFor_eq s _ cls n
  · split
    · exact countFor_eq s _ cls n
    · exact ⟨s.meter, rfl⟩

/-- The state in which a completion record has its identifier and is counted. -/
def recordNoted (s : State) (p : PourId) (raise : Bool) (mt : Meter) : State :=
  { s with nextId := s.nextId + 1, meter := mt,
           qm := { s.qm with records := s.qm.records ++ [{ id := s.nextId, queue := p.queue, seq := p.seq, raise := raise }] } }

/-- A completion record is placed: in its ring in HBM, in the holding ring, or on its way to host memory. -/
def recordPlaced (u : State) (who : Requester) (p : PourId) (a : Nat) (bs : List Byte) (id ticket : Nat) : State :=
  if u.rd .QCTX_CLOC p.queue = 0 then u.ownWrite a bs id
  else if u.headless then u.holdRecord id bs
  else { u with reqs := u.reqs ++ [{
    id := id, who := who, ctx := 512, root := some p, flask := u.rd .QCTX_FLASK p.queue, fgen := u.rd .QCTX_FLASK_GEN p.queue, tier := 1,
    addr := a, kind := .write (cellsAt a bs), purpose := .record p.queue p.seq, ticket := ticket, entry := id, ord := id }] }

/-- A completion record gets its identifier, is counted, and is placed. -/
theorem writeRecord_eq (s : State) (who : Requester) (p : PourId) (slot ticket status detail : Nat) (raise : Bool) :
    ∃ mt, s.writeRecord who p slot ticket status detail raise = (s.nextId,
      recordPlaced (recordNoted s p raise mt) who p (s.rd .QCTX_CBASE p.queue * 4096 + slot * 32)
        (recordBytes p ticket status detail (s.clock .core)) s.nextId ticket) := by
  let bs := recordBytes p ticket status detail (s.clock .core)
  let n (t : State) : State := t.countPour p (if t.rd .QCTX_CLOC p.queue = 0 ∨ t.headless then 9 else 8) bs.length
  obtain ⟨mt, hmt⟩ := countPour_eq (recordNoted s p raise s.meter) p (if s.rd .QCTX_CLOC p.queue = 0 ∨ s.headless then 9 else 8) bs.length
  refine ⟨mt, ?_⟩
  have hcount : n (recordNoted s p raise s.meter) = recordNoted s p raise mt := hmt
  rw [← hcount]
  rfl

/-- A view in which neither stores nor the record's own bookkeeping show is kept by the record. -/
theorem writeRecord_keeps {β : Type} {p : State → β} (hblind : blindToStores p)
    (hnote : ∀ (t : State) n mt recs rs, p { t with nextId := n, meter := mt, qm := { t.qm with records := recs }, reqs := rs } = p t)
    (hfull : ∀ t, p (State.wr t .HLP_ERR_HOLD_FULL 1) = p t) (hidx : ∀ t v, p (State.wr t .HLP_HOLD_PTRS_WR_IDX v) = p t)
    (s : State) (who : Requester) (q : PourId) (slot ticket status detail : Nat) (raise : Bool) :
    p (s.writeRecord who q slot ticket status detail raise).2 = p s := by
  obtain ⟨mt, h⟩ := writeRecord_eq s who q slot ticket status detail raise
  have hnoted : p (recordNoted s q raise mt) = p s := hnote s _ mt _ s.reqs
  rw [h]
  dsimp only [recordPlaced]
  split
  · exact (ownWrite_keeps hblind (q := .log) (fun _ => rfl) _ _ _ _ _ _).trans hnoted
  · split
    · refine Eq.trans ?_ hnoted
      unfold State.holdRecord
      split
      · refine (blind_hlp hblind _ _).trans ?_
        split
        · exact hfull _
        · rfl
      · exact ownWrite_keeps hblind (q := .hold) (fun t => hidx t _) _ _ _ _ _ _
    · exact hnote s _ mt _ _

/-- The record of a pour is issued as R18 and R47 say. -/
theorem recorded_writeRecord (s : State) (who : Requester) (p : PourId) (slot ticket status detail : Nat) (raise : Bool) :
    s.recorded (s.writeRecord who p slot ticket status detail raise).2 p slot ticket status detail raise := by
  obtain ⟨mt, h⟩ := writeRecord_eq s who p slot ticket status detail raise
  let n := recordNoted s p raise mt
  let a := s.rd .QCTX_CBASE p.queue * 4096 + slot * 32
  let bs := recordBytes p ticket status detail (s.clock .core)
  have hrec : ∀ t : State, t.qm.records = n.qm.records →
      ∃ r ∈ t.qm.records, r.id = s.nextId ∧ r.queue = p.queue ∧ r.seq = p.seq ∧ r.raise = raise := fun t ht =>
    ⟨{ id := s.nextId, queue := p.queue, seq := p.seq, raise := raise }, ht ▸ List.mem_append_right _ (List.mem_singleton_self _), rfl, rfl, rfl, rfl⟩
  have hqm : blindToStores (fun t : State => t.qm.records) := fun _ _ _ _ _ _ => rfl
  rw [h]
  dsimp only [recordPlaced]
  change State.recorded s (if s.rd .QCTX_CLOC p.queue = 0 then n.ownWrite a bs s.nextId
    else if s.headless = true then n.holdRecord s.nextId bs else _) p slot ticket status detail raise
  by_cases hloc : s.rd .QCTX_CLOC p.queue = 0
  · rw [if_pos hloc]
    exact ⟨hrec _ (ownWrite_keeps hqm (fun _ => rfl) n _ _ _ _ _), fun _ => landed_congr (t := n) rfl rfl rfl (landed_ownWrite n a bs s.nextId (.inl rfl)),
      fun hc => absurd hloc hc, fun hc => absurd hloc hc⟩
  · rw [if_neg hloc]
    by_cases hlost : s.headless = true
    · rw [if_pos hlost]
      have hcond : (n.holdFull || n.parkedFor .hold || !n.hlp.holdWait.isEmpty) = (s.holdFull || s.parkedFor .hold || !s.hlp.holdWait.isEmpty) := rfl
      have hhold : n.holdRecord s.nextId bs = if (s.holdFull || s.parkedFor .hold || !s.hlp.holdWait.isEmpty) = true then
          (let t := if s.holdFull then n.wr .HLP_ERR_HOLD_FULL 1 else n
           { t with hlp := { t.hlp with holdWait := t.hlp.holdWait ++ [(s.nextId, bs)] } })
          else n.ownWrite (s.rd .HLP_HOLD_BASE_BASE * 4096 + s.rd .HLP_HOLD_PTRS_WR_IDX * 32) bs s.nextId .hold := rfl
      refine ⟨?_, fun hc => absurd hc hloc, fun _ hc => absurd (hlost.symm.trans hc) (by decide), fun _ _ => ?_⟩
      · refine hrec _ ?_
        rw [hhold]
        split
        · dsimp only
          split <;> rfl
        · exact ownWrite_keeps hqm (fun _ => rfl) n _ _ _ _ _
      · rw [hhold]
        split
        · refine ⟨?_, fun hf => ?_⟩
          · dsimp only
            split <;> exact List.mem_append_right _ (List.mem_singleton_self _)
          · rw [if_pos hf]
            exact rd_wr_one n .HLP_ERR_HOLD_FULL 0
        · exact landed_congr (t := n) rfl rfl rfl (landed_ownWrite n _ bs s.nextId (.inr rfl))
    · rw [if_neg hlost]
      exact ⟨hrec _ rfl, fun hc => absurd hc hloc, fun _ _ => ⟨_, List.mem_append_right _ (List.mem_singleton_self _), rfl, rfl, rfl, rfl⟩,
        fun _ hc => absurd hc hlost⟩

/-- The registers that decide where a completion record goes. -/
def recordReads : List Field := [.QCTX_CBASE, .QCTX_CLOC, .HLP_STATUS_HEADLESS, .HLP_HOLD_PTRS_WR_IDX, .HLP_HOLD_PTRS_RD_IDX,
  .HLP_HOLD_BASE_SIZE, .HLP_HOLD_BASE_BASE]

/-- Where a completion record goes is decided by a few registers, the host link, the next identifier and the time. -/
theorem recorded_congr {s b t u : State} (hrd : ∀ f ∈ recordReads, ∀ i, b.rd f i = s.rd f i) (hhlp : b.hlp = s.hlp)
    (hid : b.nextId = s.nextId) (htime : b.time = s.time) {p : PourId} {slot ticket status detail : Nat} {raise : Bool}
    (h : b.recorded t p slot ticket status detail raise)
    (uqm : u.qm = t.qm) (ureqs : u.reqs = t.reqs) (uhlp : u.hlp = t.hlp) (hstill : still t u) :
    s.recorded u p slot ticket status detail raise := by
  have hclock : b.clock .core = s.clock .core := by simp only [State.clock, htime]
  have hlost : b.headless = s.headless := by simp only [State.headless, State.on, hrd .HLP_STATUS_HEADLESS (by decide)]
  have hfull : b.holdFull = s.holdFull := by
    simp only [State.holdFull, State.holdCap, hrd .HLP_HOLD_PTRS_WR_IDX (by decide), hrd .HLP_HOLD_PTRS_RD_IDX (by decide),
      hrd .HLP_HOLD_BASE_SIZE (by decide)]
  have hparked : b.parkedFor .hold = s.parkedFor .hold := by simp only [State.parkedFor, hhlp]
  obtain ⟨hnote, hhere, haway, hheld⟩ := h
  simp only [hclock, hlost, hfull, hparked, hhlp, hid, hrd .QCTX_CBASE (by decide), hrd .QCTX_CLOC (by decide),
    hrd .HLP_HOLD_PTRS_WR_IDX (by decide), hrd .HLP_HOLD_BASE_BASE (by decide)] at hnote hhere haway hheld
  have hland {a : Nat} {bs : List Byte} (h : b.landed t a bs) : s.landed u a bs := landed_congr hhlp hstill.2.1 uhlp h
  refine ⟨uqm ▸ hnote, fun hc => hland (hhere hc), ureqs ▸ haway, fun hc hl => ?_⟩
  have hh := hheld hc hl
  split at hh
  next hwait =>
    rw [if_pos hwait, uhlp, hstill.rd]
    exact hh
  next hgo =>
    rw [if_neg hgo]
    exact hland hh

/-- Settles O30 (R18, R47, R56, R103, R105). -/
theorem stampWritesTheRecord : Obligations.StampWritesTheRecord := by
  intro s c x m r h hop
  obtain ⟨hw, hctx⟩ := begun_of_faces h
  have hexec : exec (.recStamp c) s = s.after _ := congrArg s.after (record_of_faces h hop rfl _)
  refine ⟨fun hdepth hmgmt => ?_, fun hsilent => ?_⟩
  · let w := (s.beginRecord x m).writeRecord x.seqr x.pour x.slot x.ticket 0 0 false
    have hrec : (s.beginRecord x m).recorded w.2 x.pour x.slot x.ticket 0 0 false := recorded_writeRecord ..
    let t := w.2.modCtx c (fun y => { y with stamp := .written w.1 })
    rw [if_neg (by simp [hdepth, hmgmt])] at hexec
    have hexec : exec (.recStamp c) s = s.after (t.goTo c (x.pc + 1)) := hexec
    have hctxs : w.2.ctxs = (s.beginRecord x m).ctxs :=
      writeRecord_keeps (p := State.ctxs) (fun _ _ _ _ _ _ => rfl) (fun _ _ _ _ _ => rfl) (fun _ => rfl) (fun _ _ => rfl) ..
    have hy : t.ctx? c = some { issued x with stamp := .written s.nextId } := by
      obtain ⟨mt, hid⟩ := writeRecord_eq (s.beginRecord x m) x.seqr x.pour x.slot x.ticket 0 0 false
      have hwid : w.1 = s.nextId := (congrArg Prod.fst hid).trans (nextId_begun s x m)
      have hwc : w.2.ctx? c = some (issued x) := by rw [State.ctx?, hctxs]; exact hctx
      rw [← hwid, ctx_modCtx_same (f := fun y => { y with stamp := .written w.1 }) _ fun _ => rfl, hwc]
      rfl
    have hkeep {β : Type} (p : State → β) (hp : ∀ (t : State) mt cs xl, p { t with meter := mt, ctxs := cs, xl := xl } = p t) :
        p (t.goTo c (x.pc + 1)) = p w.2 := (goTo_keeps t c _ p hp).trans (hp w.2 w.2.meter _ w.2.xl)
    refine ⟨_, hexec, goesTo_goTo hy _, recorded_congr (fun f hf i => rd_beginRecord s x m i (ne_of_mem_of_not_mem hf (by decide)) (ne_of_mem_of_not_mem hf (by decide)))
      (hlp_begun s x m) (nextId_begun s x m) (time_begun s x m) hrec (hkeep State.qm fun _ _ _ _ => rfl) (hkeep State.reqs fun _ _ _ _ => rfl)
      (hkeep State.hlp fun _ _ _ _ => rfl) ?_, _, by rw [ctx_goTo_same, hy]; rfl, rfl⟩
    exact ⟨hkeep State.regs fun _ _ _ _ => rfl, hkeep State.hbm fun _ _ _ _ => rfl, hkeep State.wbuf fun _ _ _ _ => rfl⟩
  · rw [if_pos hsilent] at hexec
    obtain ⟨hwalk, hgoes, y, hy, hstamp⟩ := goes_of_goTo (P := fun y => y.stamp = x.stamp) hw hctx (x.pc + 1) (issued_stamp x)
    refine ⟨_, hexec, hwalk, hgoes, ?_, ?_, ?_, y, hy, hstamp⟩
    · exact (goTo_keeps _ c _ (fun t => t.qm.records) fun _ _ _ _ => rfl).trans (congrArg Qm.records (qm_begun s x m))
    · exact (goTo_keeps _ c _ State.reqs fun _ _ _ _ => rfl).trans (reqs_begun s x m)
    · exact (goTo_keeps _ c _ State.hlp fun _ _ _ _ => rfl).trans (hlp_begun s x m)

end Sys2Proof.Laws

/-! # The queue manager

Fetches, returned entries, admission and the queue commands (R55, R60 to R77). -/
namespace Sys2Proof.Laws

open Sys2Proof.Machine

/-! ## Fetching (R60, R61) -/

/-- A read of a slot is sent and entered, against a credit of the host link where the ring lies there. -/
theorem issueFetch_eq (s : State) (q i seq : Nat) (reread : Bool) :
    ∃ hlp, s.issueFetch q i seq reread = { s with
      nextId := s.nextId + 1, hlp := hlp, sent := .entryRead s.nextId (s.rd .QCTX_LOC q) (s.rd .QCTX_BASE q * 4096 + i * 64) :: s.sent,
      qm := { s.qm with fetches := s.qm.fetches ++ [{ id := s.nextId, queue := q, slot := i, seq := seq, reread := reread }] } } := by
  let t : State := { s with
    nextId := s.nextId + 1, sent := .entryRead s.nextId (s.rd .QCTX_LOC q) (s.rd .QCTX_BASE q * 4096 + i * 64) :: s.sent }
  have h : s.issueFetch q i seq reread = (fun u : State => { u with qm := { u.qm with fetches := u.qm.fetches ++
      [{ id := s.nextId, queue := q, slot := i, seq := seq, reread := reread }] } }) (if t.rd .QCTX_LOC q = 1 then t.useCredit false else t) := rfl
  by_cases hloc : t.rd .QCTX_LOC q = 1
  · rw [h, if_pos hloc]
    exact ⟨_, rfl⟩
  · rw [h, if_neg hloc]
    exact ⟨_, rfl⟩

/-- The first element that meets a predicate, once every such element has been replaced by one that meets it too. -/
theorem find_updAll {α : Type} {l : List α} {p : α → Bool} {f : α → α} {a : α} (ha : l.find? p = some a) (hf : ∀ x, p (f x) = p x) :
    (updAll l p f).find? p = some (f a) := by
  have hp : p ∘ (fun x => if p x then f x else x) = p := by
    funext x
    rw [Function.comp_apply]
    split <;> simp [hf]
  rw [updAll, List.find?_map, hp, ha]
  simp [List.find?_some ha]

/-- Settles O18 (R60, R61). -/
theorem entriesAreFetched : Obligations.EntriesAreFetched := by
  refine ⟨fun s q => ?_, fun s q g hg hmay hnone hcount => ?_⟩
  · intro k i may
    have hcond : (s.mayFetch q && (s.guardOf q).isNone && s.rd .QCTX_TAIL q != i && decide (k + (s.entriesOf q).length < 2)) = true ↔ may := by
      simp [may, and_assoc]
    have hfetch : s.entryFetch q = if (s.mayFetch q && (s.guardOf q).isNone && s.rd .QCTX_TAIL q != i && decide (k + (s.entriesOf q).length < 2)) = true
        then s.issueFetch q i ((s.rd .QCTX_NEXT q + k) % 2 ^ 44) false else s := rfl
    refine ⟨fun hm => ?_, fun hm => ?_⟩
    · obtain ⟨hlp, hissue⟩ := issueFetch_eq s q i ((s.rd .QCTX_NEXT q + k) % 2 ^ 44) false
      rw [if_pos (hcond.2 hm), hissue] at hfetch
      refine ⟨_, congrArg s.done hfetch, ?_, ?_, rfl, List.mem_cons_self⟩
      · rw [sameMem_close_iff]
        exact sameMem_of_eq rfl rfl
      · rw [onlyRegs_close_iff]
        exact fun _ _ _ => rfl
    · rw [if_neg (mt hcond.1 hm)] at hfetch
      exact congrArg s.done hfetch
  · let t₁ := ((s.elapse (max (g.t0 + (g.count + 1) * 128) g.lastAt)).bump .QCTX_REREADS q).bump .QM_RACE_REREADS
    let gs := updAll s.qm.guards (fun x => x.queue == q) (fun x => { x with count := x.count + 1 })
    let t₂ : State := { t₁ with qm := { s.qm with guards := gs } }
    have hrd {f : Field} (hc : f ≠ .QCTX_REREADS) (hr : f ≠ .QM_RACE_REREADS) (j : Nat) : t₁.rd f j = s.rd f j :=
      (rd_bump_ne _ _ (.inl hr.symm)).trans (rd_bump_ne _ _ (.inl hc.symm))
    have hhead : t₂.rd .QCTX_HEAD q = s.rd .QCTX_HEAD q := hrd (by decide) (by decide) q
    have hnext : t₂.rd .QCTX_NEXT q = s.rd .QCTX_NEXT q := hrd (by decide) (by decide) q
    obtain ⟨hlp, hissue⟩ := issueFetch_eq t₂ q (t₂.rd .QCTX_HEAD q) (t₂.rd .QCTX_NEXT q) true
    have hreread : s.reread q = t₂.issueFetch q (t₂.rd .QCTX_HEAD q) (t₂.rd .QCTX_NEXT q) true := by
      simp only [State.reread, hg]
      exact if_neg (by simp [hmay, hnone, hcount])
    rw [hissue, hhead, hnext] at hreread
    have hbump : onlyRegs s t₁ [(.QM_RACE_REREADS, 0), (.QCTX_REREADS, q)] :=
      onlyRegs_bump (f := .QM_RACE_REREADS) (i := 0) (onlyRegs_bump (f := .QCTX_REREADS) (i := q) (onlyRegs_refl s _) (by simp) 1) (by simp) 1
    refine ⟨_, congrArg s.done hreread, ?_, ?_, ?_, ?_, ?_, rfl, ?_⟩
    · rw [sameMem_close_iff]
      exact sameMem_of_eq rfl rfl
    · rw [time_close]
      exact (Nat.max_assoc _ _ _).symm.trans (congrArg (max · _) (Nat.max_self _))
    · rw [State.counts, rd_close]
      exact (rd_bump_same _ _ _ _).trans (by rw [rd_bump_ne _ _ (.inl (by decide))]; rfl)
    · rw [State.counts, rd_close]
      exact (rd_bump_ne _ _ (.inl (by decide))).trans (rd_bump_same _ _ _ _)
    · rw [onlyRegs_close_iff]
      exact hbump
    · exact find_updAll (f := fun x : Guard => { x with count := x.count + 1 }) hg fun _ => rfl

/-! ## The checks on a fetched entry (R55, R61 to R63) -/

/-- Two reads of one identifier are under way, of slots 1 and 0 of queue 0, whose HEAD is 0. -/
def twinReads : State :=
  { qm := { fetches := [{ id := 0, queue := 0, slot := 1, seq := 0, reread := false }, { id := 0, queue := 0, slot := 0, seq := 0, reread := false }] } }

/-- Refutes O19 (R55, R60): a return is entered at every read of its identifier. Where the read of slot HEAD shares the identifier of
a later slot's read, both come back and are taken, and the later one is not kept for its turn. -/
theorem not_fetchedEntryIsChecked : ¬ Obligations.FetchedEntryIsChecked := by
  intro h
  obtain ⟨t, ht, -, -, -, -, hfetches⟩ :=
    (h twinReads 0 { id := 0, queue := 0, slot := 1, seq := 0, reread := false } [] rfl rfl).1 (by decide +kernel) (by decide +kernel)
  obtain rfl : twinReads.close (twinReads.entryReturn 0 (.ok [])) = t := Host.Outcome.next.inj ht
  have hlen := congrArg List.length hfetches
  rw [close_qm] at hlen
  exact absurd hlen (by decide +kernel)

/-! ## Admission (R55, R65 to R68) -/

/-- State v differs from s in the queue manager's choices alone: its records and its checked entries are as they were. -/
def onlyChoices (s v : State) : Prop := ∃ qm, v = { s with qm := qm } ∧ qm.entries = s.qm.entries ∧ qm.records = s.qm.records

/-- The procedure of R67 moves nothing but its own credits and last grants. -/
theorem onlyChoices_of_select {s v : State} {q : Nat} (h : s.select = some (q, v)) : onlyChoices s v := by
  have hwith (t : State) (ht : onlyChoices s t) (m : Qm) (he : m.entries = t.qm.entries) (hr : m.records = t.qm.records) :
      onlyChoices s { t with qm := m } := by
    obtain ⟨qm, rfl, hentries, hrecords⟩ := ht
    exact ⟨m, rfl, he.trans hentries, hr.trans hrecords⟩
  have hself : onlyChoices s s := ⟨s.qm, rfl, rfl, rfl⟩
  simp only [State.select] at h
  split at h
  · cases h
    exact hwith s hself _ rfl rfl
  · split at h
    · cases h
    · split at h
      · cases h
      · cases h
        refine hwith _ ?_ _ rfl rfl
        clear * - hwith hself
        split
        · split
          · exact hself
          · exact hwith s hself _ rfl rfl
        · refine hwith _ ?_ _ rfl rfl
          split
          · exact hself
          · exact hwith s hself _ rfl rfl

/-- The state of a grant once the token and the entry are taken. -/
def granted (v : State) (q : Nat) (e : Entry) : State :=
  let t := v.wr .QM_STATUS_TOKENS (v.rd .QM_STATUS_TOKENS - 1)
  { t with qm := { t.qm with entries := t.qm.entries.filter (fun x => x != e), grantAt := aset t.qm.grantAt q t.time } }

section
variable {s v : State} (h : onlyChoices s v) (q : Nat) (e : Entry)
include h

theorem granted_keeps {β : Type} {p : State → β} (hp : ∀ (t : State) regs qm, p { t with regs := regs, qm := qm } = p t) :
    p (granted v q e) = p s := by
  obtain ⟨qm, rfl, -, -⟩ := h
  exact hp s _ _

theorem rd_granted {f : Field} (hf : f ≠ .QM_STATUS_TOKENS) (i : Nat) : (granted v q e).rd f i = s.rd f i := by
  obtain ⟨qm, rfl, -, -⟩ := h
  exact rd_wr_ne _ _ (.inl hf.symm)

theorem tokens_granted :
    (granted v q e).rd .QM_STATUS_TOKENS = (s.rd .QM_STATUS_TOKENS - 1) % 2 ^ Field.QM_STATUS_TOKENS.row.width := by
  obtain ⟨qm, rfl, -, -⟩ := h
  exact rd_wr_same _ .QM_STATUS_TOKENS _ 0

theorem badMould_granted : (granted v q e).badMould e ((granted v q e).rd .QCTX_FLASK q) = s.badMould e (s.rd .QCTX_FLASK q) := by
  rw [rd_granted h q e (by decide)]
  exact granted_keeps (p := fun t => t.badMould e (s.rd .QCTX_FLASK q)) h q e fun _ _ _ => rfl

theorem sameMem_granted : sameMem s (granted v q e) := by
  obtain ⟨qm, rfl, -, -⟩ := h
  exact sameMem_of_eq rfl rfl

theorem onlyRegs_granted : onlyRegs s (granted v q e) [(.QM_STATUS_TOKENS, 0)] := by
  obtain ⟨qm, rfl, -, -⟩ := h
  exact onlyRegs_wr (f := .QM_STATUS_TOKENS) (i := 0) (t := { s with qm := qm }) (fun _ _ _ => rfl) (by simp) _

theorem mould_granted : (granted v q e).mould? e.mould e.mgen = s.mould? e.mould e.mgen :=
  granted_keeps (p := fun t => t.mould? e.mould e.mgen) h q e fun _ _ _ => rfl

end

theorem not_mem_granted (v : State) (q : Nat) (e : Entry) : e ∉ (granted v q e).qm.entries := fun h => by
  simpa using (List.mem_filter.1 h).2

section
variable {s v : State} {c q : Nat} {e : Entry} (hgo : (s.ready && !s.drowse && s.power.isNone && !s.loading && s.on .QM_CTL_ADMIT_EN &&
  decide (0 < s.rd .QM_STATUS_TOKENS)) = true) (hsel : s.select = some (q, v)) (hold : s.oldest q = some e) (hfor : s.ctxFor c q = true)
include hgo hsel hold hfor

theorem grant_of_good {m : Mould} (hgood : (granted v q e).badMould e ((granted v q e).rd .QCTX_FLASK q) = none)
    (hm : (granted v q e).mould? e.mould e.mgen = some m) : s.grant c = (granted v q e).admitEntry c e m := by
  dsimp only [granted] at hgood hm
  simp only [State.grant, hsel, hold, hfor]
  rw [if_neg (by simp [hgo]), if_neg (by decide), hgood]
  dsimp only
  rw [hm]
  rfl

theorem grant_of_bad {d : Nat} (hbad : (granted v q e).badMould e ((granted v q e).rd .QCTX_FLASK q) = some d) :
    s.grant c = ((if d = 1 then (granted v q e).stale .mould e.mould e.mgen (aget v.moulds.gens e.mould 0) else granted v q e).writeRecord
      (.seqr (c / 16)) { queue := q, qgen := (if d = 1 then (granted v q e).stale .mould e.mould e.mgen (aget v.moulds.gens e.mould 0)
        else granted v q e).rd .QCTX_GEN q, seq := e.seq } e.slot e.ticket 8 d true).2 := by
  dsimp only [granted] at hbad
  simp only [State.grant, hsel, hold, hfor]
  rw [if_neg (by simp [hgo]), if_neg (by decide), hbad]
  rfl

end

/-- The pour of entry e as it takes context c. -/
def admittedCtx (t : State) (c : Nat) (e : Entry) : Ctx :=
  { num := c, st := .gates, pour := { queue := e.queue, qgen := t.rd .QCTX_GEN e.queue, seq := e.seq }, slot := e.slot, ticket := e.ticket,
    pasid := t.rd .QCTX_PASID e.queue, flask := t.rd .QCTX_FLASK e.queue, fgen := t.rd .QCTX_FLASK_GEN e.queue, root := c,
    rt := t.on .QCTX_RT e.queue, mould := e.mould, mgen := e.mgen, bank := e.bank, admitted := t.time }

/-- An admitted pour holds its free context. -/
theorem admitEntry_leaves {t : State} {c : Nat} {e : Entry} (m : Mould) (hfree : t.ctx? c = none) :
    let u := t.admitEntry c e m
    sameMem t u ∧ u.qm = t.qm ∧ .bankRead c (m.gbase + e.bank * 0x200) ∈ u.sent ∧
      onlyRegs t u [(.QCTX_ADMITTED, e.queue), (.QCTX_POURS, e.queue)] ∧ u.ctx? c = some (admittedCtx t c e) := by
  refine ⟨sameMem_of_eq rfl rfl, rfl, List.mem_cons_self, ?_, ?_⟩
  · exact onlyRegs_wr (f := .QCTX_POURS) (i := e.queue) (onlyRegs_adv (f := .QCTX_ADMITTED) (i := e.queue) (t := t) (onlyRegs_refl t _) (by simp) 1) (by simp) _
  · have hnone : t.ctxs.find? (fun y => y.num == c) = none := hfree
    refine (List.find?_append ..).trans ?_
    rw [hnone]
    simp [admittedCtx]

/-- Settles O20 (R55, R65 to R67, R127). -/
theorem tokensAndGrants : Obligations.TokensAndGrants := by
  refine ⟨fun s hready => ?_, fun s hready => ?_, fun s v c q e hready hawake hpower hload hadmit htokens hsel hold hfor => ?_⟩
  · have hadd : s.addToken = s.wr .QM_STATUS_TOKENS (min (s.rd .QM_STATUS_TOKENS + 1) (max (s.rd .QM_CTL_TOKEN_DEPTH) 1)) := if_pos hready
    refine ⟨_, congrArg s.done hadd, by simp, ?_, ?_⟩
    · rw [onlyRegs_close_iff]
      exact onlyRegs_wr (onlyRegs_refl s _) (by simp) _
    · rw [rd_close, rd_wr_same]
  · exact congrArg s.done (if_neg (by simp [hready]))
  · have hgo : (s.ready && !s.drowse && s.power.isNone && !s.loading && s.on .QM_CTL_ADMIT_EN && decide (0 < s.rd .QM_STATUS_TOKENS)) = true := by
      simp [hready, hawake, hpower, hload, hadmit, htokens]
    have hqueue : e.queue = q := by simpa using List.find?_some hold
    have hv := onlyChoices_of_select hsel
    have hrd {f : Field} (hf : f ≠ .QM_STATUS_TOKENS) (i : Nat) : (granted v q e).rd f i = s.rd f i := rd_granted hv q e hf i
    refine ⟨fun m hgood hm => ?_, fun d hbad _ => ?_⟩
    · have hgrant := grant_of_good hgo hsel hold hfor ((badMould_granted hv q e).trans hgood) ((mould_granted hv q e).trans hm)
      have hfree : (granted v q e).ctx? c = none := by
        simp only [State.ctxFor, Bool.and_eq_true, Option.isNone_iff_eq_none] at hfor
        exact (granted_keeps (p := fun t => t.ctx? c) hv q e fun _ _ _ => rfl).trans hfor.1.1.2
      obtain ⟨hmem, hqm, hsent, hregs, hctx⟩ := admitEntry_leaves m hfree
      rw [hqueue] at hregs
      have hall := onlyRegs_mono (onlyRegs_trans (onlyRegs_granted hv q e) hregs)
        (m := [(.QM_STATUS_TOKENS, 0), (.QCTX_ADMITTED, q), (.QCTX_POURS, q)]) fun p hp => by simp at hp ⊢; tauto
      refine ⟨_, congrArg s.after hgrant, sameMem_trans (sameMem_granted hv q e) hmem, ?_, hqm ▸ not_mem_granted v q e,
        ⟨_, hctx, rfl, ?_, rfl, rfl, rfl, rfl, rfl, rfl, rfl, ?_, ?_, ?_⟩, hsent, hall⟩
      · exact (hregs _ _ (by simp)).trans (tokens_granted hv q e)
      · rw [← hrd (f := .QCTX_GEN) (by decide), ← hqueue]
        rfl
      · exact (hrd (by decide) _).trans (by rw [hqueue])
      · exact (hrd (by decide) _).trans (by rw [hqueue])
      · rw [State.on, ← hrd (f := .QCTX_RT) (by decide), ← hqueue]
        rfl
    · let b := if d = 1 then (granted v q e).stale .mould e.mould e.mgen (aget v.moulds.gens e.mould 0) else granted v q e
      have hgrant : s.grant c = (b.writeRecord (.seqr (c / 16)) { queue := q, qgen := b.rd .QCTX_GEN q, seq := e.seq } e.slot e.ticket 8 d true).2 :=
        grant_of_bad hgo hsel hold hfor ((badMould_granted hv q e).trans hbad)
      have hb {β : Type} (p : State → β) (hp : ∀ (t : State) regs, p { t with regs := regs } = p t) : p b = p (granted v q e) := by
        dsimp only [b]
        split
        · exact (hp _ _).trans ((hp _ _).trans ((hp _ _).trans ((hp _ _).trans (hp _ _))))
        · rfl
      have hbs {β : Type} (p : State → β) (hp : ∀ (t : State) regs qm, p { t with regs := regs, qm := qm } = p t) : p b = p s :=
        (hb p fun t regs => hp t regs t.qm).trans (granted_keeps hv q e hp)
      have hbrd : onlyRegs (granted v q e) b (staleFields .mould) := by
        dsimp only [b]
        split
        · exact onlyRegs_stale _ .mould _ _ _
        · exact onlyRegs_refl _ _
      have hreads (f : Field) (hf : f ∈ recordReads) (i : Nat) : b.rd f i = s.rd f i :=
        (hbrd f i fun h => by simp [staleFields, StaleKind.field] at h; rcases h with ⟨rfl, -⟩ | ⟨rfl, -⟩ | ⟨rfl, -⟩ | ⟨rfl, -⟩ | ⟨rfl, -⟩ <;> exact absurd hf (by decide)).trans
          (hrd (ne_of_mem_of_not_mem hf (by decide)) i)
      have hgen : b.rd .QCTX_GEN q = s.rd .QCTX_GEN q := (hbrd _ _ (by simp [staleFields, StaleKind.field])).trans (hrd (by decide) q)
      rw [hgen] at hgrant
      have hwkeep {β : Type} (p : State → β) (hblind : blindToStores p)
          (hnote : ∀ (t : State) n mt recs rs, p { t with nextId := n, meter := mt, qm := { t.qm with records := recs }, reqs := rs } = p t)
          (hfull : ∀ t, p (State.wr t .HLP_ERR_HOLD_FULL 1) = p t) (hidx : ∀ t v, p (State.wr t .HLP_HOLD_PTRS_WR_IDX v) = p t) :
          p (s.grant c) = p b := by
        rw [hgrant]
        exact writeRecord_keeps hblind hnote hfull hidx ..
      have hwrd {f : Field} (hf : f ≠ .HLP_ERR_HOLD_FULL) (hi : f ≠ .HLP_HOLD_PTRS_WR_IDX) (i : Nat) : (s.grant c).rd f i = b.rd f i :=
        hwkeep (fun t => t.rd f i) (fun _ _ _ _ _ _ => rfl) (fun _ _ _ _ _ => rfl) (fun t => rd_wr_ne t _ (.inl hf.symm)) fun t _ => rd_wr_ne t _ (.inl hi.symm)
      refine ⟨_, rfl, ?_, ?_, ?_, ?_, fun hd => ?_⟩
      · exact (hwkeep State.ctxs (fun _ _ _ _ _ _ => rfl) (fun _ _ _ _ _ => rfl) (fun _ => rfl) fun _ _ => rfl).trans (hbs State.ctxs fun _ _ _ => rfl)
      · rw [hwkeep (fun t => t.qm.entries) (fun _ _ _ _ _ _ => rfl) (fun _ _ _ _ _ => rfl) (fun _ => rfl) fun _ _ => rfl,
          hb (fun t => t.qm.entries) fun _ _ => rfl]
        exact not_mem_granted v q e
      · rw [hwrd (by decide) (by decide), hbrd _ _ (by simp [staleFields, StaleKind.field])]
        exact tokens_granted hv q e
      · rw [hgrant]
        exact recorded_congr hreads (hbs State.hlp fun _ _ _ => rfl) (hbs State.nextId fun _ _ _ => rfl) (hbs State.time fun _ _ _ => rfl)
          (recorded_writeRecord ..) rfl rfl rfl (still_refl _)
      · have hstale : b = (granted v q e).stale .mould e.mould e.mgen (aget v.moulds.gens e.mould 0) := if_pos hd
        have hcount : (granted v q e).counts b .STALE_DROP_MOULD := hstale ▸ counts_stale _ .mould _ _ _
        rw [State.counts] at hcount ⊢
        rw [hwrd (by decide) (by decide), hcount, hrd (by decide)]

end Sys2Proof.Laws

/-! # Gate copies

The bank read that makes a context's gate copy (R84 to R86, R89, R216). -/
namespace Sys2Proof.Laws

open Sys2Proof.Machine

/-- The word that value v enters gate g as, of a pour x of mould m in state s (R85). -/
def gateWord (s : State) (m : Mould) (x : Ctx) (g v : Nat) : Word :=
  BitVec.ofNat 64 (clampGate (s.descAt m g) (s.tlCount x) (v % 2 ^ 64))

/-- State t differs from s, as far as the gates of context c go, in that copy and what a clamp notes. -/
def gatesAre (s : State) (c : Nat) (x : Ctx) (gs : List Word) (t : State) : Prop :=
  sameMem s t ∧ t.moulds = s.moulds ∧ t.rd .FL_TCOUNT_M1 x.flask = s.rd .FL_TCOUNT_M1 x.flask ∧
    ∃ b, t.ctx? c = some { x with gates := gs, clamped := b }

/-- A noted clamp keeps what its registers and its context's mark do not move. -/
theorem noteClamp_keeps {β : Type} (p : State → β) (hp : ∀ (t : State) ctxs, p { t with ctxs := ctxs } = p t)
    (hwr : ∀ (t : State) f v i, f ≠ .FL_TCOUNT_M1 → p (t.wr f v i) = p t) (s : State) (c g : Nat) : p (s.noteClamp c g) = p s := by
  have hraise (t : State) (q : Nat) : p (t.raiseQueueErr q) = p t := by
    simp only [State.raiseQueueErr, State.raise]
    split
    · exact hwr t _ _ _ (by decide)
    · exact hwr t _ _ _ (by decide)
  have hbump (t : State) : p (t.bump .MC_GATE_CLAMP_COUNT) = p t := hwr t _ _ _ (by decide)
  cases hx : s.ctx? c with
  | none => simp only [State.noteClamp, hx]
  | some x =>
    simp only [State.noteClamp, hx]
    split
    · exact (hwr _ _ _ _ (by decide)).trans (hbump s)
    · split
      · exact (hwr _ _ _ _ (by decide)).trans ((hwr _ _ _ _ (by decide)).trans (hbump s))
      · exact (hp _ _).trans ((hraise _ _).trans ((hwr _ _ _ _ (by decide)).trans ((hwr _ _ _ _ (by decide)).trans (hbump s))))

theorem ctx_noteClamp {s : State} {c : Nat} {x : Ctx} (hx : s.ctx? c = some x) (g : Nat) :
    ∃ b, (s.noteClamp c g).ctx? c = some { x with clamped := b } := by
  have hraise (t : State) (q : Nat) : (t.raiseQueueErr q).ctx? c = t.ctx? c := raise_keeps (fun t => t.ctx? c) (fun _ _ _ _ => rfl) t _
  simp only [State.noteClamp, hx]
  split
  · exact ⟨x.clamped, hx⟩
  · split
    · exact ⟨x.clamped, hx⟩
    · refine ⟨true, ?_⟩
      rw [ctx_modCtx_same (f := fun y => { y with clamped := true }) _ fun _ => rfl, hraise]
      exact congrArg (Option.map _) hx

theorem gatesAre_gateWrite {s t : State} {c : Nat} {x : Ctx} {m : Mould} {gs : List Word} (hm : s.mould? x.mould x.mgen = some m)
    (h : gatesAre s c x gs t) (g v : Nat) : gatesAre s c x (gs.set g (gateWord s m x g v)) (t.gateWrite c g v) := by
  obtain ⟨hmem, hmoulds, hcount, b, hctx⟩ := h
  have hmt : t.mould? x.mould x.mgen = some m := by
    rw [State.mould?, hmoulds]
    exact hm
  let w := clampGate (s.descAt m g) (s.tlCount x) (v % 2 ^ 64)
  let set (y : Ctx) : Ctx := { y with gates := y.gates.set g (BitVec.ofNat 64 w) }
  have hclamp : clampGate (t.descAt m g) (t.tlCount { x with gates := gs, clamped := b }) (v % 2 ^ 64) = w := by
    simp only [State.descAt, State.tlCount, dieRead_congr hmem, hcount, w]
  have hwrite : t.gateWrite c g v = if w = v % 2 ^ 64 then t.modCtx c set else (t.modCtx c set).noteClamp c g := by
    simp only [State.gateWrite, hctx, hmt, hclamp]
    rfl
  have hset : (t.modCtx c set).ctx? c = some { x with gates := gs.set g (gateWord s m x g v), clamped := b } := by
    rw [ctx_modCtx_same (f := set) _ fun _ => rfl, hctx]
    rfl
  rw [hwrite]
  split
  · exact ⟨hmem, hmoulds, hcount, b, hset⟩
  · obtain ⟨b', hb'⟩ := ctx_noteClamp hset g
    refine ⟨sameMem_trans hmem (sameMem_trans (by simp) (noteClamp_leaves (t.modCtx c set) c g).1), ?_, ?_, b', hb'⟩
    · exact (noteClamp_keeps State.moulds (fun _ _ => rfl) (fun _ _ _ _ _ => rfl) _ c g).trans hmoulds
    · exact (noteClamp_keeps (fun u => u.rd .FL_TCOUNT_M1 x.flask) (fun _ _ => rfl) (fun u f v i hf => rd_wr_ne u v (.inl hf)) _ c g).trans hcount

/-- The gate copy gs once the values of a list have entered it in their order. -/
def enter (s : State) (m : Mould) (x : Ctx) (l : List (Nat × Nat)) (gs : List Word) : List Word :=
  l.foldl (fun gs p => gs.set p.1 (gateWord s m x p.1 p.2)) gs

theorem gatesAre_enter {s t : State} {c : Nat} {x : Ctx} {m : Mould} {gs : List Word} (hm : s.mould? x.mould x.mgen = some m)
    (h : gatesAre s c x gs t) (l : List (Nat × Nat)) :
    gatesAre s c x (enter s m x l gs) (l.foldl (fun t p => t.gateWrite c p.1 p.2) t) := by
  induction l generalizing t gs with
  | nil => exact h
  | cons p l ih => exact ih (gatesAre_gateWrite hm h p.1 p.2)

theorem length_enter (s : State) (m : Mould) (x : Ctx) (l : List (Nat × Nat)) (gs : List Word) : (enter s m x l gs).length = gs.length := by
  induction l generalizing gs with
  | nil => rfl
  | cons p l ih => exact (ih _).trans (List.length_set ..)

/-- A gate that no value of the list enters stays. -/
theorem gateAt_enter_of_not_mem {s : State} {m : Mould} {x : Ctx} {l : List (Nat × Nat)} {g : Nat} (hg : ∀ p ∈ l, p.1 ≠ g) (gs : List Word) :
    gateAt (enter s m x l gs) g = gateAt gs g := by
  induction l generalizing gs with
  | nil => rfl
  | cons p l ih =>
    refine (ih (fun q hq => hg q (List.mem_cons_of_mem _ hq)) _).trans ?_
    simp [gateAt, nth, List.getElem?_set_ne (hg p List.mem_cons_self)]

/-- Where a value enters each of the first n gates, gate g of them holds its own. -/
theorem gateAt_enter_range {s : State} {m : Mould} {x : Ctx} {n g : Nat} (f : Nat → Nat) (gs : List Word) (hg : g < n) (hn : n ≤ gs.length) :
    gateAt (enter s m x ((List.range n).map fun i => (i, f i)) gs) g = clampGate (s.descAt m g) (s.tlCount x) (f g % 2 ^ 64) % 2 ^ 64 := by
  induction n with
  | zero => omega
  | succ n ih =>
    have hsplit : enter s m x ((List.range (n + 1)).map fun i => (i, f i)) gs
        = (enter s m x ((List.range n).map fun i => (i, f i)) gs).set n (gateWord s m x n (f n)) := by
      simp [enter, List.range_succ, List.foldl_append]
    have hlen := length_enter s m x ((List.range n).map fun i => (i, f i)) gs
    rw [hsplit]
    rcases Nat.lt_succ_iff_lt_or_eq.1 hg with hlt | rfl
    · rw [← ih hlt (by omega)]
      simp [gateAt, nth, List.getElem?_set_ne hlt.ne']
    · have hset := List.getElem?_set_self (a := gateWord s m x g (f g)) (show g < (enter s m x ((List.range g).map fun i => (i, f i)) gs).length by omega)
      rw [gateAt, nth, List.getD, hset, Option.getD_some, gateWord, BitVec.toNat_ofNat]

/-- The values that a bank of n doublewords has for its gates, and those that a SPAWN has passed. -/
def bankGates (b : List Byte) (n : Nat) (pass : List (Nat × Word)) : List (Nat × Nat) :=
  ((List.range n).map fun g => (g, leAt b (8 * g) 8)) ++ pass.map fun p => (p.1, p.2.toNat)

theorem foldl_bankGates (b : List Byte) (n : Nat) (pass : List (Nat × Word)) (c : Nat) (t : State) :
    (bankGates b n pass).foldl (fun t p => t.gateWrite c p.1 p.2) t = pass.foldl (fun t p => t.gateWrite c p.1 p.2.toNat)
      ((List.range n).foldl (fun t g => t.gateWrite c g (leAt b (8 * g) 8)) t) := by
  simp only [bankGates, List.foldl_append, List.foldl_map]

/-- The gate copy of x from a bank of n doublewords. -/
def gateCopy (s : State) (m : Mould) (x : Ctx) (b : List Byte) (n : Nat) : List Word :=
  enter s m x (bankGates b n x.pass) (List.replicate n 0)

theorem length_gateCopy (s : State) (m : Mould) (x : Ctx) (b : List Byte) (n : Nat) : (gateCopy s m x b n).length = n :=
  (length_enter s m x _ _).trans List.length_replicate

theorem gateAt_gateCopy {s : State} {m : Mould} {x : Ctx} (b : List Byte) {n g : Nat} (hg : g < n) (hpass : ∀ p ∈ x.pass, p.1 ≠ g) :
    gateAt (gateCopy s m x b n) g = clampGate (s.descAt m g) (s.tlCount x) (leAt b (8 * g) 8) % 2 ^ 64 := by
  have hnot : ∀ p ∈ x.pass.map fun p => (p.1, p.2.toNat), p.1 ≠ g := fun p hp => by
    obtain ⟨p', hp', rfl⟩ := List.mem_map.1 hp
    exact hpass p' hp'
  have hsplit : gateCopy s m x b n = enter s m x (x.pass.map fun p => (p.1, p.2.toNat))
      (enter s m x ((List.range n).map fun g => (g, leAt b (8 * g) 8)) (List.replicate n 0)) := List.foldl_append ..
  rw [hsplit, gateAt_enter_of_not_mem hnot, gateAt_enter_range (fun g => leAt b (8 * g) 8) _ hg (by simp),
    Nat.mod_eq_of_lt (leAt_eight_lt b (8 * g))]

/-- The state in which the bank's values have entered the gates of context c. -/
def bankTaken (s : State) (c : Nat) (x : Ctx) (b : List Byte) (n : Nat) : State :=
  ((bankGates b n x.pass).foldl (fun t p => t.gateWrite c p.1 p.2) ((s.count c 9 0x200).modCtx c fun y => { y with gates := List.replicate n 0 })).modCtx c
    fun y => { y with pass := [] }

theorem bankReturn_of_ok {s : State} {c : Nat} {x : Ctx} {m : Mould} (hctx : s.ctx? c = some x) (hst : x.st = .gates) (hempty : x.gates = [])
    (hm : s.mould? x.mould x.mgen = some m) (d : List Byte) :
    let t := bankTaken s c x (s.homeRead (m.gbase + x.bank * 0x200) 0x200 d) 64
    s.bankReturn c (.ok d) = if x.rt then t.askPins c m else t := by
  intro t
  simp only [t, State.bankReturn, hctx, hst, hempty, hm, bankTaken, foldl_bankGates]
  rfl

theorem bankTaken_leaves {s : State} {c : Nat} {x : Ctx} {m : Mould} (hctx : s.ctx? c = some x) (hm : s.mould? x.mould x.mgen = some m)
    (b : List Byte) (n : Nat) : sameMem s (bankTaken s c x b n) ∧
    ∃ cl, (bankTaken s c x b n).ctx? c = some { x with gates := gateCopy s m x b n, clamped := cl, pass := [] } := by
  have hstart : gatesAre s c x (List.replicate n 0) ((s.count c 9 0x200).modCtx c fun y => { y with gates := List.replicate n 0 }) := by
    obtain ⟨mt, h⟩ := count_eq s c 9 0x200
    refine ⟨by rw [h]; exact sameMem_of_eq rfl rfl, by rw [h]; rfl, by rw [h]; rfl, x.clamped, ?_⟩
    rw [ctx_modCtx_same (f := fun y => { y with gates := List.replicate n 0 }) _ fun _ => rfl, count_keeps (fun t => t.ctx? c) (fun _ _ => rfl), hctx]
    rfl
  obtain ⟨hmem, -, -, cl, hy⟩ := gatesAre_enter hm hstart (bankGates b n x.pass)
  refine ⟨sameMem_trans hmem (sameMem_of_eq rfl rfl), cl, ?_⟩
  rw [bankTaken, ctx_modCtx_same (f := fun y => { y with pass := [] }) _ fun _ => rfl, hy]
  rfl

/-- The pinned set that a real-time pour asks for. -/
theorem ctx_askPins {s t : State} {c : Nat} {y : Ctx} (m : Mould) (hmem : sameMem s t) (hy : t.ctx? c = some y) :
    sameMem s (t.askPins c m) ∧ (t.askPins c m).ctx? c = some { y with
      pinAsk := (s.vaArgs m).map (fun g => (false, gateAt y.gates g)) ++ (s.codeList m).map fun r => (true, r * sheet32M) } := by
  have hargs : t.vaArgs m = s.vaArgs m := by simp only [State.vaArgs, State.descsOf, dieRead_congr hmem]
  have hcode : t.codeList m = s.codeList m := by simp only [State.codeList, dieRead_congr hmem]
  refine ⟨sameMem_trans hmem (sameMem_of_eq rfl rfl), ?_⟩
  let ask (y : Ctx) : Ctx := { y with
    pinAsk := (s.vaArgs m).map (fun g => (false, gateAt y.gates g)) ++ (s.codeList m).map fun r => (true, r * sheet32M) }
  have hask : t.askPins c m = t.modCtx c ask := by
    simp only [State.askPins, hargs, hcode]
    rfl
  rw [hask, ctx_modCtx_same (f := ask) _ fun _ => rfl, hy]
  rfl

/-- Settles O21 (R84 to R86, R89, R216, R484). -/
theorem gateCopyIsClamped : Obligations.GateCopyIsClamped := by
  intro s c x m d hctx hst hempty hm a
  refine ⟨?_, fun hmgmt bad hbad => ?_⟩
  · have hreturn := bankReturn_of_ok hctx hst hempty hm d
    obtain ⟨hmem, cl, hy⟩ := bankTaken_leaves hctx hm (s.homeRead a 0x200 d) 64
    have hlen := length_gateCopy s m x (s.homeRead a 0x200 d) 64
    have hvalue : ∀ g, g < 64 → (∀ p ∈ x.pass, p.1 ≠ g) → gateAt (gateCopy s m x (s.homeRead a 0x200 d) 64) g
        = clampGate (s.descAt m g) (s.tlCount x) (leAt (s.homeRead a 0x200 d) (8 * g) 8) % 2 ^ 64 :=
      fun g hg hpass => gateAt_gateCopy (s.homeRead a 0x200 d) hg hpass
    refine ⟨_, congrArg s.after hreturn, ?_⟩
    generalize bankTaken s c x (s.homeRead a 0x200 d) 64 = t at hmem hy
    generalize gateCopy s m x (s.homeRead a 0x200 d) 64 = gs at hy hlen hvalue
    by_cases hrt : x.rt = true
    · obtain ⟨hmem', hy'⟩ := ctx_askPins m hmem hy
      rw [if_pos hrt]
      exact ⟨hmem', _, hy', hlen, rfl, hst, fun _ => rfl, hvalue⟩
    · rw [if_neg hrt]
      exact ⟨hmem, _, hy, hlen, rfl, hst, fun h => absurd h hrt, hvalue⟩
  · let u := s.hbmUe (a + 64 * (badLines bad 8).headD 0) 2 1 (x.root / 16) x.flask x.pour.word
    have hreturn : s.bankReturn c bad = u.callFlask x.flask := by
      rcases hbad with ⟨l, rfl⟩ | rfl <;> simp [State.bankReturn, hctx, hst, hempty, hm, State.pourUe, hmgmt, a, u]
    obtain ⟨hue, hcount, hcalls⟩ := hbmUe_reports s (a + 64 * (badLines bad 8).headD 0) 2 1 (x.root / 16) x.flask x.pour.word 5
    have hctxs : u.ctxs = s.ctxs := ras_ctxs _ _
    refine ⟨_, congrArg s.after hreturn, ?_, hcount, hue, List.mem_append_right _ (List.mem_singleton_self _)⟩
    rw [State.ctx?]
    exact (congrArg _ hctxs).trans hctx

end Sys2Proof.Laws

/-! # Lanes and the end of pours

What the lanes, the stop of a tree and the end of a pour leave alone (R75, R139, R140, R147, R151, R155). -/
namespace Sys2Proof.Laws

open Sys2Proof.Machine

/-- The registers that the stop of a pour's tree moves. -/
def stopRegs : List Field := [.SEQ_SPAWN_REFUSED, .SEQ_ERR_SPAWN_REFUSED, .EV_SRC_PENDING, .EV_STATS_MERGED, .LANE_WP_MOVED_AT, .LANE_WP_STALLED]

/-- A view of the state in which the lanes, the work that units hold for pours, and what the contexts wait for do not show. -/
structure blindToStop {β : Type} (p : State → β) : Prop where
  units : ∀ (t : State) sent reqs kernels lanes gu asks helds copies route cast, p { t with
    sent := sent, reqs := reqs, kernels := kernels, lanes := lanes, groupUse := gu, xl := { t.xl with asks := asks, helds := helds },
    copies := copies, route := route, cast := cast } = p t
  ctxs : ∀ (t : State) (g : Ctx → Ctx), (∀ y, (g y).num = y.num) → p { t with ctxs := t.ctxs.map g } = p t
  regs : ∀ (t : State) f v i, f ∈ stopRegs → p (t.wr f v i) = p t

/-- Context x once what its record was doing is abandoned (R155). -/
def abandoned (x : Ctx) : Ctx :=
  { x with st := .ending, patch := none, asked := false, fencing := false, fence := [], want := [], second := false, putAt := 0 }

namespace blindToStop

section
variable {β : Type} {p : State → β} (h : blindToStop p)
include h

theorem lanes (t : State) (ls gu) : p { t with lanes := ls, groupUse := gu } = p t := h.units t t.sent t.reqs t.kernels ls gu t.xl.asks t.xl.helds t.copies t.route t.cast
theorem kernels (t : State) (ks) : p { t with kernels := ks } = p t := h.units t t.sent t.reqs ks t.lanes t.groupUse t.xl.asks t.xl.helds t.copies t.route t.cast
theorem asks (t : State) (a) (l) : p { t with xl := { t.xl with asks := a, helds := l } } = p t :=
  h.units t t.sent t.reqs t.kernels t.lanes t.groupUse a l t.copies t.route t.cast
theorem say (t : State) (m : Msg) : p (t.say m) = p t := h.units t _ t.reqs t.kernels t.lanes t.groupUse t.xl.asks t.xl.helds t.copies t.route t.cast
theorem setLane (t : State) (l : Lane) : p (t.setLane l) = p t := h.lanes t _ _
theorem modKernel (t : State) (k : Nat) (f : Kernel → Kernel) : p (t.modKernel k f) = p t := h.kernels t _

theorem updCtxs (t : State) (q : Ctx → Bool) (f : Ctx → Ctx) (hf : ∀ y, (f y).num = y.num) : p { t with ctxs := updAll t.ctxs q f } = p t :=
  h.ctxs t _ fun y => by split <;> simp [hf]

theorem modCtx (t : State) (c : Nat) (f : Ctx → Ctx) (hf : ∀ y, (f y).num = y.num) : p (t.modCtx c f) = p t :=
  h.updCtxs t _ f hf

theorem startOn (t : State) (e k : Nat) : p (t.startOn e k) = p t := by
  simp only [State.startOn]
  refine (h.regs _ _ _ _ (by simp [stopRegs])).trans ((h.regs _ _ _ _ (by simp [stopRegs])).trans ((h.modKernel _ _ _).trans ((h.setLane _ _).trans ?_)))
  split
  · exact h.say _ _
  · rfl

theorem startShadows (t : State) : p t.startShadows = p t := by
  refine foldl_keeps p (fun t l => ?_) _ t
  dsimp only
  split
  · split
    · split
      · exact (h.startOn _ _ _).trans (h.setLane _ _)
      · rfl
    · rfl
  · rfl

theorem rewrite (t : State) : p t.rewrite = p t :=
  foldl_keeps p (fun t k => foldl_keeps p (fun t e => by
    dsimp only
    split
    · exact (h.modKernel _ _ _).trans (h.setLane _ _)
    · rfl) _ t) _ t

theorem pump (t : State) : p t.pump = p t :=
  (h.rewrite _).trans ((h.startShadows _).trans (h.kernels t _))

theorem removeUnstarted (t : State) (k : Kernel) : p (t.removeUnstarted k) = p t :=
  (h.modKernel _ _ _).trans (foldl_keeps p (fun t _ => h.setLane t _) _ t)

theorem stopKernel (t : State) (k : Kernel) : p (t.stopKernel k) = p t := by
  refine (foldl_keeps p (fun t e => ?_) _ _).trans (h.modKernel t _ _)
  dsimp only
  split
  · exact (h.say _ _).trans (h.setLane _ _)
  · rfl

theorem raiseQueueErr (t : State) (q : Nat) : p (t.raiseQueueErr q) = p t := by
  simp only [State.raiseQueueErr, State.raise]
  split
  · exact h.regs t _ _ _ (by simp [stopRegs])
  · exact h.regs t _ _ _ (by simp [stopRegs])

theorem refuseSpawn (t : State) (x : Ctx) (w : SpawnWish) (code : Nat) : p (t.refuseSpawn x w code) = p t := by
  have hcount (t : State) : p ((t.bump .SEQ_SPAWN_REFUSED).wr .SEQ_ERR_SPAWN_REFUSED 1) = p t :=
    (h.regs _ _ _ _ (by simp [stopRegs])).trans (h.regs _ _ _ _ (by simp [stopRegs]))
  simp only [State.refuseSpawn]
  split
  · exact (h.say _ _).trans ((h.setLane _ _).trans (hcount t))
  · refine (h.modCtx _ _ _ fun _ => by rfl).trans ?_
    split
    · exact hcount t
    · exact (h.raiseQueueErr _ _).trans (hcount t)

theorem refuseTree (t : State) (r : Nat) : p (t.refuseTree r) = p t := by
  refine (foldl_keeps p (fun t l => ?_) _ _).trans (foldl_keeps p (fun t x => ?_) _ t)
  · split
    · split
      · split
        · split
          · exact h.refuseSpawn _ _ _ _
          · rfl
        · rfl
      · rfl
    · rfl
  · split
    · exact h.refuseSpawn _ _ _ _
    · rfl

theorem dropUnits (t : State) (q : Nat → Bool) : p (t.dropUnits q) = p t :=
  h.units t t.sent t.reqs t.kernels t.lanes t.groupUse _ _ _ _ _

theorem dropWalkAsks (t : State) (q : Nat → Bool) : p (t.dropWalkAsks q) = p t := h.asks t _ t.xl.helds

theorem dropSignals (t : State) (q : Nat → Bool) : p (t.dropSignals q) = p t :=
  (h.units { t with ctxs := _ } t.sent _ t.kernels t.lanes t.groupUse t.xl.asks t.xl.helds t.copies t.route t.cast).trans (h.updCtxs t _ _ fun _ => by rfl)

theorem stopTree (t : State) (r : Nat) (stop : Bool) : p (t.stopTree r stop) = p t := by
  have hroute (t : State) (r) : p { t with route := r } = p t :=
    h.units t t.sent t.reqs t.kernels t.lanes t.groupUse t.xl.asks t.xl.helds t.copies r t.cast
  have hbase : p { t.refuseTree r with ctxs := updAll (t.refuseTree r).ctxs (fun x => x.root == r) abandoned } = p t :=
    (h.updCtxs _ _ abandoned fun _ => rfl).trans (h.refuseTree t r)
  cases stop with
  | true =>
    refine (h.pump _).trans ((foldl_keeps p (fun t k => (h.stopKernel _ k).trans (h.removeUnstarted t k)) _ _).trans ?_)
    exact (hroute _ _).trans ((h.dropSignals _ _).trans ((h.dropUnits _ _).trans hbase))
  | false =>
    simp only [State.stopTree, Bool.false_eq_true, if_false]
    exact (h.pump _).trans <| (hroute _ _).trans ((h.dropSignals _ _).trans ((h.dropWalkAsks _ _).trans hbase))

theorem endTree (t : State) (r : Nat) (c : EndCause) : p (t.endTree r c) = p t := by
  unfold State.endTree
  split
  · rfl
  · split
    · rfl
    · split
      · rfl
      · exact (h.modCtx _ _ _ fun _ => by rfl).trans (h.stopTree t r true)

theorem endPour (t : State) (c status detail : Nat) : p (t.endPour c status detail) = p t := by
  unfold State.endPour
  split
  · rfl
  · exact h.endTree _ _ _

end

end blindToStop

end Sys2Proof.Laws

/-! # The queue commands

QUEUE_CREATE, POUR_CANCEL and QUEUE_DESTROY (R70, R72, R73, R76). -/
namespace Sys2Proof.Laws

open Sys2Proof.Machine

/-! ## What a reply carries (R445) -/

/-- Consecutive elements of a field that have been written in their order. -/
theorem rd_foldl_wr (f : Field) (g : Nat → Nat) (base : Nat) {k i : Nat} (hi : i < k) (s : State) :
    ((List.range k).foldl (fun t j => t.wr f (g j) (base + j)) s).rd f (base + i) = g i % 2 ^ f.row.width := by
  induction k with
  | zero => omega
  | succ k ih =>
    rw [List.range_succ, List.foldl_append, List.foldl_cons, List.foldl_nil]
    rcases Nat.lt_succ_iff_lt_or_eq.1 hi with hlt | rfl
    · rw [rd_wr_ne _ _ (.inr (by omega)), ih hlt]
    · rw [rd_wr_same]

/-- A reply's value i. -/
theorem rd_reply_out (s : State) (n st : Nat) {outs : List Nat} {i : Nat} (hi : i < outs.length) :
    (s.reply n st outs).rd .MB_OUT (n * 128 + i) = nth outs i 0 % 2 ^ 64 := by
  simp only [State.reply, State.setSlot]
  rw [rd_wr_ne _ _ (.inl (by decide))]
  split
  · rw [rd_wr_ne _ _ (.inl (by decide))]
    exact rd_foldl_wr .MB_OUT _ (n * 128) hi _
  · exact rd_foldl_wr .MB_OUT _ (n * 128) hi _

theorem rd_replyAll_out {ns : List Nat} {n : Nat} {outs : List Nat} {i : Nat} (hi : i < outs.length) (hlen : outs.length ≤ 30) (st : Nat) {s : State}
    (h : n ∈ ns ∨ s.rd .MB_OUT (n * 128 + i) = nth outs i 0 % 2 ^ 64) :
    (s.replyAll ns st outs).rd .MB_OUT (n * 128 + i) = nth outs i 0 % 2 ^ 64 := by
  induction ns generalizing s with
  | nil => exact h.resolve_left List.not_mem_nil
  | cons m ns ih =>
    refine ih ?_
    by_cases hm : n = m
    · subst hm
      exact .inr (rd_reply_out s n st hi)
    · refine h.imp (fun h => (List.mem_cons.1 h).resolve_left hm) fun h => ?_
      refine (onlyRegs_reply s m st outs hlen _ _ fun hmem => ?_).trans h
      simp [replyFields] at hmem
      obtain ⟨j, hj, heq⟩ := hmem
      omega

/-! ## QUEUE_CREATE (R70) -/

/-- Field values are written, at one element, in their order. -/
def wrEach (s : State) (l : List (Field × Nat)) (i : Nat) : State := l.foldl (fun t p => t.wr p.1 p.2 i) s

theorem wrEach_keeps {β : Type} (p : State → β) {l : List (Field × Nat)} {i : Nat} (hwr : ∀ t f v, f ∈ l.map Prod.fst → p (State.wr t f v i) = p t)
    (s : State) : p (wrEach s l i) = p s := by
  induction l generalizing s with
  | nil => rfl
  | cons a l ih => exact (ih (fun t f v hf => hwr t f v (List.mem_cons_of_mem _ hf)) _).trans (hwr s _ _ List.mem_cons_self)

theorem onlyRegs_wrEach (s : State) (l : List (Field × Nat)) (i : Nat) : onlyRegs s (wrEach s l i) (l.map fun p => (p.1, i)) := by
  intro f j hfj
  refine wrEach_keeps (fun t => t.rd f j) (fun t g v hg => rd_wr_ne t v ?_) s
  by_cases hij : i = j
  · refine .inl fun h => hfj ?_
    subst h hij
    obtain ⟨p, hp, rfl⟩ := List.mem_map.1 hg
    exact List.mem_map.2 ⟨p, hp, rfl⟩
  · exact .inr hij

/-- Of fields written once each, every one holds its value. -/
theorem rd_wrEach {l : List (Field × Nat)} (hl : (l.map Prod.fst).Nodup) {f : Field} {v : Nat} (hf : (f, v) ∈ l) (s : State) (i : Nat) :
    (wrEach s l i).rd f i = v % 2 ^ f.row.width := by
  induction l generalizing s with
  | nil => exact nomatch hf
  | cons a l ih =>
    rw [List.map_cons, List.nodup_cons] at hl
    rcases List.mem_cons.1 hf with rfl | hmem
    · exact (wrEach_keeps (fun t => t.rd f i) (fun t g w hg => rd_wr_ne t w (.inl fun h => hl.1 (h ▸ hg))) _).trans (rd_wr_same s f v i)
    · exact ih hl.2 hmem _

/-- The fields that QUEUE_CREATE sets, with their values. -/
def createValues (s : State) (n : Nat) : List (Field × Nat) :=
  let cfg := s.par n 3
  [(.QCTX_LOC, bits (s.par n 1) 0 1), (.QCTX_BASE, bits (s.par n 1) 12 40), (.QCTX_CLOC, bits (s.par n 2) 0 1),
   (.QCTX_CBASE, bits (s.par n 2) 12 40), (.QCTX_RING_LOG2, bits cfg 0 5), (.QCTX_LEVEL, bits cfg 8 2), (.QCTX_WEIGHT, bits cfg 16 8),
   (.QCTX_MAX_INFLIGHT, bits cfg 24 7), (.QCTX_RT, bits cfg 31 1), (.QCTX_FLASK, (s.fref n).1),
   (.QCTX_FLASK_GEN, s.flaskGen (s.fref n).1), (.QCTX_PASID, s.par n 4), (.QCTX_RT_GROUPS, s.par n 5), (.QCTX_NEXT, s.par n 6),
   (.QCTX_HEAD, 0), (.QCTX_TAIL, 0), (.QCTX_STATE, qACTIVE)]

/-- The queue that slot n's parameters name, made. -/
def queueMade (s : State) (n : Nat) : State := wrEach s (createValues s n) (bits (s.par n 0) 16 12)

theorem queueCreate_of_passes {s : State} {n : Nat} (h : s.queueCreateFails n = none) :
    s.queueCreate n = (queueMade s n).reply n stOK [s.rd .QCTX_GEN (bits (s.par n 0) 16 12)] := by
  simp only [State.queueCreate, h]
  rfl

theorem queueCreate_of_fails {s : State} {n st : Nat} (h : s.queueCreateFails n = some st) :
    s.queueCreate n = (if !s.frefOk n then s.frefStale n else s).reply n st := by
  simp only [State.queueCreate, h]

theorem rd_queueMade (s : State) (n : Nat) {f : Field} {v : Nat} (h : (f, v) ∈ createValues s n) :
    (queueMade s n).rd f (bits (s.par n 0) 16 12) = v % 2 ^ f.row.width :=
  rd_wrEach (show ((createValues s n).map Prod.fst).Nodup by simp [createValues]) h s _

theorem queueMade_keeps {β : Type} (p : State → β) (hwr : ∀ (t : State) f v i, p (t.wr f v i) = p t) (s : State) (n : Nat) : p (queueMade s n) = p s :=
  wrEach_keeps p (fun t f v _ => hwr t f v _) s

theorem queueCreateFails_lt {s : State} {n st : Nat} (h : s.queueCreateFails n = some st) : st < 2 ^ 16 := by
  have hrt {f g st : Nat} (h : s.rtCheck f g = some st) : st < 2 ^ 16 := by
    unfold State.rtCheck at h
    split_ifs at h <;> (cases h; decide)
  simp only [State.queueCreateFails] at h
  split_ifs at h
  iterate 6
    · cases h
      decide
  exact hrt h

theorem answers_queueCreate {s : State} {n : Nat} {P : State → Prop} (h : s.starts n 0x20) (hP : P ((s.begun n).queueCreate n)) :
    answers (.queueCreate n) s P :=
  ⟨_, congrArg s.after (mbRun_of_starts h fun t => t.queueCreate n), hP⟩

/-- A bit field of its own width is not cut. -/
theorem bits_cut {g : Field} {w : Nat} (hw : g.row.width = w) (v lo : Nat) : bits v lo w % 2 ^ g.row.width = bits v lo w := by
  rw [hw, bits, Nat.mod_mod]

/-- What the fields of a made queue read after the reply. -/
theorem rd_created {s : State} {n : Nat} {f : Field} {v : Nat} (h : (f, v) ∈ createValues s n) (hf : f ∉ replyNames) (gen : Nat) :
    ((queueMade s n).reply n stOK [gen]).rd f (bits (s.par n 0) 16 12) = v % 2 ^ f.row.width :=
  (onlyRegs_reply (queueMade s n) n stOK _ (by simp) _ _ (not_mem_replyFields hf _ n)).trans (rd_queueMade s n h)

/-- The registers that a made queue and its reply move. -/
theorem onlyRegs_created (s : State) (n gen : Nat) : onlyRegs s ((queueMade s n).reply n stOK [gen])
    (replyFields n ++ (createValues s n).map fun p => (p.1, bits (s.par n 0) 16 12)) :=
  onlyRegs_trans (onlyRegs_wrEach s (createValues s n) _) (onlyRegs_reply _ n stOK _ (by simp))

theorem sameMem_created (s : State) (n gen : Nat) : sameMem s ((queueMade s n).reply n stOK [gen]) :=
  sameMem_of_eq ((reply_hbm _ _ _ _).trans (queueMade_keeps State.hbm (fun _ _ _ _ => rfl) s n))
    ((reply_wbuf _ _ _ _).trans (queueMade_keeps State.wbuf (fun _ _ _ _ => rfl) s n))

/-! ## POUR_CANCEL and QUEUE_DESTROY (R72 to R76) -/

theorem answers_pourCancel {s : State} {n : Nat} {P : State → Prop} (h : s.starts n 0x23) (hP : P ((s.begun n).pourCancel n)) :
    answers (.pourCancel n) s P :=
  ⟨_, congrArg s.after (mbRun_of_starts h fun t => t.pourCancel n), hP⟩

theorem answers_queueDestroy {s : State} {n : Nat} {P : State → Prop} (h : s.starts n 0x22) (hP : P ((s.begun n).queueDestroy n)) :
    answers (.queueDestroy n) s P :=
  ⟨_, congrArg s.after (mbRun_of_starts h fun t => t.queueDestroy n), hP⟩

/-- A pour that is neither ending nor stamped takes the cause of its end. -/
theorem cause_endTree {s : State} {r : Nat} {x : Ctx} (hx : s.ctx? r = some x) (hcause : x.cause = none) (hstamp : x.stamp = .none) (c : EndCause) :
    ∃ y, (s.endTree r c).ctx? r = some y ∧ y.cause = some c := by
  have hend : s.endTree r c = (s.stopTree r true).modCtx r fun y => { y with cause := some c } := by
    simp only [State.endTree, hx]
    rw [if_neg (by simp [hcause]), if_neg (by simp [hstamp])]
  have hstop : ((s.stopTree r true).ctx? r).isSome = (s.ctx? r).isSome := by
    refine blindToStop.stopTree (p := fun t => (t.ctx? r).isSome) ⟨fun _ _ _ _ _ _ _ _ _ _ _ => rfl, fun t g hg => ?_, fun _ _ _ _ _ => rfl⟩ s r true
    rw [ctx_map t r hg, Option.isSome_map]
  rw [hx] at hstop
  obtain ⟨y, hy⟩ := Option.isSome_iff_exists.1 hstop
  refine ⟨{ y with cause := some c }, ?_, rfl⟩
  rw [hend, ctx_modCtx_same (f := fun y => { y with cause := some c }) _ fun _ => rfl, hy]
  rfl

theorem resetAt_queueField : ∀ f ∈ queueFields, ∀ i, f.resetAt i % 2 ^ f.row.width = f.resetAt i := by
  simp only [queueFields, List.forall_mem_cons]
  and_intros
  iterate 24
    · exact fun _ => rfl
  exact fun _ h => nomatch h

/-- The registers of a reset queue q. -/
def queueRegs (s : State) (q : Nat) : State := (wrEach s (queueFields.map fun f => (f, f.resetAt q)) q).adv .QCTX_GEN q

/-- What the queue manager holds of queue q is forgotten. -/
def queueForgotten (t : State) (q : Nat) : State :=
  { t with qm := { t.qm with fetches := t.qm.fetches.filter (fun x => x.queue != q), entries := t.qm.entries.filter (fun x => x.queue != q),
                             guards := t.qm.guards.filter (fun x => x.queue != q), grantAt := t.qm.grantAt.filter (fun x => x.1 != q) } }

theorem queueReset_eq (s : State) (q : Nat) : s.queueReset q = queueForgotten (queueRegs s q) q := by
  have hregs : (s.rstAll queueFields q).adv .QCTX_GEN q = queueRegs s q := by
    rw [queueRegs, wrEach, List.foldl_map]
    rfl
  rw [← hregs]
  rfl

theorem rd_queueForgotten (t : State) (q : Nat) (f : Field) (i : Nat) : (queueForgotten t q).rd f i = t.rd f i := rfl

section
variable (s : State) (q : Nat)

theorem queueRegs_keeps {β : Type} (p : State → β) (hwr : ∀ (t : State) f v i, p (t.wr f v i) = p t) : p (queueRegs s q) = p s :=
  (hwr _ _ _ _).trans (wrEach_keeps p (fun t f v _ => hwr t f v _) s)

theorem rd_queueReset {f : Field} (hf : f ∈ queueFields) : (s.queueReset q).rd f q = f.resetAt q := by
  have hgen : f ≠ .QCTX_GEN := ne_of_mem_of_not_mem hf (by decide)
  have hnodup : ((queueFields.map fun f => (f, f.resetAt q)).map Prod.fst).Nodup := by
    have hfst : (queueFields.map fun f => (f, f.resetAt q)).map Prod.fst = queueFields := by simp [List.map_map, Function.comp_def]
    rw [hfst]
    decide
  have hread : (queueRegs s q).rd f q = f.resetAt q :=
    (rd_wr_ne _ _ (.inl hgen.symm)).trans ((rd_wrEach hnodup (List.mem_map.2 ⟨f, hf, rfl⟩) s q).trans (resetAt_queueField f hf q))
  rw [queueReset_eq, rd_queueForgotten, hread]

theorem gen_queueReset : (s.queueReset q).rd .QCTX_GEN q = (s.rd .QCTX_GEN q + 1) % 256 := by
  have hkept : (wrEach s (queueFields.map fun f => (f, f.resetAt q)) q).rd .QCTX_GEN q = s.rd .QCTX_GEN q :=
    wrEach_keeps (fun t => t.rd .QCTX_GEN q) (fun t f v hf => rd_wr_ne t v (.inl fun h => by
      have hmem : f ∈ queueFields := by simpa using hf
      exact absurd (h ▸ hmem) (by decide))) s
  have hread : (queueRegs s q).rd .QCTX_GEN q = (s.rd .QCTX_GEN q + 1) % 256 := by
    rw [queueRegs, rd_adv_same, hkept]
    rfl
  rw [queueReset_eq, rd_queueForgotten, hread]

theorem queueReset_leaves : (s.queueReset q).hbm = s.hbm ∧ (s.queueReset q).wbuf = s.wbuf ∧ (s.queueReset q).qm.destroys = s.qm.destroys ∧
    (s.queueReset q).entriesOf q = [] ∧ (s.queueReset q).fetchesOf q = [] ∧ (s.queueReset q).guardOf q = none := by
  have hhbm := queueRegs_keeps s q State.hbm fun _ _ _ _ => rfl
  have hwbuf := queueRegs_keeps s q State.wbuf fun _ _ _ _ => rfl
  have hdestroys := queueRegs_keeps s q (fun t => t.qm.destroys) fun _ _ _ _ => rfl
  rw [queueReset_eq]
  generalize queueRegs s q = v at *
  refine ⟨hhbm, hwbuf, hdestroys, ?_, ?_, ?_⟩
  · simp [State.entriesOf, queueForgotten]
  · simp [State.fetchesOf, queueForgotten]
  · simp [State.guardOf, queueForgotten]

end

/-- Whether a pour of queue q, or a record of it that is not acknowledged, is left. -/
def queueOpen (s : State) (q : Nat) : Bool := s.ctxs.any (fun x => x.pour.queue == q && !x.mgmt) || s.qm.records.any fun r => r.queue == q

section
variable {s : State} {d : Destroy} (hd : s.qm.destroys = [d])
include hd

theorem settleDestroys_eq : s.settleDestroys = if queueOpen s d.queue then s
    else (({ s with qm := { s.qm with destroys := s.qm.destroys.filter fun e => e.queue != d.queue } } : State).queueReset d.queue).replyAll
      d.slots stOK [d.count, d.first] := by
  rw [State.settleDestroys]
  exact congrArg (fun l => List.foldl _ s l) hd

theorem settleDestroys_of_open (h : queueOpen s d.queue = true) : s.settleDestroys = s := by rw [settleDestroys_eq hd, if_pos h]

theorem settleDestroys_of_over (hslots : ∀ n ∈ d.slots, n < 16) (h : queueOpen s d.queue = false) :
    let u := s.settleDestroys
    sameMem s u ∧ u.qm.destroys = [] ∧ u.qState d.queue = qFREE ∧ u.rd .QCTX_GEN d.queue = (s.rd .QCTX_GEN d.queue + 1) % 256 ∧
      (∀ f ∈ queueFields, u.rd f d.queue = f.resetAt d.queue) ∧ u.entriesOf d.queue = [] ∧ u.fetchesOf d.queue = [] ∧
      u.guardOf d.queue = none ∧
      ∀ n ∈ d.slots, u.replied n stOK ∧ u.rd .MB_OUT (n * 128) = d.count % 2 ^ 64 ∧ u.rd .MB_OUT (n * 128 + 1) = d.first % 2 ^ 64 := by
  let t : State := { s with qm := { s.qm with destroys := s.qm.destroys.filter fun e => e.queue != d.queue } }
  have hover : s.settleDestroys = (t.queueReset d.queue).replyAll d.slots stOK [d.count, d.first] := by
    rw [settleDestroys_eq hd, if_neg (by rw [h]; decide)]
  obtain ⟨hhbm, hwbuf, hdestroys, hentries, hfetches, hguard⟩ := queueReset_leaves t d.queue
  have hgen := gen_queueReset t d.queue
  have hfields : ∀ f ∈ queueFields, (t.queueReset d.queue).rd f d.queue = f.resetAt d.queue := fun f hf => rd_queueReset t d.queue hf
  have hnone : t.qm.destroys = [] := by simp [t, hd]
  intro u
  have hu : u = (t.queueReset d.queue).replyAll d.slots stOK [d.count, d.first] := hover
  generalize t.queueReset d.queue = v at *
  have hqm : u.qm = v.qm := hu ▸ replyAll_keeps State.qm (fun _ _ _ _ => rfl) _ _ _ _
  have hread {f : Field} (hf : f ∉ replyNames) (i : Nat) : u.rd f i = v.rd f i :=
    hu ▸ foldl_keeps (fun t => t.rd f i) (fun t n => onlyRegs_reply t n stOK _ (by simp) f i (not_mem_replyFields hf i n)) d.slots v
  have hplain : ∀ f ∈ queueFields, f ∉ replyNames := by decide
  refine ⟨?_, hqm ▸ hdestroys.trans hnone, ?_, (hread (by decide) _).trans hgen, fun f hf => (hread (hplain f hf) _).trans (hfields f hf),
    ?_, ?_, ?_, fun n hn => ⟨?_, ?_, ?_⟩⟩
  · rw [hu, sameMem_replyAll]
    exact sameMem_of_eq hhbm hwbuf
  · exact (hread (by decide) _).trans (hfields .QCTX_STATE (by decide))
  · rw [State.entriesOf, hqm]
    exact hentries
  · rw [State.fetchesOf, hqm]
    exact hfetches
  · rw [State.guardOf, hqm]
    exact hguard
  · rw [hu]
    exact replied_replyAll (hslots n hn) (by decide) _ (.inl hn)
  · have hout := rd_replyAll_out (n := n) (outs := [d.count, d.first]) (i := 0) (by simp) (by simp) stOK (s := v) (.inl hn)
    rw [Nat.add_zero] at hout
    rw [hu, hout]
    rfl
  · have hout := rd_replyAll_out (n := n) (outs := [d.count, d.first]) (i := 1) (by simp) (by simp) stOK (s := v) (.inl hn)
    rw [hu, hout]
    rfl

end

namespace blindToStop

/-- The stop point of a queue's pours moves what the stop of a tree moves. -/
theorem stopPoint {β : Type} {p : State → β} (h : blindToStop p) (s : State) (q : Nat) (abort : Bool) : p (s.stopPoint q abort) = p s := by
  refine foldl_keeps p (fun t x => ?_) _ s
  split
  · split
    · exact h.endTree _ _ _
    · exact (h.modCtx _ _ _ fun _ => by rfl).trans (h.stopTree _ _ _)
  · split
    · rfl
    · exact (h.modCtx _ _ _ fun _ => by rfl).trans (h.stopTree _ _ _)

/-- A register that the stop of a tree does not move. -/
theorem of_rd {f : Field} (hf : f ∉ stopRegs) (i : Nat) : blindToStop fun t => t.rd f i :=
  ⟨fun _ _ _ _ _ _ _ _ _ _ _ => rfl, fun _ _ _ => rfl, fun t _ v _ hg => rd_wr_ne t v (.inl (ne_of_mem_of_not_mem hg hf))⟩

theorem of_qm : blindToStop State.qm := ⟨fun _ _ _ _ _ _ _ _ _ _ _ => rfl, fun _ _ _ => rfl, fun _ _ _ _ _ => rfl⟩

end blindToStop

/-- The destruction of queue q for the command in slot n begins: what was not admitted is discarded. -/
def destroyBegun (s : State) (n q : Nat) (abort : Bool) : State :=
  { s with qm := { s.qm with
      fetches := s.qm.fetches.filter (fun x => x.queue != q), guards := s.qm.guards.filter (fun g => g.queue != q),
      entries := s.qm.entries.filter (fun x => x.queue != q),
      destroys := s.qm.destroys ++ [{ queue := q, abort := abort, count := (s.entriesOf q).length,
                                      first := ((s.entriesOf q).head?.map Entry.seq).getD 0, slots := [n] }] } }

theorem queueDestroy_of_first {s : State} {n : Nat} (hok : s.qrefOk n = true) (hstate : s.qState (s.qref n).1 ≠ qFREE)
    (hfirst : s.qm.destroys.find? (fun d => d.queue == (s.qref n).1) = none) :
    s.queueDestroy n = ((destroyBegun s n (s.qref n).1 (bit (s.par n 0) 48)).wr .QCTX_STATE (if bit (s.par n 0) 48 then qABORTING else qDRAINING)
      (s.qref n).1).stopPoint (s.qref n).1 (bit (s.par n 0) 48) := by
  simp only [State.queueDestroy, hok, hfirst]
  rw [if_neg (by simp), if_neg hstate]
  rfl

/-- Settles O22 (R70, R72, R73, R76). -/
theorem queuesComeAndGo : Obligations.QueuesComeAndGo := by
  refine ⟨fun s n hs => ?_, fun s n hs => ?_, fun s n hs => ?_, fun s d hd hslots => ?_, fun s n hs => ?_⟩
  · have hn := hs.1
    intro b q f cfg
    have hgen : b.rd .QCTX_GEN q = s.rd .QCTX_GEN q := rd_begun s n (by decide) (by decide) (by decide) q
    refine ⟨fun hpass => answers_queueCreate hs ?_, fun st hfail => answers_queueCreate hs ?_⟩
    · rw [queueCreate_of_passes hpass]
      have hq : bits (b.par n 0) 16 12 = q := by rw [par_begun]
      rw [hq, hgen]
      have hread {g : Field} {v : Nat} (h : (g, v) ∈ createValues b n) (hg : g ∉ replyNames) :
          ((queueMade b n).reply n stOK [s.rd .QCTX_GEN q]).rd g q = v % 2 ^ g.row.width := hq ▸ rd_created h hg _
      have hbits {g : Field} {v lo w : Nat} (h : (g, bits v lo w) ∈ createValues b n) (hg : g ∉ replyNames) (hw : g.row.width = w) :=
        (hread h hg).trans (bits_cut hw v lo)
      have hval : createValues b n = [(.QCTX_LOC, bits (s.par n 1) 0 1), (.QCTX_BASE, bits (s.par n 1) 12 40), (.QCTX_CLOC, bits (s.par n 2) 0 1),
          (.QCTX_CBASE, bits (s.par n 2) 12 40), (.QCTX_RING_LOG2, bits cfg 0 5), (.QCTX_LEVEL, bits cfg 8 2), (.QCTX_WEIGHT, bits cfg 16 8),
          (.QCTX_MAX_INFLIGHT, bits cfg 24 7), (.QCTX_RT, bits cfg 31 1), (.QCTX_FLASK, bits (s.par n 0) 0 6), (.QCTX_FLASK_GEN, b.flaskGen f),
          (.QCTX_PASID, s.par n 4), (.QCTX_RT_GROUPS, s.par n 5), (.QCTX_NEXT, s.par n 6), (.QCTX_HEAD, 0), (.QCTX_TAIL, 0),
          (.QCTX_STATE, qACTIVE)] := by simp only [createValues, State.fref, b, par_begun, cfg, f]
      have hall : onlyRegs b ((queueMade b n).reply n stOK [s.rd .QCTX_GEN q]) (replyFields n ++ (createValues b n).map fun p => (p.1, q)) :=
        hq ▸ onlyRegs_created b n _
      rw [hval] at hall hread hbits
      refine ⟨sameMem_trans (sameMem_begun s n) (sameMem_created b n _), replied_reply _ _ hn (by decide),
        hread (g := .QCTX_STATE) (v := qACTIVE) (by simp) (by decide), rd_reply_out (i := 0) (queueMade b n) n stOK (by simp),
        hread (g := .QCTX_HEAD) (v := 0) (by simp) (by decide), hread (g := .QCTX_TAIL) (v := 0) (by simp) (by decide),
        hread (g := .QCTX_NEXT) (v := s.par n 6) (by simp) (by decide), hbits (by simp) (by decide) rfl,
        hread (by simp) (by decide), hbits (by simp) (by decide) rfl, hread (by simp) (by decide), hbits (by simp) (by decide) rfl,
        hbits (by simp) (by decide) rfl, hbits (by simp) (by decide) rfl, hbits (by simp) (by decide) rfl, hbits (by simp) (by decide) rfl,
        hbits (by simp) (by decide) rfl, hread (g := .QCTX_PASID) (v := s.par n 4) (by simp) (by decide), hall⟩
    · rw [queueCreate_of_fails hfail]
      by_cases hok : b.frefOk n = true
      · rw [if_neg (by simp [hok]), if_pos hok, List.append_nil]
        exact ⟨by simpa using sameMem_begun s n, replied_reply _ _ hn (queueCreateFails_lt hfail), onlyRegs_reply b n st [] (by simp)⟩
      · rw [if_pos (by simp [hok]), if_neg hok]
        exact ⟨by simpa [State.frefStale] using sameMem_begun s n, replied_reply _ _ hn (queueCreateFails_lt hfail),
          onlyRegs_trans (onlyRegs_stale b .flask _ _ _) (onlyRegs_reply _ n st [] (by simp))⟩
  · have hn := hs.1
    intro p0 hgen
    have hpar : (s.begun n).par n 0 = p0 := par_begun s n 0
    have hrd : (s.begun n).rd .QCTX_GEN (bits p0 52 12) = s.rd .QCTX_GEN (bits p0 52 12) := rd_begun s n (by decide) (by decide) (by decide) _
    have hctxs : (s.begun n).ctxs = s.ctxs := begun_keeps State.ctxs (fun _ _ => rfl) (fun _ _ _ => rfl) (fun _ _ _ => rfl) s n
    refine ⟨fun hnone => answers_pourCancel hs ?_, fun x hx hnum hcause hstamp => answers_pourCancel hs ?_⟩
    · have hcancel : (s.begun n).pourCancel n = (s.begun n).reply n stSTATE := by
        simp only [State.pourCancel, hpar, hrd, hctxs, hnone]
        exact if_neg (not_not.2 hgen)
      rw [hcancel]
      exact ⟨replied_reply _ _ hn (by decide), (reply_keeps State.ctxs (fun _ _ _ _ => rfl) _ _ _ _).trans hctxs⟩
    · let c : EndCause := { kind := .abort, status := 1, detail := 2 }
      have hcancel : (s.begun n).pourCancel n = ((s.begun n).endTree x.num c).reply n stOK := by
        simp only [State.pourCancel, hpar, hrd, hctxs, hx]
        rw [if_neg (not_not.2 hgen), if_neg (by simp [hcause]), if_neg (by simp [hstamp])]
      have hbctx : (s.begun n).ctx? x.num = some x := by rw [State.ctx?, hctxs]; exact hnum
      rw [hcancel]
      refine ⟨replied_reply _ _ hn (by decide), ?_⟩
      rw [reply_keeps (fun t => t.ctx? x.num) (fun _ _ _ _ => rfl)]
      exact cause_endTree hbctx hcause hstamp c
  · have hn := hs.1
    intro hold
    let q := bits (s.par n 0) 52 12
    let gen := bits (s.par n 0) 44 8
    let b := s.begun n
    have hrd {f : Field} (hs : f ≠ .MB_STATE_STATE) (hf : f ≠ .FL_STATE) (hg : f ≠ .SEAL_GRAN_SEAL) (i : Nat) : b.rd f i = s.rd f i :=
      rd_begun s n hs hf hg i
    have hcancel : b.pourCancel n = (b.staleQueue q gen).reply n stSTATE := by
      simp only [State.pourCancel, b, par_begun]
      exact if_pos (by rw [rd_begun s n (by decide) (by decide) (by decide)]; exact hold)
    refine answers_pourCancel hs ?_
    rw [hcancel]
    refine ⟨by simpa [State.staleQueue] using sameMem_begun s n, replied_reply _ _ hn (by decide), ?_, ?_,
      onlyRegs_trans (onlyRegs_stale b .queue _ _ _) (onlyRegs_reply _ n _ [] (by simp))⟩
    · exact (reply_keeps State.ctxs (fun _ _ _ _ => rfl) (b.staleQueue q gen) n stSTATE []).trans
        (begun_keeps State.ctxs (fun _ _ => rfl) (fun _ _ _ => rfl) (fun _ _ _ => rfl) s n)
    · have hcount : b.counts (b.staleQueue q gen) .STALE_DROP_QUEUE := counts_stale b .queue q gen _
      rw [State.counts] at hcount ⊢
      rw [rd_reply_nil _ _ _ (not_mem_replyFields (by decide) 0 n), hcount, hrd (by decide) (by decide) (by decide)]
  · exact ⟨settleDestroys_of_open hd, settleDestroys_of_over hd hslots⟩
  · have hn := hs.1
    intro q gen
    have hqref : (s.begun n).qref n = (q, gen) := by simp only [State.qref, par_begun, q, gen]
    have hqok : (s.begun n).qrefOk n = (gen == s.rd .QCTX_GEN q) := by
      rw [State.qrefOk, hqref, rd_begun s n (by decide) (by decide) (by decide)]
    have hstate : (s.begun n).qState ((s.begun n).qref n).1 = s.qState q := by
      rw [hqref]
      exact rd_begun s n (by decide) (by decide) (by decide) q
    refine ⟨fun hno => answers_queueDestroy hs ?_, fun hgen hlive hfirst => answers_queueDestroy hs ?_⟩
    · have hrefused : ∃ t : State, (s.begun n).queueDestroy n = t.reply n stSTATE ∧ t.qm = s.qm := by
        by_cases hok : (s.begun n).qrefOk n = true
        · refine ⟨s.begun n, ?_, begun_qm s n⟩
          have hfree : (s.begun n).qState ((s.begun n).qref n).1 = qFREE := hstate.trans (hno.resolve_left fun h => h (by simpa [hqok] using hok))
          simp only [State.queueDestroy, hok]
          exact (if_neg (by simp)).trans (if_pos hfree)
        · exact ⟨(s.begun n).staleQueue _ _, if_pos (by simp [hok]), begun_qm s n⟩
      obtain ⟨t, ht, hqm⟩ := hrefused
      rw [ht]
      exact ⟨replied_reply _ _ hn (by decide), (reply_qm _ _ _ _).trans hqm⟩
    · have hok : (s.begun n).qrefOk n = true := by simp [hqok, hgen]
      have hmake := queueDestroy_of_first hok (by rw [hstate]; exact hlive) (by rw [hqref, begun_qm]; exact hfirst)
      rw [hqref, par_begun] at hmake
      rw [hmake]
      let b := s.begun n
      let v := (destroyBegun b n q (bit (s.par n 0) 48)).wr .QCTX_STATE (if bit (s.par n 0) 48 then qABORTING else qDRAINING) q
      have hqm : (v.stopPoint q (bit (s.par n 0) 48)).qm = v.qm := blindToStop.of_qm.stopPoint v q _
      refine ⟨?_, ?_, ?_, ?_, ?_, ?_⟩
      · exact ((blindToStop.of_rd (f := .QCTX_STATE) (by decide) q).stopPoint v q _).trans
          ((rd_wr_same _ _ _ _).trans (by split <;> rfl))
      · rw [State.entriesOf, hqm]
        simp [v, destroyBegun]
      · rw [State.fetchesOf, hqm]
        simp [v, destroyBegun]
      · rw [State.guardOf, hqm]
        simp [v, destroyBegun]
      · have hslot : (v.stopPoint q (bit (s.par n 0) 48)).rd .MB_STATE_STATE = b.rd .MB_STATE_STATE :=
          ((blindToStop.of_rd (f := .MB_STATE_STATE) (by decide) 0).stopPoint v q _).trans (rd_wr_ne _ _ (.inl (by decide)))
        rw [State.slotState, hslot]
        exact slotState_begun s hn
      · rw [hqm]
        refine ⟨_, List.mem_append_right _ (List.mem_singleton_self _), rfl, rfl, ?_⟩
        rw [State.entriesOf, State.entriesOf, begun_qm s n]

end Sys2Proof.Laws

/-! # Updates of timelines by the host

A BLOCK reset's owners outlive it in no reachable state, but a statement over all states meets them (R474, R497). -/
namespace Sys2Proof.Laws

open Sys2Proof.Machine

/-- The block is READY with what a BLOCK reset had noted: at its start an OPEN flask owned timeline 0. No flask owns it now. -/
def ownerNoted : State :=
  { regs := [(Field.CFG_MSE.key 0, 1), (Field.RAS_STATUS_PHASE.key 0, 4)], breset := some { start := 0, owners := [(0, 0, flOPEN)] } }

/-- Refutes O47 (R497): the owner noted at the start of a BLOCK reset answers for a timeline that no flask owns whatever the phase
is, so that in a READY block which still holds the note a store to such a timeline sets it, and is not counted. -/
theorem not_hostTimelineUpdates : ¬ Obligations.HostTimelineUpdates := by
  rintro ⟨h, -⟩
  have hhears : ownerNoted.hears := ⟨by decide +kernel, by decide +kernel, by decide +kernel⟩
  obtain ⟨-, hunowned, -⟩ := h ownerNoted 0 hhears (by decide) (.timelineStore 0 0 8 1) 0 1 (.inl ⟨1, by decide, rfl, rfl, rfl⟩)
  obtain ⟨t, ht, -, hcount, -⟩ := hunowned (by decide +kernel)
  obtain rfl : ownerNoted.close (ownerNoted.hostWrite 0x1000000 8 1) = t := Host.Outcome.next.inj ht
  rw [State.counts, rd_close] at hcount
  exact absurd hcount (by decide +kernel)

end Sys2Proof.Laws

/-! # The event controller

Raises, deliveries and the controller's registers (R357 to R371). -/
namespace Sys2Proof.Laws

open Sys2Proof.Machine

/-! ## Writes of registers -/

/-- What a write of whole fields makes of one that is W1C. -/
theorem rd_writeFields_W1C {fs : List (Field × Nat)} (hnodup : fs.Nodup) {f : Field} {i : Nat} (hm : (f, i) ∈ fs)
    (hw : f.row.access = .W1C) (v : Nat) (s : State) : (s.writeFields 8 0 v fs).rd f i =
      (s.rd f i - (s.rd f i &&& bits v (f.row.bitOf i) f.row.width)) % 2 ^ f.row.width := by
  have hwhole (fs : List (Field × Nat)) (s : State) : onlyRegs s (s.writeFields 8 0 v fs) fs :=
    onlyRegs_writeFields_of_whole s 8 0 v fs fun _ _ => rfl
  induction fs generalizing s with
  | nil => cases hm
  | cons p fs ih =>
    rw [List.nodup_cons] at hnodup
    obtain ⟨hnew, hrest⟩ := hnodup
    have hcons : s.writeFields 8 0 v (p :: fs) = (s.writeFields 8 0 v [p]).writeFields 8 0 v fs := rfl
    rw [hcons]
    rcases List.mem_cons.1 hm with rfl | hm
    · have hone : s.writeFields 8 0 v [(f, i)] = s.fieldWrite f i (bits v (f.row.bitOf i) f.row.width) := rfl
      rw [hwhole fs _ f i hnew, hone]
      simp only [State.fieldWrite, hw]
      exact rd_wr_same s f _ i
    · have hne : (f, i) ≠ p := fun e => hnew (e ▸ hm)
      rw [ih hrest hm, hwhole [p] s f i (by simpa using hne)]

/-- The elements of an array with one element a register lie at one place in it. -/
theorem bitOf_of_step_zero {f : Field} (h : f.row.bitStep = 0) (i : Nat) : f.row.bitOf i = f.row.lo := by
  rw [Row.bitOf, h, Nat.zero_mul, Nat.add_zero]

/-- An 8-byte write of a register clears what it carries a 1 for in a W1C field. -/
theorem rd_regWrite_W1C (s : State) (v : Nat) {o : Nat} {f : Field} {i : Nat} (hm : (f, i) ∈ fieldsAt o) (hw : f.row.access = .W1C) :
    (s.regWrite o 8 0 (v % 2 ^ 64)).rd f i = (s.rd f i - (s.rd f i &&& bits v (f.row.bitOf i) f.row.width)) % 2 ^ f.row.width := by
  rw [State.regWrite, rd_writeFields_W1C (nodup_fieldsAt o) hm hw, bits_mod_two_pow v (bitOf_add_width_le f i)]

/-- A BAR0 write whose effect is t, of which P speaks in registers and memory. -/
theorem done_hostWrite {s t : State} {off size v : Nat} {P : State → Prop} (hring : off / 8 * 8 ≠ 0x10028)
    (hreceipt : off / 8 * 8 ≠ 0x900028) (helog : ¬ (0x510300 ≤ off / 8 * 8 ∧ off / 8 * 8 < 0x510500))
    (ht : s.barWrite off size v = t) (hP : ∀ u, sameMem t u → (∀ f i, u.rd f i = t.rd f i) → P u) :
    ∃ u, s.done (s.hostWrite off size v) = .next u ∧ P u := does_registerWrite hring hreceipt helog ht hP

/-! ## Raises (R358, R359) -/

/-- Flask f owns the software source src. -/
def ownsSource (s : State) (f src : Nat) : Prop := 0x2400 ≤ src ∧ src ≤ 0x3EFF ∧ s.on .EV_SRC_OWNED src = true ∧ s.rd .EV_SRC_FLASK src = f

section
variable {s : State} {f src : Nat}

theorem softRaise_of_owner (h : ownsSource s f src) (hgen : s.rd .EV_SRC_FLASK_GEN src = s.flaskGen f) : s.softRaise src f = s.raise src := by
  obtain ⟨hlo, hhi, howned, hflask⟩ := h
  simp only [State.softRaise]
  rw [if_neg (by simp [howned, hflask]; omega), if_neg (by simp [hgen])]

theorem softRaise_of_stale (h : ownsSource s f src) (hgen : s.rd .EV_SRC_FLASK_GEN src ≠ s.flaskGen f) :
    s.softRaise src f = s.stale .flask f (s.rd .EV_SRC_FLASK_GEN src) (s.flaskGen f) := by
  obtain ⟨hlo, hhi, howned, hflask⟩ := h
  simp only [State.softRaise]
  rw [if_neg (by simp [howned, hflask]; omega), if_pos hgen]

theorem softRaise_of_denied (h : ¬ ownsSource s f src) : s.softRaise src f = (s.wr .EV_ERR_DENIED 1).bump .EV_STATS_DENIED := by
  simp only [State.softRaise]
  refine if_pos ?_
  by_contra hc
  simp only [Bool.or_eq_true, decide_eq_true_eq, Bool.not_eq_eq_eq_not, Bool.not_true, bne_iff_ne, ne_eq, not_or, Bool.not_eq_false,
    not_not, not_lt] at hc
  obtain ⟨⟨⟨hlo, hhi⟩, howned⟩, hflask⟩ := hc
  exact h ⟨hlo, hhi, howned, hflask⟩

end

/-- What a denied raise leaves. -/
theorem denied_leaves (s : State) : sameMem s ((s.wr .EV_ERR_DENIED 1).bump .EV_STATS_DENIED) ∧
    ((s.wr .EV_ERR_DENIED 1).bump .EV_STATS_DENIED).rd .EV_ERR_DENIED = 1 ∧ s.counts ((s.wr .EV_ERR_DENIED 1).bump .EV_STATS_DENIED) .EV_STATS_DENIED ∧
    onlyRegs s ((s.wr .EV_ERR_DENIED 1).bump .EV_STATS_DENIED) [(.EV_ERR_DENIED, 0), (.EV_STATS_DENIED, 0)] := by
  refine ⟨by simp, ?_, ?_, onlyRegs_bump (onlyRegs_wr (onlyRegs_refl s _) (by simp) 1) (by simp) 1⟩
  · rw [rd_bump_ne _ _ (.inl (by decide)), rd_wr_one]
  · rw [State.counts, rd_bump_same, rd_wr_ne _ _ (.inl (by decide))]

theorem rd_raise_pending (s : State) (n : Nat) : (s.raise n).rd .EV_SRC_PENDING n = 1 := by
  simpa [State.on] using on_raise_pending s n

/-- A raise is counted as merged exactly where the source was pending. -/
theorem raise_merged (s : State) (n : Nat) : (s.on .EV_SRC_PENDING n = true → s.counts (s.raise n) .EV_STATS_MERGED) ∧
    (s.on .EV_SRC_PENDING n = false → (s.raise n).rd .EV_STATS_MERGED = s.rd .EV_STATS_MERGED) := by
  refine ⟨fun h => ?_, fun h => ?_⟩
  · rw [State.raise, if_pos h]
    exact counts_bump s .EV_STATS_MERGED 0 1
  · rw [State.raise, if_neg (by simp [h])]
    exact rd_wr_ne s _ (.inl (by decide))

theorem onlyRegs_raised (s : State) (n : Nat) : onlyRegs s (s.raise n) [(.EV_SRC_PENDING, n), (.EV_STATS_MERGED, 0)] :=
  onlyRegs_raise (onlyRegs_refl s _) (by simp) (by simp)

theorem sameMem_raised (s : State) (n : Nat) : sameMem s (s.raise n) := by simp

/-- A store to a flask's doorbell page that is heard. -/
theorem does_eventDoorbellStore {s t : State} {f off size v : Nat} {P : State → Prop} (hs : s.hears) (hf : f < 64) (hoff : off < 4096)
    (hsize : size = 4 ∨ size = 8) (hal : off % size = 0) (ht : s.eventStore f off size (v % 2 ^ (8 * size)) = t)
    (hP : ∀ u, sameMem t u → (∀ g i, u.rd g i = t.rd g i) → P u) : does (.eventDoorbellStore f off size v) s P := by
  obtain ⟨o, half, rfl, ho, hok⟩ : ∃ o half, off = o + 4 * half ∧ o % 8 = 0 ∧ okSize half size := by
    rcases hsize with rfl | rfl
    · exact ⟨off / 8 * 8, off / 4 % 2, by omega, by omega, .inr ⟨by omega, rfl⟩⟩
    · exact ⟨off, 0, by omega, by omega, .inl ⟨rfl, rfl⟩⟩
  have hhalf : half < 2 := by rcases hok with ⟨rfl, -⟩ | ⟨h, -⟩ <;> omega
  have hbar : s.barWrite (0x740000 + 4096 * f + (o + 4 * half)) size v = t := by
    have hplace : s.place (0x740000 + 4096 * f + o) size half (v % 2 ^ (8 * size)) = t := by
      have hpage : (0x740000 + 4096 * f + o - 0x740000) / 4096 = f := by omega
      have hin : (0x740000 + 4096 * f + o) % 4096 = o := by omega
      rw [State.place, if_neg (by omega), if_pos (by omega), hpage, hin]
      exact ht
    rw [show 0x740000 + 4096 * f + (o + 4 * half) = (0x740000 + 4096 * f + o) + 4 * half by omega,
      barWrite_of_hears hs (by omega) hok, hplace]
  have hexec : exec (.eventDoorbellStore f (o + 4 * half) size v) s = s.done (s.hostWrite (0x740000 + 4096 * f + (o + 4 * half)) size v) :=
    congrArg s.done (if_pos ⟨hf, hoff⟩)
  rw [does, hexec]
  exact done_hostWrite (by omega) (by omega) (by omega) hbar hP

/-! ## Deliveries (R361, R366, R369) -/

/-- The registers of source n and target g once n is delivered to g. -/
def delivered (s : State) (n g : Nat) : State :=
  let u := ((((s.wr .EV_SRC_PENDING 0 n).wr .EV_SRC_ACTIVE 1 n).wr .EV_SRC_TARGET g n).wr .EV_SRC_DPRIO (s.rd .EV_SRC_PRIO n) n).adv .EV_SRC_DELIV n
  u.wr .EV_THRESH_INSVC (setBits (u.rd .EV_THRESH_INSVC g) (s.rd .EV_SRC_PRIO n) 1 1) g

theorem rd_delivered_deliv (s : State) (n g : Nat) :
    (delivered s n g).rd .EV_SRC_DELIV n = (s.rd .EV_SRC_DELIV n + 1) % 2 ^ Field.EV_SRC_DELIV.row.width := by
  rw [delivered, rd_wr_ne _ _ (.inl (by decide)), rd_adv_same, rd_wr_ne _ _ (.inl (by decide)), rd_wr_ne _ _ (.inl (by decide)),
    rd_wr_ne _ _ (.inl (by decide)), rd_wr_ne _ _ (.inl (by decide))]

theorem delivered_leaves (s : State) (n g : Nat) :
    let u := delivered s n g
    u.rd .EV_SRC_PENDING n = 0 ∧ u.rd .EV_SRC_ACTIVE n = 1 ∧ u.rd .EV_SRC_TARGET n = g % 2 ^ Field.EV_SRC_TARGET.row.width ∧
      onlyRegs s u [(.EV_SRC_PENDING, n), (.EV_SRC_ACTIVE, n), (.EV_SRC_TARGET, n), (.EV_SRC_DPRIO, n), (.EV_SRC_DELIV, n), (.EV_THRESH_INSVC, g)] := by
  refine ⟨?_, ?_, ?_, ?_⟩
  · simp only [delivered, State.adv]
    rw [rd_wr_ne _ _ (.inl (by decide)), rd_wr_ne _ _ (.inl (by decide)), rd_wr_ne _ _ (.inl (by decide)), rd_wr_ne _ _ (.inl (by decide)),
      rd_wr_ne _ _ (.inl (by decide)), rd_wr_same]
    rfl
  · simp only [delivered, State.adv]
    rw [rd_wr_ne _ _ (.inl (by decide)), rd_wr_ne _ _ (.inl (by decide)), rd_wr_ne _ _ (.inl (by decide)), rd_wr_ne _ _ (.inl (by decide)), rd_wr_same]
    rfl
  · simp only [delivered, State.adv]
    rw [rd_wr_ne _ _ (.inl (by decide)), rd_wr_ne _ _ (.inl (by decide)), rd_wr_ne _ _ (.inl (by decide)), rd_wr_same]
  · exact onlyRegs_wr (onlyRegs_adv (onlyRegs_wr (onlyRegs_wr (onlyRegs_wr (onlyRegs_wr (onlyRegs_refl s _) (by simp) _) (by simp) _) (by simp) _)
      (by simp) _) (by simp) _) (by simp) _

/-- A delivery has the registers of `delivered`; its message goes to the management core, or behind those that wait. -/
theorem deliver_eq (s : State) (n g : Nat) :
    let bs := eventBytes n (s.rd .EV_SRC_PRIO n) g ((s.rd .EV_SRC_DELIV n + 1) % 2 ^ Field.EV_SRC_DELIV.row.width) (s.clock .core)
    ∃ ev, ev.msgs = s.ev.msgs ∧ s.deliver n g = if mgmtTarget g then State.say { delivered s n g with ev := ev } (.mgmtEvent (g - 510) bs)
      else { delivered s n g with ev := { ev with msgs := ev.msgs ++ [(g, s.rd .EV_TGT_DEST g, bs)] } } := by
  intro bs
  have hdest : (delivered s n g).rd .EV_TGT_DEST g = s.rd .EV_TGT_DEST g := (delivered_leaves s n g).2.2.2 _ _ (by simp)
  have hbs : eventBytes n (s.rd .EV_SRC_PRIO n) g ((delivered s n g).rd .EV_SRC_DELIV n) ((delivered s n g).clock .core) = bs := by
    rw [rd_delivered_deliv]
    rfl
  refine ⟨{ s.ev with lastSrc := aset s.ev.lastSrc (s.rd .EV_SRC_PRIO n) n, lastTgt := aset s.ev.lastTgt (s.rd .EV_SRC_GROUP n) g }, rfl, ?_⟩
  rw [← hbs, ← hdest]
  rfl

/-! ## CZ_EV_SRC (R363) -/

/-- The fields of CZ_EV_SRC. -/
def srcFields : List Field := [.EV_SRC_PRIO, .EV_SRC_MASK, .EV_SRC_KIND, .EV_SRC_PENDING, .EV_SRC_ACTIVE, .EV_SRC_GROUP, .EV_SRC_OWNED,
  .EV_SRC_FLASK, .EV_SRC_FLASK_GEN, .EV_SRC_TARGET, .EV_SRC_DPRIO, .EV_SRC_DELIV]

theorem mem_srcFields {n : Nat} (hn : n < 0x4000) {f : Field} (hf : f ∈ srcFields) : (f, n) ∈ fieldsAt (0x710000 + 8 * n) := by
  have hrow : f.row.config = false ∧ f.row.base = 0x710000 ∧ f.row.stride = 8 ∧ f.row.perReg = 1 ∧ f.row.count = 16384 ∧ f.row.cols = 0 := by
    revert f
    decide +kernel
  obtain ⟨hconfig, hbase, hstride, hper, hcount, hcols⟩ := hrow
  have hnum : (0x710000 + 8 * n - 0x710000) / 8 = n := by omega
  have hhas : f.row.has n = true := by simp [Row.has, hcount, hcols, hn]
  refine mem_fieldsAt.2 ?_
  simp only [Field.elemsAt, hconfig, hbase, hstride, hper, hnum]
  rw [if_neg (by simp), if_neg (by decide), if_neg (by omega)]
  simpa using hhas

/-- The registers of a source that a write of CZ_EV_SRC moves beside the write of its fields. -/
theorem srcWrite_eq (s : State) {n : Nat} (hn : n < 0x3F00) (v : Nat) :
    let t := s.regWrite (0x710000 + 8 * n) 8 0 v
    s.srcWrite n 8 0 v = if 0x2400 ≤ n then t else ((t.wr .EV_SRC_OWNED 0 n).wr .EV_SRC_FLASK 0 n).wr .EV_SRC_FLASK_GEN 0 n := by
  intro t
  have hlevel : isLevel n = false := by simp [isLevel]; omega
  by_cases hsoft : 0x2400 ≤ n
  · rw [if_pos hsoft]
    simp only [State.srcWrite, hlevel]
    exact if_pos (by simp; omega)
  · rw [if_neg hsoft]
    simp only [State.srcWrite, hlevel]
    exact if_neg (by simp; omega)

theorem sameMem_srcWrite (s : State) {n : Nat} (hn : n < 0x3F00) (v : Nat) : sameMem s (s.srcWrite n 8 0 v) := by
  rw [srcWrite_eq s hn]
  split
  · exact sameMem_regWrite s _ _ _ _
  · simpa using sameMem_regWrite s _ _ _ _

theorem srcWrite_leaves (s : State) {n : Nat} (hn : n < 0x3F00) (v : Nat) :
    (∀ {f : Field}, f ∉ [Field.EV_SRC_OWNED, .EV_SRC_FLASK, .EV_SRC_FLASK_GEN] →
      (s.srcWrite n 8 0 v).rd f n = (s.regWrite (0x710000 + 8 * n) 8 0 v).rd f n) ∧
    onlyRegs s (s.srcWrite n 8 0 v) (fieldsAt (0x710000 + 8 * n)) := by
  have hm (f : Field) (hf : f ∈ srcFields) : (f, n) ∈ fieldsAt (0x710000 + 8 * n) := mem_srcFields (by omega) hf
  have hregs := onlyRegs_regWrite_eight s (0x710000 + 8 * n) 0 v
  rw [srcWrite_eq s hn]
  split
  · exact ⟨fun _ => rfl, hregs⟩
  · refine ⟨fun {f} hf => ?_, onlyRegs_wr (onlyRegs_wr (onlyRegs_wr hregs (hm _ (by decide)) 0) (hm _ (by decide)) 0) (hm _ (by decide)) 0⟩
    simp only [List.mem_cons, List.not_mem_nil, or_false, not_or] at hf
    obtain ⟨howned, hflask, hgen⟩ := hf
    rw [rd_wr_ne _ _ (.inl (Ne.symm hgen)), rd_wr_ne _ _ (.inl (Ne.symm hflask)), rd_wr_ne _ _ (.inl (Ne.symm howned))]

/-- Settles O45 (R357 to R371). -/
theorem eventController : Obligations.EventController := by
  refine ⟨fun s f src hs hf hsrc => ?_, fun s f off size v hs hf hoff hsize hal hbad => ?_, fun s e src c x hx hgen => ?_, fun s e src c h => ?_,
    fun s unit hready hunit => ?_, fun s n g hready hen hchoose => ?_, fun s g d bs rest hmsgs hbme hcred => ?_, fun s n v hs hn => ?_,
    fun s v hs => ?_⟩
  · have hval : src % 2 ^ (8 * 8) = src := Nat.mod_eq_of_lt (by omega)
    have hstore : s.eventStore f 0 8 (src % 2 ^ (8 * 8)) = s.softRaise src f := by
      rw [hval, State.eventStore, if_neg (by simp; omega)]
    refine ⟨fun howns hgen => ?_, fun howns hgen => ?_, fun hno => ?_⟩
    · refine does_eventDoorbellStore hs hf (by decide) (.inr rfl) rfl (hstore.trans (softRaise_of_owner howns hgen)) fun u hmem hrd => ?_
      have hmerged := raise_merged s src
      simp only [State.counts] at hmerged ⊢
      exact ⟨sameMem_trans (sameMem_raised s src) hmem, (hrd _ _).trans (rd_raise_pending s src), fun g i hgi => (hrd g i).trans (onlyRegs_raised s src g i hgi),
        fun h => (hrd _ _).trans (hmerged.1 h), fun h => (hrd _ _).trans (hmerged.2 h)⟩
    · refine does_eventDoorbellStore hs hf (by decide) (.inr rfl) rfl (hstore.trans (softRaise_of_stale howns hgen)) fun u hmem hrd => ?_
      exact ⟨sameMem_trans (by simp) hmem, (hrd _ _).trans (counts_stale s .flask _ _ _), fun g i hgi => (hrd g i).trans (onlyRegs_stale s .flask _ _ _ g i hgi)⟩
    · refine does_eventDoorbellStore hs hf (by decide) (.inr rfl) rfl (hstore.trans (softRaise_of_denied hno)) fun u hmem hrd => ?_
      obtain ⟨hm, hset, hcount, hregs⟩ := denied_leaves s
      exact ⟨sameMem_trans hm hmem, (hrd _ _).trans hset, (hrd _ _).trans hcount, fun g i hgi => (hrd g i).trans (hregs g i hgi)⟩
  · have hstore : s.eventStore f off size (v % 2 ^ (8 * size)) = s.wr .EV_ERR_BAD_STORE 1 :=
      if_pos (hbad.imp_right (Or.imp_right fun h => by omega))
    refine does_eventDoorbellStore hs hf hoff hsize hal hstore fun u hmem hrd => ⟨sameMem_trans (by simp) hmem, (hrd _ _).trans (rd_wr_one _ _ _), fun g i hgi => ?_⟩
    exact (hrd g i).trans (onlyRegs_wr (onlyRegs_refl s _) (by simp) 1 g i hgi)
  · intro owns
    have hraise : s.engineRaise e src c = if x.mgmt then (s.wr .EV_ERR_DENIED 1).bump .EV_STATS_DENIED else s.softRaise src x.flask := by
      simp only [State.engineRaise, hx]
      refine if_neg fun h => ?_
      simp only [Bool.and_eq_true, Bool.not_eq_eq_eq_not, Bool.not_true, bne_iff_ne, ne_eq] at h
      exact h.2 (hgen h.1)
    have hexec : exec (.engineEventRaise e src c) s = s.done _ := congrArg s.done hraise
    refine ⟨fun howns hcur => ?_, fun howns hold => ?_, fun hno => ?_⟩
    · obtain ⟨hmgmt, howned⟩ := howns
      rw [if_neg (by simp [hmgmt]), softRaise_of_owner howned hcur] at hexec
      exact ⟨_, hexec, by simp, by rw [rd_close, rd_raise_pending], (onlyRegs_close_iff ..).2 (onlyRegs_raised s src)⟩
    · obtain ⟨hmgmt, howned⟩ := howns
      rw [if_neg (by simp [hmgmt]), softRaise_of_stale howned hold] at hexec
      exact ⟨_, hexec, by simp, by rw [State.counts, rd_close]; exact counts_stale s .flask _ _ _, (onlyRegs_close_iff ..).2 (onlyRegs_stale s .flask _ _ _)⟩
    · have hdenied : (if x.mgmt then (s.wr .EV_ERR_DENIED 1).bump .EV_STATS_DENIED else s.softRaise src x.flask) = (s.wr .EV_ERR_DENIED 1).bump .EV_STATS_DENIED := by
        split
        · rfl
        next hmgmt => exact softRaise_of_denied fun h => hno ⟨by simpa using hmgmt, h⟩
      rw [hdenied] at hexec
      obtain ⟨hm, hset, hcount, hregs⟩ := denied_leaves s
      exact ⟨_, hexec, (sameMem_close_iff ..).2 hm, by rw [rd_close, hset], by rw [State.counts, rd_close]; exact hcount, (onlyRegs_close_iff ..).2 hregs⟩
  · have hstale : ∃ q seen, s.engineRaise e src c = s.stale .queue q seen (s.rd .QCTX_GEN q) := by
      rcases h with hnone | ⟨x, hx, hmgmt, hgen⟩
      · exact ⟨_, _, by simp only [State.engineRaise, hnone]; rfl⟩
      · exact ⟨x.pour.queue, x.pour.qgen, by simp only [State.engineRaise, hx]; exact if_pos (by simp [hmgmt, hgen])⟩
    obtain ⟨q, seen, hstale⟩ := hstale
    exact ⟨_, congrArg s.done hstale, by simp, by rw [State.counts, rd_close]; exact counts_stale s .queue _ _ _, (onlyRegs_close_iff ..).2 (onlyRegs_stale s .queue _ _ _)⟩
  · have hexec : exec (.levelLineChange unit) s = s.done (s.followLine unit) := congrArg s.done (if_pos ⟨hready, hunit⟩)
    refine ⟨_, hexec, by simp [State.followLine], ?_, ?_⟩
    · rw [onlyRegs_close_iff]
      exact onlyRegs_wr (onlyRegs_refl s _) (by simp) _
    · rw [rd_close, State.followLine, rd_wr_same]
      cases s.line unit <;> cases s.on .EV_SRC_ACTIVE (0x3F00 + unit) <;> rfl
  · intro deliv bs
    have hexec : exec .eventDelivery s = s.done (s.deliver n g) := by
      refine congrArg s.done ?_
      simp only [State.eventDelivery, hchoose]
      exact if_neg (by simp [hready, hen])
    obtain ⟨hpend, hact, htgt, hregs⟩ := delivered_leaves s n g
    have hdeliv := rd_delivered_deliv s n g
    obtain ⟨ev, hmsgs, heq⟩ := deliver_eq s n g
    have hmem : sameMem s (delivered s n g) := sameMem_of_eq rfl rfl
    rw [heq] at hexec
    generalize delivered s n g = u at *
    by_cases hmgmt : mgmtTarget g = true
    · rw [if_pos hmgmt] at hexec
      have hlarge : 510 ≤ g := by simpa [mgmtTarget] using hmgmt
      refine ⟨_, hexec, (sameMem_close_iff ..).2 hmem, ?_, ?_, ?_, ?_, fun _ => List.mem_cons_self, fun h => by omega, (onlyRegs_close_iff ..).2 hregs⟩
      · rw [rd_close]
        exact hpend
      · rw [rd_close]
        exact hact
      · rw [rd_close]
        exact htgt
      · rw [rd_close]
        exact hdeliv
    · rw [if_neg hmgmt] at hexec
      have hsmall : g < 510 := by simpa [mgmtTarget] using hmgmt
      refine ⟨_, hexec, (sameMem_close_iff ..).2 hmem, ?_, ?_, ?_, ?_, fun h => by omega, fun _ => by rw [← hmsgs]; rfl, (onlyRegs_close_iff ..).2 hregs⟩
      · rw [rd_close]
        exact hpend
      · rw [rd_close]
        exact hact
      · rw [rd_close]
        exact htgt
      · rw [rd_close]
        exact hdeliv
  · have hexec : exec .eventMessageSend s = s.done
        { s.say (.event d bs) with ev := { s.ev with msgs := rest }, hlp := { s.hlp with evtCred := s.hlp.evtCred - 1 } } := by
      refine congrArg s.done ?_
      simp only [State.eventSend, hmsgs]
      exact if_pos (by simp [State.busMaster, hbme, hcred])
    refine ⟨_, hexec, ?_, ?_, rfl, rfl, rfl⟩
    · rw [sameMem_close_iff]
      exact sameMem_of_eq rfl rfl
    · rw [onlyRegs_close_iff]
      exact fun _ _ _ => rfl
  · have hexec : exec (.eventPendingDiscard n 0 8 v) s = s.done (s.hostWrite (0x710000 + 8 * n) 8 v) := congrArg s.done (if_pos (by omega))
    have hbar : s.barWrite (0x710000 + 8 * n) 8 v = s.srcWrite n 8 0 (v % 2 ^ 64) := by
      have hn' : (0x710000 + 8 * n - 0x710000) / 8 = n := by omega
      rw [barWrite_of_hears_eight hs (by omega), State.place, if_neg (by omega), if_neg (by omega), if_neg (by omega), if_neg (by omega),
        if_pos (by omega), hn']
    obtain ⟨hkept, hregs⟩ := srcWrite_leaves s hn (v % 2 ^ 64)
    rw [does, hexec]
    refine done_hostWrite (by omega) (by omega) (by omega) hbar fun u hmem hrd => ⟨sameMem_trans ?_ hmem, (hrd _ _).trans ?_, (hrd _ _).trans ?_,
      (hrd _ _).trans ?_, fun f i hfi => (hrd f i).trans (hregs f i hfi)⟩
    · exact sameMem_srcWrite s hn _
    · rw [hkept (by decide), rd_regWrite_W1C s v (mem_srcFields (n := n) (f := .EV_SRC_PENDING) (by omega) (by decide)) rfl]
      have hlo : Field.EV_SRC_PENDING.row.bitOf n = Field.EV_SRC_PENDING.row.lo := bitOf_of_step_zero rfl n
      rw [hlo]
      rfl
    · rw [hkept (by decide), ← bitOf_of_step_zero (f := .EV_SRC_PRIO) rfl n]
      exact rd_regWrite_eight s v (mem_srcFields (n := n) (f := .EV_SRC_PRIO) (by omega) (by decide)) rfl
    · rw [hkept (by decide), ← bitOf_of_step_zero (f := .EV_SRC_MASK) rfl n]
      exact rd_regWrite_eight s v (mem_srcFields (n := n) (f := .EV_SRC_MASK) (by omega) (by decide)) rfl
  · have hbar : s.barWrite 0x700000 8 v = s.regWrite 0x700000 8 0 (v % 2 ^ 64) := by
      rw [barWrite_of_hears_eight hs (by decide), ← plainWrite_of_unheld (unheld_of_shared s (by decide +kernel))]
      rfl
    have hm : (Field.EV_CTL_DELIVER_EN, 0) ∈ fieldsAt 0x700000 := mem_fieldsAt.2 (by decide +kernel)
    refine done_hostWrite (by decide) (by decide) (by decide) hbar fun u hmem hrd => ⟨sameMem_trans (sameMem_regWrite s _ _ _ _) hmem,
      fun f i hfi => (hrd f i).trans (onlyRegs_regWrite_eight s _ _ _ f i hfi), (hrd _ _).trans (rd_regWrite_eight s v hm rfl)⟩

end Sys2Proof.Laws

/-! # Lanes

The fetch of a lane record, and the end of a kernel (R138 to R141, R156, R157). -/
namespace Sys2Proof.Laws

open Sys2Proof.Machine

/-! ## What a lane holds -/

theorem eng_lane (s : State) (e : Nat) : (s.lane e).eng = e := by
  unfold State.lane
  cases h : s.lanes.find? (fun l => l.eng == e) with
  | none => rfl
  | some l => simpa using List.find?_some h

theorem lane_setLane_same (s : State) (l : Lane) : (s.setLane l).lane l.eng = l := by
  have hrest : (s.lanes.filter (fun k => k.eng != l.eng)).find? (fun k => k.eng == l.eng) = none := by simp
  simp only [State.lane, State.setLane]
  split
  · rename_i hempty
    rw [hrest, Option.getD_none, ← hempty]
  · rw [List.find?_append, hrest]
    simp

theorem lane_setLane_ne (s : State) {l : Lane} {e : Nat} (h : l.eng ≠ e) : (s.setLane l).lane e = s.lane e := by
  have hrest : (s.lanes.filter (fun k => k.eng != l.eng)).find? (fun k => k.eng == e) = s.lanes.find? (fun k => k.eng == e) := by
    rw [List.find?_filter]
    congr 1
    funext k
    by_cases hk : k.eng = e <;> simp [hk, Ne.symm h]
  simp only [State.lane, State.setLane]
  split
  · rw [hrest]
  · rw [List.find?_append, hrest]
    simp [h]

theorem lane_congr {s t : State} (h : t.lanes = s.lanes) (e : Nat) : t.lane e = s.lane e := by
  rw [State.lane, h]
  rfl

/-! ## The start of a kernel on an engine -/

/-- Engine e's lane once it runs kernel k (R140). -/
def laneStarted (s : State) (e k : Nat) : Lane :=
  { s.lane e with running := some k, grants := ((s.kernel? k).map s.pinnedGrants).getD [], loadAt := s.nextId, since := s.time, moved := s.time }

theorem lanes_startOn (s : State) (e k : Nat) : (s.startOn e k).lanes = (s.setLane (laneStarted s e k)).lanes := by
  unfold State.startOn
  split <;> rfl

theorem ctxs_startOn (s : State) (e k : Nat) : (s.startOn e k).ctxs = s.ctxs := by
  unfold State.startOn
  split <;> rfl

theorem mem_sent_startOn {s : State} {m : Msg} (h : m ∈ s.sent) (e k : Nat) : m ∈ (s.startOn e k).sent := by
  unfold State.startOn
  split
  · exact List.mem_cons_of_mem _ h
  · exact h

theorem rd_stalled_startOn (s : State) (i k : Nat) {e : Nat} (h : i = e ∨ s.rd .LANE_WP_STALLED e = 0) :
    (s.startOn i k).rd .LANE_WP_STALLED e = 0 := by
  unfold State.startOn
  by_cases hi : i = e
  · subst hi
    exact (rd_wr_same _ _ _ _).trans (Nat.zero_mod _)
  · refine (rd_wr_ne _ _ (.inr hi)).trans ((rd_wr_ne _ _ (.inl (by decide))).trans ?_)
    split <;> exact h.resolve_left hi

/-- An engine takes up a kernel, with what is staged for it as it was. -/
theorem lane_startOn (s : State) (e k : Nat) : (s.startOn e k).lane e = laneStarted s e k :=
  have heng : (laneStarted s e k).eng = e := eng_lane s e
  (lane_congr (lanes_startOn s e k) e).trans ((congrArg _ heng.symm).trans (lane_setLane_same s (laneStarted s e k)))

/-! ## A lane that neither starts nor loses its record -/

/-- Engine e runs r and has staged w, which nothing starts by itself: it is busy, or has staged nothing. -/
structure engineAt (e : Nat) (r w : Option Nat) (t : State) : Prop where
  running : (t.lane e).running = r
  shadow : (t.lane e).shadow = w
  still : r ≠ none ∨ w = none

/-- Engine e is idle, has staged nothing, and is in no kernel k. -/
structure offEngine (e k : Nat) (t : State) : Prop where
  engine : engineAt e none none t
  kernels : ∀ j ∈ t.kernels, j.id = k → e ∉ j.left

section
variable {e : Nat} {r w : Option Nat} {t : State}

theorem engineAt.of_lanes {t' : State} (h : engineAt e r w t) (hlanes : t'.lanes = t.lanes) : engineAt e r w t' := by
  have hlane : t'.lane e = t.lane e := by rw [State.lane, hlanes]; rfl
  exact ⟨hlane ▸ h.running, hlane ▸ h.shadow, h.still⟩

/-- A lane whose running and staged records are left as they are, but that a staged record may go. -/
theorem engineAt.setLane (h : engineAt e r w t) {l : Lane} (hl : l.eng = e → l.running = r ∧ l.shadow = w) : engineAt e r w (t.setLane l) := by
  by_cases he : l.eng = e
  · subst he
    refine ⟨?_, ?_, h.still⟩ <;> rw [lane_setLane_same]
    · exact (hl rfl).1
    · exact (hl rfl).2
  · refine ⟨?_, ?_, h.still⟩ <;> rw [lane_setLane_ne _ he]
    · exact h.running
    · exact h.shadow

theorem engineAt.startOn {i : Nat} (h : engineAt e r w t) (hi : i ≠ e) (k : Nat) : engineAt e r w (t.startOn i k) :=
  (h.setLane (l := laneStarted t i k) fun he => absurd ((eng_lane t i).symm.trans he) hi).of_lanes (lanes_startOn t i k)

end

/-- What holds after a pump: it held before, and neither the start of a staged record, nor that a withdrawn record is written
again, nor that ended kernels go changes it. -/
theorem pump_induct {P : State → Prop}
    (hdrop : ∀ t, P t → P t.dropEnded)
    (hstart : ∀ t e k, P t → (t.lane e).running = none → (t.lane e).shadow = some k →
      P ((t.setLane { t.lane e with shadow := none }).startOn e k))
    (hwrite : ∀ t e k f, P t → (∀ x : Kernel, (f x).id = x.id ∧ (f x).left = x.left) →
      P ((t.setLane { t.lane e with queue := [k] }).modKernel k f))
    {t : State} (h : P t) : P t.pump := by
  have hshadows (t : State) (h : P t) : P t.startShadows := by
    refine List.foldlRecOn (motive := P) t.lanes _ h fun t ht l _ => ?_
    dsimp only
    split
    · rename_i k hrun hshadow
      split
      · split
        · exact hstart t _ k ht hrun hshadow
        · exact ht
      · exact ht
    · exact ht
  refine List.foldlRecOn (motive := P) _ _ (hshadows _ (hdrop t h)) fun t ht k _ => ?_
  refine List.foldlRecOn (motive := P) _ _ ht fun t ht e _ => ?_
  dsimp only
  split
  · exact hwrite t e k.id _ ht fun _ => ⟨rfl, rfl⟩
  · exact ht

theorem engineAt.pump {e : Nat} {r w : Option Nat} {t : State} (h : engineAt e r w t) : engineAt e r w t.pump := by
  refine pump_induct (fun t h => h.of_lanes rfl) (fun t i k h hrun hshadow => ?_) (fun t i k f h _ => ?_) h
  · have hi : i ≠ e := by
      rintro rfl
      exact h.still.elim (fun hr => hr (h.running.symm.trans hrun)) fun hw => by
        rw [h.shadow, hw] at hshadow
        cases hshadow
    exact (h.setLane (l := { t.lane i with shadow := none }) fun he => absurd ((eng_lane t i).symm.trans he) hi).startOn hi k
  · have heng : (t.lane i).eng = i := eng_lane t i
    exact (h.setLane (l := { t.lane i with queue := [k] }) fun he => (heng.symm.trans he) ▸ ⟨h.running, h.shadow⟩).of_lanes rfl

theorem mem_sent_pump {m : Msg} {t : State} (h : m ∈ t.sent) : m ∈ t.pump.sent :=
  pump_induct (P := fun t => m ∈ t.sent) (fun _ h => h) (fun _ e k h _ _ => mem_sent_startOn (by exact h) e k) (fun _ _ _ _ h _ => h) h

theorem rd_stalled_pump {e : Nat} {t : State} (h : t.rd .LANE_WP_STALLED e = 0) : t.pump.rd .LANE_WP_STALLED e = 0 :=
  pump_induct (P := fun t => t.rd .LANE_WP_STALLED e = 0) (fun _ h => h) (fun _ i k h _ _ => rd_stalled_startOn _ i k (.inr h)) (fun _ _ _ _ h _ => h) h

theorem ctxs_pump (t : State) : t.pump.ctxs = t.ctxs :=
  pump_induct (P := fun u => u.ctxs = t.ctxs) (fun _ h => h) (fun _ e k h _ _ => (ctxs_startOn _ e k).trans h) (fun _ _ _ _ h _ => h) rfl

theorem sameMem_of_blind {s t : State} (h : ∀ {β : Type} (p : State → β), blindToStop p → p t = p s) : sameMem s t :=
  sameMem_of_eq (h State.hbm ⟨fun _ _ _ _ _ _ _ _ _ _ _ => rfl, fun _ _ _ => rfl, fun _ _ _ _ _ => rfl⟩)
    (h State.wbuf ⟨fun _ _ _ _ _ _ _ _ _ _ _ => rfl, fun _ _ _ => rfl, fun _ _ _ _ _ => rfl⟩)

/-! ## LANE_FETCH (R138 to R140) -/

/-- An engine that takes up kernel k runs it, with what was staged. -/
theorem engineAt_started {s : State} {e k : Nat} {w : Option Nat} (h : (s.lane e).shadow = w) : engineAt e (some k) w (s.startOn e k) :=
  ⟨congrArg Lane.running (lane_startOn s e k), (congrArg Lane.shadow (lane_startOn s e k)).trans h, .inl nofun⟩

/-- The head of engine e's queue is taken, and stands staged as w. -/
def headTaken (s : State) (e : Nat) (w : Option Nat) : Lane := { s.lane e with queue := (s.lane e).queue.drop 1, shadow := w }

section
variable {s : State} {e id : Nat} {rest : List Nat} {k : Kernel}

theorem lane_headTaken (s : State) (e : Nat) (w : Option Nat) : (s.setLane (headTaken s e w)).lane e = headTaken s e w := by
  have heng : (headTaken s e w).eng = e := eng_lane s e
  exact (congrArg _ heng.symm).trans (lane_setLane_same s (headTaken s e w))

theorem laneFetch_of_idle (hqueue : (s.lane e).queue = id :: rest) (hk : s.kernel? id = some k) (hstale : s.staleKernel k = false)
    (hheld : s.laneHeld k = false) (hrun : (s.lane e).running = none) (hshadow : (s.lane e).shadow = none) (hrel : s.released k = true) :
    s.laneFetch e = (((s.setLane (headTaken s e none)).say (.laneRecord e (s.laneBytes e k))).startOn e k.id).pump := by
  have hhead : (s.lane e).queue.head?.bind s.kernel? = some k := by rw [hqueue]; exact hk
  simp only [State.laneFetch, hhead, hstale, hheld, hrel, Option.isNone_iff_eq_none.2 hrun, show (s.lane e).shadow.isSome = false by rw [hshadow]; rfl,
    Bool.or_self, Bool.false_eq_true, if_false, if_true, Bool.not_true]
  rw [headTaken, ← hshadow]

theorem laneFetch_of_busy {j : Nat} (hqueue : (s.lane e).queue = id :: rest) (hk : s.kernel? id = some k) (hstale : s.staleKernel k = false)
    (hheld : s.laneHeld k = false) (hrun : (s.lane e).running = some j) (hpre : k.preloads e = true) (hshadow : (s.lane e).shadow = none) :
    s.laneFetch e = ((s.setLane (headTaken s e (some k.id))).say (.laneRecord e (s.laneBytes e k))).pump := by
  have hhead : (s.lane e).queue.head?.bind s.kernel? = some k := by rw [hqueue]; exact hk
  have hnone : (s.lane e).running.isNone = false := by rw [hrun]; rfl
  simp only [State.laneFetch, hhead, hstale, hheld, hpre, hnone, Option.isNone_iff_eq_none.2 hshadow,
    Bool.or_self, Bool.false_eq_true, if_false, if_true, Bool.and_self]
  rfl

theorem id_of_kernel? (h : s.kernel? id = some k) : k.id = id := by simpa using List.find?_some h

end

/-! ## KERNEL_END_REPORT (R141, R156, R157) -/

/-- The kernels are replaced by others of the same ids, none of which has an engine left that it had not. -/
def kernelsShrink (s t : State) : Prop := ∀ j ∈ t.kernels, ∃ i ∈ s.kernels, j.id = i.id ∧ j.left ⊆ i.left

theorem kernelsShrink_refl {s t : State} (h : t.kernels = s.kernels) : kernelsShrink s t :=
  fun j hj => ⟨j, h ▸ hj, rfl, List.Subset.refl _⟩

theorem kernelsShrink_modKernel (s : State) (k : Nat) {f : Kernel → Kernel} (hf : ∀ x, (f x).id = x.id ∧ (f x).left ⊆ x.left) :
    kernelsShrink s (s.modKernel k f) := by
  intro j hj
  obtain ⟨i, hi, rfl⟩ := List.mem_map.1 hj
  refine ⟨i, hi, ?_⟩
  split
  · exact hf i
  · exact ⟨rfl, List.Subset.refl _⟩

section
variable {e k : Nat} {s t : State}

theorem offEngine.of (h : offEngine e k s) (hengine : engineAt e none none t) (hkernels : kernelsShrink s t) : offEngine e k t :=
  ⟨hengine, fun j hj hid => by
    obtain ⟨i, hi, heq, hsub⟩ := hkernels j hj
    exact fun he => h.kernels i hi (heq ▸ hid) (hsub he)⟩

/-- A step that leaves the lanes and the kernels as they are. -/
theorem offEngine.of_eq (h : offEngine e k s) (hlanes : t.lanes = s.lanes) (hkernels : t.kernels = s.kernels) : offEngine e k t :=
  h.of (h.engine.of_lanes hlanes) (kernelsShrink_refl hkernels)

theorem offEngine.modKernel (h : offEngine e k s) (i : Nat) {f : Kernel → Kernel} (hf : ∀ x, (f x).id = x.id ∧ (f x).left ⊆ x.left) :
    offEngine e k (s.modKernel i f) := h.of (h.engine.of_lanes rfl) (kernelsShrink_modKernel s i hf)

/-- Lane i is changed without a start, and without staging where nothing was staged. -/
theorem offEngine.setLane (h : offEngine e k s) {i : Nat} {f : Lane → Lane}
    (hf : ∀ l, (f l).eng = l.eng ∧ (l.running = none → (f l).running = none) ∧ (l.shadow = none → (f l).shadow = none)) :
    offEngine e k (s.setLane (f (s.lane i))) := by
  refine h.of (h.engine.setLane fun he => ?_) (kernelsShrink_refl rfl)
  obtain ⟨heng, hrun, hshadow⟩ := hf (s.lane i)
  obtain rfl : i = e := (eng_lane s i).symm.trans (heng.symm.trans he)
  exact ⟨hrun h.engine.running, hshadow h.engine.shadow⟩

theorem kernels_startOn (s : State) (e k : Nat) : kernelsShrink s (s.startOn e k) := by
  unfold State.startOn
  split
  · exact kernelsShrink_modKernel (State.setLane (s.say _) _) k (f := fun x => { x with started := some (x.started.getD s.time) })
      fun _ => ⟨rfl, List.Subset.refl _⟩
  · exact kernelsShrink_modKernel (State.setLane s _) k (f := fun x => { x with started := some (x.started.getD s.time) })
      fun _ => ⟨rfl, List.Subset.refl _⟩

theorem offEngine.pump (h : offEngine e k s) : offEngine e k s.pump := by
  refine pump_induct (fun t h => ?_) (fun t i j h hrun hshadow => ?_) (fun t i j f h hf => ?_) h
  · exact h.of (h.engine.of_lanes rfl) fun j hj => ⟨j, List.mem_of_mem_filter hj, rfl, List.Subset.refl _⟩
  · have hi : i ≠ e := by
      rintro rfl
      rw [h.engine.shadow] at hshadow
      cases hshadow
    have hset : offEngine e k (t.setLane { t.lane i with shadow := none }) :=
      h.setLane (f := fun l => { l with shadow := none }) fun _ => ⟨rfl, id, fun _ => rfl⟩
    exact hset.of (hset.engine.startOn hi j) (kernels_startOn _ i j)
  · have hset : offEngine e k (t.setLane { t.lane i with queue := [j] }) :=
      h.setLane (f := fun l => { l with queue := [j] }) fun _ => ⟨rfl, id, id⟩
    exact hset.modKernel j fun x => ⟨(hf x).1, (hf x).2 ▸ List.Subset.refl _⟩

/-- Engine e's lane once its kernel is over. -/
def laneRelieved (s : State) (e : Nat) : Lane := { s.lane e with running := none, stopReq := false, killReq := none, wish := none }

theorem lane_laneRelieved (s : State) (e : Nat) : (s.setLane (laneRelieved s e)).lane e = laneRelieved s e := by
  have heng : (laneRelieved s e).eng = e := eng_lane s e
  exact (congrArg _ heng.symm).trans (lane_setLane_same s (laneRelieved s e))

/-- An engine that has staged nothing is off its kernel when the kernel ends there. -/
theorem offEngine_laneEnd (hshadow : (s.lane e).shadow = none) : offEngine e k (s.laneEnd e k) := by
  have hset : engineAt e none none (s.setLane (laneRelieved s e)) :=
    ⟨congrArg Lane.running (lane_laneRelieved s e), (congrArg Lane.shadow (lane_laneRelieved s e)).trans hshadow, .inr rfl⟩
  refine offEngine.pump ⟨hset.of_lanes rfl, fun j hj hid => ?_⟩
  obtain ⟨i, -, rfl⟩ := List.mem_map.1 (show j ∈ updAll s.kernels (fun x => x.id == k) fun x => { x with left := x.left.filter (fun w => w != e) } from hj)
  by_cases hi : i.id = k
  · simp [hi]
  · simp [hi] at hid

end

/-! ## The stop of a pour's tree leaves an idle engine idle (R155) -/

section
variable {e k : Nat} {s t : State}

theorem offEngine.refuseSpawn (h : offEngine e k s) (x : Ctx) (w : SpawnWish) (code : Nat) : offEngine e k (s.refuseSpawn x w code) := by
  have hcount : offEngine e k ((s.bump .SEQ_SPAWN_REFUSED).wr .SEQ_ERR_SPAWN_REFUSED 1) := h.of_eq rfl rfl
  simp only [State.refuseSpawn]
  split
  · exact (hcount.setLane (f := fun l => { l with wish := none }) fun _ => ⟨rfl, id, id⟩).of_eq rfl rfl
  · split
    · exact hcount.of_eq rfl rfl
    · exact hcount.of_eq (raise_keeps State.lanes (fun _ _ _ _ => rfl) _ _) (raise_keeps State.kernels (fun _ _ _ _ => rfl) _ _)

theorem offEngine.refuseTree (h : offEngine e k s) (r : Nat) : offEngine e k (s.refuseTree r) := by
  refine List.foldlRecOn (motive := offEngine e k) _ _ (List.foldlRecOn (motive := offEngine e k) _ _ h fun t ht x _ => ?_) fun t ht l _ => ?_
  · split
    · exact ht.refuseSpawn _ _ _
    · exact ht
  · split
    · split
      · split
        · split
          · exact ht.refuseSpawn _ _ _
          · exact ht
        · exact ht
      · exact ht
    · exact ht

theorem offEngine.removeUnstarted (h : offEngine e k s) (j : Kernel) : offEngine e k (s.removeUnstarted j) := by
  refine offEngine.modKernel (List.foldlRecOn (motive := offEngine e k) _ _ h fun t ht i _ => ?_) j.id
    (f := fun x => { x with left := x.left.filter _, unwritten := [] }) fun x => ⟨rfl, List.filter_subset_self _⟩
  exact ht.setLane (f := fun l => { l with queue := l.queue.filter (fun n => n != j.id),
                                           shadow := if l.shadow = some j.id then none else l.shadow })
    fun l => ⟨rfl, id, fun hl => by simp [hl]⟩

theorem offEngine.stopKernel (h : offEngine e k s) (j : Kernel) : offEngine e k (s.stopKernel j) := by
  refine List.foldlRecOn (motive := offEngine e k) _ _ (h.modKernel j.id (f := fun x => { x with stopping := true })
    fun _ => ⟨rfl, List.Subset.refl _⟩) fun t ht i _ => ?_
  dsimp only
  split
  · exact (ht.setLane (f := fun l => { l with stopReq := true }) fun _ => ⟨rfl, id, id⟩).of_eq rfl rfl
  · exact ht

theorem offEngine.stopTree (h : offEngine e k s) (r : Nat) : offEngine e k (s.stopTree r true) := by
  refine offEngine.pump (List.foldlRecOn (motive := offEngine e k) _ _ ?_ fun t ht j _ => (ht.removeUnstarted j).stopKernel j)
  exact (h.refuseTree r).of_eq rfl rfl

theorem offEngine.endTree (h : offEngine e k s) (r : Nat) (c : EndCause) : offEngine e k (s.endTree r c) := by
  unfold State.endTree
  split
  · exact h
  · split
    · exact h
    · split
      · exact h
      · exact (h.stopTree r).of_eq rfl rfl

end

/-! ## Why a kernel ends -/

theorem ctxs_laneEnd (s : State) (e k : Nat) : (s.laneEnd e k).ctxs = s.ctxs := ctxs_pump _

theorem blindToStop.laneEnd {β : Type} {p : State → β} (h : blindToStop p) (hfences : ∀ (t : State) f, p { t with fences := f } = p t)
    (s : State) (e k : Nat) : p (s.laneEnd e k) = p s :=
  (h.pump _).trans <| (hfences _ _).trans <| (h.lanes (State.wr _ .LANE_WP_STALLED 0 e) _ _).trans <|
    (h.regs _ _ _ _ (by simp [stopRegs])).trans <| (h.modKernel _ _ _).trans (h.setLane _ _)

theorem sameMem_laneEnd (s : State) (e k : Nat) : sameMem s (s.laneEnd e k) :=
  sameMem_of_eq
    (blindToStop.laneEnd (p := State.hbm) ⟨fun _ _ _ _ _ _ _ _ _ _ _ => rfl, fun _ _ _ => rfl, fun _ _ _ _ _ => rfl⟩ (fun _ _ => rfl) s e k)
    (blindToStop.laneEnd (p := State.wbuf) ⟨fun _ _ _ _ _ _ _ _ _ _ _ => rfl, fun _ _ _ => rfl, fun _ _ _ _ _ => rfl⟩ (fun _ _ => rfl) s e k)

theorem ctx_laneEnd (s : State) (e k c : Nat) : (s.laneEnd e k).ctx? c = s.ctx? c := by
  simp only [State.ctx?, ctxs_laneEnd]

section
variable (s : State) (e : Nat) (k : Kernel)

/-- The registers that an engine's exception moves. -/
def exceptionRegs : List Field := [.FL_EXC_ENGINE, .FL_EXC_QUEUE, .FL_EXC_QGEN, .FL_CAUSE_EXCEPTION, .EV_SRC_PENDING, .EV_STATS_MERGED]

/-- A raise moves only the mark of its source or the count of merged raises (R358). -/
theorem raise_of_keeps {β : Type} (p : State → β) (hpend : ∀ (t : State) v i, p (t.wr .EV_SRC_PENDING v i) = p t)
    (hmerge : ∀ (t : State) v i, p (t.wr .EV_STATS_MERGED v i) = p t) (s : State) (n : Nat) : p (s.raise n) = p s := by
  unfold State.raise
  split
  · exact hmerge s _ _
  · exact hpend s _ _

/-- The cause registers of a flask whose kernel k met an exception on engine e. -/
def exceptionNoted : State :=
  (if s.on .FL_CAUSE_EXCEPTION k.flask then s
   else ((s.wr .FL_EXC_ENGINE e k.flask).wr .FL_EXC_QUEUE k.pour.queue k.flask).wr .FL_EXC_QGEN k.pour.qgen k.flask).flaskCause k.flask .FL_CAUSE_EXCEPTION

theorem exceptionNoted_keeps {β : Type} (p : State → β) (hwr : ∀ (t : State) f v i, f ∈ exceptionRegs → p (t.wr f v i) = p t) :
    p (exceptionNoted s e k) = p s := by
  refine (raise_of_keeps p (fun t v i => hwr t _ v i (by simp [exceptionRegs])) (fun t v i => hwr t _ v i (by simp [exceptionRegs])) _ _).trans ?_
  refine (hwr _ _ _ _ (by simp [exceptionRegs])).trans ?_
  split
  · rfl
  · exact (hwr _ _ _ _ (by simp [exceptionRegs])).trans ((hwr _ _ _ _ (by simp [exceptionRegs])).trans (hwr _ _ _ _ (by simp [exceptionRegs])))

/-- The flask of kernel k is among those that have met a fault. -/
def faultListed : State :=
  { exceptionNoted s e k with
    faulted := if (exceptionNoted s e k).faulted.contains k.flask then (exceptionNoted s e k).faulted else (exceptionNoted s e k).faulted ++ [k.flask] }

theorem engineException_eq : s.engineException e k =
    if (faultListed s e k).on .FL_AUTO_RESET k.flask then (faultListed s e k).callFlask k.flask else faultListed s e k := rfl

theorem engineException_keeps {β : Type} (p : State → β) (hwr : ∀ (t : State) f v i, f ∈ exceptionRegs → p (t.wr f v i) = p t)
    (hfault : ∀ (t : State) l c, p { t with faulted := l, calls := c } = p t) : p (s.engineException e k) = p s := by
  have hlisted : p (faultListed s e k) = p s := (hfault _ _ (exceptionNoted s e k).calls).trans (exceptionNoted_keeps s e k p hwr)
  rw [engineException_eq]
  split
  · exact (hfault (faultListed s e k) (faultListed s e k).faulted _).trans hlisted
  · exact hlisted

theorem mem_faulted_engineException : k.flask ∈ (s.engineException e k).faulted := by
  have hmem : k.flask ∈ (faultListed s e k).faulted := by
    simp only [faultListed]
    split
    · rename_i h
      exact List.contains_iff_mem.1 h
    · simp
  rw [engineException_eq]
  split
  · exact hmem
  · exact hmem

theorem rd_cause_engineException : (s.engineException e k).rd .FL_CAUSE_EXCEPTION k.flask = 1 := by
  have hcause : (faultListed s e k).rd .FL_CAUSE_EXCEPTION k.flask = 1 :=
    (onlyRegs_raised _ _ _ _ (by simp)).trans (rd_wr_same _ _ _ _)
  rw [engineException_eq]
  split
  · exact hcause
  · exact hcause

end

section
variable {s : State} {e c r p : Nat} {k : Kernel} {x : Ctx}

theorem kernelEnd_of_gone (hready : s.ready = true) (hx : s.ctx? c = none) (st : EndStatus) : s.kernelEnd e c r p st = s.dropReport p := by
  simp [State.kernelEnd, State.inReset, hready, State.staleReport, hx]

/-- A report of the record that the engine runs. -/
theorem kernelEnd_of_current (hready : s.ready = true) (hk : (s.lane e).running.bind s.kernel? = some k) (hx : s.ctx? c = some x)
    (hnew : (x.mgmt = true ∧ x.pour.word = p) ∨ bits p 44 8 = s.rd .QCTX_GEN (p / 2 ^ 52)) (hc : k.ctx = c) (hr : k.index = r) (hp : k.pour.word = p)
    (hreset : s.flaskResetting k.flask = false) (st : EndStatus) :
    s.kernelEnd e c r p st = match st with
      | .ok | .stopped | .killed | .xlate => s.laneEnd e k.id
      | .crcFail => if x.mgmt then (s.laneEnd e k.id).mgmtFault x else (s.laneEnd e k.id).endPour c 4 0
      | .exception => if x.mgmt then (s.laneEnd e k.id).mgmtFault x else (s.laneEnd e k.id).engineException e k := by
  have hold : s.oldReport (some c) p = false := by
    simp only [State.oldReport, Option.bind_some, hx, Option.any_some, Bool.and_eq_false_iff, Bool.not_eq_false']
    exact hnew.imp (fun h => by simp [h]) fun h => by simp [h]
  cases st <;> simp [State.kernelEnd, State.inReset, hready, State.staleReport, hx, hold, hk, hc, hr, hp, hreset]

end

/-- A pour whose kernel ended with a wrong check takes the cause, and its engine stays off the kernel. -/
theorem endPour_of_crcFail {s : State} {e i c : Nat} {x z : Ctx} (h : offEngine e i s) (hx : s.ctx? c = some x) (hz : s.ctx? x.root = some z)
    (hcause : z.cause = none) (hstamp : z.stamp = .none) : offEngine e i (s.endPour c 4 0) ∧
      ∃ y, (s.endPour c 4 0).ctx? x.root = some y ∧ y.cause = some { kind := .error, status := 4, detail := 0 } := by
  simp only [State.endPour, hx]
  exact ⟨h.endTree _ _, cause_endTree hz hcause hstamp _⟩

/-- Settles O33: a fetch takes the head of the lane, and the report of an end takes the engine from its kernel; what follows
from a changed lane neither starts nor stages anything there. -/
theorem lanesRunKernels : Obligations.LanesRunKernels := by
  unfold Obligations.LanesRunKernels
  refine ⟨fun s e id rest k hqueue hk hstale hheld => ⟨fun hrun hshadow hrel => ?_, fun j hrun hpre hshadow => ?_⟩,
    fun s e c r p k hready hk => ⟨fun hx st l => ?_, fun x l hx hnew hc hr hp hreset hshadow => ?_⟩⟩
  · refine ⟨_, congrArg s.after (laneFetch_of_idle hqueue hk hstale hheld hrun hshadow hrel), ?_⟩
    have hat := engineAt_started (s := (s.setLane (headTaken s e none)).say (.laneRecord e (s.laneBytes e k))) (e := e) (k := k.id)
      (congrArg Lane.shadow (lane_headTaken s e none))
    refine ⟨sameMem_of_blind fun p hp => (hp.pump _).trans ((hp.startOn _ _ _).trans ((hp.say _ _).trans (hp.setLane _ _))), ?_,
      mem_sent_pump (mem_sent_startOn List.mem_cons_self _ _), rd_stalled_pump (rd_stalled_startOn _ _ _ (.inl rfl))⟩
    exact id_of_kernel? hk ▸ hat.pump.running
  · refine ⟨_, congrArg s.after (laneFetch_of_busy hqueue hk hstale hheld hrun hpre hshadow), ?_⟩
    have hat : engineAt e (some j) (some k.id) ((s.setLane (headTaken s e (some k.id))).say (.laneRecord e (s.laneBytes e k))) :=
      ⟨(congrArg Lane.running (lane_headTaken s e _)).trans hrun, congrArg Lane.shadow (lane_headTaken s e _), .inl nofun⟩
    refine ⟨sameMem_of_blind fun p hp => (hp.pump _).trans ((hp.say _ _).trans (hp.setLane _ _)), hat.pump.running,
      id_of_kernel? hk ▸ hat.pump.shadow, mem_sent_pump List.mem_cons_self⟩
  · exact ⟨_, congrArg s.after (kernelEnd_of_gone hready hx st), sameMem_of_eq rfl rfl, counts_stale .., rfl, rfl⟩
  · have hend := kernelEnd_of_current hready hk hx hnew hc hr hp hreset
    have hoff : offEngine e k.id (s.laneEnd e k.id) := offEngine_laneEnd hshadow
    refine ⟨⟨_, congrArg s.after (hend .ok), sameMem_laneEnd s e k.id, hoff.engine.running, hoff.kernels⟩, fun z hmgmt hz hcause hstamp => ?_,
      fun hmgmt => ?_⟩
    · have hcrc := hend .crcFail
      simp only [hmgmt, Bool.false_eq_true, if_false] at hcrc
      obtain ⟨hoff', hy⟩ := endPour_of_crcFail hoff ((ctx_laneEnd s e _ c).trans hx) ((ctx_laneEnd s e _ _).trans hz) hcause hstamp
      exact ⟨_, congrArg s.after hcrc, ⟨hoff'.engine.running, hoff'.kernels⟩, hy⟩
    · have hexc := hend .exception
      simp only [hmgmt, Bool.false_eq_true, if_false] at hexc
      have hoff' : offEngine e k.id ((s.laneEnd e k.id).engineException e k) := hoff.of_eq
        (engineException_keeps _ e k State.lanes (fun _ _ _ _ _ => rfl) fun _ _ _ => rfl)
        (engineException_keeps _ e k State.kernels (fun _ _ _ _ _ => rfl) fun _ _ _ => rfl)
      exact ⟨_, congrArg s.after hexc, ⟨hoff'.engine.running, hoff'.kernels⟩, mem_faulted_engineException _ e k, rd_cause_engineException _ e k⟩

end Sys2Proof.Laws

/-! # Faults of translations

What a fault leaves alone (R229 to R232). -/
namespace Sys2Proof.Laws

open Sys2Proof.Machine

/-- The registers that a fault moves, besides those of the stop of its pour and of an error record. -/
def faultRegs : List Field := [.XL_FRING_PTRS_WR_IDX, .XL_FLASK_NEXT_ID, .XL_FAULTS_RECORDED, .XL_FAULTS_UNRECORDED, .XL_ERR_FRING_FULL,
  .XL_ERR_BAD_ATLAS, .EV_SRC_PENDING, .EV_STATS_MERGED, .RAS_COUNT_REC_LOST, .RAS_ERR_REC_FULL, .RAS_REC_PTRS_WR_IDX]

/-- A view of the state in which neither the end of a pour nor a fault and its record show. -/
structure blindToFault {β : Type} (p : State → β) : Prop extends blindToStop p where
  stores : blindToStores p
  calls : ∀ (t : State) n c rf gs, p { t with nextId := n, calls := c, xl := { t.xl with ringFull := rf, grants := gs } } = p t
  faults : ∀ (t : State) f v i, f ∈ faultRegs → p (t.wr f v i) = p t

namespace blindToFault

section
variable {β : Type} {p : State → β} (h : blindToFault p)
include h

theorem raise (t : State) (n : Nat) : p (t.raise n) = p t := by
  unfold State.raise
  split
  · exact h.faults t _ _ _ (by simp [faultRegs])
  · exact h.faults t _ _ _ (by simp [faultRegs])

theorem mgmtFault (t : State) (x : Ctx) : p (t.mgmtFault x) = p t :=
  (h.calls (t.ras _) (t.ras _).nextId _ (t.ras _).xl.ringFull (t.ras _).xl.grants).trans
    (ras_keeps h.stores (fun u f v hf => h.faults u f v 0 (by revert hf; simp [recordRegs, faultRegs]; tauto)) t _)

theorem answer (t : State) (a : Ask) (r : Ans) : p (t.answer a r) = p t := by
  unfold State.answer
  split
  · exact h.asks t _ t.xl.helds
  · split
    · exact (h.say _ _).trans ((h.calls { t with xl := { t.xl with asks := _ } } _ t.calls t.xl.ringFull _).trans (h.asks t _ t.xl.helds))
    · exact (h.say _ _).trans (h.asks t _ t.xl.helds)
  · exact h.asks t _ t.xl.helds

theorem dropAsk (t : State) (a : Ask) : p (t.dropAsk a) = p t := h.asks t _ t.xl.helds
theorem releaseIdle (t : State) : p t.releaseIdle = p t := h.asks t t.xl.asks _
theorem forget (t : State) (o : Owner) : p (t.forget o) = p t := (h.releaseIdle _).trans (h.asks t _ t.xl.helds)

theorem faultLost (t : State) (f : Nat) : p (t.faultLost f) = p t := by
  have hcount : p ((t.bump .XL_FAULTS_UNRECORDED).wr .XL_ERR_FRING_FULL 1) = p t :=
    (h.faults _ _ _ _ (by simp [faultRegs])).trans (h.faults _ _ _ _ (by simp [faultRegs]))
  simp only [State.faultLost]
  split
  · exact hcount
  · generalize (t.bump .XL_FAULTS_UNRECORDED).wr .XL_ERR_FRING_FULL 1 = u at *
    have hraise := h.raise u (0x22C0 + f)
    have hxl : (u.raise (0x22C0 + f)).xl = u.xl := raise_keeps State.xl (fun _ _ _ _ => rfl) u _
    generalize u.raise (0x22C0 + f) = r at *
    rw [← hxl]
    exact (h.calls r r.nextId r.calls _ r.xl.grants).trans (hraise.trans hcount)

theorem faultWrite (t : State) (f : Nat) (bs : List Byte) : p (t.faultWrite f bs) = p t := by
  simp only [State.faultWrite]
  refine (ownWrite_keeps h.stores (q := .event (0x2280 + f)) (fun u => h.raise u _) _ _ _ _ _ _).trans ?_
  exact (h.faults _ _ _ _ (by simp [faultRegs])).trans ((h.faults _ _ _ _ (by simp [faultRegs])).trans (h.faults _ _ _ _ (by simp [faultRegs])))

theorem badAtlas (t : State) (k : Nat) : p (t.badAtlas k) = p t := by
  unfold State.badAtlas
  split
  · exact h.faults t _ _ _ (by simp [faultRegs])
  · rfl

theorem faultEnd (t : State) (a : Ask) (x : Ctx) (kind level : Nat) : p (t.faultEnd a x kind level) = p t := by
  unfold State.faultEnd
  refine (h.endPour _ _ _ _).trans ((h.answer _ _ _).trans ?_)
  split
  · exact h.faultWrite _ _ _
  · exact h.faultLost _ _

theorem bumpUnrecorded (t : State) : p (t.bump .XL_FAULTS_UNRECORDED) = p t := h.faults t _ _ _ (by simp [faultRegs])

/-- A fault that no held record takes: it makes a record that is held, or its pour ends. -/
theorem faultHeld (t : State) (a : Ask) (x : Ctx) (kind level : Nat) :
    p (let fid := t.rd .XL_FLASK_NEXT_ID x.flask
       let u := t.faultWrite x.flask (t.faultBytes a x kind level fid true)
       State.releaseIdle { u with xl := { u.xl with
         asks := updAll u.xl.asks (fun b => b.id == a.id) (fun b => { b with wait := .held x.flask fid })
         helds := u.xl.helds ++ [{ flask := x.flask, fid := fid, slot := a.slot, region := a.va / sheet32M, kind := kind }] } }) = p t := by
  dsimp only
  have hwrite := h.faultWrite t x.flask (t.faultBytes a x kind level (t.rd .XL_FLASK_NEXT_ID x.flask) true)
  generalize t.faultWrite x.flask (t.faultBytes a x kind level (t.rd .XL_FLASK_NEXT_ID x.flask) true) = w at *
  exact (h.releaseIdle _).trans ((h.asks w _ _).trans hwrite)

theorem faultAsk (t : State) (a : Ask) (kind level : Nat) (mayHold twin : Bool) : p (t.faultAsk a kind level mayHold twin) = p t := by
  have hbad := h.badAtlas t kind
  unfold State.faultAsk
  generalize t.badAtlas kind = u at *
  refine Eq.trans ?_ hbad
  dsimp only
  split
  · exact (h.bumpUnrecorded _).trans (h.dropAsk _ _)
  · rename_i x _
    by_cases hmgmt : x.mgmt = true
    · rw [if_pos hmgmt]
      exact (h.mgmtFault _ _).trans (h.answer _ _ _)
    · rw [if_neg hmgmt]
      by_cases hdrop : (u.failing x && !twin) = true
      · rw [if_pos hdrop]
        exact (h.bumpUnrecorded _).trans (h.dropAsk _ _)
      · rw [if_neg hdrop]
        have hrest : p (match u.xl.helds.find? (fun g => g.slot == a.slot && g.region == a.va / sheet32M && g.flask == x.flask) with
          | some g => if (mayHold && resumable kind && !x.rt) = true then
              { u with xl := { u.xl with asks := updAll u.xl.asks (fun b => b.id == a.id) (fun b => { b with wait := .held x.flask g.fid }) } }
            else u.faultEnd a x kind level
          | none => if (mayHold && resumable kind && !x.rt && u.on .XL_FLASK_STALL x.flask && decide (u.heldCount x.flask < 16) && u.faultRoom x.flask) = true then
              (let fid := u.rd .XL_FLASK_NEXT_ID x.flask
               let w := u.faultWrite x.flask (u.faultBytes a x kind level fid true)
               State.releaseIdle { w with xl := { w.xl with
                 asks := updAll w.xl.asks (fun b => b.id == a.id) (fun b => { b with wait := .held x.flask fid })
                 helds := w.xl.helds ++ [{ flask := x.flask, fid := fid, slot := a.slot, region := a.va / sheet32M, kind := kind }] } })
            else u.faultEnd a x kind level) = p u := by
          split
          · split
            · exact h.asks u _ u.xl.helds
            · exact h.faultEnd _ _ _ _ _
          · split
            · exact h.faultHeld u a x kind level
            · exact h.faultEnd _ _ _ _ _
        split
        · rw [if_pos rfl]
          exact h.answer _ _ _
        · rw [if_neg (by decide)]
          exact hrest

theorem faultNow (t : State) (who : Requester) (c va : Nat) (acc : Acc) (kind level : Nat) : p (t.faultNow who c va acc kind level) = p t := by
  have hbad := h.badAtlas t kind
  unfold State.faultNow
  generalize t.badAtlas kind = u at *
  refine Eq.trans ?_ hbad
  dsimp only
  split
  · exact h.bumpUnrecorded _
  · split
    · exact h.mgmtFault _ _
    · split
      · exact h.bumpUnrecorded _
      · exact h.faultEnd _ _ _ _ _

theorem settleAsk (t : State) (a : Ask) (l : Leaf) (twin : Bool) : p (t.settleAsk a l twin) = p t := by
  unfold State.settleAsk
  split
  · exact h.dropAsk _ _
  · split
    · exact h.answer _ _ _
    · exact h.answer _ _ _
    · split
      · exact h.faultAsk _ _ _ _ _ _
      · exact h.answer _ _ _

theorem faultWalk (hwalk : ∀ (t : State) ws, p { t with xl := { t.xl with walks := ws } } = p t) (t : State) (w kind level : Nat) :
    p (t.faultWalk w kind level) = p t := by
  refine (foldl_keeps p (fun u a => ?_) _ _).trans (hwalk t _)
  split
  · exact h.faultAsk _ _ _ _ _ _
  · rfl

theorem finishWalk (hwalk : ∀ (t : State) ws, p { t with xl := { t.xl with walks := ws } } = p t) (t : State) (w : Nat) (l : Leaf) :
    p (t.finishWalk w l) = p t := by
  refine (foldl_keeps p (fun u a => ?_) _ _).trans (hwalk t _)
  split
  · exact h.settleAsk _ _ _ _
  · rfl

end

/-- A register that neither a stop nor a fault moves. -/
theorem of_rd {f : Field} (hstop : f ∉ stopRegs) (hf : f ∉ faultRegs) (i : Nat) : blindToFault (fun t => t.rd f i) where
  units _ _ _ _ _ _ _ _ _ _ _ := rfl
  ctxs _ _ _ := rfl
  regs t _ v _ hg := rd_wr_ne t v (.inl (ne_of_mem_of_not_mem hg hstop))
  stores _ _ _ _ _ _ := rfl
  calls _ _ _ _ _ := rfl
  faults t _ v _ hg := rd_wr_ne t v (.inl (ne_of_mem_of_not_mem hg hf))

/-- The invalidations are not the business of a fault. -/
theorem of_invs : blindToFault (fun t : State => t.xl.invs) where
  units _ _ _ _ _ _ _ _ _ _ _ := rfl
  ctxs _ _ _ := rfl
  regs _ _ _ _ _ := rfl
  stores _ _ _ _ _ _ := rfl
  calls _ _ _ _ _ := rfl
  faults _ _ _ _ _ := rfl

end blindToFault

end Sys2Proof.Laws

/-! # Invalidations

How an invalidation runs to its end (R211, R223 to R226). -/
namespace Sys2Proof.Laws

open Sys2Proof.Machine

/-! ## The stop of a tree takes back no message -/

section
variable {m : Msg} {t : State}

theorem mem_sent_refuseSpawn (h : m ∈ t.sent) (x : Ctx) (w : SpawnWish) (code : Nat) : m ∈ (t.refuseSpawn x w code).sent := by
  simp only [State.refuseSpawn]
  split
  · exact List.mem_cons_of_mem _ h
  · split
    · exact h
    · refine (raise_keeps State.sent (fun _ _ _ _ => rfl) ((t.bump .SEQ_SPAWN_REFUSED).wr .SEQ_ERR_SPAWN_REFUSED 1) (0x1000 + x.pour.queue)).symm ▸ ?_
      exact h

theorem mem_sent_refuseTree (h : m ∈ t.sent) (r : Nat) : m ∈ (t.refuseTree r).sent := by
  refine List.foldlRecOn (motive := fun t : State => m ∈ t.sent) _ _
    (List.foldlRecOn (motive := fun t : State => m ∈ t.sent) _ _ h fun t ht x _ => ?_) fun t ht l _ => ?_
  · split
    · exact mem_sent_refuseSpawn ht _ _ _
    · exact ht
  · split
    · split
      · split
        · split
          · exact mem_sent_refuseSpawn ht _ _ _
          · exact ht
        · exact ht
      · exact ht
    · exact ht

theorem mem_sent_stopKernel (h : m ∈ t.sent) (k : Kernel) : m ∈ (t.stopKernel k).sent := by
  refine List.foldlRecOn (motive := fun t : State => m ∈ t.sent) _ _ h fun t ht e _ => ?_
  dsimp only
  split
  · exact List.mem_cons_of_mem _ ht
  · exact ht

theorem sent_removeUnstarted (t : State) (k : Kernel) : (t.removeUnstarted k).sent = t.sent :=
  foldl_keeps State.sent (fun u e => by rfl) (k.left.filter (fun e => (t.lane e).running != some k.id)) t

theorem mem_sent_stopTree (h : m ∈ t.sent) (r : Nat) : m ∈ (t.stopTree r true).sent :=
  mem_sent_pump (List.foldlRecOn (motive := fun t : State => m ∈ t.sent) _ _ (mem_sent_refuseTree h r) fun t ht k _ =>
    mem_sent_stopKernel ((sent_removeUnstarted t k).symm ▸ ht) k)

theorem mem_sent_endTree (h : m ∈ t.sent) (r : Nat) (c : EndCause) : m ∈ (t.endTree r c).sent := by
  unfold State.endTree
  split
  · exact h
  · split
    · exact h
    · split
      · exact h
      · exact mem_sent_stopTree h r

theorem mem_sent_endPour (h : m ∈ t.sent) (c status detail : Nat) : m ∈ (t.endPour c status detail).sent := by
  unfold State.endPour
  split
  · exact h
  · exact mem_sent_endTree h _ _

theorem mem_sent_laneEnd (h : m ∈ t.sent) (e k : Nat) : m ∈ (t.laneEnd e k).sent := mem_sent_pump h

/-- Messages to many, each once. -/
theorem sent_foldl_say {α : Type} (f : α → Msg) (l : List α) (s : State) {P : State → Prop} (hP : P s) (hsay : ∀ t m, P t → P (State.say t m)) :
    P (l.foldl (fun t a => t.say (f a)) s) ∧ ∀ a ∈ l, f a ∈ (l.foldl (fun t a => t.say (f a)) s).sent := by
  induction l generalizing s with
  | nil => exact ⟨hP, nofun⟩
  | cons b l ih =>
    obtain ⟨hend, hall⟩ := ih (s.say (f b)) (hsay s _ hP)
    refine ⟨hend, fun a ha => ?_⟩
    rcases List.mem_cons.1 ha with rfl | ha
    · exact List.foldlRecOn (motive := fun t : State => f a ∈ t.sent) l _ (b := s.say (f a)) List.mem_cons_self fun t ht _ _ => List.mem_cons_of_mem _ ht
    · exact hall a ha

end

/-! ## What the start of an invalidation leaves alone (R223, R241) -/

/-- The registers of a hot-sheet counter. -/
def hotRegs : List Field := [.TIER_HOT_VALID, .TIER_HOT_FLAGGED, .TIER_HOT_SIZE, .TIER_HOT_SLOT, .TIER_HOT_VA, .TIER_HOT_COUNT, .TIER_HOT_LOCAL]

theorem disarm_of_hot {β : Type} {p : State → β} (hwr : ∀ (t : State) f v i, f ∈ hotRegs → p (t.wr f v i) = p t) (s : State) (i : Nat) :
    p (s.disarm i) = p s :=
  List.foldlRecOn (motive := fun u => p u = p s) hotRegs (fun (u : State) f => u.rst f i) (b := s) rfl fun u hu f hf => (hwr u f (f.resetAt i) i hf).trans hu

theorem disarmIf_of_hot {β : Type} {p : State → β} (hwr : ∀ (t : State) f v i, f ∈ hotRegs → p (t.wr f v i) = p t) (s : State) (q : Nat → Bool) :
    p (s.disarmIf q) = p s := by
  refine foldl_keeps p (fun t i => ?_) _ s
  split
  · exact disarm_of_hot hwr t i
  · rfl

/-- A view of the state in which the start of invalidations does not show. -/
structure blindToInvs {β : Type} (p : State → β) : Prop where
  units : ∀ (t : State) sent ctxs lanes xl, p { t with sent := sent, ctxs := ctxs, lanes := lanes, xl := xl } = p t
  hot : ∀ (t : State) f v i, f ∈ hotRegs → p (t.wr f v i) = p t

namespace blindToInvs

section
variable {β : Type} {p : State → β} (h : blindToInvs p)
include h

theorem xl (t : State) (x) : p { t with xl := x } = p t := h.units t t.sent t.ctxs t.lanes x

theorem startInv (t : State) (v : Inv) : p (t.startInv v) = p t := by
  have hlast (u : State) (ls : List Lane) (m : Msg) : p (State.say { u with lanes := ls } m) = p u := h.units u _ u.ctxs ls u.xl
  refine (hlast _ _ _).trans ((disarmIf_of_hot h.hot _ _).trans ?_)
  exact h.units t t.sent _ t.lanes _

theorem pumpInvs (t : State) : p t.pumpInvs = p t := by
  refine foldl_keeps p (fun t v => ?_) _ t
  split
  · dsimp only
    split
    · exact h.startInv _ _
    · rfl
  · rfl

end

theorem of_rd {f : Field} (hf : f ∉ hotRegs) (i : Nat) : blindToInvs (fun t => t.rd f i) where
  units _ _ _ _ _ := rfl
  hot t _ v _ hg := rd_wr_ne t v (.inl (ne_of_mem_of_not_mem hg hf))

end blindToInvs

theorem sameMem_pumpInvs (s : State) : sameMem s s.pumpInvs :=
  sameMem_of_eq (blindToInvs.pumpInvs (p := State.hbm) ⟨fun _ _ _ _ _ => rfl, fun _ _ _ _ _ => rfl⟩ s)
    (blindToInvs.pumpInvs (p := State.wbuf) ⟨fun _ _ _ _ _ => rfl, fun _ _ _ _ _ => rfl⟩ s)

theorem ids_startInv (s : State) (v : Inv) : (s.startInv v).xl.invs.map Inv.id = s.xl.invs.map Inv.id := by
  rw [startInv_invs, updAll, List.map_map]
  refine List.map_congr_left fun x _ => ?_
  by_cases h : x.id = v.id <;> simp [h]

theorem ids_pumpInvs (s : State) : s.pumpInvs.xl.invs.map Inv.id = s.xl.invs.map Inv.id := by
  refine foldl_keeps (fun t : State => t.xl.invs.map Inv.id) (fun t v => ?_) _ s
  split
  · dsimp only
    split
    · exact ids_startInv t _
    · rfl
  · rfl

theorem mem_sent_pumpInvs {m : Msg} {s : State} (h : m ∈ s.sent) : m ∈ s.pumpInvs.sent := by
  refine List.foldlRecOn (motive := fun t : State => m ∈ t.sent) _ _ h fun t ht v _ => ?_
  split
  · dsimp only
    split
    · exact List.mem_cons_of_mem _ ((disarmIf_of_hot (p := State.sent) (fun _ _ _ _ _ => rfl) _ _).symm ▸ ht)
    · exact ht
  · exact ht

/-! ## The end of an invalidation (R206, R223) -/

/-- The registers that the binding of an atlas slot holds. -/
def atlasRegs : List Field := [.XL_ATLAS_PASID, .XL_ATLAS_FLASK, .XL_ATLAS_FLASK_GEN, .XL_ATLAS_VALID, .XL_ATLAS_ROOT]

/-- A view of the state that the freeing of an atlas slot may change only through the slot's registers. -/
theorem freeAtlas_keeps {β : Type} {p : State → β} (h : blindToFault p) (hhot : ∀ (t : State) f v i, f ∈ hotRegs → p (t.wr f v i) = p t)
    (hxl : ∀ (t : State) ss ts gs ws, p { t with xl := { t.xl with sheets := ss, tables := ts, grants := gs, walks := ws } } = p t) (s : State) (a : Nat) :
    p (s.freeAtlas a) = p (s.rstAll atlasRegs a) := by
  have hwalk (t : State) (ws) : p { t with xl := { t.xl with walks := ws } } = p t := hxl t t.xl.sheets t.xl.tables t.xl.grants ws
  unfold State.freeAtlas
  refine (foldl_keeps p (fun t (w : Walk) => h.faultWalk hwalk t w.id xfUNBOUND 0xF) _ _).trans ((disarmIf_of_hot hhot _ _).trans ?_)
  generalize hr : s.rstAll [.XL_ATLAS_PASID, .XL_ATLAS_FLASK, .XL_ATLAS_FLASK_GEN, .XL_ATLAS_VALID, .XL_ATLAS_ROOT] a = r
  exact (hxl r _ _ _ r.xl.walks).trans (congrArg p hr.symm)

theorem rd_rstAll_ne {f : Field} {fs : List Field} (hf : f ∉ fs) (s : State) (i j : Nat) : (s.rstAll fs i).rd f j = s.rd f j :=
  List.foldlRecOn (motive := fun u : State => u.rd f j = s.rd f j) fs (fun (u : State) g => u.rst g i) (b := s) rfl fun u hu _ hg =>
    (rd_wr_ne u _ (.inl (ne_of_mem_of_not_mem hg hf))).trans hu

theorem rd_freeAtlas {f : Field} (hstop : f ∉ stopRegs) (hfault : f ∉ faultRegs) (hhot : f ∉ hotRegs) (s : State) (a i : Nat) :
    (s.freeAtlas a).rd f i = (s.rstAll atlasRegs a).rd f i :=
  freeAtlas_keeps (.of_rd hstop hfault i) (fun t _ v _ hg => rd_wr_ne t v (.inl (ne_of_mem_of_not_mem hg hhot))) (fun _ _ _ _ _ => rfl) s a

theorem invs_freeAtlas (s : State) (a : Nat) : (s.freeAtlas a).xl.invs = s.xl.invs :=
  (freeAtlas_keeps .of_invs (fun _ _ _ _ _ => rfl) (fun _ _ _ _ _ => rfl) s a).trans
    (foldl_keeps (fun t : State => t.xl.invs) (fun (t : State) f => show (t.rst f a).xl.invs = t.xl.invs from rfl) atlasRegs s)

/-- A freed slot is not bound, nor does the freeing of another slot bind it. -/
theorem valid_freeAtlas {s : State} {a b : Nat} (h : a = b ∨ s.rd .XL_ATLAS_VALID b = 0) : (s.freeAtlas a).rd .XL_ATLAS_VALID b = 0 := by
  rw [rd_freeAtlas (by decide) (by decide) (by decide)]
  simp only [State.rstAll, atlasRegs, List.foldl_cons, List.foldl_nil]
  refine (rd_wr_ne _ _ (.inl (by decide))).trans ?_
  by_cases hab : a = b
  · subst hab
    exact (rd_rst_same _ _ _).trans rfl
  · refine (rd_wr_ne _ _ (.inr hab)).trans ((rd_wr_ne _ _ (.inl (by decide))).trans ((rd_wr_ne _ _ (.inl (by decide))).trans ?_))
    exact (rd_wr_ne _ _ (.inl (by decide))).trans (h.resolve_left hab)

theorem valid_freeAtlases {slots : List Nat} {b : Nat} {s : State} (h : b ∈ slots ∨ s.rd .XL_ATLAS_VALID b = 0) :
    (slots.foldl State.freeAtlas s).rd .XL_ATLAS_VALID b = 0 := by
  induction slots generalizing s with
  | nil => exact h.resolve_left List.not_mem_nil
  | cons a slots ih =>
    refine ih ?_
    by_cases hab : a = b
    · exact .inr (valid_freeAtlas (.inl hab))
    · exact h.imp (fun hm => (List.mem_cons.1 hm).resolve_left (Ne.symm hab)) fun h => valid_freeAtlas (.inr h)

/-- Invalidation v leaves, and is counted. -/
def invGone (s : State) (v : Inv) : State :=
  (State.adv { s with xl := { s.xl with invs := s.xl.invs.filter (fun x => x.id != v.id) } } .XL_INV_STATUS_DONE).recheckPromos v

/-- What the end of invalidation v means for what called for it. -/
def invReported (t : State) (v : Inv) : State :=
  match v.source with
  | .host tag => t.invDone tag
  | .cmd n => t.reply n stOK
  | .unbind n =>
    let u := v.slots.foldl State.freeAtlas t
    let u := { u with tier := { u.tier with promos := u.tier.promos.filter (fun p => !v.slots.contains p.slot) } }
    match n with
    | some n => u.reply n stOK
    | none => u
  | .mig j =>
    { t with tier := { t.tier with migs := updAll t.tier.migs (fun m => m.id == j && m.stage == MigStage.inval) (fun m => { m with stage := .copying }) } }
  | .seal _ => t.dropUnsealed v
  | _ => t

section
variable {s t : State} {i : Nat} {v : Inv}

theorem invComplete_of_met (hv : s.xl.invs.find? (fun v => v.id == i && v.started) = some v) (hacks : v.acks = [])
    (hkernels : s.invKernels v = []) (hbusy : s.invBusy v = false) : s.invComplete i = (invReported (invGone s v) v).pumpInvs := by
  obtain ⟨hid, -⟩ : v.id = i ∧ v.started = true := by simpa using List.find?_some hv
  simp only [State.invComplete, hv, hacks, hkernels, hbusy, List.isEmpty_nil, Bool.and_self, Bool.not_true, Bool.or_self, Bool.false_eq_true, if_false,
    invReported, invGone, hid] <;> rfl

theorem invs_invGone (s : State) (v : Inv) : (invGone s v).xl.invs = s.xl.invs.filter (fun x => x.id != v.id) := rfl

theorem done_invGone (s : State) (v : Inv) : (invGone s v).rd .XL_INV_STATUS_DONE =
    (s.rd .XL_INV_STATUS_DONE + 1) % 2 ^ Field.XL_INV_STATUS_DONE.row.width := rd_adv_same _ _ _ _

/-- An invalidation that is over stays so while others start. -/
theorem gone_pumpInvs (hinvs : t.xl.invs = (invGone s v).xl.invs) (hdone : t.rd .XL_INV_STATUS_DONE = (invGone s v).rd .XL_INV_STATUS_DONE) :
    (∀ w ∈ t.pumpInvs.xl.invs, w.id ≠ v.id) ∧
      t.pumpInvs.rd .XL_INV_STATUS_DONE = (s.rd .XL_INV_STATUS_DONE + 1) % 2 ^ Field.XL_INV_STATUS_DONE.row.width := by
  refine ⟨fun w hw hid => ?_, (blindToInvs.pumpInvs (.of_rd (by decide) 0) t).trans (hdone.trans (done_invGone s v))⟩
  have hmem : v.id ∈ t.xl.invs.map Inv.id := ids_pumpInvs t ▸ hid ▸ List.mem_map_of_mem hw
  rw [hinvs, invs_invGone] at hmem
  obtain ⟨x, hx, hxid⟩ := List.mem_map.1 hmem
  exact absurd hxid (by simpa using (List.mem_filter.1 hx).2)

theorem replied_pumpInvs {n st : Nat} (h : t.replied n st) : t.pumpInvs.replied n st := by
  refine ⟨(congrArg (· = mbDONE) ?_).mpr h.1, (blindToInvs.pumpInvs (.of_rd (by decide) n) t).trans h.2⟩
  exact blindToInvs.pumpInvs (p := fun t => t.slotState n)
    ⟨fun _ _ _ _ _ => rfl, fun t f v i hf => by
      simp only [State.slotState]
      rw [rd_wr_ne t v (.inl (ne_of_mem_of_not_mem hf (by decide)))]⟩ t

end

/-! ## Purges (R226) -/

theorem acks_purgeAck (s : State) (e i : Nat) : ∀ v ∈ (s.purgeAck e i).xl.invs, v.id = i → v.started = true → e ∉ v.acks := by
  intro v hv hid hstarted
  obtain ⟨w, -, rfl⟩ := List.mem_map.1 hv
  by_cases h : (w.id == i && w.started) = true
  · rw [if_pos h]
    simp
  · rw [if_neg h] at hid hstarted
    exact absurd (by simp [hid, hstarted]) h

theorem killException_keeps {β : Type} {p : State → β} (h : blindToFault p) (hfences : ∀ (t : State) f, p { t with fences := f } = p t)
    (hexc : ∀ (t : State) f v i, f ∈ exceptionRegs → p (t.wr f v i) = p t) (hfaulted : ∀ (t : State) l c, p { t with faulted := l, calls := c } = p t)
    (s : State) (e : Nat) : p (s.killException e) = p s := by
  unfold State.killException
  split
  · exact h.say _ _
  · rename_i k _
    have hend : p ((s.say (.kill e)).laneEnd e k.id) = p s := (h.laneEnd hfences _ _ _).trans (h.say _ _)
    dsimp only
    split
    · split
      · exact (h.mgmtFault _ _).trans hend
      · split
        · exact hend
        · exact (engineException_keeps _ _ _ p hexc hfaulted).trans hend
    · exact hend

theorem mem_sent_recall {m : Msg} {s : State} (h : m ∈ s.sent) (l : Nat) : m ∈ (s.recall l).sent := by
  unfold State.recall
  split
  · exact h
  · exact List.mem_cons_of_mem _ h

theorem mem_sent_ownWrite {m : Msg} {s : State} (h : m ∈ s.sent) {q : Purpose} (hfire : ∀ t : State, (t.fire q).sent = t.sent) (a : Nat)
    (bs : List Byte) (id c : Nat) (root : Option PourId) : m ∈ (s.ownWrite a bs id q c root).sent := by
  simp only [State.ownWrite, State.homeStore]
  split
  · exact mem_sent_recall h _
  · exact (hfire _).symm ▸ (overPut_keeps State.sent (fun _ _ => rfl) (fun _ _ => rfl) _ s).symm ▸ h

theorem mem_sent_errRecord {m : Msg} {s : State} (h : m ∈ s.sent) (bs : List Byte) : m ∈ (s.errRecord bs).sent := by
  simp only [State.errRecord]
  split
  · exact h
  · split
    · exact mem_sent_ownWrite h (q := .errRec) (fun _ => rfl) _ _ _ _ _
    · exact h

theorem mem_sent_mgmtFault {m : Msg} {s : State} (h : m ∈ s.sent) (x : Ctx) : m ∈ (s.mgmtFault x).sent := mem_sent_errRecord h _

theorem mem_sent_killException (s : State) (e : Nat) : .kill e ∈ (s.killException e).sent := by
  unfold State.killException
  split
  · exact List.mem_cons_self
  · rename_i k _
    have hend : .kill e ∈ ((s.say (.kill e)).laneEnd e k.id).sent := mem_sent_laneEnd List.mem_cons_self _ _
    dsimp only
    split
    · split
      · exact mem_sent_mgmtFault hend _
      · split
        · exact hend
        · exact (engineException_keeps _ _ _ State.sent (fun _ _ _ _ _ => rfl) fun _ _ _ => rfl).symm ▸ hend
    · exact hend

/-! ## PHYS kernels that outlive an invalidation (R224) -/

/-- The engines that still run kernel k of an invalidation that has waited to the end of its budget are told to stop. -/
def overrunKilled (s : State) (k : Nat) (x : Kernel) : State :=
  let t := (s.elapse (x.started.getD 0 + x.budget * 1000)).wr .XL_ERR_INV_OVERRUN 1
  (x.left.filter (fun e => (t.lane e).running == some k)).foldl (fun t e => t.say (.kill e)) t

section
variable (s : State) (k : Nat) (x : Kernel)

theorem invOverrun_eq (hk : s.kernel? k = some x) (hwait : s.xl.invs.any (fun v => v.started && v.kernels.contains k) = true) :
    s.invOverrun k = (overrunKilled s k x).endPour x.ctx 3 xfINV_OVERRUN := by
  simp only [State.invOverrun, hk, hwait]
  rfl

theorem overrunKilled_keeps {β : Type} (p : State → β) (hsay : ∀ t m, p (State.say t m) = p t) :
    p (overrunKilled s k x) = p ((s.elapse (x.started.getD 0 + x.budget * 1000)).wr .XL_ERR_INV_OVERRUN 1) :=
  foldl_keeps p (fun t _ => hsay t _) _ _

theorem kill_mem_overrunKilled : ∀ e ∈ x.left, (s.lane e).running = some k → .kill e ∈ (overrunKilled s k x).sent := by
  intro e he hrun
  refine (sent_foldl_say Msg.kill _ _ (P := fun _ => True) trivial fun _ _ _ => trivial).2 e (List.mem_filter.2 ⟨he, ?_⟩)
  exact beq_iff_eq.2 hrun

end

/-! ## What an invalidation reports -/

section
variable {s : State} {i : Nat} {v : Inv}

theorem sameMem_invGone (s : State) (v : Inv) : sameMem s (invGone s v) := sameMem_of_eq rfl rfl

/-- What an unbinding leaves of the block before its reply. -/
def slotsFreed (t : State) (slots : List Nat) : State :=
  { slots.foldl State.freeAtlas t with
    tier := { (slots.foldl State.freeAtlas t).tier with promos := (slots.foldl State.freeAtlas t).tier.promos.filter (fun p => !slots.contains p.slot) } }

theorem invReported_of_host {tag : Nat} (h : v.source = .host tag) (t : State) : invReported t v = t.invDone tag := by
  rw [invReported, h]

theorem invReported_of_cmd {n : Nat} (h : v.source = .cmd n) (t : State) : invReported t v = t.reply n stOK := by
  rw [invReported, h]

theorem invReported_of_unbind {n : Nat} (h : v.source = .unbind (some n)) (t : State) : invReported t v = (slotsFreed t v.slots).reply n stOK := by
  rw [invReported, h]
  rfl

theorem invs_slotsFreed (t : State) (slots : List Nat) : (slotsFreed t slots).xl.invs = t.xl.invs :=
  foldl_keeps (fun t : State => t.xl.invs) (fun t a => invs_freeAtlas t a) slots t

theorem done_slotsFreed (t : State) (slots : List Nat) : (slotsFreed t slots).rd .XL_INV_STATUS_DONE = t.rd .XL_INV_STATUS_DONE :=
  foldl_keeps (fun t : State => t.rd .XL_INV_STATUS_DONE) (fun t a =>
    (rd_freeAtlas (by decide) (by decide) (by decide) t a 0).trans (rd_rstAll_ne (by decide) t a 0)) slots t

theorem invs_reply (t : State) (n st : Nat) : (t.reply n st).xl.invs = t.xl.invs := reply_keeps (fun t : State => t.xl.invs) (fun _ _ _ _ => rfl) t n st []

theorem done_reply (t : State) (n st : Nat) : (t.reply n st).rd .XL_INV_STATUS_DONE = t.rd .XL_INV_STATUS_DONE :=
  rd_reply_nil _ _ _ (not_mem_replyFields (by decide) _ _)

/-- An invalidation that is over and answered by command n. -/
theorem gone_of_reply {t : State} {n : Nat} (hinvs : t.xl.invs = (invGone s v).xl.invs)
    (hdone : t.rd .XL_INV_STATUS_DONE = (invGone s v).rd .XL_INV_STATUS_DONE) : (∀ w ∈ (t.reply n stOK).pumpInvs.xl.invs, w.id ≠ v.id) ∧
      (t.reply n stOK).pumpInvs.rd .XL_INV_STATUS_DONE = (s.rd .XL_INV_STATUS_DONE + 1) % 2 ^ Field.XL_INV_STATUS_DONE.row.width :=
  gone_pumpInvs ((invs_reply t n stOK).trans hinvs) ((done_reply t n stOK).trans hdone)

end

/-! ## CZ_XL_CTL (R211) -/

theorem xlCtl_leaves (s : State) (v : Nat) : ∃ t, t = s.xlCtl 8 0 (v % 2 ^ 64) ∧ sameMem s t ∧ onlyRegs s t (fieldsAt 0x400000) ∧
    t.rd .XL_CTL_WC_EN = bits v Field.XL_CTL_WC_EN.row.lo 1 ∧
    t.xl.tables = (if t.rd .XL_CTL_WC_EN = 1 then s.xl.tables else []) ∧ t.xl.sheets = s.xl.sheets := by
  have hmem := sameMem_regWrite s 0x400000 8 0 (v % 2 ^ 64)
  have honly := onlyRegs_regWrite_eight s 0x400000 0 (v % 2 ^ 64)
  have hen := rd_regWrite_eight s v (o := 0x400000) (f := .XL_CTL_WC_EN) (i := 0) (by decide +kernel) (by decide +kernel)
  have hxl : (s.regWrite 0x400000 8 0 (v % 2 ^ 64)).xl = s.xl := regWrite_keeps s _ _ _ _ State.xl fun _ _ _ _ => rfl
  refine ⟨_, rfl, ?_⟩
  simp only [State.xlCtl]
  generalize s.regWrite 0x400000 8 0 (v % 2 ^ 64) = t at *
  have hone : t.on .XL_CTL_WC_EN = true ↔ t.rd .XL_CTL_WC_EN = 1 := beq_iff_eq
  split
  · rename_i h
    exact ⟨hmem, honly, hen, by rw [if_pos (hone.1 h), hxl], by rw [hxl]⟩
  · rename_i h
    exact ⟨hmem, honly, hen, (if_neg (fun hc => h (hone.2 hc))).symm, (congrArg Xl.sheets hxl : t.xl.sheets = _)⟩

/-- Settles O38. -/
theorem invalidations : Obligations.Invalidations := by
  unfold Obligations.Invalidations
  refine ⟨fun s e i => ?_, fun s e i v k hv hk => ?_, fun s k x y z hk hwait hy hz hcause hstamp => ?_,
    fun s i v hv hacks hkernels hbusy => ?_, fun s v hs => ?_⟩
  · exact ⟨_, rfl, sameMem_of_eq rfl rfl, onlyRegs_refl s _, acks_purgeAck s e i, List.length_map _⟩
  · have htimeout : s.purgeTimeout e i = ((s.wr .XL_ERR_PURGE_TIMEOUT 1).purgeAck e i).killException e := by simp only [State.purgeTimeout, hv]
    refine ⟨_, congrArg s.after htimeout, ?_, mem_sent_killException _ _, ?_⟩
    · exact (killException_keeps (.of_rd (by decide) (by decide) 0) (fun _ _ => rfl)
        (fun t _ v _ hg => rd_wr_ne t v (.inl (ne_of_mem_of_not_mem hg (by decide)))) (fun _ _ _ => rfl) _ e).trans (rd_wr_one s _ _)
    · have hinvs := killException_keeps .of_invs (fun _ _ => rfl) (fun _ _ _ _ _ => rfl) (fun _ _ _ => rfl) ((s.wr .XL_ERR_PURGE_TIMEOUT 1).purgeAck e i) e
      exact fun w hw => acks_purgeAck _ e i w (hinvs ▸ hw)
  · have hctx (c : Nat) : (overrunKilled s k x).ctx? c = s.ctx? c := overrunKilled_keeps s k x (fun t => t.ctx? c) fun _ _ => rfl
    refine ⟨_, congrArg s.after (invOverrun_eq s k x hk hwait), ?_, ?_, fun e he hrun => mem_sent_endPour (kill_mem_overrunKilled s k x e he hrun) _ _ _, ?_⟩
    · exact ((blindToFault.of_rd (by decide) (by decide) 0).endPour _ _ _ _).trans
        ((overrunKilled_keeps s k x (fun t => t.rd .XL_ERR_INV_OVERRUN) fun _ _ => rfl).trans (rd_wr_one _ _ _))
    · exact (blindToStop.endPour (p := State.time) ⟨fun _ _ _ _ _ _ _ _ _ _ _ => rfl, fun _ _ _ => rfl, fun _ _ _ _ _ => rfl⟩ _ _ _ _).trans
        (overrunKilled_keeps s k x State.time fun _ _ => rfl)
    · simp only [State.endPour, (hctx _).trans hy]
      exact cause_endTree ((hctx _).trans hz) hcause hstamp _
  · obtain ⟨hid, -⟩ : v.id = i ∧ v.started = true := by simpa using List.find?_some hv
    have hcomplete := congrArg s.after (invComplete_of_met hv hacks hkernels hbusy)
    subst hid
    refine ⟨fun tag hsource => ?_, fun n hn hsource => ?_, fun n hn hsource => ?_⟩
    · rw [invReported_of_host hsource] at hcomplete
      exact ⟨_, hcomplete, sameMem_trans (sameMem_invGone s v) (sameMem_trans (sameMem_of_eq rfl rfl) (sameMem_pumpInvs _)),
        gone_pumpInvs rfl rfl, mem_sent_pumpInvs (List.mem_cons_of_mem _ List.mem_cons_self)⟩
    · rw [invReported_of_cmd hsource] at hcomplete
      exact ⟨_, hcomplete, sameMem_trans (sameMem_invGone s v) (sameMem_trans ((sameMem_reply _ _ n stOK []).2 (sameMem_refl _)) (sameMem_pumpInvs _)),
        gone_of_reply rfl rfl, replied_pumpInvs (replied_reply _ _ hn (by decide))⟩
    · rw [invReported_of_unbind hsource] at hcomplete
      refine ⟨_, hcomplete, gone_of_reply (invs_slotsFreed _ _) (done_slotsFreed _ _), replied_pumpInvs (replied_reply _ _ hn (by decide)), fun a ha => ?_⟩
      refine (blindToInvs.pumpInvs (.of_rd (by decide) a) _).trans ((rd_reply_nil _ _ _ (not_mem_replyFields (by decide) _ _)).trans ?_)
      exact valid_freeAtlases (.inl ha)
  · have hplace (w : Nat) : s.place 0x400000 8 0 w = s.xlCtl 8 0 w := by simp [State.place, State.singleWrite]
    refine ⟨_, rfl, ?_⟩
    obtain ⟨t, ht, hmem, honly, hen, htables, hsheets⟩ := xlCtl_leaves s v
    rw [show 0x400000 + 4 * (0 % 2) = 0x400000 from rfl, hostWrite_plain s v (by omega) (by omega) (by omega), barWrite_of_hears_eight hs (by decide), hplace, ← ht]
    exact ⟨(sameMem_close_iff _ _ _).2 ((sameMem_giveCredit _ _ _).2 hmem), (onlyRegs_close_iff _ _ _ _).2 honly, (rd_close _ _ _ _).trans hen,
      by rw [rd_close]; exact htables, hsheets⟩

end Sys2Proof.Laws

/-! # Energy and receipts

Activity, calibration, accumulators and receipt blocks (R400, R408 to R420, R458). -/
namespace Sys2Proof.Laws

open Sys2Proof.Machine

/-! ## What metering leaves alone -/

/-- A view of the state in which the accumulators, the counts and the blocks of the energy unit do not show. -/
def blindToBilling {β : Type} (p : State → β) : Prop :=
  ∀ (t : State) accs metered pkgOver unmet overhead,
    p { t with meter := { t.meter with accs := accs, metered := metered, pkgOver := pkgOver, unmet := unmet, overhead := overhead } } = p t

/-- A view of the state in which the accumulators and the receipt blocks do not show. -/
def blindToReceipts {β : Type} (p : State → β) : Prop :=
  ∀ (t : State) n accs blocks, p { t with nextId := n, meter := { t.meter with accs := accs, blocks := blocks } } = p t

/-- A view of the state in which what a scrub has done, and its count, do not show. -/
def blindToScrubs {β : Type} (p : State → β) : Prop :=
  ∀ (t : State) counts scrubs at_, p { t with scrubs := scrubs, scrubAt := at_, meter := { t.meter with counts := counts } } = p t

section
variable {β : Type} {p : State → β}

theorem payBill_keeps (h : blindToBilling p) (t : State) (b : Bill) : p (t.payBill b) = p t := by
  unfold State.payBill
  dsimp only
  split
  · split
    · exact h t _ _ t.meter.pkgOver t.meter.unmet t.meter.overhead
    · exact h t t.meter.accs t.meter.metered _ t.meter.unmet t.meter.overhead
  · exact h t t.meter.accs t.meter.metered t.meter.pkgOver _ t.meter.overhead
  · exact h t t.meter.accs t.meter.metered t.meter.pkgOver t.meter.unmet _
  · exact h t t.meter.accs t.meter.metered _ t.meter.unmet t.meter.overhead

theorem enterBlock_keeps (h : blindToReceipts p) (t : State) (a : Accum) : p (t.enterBlock a) = p t := by
  unfold State.enterBlock
  dsimp only
  split
  · exact h t t.nextId t.meter.accs _
  · exact h t _ t.meter.accs _

theorem formReceipts_keeps (h : blindToReceipts p) (t : State) (w : Nat) : p (t.formReceipts w) = p t := by
  have hgo (due : Accum → Bool) (times : List Nat) (n : Nat) (t : State) : p (State.formReceipts.go due times n t) = p t := by
    induction n generalizing t with
    | zero => rfl
    | succ n ih =>
      simp only [State.formReceipts.go]
      split
      · exact (ih _).trans ((enterBlock_keeps h _ _).trans (h t t.nextId _ t.meter.blocks))
      · rfl
  exact hgo _ _ _ t

theorem countFor_keeps (h : blindToScrubs p) (t : State) (ch : Charge) (cls n : Nat) : p (t.countFor ch cls n) = p t := by
  unfold State.countFor
  dsimp only
  split
  · rfl
  · split
    · exact h t _ t.scrubs t.scrubAt
    · exact h t _ t.scrubs t.scrubAt

theorem scrubNow_keeps (h : blindToScrubs p) (t : State) : p t.scrubNow = p t := by
  unfold State.scrubNow
  dsimp only
  generalize hu : (t.scrubs.zip (scrubRun (t.scrubs.length + 1) (t.time - t.scrubAt) (t.scrubs.map Scrub.left))).foldl
    (fun u q => u.countFor (.overhead q.1.flask) 9 (q.1.left - q.2)) t = u
  refine (h u u.meter.counts _ _).trans (hu ▸ foldl_keeps p (fun u q => countFor_keeps h u _ _ _) _ t)

end

/-- The telemetry registers (R422). -/
def energyFields : List Field := [.EN_PKG_TOTAL, .EN_PKG_OVERHEAD, .EN_FLASK_METERED, .EN_FLASK_IDLE, .EN_FLASK_OVERHEAD, .EN_FLASK_UNMETERED]

theorem energyRegs_keeps {β : Type} {p : State → β} (hwr : ∀ (t : State) f v i, f ∈ energyFields → p (t.wr f v i) = p t) (s : State) :
    p s.energyRegs = p s := by
  have hput {f : Field} (hf : f ∈ energyFields) (g : Nat × Nat → Nat) (l : List (Nat × Nat)) (t : State) :
      p (l.foldl (fun t q => t.wr f (g q) q.1) t) = p t := foldl_keeps p (fun t q => hwr t f _ _ hf) l t
  unfold State.energyRegs
  dsimp only
  refine (hput (f := .EN_FLASK_UNMETERED) (by simp [energyFields]) _ _ _).trans ((hput (f := .EN_FLASK_OVERHEAD) (by simp [energyFields]) _ _ _).trans ?_)
  refine (hput (f := .EN_FLASK_IDLE) (by simp [energyFields]) _ _ _).trans ((hput (f := .EN_FLASK_METERED) (by simp [energyFields]) _ _ _).trans ?_)
  exact (hwr _ _ _ _ (by simp [energyFields])).trans (hwr _ _ _ _ (by simp [energyFields]))

/-! ## The snapshot (R400, R422) -/

/-- What a snapshot latches at time s. -/
def snapValues (t : State) : List (Nat × Nat) :=
  (coarseCounts ++ coarseOccupancies).map (fun f => (f.key 0, t.live f 0)) ++ t.queues.flatMap (fun q => coarseQueue.map (fun f => (f.key q, t.live f q)))

theorem snapshot_eq (s : State) : s.snapshot =
    (let t := s.elapse ((s.time / 100000000 + 1) * 100000000)
     { t.energyRegs with snap := (snapValues t).filter (fun p => p.2 != 0) }) := rfl

/-- A list whose entries of key k all hold v, of which it has one unless v is 0, gives v for k. -/
theorem aget_of_all {l : List (Nat × Nat)} {k v : Nat} (hall : ∀ p ∈ l, p.1 = k → p.2 = v) (hsome : v ≠ 0 → (k, v) ∈ l) : aget l k 0 = v := by
  unfold aget
  cases h : l.find? (fun p => p.1 == k) with
  | none =>
    by_contra hv
    exact absurd (List.find?_eq_none.1 h (k, v) (hsome (Ne.symm hv))) (by simp)
  | some p => exact hall p (List.mem_of_find?_eq_some h) (by simpa using List.find?_some h)

theorem live_of_snap {t : State} {f : Field} (hf : f ∈ coarseCounts) : aget ((snapValues t).filter (fun p => p.2 != 0)) (f.key 0) 0 = t.live f 0 := by
  refine aget_of_all (fun p hp hkey => ?_) fun hv => List.mem_filter.2 ⟨List.mem_append_left _ (List.mem_map.2 ⟨f, List.mem_append_left _ hf, rfl⟩), by simpa using hv⟩
  rcases List.mem_append.1 (List.mem_filter.1 hp).1 with hp | hp
  · obtain ⟨g, -, rfl⟩ := List.mem_map.1 hp
    rw [(field_key_inj hkey).1]
  · obtain ⟨q, -, hq⟩ := List.mem_flatMap.1 hp
    obtain ⟨g, hg, rfl⟩ := List.mem_map.1 hq
    have hno : ∀ g ∈ coarseQueue, g ∉ coarseCounts := by decide
    exact absurd ((field_key_inj hkey).1 ▸ hf) (hno g hg)

/-! ## The calibration of a window (R413, R414, R416) -/

/-- The moment at which the window is calibrated, the scrubs' shares counted up to its end. -/
def windowReached (s : State) : State :=
  let t := (s.elapse ((s.meter.window + 1) * 1000000 - 1)).scrubNow
  t.elapse ((s.meter.window + 1) * 1000000 + (if t.meter.rail.isNone then 10000 else 0))

/-- The raw energy of window w. -/
def windowRaw (t : State) (w : Nat) : Fp := fpRatio (((t.meter.counts.filter (fun c => c.window == w)).map t.rawOf).sum) rawDen

/-- k and its flag of window w. -/
def windowK (t : State) (w : Nat) : Fp × Nat := t.calibrate (windowRaw t w) (fpRatio (t.rd .EN_STATIC_EST) (10 ^ 6))

/-- The static pool of window w. -/
def windowPool (t : State) (w : Nat) : Fp :=
  match t.meter.rail with
  | some nj => let x := (fpRatio nj (10 ^ 9)).sub ((windowK t w).1.mul (windowRaw t w)); if x.lt (.fin false 0 1) then .fin false 0 1 else x
  | none => fpRatio (t.rd .EN_STATIC_EST) (10 ^ 6)

/-- FP32 k of window w. -/
def windowBits (t : State) (w : Nat) : Nat := (fp32.clip (windowK t w).1).getD 0x3F800000

/-- Window w of state t is billed, and the next one is to be calibrated. -/
def windowBilled (t : State) (w : Nat) : State :=
  let bs := t.bills w (windowK t w).1 (windowPool t w)
  let idle := t.flasks.map (fun f => (f, t.idleShare w f (windowPool t w)))
  let u := bs.foldl State.payBill t
  let charged (a : Nat) : Bool := bs.any (fun b => b.charge == .acc a)
  { u with meter := { u.meter with
      accs := updAll u.meter.accs (fun a => charged a.id) (fun a => { a with flags := a.flags ||| (windowK t w).2 })
      idle := idle.foldl (fun l p => aset l p.1 (aget l p.1 0 + p.2)) u.meter.idle
      k := windowBits t w, window := w + 1, rail := none, total := u.meter.total + (u.meter.rail.getD 0) * 256,
      counts := u.meter.counts.filter (fun c => decide (w < c.window))
      spans := u.meter.spans.filter (fun p => match p.stop with | some e => decide ((w + 1) * 1000000 ≤ e) | none => true) } }

/-- The registers show a calibrated window with its flag and k. -/
def windowShown (t : State) (flag kb : Nat) : State :=
  let t := if flag = rfUNCALIBRATED then t.wr .EN_ERR_RAIL_MISSING 1 else if flag = rfCLAMPED then t.wr .EN_ERR_CLAMPED 1 else t
  (if t.coarse then t else t.energyRegs).wr .EN_STATUS_K kb

/-- The coefficients' registers take the values of a committed image (R421). -/
def coefsWritten (t : State) (cf : List Nat) (e : Nat) : State :=
  (List.range 13).foldl (fun (u : State) c => u.wr .EN_COEF_COEF (nth cf c 0) c) (t.wr .EN_STATIC_EST e)

/-- The coefficients of a committed image take effect (R421). -/
def coefsTaken (t : State) : State :=
  match t.meter.coefs with
  | some (cf, e) =>
    { coefsWritten t cf e with meter := { (coefsWritten t cf e).meter with coefs := none, digest := (coefsWritten t cf e).kyrdo.mgmt } }
  | none => t

/-- The window that s calibrates, before new coefficients apply. -/
def windowClosed (s : State) : State :=
  let w := s.meter.window
  let t := windowReached s
  (windowShown (windowBilled t w) (windowK t w).2 (windowBits t w)).formReceipts w

theorem windowEnd_eq {s : State} (h : s.ready = true) : s.windowEnd = coefsTaken (windowClosed s) := by
  simp only [State.windowEnd, h, Bool.not_true, Bool.false_eq_true, if_false]
  rfl

/-! ### What the calibration leaves -/

/-- A view that the steps before the registers leave as at the start of the command. -/
theorem windowReached_keeps {β : Type} {p : State → β} (h : blindToScrubs p) (htime : ∀ (t : State) n, p { t with time := n } = p t) (s : State) :
    p (windowReached s) = p s :=
  (htime _ _).trans ((scrubNow_keeps h _).trans (htime s _))

theorem time_windowReached (s : State) : (windowReached s).time =
    max s.time ((s.meter.window + 1) * 1000000 + (if s.meter.rail.isNone then 10000 else 0)) := by
  have htime : ((s.elapse ((s.meter.window + 1) * 1000000 - 1)).scrubNow).time = max s.time ((s.meter.window + 1) * 1000000 - 1) :=
    scrubNow_keeps (p := State.time) (fun _ _ _ _ => rfl) _
  have hrail : ((s.elapse ((s.meter.window + 1) * 1000000 - 1)).scrubNow).meter.rail = s.meter.rail :=
    scrubNow_keeps (p := fun t => t.meter.rail) (fun _ _ _ _ => rfl) _
  unfold windowReached
  generalize (s.elapse ((s.meter.window + 1) * 1000000 - 1)).scrubNow = u at *
  simp only [State.elapse, htime, hrail]
  split <;> omega

/-- A view of the state in which nothing of the energy unit's meter shows. -/
def blindToMeter {β : Type} (p : State → β) : Prop := ∀ (t : State) n m scrubs at_, p { t with nextId := n, meter := m, scrubs := scrubs, scrubAt := at_ } = p t

section
variable {β : Type} {p : State → β}

theorem blindToMeter.billing (h : blindToMeter p) : blindToBilling p := fun t _ _ _ _ _ => h t t.nextId _ t.scrubs t.scrubAt
theorem blindToMeter.receipts (h : blindToMeter p) : blindToReceipts p := fun t n _ _ => h t n _ t.scrubs t.scrubAt
theorem blindToMeter.scrubs (h : blindToMeter p) : blindToScrubs p := fun t _ scrubs at_ => h t t.nextId _ scrubs at_

theorem windowBilled_keeps (h : blindToMeter p) (t : State) (w : Nat) : p (windowBilled t w) = p t := by
  unfold windowBilled
  dsimp only
  generalize hu : (t.bills w (windowK t w).1 (windowPool t w)).foldl State.payBill t = u
  exact (h u u.nextId _ u.scrubs u.scrubAt).trans (hu ▸ foldl_keeps p (payBill_keeps h.billing) _ t)

/-- The registers that show a calibrated window. -/
def windowRegs : List Field := .EN_ERR_RAIL_MISSING :: .EN_ERR_CLAMPED :: .EN_STATUS_K :: energyFields

theorem windowShown_keeps (hwr : ∀ (t : State) f v i, f ∈ windowRegs → p (t.wr f v i) = p t) (t : State) (flag kb : Nat) :
    p (windowShown t flag kb) = p t := by
  have hflag : p (if flag = rfUNCALIBRATED then t.wr .EN_ERR_RAIL_MISSING 1 else if flag = rfCLAMPED then t.wr .EN_ERR_CLAMPED 1 else t) = p t := by
    split
    · exact hwr _ _ _ _ (by simp [windowRegs])
    · split
      · exact hwr _ _ _ _ (by simp [windowRegs])
      · rfl
  unfold windowShown
  dsimp only
  generalize (if flag = rfUNCALIBRATED then t.wr .EN_ERR_RAIL_MISSING 1 else if flag = rfCLAMPED then t.wr .EN_ERR_CLAMPED 1 else t) = u at *
  refine (hwr _ _ _ _ (by simp [windowRegs])).trans (Eq.trans ?_ hflag)
  split
  · rfl
  · exact energyRegs_keeps (fun t f v i hf => hwr t f v i (by simp [windowRegs, hf])) _

/-- A view of what neither the meter nor its registers hold. -/
theorem windowClosed_keeps (h : blindToMeter p) (htime : ∀ (t : State) n, p { t with time := n } = p t)
    (hwr : ∀ (t : State) f v i, f ∈ windowRegs → p (t.wr f v i) = p t) (s : State) : p (windowClosed s) = p s :=
  (formReceipts_keeps h.receipts _ _).trans ((windowShown_keeps hwr _ _ _).trans ((windowBilled_keeps h _ _).trans
    (windowReached_keeps h.scrubs htime s)))

theorem coefsTaken_keeps (hmeter : ∀ (t : State) cf d, p { t with meter := { t.meter with coefs := cf, digest := d } } = p t)
    (hest : ∀ (t : State) v i, p (t.wr .EN_STATIC_EST v i) = p t) (hcoef : ∀ (t : State) v i, p (t.wr .EN_COEF_COEF v i) = p t) (t : State) :
    p (coefsTaken t) = p t := by
  unfold coefsTaken
  split
  · exact (hmeter _ _ _).trans ((foldl_keeps p (fun t c => hcoef t _ _) _ _).trans (hest t _ _))
  · rfl

end

section
variable (s : State)

/-- What the calibration sets in the meter. -/
theorem meter_windowBilled (t : State) (w : Nat) :
    (windowBilled t w).meter.window = w + 1 ∧ (windowBilled t w).meter.rail = none ∧ (windowBilled t w).meter.k = windowBits t w ∧
      (windowBilled t w).meter.counts = t.meter.counts.filter (fun c => decide (w < c.window)) ∧
      (windowBilled t w).meter.total = t.meter.total + t.meter.rail.getD 0 * 256 ∧
      (windowBilled t w).meter.coefs = t.meter.coefs ∧ (windowBilled t w).meter.digest = t.meter.digest := by
  have hpay {β : Type} {p : State → β} (h : blindToBilling p) := foldl_keeps p (payBill_keeps h) (t.bills w (windowK t w).1 (windowPool t w)) t
  refine ⟨rfl, rfl, rfl, ?_, ?_, ?_, ?_⟩
  · exact congrArg (List.filter _) (hpay (p := fun t => t.meter.counts) fun _ _ _ _ _ _ => rfl)
  · exact congrArg₂ (fun a b => a + Option.getD b 0 * 256) (hpay (p := fun t => t.meter.total) fun _ _ _ _ _ _ => rfl)
      (hpay (p := fun t => t.meter.rail) fun _ _ _ _ _ _ => rfl)
  · exact hpay (p := fun t => t.meter.coefs) fun _ _ _ _ _ _ => rfl
  · exact hpay (p := fun t => t.meter.digest) fun _ _ _ _ _ _ => rfl

/-- The meter of a closed window, but for the accumulators and the blocks that its receipts enter. -/
theorem windowClosed_meter {β : Type} {p : State → β} (h : blindToReceipts p) (hwr : ∀ (t : State) f v i, f ∈ windowRegs → p (t.wr f v i) = p t) :
    p (windowClosed s) = p (windowBilled (windowReached s) s.meter.window) :=
  (formReceipts_keeps h _ _).trans (windowShown_keeps hwr _ _ _)

theorem rd_k_windowClosed : (windowClosed s).rd .EN_STATUS_K = windowBits (windowReached s) s.meter.window % 2 ^ 32 :=
  (formReceipts_keeps (p := fun t => t.rd .EN_STATUS_K) (fun _ _ _ _ => rfl) _ _).trans (rd_wr_same _ _ _ _)

theorem rail_missing_windowClosed (h : s.meter.rail = none) : (windowClosed s).rd .EN_ERR_RAIL_MISSING = 1 := by
  have hrail : (windowReached s).meter.rail = none := (windowReached_keeps (p := fun t => t.meter.rail) (fun _ _ _ _ => rfl) (fun _ _ => rfl) s).trans h
  have hflag : (windowK (windowReached s) s.meter.window).2 = rfUNCALIBRATED := by
    rw [windowK, State.calibrate, hrail]
  refine (formReceipts_keeps (p := fun t => t.rd .EN_ERR_RAIL_MISSING) (fun _ _ _ _ => rfl) _ _).trans ?_
  simp only [windowShown, hflag, if_true]
  refine (rd_wr_ne _ _ (.inl (by decide))).trans ?_
  split
  · exact rd_wr_one _ _ _
  · exact (energyRegs_keeps (p := fun t => t.rd .EN_ERR_RAIL_MISSING) (fun t _ v _ hf => rd_wr_ne t v (.inl (ne_of_mem_of_not_mem hf (by decide)))) _).trans
      (rd_wr_one _ _ _)

/-- Without a scrub under way, k is what R416 computes from the state at the command. -/
theorem windowBits_of_no_scrub (h : s.scrubs = []) : windowBits (windowReached s) s.meter.window =
    (fp32.clip (s.calibrate (fpRatio (((s.meter.counts.filter (fun c => c.window == s.meter.window)).map s.rawOf).sum) rawDen)
      (fpRatio (s.rd .EN_STATIC_EST) (10 ^ 6))).1).getD 0x3F800000 := by
  have hreach : windowReached s = { s with scrubs := [], scrubAt := (windowReached s).scrubAt, time := (windowReached s).time } := by
    simp only [windowReached, State.scrubNow, State.elapse, h, List.length_nil, List.map_nil, List.zip_nil_left, List.foldl_nil]
  rw [hreach]
  rfl

/-- The coefficients that wait take effect with a digest of the committed image. -/
theorem coefsTaken_of_some {t : State} {cf : List Nat} {e : Nat} (h : t.meter.coefs = some (cf, e)) :
    (coefsTaken t).meter.coefs = none ∧ (coefsTaken t).meter.digest = t.kyrdo.mgmt ∧ (coefsTaken t).rd .EN_STATIC_EST = e % 2 ^ 32 ∧
      ∀ c, c < 13 → (coefsTaken t).rd .EN_COEF_COEF c = nth cf c 0 % 2 ^ Field.EN_COEF_COEF.row.width := by
  have hkyrdo : (coefsWritten t cf e).kyrdo = t.kyrdo :=
    foldl_keeps State.kyrdo (fun (u : State) c => show (u.wr .EN_COEF_COEF (nth cf c 0) c).kyrdo = u.kyrdo from rfl) _ _
  have hest : (coefsWritten t cf e).rd .EN_STATIC_EST = e % 2 ^ 32 :=
    (foldl_keeps (fun u : State => u.rd .EN_STATIC_EST) (fun (u : State) c => rd_wr_ne u (nth cf c 0) (.inl (by decide))) _ _).trans (rd_wr_same _ _ _ _)
  have hcoef (c : Nat) (hc : c < 13) : (coefsWritten t cf e).rd .EN_COEF_COEF c = nth cf c 0 % 2 ^ Field.EN_COEF_COEF.row.width := by
    have hwrite := rd_foldl_wr .EN_COEF_COEF (fun c => nth cf c 0) 0 hc (t.wr .EN_STATIC_EST e)
    simp only [Nat.zero_add] at hwrite
    exact hwrite
  have htaken : coefsTaken t =
      { coefsWritten t cf e with meter := { (coefsWritten t cf e).meter with coefs := none, digest := (coefsWritten t cf e).kyrdo.mgmt } } := by
    simp only [coefsTaken, h]
  rw [htaken]
  generalize coefsWritten t cf e = u at *
  exact ⟨rfl, congrArg Kyrdo.mgmt hkyrdo, hest, hcoef⟩

end

/-! ## What the energy unit's commands set -/

section
variable (s : State)

theorem updAll_mem {α : Type} {l : List α} {p : α → Bool} {f : α → α} {a : α} (ha : a ∈ l) : (if p a then f a else a) ∈ updAll l p f :=
  List.mem_map.2 ⟨a, ha, rfl⟩

/-- The accumulators that close, close at the present time (R409). -/
theorem mem_closeAccs {a : Accum} (ha : a ∈ s.meter.accs) (hopen : a.closed = none) (hidle : s.accBusy a.id = false) {p : Accum → Bool} (hp : p a = true) :
    { a with closed := some s.time } ∈ (s.closeAccs p 0).meter.accs := by
  have hmem := updAll_mem (p := fun a => a.closed.isNone && p a)
    (f := fun a => { a with closed := some s.time, flags := a.flags ||| 0, last := if s.accBusy a.id then s.time else a.last }) ha
  have hcond : (a.closed.isNone && p a) = true := by rw [hopen, hp]; rfl
  rw [if_pos hcond, hidle, Nat.or_zero] at hmem
  exact hmem

end

section
variable {s : State} {b : Nat} {x : Block}

theorem batchExpiry_of_found (hx : s.meter.blocks.find? (fun x => x.id == b && !x.due) = some x) : s.batchExpiry b =
    (let t := s.elapse (x.since + max (s.rd .EN_CTL_BATCH) 1 * 1000)
     { t with meter := { t.meter with blocks := updAll t.meter.blocks (fun y => y.id == b) (fun y => { y with due := true }) } }) := by
  simp only [State.batchExpiry, hx]

theorem blockSigned_of_found (hx : s.meter.blocks.find? (fun x => x.id == b && x.sent.isSome && x.signed.isNone) = some x) (sig : List Byte) :
    s.blockSigned b sig =
      { s with kyrdo := { s.kyrdo with blocks := s.kyrdo.blocks + 1 }, meter := { s.meter with
          blocks := updAll s.meter.blocks (fun y => y.id == b)
            (fun y => { y with signed := some (coseSign1 s.kyrdo.rkid (s.blockClaims x (s.kyrdo.blocks + 1)) sig) }) } } := by
  simp only [State.blockSigned, hx]

end

/-- The flush that slot n waits for. -/
def flushOf (t : State) (n : Nat) : Flush :=
  let idle (a : Accum) : Bool := a.closed.isNone && a.flask == (t.fref n).1 && a.gen == (t.fref n).2 && !t.accBusy a.id
  { slot := n, flask := (t.fref n).1, count := (t.meter.accs.filter idle).length,
    accs := (((t.closeAccs idle 0).meter.accs).filter (fun a => a.flask == (t.fref n).1 && a.closed.isSome)).map Accum.id }

theorem receiptFlush_of_current {t : State} {n : Nat} (h : t.frefOk n = true) : t.receiptFlush n =
    (let u := t.closeAccs (fun a => a.closed.isNone && a.flask == (t.fref n).1 && a.gen == (t.fref n).2 && !t.accBusy a.id) 0
     { u with meter := { u.meter with flushes := u.meter.flushes ++ [flushOf t n] } }) := by
  simp only [State.receiptFlush, h, Bool.not_true, Bool.false_eq_true, if_false]
  rfl

/-- No idle accumulator of slot n's flask is left open. -/
theorem closed_of_flush {t : State} {n : Nat} : ∀ a ∈ (t.closeAccs (fun a => a.closed.isNone && a.flask == (t.fref n).1 && a.gen == (t.fref n).2 && !t.accBusy a.id) 0).meter.accs,
    a.flask = (t.fref n).1 → a.gen = (t.fref n).2 → t.accBusy a.id = false → a.closed.isSome = true := by
  intro a ha hf hg hidle
  obtain ⟨b, -, rfl⟩ := List.mem_map.1 ha
  by_cases hb : (b.closed.isNone && (b.closed.isNone && b.flask == (t.fref n).1 && b.gen == (t.fref n).2 && !t.accBusy b.id)) = true
  · rw [if_pos hb]
    rfl
  · rw [if_neg hb] at hf hg hidle ⊢
    cases hc : b.closed with
    | none => exact absurd (by simp [hc, hf, hg, hidle]) hb
    | some c => rfl

/-- Settles O53. -/
theorem energyAndReceipts : Obligations.EnergyAndReceipts := by
  unfold Obligations.EnergyAndReceipts
  refine ⟨fun s e i es => ⟨fun hmissed => ?_, fun hnew hlate => ?_, fun hnew htime => ?_⟩, fun s e i => ?_, fun s nj => ?_, fun s hready => ?_,
    fun s a x hx => ⟨fun hbusy => ?_, fun hidle => ?_⟩, fun s b x hx => ?_, fun s b sig x hx => ?_, fun s n hs href => ?_, fun s => ?_⟩
  · exact congrArg s.after (by rw [State.activity, if_pos (List.contains_iff_mem.2 hmissed)])
  · exact congrArg s.after (by rw [State.activity, if_neg (fun h => hnew (List.contains_iff_mem.1 h)), if_pos hlate])
  · refine ⟨_, congrArg s.after (by rw [State.activity, if_neg (fun h => hnew (List.contains_iff_mem.1 h)), if_neg (Nat.not_lt.2 htime)]), ?_⟩
    exact ⟨sameMem_of_eq rfl rfl, onlyRegs_refl s _, rfl⟩
  · refine ⟨_, rfl, sameMem_of_eq rfl rfl, rd_wr_one _ _ _, rfl, List.mem_cons_self, onlyRegs_wr (f := .EN_ERR_ENG_MISSING) (i := 0) (onlyRegs_refl s _) (by simp) 1, ?_⟩
    intro a ha
    have hmem := updAll_mem (p := fun a => s.meter.ran.any (fun r => r.eng == e && r.charge == .acc a.id && r.meets i))
      (f := fun a => { a with flags := a.flags ||| rfESTIMATED }) ha
    split
    · rename_i h
      rwa [if_pos h] at hmem
    · rename_i h
      rwa [if_neg h] at hmem
  · have hkeep {β : Type} (p : State → β) (h : blindToScrubs p) (htime : ∀ (t : State) n, p { t with time := n } = p t) :
        p ((s.elapse ((s.meter.window + 1) * 1000000 - 1)).scrubNow) = p s := (scrubNow_keeps h _).trans (htime s _)
    have hregs : ((s.elapse ((s.meter.window + 1) * 1000000 - 1)).scrubNow).regs = s.regs := hkeep State.regs (fun _ _ _ _ => rfl) fun _ _ => rfl
    refine ⟨_, rfl, ?_, ?_, rfl, ?_⟩
    · exact sameMem_of_eq (hkeep State.hbm (fun _ _ _ _ => rfl) fun _ _ => rfl) (hkeep State.wbuf (fun _ _ _ _ => rfl) fun _ _ => rfl)
    · exact fun f i _ => congrArg (sget (f.resetAt i) · (f.key i)) hregs
    · have htime : ((s.elapse ((s.meter.window + 1) * 1000000 - 1)).scrubNow).time = max s.time ((s.meter.window + 1) * 1000000 - 1) :=
        scrubNow_keeps (p := State.time) (fun _ _ _ _ => rfl) _
      refine (congrArg (max · _) htime).trans ?_
      omega
  · have hclosed {β : Type} {p : State → β} (h : blindToReceipts p) (hwr : ∀ (t : State) f v i, f ∈ windowRegs → p (t.wr f v i) = p t) :=
      windowClosed_meter s h hwr
    obtain ⟨hwindow, hrail, hk, hcounts, htotal, hcoefs, hdigest⟩ := meter_windowBilled (windowReached s) s.meter.window
    have hreach {β : Type} {p : State → β} (h : blindToScrubs p) (htime : ∀ (t : State) n, p { t with time := n } = p t) := windowReached_keeps h htime s
    have hmem {β : Type} {p : State → β} (h : blindToMeter p) (htime : ∀ (t : State) n, p { t with time := n } = p t)
        (hwr : ∀ (t : State) f v i, p (t.wr f v i) = p t) : p (coefsTaken (windowClosed s)) = p s :=
      (coefsTaken_keeps (fun t _ _ => h t t.nextId _ t.scrubs t.scrubAt) (fun t v i => hwr t _ v i) (fun t v i => hwr t _ v i) _).trans
        (windowClosed_keeps h htime (fun t f v i _ => hwr t f v i) s)
    have htaken {β : Type} {p : State → β} (hmeter : ∀ (t : State) cf d, p { t with meter := { t.meter with coefs := cf, digest := d } } = p t)
        (hest : ∀ (t : State) v i, p (t.wr .EN_STATIC_EST v i) = p t) (hcoef : ∀ (t : State) v i, p (t.wr .EN_COEF_COEF v i) = p t) :=
      coefsTaken_keeps hmeter hest hcoef (windowClosed s)
    have hmeter {β : Type} (p : Meter → β) (h : ∀ m accs blocks, p { m with accs := accs, blocks := blocks } = p m)
        (h' : ∀ m cf d, p { m with coefs := cf, digest := d } = p m) :
        p (coefsTaken (windowClosed s)).meter = p (windowBilled (windowReached s) s.meter.window).meter :=
      (htaken (p := fun t => p t.meter) (fun t _ _ => h' t.meter _ _) (fun _ _ _ => rfl) (fun _ _ _ => rfl)).trans
        (hclosed (p := fun t => p t.meter) (fun t _ _ _ => h t.meter _ _) fun _ _ _ _ _ => rfl)
    have hcoefs' : (windowClosed s).meter.coefs = s.meter.coefs :=
      (hclosed (p := fun t => t.meter.coefs) (fun _ _ _ _ => rfl) fun _ _ _ _ _ => rfl).trans
        (hcoefs.trans (hreach (p := fun t => t.meter.coefs) (fun _ _ _ _ => rfl) fun _ _ => rfl))
    refine ⟨_, congrArg s.after (windowEnd_eq hready), sameMem_of_eq (hmem (p := State.hbm) (fun _ _ _ _ _ => rfl) (fun _ _ => rfl) fun _ _ _ _ => rfl)
      (hmem (p := State.wbuf) (fun _ _ _ _ _ => rfl) (fun _ _ => rfl) fun _ _ _ _ => rfl), ?_, ?_, ?_, ?_, ?_, fun hnone => ?_, ?_, fun hnone => ?_, fun cf e hsome => ?_,
      fun hscrubs => ?_⟩
    · exact (hmeter Meter.window (fun _ _ _ => rfl) fun _ _ _ => rfl).trans hwindow
    · exact (hmeter Meter.rail (fun _ _ _ => rfl) fun _ _ _ => rfl).trans hrail
    · intro c hc
      rw [hmeter Meter.counts (fun _ _ _ => rfl) fun _ _ _ => rfl, hcounts] at hc
      simpa using (List.mem_filter.1 hc).2
    · refine (htaken (p := State.time) (fun _ _ _ => rfl) (fun _ _ _ => rfl) fun _ _ _ => rfl).trans ?_
      refine (hclosed (p := State.time) (fun _ _ _ _ => rfl) fun _ _ _ _ _ => rfl).trans ?_
      exact (windowBilled_keeps (p := State.time) (fun _ _ _ _ _ => rfl) _ _).trans (time_windowReached s)
    · refine (hmeter Meter.total (fun _ _ _ => rfl) fun _ _ _ => rfl).trans (htotal.trans ?_)
      rw [hreach (p := fun t => t.meter.total) (fun _ _ _ _ => rfl) fun _ _ => rfl, hreach (p := fun t => t.meter.rail) (fun _ _ _ _ => rfl) fun _ _ => rfl]
    · exact (htaken (p := fun t => t.rd .EN_ERR_RAIL_MISSING) (fun _ _ _ => rfl) (fun t v _ => rd_wr_ne t v (.inl (by decide)))
        fun t v _ => rd_wr_ne t v (.inl (by decide))).trans (rail_missing_windowClosed s hnone)
    · refine (htaken (p := fun t => t.rd .EN_STATUS_K) (fun _ _ _ => rfl) (fun t v _ => rd_wr_ne t v (.inl (by decide)))
        fun t v _ => rd_wr_ne t v (.inl (by decide))).trans ((rd_k_windowClosed s).trans ?_)
      rw [hmeter Meter.k (fun _ _ _ => rfl) fun _ _ _ => rfl, hk]
    · have hnone' : coefsTaken (windowClosed s) = windowClosed s := by rw [coefsTaken, hcoefs', hnone]
      rw [hnone']
      exact (hclosed (p := fun t => t.meter.digest) (fun _ _ _ _ => rfl) fun _ _ _ _ _ => rfl).trans
        (hdigest.trans (hreach (p := fun t => t.meter.digest) (fun _ _ _ _ => rfl) fun _ _ => rfl))
    · obtain ⟨hc, hd, hest, hcoef⟩ := coefsTaken_of_some (hcoefs'.trans hsome)
      exact ⟨hc, hd.trans (windowClosed_keeps (p := fun t => t.kyrdo.mgmt) (fun _ _ _ _ _ => rfl) (fun _ _ => rfl) (fun _ _ _ _ _ => rfl) s), hest, hcoef⟩
    · exact (hmeter Meter.k (fun _ _ _ => rfl) fun _ _ _ => rfl).trans (hk.trans (windowBits_of_no_scrub s hscrubs))
  · exact congrArg s.after (by simp only [State.lingerExpiry, hx, hbusy, if_true])
  · have hrun : s.lingerExpiry a = (s.elapse (x.last + max (s.rd .EN_CTL_LINGER) 1 * 1000)).closeAccs (fun b => b.id == a) 0 := by
      simp only [State.lingerExpiry, hx, hidle, Bool.false_eq_true, if_false]
    refine ⟨_, congrArg s.after hrun, sameMem_of_eq rfl rfl, onlyRegs_refl s _, rfl, ?_⟩
    have hfound := List.find?_some hx
    simp only [Bool.and_eq_true, beq_iff_eq, Option.isNone_iff_eq_none] at hfound
    exact mem_closeAccs (s.elapse _) (List.mem_of_find?_eq_some hx) hfound.2 (hfound.1 ▸ hidle) (beq_iff_eq.2 hfound.1)
  · refine ⟨_, congrArg s.after (batchExpiry_of_found hx), sameMem_of_eq rfl rfl, onlyRegs_refl s _, rfl, ?_⟩
    have hfound := List.find?_some hx
    simp only [Bool.and_eq_true] at hfound
    have hmem := updAll_mem (p := fun y : Block => y.id == b) (f := fun y => { y with due := true }) (List.mem_of_find?_eq_some hx)
    rwa [if_pos hfound.1] at hmem
  · refine ⟨_, congrArg s.after (blockSigned_of_found hx sig), sameMem_of_eq rfl rfl, onlyRegs_refl s _, rfl, ?_⟩
    have hfound := List.find?_some hx
    simp only [Bool.and_eq_true] at hfound
    have hmem := updAll_mem (p := fun y : Block => y.id == b) (f := fun y => { y with signed := some (coseSign1 s.kyrdo.rkid (s.blockClaims x (s.kyrdo.blocks + 1)) sig) })
      (List.mem_of_find?_eq_some hx)
    rwa [if_pos hfound.1.1] at hmem
  · have hmeter : (s.begun n).meter = s.meter := begun_keeps State.meter (fun _ _ => rfl) (fun _ _ _ => rfl) (fun _ _ _ => rfl) s n
    have hslot : (s.begun n).slotState n = mbRUNNING := slotState_begun s hs.1
    have hmem := sameMem_begun s n
    have hfref : (s.begun n).fref n = s.fref n := by simp only [State.fref, par_begun]
    have hbusy (a : Nat) : (s.begun n).accBusy a = s.accBusy a := by rw [State.accBusy, hmeter, State.accBusy]
    refine ⟨_, congrArg s.after (mbRun_of_starts hs fun t => t.receiptFlush n), ?_⟩
    dsimp only
    rw [receiptFlush_of_current href]
    have hclosed := closed_of_flush (t := s.begun n) (n := n)
    rw [hfref] at hclosed
    refine ⟨hmem, onlyRegs_refl _ _, hslot, ⟨flushOf (s.begun n) n, List.mem_append_right _ List.mem_cons_self, rfl, congrArg Prod.fst hfref⟩, fun a ha hf hg hidle => ?_⟩
    exact hclosed a (hfref ▸ ha) hf hg ((hbusy _).trans hidle)
  · have hkeep {β : Type} (p : State → β) (hwr : ∀ (t : State) f v i, p (t.wr f v i) = p t) :
        p (s.elapse ((s.time / 100000000 + 1) * 100000000)).energyRegs = p (s.elapse ((s.time / 100000000 + 1) * 100000000)) :=
      energyRegs_keeps (fun t f v i _ => hwr t f v i) _
    refine ⟨_, congrArg s.done (snapshot_eq s), ?_, ?_, fun f hf => live_of_snap hf⟩
    · exact (sameMem_close_iff _ _ _).2 (sameMem_of_eq (hkeep State.hbm fun _ _ _ _ => rfl) (hkeep State.wbuf fun _ _ _ _ => rfl))
    · refine (time_close _ _).trans ?_
      have htime := hkeep State.time fun _ _ _ _ => rfl
      refine (congrArg (max s.time) htime).trans ?_
      exact Nat.max_eq_right (Nat.le_max_left _ _)

end Sys2Proof.Laws

/-! # Watches on pours

Waypoints, kills, deadlines and deadlocks (R153, R158 to R165, R402). -/
namespace Sys2Proof.Laws

open Sys2Proof.Machine

/-! ## Waypoints (R77, R161) -/

section
variable {s : State} {e pourId : Nat} {k : Kernel}

/-- Engine e's advance is recorded. -/
def advanced (s : State) (e v : Nat) : State :=
  ((s.wr .LANE_WP_VALUE v e).wr .LANE_WP_STALLED 0 e).wr .LANE_WP_MOVED_AT (bits (s.clock .fabric) 20 24) e

/-- Engine e's lane, its counter moved now. -/
def laneMoved (s : State) (e : Nat) : Lane := { s.lane e with moved := s.time }

theorem oldReport_iff (hk : (s.lane e).running.bind s.kernel? = some k) :
    s.oldReport (((s.lane e).running.bind s.kernel?).map Kernel.ctx) pourId = true ↔
      bits pourId 44 8 ≠ s.rd .QCTX_GEN (pourId / 2 ^ 52) ∧ ∀ x, s.ctx? k.ctx = some x → ¬ (x.mgmt = true ∧ x.pour.word = pourId) := by
  rw [hk]
  cases hx : s.ctx? k.ctx with
  | none => simp [State.oldReport, hx]
  | some x =>
    simp only [State.oldReport, hx, Option.map_some, Option.bind_some, Option.any_some, Bool.and_eq_true, Bool.not_eq_true', bne_iff_ne, ne_eq,
      Bool.and_eq_false_iff, beq_eq_false_iff_ne, Option.some.injEq, forall_eq', not_and]
    cases x.mgmt <;> simp [and_comm]

theorem wpAdvance_of_old (hready : s.ready = true) (hold : s.oldReport (((s.lane e).running.bind s.kernel?).map Kernel.ctx) pourId = true) (v : Nat) :
    s.wpAdvance e pourId v = s.dropReport pourId := by
  simp only [State.wpAdvance, State.inReset, hready, hold, Bool.not_true, Bool.false_eq_true, if_false, if_true]

theorem wpAdvance_of_current (hready : s.ready = true) (hk : (s.lane e).running.bind s.kernel? = some k)
    (hold : s.oldReport (((s.lane e).running.bind s.kernel?).map Kernel.ctx) pourId = false) (hpour : k.pour.word = pourId) (v : Nat) :
    s.wpAdvance e pourId v = (advanced s e v).setLane (laneMoved s e) := by
  have hword : ((s.lane e).running.bind s.kernel?).map (fun k => k.pour.word) = some pourId := by rw [hk, Option.map_some, hpour]
  simp only [State.wpAdvance, State.inReset, hready, hold, hword, Bool.not_true, Bool.false_eq_true, if_false, ne_eq, not_true_eq_false]
  rfl

theorem lane_laneMoved (t : State) (s : State) (e : Nat) : (t.setLane (laneMoved s e)).lane e = laneMoved s e := by
  have heng : (laneMoved s e).eng = e := eng_lane s e
  exact (congrArg _ heng.symm).trans (lane_setLane_same t (laneMoved s e))

/-- The registers of an advance, and no other. -/
theorem advanced_leaves (s : State) (e v : Nat) : (advanced s e v).rd .LANE_WP_VALUE e = v % 2 ^ Field.LANE_WP_VALUE.row.width ∧
    (advanced s e v).rd .LANE_WP_STALLED e = 0 ∧ (advanced s e v).rd .LANE_WP_MOVED_AT e = bits (s.clock .fabric) 20 24 ∧
    onlyRegs s (advanced s e v) [(.LANE_WP_VALUE, e), (.LANE_WP_STALLED, e), (.LANE_WP_MOVED_AT, e)] := by
  refine ⟨?_, ?_, ?_, ?_⟩
  · exact (rd_wr_ne _ _ (.inl (by decide))).trans ((rd_wr_ne _ _ (.inl (by decide))).trans (rd_wr_same _ _ _ _))
  · exact (rd_wr_ne _ _ (.inl (by decide))).trans ((rd_wr_same _ _ _ _).trans (Nat.zero_mod _))
  · exact (rd_wr_same _ _ _ _).trans (bits_cut (g := .LANE_WP_MOVED_AT) (w := 24) rfl _ _)
  · exact onlyRegs_wr (onlyRegs_wr (onlyRegs_wr (onlyRegs_refl s _) (by simp) _) (by simp) _) (by simp) _

/-- A whole window has passed on engine e without an advance. -/
def stalled (s : State) (e : Nat) (k : Kernel) : State := (s.elapse ((s.lane e).moved + 2 ^ k.wpLog2 * 1000)).wr .LANE_WP_STALLED 1 e

theorem wpStall_of_flask (hk : (s.lane e).running.bind s.kernel? = some k) (hnew : s.on .LANE_WP_STALLED e = false)
    (hauto : s.on .FL_AUTO_RESET k.flask = false) (hreset : s.flaskResetting k.flask = false) (hmgmt : ∀ x, s.ctx? k.ctx = some x → x.mgmt = false) :
    s.wpStall e = (stalled s e k).raise (0x2000 + e) := by
  have hctx : ((stalled s e k).raise (0x2000 + e)).ctx? k.ctx = s.ctx? k.ctx := raise_keeps (fun t => t.ctx? k.ctx) (fun _ _ _ _ => rfl) _ _
  have hauto' : ((stalled s e k).raise (0x2000 + e)).on .FL_AUTO_RESET k.flask = false := by
    rw [State.on, (onlyRegs_raised _ _ _ _ (by simp) : ((stalled s e k).raise (0x2000 + e)).rd .FL_AUTO_RESET k.flask = _)]
    exact (congrArg (· == 1) (rd_wr_ne _ _ (.inl (by decide)))).trans hauto
  simp only [State.wpStall, hk, hnew, hreset, Bool.and_false, Bool.or_self, Bool.false_eq_true, if_false]
  rw [stalled] at *
  cases hx : s.ctx? k.ctx with
  | none => rw [hctx, hx]
  | some x => simp only [hctx, hx, hmgmt x hx, hauto', Bool.false_eq_true, if_false]

end

/-! ## Kills (R160, R402) -/

section
variable {s : State}

/-- The engine of lane l is told to stop where it runs a kernel of the contexts cs. -/
def killLane (cs : List Nat) (t : State) (l : Lane) : State :=
  match l.running.bind t.kernel? with
  | some k => if cs.contains k.ctx then t.say (.kill l.eng) else t
  | none => t

theorem killTree_eq (s : State) (r : Nat) : s.killTree r = s.lanes.foldl (killLane ((s.tree r).map Ctx.num)) s := rfl

theorem killLane_keeps {β : Type} {p : State → β} (hsay : ∀ t m, p (State.say t m) = p t) (cs : List Nat) (t : State) (l : Lane) :
    p (killLane cs t l) = p t := by
  unfold killLane
  split
  · split
    · exact hsay _ _
    · rfl
  · rfl

theorem killTree_keeps {β : Type} {p : State → β} (hsay : ∀ t m, p (State.say t m) = p t) (s : State) (r : Nat) : p (s.killTree r) = p s :=
  foldl_keeps p (killLane_keeps hsay _) _ s

theorem mem_sent_killLane {m : Msg} {t : State} (h : m ∈ t.sent) (cs : List Nat) (l : Lane) : m ∈ (killLane cs t l).sent := by
  unfold killLane
  split
  · split
    · exact List.mem_cons_of_mem _ h
    · exact h
  · exact h

/-- Every engine that runs a kernel of the tree is told to stop. -/
theorem kill_mem_killTree (s : State) (r : Nat) {l : Lane} (hl : l ∈ s.lanes) {k : Kernel} (hk : l.running.bind s.kernel? = some k)
    (htree : k.ctx ∈ (s.tree r).map Ctx.num) : .kill l.eng ∈ (s.killTree r).sent := by
  have hfold (ls : List Lane) (t : State) (hsame : t.kernel? = s.kernel?) (h : l ∈ ls ∨ .kill l.eng ∈ t.sent) :
      .kill l.eng ∈ (ls.foldl (killLane ((s.tree r).map Ctx.num)) t).sent := by
    induction ls generalizing t with
    | nil => exact h.resolve_left List.not_mem_nil
    | cons a ls ih =>
      refine ih _ ((killLane_keeps (p := State.kernel?) (fun _ _ => rfl) _ t a).trans hsame) ?_
      by_cases ha : l = a
      · subst ha
        refine .inr ?_
        simp only [killLane, hsame, hk, List.contains_iff_mem.2 htree, if_true]
        exact List.mem_cons_self
      · exact h.imp (fun h => (List.mem_cons.1 h).resolve_left ha) fun h => mem_sent_killLane h _ a
  exact hfold s.lanes s rfl (.inl hl)

theorem stopTimeout_leaves {e g : Nat} (h : (s.lane e).killReq = some g) : sameMem s (s.stopTimeout e) ∧ (s.stopTimeout e).time = max s.time g ∧
    .kill e ∈ (s.stopTimeout e).sent ∧ ((s.stopTimeout e).lane e).killReq = none := by
  have hlane : (((s.elapse g).setLane { s.lane e with killReq := none }).say (.kill e)).lane e = { s.lane e with killReq := none } := by
    have hset := lane_setLane_same (s.elapse g) { s.lane e with killReq := none }
    rwa [show ({ s.lane e with killReq := none } : Lane).eng = e from eng_lane s e] at hset
  have hbase {β : Type} (p : State → β) (hbump : ∀ t f v i, p (State.wr t f v i) = p t) :
      p (s.stopTimeout e) = p (((s.elapse g).setLane { s.lane e with killReq := none }).say (.kill e)) := by
    simp only [State.stopTimeout, h]
    split
    · split
      · exact hbump _ _ _ _
      · rfl
    · rfl
  refine ⟨sameMem_of_eq (hbase State.hbm fun _ _ _ _ => rfl) (hbase State.wbuf fun _ _ _ _ => rfl), hbase State.time fun _ _ _ _ => rfl, ?_, ?_⟩
  · rw [hbase State.sent fun _ _ _ _ => rfl]
    exact List.mem_cons_self
  · exact congrArg Lane.killReq ((hbase (fun t => t.lane e) fun _ _ _ _ => rfl).trans hlane)

theorem graceExpiry_of {c g : Nat} {x : Ctx} (hx : s.ctx? c = some x) (hg : x.grace = some g) :
    s.graceExpiry c = ((s.elapse g).modCtx c (fun y => { y with grace := none })).killTree c := by
  simp only [State.graceExpiry, hx, hg]

/-- The end of a grace changes no context's place in its tree. -/
theorem tree_graceless (s : State) (c r g : Nat) :
    (((s.elapse g).modCtx c (fun y => { y with grace := none })).tree r).map Ctx.num = (s.tree r).map Ctx.num := by
  simp only [State.tree, State.modCtx, updAll, List.filter_map, List.map_map]
  have hroot : ((fun x : Ctx => x.root == r) ∘ fun x : Ctx => if (x.num == c) = true then { x with grace := none } else x) = fun x => x.root == r := by
    funext x
    simp only [Function.comp_apply]
    split <;> rfl
  rw [hroot]
  refine List.map_congr_left fun x _ => ?_
  simp only [Function.comp_apply]
  split <;> rfl

end

/-! ## Loans and deadlines (R153, R158 to R160) -/

theorem blindToStop.of_time : blindToStop State.time := ⟨fun _ _ _ _ _ _ _ _ _ _ _ => rfl, fun _ _ _ => rfl, fun _ _ _ _ _ => rfl⟩

section
variable {s : State} {c rec_ e : Nat} {k : Kernel} {x z : Ctx}

/-- The loan of engine e for kernel k is reported as overrun. -/
def overrun (s : State) (e : Nat) (k : Kernel) : State :=
  ((s.elapse ((s.lane e).since + k.budget * 1000)).wr .SEQ_ERR_LEND_OVERRUN 1).modKernel k.id (fun x => { x with overrun := true })

theorem borrowOverrun_of (hk : (s.lane e).running.bind s.kernel? = some k) (hlent : k.lent.contains e = true) (hwanted : s.rtWanted e = true)
    (hnew : k.overrun = false) : s.borrowOverrun e = ((overrun s e k).endPour k.ctx 2 (k.index % 256)).pump := by
  simp only [State.borrowOverrun, hk, hlent, hwanted, hnew, Bool.and_self, Bool.not_true, Bool.or_self, Bool.false_eq_true, if_false]
  rfl

/-- The moment at which kernel k's deadline has passed. -/
def deadlinePassed (s : State) (k : Kernel) : State := s.elapse (k.started.getD 0 + (if k.deadline = 0 then k.budget else k.deadline) * 1000)

/-- Kernel k's pour, of root r, ends by its deadline. -/
def deadlineEnded (s : State) (k : Kernel) (r : Nat) : State :=
  (deadlinePassed s k).endTree r { kind := .deadline, status := 2, detail := k.index % 256, record := k.index }

theorem deadlineMiss_of (hx : s.ctx? c = some x) (hz : s.ctx? x.root = some z) (hcause : z.cause = none) (hstamp : z.stamp = .none)
    (hk : s.kernels.find? (fun k => k.ctx == c && k.index == rec_ && k.rt && k.started.isSome && !k.left.isEmpty) = some k) :
    s.deadlineMiss c rec_ = if k.grace = 0 then (deadlineEnded s k x.root).killTree x.root
      else (deadlineEnded s k x.root).modCtx x.root (fun y => { y with grace := some ((deadlineEnded s k x.root).time + k.grace * 1000) }) := by
  have hnum : z.num = x.root := ctx_num hz
  have hroot : (deadlinePassed s k).rootOf x = z := by
    rw [State.rootOf, (show (deadlinePassed s k).ctx? x.root = s.ctx? x.root from rfl), hz]
    rfl
  obtain ⟨y, hy, hycause⟩ := cause_endTree (s := deadlinePassed s k) (r := x.root) hz hcause hstamp
    { kind := .deadline, status := 2, detail := k.index % 256, record := k.index }
  have hended : ((deadlineEnded s k x.root).rootOf x).cause.isNone = false := by
    rw [State.rootOf, deadlineEnded, hy, Option.getD_some, hycause]
    rfl
  simp only [State.deadlineMiss, hx, hk]
  rw [deadlinePassed] at hroot
  rw [hroot, hcause, hnum]
  rw [deadlineEnded, deadlinePassed] at hended ⊢
  dsimp only
  rw [hended]
  rfl

end

/-! ## The wait-for check (R164, R165) -/

/-- The registers that show a cycle of flask f, with its queues. -/
def cycleShown (t : State) (f : Nat) (qs : List Nat) : State :=
  let u := { t with cycles := (f, qs) :: t.cycles.filter (fun c => c.1 != f) }
  (((((u.wr .SEQ_DEADLOCK_COUNT (min qs.length 255) f).wr .SEQ_DEADLOCK_Q0 (nth qs 0 0) f).wr .SEQ_DEADLOCK_Q1 (nth qs 1 0) f).wr
    .SEQ_DEADLOCK_Q2 (nth qs 2 0) f).wr .SEQ_DEADLOCK_Q3 (nth qs 3 0) f).wr .SEQ_ERR_DEADLOCK 1

theorem cycleShown_leaves (t : State) (f : Nat) (qs : List Nat) :
    (cycleShown t f qs).rd .SEQ_DEADLOCK_COUNT f = min qs.length 255 % 2 ^ Field.SEQ_DEADLOCK_COUNT.row.width ∧
      (cycleShown t f qs).rd .SEQ_DEADLOCK_Q0 f = nth qs 0 0 % 2 ^ Field.SEQ_DEADLOCK_Q0.row.width ∧ (cycleShown t f qs).rd .SEQ_ERR_DEADLOCK = 1 := by
  refine ⟨?_, ?_, rd_wr_one _ _ _⟩
  · iterate 5 refine (rd_wr_ne _ _ (.inl (by decide))).trans ?_
    exact rd_wr_same _ _ _ _
  · iterate 4 refine (rd_wr_ne _ _ (.inl (by decide))).trans ?_
    exact rd_wr_same _ _ _ _

theorem sameMem_cycleShown (t : State) (f : Nat) (qs : List Nat) : sameMem t (cycleShown t f qs) := sameMem_of_eq rfl rfl

section
variable {s : State} {f : Nat} {p : Nat × Nat}

theorem deadlockCheck_of (hp : s.waiting.find? (fun p => p.1 == f) = some p) (hen : s.on .SEQ_CTL_DL_CHECK_EN = true) (hwait : s.whollyWaiting f = true) :
    s.deadlockCheck f =
      (let t := s.elapse (p.2 + 2 ^ s.rd .SEQ_FLASK_WP_LOG2 f * 1000)
       let qs := cycleOf (t.waitEdges f)
       if qs.isEmpty || t.cycles.any (fun c => c.1 == f && c.2 == qs) then t else (cycleShown t f qs).flaskCause f .FL_CAUSE_DEADLOCK) := by
  simp only [State.deadlockCheck, hp, hen, hwait, Bool.and_self, Bool.not_true, Bool.false_eq_true, if_false]
  rfl

end

theorem sameMem_flaskCause (t : State) (f : Nat) (c : Field) : sameMem t (t.flaskCause f c) :=
  sameMem_of_eq (raise_keeps State.hbm (fun _ _ _ _ => rfl) _ _) (raise_keeps State.wbuf (fun _ _ _ _ => rfl) _ _)

/-- A cause is set, and its source raised; no other register moves (R407). -/
theorem flaskCause_leaves (t : State) (f : Nat) {c : Field} (hp : c ≠ .EV_SRC_PENDING) (hm : c ≠ .EV_STATS_MERGED) :
    (t.flaskCause f c).rd c f = 1 % 2 ^ c.row.width ∧ (t.flaskCause f c).on .EV_SRC_PENDING (0x2200 + f) = true ∧
      ∀ g i, g ≠ c → g ≠ .EV_SRC_PENDING → g ≠ .EV_STATS_MERGED → (t.flaskCause f c).rd g i = t.rd g i := by
  refine ⟨(onlyRegs_raised _ _ _ _ (by simp [hp, hm])).trans (rd_wr_same _ _ _ _), on_raise_pending _ _, fun g i hg hgp hgm => ?_⟩
  exact (onlyRegs_raised _ _ _ _ (by simp [hgp, hgm])).trans (rd_wr_ne _ _ (.inl (Ne.symm hg)))

/-- Settles O34. -/
theorem watchesOnPours : Obligations.WatchesOnPours := by
  unfold Obligations.WatchesOnPours
  refine ⟨⟨fun s e p v k hready hk => ⟨fun hnew hpour => ?_, fun hold => ?_⟩, fun s e k hk hnew hauto hreset hmgmt => ?_, fun s c g x hx hg => ?_,
    fun s e g hg => ?_⟩, fun s e k x z hk hlent hwanted hnew hx hz hcause hstamp => ?_, fun s c r x z k hx hz hcause hstamp hk => ?_,
    fun s f p hp hen hwait => ⟨fun hnone => ?_, fun hsome hfresh => ?_⟩⟩
  · have hcurrent : s.oldReport (((s.lane e).running.bind s.kernel?).map Kernel.ctx) p = false :=
      Bool.eq_false_iff.2 fun h => hnew ((oldReport_iff hk).1 h)
    obtain ⟨hvalue, hstalled, hmoved, honly⟩ := advanced_leaves s e v
    refine ⟨_, congrArg s.done (wpAdvance_of_current hready hk hcurrent hpour v), (sameMem_close_iff _ _ _).2 (sameMem_of_eq rfl rfl),
      (rd_close _ _ _ _).trans hvalue, (rd_close _ _ _ _).trans hstalled, (rd_close _ _ _ _).trans hmoved, ?_, ?_, (onlyRegs_close_iff _ _ _ _).2 honly⟩
    · exact congrArg Lane.moved (lane_laneMoved (advanced s e v) s e)
    · exact (congrArg Lane.running (lane_laneMoved (advanced s e v) s e) :)
  · exact ⟨_, congrArg s.done (wpAdvance_of_old hready ((oldReport_iff hk).2 hold) v), (sameMem_close_iff _ _ _).2 (sameMem_of_eq rfl rfl), rfl,
      (rd_close _ _ _ _).trans (counts_stale ..), (onlyRegs_close_iff _ _ _ _).2 fun f i h => onlyRegs_stale _ _ _ _ _ f i h⟩
  · refine ⟨_, congrArg s.after (wpStall_of_flask hk hnew hauto hreset hmgmt), ?_, raise_keeps State.time (fun _ _ _ _ => rfl) _ _,
      (onlyRegs_raised _ _ _ _ (by simp)).trans (rd_wr_one _ _ _), on_raise_pending _ _, ?_⟩
    · exact sameMem_of_eq (raise_keeps State.hbm (fun _ _ _ _ => rfl) _ _) (raise_keeps State.wbuf (fun _ _ _ _ => rfl) _ _)
    · have honly : onlyRegs s (stalled s e k) [(.LANE_WP_STALLED, e)] := onlyRegs_wr (f := .LANE_WP_STALLED) (i := e) (onlyRegs_refl s _) (by simp) 1
      exact onlyRegs_mono (onlyRegs_trans honly (onlyRegs_raised _ _)) (by simp)
  · have hkeep {β : Type} {p : State → β} (hsay : ∀ t m, p (State.say t m) = p t) := killTree_keeps hsay ((s.elapse g).modCtx c (fun y => { y with grace := none })) c
    refine ⟨_, congrArg s.after (graceExpiry_of hx hg), ?_, fun f i _ => ?_, hkeep (p := State.time) fun _ _ => rfl, ?_, fun l hl k hk htree => ?_⟩
    · exact sameMem_of_eq (hkeep (p := State.hbm) fun _ _ => rfl) (hkeep (p := State.wbuf) fun _ _ => rfl)
    · exact hkeep (p := fun t => t.rd f i) fun _ _ => rfl
    · refine ⟨{ x with grace := none }, (hkeep (p := fun t => t.ctx? c) fun _ _ => rfl).trans ?_, rfl⟩
      exact (ctx_modCtx_same (f := fun y => { y with grace := none }) _ fun _ => rfl).trans (congrArg _ hx)
    · exact kill_mem_killTree _ c hl hk (tree_graceless s c c g ▸ htree)
  · obtain ⟨hmem, htime, hsent, hreq⟩ := stopTimeout_leaves hg
    exact ⟨_, rfl, hmem, htime, hsent, hreq⟩
  · obtain ⟨y, hy, hycause⟩ := cause_endTree (s := overrun s e k) (r := x.root) hz hcause hstamp { kind := .error, status := 2, detail := k.index % 256 }
    have hend : (overrun s e k).endPour k.ctx 2 (k.index % 256) =
        (overrun s e k).endTree x.root { kind := .error, status := 2, detail := k.index % 256 } := by
      simp only [State.endPour, show (overrun s e k).ctx? k.ctx = some x from hx]
    refine ⟨_, congrArg s.after ((borrowOverrun_of hk hlent hwanted hnew).trans (congrArg State.pump hend)), ?_, ?_, y, ?_, hycause⟩
    · exact ((blindToStop.of_rd (by decide) 0).pump _).trans (((blindToStop.of_rd (by decide) 0).endTree _ _ _).trans (rd_wr_one _ _ _))
    · exact (blindToStop.of_time.pump _).trans (blindToStop.of_time.endTree _ _ _)
    · simp only [State.ctx?, ctxs_pump] at hy ⊢
      exact hy
  · obtain ⟨y, hy, hycause⟩ := cause_endTree (s := deadlinePassed s k) (r := x.root) hz hcause hstamp
      { kind := .deadline, status := 2, detail := k.index % 256, record := k.index }
    have htime : (deadlineEnded s k x.root).time = (deadlinePassed s k).time := blindToStop.of_time.endTree _ _ _
    have hmiss := congrArg s.after (deadlineMiss_of hx hz hcause hstamp hk)
    by_cases hgrace : k.grace = 0
    · rw [if_pos hgrace] at hmiss
      refine ⟨_, hmiss, (killTree_keeps (p := State.time) (fun _ _ => rfl) _ _).trans htime, y, ?_, hycause, fun h => absurd hgrace h⟩
      exact (killTree_keeps (p := fun t => t.ctx? x.root) (fun _ _ => rfl) _ _).trans hy
    · rw [if_neg hgrace] at hmiss
      refine ⟨_, hmiss, htime, { y with grace := some ((deadlineEnded s k x.root).time + k.grace * 1000) }, ?_, hycause, fun _ => rfl⟩
      exact (ctx_modCtx_same (f := fun y => { y with grace := some _ }) _ fun _ => rfl).trans (congrArg _ hy)
  · exact ⟨_, congrArg s.after (deadlockCheck_of hp hen hwait), by simp [hnone]⟩
  · have hcheck := congrArg s.after (deadlockCheck_of hp hen hwait)
    have hmem : sameMem s (s.elapse (p.2 + 2 ^ s.rd .SEQ_FLASK_WP_LOG2 f * 1000)) := sameMem_of_eq rfl rfl
    generalize s.elapse (p.2 + 2 ^ s.rd .SEQ_FLASK_WP_LOG2 f * 1000) = t at *
    have hqs : (cycleOf (t.waitEdges f)).isEmpty = false := by simpa using hsome
    dsimp only at hcheck
    rw [hqs, hfresh, Bool.or_self, if_neg (by decide)] at hcheck
    obtain ⟨hcause, hraised, hothers⟩ := flaskCause_leaves (cycleShown t f (cycleOf (t.waitEdges f))) f (c := .FL_CAUSE_DEADLOCK) (by decide) (by decide)
    obtain ⟨hcount, hfirst, herr⟩ := cycleShown_leaves t f (cycleOf (t.waitEdges f))
    refine ⟨_, hcheck, sameMem_trans hmem (sameMem_trans (sameMem_cycleShown t f _) (sameMem_flaskCause _ _ _)),
      ?_, ?_, ?_, hcause, hraised⟩
    · exact (hothers _ _ (by decide) (by decide) (by decide)).trans hcount
    · exact (hothers _ _ (by decide) (by decide) (by decide)).trans hfirst
    · exact (hothers _ _ (by decide) (by decide) (by decide)).trans herr

end Sys2Proof.Laws

/-! # Bindings of peer nodes

A register holds no value wider than its field in any reachable state, but a statement over all states meets one that does (R337). -/
namespace Sys2Proof.Laws

open Sys2Proof.Machine

/-- The enable of binding 0, a field of one bit, holds 2: it does not read as on. -/
def wideEnable : State :=
  { regs := [(Field.CFG_MSE.key 0, 1), (Field.RAS_STATUS_PHASE.key 0, 4), (Field.PEER_BIND_EN.key 0, 2)] }

/-- A write that sets EN of a binding whose node range is empty. -/
def emptyRange : Nat := 2 ^ 63 + 1

/-- Refutes O44 (R337): a write whose checks fail leaves EN as it was, and EN is not 1 where it holds 2, which is not 0. -/
theorem not_peerNodes : ¬ Obligations.PeerNodes := by
  rintro ⟨-, -, -, -, -, h⟩
  have hhears : wideEnable.hears := ⟨by decide +kernel, by decide +kernel, by decide +kernel⟩
  obtain ⟨-, hfails⟩ := h wideEnable 0 emptyRange hhears (by decide) (by decide +kernel) (by decide +kernel)
  obtain ⟨t, ht, -, hen, -⟩ := hfails (by decide +kernel)
  obtain rfl : wideEnable.close (wideEnable.hostWrite 0x601000 8 emptyRange) = t := Host.Outcome.next.inj ht
  rw [rd_close] at hen
  exact absurd hen (by decide +kernel)

end Sys2Proof.Laws

/-! # Moulds leave and segments return

MOULD_UNLOAD, the return of a segment, and the control of the mould cache (R120 to R126). -/
namespace Sys2Proof.Laws

open Sys2Proof.Machine

/-! ## MOULD_UNLOAD (R120) -/

section
variable {s : State} {n : Nat} {m : Mould}

theorem begun_moulds (s : State) (n : Nat) : (s.begun n).moulds = s.moulds :=
  begun_keeps State.moulds (fun _ _ => rfl) (fun _ _ _ => rfl) (fun _ _ _ => rfl) s n

theorem mouldBusy_begun (s : State) (n : Nat) (m : Mould) : (s.begun n).mouldBusy m = s.mouldBusy m :=
  begun_keeps (fun t => t.mouldBusy m) (fun _ _ => rfl) (fun _ _ _ => rfl) (fun _ _ _ => rfl) s n

/-- An unload that only a pour in flight can stop. -/
theorem mouldUnload_of_owner {f : Nat} (hm : s.moulds.table.find? (fun m => m.idx == bits (s.par n 1) 0 20 && m.loaded) = some m) (howner : m.flask = some f)
    (hf : bits (s.par n 0) 0 6 = f) (href : s.frefOk n = true) (hgen : bits (s.par n 1) 20 12 = m.gen) :
    s.mouldUnload n = if s.mouldBusy m then s.reply n stBUSY else (s.dropMould m).reply n stOK := by
  have hfref : (s.fref n).1 = f := hf
  have hfgen : (s.fref n).2 = s.flaskGen f := hfref ▸ beq_iff_eq.1 href
  simp [State.mouldUnload, hm, howner, hfref, hfgen, hgen]

end

/-! ## The return of a segment (R121, R122) -/

section
variable {s : State} {idx seg : Nat} {f : Fill}

/-- Fill f has returned, and its bytes are counted. -/
def fillOver (s : State) (f : Fill) : State :=
  { s.countFill f with moulds := { s.moulds with fills := s.moulds.fills.filter (fun x => x != f) } }

theorem countFill_keeps {β : Type} {p : State → β} (hmeter : ∀ (t : State) m, p { t with meter := m } = p t) (s : State) (f : Fill) :
    p (s.countFill f) = p s := by
  unfold State.countFill
  split
  · rename_i q _
    obtain ⟨m, h⟩ := countPour_eq s q 9 4096
    rw [h, hmeter]
  · split
    · obtain ⟨m, h⟩ := countFor_eq s _ 9 4096
      rw [h, hmeter]
    · rfl

/-- A context that waits for a fill runs on, with the segment at hand where the cache has not kept it. -/
def fillTaken (kept : Bool) (seg : Nat) (x : Ctx) : Ctx := { x with st := if x.st == .waitFetch then .run else x.st, buf := if kept then none else some seg }

theorem fillReturn_of_ok (hf : s.moulds.fills.find? (fun x => x.idx == idx && x.seg == seg) = some f) (d : List Byte) :
    s.fillReturn idx seg (.ok d) =
      { ((fillOver s f).installSeg f).2 with
        ctxs := updAll ((fillOver s f).installSeg f).2.ctxs (fun x => f.waiters.contains x.num) (fillTaken ((fillOver s f).installSeg f).1 seg) } := by
  simp only [State.fillReturn, hf]
  rfl

/-- A segment takes its way in the cache where the set has room. -/
theorem installSeg_of_room {t : State} {v : Option Seg} (hkeep : f.keep = true) (hv : t.victim (setOf f.idx f.seg) = some v) :
    t.installSeg f = (true, { t with moulds := { t.moulds with
      segs := t.moulds.segs.filter (fun g => some g != v) ++ [{ idx := f.idx, gen := f.gen, seg := f.seg, pinned := f.pin }] } }) := by
  simp only [State.installSeg, hkeep, hv, Bool.not_true, Bool.false_eq_true, if_false]

theorem installSeg_of_dropped {t : State} (hkeep : f.keep = false) : t.installSeg f = (false, t) := by
  simp only [State.installSeg, hkeep, Bool.not_false, if_true]

/-- A waiting context takes what has returned. -/
theorem ctx_fillTaken {t : State} {kept : Bool} {c : Nat} {x : Ctx} (hc : c ∈ f.waiters) (hx : t.ctx? c = some x) :
    ({ t with ctxs := updAll t.ctxs (fun x => f.waiters.contains x.num) (fillTaken kept seg) } : State).ctx? c = some (fillTaken kept seg x) := by
  have hmap : ({ t with ctxs := updAll t.ctxs (fun x => f.waiters.contains x.num) (fillTaken kept seg) } : State).ctx? c =
      (t.ctx? c).map (fun x => if f.waiters.contains x.num then fillTaken kept seg x else x) :=
    ctx_map t c fun y => by split <;> rfl
  rw [hmap, hx, Option.map_some, if_pos (by rw [ctx_num hx]; exact List.contains_iff_mem.2 hc)]

theorem ctxs_fillOver (s : State) (f : Fill) : (fillOver s f).ctxs = s.ctxs := countFill_keeps (p := State.ctxs) (fun _ _ => rfl) s f

theorem onlyRegs_fillOver (s : State) (f : Fill) : onlyRegs s (fillOver s f) [] := fun g i _ =>
  countFill_keeps (p := fun t => t.rd g i) (fun _ _ => rfl) s f

theorem sameMem_fillOver (s : State) (f : Fill) : sameMem s (fillOver s f) :=
  sameMem_of_eq (countFill_keeps (p := State.hbm) (fun _ _ => rfl) s f) (countFill_keeps (p := State.wbuf) (fun _ _ => rfl) s f)

theorem fillReturn_of_bad {m : Mould} {o : Nat} {bad : Ret} (hf : s.moulds.fills.find? (fun x => x.idx == idx && x.seg == seg) = some f)
    (hm : s.moulds.table.find? (fun m => m.idx == idx) = some m) (ho : m.flask = some o) (hbad : (∃ l, bad = .poison l) ∨ bad = .error) :
    ∃ a pour, s.fillReturn idx seg bad = ((fillOver s f).hbmUe a 0x0D 1 0 o pour).callFlask o := by
  rcases hbad with ⟨l, rfl⟩ | rfl
  · simp only [State.fillReturn, hf]
    rw [hm]
    simp only [ho]
    exact ⟨_, _, rfl⟩
  · simp only [State.fillReturn, hf]
    rw [hm]
    simp only [ho]
    exact ⟨_, _, rfl⟩

end

/-! ## CZ_MC_HTAB (R126) -/

section
variable {s : State}

/-- The lines of [a, a + n) of which a host core holds a copy. -/
def heldLines (s : State) (a n : Nat) : List Nat := (s.hlp.filter.map HostLine.line).filter (fun l => decide (lineOf a ≤ l ∧ l * 64 < a + n))

/-- Address x of [a, a + n) is zeroed at once. -/
def zeroedNow (s : State) (a n x : Nat) : Bool := decide (a ≤ x) && decide (x < a + n) && !(heldLines s a n).contains (lineOf x)

/-- The addresses that are zeroed at once are forgotten by HBM and by the stores that wait. -/
def zeroed (s : State) (a n : Nat) : State :=
  { s with wbuf := s.wbuf.map (fun st => { st with cells := st.cells.filter (fun c => !zeroedNow s a n c.1) }),
           hbm := s.hbm.filter (fun c => !zeroedNow s a n c.1) }

theorem ownZero_eq (s : State) (a n : Nat) : s.ownZero a n = (heldLines s a n).foldl (fun t l => t.ownWrite (64 * l) (zeros 64)) (zeroed s a n) := rfl

theorem sysByte_zeroed (s : State) (a n x : Nat) : (zeroed s a n).sysByte x = if zeroedNow s a n x then 0 else s.sysByte x := by
  rw [State.sysByte, zeroed, sget_filter unwritten (fun k => !zeroedNow s a n k)]
  cases zeroedNow s a n x <;> rfl

theorem dieByte_zeroed {a n x : Nat} (h : zeroedNow s a n x = true) : (zeroed s a n).dieByte x = 0 := by
  have hnone : lastStored (zeroed s a n).wbuf x = none := by
    refine lastStored_of_unnamed fun st hst c hc hx => ?_
    obtain ⟨b, -, rfl⟩ := List.mem_map.1 hst
    have := (List.mem_filter.1 hc).2
    rw [hx, h] at this
    cases this
  rw [State.dieByte, hnone, Option.getD_none, sysByte_zeroed, if_pos h]

/-- The zeros of line l, as a store of the block. -/
def zeroStore (l : Nat) : BufStore := { id := 0, ctl := 0, cells := cellsAt (64 * l) (zeros 64), ctx := 512, root := none, purpose := .log }

theorem mem_linesOf_zeroStore (l : Nat) : l ∈ linesOf (zeroStore l).cells := by
  refine mem_linesOf.2 ⟨(64 * l + 0, 0), List.mem_map.2 ⟨(0, 0), ?_, rfl⟩, by simp [lineOf]⟩
  simp [zeros, List.range_succ_eq_map]

/-- The zeros of a line that a host core holds wait for its copy. -/
theorem ownWrite_of_held {l : Nat} (h : s.hostHeld l = true) : ∃ m, s.ownWrite (64 * l) (zeros 64) = s.waitLine m (.store (zeroStore l)) := by
  have hblock : ∃ m, s.storeBlock (linesOf (zeroStore l).cells) = some m := by
    simp only [State.storeBlock]
    split
    · exact ⟨_, rfl⟩
    · refine Option.isSome_iff_exists.1 (List.find?_isSome.2 ⟨l, mem_linesOf_zeroStore l, h⟩)
  obtain ⟨m, hm⟩ := hblock
  refine ⟨m, ?_⟩
  have hhome : s.ownWrite (64 * l) (zeros 64) = s.homeStore (zeroStore l) := rfl
  rw [hhome, State.homeStore, hm]

/-- A store that waits for a line leaves memory, and its line is being recalled. -/
theorem waitLine_leaves (t : State) (m : Nat) (act : LineAct) : still t (t.waitLine m act) ∧ (t.waitLine m act).hlp.filter = t.hlp.filter ∧
    (t.waitLine m act).moulds = t.moulds ∧ (t.waitLine m act).hlp.waits = t.hlp.waits ++ [{ line := m, act := act }] ∧
    ∀ k, k ∈ (t.waitLine m act).hlp.recalls ↔ k = m ∨ k ∈ t.hlp.recalls := by
  have hwaits : (t.recall m).hlp.waits = t.hlp.waits := by
    unfold State.recall
    split <;> rfl
  exact ⟨still_recall t m, recall_filter t m, blind_recall (p := State.moulds) (fun _ _ _ _ _ _ => rfl) t m, congrArg (· ++ _) hwaits,
    mem_recalls_recall t m⟩

/-- Lines that host cores hold: the zeros of each wait, and no memory changes by that. -/
theorem zeros_wait {ls : List Nat} {t : State} (h : ∀ l ∈ ls, t.hostHeld l = true) :
    let u := ls.foldl (fun t l => t.ownWrite (64 * l) (zeros 64)) t
    still t u ∧ u.moulds = t.moulds ∧ (∀ w ∈ t.hlp.waits, w ∈ u.hlp.waits) ∧ (∀ m ∈ t.hlp.recalls, m ∈ u.hlp.recalls) ∧
      ∀ l ∈ ls, u.hlp.recalls ≠ [] ∧ ∃ w ∈ u.hlp.waits, w.act = .store (zeroStore l) := by
  induction ls generalizing t with
  | nil => exact ⟨⟨rfl, rfl, rfl⟩, rfl, fun _ h => h, fun _ h => h, nofun⟩
  | cons l ls ih =>
    obtain ⟨m, hm⟩ := ownWrite_of_held (h l List.mem_cons_self)
    obtain ⟨hstill, hfilter, hmoulds, hwaits, hrecalls⟩ := waitLine_leaves t m (.store (zeroStore l))
    simp only [List.foldl_cons, hm]
    generalize t.waitLine m (.store (zeroStore l)) = u at *
    obtain ⟨hstill', hmoulds', hwaits', hrecalls', hls⟩ := ih (t := u) fun k hk => by
      rw [State.hostHeld, hfilter]
      exact h k (List.mem_cons_of_mem _ hk)
    refine ⟨hstill.trans hstill', hmoulds'.trans hmoulds, fun w hw => hwaits' w (hwaits ▸ List.mem_append_left _ hw), fun k hk => hrecalls' k ((hrecalls k).2 (.inr hk)), fun k hk => ?_⟩
    rcases List.mem_cons.1 hk with rfl | hk
    · exact ⟨List.ne_nil_of_mem (hrecalls' m ((hrecalls m).2 (.inl rfl))), _, hwaits' _ (hwaits ▸ List.mem_append_right _ List.mem_cons_self), rfl⟩
    · exact hls k hk

/-- An area of whole lines that the block zeroes: what is zeroed at once, and what waits for a host core's copy (R126, R323). -/
theorem ownZero_leaves (s : State) (base : Nat) :
    let u := s.ownZero (base * granule) granule
    u.regs = s.regs ∧ u.moulds = s.moulds ∧
      (∀ a, u.sysByte a = (if base * granule ≤ a ∧ a < (base + 1) * granule ∧ s.hostHeld (lineOf a) = false then 0 else s.sysByte a)) ∧
      ∀ a, base * granule ≤ a → a < (base + 1) * granule → (s.hostHeld (lineOf a) = false → u.dieByte a = 0) ∧
        (s.hostHeld (lineOf a) = true → u.hlp.recalls ≠ [] ∧ ∃ w ∈ u.hlp.waits, w.act = .store (zeroStore (lineOf a))) := by
  have hend : (base + 1) * granule = base * granule + granule := by rw [Nat.add_mul, Nat.one_mul]
  have hheld (l : Nat) : l ∈ heldLines s (base * granule) granule → s.hostHeld l = true := by
    intro hl
    obtain ⟨w, hw, rfl⟩ := List.mem_map.1 (List.mem_filter.1 hl).1
    exact List.any_eq_true.2 ⟨w, hw, by simp⟩
  have hin {a : Nat} (hlo : base * granule ≤ a) (hhi : a < (base + 1) * granule) : lineOf a ∈ heldLines s (base * granule) granule ↔ s.hostHeld (lineOf a) = true := by
    refine ⟨hheld _, fun h => ?_⟩
    obtain ⟨w, hw, hwl⟩ := List.any_eq_true.1 h
    refine List.mem_filter.2 ⟨List.mem_map.2 ⟨w, hw, by simpa using hwl⟩, ?_⟩
    refine decide_eq_true ?_
    rw [lineOf, lineOf]
    omega
  have hnow (a : Nat) : zeroedNow s (base * granule) granule a = true ↔
      base * granule ≤ a ∧ a < (base + 1) * granule ∧ s.hostHeld (lineOf a) = false := by
    simp only [zeroedNow, Bool.and_eq_true, decide_eq_true_eq, Bool.not_eq_true', ← hend, and_assoc]
    refine and_congr_right fun hlo => and_congr_right fun hhi => ?_
    rw [← Bool.not_eq_true, ← Bool.not_eq_true, List.contains_iff_mem, hin hlo hhi]
  obtain ⟨hstill, hmoulds, -, -, hwait⟩ := zeros_wait (ls := heldLines s (base * granule) granule) (t := zeroed s (base * granule) granule) hheld
  rw [← ownZero_eq] at *
  obtain ⟨hregs, hhbm, hwbuf⟩ := hstill
  have hmem := sameMem_of_eq hhbm hwbuf
  refine ⟨hregs, hmoulds, fun a => ?_, fun a hlo hhi => ⟨fun hfree => ?_, fun hheld => hwait _ ((hin hlo hhi).2 hheld)⟩⟩
  · rw [(hmem a).1, sysByte_zeroed]
    exact if_congr (hnow a) rfl rfl
  · exact (hmem a).2.trans (dieByte_zeroed ((hnow a).2 ⟨hlo, hhi, hfree⟩))

end

/-! ## The writes of CZ_MC_CTL and CZ_MC_HTAB (R125, R126) -/

section
variable {s : State} (v : Nat)

theorem mcCtl_leaves (s : State) : ∃ t, t = s.mcCtl 8 0 (v % 2 ^ 64) ∧ sameMem s t ∧ onlyRegs s t (fieldsAt 0x208000) ∧
    t.rd .MC_CTL_EN = bits v Field.MC_CTL_EN.row.lo 1 ∧ t.rd .MC_CTL_PREFETCH_EN = bits v Field.MC_CTL_PREFETCH_EN.row.lo 1 ∧
    (t.rd .MC_CTL_EN = 0 → t.moulds.segs = s.moulds.segs.filter Seg.pinned) ∧ (t.rd .MC_CTL_EN = 1 → t.moulds = s.moulds) := by
  have hmem := sameMem_regWrite s 0x208000 8 0 (v % 2 ^ 64)
  have honly := onlyRegs_regWrite_eight s 0x208000 0 (v % 2 ^ 64)
  have hen := rd_regWrite_eight s v (o := 0x208000) (f := .MC_CTL_EN) (i := 0) (by decide +kernel) (by decide +kernel)
  have hpre := rd_regWrite_eight s v (o := 0x208000) (f := .MC_CTL_PREFETCH_EN) (i := 0) (by decide +kernel) (by decide +kernel)
  have hmoulds : (s.regWrite 0x208000 8 0 (v % 2 ^ 64)).moulds = s.moulds := regWrite_keeps s _ _ _ _ State.moulds fun _ _ _ _ => rfl
  refine ⟨_, rfl, ?_⟩
  simp only [State.mcCtl]
  generalize s.regWrite 0x208000 8 0 (v % 2 ^ 64) = t at *
  split
  · rename_i h
    refine ⟨hmem, honly, hen, hpre, fun hz => ?_, fun _ => hmoulds⟩
    rw [State.on, hz] at h
    cases h
  · rename_i h
    refine ⟨hmem, honly, hen, hpre, fun _ => congrArg (List.filter _) (congrArg Moulds.segs hmoulds), fun hone => absurd (beq_iff_eq.2 hone) h⟩

theorem mcHtab_of_unloaded (h : s.loadedCount = 0) : s.mcHtab 8 0 (v % 2 ^ 64) =
    if (s.regWrite 0x208018 8 0 (v % 2 ^ 64)).on .MC_HTAB_EN then
      (s.regWrite 0x208018 8 0 (v % 2 ^ 64)).ownZero ((s.regWrite 0x208018 8 0 (v % 2 ^ 64)).rd .MC_HTAB_BASE * granule) granule
    else s.regWrite 0x208018 8 0 (v % 2 ^ 64) := by
  simp [State.mcHtab, h]

theorem mcHtab_leaves (h : s.loadedCount = 0) : ∃ t, t = s.mcHtab 8 0 (v % 2 ^ 64) ∧ onlyRegs s t (fieldsAt 0x208018) ∧
    t.rd .MC_HTAB_EN = bits v Field.MC_HTAB_EN.row.lo 1 ∧
    ∀ a, t.sysByte a = (if t.rd .MC_HTAB_EN = 1 ∧ t.rd .MC_HTAB_BASE * granule ≤ a ∧ a < (t.rd .MC_HTAB_BASE + 1) * granule
        ∧ s.hostHeld (lineOf a) = false then 0 else s.sysByte a) ∧
      (t.rd .MC_HTAB_EN = 1 → t.rd .MC_HTAB_BASE * granule ≤ a → a < (t.rd .MC_HTAB_BASE + 1) * granule →
        (s.hostHeld (lineOf a) = false → t.dieByte a = 0) ∧
        (s.hostHeld (lineOf a) = true → t.hlp.recalls ≠ [] ∧ ∃ w ∈ t.hlp.waits, w.act = .store (zeroStore (lineOf a)))) := by
  have hmem := sameMem_regWrite s 0x208018 8 0 (v % 2 ^ 64)
  have honly := onlyRegs_regWrite_eight s 0x208018 0 (v % 2 ^ 64)
  have hen := rd_regWrite_eight s v (o := 0x208018) (f := .MC_HTAB_EN) (i := 0) (by decide +kernel) (by decide +kernel)
  have hhlp := regWrite_hlp s 0x208018 8 0 (v % 2 ^ 64)
  refine ⟨_, rfl, ?_⟩
  rw [mcHtab_of_unloaded v h]
  generalize s.regWrite 0x208018 8 0 (v % 2 ^ 64) = t at *
  have hheld (l : Nat) : t.hostHeld l = s.hostHeld l := by rw [State.hostHeld, hhlp, State.hostHeld]
  obtain ⟨hregs, -, hsys, hdie⟩ := ownZero_leaves t (t.rd .MC_HTAB_BASE)
  split
  · rename_i hon
    have hone : t.rd .MC_HTAB_EN = 1 := beq_iff_eq.1 hon
    have hrd (f : Field) (i : Nat) : (t.ownZero (t.rd .MC_HTAB_BASE * granule) granule).rd f i = t.rd f i := by rw [State.rd, hregs, State.rd]
    refine ⟨fun f i hf => (hrd f i).trans (honly f i hf), (hrd _ _).trans hen, fun a => ⟨?_, fun _ hlo hhi => ?_⟩⟩
    · rw [hsys a, hrd, hrd, (hmem a).1, hheld]
      simp only [hone, true_and]
    · rw [hrd] at hlo hhi
      obtain ⟨hnow, hwait⟩ := hdie a hlo hhi
      rw [hheld] at hnow hwait
      exact ⟨hnow, hwait⟩
  · rename_i hoff
    have hnone : t.rd .MC_HTAB_EN ≠ 1 := fun hc => hoff (beq_iff_eq.2 hc)
    exact ⟨honly, hen, fun a => ⟨by rw [(hmem a).1, if_neg (fun hc => hnone hc.1)], fun hc => absurd hc hnone⟩⟩

end

/-- Settles O25. -/
theorem mouldsLeaveAndSegmentsReturn : Obligations.MouldsLeaveAndSegmentsReturn := by
  unfold Obligations.MouldsLeaveAndSegmentsReturn
  refine ⟨⟨fun s n f m hs hm howner hf href hgen => ⟨fun hbusy => ?_, fun hfree => ?_⟩, fun s idx seg f hf => ⟨fun d v hkeep hv => ?_, fun d hkeep => ?_,
    fun m o bad hm ho hbad => ?_⟩⟩, fun s v hs => ⟨?_, fun hloaded => ?_, fun hnone => ?_⟩⟩
  · have hunload := mouldUnload_of_owner (s := s.begun n) (n := n) (by rw [begun_moulds, par_begun]; exact hm) howner (by rw [par_begun]; exact hf) href
      (by rw [par_begun]; exact hgen)
    rw [mouldBusy_begun, hbusy, if_pos rfl] at hunload
    refine ⟨_, congrArg s.after (mbRun_of_starts hs fun t => t.mouldUnload n), ?_⟩
    rw [hunload]
    exact ⟨(sameMem_reply _ _ _ _ _).2 (sameMem_begun s n), replied_reply _ _ hs.1 (by decide),
      (reply_keeps State.moulds (fun _ _ _ _ => rfl) _ _ _ _).trans (begun_moulds s n), fun g i hg => rd_reply_nil _ _ _ hg⟩
  · have hunload := mouldUnload_of_owner (s := s.begun n) (n := n) (by rw [begun_moulds, par_begun]; exact hm) howner (by rw [par_begun]; exact hf) href
      (by rw [par_begun]; exact hgen)
    rw [mouldBusy_begun, hfree, if_neg (by decide)] at hunload
    refine ⟨_, congrArg s.after (mbRun_of_starts hs fun t => t.mouldUnload n), ?_⟩
    rw [hunload]
    have hmoulds : (((s.begun n).dropMould m).reply n stOK).moulds = ((s.begun n).dropMould m).moulds := reply_keeps State.moulds (fun _ _ _ _ => rfl) _ _ _ _
    refine ⟨(sameMem_reply _ _ _ _ _).2 (sameMem_begun s n), replied_reply _ _ hs.1 (by decide), fun g i hg => rd_reply_nil _ _ _ hg, ?_, ?_, ?_, ?_⟩
    · rw [hmoulds]
      exact fun k hk => by simpa using (List.mem_filter.1 hk).2
    · rw [State.handleGen, hmoulds]
      simp [State.dropMould, aget, aset]
    · rw [hmoulds]
      exact fun k hk => by simpa using (List.mem_filter.1 hk).2
    · rw [hmoulds]
      exact fun k hk => by simpa using (List.mem_filter.1 hk).2
  · obtain ⟨hidx, hseg⟩ : f.idx = idx ∧ f.seg = seg := by simpa using List.find?_some hf
    have hroom := installSeg_of_room (t := fillOver s f) (f := f) hkeep (v := v) (by rw [hidx, hseg]; exact hv)
    refine ⟨_, congrArg s.after (fillReturn_of_ok hf d), ?_⟩
    rw [hroom]
    refine ⟨sameMem_fillOver s f, onlyRegs_fillOver s f, ?_, fun c hc x hx hst => ?_⟩
    · refine List.any_eq_true.2 ⟨_, List.mem_append_right _ List.mem_cons_self, ?_⟩
      simp [hidx, hseg]
    · have hx' : (fillOver s f).ctx? c = some x := by rw [State.ctx?, ctxs_fillOver]; exact hx
      exact ⟨fillTaken true seg x, ctx_fillTaken hc hx', by simp [fillTaken, hst], rfl⟩
  · refine ⟨_, congrArg s.after (fillReturn_of_ok hf d), ?_⟩
    rw [installSeg_of_dropped hkeep]
    refine ⟨sameMem_fillOver s f, onlyRegs_fillOver s f, rfl, fun c hc x hx hst => ?_⟩
    have hx' : (fillOver s f).ctx? c = some x := by rw [State.ctx?, ctxs_fillOver]; exact hx
    exact ⟨fillTaken false seg x, ctx_fillTaken hc hx', by simp [fillTaken, hst], rfl⟩
  · obtain ⟨a, pour, hreturn⟩ := fillReturn_of_bad hf hm ho hbad
    obtain ⟨hue, hcount, -⟩ := hbmUe_reports (fillOver s f) a 0x0D 1 0 o pour 5
    have hpoison : (fillOver s f).rd .POISON_RD = s.rd .POISON_RD := onlyRegs_fillOver s f _ _ List.not_mem_nil
    refine ⟨_, congrArg s.after hreturn, ?_, ?_, hue, List.mem_append_right _ List.mem_cons_self⟩
    · have hmoulds : (((fillOver s f).hbmUe a 0x0D 1 0 o pour).callFlask o).moulds = (fillOver s f).moulds :=
        ras_keeps (p := State.moulds) (fun _ _ _ _ _ _ => rfl) (fun _ _ _ _ => rfl) _ _
      rw [State.cached, hmoulds]
      rfl
    · rw [State.counts, hpoison] at hcount
      exact hcount
  · obtain ⟨t, ht, hmem, honly, hen, hpre, hoff, hon⟩ := mcCtl_leaves v s
    have hbar : s.barWrite 0x208000 8 v = t := by
      rw [barWrite_of_hears_eight hs (by decide), ht]
      simp [State.place, State.singleWrite]
    refine ⟨_, rfl, ?_⟩
    rw [show 0x208000 + 4 * (0 % 2) = 0x208000 from rfl, hostWrite_plain s v (by omega) (by omega) (by omega), hbar]
    exact ⟨(sameMem_close_iff _ _ _).2 ((sameMem_giveCredit _ _ _).2 hmem), (onlyRegs_close_iff _ _ _ _).2 honly, (rd_close _ _ _ _).trans hen,
      (rd_close _ _ _ _).trans hpre, fun h => hoff ((rd_close s t _ _).symm.trans h), fun h => hon ((rd_close s t _ _).symm.trans h)⟩
  · have hbar : s.barWrite 0x208018 8 v = s := by
      rw [barWrite_of_hears_eight hs (by decide)]
      have hplace (w : Nat) : s.place 0x208018 8 0 w = s.mcHtab 8 0 w := by simp [State.place, State.singleWrite]
      rw [hplace, State.mcHtab, if_pos hloaded, heldWrite_eight]
    refine ⟨_, rfl, ?_⟩
    rw [show 0x208018 + 4 * (0 % 2) = 0x208018 from rfl, hostWrite_plain s v (by omega) (by omega) (by omega), hbar]
    exact ⟨(sameMem_close_iff _ _ _).2 ((sameMem_giveCredit _ _ _).2 (sameMem_refl s)), (onlyRegs_close_iff _ _ _ _).2 (onlyRegs_refl s _)⟩
  · obtain ⟨t, ht, honly, hen, hbytes⟩ := mcHtab_leaves v hnone
    have hbar : s.barWrite 0x208018 8 v = t := by
      rw [barWrite_of_hears_eight hs (by decide), ht]
      simp [State.place, State.singleWrite]
    refine ⟨_, rfl, ?_⟩
    rw [show 0x208018 + 4 * (0 % 2) = 0x208018 from rfl, hostWrite_plain s v (by omega) (by omega) (by omega), hbar]
    have hmem : sameMem t (s.close (t.giveCredit .register)) := (sameMem_close_iff _ _ _).2 ((sameMem_giveCredit _ _ _).2 (sameMem_refl t))
    have hrd (f : Field) (i : Nat) : (s.close (t.giveCredit .register)).rd f i = t.rd f i := rd_close _ _ _ _
    refine ⟨(onlyRegs_close_iff _ _ _ _).2 honly, (hrd _ _).trans hen, fun a => ?_⟩
    obtain ⟨hsys, hdie⟩ := hbytes a
    rw [hrd, hrd, (hmem a).1, (hmem a).2]
    refine ⟨hsys, fun hone hlo hhi => ⟨(hdie hone hlo hhi).1, fun hheld => ?_⟩⟩
    obtain ⟨hrecalls, w, hw, hact⟩ := (hdie hone hlo hhi).2 hheld
    exact ⟨hrecalls, w, hw, _, hact, by rw [zeroStore, Nat.mul_comm]⟩

end Sys2Proof.Laws

/-! # Moulds are loaded

MOULD_LOAD from its start point to the copy, and its completion (R115 to R118, R393). -/
namespace Sys2Proof.Laws

open Sys2Proof.Machine

/-! ## A command that reads memory the host may hold -/

/-- With no line of its ranges modified by the host, a command that reads memory starts as any other (R41). -/
theorem mbHome_of_starts {s : State} {n op : Nat} (h : s.starts n op) {rs : State → List (Nat × Nat)}
    (hclean : (rs s).any (fun r => !(s.dirtyLines r.1 r.2).isEmpty) = false) (body : State → State) :
    s.mbHome n op rs body = (body (s.begun n)).unclaim := by
  rw [State.mbHome, hclean, Bool.and_false, if_neg (by decide)]
  exact mbRun_of_starts h body

/-! ## The branches of a load -/

section
variable {s : State} {n : Nat}

/-- The flask that the mould of slot n's load is for: none for a management mould. -/
def loadOwner (s : State) (n : Nat) : Option Nat := if bit (s.par n 0) 49 then none else some (s.fref n).1

/-- What the checks of slot n's load are made against. -/
def loadEnvOf (s : State) (n : Nat) : LoadEnv :=
  { len := s.par n 2, gbase := s.par n 3, tls := s.rd .FL_TCOUNT_M1 (s.fref n).1 + 1,
    groups := popCount (s.rd .FL_GROUPS (s.fref n).1) 64, mgmt := bit (s.par n 0) 49, rev := s.rd .ID_ENGINE_REV,
    child := s.childOf (loadOwner s n) }

/-- Slot n's load names a management mould and no flask, or a flask that may load. -/
def loadMay (s : State) (n : Nat) : Prop :=
  (bit (s.par n 0) 49 && ((s.fref n).1 != 0 || (s.fref n).2 != 0)) = false ∧ (!bit (s.par n 0) 49 && !s.frefOk n) = false ∧
    (!bit (s.par n 0) 49 && !s.flaskLive (s.fref n).1) = false

theorem loadMay_of (hmgmt : bit (s.par n 0) 49 = true → bits (s.par n 0) 0 16 = 0)
    (hflask : bit (s.par n 0) 49 = false → s.frefOk n = true ∧ s.flaskLive (bits (s.par n 0) 0 6) = true) : loadMay s n := by
  cases hm : bit (s.par n 0) 49
  · obtain ⟨href, hlive⟩ := hflask hm
    have hlive : s.flaskLive (s.fref n).1 = true := hlive
    simp [loadMay, hm, href, hlive]
  · have hzero := hmgmt hm
    have hf : (s.fref n).1 = 0 ∧ (s.fref n).2 = 0 := by
      simp only [State.fref, bits] at hzero ⊢
      omega
    simp [loadMay, hm, hf.1, hf.2]

/-- The ranges of slot n's load are not permitted. -/
def loadStands (s : State) (n : Nat) : Bool :=
  s.loadDenied (bit (s.par n 0) 49) (bits (s.par n 0) 0 6) (s.par n 1) (s.par n 2) (s.par n 3) (imBanks (s.dieRead (s.par n 1) 0x300))

theorem mouldLoad_of_denied (h : loadMay s n) (hdenied : loadStands s n = true) : s.mouldLoad n = s.reply n stDENIED := by
  obtain ⟨h1, h2, h3⟩ := h
  simp only [State.mouldLoad]
  rw [if_neg (by rw [h1]; decide), if_neg (by rw [h2]; decide), if_neg (by rw [h3]; decide)]
  exact if_pos hdenied

theorem mouldLoad_of_untabled (h : loadMay s n) (hstands : loadStands s n = false) (htab : s.on .MC_HTAB_EN = false) :
    s.mouldLoad n = s.reply n stNORES := by
  obtain ⟨h1, h2, h3⟩ := h
  simp only [State.mouldLoad]
  rw [if_neg (by rw [h1]; decide), if_neg (by rw [h2]; decide), if_neg (by rw [h3]; decide)]
  refine (if_neg (by exact ne_of_eq_of_ne hstands (by decide))).trans (if_pos (by rw [htab]; rfl))

/-- A load for which a handle and a run of the store are free. -/
theorem mouldLoad_of_placed (h : loadMay s n) (hstands : loadStands s n = false) (htab : s.on .MC_HTAB_EN = true) {idx a : Nat}
    (hidx : s.freeHandle = some idx) (ha : s.freeRun (loadOwner s n) (s.par n 2) = some a) :
    (bit (s.par n 0) 48 = true → s.pinFits idx (imRecords (s.dieRead (s.par n 1) 0x300)) = false → s.mouldLoad n = s.reply n stNORES) ∧
    ((bit (s.par n 0) 48 = true → s.pinFits idx (imRecords (s.dieRead (s.par n 1) 0x300)) = true) →
      loadHead (loadEnvOf s n) (s.dieRead (s.par n 1) 0x300) = none →
      (bit (s.par n 0) 49 = false → s.on .FL_LOCKED (bits (s.par n 0) 0 6) = false) →
      loadBody (loadEnvOf s n) (s.dieRead (s.par n 1) (s.par n 2)) (imDigest (s.dieRead (s.par n 1) (s.par n 2))) = none →
      s.mouldLoad n = (s.countFor (((loadOwner s n).map Charge.overhead).getD .package) 9 (s.par n 2)).loadCopy n (loadOwner s n) idx a (s.par n 3)
        (bit (s.par n 0) 48) (s.dieRead (s.par n 1) (s.par n 2)) (imDigest (s.dieRead (s.par n 1) (s.par n 2)))) := by
  obtain ⟨h1, h2, h3⟩ := h
  unfold State.mouldLoad
  dsimp only
  rw [if_neg (by rw [h1]; decide), if_neg (by rw [h2]; decide), if_neg (by rw [h3]; decide), if_neg (by exact ne_of_eq_of_ne hstands (by decide)),
    if_neg (by rw [htab]; decide), hidx]
  have howner : (if bit (s.par n 0) 49 = true then none else some (s.fref n).1) = loadOwner s n := rfl
  simp only [howner, ha]
  refine ⟨fun hpin hfits => if_pos (by rw [hpin, hfits]; rfl), fun hfits hhead hlocked hbody => ?_⟩
  have hroom : ¬ (bit (s.par n 0) 48 && !s.pinFits idx (imRecords (s.dieRead (s.par n 1) 0x300))) = true := fun hc => by
    obtain ⟨hpin, hno⟩ := Bool.and_eq_true_iff.1 hc
    rw [hfits hpin] at hno
    cases hno
  have hfree (ch : Charge) (allowed : Bool) :
      ¬ (!bit (s.par n 0) 49 && (s.countFor ch 9 (s.par n 2)).on .FL_LOCKED (s.fref n).1 && !allowed) = true := fun hc => by
    obtain ⟨mt, hcount⟩ := countFor_eq s ch 9 (s.par n 2)
    rw [hcount] at hc
    obtain ⟨hc, -⟩ := Bool.and_eq_true_iff.1 hc
    obtain ⟨hm, hl⟩ := Bool.and_eq_true_iff.1 hc
    rw [Bool.not_eq_true'] at hm
    exact absurd hl (ne_of_eq_of_ne (hlocked hm) (by decide))
  have hhead' : loadHead (loadEnvOf s n) (s.dieRead (s.par n 1) 0x300) = none := hhead
  have hbody' : loadBody (loadEnvOf s n) (s.dieRead (s.par n 1) (s.par n 2)) (imDigest (s.dieRead (s.par n 1) (s.par n 2))) = none := hbody
  rw [loadEnvOf] at hhead' hbody'
  rw [if_neg hroom]
  rw [hhead']
  dsimp only
  rw [if_neg (hfree _ _), hbody']

end

/-! ## The copy (R115, R118) -/

section
variable {s : State} {flask : Option Nat} {idx a gbase : Nat} {b digest : List Byte}

/-- The entry of a mould that is being loaded. -/
def loadEntry (s : State) (n : Nat) (flask : Option Nat) (idx a gbase : Nat) (pin : Bool) (b digest : List Byte) : Mould :=
  { idx := idx, gen := s.handleGen idx, flask := flask, fgen := (flask.map s.flaskGen).getD 0, addr := a, len := b.length,
    records := imRecords b, banks := imBanks b, gbase := gbase, tsize := imTable b, digest := digest, pinned := pin, loaded := false, slot := some n }

/-- The body stands in the store and its entry in the directory. -/
def loadPlaced (s : State) (flask : Option Nat) (a : Nat) (b : List Byte) (m : Mould) : State :=
  let t := (s.overPut (cellsAt a b)).countFor ((flask.map Charge.overhead).getD .package) 9 b.length
  { t with moulds := { t.moulds with table := t.moulds.table ++ [m] } }

/-- The fills of a pinned mould. -/
def pinFills (m : Mould) : List Fill := (List.range (segsOf m.records)).map (fun g => { idx := m.idx, gen := m.gen, seg := g, pin := true })

theorem loadCopy_eq (n : Nat) (pin : Bool) : s.loadCopy n flask idx a gbase pin b digest =
    if pin then
      let t := loadPlaced s flask a b (loadEntry s n flask idx a gbase pin b digest)
      let fs := pinFills (loadEntry s n flask idx a gbase pin b digest)
      let t := (t.bump .MC_STATS_MISSES 0 fs.length).sayAll (fs.map (fun g => .fillRead idx g.seg))
      { t with moulds := { t.moulds with fills := t.moulds.fills ++ fs } }
    else loadPlaced s flask a b (loadEntry s n flask idx a gbase pin b digest) := rfl

theorem sayAll_keeps {β : Type} {p : State → β} (hsay : ∀ t m, p (State.say t m) = p t) (t : State) (ms : List Msg) : p (t.sayAll ms) = p t :=
  foldl_keeps p (fun t m => hsay t m) ms t

theorem loadPlaced_keeps {β : Type} {p : State → β} (hhbm : ∀ t m, p { t with hbm := m } = p t) (hwbuf : ∀ t w, p { t with wbuf := w } = p t)
    (hmeter : ∀ (t : State) m, p { t with meter := m } = p t) (hmoulds : ∀ (t : State) m, p { t with moulds := m } = p t) (m : Mould) :
    p (loadPlaced s flask a b m) = p s := by
  rw [loadPlaced]
  obtain ⟨mt, hcount⟩ := countFor_eq (s.overPut (cellsAt a b)) ((flask.map Charge.overhead).getD .package) 9 b.length
  rw [hcount]
  exact (hmoulds { s.overPut (cellsAt a b) with meter := mt } _).trans ((hmeter (s.overPut (cellsAt a b)) mt).trans (overPut_keeps p hhbm hwbuf _ s))

theorem sysByte_loadPlaced (s : State) (flask : Option Nat) (b : List Byte) (m : Mould) (x : Nat) :
    (loadPlaced s flask a b m).sysByte x = (s.overPut (cellsAt a b)).sysByte x := by
  rw [loadPlaced]
  obtain ⟨mt, hcount⟩ := countFor_eq (s.overPut (cellsAt a b)) ((flask.map Charge.overhead).getD .package) 9 b.length
  rw [hcount]
  rfl

theorem sysRead_loadPlaced (h : a + b.length ≤ hbmSize) (m : Mould) : (loadPlaced s flask a b m).sysRead a b.length = b := by
  refine List.ext_getElem (by simp [State.sysRead]) fun i hi hib => ?_
  simp only [State.sysRead, List.getElem_map, List.getElem_range, sysByte_loadPlaced]
  exact sysByte_overPut_cellsAt s hib (by omega)

theorem table_loadPlaced (m : Mould) : m ∈ (loadPlaced s flask a b m).moulds.table := List.mem_append_right _ List.mem_cons_self

theorem loadCopy_leaves (n : Nat) (pin : Bool) (h : a + b.length ≤ hbmSize) :
    let u := s.loadCopy n flask idx a gbase pin b digest
    onlyRegs s u (if pin then [(.MC_STATS_MISSES, 0)] else []) ∧ u.sysRead a b.length = b ∧
      (pin = true → ∀ g, g < segsOf (imRecords b) → .fillRead idx g ∈ u.sent ∧ ∃ w ∈ u.moulds.fills, w.idx = idx ∧ w.seg = g ∧ w.pin = true) ∧
      loadEntry s n flask idx a gbase pin b digest ∈ u.moulds.table := by
  intro u
  have hu : u = _ := loadCopy_eq n pin
  have hm : (loadEntry s n flask idx a gbase pin b digest).idx = idx ∧ (loadEntry s n flask idx a gbase pin b digest).records = imRecords b := ⟨rfl, rfl⟩
  generalize loadEntry s n flask idx a gbase pin b digest = m at *
  have hregs : onlyRegs s (loadPlaced s flask a b m) [] := fun f i _ =>
    loadPlaced_keeps (p := fun t => t.rd f i) (fun _ _ => rfl) (fun _ _ => rfl) (fun _ _ => rfl) (fun _ _ => rfl) m
  have hread := sysRead_loadPlaced (s := s) (flask := flask) h m
  have htable := table_loadPlaced (s := s) (flask := flask) (a := a) (b := b) m
  clear_value u
  generalize loadPlaced s flask a b m = t at *
  cases pin with
  | false => exact hu ▸ ⟨hregs, hread, nofun, htable⟩
  | true =>
    rw [if_pos rfl] at hu
    have hkeep {β : Type} {p : State → β} (hsay : ∀ t m, p (State.say t m) = p t) := sayAll_keeps hsay
      (t.bump .MC_STATS_MISSES 0 (pinFills m).length) ((pinFills m).map (fun g => .fillRead idx g.seg))
    subst hu
    refine ⟨fun f i hf => Eq.trans ?_ (hregs f i List.not_mem_nil), ?_, fun _ g hg => ⟨?_, ?_⟩, ?_⟩
    · exact (hkeep (p := fun t => t.rd f i) fun _ _ => rfl).trans (rd_wr_ne _ _ (by simpa [eq_comm, or_iff_not_imp_left] using hf))
    · exact (congrArg (List.map · _) (funext fun i => hkeep (p := fun t => t.sysByte (a + i)) fun _ _ => rfl)).trans hread
    · refine mem_sent_sayAll (ms := (pinFills m).map (fun g => .fillRead idx g.seg)) ?_ (t.bump .MC_STATS_MISSES 0 (pinFills m).length)
      exact List.mem_map.2 ⟨_, List.mem_map.2 ⟨g, List.mem_range.2 (hm.2 ▸ hg), rfl⟩, rfl⟩
    · exact ⟨_, List.mem_append_right _ (List.mem_map.2 ⟨g, List.mem_range.2 (hm.2 ▸ hg), rfl⟩), hm.1, rfl, rfl⟩
    · exact (congrArg Moulds.table (hkeep (p := State.moulds) fun _ _ => rfl)).symm ▸ htable

end

/-! ## The completion (R118, R393) -/

section
variable {s : State} {idx n : Nat} {m : Mould}

theorem loadComplete_of_filling (hm : s.moulds.table.find? (fun m => m.idx == idx && !m.loaded) = some m) (hpin : m.pinned = true)
    (hfill : s.allFilled m = false) : s.loadComplete idx = s := by
  simp [State.loadComplete, hm, hpin, hfill]

/-- The directory with the entries of index idx changed. -/
def retabled (s : State) (idx : Nat) (g : Mould → Mould) : State :=
  { s with moulds := { s.moulds with table := updAll s.moulds.table (fun x => x.idx == idx) g } }

/-- A sealed flask's chain takes in mould m. -/
def chained (t : State) (idx : Nat) (m : Mould) : State :=
  match m.flask with
  | some f => if t.flaskSealed f then t.setVault { t.vault f with chain := chainNext (t.vault f).chain m.digest idx m.gen } else t
  | none => t

theorem loadComplete_of_filled (hm : s.moulds.table.find? (fun m => m.idx == idx && !m.loaded) = some m) (hslot : m.slot = some n)
    (hfill : m.pinned = true → s.allFilled m = true) :
    (s.lockedOut m = none → s.loadComplete idx =
      (chained (retabled s idx (fun x => { x with loaded := true, slot := none })) idx m).reply n stOK [idx + m.gen * 2 ^ 20]) ∧
    (∀ f, s.lockedOut m = some f → s.loadComplete idx = ((retabled s idx (fun x => { x with slot := none })).foreignMould f).reply n stSTATE) := by
  have hgo : ¬ (m.pinned && !s.allFilled m) = true := fun hc => by
    obtain ⟨hpin, hno⟩ := Bool.and_eq_true_iff.1 hc
    rw [hfill hpin] at hno
    cases hno
  unfold State.loadComplete
  rw [hm]
  dsimp only
  rw [if_neg hgo, hslot]
  constructor
  · intro hout
    rw [hout]
    rfl
  · intro f hout
    rw [hout]
    rfl

/-- A foreign mould is found: the flask's cause stands and its reset is called for (R393). -/
theorem foreignMould_leaves (t : State) (f : Nat) : sameMem t (t.foreignMould f) ∧ (t.foreignMould f).rd .FL_CAUSE_FOREIGN_MOULD f = 1 ∧
    .flask f ∈ (t.foreignMould f).calls ∧ (t.foreignMould f).moulds = t.moulds := by
  refine ⟨?_, ?_, List.mem_append_right _ List.mem_cons_self, raise_keeps State.moulds (fun _ _ _ _ => rfl) _ _⟩
  · exact sameMem_trans (sameMem_flaskCause t f .FL_CAUSE_FOREIGN_MOULD) (sameMem_of_eq rfl rfl)
  · have hcause := (flaskCause_leaves t f (c := .FL_CAUSE_FOREIGN_MOULD) (by decide) (by decide)).1
    rw [State.foreignMould]
    generalize t.flaskCause f .FL_CAUSE_FOREIGN_MOULD = u at *
    exact (rd_wr_ne u (f := .FL_ERR_FOREIGN_MOULD) (g := .FL_CAUSE_FOREIGN_MOULD) 1 (.inl (by decide))).trans hcause

/-- A reply of one word. -/
theorem rd_reply_one (t : State) (n st w : Nat) : (t.reply n st [w]).rd .MB_OUT (n * 128) = w % 2 ^ 64 :=
  rd_reply_out t n st (outs := [w]) (i := 0) Nat.one_pos

theorem chained_keeps {β : Type} {p : State → β} (hvault : ∀ (t : State) v, p { t with vaults := v } = p t) (t : State) (idx : Nat) (m : Mould) :
    p (chained t idx m) = p t := by
  unfold chained
  split
  · split
    · exact hvault _ _
    · rfl
  · rfl

end
/-- A load that comes to its start point with no line of its body modified by the host goes on by its body. -/
theorem answers_mouldLoad {s : State} {n : Nat} {P : State → Prop} (hs : s.starts n 0x30)
    (hclean : s.dirtyLines (s.par n 1) (max (s.par n 2) 0x300) = []) {u : State} (hu : (s.begun n).mouldLoad n = u) (hP : P u) :
    answers (.mouldLoad n) s P := by
  have hhome := mbHome_of_starts hs (rs := fun t => t.loadRanges n) (by simp [State.loadRanges, hclean]) fun t => t.mouldLoad n
  exact ⟨u, (congrArg s.after hhome).trans (hu ▸ rfl), hP⟩

theorem loadEnvOf_begun (s : State) (n : Nat) : loadEnvOf (s.begun n) n =
    { len := s.par n 2, gbase := s.par n 3, tls := s.rd .FL_TCOUNT_M1 (bits (s.par n 0) 0 6) + 1,
      groups := popCount (s.rd .FL_GROUPS (bits (s.par n 0) 0 6)) 64, mgmt := bit (s.par n 0) 49, rev := s.rd .ID_ENGINE_REV,
      child := (s.begun n).childOf (loadOwner s n) } := by
  have hrd (f : Field) (h1 : f ≠ .MB_STATE_STATE) (h2 : f ≠ .FL_STATE) (h3 : f ≠ .SEAL_GRAN_SEAL) (i : Nat) : (s.begun n).rd f i = s.rd f i :=
    rd_begun s n h1 h2 h3 i
  simp only [loadEnvOf, loadOwner, State.fref, par_begun]
  rw [hrd .FL_TCOUNT_M1 (by decide) (by decide) (by decide), hrd .FL_GROUPS (by decide) (by decide) (by decide),
    hrd .ID_ENGINE_REV (by decide) (by decide) (by decide)]

/-- Settles O24. -/
theorem mouldIsLoaded : Obligations.MouldIsLoaded := by
  unfold Obligations.MouldIsLoaded
  refine ⟨?_, fun s idx n m hn hm hslot => ⟨fun hpin hfill => ⟨s, congrArg s.after (loadComplete_of_filling hm hpin hfill), rfl⟩,
    fun hfill => ⟨fun hout => ?_, fun f hout => ?_⟩⟩⟩
  · intro s n hs hclean b f hdr img pin mgmt owner env hmgmt hflask
    have hpar (i : Nat) : (s.begun n).par n i = s.par n i := par_begun s n i
    have hmay : loadMay b n := loadMay_of (by rw [hpar]; exact hmgmt) (by rw [hpar]; exact hflask)
    have hsame : sameMem s b := sameMem_begun s n
    have hmoulds : b.moulds = s.moulds := begun_moulds s n
    have hon : b.on .MC_HTAB_EN = s.on .MC_HTAB_EN := congrArg (· == 1) (rd_begun s n (by decide) (by decide) (by decide) 0)
    have hlock : b.on .FL_LOCKED f = s.on .FL_LOCKED f := congrArg (· == 1) (rd_begun s n (by decide) (by decide) (by decide) f)
    have hstands : loadStands b n = b.loadDenied mgmt f (s.par n 1) (s.par n 2) (s.par n 3) (imBanks hdr) := by
      simp only [loadStands, hdr, b, hpar]
      rfl
    have howner : loadOwner b n = owner := by
      simp only [loadOwner, State.fref, hpar, owner, b]
      rfl
    have henv : loadEnvOf b n = env := loadEnvOf_begun s n
    have hrefused (st : Nat) (hst : st < 2 ^ 16) : sameMem s (b.reply n st) ∧ (b.reply n st).replied n st ∧ (b.reply n st).moulds = s.moulds :=
      ⟨(sameMem_reply _ _ _ _ _).2 hsame, replied_reply _ _ hs.1 hst, (reply_keeps State.moulds (fun _ _ _ _ => rfl) _ _ _ _).trans hmoulds⟩
    refine ⟨fun hdenied => answers_mouldLoad hs hclean (mouldLoad_of_denied hmay (hstands.trans hdenied)) (hrefused _ (by decide)),
      fun hallowed => ⟨fun htab => answers_mouldLoad hs hclean (mouldLoad_of_untabled hmay (hstands.trans hallowed) (hon.trans htab)) (hrefused _ (by decide)),
      fun idx a htab hidx ha => ?_⟩⟩
    have hplaced := mouldLoad_of_placed hmay (hstands.trans hallowed) (hon.trans htab) hidx (a := a) (by rw [howner, hpar]; exact ha)
    rw [howner, henv] at hplaced
    simp only [b, hpar] at hplaced
    obtain ⟨hfull, hcopy⟩ := hplaced
    refine ⟨fun hpin hfits => answers_mouldLoad hs hclean (hfull hpin hfits) (hrefused _ (by decide)), fun hfits hhead hlocked hbody hlen hfit => ?_⟩
    refine answers_mouldLoad hs hclean (hcopy hfits hhead (fun hm => hlock.trans (hlocked hm)) hbody) ?_
    obtain ⟨mt, hcount⟩ := countFor_eq (s.begun n) ((owner.map Charge.overhead).getD .package) 9 (s.par n 2)
    have himg : img.length = s.par n 2 := by simp [img, State.dieRead]
    obtain ⟨honly, hread, hfills, hentry⟩ := loadCopy_leaves (s := (s.begun n).countFor ((owner.map Charge.overhead).getD .package) 9 (s.par n 2))
      (flask := owner) (idx := idx) (gbase := s.par n 3) (digest := imDigest img) n pin (a := a) (b := img) (by rw [himg]; exact hfit)
    rw [himg] at hread
    refine ⟨fun g i hg => (honly g i hg).trans (by rw [hcount]; rfl), hread, hfills, _, hentry, rfl, ?_, rfl, rfl, rfl, himg, rfl, rfl, rfl, rfl⟩
    rw [hcount]
    exact congrArg (fun m : Moulds => aget m.gens idx 0) hmoulds
  · have hdone := (loadComplete_of_filled hm hslot hfill).1 hout
    refine ⟨_, congrArg s.after hdone, ?_⟩
    have hkeep {β : Type} {p : State → β} (hvault : ∀ (t : State) v, p { t with vaults := v } = p t) :=
      chained_keeps hvault (retabled s idx (fun x => { x with loaded := true, slot := none })) idx m
    have hmem := And.intro (hkeep (p := State.hbm) fun _ _ => rfl) (hkeep (p := State.wbuf) fun _ _ => rfl)
    have hregs := hkeep (p := State.regs) fun _ _ => rfl
    have htable := congrArg Moulds.table (hkeep (p := State.moulds) fun _ _ => rfl)
    generalize chained (retabled s idx (fun x => { x with loaded := true, slot := none })) idx m = t at *
    refine ⟨(sameMem_reply _ _ _ _ _).2 (sameMem_of_eq hmem.1 hmem.2), fun f i hf => ?_, replied_reply _ _ hn (by decide),
      rd_reply_one t n stOK _, ?_⟩
    · refine (onlyRegs_reply t n stOK [idx + m.gen * 2 ^ 20] (by simp) f i hf).trans ?_
      rw [State.rd, hregs, State.rd]
      rfl
    · have hmoulds : (t.reply n stOK [idx + m.gen * 2 ^ 20]).moulds = t.moulds := reply_keeps State.moulds (fun _ _ _ _ => rfl) _ _ _ _
      have hfound := List.find?_some (p := fun m : Mould => m.idx == idx && !m.loaded) hm
      have hidx : (m.idx == idx) = true := (Bool.and_eq_true_iff.1 hfound).1
      rw [hmoulds, htable]
      refine ⟨_, updAll_mem (List.mem_of_find?_eq_some hm), ?_⟩
      rw [if_pos hidx]
      exact ⟨beq_iff_eq.1 hidx, rfl⟩
  · have hdone := (loadComplete_of_filled hm hslot hfill).2 f hout
    obtain ⟨hmem, hcause, hcall, hmoulds⟩ := foreignMould_leaves (retabled s idx (fun x => { x with slot := none })) f
    refine ⟨_, congrArg s.after hdone, ?_⟩
    generalize (retabled s idx (fun x => { x with slot := none })).foreignMould f = t at *
    refine ⟨(sameMem_reply _ _ _ _ _).2 (sameMem_trans (sameMem_of_eq rfl rfl) hmem), replied_reply _ _ hn (by decide), ?_, ?_, ?_⟩
    · exact (rd_reply_nil _ _ _ (not_mem_replyFields (by decide) _ _)).trans hcause
    · exact (reply_keeps State.calls (fun _ _ _ _ => rfl) t n stSTATE []).symm ▸ hcall
    · rw [(reply_keeps State.moulds (fun _ _ _ _ => rfl) t n stSTATE []).trans hmoulds]
      intro k hk hkidx hloaded
      obtain ⟨k0, hk0, hk⟩ := List.mem_map.1 hk
      refine ⟨k0, hk0, ?_⟩
      split at hk <;> subst hk <;> exact ⟨hkidx, hloaded⟩

end Sys2Proof.Laws

/-! # The atlas commands

ATLAS_BIND, ATLAS_UNBIND, ATLAS_INVALIDATE and FAULT_RESUME (R205, R206, R220, R233). -/
namespace Sys2Proof.Laws

open Sys2Proof.Machine

/-- A command of which FLAGS chooses the row runs from its start point as any other. -/
theorem mbPart_of_starts {s : State} {n op : Nat} (h : s.starts n op) {width v : Nat} (hv : bits (s.par n 0) 48 width = v) (body : State → State)
    {rs : State → List (Nat × Nat)} (hclean : (rs s).any (fun r => !(s.dirtyLines r.1 r.2).isEmpty) = false) :
    s.mbPart n op width v body rs = (body (s.begun n)).unclaim := by
  rw [State.mbPart, hv, bne_self_eq_false, Bool.and_false, if_neg (by decide)]
  exact mbHome_of_starts h hclean body

/-! ## ATLAS_BIND (R205) -/

section
variable {s : State} {n : Nat}

theorem atlasBind_of_taken (href : s.frefOk n = true) (hlive : s.flaskLive (s.fref n).1 = true)
    (htaken : s.slotOfPasid (bits (s.par n 1) 0 20) ≠ none) : s.atlasBind n = s.reply n stSTATE := by
  simp [State.atlasBind, href, hlive, Option.isSome_iff_ne_none.2 htaken]

/-- Atlas slot a holds a binding. -/
def atlasBound (s : State) (a pasid f root : Nat) : State :=
  (((((s.wr .XL_ATLAS_PASID pasid a).wr .XL_ATLAS_FLASK f a).wr .XL_ATLAS_FLASK_GEN (s.flaskGen f) a).wr .XL_ATLAS_ROOT (root / 8192) a).wr
    .XL_ATLAS_VALID 1 a)

theorem atlasBind_of_free {a : Nat} (href : s.frefOk n = true) (hlive : s.flaskLive (s.fref n).1 = true)
    (hfree : s.slotOfPasid (bits (s.par n 1) 0 20) = none) (hin : s.inPrivate (s.fref n).1 (s.par n 2) 8192 = true)
    (hpublic : s.flaskSealed (s.fref n).1 = true → s.allPublic (s.par n 2) 8192 = true)
    (ha : lowest 1024 (fun a => !s.atlases.contains a) = some a) (hroot : s.par n 2 % 8192 = 0) :
    s.atlasBind n = (atlasBound s a (bits (s.par n 1) 0 20) (s.fref n).1 (s.par n 2)).reply n stOK [a] := by
  have hallowed : (!s.inPrivate (s.fref n).1 (s.par n 2) 8192 || (s.flaskSealed (s.fref n).1 && !s.allPublic (s.par n 2) 8192)) = false := by
    rw [hin]
    cases hs : s.flaskSealed (s.fref n).1
    · rfl
    · rw [hpublic hs]
      rfl
  unfold State.atlasBind
  dsimp only
  rw [href, hlive, hfree, ha]
  dsimp only
  rw [if_neg (by decide), if_neg (by decide), if_neg (by decide), if_neg (by rw [hallowed]; decide), if_neg (not_not.2 hroot)]
  rfl

theorem onlyRegs_atlasBound (s : State) (a pasid f root : Nat) : onlyRegs s (atlasBound s a pasid f root)
    [(.XL_ATLAS_PASID, a), (.XL_ATLAS_FLASK, a), (.XL_ATLAS_FLASK_GEN, a), (.XL_ATLAS_ROOT, a), (.XL_ATLAS_VALID, a)] :=
  onlyRegs_wr (onlyRegs_wr (onlyRegs_wr (onlyRegs_wr (onlyRegs_wr (onlyRegs_refl s _) (by simp) _) (by simp) _) (by simp) _) (by simp) _) (by simp) _

theorem rd_atlasBound (s : State) (a f root p : Nat) (hf : f < 64) : let t := atlasBound s a (bits p 0 20) f root
    t.rd .XL_ATLAS_VALID a = 1 ∧ t.rd .XL_ATLAS_PASID a = bits p 0 20 ∧ t.rd .XL_ATLAS_FLASK a = f ∧
      t.rd .XL_ATLAS_ROOT a = root / 8192 % 2 ^ Field.XL_ATLAS_ROOT.row.width := by
  have hne {f g : Field} (t : State) (v : Nat) (h : f ≠ g) : (t.wr f v a).rd g a = t.rd g a := rd_wr_ne t v (.inl h)
  refine ⟨rd_wr_same _ _ _ _, ?_, ?_, ?_⟩
  · rw [atlasBound, hne _ _ (by decide), hne _ _ (by decide), hne _ _ (by decide), hne _ _ (by decide), rd_wr_same]
    exact bits_cut (g := .XL_ATLAS_PASID) rfl _ _
  · rw [atlasBound, hne _ _ (by decide), hne _ _ (by decide), hne _ _ (by decide), rd_wr_same]
    exact Nat.mod_eq_of_lt hf
  · rw [atlasBound, hne _ _ (by decide), rd_wr_same]

/-! ## ATLAS_UNBIND and ATLAS_INVALIDATE (R206, R220) -/

theorem atlasUnbind_of_bound {a : Nat} (href : s.frefOk n = true) (hbound : s.boundSlot (bits (s.par n 1) 0 20) (s.fref n).1 = some a) :
    s.atlasUnbind n = if (s.listed .QCTX_STATE).any (fun q => s.rd .QCTX_PASID q == bits (s.par n 1) 0 20) || s.xl.invs.any (fun v => v.slots.contains a)
      then s.reply n stBUSY else s.invalidate (.unbind (some n)) [a] none := by
  simp only [State.atlasUnbind, href, hbound, Bool.not_true, Bool.false_eq_true, if_false]

theorem atlasInvalidate_of_full (h : 8 ≤ (s.invPool (.cmd n)).1) : s.atlasInvalidate n = s.reply n stBUSY := if_pos h

theorem atlasInvalidate_of_bound {a : Nat} (hroom : (s.invPool (.cmd n)).1 < 8) (href : s.frefOk n = true)
    (hbound : s.boundSlot (bits (s.par n 1) 0 20) (s.fref n).1 = some a) : s.atlasInvalidate n = s.invalidate (.cmd n) [a]
      (if bit (s.par n 0) 48 then some (bits (s.par n 2) 0 32 * sheet32M, bits (s.par n 2) 32 32 * sheet32M) else none) := by
  simp only [State.atlasInvalidate, if_neg (Nat.not_le.2 hroom), href, hbound, Bool.not_true, Bool.false_eq_true, if_false]

/-- An invalidation moves no register but the counters of the hot sheets it disarms. -/
theorem rd_invalidate {g : Field} (hg : g ∉ hotRegs) (t : State) (f : InvFrom) (slots : List Nat) (range : Option (Nat × Nat)) (i : Nat) :
    (t.invalidate f slots range).rd g i = t.rd g i := by
  simp only [State.invalidate]
  split
  · exact blindToInvs.startInv (p := fun u : State => u.rd g i)
      ⟨fun _ _ _ _ _ => rfl, fun _ _ _ _ hf => rd_wr_ne _ _ (.inl (ne_of_mem_of_not_mem hf hg))⟩ _ _
  · rfl

theorem slotState_invalidate (t : State) (f : InvFrom) (slots : List Nat) (range : Option (Nat × Nat)) (n : Nat) :
    (t.invalidate f slots range).slotState n = t.slotState n :=
  congrArg (bits · (2 * n) 2) (rd_invalidate (g := .MB_STATE_STATE) (by simp [hotRegs]) t f slots range 0)

/-- An invalidation of a pool with room starts at once (R220). -/
theorem invalidate_started {t : State} {f : InvFrom} (h : (t.invPool f).1 < (t.invPool f).2) (slots : List Nat) (range : Option (Nat × Nat)) :
    ∃ v ∈ (t.invalidate f slots range).xl.invs, v.id = t.nextId ∧ v.source = f ∧ v.slots = slots ∧ v.started = true ∧ v.range = range := by
  let v : Inv := { id := t.nextId, source := f, slots := slots, range := range }
  let u : State := { t with nextId := t.nextId + 1, xl := { t.xl with invs := t.xl.invs ++ [v] } }
  have hpool : (t.newId).2.invPool f = t.invPool f := by cases f <;> rfl
  have hmade : t.invalidate f slots range = if ((t.newId).2.invPool f).1 < ((t.newId).2.invPool f).2 then u.startInv v else u := rfl
  rw [hmade, hpool, if_pos h, startInv_invs]
  exact ⟨{ v with started := true, mark := u.nextId, acks := List.range 512, kernels := u.physWaits v },
    List.mem_map.2 ⟨v, List.mem_append_right _ (List.mem_singleton_self v), if_pos (beq_self_eq_true _)⟩, rfl, rfl, rfl, rfl, rfl⟩

end

/-! ## FAULT_RESUME (R233, R234) -/

section
variable {h : Held} {t : State}

/-- The stop of a tree leaves alone all that its parts leave alone, but for what it drops of the units. -/
theorem free_startOn (hh : h ∉ t.xl.helds) (e k : Nat) : h ∉ (t.startOn e k).xl.helds := by
  simp only [State.startOn]
  split
  · exact hh
  · exact hh

theorem free_pump (hh : h ∉ t.xl.helds) : h ∉ t.pump.xl.helds :=
  pump_induct (P := fun t => h ∉ t.xl.helds) (fun _ hh => hh) (fun _ e k hh _ _ => free_startOn (by exact hh) e k) (fun _ _ _ _ hh _ => hh) hh

theorem helds_refuseSpawn (t : State) (x : Ctx) (w : SpawnWish) (code : Nat) : (t.refuseSpawn x w code).xl.helds = t.xl.helds := by
  simp only [State.refuseSpawn]
  split
  · rfl
  · split
    · rfl
    · exact raise_keeps (fun u : State => u.xl.helds) (fun _ _ _ _ => rfl) _ _

/-- What the refusal of one spawn leaves alone, the refusal of a tree's spawns does. -/
theorem refuseTree_keeps {β : Type} {p : State → β} (hrefuse : ∀ t x w code, p (State.refuseSpawn t x w code) = p t) (t : State) (r : Nat) :
    p (t.refuseTree r) = p t := by
  refine (foldl_keeps p (fun t l => ?_) _ _).trans (foldl_keeps p (fun t x => ?_) _ t)
  · split
    · split
      · split
        · split
          · exact hrefuse _ _ _ _
          · rfl
        · rfl
      · rfl
    · rfl
  · split
    · exact hrefuse _ _ _ _
    · rfl

theorem helds_refuseTree (t : State) (r : Nat) : (t.refuseTree r).xl.helds = t.xl.helds :=
  refuseTree_keeps (p := fun u : State => u.xl.helds) helds_refuseSpawn t r

theorem helds_stopKernel (t : State) (k : Kernel) : (t.stopKernel k).xl.helds = t.xl.helds :=
  foldl_keeps (fun u : State => u.xl.helds) (fun t e => by dsimp only; split <;> rfl) k.left _

theorem helds_removeUnstarted (t : State) (k : Kernel) : (t.removeUnstarted k).xl.helds = t.xl.helds :=
  foldl_keeps (fun u : State => u.xl.helds) (fun u e => by rfl) (k.left.filter (fun e => (t.lane e).running != some k.id)) t

/-- A stopped tree holds no record that was not held before it. -/
theorem free_stopTree (hh : h ∉ t.xl.helds) (r : Nat) : h ∉ (t.stopTree r true).xl.helds :=
  free_pump <| List.foldlRecOn (motive := fun t : State => h ∉ t.xl.helds) _ _
    (fun hc => hh ((helds_refuseTree t r) ▸ (List.mem_filter.1 hc).1)) fun t ht k _ =>
      ((helds_stopKernel _ k).trans (helds_removeUnstarted t k)).symm ▸ ht

theorem free_endPour (hh : h ∉ t.xl.helds) (c status detail : Nat) : h ∉ (t.endPour c status detail).xl.helds := by
  unfold State.endPour State.endTree
  split
  · exact hh
  · split
    · exact hh
    · split
      · exact hh
      · split
        · exact hh
        · exact free_stopTree hh _

theorem helds_answer (t : State) (a : Ask) (r : Ans) : (t.answer a r).xl.helds = t.xl.helds := by
  unfold State.answer
  split
  · rfl
  · split <;> rfl
  · rfl

theorem mem_sent_answer {m : Msg} (hm : m ∈ t.sent) (a : Ask) (r : Ans) : m ∈ (t.answer a r).sent := by
  unfold State.answer
  split
  · exact hm
  · split <;> exact List.mem_cons_of_mem _ hm
  · exact hm

/-- An engine whose request is answered by a fault hears of it. -/
theorem fault_mem_answer {a : Ask} {e : Nat} (ha : a.owner = .engine e) (k x : Nat) : .xlFault e k ∈ (t.answer a (.fault k x)).sent := by
  rw [State.answer, ha]
  exact List.mem_cons_self

/-- Request a is answered by a fault of a kind, and its pour ends. -/
def faultOne (kind : Nat) (t : State) (a : Ask) : State := (t.answer a (.fault kind 0xF)).endPour a.ctx 3 kind

theorem free_faultOne (hh : h ∉ t.xl.helds) (kind : Nat) (a : Ask) : h ∉ (faultOne kind t a).xl.helds := by
  refine free_endPour ?_ _ _ _
  rw [helds_answer]
  exact hh

theorem mem_sent_faultOne {m : Msg} (hm : m ∈ t.sent) (kind : Nat) (a : Ask) : m ∈ (faultOne kind t a).sent :=
  mem_sent_endPour (mem_sent_answer hm _ _) _ _ _

theorem fault_mem_faultOne {a : Ask} {e : Nat} (ha : a.owner = .engine e) (kind : Nat) : .xlFault e kind ∈ (faultOne kind t a).sent :=
  mem_sent_endPour (fault_mem_answer ha _ _) _ _ _

/-- Requests that are each answered by a fault, with their pours ended: every engine among them hears of it, and no record turns held. -/
theorem faulted_leave (kind : Nat) (l : List Ask) (hh : h ∉ t.xl.helds) :
    h ∉ (l.foldl (faultOne kind) t).xl.helds ∧ ∀ a ∈ l, ∀ e, a.owner = .engine e → .xlFault e kind ∈ (l.foldl (faultOne kind) t).sent := by
  have hkeep {m : Msg} (l : List Ask) (t : State) (hm : m ∈ t.sent) : m ∈ (l.foldl (faultOne kind) t).sent :=
    List.foldlRecOn (motive := fun t : State => m ∈ t.sent) _ _ hm fun _ ht a _ => mem_sent_faultOne ht kind a
  refine ⟨List.foldlRecOn (motive := fun t : State => h ∉ t.xl.helds) _ _ hh fun _ ht a _ => free_faultOne ht kind a, ?_⟩
  induction l generalizing t with
  | nil => exact fun a ha => absurd ha List.not_mem_nil
  | cons a l ih =>
    intro j hj e he
    rcases List.mem_cons.1 hj with rfl | hj
    · exact hkeep l _ (fault_mem_faultOne he kind)
    · exact ih (free_faultOne hh kind a) j hj e he

/-- The requests that are joined to held record h. -/
def joinedTo (t : State) (n : Nat) (h : Held) : List Ask := t.xl.asks.filter (fun a => a.wait == .held (t.fref n).1 h.fid)

theorem faultResume_of_abort {n : Nat} (href : t.frefOk n = true) (hheld : t.heldOf n = some h) :
    t.faultResume n true = ((joinedTo t n h).foldl (faultOne h.kind) (t.release h)).reply n stOK := by
  simp only [State.faultResume, href, hheld, Bool.not_true, Bool.false_eq_true, if_false, if_true]
  rfl

/-- The walk by which request k tries again. -/
def freshWalk (t : State) (h : Held) (k : Ask) : Walk := { id := t.nextId, slot := h.slot, va := k.va, fresh := true }

/-- The requests joined to h wait for a fresh walk of k. -/
def retried (t : State) (n : Nat) (h : Held) (k : Ask) : State :=
  { t with nextId := t.nextId + 1, xl := { t.xl with
      helds := t.xl.helds.filter (fun x => x != h), walks := t.xl.walks ++ [freshWalk t h k],
      asks := updAll t.xl.asks (fun a => a.wait == .held (t.fref n).1 h.fid) (fun a => { a with wait := .walk t.nextId }) } }

theorem faultResume_of_retry {n : Nat} (href : t.frefOk n = true) (hheld : t.heldOf n = some h) :
    t.faultResume n false = (match (joinedTo t n h).head? with
      | none => { t.release h with nextId := t.nextId + 1 }
      | some k => retried t n h k).reply n stOK := by
  simp only [State.faultResume, href, hheld, Bool.not_true, Bool.false_eq_true, if_false]
  rw [joinedTo]
  cases (t.xl.asks.filter (fun a => a.wait == .held (t.fref n).1 h.fid)).head? <;> rfl

theorem free_release (t : State) (h : Held) : h ∉ (t.release h).xl.helds := fun hc => by simpa using (List.mem_filter.1 hc).2

end

/-- A command that starts and is one of several rows goes on by its body. -/
theorem answers_faultResume {s : State} {n : Nat} (hs : s.starts n 0x43) {P : State → Prop} :
    (bits (s.par n 0) 48 1 = 0 → P ((s.begun n).faultResume n false) → answers (.faultResumeRetry n) s P) ∧
    (bits (s.par n 0) 48 1 = 1 → P ((s.begun n).faultResume n true) → answers (.faultResumeAbort n) s P) :=
  ⟨fun hv hP => ⟨_, congrArg s.after (mbPart_of_starts hs hv (fun t => t.faultResume n false) rfl), hP⟩,
    fun hv hP => ⟨_, congrArg s.after (mbPart_of_starts hs hv (fun t => t.faultResume n true) rfl), hP⟩⟩

/-- Settles O37. -/
theorem atlasCommands : Obligations.AtlasCommands := by
  unfold Obligations.AtlasCommands
  refine ⟨?_, ?_, ?_, ?_⟩
  · intro s n a hs b f pasid root href hlive
    have hfref : (b.fref n).1 = f := congrArg (bits · 0 6) (par_begun s n 0)
    have hpasid : bits (b.par n 1) 0 20 = pasid := congrArg (bits · 0 20) (par_begun s n 1)
    have hroot : b.par n 2 = root := par_begun s n 2
    have hsame : sameMem s b := sameMem_begun s n
    refine ⟨fun htaken => ?_, fun hfree hin hpublic ha haligned => ?_⟩
    · have hbind := atlasBind_of_taken (s := b) (n := n) href (hfref ▸ hlive) (hpasid ▸ htaken)
      refine ⟨_, congrArg s.after (mbRun_of_starts hs fun t => t.atlasBind n), ?_⟩
      exact hbind ▸ ⟨(sameMem_reply _ _ _ _ _).2 hsame, replied_reply _ _ hs.1 (by decide), fun g i hg => rd_reply_nil _ _ _ hg⟩
    · have hbind := atlasBind_of_free (s := b) (n := n) href (hfref ▸ hlive) (hpasid ▸ hfree) (by rw [hfref, hroot]; exact hin)
        (by rw [hfref, hroot]; exact hpublic) ha (by rw [hroot]; exact haligned)
      rw [hfref, hpasid, hroot] at hbind
      obtain ⟨hvalid, hp, hf, hr⟩ := rd_atlasBound b a f root (s.par n 1) (Nat.mod_lt _ (by decide))
      have honly := onlyRegs_atlasBound b a pasid f root
      have hmem : sameMem s (atlasBound b a pasid f root) := sameMem_trans hsame (sameMem_of_eq rfl rfl)
      have ha1024 : a < 1024 := (lowest_some.1 ha).1
      refine ⟨_, congrArg s.after (mbRun_of_starts hs fun t => t.atlasBind n), ?_⟩
      refine hbind ▸ ?_
      generalize atlasBound b a pasid f root = t at *
      have hrd {g : Field} (hg : g ∉ replyNames) (i : Nat) : (t.reply n stOK [a]).rd g i = t.rd g i :=
        onlyRegs_reply t n stOK [a] (by simp) g i (not_mem_replyFields hg _ _)
      refine ⟨(sameMem_reply _ _ _ _ _).2 hmem, replied_reply _ _ hs.1 (by decide), (rd_reply_one t n stOK a).trans (Nat.mod_eq_of_lt (by omega)),
        (hrd (by decide) a).trans hvalid, (hrd (by decide) a).trans hp, (hrd (by decide) a).trans hf, (hrd (by decide) a).trans hr, fun g i hg => ?_⟩
      rw [List.mem_append, not_or] at hg
      exact (onlyRegs_reply t n stOK [a] (by simp) g i hg.1).trans (honly g i hg.2)
  · intro s n a hs b href hbound used
    have hfref : (b.fref n).1 = bits (s.par n 0) 0 6 := congrArg (bits · 0 6) (par_begun s n 0)
    have hpasid : bits (b.par n 1) 0 20 = bits (s.par n 1) 0 20 := congrArg (bits · 0 20) (par_begun s n 1)
    have hunbind := atlasUnbind_of_bound (s := b) (n := n) href (by rw [hfref, hpasid]; exact hbound)
    rw [hpasid] at hunbind
    refine ⟨fun hused => ?_, fun hunused => ?_⟩
    · rw [if_pos (by exact hused)] at hunbind
      refine ⟨_, congrArg s.after (mbRun_of_starts hs fun t => t.atlasUnbind n), ?_⟩
      exact hunbind ▸ replied_reply _ _ hs.1 (by decide)
    · rw [if_neg (by exact fun hc => Bool.false_ne_true (hunused.symm.trans hc))] at hunbind
      refine ⟨_, congrArg s.after (mbRun_of_starts hs fun t => t.atlasUnbind n), ?_⟩
      obtain ⟨-, v, hv, hid, hsource, hslots, hrange⟩ := invalidate_made b (.unbind (some n)) [a] none
      exact hunbind ▸ ⟨(slotState_invalidate _ _ _ _ _).trans (slotState_begun s hs.1), v, hv, hid.trans (begun_nextId s n), hsource, hslots, hrange⟩
  · intro s n a hs b
    have hfref : (b.fref n).1 = bits (s.par n 0) 0 6 := congrArg (bits · 0 6) (par_begun s n 0)
    have hpasid : bits (b.par n 1) 0 20 = bits (s.par n 1) 0 20 := congrArg (bits · 0 20) (par_begun s n 1)
    refine ⟨fun hfull => ?_, fun hroom href hbound => ?_⟩
    · refine ⟨_, congrArg s.after (mbRun_of_starts hs fun t => t.atlasInvalidate n), ?_⟩
      exact atlasInvalidate_of_full (s := b) hfull ▸ replied_reply _ _ hs.1 (by decide)
    · have hinv := atlasInvalidate_of_bound (s := b) (n := n) hroom href (by rw [hfref, hpasid]; exact hbound)
      have hpar (i : Nat) : b.par n i = s.par n i := par_begun s n i
      rw [hpar, hpar] at hinv
      refine ⟨_, congrArg s.after (mbRun_of_starts hs fun t => t.atlasInvalidate n), ?_⟩
      obtain ⟨v, hv, hid, hsource, hslots, hstarted, hrange⟩ := invalidate_started (t := b) (f := .cmd n) hroom [a]
        (if bit (s.par n 0) 48 then some (bits (s.par n 2) 0 32 * sheet32M, bits (s.par n 2) 32 32 * sheet32M) else none)
      exact hinv ▸ ⟨(slotState_invalidate _ _ _ _ _).trans (slotState_begun s hs.1), v, hv, hid.trans (begun_nextId s n), hsource, hslots, hstarted, hrange⟩
  · intro s n h hs b href hheld joined
    have hfref : (b.fref n).1 = bits (s.par n 0) 0 6 := congrArg (bits · 0 6) (par_begun s n 0)
    have hjoined : joinedTo b n h = joined := by rw [joinedTo, hfref]
    refine ⟨fun hv => (answers_faultResume hs).1 hv ?_, fun hv => (answers_faultResume hs).2 hv ?_⟩
    · rw [faultResume_of_retry href hheld, hjoined]
      have hmem : sameMem s b := sameMem_begun s n
      have hid : b.nextId = s.nextId := begun_nextId s n
      have hxl (t : State) : (t.reply n stOK).xl = t.xl := reply_keeps State.xl (fun _ _ _ _ => rfl) t n stOK []
      cases hhead : joined.head? with
      | none =>
        refine ⟨(sameMem_reply _ _ _ _ _).2 (sameMem_trans hmem (sameMem_of_eq rfl rfl)), replied_reply _ _ hs.1 (by decide), ?_, nofun⟩
        rw [hxl]
        exact free_release b h
      | some k =>
        refine ⟨(sameMem_reply _ _ _ _ _).2 (sameMem_trans hmem (sameMem_of_eq rfl rfl)), replied_reply _ _ hs.1 (by decide), ?_, fun k' hk' => ?_⟩
        · rw [hxl]
          exact free_release b h
        · obtain rfl : k = k' := Option.some.inj hk'
          rw [hxl]
          refine ⟨freshWalk b h k, List.mem_append_right _ (List.mem_singleton_self _), hid, rfl, rfl, rfl, fun j hj => ?_⟩
          obtain ⟨hj, hwait⟩ := List.mem_filter.1 hj
          have hnew := updAll_mem (p := fun a : Ask => a.wait == .held (b.fref n).1 h.fid) (f := fun a => { a with wait := .walk b.nextId }) hj
          rw [if_pos (by rw [hfref]; exact hwait)] at hnew
          exact hnew
    · rw [faultResume_of_abort href hheld, hjoined]
      obtain ⟨hfree, hsent⟩ := faulted_leave h.kind joined (free_release b h)
      generalize joined.foldl (faultOne h.kind) (b.release h) = t at *
      refine ⟨replied_reply _ _ hs.1 (by decide), ?_, ?_⟩
      · rw [show (t.reply n stOK).xl = t.xl from reply_keeps State.xl (fun _ _ _ _ => rfl) t n stOK []]
        exact hfree
      · rw [show (t.reply n stOK).sent = t.sent from reply_keeps State.sent (fun _ _ _ _ => rfl) t n stOK []]
        exact hsent

end Sys2Proof.Laws

/-! # Flasks are made and scrubbed

FLASK_CREATE, and the end of a scrub (R377, R378, R403, R405). -/
namespace Sys2Proof.Laws

open Sys2Proof.Machine

/-! ## FLASK_CREATE (R377, R378) -/

section
variable {s : State} {n : Nat}

/-- The fields that FLASK_CREATE sets, with their values. -/
def flaskValues (s : State) (n : Nat) : List (Field × Nat) :=
  let p := s.plan n
  [(.FL_GROUPS, p.groups), (.FL_BASE, p.base), (.FL_SIZE, p.size), (.FL_QFIRST, p.qfirst), (.FL_QCOUNT, p.qcount), (.FL_TFIRST, p.tfirst),
   (.FL_TCOUNT_M1, p.tcount - 1), (.MC_STORE_BASE, p.base * 8192 + p.off), (.MC_STORE_SIZE, p.store), (.FL_LABEL, s.par n 5),
   (.FL_AUTO_RESET, bits (s.par n 0) 48 1), (.FL_STATE, flCREATING)]

/-- The flask that slot n's parameters name holds its resources. -/
def flaskMade (s : State) (n : Nat) : State := wrEach s (flaskValues s n) (s.plan n).f

theorem flaskCreate_of_fails {st : Nat} (h : s.createFails (s.plan n) = some st) : s.flaskCreate n = s.reply n st := by
  simp only [State.flaskCreate, h]

theorem rd_flaskMade {f : Field} {v : Nat} (h : (f, v) ∈ flaskValues s n) : (flaskMade s n).rd f (s.plan n).f = v % 2 ^ f.row.width :=
  rd_wrEach (show ((flaskValues s n).map Prod.fst).Nodup by simp [flaskValues]) h s _

theorem flaskCreate_of_passes (h : s.createFails (s.plan n) = none) : s.flaskCreate n = (flaskMade s n).startScrub (s.plan n).f (some n)
    (((List.range (s.plan n).size).map (fun i => (s.plan n).base + i)).filter (fun g => s.on .SEAL_GRAN_DIRTY g)) := by
  have hdirty : (fun g => (flaskMade s n).on .SEAL_GRAN_DIRTY g) = (fun g => s.on .SEAL_GRAN_DIRTY g) := funext fun g =>
    congrArg (· == 1) (wrEach_keeps (fun t => t.rd .SEAL_GRAN_DIRTY g) (fun t f v hf => rd_wr_ne t v (.inl (ne_of_mem_of_not_mem hf (by simp [flaskValues])))) s)
  rw [← hdirty]
  simp only [State.flaskCreate, h]
  rfl

theorem createFails_lt {p : Plan} {st : Nat} (h : s.createFails p = some st) : st < 2 ^ 16 := by
  simp only [State.createFails] at h
  split_ifs at h <;> (cases h; decide)

theorem rd_startScrub (t : State) (f : Nat) (slot : Option Nat) (gs : List Nat) (g : Field) (i : Nat) : (t.startScrub f slot gs).rd g i = t.rd g i :=
  scrubNow_keeps (p := fun t => t.rd g i) (fun _ _ _ _ => rfl) t

theorem sameMem_startScrub (t : State) (f : Nat) (slot : Option Nat) (gs : List Nat) : sameMem t (t.startScrub f slot gs) :=
  sameMem_of_eq (scrubNow_keeps (p := State.hbm) (fun _ _ _ _ => rfl) t) (scrubNow_keeps (p := State.wbuf) (fun _ _ _ _ => rfl) t)

theorem mem_startScrub (t : State) (f : Nat) (slot : Option Nat) (gs : List Nat) :
    ∃ c ∈ (t.startScrub f slot gs).scrubs, c.flask = f ∧ c.slot = slot ∧ c.granules = gs :=
  ⟨_, List.mem_append_right _ List.mem_cons_self, rfl, rfl, rfl⟩

end

/-! ## The scrub's share (R405) -/

theorem length_scrubRun (k dt : Nat) (ls : List Nat) : (scrubRun k dt ls).length = ls.length := by
  induction k generalizing dt ls with
  | zero => rfl
  | succ k ih =>
    unfold scrubRun
    dsimp only
    split
    · rfl
    · split
      · exact (ih _ _).trans (List.length_map _)
      · exact List.length_map _

/-- A scrub that has got its share is still the scrub that it was. -/
theorem find_scrubNow {t : State} {f : Nat} {c : Scrub} (h : t.scrubs.find? (fun c => c.flask == f) = some c) :
    ∃ l, t.scrubNow.scrubs.find? (fun c => c.flask == f) = some { c with left := l } := by
  have hrun : (scrubRun (t.scrubs.length + 1) (t.time - t.scrubAt) (t.scrubs.map Scrub.left)).length = t.scrubs.length := by
    rw [length_scrubRun, List.length_map]
  have hscrubs : t.scrubNow.scrubs = (t.scrubs.zip (scrubRun (t.scrubs.length + 1) (t.time - t.scrubAt) (t.scrubs.map Scrub.left))).map
    fun p => { p.1 with left := p.2 } := rfl
  rw [hscrubs]
  generalize scrubRun (t.scrubs.length + 1) (t.time - t.scrubAt) (t.scrubs.map Scrub.left) = ls at *
  generalize t.scrubs = cs at *
  clear hscrubs
  induction cs generalizing ls with
  | nil => cases h
  | cons d cs ih =>
    cases ls with
    | nil => cases hrun
    | cons l ls =>
      rw [List.zip_cons_cons, List.map_cons]
      rw [List.find?_cons] at h ⊢
      cases hd : d.flask == f with
      | true =>
        rw [hd] at h
        exact ⟨l, by obtain rfl : d = c := Option.some.inj h; rfl⟩
      | false =>
        rw [hd] at h
        exact ih ls h (Nat.succ.inj hrun)

/-- Scrub c of flask f has had its time. -/
def scrubReached (s : State) (f : Nat) : State :=
  let t := s.scrubNow
  (t.elapse (t.time + scrubWait ((t.scrubs.map Scrub.left).length + 1) (((t.scrubs.find? (fun c => c.flask == f)).map Scrub.left).getD 0)
    (t.scrubs.map Scrub.left))).scrubNow

theorem scrubReached_keeps {β : Type} {p : State → β} (h : blindToScrubs p) (htime : ∀ (t : State) n, p { t with time := n } = p t) (s : State) (f : Nat) :
    p (scrubReached s f) = p s :=
  (scrubNow_keeps h _).trans ((htime _ _).trans (scrubNow_keeps h s))

theorem le_time_scrubReached (s : State) (f : Nat) : s.time ≤ (scrubReached s f).time := by
  have htime (t : State) : t.scrubNow.time = t.time := scrubNow_keeps (p := State.time) (fun _ _ _ _ => rfl) t
  unfold scrubReached
  dsimp only
  rw [htime, State.elapse]
  exact (htime s).symm.le.trans (le_max_left _ _)

theorem find_scrubReached {f : Nat} {c : Scrub} {s : State} (h : s.scrubs.find? (fun c => c.flask == f) = some c) :
    ∃ l, (scrubReached s f).scrubs.find? (fun c => c.flask == f) = some { c with left := l } := by
  obtain ⟨l, hl⟩ := find_scrubNow h
  exact find_scrubNow (t := (s.scrubNow).elapse _) (c := { c with left := l }) hl

/-! ## The granules (R405) -/

/-- Granules gs are zero, their scrub is over, and they count as clean. -/
def granulesClean (t : State) (f : Nat) (gs : List Nat) : State :=
  gs.foldl (fun t g => t.wr .SEAL_GRAN_DIRTY 0 g) (({ t with scrubs := t.scrubs.filter (fun x => x.flask != f) }).zeroGranules gs)

theorem scrubComplete_of_found {s : State} {f : Nat} {c : Scrub} (h : s.scrubs.find? (fun c => c.flask == f) = some c) (hgo : s.unbinding f = false) :
    s.scrubComplete f = match c.slot with
      | some n => (granulesClean (scrubReached s f) f c.granules).endCreate f n
      | none => (granulesClean (scrubReached s f) f c.granules).endTear f := by
  obtain ⟨l, hl⟩ := find_scrubReached h
  unfold State.scrubComplete
  rw [h]
  dsimp only
  rw [hgo, if_neg (by decide)]
  rw [scrubReached] at hl ⊢
  rw [hl]
  cases c.slot <;> rfl

theorem zeroed_zeroGranules (t : State) (gs : List Nat) : t.zeroed (t.zeroGranules gs) gs := by
  intro a
  have hsys : (t.zeroGranules gs).sysByte a = if a / granule ∈ gs then 0 else t.sysByte a := by
    rw [State.sysByte, State.zeroGranules, sget_filter unwritten (fun k => !gs.contains (k / granule))]
    by_cases ha : a / granule ∈ gs
    · simp [ha, unwritten]
    · simp [ha, State.sysByte]
  have hlast : lastStored (t.zeroGranules gs).wbuf a = if a / granule ∈ gs then none else lastStored t.wbuf a := by
    rw [State.zeroGranules, lastStored_filter (fun k => !gs.contains (k / granule))]
    by_cases ha : a / granule ∈ gs <;> simp [ha]
  have hdie : (t.zeroGranules gs).dieByte a = if a / granule ∈ gs then 0 else t.dieByte a := by
    rw [State.dieByte, hlast, hsys, State.dieByte]
    split <;> rfl
  rw [hsys, hdie]
  split <;> exact ⟨rfl, rfl⟩

theorem zeroed_trans {s t u : State} {gs : List Nat} (h : sameMem s t) (hz : t.zeroed u gs) : s.zeroed u gs := by
  intro a
  have hza := hz a
  rw [(h a).1, (h a).2] at hza
  exact hza

theorem zeroed_of_same {s t u : State} {gs : List Nat} (hz : s.zeroed t gs) (h : sameMem t u) : s.zeroed u gs := by
  intro a
  have hza := hz a
  rw [← (h a).1, ← (h a).2] at hza
  exact hza

theorem granulesClean_keeps {β : Type} {p : State → β} (hdirty : ∀ (t : State) v i, p (t.wr .SEAL_GRAN_DIRTY v i) = p t)
    (hmem : ∀ (t : State) m w c, p { t with hbm := m, wbuf := w, scrubs := c } = p t) (t : State) (f : Nat) (gs : List Nat) :
    p (granulesClean t f gs) = p t :=
  (foldl_keeps p (fun t g => hdirty t _ g) gs _).trans (hmem t _ _ _)

theorem zeroed_granulesClean (t : State) (f : Nat) (gs : List Nat) : t.zeroed (granulesClean t f gs) gs := by
  refine zeroed_of_same (zeroed_trans (sameMem_of_eq rfl rfl) (zeroed_zeroGranules { t with scrubs := t.scrubs.filter (fun x => x.flask != f) } gs)) ?_
  have hkeep {β : Type} {p : State → β} (hdirty : ∀ (t : State) v i, p (t.wr .SEAL_GRAN_DIRTY v i) = p t) :
      p (granulesClean t f gs) = p (({ t with scrubs := t.scrubs.filter (fun x => x.flask != f) }).zeroGranules gs) := foldl_keeps p (fun t g => hdirty t _ g) gs _
  exact sameMem_of_eq (hkeep fun _ _ _ => rfl) (hkeep fun _ _ _ => rfl)

theorem scrubs_granulesClean (t : State) (f : Nat) (gs : List Nat) : (granulesClean t f gs).scrubs = t.scrubs.filter (fun x => x.flask != f) :=
  foldl_keeps State.scrubs (fun (t : State) g => (rfl : (t.wr .SEAL_GRAN_DIRTY 0 g).scrubs = t.scrubs)) gs _

/-- What one step for g brings about, and every step keeps, holds after a run of steps that has g among them. -/
theorem foldl_brings {P : State → Prop} {f : State → Nat → State} {g : Nat} (hkeep : ∀ t j, P t → P (f t j)) (hset : ∀ t, P (f t g))
    {gs : List Nat} (hg : g ∈ gs) (t : State) : P (gs.foldl f t) := by
  induction gs generalizing t with
  | nil => exact absurd hg List.not_mem_nil
  | cons j gs ih =>
    rcases List.mem_cons.1 hg with rfl | hg
    · exact List.foldlRecOn (motive := P) gs f (hset t) fun t ht j _ => hkeep t j ht
    · exact ih hg _

theorem clean_granulesClean (t : State) (f : Nat) {gs : List Nat} {g : Nat} (hg : g ∈ gs) : (granulesClean t f gs).rd .SEAL_GRAN_DIRTY g = 0 := by
  refine foldl_brings (P := fun t => t.rd .SEAL_GRAN_DIRTY g = 0) (fun t j h => ?_) (fun t => (rd_wr_same t _ _ _).trans (Nat.zero_mod _)) hg _
  by_cases hj : j = g
  · exact hj ▸ (rd_wr_same t _ _ _).trans (Nat.zero_mod _)
  · exact (rd_wr_ne t _ (.inr hj)).trans h

/-! ## The end of a creation (R378) -/

/-- The granules gs belong to a new flask. -/
def granulesTaken (t : State) (gs : List Nat) : State := gs.foldl (fun t g => (t.wr .SEAL_GRAN_DIRTY 1 g).wr .SEAL_GRAN_SEAL 0 g) t

theorem granulesTaken_keeps {β : Type} {p : State → β} (hwr : ∀ (t : State) f v i, f = .SEAL_GRAN_DIRTY ∨ f = .SEAL_GRAN_SEAL → p (t.wr f v i) = p t)
    (t : State) (gs : List Nat) : p (granulesTaken t gs) = p t :=
  foldl_keeps p (fun t g => (hwr (t.wr .SEAL_GRAN_DIRTY 1 g) .SEAL_GRAN_SEAL 0 g (.inr rfl)).trans (hwr t _ _ _ (.inl rfl))) gs t

theorem rd_granulesTaken (t : State) {gs : List Nat} {g : Nat} (hg : g ∈ gs) :
    (granulesTaken t gs).rd .SEAL_GRAN_DIRTY g = 1 ∧ (granulesTaken t gs).rd .SEAL_GRAN_SEAL g = 0 := by
  have hset (t : State) : ((t.wr .SEAL_GRAN_DIRTY 1 g).wr .SEAL_GRAN_SEAL 0 g).rd .SEAL_GRAN_DIRTY g = 1 ∧
      ((t.wr .SEAL_GRAN_DIRTY 1 g).wr .SEAL_GRAN_SEAL 0 g).rd .SEAL_GRAN_SEAL g = 0 := by
    refine ⟨(rd_wr_ne (f := .SEAL_GRAN_SEAL) (g := .SEAL_GRAN_DIRTY) (i := g) (j := g) (t.wr .SEAL_GRAN_DIRTY 1 g) 0 (.inl (by decide))).trans (rd_wr_one t .SEAL_GRAN_DIRTY g), ?_⟩
    exact (rd_wr_same (t.wr .SEAL_GRAN_DIRTY 1 g) .SEAL_GRAN_SEAL 0 g).trans (Nat.zero_mod _)
  refine foldl_brings (P := fun t => t.rd .SEAL_GRAN_DIRTY g = 1 ∧ t.rd .SEAL_GRAN_SEAL g = 0)
    (f := fun t g => (t.wr .SEAL_GRAN_DIRTY 1 g).wr .SEAL_GRAN_SEAL 0 g) (fun t j h => ?_) hset hg t
  by_cases hj : j = g
  · subst hj
    exact hset t
  · rw [rd_wr_ne _ _ (.inr hj), rd_wr_ne _ _ (.inr hj), rd_wr_ne _ _ (.inr hj), rd_wr_ne _ _ (.inr hj)]
    exact h

/-- The granules of flask f. -/
def flaskGranules (t : State) (f : Nat) : List Nat := (List.range (t.rd .FL_SIZE f)).map (fun i => t.rd .FL_BASE f + i)

theorem endCreate_eq (t : State) (f n : Nat) : t.endCreate f n =
    ((granulesTaken t (flaskGranules t f)).wr .FL_STATE flOPEN f).reply n stOK [(granulesTaken t (flaskGranules t f)).flaskGen f] := rfl

theorem endCreate_keeps {β : Type} {p : State → β} (hwr : ∀ (t : State) f v i, p (t.wr f v i) = p t) (t : State) (f n : Nat) : p (t.endCreate f n) = p t := by
  rw [endCreate_eq]
  exact (reply_keeps p hwr _ _ _ _).trans ((hwr _ _ _ _).trans (granulesTaken_keeps (fun t f v i _ => hwr t f v i) t _))

theorem endCreate_leaves (t : State) (f : Nat) {n : Nat} (hn : n < 16) : let u := t.endCreate f n
    u.replied n stOK ∧ u.rd .MB_OUT (n * 128) = t.flaskGen f % 2 ^ 64 ∧ u.flaskState f = flOPEN ∧
      ∀ i, i < t.rd .FL_SIZE f → u.rd .SEAL_GRAN_DIRTY (t.rd .FL_BASE f + i) = 1 ∧ u.rd .SEAL_GRAN_SEAL (t.rd .FL_BASE f + i) = 0 := by
  have hgen : (granulesTaken t (flaskGranules t f)).flaskGen f = t.flaskGen f :=
    granulesTaken_keeps (p := fun t => t.flaskGen f) (fun t g v i hg => rd_wr_ne t v (.inl (by rcases hg with rfl | rfl <;> decide))) t _
  have hgran (i : Nat) (hi : i < t.rd .FL_SIZE f) := rd_granulesTaken t (List.mem_map_of_mem (f := fun i => t.rd .FL_BASE f + i) (List.mem_range.2 hi))
  rw [endCreate_eq, hgen]
  rw [← flaskGranules] at hgran
  generalize granulesTaken t (flaskGranules t f) = w at *
  have hrd {g : Field} (hg : g ∉ replyNames) (i : Nat) :
      ((w.wr .FL_STATE flOPEN f).reply n stOK [t.flaskGen f]).rd g i = (w.wr .FL_STATE flOPEN f).rd g i :=
    onlyRegs_reply _ n stOK [t.flaskGen f] (by simp) g i (not_mem_replyFields hg _ _)
  refine ⟨replied_reply _ _ hn (by decide), rd_reply_one _ n stOK _, (hrd (by decide) f).trans (rd_wr_same _ _ _ _), fun i hi => ?_⟩
  rw [hrd (by decide), hrd (by decide), rd_wr_ne _ _ (.inl (by decide)), rd_wr_ne _ _ (.inl (by decide))]
  exact hgran i hi

/-! ## The end of a reset or teardown (R403) -/

/-- The reset of flask f is over: it is counted and its cause is set. -/
def tearDone (t : State) (f : Nat) : State := (({ t with tears := t.tears.filter (fun x => x.flask != f) }).adv .FL_RESETS f).flaskCause f .FL_CAUSE_DONE

/-- Flask f is what its reset, or its teardown, leaves. -/
def tearLeft (t : State) (f : Nat) (destroy : Bool) : State :=
  if destroy then ((t.rstAll resourceFields f).wr .FL_STATE flFREE f).setVault { flask := f } else t.wr .FL_STATE flOPEN f

theorem endTear_of_found {t : State} {f : Nat} {w : Tear} (h : t.tears.find? (fun w => w.flask == f && w.scrub) = some w) :
    t.endTear f = (tearLeft (tearDone t f) f w.destroy).replyAll w.slots stOK := by
  simp only [State.endTear, h]
  rfl

theorem rstAll_keeps {β : Type} {p : State → β} {fs : List Field} (hwr : ∀ (t : State) g v i, g ∈ fs → p (t.wr g v i) = p t) (t : State) (i : Nat) :
    p (t.rstAll fs i) = p t :=
  List.foldlRecOn (motive := fun u : State => p u = p t) fs (fun (u : State) g => u.rst g i) rfl fun u hu _ hg => (hwr u _ _ _ hg).trans hu

theorem tearLeft_keeps {β : Type} {p : State → β} (hwr : ∀ (t : State) g v i, g ∈ resourceFields ∨ g = .FL_STATE → p (t.wr g v i) = p t)
    (hvault : ∀ (t : State) v, p { t with vaults := v } = p t) (t : State) (f : Nat) (destroy : Bool) : p (tearLeft t f destroy) = p t := by
  cases destroy with
  | true => exact (hvault _ _).trans ((hwr _ _ _ _ (.inr rfl)).trans (rstAll_keeps (fun t g v i hg => hwr t g v i (.inl hg)) t f))
  | false => exact hwr _ _ _ _ (.inr rfl)

/-- A field among those that are reset reads its reset value. -/
theorem rd_rstAll_mem {g : Field} {fs : List Field} (hg : g ∈ fs) (t : State) (i : Nat) : (t.rstAll fs i).rd g i = g.resetAt i % 2 ^ g.row.width := by
  have hkeep (fs : List Field) (t : State) (h : t.rd g i = g.resetAt i % 2 ^ g.row.width) : (t.rstAll fs i).rd g i = g.resetAt i % 2 ^ g.row.width := by
    refine List.foldlRecOn (motive := fun u : State => u.rd g i = g.resetAt i % 2 ^ g.row.width) _ _ h fun u hu j _ => ?_
    by_cases hj : j = g
    · exact hj ▸ rd_rst_same u j i
    · exact (rd_wr_ne u _ (.inl hj)).trans hu
  induction fs generalizing t with
  | nil => exact absurd hg List.not_mem_nil
  | cons j fs ih =>
    rcases List.mem_cons.1 hg with rfl | hg
    · exact hkeep fs _ (rd_rst_same t g i)
    · exact ih hg _

theorem tearDone_leaves (t : State) (f : Nat) : let u := tearDone t f
    sameMem t u ∧ u.rd .FL_RESETS f = (t.rd .FL_RESETS f + 1) % 2 ^ 16 ∧ u.rd .FL_CAUSE_DONE f = 1 ∧ u.on .EV_SRC_PENDING (0x2200 + f) = true ∧
      u.tears = t.tears.filter (fun x => x.flask != f) ∧ u.scrubs = t.scrubs ∧ ∀ g, u.rd .SEAL_GRAN_DIRTY g = t.rd .SEAL_GRAN_DIRTY g := by
  intro u
  let a : State := ({ t with tears := t.tears.filter (fun x => x.flask != f) }).adv .FL_RESETS f
  have hu : u = a.flaskCause f .FL_CAUSE_DONE := rfl
  have hadv : a.rd .FL_RESETS f = (t.rd .FL_RESETS f + 1) % 2 ^ 16 := rd_adv_same { t with tears := t.tears.filter (fun x => x.flask != f) } .FL_RESETS f 1
  have hdirty (g : Nat) : a.rd .SEAL_GRAN_DIRTY g = t.rd .SEAL_GRAN_DIRTY g := rd_wr_ne _ _ (.inl (by decide))
  have ha : sameMem t a ∧ a.tears = t.tears.filter (fun x => x.flask != f) ∧ a.scrubs = t.scrubs := ⟨sameMem_of_eq rfl rfl, rfl, rfl⟩
  obtain ⟨hcause, hpending, hrest⟩ := flaskCause_leaves a f (c := .FL_CAUSE_DONE) (by decide) (by decide)
  have hmem := sameMem_flaskCause a f .FL_CAUSE_DONE
  have htears : (a.flaskCause f .FL_CAUSE_DONE).tears = a.tears := raise_keeps State.tears (fun _ _ _ _ => rfl) _ _
  have hscrubs : (a.flaskCause f .FL_CAUSE_DONE).scrubs = a.scrubs := raise_keeps State.scrubs (fun _ _ _ _ => rfl) _ _
  clear_value u a
  subst hu
  obtain ⟨hmem', htears', hscrubs'⟩ := ha
  exact ⟨sameMem_trans hmem' hmem, (hrest _ _ (by decide) (by decide) (by decide)).trans hadv, hcause, hpending, htears.trans htears',
    hscrubs.trans hscrubs', fun g => (hrest _ _ (by decide) (by decide) (by decide)).trans (hdirty g)⟩

theorem state_tearLeft (t : State) (f : Nat) (destroy : Bool) : (tearLeft t f destroy).flaskState f = if destroy then flFREE else flOPEN := by
  cases destroy
  · exact (rd_wr_same t .FL_STATE flOPEN f).trans (Nat.mod_eq_of_lt (by decide))
  · rw [tearLeft, if_pos rfl, if_pos rfl]
    generalize t.rstAll resourceFields f = u
    exact (rd_wr_same u .FL_STATE flFREE f).trans (Nat.mod_eq_of_lt (by decide))

/-- A torn down flask owns nothing. -/
theorem tearLeft_empty (t : State) (f : Nat) : (tearLeft t f true).rd .FL_GROUPS f = 0 ∧ (tearLeft t f true).rd .FL_SIZE f = 0 := by
  have hrd {g : Field} (hg : g ∈ resourceFields) (hne : g ≠ .FL_STATE) (h0 : g.resetAt f = 0) : (tearLeft t f true).rd g f = 0 := by
    have hrst := rd_rstAll_mem hg t f
    rw [h0, Nat.zero_mod] at hrst
    rw [tearLeft, if_pos rfl]
    generalize t.rstAll resourceFields f = u at *
    exact (rd_wr_ne u flFREE (.inl (Ne.symm hne))).trans hrst
  exact ⟨hrd (by simp [resourceFields]) (by decide) rfl, hrd (by simp [resourceFields]) (by decide) rfl⟩

theorem tearLeft_leaves (t : State) (f : Nat) (destroy : Bool) : let u := tearLeft t f destroy
    sameMem t u ∧ (∀ {g : Field}, g ∉ resourceFields → g ≠ .FL_STATE → ∀ i, u.rd g i = t.rd g i) ∧ u.tears = t.tears ∧ u.scrubs = t.scrubs ∧
      u.flaskState f = (if destroy then flFREE else flOPEN) ∧ (destroy = true → u.rd .FL_GROUPS f = 0 ∧ u.rd .FL_SIZE f = 0) := by
  have hleft {β : Type} {p : State → β} (hwr : ∀ (t : State) g v i, g ∈ resourceFields ∨ g = .FL_STATE → p (t.wr g v i) = p t)
    (hvault : ∀ (t : State) v, p { t with vaults := v } = p t) := tearLeft_keeps hwr hvault t f destroy
  refine ⟨?_, fun {g} hg hne i => ?_, ?_, ?_, state_tearLeft t f destroy, fun hd => hd ▸ tearLeft_empty t f⟩
  · exact sameMem_of_eq (hleft (p := State.hbm) (fun _ _ _ _ _ => rfl) fun _ _ => rfl) (hleft (p := State.wbuf) (fun _ _ _ _ _ => rfl) fun _ _ => rfl)
  · exact hleft (p := fun t => t.rd g i)
      (fun t h x j hh => rd_wr_ne t x (.inl (hh.elim (fun hm => ne_of_mem_of_not_mem hm hg) fun he => he ▸ Ne.symm hne))) fun _ _ => rfl
  · exact hleft (p := State.tears) (fun _ _ _ _ _ => rfl) fun _ _ => rfl
  · exact hleft (p := State.scrubs) (fun _ _ _ _ _ => rfl) fun _ _ => rfl

/-- Settles O48. -/
theorem flasksAreMadeAndScrubbed : Obligations.FlasksAreMadeAndScrubbed := by
  unfold Obligations.FlasksAreMadeAndScrubbed
  refine ⟨?_, fun s f c hc => ⟨fun hbinding => ?_, fun n hn hslot hgo => ?_, fun w hslot hgo hw => ?_⟩⟩
  · intro s n hs b p f
    have hpar (i : Nat) : b.par n i = s.par n i := par_begun s n i
    have hplan : b.plan n = p := by
      simp only [State.plan, hpar, p]
    refine ⟨fun st hst => ?_, fun hpass => ?_⟩
    · refine ⟨_, congrArg s.after (mbRun_of_starts hs fun t => t.flaskCreate n), ?_⟩
      refine flaskCreate_of_fails (s := b) (hplan.symm ▸ hst) ▸ ?_
      exact ⟨(sameMem_reply _ _ _ _ _).2 (sameMem_begun s n), replied_reply _ _ hs.1 (createFails_lt hst), fun g i hg => rd_reply_nil _ _ _ hg⟩
    · have hcreate := flaskCreate_of_passes (s := b) (n := n) (hplan.symm ▸ hpass)
      have hval {g : Field} {v : Nat} (hg : (g, v) ∈ flaskValues b n) : (flaskMade b n).rd g (b.plan n).f = v % 2 ^ g.row.width := rd_flaskMade hg
      have honly : onlyRegs b (flaskMade b n) ((flaskValues b n).map fun q => (q.1, (b.plan n).f)) := onlyRegs_wrEach b _ _
      have hmem : sameMem s (flaskMade b n) := sameMem_trans (sameMem_begun s n)
        (sameMem_of_eq (wrEach_keeps State.hbm (fun _ _ _ _ => rfl) b) (wrEach_keeps State.wbuf (fun _ _ _ _ => rfl) b))
      have hslot : (flaskMade b n).slotState n = mbRUNNING :=
        (congrArg (bits · (2 * n) 2) (honly .MB_STATE_STATE 0 (by simp [flaskValues]))).trans (slotState_begun s hs.1)
      refine ⟨_, congrArg s.after (mbRun_of_starts hs fun t => t.flaskCreate n), hcreate ▸ ?_⟩
      simp only [flaskValues, hplan, hpar] at hval honly
      rw [hplan]
      generalize flaskMade b n = t at *
      have hrd {g : Field} {v : Nat} (hg : (g, v) ∈ _) := (rd_startScrub t p.f (some n)
        (((List.range p.size).map (fun i => p.base + i)).filter (fun g => b.on .SEAL_GRAN_DIRTY g)) g p.f).trans (hval (g := g) (v := v) hg)
      have hbits (x lo w : Nat) : bits x lo w < 2 ^ w := Nat.mod_lt _ (Nat.two_pow_pos w)
      have htcount : p.tcount - 1 < 2 ^ Field.FL_TCOUNT_M1.row.width := by
        simp only [p, State.plan, Nat.add_sub_cancel]
        exact Nat.mod_lt _ (by decide)
      have hcut {g : Field} {v : Nat} (hg : (g, v) ∈ _) (h : v < 2 ^ g.row.width) := (hrd (g := g) (v := v) hg).trans (Nat.mod_eq_of_lt h)
      refine ⟨sameMem_trans hmem (sameMem_startScrub _ _ _ _), ?_, ?_, ?_, ?_, ?_, ?_, ?_, ?_, ?_, ?_, ?_, ?_, ?_, mem_startScrub _ _ _ _, ?_⟩
      · exact (congrArg (bits · (2 * n) 2) (rd_startScrub t _ _ _ .MB_STATE_STATE 0)).trans hslot
      · exact hcut (by simp) (by decide)
      · exact hrd (by simp)
      · exact hcut (v := p.base) (by simp) (Nat.lt_of_lt_of_le (hbits _ 0 14) (by decide))
      · exact hcut (v := p.size) (by simp) (hbits _ 16 14)
      · exact hcut (v := p.qfirst) (by simp) (hbits _ 0 12)
      · exact hcut (v := p.qcount) (by simp) (hbits _ 12 13)
      · exact hcut (v := p.tfirst) (by simp) (hbits _ 32 16)
      · exact hcut (by simp) htcount
      · exact hrd (by simp)
      · exact hcut (v := p.store) (by simp) (hbits _ 32 12)
      · exact hrd (by simp)
      · exact hcut (v := bits (s.par n 0) 48 1) (by simp) (hbits _ 48 1)
      · intro g i hg
        rw [rd_startScrub]
        exact honly g i (by simpa using hg)
  · refine congrArg s.after (?_ : s.scrubComplete f = s)
    simp [State.scrubComplete, hc, hbinding]
  · have hdone := scrubComplete_of_found hc hgo
    rw [hslot] at hdone
    have hkeep {β : Type} {p : State → β} (h : blindToScrubs p) (htime : ∀ (t : State) n, p { t with time := n } = p t) := scrubReached_keeps h htime s f
    have hclean {β : Type} {p : State → β} (hdirty : ∀ (t : State) v i, p (t.wr .SEAL_GRAN_DIRTY v i) = p t)
      (hmem : ∀ (t : State) m w c, p { t with hbm := m, wbuf := w, scrubs := c } = p t) := granulesClean_keeps hdirty hmem (scrubReached s f) f c.granules
    have hmem : sameMem s (scrubReached s f) := sameMem_of_eq (hkeep (p := State.hbm) (fun _ _ _ _ => rfl) fun _ _ => rfl)
      (hkeep (p := State.wbuf) (fun _ _ _ _ => rfl) fun _ _ => rfl)
    have hzero := zeroed_trans hmem (zeroed_granulesClean (scrubReached s f) f c.granules)
    have hrd {g : Field} (hg : Field.SEAL_GRAN_DIRTY ≠ g) (i : Nat) : (granulesClean (scrubReached s f) f c.granules).rd g i = s.rd g i :=
      (hclean (p := fun t => t.rd g i) (fun _ _ _ => rd_wr_ne _ _ (.inl hg)) fun _ _ _ _ => rfl).trans
        (hkeep (p := fun t => t.rd g i) (fun _ _ _ _ => rfl) fun _ _ => rfl)
    have htime : s.time ≤ (granulesClean (scrubReached s f) f c.granules).time :=
      (le_time_scrubReached s f).trans (hclean (p := State.time) (fun _ _ _ => rfl) fun _ _ _ _ => rfl).symm.le
    have hscrubs := scrubs_granulesClean (scrubReached s f) f c.granules
    generalize granulesClean (scrubReached s f) f c.granules = t at *
    obtain ⟨hreplied, hout, hstate, hgran⟩ := endCreate_leaves t f hn
    refine ⟨_, congrArg s.after hdone, zeroed_of_same hzero (sameMem_of_eq (endCreate_keeps (p := State.hbm) (fun _ _ _ _ => rfl) t f n).symm.symm
      (endCreate_keeps (p := State.wbuf) (fun _ _ _ _ => rfl) t f n)), hreplied, hout.trans ?_, hstate, fun d hd => ?_, ?_, fun i hi => ?_⟩
    · rw [State.flaskGen, hrd (by decide), State.flaskGen]
    · rw [endCreate_keeps (p := State.scrubs) (fun _ _ _ _ => rfl) t f n, hscrubs] at hd
      simpa using (List.mem_filter.1 hd).2
    · rw [endCreate_keeps (p := State.time) (fun _ _ _ _ => rfl) t f n]
      exact htime
    · rw [← hrd (by decide) f]
      exact hgran i (by rw [hrd (by decide)]; exact hi)
  · have hdone := scrubComplete_of_found hc hgo
    rw [hslot] at hdone
    have hkeep {β : Type} {p : State → β} (h : blindToScrubs p) (htime : ∀ (t : State) n, p { t with time := n } = p t) := scrubReached_keeps h htime s f
    have hclean {β : Type} {p : State → β} (hdirty : ∀ (t : State) v i, p (t.wr .SEAL_GRAN_DIRTY v i) = p t)
      (hmem : ∀ (t : State) m w c, p { t with hbm := m, wbuf := w, scrubs := c } = p t) := granulesClean_keeps hdirty hmem (scrubReached s f) f c.granules
    have hmem : sameMem s (scrubReached s f) := sameMem_of_eq (hkeep (p := State.hbm) (fun _ _ _ _ => rfl) fun _ _ => rfl)
      (hkeep (p := State.wbuf) (fun _ _ _ _ => rfl) fun _ _ => rfl)
    have hzero := zeroed_trans hmem (zeroed_granulesClean (scrubReached s f) f c.granules)
    have hresets : (granulesClean (scrubReached s f) f c.granules).rd .FL_RESETS f = s.rd .FL_RESETS f :=
      (hclean (p := fun t => t.rd .FL_RESETS f) (fun _ _ _ => rd_wr_ne _ _ (.inl (by decide))) fun _ _ _ _ => rfl).trans
        (hkeep (p := fun t => t.rd .FL_RESETS f) (fun _ _ _ _ => rfl) fun _ _ => rfl)
    have htears : (granulesClean (scrubReached s f) f c.granules).tears = s.tears :=
      (hclean (p := State.tears) (fun _ _ _ => rfl) fun _ _ _ _ => rfl).trans (hkeep (p := State.tears) (fun _ _ _ _ => rfl) fun _ _ => rfl)
    have hcleaned := fun g => clean_granulesClean (g := g) (scrubReached s f) f (gs := c.granules)
    have hscrubs := scrubs_granulesClean (scrubReached s f) f c.granules
    generalize granulesClean (scrubReached s f) f c.granules = t at *
    rw [← htears] at hw
    rw [endTear_of_found hw] at hdone
    obtain ⟨hsame, hcount, hcause, hpending, htears', hscrubs', hdirty⟩ := tearDone_leaves t f
    generalize tearDone t f = v at *
    obtain ⟨hlsame, hlrd, hltears, hlscrubs, hlstate, hlempty⟩ := tearLeft_leaves v f w.destroy
    generalize tearLeft v f w.destroy = x at *
    refine ⟨_, congrArg s.after hdone, zeroed_of_same hzero ((sameMem_replyAll _ _ _ _ _).2 (sameMem_trans hsame hlsame)),
      fun n hn hlt => replied_replyAll hlt (by decide) [] (.inl hn), fun g hg => ?_, ?_, ?_, ?_, ?_, fun hd => ?_, fun d hd => ?_, fun d hd => ?_⟩
    · rw [rd_replyAll _ (fun n => not_mem_replyFields (by decide) _ n), hlrd (by simp [resourceFields]) (by decide), hdirty]
      exact hcleaned g hg
    · rw [rd_replyAll _ (fun n => not_mem_replyFields (by decide) _ n), hlrd (by simp [resourceFields]) (by decide), hcount, hresets]
    · rw [rd_replyAll _ (fun n => not_mem_replyFields (by decide) _ n), hlrd (by simp [resourceFields]) (by decide), hcause]
    · rw [State.on, rd_replyAll _ (fun n => not_mem_replyFields (by decide) _ n), hlrd (by simp [resourceFields]) (by decide)]
      exact hpending
    · exact (rd_replyAll _ (fun n => not_mem_replyFields (by decide) _ n) _ _ _).trans hlstate
    · rw [rd_replyAll _ (fun n => not_mem_replyFields (by decide) _ n), rd_replyAll _ (fun n => not_mem_replyFields (by decide) _ n)]
      exact hlempty hd
    · rw [replyAll_keeps State.tears (fun _ _ _ _ => rfl), hltears, htears'] at hd
      simpa using (List.mem_filter.1 hd).2
    · rw [replyAll_keeps State.scrubs (fun _ _ _ _ => rfl), hlscrubs, hscrubs', hscrubs] at hd
      simpa using (List.mem_filter.1 hd).2

end Sys2Proof.Laws

/-! # Flasks are torn down

FLASK_RESET and FLASK_DESTROY, and the point at which the flask is quiet (R401, R402, R404). -/
namespace Sys2Proof.Laws

open Sys2Proof.Machine

/-! ## What a reset's drops leave alone -/

/-- The registers that count what a reset drops. -/
def dropRegs : List Field := recordRegs ++ [.HAP_DROP_FLASK_DROPS, .FL_TEAR_DROPPED, .FL_TEAR_PEER_LOST, .CAST_STATS_SLAGGED, .POISON_WR, .FL_TEAR_SLAGGED]

/-- A view of the state in which neither the requests and what units hold for pours show, nor the counts of what is dropped. -/
structure blindToDrops {β : Type} (p : State → β) : Prop where
  units : ∀ (t : State) n hbm wbuf hlp sent ew xl tier qm reqs fences cast, p { t with
    nextId := n, hbm := hbm, wbuf := wbuf, hlp := hlp, sent := sent, errWait := ew, xl := xl, tier := tier, qm := qm, reqs := reqs, fences := fences,
    cast := cast } = p t
  counts : ∀ (t : State) f v i, f ∈ dropRegs → p (t.wr f v i) = p t

/-- A block of a caster's that is not handed over is dropped; one for a peer is recorded as lost. -/
def lostBlock (f : Nat) (t : State) (e : Egress) : State :=
  if e.tier = 2 then ((t.countDrop f).errRecord ((t.countDrop f).lossBytes { e.req with kind := .write (cellsAt e.pa e.data) } 6)).bump .FL_TEAR_PEER_LOST f
  else t.countDrop f

/-- Requests that walk again move within the translation unit. -/
theorem wakeMig_keeps {β : Type} {p : State → β} (hxl : ∀ (t : State) n x, p { t with nextId := n, xl := x } = p t) (t : State) (j : Nat) :
    p (t.wakeMig j) = p t := by
  refine foldl_keeps p (fun t a => ?_) _ t
  unfold State.joinWalk
  dsimp only
  split
  · exact (hxl (t.dropAsk a) t.nextId _).trans (hxl t t.nextId _)
  · exact (hxl (t.dropAsk a) _ _).trans (hxl t t.nextId _)

/-- The first step of the drop: the requests. -/
def requestsDropped (s : State) (f : Nat) : State :=
  (s.reqs.filter (fun r => !r.issued && s.reqIn f r)).foldl (fun t r => if r.isWrite then t.dropWrite f r else t.dropReq r.id) s

/-- The second step: the casters' blocks that wait for their log. -/
def blocksDropped (t : State) (f : Nat) : State :=
  let u := (t.cast.egress.filter (fun e => e.flask == f)).foldl (lostBlock f) t
  { u with cast := { u.cast with egress := u.cast.egress.filter (fun e => e.flask != f) } }

/-- The completion records of flask f that wait for the holding ring. -/
def heldOver (t : State) (f : Nat) : List (Nat × List Byte) :=
  t.hlp.holdWait.filter (fun h => t.qm.records.any (fun r => r.id == h.1 && t.rd .QCTX_FLASK r.queue == f))

/-- The third step: those records. -/
def heldDropped (t : State) (f : Nat) : State :=
  let u := t.countDrop f (heldOver t f).length
  { u with hlp := { u.hlp with holdWait := u.hlp.holdWait.filter (fun h => !(heldOver t f).contains h) },
           qm := { u.qm with records := u.qm.records.filter (fun r => !(heldOver t f).any (fun h => h.1 == r.id)) } }

theorem dropUnissued_eq (s : State) (f : Nat) : s.dropUnissued f = heldDropped (blocksDropped (requestsDropped s f) f) f := rfl

namespace blindToDrops

section
variable {β : Type} {p : State → β} (h : blindToDrops p)
include h

theorem xl (t : State) (n x) : p { t with nextId := n, xl := x } = p t :=
  h.units t n t.hbm t.wbuf t.hlp t.sent t.errWait x t.tier t.qm t.reqs t.fences t.cast

theorem errRecord (t : State) (bs : List Byte) : p (t.errRecord bs) = p t :=
  errRecord_keeps (fun t m w l s e => h.units t t.nextId m w l s e t.xl t.tier t.qm t.reqs t.fences t.cast)
    (fun t f v hf => h.counts t f v 0 (List.mem_append_left _ hf)) t bs

theorem bump (t : State) {f : Field} (hf : f ∈ dropRegs) (i n : Nat) : p (t.bump f i n) = p t := h.counts t f _ i hf

theorem countDrop (t : State) (f n : Nat) : p (t.countDrop f n) = p t :=
  (h.bump _ (by simp [dropRegs]) f n).trans (h.bump t (by simp [dropRegs]) 0 n)

theorem answerFences (t : State) : p t.answerFences = p t := by
  simp only [State.answerFences]
  exact (foldl_keeps p (fun t m => h.units t t.nextId t.hbm t.wbuf t.hlp _ t.errWait t.xl t.tier t.qm t.reqs t.fences t.cast) _ _).trans
    (h.units t t.nextId t.hbm t.wbuf t.hlp t.sent t.errWait t.xl t.tier t.qm t.reqs _ t.cast)

/-- A write that is lost on its way to a peer is recorded and counted. -/
theorem peerLost (t : State) (f : Nat) (bs : List Byte) : p ((t.errRecord bs).bump .FL_TEAR_PEER_LOST f) = p t :=
  (h.bump _ (by simp [dropRegs]) f 1).trans (h.errRecord t bs)

theorem reqs (t : State) (rs) : p { t with reqs := rs } = p t :=
  h.units t t.nextId t.hbm t.wbuf t.hlp t.sent t.errWait t.xl t.tier t.qm rs t.fences t.cast

theorem dropWrite (t : State) (f : Nat) (r : Req) : p (t.dropWrite f r) = p t := by
  have hcount : p ((t.dropReq r.id).countDrop f) = p t := (h.countDrop _ f 1).trans (h.reqs t _)
  unfold State.dropWrite
  refine (h.answerFences _).trans ?_
  have hlost : p (if r.tier = 2 then (((t.dropReq r.id).countDrop f).errRecord (t.lossBytes r 6)).bump .FL_TEAR_PEER_LOST f
      else (t.dropReq r.id).countDrop f) = p t := by
    split
    · exact (h.peerLost _ f _).trans hcount
    · exact hcount
  generalize (if r.tier = 2 then (((t.dropReq r.id).countDrop f).errRecord (t.lossBytes r 6)).bump .FL_TEAR_PEER_LOST f
    else (t.dropReq r.id).countDrop f) = w at *
  split
  · exact (h.units w w.nextId w.hbm w.wbuf w.hlp w.sent w.errWait w.xl w.tier _ w.reqs w.fences w.cast).trans hlost
  · exact hlost

theorem dropUnissued (t : State) (f : Nat) : p (t.dropUnissued f) = p t := by
  have hreqs : p (requestsDropped t f) = p t := by
    refine foldl_keeps p (fun t r => ?_) _ t
    split
    · exact h.dropWrite t f r
    · exact h.reqs t _
  have hblock (t : State) (e : Egress) : p (lostBlock f t e) = p t := by
    unfold lostBlock
    split
    · exact (h.peerLost _ f _).trans (h.countDrop t f 1)
    · exact h.countDrop t f 1
  have hblocks (t : State) : p (blocksDropped t f) = p t := by
    unfold blocksDropped
    generalize hw : (t.cast.egress.filter (fun e => e.flask == f)).foldl (lostBlock f) t = w
    refine (h.units w w.nextId w.hbm w.wbuf w.hlp w.sent w.errWait w.xl w.tier w.qm w.reqs w.fences _).trans (hw ▸ foldl_keeps p hblock _ t)
  have hheld (t : State) : p (heldDropped t f) = p t := by
    unfold heldDropped
    dsimp only
    generalize hw : t.countDrop f (heldOver t f).length = w
    exact (h.units w w.nextId w.hbm w.wbuf _ w.sent w.errWait w.xl w.tier _ w.reqs w.fences w.cast).trans (hw ▸ h.countDrop t f _)
  rw [dropUnissued_eq]
  exact (hheld _).trans ((hblocks _).trans hreqs)

theorem wakeMig (t : State) (j : Nat) : p (t.wakeMig j) = p t := wakeMig_keeps h.xl t j

theorem dropMigs (t : State) (f : Nat) : p (t.dropMigs f) = p t := by
  have htier (t : State) (m) : p { t with tier := m } = p t :=
    h.units t t.nextId t.hbm t.wbuf t.hlp t.sent t.errWait t.xl m t.qm t.reqs t.fences t.cast
  refine (foldl_keeps p (fun t m => (h.wakeMig _ _).trans ?_) _ _).trans (htier t _)
  exact (h.xl { t with xl := _ } t.nextId _).trans (h.xl t t.nextId _)

theorem dropSlag (t : State) (f : Nat) (j : Job) (o : Output) : p (t.dropSlag f j o) = p t := by
  unfold State.dropSlag
  split
  · exact (h.peerLost _ f _).trans (h.countDrop t f 1)
  · exact h.countDrop t f 1

theorem tearItems (t : State) (f : Nat) : p (t.tearItems f) = p t := by
  refine foldl_keeps p (fun t j => ?_) _ t
  split
  · rfl
  · refine foldl_keeps p (fun t it => ?_) _ t
    refine (foldl_keeps p (fun t o => h.dropSlag t f j o) _ _).trans ?_
    exact (h.bump _ (by simp [dropRegs]) f 1).trans ((h.bump _ (by simp [dropRegs]) 0 1).trans (h.bump t (by simp [dropRegs]) 0 1))

end

end blindToDrops

/-! ## The stop of a flask's work (R402, step 3) -/

section
variable {f : Nat}

/-- A context stops for the reset of its flask. -/
def stoppedCtx (x : Ctx) : Ctx := { x with stopped := true, begun := false, patch := none }

/-- The spawns of flask f's trees are refused, and its contexts stop. -/
def ctxsStopped (s : State) (f : Nat) : State :=
  let t := (s.ctxsOf f).foldl (fun t x => if x.depth = 0 then t.refuseTree x.num else t) s
  { t with ctxs := updAll t.ctxs (fun x => ((s.ctxsOf f).map Ctx.num).contains x.num) stoppedCtx }

/-- The lanes' part of the stop: unstarted records go, kernels are asked to stop and a kill is set. -/
def lanesStopped (t : State) (ks : List Kernel) : State :=
  let t := ks.foldl (fun t k => (t.removeUnstarted k).stopKernel k) t
  t.lanes.foldl (fun t l => match l.running with
    | some k => if ks.any (fun x => x.id == k) then t.setLane { t.lane l.eng with killReq := some (t.time + 20000) } else t
    | none => t) t

theorem stopFlask_eq (s : State) (f : Nat) : s.stopFlask f =
    (let t := (ctxsStopped s f).dropUnits (fun c => ((s.ctxsOf f).map Ctx.num).contains c)
     (lanesStopped t (t.kernels.filter (fun k => ((s.ctxsOf f).map Ctx.num).contains k.ctx))).pump) := rfl

theorem blindToStop.lanesStopped {β : Type} {p : State → β} (h : blindToStop p) (t : State) (ks : List Kernel) : p (lanesStopped t ks) = p t := by
  refine (foldl_keeps p (fun t l => ?_) _ _).trans (foldl_keeps p (fun t k => (h.stopKernel _ k).trans (h.removeUnstarted t k)) ks t)
  split
  · split
    · exact h.setLane _ _
    · rfl
  · rfl

theorem blindToStop.stopFlask {β : Type} {p : State → β} (h : blindToStop p) (s : State) (f : Nat) : p (s.stopFlask f) = p s := by
  rw [stopFlask_eq]
  refine (h.pump _).trans ((h.lanesStopped _ _).trans ((h.dropUnits _ _).trans ((h.updCtxs _ _ stoppedCtx fun _ => rfl).trans ?_)))
  refine foldl_keeps p (fun t x => ?_) _ s
  split
  · exact h.refuseTree t _
  · rfl

theorem ctxs_lanesStopped (t : State) (ks : List Kernel) : (lanesStopped t ks).ctxs = t.ctxs := by
  have hstop (t : State) (k : Kernel) : (t.stopKernel k).ctxs = t.ctxs :=
    foldl_keeps State.ctxs (fun t e => by dsimp only; split <;> rfl) k.left _
  have hremove (t : State) (k : Kernel) : (t.removeUnstarted k).ctxs = t.ctxs :=
    foldl_keeps State.ctxs (fun u e => by rfl) (k.left.filter (fun e => (t.lane e).running != some k.id)) t
  refine (foldl_keeps State.ctxs (fun t l => ?_) _ _).trans (foldl_keeps State.ctxs (fun t k => (hstop _ k).trans (hremove t k)) ks t)
  split
  · split <;> rfl
  · rfl

theorem ctxs_stopFlask (s : State) (f : Nat) : (s.stopFlask f).ctxs = (ctxsStopped s f).ctxs := by
  rw [stopFlask_eq]
  dsimp only
  rw [ctxs_pump, ctxs_lanesStopped]
  rfl

/-- Whose a context is. -/
def ctxOwner (x : Ctx) : Nat × Nat × Bool := (x.num, x.flask, x.mgmt)

theorem owners_refuseTree (t : State) (r : Nat) : (t.refuseTree r).ctxs.map ctxOwner = t.ctxs.map ctxOwner := by
  refine refuseTree_keeps (p := fun t : State => t.ctxs.map ctxOwner) (fun t x w code => ?_) t r
  have hraise (t : State) (n : Nat) : (t.raiseQueueErr n).ctxs = t.ctxs := raise_keeps State.ctxs (fun _ _ _ _ => rfl) _ _
  simp only [State.refuseSpawn]
  split
  · rfl
  · have hmod (t : State) (c : Nat) : (t.modCtx c (fun y => { y with spawn := none, refused := true })).ctxs.map ctxOwner = t.ctxs.map ctxOwner := by
      rw [State.modCtx, updAll, List.map_map]
      refine List.map_congr_left fun y _ => ?_
      simp only [Function.comp]
      split <;> rfl
    rw [hmod]
    split
    · rfl
    · exact congrArg (List.map ctxOwner) (hraise _ _)

/-- Every context of flask f has stopped. -/
def allStopped (f : Nat) (t : State) : Prop := ∀ x ∈ t.ctxs, x.flask = f → x.mgmt = false → x.stopped = true

theorem allStopped_stopFlask (s : State) (f : Nat) : allStopped f (s.stopFlask f) := by
  have howners : ((s.ctxsOf f).foldl (fun t x => if x.depth = 0 then t.refuseTree x.num else t) s).ctxs.map ctxOwner = s.ctxs.map ctxOwner := by
    refine foldl_keeps (fun t : State => t.ctxs.map ctxOwner) (fun t x => ?_) _ s
    split
    · exact owners_refuseTree t _
    · rfl
  intro x hx hf hm
  rw [ctxs_stopFlask] at hx
  obtain ⟨y, hy, rfl⟩ := List.mem_map.1 hx
  have hfields : ∀ y : Ctx, ((stoppedCtx y).flask = y.flask ∧ (stoppedCtx y).mgmt = y.mgmt) := fun _ => ⟨rfl, rfl⟩
  by_cases hc : ((s.ctxsOf f).map Ctx.num).contains y.num = true
  · rw [if_pos hc]
    rfl
  · rw [if_neg hc] at hf hm
    obtain ⟨z, hz, howner⟩ := List.mem_map.1 (howners ▸ List.mem_map_of_mem (f := ctxOwner) hy)
    obtain ⟨hnum, hflask, hmgmt⟩ : z.num = y.num ∧ z.flask = y.flask ∧ z.mgmt = y.mgmt := by simpa [ctxOwner] using howner
    refine absurd (List.contains_iff_mem.2 (List.mem_map.2 ⟨z, List.mem_filter.2 ⟨hz, ?_⟩, hnum⟩)) hc
    rw [hflask, hmgmt, hf, hm]
    simp

end

/-! ## The start of a reset (R402, R404) -/

/-- The registers that say what state a flask is in, and which key slots hold a key. -/
def ownRegs : List Field := [.FL_STATE, .FL_GEN, .KEY_SLOT_VALID]

/-- What the stop of a flask's work must leave alone. -/
def own (t : State) : List Tear × List KeyMat × List Scrub × (Field → Nat → Nat) :=
  (t.tears, t.keys, t.scrubs, fun g i => if g ∈ ownRegs then t.rd g i else 0)

theorem own_wr {f : Field} (hf : f ∉ ownRegs) (t : State) (v i : Nat) : own (t.wr f v i) = own t := by
  have hregs : (fun g j => if g ∈ ownRegs then (t.wr f v i).rd g j else 0) = fun g j => if g ∈ ownRegs then t.rd g j else 0 := by
    funext g j
    split
    · rename_i hg
      exact rd_wr_ne t v (.inl (ne_of_mem_of_not_mem hg hf).symm)
    · rfl
  exact congrArg (fun r => (t.tears, t.keys, t.scrubs, r)) hregs

/-- Registers of own that read the same. -/
theorem rd_of_own {t u : State} (h : own u = own t) {g : Field} (hg : g ∈ ownRegs) (i : Nat) : u.rd g i = t.rd g i := by
  have hr := congrFun (congrFun (congrArg (fun o => o.2.2.2) h) g) i
  simpa only [own, if_pos hg] using hr

theorem own_blindToStop : blindToStop own :=
  ⟨fun _ _ _ _ _ _ _ _ _ _ _ => rfl, fun _ _ _ => rfl, fun t f v i hf => own_wr ((by decide : ∀ g ∈ stopRegs, g ∉ ownRegs) f hf) t v i⟩

theorem own_blindToDrops : blindToDrops own :=
  ⟨fun _ _ _ _ _ _ _ _ _ _ _ _ _ => rfl, fun t f v i hf => own_wr ((by decide : ∀ g ∈ dropRegs, g ∉ ownRegs) f hf) t v i⟩

theorem own_rstAll {fs : List Field} (h : ∀ g ∈ fs, g ∉ ownRegs) (t : State) (i : Nat) : own (t.rstAll fs i) = own t :=
  rstAll_keeps (fun t g v i hg => own_wr (h g hg) t v i) t i

theorem own_reply (t : State) (n st : Nat) : own (t.reply n st) = own t := by
  have hregs : (fun g j => if g ∈ ownRegs then (t.reply n st).rd g j else 0) = fun g j => if g ∈ ownRegs then t.rd g j else 0 := by
    funext g j
    split
    · rename_i hg
      exact rd_reply_nil _ _ _ (not_mem_replyFields ((by decide : ∀ g ∈ ownRegs, g ∉ replyNames) g hg) _ _)
    · rfl
  have htears : (t.reply n st).tears = t.tears := reply_keeps State.tears (fun _ _ _ _ => rfl) t n st []
  have hkeys : (t.reply n st).keys = t.keys := reply_keeps State.keys (fun _ _ _ _ => rfl) t n st []
  have hscrubs : (t.reply n st).scrubs = t.scrubs := reply_keeps State.scrubs (fun _ _ _ _ => rfl) t n st []
  rw [own, htears, hkeys, hscrubs, hregs, own]

/-- The commands of flask f that are given up are over. -/
def commandsGone (s : State) (f : Nat) (mine : KyReq → Bool) (loads : List Mould) : State :=
  { s.dropLoads loads with kyreqs := s.kyreqs.filter (fun r => !mine r), seals := s.seals.filter (fun w => w.flask != f),
                           quenches := s.quenches.filter (fun q => q.flask != f) }

theorem endCommands_shape (s : State) (f : Nat) : ∃ mine loads slots k,
    let t := commandsGone s f mine loads
    s.endCommands f = ((if s.sealsAsked.any (fun p => p.1 == f) then t.setSeals f (fun _ => 0) else t).bump .FL_STATS_CMD_REFUSED 0 k).replyAll slots stSTATE :=
  ⟨_, _, _, _, rfl⟩

theorem own_endCommands (s : State) (f : Nat) : own (s.endCommands f) = own s := by
  obtain ⟨mine, loads, slots, k, h⟩ := endCommands_shape s f
  rw [h]
  have hgone : own (commandsGone s f mine loads) = own s := rfl
  generalize commandsGone s f mine loads = t at *
  refine (foldl_keeps own (fun t n => own_reply t n stSTATE) slots _).trans ((own_wr (by decide) _ _ _).trans ?_)
  split
  · exact (foldl_keeps own (fun t i => own_wr (by decide) t _ _) _ t).trans hgone
  · exact hgone

/-- The key slots of flask f are emptied, after its items have been completed as slag. -/
def keysGone (s : State) (f : Nat) : State :=
  (s.slotsOf f).foldl State.clearSlot
    (((s.rstAll [.FL_TEAR_KILLED, .FL_TEAR_SLAGGED, .FL_TEAR_DROPPED, .FL_TEAR_PEER_LOST] f).closeAccs (fun a => a.flask == f) rfRESET).tearItems f)

/-- The registers that the emptying of a key slot moves. -/
def keyRegs : List Field := [.FL_EGRESS_VALID, .FL_EGRESS_SLOT, .FL_CMD_SLOT] ++ slotFields

section
variable {s : State} {f k : Nat}

/-- The flask of key slot k names it no more. -/
def slotUnnamed (s : State) (k : Nat) : State :=
  let f := s.rd .KEY_SLOT_FLASK k
  let t := if s.on .FL_EGRESS_VALID f && s.rd .FL_EGRESS_SLOT f == k then s.rstAll [.FL_EGRESS_VALID, .FL_EGRESS_SLOT] f else s
  if s.rd .KEY_SLOT_USE k = 3 then t.rst .FL_CMD_SLOT f else t

theorem clearSlot_eq (s : State) (k : Nat) : s.clearSlot k =
    ({ slotUnnamed s k with keys := (slotUnnamed s k).keys.filter (fun m => m.slot != k) }).rstAll slotFields k := rfl

theorem slotUnnamed_keeps {β : Type} {p : State → β} (hwr : ∀ (t : State) g v i, g ∈ keyRegs → p (t.wr g v i) = p t) (s : State) (k : Nat) :
    p (slotUnnamed s k) = p s := by
  have hegress : p (if s.on .FL_EGRESS_VALID (s.rd .KEY_SLOT_FLASK k) && s.rd .FL_EGRESS_SLOT (s.rd .KEY_SLOT_FLASK k) == k
      then s.rstAll [.FL_EGRESS_VALID, .FL_EGRESS_SLOT] (s.rd .KEY_SLOT_FLASK k) else s) = p s := by
    split
    · exact rstAll_keeps (fun t g v i hg => hwr t g v i (by revert g; decide)) s _
    · rfl
  unfold slotUnnamed
  dsimp only
  split
  · exact (hwr _ _ _ _ (by decide)).trans hegress
  · exact hegress

theorem clearSlot_keeps {β : Type} {p : State → β} (hwr : ∀ (t : State) g v i, g ∈ keyRegs → p (t.wr g v i) = p t)
    (hkeys : ∀ (t : State) ks, p { t with keys := ks } = p t) (s : State) (k : Nat) : p (s.clearSlot k) = p s := by
  rw [clearSlot_eq]
  exact (rstAll_keeps (fun t g v i hg => hwr t g v i (List.mem_append_right _ hg)) _ k).trans ((hkeys _ _).trans (slotUnnamed_keeps hwr s k))

theorem keys_slotUnnamed (s : State) (k : Nat) : (slotUnnamed s k).keys = s.keys := slotUnnamed_keeps (p := State.keys) (fun _ _ _ _ _ => rfl) s k

theorem keys_clearSlot (s : State) (k : Nat) : (s.clearSlot k).keys = s.keys.filter (fun m => m.slot != k) := by
  rw [clearSlot_eq, rstAll_keeps (p := State.keys) (fun _ _ _ _ _ => rfl)]
  exact congrArg (List.filter _) (keys_slotUnnamed s k)

theorem valid_slotUnnamed (s : State) (k j : Nat) : (slotUnnamed s k).rd .KEY_SLOT_VALID j = s.rd .KEY_SLOT_VALID j := by
  have hegress : (if s.on .FL_EGRESS_VALID (s.rd .KEY_SLOT_FLASK k) && s.rd .FL_EGRESS_SLOT (s.rd .KEY_SLOT_FLASK k) == k
      then s.rstAll [.FL_EGRESS_VALID, .FL_EGRESS_SLOT] (s.rd .KEY_SLOT_FLASK k) else s).rd .KEY_SLOT_VALID j = s.rd .KEY_SLOT_VALID j := by
    split
    · exact rd_rstAll_ne (by decide) s _ j
    · rfl
  unfold slotUnnamed
  dsimp only
  split
  · exact (rd_wr_ne _ _ (.inl (by decide))).trans hegress
  · exact hegress

/-- The other elements of fields that are reset read as before. -/
theorem rd_rstAll_other (t : State) (fs : List Field) {i j : Nat} (h : i ≠ j) {g : Field} : (t.rstAll fs i).rd g j = t.rd g j :=
  List.foldlRecOn (motive := fun u : State => u.rd g j = t.rd g j) fs (fun (u : State) f => u.rst f i) rfl fun u hu _ _ => (rd_wr_ne u _ (.inr h)).trans hu

/-- A slot that is emptied holds no key. -/
theorem noKey_clearSlot (s : State) (k : Nat) : (s.clearSlot k).noKey k := by
  refine ⟨?_, fun m hm => ?_⟩
  · rw [clearSlot_eq, rd_rstAll_mem (by simp [slotFields])]
    rfl
  · rw [keys_clearSlot] at hm
    simpa using (List.mem_filter.1 hm).2

/-- An empty slot stays so while others are emptied. -/
theorem noKey_clearSlot_of (h : s.noKey k) (j : Nat) : (s.clearSlot j).noKey k := by
  by_cases hj : j = k
  · exact hj ▸ noKey_clearSlot s j
  · refine ⟨?_, fun m hm => h.2 m ?_⟩
    · rw [clearSlot_eq, rd_rstAll_other _ _ hj]
      exact (valid_slotUnnamed s j k).trans h.1
    · rw [keys_clearSlot] at hm
      exact (List.mem_filter.1 hm).1

/-- An element that does not hold its reset value is listed. -/
theorem mem_listed {g : Field} {i : Nat} (h : s.rd g i ≠ g.resetAt i) : i ∈ s.listed g := by
  have hfound : ∀ l : List (Nat × Nat), sget (g.resetAt i) l (g.key i) ≠ g.resetAt i → ∃ q ∈ l, q.1 = g.key i := by
    intro l
    induction l with
    | nil => exact fun hne => absurd rfl hne
    | cons q l ih =>
      intro hne
      by_cases hq : q.1 = g.key i
      · exact ⟨q, List.mem_cons_self, hq⟩
      · rw [sget, if_neg hq] at hne
        obtain ⟨r, hr, hrk⟩ := ih hne
        exact ⟨r, List.mem_cons_of_mem _ hr, hrk⟩
  obtain ⟨q, hq, hqk⟩ := hfound s.regs h
  refine List.mem_map.2 ⟨q, List.mem_filter.2 ⟨hq, ?_⟩, ?_⟩
  · rw [hqk, field_key_mod]
    exact beq_self_eq_true _
  · have := field_num_lt g
    rw [hqk, Field.key]
    omega

theorem keysGone_leaves (s : State) (f : Nat) : (keysGone s f).tears = s.tears ∧ (keysGone s f).flaskGen f = s.flaskGen f ∧
    ∀ k, s.rd .KEY_SLOT_VALID k ≠ 0 → s.rd .KEY_SLOT_FLASK k = f → (keysGone s f).noKey k := by
  have hbefore {β : Type} {p : State → β} (h : blindToDrops p) (hmeter : ∀ (t : State) m, p { t with meter := m } = p t)
      (hwr : ∀ (t : State) g v i, g ∈ [Field.FL_TEAR_KILLED, .FL_TEAR_SLAGGED, .FL_TEAR_DROPPED, .FL_TEAR_PEER_LOST] → p (t.wr g v i) = p t) :
      p ((((s.rstAll [.FL_TEAR_KILLED, .FL_TEAR_SLAGGED, .FL_TEAR_DROPPED, .FL_TEAR_PEER_LOST] f).closeAccs (fun a => a.flask == f) rfRESET).tearItems f)) = p s :=
    (h.tearItems _ f).trans ((hmeter _ _).trans (rstAll_keeps hwr s f))
  have htears := hbefore (p := State.tears) ⟨fun _ _ _ _ _ _ _ _ _ _ _ _ _ => rfl, fun _ _ _ _ _ => rfl⟩ (fun _ _ => rfl) fun _ _ _ _ _ => rfl
  have hgen := hbefore (p := fun t => t.flaskGen f) ⟨fun _ _ _ _ _ _ _ _ _ _ _ _ _ => rfl,
    fun t g v i hg => rd_wr_ne t v (.inl ((by decide : ∀ g ∈ dropRegs, g ≠ .FL_GEN) g hg))⟩ (fun _ _ => rfl)
    fun t g v i hg => rd_wr_ne t v (.inl (by revert g; decide))
  unfold keysGone
  generalize ((s.rstAll [.FL_TEAR_KILLED, .FL_TEAR_SLAGGED, .FL_TEAR_DROPPED, .FL_TEAR_PEER_LOST] f).closeAccs (fun a => a.flask == f) rfRESET).tearItems f = t at *
  refine ⟨?_, ?_, fun k hv hk => ?_⟩
  · exact (foldl_keeps State.tears (fun t k => clearSlot_keeps (p := State.tears) (fun _ _ _ _ _ => rfl) (fun _ _ => rfl) t k) _ t).trans htears
  · refine (foldl_keeps (fun t : State => t.flaskGen f) (fun t k => clearSlot_keeps (p := fun t : State => t.flaskGen f)
      (fun t g v i hg => rd_wr_ne t v (.inl ((by decide : ∀ g ∈ keyRegs, g ≠ .FL_GEN) g hg))) (fun _ _ => rfl) t k) _ t).trans hgen
  · exact foldl_brings (P := fun t => t.noKey k) (fun t j h => noKey_clearSlot_of h j) (fun t => noKey_clearSlot t k)
      (List.mem_filter.2 ⟨mem_listed hv, by simpa using hk⟩) t

/-- The reset of flask f has started: its keys are gone, its generation has advanced, and its end is awaited. -/
def tearMarked (s : State) (f : Nat) (destroy : Bool) (slots : List Nat) : State :=
  let t := ((keysGone s f).adv .FL_GEN f).wr .FL_STATE (if destroy then flDESTROYING else flRESETTING) f
  { t with tears := t.tears ++ [{ flask := f, destroy := destroy, slots := slots }] }

/-- The commands of flask f have ended, before its work is stopped. -/
def tearSettled (s : State) (f : Nat) (destroy : Bool) (slots : List Nat) : State :=
  let t := ((tearMarked s f destroy slots).rstAll [.FL_DEBUG, .FL_PROFILE, .FL_CMD_SLOT] f).endCommands f
  t.disarmIf (fun i => t.rd .XL_ATLAS_FLASK (t.rd .TIER_HOT_SLOT i) == f)

theorem startTear_of_first {destroy : Bool} {slots : List Nat} (hnone : s.tears.any (fun w => w.flask == f) = false) (hfree : s.flaskState f ≠ flFREE)
    (hmade : s.flaskState f ≠ flCREATING) : s.startTear f destroy slots =
      (((tearSettled s f destroy slots).stopFlask f).dropMigs f).dropUnissued f := by
  unfold State.startTear
  rw [hnone, if_neg (by decide), if_neg (by simp [hfree, hmade])]
  rfl

theorem own_tearSettled (s : State) (f : Nat) (destroy : Bool) (slots : List Nat) : own (tearSettled s f destroy slots) = own (tearMarked s f destroy slots) := by
  unfold tearSettled
  dsimp only
  generalize tearMarked s f destroy slots = t
  refine (disarmIf_of_hot (fun t f v i hf => own_wr ((by decide : ∀ g ∈ hotRegs, g ∉ ownRegs) f hf) t v i) _ _).trans ?_
  exact (own_endCommands _ f).trans (own_rstAll (by decide) t f)

theorem startTear_leaves {destroy : Bool} {slots : List Nat} (hnone : s.tears.any (fun w => w.flask == f) = false) (hfree : s.flaskState f ≠ flFREE)
    (hmade : s.flaskState f ≠ flCREATING) : let u := s.startTear f destroy slots
    u.flaskState f = (if destroy then flDESTROYING else flRESETTING) ∧ u.flaskGen f = (s.flaskGen f + 1) % 2 ^ 10 ∧
      (∀ k, s.rd .KEY_SLOT_VALID k ≠ 0 → s.rd .KEY_SLOT_FLASK k = f → u.noKey k) ∧ allStopped f u ∧
      { flask := f, destroy := destroy, slots := slots } ∈ u.tears := by
  intro u
  have hu : u = (((tearSettled s f destroy slots).stopFlask f).dropMigs f).dropUnissued f := startTear_of_first hnone hfree hmade
  have hown : own u = own (tearMarked s f destroy slots) := by
    rw [hu]
    exact (own_blindToDrops.dropUnissued _ f).trans ((own_blindToDrops.dropMigs _ f).trans ((own_blindToStop.stopFlask _ f).trans
      (own_tearSettled s f destroy slots)))
  have hctxs : u.ctxs = ((tearSettled s f destroy slots).stopFlask f).ctxs := by
    have hblind : blindToDrops State.ctxs := ⟨fun _ _ _ _ _ _ _ _ _ _ _ _ _ => rfl, fun _ _ _ _ _ => rfl⟩
    rw [hu]
    exact (hblind.dropUnissued _ f).trans (hblind.dropMigs _ f)
  obtain ⟨htears, hgen, hkeys⟩ := keysGone_leaves s f
  have hstate : (tearMarked s f destroy slots).rd .FL_STATE f = if destroy then flDESTROYING else flRESETTING := by
    refine (rd_wr_same ((keysGone s f).adv .FL_GEN f) .FL_STATE _ f).trans ?_
    cases destroy <;> rfl
  refine ⟨(rd_of_own hown (by decide) f).trans hstate, (rd_of_own hown (by decide) f).trans ?_, fun k hv hk => ⟨?_, ?_⟩, ?_, ?_⟩
  · refine (rd_wr_ne ((keysGone s f).adv .FL_GEN f) _ (.inl (by decide))).trans ((rd_adv_same (keysGone s f) .FL_GEN f 1).trans ?_)
    exact congrArg (fun g => (g + 1) % 2 ^ 10) hgen
  · refine (rd_of_own hown (by decide) k).trans ?_
    refine (rd_wr_ne ((keysGone s f).adv .FL_GEN f) _ (.inl (by decide))).trans ((rd_wr_ne (keysGone s f) _ (.inl (by decide))).trans (hkeys k hv hk).1)
  · rw [show u.keys = (keysGone s f).keys from congrArg (fun o => o.2.1) hown]
    exact (hkeys k hv hk).2
  · intro x hx
    exact allStopped_stopFlask _ f x (hctxs ▸ hx)
  · rw [show u.tears = (tearMarked s f destroy slots).tears from congrArg (fun o => o.1) hown]
    exact List.mem_append_right _ List.mem_cons_self

theorem startTear_of_joined {destroy : Bool} {slots : List Nat} {w : Tear} (hw : w ∈ s.tears) (hf : w.flask = f) :
    { flask := f, destroy := w.destroy || destroy, slots := w.slots ++ slots, scrub := w.scrub } ∈ (s.startTear f destroy slots).tears ∧
      ∀ g i, g ≠ .FL_STATE → (s.startTear f destroy slots).rd g i = s.rd g i := by
  have hany : s.tears.any (fun w => w.flask == f) = true := List.any_eq_true.2 ⟨w, hw, beq_iff_eq.2 hf⟩
  have hjoin := updAll_mem (p := fun w : Tear => w.flask == f) (f := fun w : Tear => { w with destroy := w.destroy || destroy, slots := w.slots ++ slots }) hw
  rw [if_pos (beq_iff_eq.2 hf)] at hjoin
  have heq : ({ w with destroy := w.destroy || destroy, slots := w.slots ++ slots } : Tear) =
      { flask := f, destroy := w.destroy || destroy, slots := w.slots ++ slots, scrub := w.scrub } := by rw [← hf]
  rw [heq] at hjoin
  unfold State.startTear
  rw [if_pos hany]
  dsimp only
  split
  · exact ⟨hjoin, fun g i hg => rd_wr_ne _ _ (.inl (Ne.symm hg))⟩
  · exact ⟨hjoin, fun _ _ _ => rfl⟩

end

/-! ## The point at which the flask is quiet (R402, steps 5 and 6) -/

section
variable {s : State} {f : Nat}

/-- What is left of whose contexts there are, of the resets under way, and of the ranges of flask f, until its scrub starts. -/
def tearView (f : Nat) (t : State) : List (Nat × Bool) × List Tear × (Field → Nat) :=
  (t.ctxs.map (fun x => (x.flask, x.mgmt)), t.tears, fun g => if g ∈ [Field.FL_SIZE, .FL_BASE, .FL_TFIRST, .FL_TCOUNT_M1] then t.rd g f else 0)

theorem tearView_wr {g : Field} (hg : g ∉ [Field.FL_SIZE, .FL_BASE, .FL_TFIRST, .FL_TCOUNT_M1]) (t : State) (v i : Nat) :
    tearView f (t.wr g v i) = tearView f t := by
  have hregs : (fun h => if h ∈ [Field.FL_SIZE, .FL_BASE, .FL_TFIRST, .FL_TCOUNT_M1] then (t.wr g v i).rd h f else 0) =
      fun h => if h ∈ [Field.FL_SIZE, .FL_BASE, .FL_TFIRST, .FL_TCOUNT_M1] then t.rd h f else 0 := by
    funext h
    split
    · rename_i hh
      exact rd_wr_ne t v (.inl (ne_of_mem_of_not_mem hh hg).symm)
    · rfl
  exact congrArg (fun r => (t.ctxs.map (fun x => (x.flask, x.mgmt)), t.tears, r)) hregs

theorem rd_of_tearView {t u : State} (h : tearView f u = tearView f t) {g : Field} (hg : g ∈ [Field.FL_SIZE, .FL_BASE, .FL_TFIRST, .FL_TCOUNT_M1]) :
    u.rd g f = t.rd g f := by
  have hr := congrFun (congrArg (fun o => o.2.2) h) g
  simpa only [tearView, if_pos hg] using hr

theorem tearView_startInv (t : State) (v : Inv) : tearView f (t.startInv v) = tearView f t := by
  unfold State.startInv
  dsimp only
  have hlast (u : State) (ls : List Lane) (m : Msg) : tearView f (State.say { u with lanes := ls } m) = tearView f u := rfl
  refine (hlast _ _ _).trans ((disarmIf_of_hot (fun t g v i hg => tearView_wr
    ((by decide : ∀ g ∈ hotRegs, g ∉ [Field.FL_SIZE, .FL_BASE, .FL_TFIRST, .FL_TCOUNT_M1]) g hg) t v i) _ _).trans ?_)
  simp only [tearView, List.map_map]
  rfl

theorem tearView_invalidate (t : State) (i : InvFrom) (slots : List Nat) (range : Option (Nat × Nat)) :
    tearView f (t.invalidate i slots range) = tearView f t := by
  simp only [State.invalidate]
  split
  · exact tearView_startInv _ _
  · rfl

theorem queueReset_keeps {β : Type} {p : State → β} (hwr : ∀ (t : State) g v i, g ∈ queueFields ∨ g = .QCTX_GEN → p (t.wr g v i) = p t)
    (hqm : ∀ (t : State) q, p { t with qm := q } = p t) (t : State) (q : Nat) : p (t.queueReset q) = p t := by
  unfold State.queueReset
  dsimp only
  exact (hqm _ _).trans ((hwr _ _ _ _ (.inr rfl)).trans (rstAll_keeps (fun t g v i hg => hwr t g v i (.inl hg)) t q))

/-- A reply moves the registers of its slot alone. -/
theorem reply_keeps_others {β : Type} {p : State → β} (hwr : ∀ (t : State) g v i, g ∈ replyNames → p (t.wr g v i) = p t) (t : State) (n st : Nat)
    (outs : List Nat) : p (t.reply n st outs) = p t := by
  simp only [State.reply, State.setSlot]
  refine (hwr _ _ _ _ (by decide)).trans ?_
  have houts (u : State) : p ((List.range outs.length).foldl (fun t i => t.wr .MB_OUT (nth outs i 0) (n * 128 + i)) u) = p u :=
    foldl_keeps p (fun t i => hwr t _ _ _ (by decide)) _ u
  have hhead : p ((((t.wr .MB_RPL_STATUS st n).wr .MB_RPL_OPCODE (t.opcode n) n).wr .MB_RPL_TAG (t.rd .MB_CMD_TAG n) n).wr .MB_RPL_RLEN outs.length n) = p t :=
    (hwr _ _ _ _ (by decide)).trans ((hwr _ _ _ _ (by decide)).trans ((hwr _ _ _ _ (by decide)).trans (hwr _ _ _ _ (by decide))))
  split
  · exact (hwr _ _ _ _ (by decide)).trans ((houts _).trans hhead)
  · exact (houts _).trans hhead

theorem settleDestroys_keeps {β : Type} {p : State → β} (hwr : ∀ (t : State) g v i, g ∈ queueFields ++ [.QCTX_GEN] ++ replyNames → p (t.wr g v i) = p t)
    (hqm : ∀ (t : State) q, p { t with qm := q } = p t) (t : State) : p t.settleDestroys = p t := by
  refine foldl_keeps p (fun t d => ?_) _ t
  split
  · rfl
  · refine (foldl_keeps p (fun t n => reply_keeps_others (fun t g v i hg => hwr t g v i (by simp [hg])) t n _ _) _ _).trans ?_
    exact (queueReset_keeps (fun t g v i hg => hwr t g v i (by rcases hg with hg | rfl <;> simp [*])) hqm _ _).trans (hqm t _)

/-! ### The parts of the step -/

/-- The queues, moulds and atlases of flask f are reset. -/
def unitsReset (s : State) (f : Nat) : State :=
  let t := s.freeFlaskWork f
  let keep (r : PendRec) : Bool := t.rd .QCTX_FLASK r.queue != f || t.qState r.queue == 0
  let t := { t with qm := { t.qm with records := t.qm.records.filter keep } }
  let qs := (t.listed .QCTX_STATE).filter (fun q => t.rd .QCTX_FLASK q == f && !t.qm.destroys.any (fun d => d.queue == q))
  let t := qs.foldl State.queueReset t
  let t := (t.moulds.table.filter (fun m => m.flask == some f)).foldl State.dropMould t
  let as := t.atlases.filter (fun a => t.rd .XL_ATLAS_FLASK a == f)
  if as.isEmpty then t else t.invalidate (.unbind none) as none

/-- What units wait for on behalf of flask f is gone, and so are its migrations. -/
def waitsGone (t : State) (f : Nat) : State :=
  let joined (a : Ask) : Bool := match a.wait with | .held g _ => g == f | _ => false
  let t := { t with xl := { t.xl with helds := t.xl.helds.filter (fun h => h.flask != f),
                                      asks := t.xl.asks.filter (fun a => !joined a),
                                      ringFull := t.xl.ringFull.filter (fun g => g != f) },
                    cast := { t.cast with full := t.cast.full.filter (fun g => g != f) } }
  t.tierFlaskReset f

/-- The reset's scrub is under way. -/
def scrubAwaited (t : State) (f : Nat) : State :=
  let t := { t with tears := updAll t.tears (fun x => x.flask == f) (fun x => { x with scrub := true }) }
  t.startScrub f none (flaskGranules t f)

theorem tearQuiesced_of_quiet {w : Tear} (hw : s.tears.find? (fun w => w.flask == f && !w.scrub) = some w) (hq : s.quiet f = true) :
    s.tearQuiesced f = (scrubAwaited ((waitsGone (unitsReset s f) f).resetFlaskFields f) f).settleDestroys := by
  unfold State.tearQuiesced
  rw [hw]
  refine (if_neg (by rw [hq]; decide)).trans ?_
  unfold scrubAwaited waitsGone unitsReset flaskGranules
  rfl

theorem tearView_unitsReset (s : State) (f : Nat) : tearView f (unitsReset s f) = tearView f (s.freeFlaskWork f) := by
  unfold unitsReset
  generalize s.freeFlaskWork f = t
  dsimp only
  have hqueues (qs : List Nat) (u : State) : tearView f (qs.foldl State.queueReset u) = tearView f u :=
    foldl_keeps (tearView f) (fun t q => queueReset_keeps (fun t g v i hg => tearView_wr (by rcases hg with hg | rfl; revert g; decide; decide) t v i)
      (fun _ _ => rfl) t q) qs u
  have hmoulds (ms : List Mould) (u : State) : tearView f (ms.foldl State.dropMould u) = tearView f u :=
    foldl_keeps (tearView f) (fun (t : State) m => (rfl : tearView f (t.dropMould m) = tearView f t)) ms u
  split
  · exact (hmoulds _ _).trans (hqueues _ _)
  · exact (tearView_invalidate _ _ _ _).trans ((hmoulds _ _).trans (hqueues _ _))

theorem tearView_waitsGone (t : State) (f : Nat) : tearView f (waitsGone t f) = tearView f t := by
  have hblind : blindToDrops (tearView f) := ⟨fun _ _ _ _ _ _ _ _ _ _ _ _ _ => rfl, fun t g v i hg => tearView_wr
    ((by decide : ∀ g ∈ dropRegs, g ∉ [Field.FL_SIZE, .FL_BASE, .FL_TFIRST, .FL_TCOUNT_M1]) g hg) t v i⟩
  unfold waitsGone State.tierFlaskReset
  dsimp only
  refine (foldl_keeps (tearView f) (fun t m => (hblind.wakeMig _ _).trans ?_) _ _).trans rfl
  exact (hblind.xl { t with xl := _ } t.nextId _).trans (hblind.xl t t.nextId _)

/-- The fields of flask f are reset, before its timelines. -/
def fieldsReset (s : State) (f : Nat) : State :=
  let t := (List.range 16).foldl (fun t j => t.rstAll [.FL_PUBVA_PASID, .FL_PUBVA_VALID, .FL_PUBVA_SIZE, .FL_PUBVA_BASE] (f * 16 + j)) (s.rstAll flaskFields f)
  (s.flaskEngines f).foldl (fun t e => t.rstAll [.LANE_WP_VALUE, .LANE_WP_STALLED, .LANE_WP_MOVED_AT] e) t

/-- The timelines of flask f are 0. -/
def timelinesReset (t : State) (f : Nat) : State :=
  ((t.listed .TL_COUNTER).filter (fun i => decide (t.rd .FL_TFIRST f ≤ i) &&
    decide (i ≤ t.rd .FL_TFIRST f + t.rd .FL_TCOUNT_M1 f))).foldl (fun t i => t.rst .TL_COUNTER i) t

theorem resetFlaskFields_eq (s : State) (f : Nat) : s.resetFlaskFields f =
    (let t := timelinesReset (fieldsReset s f) f
     (t.setSeals f (fun _ => 0)).setVault { flask := f, everSealed := (t.vault f).everSealed }) := rfl

theorem tearView_rstAll {fs : List Field} (h : ∀ g ∈ fs, g ∉ [Field.FL_SIZE, .FL_BASE, .FL_TFIRST, .FL_TCOUNT_M1]) (t : State) (i : Nat) :
    tearView f (t.rstAll fs i) = tearView f t := rstAll_keeps (fun t g v j hg => tearView_wr (h g hg) t v j) t i

theorem tearView_fieldsReset (t : State) (f : Nat) : tearView f (fieldsReset t f) = tearView f t := by
  refine (foldl_keeps (tearView f) (fun t e => tearView_rstAll (by decide) t e) _ _).trans ?_
  exact (foldl_keeps (tearView f) (fun t j => tearView_rstAll (by decide) t _) _ _).trans (tearView_rstAll (by decide) t f)

theorem tearView_resetFlaskFields (t : State) (f : Nat) : tearView f (t.resetFlaskFields f) = tearView f t := by
  rw [resetFlaskFields_eq]
  have hvault (t : State) (v : Vault) : tearView f (t.setVault v) = tearView f t := rfl
  refine (hvault _ _).trans ((foldl_keeps (tearView f) (fun t i => tearView_wr (by decide) t _ _) _ _).trans ?_)
  exact (foldl_keeps (tearView f) (fun t i => tearView_wr (by decide) t _ _) _ _).trans (tearView_fieldsReset t f)

theorem timeline_timelinesReset (t : State) {f i : Nat} (hlo : t.rd .FL_TFIRST f ≤ i) (hhi : i ≤ t.rd .FL_TFIRST f + t.rd .FL_TCOUNT_M1 f) :
    (timelinesReset t f).timeline i = 0 := by
  have hset (t : State) : (t.rst .TL_COUNTER i).rd .TL_COUNTER i = 0 := (rd_rst_same t .TL_COUNTER i).trans (Nat.zero_mod _)
  have hkeep (t : State) (j : Nat) (h : t.rd .TL_COUNTER i = 0) : (t.rst .TL_COUNTER j).rd .TL_COUNTER i = 0 := by
    by_cases hj : j = i
    · subst hj
      exact hset t
    · exact (rd_wr_ne t _ (.inr hj)).trans h
  unfold timelinesReset
  by_cases hl : i ∈ t.listed .TL_COUNTER
  · exact foldl_brings (P := fun t => t.rd .TL_COUNTER i = 0) (f := fun t i => t.rst .TL_COUNTER i) hkeep hset (List.mem_filter.2 ⟨hl, by simp [hlo, hhi]⟩) t
  · have hzero : t.rd .TL_COUNTER i = 0 := by
      by_contra hne
      exact hl (mem_listed hne)
    exact List.foldlRecOn (motive := fun t : State => t.rd .TL_COUNTER i = 0) _ (fun (t : State) i => t.rst .TL_COUNTER i) hzero fun t ht j _ => hkeep t j ht

/-- The reset of a flask's fields leaves its timelines 0. -/
theorem timeline_resetFlaskFields (t : State) {f i : Nat} (hlo : t.rd .FL_TFIRST f ≤ i) (hhi : i ≤ t.rd .FL_TFIRST f + t.rd .FL_TCOUNT_M1 f) :
    (t.resetFlaskFields f).timeline i = 0 := by
  have hview := tearView_fieldsReset t f
  have hfirst := rd_of_tearView hview (g := .FL_TFIRST) (by decide)
  have hcount := rd_of_tearView hview (g := .FL_TCOUNT_M1) (by decide)
  rw [resetFlaskFields_eq]
  refine Eq.trans ?_ (timeline_timelinesReset (fieldsReset t f) (f := f) (i := i) (by rw [hfirst]; exact hlo) (by rw [hfirst, hcount]; exact hhi))
  exact foldl_keeps (fun t : State => t.rd .TL_COUNTER i) (fun t j => rd_wr_ne t _ (.inl (by decide))) _ _

theorem free_freeFlaskWork (s : State) (f : Nat) : ∀ x ∈ (s.freeFlaskWork f).ctxs, x.flask = f → x.mgmt = true := by
  intro x hx hf
  obtain ⟨hx, hkept⟩ := List.mem_filter.1 hx
  by_contra hm
  have hmine : x ∈ s.ctxsOf f := List.mem_filter.2 ⟨hx, by simp [hf, hm]⟩
  rw [List.contains_iff_mem.2 (List.mem_map_of_mem hmine)] at hkept
  cases hkept

theorem tearQuiesced_leaves {w : Tear} (hw : s.tears.find? (fun w => w.flask == f && !w.scrub) = some w) (hq : s.quiet f = true) :
    let u := s.tearQuiesced f
    (∀ x ∈ u.ctxs, x.flask = f → x.mgmt = true) ∧ (∃ c ∈ u.scrubs, c.flask = f ∧ c.slot = none ∧ c.granules = flaskGranules s f) ∧
      (∃ v ∈ u.tears, v.flask = f ∧ v.scrub = true) ∧
      ∀ i, s.rd .FL_TFIRST f ≤ i → i ≤ s.rd .FL_TFIRST f + s.rd .FL_TCOUNT_M1 f → u.timeline i = 0 := by
  intro u
  have hu : u = _ := tearQuiesced_of_quiet hw hq
  have hbefore : tearView f (waitsGone (unitsReset s f) f) = tearView f (s.freeFlaskWork f) := (tearView_waitsGone _ f).trans (tearView_unitsReset s f)
  have hview := (tearView_resetFlaskFields (waitsGone (unitsReset s f) f) f).trans hbefore
  have hrd {g : Field} (hg : g ∈ [Field.FL_SIZE, .FL_BASE, .FL_TFIRST, .FL_TCOUNT_M1]) : (waitsGone (unitsReset s f) f).rd g f = s.rd g f :=
    rd_of_tearView hbefore hg
  have htl : ∀ i, s.rd .FL_TFIRST f ≤ i → i ≤ s.rd .FL_TFIRST f + s.rd .FL_TCOUNT_M1 f →
      ((waitsGone (unitsReset s f) f).resetFlaskFields f).timeline i = 0 := fun i hlo hhi =>
    timeline_resetFlaskFields _ (by rw [hrd (by decide)]; exact hlo) (by rw [hrd (by decide), hrd (by decide)]; exact hhi)
  have hsize : ((waitsGone (unitsReset s f) f).resetFlaskFields f).rd .FL_SIZE f = s.rd .FL_SIZE f := rd_of_tearView hview (by decide)
  have hbase : ((waitsGone (unitsReset s f) f).resetFlaskFields f).rd .FL_BASE f = s.rd .FL_BASE f := rd_of_tearView hview (by decide)
  have hgran : flaskGranules ((waitsGone (unitsReset s f) f).resetFlaskFields f) f = flaskGranules s f := by rw [flaskGranules, hsize, hbase, flaskGranules]
  have hctxs : ((waitsGone (unitsReset s f) f).resetFlaskFields f).ctxs.map (fun x => (x.flask, x.mgmt)) =
      (s.freeFlaskWork f).ctxs.map (fun x => (x.flask, x.mgmt)) := congrArg (fun o => o.1) hview
  have htears : ((waitsGone (unitsReset s f) f).resetFlaskFields f).tears = s.tears := congrArg (fun o => o.2.1) hview
  generalize (waitsGone (unitsReset s f) f).resetFlaskFields f = t at *
  have hend {β : Type} {p : State → β} (hwr : ∀ (t : State) g v i, g ∈ queueFields ++ [.QCTX_GEN] ++ replyNames → p (t.wr g v i) = p t)
      (hqm : ∀ (t : State) q, p { t with qm := q } = p t) : p u = p (scrubAwaited t f) := hu ▸ settleDestroys_keeps hwr hqm _
  have hscrub {β : Type} {p : State → β} (h : blindToScrubs p) (htear : ∀ (t : State) ts, p { t with tears := ts } = p t) : p (scrubAwaited t f) = p t := by
    refine Eq.trans ?_ ((scrubNow_keeps h _).trans (htear t (updAll t.tears (fun x => x.flask == f) (fun x => { x with scrub := true }))))
    exact h _ _ _ _
  refine ⟨fun x hx hf => ?_, ?_, ?_, fun i hlo hhi => ?_⟩
  · rw [hend (p := State.ctxs) (fun _ _ _ _ _ => rfl) fun _ _ => rfl, hscrub (p := State.ctxs) (fun _ _ _ _ => rfl) fun _ _ => rfl] at hx
    obtain ⟨y, hy, hxy⟩ := List.mem_map.1 (hctxs ▸ List.mem_map_of_mem (f := fun x : Ctx => (x.flask, x.mgmt)) hx)
    obtain ⟨hflask, hmgmt⟩ := Prod.mk.inj hxy
    exact hmgmt.symm.trans (free_freeFlaskWork s f y hy (hflask.trans hf))
  · rw [hend (p := State.scrubs) (fun _ _ _ _ _ => rfl) fun _ _ => rfl, ← hgran]
    exact mem_startScrub _ _ _ _
  · rw [hend (p := State.tears) (fun _ _ _ _ _ => rfl) fun _ _ => rfl]
    have htaken : (scrubAwaited t f).tears = updAll t.tears (fun x => x.flask == f) (fun x => { x with scrub := true }) :=
      scrubNow_keeps (p := State.tears) (fun _ _ _ _ => rfl) _
    obtain ⟨hflask, -⟩ := Bool.and_eq_true_iff.1 (List.find?_some (p := fun w : Tear => w.flask == f && !w.scrub) hw)
    have hmem := updAll_mem (p := fun x : Tear => x.flask == f) (f := fun x => { x with scrub := true }) (List.mem_of_find?_eq_some hw)
    rw [if_pos hflask] at hmem
    rw [htaken, htears]
    exact ⟨_, hmem, beq_iff_eq.1 hflask, rfl⟩
  · rw [State.timeline, hend (p := fun t => t.rd .TL_COUNTER i)
        (fun t g v j hg => rd_wr_ne t v (.inl ((by decide : ∀ g ∈ queueFields ++ [.QCTX_GEN] ++ replyNames, g ≠ Field.TL_COUNTER) g hg))) fun _ _ => rfl,
      hscrub (p := fun t => t.rd .TL_COUNTER i) (fun _ _ _ _ => rfl) fun _ _ => rfl]
    exact htl i hlo hhi

end

/-- The checks of a FLASK_RESET or FLASK_DESTROY before it starts. -/
theorem flaskTear_of_stale {s : State} {n : Nat} (d : Bool) (h : s.frefOk n = false) : s.flaskTear n d = (s.frefStale n).reply n stSTATE := by
  simp [State.flaskTear, h]

theorem flaskTear_of_absent {s : State} {n : Nat} (d : Bool) (h : s.frefOk n = true) (hst : s.flaskState (s.fref n).1 = flFREE ∨ s.flaskState (s.fref n).1 = flCREATING) :
    s.flaskTear n d = s.reply n stSTATE := by
  unfold State.flaskTear
  rw [h]
  exact (if_neg (by decide)).trans (if_pos (hst.imp_right .inl))

theorem flaskTear_of_present {s : State} {n : Nat} {d : Bool} (h : s.frefOk n = true) (hfree : s.flaskState (s.fref n).1 ≠ flFREE)
    (hmade : s.flaskState (s.fref n).1 ≠ flCREATING) (hdestroy : s.flaskState (s.fref n).1 = flDESTROYING → d = true) :
    s.flaskTear n d = s.startTear (s.fref n).1 d [n] := by
  unfold State.flaskTear
  rw [h]
  refine (if_neg (by decide)).trans (if_neg ?_)
  rintro (hc | hc | ⟨hc, hd⟩)
  · exact hfree hc
  · exact hmade hc
  · rw [hdestroy hc] at hd
    cases hd

theorem answers_flaskTear {s : State} {n : Nat} {i : Instr} {d : Bool}
    (hi : (i = .flaskReset n ∧ d = false ∧ s.starts n 0x12) ∨ (i = .flaskDestroy n ∧ d = true ∧ s.starts n 0x13)) {P : State → Prop}
    (hP : P ((s.begun n).flaskTear n d)) : answers i s P := by
  rcases hi with ⟨rfl, rfl, hs⟩ | ⟨rfl, rfl, hs⟩
  · exact ⟨_, congrArg s.after (mbRun_of_starts hs fun t => t.flaskTear n false), hP⟩
  · exact ⟨_, congrArg s.after (mbRun_of_starts hs fun t => t.flaskTear n true), hP⟩

/-- Settles O49. -/
theorem flasksAreTornDown : Obligations.FlasksAreTornDown := by
  unfold Obligations.FlasksAreTornDown
  refine ⟨?_, fun s f w hw => ⟨fun hquiet => ?_, fun hquiet => ⟨_, rfl, tearQuiesced_leaves hw hquiet⟩⟩⟩
  · intro s n i d hi b f st
    have hn : n < 16 := by rcases hi with ⟨-, -, hs⟩ | ⟨-, -, hs⟩ <;> exact hs.1
    have hfref : (b.fref n).1 = f := congrArg (bits · 0 6) (par_begun s n 0)
    have htears : b.tears = s.tears := begun_keeps State.tears (fun _ _ => rfl) (fun _ _ _ => rfl) (fun _ _ _ => rfl) s n
    have hrd {g : Field} (hg : g ∉ [Field.MB_STATE_STATE, .FL_STATE, .SEAL_GRAN_SEAL]) (i : Nat) : b.rd g i = s.rd g i := by
      simp only [List.mem_cons, List.not_mem_nil, or_false, not_or] at hg
      exact rd_begun s n hg.1 hg.2.1 hg.2.2 i
    have hsame : sameMem s b := sameMem_begun s n
    refine ⟨fun href => answers_flaskTear hi ?_, fun href hst => answers_flaskTear hi ?_, fun href hfree hmade hdestroy hnone => answers_flaskTear hi ?_,
      fun w href hfree hmade hdestroy hw hf => answers_flaskTear hi ?_⟩
    · rw [flaskTear_of_stale d href]
      have hcount : s.counts (b.frefStale n) .STALE_DROP_FLASK := by
        rw [State.counts, ← hrd (by decide)]
        exact counts_stale b _ _ _ _
      have honly : onlyRegs b (b.frefStale n) (staleFields .flask) := onlyRegs_stale b _ _ _ _
      have hstale : sameMem s (b.frefStale n) := sameMem_trans hsame (sameMem_of_eq rfl rfl)
      have hstears : (b.frefStale n).tears = s.tears := htears
      generalize b.frefStale n = t at *
      refine ⟨(sameMem_reply _ _ _ _ _).2 hstale, replied_reply _ _ hn (by decide), (reply_keeps State.tears (fun _ _ _ _ => rfl) _ _ _ _).trans hstears, ?_, ?_⟩
      · rw [State.counts, rd_reply_nil _ _ _ (not_mem_replyFields (by decide) _ _)]
        exact hcount
      · intro g j hg
        rw [List.mem_append, not_or] at hg
        exact (rd_reply_nil _ _ _ hg.1).trans (honly g j hg.2)
    · rw [flaskTear_of_absent d href (hfref.symm ▸ hst)]
      exact ⟨(sameMem_reply _ _ _ _ _).2 hsame, replied_reply _ _ hn (by decide), (reply_keeps State.tears (fun _ _ _ _ => rfl) _ _ _ _).trans htears,
        fun g j hg => rd_reply_nil _ _ _ hg⟩
    · rw [flaskTear_of_present href (hfref.symm ▸ hfree) (hfref.symm ▸ hmade) (fun hc => absurd hc (hfref.symm ▸ hdestroy)), hfref]
      obtain ⟨hstate, hgen, hkeys, hctxs, hmem⟩ := startTear_leaves (s := b) (f := f) (destroy := d) (slots := [n]) (htears.symm ▸ hnone) hfree hmade
      refine ⟨hstate, hgen.trans ?_, fun k hv hk => hkeys k ?_ ?_, hctxs, hmem⟩
      · rw [State.flaskGen, hrd (by decide), State.flaskGen]
      · rw [hrd (by decide)]
        exact hv
      · rw [hrd (by decide)]
        exact hk
    · rw [flaskTear_of_present href (hfref.symm ▸ hfree) (hfref.symm ▸ hmade) (hfref.symm ▸ hdestroy), hfref]
      obtain ⟨hjoin, hkeep⟩ := startTear_of_joined (s := b) (destroy := d) (slots := [n]) (htears.symm ▸ hw) hf
      exact ⟨(congrArg (bits · (2 * n) 2) (hkeep _ _ (by decide))).trans (slotState_begun s hn), hjoin⟩
  · refine congrArg s.after (?_ : s.tearQuiesced f = s)
    simp [State.tearQuiesced, hw, hquiet]

end Sys2Proof.Laws

/-! # Tiers and migration

The hot-sheet counters, and the steps of a migration (R239, R241, R244). -/
namespace Sys2Proof.Laws

open Sys2Proof.Machine

/-! ## The hot-sheet counters (R239, R241) -/

section
variable {s : State}

theorem pairwise_of_srising {α : Type} {l : List (Nat × α)} (h : srising l = true) : l.Pairwise (fun p q => p.1 < q.1) := by
  induction l with
  | nil => exact .nil
  | cons p l ih =>
    obtain ⟨hlt, hrest⟩ := (srising_cons p.1 p.2 l).1 h
    exact .cons hlt (ih hrest)

/-- A store in canonical form lists an element once. -/
theorem nodup_listed (h : s.regsWf = true) (f : Field) : (s.listed f).Nodup := by
  have hpair : (s.regs.filter (fun p => p.1 % 1024 == f.num)).Pairwise (fun p q => p.1 / 1024 ≠ q.1 / 1024) := by
    have hrising := pairwise_of_srising (Bool.and_eq_true_iff.1 h).1
    refine (List.pairwise_filter.2 (hrising.imp_of_mem fun {p q} hp hq hlt hpm hqm => ?_))
    have hpm := beq_iff_eq.1 hpm
    have hqm := beq_iff_eq.1 hqm
    omega
  exact List.pairwise_map.2 hpair

/-- One counter decays. -/
def decayOne (t : State) (i : Nat) : State :=
  let n := t.rd .TIER_HOT_COUNT i / 2
  let t := t.wr .TIER_HOT_COUNT n i
  if t.on .TIER_HOT_FLAGGED i && decide (n < max (t.rd .TIER_CTL_THRESH) 1 / 2) then t.wr .TIER_HOT_FLAGGED 0 i else t

theorem rd_decayOne_same (t : State) (i : Nat) :
    (decayOne t i).rd .TIER_HOT_COUNT i = t.rd .TIER_HOT_COUNT i / 2 % 2 ^ Field.TIER_HOT_COUNT.row.width := by
  unfold decayOne
  dsimp only
  split
  · exact (rd_wr_ne _ _ (.inl (by decide))).trans (rd_wr_same _ _ _ _)
  · exact rd_wr_same _ _ _ _

theorem rd_decayOne_ne (t : State) {i j : Nat} (h : i ≠ j) : (decayOne t i).rd .TIER_HOT_COUNT j = t.rd .TIER_HOT_COUNT j := by
  unfold decayOne
  dsimp only
  split
  · exact (rd_wr_ne _ _ (.inl (by decide))).trans (rd_wr_ne _ _ (.inr h))
  · exact rd_wr_ne _ _ (.inr h)

theorem decayOne_keeps {β : Type} {p : State → β} (hwr : ∀ (t : State) f v i, p (t.wr f v i) = p t) (t : State) (i : Nat) : p (decayOne t i) = p t := by
  unfold decayOne
  dsimp only
  split
  · exact (hwr _ _ _ _).trans (hwr _ _ _ _)
  · exact hwr _ _ _ _

theorem rd_foldl_decayOne {l : List Nat} (h : l.Nodup) (t : State) (i : Nat) : (l.foldl decayOne t).rd .TIER_HOT_COUNT i =
    if i ∈ l then t.rd .TIER_HOT_COUNT i / 2 % 2 ^ Field.TIER_HOT_COUNT.row.width else t.rd .TIER_HOT_COUNT i := by
  induction l generalizing t with
  | nil => rfl
  | cons j l ih =>
    obtain ⟨hj, hl⟩ := List.nodup_cons.1 h
    rw [List.foldl_cons, ih hl]
    by_cases hij : i = j
    · subst hij
      rw [if_neg hj, if_pos List.mem_cons_self, rd_decayOne_same]
    · rw [rd_decayOne_ne _ (Ne.symm hij)]
      simp only [List.mem_cons, hij, false_or]

theorem hotDecay_eq (s : State) : s.hotDecay = (s.listed .TIER_HOT_VALID).foldl decayOne
    (s.elapse ((s.time / (2 ^ s.rd .TIER_CTL_DECAY_LOG2 * 1000) + 1) * (2 ^ s.rd .TIER_CTL_DECAY_LOG2 * 1000))) := rfl

theorem hotDecay_keeps {β : Type} {p : State → β} (hwr : ∀ (t : State) f v i, p (t.wr f v i) = p t) (s : State) : p s.hotDecay =
    p (s.elapse ((s.time / (2 ^ s.rd .TIER_CTL_DECAY_LOG2 * 1000) + 1) * (2 ^ s.rd .TIER_CTL_DECAY_LOG2 * 1000))) := by
  rw [hotDecay_eq]
  exact foldl_keeps p (fun t i => decayOne_keeps hwr t i) _ _

theorem time_hotDecay (s : State) : s.hotDecay.time = (s.time / (2 ^ s.rd .TIER_CTL_DECAY_LOG2 * 1000) + 1) * (2 ^ s.rd .TIER_CTL_DECAY_LOG2 * 1000) := by
  rw [hotDecay_keeps (p := State.time) fun _ _ _ _ => rfl]
  refine max_eq_right (Nat.le_of_lt ?_)
  have hpos : 0 < 2 ^ s.rd .TIER_CTL_DECAY_LOG2 * 1000 := by positivity
  rw [Nat.mul_comm]
  exact Nat.lt_mul_div_succ _ hpos

/-- With every counter disarmed, none is armed. -/
theorem valid_disarmAll (t : State) (i : Nat) : (t.disarmIf fun _ => true).rd .TIER_HOT_VALID i = 0 := by
  have hset (t : State) : (t.disarm i).rd .TIER_HOT_VALID i = 0 := (rd_rstAll_mem (by decide) t i).trans (Nat.zero_mod _)
  have hkeep (t : State) (j : Nat) (h : t.rd .TIER_HOT_VALID i = 0) : (t.disarm j).rd .TIER_HOT_VALID i = 0 := by
    by_cases hj : j = i
    · subst hj
      exact hset t
    · exact (rd_rstAll_other t _ hj).trans h
  unfold State.disarmIf
  simp only [if_true]
  by_cases hl : i ∈ t.listed .TIER_HOT_VALID
  · exact foldl_brings (P := fun t => t.rd .TIER_HOT_VALID i = 0) (f := fun t i => t.disarm i) hkeep hset hl t
  · have hzero : t.rd .TIER_HOT_VALID i = 0 := by
      by_contra hne
      exact hl (mem_listed hne)
    exact List.foldlRecOn (motive := fun t : State => t.rd .TIER_HOT_VALID i = 0) _ (fun (t : State) i => t.disarm i) hzero fun t ht j _ => hkeep t j ht

theorem tierCtl_leaves (s : State) {v : Nat} (hoff : bits v Field.TIER_CTL_HOT_EN.row.lo 1 = 0) : ∃ t, t = s.tierCtl 8 0 (v % 2 ^ 64) ∧ sameMem s t ∧
    t.rd .TIER_CTL_HOT_EN = 0 ∧ t.rd .TIER_CTL_THRESH = bits v Field.TIER_CTL_THRESH.row.lo Field.TIER_CTL_THRESH.row.width ∧
    ∀ i, t.rd .TIER_HOT_VALID i = 0 := by
  have hmem := sameMem_regWrite s 0x410000 8 0 (v % 2 ^ 64)
  have hen := rd_regWrite_eight s v (o := 0x410000) (f := .TIER_CTL_HOT_EN) (i := 0) (by decide +kernel) (by decide +kernel)
  have hthresh := rd_regWrite_eight s v (o := 0x410000) (f := .TIER_CTL_THRESH) (i := 0) (by decide +kernel) (by decide +kernel)
  refine ⟨_, rfl, ?_⟩
  simp only [State.tierCtl]
  generalize s.regWrite 0x410000 8 0 (v % 2 ^ 64) = t at *
  have hen : t.rd .TIER_CTL_HOT_EN = 0 := hen.trans hoff
  rw [if_neg (by rw [State.on, hen]; decide)]
  have hkeep {g : Field} (hg : g ∉ hotRegs) : (t.disarmIf fun _ => true).rd g = t.rd g :=
    disarmIf_of_hot (p := fun t : State => t.rd g 0) (fun t f v i hf => rd_wr_ne t v (.inl (ne_of_mem_of_not_mem hf hg))) t _
  exact ⟨sameMem_trans hmem (sameMem_of_eq (disarmIf_keeps State.hbm (fun _ _ _ _ => rfl) t _) (disarmIf_keeps State.wbuf (fun _ _ _ _ => rfl) t _)),
    (hkeep (by decide)).trans hen, (hkeep (by decide)).trans hthresh, valid_disarmAll t⟩

end

/-! ## Bytes of a location -/

theorem put_eq_putCells (s : State) (a : Nat) (bs : List Byte) : s.put a bs = s.putCells (cellsAt a bs) := by
  induction bs generalizing s a with
  | nil => rfl
  | cons b bs ih =>
    rw [cellsAt_cons]
    exact ih (s.putByte a b) (a + 1)

/-- What has been put stands there. -/
theorem sysRead_put (s : State) {a : Nat} {bs : List Byte} (h : a + bs.length ≤ hbmSize) : (s.put a bs).sysRead a bs.length = bs := by
  refine List.ext_getElem (by simp [State.sysRead]) fun i hi hib => ?_
  simp only [State.sysRead, List.getElem_map, List.getElem_range, put_eq_putCells]
  exact sysByte_putCells_cellsAt s hib (by omega)

theorem length_leBytes (n v : Nat) : (leBytes n v).length = n := by
  induction n generalizing v with
  | zero => rfl
  | succ n ih => rw [leBytes, List.length_cons, ih]

theorem ofLe_leBytes (n v : Nat) : ofLe (leBytes n v) = v % 256 ^ n := by
  induction n generalizing v with
  | zero => simp [leBytes, ofLe, Nat.mod_one]
  | succ n ih =>
    rw [leBytes, ofLe, ih, BitVec.toNat_ofNat, show 256 ^ (n + 1) = 256 * 256 ^ n from Nat.pow_succ', Nat.mod_mul]

/-! ## The swaps of a leaf (R244) -/

section
variable {s : State} {j : Nat} {m : Mig}

/-- A leaf of which no host core holds the line is swapped at once. -/
theorem atomicHolds_of_free {a code z v : Nat} (h : s.hostHeld (lineOf a) = false) : s.atomicHolds a code z v = none := by
  have hexcl : s.hostExcl (lineOf a) = false := by
    refine Bool.eq_false_iff.2 fun hc => ?_
    obtain ⟨w, hw, hwl⟩ := List.any_eq_true.1 hc
    exact absurd (List.any_eq_true.2 ⟨w, hw, (Bool.and_eq_true_iff.1 hwl).1⟩) (Bool.eq_false_iff.1 h)
  simp [State.atomicHolds, State.readsFirst, h, hexcl]

/-- The leaf at a is replaced by v. -/
def leafSwapped (s : State) (a v : Nat) : State := (s.commitLine (lineOf a)).put a (leBytes 8 v)

theorem leafSwapped_keeps {β : Type} {p : State → β} (hhbm : ∀ (t : State) m, p { t with hbm := m } = p t) (hwbuf : ∀ (t : State) w, p { t with wbuf := w } = p t)
    (s : State) (a v : Nat) : p (leafSwapped s a v) = p s := by
  rw [leafSwapped, put_eq_putCells]
  exact (putCells_keeps p hhbm _ _).trans (commitLine_keeps p hhbm hwbuf _ _)

theorem read_leafSwapped (s : State) {a : Nat} (ha : a + 8 ≤ hbmSize) (v : Nat) : ofLe ((leafSwapped s a v).sysRead a 8) = v % 2 ^ 64 := by
  have hread := sysRead_put (s.commitLine (lineOf a)) (a := a) (bs := leBytes 8 v) (by rw [length_leBytes]; exact ha)
  rw [length_leBytes] at hread
  rw [leafSwapped, hread, ofLe_leBytes, show 256 ^ 8 = 2 ^ 64 from rfl]

/-- The leaf as the swap finds it. -/
def leafNow (s : State) (a : Nat) : Nat := ofLe ((s.commitLine (lineOf a)).sysRead a 8)

theorem leafNow_lt (s : State) (a : Nat) : leafNow s a < 2 ^ 64 := by
  have := ofLe_lt ((s.commitLine (lineOf a)).sysRead a 8)
  rw [State.sysRead, List.length_map, List.length_range] at this
  exact this

theorem swapLeaf_eq (s : State) (a v new : Nat) :
    s.swapLeaf a v new = (leafNow s a == v, leafSwapped s a (if leafNow s a % 2 ^ 64 = v % 2 ^ 64 then new % 2 ^ 64 else leafNow s a % 2 ^ 64)) := rfl

theorem swapLeaf_of_same {a v : Nat} (new : Nat) (h : leafNow s a = v) : s.swapLeaf a v new = (true, leafSwapped s a (new % 2 ^ 64)) := by
  rw [swapLeaf_eq, h, beq_self_eq_true, if_pos rfl]

theorem swapLeaf_of_other {a v : Nat} (new : Nat) (h : leafNow s a ≠ v) : ∃ w, s.swapLeaf a v new = (false, leafSwapped s a w) := by
  rw [swapLeaf_eq, beq_eq_false_iff_ne.2 h]
  exact ⟨_, rfl⟩

/-- Migration m's leaf is invalid, and the sheet is to be invalidated. -/
def leafCleared (s : State) (m : Mig) : State :=
  (leafSwapped s m.leafAt (setBits m.leaf 0 1 0 % 2 ^ 64)).setMig { m with leaf := setBits m.leaf 0 1 0, stage := .inval }

theorem mig_id (hm : s.mig? j = some m) : m.id = j := beq_iff_eq.1 (List.find?_some (p := fun m : Mig => m.id == j) hm)

/-- The migration that takes the place of the one with its number. -/
theorem mig_setMig {t : State} {k : Mig} (hm : t.mig? j = some m) (hk : k.id = j) : (t.setMig k).mig? j = some k := by
  have hp : ((fun x : Mig => x.id == j) ∘ fun x => if x.id == k.id then k else x) = fun x => x.id == j := by
    funext x
    rw [Function.comp_apply, hk]
    split
    · rename_i hx
      rw [hk, hx, beq_self_eq_true]
    · rfl
  have hm : t.tier.migs.find? (fun x => x.id == j) = some m := hm
  rw [State.mig?, State.setMig, updAll, List.find?_map, hp, hm, Option.map_some, mig_id hm, hk, beq_self_eq_true, if_pos rfl]

theorem swapReturn_first (hm : s.mig? j = some m) (hfree : s.hostHeld (lineOf m.leafAt) = false) (hst : m.stage = .swap1) (hgo : s.migPourEnds m = false) :
    (leafNow s m.leafAt = m.leaf → s.swapReturn j = (leafCleared s m).invalidate (.mig j) [m.slot] (some (m.va, m.size))) ∧
    (leafNow s m.leafAt ≠ m.leaf → m.ctx ≠ none → ∃ w, s.swapReturn j = (leafSwapped s m.leafAt w).endMig m mgCHANGED) := by
  have hreturn : s.swapReturn j = if (s.swapLeaf m.leafAt m.leaf (setBits m.leaf 0 1 0)).1 then
      ((s.swapLeaf m.leafAt m.leaf (setBits m.leaf 0 1 0)).2.setMig { m with leaf := setBits m.leaf 0 1 0, stage := .inval }).invalidate
        (.mig j) [m.slot] (some (m.va, m.size))
      else if m.ctx.isNone then (s.swapLeaf m.leafAt m.leaf (setBits m.leaf 0 1 0)).2.evictFailed m
      else (s.swapLeaf m.leafAt m.leaf (setBits m.leaf 0 1 0)).2.endMig m mgCHANGED := by
    unfold State.swapReturn
    rw [hm]
    dsimp only
    rw [hst, atomicHolds_of_free hfree]
    dsimp only
    rw [hgo, if_neg (by decide), if_neg (by decide)]
    generalize s.swapLeaf m.leafAt m.leaf (setBits m.leaf 0 1 0) = r
    obtain ⟨b, t⟩ := r
    cases b <;> rfl
  refine ⟨fun hsame => ?_, fun hother hctx => ?_⟩
  · rw [hreturn, swapLeaf_of_same _ hsame, if_pos rfl, leafCleared]
  · obtain ⟨w, hw⟩ := swapLeaf_of_other (setBits m.leaf 0 1 0) hother
    refine ⟨w, ?_⟩
    rw [hreturn, hw, if_neg Bool.false_ne_true]
    exact if_neg (by simpa [Option.isNone_iff_eq_none] using hctx)

/-- Migration m is over; its requests walk again. -/
theorem dropMig_keeps {β : Type} {p : State → β} (hxl : ∀ (t : State) n x, p { t with nextId := n, xl := x } = p t)
    (htier : ∀ (t : State) x, p { t with tier := x } = p t) (t : State) (m : Mig) : p (t.dropMig m) = p t := by
  refine (wakeMig_keeps hxl _ _).trans ?_
  exact (hxl ({ t with tier := { t.tier with migs := t.tier.migs.filter (fun x => x.id != m.id) } }) t.nextId _).trans (htier t _)

theorem migs_dropMig (t : State) (m : Mig) : (t.dropMig m).tier.migs = t.tier.migs.filter (fun x => x.id != m.id) :=
  wakeMig_keeps (p := fun t : State => t.tier.migs) (fun _ _ _ => rfl) _ _

theorem endMig_of_pour {t : State} {code : Nat} (h : m.ctx ≠ none) : t.endMig m code =
    if code = mgOK then ((t.dropMig m).wr .TIER_MIG_LAST code m.flask).adv .TIER_MIG_DONE m.flask
    else ((t.dropMig m).wr .TIER_MIG_LAST code m.flask).bump .TIER_MIG_FAILED m.flask := by
  unfold State.endMig
  exact if_neg (by simpa [Option.isNone_iff_eq_none] using h)

theorem endMig_leaves (t : State) {code : Nat} (h : m.ctx ≠ none) : let u := t.endMig m code
    u.mig? m.id = none ∧ u.rd .TIER_MIG_LAST m.flask = code % 2 ^ Field.TIER_MIG_LAST.row.width ∧ u.hbm = t.hbm ∧
      (code = mgOK → u.rd .TIER_MIG_DONE m.flask = (t.rd .TIER_MIG_DONE m.flask + 1) % 2 ^ Field.TIER_MIG_DONE.row.width) ∧
      (code ≠ mgOK → t.counts u .TIER_MIG_FAILED m.flask) := by
  have hrd {g : Field} (i : Nat) : (t.dropMig m).rd g i = t.rd g i := dropMig_keeps (p := fun t => t.rd g i) (fun _ _ _ => rfl) (fun _ _ => rfl) t m
  have hhbm : (t.dropMig m).hbm = t.hbm := dropMig_keeps (p := State.hbm) (fun _ _ _ => rfl) (fun _ _ => rfl) t m
  have hgone : (t.dropMig m).mig? m.id = none := by
    rw [State.mig?, migs_dropMig]
    exact List.find?_eq_none.2 fun x hx => by simpa using (List.mem_filter.1 hx).2
  rw [endMig_of_pour h]
  generalize t.dropMig m = w at *
  have hlast : (w.wr .TIER_MIG_LAST code m.flask).rd .TIER_MIG_LAST m.flask = code % 2 ^ Field.TIER_MIG_LAST.row.width := rd_wr_same _ _ _ _
  have hdone : (w.wr .TIER_MIG_LAST code m.flask).rd .TIER_MIG_DONE m.flask = t.rd .TIER_MIG_DONE m.flask :=
    (rd_wr_ne _ _ (.inl (by decide))).trans (hrd _)
  have hfailed : (w.wr .TIER_MIG_LAST code m.flask).rd .TIER_MIG_FAILED m.flask = t.rd .TIER_MIG_FAILED m.flask :=
    (rd_wr_ne _ _ (.inl (by decide))).trans (hrd _)
  split
  · rename_i hok
    refine ⟨hgone, (rd_adv_ne _ _ (.inl (by decide))).trans hlast, hhbm, fun _ => ?_, fun hne => absurd hok hne⟩
    exact (rd_adv_same _ _ _ _).trans (by rw [hdone])
  · rename_i hok
    refine ⟨hgone, (rd_wr_ne _ _ (.inl (by decide))).trans hlast, hhbm, fun he => absurd he hok, fun _ => ?_⟩
    exact (rd_bump_same _ _ _ _).trans (by rw [hfailed])

/-- The promotions after migration m has put its leaf in place. -/
def promosMoved (t : State) (m : Mig) : State :=
  let old := t.tier.promos.find? (fun p => p.slot == m.slot && p.va == m.va && leafPa m.first % 2 ^ 44 == p.frame)
  let t := match old with | some p => t.dropPromo p | none => t
  match m.frame with
  | some a =>
    let p : Promo := { frame := a, size := m.size, flask := m.flask, slot := m.slot, va := m.va,
                       home := leafPa m.first, tier := leafTier m.first, time := t.time, orphan := t.headless }
    { t with tier := { t.tier with promos := t.tier.promos ++ [p] } }
  | none => t

theorem promosMoved_keeps {β : Type} {p : State → β} (htier : ∀ (t : State) x, p { t with tier := x } = p t) (t : State) (m : Mig) :
    p (promosMoved t m) = p t := by
  have hold : p (match t.tier.promos.find? (fun p => p.slot == m.slot && p.va == m.va && leafPa m.first % 2 ^ 44 == p.frame) with
      | some p => t.dropPromo p | none => t) = p t := by
    split
    · exact htier t _
    · rfl
  unfold promosMoved
  dsimp only
  split
  · exact (htier _ _).trans hold
  · exact hold

theorem swapReturn_second (hm : s.mig? j = some m) (hfree : s.hostHeld (lineOf m.leafAt) = false) (hst : m.stage = .swap2) (hctx : m.ctx ≠ none)
    (hsame : leafNow s m.leafAt = m.leaf) : s.swapReturn j =
      (promosMoved (leafSwapped s m.leafAt (leafTo m.first (bits m.dest 0 2) (paNode m.destPa) (paLocal m.destPa) % 2 ^ 64)) m).endMig m mgOK := by
  have hreturn : s.swapReturn j = if (s.swapLeaf m.leafAt m.leaf (leafTo m.first (bits m.dest 0 2) (paNode m.destPa) (paLocal m.destPa))).1 then
      (if m.ctx.isNone then ((promosMoved (s.swapLeaf m.leafAt m.leaf (leafTo m.first (bits m.dest 0 2) (paNode m.destPa) (paLocal m.destPa))).2 m).dropMig
          m).bump .TIER_STATS_EVICTED
        else (promosMoved (s.swapLeaf m.leafAt m.leaf (leafTo m.first (bits m.dest 0 2) (paNode m.destPa) (paLocal m.destPa))).2 m).endMig m mgOK)
      else if m.ctx.isNone then (s.swapLeaf m.leafAt m.leaf (leafTo m.first (bits m.dest 0 2) (paNode m.destPa) (paLocal m.destPa))).2.evictFailed m
      else (s.swapLeaf m.leafAt m.leaf (leafTo m.first (bits m.dest 0 2) (paNode m.destPa) (paLocal m.destPa))).2.endMig m mgRACED := by
    unfold State.swapReturn
    rw [hm]
    dsimp only
    rw [hst, atomicHolds_of_free hfree]
    dsimp only
    rw [if_neg (by decide)]
    generalize s.swapLeaf m.leafAt m.leaf (leafTo m.first (bits m.dest 0 2) (paNode m.destPa) (paLocal m.destPa)) = r
    obtain ⟨b, t⟩ := r
    cases b <;> rfl
  rw [hreturn, swapLeaf_of_same _ hsame, if_pos rfl]
  exact if_neg (by simpa [Option.isNone_iff_eq_none] using hctx)

/-! ## The copy (R244 step 4) -/

/-- A byte after a commit of cells that agree on it. -/
theorem sysByte_putCells_of_agree {cells : List (Nat × Byte)} {a : Nat} {v : Byte} (ha : a < hbmSize) (hv : ∀ c ∈ cells, c.1 = a → c.2 = v) (t : State)
    (h : (∃ c ∈ cells, c.1 = a) ∨ t.sysByte a = v) : (t.putCells cells).sysByte a = v := by
  induction cells generalizing t with
  | nil => exact h.resolve_left fun ⟨_, hc, _⟩ => absurd hc List.not_mem_nil
  | cons c cs ih =>
    refine ih (fun d hd => hv d (List.mem_cons_of_mem _ hd)) (t.putByte c.1 c.2) ?_
    by_cases hc : c.1 = a
    · right
      rw [← hv c List.mem_cons_self hc, ← hc]
      exact sysByte_putByte_same t c.1 c.2 (hc ▸ ha)
    · refine h.imp (fun ⟨d, hd, hda⟩ => ⟨d, (List.mem_cons.1 hd).resolve_left (fun he => hc (he ▸ hda)), hda⟩) fun ht => ?_
      rw [sysByte_putByte_ne _ _ hc]
      exact ht

/-- The cells that a fill of [a, a + n) commits. -/
def filled (a n : Nat) (cells : List (Nat × Byte)) : List (Nat × Byte) := (cells.filter (fun c => decide (c.1 < n))).map (fun c => (a + c.1, c.2))

/-- [a, a + n) is zero, and no store is to be committed there. -/
def rangeCut (s : State) (a n : Nat) : State :=
  { s with wbuf := s.wbuf.map (fun st => { st with cells := st.cells.filter (fun c => !decide (a ≤ c.1 ∧ c.1 < a + n)) }),
           hbm := s.hbm.filter (fun c => !decide (a ≤ c.1 ∧ c.1 < a + n)) }

theorem fillRange_eq (s : State) (a n : Nat) (cells : List (Nat × Byte)) : s.fillRange a n cells = (rangeCut s a n).putCells (filled a n cells) := rfl

theorem rangeCut_keeps {β : Type} {p : State → β} (hhbm : ∀ (t : State) m, p { t with hbm := m } = p t) (hwbuf : ∀ (t : State) w, p { t with wbuf := w } = p t)
    (s : State) (a n : Nat) : p (rangeCut s a n) = p s :=
  (hhbm { s with wbuf := s.wbuf.map (fun st => { st with cells := st.cells.filter (fun c => !decide (a ≤ c.1 ∧ c.1 < a + n)) }) } _).trans (hwbuf s _)

theorem sysByte_rangeCut (s : State) (a n x : Nat) : (rangeCut s a n).sysByte x = if a ≤ x ∧ x < a + n then 0 else s.sysByte x := by
  rw [State.sysByte, rangeCut, sget_filter unwritten (fun k => !decide (a ≤ k ∧ k < a + n))]
  by_cases h : a ≤ x ∧ x < a + n <;> simp [h, unwritten, State.sysByte]

theorem lastStored_rangeCut (s : State) (a n x : Nat) : lastStored (rangeCut s a n).wbuf x = if a ≤ x ∧ x < a + n then none else lastStored s.wbuf x := by
  rw [rangeCut, lastStored_filter (fun k => !decide (a ≤ k ∧ k < a + n))]
  by_cases h : a ≤ x ∧ x < a + n <;> simp [h]

/-- What the fill of a range leaves outside it, and within it. -/
theorem dieByte_fillRange_out (s : State) {a n x : Nat} (cells : List (Nat × Byte)) (h : x < a ∨ a + n ≤ x) : (s.fillRange a n cells).dieByte x = s.dieByte x := by
  have hne : ∀ c ∈ filled a n cells, c.1 ≠ x := by
    intro c hc
    obtain ⟨d, hd, rfl⟩ := List.mem_map.1 hc
    have hlt : d.1 < n := by simpa using (List.mem_filter.1 hd).2
    dsimp only
    omega
  have hout : ¬ (a ≤ x ∧ x < a + n) := by omega
  rw [fillRange_eq, dieByte_putCells_out _ _ _ hne, State.dieByte, lastStored_rangeCut, sysByte_rangeCut, if_neg hout, if_neg hout, State.dieByte]

theorem dieByte_fillRange_of_agree (s : State) {a n i : Nat} {cells : List (Nat × Byte)} {v : Byte} (hi : i < n) (hfit : a + n ≤ hbmSize)
    (hv : ∀ c ∈ cells, c.1 = i → c.2 = v) (h : (∃ c ∈ cells, c.1 = i) ∨ v = 0) : (s.fillRange a n cells).dieByte (a + i) = v := by
  have hin : a ≤ a + i ∧ a + i < a + n := by omega
  have hlast : lastStored ((rangeCut s a n).putCells (filled a n cells)).wbuf (a + i) = none := by
    rw [putCells_wbuf, lastStored_rangeCut, if_pos hin]
  rw [fillRange_eq, State.dieByte, hlast, Option.getD_none]
  refine sysByte_putCells_of_agree (by omega) (fun c hc hca => ?_) _ (h.imp (fun ⟨c, hc, hci⟩ => ?_) fun h0 => ?_)
  · obtain ⟨d, hd, rfl⟩ := List.mem_map.1 hc
    exact hv d (List.mem_filter.1 hd).1 (by simpa using hca)
  · rw [sysByte_rangeCut, if_pos hin, h0]
  · exact ⟨_, List.mem_map.2 ⟨c, List.mem_filter.2 ⟨hc, by simpa [hci] using hi⟩, rfl⟩, by rw [hci]⟩

/-- A key that a store does not list reads what an unlisted key reads as. -/
theorem sget_of_unlisted {α : Type} {d : α} {l : List (Nat × α)} {k : Nat} (h : ∀ c ∈ l, c.1 ≠ k) : sget d l k = d := by
  induction l with
  | nil => rfl
  | cons c l ih =>
    rw [sget, if_neg (h c List.mem_cons_self)]
    exact ih fun d hd => h d (List.mem_cons_of_mem _ hd)

/-- The listed bytes of a range: each is what the die port reads, and an unlisted one reads zero. -/
theorem rangeCells_spec (s : State) (a n : Nat) {i : Nat} (hi : i < n) : (∀ c ∈ s.rangeCells a n, c.1 = i → c.2 = s.dieByte (a + i)) ∧
    ((∃ c ∈ s.rangeCells a n, c.1 = i) ∨ s.dieByte (a + i) = 0) := by
  have hmem (k : Nat) : k ∈ ((s.hbm.filter (fun c => decide (a ≤ c.1 ∧ c.1 < a + n))).map Prod.fst ++
      s.wbuf.flatMap (fun st => (st.cells.filter (fun c => decide (a ≤ c.1 ∧ c.1 < a + n))).map Prod.fst)).eraseDups ↔
      (a ≤ k ∧ k < a + n) ∧ ((∃ c ∈ s.hbm, c.1 = k) ∨ ∃ st ∈ s.wbuf, ∃ c ∈ st.cells, c.1 = k) := by
    simp only [List.mem_eraseDups, List.mem_append, List.mem_map, List.mem_flatMap, List.mem_filter, decide_eq_true_eq]
    constructor
    · rintro (⟨c, ⟨hc, hin⟩, rfl⟩ | ⟨st, hst, c, ⟨hc, hin⟩, rfl⟩)
      · exact ⟨hin, .inl ⟨c, hc, rfl⟩⟩
      · exact ⟨hin, .inr ⟨st, hst, c, hc, rfl⟩⟩
    · rintro ⟨hin, ⟨c, hc, rfl⟩ | ⟨st, hst, c, hc, rfl⟩⟩
      · exact .inl ⟨c, ⟨hc, hin⟩, rfl⟩
      · exact .inr ⟨st, hst, c, ⟨hc, hin⟩, rfl⟩
  refine ⟨fun c hc hci => ?_, ?_⟩
  · obtain ⟨k, hk, rfl⟩ := List.mem_map.1 hc
    obtain ⟨⟨hlo, -⟩, -⟩ := (hmem k).1 hk
    have hki : k = a + i := by dsimp only at hci; omega
    rw [hki]
  · by_cases hlisted : (∃ c ∈ s.hbm, c.1 = a + i) ∨ ∃ st ∈ s.wbuf, ∃ c ∈ st.cells, c.1 = a + i
    · exact .inl ⟨_, List.mem_map.2 ⟨a + i, (hmem _).2 ⟨by omega, hlisted⟩, rfl⟩, by dsimp only; omega⟩
    · push Not at hlisted
      obtain ⟨hhbm, hwbuf⟩ := hlisted
      right
      rw [State.dieByte, lastStored_of_unnamed hwbuf, Option.getD_none]
      exact sget_of_unlisted hhbm

/-- A copy within HBM, with no line that met an error and no copy at the host. -/
theorem copyDone_of_clean {host : List (Nat × Byte)} (hm : s.mig? j = some m) (hst : m.stage = .copying) (hfilter : s.hlp.filter = [])
    (hbme : m.host = true → s.on .CFG_BME = true) (hsrc : leafTier m.first = 0) (hdst : bits m.dest 0 2 = 0) : ∃ mt,
    s.copyDone j host [] = (({ s with meter := mt } : State).fillRange (paLocal m.destPa) m.size (s.rangeCells (leafPa m.first % 2 ^ 44) m.size)).sendSwap m .swap2 := by
  have hgo : ¬ (m.host && !s.on .CFG_BME) = true := fun hc => by
    obtain ⟨hh, hb⟩ := Bool.and_eq_true_iff.1 hc
    rw [hbme hh] at hb
    cases hb
  have hslag : slagLines [] (s.rangeCells (leafPa m.first % 2 ^ 44) m.size) = s.rangeCells (leafPa m.first % 2 ^ 44) m.size := by
    simp [slagLines]
  unfold State.copyDone
  rw [hm]
  dsimp only
  rw [if_neg (not_not.2 hst), if_neg hgo, hfilter, hsrc, hdst]
  obtain ⟨mt, hmt⟩ := countFor_eq s (s.migCharge m) 9 ((2 - (b2n false + b2n false)) * m.size)
  obtain ⟨mt', hmt'⟩ := countFor_eq { s with meter := mt } (s.migCharge m) 8 ((b2n false + b2n false) * m.size)
  refine ⟨mt', ?_⟩
  refine (if_neg (by simp)).trans ((if_neg (by simp)).trans ?_)
  have hcount : (s.countFor (s.migCharge m) 9 ((2 - (b2n (0 == 1) + b2n (0 == 1))) * m.size)).countFor (s.migCharge m) 8 ((b2n (0 == 1) + b2n (0 == 1)) * m.size) =
      { s with meter := mt' } := by
    refine (congrArg (fun t : State => t.countFor (s.migCharge m) 8 ((b2n false + b2n false) * m.size)) hmt).trans ?_
    exact hmt'
  simp only [List.filter_nil, List.eraseDups_nil, List.foldl_nil]
  rw [hcount, if_neg (by decide), if_neg (by decide), hslag]

end

theorem mig_of_tier {t u : State} (h : u.tier = t.tier) (j : Nat) : u.mig? j = t.mig? j := by rw [State.mig?, h, State.mig?]

theorem sysRead_of_hbm {t u : State} (h : u.hbm = t.hbm) (a n : Nat) : u.sysRead a n = t.sysRead a n := by
  simp only [State.sysRead, State.sysByte, h]

theorem sysRead_of_same {t u : State} (h : sameMem t u) (a n : Nat) : u.sysRead a n = t.sysRead a n :=
  List.map_congr_left fun i _ => (h (a + i)).1

theorem tier_invalidate (t : State) (f : InvFrom) (slots : List Nat) (range : Option (Nat × Nat)) : (t.invalidate f slots range).tier = t.tier := by
  simp only [State.invalidate]
  split
  · exact blindToInvs.startInv (p := State.tier) ⟨fun _ _ _ _ _ => rfl, fun _ _ _ _ _ => rfl⟩ _ _
  · rfl

theorem setBits_clear_lt {v : Nat} (h : v < 2 ^ 64) : setBits v 0 1 0 < 2 ^ 64 := by
  simp only [setBits, Nat.zero_mod, Nat.zero_mul, Nat.add_zero]
  omega

/-- Settles O40. -/
theorem tiersAndMigration : Obligations.TiersAndMigration := by
  unfold Obligations.TiersAndMigration
  refine ⟨fun s hinv => ?_, fun s v hs hoff => ?_, fun s j m hm hfree hfit halign hlt => ?_, fun s j m host hm hst hfilter hbme hsrc hdst hfit => ?_⟩
  · have hnodup : (s.listed .TIER_HOT_VALID).Nodup := nodup_listed hinv.1 _
    refine ⟨_, rfl, ?_, time_hotDecay s, fun i => ?_⟩
    · exact sameMem_of_eq (hotDecay_keeps (p := State.hbm) (fun _ _ _ _ => rfl) s) (hotDecay_keeps (p := State.wbuf) (fun _ _ _ _ => rfl) s)
    · rw [hotDecay_eq]
      exact rd_foldl_decayOne hnodup _ i
  · obtain ⟨t, ht, hmem, hen, hthresh, hvalid⟩ := tierCtl_leaves s hoff
    have hbar : s.barWrite 0x410000 8 v = t := by
      rw [barWrite_of_hears_eight hs (by decide), ht]
      simp [State.place, State.singleWrite]
    refine ⟨_, rfl, ?_⟩
    rw [show 0x410000 + 4 * (0 % 2) = 0x410000 from rfl, hostWrite_plain s v (by omega) (by omega) (by omega), hbar]
    exact ⟨(sameMem_close_iff _ _ _).2 ((sameMem_giveCredit _ _ _).2 hmem), (rd_close _ _ _ _).trans hen, (rd_close _ _ _ _).trans hthresh,
      fun i => (rd_close _ _ _ _).trans (hvalid i)⟩
  · intro old ended
    have hid := mig_id hm
    refine ⟨fun hst hgo => ?_, fun hst hctx hsame => ?_⟩
    · obtain ⟨hsame, hother⟩ := swapReturn_first hm hfree hst hgo
      refine ⟨fun h => ⟨_, congrArg s.after (hsame h), ?_, ?_, ?_⟩, fun h hctx => ?_⟩
      · have hread : ((leafCleared s m).invalidate (.mig j) [m.slot] (some (m.va, m.size))).sysRead m.leafAt 8 =
            (leafSwapped s m.leafAt (setBits m.leaf 0 1 0 % 2 ^ 64)).sysRead m.leafAt 8 :=
          sysRead_of_same (invalidate_made (leafCleared s m) (.mig j) [m.slot] (some (m.va, m.size))).1 m.leafAt 8
        rw [hread, read_leafSwapped s hfit, Nat.mod_mod, Nat.mod_eq_of_lt (setBits_clear_lt hlt)]
      · refine ⟨_, (mig_of_tier (tier_invalidate _ _ _ _) j).trans (mig_setMig (m := m) (k := { m with leaf := setBits m.leaf 0 1 0, stage := .inval }) ?_ hid), rfl, rfl⟩
        exact (leafSwapped_keeps (p := fun t : State => t.mig? j) (fun _ _ => rfl) (fun _ _ => rfl) s _ _).trans hm
      · obtain ⟨-, v, hv, -, hsource, hslots, hrange⟩ := invalidate_made (leafCleared s m) (.mig j) [m.slot] (some (m.va, m.size))
        exact ⟨v, hv, hsource, hslots, hrange⟩
      · obtain ⟨w, hw⟩ := hother h hctx
        obtain ⟨hgone, hlast, -, -, hfailed⟩ := endMig_leaves (m := m) (leafSwapped s m.leafAt w) (code := mgCHANGED) hctx
        refine ⟨_, congrArg s.after hw, ⟨hid ▸ hgone, hlast⟩, (hfailed (by decide)).trans ?_⟩
        rw [leafSwapped_keeps (p := fun t : State => t.rd .TIER_MIG_FAILED m.flask) (fun _ _ => rfl) (fun _ _ => rfl)]
    · have hreturn := swapReturn_second hm hfree hst hctx hsame
      have hmem := promosMoved_keeps (p := State.hbm) (fun _ _ => rfl)
        (leafSwapped s m.leafAt (leafTo m.first (bits m.dest 0 2) (paNode m.destPa) (paLocal m.destPa) % 2 ^ 64)) m
      have hrd := promosMoved_keeps (p := fun t => t.rd .TIER_MIG_DONE m.flask) (fun _ _ => rfl)
        (leafSwapped s m.leafAt (leafTo m.first (bits m.dest 0 2) (paNode m.destPa) (paLocal m.destPa) % 2 ^ 64)) m
      have hdone := leafSwapped_keeps (p := fun t : State => t.rd .TIER_MIG_DONE m.flask) (fun _ _ => rfl) (fun _ _ => rfl) s m.leafAt
        (leafTo m.first (bits m.dest 0 2) (paNode m.destPa) (paLocal m.destPa) % 2 ^ 64)
      have hread := read_leafSwapped s hfit (leafTo m.first (bits m.dest 0 2) (paNode m.destPa) (paLocal m.destPa) % 2 ^ 64)
      rw [Nat.mod_mod] at hread
      generalize leafSwapped s m.leafAt (leafTo m.first (bits m.dest 0 2) (paNode m.destPa) (paLocal m.destPa) % 2 ^ 64) = t at *
      generalize promosMoved t m = w at *
      obtain ⟨hgone, hlast, hhbm, hcount, -⟩ := endMig_leaves (m := m) w (code := mgOK) hctx
      refine ⟨_, congrArg s.after hreturn, ⟨hid ▸ hgone, hlast⟩, ?_, (hcount rfl).trans ?_⟩
      · exact (congrArg ofLe (sysRead_of_hbm (hhbm.trans hmem) m.leafAt 8)).trans hread
      · rw [hrd, hdone]
  · obtain ⟨mt, hdone⟩ := copyDone_of_clean (host := host) hm hst hfilter hbme hsrc hdst
    refine ⟨_, congrArg s.after hdone, ?_⟩
    have hfill {β : Type} {p : State → β} (hhbm : ∀ (t : State) m, p { t with hbm := m } = p t) (hwbuf : ∀ (t : State) w, p { t with wbuf := w } = p t) :
        p (({ s with meter := mt } : State).fillRange (paLocal m.destPa) m.size (s.rangeCells (leafPa m.first % 2 ^ 44) m.size)) =
          p { s with meter := mt } := by
      rw [fillRange_eq]
      exact (putCells_keeps p hhbm _ _).trans (rangeCut_keeps hhbm hwbuf _ _ _)
    have hrd (f : Field) (i : Nat) := hfill (p := fun t => t.rd f i) (fun _ _ => rfl) fun _ _ => rfl
    have htier := hfill (p := State.tier) (fun _ _ => rfl) fun _ _ => rfl
    have hbytes (i : Nat) (hi : i < m.size) : (({ s with meter := mt } : State).fillRange (paLocal m.destPa) m.size
        (s.rangeCells (leafPa m.first % 2 ^ 44) m.size)).dieByte (paLocal m.destPa + i) = s.dieByte (leafPa m.first % 2 ^ 44 + i) := by
      obtain ⟨hagree, hlisted⟩ := rangeCells_spec s (leafPa m.first % 2 ^ 44) m.size hi
      exact dieByte_fillRange_of_agree { s with meter := mt } hi hfit hagree hlisted
    have hout (a : Nat) (ha : a < paLocal m.destPa ∨ paLocal m.destPa + m.size ≤ a) : (({ s with meter := mt } : State).fillRange (paLocal m.destPa) m.size
        (s.rangeCells (leafPa m.first % 2 ^ 44) m.size)).dieByte a = s.dieByte a := dieByte_fillRange_out { s with meter := mt } _ ha
    generalize ({ s with meter := mt } : State).fillRange (paLocal m.destPa) m.size (s.rangeCells (leafPa m.first % 2 ^ 44) m.size) = t at *
    have hid := mig_id hm
    refine ⟨fun f i _ => hrd f i, ?_, ⟨_, mig_setMig (m := m) (k := { m with stage := .swap2 }) ?_ hid, rfl⟩, hbytes, hout⟩
    · exact hid ▸ List.mem_cons_self
    · exact (mig_of_tier htier j).trans hm

end Sys2Proof.Laws

/-! # The casters

The commands of the cast jobs, their items and the sealed chunks (R284, R287, R295, R301). -/
namespace Sys2Proof.Laws

open Sys2Proof.Machine

/-! ## Jobs -/

section
variable {s : State} {i : Nat} {j : Job}

theorem job_id (h : s.job? i = some j) : j.id = i := beq_iff_eq.1 (List.find?_some (p := fun x : Job => x.id == i) h)

theorem setJob_comp (k : Job) (i : Nat) :
    ((fun x : Job => x.id == i) ∘ fun x => if x.id == k.id then k else x) = fun x => x.id == i := by
  funext x
  rw [Function.comp_apply]
  split
  · rename_i hx
    rw [beq_iff_eq.1 hx]
  · rfl

theorem job_setJob {k : Job} (h : s.job? i = some j) (hk : k.id = i) : (s.setJob k).job? i = some k := by
  have h : s.cast.jobs.find? (fun x => x.id == i) = some j := h
  rw [State.job?, State.setJob, updAll, List.find?_map, setJob_comp, h, Option.map_some, job_id h, hk, beq_self_eq_true, if_pos rfl]

theorem job_setJob_ne {k : Job} (h : s.job? i = some j) (hk : k.id ≠ i) : (s.setJob k).job? i = some j := by
  have h : s.cast.jobs.find? (fun x => x.id == i) = some j := h
  have hid := job_id h
  rw [State.job?, State.setJob, updAll, List.find?_map, setJob_comp, h, Option.map_some, if_neg]
  exact fun hx => hk ((beq_iff_eq.1 hx).symm.trans hid)

/-- The jobs of two states are the same, and so is the job of a number. -/
theorem job_of_cast {t u : State} (h : u.cast = t.cast) (i : Nat) : u.job? i = t.job? i := by rw [State.job?, h, State.job?]

end

/-- Job k once items n are changed by f. -/
theorem mem_items_modItem {j : Job} {n : Nat} {f : Item → Item} {x : Item}
    (h : x ∈ updAll j.items (fun x => x.n == n) f) (hx : x.n = n) : ∃ y ∈ j.items, y.n = n ∧ x = f y := by
  obtain ⟨y, hy, rfl⟩ := List.mem_map.1 h
  by_cases hn : (y.n == n) = true
  · rw [if_pos hn]
    exact ⟨y, hy, beq_iff_eq.1 hn, rfl⟩
  · rw [if_neg hn] at hx
    exact absurd (beq_iff_eq.2 hx) hn

/-! ## What a record of the casters leaves (R486) -/

section
variable (s : State) (j : Job) (severity code index : Nat)

@[simp] theorem castRas_cast : (s.castRas j severity code index).cast = s.cast :=
  ras_keeps (p := State.cast) (fun _ _ _ _ _ _ => rfl) (fun _ _ _ _ => rfl) _ _

theorem rd_castRas {f : Field} (h : f ∉ recordRegs) (k : Nat) : (s.castRas j severity code index).rd f k = s.rd f k := rd_ras _ _ h k

end

/-! ## A read returns (R284, R296) -/

/-- The cast read r that has returned reaches its job. -/
def castReturned (t : State) (r : Req) : State :=
  match r.purpose, r.fin with
  | .cast i k, some (bs, slag) =>
    let t := t.dropReq r.id
    match t.job? i with
    | none => t
    | some j =>
      let g := [(r.va, bs, slag)]
      if k = jkSelf then
        let first := j.desc.isNone
        let t := t.setJob { j with reading := j.reading - 1, got := j.got ++ g }
        if slag && r.tier == 0 then
          let t := t.hbmUe (r.addr + 64 * r.bad.headD 0) 6 (if first then 1 else 0) 0 r.flask j.pour.word
          if first then t.callFlask j.flask else t
        else t
      else t.setJob { j with items := updAll j.items (fun x => x.n == k) (fun x => { x with out := x.out - 1, got := x.got ++ g }) }
  | _, _ => t

/-- A read of the caster unit that has returned. -/
def isCastBack (r : Req) : Bool := match r.purpose with | .cast _ _ => r.fin.isSome | _ => false

theorem castReturns_eq (s : State) : s.castReturns = (s.reqs.filter isCastBack).foldl castReturned s := rfl

/-- Job j once a read of its own returns g. -/
def gotOwn (j : Job) (g : Nat × List Byte × Bool) : Job := { j with reading := j.reading - 1, got := j.got ++ [g] }

/-- Job j once a read of its items k returns g. -/
def gotItem (j : Job) (k : Nat) (g : Nat × List Byte × Bool) : Job :=
  { j with items := updAll j.items (fun x => x.n == k) (fun x => { x with out := x.out - 1, got := x.got ++ [g] }) }

section
variable {t : State} {r : Req} {i k : Nat} {bs : List Byte} {slag : Bool}

theorem castReturned_of_none (hp : r.purpose = .cast i k) (hfin : r.fin = some (bs, slag)) (hj : t.job? i = none) :
    castReturned t r = t.dropReq r.id := by
  have hj : (t.dropReq r.id).job? i = none := hj
  unfold castReturned
  rw [hp, hfin]
  dsimp only
  rw [hj]

/-- A return takes its request away, and reaches its job. -/
theorem castReturned_of_job {j : Job} (hp : r.purpose = .cast i k) (hfin : r.fin = some (bs, slag)) (hj : t.job? i = some j) :
    (castReturned t r).reqs = (t.dropReq r.id).reqs ∧
    (castReturned t r).cast = (t.setJob (if k = jkSelf then gotOwn j (r.va, bs, slag) else gotItem j k (r.va, bs, slag))).cast := by
  have hj : (t.dropReq r.id).job? i = some j := hj
  unfold castReturned
  rw [hp, hfin]
  dsimp only
  rw [hj]
  dsimp only
  by_cases hk : k = jkSelf
  · rw [if_pos hk, if_pos hk]
    have hue (a b c d e : Nat) := ras_reqs ((t.dropReq r.id).setJob (gotOwn j (r.va, bs, slag)))
    split
    · split
      · exact ⟨ras_reqs _ _, ras_keeps (p := State.cast) (fun _ _ _ _ _ _ => rfl) (fun _ _ _ _ => rfl) _ _⟩
      · exact ⟨ras_reqs _ _, ras_keeps (p := State.cast) (fun _ _ _ _ _ _ => rfl) (fun _ _ _ _ => rfl) _ _⟩
    · exact ⟨rfl, rfl⟩
  · rw [if_neg hk, if_neg hk]
    exact ⟨rfl, rfl⟩

end

theorem isCastBack_iff {r : Req} (h : isCastBack r = true) : ∃ i k bs slag, r.purpose = .cast i k ∧ r.fin = some (bs, slag) := by
  unfold isCastBack at h
  split at h
  · rename_i i k hp
    obtain ⟨⟨bs, slag⟩, hfin⟩ := Option.isSome_iff_exists.1 h
    exact ⟨i, k, bs, slag, hp, hfin⟩
  · exact absurd h Bool.false_ne_true

/-- Job i of t holds at least what P asks of what it has read. -/
def jobHas (i : Nat) (P : Got → Prop) (t : State) : Prop := ∃ k, t.job? i = some k ∧ P k.got

section
variable {r : Req} {t : State} {i : Nat} {P : Got → Prop}

/-- A job goes on to hold what it has read while reads return. -/
theorem jobHas_castReturned (hP : ∀ g x, P g → P (g ++ [x])) (hr : isCastBack r = true) (h : jobHas i P t) : jobHas i P (castReturned t r) := by
  obtain ⟨a, k, bs, slag, hp, hfin⟩ := isCastBack_iff hr
  obtain ⟨l, hl, hgot⟩ := h
  rcases ha : t.job? a with _ | j
  · rw [castReturned_of_none hp hfin ha]
    exact ⟨l, hl, hgot⟩
  · obtain ⟨-, hcast⟩ := castReturned_of_job hp hfin ha
    rw [jobHas, job_of_cast hcast]
    have hid : (if k = jkSelf then gotOwn j (r.va, bs, slag) else gotItem j k (r.va, bs, slag)).id = a := by
      have hj : j.id = a := job_id ha
      split <;> exact hj
    by_cases hai : a = i
    · subst hai
      obtain rfl := Option.some.inj (hl.symm.trans ha)
      refine ⟨_, job_setJob ha hid, ?_⟩
      split
      · exact hP _ _ hgot
      · exact hgot
    · exact ⟨l, job_setJob_ne hl (hid ▸ hai), hgot⟩

theorem gone_castReturned {id : Nat} (hr : isCastBack r = true) (h : t.req? id = none) : (castReturned t r).req? id = none := by
  obtain ⟨a, k, bs, slag, hp, hfin⟩ := isCastBack_iff hr
  have hreqs : (castReturned t r).reqs = (t.dropReq r.id).reqs := by
    rcases ha : t.job? a with _ | j
    · rw [castReturned_of_none hp hfin ha]
    · exact (castReturned_of_job hp hfin ha).1
  have h : t.reqs.find? (fun r => r.id == id) = none := h
  rw [State.req?, hreqs, State.dropReq, List.find?_eq_none]
  exact fun x hx => List.find?_eq_none.1 h x (List.mem_filter.1 hx).1

/-- A return of a job's own read is among what the job has read, and its request is gone. -/
theorem castReturned_brings {bs : List Byte} {slag : Bool} {j : Job} (hp : r.purpose = .cast i jkSelf)
    (hfin : r.fin = some (bs, slag)) (hj : t.job? i = some j) :
    jobHas i ((r.va, bs, slag) ∈ ·) (castReturned t r) ∧ (castReturned t r).req? r.id = none := by
  obtain ⟨hreqs, hcast⟩ := castReturned_of_job hp hfin hj
  rw [if_pos rfl] at hcast
  refine ⟨⟨_, (job_of_cast hcast i).trans (job_setJob (k := gotOwn j _) hj (job_id (j := j) hj)), List.mem_append_right _ List.mem_cons_self⟩, ?_⟩
  rw [State.req?, hreqs, State.dropReq, List.find?_eq_none]
  intro x hx
  simpa using (List.mem_filter.1 hx).2

/-- The read of a job that has returned is among what the job has read, and its request is gone. -/
theorem castReturns_brings {bs : List Byte} {slag : Bool} {j : Job} (hr : r ∈ t.reqs) (hp : r.purpose = .cast i jkSelf)
    (hfin : r.fin = some (bs, slag)) (hj : t.job? i = some j) :
    t.castReturns.req? r.id = none ∧ jobHas i ((r.va, bs, slag) ∈ ·) t.castReturns := by
  have hback : isCastBack r = true := by
    unfold isCastBack
    rw [hp, hfin]
    rfl
  obtain ⟨before, after, hsplit⟩ := List.append_of_mem (List.mem_filter.2 ⟨hr, hback⟩)
  have hall (x : Req) (hx : x ∈ t.reqs.filter isCastBack) : isCastBack x = true := (List.mem_filter.1 hx).2
  rw [hsplit] at hall
  rw [castReturns_eq, hsplit, List.foldl_append, List.foldl_cons]
  obtain ⟨k, hk, -⟩ : jobHas i (fun _ => True) (before.foldl castReturned t) :=
    List.foldlRecOn (motive := jobHas i fun _ => True) before castReturned ⟨j, hj, trivial⟩ fun u hu x hx =>
      jobHas_castReturned (fun _ _ _ => trivial) (hall x (List.mem_append_left _ hx)) hu
  obtain ⟨hhas, hgone⟩ := castReturned_brings hp hfin hk
  have hrest (x : Req) (hx : x ∈ after) := hall x (List.mem_append_right _ (List.mem_cons_of_mem _ hx))
  exact ⟨List.foldlRecOn (motive := fun u => u.req? r.id = none) after castReturned hgone fun u hu x hx => gone_castReturned (hrest x hx) hu,
    List.foldlRecOn (motive := jobHas i ((r.va, bs, slag) ∈ ·)) after castReturned hhas fun u hu x hx =>
      jobHas_castReturned (fun _ _ h => List.mem_append_left _ h) (hrest x hx) hu⟩

end

/-- A read of HBM by a unit that returns good data waits for its unit. -/
theorem hapResponse_of_read {s : State} {id n : Nat} {q : Req} (d : List Byte) (hq : s.req? id = some q) (hp : q.purpose ≠ .plain)
    (hissued : q.issued = true) (hfin : q.fin = none) (htier : q.tier = 0) (hkind : q.kind = .read n) (hparts : q.parts = [])
    (hhome : s.homeHolds q = none) (hwaits : s.hlp.waits = []) :
    s.hapResponse id (.ok d) = s.modReq id (fun x => { x with fin := some (s.dieRead q.addr n, false), bad := [] }) := by
  have hid : q.id = id := beq_iff_eq.1 (List.find?_some (p := fun r : Req => r.id == id) hq)
  have htagged : q.tagged = true := by
    rw [Req.tagged, hfin, hkind]
    rfl
  have hfinish : s.finish q (s.dieRead q.addr n) = s.modReq id (fun x => { x with fin := some (s.dieRead q.addr n, false), bad := [] }) := by
    unfold State.finish
    split
    · rename_i h
      exact absurd h hp
    · rw [hid]
      rfl
  unfold State.hapResponse
  rw [hq]
  dsimp only
  rw [hissued, htagged, htier, hparts, hwaits, hhome, hkind]
  exact hfinish

/-! ## Items (R287, R295) -/

section
variable {s : State} {c i n : Nat} {j : Job} {it : Item}

theorem itemTake_of_offered (hready : s.ready = true) (hfree : s.casterFree c = true) (hj : s.cast.jobs.find? Job.offers = some j)
    (hback : j.back = []) :
    s.itemTake c = s.setJob { j with next := j.next + 1, items := j.items ++ [{ n := j.next, caster := c, reads := j.itemReads j.next }] } := by
  have hlow : lowest j.total j.back.contains = none := by
    refine Option.eq_none_iff_forall_ne_some.2 fun a ha => ?_
    have hin := (lowest_some.1 ha).2.1
    rw [hback] at hin
    exact Bool.false_ne_true hin
  unfold State.itemTake
  rw [hready, hfree, hj]
  dsimp only
  rw [hlow, hback]
  rfl

theorem job_of_offered (hj : s.cast.jobs.find? Job.offers = some j) : ∃ k, s.job? j.id = some k := by
  rw [← Option.isSome_iff_exists, State.job?, List.find?_isSome]
  exact ⟨j, List.mem_of_find?_eq_some hj, beq_self_eq_true _⟩

/-- Item n of job j, which is complete, meets its checks. -/
theorem itemComplete_of_ready (check : ItemCheck) (hj : s.job? i = some j) (hit : j.items.find? (fun x => x.n == n && x.caster == c) = some it)
    (hready : it.ready = true) (hheld : it.held = false) :
    s.itemComplete c i n check = match check with
      | .residue => s.itemResidue j it
      | .lane l => s.laneMismatch j it l
      | .good =>
        if cdSparse j.d == 2 && !cdEgress j.d && j.done.length != n then
          if j.back.contains j.done.length then s.modItem j n (fun x => { x with held := true }) else s
        else (s.itemOut j it).itemsOn i j.items.length := by
  unfold State.itemComplete
  rw [hj]
  dsimp only
  rw [hit]
  dsimp only
  rw [hready, hheld]
  rfl

end

/-! ### What an item forms (R288, R294, R296) -/

/-- What does not look at a job's outputs. -/
def blindToOutputs {β : Type} (q : Job → β) : Prop :=
  ∀ (j : Job) out formed plain, q { j with out := out, formed := formed, plain := plain } = q j

section
variable {β : Type} {q : Job → β} (hq : blindToOutputs q) (j : Job)
include hq

theorem emit_keeps (c : Nat) (tile : Bool) (va : Nat) (bs : List Byte) (part : Nat) : q (j.emit c tile va bs part) = q j := by
  unfold Job.emit
  split
  · rfl
  · exact hq j _ j.formed j.plain

theorem form_keeps (n : Nat) (tile slag : Bool) : q (j.form n tile slag) = q j := by
  unfold Job.form
  split
  · exact hq j j.out _ j.plain
  · exact hq j j.out _ j.plain

theorem emitTile_keeps (c n m : Nat) (slag : Bool) (data side : List Byte) : q (j.emitTile c n m slag data side) = q j := by
  simp only [Job.emitTile]
  rw [emit_keeps hq, emit_keeps hq, emit_keeps hq]

theorem emitRegion_keeps (c n : Nat) (rows : List (List Byte × List Byte)) : q (j.emitRegion c n rows) = q j := by
  unfold Job.emitRegion
  refine List.foldlRecOn (motive := fun k => q k = q j) _ _ rfl fun k hk p _ => ?_
  refine (emit_keeps hq _ _ _ _ _ _).trans (Eq.trans ?_ hk)
  split
  · exact hq k k.out k.formed _
  · exact emit_keeps hq k _ _ _ _ _

end

/-- What a job's items are, and which of them it has completed. -/
def course (j : Job) : Nat × List Item × List Nat := (j.id, j.items, j.done)

theorem course_blind : blindToOutputs course := fun _ _ _ _ => rfl

/-- Job j with its item n completed. -/
def completes (n : Nat) (j k : Job) : Prop := course k = (j.id, j.items.filter (fun x => x.n != n), n :: j.done)

/-- t is s with one more item counted. -/
def counted (s t : State) : Prop :=
  t.hbm = s.hbm ∧ t.wbuf = s.wbuf ∧ t.cast = s.cast ∧
  t.rd .CAST_STATS_ITEMS = (s.rd .CAST_STATS_ITEMS + 1) % 2 ^ Field.CAST_STATS_ITEMS.row.width

theorem counted_wr {s t : State} (h : counted s t) {f : Field} (hf : f ≠ .CAST_STATS_ITEMS) (v : Nat) : counted s (t.wr f v) := by
  obtain ⟨hhbm, hwbuf, hcast, hrd⟩ := h
  exact ⟨hhbm, hwbuf, hcast, (rd_wr_ne t v (.inl hf)).trans hrd⟩

theorem counted_count (s : State) (c cls n : Nat) : counted s ((s.adv .CAST_STATS_ITEMS).count c cls n) := by
  obtain ⟨mt, hcount⟩ := count_eq (s.adv .CAST_STATS_ITEMS) c cls n
  rw [hcount]
  exact ⟨rfl, rfl, rfl, rd_adv_same s .CAST_STATS_ITEMS 0 1⟩

/-- In u item n of job j is formed. -/
def formedIn (s : State) (j : Job) (n : Nat) (u : State) : Prop := ∃ t k, u = t.setJob k ∧ counted s t ∧ completes n j k

theorem formedIn_setJob {s t : State} {j k : Job} {n : Nat} (ht : counted s t) (hk : completes n j k) : formedIn s j n (t.setJob k) :=
  ⟨t, k, rfl, ht, hk⟩

theorem itemOut_forms (s : State) (j : Job) (it : Item) : formedIn s j it.n (s.itemOut j it) := by
  have hu (v : Nat) : counted s ((s.adv .CAST_STATS_ITEMS).count j.ctx 10 v) := counted_count s _ _ _
  have hregion (k : Job) (c : Nat) (rows : List (List Byte × List Byte)) : course (k.emitRegion c it.n rows) = course k :=
    emitRegion_keeps course_blind k c it.n rows
  have hform (k : Job) (tile slag : Bool) : course (k.form it.n tile slag) = course k := form_keeps course_blind k it.n tile slag
  have htile (k : Job) (c m : Nat) (slag : Bool) (data side : List Byte) : course (k.emitTile c it.n m slag data side) = course k :=
    emitTile_keeps course_blind k c it.n m slag data side
  refine iteInduction (motive := formedIn s j it.n) (fun _ => ?_) (fun _ => ?_)
  · refine iteInduction (motive := formedIn s j it.n) (fun _ => ?_) (fun _ => ?_)
    · exact formedIn_setJob (hu _) ((hregion _ _ _).trans (hform _ _ _))
    · refine iteInduction (motive := formedIn s j it.n) (fun _ => ?_) (fun _ => ?_)
      · exact formedIn_setJob (counted_wr (hu _) (by decide) 1) ((hregion _ _ _).trans (hform _ _ _))
      · exact formedIn_setJob (hu _) (hregion _ _ _)
  · refine iteInduction (motive := formedIn s j it.n) (fun _ => ?_) (fun _ => ?_)
    · exact formedIn_setJob (hu _) (by split <;> rfl)
    · refine iteInduction (motive := formedIn s j it.n) (fun _ => ?_) (fun _ => ?_)
      · exact formedIn_setJob (hu _) ((htile _ _ _ _ _ _).trans ((hform _ _ _).trans (by split <;> rfl)))
      · refine iteInduction (motive := formedIn s j it.n) (fun _ => ?_) (fun _ => ?_)
        · exact formedIn_setJob (counted_wr (hu _) (by decide) 1) ((htile _ _ _ _ _ _).trans ((hform _ _ _).trans (by split <;> rfl)))
        · exact formedIn_setJob (hu _) ((htile _ _ _ _ _ _).trans ((hform _ _ _).trans (by split <;> rfl)))

theorem itemsOn_of_none {s : State} {i : Nat} {k : Job} (hj : s.job? i = some k) (hk : ∀ x ∈ k.items, x.held = false) (n : Nat) :
    s.itemsOn i n = s := by
  have hnone : k.items.find? (fun x => x.held && x.n == k.done.length) = none :=
    List.find?_eq_none.2 fun x hx => by simp [hk x hx]
  cases n with
  | zero => rfl
  | succ n =>
    unfold State.itemsOn
    rw [hj]
    dsimp only
    rw [hnone]

section
variable {s : State} {c i n : Nat} {j : Job} {it : Item} (hj : s.job? i = some j)
  (hit : j.items.find? (fun x => x.n == n && x.caster == c) = some it)
include hit

theorem item_found : it ∈ j.items ∧ it.n = n ∧ it.caster = c := by
  have hp := List.find?_some hit
  rw [Bool.and_eq_true] at hp
  exact ⟨List.mem_of_find?_eq_some hit, beq_iff_eq.1 hp.1, beq_iff_eq.1 hp.2⟩

/-- A second residue mismatch takes the caster out of service, and its items are given back. -/
theorem itemResidue_second (hretried : it.retried = true) (hc : c < 32) :
    let u := s.itemResidue j it
    u.rd .CAST_ERR_RESIDUE = 1 ∧ bit (u.rd .CAST_STATUS_OUT_OF_SERVICE) c = true ∧
      ∀ k ∈ u.cast.jobs, ∀ x ∈ k.items, x.caster = c → x.held = true := by
  obtain ⟨-, -, hcaster⟩ := item_found hit
  let out := setBits (s.rd .CAST_STATUS_OUT_OF_SERVICE) c 1 1
  let w := ((s.wr .CAST_ERR_RESIDUE 1).wr .CAST_STATUS_OUT_OF_SERVICE out).castRas j 2 2 c
  let goes (x : Item) : Bool := x.caster == c && !x.held
  let give (k : Job) : Job := { k with items := k.items.filter (fun x => !goes x), back := k.back ++ (k.items.filter goes).map Item.n }
  let t := ({ w with cast := { w.cast with jobs := w.cast.jobs.map give } } : State).dropCasterReads c
  have hresidue : s.itemResidue j it = if out = 2 ^ 32 - 1 then t.callBlock else t := by
    unfold State.itemResidue
    rw [hretried, hcaster]
    dsimp only
    rw [rd_wr_ne s _ (.inl (by decide))]
    rfl
  have ht : t.rd .CAST_ERR_RESIDUE = 1 ∧ bit (t.rd .CAST_STATUS_OUT_OF_SERVICE) c = true ∧
      ∀ k ∈ t.cast.jobs, ∀ x ∈ k.items, x.caster = c → x.held = true := by
    refine ⟨?_, ?_, fun k hk x hx hxc => ?_⟩
    · exact (rd_castRas _ _ _ _ _ (by decide) 0).trans ((rd_wr_ne _ _ (.inl (by decide))).trans (rd_wr_one s _ _))
    · have hrd : t.rd .CAST_STATUS_OUT_OF_SERVICE = out % 2 ^ 32 := (rd_castRas _ _ _ _ _ (by decide) 0).trans (rd_wr_same _ _ _ _)
      rw [hrd, bit, bits_mod_two_pow _ (by omega), bits_setBits_same]
      rfl
    · obtain ⟨l, -, rfl⟩ := List.mem_map.1 hk
      have hstays := (List.mem_filter.1 hx).2
      cases hheld : x.held with
      | true => rfl
      | false => simp [goes, hxc, hheld] at hstays
  intro u
  have hu : u = if out = 2 ^ 32 - 1 then t.callBlock else t := hresidue
  rw [hu]
  split
  · exact ht
  · exact ht

include hj

/-- An item that is written leaves its job without it. -/
theorem itemOut_leaves (hheld : ∀ x ∈ j.items, x.held = false) :
    let u := (s.itemOut j it).itemsOn i j.items.length
    sameMem s u ∧ u.rd .CAST_STATS_ITEMS = (s.rd .CAST_STATS_ITEMS + 1) % 2 ^ Field.CAST_STATS_ITEMS.row.width ∧
      ∃ k, u.job? i = some k ∧ n ∈ k.done ∧ ∀ x ∈ k.items, x.n ≠ n := by
  obtain ⟨-, rfl, -⟩ := item_found hit
  obtain ⟨t, k, hout, ⟨hhbm, hwbuf, hcast, hrd⟩, hk⟩ := itemOut_forms s j it
  obtain ⟨hid, hitems, hdone⟩ : k.id = j.id ∧ k.items = j.items.filter (fun x => x.n != it.n) ∧ k.done = it.n :: j.done := by
    simpa [completes, course] using hk
  have hjob : (t.setJob k).job? i = some k := job_setJob ((job_of_cast hcast i).trans hj) (hid.trans (job_id hj))
  have hfree : ∀ x ∈ k.items, x.held = false := fun x hx => hheld x (List.mem_filter.1 (hitems ▸ hx)).1
  intro u
  have hu : u = t.setJob k := (congrArg (fun v => State.itemsOn v i j.items.length) hout).trans (itemsOn_of_none hjob hfree _)
  rw [hu]
  refine ⟨sameMem_of_eq hhbm hwbuf, hrd, k, hjob, hdone ▸ List.mem_cons_self, fun x hx => ?_⟩
  rw [hitems] at hx
  exact bne_iff_ne.1 (List.mem_filter.1 hx).2

/-- An item of a job is changed in a state that holds the same jobs. -/
theorem modItem_leaves {t : State} (ht : t.cast = s.cast) (f : Item → Item) :
    ∃ k, (t.modItem j n f).job? i = some k ∧ k.done = j.done ∧ f it ∈ k.items ∧ ∀ x ∈ k.items, x.n = n → ∃ y ∈ j.items, y.n = n ∧ x = f y := by
  obtain ⟨hmem, hn, -⟩ := item_found hit
  have hnew := updAll_mem (p := fun x : Item => x.n == n) (f := f) hmem
  rw [hn, beq_self_eq_true, if_pos rfl] at hnew
  exact ⟨_, job_setJob (k := { j with items := updAll j.items (fun x => x.n == n) f }) ((job_of_cast ht i).trans hj) (job_id (j := j) hj), rfl, hnew,
    fun x hx => mem_items_modItem hx⟩

/-- A first residue mismatch has the caster carry the item out once more. -/
theorem itemResidue_first (hretried : it.retried = false) :
    (s.itemResidue j it).rd .CAST_ERR_RESIDUE = 1 ∧ ∃ k, (s.itemResidue j it).job? i = some k ∧ ∀ x ∈ k.items, x.n = n → x.retried = true := by
  obtain ⟨-, hn, -⟩ := item_found hit
  have hresidue : s.itemResidue j it = ((s.wr .CAST_ERR_RESIDUE 1).castRas j 0 0x0B it.caster).modItem j it.n (fun x => { x with retried := true }) := by
    unfold State.itemResidue
    rw [hretried]
    rfl
  rw [hresidue, hn]
  obtain ⟨k, hk, -, -, hitems⟩ := modItem_leaves hj hit (t := (s.wr .CAST_ERR_RESIDUE 1).castRas j 0 0x0B it.caster) (castRas_cast _ _ _ _ _)
    (fun x => { x with retried := true })
  refine ⟨(rd_castRas _ _ _ _ _ (by decide) 0).trans (rd_wr_one s _ _), k, hk, fun x hx hxn => ?_⟩
  obtain ⟨y, -, -, rfl⟩ := hitems x hx hxn
  rfl

/-- A mismatch of a lane has the block redone once, and takes the lane out of service then. -/
theorem laneMismatch_leaves {l : Nat} (hsealed : cdSealed j.d = true) (hserves : s.laneServes l = true) :
    let u := s.laneMismatch j it l
    (it.redone ≠ some l → u.cast.lanesOut = s.cast.lanesOut ∧ ∃ k, u.job? i = some k ∧ ∀ x ∈ k.items, x.n = n → x.redone = some l) ∧
    (it.redone = some l → u.laneServes l = false ∧ ((List.range 16).any u.laneServes = false → .block ∈ u.calls)) := by
  obtain ⟨-, hn, -⟩ := item_found hit
  intro u
  refine ⟨fun hredone => ?_, fun hredone => ?_⟩
  · have hu : u = (s.castRas j 0 0x0B l).modItem j n (fun x => { x with redone := some l }) := by
      rw [← hn]
      exact (if_neg (by rw [hsealed, hserves]; exact Bool.false_ne_true)).trans (if_pos hredone)
    have hcast := castRas_cast s j 0 0x0B l
    rw [hu]
    obtain ⟨k, hk, -, -, hitems⟩ := modItem_leaves hj hit hcast (fun x => { x with redone := some l })
    refine ⟨congrArg (fun m => m.lanesOut) hcast, k, hk, fun x hx hxn => ?_⟩
    obtain ⟨y, -, -, rfl⟩ := hitems x hx hxn
    rfl
  · let t := (s.castRas j 2 2 l).modItem j it.n (fun x => { x with redone := none })
    let v : State := { t with cast := { t.cast with lanesOut := l :: t.cast.lanesOut } }
    have hu : u = if (List.range 16).any v.laneServes then v else v.callBlock :=
      (if_neg (by rw [hsealed, hserves]; exact Bool.false_ne_true)).trans (if_neg (not_not.2 hredone))
    have hout : v.laneServes l = false := by
      have hin : v.cast.lanesOut.contains l = true := by simp [v]
      rw [State.laneServes, hin, Bool.not_true, Bool.and_false]
    rw [hu]
    split
    · rename_i hany
      exact ⟨hout, fun h => absurd (hany.symm.trans h) (by decide)⟩
    · exact ⟨hout, fun _ => List.mem_append_right _ List.mem_cons_self⟩

end

/-! ## The tag of a sealed chunk (R301) -/

/-- Job j once its chunk's tag has been checked. -/
def chunkChecked (j : Job) (auth : Nat) : Job := { j with chunk := j.chunk + 1, got := [], auth := auth }

/-- Job j once its chunk's tag is found wrong: the tiles of the chunk are slag. -/
def chunkSlagged (j : Job) : Job :=
  ((j.done.reverse.filter (fun n => j.inChunk n j.chunk)).filter (fun n => cdSparse j.d != 2 || j.present.contains n)).foldl
    (fun (x : Job) n => (x.form n false true).emitTile 0 n (x.place n) true [] []) (chunkChecked j (j.auth + 1))

theorem chunkSlagged_keeps {β : Type} {q : Job → β} (hq : blindToOutputs q) (j : Job) : q (chunkSlagged j) = q (chunkChecked j (j.auth + 1)) :=
  List.foldlRecOn (motive := fun x => q x = q (chunkChecked j (j.auth + 1))) _ _ rfl fun x hx n _ =>
    (emitTile_keeps hq _ _ _ _ _ _ _).trans ((form_keeps hq x n false true).trans hx)

section
variable {s : State} {i : Nat} {j : Job} {k : KeyMat}

/-- The tag of job j's chunk, as the bytes read make it, is the one read. -/
def tagFits (j : Job) (k : KeyMat) : Prop :=
  gcmTag (aesExpand k.key) (j.chunkIv j.chunk) (j.chunkAad j.chunk) (gotBytes j.ciph (cdHostVa j.d + (j.chunkAt j.chunk).1) (j.chunkAt j.chunk).2) =
    gotBytes j.got (cdTagVa j.d + 16 * j.chunk) 16

variable (hj : s.job? i = some j) (hkey : s.jobKey j = some k) (hgo : (cdEgress j.d || j.code.isSome || !j.reads.isEmpty || j.reading != 0 || j.got.isEmpty ||
    decide (j.chunks ≤ j.chunk) || !j.chunkReady j.chunk) = false)
include hj hkey hgo

theorem chunkCheck_eq :
    (tagFits j k → s.chunkCheck i = (s.count j.ctx 11 (j.chunkAt j.chunk).2).setJob (chunkChecked j j.auth)) ∧
    (¬ tagFits j k → s.chunkCheck i =
      (((s.count j.ctx 11 (j.chunkAt j.chunk).2).wr .CAST_ERR_AUTH_FAIL 1).bump .CAST_SEAL_STATS_AUTH_FAILS).setJob (chunkSlagged j)) := by
  unfold State.chunkCheck
  rw [hj]
  dsimp only
  rw [hkey]
  refine ⟨fun h => ?_, fun h => ?_⟩
  · exact (if_neg (fun e => Bool.false_ne_true (hgo.symm.trans e))).trans (if_pos (beq_iff_eq.2 h))
  · exact (if_neg (fun e => Bool.false_ne_true (hgo.symm.trans e))).trans (if_neg fun e => h (beq_iff_eq.1 e))

theorem chunkCheck_leaves :
    let u := s.chunkCheck i
    sameMem s u ∧ (∃ z, u.job? i = some z ∧ z.chunk = j.chunk + 1 ∧ z.got = []) ∧ (tagFits j k → onlyRegs s u []) ∧
      (¬ tagFits j k → u.rd .CAST_ERR_AUTH_FAIL = 1 ∧ s.counts u .CAST_SEAL_STATS_AUTH_FAILS) := by
  obtain ⟨hfits, hfails⟩ := chunkCheck_eq hj hkey hgo
  obtain ⟨mt, hcount⟩ := count_eq s j.ctx 11 (j.chunkAt j.chunk).2
  rw [hcount] at hfits hfails
  have hid := job_id hj
  by_cases hgood : tagFits j k
  · rw [hfits hgood]
    exact ⟨sameMem_of_eq rfl rfl, ⟨chunkChecked j j.auth, job_setJob (s := { s with meter := mt }) hj hid, rfl, rfl⟩, fun _ _ _ _ => rfl,
      fun h => absurd hgood h⟩
  · rw [hfails hgood]
    have hsid : (chunkSlagged j).id = j.id := chunkSlagged_keeps (q := Job.id) (fun _ _ _ _ => rfl) j
    refine ⟨sameMem_of_eq rfl rfl, ⟨chunkSlagged j, job_setJob (s := (({ s with meter := mt } : State).wr .CAST_ERR_AUTH_FAIL 1).bump .CAST_SEAL_STATS_AUTH_FAILS)
      hj (hsid.trans hid), chunkSlagged_keeps (q := Job.chunk) (fun _ _ _ _ => rfl) j, chunkSlagged_keeps (q := Job.got) (fun _ _ _ _ => rfl) j⟩,
      fun h => absurd h hgood, fun _ => ⟨?_, ?_⟩⟩
    · exact (rd_bump_ne _ 1 (.inl (by decide))).trans (rd_wr_one _ _ _)
    · exact (rd_bump_same _ _ _ _).trans (by rw [rd_wr_ne _ _ (.inl (by decide))]; rfl)

end

/-- Settles O42 (R284, R287, R295, R301). -/
theorem casters : Obligations.Casters := by
  refine ⟨fun s id i n q j d hq hp hissued hfin htier hkind hparts hhome hwaits hj => ?_, fun s c j hready hfree hj hback => ?_,
    fun s c i n j it hj hit hready hheld hc => ?_, fun s i j k hj hkey heg hcode hreads hreading hgot hchunk hready => ?_⟩
  · have hresp := hapResponse_of_read d hq (by rw [hp]; exact Purpose.noConfusion) hissued hfin htier hkind hparts hhome hwaits
    have hreturn : s.descReturn id (.ok d) = (s.modReq id (fun x => { x with fin := some (s.dieRead q.addr n, false), bad := [] })).castReturns := by
      unfold State.descReturn
      rw [hq]
      dsimp only
      rw [hp, hresp]
    have hid : q.id = id := beq_iff_eq.1 (List.find?_some (p := fun r : Req => r.id == id) hq)
    have hmem := updAll_mem (p := fun r : Req => r.id == id) (f := fun x => { x with fin := some (s.dieRead q.addr n, false), bad := [] })
      (List.mem_of_find?_eq_some hq)
    rw [hid, beq_self_eq_true, if_pos rfl] at hmem
    obtain ⟨hgone, k, hk, hgot⟩ := castReturns_brings (t := s.modReq id (fun x => { x with fin := some (s.dieRead q.addr n, false), bad := [] })) hmem hp rfl hj
    exact ⟨_, congrArg s.after hreturn, hid ▸ hgone, k, hk, hgot⟩
  · obtain ⟨k, hk⟩ := job_of_offered hj
    refine ⟨_, congrArg s.after (itemTake_of_offered hready hfree hj hback), sameMem_of_eq rfl rfl, fun _ _ _ => rfl, _, job_setJob hk rfl, rfl, _,
      List.mem_append_right _ List.mem_cons_self, rfl, rfl, rfl⟩
  · have hrun (check : ItemCheck) := itemComplete_of_ready check hj hit hready hheld
    obtain ⟨hmem, hn, hcaster⟩ := item_found hit
    refine ⟨fun hturn hfree => ?_, fun hsparse heg hlen => ?_, fun hretried => ?_, fun hretried => ?_, fun l hsealed hserves => ?_⟩
    · have hgood : s.itemComplete c i n .good = (s.itemOut j it).itemsOn i j.items.length := by
        refine (hrun .good).trans (if_neg fun h => ?_)
        obtain ⟨⟨hsparse, heg⟩, hlen⟩ : (cdSparse j.d = 2 ∧ cdEgress j.d = false) ∧ j.done.length ≠ n := by simpa using h
        exact hlen (hturn hsparse heg)
      exact ⟨_, congrArg s.after hgood, itemOut_leaves hj hit hfree⟩
    · have hgood : s.itemComplete c i n .good =
          if j.back.contains j.done.length then s.modItem j n (fun x => { x with held := true }) else s :=
        (hrun .good).trans (if_pos (by simp [hsparse, heg, hlen]))
      refine ⟨_, congrArg s.after hgood, ?_⟩
      cases j.back.contains j.done.length with
      | true =>
        obtain ⟨k, hk, hdone, hnew, -⟩ := modItem_leaves hj hit rfl (fun x => { x with held := true })
        exact ⟨sameMem_of_eq rfl rfl, fun _ _ _ => rfl, k, hk, hdone, _, hnew, hn, hcaster, rfl⟩
      | false => exact ⟨sameMem_refl s, onlyRegs_refl s _, j, hj, rfl, it, hmem, hn, hcaster, hheld⟩
    · exact ⟨_, congrArg s.after (hrun .residue), itemResidue_first hj hit hretried⟩
    · exact ⟨_, congrArg s.after (hrun .residue), itemResidue_second hit hretried hc⟩
    · obtain ⟨hfirst, hsecond⟩ := laneMismatch_leaves hj hit hsealed hserves
      exact ⟨fun h => ⟨_, congrArg s.after (hrun (.lane l)), hfirst h⟩, fun h => ⟨_, congrArg s.after (hrun (.lane l)), hsecond h⟩⟩
  · exact ⟨_, rfl, chunkCheck_leaves hj hkey (by simp [heg, hcode, hreads, hreading, hgot, hchunk, hready])⟩

end Sys2Proof.Laws

/-! # Sealing

What the sealing unit's writes leave, FLASK_SEAL with its answer, and CONFIRM (R380, R381, R386). -/
namespace Sys2Proof.Laws

open Sys2Proof.Machine

/-! ## What the mailbox writes (R385, R415) -/

/-- A view in which neither stores nor the meter show. -/
structure blindToMail {β : Type} (p : State → β) : Prop where
  stores : blindToStores p
  meter : ∀ (t : State) m, p { t with meter := m } = p t

/-- What is held of key material, but for the counters. -/
def keyNames (s : State) : List (Nat × List Byte) := s.keys.map (fun m => (m.slot, m.key))

section
variable {β : Type} {p : State → β} (h : blindToMail p)
include h

theorem blindToMail.countFor (s : State) (ch : Charge) (cls n : Nat) : p (s.countFor ch cls n) = p s := by
  obtain ⟨mt, hmt⟩ := countFor_eq s ch cls n
  rw [hmt, h.meter]

theorem mailWrite_keeps (s : State) (f a : Nat) (bs : List Byte) : p (s.mailWrite f a bs) = p s :=
  (h.countFor _ _ _ _).trans (ownWrite_keeps h.stores (q := .log) (fun _ => rfl) s a bs _ _ _)

variable (hkeys : ∀ (t : State) k, p { t with keys := updAll t.keys (fun x => x.slot == k) (fun x => { x with ctr := x.ctr + 1 }) } = p t)
include hkeys

theorem replyEnv_keeps (s : State) (n : Nat) (m : KeyMat) (op f gen cseq status : Nat) (payload : List Byte) :
    p (s.replyEnv n m op f gen cseq status payload) = p s :=
  (mailWrite_keeps h _ _ _ _).trans ((h.countFor _ _ _ _).trans (hkeys s m.slot))

theorem refuseEnv_keeps (hwr : ∀ (t : State) g v i, g = .FL_STATS_CMD_REFUSED ∨ g ∈ replyNames → p (t.wr g v i) = p t) (s : State) (n : Nat)
    (m : KeyMat) (b : List Byte) (status : Nat) : p (s.refuseEnv n m b status) = p s := by
  have hrefuse (t : State) : p (t.refuseCmd n status) = p t :=
    (reply_keeps_others (fun t g v i hg => hwr t g v i (.inr hg)) _ _ _ _).trans (hwr t _ _ _ (.inl rfl))
  unfold State.refuseEnv
  dsimp only
  rw [hrefuse]
  split
  · exact replyEnv_keeps h hkeys _ _ _ _ _ _ _ _ _
  · rfl

end

theorem blindToMail_rd (f : Field) (i : Nat) : blindToMail fun t => t.rd f i := ⟨fun _ _ _ _ _ _ => rfl, fun _ _ => rfl⟩

theorem blindToMail_keyNames : blindToMail keyNames := ⟨fun _ _ _ _ _ _ => rfl, fun _ _ => rfl⟩

theorem blindToMail_vaults : blindToMail State.vaults := ⟨fun _ _ _ _ _ _ => rfl, fun _ _ => rfl⟩

section
variable (s : State) (n : Nat) (m : KeyMat) (op f gen cseq status : Nat) (payload : List Byte)

@[simp] theorem rd_replyEnv (g : Field) (i : Nat) : (s.replyEnv n m op f gen cseq status payload).rd g i = s.rd g i :=
  replyEnv_keeps (blindToMail_rd g i) (fun _ _ => rfl) s n m op f gen cseq status payload

@[simp] theorem vaults_replyEnv : (s.replyEnv n m op f gen cseq status payload).vaults = s.vaults :=
  replyEnv_keeps blindToMail_vaults (fun _ _ => rfl) s n m op f gen cseq status payload

/-- An encryption moves its slot's counter alone. -/
theorem keyNames_counted (t : State) (k : Nat) :
    keyNames { t with keys := updAll t.keys (fun x => x.slot == k) (fun x => { x with ctr := x.ctr + 1 }) } = keyNames t := by
  rw [keyNames, updAll, List.map_map]
  refine List.map_congr_left fun x _ => ?_
  rw [Function.comp_apply]
  split <;> rfl

@[simp] theorem keyNames_replyEnv : keyNames (s.replyEnv n m op f gen cseq status payload) = keyNames s :=
  replyEnv_keeps blindToMail_keyNames keyNames_counted s n m op f gen cseq status payload

end

section
variable {s t : State}

/-- A slot holds the key that its entry has. -/
theorem mem_keyNames {k : Nat} {key : List Byte} (h : (k, key) ∈ keyNames s) : ∃ m ∈ s.keys, m.slot = k ∧ m.key = key := by
  obtain ⟨m, hm, he⟩ := List.mem_map.1 h
  exact ⟨m, hm, congrArg Prod.fst he, congrArg Prod.snd he⟩

theorem noKey_of_names {k : Nat} (hv : t.rd .KEY_SLOT_VALID k = s.rd .KEY_SLOT_VALID k) (hk : keyNames t = keyNames s) (h : s.noKey k) : t.noKey k := by
  refine ⟨hv.trans h.1, fun m hm hslot => ?_⟩
  have hmem : (m.slot, m.key) ∈ keyNames s := hk ▸ List.mem_map_of_mem hm
  obtain ⟨x, hx, hxs, -⟩ := mem_keyNames hmem
  exact h.2 x hx (hxs.trans hslot)

/-- What the sealing unit holds for a flask is what was put there last. -/
theorem vault_setVault (s : State) (v : Vault) : (s.setVault v).vault v.flask = v := by
  have hnone : (s.vaults.filter (fun w => w.flask != v.flask)).find? (fun w => w.flask == v.flask) = none :=
    List.find?_eq_none.2 fun w hw => by simpa using (List.mem_filter.1 hw).2
  rw [State.vault, State.setVault]
  dsimp only
  split
  · rename_i hv
    rw [hnone]
    exact hv.symm
  · rw [List.find?_append, hnone]
    simp

theorem vault_of_vaults (h : t.vaults = s.vaults) (f : Nat) : t.vault f = s.vault f := by rw [State.vault, h, State.vault]

theorem vault_flask (s : State) (f : Nat) : (s.vault f).flask = f := by
  unfold State.vault
  cases h : s.vaults.find? (fun v => v.flask == f) with
  | none => rfl
  | some v => exact beq_iff_eq.1 (List.find?_some (p := fun v : Vault => v.flask == f) h)

end

/-! ## FLASK_SEAL and its answer (R380, R381) -/

section
variable {s : State} {n : Nat}

@[simp] theorem fref_begun (s : State) (n : Nat) : (s.begun n).fref n = s.fref n := by simp only [State.fref, par_begun]

@[simp] theorem sealRuns_begun (s : State) (n : Nat) : (s.begun n).sealRuns n = s.sealRuns n := by simp only [State.sealRuns, par_begun]

/-- A command that has asked Kyrdo waits. -/
theorem askKyrdo_leaves (hn : n < 16) (hm : sameMem s (s.begun n)) (f : Nat) (ask : KyAsk) :
    let b := s.begun n
    sameMem s (b.askKyrdo n f ask) ∧ b.asked (b.askKyrdo n f ask) n f ask ∧ onlyRegs b (b.askKyrdo n f ask) [] :=
  ⟨hm, ⟨slotState_begun s hn, List.mem_cons_self, rfl⟩, fun _ _ _ => rfl⟩

/-- What a command replies at its start point without doing anything. -/
theorem reply_begun_leaves (hn : n < 16) {st : Nat} (hst : st < 2 ^ 16) :
    let b := s.begun n
    sameMem s (b.reply n st) ∧ (b.reply n st).replied n st ∧ onlyRegs b (b.reply n st) (replyFields n) :=
  ⟨(sameMem_reply _ _ _ _ _).2 (sameMem_begun s n), replied_reply _ _ hn hst, onlyRegs_reply _ _ _ _ (by simp)⟩

theorem rd_setSeals_of_lt (t : State) (f : Nat) {v : Nat → Nat} (hv : ∀ i, v i < 4) {i : Nat} (hi : i < t.rd .FL_SIZE f) :
    (t.setSeals f v).rd .SEAL_GRAN_SEAL (t.rd .FL_BASE f + i) = v i :=
  (rd_foldl_wr .SEAL_GRAN_SEAL v (t.rd .FL_BASE f) hi t).trans (Nat.mod_eq_of_lt (hv i))

theorem setSeals_keeps {β : Type} {p : State → β} (hwr : ∀ (t : State) v i, p (t.wr .SEAL_GRAN_SEAL v i) = p t) (t : State) (f : Nat) (v : Nat → Nat) :
    p (t.setSeals f v) = p t :=
  foldl_keeps p (fun t _ => hwr t _ _) _ t

/-- A view in which neither the start of invalidations nor the recall of lines shows. -/
structure blindToSeals {β : Type} (p : State → β) : Prop where
  invs : blindToInvs p
  ids : ∀ (t : State) k, p { t with nextId := k } = p t
  hlp : ∀ (t : State) r, p { t with hlp := { t.hlp with recalls := r } } = p t
  seals : ∀ (t : State) l, p { t with seals := l } = p t

namespace blindToSeals

variable {β : Type} {p : State → β} (h : blindToSeals p)
include h

theorem invalidate (t : State) (f : InvFrom) (slots : List Nat) (range : Option (Nat × Nat)) (hostOnly : Bool) (old : List (Nat × Nat)) :
    p (t.invalidate f slots range hostOnly old) = p t := by
  have hmade (u : State) : p { u with nextId := t.nextId + 1, xl := u.xl } = p u := h.ids u _
  simp only [State.invalidate]
  split
  · exact (h.invs.startInv _ _).trans ((h.invs.xl _ _).trans (h.ids t _))
  · exact (h.invs.xl _ _).trans (h.ids t _)

theorem sealInv (t s0 : State) (n f : Nat) : p (t.sealInv s0 n f) = p t :=
  foldl_keeps p (fun u _ => h.invalidate u _ _ _ _ _) _ t

theorem recallLine (t : State) (l : Nat) : p (t.recall l) = p t := by
  unfold State.recall
  split
  · rfl
  · exact (h.invs.units _ _ t.ctxs t.lanes t.xl).trans (h.hlp t _)

theorem waitSeal (t : State) (w : SealWait) : p (t.waitSeal w) = p t :=
  (h.seals _ _).trans (foldl_keeps p (fun u l => h.recallLine u l) _ t)

end blindToSeals

end

/-- A command that waits for its recalls waits for every line of a sealed granule of its flask that a host core holds. -/
theorem waitSeal_waits (t : State) (w : SealWait) :
    ∃ v ∈ (t.waitSeal w).seals, v.slot = w.slot ∧ v.flask = w.flask ∧ v.op = w.op ∧ v.outs = w.outs ∧
      ∀ l, t.hostHeld l = true → (t.waitSeal w).inFlask w.flask (l * 64) 64 = true → (t.waitSeal w).granSealed (l * 64 / granule) = true → l ∈ v.lines := by
  have hrd (g : Field) (i : Nat) : (t.waitSeal w).rd g i = t.rd g i :=
    foldl_keeps (fun t : State => t.rd g i) (fun t l => still.rd (still_recall t l) g i) (t.sealedLines w.flask) t
  refine ⟨_, List.mem_append_right _ List.mem_cons_self, rfl, rfl, rfl, rfl, fun l hheld hin hsealed => List.mem_append_left _ (List.mem_filter.2 ⟨?_, ?_⟩)⟩
  · obtain ⟨h, hh, hl⟩ := List.any_eq_true.1 hheld
    exact List.mem_map.2 ⟨h, hh, beq_iff_eq.1 hl⟩
  · rw [State.inFlask, State.flaskBase, State.flaskBytes, hrd, hrd] at hin
    rw [State.granSealed, hrd] at hsealed
    exact Bool.and_eq_true_iff.2 ⟨hin, hsealed⟩

theorem sealedAs_lt (runs : List (Nat × Nat)) (i : Nat) : sealedAs runs i < 4 := by
  unfold sealedAs
  split <;> decide

/-- The vault of a flask that is sealed in t: its public key, and the chain of its moulds. -/
def sealVault (t : State) (f : Nat) (pub : List Byte) : Vault :=
  { flask := f, chain := (t.mouldsOf f).foldl (fun c m => chainNext c m.digest m.idx m.gen) (zeros 48), pub := pub, everSealed := true }

/-- Flask f is being sealed, with the public runs of slot n. -/
def sealStates (s : State) (n f : Nat) : State :=
  ((((s.dropKy n).setSeals f (sealedAs (s.sealRuns n))).wr .FL_STATE flSEALING f).wr .FL_DEBUG 0 f).wr .FL_PROFILE 0 f

/-- The records of a flask that is being sealed are made, before its invalidations start. -/
def sealMade (s : State) (n f : Nat) (pub : List Byte) : State :=
  let t := (sealStates s n f).setVault (sealVault (sealStates s n f) f pub)
  t.disarmIf (fun i => t.rd .XL_ATLAS_FLASK (t.rd .TIER_HOT_SLOT i) == f)

section
variable (s : State) (n f : Nat) (pub : List Byte)

theorem sealStates_keeps {β : Type} {p : State → β} (hwr : ∀ (t : State) g v i, p (t.wr g v i) = p t) : p (sealStates s n f) = p (s.dropKy n) :=
  (hwr _ _ _ _).trans ((hwr _ _ _ _).trans ((hwr _ _ _ _).trans (setSeals_keeps (fun t _ _ => hwr t _ _ _) _ _ _)))

theorem sealAnswer_eq {r : KyReq} (hr : s.kyreq? n = some r) (hask : r.ask = .create) :
    s.sealAnswer n pub = ((sealMade s n r.flask pub).sealInv s n r.flask).waitSeal { slot := n, flask := r.flask } := by
  unfold State.sealAnswer
  rw [hr]
  dsimp only
  rw [hask]
  rfl

theorem mouldsOf_sealStates : (sealStates s n f).mouldsOf f = s.mouldsOf f := by
  rw [State.mouldsOf, sealStates_keeps s n f (p := State.moulds) fun _ _ _ _ => rfl]
  rfl

theorem rd_sealMade {g : Field} (hg : g ∉ hotRegs) (i : Nat) : (sealMade s n f pub).rd g i = (sealStates s n f).rd g i :=
  disarmIf_of_hot (p := fun t => t.rd g i) (fun _ _ _ _ hf => rd_wr_ne _ _ (.inl (ne_of_mem_of_not_mem hf hg))) _ _

end

/-! ## The envelope of a sealed command (R385, R388) -/

theorem take_dieRead (s : State) (a : Nat) {k m : Nat} (h : k ≤ m) : (s.dieRead a m).take k = s.dieRead a k := by
  rw [State.dieRead, ← List.map_take, List.take_range, min_eq_left h, State.dieRead]

/-- The operation of an envelope stands in its header. -/
theorem envOp_envelope (s : State) (n : Nat) : envOp (s.envelope n) = envOp (s.dieRead (s.par n 1) 64) := by
  have hlen : 8 ≤ envLen (s.dieRead (s.par n 1) 64) := by unfold envLen; omega
  have hfirst (m : Nat) (hm : 8 ≤ m) : slice (s.dieRead (s.par n 1) m) (8 * 0) 8 = slice (s.dieRead (s.par n 1) 8) (8 * 0) 8 := by
    have hdrop (bs : List Byte) : bs.drop (8 * 0) = bs := rfl
    rw [slice, slice, hdrop, hdrop, take_dieRead s _ hm, take_dieRead s _ (Nat.le_refl 8)]
  rw [envOp, fld, leAt, State.envelope, hfirst _ hlen, envOp, fld, leAt, hfirst 64 (by decide)]

theorem envelope_begun (s : State) (n : Nat) : (s.begun n).envelope n = s.envelope n := by
  rw [State.envelope, par_begun, dieRead_congr (sameMem_begun s n), dieRead_congr (sameMem_begun s n), State.envelope]

/-- A sealed command runs its own row. -/
theorem sealedRow_of_starts {s : State} {n op : Nat} (hs : s.starts n 0x14) (henv : s.envelopeOf n op) (body : State → State) :
    s.sealedRow n op body = (body (s.begun n)).unclaim := by
  obtain ⟨hop, hclean⟩ := henv
  have hown : (s.opcode n = 0x0014 && envOp (s.dieRead (s.par n 1) 64) != op && decide (1 ≤ envOp (s.dieRead (s.par n 1) 64) ∧
      envOp (s.dieRead (s.par n 1) 64) ≤ 6)) = false := by
    rw [hop, bne_self_eq_false, Bool.and_false, Bool.false_and]
  refine (if_neg (fun h => Bool.false_ne_true (hown.symm.trans h))).trans (mbHome_of_starts hs ?_ body)
  simp [hclean]

/-- What a sealed command that is refused leaves, of a state t in which it has written the fields of l alone. -/
theorem refuseCmd_leaves {s b t : State} {n st : Nat} {l : List (Field × Nat)} (hn : n < 16) (hst : st < 2 ^ 16) (hmem : sameMem s t)
    (hregs : onlyRegs b t l) (hcount : t.rd .FL_STATS_CMD_REFUSED = s.rd .FL_STATS_CMD_REFUSED) :
    sameMem s (t.refuseCmd n st) ∧ (t.refuseCmd n st).replied n st ∧ s.counts (t.refuseCmd n st) .FL_STATS_CMD_REFUSED ∧
      onlyRegs b (t.refuseCmd n st) (replyFields n ++ (.FL_STATS_CMD_REFUSED, 0) :: l) := by
  refine ⟨(sameMem_reply _ _ _ _ _).2 hmem, replied_reply _ _ hn hst, ?_, ?_⟩
  · rw [State.counts, State.refuseCmd, rd_reply_nil _ _ _ (not_mem_replyFields (by decide) _ _), rd_bump_same, hcount]
  · exact onlyRegs_trans (onlyRegs_bump (onlyRegs_mono hregs fun p hp => List.mem_cons_of_mem _ hp) List.mem_cons_self 1)
      (onlyRegs_reply _ _ _ _ (by simp))

theorem rd_refuseCmd {f : Field} (hf : f ∉ replyNames) (hr : f ≠ .FL_STATS_CMD_REFUSED) (t : State) (n st i : Nat) :
    (t.refuseCmd n st).rd f i = t.rd f i :=
  (rd_reply_nil _ _ _ (not_mem_replyFields hf _ _)).trans (rd_bump_ne _ 1 (.inl hr.symm))

/-! ## CONFIRM (R386) -/

section
variable {s : State} {n : Nat}

/-- A CONFIRM at its start point. -/
theorem confirmBody_of_env (href : (s.begun n).frefOk n = true) (hop : envOp (s.envelope n) = opCONFIRM) :
    ∃ mt, let t : State := { s.begun n with meter := mt }
    (s.begun n).confirmBody n = if !t.envFits n (s.envelope n) || t.claimed (s.fref n).1 KyAsk.isConfirm then t.refuseCmd n stSTATE
      else t.askKyrdo n (s.fref n).1 (.confirm (t.flaskGen (s.fref n).1) (s.envelope n)) := by
  obtain ⟨mt, hmt⟩ := countFor_eq (s.begun n) (.overhead (s.fref n).1) 9 (s.envelope n).length
  refine ⟨mt, ?_⟩
  unfold State.confirmBody
  rw [fref_begun, envelope_begun, href]
  dsimp only
  rw [hmt]
  exact (if_neg (by decide)).trans (if_neg (not_not.2 hop))

/-- A key that Kyrdo has derived for a CONFIRM of flask f is in slot k, and the flask is SEALED. -/
def confirmed (s : State) (f k : Nat) (key : List Byte) : State :=
  let t := (((s.wr .KEY_SLOT_VALID 1 k).wr .KEY_SLOT_USE 3 k).wr .KEY_SLOT_FLASK f k).wr .KEY_SLOT_FLASK_GEN (s.flaskGen f) k
  let t := t.putKey k key
  let t := t.setVault { t.vault f with everSealed := true }
  (((t.wr .FL_CMD_SLOT k f).wr .FL_STATE flSEALED f).flaskCause f .FL_CAUSE_SEALED_OK).bump .FL_STATS_CMD_OK

theorem confirmed_leaves (s : State) {f k : Nat} (hf : f < 64) (hk : k < 256) (key : List Byte) :
    let t := confirmed s f k key
    t.flaskState f = flSEALED ∧ t.rd .KEY_SLOT_VALID k = 1 ∧ t.rd .KEY_SLOT_USE k = 3 ∧ t.rd .KEY_SLOT_FLASK k = f ∧ (k, key) ∈ keyNames t ∧
      t.rd .FL_CMD_SLOT f = k ∧ t.rd .FL_CAUSE_SEALED_OK f = 1 ∧ s.counts t .FL_STATS_CMD_OK := by
  let t1 := ((((s.wr .KEY_SLOT_VALID 1 k).wr .KEY_SLOT_USE 3 k).wr .KEY_SLOT_FLASK f k).wr .KEY_SLOT_FLASK_GEN (s.flaskGen f) k).putKey k key
  let t2 := ((t1.setVault { t1.vault f with everSealed := true }).wr .FL_CMD_SLOT k f).wr .FL_STATE flSEALED f
  obtain ⟨hcause, -, hother⟩ := flaskCause_leaves t2 f (c := .FL_CAUSE_SEALED_OK) (by decide) (by decide)
  have hrd {g : Field} (hg : g ∉ [Field.FL_CAUSE_SEALED_OK, .EV_SRC_PENDING, .EV_STATS_MERGED, .FL_STATS_CMD_OK]) (i : Nat) :
      (confirmed s f k key).rd g i = t2.rd g i := by
    simp only [List.mem_cons, List.not_mem_nil, or_false, not_or] at hg
    obtain ⟨hc, hp, hm, hok⟩ := hg
    exact (rd_bump_ne _ 1 (.inl (Ne.symm hok))).trans (hother g i hc hp hm)
  have hkeys : (confirmed s f k key).keys = t1.keys := raise_keeps State.keys (fun _ _ _ _ => rfl) _ _
  have hslot {g : Field} (hg : g ∉ [Field.FL_CMD_SLOT, .FL_STATE]) (i : Nat) : t2.rd g i = t1.rd g i := by
    simp only [List.mem_cons, List.not_mem_nil, or_false, not_or] at hg
    exact (rd_wr_ne _ _ (.inl (Ne.symm hg.2))).trans (rd_wr_ne _ _ (.inl (Ne.symm hg.1)))
  refine ⟨?_, ?_, ?_, ?_, ?_, ?_, ?_, ?_⟩
  · exact (hrd (by decide) _).trans (rd_wr_same _ _ _ _)
  · exact (hrd (by decide) _).trans ((hslot (by decide) _).trans ((rd_wr_ne _ _ (.inl (by decide))).trans ((rd_wr_ne _ _ (.inl (by decide))).trans
      ((rd_wr_ne _ _ (.inl (by decide))).trans (rd_wr_one _ _ _)))))
  · exact (hrd (by decide) _).trans ((hslot (by decide) _).trans ((rd_wr_ne _ _ (.inl (by decide))).trans ((rd_wr_ne _ _ (.inl (by decide))).trans
      (rd_wr_same _ _ _ _))))
  · exact (hrd (by decide) _).trans ((hslot (by decide) _).trans ((rd_wr_ne _ _ (.inl (by decide))).trans ((rd_wr_same _ _ _ _).trans
      (Nat.mod_eq_of_lt hf))))
  · rw [keyNames, hkeys]
    exact List.mem_map.2 ⟨_, List.mem_append_right _ List.mem_cons_self, rfl⟩
  · exact (hrd (by decide) _).trans ((rd_wr_ne _ _ (.inl (by decide))).trans ((rd_wr_same _ _ _ _).trans (Nat.mod_eq_of_lt hk)))
  · exact (rd_bump_ne _ 1 (.inl (by decide))).trans hcause
  · refine (rd_bump_same _ _ _ _).trans ?_
    rw [hother _ _ (by decide) (by decide) (by decide)]
    have hcount : t1.rd .FL_STATS_CMD_OK = s.rd .FL_STATS_CMD_OK := (rd_wr_ne _ _ (.inl (by decide))).trans ((rd_wr_ne _ _ (.inl (by decide))).trans
      ((rd_wr_ne _ _ (.inl (by decide))).trans (rd_wr_ne _ _ (.inl (by decide)))))
    rw [hslot (by decide), hcount]

/-- A CONFIRM whose tag, sequence number, form and digest are right. -/
theorem confirmAnswer_of_key {s : State} {n k : Nat} {key e : List Byte} (hlow : lowest 256 (fun k => !s.on .KEY_SLOT_VALID k) = some k)
    (hfits : s.envFits n e = true) (hopen : envOpen key e = some (sha384 (s.publicClaim (s.fref n).1))) (hseq : envSeq e = 0)
    (hput : (s.publicBuf (s.fref n).1 (s.par n 1) (envLen e) && decide (envLen e ≤ 4096) && s.replyPlace n (s.fref n).1 0 && envClean e &&
      envClen e == 128 && envElen e == 48 && zeroFrom e 161 192) = true) :
    ∃ mt, s.confirmAnswer n e (some key) = ((confirmed { s with meter := mt } (s.fref n).1 k key).replyEnv n
      { slot := k, key := key } opCONFIRM (s.fref n).1 (s.flaskGen (s.fref n).1) 0 stOK []).reply n stOK := by
  obtain ⟨mt, hmt⟩ := countFor_eq s (.overhead (s.fref n).1) 11 (envElen e)
  refine ⟨mt, ?_⟩
  unfold State.confirmAnswer
  rw [hfits, hlow]
  dsimp only
  rw [hopen, (show s.countOpen (s.fref n).1 e = { s with meter := mt } from hmt)]
  dsimp only
  have hput : (({ s with meter := mt } : State).publicBuf (s.fref n).1 (({ s with meter := mt } : State).par n 1) (envLen e) && decide (envLen e ≤ 4096) &&
      ({ s with meter := mt } : State).replyPlace n (s.fref n).1 0 && envClean e && envClen e == 128 && envElen e == 48 && zeroFrom e 161 192) = true := hput
  have hclaim : ({ s with meter := mt } : State).publicClaim (s.fref n).1 = s.publicClaim (s.fref n).1 := rfl
  rw [hput, hclaim]
  exact (if_neg (by decide)).trans ((if_neg (not_not.2 hseq)).trans ((if_neg (by decide)).trans ((if_neg (not_not.2 rfl)).trans rfl)))

/-- What a CONFIRM that replies OK leaves. -/
theorem confirmed_replied {s : State} {n f k : Nat} (hn : n < 16) (hf : f < 64) (hk : k < 256) (key : List Byte) (gen : Nat) :
    let u := ((confirmed s f k key).replyEnv n { slot := k, key := key } opCONFIRM f gen 0 stOK []).reply n stOK
    u.replied n stOK ∧ u.flaskState f = flSEALED ∧ u.holdsKey k 3 f ∧ u.rd .FL_CMD_SLOT f = k ∧ u.rd .FL_CAUSE_SEALED_OK f = 1 ∧
      s.counts u .FL_STATS_CMD_OK := by
  obtain ⟨hstate, hvalid, huse, hflask, hname, hslot, hcause, hcount⟩ := confirmed_leaves s hf hk key
  have hnames := keyNames_replyEnv (confirmed s f k key) n { slot := k, key := key } opCONFIRM f gen 0 stOK []
  have hrd (g : Field) (i : Nat) := rd_replyEnv (confirmed s f k key) n { slot := k, key := key } opCONFIRM f gen 0 stOK [] g i
  generalize confirmed s f k key = t at *
  generalize t.replyEnv n { slot := k, key := key } opCONFIRM f gen 0 stOK [] = v at *
  have hrd {g : Field} (hg : g ∉ replyNames) (i : Nat) : (v.reply n stOK).rd g i = t.rd g i :=
    (rd_reply_nil _ _ _ (not_mem_replyFields hg _ _)).trans (hrd g i)
  have hnames : keyNames (v.reply n stOK) = keyNames t := (reply_keeps keyNames (fun _ _ _ _ => rfl) v n stOK []).trans hnames
  rw [← hnames] at hname
  obtain ⟨m, hm, hms, -⟩ := mem_keyNames hname
  exact ⟨replied_reply _ _ hn (by decide), (hrd (by decide) _).trans hstate, ⟨(hrd (by decide) _).trans hvalid, (hrd (by decide) _).trans huse,
    (hrd (by decide) _).trans hflask, m, hm, hms⟩, (hrd (by decide) _).trans hslot, (hrd (by decide) _).trans hcause, (hrd (by decide) _).trans hcount⟩

end

/-- Settles O50 (R380, R381, R386). -/
theorem flasksAreSealed : Obligations.FlasksAreSealed := by
  refine ⟨fun s n hs => ?_, fun s n pub r hr hask => ?_, fun s f => ?_, fun s n hs henv => ?_, fun s n g r e hn hr hask => ?_⟩
  · intro b f runs bad href
    have hn : n < 16 := hs.1
    have hseal : (b.flaskSeal n) = if b.flaskState f ≠ flOPEN then b.reply n stSTATE else if b.flaskBusy f then b.reply n stSTATE
        else if bad then b.reply n stBADARG else b.askKyrdo n f .create := by
      unfold State.flaskSeal
      rw [fref_begun, sealRuns_begun, href]
      rfl
    have hrun {u : State} (h : b.flaskSeal n = u) := congrArg s.after ((mbRun_of_starts hs fun t => t.flaskSeal n).trans (congrArg State.unclaim h))
    refine ⟨fun hopen hbusy hgood => ?_, fun hwork => ?_, fun hopen hbusy hbad => ?_⟩
    · rw [if_neg (not_not.2 hopen), hbusy, hgood] at hseal
      exact ⟨_, hrun hseal, askKyrdo_leaves hn (sameMem_begun s n) f _⟩
    · have hstate : b.flaskSeal n = b.reply n stSTATE := by
        rw [hseal]
        rcases hwork with h | h
        · rw [if_pos h]
        · rw [h, if_pos rfl, ite_self]
      exact ⟨_, hrun hstate, reply_begun_leaves hn (by decide)⟩
    · rw [if_neg (not_not.2 hopen), hbusy, hbad] at hseal
      exact ⟨_, hrun hseal, reply_begun_leaves hn (by decide)⟩
  · refine ⟨_, congrArg s.after (sealAnswer_eq s n pub hr hask), ?_⟩
    have hkeep {β : Type} {p : State → β} (h : blindToSeals p) : p (((sealMade s n r.flask pub).sealInv s n r.flask).waitSeal { slot := n, flask := r.flask }) =
        p (sealMade s n r.flask pub) := (h.waitSeal _ _).trans (h.sealInv _ _ _ _)
    have hstates {β : Type} {p : State → β} (h : blindToSeals p) (hv : ∀ (t : State) v, p { t with vaults := v } = p t) :
        p (((sealMade s n r.flask pub).sealInv s n r.flask).waitSeal { slot := n, flask := r.flask }) = p (sealStates s n r.flask) :=
      (hkeep h).trans ((disarmIf_of_hot h.invs.hot _ _).trans (hv _ _))
    have hrd {g : Field} (hg : g ∉ hotRegs) (i : Nat) :
        (((sealMade s n r.flask pub).sealInv s n r.flask).waitSeal { slot := n, flask := r.flask }).rd g i = (sealStates s n r.flask).rd g i :=
      hstates (p := fun t => t.rd g i) ⟨.of_rd hg i, fun _ _ => rfl, fun _ _ => rfl, fun _ _ => rfl⟩ fun _ _ => rfl
    have hvault : (((sealMade s n r.flask pub).sealInv s n r.flask).waitSeal { slot := n, flask := r.flask }).vault r.flask =
        sealVault (sealStates s n r.flask) r.flask pub := by
      have h := hkeep (p := State.vaults) ⟨⟨fun _ _ _ _ _ => rfl, fun _ _ _ _ _ => rfl⟩, fun _ _ => rfl, fun _ _ => rfl, fun _ _ => rfl⟩
      exact (vault_of_vaults (h.trans (disarmIf_keeps State.vaults (fun _ _ _ _ => rfl) _ _)) _).trans (vault_setVault _ _)
    refine ⟨sameMem_of_eq ?_ ?_, ?_, ?_, ?_, ?_, ?_, fun i hi => ?_, ?_⟩
    · exact (hstates (p := State.hbm) ⟨⟨fun _ _ _ _ _ => rfl, fun _ _ _ _ _ => rfl⟩, fun _ _ => rfl, fun _ _ => rfl, fun _ _ => rfl⟩ fun _ _ => rfl).trans
        (sealStates_keeps s n r.flask fun _ _ _ _ => rfl)
    · exact (hstates (p := State.wbuf) ⟨⟨fun _ _ _ _ _ => rfl, fun _ _ _ _ _ => rfl⟩, fun _ _ => rfl, fun _ _ => rfl, fun _ _ => rfl⟩ fun _ _ => rfl).trans
        (sealStates_keeps s n r.flask fun _ _ _ _ => rfl)
    · exact (hrd (by decide) _).trans ((rd_wr_ne _ _ (.inl (by decide))).trans ((rd_wr_ne _ _ (.inl (by decide))).trans (rd_wr_same _ _ _ _)))
    · exact (hrd (by decide) _).trans ((rd_wr_ne _ _ (.inl (by decide))).trans (rd_wr_same _ _ _ _))
    · exact (hrd (by decide) _).trans (rd_wr_same _ _ _ _)
    · exact congrArg (fun v => v.pub) hvault
    · exact (congrArg (fun v => v.chain) hvault).trans (by rw [sealVault, mouldsOf_sealStates])
    · exact (hrd (by decide) _).trans ((rd_wr_ne _ _ (.inl (by decide))).trans ((rd_wr_ne _ _ (.inl (by decide))).trans
        ((rd_wr_ne _ _ (.inl (by decide))).trans (rd_setSeals_of_lt (s.dropKy n) r.flask (sealedAs_lt _) hi))))
    · obtain ⟨w, hw, hslot, hflask, hop, -, hlines⟩ := waitSeal_waits ((sealMade s n r.flask pub).sealInv s n r.flask) { slot := n, flask := r.flask }
      refine ⟨w, hw, hslot, hflask, hop, fun l hheld hin hsealed => hlines l ?_ hin hsealed⟩
      have hfilter := (blindToSeals.sealInv (p := fun t : State => t.hlp.filter) ⟨⟨fun _ _ _ _ _ => rfl, fun _ _ _ _ _ => rfl⟩, fun _ _ => rfl, fun _ _ => rfl,
        fun _ _ => rfl⟩ (sealMade s n r.flask pub) s n r.flask).trans ((disarmIf_keeps (fun t : State => t.hlp.filter) (fun _ _ _ _ => rfl) _ _).trans
          (sealStates_keeps s n r.flask (p := fun t : State => t.hlp.filter) fun _ _ _ _ => rfl))
      rw [State.hostHeld, hfilter]
      exact hheld
  · refine ⟨_, rfl, sameMem_of_eq rfl rfl, fun _ _ _ => rfl, fun w hw => ?_⟩
    have hmem := updAll_mem (p := fun w : SealWait => w.flask == f && !w.lines.any s.hostHeld && (s.sealedWaits f).isEmpty)
      (f := fun w => { w with lines := [] }) hw
    have hiff : (w.flask == f && !w.lines.any s.hostHeld && (s.sealedWaits f).isEmpty) = true ↔
        w.flask = f ∧ s.sealedWaits f = [] ∧ ∀ l ∈ w.lines, s.hostHeld l = false := by
      simp [and_assoc]
      exact fun _ => and_comm
    by_cases hdone : w.flask = f ∧ s.sealedWaits f = [] ∧ ∀ l ∈ w.lines, s.hostHeld l = false
    · rw [if_pos hdone]
      rwa [if_pos (hiff.2 hdone)] at hmem
    · rw [if_neg hdone]
      rwa [if_neg fun h => hdone (hiff.1 h)] at hmem
  · intro b f href
    have hn : n < 16 := hs.1
    obtain ⟨mt, hbody⟩ := confirmBody_of_env href ((envOp_envelope s n).trans henv.1)
    have hgen : b.flaskGen f = s.flaskGen f := rd_begun s n (by decide) (by decide) (by decide) _
    have hrun {u : State} (h : b.confirmBody n = u) :=
      congrArg s.after ((sealedRow_of_starts hs henv fun t => t.confirmBody n).trans (congrArg State.unclaim h))
    refine ⟨fun hfits hclaim => ?_, fun hfits => ?_⟩
    · have hask : b.confirmBody n = ({ b with meter := mt } : State).askKyrdo n f (.confirm (s.flaskGen f) (s.envelope n)) := by
        refine hbody.trans ((if_neg ?_).trans ?_)
        · have hfits : ({ b with meter := mt } : State).envFits n (s.envelope n) = true := hfits
          have hclaim : ({ b with meter := mt } : State).claimed f KyAsk.isConfirm = false := hclaim
          rw [hfits, hclaim]
          decide
        · exact congrArg (fun g => ({ b with meter := mt } : State).askKyrdo n f (.confirm g (s.envelope n))) hgen
      exact ⟨_, hrun hask, sameMem_begun s n, ⟨slotState_begun s hn, List.mem_cons_self, rfl⟩, fun _ _ _ => rfl⟩
    · have hrefuse : b.confirmBody n = ({ b with meter := mt } : State).refuseCmd n stSTATE := by
        have hfits : ({ b with meter := mt } : State).envFits n (s.envelope n) = false := hfits
        refine hbody.trans (if_pos ?_)
        rw [hfits]
        rfl
      exact ⟨_, hrun hrefuse, refuseCmd_leaves hn (by decide) (sameMem_begun s n) (fun _ _ _ => rfl) (rd_begun s n (by decide) (by decide) (by decide) 0)⟩
  · intro f
    have hf : f < 64 := Nat.mod_lt _ (by decide)
    have hanswer (ans : KyAns) (key : Option (List Byte)) (hans : ans = .refused ∧ key = none ∨ ∃ k, ans = .key k ∧ key = some k) :
        s.kyrdoAnswer n ans = (s.dropKy n).confirmAnswer n e key := by
      unfold State.kyrdoAnswer
      rw [hr]
      dsimp only
      rw [hask]
      rcases hans with ⟨rfl, rfl⟩ | ⟨k, rfl, rfl⟩ <;> rfl
    refine ⟨fun hfits => ?_, fun key k hlow hfits => ⟨fun hopen => ?_, fun hopen hseq hput => ?_⟩⟩
    · have hrefuse : (s.dropKy n).confirmAnswer n e none = (s.dropKy n).refuseCmd n stDENIED := by
        have hfits : (s.dropKy n).envFits n e = true := hfits
        unfold State.confirmAnswer
        rw [hfits]
        rfl
      exact ⟨_, congrArg s.after ((hanswer .refused none (.inl ⟨rfl, rfl⟩)).trans hrefuse),
        refuseCmd_leaves hn (by decide) (sameMem_of_eq rfl rfl) (fun _ _ _ => rfl) rfl⟩
    · obtain ⟨mt, hmt⟩ := countFor_eq (s.dropKy n) (.overhead f) 11 (envElen e)
      have hrefuse : (s.dropKy n).confirmAnswer n e (some key) = (({ s.dropKy n with meter := mt } : State).wr .FL_ERR_CMD_AUTH 1).refuseCmd n stDENIED := by
        have hfits : (s.dropKy n).envFits n e = true := hfits
        unfold State.confirmAnswer
        rw [hfits]
        dsimp only
        rw [hopen, State.countOpen, ← hmt]
        rfl
      refine ⟨_, congrArg s.after ((hanswer (.key key) (some key) (.inr ⟨key, rfl, rfl⟩)).trans hrefuse), ?_⟩
      obtain ⟨hmem, hreplied, -, hregs⟩ := refuseCmd_leaves (s := s) (b := s) (t := ({ s.dropKy n with meter := mt } : State).wr .FL_ERR_CMD_AUTH 1)
        (st := stDENIED) (l := [(.FL_ERR_CMD_AUTH, 0)]) hn (by decide) (sameMem_of_eq rfl rfl)
        (onlyRegs_wr (fun _ _ _ => rfl) List.mem_cons_self 1) (rd_wr_ne _ _ (.inl (by decide)))
      exact ⟨hmem, hreplied, (rd_refuseCmd (by decide) (by decide) _ _ _ _).trans (rd_wr_one _ _ _), hregs⟩
    · obtain ⟨mt, hkey⟩ := confirmAnswer_of_key (s := s.dropKy n) hlow hfits hopen hseq hput
      have hk : k < 256 := (lowest_some.1 hlow).1
      refine ⟨_, congrArg s.after ((hanswer (.key key) (some key) (.inr ⟨key, rfl, rfl⟩)).trans hkey), ?_⟩
      exact confirmed_replied (s := ({ s.dropKy n with meter := mt } : State)) hn hf hk key _

end Sys2Proof.Laws

/-! # Sealed commands

The commands of a SEALED flask, their refusals and their effects (R387 to R393). -/
namespace Sys2Proof.Laws

open Sys2Proof.Machine

/-! ## The checks (R388) -/

section
variable {s : State} {n : Nat}

@[simp] theorem begun_vaults (s : State) (n : Nat) : (s.begun n).vaults = s.vaults :=
  begun_keeps State.vaults (fun _ _ => rfl) (fun _ _ _ => rfl) (fun _ _ _ => rfl) s n

theorem vault_begun (s : State) (n f : Nat) : (s.begun n).vault f = s.vault f := vault_of_vaults (begun_vaults s n) f

variable {act : State → Nat → Nat → List Byte → Effect} (href : s.frefOk n = true)
include href

/-- A sealed command whose flask, generation or state does not fit. -/
theorem sealedBody_of_unfit (hfits : s.envFits n (s.envelope n) = false) :
    ∃ mt, s.sealedBody n act = ({ s with meter := mt } : State).refuseCmd n stSTATE := by
  obtain ⟨mt, hmt⟩ := countFor_eq s (.overhead (s.fref n).1) 9 (s.envelope n).length
  have hfits : ({ s with meter := mt } : State).envFits n (s.envelope n) = false := hfits
  refine ⟨mt, ?_⟩
  unfold State.sealedBody
  rw [href]
  dsimp only
  rw [hmt, hfits]
  rfl

variable {m : KeyMat} (hfits : s.envFits n (s.envelope n) = true) (hkey : s.cmdKey (s.fref n).1 = some m)
include hfits hkey

/-- A sealed command whose tag does not verify. -/
theorem sealedBody_of_unopened (hopen : envOpen m.key (s.envelope n) = none) :
    ∃ mt, s.sealedBody n act = (({ s with meter := mt } : State).wr .FL_ERR_CMD_AUTH 1).refuseCmd n stDENIED := by
  obtain ⟨mt, hmt⟩ := countFor_eq s (.overhead (s.fref n).1) 9 (s.envelope n).length
  obtain ⟨mt', hmt'⟩ := countFor_eq ({ s with meter := mt } : State) (.overhead (s.fref n).1) 11 (envElen (s.envelope n))
  have hopened : ({ s with meter := mt } : State).countOpen (s.fref n).1 (s.envelope n) = { s with meter := mt' } := hmt'
  have hfits : ({ s with meter := mt } : State).envFits n (s.envelope n) = true := hfits
  have hkey : ({ s with meter := mt } : State).cmdKey (s.fref n).1 = some m := hkey
  refine ⟨mt', ?_⟩
  unfold State.sealedBody
  rw [href]
  dsimp only
  rw [hmt, hfits, hkey]
  dsimp only
  rw [hopen, hopened]
  rfl

variable {pt : List Byte} (hopen : envOpen m.key (s.envelope n) = some pt)
include hopen

/-- A sealed command with another sequence number. -/
theorem sealedBody_of_unordered (hseq : envSeq (s.envelope n) ≠ (s.vault (s.fref n).1).cseq + 1) :
    ∃ mt, s.sealedBody n act = (({ s with meter := mt } : State).wr .FL_ERR_CMD_SEQ 1).refuseCmd n stSTATE := by
  obtain ⟨mt, hmt⟩ := countFor_eq s (.overhead (s.fref n).1) 9 (s.envelope n).length
  obtain ⟨mt', hmt'⟩ := countFor_eq ({ s with meter := mt } : State) (.overhead (s.fref n).1) 11 (envElen (s.envelope n))
  have hopened : ({ s with meter := mt } : State).countOpen (s.fref n).1 (s.envelope n) = { s with meter := mt' } := hmt'
  have hfits : ({ s with meter := mt } : State).envFits n (s.envelope n) = true := hfits
  have hkey : ({ s with meter := mt } : State).cmdKey (s.fref n).1 = some m := hkey
  refine ⟨mt', ?_⟩
  unfold State.sealedBody
  rw [href]
  dsimp only
  rw [hmt, hfits, hkey]
  dsimp only
  rw [hopen, hopened]
  exact if_pos hseq

/-- A sealed command that has taken effect in t advances its flask's sequence number. -/
def commandDone (t : State) (f seq : Nat) : State := (t.setVault { t.vault f with cseq := seq }).bump .FL_STATS_CMD_OK

/-- A sealed command that passes every check has its effect, or is refused by it. -/
theorem sealedBody_of_good (hseq : envSeq (s.envelope n) = (s.vault (s.fref n).1).cseq + 1)
    (hput : s.wellPut n (envOp (s.envelope n)) (if envOp (s.envelope n) = opKEY_IMPORT then 1 else 0) pt = true) :
    ∃ mt, (∀ st, act { s with meter := mt } n (s.fref n).1 pt = .error st → s.sealedBody n act = ({ s with meter := mt } : State).refuseEnv n m (s.envelope n) st) ∧
      ∀ payload t wait, act { s with meter := mt } n (s.fref n).1 pt = .ok (payload, t, wait) → s.sealedBody n act =
        if wait then (commandDone t (s.fref n).1 ((s.vault (s.fref n).1).cseq + 1)).waitSeal
          { slot := n, flask := (s.fref n).1, op := some (envOp (s.envelope n), payload), cseq := (s.vault (s.fref n).1).cseq + 1 }
        else ((commandDone t (s.fref n).1 ((s.vault (s.fref n).1).cseq + 1)).replyEnv n m (envOp (s.envelope n)) (s.fref n).1 (s.flaskGen (s.fref n).1)
          ((s.vault (s.fref n).1).cseq + 1) stOK payload).reply n stOK := by
  obtain ⟨mt, hmt⟩ := countFor_eq s (.overhead (s.fref n).1) 9 (s.envelope n).length
  obtain ⟨mt', hmt'⟩ := countFor_eq ({ s with meter := mt } : State) (.overhead (s.fref n).1) 11 (envElen (s.envelope n))
  have hopened : ({ s with meter := mt } : State).countOpen (s.fref n).1 (s.envelope n) = { s with meter := mt' } := hmt'
  have hfits : ({ s with meter := mt } : State).envFits n (s.envelope n) = true := hfits
  have hkey : ({ s with meter := mt } : State).cmdKey (s.fref n).1 = some m := hkey
  have hput : ({ s with meter := mt' } : State).wellPut n (envOp (s.envelope n)) (if envOp (s.envelope n) = opKEY_IMPORT then 1 else 0) pt = true := hput
  refine ⟨mt', ?_⟩
  unfold State.sealedBody
  rw [href]
  dsimp only
  rw [hmt, hfits, hkey]
  dsimp only
  rw [hopen, hopened]
  dsimp only
  refine ⟨fun st hact => ?_, fun payload t wait hact => ?_⟩
  · rw [hact]
    exact (if_neg (by decide)).trans ((if_neg (by decide)).trans ((if_neg (not_not.2 hseq)).trans (if_neg fun h => by
      rw [Bool.not_eq_true'] at h
      exact Bool.false_ne_true (h.symm.trans hput))))
  · rw [hact]
    exact (if_neg (by decide)).trans ((if_neg (by decide)).trans ((if_neg (not_not.2 hseq)).trans (if_neg fun h => by
      rw [Bool.not_eq_true'] at h
      exact Bool.false_ne_true (h.symm.trans hput))))

end

/-! ## What a sealed command that takes effect leaves -/

section
variable {s t : State} {n f seq : Nat}

theorem vault_commandDone (t : State) (f seq : Nat) : (commandDone t f seq).vault f = { t.vault f with cseq := seq } := by
  have h := vault_setVault t { t.vault f with cseq := seq }
  have hf : ({ t.vault f with cseq := seq } : Vault).flask = f := vault_flask t f
  rw [hf] at h
  exact h

theorem rd_commandDone {g : Field} (hg : g ≠ .FL_STATS_CMD_OK) (t : State) (f seq i : Nat) : (commandDone t f seq).rd g i = t.rd g i :=
  rd_bump_ne _ 1 (.inl hg.symm)

theorem counts_commandDone (h : t.rd .FL_STATS_CMD_OK = s.rd .FL_STATS_CMD_OK) (f seq : Nat) : s.counts (commandDone t f seq) .FL_STATS_CMD_OK := by
  rw [State.counts, ← h]
  exact rd_bump_same _ _ _ _

/-- A command that replies at once. -/
theorem done_leaves (hn : n < 16) (h : t.rd .FL_STATS_CMD_OK = s.rd .FL_STATS_CMD_OK) (m : KeyMat) (op gen : Nat) (payload : List Byte) :
    let u := ((commandDone t f seq).replyEnv n m op f gen seq stOK payload).reply n stOK
    u.replied n stOK ∧ s.counts u .FL_STATS_CMD_OK ∧ u.vault f = { t.vault f with cseq := seq } ∧ keyNames u = keyNames t ∧
      ∀ g i, g ∉ replyNames → g ≠ .FL_STATS_CMD_OK → u.rd g i = t.rd g i := by
  intro u
  have hrd (g : Field) (i : Nat) (hg : g ∉ replyNames) : u.rd g i = (commandDone t f seq).rd g i :=
    (rd_reply_nil _ _ _ (not_mem_replyFields hg _ _)).trans (rd_replyEnv _ _ _ _ _ _ _ _ _ _ _)
  refine ⟨replied_reply _ _ hn (by decide), ?_, ?_, ?_, fun g i hg hne => (hrd g i hg).trans (rd_commandDone hne t f seq i)⟩
  · rw [State.counts, hrd _ _ (by decide)]
    exact counts_commandDone h f seq
  · have hvaults : u.vaults = (commandDone t f seq).vaults := (reply_keeps State.vaults (fun _ _ _ _ => rfl) _ _ _ _).trans (vaults_replyEnv _ _ _ _ _ _ _ _ _)
    exact (vault_of_vaults hvaults f).trans (vault_commandDone t f seq)
  · exact (reply_keeps keyNames (fun _ _ _ _ => rfl) _ _ _ _).trans (keyNames_replyEnv _ _ _ _ _ _ _ _ _)

/-- A command that waits for its invalidations and recalls. -/
theorem wait_leaves (h : t.rd .FL_STATS_CMD_OK = s.rd .FL_STATS_CMD_OK) (w : SealWait) :
    let u := (commandDone t f seq).waitSeal w
    sameMem t u ∧ s.counts u .FL_STATS_CMD_OK ∧ u.vault f = { t.vault f with cseq := seq } ∧ u.xl.invs = t.xl.invs ∧
      (∃ v ∈ u.seals, v.slot = w.slot ∧ v.flask = w.flask ∧ v.op = w.op) ∧ ∀ g i, g ≠ .FL_STATS_CMD_OK → u.rd g i = t.rd g i := by
  intro u
  have hfold {β : Type} {p : State → β} (h : ∀ t l, p (State.recall t l) = p t) : p (((commandDone t f seq).sealedLines w.flask).foldl State.recall (commandDone t f seq)) =
      p (commandDone t f seq) := foldl_keeps p h _ _
  have hrd (g : Field) (i : Nat) : u.rd g i = (commandDone t f seq).rd g i := hfold (p := fun t => t.rd g i) fun t l => still.rd (still_recall t l) g i
  obtain ⟨v, hv, hslot, hflask, hop, -, -⟩ := waitSeal_waits (commandDone t f seq) w
  refine ⟨sameMem_of_eq ?_ ?_, ?_, ?_, ?_, ⟨v, hv, hslot, hflask, hop⟩, fun g i hg => (hrd g i).trans (rd_commandDone hg t f seq i)⟩
  · exact hfold (p := State.hbm) recall_hbm
  · exact hfold (p := State.wbuf) recall_wbuf
  · rw [State.counts, hrd]
    exact counts_commandDone h f seq
  · have hvaults : u.vaults = (commandDone t f seq).vaults := hfold (p := State.vaults) fun t l => by
      unfold State.recall
      split <;> rfl
    exact (vault_of_vaults hvaults f).trans (vault_commandDone t f seq)
  · exact hfold (p := fun t : State => t.xl.invs) fun t l => by
      unfold State.recall
      split <;> rfl

/-- A command that its effect refuses. -/
theorem refused_leaves (hn : n < 16) {st : Nat} (hst : st < 2 ^ 16) (m : KeyMat) (e : List Byte) (hcount : t.rd .FL_STATS_CMD_REFUSED = s.rd .FL_STATS_CMD_REFUSED) :
    let u := t.refuseEnv n m e st
    u.replied n st ∧ s.counts u .FL_STATS_CMD_REFUSED ∧ u.vaults = t.vaults := by
  have hwr (t : State) (g : Field) (v i : Nat) (_ : g = .FL_STATS_CMD_REFUSED ∨ g ∈ replyNames) : (t.wr g v i).vaults = t.vaults := rfl
  refine ⟨?_, ?_, refuseEnv_keeps blindToMail_vaults (fun _ _ => rfl) hwr t n m e st⟩
  · unfold State.refuseEnv
    exact replied_reply _ _ hn hst
  · unfold State.refuseEnv State.refuseCmd
    dsimp only
    rw [State.counts, rd_reply_nil _ _ _ (not_mem_replyFields (by decide) _ _), rd_bump_same, ← hcount]
    split
    · rw [rd_replyEnv]
    · rfl

end

/-! ## The effects (R389 to R393) -/

section
variable {s : State} {n f : Nat} {pt : List Byte}

theorem blindToSeals_rd {g : Field} (hg : g ∉ hotRegs) (i : Nat) : blindToSeals fun t => t.rd g i :=
  ⟨.of_rd hg i, fun _ _ => rfl, fun _ _ => rfl, fun _ _ => rfl⟩

/-- PUBLIC_SET of granules makes them public, or sealed. -/
theorem doPublicSet_granules (hkind : leAt pt 0 1 = 0) (hnew : leAt pt 1 1 ≤ 1) :
    ∃ t, s.doPublicSet n f pt = .ok ([], t, true) ∧ sameMem s t ∧ t.vaults = s.vaults ∧
      (∀ i, i < leAt pt 12 4 → t.rd .SEAL_GRAN_SEAL (s.rd .FL_BASE f + leAt pt 8 4 + i) = leAt pt 1 1 + 1) ∧
      ∀ g i, g ≠ .SEAL_GRAN_SEAL → g ∉ hotRegs → t.rd g i = s.rd g i := by
  let t := (List.range (leAt pt 12 4)).foldl (fun t i => t.wr .SEAL_GRAN_SEAL (leAt pt 1 1 + 1) (s.rd .FL_BASE f + leAt pt 8 4 + i)) s
  have hkeep {β : Type} {p : State → β} (h : blindToSeals p) (hwr : ∀ (t : State) v i, p (t.wr .SEAL_GRAN_SEAL v i) = p t) : p (t.sealInv s n f) = p s :=
    (h.sealInv _ _ _ _).trans (foldl_keeps p (fun t _ => hwr t _ _) _ s)
  refine ⟨t.sealInv s n f, if_pos hkind, sameMem_of_eq ?_ ?_, ?_, fun i hi => ?_, fun g i hg hhot => ?_⟩
  · exact hkeep (p := State.hbm) ⟨⟨fun _ _ _ _ _ => rfl, fun _ _ _ _ _ => rfl⟩, fun _ _ => rfl, fun _ _ => rfl, fun _ _ => rfl⟩ fun _ _ _ => rfl
  · exact hkeep (p := State.wbuf) ⟨⟨fun _ _ _ _ _ => rfl, fun _ _ _ _ _ => rfl⟩, fun _ _ => rfl, fun _ _ => rfl, fun _ _ => rfl⟩ fun _ _ _ => rfl
  · exact hkeep (p := State.vaults) ⟨⟨fun _ _ _ _ _ => rfl, fun _ _ _ _ _ => rfl⟩, fun _ _ => rfl, fun _ _ => rfl, fun _ _ => rfl⟩ fun _ _ _ => rfl
  · have hgran := (blindToSeals_rd (g := .SEAL_GRAN_SEAL) (by decide) (s.rd .FL_BASE f + leAt pt 8 4 + i)).sealInv t s n f
    refine hgran.trans ((rd_foldl_wr .SEAL_GRAN_SEAL (fun _ => leAt pt 1 1 + 1) (s.rd .FL_BASE f + leAt pt 8 4) hi s).trans (Nat.mod_eq_of_lt ?_))
    have hwidth : Field.SEAL_GRAN_SEAL.row.width = 2 := rfl
    rw [hwidth]
    omega
  · exact hkeep (blindToSeals_rd hhot i) fun t v j => rd_wr_ne t v (.inl hg.symm)

/-- Where a PASID is bound lies in three fields of the atlas slots. -/
theorem boundSlot_wr {g : Field} (hg : g ∉ [Field.XL_ATLAS_VALID, .XL_ATLAS_PASID, .XL_ATLAS_FLASK]) (t : State) (v i a f : Nat) :
    (t.wr g v i).boundSlot a f = t.boundSlot a f := by
  simp only [List.mem_cons, List.not_mem_nil, or_false, not_or] at hg
  obtain ⟨hv, hp, hf⟩ := hg
  have hpasid (b : Nat) : (t.wr g v i).rd .XL_ATLAS_PASID b = t.rd .XL_ATLAS_PASID b := rd_wr_ne _ _ (.inl hp)
  have hflask (b : Nat) : (t.wr g v i).rd .XL_ATLAS_FLASK b = t.rd .XL_ATLAS_FLASK b := rd_wr_ne _ _ (.inl hf)
  simp only [State.boundSlot, State.slotOfPasid, State.atlases, listed_wr_ne t hv, hpasid, hflask]

theorem boundSlot_begun (s : State) (n a f : Nat) : (s.begun n).boundSlot a f = s.boundSlot a f :=
  begun_keeps (fun t => t.boundSlot a f) (fun t _ => boundSlot_wr (by decide) t _ _ a f) (fun t _ _ => boundSlot_wr (by decide) t _ _ a f)
    (fun t _ _ => boundSlot_wr (by decide) t _ _ a f) s n

theorem blindToSeals_boundSlot (a f : Nat) : blindToSeals fun t => t.boundSlot a f := by
  have hdisjoint : ∀ g ∈ hotRegs, g ∉ [Field.XL_ATLAS_VALID, .XL_ATLAS_PASID, .XL_ATLAS_FLASK] := by decide
  exact ⟨⟨fun _ _ _ _ _ => rfl, fun t g v i hg => boundSlot_wr (hdisjoint g hg) t v i a f⟩, fun _ _ => rfl, fun _ _ => rfl, fun _ _ => rfl⟩

/-- The registers of a public window. -/
def pubVaRegs : List Field := [.FL_PUBVA_PASID, .FL_PUBVA_VALID, .FL_PUBVA_SIZE, .FL_PUBVA_BASE]

/-- The window of slot j of flask f is set, or removed. -/
def windowSet (s : State) (f : Nat) (pt : List Byte) : State :=
  let j := f * 16 + leAt pt 8 1
  if leAt pt 1 1 = 1 then
    (((s.wr .FL_PUBVA_PASID (leAt pt 16 4) j).wr .FL_PUBVA_BASE (leAt pt 24 8 / sheet32M) j).wr .FL_PUBVA_SIZE (leAt pt 32 8 / sheet32M) j).wr
      .FL_PUBVA_VALID 1 j
  else s.rstAll pubVaRegs j

/-- The sheets of a window that flask f has bound are invalidated. -/
def windowPurged (before : List (Nat × Nat)) (n f : Nat) (t : State) (w : Nat × Nat × Nat) : State :=
  match t.boundSlot w.1 f with
  | some a => t.invalidate (.seal n) [a] (some w.2) false before
  | none => t

theorem windowPurged_keeps {β : Type} {p : State → β} (h : blindToSeals p) (before : List (Nat × Nat)) (n f : Nat) (t : State) (w : Nat × Nat × Nat) :
    p (windowPurged before n f t w) = p t := by
  unfold windowPurged
  split
  · exact h.invalidate _ _ _ _ _ _
  · rfl

/-- What the old window of slot j was. -/
def oldWindow (s : State) (j : Nat) : Nat × Nat × Nat :=
  (s.rd .FL_PUBVA_PASID j, s.rd .FL_PUBVA_BASE j * sheet32M, s.rd .FL_PUBVA_SIZE j * sheet32M)

theorem doPublicSet_window_eq (hkind : leAt pt 0 1 = 1) :
    let j := f * 16 + leAt pt 8 1
    let t := windowSet s f pt
    let before := s.sealOld t
    let u := if s.on .FL_PUBVA_VALID j then windowPurged before n f t (oldWindow s j) else t
    s.doPublicSet n f pt = .ok ([], if leAt pt 1 1 = 1 then windowPurged before n f u (leAt pt 16 4, leAt pt 24 8, leAt pt 32 8) else u, true) := by
  intro j t before u
  unfold State.doPublicSet
  rw [hkind]
  by_cases hnew : leAt pt 1 1 = 1
  · simp only [u, t, before, windowSet, hnew, if_true, one_ne_zero, if_false]
    rfl
  · simp only [u, t, before, windowSet, hnew, if_false, one_ne_zero]
    rfl

theorem windowSet_keeps {β : Type} {p : State → β} (hwr : ∀ (t : State) g v i, g ∈ pubVaRegs → p (t.wr g v i) = p t) (s : State) (f : Nat) (pt : List Byte) :
    p (windowSet s f pt) = p s := by
  unfold windowSet
  dsimp only
  split
  · exact (hwr _ _ _ _ (by decide)).trans ((hwr _ _ _ _ (by decide)).trans ((hwr _ _ _ _ (by decide)).trans (hwr _ _ _ _ (by decide))))
  · exact rstAll_keeps hwr s _

theorem invalidate_lists (t : State) (i : InvFrom) (slots : List Nat) (range : Option (Nat × Nat)) (hostOnly : Bool) (old : List (Nat × Nat)) :
    ∃ v ∈ (t.invalidate i slots range hostOnly old).xl.invs, v.source = i ∧ v.slots = slots ∧ v.range = range := by
  let v : Inv := { id := t.nextId, source := i, slots := slots, range := range, hostOnly := hostOnly, old := old }
  let u : State := { t with nextId := t.nextId + 1, xl := { t.xl with invs := t.xl.invs ++ [v] } }
  have hmade : t.invalidate i slots range hostOnly old =
      if ((t.newId).2.invPool i).1 < ((t.newId).2.invPool i).2 then u.startInv v else u := rfl
  rw [hmade]
  split
  · rw [startInv_invs]
    exact ⟨_, List.mem_map.2 ⟨v, List.mem_append_right _ (List.mem_singleton_self v), if_pos (beq_self_eq_true _)⟩, rfl, rfl, rfl⟩
  · exact ⟨v, List.mem_append_right _ (List.mem_singleton_self v), rfl, rfl, rfl⟩

/-- PUBLIC_SET of a VA window sets it, or removes it. -/
theorem doPublicSet_window (hkind : leAt pt 0 1 = 1) (hpasid : leAt pt 16 4 < 2 ^ 20) :
    ∃ t, s.doPublicSet n f pt = .ok ([], t, true) ∧ sameMem s t ∧ t.vaults = s.vaults ∧
      (let j := f * 16 + leAt pt 8 1
      (leAt pt 1 1 = 0 → t.rd .FL_PUBVA_VALID j = 0) ∧
      (leAt pt 1 1 = 1 → t.rd .FL_PUBVA_VALID j = 1 ∧ t.rd .FL_PUBVA_PASID j = leAt pt 16 4 ∧
        t.rd .FL_PUBVA_BASE j = leAt pt 24 8 / sheet32M % 2 ^ Field.FL_PUBVA_BASE.row.width ∧
        t.rd .FL_PUBVA_SIZE j = leAt pt 32 8 / sheet32M % 2 ^ Field.FL_PUBVA_SIZE.row.width ∧
        ∀ a, s.boundSlot (leAt pt 16 4) f = some a → ∃ v ∈ t.xl.invs, v.source = .seal n ∧ v.slots = [a] ∧ v.range = some (leAt pt 24 8, leAt pt 32 8))) ∧
      ∀ g i, g ∉ pubVaRegs → g ∉ hotRegs → t.rd g i = s.rd g i := by
  have heff := doPublicSet_window_eq (s := s) (n := n) (f := f) hkind
  dsimp only at heff
  have hbound (a : Nat) : (windowSet s f pt).boundSlot a f = s.boundSlot a f :=
    windowSet_keeps (p := fun t : State => t.boundSlot a f)
      (fun t g v i hg => boundSlot_wr ((by decide : ∀ g ∈ pubVaRegs, g ∉ [Field.XL_ATLAS_VALID, .XL_ATLAS_PASID, .XL_ATLAS_FLASK]) g hg) t v i a f) s f pt
  have hsame (g : Field) (i : Nat) (hg : g ∉ pubVaRegs) : (windowSet s f pt).rd g i = s.rd g i :=
    windowSet_keeps (p := fun t : State => t.rd g i) (fun t h v j hh => rd_wr_ne t v (.inl (ne_of_mem_of_not_mem hh hg))) s f pt
  have hmem : (windowSet s f pt).hbm = s.hbm ∧ (windowSet s f pt).wbuf = s.wbuf ∧ (windowSet s f pt).vaults = s.vaults :=
    ⟨windowSet_keeps (p := State.hbm) (fun _ _ _ _ _ => rfl) s f pt, windowSet_keeps (p := State.wbuf) (fun _ _ _ _ _ => rfl) s f pt,
      windowSet_keeps (p := State.vaults) (fun _ _ _ _ _ => rfl) s f pt⟩
  have hgone (hnew : leAt pt 1 1 ≠ 1) : (windowSet s f pt).rd .FL_PUBVA_VALID (f * 16 + leAt pt 8 1) = 0 := by
    unfold windowSet
    rw [if_neg hnew]
    exact rd_rstAll_mem (by decide) s _
  have hset (hnew : leAt pt 1 1 = 1) : (windowSet s f pt).rd .FL_PUBVA_VALID (f * 16 + leAt pt 8 1) = 1 ∧
      (windowSet s f pt).rd .FL_PUBVA_PASID (f * 16 + leAt pt 8 1) = leAt pt 16 4 ∧
      (windowSet s f pt).rd .FL_PUBVA_BASE (f * 16 + leAt pt 8 1) = leAt pt 24 8 / sheet32M % 2 ^ Field.FL_PUBVA_BASE.row.width ∧
      (windowSet s f pt).rd .FL_PUBVA_SIZE (f * 16 + leAt pt 8 1) = leAt pt 32 8 / sheet32M % 2 ^ Field.FL_PUBVA_SIZE.row.width := by
    unfold windowSet
    rw [if_pos hnew]
    refine ⟨rd_wr_one _ _ _, ?_, ?_, ?_⟩
    · exact (rd_wr_ne _ _ (.inl (by decide))).trans ((rd_wr_ne _ _ (.inl (by decide))).trans ((rd_wr_ne _ _ (.inl (by decide))).trans
        ((rd_wr_same _ _ _ _).trans (Nat.mod_eq_of_lt hpasid))))
    · exact (rd_wr_ne _ _ (.inl (by decide))).trans ((rd_wr_ne _ _ (.inl (by decide))).trans (rd_wr_same _ _ _ _))
    · exact (rd_wr_ne _ _ (.inl (by decide))).trans (rd_wr_same _ _ _ _)
  generalize s.sealOld (windowSet s f pt) = before at heff
  generalize windowSet s f pt = w at *
  generalize hu : (if s.on .FL_PUBVA_VALID (f * 16 + leAt pt 8 1) then windowPurged before n f w (oldWindow s (f * 16 + leAt pt 8 1)) else w) = u at heff
  have hold {β : Type} {p : State → β} (h : blindToSeals p) : p u = p w := by
    rw [← hu]
    split
    · exact windowPurged_keeps h _ _ _ _ _
    · rfl
  generalize hv : (if leAt pt 1 1 = 1 then windowPurged before n f u (leAt pt 16 4, leAt pt 24 8, leAt pt 32 8) else u) = v at heff
  have hnew {β : Type} {p : State → β} (h : blindToSeals p) : p v = p w := by
    rw [← hv]
    split
    · exact (windowPurged_keeps h _ _ _ _ _).trans (hold h)
    · exact hold h
  have hrd (g : Field) (i : Nat) (hg : g ∉ hotRegs) : v.rd g i = w.rd g i := hnew (p := fun t => t.rd g i) (blindToSeals_rd hg i)
  refine ⟨v, heff, sameMem_of_eq ?_ ?_, ?_, ⟨fun h => ?_, fun h => ?_⟩, fun g i hg hhot => (hrd g i hhot).trans (hsame g i hg)⟩
  · exact (hnew (p := State.hbm) ⟨⟨fun _ _ _ _ _ => rfl, fun _ _ _ _ _ => rfl⟩, fun _ _ => rfl, fun _ _ => rfl, fun _ _ => rfl⟩).trans hmem.1
  · exact (hnew (p := State.wbuf) ⟨⟨fun _ _ _ _ _ => rfl, fun _ _ _ _ _ => rfl⟩, fun _ _ => rfl, fun _ _ => rfl, fun _ _ => rfl⟩).trans hmem.2.1
  · exact (hnew (p := State.vaults) ⟨⟨fun _ _ _ _ _ => rfl, fun _ _ _ _ _ => rfl⟩, fun _ _ => rfl, fun _ _ => rfl, fun _ _ => rfl⟩).trans hmem.2.2
  · exact (hrd _ _ (by decide)).trans (hgone (by omega))
  · obtain ⟨hvalid, hpas, hbase, hsize⟩ := hset h
    refine ⟨(hrd _ _ (by decide)).trans hvalid, (hrd _ _ (by decide)).trans hpas, (hrd _ _ (by decide)).trans hbase, (hrd _ _ (by decide)).trans hsize,
      fun a ha => ?_⟩
    have hua : u.boundSlot (leAt pt 16 4) f = some a := (hold (blindToSeals_boundSlot (leAt pt 16 4) f)).trans ((hbound _).trans ha)
    rw [if_pos h] at hv
    unfold windowPurged at hv
    rw [hua] at hv
    rw [← hv]
    exact invalidate_lists u (.seal n) [a] (some (leAt pt 24 8, leAt pt 32 8)) false before

/-! ### Keys (R390, R391) -/

/-- What the revocation of a key leaves alone: all but the jobs, and the error that says so. -/
theorem keyRevoked_keeps {β : Type} {p : State → β} (hcast : ∀ (t : State) c, p { t with cast := c } = p t)
    (hwr : ∀ (t : State) v, p (t.wr .CAST_ERR_KEY_REVOKED v) = p t) (s : State) (k : Nat) : p (s.keyRevoked k) = p s := by
  refine foldl_keeps p (fun t x => ?_) _ s
  split
  · rfl
  · refine iteInduction (motive := fun u => p u = p t) (fun _ => rfl) (fun _ => ?_)
    refine iteInduction (motive := fun u => p u = p t) (fun _ => ?_) (fun _ => ?_)
    · exact (hcast _ _).trans (hwr t 1)
    · exact (hcast _ _).trans (hwr t 1)

theorem zeroSlot_keeps {β : Type} {p : State → β} (hcast : ∀ (t : State) c, p { t with cast := c } = p t)
    (hwr : ∀ (t : State) g v i, g = .CAST_ERR_KEY_REVOKED ∨ g ∈ keyRegs → p (t.wr g v i) = p t) (hkeys : ∀ (t : State) ks, p { t with keys := ks } = p t)
    (s : State) (k : Nat) : p (s.zeroSlot k) = p s :=
  (clearSlot_keeps (fun t g v i hg => hwr t g v i (.inr hg)) hkeys _ k).trans (keyRevoked_keeps hcast (fun t v => hwr t _ v 0 (.inl rfl)) s k)

/-- A key of flask f enters slot k, which is free. -/
def keyPut (s : State) (k use f : Nat) (key : List Byte) : State :=
  ((((s.wr .KEY_SLOT_VALID 1 k).wr .KEY_SLOT_USE use k).wr .KEY_SLOT_FLASK f k).wr .KEY_SLOT_FLASK_GEN (s.flaskGen f) k).putKey k key

theorem keyPut_leaves (s : State) {k use f : Nat} (huse : use < 4) (hf : f < 64) (key : List Byte) :
    let t := keyPut s k use f key
    t.rd .KEY_SLOT_VALID k = 1 ∧ t.rd .KEY_SLOT_USE k = use ∧ t.rd .KEY_SLOT_FLASK k = f ∧ (k, key) ∈ keyNames t ∧ t.vaults = s.vaults ∧
      (∀ g i, g ∉ slotFields → t.rd g i = s.rd g i) ∧ ∀ j, j ≠ k → s.noKey j → t.noKey j := by
  have hput (g : Field) (i : Nat) : (keyPut s k use f key).rd g i =
      ((((s.wr .KEY_SLOT_VALID 1 k).wr .KEY_SLOT_USE use k).wr .KEY_SLOT_FLASK f k).wr .KEY_SLOT_FLASK_GEN (s.flaskGen f) k).rd g i := rfl
  refine ⟨?_, ?_, ?_, List.mem_map.2 ⟨_, List.mem_append_right _ List.mem_cons_self, rfl⟩, rfl, fun g i hg => ?_, fun j hj hnone => ⟨?_, fun m hm => ?_⟩⟩
  · exact (hput _ _).trans ((rd_wr_ne _ _ (.inl (by decide))).trans ((rd_wr_ne _ _ (.inl (by decide))).trans ((rd_wr_ne _ _ (.inl (by decide))).trans
      (rd_wr_one _ _ _))))
  · exact (hput _ _).trans ((rd_wr_ne _ _ (.inl (by decide))).trans ((rd_wr_ne _ _ (.inl (by decide))).trans ((rd_wr_same _ _ _ _).trans
      (Nat.mod_eq_of_lt huse))))
  · exact (hput _ _).trans ((rd_wr_ne _ _ (.inl (by decide))).trans ((rd_wr_same _ _ _ _).trans (Nat.mod_eq_of_lt hf)))
  · have hne (h : Field) (hh : h ∈ slotFields) : h ≠ g := ne_of_mem_of_not_mem hh hg
    exact (hput _ _).trans ((rd_wr_ne _ _ (.inl (hne _ (by decide)))).trans ((rd_wr_ne _ _ (.inl (hne _ (by decide)))).trans
      ((rd_wr_ne _ _ (.inl (hne _ (by decide)))).trans (rd_wr_ne _ _ (.inl (hne _ (by decide)))))))
  · exact (hput _ _).trans ((rd_wr_ne _ _ (.inr hj.symm)).trans ((rd_wr_ne _ _ (.inr hj.symm)).trans ((rd_wr_ne _ _ (.inr hj.symm)).trans
      ((rd_wr_ne _ _ (.inr hj.symm)).trans hnone.1))))
  · rcases List.mem_append.1 hm with h | h
    · exact hnone.2 m h
    · obtain rfl := List.mem_singleton.1 h
      exact Ne.symm hj

theorem noKey_zeroSlot (s : State) (k : Nat) : (s.zeroSlot k).noKey k := noKey_clearSlot _ k

theorem noKey_zeroSlot_of {j : Nat} (h : s.noKey j) (k : Nat) : (s.zeroSlot k).noKey j := by
  refine noKey_clearSlot_of ⟨?_, ?_⟩ k
  · exact (keyRevoked_keeps (p := fun t => t.rd .KEY_SLOT_VALID j) (fun _ _ => rfl) (fun _ _ => rd_wr_ne _ _ (.inl (by decide))) s k).trans h.1
  · exact (keyRevoked_keeps (p := State.keys) (fun _ _ => rfl) (fun _ _ => rfl) s k).symm ▸ h.2

theorem valid_zeroSlot_ne {j k : Nat} (h : k ≠ j) (s : State) : (s.zeroSlot k).rd .KEY_SLOT_VALID j = s.rd .KEY_SLOT_VALID j := by
  rw [State.zeroSlot, clearSlot_eq, rd_rstAll_other _ _ h]
  exact (valid_slotUnnamed _ k j).trans
    (keyRevoked_keeps (p := fun t => t.rd .KEY_SLOT_VALID j) (fun _ _ => rfl) (fun _ _ => rd_wr_ne _ _ (.inl (by decide))) s k)

/-- The slots of a list are emptied, and no other slot. -/
theorem zeroSlots_leaves (s : State) (old : List Nat) :
    let t := old.foldl State.zeroSlot s
    (∀ j ∈ old, t.noKey j) ∧ (∀ j, j ∉ old → t.rd .KEY_SLOT_VALID j = s.rd .KEY_SLOT_VALID j) ∧ t.vaults = s.vaults ∧
      ∀ g i, g ≠ .CAST_ERR_KEY_REVOKED → g ∉ keyRegs → t.rd g i = s.rd g i := by
  refine ⟨fun j hj => foldl_brings (P := fun t => t.noKey j) (fun t k h => noKey_zeroSlot_of h k) (fun t => noKey_zeroSlot t j) hj s, fun j hj => ?_, ?_, fun g i hg hk => ?_⟩
  · exact List.foldlRecOn (motive := fun t : State => t.rd .KEY_SLOT_VALID j = s.rd .KEY_SLOT_VALID j) old State.zeroSlot rfl fun t ht k hk =>
      (valid_zeroSlot_ne (ne_of_mem_of_not_mem hk hj) t).trans ht
  · exact foldl_keeps State.vaults (fun t k => zeroSlot_keeps (fun _ _ => rfl) (fun _ _ _ _ _ => rfl) (fun _ _ => rfl) t k) old s
  · refine foldl_keeps (fun t => t.rd g i) (fun t k => zeroSlot_keeps (p := fun t : State => t.rd g i) (fun _ _ => rfl) (fun t h v j hh => ?_) (fun _ _ => rfl) t k) old s
    rcases hh with rfl | hh
    · exact rd_wr_ne _ _ (.inl hg.symm)
    · exact rd_wr_ne _ _ (.inl (ne_of_mem_of_not_mem hh hk))

/-- The key slots of flask f with a use. -/
def slotsWith (s : State) (f use : Nat) : List Nat := (s.slotsOf f).filter (fun k => s.rd .KEY_SLOT_USE k == use)

theorem doKeyImport_data (huse : leAt pt 0 1 = 1) :
    (14 ≤ (slotsWith s f 1).length → s.doKeyImport n f pt = .error stNORES) ∧
    (∀ k, (slotsWith s f 1).length < 14 → lowest 256 (fun k => !s.on .KEY_SLOT_VALID k) = some k →
      s.doKeyImport n f pt = .ok ([BitVec.ofNat 8 k], keyPut s k 1 f (slice pt 32 32), false)) := by
  unfold State.doKeyImport
  rw [huse]
  refine ⟨fun hfull => ?_, fun k hroom hlow => ?_⟩
  · have hfull : (1 == 1 && decide (14 ≤ (slotsWith s f 1).length)) = true := by rw [decide_eq_true hfull]; rfl
    dsimp only
    rw [show (1 == 1 && decide (14 ≤ ((s.slotsOf f).filter (fun k => s.rd .KEY_SLOT_USE k == 1)).length)) = true from hfull]
    rfl
  · have hroom : (1 == 1 && decide (14 ≤ (slotsWith s f 1).length)) = false := by rw [decide_eq_false (by omega)]; rfl
    dsimp only
    rw [show (1 == 1 && decide (14 ≤ ((s.slotsOf f).filter (fun k => s.rd .KEY_SLOT_USE k == 1)).length)) = false from hroom, if_neg (by decide)]
    rw [if_neg (by decide), hlow]
    rfl

theorem doKeyImport_egress (huse : leAt pt 0 1 = 2) {k : Nat}
    (hlow : lowest 256 (fun k => !s.on .KEY_SLOT_VALID k || (slotsWith s f 2).contains k) = some k) :
    s.doKeyImport n f pt = .ok ([BitVec.ofNat 8 k], ((keyPut ((slotsWith s f 2).foldl State.zeroSlot s) k 2 f (slice pt 32 32)).wr .FL_EGRESS_SLOT k f).wr
      .FL_EGRESS_VALID 1 f, false) := by
  obtain ⟨hgone, hother, -, -⟩ := zeroSlots_leaves s (slotsWith s f 2)
  have hfree : (fun k => !((slotsWith s f 2).foldl State.zeroSlot s).on .KEY_SLOT_VALID k) =
      fun k => !s.on .KEY_SLOT_VALID k || (slotsWith s f 2).contains k := by
    funext j
    by_cases hj : j ∈ slotsWith s f 2
    · rw [List.contains_iff_mem.2 hj, Bool.or_true, State.on, (hgone j hj).1]
      rfl
    · have hout : (slotsWith s f 2).contains j = false := by simpa using hj
      rw [hout, Bool.or_false, State.on, hother j hj, State.on]
  rw [← hfree] at hlow
  unfold State.doKeyImport
  rw [huse]
  dsimp only
  rw [if_pos rfl]
  have hlow : lowest 256 (fun k => !(((s.slotsOf f).filter (fun k => s.rd .KEY_SLOT_USE k == 2)).foldl State.zeroSlot s).on .KEY_SLOT_VALID k) = some k := hlow
  rw [show (2 == 1 && decide (14 ≤ ((s.slotsOf f).filter (fun k => s.rd .KEY_SLOT_USE k == 1)).length)) = false from rfl, if_neg (by decide), hlow]
  rfl

end

/-! ## The commands -/

/-- The row of a sealed command is one of five effects. -/
theorem sealedRows {s : State} {n : Nat} {i : Instr} {op : Nat}
    (h : (i, op) ∈ [(Instr.publicSet n, opPUBLIC_SET), (.keyImport n, opKEY_IMPORT), (.keyDestroy n, opKEY_DESTROY), (.consent n, opCONSENT),
      (.mouldAllow n, opMOULD_ALLOW)]) : ∃ act, exec i s = s.after (s.sealedRow n op fun t => t.sealedBody n act) := by
  simp only [List.mem_cons, List.not_mem_nil, or_false, Prod.mk.injEq] at h
  rcases h with ⟨rfl, rfl⟩ | ⟨rfl, rfl⟩ | ⟨rfl, rfl⟩ | ⟨rfl, rfl⟩ | ⟨rfl, rfl⟩
  · exact ⟨State.doPublicSet, rfl⟩
  · exact ⟨State.doKeyImport, rfl⟩
  · exact ⟨State.doKeyDestroy, rfl⟩
  · exact ⟨State.doConsent, rfl⟩
  · exact ⟨State.doMouldAllow, rfl⟩

theorem argsOk_of_wellPut {s : State} {n op payload : Nat} {pt : List Byte} (h : s.wellPut n op payload pt = true) :
    s.argsOk (s.fref n).1 op pt = true :=
  (Bool.and_eq_true_iff.1 h).2

theorem publicSet_args {s : State} {f : Nat} {pt : List Byte} (h : s.argsOk f opPUBLIC_SET pt = true) :
    leAt pt 1 1 ≤ 1 ∧ (leAt pt 0 1 = 1 → leAt pt 16 4 < 2 ^ 20) := by
  unfold State.argsOk at h
  rw [if_pos rfl] at h
  simp only [Bool.and_eq_true, decide_eq_true_eq] at h
  obtain ⟨⟨⟨-, hnew⟩, -⟩, hrest⟩ := h
  refine ⟨hnew, fun hkind => ?_⟩
  rw [if_neg (by omega)] at hrest
  simp only [Bool.and_eq_true, decide_eq_true_eq] at hrest
  obtain ⟨⟨⟨⟨⟨⟨⟨⟨-, -⟩, -⟩, hpasid⟩, -⟩, -⟩, -⟩, -⟩, -⟩ := hrest
  exact hpasid

/-- Settles O51 (R387 to R393). -/
theorem sealedCommands : Obligations.SealedCommands := by
  intro s n hs b f e href
  have hn : n < 16 := hs.1
  have hf : f < 64 := Nat.mod_lt _ (by decide)
  have henvelope : b.envelope n = e := envelope_begun s n
  have hfref : b.fref n = s.fref n := fref_begun s n
  have hvault : b.vault f = s.vault f := vault_begun s n f
  refine ⟨fun i op hi henv => ?_, fun op m pt henv hopens => ?_⟩
  · obtain ⟨act, hact⟩ := sealedRows (s := s) hi
    have hrun {u : State} (h : b.sealedBody n act = u) : exec i s = s.after u.unclaim :=
      hact.trans (congrArg s.after ((sealedRow_of_starts hs henv _).trans (congrArg State.unclaim h)))
    have hcount : b.rd .FL_STATS_CMD_REFUSED = s.rd .FL_STATS_CMD_REFUSED := rd_begun s n (by decide) (by decide) (by decide) 0
    have hcseq (t : State) (st : Nat) (ht : t.vaults = b.vaults) : ((t.refuseCmd n st).vault f).cseq = (s.vault f).cseq := by
      have hv : (t.refuseCmd n st).vaults = t.vaults := reply_keeps State.vaults (fun _ _ _ _ => rfl) _ _ _ _
      exact congrArg Vault.cseq ((vault_of_vaults (hv.trans ht) f).trans hvault)
    refine ⟨fun hfits => ?_, fun m hfits hkey hopen => ?_, fun m pt hfits hkey hopen hseq => ?_⟩
    · rw [← henvelope] at hfits
      obtain ⟨mt, hbody⟩ := sealedBody_of_unfit (act := act) href hfits
      obtain ⟨hmem, hreplied, hcounts, hregs⟩ := refuseCmd_leaves (s := s) (b := b) (t := { b with meter := mt }) (st := stSTATE) (l := []) hn (by decide)
        (sameMem_begun s n) (fun _ _ _ => rfl) hcount
      exact ⟨_, hrun hbody, hmem, hreplied, hcounts, fun p hp => absurd hp List.not_mem_nil, hcseq _ _ rfl, hregs⟩
    · rw [← henvelope] at hfits hopen
      obtain ⟨mt, hbody⟩ := sealedBody_of_unopened (act := act) href hfits (hfref ▸ hkey) hopen
      obtain ⟨hmem, hreplied, hcounts, hregs⟩ := refuseCmd_leaves (s := s) (b := b) (t := ({ b with meter := mt } : State).wr .FL_ERR_CMD_AUTH 1) (st := stDENIED)
        (l := [(.FL_ERR_CMD_AUTH, 0)]) hn (by decide) (sameMem_begun s n) (onlyRegs_wr (fun _ _ _ => rfl) List.mem_cons_self 1)
        ((rd_wr_ne _ _ (.inl (by decide))).trans hcount)
      refine ⟨_, hrun hbody, hmem, hreplied, hcounts, fun p hp => ?_, hcseq _ _ rfl, hregs⟩
      obtain rfl := List.mem_singleton.1 hp
      exact (rd_refuseCmd (by decide) (by decide) _ _ _ _).trans (rd_wr_one _ _ _)
    · rw [← henvelope] at hfits hopen
      have hseq : envSeq (b.envelope n) ≠ (b.vault (b.fref n).1).cseq + 1 := by
        rw [henvelope, hfref, hvault]
        exact hseq
      obtain ⟨mt, hbody⟩ := sealedBody_of_unordered (act := act) href hfits (hfref ▸ hkey) hopen hseq
      obtain ⟨hmem, hreplied, hcounts, hregs⟩ := refuseCmd_leaves (s := s) (b := b) (t := ({ b with meter := mt } : State).wr .FL_ERR_CMD_SEQ 1) (st := stSTATE)
        (l := [(.FL_ERR_CMD_SEQ, 0)]) hn (by decide) (sameMem_begun s n) (onlyRegs_wr (fun _ _ _ => rfl) List.mem_cons_self 1)
        ((rd_wr_ne _ _ (.inl (by decide))).trans hcount)
      refine ⟨_, hrun hbody, hmem, hreplied, hcounts, fun p hp => ?_, hcseq _ _ rfl, hregs⟩
      obtain rfl := List.mem_singleton.1 hp
      exact (rd_refuseCmd (by decide) (by decide) _ _ _ _).trans (rd_wr_one _ _ _)
  · obtain ⟨-, hfits, hop, hkey, hopen, hseq⟩ := hopens
    have hcount : b.rd .FL_STATS_CMD_OK = s.rd .FL_STATS_CMD_OK := rd_begun s n (by decide) (by decide) (by decide) 0
    have hbrd {g : Field} (hg : g ∉ [Field.MB_STATE_STATE, .FL_STATE, .SEAL_GRAN_SEAL]) (i : Nat) : b.rd g i = s.rd g i := by
      simp only [List.mem_cons, List.not_mem_nil, or_false, not_or] at hg
      exact rd_begun s n hg.1 hg.2.1 hg.2.2 i
    -- What the row of an operation does, once its checks have passed.
    have hgood (i : Instr) (act : State → Nat → Nat → List Byte → Effect) (hi : exec i s = s.after (s.sealedRow n op fun t => t.sealedBody n act))
        (hput : b.wellPut n op (if op = opKEY_IMPORT then 1 else 0) pt = true) :
        ∃ mt, (∀ st, act { b with meter := mt } n f pt = .error st → exec i s = s.after (({ b with meter := mt } : State).refuseEnv n m e st).unclaim) ∧
          (∀ payload t, act { b with meter := mt } n f pt = .ok (payload, t, true) → exec i s = s.after
            ((commandDone t f ((s.vault f).cseq + 1)).waitSeal { slot := n, flask := f, op := some (op, payload), cseq := (s.vault f).cseq + 1 }).unclaim) ∧
          ∀ payload t, act { b with meter := mt } n f pt = .ok (payload, t, false) → exec i s = s.after
            (((commandDone t f ((s.vault f).cseq + 1)).replyEnv n m op f (b.flaskGen f) ((s.vault f).cseq + 1) stOK payload).reply n stOK).unclaim := by
      have hbody := sealedBody_of_good (act := act) href hfits hkey hopen hseq (hop.symm ▸ hput)
      rw [henvelope, hfref, hvault, (henvelope ▸ hop : envOp e = op)] at hbody
      obtain ⟨mt, herror, hok⟩ := hbody
      have hrun {u : State} (h : b.sealedBody n act = u) : exec i s = s.after u.unclaim :=
        hi.trans (congrArg s.after ((sealedRow_of_starts hs henv _).trans (congrArg State.unclaim h)))
      exact ⟨mt, fun st h => hrun (herror st h), fun payload t h => hrun ((hok payload t true h).trans (if_pos rfl)),
        fun payload t h => hrun ((hok payload t false h).trans (if_neg Bool.false_ne_true))⟩
    have hwith (use : Nat) : (b.slotsOf f).filter (fun k => b.rd .KEY_SLOT_USE k == use) = (s.slotsOf f).filter (fun k => s.rd .KEY_SLOT_USE k == use) := by
      have hlisted : b.listed .KEY_SLOT_VALID = s.listed .KEY_SLOT_VALID :=
        begun_keeps (fun t => t.listed .KEY_SLOT_VALID) (fun t _ => listed_wr_ne t (by decide) _ _) (fun t _ _ => listed_wr_ne t (by decide) _ _)
          (fun t _ _ => listed_wr_ne t (by decide) _ _) s n
      simp only [State.slotsOf, hlisted, hbrd (g := .KEY_SLOT_FLASK) (by decide), hbrd (g := .KEY_SLOT_USE) (by decide)]
    have hvalid (q : Nat → Bool) : lowest 256 (fun k => !b.on .KEY_SLOT_VALID k || q k) = lowest 256 (fun k => !s.on .KEY_SLOT_VALID k || q k) := by
      simp only [State.on, hbrd (g := .KEY_SLOT_VALID) (by decide)]
    have hfree : lowest 256 (fun k => !b.on .KEY_SLOT_VALID k) = lowest 256 (fun k => !s.on .KEY_SLOT_VALID k) := by
      simp only [State.on, hbrd (g := .KEY_SLOT_VALID) (by decide)]
    have hdone {i : Instr} {t : State} {payload : List Byte} (hi : exec i s = s.after (((commandDone t f ((s.vault f).cseq + 1)).replyEnv n m op f (b.flaskGen f)
          ((s.vault f).cseq + 1) stOK payload).reply n stOK).unclaim) (ht : t.rd .FL_STATS_CMD_OK = s.rd .FL_STATS_CMD_OK) {P : State → Prop}
        (hP : ∀ u : State, u.vault f = { t.vault f with cseq := (s.vault f).cseq + 1 } → keyNames u = keyNames t →
          (∀ g i, g ∉ replyNames → g ≠ .FL_STATS_CMD_OK → u.rd g i = t.rd g i) → P u) :
        answers i s (fun u => u.replied n stOK ∧ s.counts u .FL_STATS_CMD_OK ∧ (u.vault f).cseq = (s.vault f).cseq + 1 ∧ P u) := by
      obtain ⟨hreplied, hcounts, hv, hnames, hrd⟩ := done_leaves (f := f) (seq := (s.vault f).cseq + 1) hn ht m op (b.flaskGen f) payload
      exact ⟨_, hi, hreplied, hcounts, by rw [hv], hP _ hv hnames hrd⟩
    refine ⟨fun hset hput hkind => ?_, fun hset hput hkind => ?_, fun himp hput huse hfull => ?_, fun k himp hput huse hlow => ?_,
      fun k himp hput hlow huse hroom => ?_, fun hdestroy hput => ?_, fun hconsent hput => ?_, fun hallow hput hlen hlock => ?_⟩
    · subst hset
      obtain ⟨mt, -, hok, -⟩ := hgood (.publicSet n) State.doPublicSet rfl hput
      obtain ⟨hnew, -⟩ := publicSet_args (argsOk_of_wellPut hput)
      obtain ⟨t, heff, hmem, hvaults, hgran, hrd⟩ := doPublicSet_granules (s := { b with meter := mt }) (n := n) (f := f) hkind hnew
      obtain ⟨hsame, hcounts, hv, -, hwait, hurd⟩ := wait_leaves (s := s) (f := f) (seq := (s.vault f).cseq + 1) ((hrd _ _ (by decide) (by decide)).trans hcount)
        { slot := n, flask := f, op := some (opPUBLIC_SET, []), cseq := (s.vault f).cseq + 1 }
      refine ⟨_, hok _ _ heff, sameMem_trans (sameMem_trans (sameMem_begun s n) hmem) hsame, ?_, by rw [hv], hcounts, fun i hi => ?_, hwait⟩
      · exact (congrArg (bits · (2 * n) 2) ((hurd _ _ (by decide)).trans (hrd _ _ (by decide) (by decide)))).trans (slotState_begun s hn)
      · have hbase : b.rd .FL_BASE f = s.rd .FL_BASE f := hbrd (by decide) f
        exact (hurd _ _ (by decide)).trans (hbase ▸ hgran i hi)
    · subst hset
      obtain ⟨mt, -, hok, -⟩ := hgood (.publicSet n) State.doPublicSet rfl hput
      obtain ⟨-, hpasid⟩ := publicSet_args (argsOk_of_wellPut hput)
      obtain ⟨t, heff, hmem, hvaults, ⟨hgone, hmade⟩, hrd⟩ := doPublicSet_window (s := { b with meter := mt }) (n := n) (f := f) hkind (hpasid hkind)
      obtain ⟨hsame, hcounts, hv, hinvs, hwait, hurd⟩ := wait_leaves (s := s) (f := f) (seq := (s.vault f).cseq + 1) ((hrd _ _ (by decide) (by decide)).trans hcount)
        { slot := n, flask := f, op := some (opPUBLIC_SET, []), cseq := (s.vault f).cseq + 1 }
      refine ⟨_, hok _ _ heff, sameMem_trans (sameMem_trans (sameMem_begun s n) hmem) hsame, ?_, by rw [hv], hcounts,
        ⟨fun h => (hurd _ _ (by decide)).trans (hgone h), fun h => ?_⟩, hwait⟩
      · exact (congrArg (bits · (2 * n) 2) ((hurd _ _ (by decide)).trans (hrd _ _ (by decide) (by decide)))).trans (slotState_begun s hn)
      · obtain ⟨hvalid, hpas, hbase, hsize, hinv⟩ := hmade h
        refine ⟨(hurd _ _ (by decide)).trans hvalid, (hurd _ _ (by decide)).trans hpas, (hurd _ _ (by decide)).trans hbase, (hurd _ _ (by decide)).trans hsize,
          fun a ha => ?_⟩
        rw [hinvs]
        exact hinv a ((boundSlot_begun s n _ f).trans ha)
    · subst himp
      obtain ⟨mt, herror, -, -⟩ := hgood (.keyImport n) State.doKeyImport rfl hput
      have hslots : slotsWith { b with meter := mt } f 1 = (s.slotsOf f).filter (fun k => s.rd .KEY_SLOT_USE k == 1) := hwith 1
      obtain ⟨hfulls, -⟩ := doKeyImport_data (s := { b with meter := mt }) (n := n) (f := f) huse
      obtain ⟨hreplied, hcounts, hvaults⟩ := refused_leaves (s := s) (t := { b with meter := mt }) hn (st := stNORES) (by decide) m e (hbrd (by decide) 0)
      exact ⟨_, herror _ (hfulls (hslots ▸ hfull)), hreplied, hcounts, congrArg Vault.cseq ((vault_of_vaults hvaults f).trans hvault)⟩
    · subst himp
      obtain ⟨mt, -, -, hok⟩ := hgood (.keyImport n) State.doKeyImport rfl hput
      have hslots : slotsWith { b with meter := mt } f 2 = (s.slotsOf f).filter (fun k => s.rd .KEY_SLOT_USE k == 2) := hwith 2
      have hlow : lowest 256 (fun k => !({ b with meter := mt } : State).on .KEY_SLOT_VALID k || (slotsWith { b with meter := mt } f 2).contains k) = some k :=
        (hvalid fun j => (slotsWith { b with meter := mt } f 2).contains j).trans (hslots ▸ hlow)
      have heff := doKeyImport_egress (s := { b with meter := mt }) (n := n) huse hlow
      have hk : k < 256 := (lowest_some.1 hlow).1
      obtain ⟨hgone, -, -, hzrd⟩ := zeroSlots_leaves ({ b with meter := mt } : State) (slotsWith { b with meter := mt } f 2)
      obtain ⟨hvalids, huses, hflask, hname, -, hrd, hnone⟩ := keyPut_leaves ((slotsWith { b with meter := mt } f 2).foldl State.zeroSlot { b with meter := mt })
        (k := k) (use := 2) (by decide) hf (slice pt 32 32)
      rw [hslots] at hgone hzrd hvalids huses hflask hname hrd hnone heff
      have hzcount := hzrd .FL_STATS_CMD_OK 0 (by decide) (by decide)
      generalize ((s.slotsOf f).filter (fun k => s.rd .KEY_SLOT_USE k == 2)).foldl State.zeroSlot ({ b with meter := mt } : State) = z at *
      refine hdone (hok _ _ heff) ?_ fun u _ hnames hurd => ?_
      · exact (rd_wr_ne _ _ (.inl (by decide))).trans ((rd_wr_ne _ _ (.inl (by decide))).trans ((hrd _ _ (by decide)).trans (hzcount.trans hcount)))
      · have hput {g : Field} (hg : g ∉ replyNames) (hok : g ≠ .FL_STATS_CMD_OK) (hgv : Field.FL_EGRESS_VALID ≠ g) (hgs : Field.FL_EGRESS_SLOT ≠ g) (i : Nat) :
            u.rd g i = (keyPut z k 2 f (slice pt 32 32)).rd g i :=
          (hurd g i hg hok).trans ((rd_wr_ne _ _ (.inl hgv)).trans (rd_wr_ne _ _ (.inl hgs)))
        have hnames : keyNames u = keyNames (keyPut z k 2 f (slice pt 32 32)) := hnames
        obtain ⟨x, hx, hxs, hxk⟩ := mem_keyNames (hnames ▸ hname)
        refine ⟨⟨(hput (by decide) (by decide) (by decide) (by decide) _).trans hvalids, (hput (by decide) (by decide) (by decide) (by decide) _).trans huses,
          (hput (by decide) (by decide) (by decide) (by decide) _).trans hflask, x, hx, hxs⟩, ⟨x, hx, hxs, hxk⟩, ?_, ?_, fun j hj hjk => ?_⟩
        · exact (hurd _ _ (by decide) (by decide)).trans ((rd_wr_ne _ _ (.inl (by decide))).trans ((rd_wr_same _ _ _ _).trans (Nat.mod_eq_of_lt hk)))
        · exact (hurd _ _ (by decide) (by decide)).trans (rd_wr_one _ _ _)
        · exact noKey_of_names (hput (by decide) (by decide) (by decide) (by decide) _) hnames (hnone j hjk (hgone j hj))
    · subst himp
      obtain ⟨mt, -, -, hok⟩ := hgood (.keyImport n) State.doKeyImport rfl hput
      have hslots : slotsWith { b with meter := mt } f 1 = (s.slotsOf f).filter (fun k => s.rd .KEY_SLOT_USE k == 1) := hwith 1
      obtain ⟨-, hrooms⟩ := doKeyImport_data (s := { b with meter := mt }) (n := n) (f := f) huse
      have heff := hrooms k (hslots ▸ hroom) (hfree.trans hlow)
      obtain ⟨hvalids, huses, hflask, hname, -, hrd, -⟩ := keyPut_leaves ({ b with meter := mt } : State) (k := k) (use := 1) (by decide) hf (slice pt 32 32)
      refine hdone (hok _ _ heff) ((hrd _ _ (by decide)).trans hcount) fun u _ hnames hurd => ?_
      obtain ⟨x, hx, hxs, hxk⟩ := mem_keyNames (hnames ▸ hname)
      exact ⟨⟨(hurd _ _ (by decide) (by decide)).trans hvalids, (hurd _ _ (by decide) (by decide)).trans huses, (hurd _ _ (by decide) (by decide)).trans hflask,
        x, hx, hxs⟩, x, hx, hxs, hxk⟩
    · subst hdestroy
      obtain ⟨mt, -, -, hok⟩ := hgood (.keyDestroy n) State.doKeyDestroy rfl hput
      refine hdone (hok [] (({ b with meter := mt } : State).zeroSlot (leAt pt 0 1)) rfl) ?_ fun u _ _ hrd => ?_
      · have hne : ∀ g, g = .CAST_ERR_KEY_REVOKED ∨ g ∈ keyRegs → g ≠ .FL_STATS_CMD_OK := by
          rintro g (rfl | hg)
          · decide
          · exact ne_of_mem_of_not_mem hg (by decide)
        exact (zeroSlot_keeps (p := fun t => t.rd .FL_STATS_CMD_OK) (fun _ _ => rfl) (fun t g v i hg => rd_wr_ne _ _ (.inl (hne g hg))) (fun _ _ => rfl) _ _).trans hcount
      · exact (hrd _ _ (by decide) (by decide)).trans (noKey_zeroSlot _ _).1
    · subst hconsent
      obtain ⟨mt, -, -, hok⟩ := hgood (.consent n) State.doConsent rfl hput
      refine hdone (hok [] ((({ b with meter := mt } : State).wr .FL_DEBUG (bits (leAt pt 0 1) 0 1) f).wr .FL_PROFILE (bits (leAt pt 0 1) 1 1) f) rfl) ((rd_wr_ne _ _ (.inl (by decide))).trans ((rd_wr_ne _ _ (.inl (by decide))).trans hcount)) fun u _ _ hrd => ⟨?_, ?_⟩
      · exact (hrd _ _ (by decide) (by decide)).trans ((rd_wr_ne _ _ (.inl (by decide))).trans ((rd_wr_same _ _ _ _).trans (Nat.mod_mod _ _)))
      · exact (hrd _ _ (by decide) (by decide)).trans ((rd_wr_same _ _ _ _).trans (Nat.mod_mod _ _))
    · subst hallow
      obtain ⟨mt, -, -, hok⟩ := hgood (.mouldAllow n) State.doMouldAllow rfl hput
      let v : Vault := { s.vault f with allow := (s.vault f).allow ++ (List.range (leAt pt 0 1)).map (fun i => slice pt (64 + 48 * i) 48) }
      have heff : State.doMouldAllow { b with meter := mt } n f pt =
          .ok ([], if leAt pt 1 1 = 1 then (({ b with meter := mt } : State).setVault v).wr .FL_LOCKED 1 f else ({ b with meter := mt } : State).setVault v, false) := by
        have hv : ({ b with meter := mt } : State).vault f = s.vault f := hvault
        have hmoulds : ({ b with meter := mt } : State).mouldsOf f = s.mouldsOf f := by
          have hb : b.mouldsOf f = s.mouldsOf f := by rw [State.mouldsOf, begun_moulds, State.mouldsOf]
          exact hb
        have hkept : ¬ (decide (leAt pt 1 1 = 1) && !(s.mouldsOf f).all (fun m => v.allow.contains m.digest)) = true := by
          intro h
          rw [Bool.and_eq_true, decide_eq_true_eq, Bool.not_eq_true'] at h
          have hall : (s.mouldsOf f).all (fun m => v.allow.contains m.digest) = true :=
            List.all_eq_true.2 fun m hm => List.contains_iff_mem.2 (hlock h.1 m hm)
          exact Bool.false_ne_true (h.2.symm.trans hall)
        unfold State.doMouldAllow
        rw [hv, hmoulds]
        exact (if_neg (by omega)).trans ((if_neg hkept).trans rfl)
      have hset : (({ b with meter := mt } : State).setVault v).vault f = v := by
        have h := vault_setVault ({ b with meter := mt } : State) v
        have hvf : v.flask = f := vault_flask s f
        rwa [hvf] at h
      have hlocked (u : State) (hu : u.rd .FL_LOCKED f = (if leAt pt 1 1 = 1 then (({ b with meter := mt } : State).setVault v).wr .FL_LOCKED 1 f
          else ({ b with meter := mt } : State).setVault v).rd .FL_LOCKED f) : u.rd .FL_LOCKED f = if leAt pt 1 1 = 1 then 1 else s.rd .FL_LOCKED f := by
        rw [hu]
        split
        · exact rd_wr_one _ _ _
        · exact hbrd (by decide) f
      refine hdone (hok _ _ heff) ?_ fun u huv _ hurd => ⟨?_, hlocked u (hurd _ _ (by decide) (by decide))⟩
      · split
        · exact (rd_wr_ne _ _ (.inl (by decide))).trans hcount
        · exact hcount
      · rw [huv]
        split
        · exact congrArg Vault.allow hset
        · exact congrArg Vault.allow hset

end Sys2Proof.Laws

/-! # Legends and certificates

LEGEND_REQ, CERT_GET, their answers, and Kyrdo's silence (R394 to R397, R420, R457). -/
namespace Sys2Proof.Laws

open Sys2Proof.Machine

section
variable {s : State} {n : Nat}

/-- What the block writes and then answers for has landed. -/
theorem landed_written {s t : State} (ht : t.hlp = s.hlp) (a : Nat) (bs : List Byte) (ch : Charge) (cls k st : Nat) (outs : List Nat) :
    s.landed (((t.ownWrite a bs).countFor ch cls k).reply n st outs) a bs := by
  obtain ⟨mt, hmt⟩ := countFor_eq (t.ownWrite a bs) ch cls k
  rw [hmt]
  refine landed_congr ht ?_ ?_ (landed_ownWrite t a bs 0 (.inl rfl))
  · exact reply_keeps State.hbm (fun _ _ _ _ => rfl) _ _ _ _
  · exact reply_keeps State.hlp (fun _ _ _ _ => rfl) _ _ _ _

theorem landed_mailed {s t : State} (ht : t.hlp = s.hlp) (f a : Nat) (bs : List Byte) (n st : Nat) (outs : List Nat) :
    s.landed ((t.mailWrite f a bs).reply n st outs) a bs :=
  landed_written ht a bs _ _ _ st outs

theorem nonce_begun (s : State) (n : Nat) : (s.begun n).nonce n = s.nonce n := by simp only [State.nonce, par_begun]

/-- LEGEND_REQ of a flask that has a legend. -/
theorem legendReq_of_named (href : s.frefOk n = true)
    (hst : s.flaskState (s.fref n).1 ∉ [flFREE, flCREATING, flRESETTING, flDESTROYING]) (hphase : s.rd .QN_PHASE (s.fref n).1 < 3) :
    s.legendReq n = if !s.flaskBuf (s.fref n).1 (s.par n 7) (128 * 1024) then s.reply n stDENIED
      else if s.par n 7 % 64 ≠ 0 then s.reply n stBADARG
      else if 4 ≤ s.legendsOpen then s.reply n stBUSY
      else if s.staged.any Staged.ok then
        (s.mailWrite (s.fref n).1 (s.par n 7) (cbClaims [(70004, s.firmwareClaim), (70020, cbBool true)])).reply n stUPDATING
          [(cbClaims [(70004, s.firmwareClaim), (70020, cbBool true)]).length]
      else s.askKyrdo n (s.fref n).1 (.legend (s.par n 7) (s.unclaim.legendClaims (s.fref n).1 (s.nonce n))) := by
  have hnamed : ¬ (s.flaskState (s.fref n).1 = flFREE ∨ s.flaskState (s.fref n).1 = flCREATING ∨ s.flaskState (s.fref n).1 = flRESETTING ∨
      s.flaskState (s.fref n).1 = flDESTROYING ∨ 3 ≤ s.rd .QN_PHASE (s.fref n).1) := by
    simp only [List.mem_cons, List.not_mem_nil, or_false, not_or] at hst
    obtain ⟨h1, h2, h3, h4⟩ := hst
    rintro (h | h | h | h | h)
    · exact h1 h
    · exact h2 h
    · exact h3 h
    · exact h4 h
    · omega
  unfold State.legendReq
  rw [href]
  exact (if_neg (by decide)).trans (if_neg hnamed)

/-- What Kyrdo's silence brings about. -/
theorem kyrdoTimeout_eq {r : KyReq} (hr : s.kyreq? n = some r) :
    let t := (s.dropKy n).elapse (r.at_ + 100000000)
    (r.ask = .create → s.kyrdoTimeout n = (t.wr .FL_ERR_KYRDO_TIMEOUT 1).reply n stTIMEOUT) ∧
    (∀ buf cs, r.ask = .legend buf cs → s.kyrdoTimeout n = (t.wr .FL_ERR_KYRDO_TIMEOUT 1).reply n stTIMEOUT) ∧
    (∀ w buf, r.ask = .cert w buf → s.kyrdoTimeout n = t.reply n stTIMEOUT) ∧
    (∀ comp data, r.ask = .image comp data → s.kyrdoTimeout n =
      (if t.staged.any (fun x => x.comp == comp && x.bank == data) then t.unstage comp else t).reply n stTIMEOUT) := by
  unfold State.kyrdoTimeout
  rw [hr]
  dsimp only
  refine ⟨fun ha => ?_, fun buf cs ha => ?_, fun w buf ha => ?_, fun comp data ha => ?_⟩
  · rw [ha]
  · rw [ha]
  · rw [ha]
  · rw [ha]
    rfl

/-- An image that is no longer staged leaves registers, replies and requests to Kyrdo changed alone. -/
theorem unstage_keeps {β : Type} {p : State → β} (hwr : ∀ (t : State) g v i, p (t.wr g v i) = p t) (hreqs : ∀ (t : State) q, p { t with kyreqs := t.kyreqs.filter q } = p t)
    (hstaged : ∀ (t : State) l, p { t with staged := l } = p t) (t : State) (comp : Nat) : p (t.unstage comp) = p t :=
  (hwr _ _ _ _).trans ((hwr _ _ _ _).trans ((hstaged _ _).trans ((replyAll_keeps p hwr _ _ _ _).trans (hreqs _ _))))

theorem kyreqs_unstage (t : State) (comp : Nat) : ∃ q, (t.unstage comp).kyreqs = t.kyreqs.filter q :=
  ⟨_, replyAll_keeps State.kyreqs (fun _ _ _ _ => rfl) _ _ _ _⟩

end

/-- Settles O52 (R394 to R397, R420, R457). -/
theorem legendsAndCertificates : Obligations.LegendsAndCertificates := by
  refine ⟨fun s n hs => ?_, fun s n sig r buf cs hn hr hask => ?_, fun s n hs => ?_, fun s n buf r w c hn hr hask => ?_, fun s b t0 x hx hsent => ?_,
    fun s n r hn hr hask => ?_⟩
  · intro b f st buf href hst hphase
    have hn : n < 16 := hs.1
    have hbphase : b.rd .QN_PHASE f < 3 := (rd_begun s n (f := .QN_PHASE) (by decide) (by decide) (by decide) f).symm ▸ hphase
    have hlegends : b.legendsOpen = s.legendsOpen := begun_keeps State.legendsOpen (fun _ _ => rfl) (fun _ _ _ => rfl) (fun _ _ _ => rfl) s n
    have hstages : b.staged = s.staged := begun_keeps State.staged (fun _ _ => rfl) (fun _ _ _ => rfl) (fun _ _ _ => rfl) s n
    have hfirmware : b.firmwareClaim = s.firmwareClaim := begun_keeps State.firmwareClaim (fun _ _ => rfl) (fun _ _ _ => rfl) (fun _ _ _ => rfl) s n
    have hreq := legendReq_of_named (s := b) href ((fref_begun s n).symm ▸ hst) ((fref_begun s n).symm ▸ hbphase)
    rw [fref_begun, par_begun] at hreq
    have hrun {u : State} (h : b.legendReq n = u) := congrArg s.after ((mbRun_of_starts hs fun t => t.legendReq n).trans (congrArg State.unclaim h))
    refine ⟨fun hbuf => ?_, fun hbuf halign hopen => ⟨fun hstaged => ?_, fun hstaged => ?_⟩⟩
    · rw [if_pos (by rw [show b.flaskBuf (s.fref n).1 (s.par n 7) (128 * 1024) = false from hbuf]; rfl)] at hreq
      obtain ⟨hmem, hreplied, -⟩ := reply_begun_leaves (s := s) (st := stDENIED) hn (by decide)
      exact ⟨_, hrun hreq, hmem, hreplied⟩
    · rw [if_neg (by rw [show b.flaskBuf (s.fref n).1 (s.par n 7) (128 * 1024) = true from hbuf]; decide), if_neg (not_not.2 halign),
        if_neg (by omega), hstages, hstaged, if_neg (by decide), nonce_begun] at hreq
      obtain ⟨hmem, hasked, -⟩ := askKyrdo_leaves (s := s) hn (sameMem_begun s n) f (.legend buf (b.unclaim.legendClaims f (s.nonce n)))
      exact ⟨_, hrun hreq, hmem, hasked⟩
    · intro m
      rw [if_neg (by rw [show b.flaskBuf (s.fref n).1 (s.par n 7) (128 * 1024) = true from hbuf]; decide), if_neg (not_not.2 halign),
        if_neg (by omega), hstages, hstaged, if_pos rfl, hfirmware] at hreq
      exact ⟨_, hrun hreq, replied_reply _ _ hn (by decide), landed_mailed (begun_hlp s n) f buf m n stUPDATING [m.length]⟩
  · intro all bytes
    have hsigned : s.legendSigned n sig = (({ s.dropKy n with kyrdo := { s.kyrdo with legends := s.kyrdo.legends + 1 } } : State).mailWrite r.flask buf bytes).reply n
        stOK [bytes.length] := by
      unfold State.legendSigned
      rw [hr]
      dsimp only
      rw [hask]
    clear_value bytes
    have hhlp : ({ s.dropKy n with kyrdo := { s.kyrdo with legends := s.kyrdo.legends + 1 } } : State).hlp = s.hlp := rfl
    have hkyrdo : ({ s.dropKy n with kyrdo := { s.kyrdo with legends := s.kyrdo.legends + 1 } } : State).kyrdo.legends = s.kyrdo.legends + 1 := rfl
    generalize ({ s.dropKy n with kyrdo := { s.kyrdo with legends := s.kyrdo.legends + 1 } } : State) = t at *
    have hsaid : ((t.mailWrite r.flask buf bytes).reply n stOK [bytes.length]).kyrdo = t.kyrdo :=
      (reply_keeps State.kyrdo (fun _ _ _ _ => rfl) _ _ _ _).trans (mailWrite_keeps (p := State.kyrdo) ⟨fun _ _ _ _ _ _ => rfl, fun _ _ => rfl⟩ _ _ _ _)
    have hlanded := landed_mailed hhlp r.flask buf bytes n stOK [bytes.length]
    exact ⟨_, congrArg s.after hsigned, replied_reply _ _ hn (by decide), (congrArg Kyrdo.legends hsaid).trans hkyrdo, hlanded, rd_reply_one _ _ _ _⟩
  · intro buf b
    have hn : n < 16 := hs.1
    have hcert : b.certGet n = if buf % 64 ≠ 0 then b.reply n stBADARG else if !b.outsideAll buf migBuf then b.reply n stDENIED
        else b.askKyrdo n 0 (.cert (bit (s.par n 0) 48) buf) := by
      unfold State.certGet
      rw [par_begun, par_begun]
    have hrun {u : State} (h : b.certGet n = u) := congrArg s.after ((mbRun_of_starts hs fun t => t.certGet n).trans (congrArg State.unclaim h))
    refine ⟨fun halign hout => ?_, fun halign => ?_, fun halign hout => ?_⟩
    · rw [if_neg (not_not.2 halign), hout, if_neg (by decide)] at hcert
      exact ⟨_, hrun hcert, sameMem_begun s n, slotState_begun s hn, List.mem_cons_self⟩
    · rw [if_pos halign] at hcert
      obtain ⟨hmem, hreplied, -⟩ := reply_begun_leaves (s := s) (st := stBADARG) hn (by decide)
      exact ⟨_, hrun hcert, hmem, hreplied⟩
    · rw [if_neg (not_not.2 halign), hout, if_pos (by decide)] at hcert
      obtain ⟨hmem, hreplied, -⟩ := reply_begun_leaves (s := s) (st := stDENIED) hn (by decide)
      exact ⟨_, hrun hcert, hmem, hreplied⟩
  · intro bytes
    have hanswer : s.kyrdoAnswer n (.chain c) = (((s.dropKy n).ownWrite buf bytes).countFor .package 9 bytes.length).reply n stOK [bytes.length] := by
      unfold State.kyrdoAnswer
      rw [hr]
      dsimp only
      rw [hask]
      rfl
    have hlen : bytes.length < 2 ^ 64 := (List.length_take_le 16384 _).trans_lt (by decide)
    clear_value bytes
    have hlanded := landed_written (n := n) (s := s) (t := s.dropKy n) rfl buf bytes .package 9 bytes.length stOK [bytes.length]
    exact ⟨_, congrArg s.after hanswer, replied_reply _ _ hn (by decide), hlanded,
      (rd_reply_one _ _ _ _).trans (Nat.mod_eq_of_lt hlen)⟩
  · have hid : x.id = b := by
      have h := List.find?_some hx
      exact beq_iff_eq.1 (Bool.and_eq_true_iff.1 h).1
    have htimeout : s.blockTimeout b = ((s.elapse (t0 + 100000000)).wr .EN_ERR_KYRDO_TIMEOUT 1).sendBlock x := by
      unfold State.blockTimeout
      rw [hx]
      dsimp only
      rw [hsent]
    have hmem := updAll_mem (p := fun y : Block => y.id == x.id) (f := fun y => { y with sent := some (max s.time (t0 + 100000000)), due := true })
      (List.mem_of_find?_eq_some hx)
    rw [beq_self_eq_true, if_pos rfl] at hmem
    refine ⟨_, congrArg s.after htimeout, sameMem_of_eq rfl rfl, rfl, rd_wr_one _ _ _, onlyRegs_wr (fun _ _ _ => rfl) List.mem_cons_self 1,
      ⟨s.blockClaims x (s.kyrdo.blocks + 1), ?_⟩, hmem⟩
    rw [← hid]
    exact List.mem_cons_self
  · let t := (s.dropKy n).elapse (r.at_ + 100000000)
    have hgone : t.kyreqs.find? (fun r => r.slot == n) = none := List.find?_eq_none.2 fun x hx => by simpa using (List.mem_filter.1 hx).2
    have hleaves (u : State) (hm : sameMem s u) (ht : u.time = t.time) (hk : u.kyreq? n = none) : sameMem s (u.reply n stTIMEOUT) ∧
        (u.reply n stTIMEOUT).replied n stTIMEOUT ∧ (u.reply n stTIMEOUT).time = max s.time (r.at_ + 100000000) ∧ (u.reply n stTIMEOUT).kyreq? n = none :=
      ⟨(sameMem_reply _ _ _ _ _).2 hm, replied_reply _ _ hn (by decide), (reply_keeps State.time (fun _ _ _ _ => rfl) _ _ _ _).trans ht,
        (reply_keeps (fun t => t.kyreq? n) (fun _ _ _ _ => rfl) _ _ _ _).trans hk⟩
    have hrun {u : State} (h : s.kyrdoTimeout n = u) : exec (.kyrdoTimeout false n) s = s.after u := congrArg s.after h
    have hsigned (h : s.kyrdoTimeout n = (t.wr .FL_ERR_KYRDO_TIMEOUT 1).reply n stTIMEOUT) : acts (.kyrdoTimeout false n) s (fun u => sameMem s u ∧
        u.replied n stTIMEOUT ∧ u.time = max s.time (r.at_ + 100000000) ∧ u.kyreq? n = none ∧ u.rd .FL_ERR_KYRDO_TIMEOUT = 1) := by
      obtain ⟨hm, hreplied, htime, hk⟩ := hleaves (t.wr .FL_ERR_KYRDO_TIMEOUT 1) (sameMem_of_eq rfl rfl) rfl hgone
      exact ⟨_, hrun h, hm, hreplied, htime, hk, (rd_reply_nil _ _ _ (not_mem_replyFields (by decide) _ _)).trans (rd_wr_one _ _ _)⟩
    have hquiet {u : State} (h : s.kyrdoTimeout n = u.reply n stTIMEOUT) (hm : sameMem s u) (ht : u.time = t.time) (hk : u.kyreq? n = none) {Q : Prop}
        (hQ : ¬ Q) : acts (.kyrdoTimeout false n) s (fun u => sameMem s u ∧ u.replied n stTIMEOUT ∧ u.time = max s.time (r.at_ + 100000000) ∧
          u.kyreq? n = none ∧ (Q → u.rd .FL_ERR_KYRDO_TIMEOUT = 1)) := by
      obtain ⟨hm, hreplied, htime, hk⟩ := hleaves u hm ht hk
      exact ⟨_, hrun h, hm, hreplied, htime, hk, fun h => absurd h hQ⟩
    obtain ⟨hcreate, hlegend, hcert, himage⟩ := kyrdoTimeout_eq hr
    rcases ha : r.ask with _ | ⟨buf, claims⟩ | ⟨gen, env⟩ | ⟨receipt, buf⟩ | ⟨comp, data⟩ | _ | _ | _ | _ | _ | _
    case create =>
      obtain ⟨u, hu, hm, hreplied, htime, hk, herr⟩ := hsigned (hcreate ha)
      exact ⟨u, hu, hm, hreplied, htime, hk, fun _ => herr⟩
    case legend =>
      obtain ⟨u, hu, hm, hreplied, htime, hk, herr⟩ := hsigned (hlegend _ _ ha)
      exact ⟨u, hu, hm, hreplied, htime, hk, fun _ => herr⟩
    case cert => exact hquiet (u := t) (hcert _ _ ha) (sameMem_of_eq rfl rfl) rfl hgone id
    case image =>
      refine hquiet (himage _ _ ha) ?_ ?_ ?_ id
      · split
        · exact sameMem_of_eq (unstage_keeps (p := State.hbm) (fun _ _ _ _ => rfl) (fun _ _ => rfl) (fun _ _ => rfl) t _)
            (unstage_keeps (p := State.wbuf) (fun _ _ _ _ => rfl) (fun _ _ => rfl) (fun _ _ => rfl) t _)
        · exact sameMem_of_eq rfl rfl
      · split
        · exact unstage_keeps (p := State.time) (fun _ _ _ _ => rfl) (fun _ _ => rfl) (fun _ _ => rfl) t _
        · rfl
      · split
        · obtain ⟨q, hq⟩ := kyreqs_unstage t comp
          rw [State.kyreq?, hq]
          exact List.find?_eq_none.2 fun x hx => List.find?_eq_none.1 hgone x (List.mem_filter.1 hx).1
        · exact hgone
    all_goals exact absurd hask (by rw [ha]; exact id)

end Sys2Proof.Laws

/-! # The route unit

ROUTE records, scores, selection and write-back (R167 to R195). -/
namespace Sys2Proof.Laws

open Sys2Proof.Machine

/-! ## Values that enter gates in one clock (R85, R188) -/

/-- The registers that a value brought within its gate's descriptor moves. -/
def clampRegs : List Field := [.MC_GATE_CLAMP_COUNT, .MC_GATE_CLAMP_QUEUE, .MC_GATE_CLAMP_GATE, .EV_SRC_PENDING, .EV_STATS_MERGED]

section
variable {β : Type} {p : State → β} (hwr : ∀ (t : State) f v i, f ∈ clampRegs → p (t.wr f v i) = p t)
include hwr

theorem raise_of_clamp (t : State) (n : Nat) : p (t.raise n) = p t := by
  unfold State.raise
  split
  · exact hwr t _ _ _ (by decide)
  · exact hwr t _ _ _ (by decide)

theorem noteClamp_of_regs (hctx : ∀ (t : State) c g, p (t.modCtx c g) = p t) (t : State) (c g : Nat) : p (t.noteClamp c g) = p t := by
  have hcount : p (t.bump .MC_GATE_CLAMP_COUNT) = p t := hwr t _ _ _ (by decide)
  unfold State.noteClamp
  split
  · rfl
  · dsimp only
    split
    · exact (hwr _ _ _ _ (by decide)).trans hcount
    · split
      · exact (hwr _ _ _ _ (by decide)).trans ((hwr _ _ _ _ (by decide)).trans hcount)
      · exact (hctx _ _ _).trans ((raise_of_clamp hwr _ _).trans ((hwr _ _ _ _ (by decide)).trans ((hwr _ _ _ _ (by decide)).trans hcount)))

theorem gateWrite_of_regs (hctx : ∀ (t : State) c g, p (t.modCtx c g) = p t) (t : State) (c g v : Nat) : p (t.gateWrite c g v) = p t := by
  unfold State.gateWrite
  split
  · rfl
  · split
    · rfl
    · dsimp only
      split
      · exact hctx _ _ _
      · exact (noteClamp_of_regs hwr hctx _ _ _).trans (hctx _ _ _)

end

/-! ## Operations -/

section
variable {s : State} {i : Nat} {o : RouteOp}

theorem op_id (h : s.op? i = some o) : o.id = i := beq_iff_eq.1 (List.find?_some (p := fun x : RouteOp => x.id == i) h)

theorem setOp_comp (k : RouteOp) (i : Nat) :
    ((fun x : RouteOp => x.id == i) ∘ fun x => if x.id == k.id then k else x) = fun x => x.id == i := by
  funext x
  rw [Function.comp_apply]
  split
  · rename_i hx
    rw [beq_iff_eq.1 hx]
  · rfl

theorem op_setOp {k : RouteOp} (h : s.op? i = some o) (hk : k.id = i) : (s.setOp k).op? i = some k := by
  have h : s.route.ops.find? (fun x => x.id == i) = some o := h
  rw [State.op?, State.setOp, updAll, List.find?_map, setOp_comp, h, Option.map_some, op_id h, hk, beq_self_eq_true, if_pos rfl]

theorem op_setOp_ne {k : RouteOp} (h : s.op? i = some o) (hk : k.id ≠ i) : (s.setOp k).op? i = some o := by
  have h : s.route.ops.find? (fun x => x.id == i) = some o := h
  have hid := op_id h
  rw [State.op?, State.setOp, updAll, List.find?_map, setOp_comp, h, Option.map_some, if_neg]
  exact fun hx => hk ((beq_iff_eq.1 hx).symm.trans hid)

theorem op_of_ops {t u : State} (h : u.route.ops = t.route.ops) (i : Nat) : u.op? i = t.op? i := by rw [State.op?, h, State.op?]

end

/-- The registers in which the route unit reports, and those of a source that is raised. -/
def routeErrRegs : List Field := [.RT_LAST_QUEUE, .RT_LAST_QGEN, .RT_LAST_RECORD, .RT_LAST_CAUSE, .RT_ERR_TOKENS, .RT_ERR_POISON, .EV_SRC_PENDING, .EV_STATS_MERGED]

/-- A condition of R194 that is reported leaves all but its registers and the pours that it has been raised for. -/
theorem routeErr_keeps {β : Type} {p : State → β} (hwr : ∀ (t : State) f v i, f ∈ routeErrRegs → p (t.wr f v i) = p t)
    (hraised : ∀ (t : State) l, p { t with route := { t.route with raised := l } } = p t) (t : State) (o : RouteOp) {f : Field} (hf : f ∈ routeErrRegs) (cause : Nat) :
    p (t.routeErr o f cause) = p t := by
  have hlast : p ((t.wr f 1).routeLast o cause) = p t :=
    (hwr _ _ _ _ (by decide)).trans ((hwr _ _ _ _ (by decide)).trans ((hwr _ _ _ _ (by decide)).trans ((hwr _ _ _ _ (by decide)).trans (hwr _ _ _ _ hf))))
  have hraise (u : State) (n : Nat) : p (u.raise n) = p u := by
    unfold State.raise
    split
    · exact hwr u _ _ _ (by decide)
    · exact hwr u _ _ _ (by decide)
  unfold State.routeErr
  dsimp only
  split
  · exact hlast
  · have hset : p { ((t.wr f 1).routeLast o cause).raiseQueueErr o.pour.queue with
        route := { ((t.wr f 1).routeLast o cause).route with raised := o.pour :: ((t.wr f 1).routeLast o cause).route.raised } } =
        p (((t.wr f 1).routeLast o cause).raiseQueueErr o.pour.queue) := by
      have hroute : (((t.wr f 1).routeLast o cause).raiseQueueErr o.pour.queue).route = ((t.wr f 1).routeLast o cause).route :=
        raise_keeps State.route (fun _ _ _ _ => rfl) _ _
      rw [← hroute]
      exact hraised _ _
    exact hset.trans ((hraise _ _).trans hlast)

/-! ## Marks (R92) -/

theorem bit_setBits_one (v p k : Nat) : bit (setBits v p 1 1) k = if k = p then true else bit v k := by
  by_cases h : k = p
  · rw [if_pos h, h, bit, bits_setBits_same]
    rfl
  · rw [if_neg h, bit, bit, bits_setBits_disjoint _ _ (by omega)]

theorem bit_marked {gs : List Nat} {g : Nat} (v : Nat) (h : g ∈ gs ∨ bit v g = true) : bit (gs.foldl (fun v g => setBits v g 1 1) v) g = true := by
  induction gs generalizing v with
  | nil => exact h.resolve_left List.not_mem_nil
  | cons p gs ih =>
    refine ih _ ?_
    rw [bit_setBits_one]
    by_cases hp : g = p
    · exact .inr (if_pos hp)
    · rw [if_neg hp]
      exact h.imp_left fun hm => (List.mem_cons.1 hm).resolve_left hp

theorem bit_unmarked {gs : List Nat} {g : Nat} (v : Nat) (h : g ∈ gs ∨ bit v g = false) : bit (gs.foldl (fun v g => setBits v g 1 0) v) g = false := by
  induction gs generalizing v with
  | nil => exact h.resolve_left List.not_mem_nil
  | cons p gs ih =>
    refine ih _ ?_
    rw [bit_setBits_zero]
    by_cases hp : g = p
    · exact .inr (if_pos hp)
    · rw [if_neg hp]
      exact h.imp_left fun hm => (List.mem_cons.1 hm).resolve_left hp

/-! ## ROUTE records (R167, R168) -/

/-- Operation o of record r of x is held, and reported where its token count is limited. -/
def opHeld (b : State) (x : Ctx) (r : List Byte) (o : RouteOp) : State :=
  let t : State := { b with nextId := b.nextId + 1, route := { b.route with ops := b.route.ops ++ [o] } }
  if rowLimit (fld r 0 8 2) < x.op r 0 32 then t.routeErr o .RT_ERR_TOKENS 2 else t

theorem opHeld_keeps {β : Type} {p : State → β} (hwr : ∀ (t : State) f v i, f ∈ routeErrRegs → p (t.wr f v i) = p t)
    (hraised : ∀ (t : State) l, p { t with route := { t.route with raised := l } } = p t) (b : State) (x : Ctx) (r : List Byte) (o : RouteOp) :
    p (opHeld b x r o) = p { b with nextId := b.nextId + 1, route := { b.route with ops := b.route.ops ++ [o] } } := by
  unfold opHeld
  dsimp only
  split
  · exact routeErr_keeps hwr hraised _ o (by decide) 2
  · rfl

/-- The gates of a record are marked pending beside those that are. -/
def marked (x : Ctx) (r : List Byte) (y : Ctx) : Ctx := { y with pending := (routeGates r).foldl (fun v g => setBits v g 1 1) x.pending }

/-- The operation of record r of x, in mould m. -/
theorem takeRoute_eq (b : State) (x : Ctx) (m : Mould) (r : List Byte) : ∃ o : RouteOp,
    b.takeRoute x m r = (((opHeld b x r o).count x.num 9 o.table.length).modCtx x.num (marked x r)).goTo x.num (x.pc + 1) ∧
    o.id = b.nextId ∧ o.ctx = x.num ∧ o.index = x.pc ∧ o.mode = fld r 0 8 2 ∧
    o.rows = min (x.op r 0 32) (rowLimit (fld r 0 8 2)) ∧ o.k = fld r 0 16 4 ∧ o.score = x.gate (fld r 1 16 6) ∧ o.marks = routeGates r :=
  ⟨_, rfl, rfl, rfl, rfl, rfl, rfl, rfl, rfl, rfl⟩

/-- The route unit takes the operation of a record. -/
theorem takeRoute_leaves {b : State} {c : Nat} {x y : Ctx} (hx : x.num = c) (hy : b.ctx? c = some y) (m : Mould) (r : List Byte) :
    let u := b.takeRoute x m r
    sameMem b u ∧ u.goesTo c (x.pc + 1) ∧ (∃ z, u.ctx? c = some z ∧ ∀ g ∈ routeGates r, bit z.pending g = true) ∧
      ∃ o, u.route.ops = b.route.ops ++ [o] ∧ o.id = b.nextId ∧ o.ctx = c ∧ o.index = x.pc ∧ o.mode = fld r 0 8 2 ∧
        o.rows = min (x.op r 0 32) (rowLimit (fld r 0 8 2)) ∧ o.k = fld r 0 16 4 ∧ o.score = x.gate (fld r 1 16 6) ∧ o.marks = routeGates r := by
  obtain ⟨o, hu, hid, hctx, hfields⟩ := takeRoute_eq b x m r
  obtain ⟨mt, hmt⟩ := count_eq (opHeld b x r o) x.num 9 o.table.length
  rw [hmt, hx] at hu
  intro u
  have hu : u = (({ opHeld b x r o with meter := mt } : State).modCtx c (marked x r)).goTo c (x.pc + 1) := hu
  have hmid {β : Type} {p : State → β} (hwr : ∀ (t : State) f v i, f ∈ routeErrRegs → p (t.wr f v i) = p t)
      (hraised : ∀ (t : State) l, p { t with route := { t.route with raised := l } } = p t) := opHeld_keeps hwr hraised b x r o
  have hz : (({ opHeld b x r o with meter := mt } : State).modCtx c (marked x r)).ctx? c = some (marked x r y) := by
    rw [ctx_modCtx_same (f := marked x r) _ fun _ => rfl]
    have hheld : ({ opHeld b x r o with meter := mt } : State).ctx? c = b.ctx? c := hmid (p := fun t => t.ctx? c) (fun _ _ _ _ _ => rfl) fun _ _ => rfl
    rw [hheld, hy]
    rfl
  rw [hu]
  refine ⟨sameMem_of_eq ?_ ?_, goesTo_goTo hz _, ⟨freshAt (x.pc + 1) (marked x r y), ?_, fun g hg => bit_marked _ (.inl hg)⟩, o, ?_, hid, hctx.trans hx, hfields⟩
  · exact (goTo_keeps _ _ _ State.hbm fun _ _ _ _ => rfl).trans (hmid (p := State.hbm) (fun _ _ _ _ _ => rfl) fun _ _ => rfl)
  · exact (goTo_keeps _ _ _ State.wbuf fun _ _ _ _ => rfl).trans (hmid (p := State.wbuf) (fun _ _ _ _ _ => rfl) fun _ _ => rfl)
  · rw [ctx_goTo_same, hz]
    rfl
  · exact (goTo_keeps _ _ _ (fun t => t.route.ops) fun _ _ _ _ => rfl).trans (hmid (p := fun t : State => t.route.ops) (fun _ _ _ _ _ => rfl) fun _ _ => rfl)

/-- Whether a walk may go on does not hang on what the issue of another context's record moves. -/
theorem mayWalk_begun {s : State} {c d : Nat} {x : Ctx} {m : Mould} (hx : s.ctx? c = some x) (hd : d ≠ c) :
    ((s.beginRecord x m).ctx? d).any (s.beginRecord x m).mayWalk = (s.ctx? d).any s.mayWalk := by
  obtain ⟨-, hregs, hctxs⟩ := walked_beginRecord s x m
  rw [ctx_num hx] at hctxs
  rw [hctxs d hd]
  cases hy : s.ctx? d with
  | none => rfl
  | some y =>
    have hroot : ((s.beginRecord x m).rootOf y).cause = (s.rootOf y).cause := by
      unfold State.rootOf
      by_cases hr : y.root = c
      · rw [hr, ctx_beginRecord hx, hx]
        show (issued x).cause = x.cause
        unfold issued
        split <;> rfl
      · rw [hctxs _ hr]
    have hphase : (s.beginRecord x m).rd .RAS_STATUS_PHASE = s.rd .RAS_STATUS_PHASE := hregs _ _ (by simp)
    have hquench : (s.beginRecord x m).rd .QN_PHASE y.flask = s.rd .QN_PHASE y.flask := hregs _ _ (by simp)
    have hfaulted : (s.beginRecord x m).faulted = s.faulted :=
      beginRecord_keeps (p := State.faulted) ⟨fun _ _ _ _ _ => rfl, fun _ _ => rfl, fun _ _ => rfl⟩ (fun _ _ _ => rfl) s x m
    show (s.beginRecord x m).mayWalk y = s.mayWalk y
    simp only [State.mayWalk, State.ready, State.ending, hroot, hphase, hquench, hfaulted]

/-- The contexts that wait for the unit before context c, and whose walks may go on. -/
def aheadOf (s : State) (c : Nat) : List Nat := (s.route.waits.takeWhile (fun k => k != c)).filter (fun k => (s.ctx? k).any s.mayWalk)

theorem aheadOf_begun {s : State} {c : Nat} {x : Ctx} {m : Mould} (hx : s.ctx? c = some x) : aheadOf (s.beginRecord x m) c = aheadOf s c := by
  have hroute : (s.beginRecord x m).route = s.route :=
    beginRecord_keeps (p := State.route) ⟨fun _ _ _ _ _ => rfl, fun _ _ => rfl, fun _ _ => rfl⟩ (fun _ _ _ => rfl) s x m
  unfold aheadOf
  rw [hroute]
  refine List.filter_congr fun k hk => mayWalk_begun hx ?_
  exact bne_iff_ne.1 (List.mem_takeWhile_imp (p := fun k => k != c) hk)

/-! ## A read returns (R172, R194) -/

/-- The read r of the route unit that has returned reaches its operation. -/
def routeReturned (t : State) (r : Req) : State :=
  match r.purpose, r.fin with
  | .route i, some (bs, slag) =>
    let t := t.dropReq r.id
    match t.op? i with
    | none => t
    | some o =>
      let at_ := r.addr + 64 * r.bad.headD 0
      let t := if slag && r.tier == 0 then t.hbmUe at_ 3 0 o.index r.flask ((r.root.map PourId.word).getD 0) else t
      let t := if slag then t.routeErr o .RT_ERR_POISON 3 else t
      let line (i : Nat) : Nat × List Byte × Bool := (r.va + 64 * i, slice bs (64 * i) 64, r.bad.contains i)
      t.setOp { o with got := o.got ++ (List.range (bs.length / 64)).map line }
  | _, _ => t

/-- A read of the route unit that has returned. -/
def isRouteBack (r : Req) : Bool := match r.purpose with | .route _ => r.fin.isSome | _ => false

theorem routeReturns_eq (s : State) : s.routeReturns = (s.reqs.filter isRouteBack).foldl routeReturned s := rfl

/-- Operation o once it has what read r returns. -/
def gotLines (o : RouteOp) (r : Req) (bs : List Byte) : RouteOp :=
  { o with got := o.got ++ (List.range (bs.length / 64)).map (fun i => (r.va + 64 * i, slice bs (64 * i) 64, r.bad.contains i)) }

theorem isRouteBack_iff {r : Req} (h : isRouteBack r = true) : ∃ i bs slag, r.purpose = .route i ∧ r.fin = some (bs, slag) := by
  unfold isRouteBack at h
  split at h
  · rename_i i hp
    obtain ⟨⟨bs, slag⟩, hfin⟩ := Option.isSome_iff_exists.1 h
    exact ⟨i, bs, slag, hp, hfin⟩
  · exact absurd h Bool.false_ne_true

section
variable {t : State} {r : Req} {i : Nat} {bs : List Byte} {slag : Bool}

theorem routeReturned_of_none (hp : r.purpose = .route i) (hfin : r.fin = some (bs, slag)) (ho : t.op? i = none) :
    routeReturned t r = t.dropReq r.id := by
  have ho : (t.dropReq r.id).op? i = none := ho
  unfold routeReturned
  rw [hp, hfin]
  dsimp only
  rw [ho]

/-- A return takes its request away, and reaches its operation. -/
theorem routeReturned_of_op {o : RouteOp} (hp : r.purpose = .route i) (hfin : r.fin = some (bs, slag)) (ho : t.op? i = some o) :
    (routeReturned t r).reqs = (t.dropReq r.id).reqs ∧ (routeReturned t r).route.ops = (t.setOp (gotLines o r bs)).route.ops := by
  have ho : (t.dropReq r.id).op? i = some o := ho
  let u := if slag && r.tier == 0 then (t.dropReq r.id).hbmUe (r.addr + 64 * r.bad.headD 0) 3 0 o.index r.flask ((r.root.map PourId.word).getD 0) else t.dropReq r.id
  let v := if slag then u.routeErr o .RT_ERR_POISON 3 else u
  have hret : routeReturned t r = v.setOp (gotLines o r bs) := by
    unfold routeReturned
    rw [hp, hfin]
    dsimp only
    rw [ho]
    rfl
  have hu : u.reqs = (t.dropReq r.id).reqs ∧ u.route = t.route := by
    unfold u
    split
    · exact ⟨ras_reqs _ _, ras_keeps (p := State.route) (fun _ _ _ _ _ _ => rfl) (fun _ _ _ _ => rfl) _ _⟩
    · exact ⟨rfl, rfl⟩
  have hv : v.reqs = u.reqs ∧ v.route.ops = u.route.ops := by
    unfold v
    split
    · exact ⟨routeErr_keeps (p := State.reqs) (fun _ _ _ _ _ => rfl) (fun _ _ => rfl) u o (by decide) 3,
        routeErr_keeps (p := fun t : State => t.route.ops) (fun _ _ _ _ _ => rfl) (fun _ _ => rfl) u o (by decide) 3⟩
    · exact ⟨rfl, rfl⟩
  rw [hret]
  refine ⟨hv.1.trans hu.1, ?_⟩
  show updAll v.route.ops _ _ = updAll t.route.ops _ _
  rw [hv.2, hu.2]

/-- Operation i of t holds at least what P asks of what it has read. -/
def opHas (i : Nat) (P : List (Nat × List Byte × Bool) → Prop) (t : State) : Prop := ∃ o, t.op? i = some o ∧ P o.got

variable {P : List (Nat × List Byte × Bool) → Prop}

theorem opHas_routeReturned (hP : ∀ g l, P g → P (g ++ l)) (hr : isRouteBack r = true) (h : opHas i P t) : opHas i P (routeReturned t r) := by
  obtain ⟨a, bs, slag, hp, hfin⟩ := isRouteBack_iff hr
  obtain ⟨o, ho, hgot⟩ := h
  rcases ha : t.op? a with _ | k
  · rw [routeReturned_of_none hp hfin ha]
    exact ⟨o, ho, hgot⟩
  · obtain ⟨-, hops⟩ := routeReturned_of_op hp hfin ha
    have hk : k.id = a := op_id ha
    rw [opHas, op_of_ops hops]
    by_cases hai : a = i
    · subst hai
      obtain rfl := Option.some.inj (ho.symm.trans ha)
      exact ⟨_, op_setOp (k := gotLines o r bs) ha hk, hP _ _ hgot⟩
    · exact ⟨o, op_setOp_ne (k := gotLines k r bs) ho (fun h => hai (hk.symm.trans h)), hgot⟩

theorem gone_routeReturned {id : Nat} (hr : isRouteBack r = true) (h : t.req? id = none) : (routeReturned t r).req? id = none := by
  obtain ⟨a, bs, slag, hp, hfin⟩ := isRouteBack_iff hr
  have hreqs : (routeReturned t r).reqs = (t.dropReq r.id).reqs := by
    rcases ha : t.op? a with _ | k
    · rw [routeReturned_of_none hp hfin ha]
    · exact (routeReturned_of_op hp hfin ha).1
  have h : t.reqs.find? (fun r => r.id == id) = none := h
  rw [State.req?, hreqs, State.dropReq, List.find?_eq_none]
  exact fun x hx => List.find?_eq_none.1 h x (List.mem_filter.1 hx).1

/-- A read of an operation that has returned is among what the operation has read, and its request is gone. -/
theorem routeReturns_brings {o : RouteOp} (hr : r ∈ t.reqs) (hp : r.purpose = .route i) (hfin : r.fin = some (bs, slag)) (ho : t.op? i = some o) :
    t.routeReturns.req? r.id = none ∧
    opHas i (fun got => ∀ k, k < bs.length / 64 → (r.va + 64 * k, slice bs (64 * k) 64, r.bad.contains k) ∈ got) t.routeReturns := by
  have hback : isRouteBack r = true := by
    unfold isRouteBack
    rw [hp, hfin]
    rfl
  obtain ⟨before, after, hsplit⟩ := List.append_of_mem (List.mem_filter.2 ⟨hr, hback⟩)
  have hall (x : Req) (hx : x ∈ t.reqs.filter isRouteBack) : isRouteBack x = true := (List.mem_filter.1 hx).2
  rw [hsplit] at hall
  rw [routeReturns_eq, hsplit, List.foldl_append, List.foldl_cons]
  obtain ⟨k, hk, -⟩ : opHas i (fun _ => True) (before.foldl routeReturned t) :=
    List.foldlRecOn (motive := opHas i fun _ => True) before routeReturned ⟨o, ho, trivial⟩ fun u hu x hx =>
      opHas_routeReturned (fun _ _ _ => trivial) (hall x (List.mem_append_left _ hx)) hu
  obtain ⟨hreqs, hops⟩ := routeReturned_of_op hp hfin hk
  have hrest (x : Req) (hx : x ∈ after) := hall x (List.mem_append_right _ (List.mem_cons_of_mem _ hx))
  refine ⟨List.foldlRecOn (motive := fun u => u.req? r.id = none) after routeReturned ?_ fun u hu x hx => gone_routeReturned (hrest x hx) hu,
    List.foldlRecOn (motive := opHas i _) after routeReturned ?_ fun u hu x hx =>
      opHas_routeReturned (fun _ _ h k hk => List.mem_append_left _ (h k hk)) (hrest x hx) hu⟩
  · rw [State.req?, hreqs, State.dropReq, List.find?_eq_none]
    intro x hx
    simpa using (List.mem_filter.1 hx).2
  · refine ⟨_, (op_of_ops hops i).trans (op_setOp (k := gotLines k r bs) hk (op_id (o := k) hk)), fun j hj => ?_⟩
    exact List.mem_append_right _ (List.mem_map.2 ⟨j, List.mem_range.2 hj, rfl⟩)

end

/-- The gates of operation o are pending no more. -/
def unmarked (o : RouteOp) (x : Ctx) : Ctx := { x with pending := o.marks.foldl (fun v g => setBits v g 1 0) x.pending }

/-- Settles O35 (R167 to R195). -/
theorem routeOperations : Obligations.RouteOperations := by
  refine ⟨fun s c x m r h hop mode i hi hmode => ?_, fun s e c r row part data => ?_, fun s e k hk hrep => ?_,
    fun s id i n q o d hq hp hissued hfin htier hkind hparts hhome hwaits ho => ?_, fun s i rest o hturn ho hready => ?_, fun s i o ho hwait => ?_,
    fun s i o x m ho hwrites hout hegress hx hm => ?_⟩
  · obtain ⟨hw, hctx⟩ := begun_of_faces h
    have hx := h.1
    have hroute : (s.beginRecord x m).route = s.route :=
      beginRecord_keeps (p := State.route) ⟨fun _ _ _ _ _ => rfl, fun _ _ => rfl, fun _ _ => rfl⟩ (fun _ _ _ => rfl) s x m
    have hnext : (s.beginRecord x m).nextId = s.nextId :=
      beginRecord_keeps (p := State.nextId) ⟨fun _ _ _ _ _ => rfl, fun _ _ => rfl, fun _ _ => rfl⟩ (fun _ _ _ => rfl) s x m
    have hahead := aheadOf_begun (m := m) hx
    obtain ⟨p, hp, hexec⟩ : ∃ p : List Byte → Bool, p r = true ∧ exec i s = s.after (s.recRoute c p) := by
      simp only [List.mem_cons, List.not_mem_nil, or_false, Prod.mk.injEq] at hi
      rcases hi with ⟨rfl, rfl⟩ | ⟨rfl, rfl⟩ | ⟨rfl, rfl⟩
      · exact ⟨fun r => fld r 0 8 2 == 0, beq_iff_eq.2 hmode, rfl⟩
      · exact ⟨fun r => fld r 0 8 2 == 1, beq_iff_eq.2 hmode, rfl⟩
      · exact ⟨fun r => fld r 0 8 2 == 2, beq_iff_eq.2 hmode, rfl⟩
    generalize hb : s.beginRecord x m = b at *
    have hrec : s.recRoute c p = if decide (b.route.ops.length < 64) && (aheadOf b c).isEmpty then
        ({ b with route := { b.route with waits := b.route.waits.filter (fun k => k != c) } } : State).takeRoute x m r
        else ({ b with route := { b.route with waits := if b.route.waits.contains c then b.route.waits else b.route.waits ++ [c] } } : State).park c .run :=
      hb ▸ record_of_faces h hop hp _
    rw [hroute, hahead] at hrec
    refine ⟨fun hroom hfree => ?_, fun hfull => ?_⟩
    · have hcond : (decide (s.route.ops.length < 64) && (aheadOf s c).isEmpty) = true := by
        rw [decide_eq_true hroom, Bool.true_and]
        exact List.isEmpty_iff.2 hfree
      rw [if_pos hcond] at hrec
      obtain ⟨hmem, hgoes, hmarks, o, hops, hid, hrest⟩ := takeRoute_leaves
        (b := { b with route := { s.route with waits := s.route.waits.filter (fun k => k != c) } }) (ctx_num hx) hctx m r
      rw [hmode] at hrest
      exact ⟨_, hexec.trans (congrArg s.after hrec), sameMem_trans hw.1 hmem, hgoes, hmarks, o, hops, hid.trans hnext, hrest⟩
    · have hcond : (decide (s.route.ops.length < 64) && (aheadOf s c).isEmpty) = false := by
        rcases hfull with hlen | hne
        · rw [decide_eq_false (by omega), Bool.false_and]
        · rw [Bool.and_eq_false_iff]
          exact .inr (List.isEmpty_eq_false_iff.2 hne)
      rw [hcond, if_neg Bool.false_ne_true] at hrec
      refine ⟨_, hexec.trans (congrArg s.after hrec), walked_trans (walked_trans hw (walked_of_still ⟨rfl, rfl, rfl⟩ fun _ _ => rfl)) (walked_park _ c _),
        issued_pc x ▸ waitsAt_park (s := { b with route := { s.route with waits := if s.route.waits.contains c then s.route.waits else s.route.waits ++ [c] } }) hctx .run,
        rfl, ?_⟩
      show c ∈ if s.route.waits.contains c = true then s.route.waits else s.route.waits ++ [c]
      split
      · rename_i hin
        exact List.contains_iff_mem.1 hin
      · exact List.mem_append_right _ List.mem_cons_self
  · intro takes
    have hpush : s.scorePush e c r row part data = match s.route.ops.find? takes with
      | some o =>
        if !(s.on .RT_CTL_PUSH_EN && decide (s.scoreChunks < 4096)) then s.bump .RT_STATS_PUSH_REFUSED
        else if o.pushes.any (fun q => q.1 == row && q.2.1 == part) then s
        else s.setOp { o with pushes := o.pushes ++ [(row, part, slice data 0 64)] }
      | none => s.bump .RT_STATS_PUSH_REFUSED := rfl
    refine ⟨fun o ho hen hroom hnew => ?_, fun hrefused => ?_⟩
    · rw [ho] at hpush
      dsimp only at hpush
      rw [hen, decide_eq_true hroom, hnew, if_neg (by decide), if_neg (by decide)] at hpush
      have hmem := updAll_mem (p := fun x : RouteOp => x.id == o.id) (f := fun _ => { o with pushes := o.pushes ++ [(row, part, slice data 0 64)] })
        (List.mem_of_find?_eq_some ho)
      rw [beq_self_eq_true, if_pos rfl] at hmem
      exact ⟨_, congrArg s.after hpush, sameMem_of_eq rfl rfl, fun _ _ _ => rfl, _, hmem, rfl, List.mem_append_right _ List.mem_cons_self⟩
    · have hcount : s.scorePush e c r row part data = s.bump .RT_STATS_PUSH_REFUSED := by
        rw [hpush]
        rcases hfind : s.route.ops.find? takes with _ | o
        · rfl
        · have hclosed : (s.on .RT_CTL_PUSH_EN && decide (s.scoreChunks < 4096)) = false := by
            rcases hrefused with h | h | h
            · exact absurd (hfind.symm.trans h) (Option.some_ne_none o)
            · rw [h, Bool.false_and]
            · rw [decide_eq_false (by omega), Bool.and_false]
          exact if_pos (by rw [hclosed]; rfl)
      exact ⟨_, congrArg s.after hcount, sameMem_of_eq rfl rfl, rd_bump_same _ _ _ _, onlyRegs_bump (onlyRegs_refl s _) List.mem_cons_self 1, rfl⟩
  · have hreport : s.scoreReport e k.ctx k.index = s.modKernel k.id (fun x => { x with reported := e :: x.reported }) := by
      unfold State.scoreReport
      rw [hk]
      exact if_pos ⟨rfl, rfl, by rw [hrep]; rfl⟩
    refine ⟨_, congrArg s.after hreport, sameMem_of_eq rfl rfl, fun _ _ _ => rfl, fun j hj hid => ?_⟩
    obtain ⟨l, -, rfl⟩ := List.mem_map.1 hj
    by_cases hl : (l.id == k.id) = true
    · rw [if_pos hl]
      exact List.mem_cons_self
    · rw [if_neg hl] at hid
      exact absurd (beq_iff_eq.2 hid) hl
  · have hresp := hapResponse_of_read d hq (by rw [hp]; exact Purpose.noConfusion) hissued hfin htier hkind hparts hhome hwaits
    have hreturn : s.routeReadReturn id (.ok d) = (s.modReq id (fun x => { x with fin := some (s.dieRead q.addr n, false), bad := [] })).routeReturns := by
      unfold State.routeReadReturn
      rw [hq]
      dsimp only
      rw [hp, hresp]
    have hid : q.id = id := beq_iff_eq.1 (List.find?_some (p := fun r : Req => r.id == id) hq)
    have hmem := updAll_mem (p := fun r : Req => r.id == id) (f := fun x => { x with fin := some (s.dieRead q.addr n, false), bad := [] })
      (List.mem_of_find?_eq_some hq)
    rw [hid, beq_self_eq_true, if_pos rfl] at hmem
    obtain ⟨hgone, o', ho', hgot⟩ := routeReturns_brings (t := s.modReq id (fun x => { x with fin := some (s.dieRead q.addr n, false), bad := [] })) hmem hp rfl ho
    have hlen : (s.dieRead q.addr n).length = n := by simp [State.dieRead]
    rw [hlen] at hgot
    exact ⟨_, congrArg s.after hreturn, hid ▸ hgone, o', ho', hgot⟩
  · have hselect (residue : Bool) : s.routeSelect residue = if residue then
        (if o.retried then ((s.wr .RT_STATUS_OUT_OF_SERVICE 1).ras { severity := 3, unit := 3, code := 2, flask := ((s.ctx? o.ctx).map Ctx.flask).getD 0, fgen := s.flaskGen (((s.ctx? o.ctx).map Ctx.flask).getD 0), index := o.index, pour := o.pour.word }).callBlock
        else (((s.wr .RT_ERR_RESIDUE 1).routeLast o 4).ras { severity := 0, unit := 3, code := 0x0B, flask := ((s.ctx? o.ctx).map Ctx.flask).getD 0, fgen := s.flaskGen (((s.ctx? o.ctx).map Ctx.flask).getD 0), index := o.index, pour := o.pour.word }).setOp { o with selected := [], retried := true })
        else { s.setOp { o with selected := o.selected ++ o.readyRows.take 64 } with
          route := { (s.setOp { o with selected := o.selected ++ o.readyRows.take 64 }).route with turn := rest } } := by
      unfold State.routeSelect
      rw [hturn]
      dsimp only
      rw [ho]
      dsimp only
      rw [hready]
      rfl
    have hid (k : RouteOp) (hk : k.id = o.id) : k.id = i := hk.trans (op_id ho)
    refine ⟨?_, fun hfirst => ?_, fun hsecond => ?_⟩
    · refine ⟨_, congrArg s.after (hselect false), sameMem_of_eq rfl rfl, fun _ _ _ => rfl, rfl, { o with selected := o.selected ++ o.readyRows.take 64 }, ?_, rfl⟩
      exact op_setOp ho (hid _ rfl)
    · obtain ⟨rec, hrec⟩ : ∃ rec : RasRec, s.routeSelect true =
          (((s.wr .RT_ERR_RESIDUE 1).routeLast o 4).ras rec).setOp { o with selected := [], retried := true } :=
        ⟨_, (hselect true).trans ((if_pos rfl).trans (if_neg (hfirst ▸ Bool.false_ne_true)))⟩
      have hop : (((s.wr .RT_ERR_RESIDUE 1).routeLast o 4).ras rec).op? i = some o :=
        (op_of_ops (congrArg Route.ops (ras_keeps (p := State.route) (fun _ _ _ _ _ _ => rfl) (fun _ _ _ _ => rfl) _ rec)) i).trans ho
      refine ⟨_, congrArg s.after hrec, ?_, _, op_setOp hop (hid _ rfl), rfl, rfl⟩
      refine (rd_ras (f := .RT_ERR_RESIDUE) _ rec (by decide) 0).trans ?_
      simp [State.routeLast, rd_wr_ne]
    · obtain ⟨rec, hrec⟩ : ∃ rec : RasRec, s.routeSelect true = ((s.wr .RT_STATUS_OUT_OF_SERVICE 1).ras rec).callBlock :=
        ⟨_, (hselect true).trans ((if_pos rfl).trans (if_pos hsecond))⟩
      refine ⟨_, congrArg s.after hrec, ?_, ?_⟩
      · exact (rd_ras (f := .RT_STATUS_OUT_OF_SERVICE) _ rec (by decide) 0).trans (rd_wr_one _ _ _)
      · exact List.mem_append_right _ List.mem_cons_self
  · have hstay : s.routeBack i = s := by
      unfold State.routeBack
      rw [ho]
      refine if_pos (hwait.imp_right (Or.imp (fun hout => ?_) fun ⟨e, he, hp⟩ => ?_))
      · simpa using hout
      · exact List.any_eq_true.2 ⟨e, he, beq_iff_eq.2 hp⟩
    exact ⟨s, congrArg s.after hstay, rfl⟩
  · have hready : ¬ (o.writes ≠ some [] ∨ (!o.out.isEmpty) = true ∨ s.cast.egress.any (fun e => e.purpose == .route i) = true) := by
      simp [hwrites, hout]
      simpa using hegress
    let cleared : State := (o.vals.foldl (fun t v => t.gateWrite o.ctx v.1 v.2) s).modCtx o.ctx (unmarked o)
    have hback : s.routeBack i = (((({ cleared with route := { cleared.route with ops := cleared.route.ops.filter (fun p => p.id != i) } } : State).bump
        .RT_STATS_OPS).bump .RT_CAP_DROPPED 0 o.dropped).bump .RT_CAP_SPILLED 0 o.spilled) := by
      unfold State.routeBack
      rw [ho]
      exact if_neg hready
    have hcleared (f : Field) (hf : f ∉ clampRegs) : cleared.rd f = s.rd f :=
      List.foldlRecOn (motive := fun t : State => t.rd f = s.rd f) o.vals _ rfl fun t ht v _ =>
        (gateWrite_of_regs (p := fun t => t.rd f) (fun t g _ _ hg => rd_wr_ne t _ (.inl fun h => hf (h ▸ hg))) (fun _ _ _ => rfl) t _ _ _).trans ht
    obtain ⟨hmem, -, -, b, hctx⟩ := gatesAre_enter (s := s) (t := s) (gs := x.gates) hm ⟨sameMem_refl s, rfl, rfl, x.clamped, hx⟩ o.vals
    refine ⟨_, congrArg s.after hback, hmem, ?_, ?_, ?_, ?_, ?_⟩
    · exact List.find?_eq_none.2 fun k hk => by simpa using (List.mem_filter.1 hk).2
    · rw [State.counts, rd_bump_ne _ _ (.inl (by decide)), rd_bump_ne _ _ (.inl (by decide)), rd_bump_same]
      exact congrArg (fun n => min (n + 1) _) (hcleared .RT_STATS_OPS (by decide))
    · rw [State.counts, rd_bump_ne _ _ (.inl (by decide)), rd_bump_same, rd_bump_ne _ _ (.inl (by decide))]
      exact congrArg (fun n => min (n + o.dropped) _) (hcleared .RT_CAP_DROPPED (by decide))
    · rw [State.counts, rd_bump_same, rd_bump_ne _ _ (.inl (by decide)), rd_bump_ne _ _ (.inl (by decide))]
      exact congrArg (fun n => min (n + o.spilled) _) (hcleared .RT_CAP_SPILLED (by decide))
    · refine ⟨unmarked o { x with gates := enter s m x o.vals x.gates, clamped := b }, ?_, fun g hg => bit_unmarked _ (.inl hg), rfl⟩
      show cleared.ctx? o.ctx = _
      rw [ctx_modCtx_same (f := unmarked o) _ fun _ => rfl, hctx]
      rfl

end Sys2Proof.Laws

/-! # Management commands

Submits, INFO, MGMT_RUN, firmware and the watchdog (R446, R456, R459 to R465). -/
namespace Sys2Proof.Laws

open Sys2Proof.Machine

/-! ## Submits (R446, R471) -/

/-- The phases in which the mailbox takes submits. -/
def takesSubmits (s : State) : Prop :=
  s.rd .RAS_STATUS_PHASE = 1 ∨ s.rd .RAS_STATUS_PHASE = 2 ∨ s.rd .RAS_STATUS_PHASE = 3 ∨ s.rd .RAS_STATUS_PHASE = 4

/-- Slot n becomes QUEUED behind the others. -/
def queued (s : State) (n : Nat) : State :=
  let t := s.setSlot n mbQUEUED
  let cut (w : PowerWait) : PowerWait := { w with prior := w.prior.filter (fun m => m != n) }
  { t with mbox := { t.mbox with order := t.mbox.order ++ [n] }, power := t.power.map cut }

section
variable {s : State}

theorem mbSubmit_eq (hphase : takesSubmits s) (haway : s.hostAway = false) (size v : Nat) :
    s.mbSubmit size v = if size ≠ 8 then s.wr .HLP_ERR_BAD_REG 1 else if v / 16 ≠ 0 then s.wr .MB_ERR_BAD_SUBMIT 1
      else if s.slotState (bits v 0 4) = mbQUEUED ∨ s.slotState (bits v 0 4) = mbRUNNING then s.wr .MB_ERR_BAD_SUBMIT 1
      else queued (s.clearReply (bits v 0 4)) (bits v 0 4) := by
  have hopen : ¬ (s.rd .RAS_STATUS_PHASE = 0 ∨ s.rd .RAS_STATUS_PHASE = 5 ∨ s.rd .RAS_STATUS_PHASE = 6) := by
    unfold takesSubmits at hphase
    omega
  exact (if_neg hopen).trans (if_neg (by rw [haway]; decide))

/-- A store to CZ_MB_SUBMIT of 4 or 8 bytes reaches the mailbox. -/
theorem barWrite_submit (hmse : s.on .CFG_MSE = true) (haway : s.hostAway = false) {size : Nat} (hsize : size = 4 ∨ size = 8) (v : Nat) :
    ∃ w, s.barWrite 0xA00000 size v = s.mbSubmit size w ∧ (v < 2 ^ (8 * size) → w = v) := by
  have hgood : ((size == 4 || size == 8) && 0xA00000 % max size 1 == 0) = true := by
    rcases hsize with rfl | rfl <;> rfl
  cases hready : s.ready with
  | false => exact ⟨v, by simp [State.barWrite, hmse, State.inReset, hready], fun _ => rfl⟩
  | true =>
    refine ⟨v % 2 ^ (8 * size), ?_, Nat.mod_eq_of_lt⟩
    have hplace : s.place 0xA00000 size 0 (v % 2 ^ (8 * size)) = s.mbSubmit size (v % 2 ^ (8 * size)) := rfl
    rw [← hplace]
    simp only [State.barWrite, hmse, State.inReset, hready, haway, hgood]
    rfl

/-- A submit leaves the block as the mailbox left it, but that the store's credit goes back. -/
theorem does_mbSubmit {size v : Nat} {t : State} {P : State → Prop} (ht : s.barWrite 0xA00000 size v = t)
    (hP : ∀ u, sameMem t u → (∀ f i, u.rd f i = t.rd f i) → u.mbox = t.mbox → P u) : does (.mbSubmit size v) s P := by
  refine ⟨_, congrArg (fun u => s.done u) ((hostWrite_plain s v (by omega) (by omega) (by omega)).trans (congrArg (fun u => u.giveCredit .register) ht)), ?_⟩
  exact hP _ ((sameMem_close_iff _ _ _).2 (sameMem_of_eq rfl rfl)) (fun f i => rd_close _ _ f i) rfl

/-- The fields of a reply that take their reset values, beside its outputs. -/
def clearedRegs : List Field := [.MB_RPL_STATUS, .MB_RPL_OPCODE, .MB_RPL_TAG, .MB_RPL_RLEN, .MB_RPL_RESUMED]

/-- Outputs 0 to k - 1 of slot n's reply become 0. -/
def zeroOuts (n k : Nat) (s : State) : State := (List.range k).foldl (fun t i => t.wr .MB_OUT 0 (n * 128 + i)) s

theorem clearReply_eq (s : State) (n : Nat) : s.clearReply n = zeroOuts n 30 (s.rstAll clearedRegs n) := rfl

theorem zeroOuts_keeps {β : Type} {p : State → β} (hp : ∀ (t : State) v i, p (t.wr .MB_OUT v i) = p t) (n k : Nat) (s : State) :
    p (zeroOuts n k s) = p s := foldl_keeps p (fun t _ => hp t _ _) _ s

theorem clearReply_keeps {β : Type} {p : State → β} (hp : ∀ (t : State) f v i, p (t.wr f v i) = p t) (n : Nat) (s : State) :
    p (s.clearReply n) = p s :=
  (zeroOuts_keeps (fun t => hp t _) n 30 _).trans (rstAll_keeps (fun t f v i _ => hp t f v i) s n)

theorem onlyRegs_clearReply (n : Nat) : onlyRegs s (s.clearReply n) (replyFields n ++ [(.MB_RPL_RESUMED, n)]) := by
  let fs := replyFields n ++ [(.MB_RPL_RESUMED, n)]
  have hnames (f : Field) (hf : f ∈ clearedRegs) : (f, n) ∈ fs := by
    simp only [clearedRegs, List.mem_cons, List.not_mem_nil, or_false] at hf
    rcases hf with rfl | rfl | rfl | rfl | rfl <;> simp [fs, replyFields]
  have hhead : onlyRegs s (s.rstAll clearedRegs n) fs :=
    List.foldlRecOn (motive := fun t : State => onlyRegs s t fs) clearedRegs (fun (u : State) g => u.rst g n) (onlyRegs_refl s _) fun t ht f hf =>
      onlyRegs_wr ht (hnames f hf) _
  rw [clearReply_eq]
  exact List.foldlRecOn (motive := fun t : State => onlyRegs s t fs) (List.range 30) (fun (t : State) i => t.wr .MB_OUT 0 (n * 128 + i)) hhead fun t ht i hi =>
    onlyRegs_wr ht (List.mem_append_left _ (List.mem_append_right _ (List.mem_map.2 ⟨i, hi, rfl⟩))) 0

/-- A cleared reply field reads 0. -/
theorem rd_clearReply {f : Field} (hf : f ∈ [Field.MB_RPL_STATUS, .MB_RPL_RESUMED]) (n : Nat) : (s.clearReply n).rd f n = 0 := by
  have hname : f ≠ .MB_OUT ∧ f ∈ clearedRegs ∧ f.resetAt n % 2 ^ f.row.width = 0 := by
    simp only [List.mem_cons, List.not_mem_nil, or_false] at hf
    rcases hf with rfl | rfl
    · exact ⟨by decide, by decide, rfl⟩
    · exact ⟨by decide, by decide, rfl⟩
  obtain ⟨hout, hin, hzero⟩ := hname
  rw [clearReply_eq]
  exact (zeroOuts_keeps (p := fun t => t.rd f n) (fun t _ _ => rd_wr_ne t _ (.inl hout.symm)) n 30 _).trans ((rd_rstAll_mem hin s n).trans hzero)

theorem queued_keeps {n : Nat} (hn : n < 16) :
    sameMem s (queued s n) ∧ (queued s n).slotState n = mbQUEUED ∧ (queued s n).mbox.order = s.mbox.order ++ [n] ∧
      onlyRegs s (queued s n) [(.MB_STATE_STATE, 0)] :=
  ⟨sameMem_of_eq rfl rfl, slotState_setSlot s hn mbQUEUED, rfl, onlyRegs_wr (onlyRegs_refl s _) List.mem_cons_self _⟩

theorem queued_leaves {n : Nat} (hn : n < 16) :
    let t := queued (s.clearReply n) n
    sameMem s t ∧ t.slotState n = mbQUEUED ∧ t.mbox.order = s.mbox.order ++ [n] ∧ t.rd .MB_RPL_STATUS n = 0 ∧ t.rd .MB_RPL_RESUMED n = 0 ∧
      (∀ i, i < 30 → t.rd .MB_OUT (n * 128 + i) = 0) ∧ onlyRegs s t (replyFields n ++ [(.MB_RPL_RESUMED, n)]) := by
  intro t
  obtain ⟨hmem, hstate, horder, hregs⟩ := queued_keeps (s := s.clearReply n) hn
  have hregs : onlyRegs (s.clearReply n) t [(.MB_STATE_STATE, 0)] := hregs
  have hkeep {f : Field} (hf : f ≠ .MB_STATE_STATE) (i : Nat) : t.rd f i = (s.clearReply n).rd f i := hregs f i (by simp [hf])
  have hclear : sameMem s (s.clearReply n) :=
    sameMem_of_eq (clearReply_keeps (p := State.hbm) (fun _ _ _ _ => rfl) n s) (clearReply_keeps (p := State.wbuf) (fun _ _ _ _ => rfl) n s)
  refine ⟨sameMem_trans hclear hmem, hstate, horder.trans ?_, (hkeep (by decide) n).trans (rd_clearReply (by decide) n),
    (hkeep (by decide) n).trans (rd_clearReply (by decide) n), fun i hi => ?_, fun f i hfi => ?_⟩
  · rw [clearReply_keeps (p := State.mbox) (fun _ _ _ _ => rfl)]
  · rw [hkeep (by decide), clearReply_eq]
    exact rd_foldl_wr .MB_OUT (fun _ => 0) (n * 128) hi _
  · exact (hregs f i fun h => hfi (by simp_all [replyFields])).trans (onlyRegs_clearReply n f i hfi)

end

/-! ## INFO (R456) -/

/-- The version of a component that runs, where the committed one is given. -/
theorem running_eq (s : State) {comp committed : Nat} (h : (if comp = 2 then s.kyrdo.mgmtVer else s.kyrdo.ucodeVer) = committed) :
    s.running comp = ((s.mbox.switches.find? (fun w => w.comp == comp)).map Switch.old).getD committed := by
  unfold State.running
  cases s.mbox.switches.find? (fun w => w.comp == comp) with
  | none => exact h
  | some w => rfl

theorem nth_digestWords (d : List Byte) {i : Nat} (hi : i < 6) : nth (digestWords d) i 0 = leAt d (8 * i) 8 := by
  simp [nth, digestWords, hi]

theorem info_leaves {s : State} {n : Nat} (hn : n < 16) :
    let b := s.begun n
    let u := b.info n
    sameMem s u ∧ u.replied n stOK ∧
    u.rd .MB_OUT (n * 128) = s.running 2 % 2 ^ 16 + s.running 3 % 2 ^ 16 * 2 ^ 16 ∧
    (∀ i, i < 6 → u.rd .MB_OUT (n * 128 + 1 + i) = leAt s.kyrdo.mgmt (8 * i) 8 ∧
      u.rd .MB_OUT (n * 128 + 7 + i) = leAt s.kyrdo.ucode (8 * i) 8) ∧
    u.rd .MB_OUT (n * 128 + 13) = b2n (s.isStaged 2) + 2 * b2n (s.isStaged 3) ∧ onlyRegs b u (replyFields n) := by
  intro b u
  have hbrun (comp : Nat) : b.running comp = s.running comp :=
    claim_keeps (fun t => t.running comp) (fun _ _ _ => rfl) (fun _ _ _ => rfl) (s.takeSlot n)
  have hkyrdo : b.kyrdo = s.kyrdo := begun_keeps State.kyrdo (fun _ _ => rfl) (fun _ _ _ => rfl) (fun _ _ _ => rfl) s n
  have hstaged : b.staged = s.staged := begun_keeps State.staged (fun _ _ => rfl) (fun _ _ _ => rfl) (fun _ _ _ => rfl) s n
  let outs := [s.running 2 % 2 ^ 16 + s.running 3 % 2 ^ 16 * 2 ^ 16] ++ digestWords s.kyrdo.mgmt ++
    digestWords s.kyrdo.ucode ++ [b2n (s.isStaged 2) + 2 * b2n (s.isStaged 3)]
  have hu : u = b.reply n stOK outs := by
    simp only [u, State.info, hbrun, hkyrdo, State.isStaged, hstaged, outs]
  have hlen : outs.length = 14 := rfl
  have hout {i : Nat} (hi : i < 14) : u.rd .MB_OUT (n * 128 + i) = nth outs i 0 % 2 ^ 64 := hu ▸ rd_reply_out b n stOK (hlen ▸ hi)
  refine ⟨?_, ?_, ?_, fun i hi => ⟨?_, ?_⟩, ?_, ?_⟩
  · rw [hu]
    exact (sameMem_reply _ _ _ _ _).2 (sameMem_begun s n)
  · rw [hu]
    exact replied_reply _ _ hn (by decide)
  · refine (hout (i := 0) (by decide)).trans (Nat.mod_eq_of_lt ?_)
    show s.running 2 % 2 ^ 16 + s.running 3 % 2 ^ 16 * 2 ^ 16 < 2 ^ 64
    omega
  · rw [Nat.add_assoc, hout (by omega)]
    have hnth : nth outs (1 + i) 0 = nth (digestWords s.kyrdo.mgmt) i 0 := by
      interval_cases i <;> rfl
    rw [hnth, nth_digestWords _ hi, Nat.mod_eq_of_lt (leAt_eight_lt _ _)]
  · rw [Nat.add_assoc, hout (by omega)]
    have hnth : nth outs (7 + i) 0 = nth (digestWords s.kyrdo.ucode) i 0 := by
      interval_cases i <;> rfl
    rw [hnth, nth_digestWords _ hi, Nat.mod_eq_of_lt (leAt_eight_lt _ _)]
  · refine (hout (i := 13) (by decide)).trans (Nat.mod_eq_of_lt ?_)
    show b2n (s.isStaged 2) + 2 * b2n (s.isStaged 3) < 2 ^ 64
    cases s.isStaged 2 <;> cases s.isStaged 3 <;> decide
  · rw [hu]
    exact onlyRegs_reply _ _ _ _ (hlen.trans_le (by decide))

/-! ## MGMT_RUN (R459) -/

section
variable {s : State} {n : Nat} {m : Mould} {c : Nat}

/-- The MGMT_RUN of mould m in slot n waits for a context. -/
def runWaits (s : State) (n : Nat) (m : Mould) : State := { s with mbox := { s.mbox with runWait := some (n, m.idx, m.gen) } }

theorem mgmtRun_of_waits (hcheck : s.mgmtRunCheck n = .ok m) (hno : s.seqZero = none ∨ s.loading = true) : s.mgmtRun n = runWaits s n m := by
  unfold State.mgmtRun
  rw [hcheck]
  rcases hseq : s.seqZero with _ | c
  · rfl
  · exact if_pos (hno.resolve_left (hseq ▸ Option.some_ne_none c))

theorem mgmtRun_of_free (hcheck : s.mgmtRunCheck n = .ok m) (hseq : s.seqZero = some c) (hload : s.loading = false) : s.mgmtRun n = s.mgmtStart n m c := by
  unfold State.mgmtRun
  rw [hcheck, hseq]
  exact if_neg (by rw [hload]; decide)

theorem mgmtRun_of_refused {st : Nat} (hcheck : s.mgmtRunCheck n = .error st) : ∃ t, s.mgmtRun n = t.reply n st ∧ sameMem s t ∧ t.ctxs = s.ctxs := by
  unfold State.mgmtRun
  rw [hcheck]
  dsimp only
  split
  · exact ⟨_, rfl, sameMem_of_eq rfl rfl, rfl⟩
  · exact ⟨s, rfl, sameMem_refl s, rfl⟩

theorem status_of_refused {st : Nat} (hcheck : s.mgmtRunCheck n = .error st) : st < 2 ^ 16 := by
  unfold State.mgmtRunCheck at hcheck
  dsimp only at hcheck
  split at hcheck
  · exact Except.error.inj hcheck ▸ (by decide : stSTATE < 2 ^ 16)
  · split at hcheck
    · exact Except.error.inj hcheck ▸ (by decide : stDENIED < 2 ^ 16)
    · split at hcheck
      · exact Except.error.inj hcheck ▸ (by decide : stBUSY < 2 ^ 16)
      · split at hcheck
        · exact Except.error.inj hcheck ▸ (by decide : stBADARG < 2 ^ 16)
        · nomatch hcheck

/-- The pour of a MGMT_RUN that has a context. -/
theorem ctx_mgmtStart (hfree : s.ctx? c = none) : ∃ x, (s.mgmtStart n m c).ctx? c = some x ∧ x.mgmt = true ∧ x.mould = m.idx ∧ x.mgen = m.gen ∧
    x.groups = s.par n 2 ∧ x.st = .gates := by
  have hfree : s.ctxs.find? (fun x => x.num == c) = none := hfree
  let x : Ctx := { num := c, st := .gates, pour := {}, flask := noFlask, root := c, mgmt := true, mould := m.idx, mgen := m.gen,
                   bank := bits (s.par n 1) 32 8, groups := s.par n 2, admitted := s.time }
  refine ⟨x, ?_, rfl, rfl, rfl, rfl, rfl⟩
  show (s.ctxs ++ [x]).find? (fun x => x.num == c) = some x
  rw [List.find?_append, hfree]
  exact List.find?_cons_of_pos (p := fun x : Ctx => x.num == c) (beq_self_eq_true c)

theorem seqZero_begun (s : State) (n : Nat) : (s.begun n).seqZero = s.seqZero :=
  begun_keeps State.seqZero (fun _ _ => rfl) (fun _ _ _ => rfl) (fun _ _ _ => rfl) s n

theorem loading_begun (s : State) (n : Nat) : (s.begun n).loading = s.loading :=
  claim_keeps State.loading (fun _ _ _ => rfl) (fun _ _ _ => rfl) (s.takeSlot n)

theorem ctxs_begun (s : State) (n : Nat) : (s.begun n).ctxs = s.ctxs :=
  begun_keeps State.ctxs (fun _ _ => rfl) (fun _ _ _ => rfl) (fun _ _ _ => rfl) s n

end

/-! ## Firmware (R461 to R465) -/

section
variable {s : State} {n : Nat}

theorem staged_begun (s : State) (n : Nat) : (s.begun n).staged = s.staged :=
  begun_keeps State.staged (fun _ _ => rfl) (fun _ _ _ => rfl) (fun _ _ _ => rfl) s n

theorem comp_begun (s : State) (n : Nat) : (s.begun n).comp n = s.comp n := by
  rw [State.comp, par_begun, State.comp]

theorem kyreqs_begun (s : State) (n : Nat) : (s.begun n).kyreqs = s.kyreqs :=
  begun_keeps State.kyreqs (fun _ _ => rfl) (fun _ _ _ => rfl) (fun _ _ _ => rfl) s n

/-- The staged image of component comp that Kyrdo is asked to check. -/
def stagedImage (comp : Nat) (data : List Byte) : Staged :=
  { comp := comp, digest := sha384 data, version := 0, coefs := [], est := 0, bank := data }

theorem fwStage_of_placed {comp : Nat} {a len : Nat} (hcomp : s.comp n = comp) (ha : s.par n 1 = a) (hlen : bits (s.par n 2) 0 32 = len)
    (hnew : s.staged.any (fun x => x.comp == comp) = false) (halign : a % 4096 = 0) (hne : len ≠ 0) (hfits : len ≤ bankSize comp) (hout : s.outsideAll a len = true) :
    s.fwStage n = (({ s with staged := s.staged ++ [stagedImage comp (s.dieRead a len)] } : State).countFor .package 9 len).askKyrdo n 0
      (.image comp (s.dieRead a len)) := by
  subst hcomp ha hlen
  have hplaced : ¬ (s.par n 1 % 4096 ≠ 0 ∨ bits (s.par n 2) 0 32 = 0 ∨ bankSize (s.comp n) < bits (s.par n 2) 0 32) := by
    omega
  unfold State.fwStage
  refine (if_neg (by rw [hnew]; decide)).trans ((if_neg hplaced).trans ((if_neg (by rw [hout]; decide)).trans ?_))
  rfl

/-- An image that is no longer staged has no claim, and the FW_COMMITs that waited for it have replied. -/
theorem staged_unstage (t : State) (comp : Nat) : (t.unstage comp).staged = t.staged.filter (fun x => x.comp != comp) := by
  rfl

theorem claimsStaged_unstage (t : State) (comp : Nat) : (t.unstage comp).claimsStaged comp = false := by
  rw [State.claimsStaged, staged_unstage, List.any_eq_false]
  intro x hx
  simpa using (List.mem_filter.1 hx).2

theorem claimsStaged_reply (t : State) (m st comp : Nat) (outs : List Nat) : (t.reply m st outs).claimsStaged comp = t.claimsStaged comp :=
  reply_keeps (fun t => t.claimsStaged comp) (fun _ _ _ _ => rfl) _ _ _ _

theorem sameMem_unstage (s t : State) (comp : Nat) : sameMem s (t.unstage comp) ↔ sameMem s t := by
  have hh : (t.unstage comp).hbm = t.hbm := unstage_keeps (p := State.hbm) (fun _ _ _ _ => rfl) (fun _ _ => rfl) (fun _ _ => rfl) t comp
  have hw : (t.unstage comp).wbuf = t.wbuf := unstage_keeps (p := State.wbuf) (fun _ _ _ _ => rfl) (fun _ _ => rfl) (fun _ _ => rfl) t comp
  simp only [sameMem, State.sysByte, State.dieByte, hh, hw]

/-- FW_COMMIT of a component for which no switch is under way. -/
theorem fwCommit_eq (hno : s.mbox.switches.any (fun w => w.comp == s.comp n) = false) :
    s.fwCommit n = if !s.claimsStaged (s.comp n) then s.reply n stSTATE
      else if !(s.commits (s.comp n)).isEmpty then { s with kyreqs := s.kyreqs ++ [{ slot := n, at_ := s.time, ask := .commit (s.comp n) }] }
      else if s.comp n = 3 && (s.on .QM_CTL_ADMIT_EN || !s.ctxs.isEmpty || s.mbox.runWait.isSome) then s.reply n stSTATE
      else s.askKyrdo n 0 (.commit (s.comp n)) :=
  if_neg (by rw [hno]; decide)

theorem mbox_switches_begun (s : State) (n : Nat) : (s.begun n).mbox.switches = s.mbox.switches :=
  claim_keeps (fun t => t.mbox.switches) (fun _ _ _ => rfl) (fun _ _ _ => rfl) (s.takeSlot n)

theorem runWait_begun (s : State) (n : Nat) : (s.begun n).mbox.runWait = s.mbox.runWait :=
  claim_keeps (fun t => t.mbox.runWait) (fun _ _ _ => rfl) (fun _ _ _ => rfl) (s.takeSlot n)

theorem claimsStaged_begun (s : State) (n comp : Nat) : (s.begun n).claimsStaged comp = s.claimsStaged comp := by
  rw [State.claimsStaged, staged_begun, State.claimsStaged]

theorem commits_begun (s : State) (n comp : Nat) : (s.begun n).commits comp = s.commits comp := by
  rw [State.commits, kyreqs_begun, State.commits]

/-- No pour is admitted, and none is there or waits for a context. -/
def idleSequencers (s : State) : Prop := s.on .QM_CTL_ADMIT_EN = false ∧ s.ctxs = [] ∧ s.mbox.runWait = none

theorem idleSequencers_begun_iff (s : State) (n : Nat) : idleSequencers (s.begun n) ↔ idleSequencers s := by
  have hon : (s.begun n).on .QM_CTL_ADMIT_EN = s.on .QM_CTL_ADMIT_EN := by
    rw [State.on, rd_begun s n (by decide) (by decide) (by decide), State.on]
  rw [idleSequencers, hon, ctxs_begun, runWait_begun, idleSequencers]

theorem busySequencers_iff (s : State) : (s.on .QM_CTL_ADMIT_EN || !s.ctxs.isEmpty || s.mbox.runWait.isSome) = true ↔ ¬ idleSequencers s := by
  rw [idleSequencers]
  cases s.on .QM_CTL_ADMIT_EN <;> cases s.ctxs <;> cases s.mbox.runWait <;> simp

end

section
variable {s : State} {comp n : Nat} {x : Staged}

/-- The staged image x of component comp becomes the committed one. -/
def commitBank (t : State) (comp : Nat) (x : Staged) : State :=
  if comp = 2 then
    { t with kyrdo := { t.kyrdo with mgmt := x.digest, mgmtVer := x.version, mgmtBank := x.bank, coefs := x.coefs, est := x.est },
             meter := { t.meter with coefs := some (x.coefs, x.est) } }
  else { t with kyrdo := { t.kyrdo with ucode := x.digest, ucodeVer := x.version, ucodeBank := x.bank } }

theorem commitBank_keeps {β : Type} {p : State → β} (hp : ∀ (t : State) k m, p { t with kyrdo := k, meter := m } = p t) (t : State) (comp : Nat) (x : Staged) :
    p (commitBank t comp x) = p t := by
  unfold commitBank
  split
  · exact hp t _ _
  · exact hp t _ t.meter

/-- The switch of component comp that begins at its commit point. -/
def begunSwitch (s : State) (comp : Nat) : Switch :=
  { comp := comp, slots := (s.commits comp).map KyReq.slot, from_ := s.time, till := s.time + (Config.switchTime s.time).toNat % 2000001, old := s.running comp }

/-- The requests of the FW_COMMITs of component comp are over. -/
def commitsOver (s : State) (comp : Nat) : State :=
  { s with kyreqs := s.kyreqs.filter (fun r => !((s.commits comp).map KyReq.slot).contains r.slot) }

theorem commitAnswer_eq (hx : s.staged.find? (fun x => x.comp == comp && x.ok) = some x) :
    let t := (commitBank (commitsOver s comp) comp x).unstage comp
    s.commitAnswer comp = { t with mbox := { t.mbox with switches := t.mbox.switches ++ [begunSwitch s comp] } } := by
  unfold State.commitAnswer
  rw [hx]
  rfl

theorem commits_of_over {t : State} (ht : ∀ r ∈ t.kyreqs, r ∈ (commitsOver s comp).kyreqs) : t.commits comp = [] := by
  refine List.filter_eq_nil_iff.2 fun r hr hcommit => ?_
  obtain ⟨hrs, hslot⟩ := List.mem_filter.1 (ht r hr)
  have hin : r.slot ∈ (s.commits comp).map KyReq.slot := List.mem_map.2 ⟨r, List.mem_filter.2 ⟨hrs, hcommit⟩, rfl⟩
  rw [List.contains_iff_mem.2 hin] at hslot
  exact Bool.noConfusion hslot

theorem commitBank_of_mgmt (t : State) (h : comp = 2) (x : Staged) : commitBank t comp x =
    { t with kyrdo := { t.kyrdo with mgmt := x.digest, mgmtVer := x.version, mgmtBank := x.bank, coefs := x.coefs, est := x.est },
             meter := { t.meter with coefs := some (x.coefs, x.est) } } := if_pos h

theorem commitBank_of_ucode (t : State) (h : comp ≠ 2) (x : Staged) :
    commitBank t comp x = { t with kyrdo := { t.kyrdo with ucode := x.digest, ucodeVer := x.version, ucodeBank := x.bank } } := if_neg h

/-- The end of one switch. -/
def switchEnds (t : State) (w : Switch) : State :=
  let t := { t with mbox := { t.mbox with switches := t.mbox.switches.filter (fun x => x != w) } }
  (if w.comp = 2 then t.wr .MB_FW_VERSION t.kyrdo.mgmtVer else t).replyAll w.slots stOK

theorem pumpSwitch_eq (s : State) : s.pumpSwitch = (s.mbox.switches.filter (fun w => decide (w.till ≤ s.time))).foldl switchEnds s := rfl

theorem switchEnds_keeps {β : Type} {p : State → β} (hwr : ∀ (t : State) f v i, p (t.wr f v i) = p t) (hmbox : ∀ (t : State) m, p { t with mbox := m } = p t)
    (t : State) (w : Switch) : p (switchEnds t w) = p t := by
  refine (replyAll_keeps p hwr _ _ _ _).trans ?_
  split
  · exact (hwr _ _ _ _).trans (hmbox _ _)
  · exact hmbox _ _

theorem switches_switchEnds (t : State) (w : Switch) : (switchEnds t w).mbox.switches = t.mbox.switches.filter (fun x => x != w) := by
  refine (replyAll_keeps (fun t => t.mbox.switches) (fun _ _ _ _ => rfl) _ _ _ _).trans ?_
  split
  · rfl
  · rfl

/-- What holds once switch w, of the images of k, is over. -/
def switched (k : Kyrdo) (w : Switch) (t : State) : Prop :=
  t.kyrdo = k ∧ w ∉ t.mbox.switches ∧ (∀ m ∈ w.slots, m < 16 → t.replied m stOK) ∧ (w.comp = 2 → t.rd .MB_FW_VERSION = k.mgmtVer % 2 ^ 16)

theorem version_switchEnds (t : State) (v : Switch) :
    (switchEnds t v).rd .MB_FW_VERSION = if v.comp = 2 then t.kyrdo.mgmtVer % 2 ^ 16 else t.rd .MB_FW_VERSION := by
  refine (rd_replyAll 0 (not_mem_replyFields (by decide) _) _ _ _).trans ?_
  split
  · exact rd_wr_same _ _ _ _
  · rfl

theorem switched_self {k : Kyrdo} (t : State) (ht : t.kyrdo = k) (w : Switch) : switched k w (switchEnds t w) := by
  refine ⟨(switchEnds_keeps (p := State.kyrdo) (fun _ _ _ _ => rfl) (fun _ _ => rfl) t w).trans ht, ?_, fun m hm hlt => ?_, fun hw => ?_⟩
  · rw [switches_switchEnds]
    intro h
    simpa using (List.mem_filter.1 h).2
  · exact replied_replyAll hlt (by decide) [] (.inl hm)
  · rw [version_switchEnds, if_pos hw, ht]

theorem switched_switchEnds {k : Kyrdo} {w : Switch} {t : State} (h : switched k w t) (v : Switch) : switched k w (switchEnds t v) := by
  obtain ⟨hk, hgone, hreplied, hversion⟩ := h
  refine ⟨(switchEnds_keeps (p := State.kyrdo) (fun _ _ _ _ => rfl) (fun _ _ => rfl) t v).trans hk, ?_, fun m hm hlt => ?_, fun hw => ?_⟩
  · rw [switches_switchEnds]
    exact fun h => hgone (List.mem_filter.1 h).1
  · refine replied_replyAll hlt (by decide) [] (.inr ?_)
    have hm := hreplied m hm hlt
    split
    · exact ⟨(congrArg (bits · (2 * m) 2) (rd_wr_ne _ _ (.inl (by decide)))).trans hm.1, (rd_wr_ne _ _ (.inl (by decide))).trans hm.2⟩
    · exact hm
  · rw [version_switchEnds, hk]
    split
    · rfl
    · exact hversion hw

/-- A switch whose time has come is over. -/
theorem switched_pumpSwitch {w : Switch} (hw : w ∈ s.mbox.switches) (htill : w.till ≤ s.time) : switched s.kyrdo w s.pumpSwitch := by
  have hended (w : Switch) (hw : w ∈ s.mbox.switches) (htill : w.till ≤ s.time) : w ∈ s.mbox.switches.filter (fun w => decide (w.till ≤ s.time)) :=
    List.mem_filter.2 ⟨hw, decide_eq_true htill⟩
  obtain ⟨before, after, hsplit⟩ := List.append_of_mem (hended w hw htill)
  rw [pumpSwitch_eq, hsplit, List.foldl_append, List.foldl_cons]
  have hbefore : (before.foldl switchEnds s).kyrdo = s.kyrdo :=
    foldl_keeps State.kyrdo (fun t v => switchEnds_keeps (fun _ _ _ _ => rfl) (fun _ _ => rfl) t v) before s
  exact List.foldlRecOn (motive := switched s.kyrdo w) after switchEnds (switched_self _ hbefore w) fun t ht v _ => switched_switchEnds ht v

theorem pumpSwitch_keeps {β : Type} {p : State → β} (hwr : ∀ (t : State) f v i, p (t.wr f v i) = p t) (hmbox : ∀ (t : State) m, p { t with mbox := m } = p t)
    (s : State) : p s.pumpSwitch = p s := foldl_keeps p (fun t v => switchEnds_keeps hwr hmbox t v) _ s

/-- A FW_COMMIT whose image is dropped replies STATE. -/
theorem replied_unstage {r : KyReq} (hr : r ∈ s.commits comp) (hlt : r.slot < 16) : (s.unstage comp).replied r.slot stSTATE := by
  have hdropped : (s.dropCommits comp).replied r.slot stSTATE := replied_replyAll hlt (by decide) [] (.inl (List.mem_map.2 ⟨r, hr, rfl⟩))
  have hrd {f : Field} (h1 : Field.MB_FW_MGMT_STAGED ≠ f) (h2 : Field.MB_FW_UCODE_STAGED ≠ f) (i : Nat) : (s.unstage comp).rd f i = (s.dropCommits comp).rd f i :=
    (rd_wr_ne _ _ (.inl h2)).trans (rd_wr_ne _ _ (.inl h1))
  exact ⟨(congrArg (bits · (2 * r.slot) 2) (hrd (by decide) (by decide) 0)).trans hdropped.1, (hrd (by decide) (by decide) _).trans hdropped.2⟩

end

/-! ## The watchdog (R462) -/

section
variable {s : State} {n : Nat}

/-- The command in slot n starts again: what it has asked Kyrdo is given up, and it is the first of those that wait. -/
def startsAgain (t : State) (n : Nat) : State :=
  { t.dropKy n with mbox := { t.mbox with order := n :: t.mbox.order.filter (fun m => m != n) } }

/-- State s when slot n has been marked as resumed, with other moulds, staged images and MGMT_RUN that waits. -/
def resumedAs (s : State) (n : Nat) (ms : Moulds) (st : List Staged) (rw : Option (Nat × Nat × Nat)) : State :=
  { s.wr .MB_RPL_RESUMED 1 n with moulds := ms, staged := st, mbox := { s.mbox with runWait := rw } }

theorem resumeSlot_shape (s : State) (n : Nat) : ∃ ms st rw,
    (s.resumeSlot n = resumedAs s n ms st rw ∧ ∀ r, s.kyreq? n = some r → ∃ b c, r.ask = .legend b c) ∨ s.resumeSlot n = startsAgain (resumedAs s n ms st rw) n := by
  unfold State.resumeSlot
  cases hr : s.kyreq? n with
  | none =>
    dsimp only
    split
    · exact ⟨s.moulds, s.staged, none, .inr rfl⟩
    · split
      · exact ⟨_, s.staged, s.mbox.runWait, .inr rfl⟩
      · exact ⟨s.moulds, s.staged, s.mbox.runWait, .inl ⟨rfl, fun r h => absurd h.symm (Option.some_ne_none r)⟩⟩
  | some r =>
    dsimp only
    cases hask : r.ask
    case legend b c => exact ⟨s.moulds, s.staged, s.mbox.runWait, .inl ⟨rfl, fun q hq => ⟨b, c, Option.some.inj hq ▸ hask⟩⟩⟩
    case image => exact ⟨s.moulds, _, s.mbox.runWait, .inr rfl⟩
    all_goals exact ⟨s.moulds, s.staged, s.mbox.runWait, .inr rfl⟩

theorem rd_resumeSlot (t : State) (m : Nat) (f : Field) (i : Nat) : (t.resumeSlot m).rd f i = (t.wr .MB_RPL_RESUMED 1 m).rd f i := by
  obtain ⟨ms, st, rw, ⟨h, -⟩ | h⟩ := resumeSlot_shape t m
  · rw [h]
    rfl
  · rw [h]
    rfl

theorem resumed_resumeSlot (t : State) {m : Nat} (h : m = n ∨ t.rd .MB_RPL_RESUMED n = 1) : (t.resumeSlot m).rd .MB_RPL_RESUMED n = 1 := by
  rw [rd_resumeSlot]
  by_cases hm : m = n
  · exact hm ▸ rd_wr_one _ _ _
  · exact (rd_wr_ne _ _ (.inr hm)).trans (h.resolve_left hm)

/-- The requests to Kyrdo of a slot that is resumed may go, and no others. -/
theorem kyreqs_resumeSlot (t : State) (m : Nat) : (t.resumeSlot m).kyreqs = t.kyreqs ∨ (t.resumeSlot m).kyreqs = t.kyreqs.filter (fun r => r.slot != m) := by
  obtain ⟨ms, st, rw, ⟨h, -⟩ | h⟩ := resumeSlot_shape t m
  · exact .inl (h ▸ rfl)
  · exact .inr (congrArg State.kyreqs h)

theorem kyreq_resumeSlot_ne (t : State) {m : Nat} (hm : m ≠ n) : (t.resumeSlot m).kyreq? n = t.kyreq? n := by
  rw [State.kyreq?, State.kyreq?]
  rcases kyreqs_resumeSlot t m with h | h
  · rw [h]
  · rw [h, List.find?_filter]
    refine congrArg (t.kyreqs.find? ·) (funext fun r => ?_)
    by_cases hr : r.slot = n
    · simpa [hr] using hm.symm
    · simp [hr]

/-- The command in slot n is the first or a later one of those that wait, and asks Kyrdo nothing. -/
def restarted (n : Nat) (t : State) : Prop := n ∈ t.mbox.order ∧ t.kyreq? n = none

theorem restarted_startsAgain (t : State) (n : Nat) : restarted n (startsAgain t n) :=
  ⟨List.mem_cons_self, List.find?_eq_none.2 fun r hr => by simpa using (List.mem_filter.1 hr).2⟩

theorem restarted_resumeSlot {t : State} (h : restarted n t) (m : Nat) : restarted n (t.resumeSlot m) := by
  obtain ⟨horder, hnone⟩ := h
  by_cases hm : m = n
  · subst hm
    obtain ⟨ms, st, rw, ⟨h, -⟩ | h⟩ := resumeSlot_shape t m
    · rw [h]
      exact ⟨horder, hnone⟩
    · exact h ▸ restarted_startsAgain _ m
  · refine ⟨?_, (kyreq_resumeSlot_ne t hm).trans hnone⟩
    obtain ⟨ms, st, rw, ⟨h, -⟩ | h⟩ := resumeSlot_shape t m
    · rw [h]
      exact horder
    · rw [h]
      exact List.mem_cons_of_mem _ (List.mem_filter.2 ⟨horder, bne_iff_ne.2 (Ne.symm hm)⟩)

/-- Slots that are resumed together: each is marked, and one that waits for Kyrdo, but for a legend, starts again. -/
theorem resumeAll_leaves {l : List Nat} (hn : n ∈ l) (t : State) :
    (l.foldl State.resumeSlot t).rd .MB_RPL_RESUMED n = 1 ∧
    ∀ r, t.kyreq? n = some r → (∀ b c, r.ask ≠ .legend b c) → restarted n (l.foldl State.resumeSlot t) := by
  obtain ⟨before, after, rfl, hbefore⟩ := List.eq_append_cons_of_mem hn
  rw [List.foldl_append, List.foldl_cons]
  refine ⟨List.foldlRecOn (motive := fun u : State => u.rd .MB_RPL_RESUMED n = 1) after State.resumeSlot (resumed_resumeSlot _ (.inl rfl))
    fun u hu m _ => resumed_resumeSlot u (.inr hu), fun r hr hask => ?_⟩
  have hkept : (before.foldl State.resumeSlot t).kyreq? n = some r :=
    List.foldlRecOn (motive := fun u : State => u.kyreq? n = some r) before State.resumeSlot hr fun u hu m hm =>
      (kyreq_resumeSlot_ne u (ne_of_mem_of_not_mem hm hbefore)).trans hu
  refine List.foldlRecOn (motive := restarted n) after State.resumeSlot ?_ fun u hu m _ => restarted_resumeSlot hu m
  obtain ⟨ms, st, rw, ⟨-, hlegend⟩ | h⟩ := resumeSlot_shape (before.foldl State.resumeSlot t) n
  · obtain ⟨b, c, hbc⟩ := hlegend r hkept
    exact absurd hbc (hask b c)
  · exact h ▸ restarted_startsAgain _ n

theorem rd_resumeAll (l : List Nat) (t : State) {f : Field} (hf : f ≠ .MB_RPL_RESUMED) (i : Nat) : (l.foldl State.resumeSlot t).rd f i = t.rd f i :=
  foldl_keeps (fun t => t.rd f i) (fun t m => (rd_resumeSlot t m f i).trans (rd_wr_ne _ _ (.inl hf.symm))) l t

theorem resumeSlot_of_runWait (hnone : s.kyreq? n = none) (hwait : s.mbox.runWait.any (fun w => w.1 == n) = true) :
    s.resumeSlot n = startsAgain (resumedAs s n s.moulds s.staged none) n := by
  unfold State.resumeSlot
  rw [hnone]
  exact if_pos hwait

theorem resumeSlot_of_load {m : Mould} (hnone : s.kyreq? n = none) (hwait : s.mbox.runWait.any (fun w => w.1 == n) = false)
    (hm : s.moulds.table.find? (fun m => m.slot == some n && !m.loaded) = some m) :
    s.resumeSlot n = startsAgain (resumedAs s n (s.dropLoads [m]).moulds s.staged s.mbox.runWait) n := by
  unfold State.resumeSlot
  rw [hnone]
  refine (if_neg (by rw [hwait]; decide)).trans ?_
  rw [hm]
  rfl

end

/-- The expiry of core's watchdog at time now is kept. -/
def dogNoted (t : State) (core now : Nat) : State := { t with mbox := { t.mbox with dogs := aset t.mbox.dogs core now } }

/-- The slots that core's restart resumes have been resumed, and its expiry is recorded and counted. -/
def dogsResumed (s : State) (slots : List Nat) : State :=
  (slots.filter (fun n => decide (n < 16) && s.slotState n == mbRUNNING)).foldl State.resumeSlot ((s.wr .MB_ERR_WATCHDOG 1).bump .MB_FW_WDOG)

theorem watchdog_eq {s : State} {core : Nat} (slots : List Nat) (hready : s.ready = true) (hcore : core < 2) : ∃ again : Bool,
    (s.watchdog core slots = if again then ((dogNoted (dogsResumed s slots) core s.time).ras { severity := 3, unit := 0x0B, code := 6, index := core }).callBlock
      else dogNoted (dogsResumed s slots) core s.time) ∧
    ((s.mbox.dogs.find? (fun d => d.1 == core)).any (fun d => decide (s.time < d.2 + 10 ^ 9)) = true → again = true) := by
  refine ⟨_, if_neg (by rw [hready, decide_eq_true hcore]; decide), fun h => ?_⟩
  cases hd : s.mbox.dogs.find? (fun d => d.1 == core) with
  | none =>
    rw [hd] at h
    exact absurd h Bool.false_ne_true
  | some d =>
    rw [hd, Option.any_some] at h
    dsimp only
    rw [hd, Option.map_some]
    dsimp only
    rw [h, Bool.true_or]

/-- A watchdog expiry is recorded, and its commands are resumed. -/
theorem watchdog_leaves (s : State) (core : Nat) (slots : List Nat) (hready : s.ready = true) (hcore : core < 2) :
    acts (.mgmtWatchdogExpiry core slots) s (fun u =>
      u.rd .MB_ERR_WATCHDOG = 1 ∧ s.counts u .MB_FW_WDOG ∧ (∀ n ∈ slots, n < 16 → s.slotState n = mbRUNNING → u.rd .MB_RPL_RESUMED n = 1 ∧
        ∀ r, s.kyreq? n = some r → (∀ b c, r.ask ≠ .legend b c) → n ∈ u.mbox.order ∧ u.kyreq? n = none) ∧
      (∀ n, slots = [n] → n < 16 → s.slotState n = mbRUNNING → s.kyreq? n = none →
        (s.mbox.runWait.any (fun w => w.1 == n) = true → n ∈ u.mbox.order ∧ u.mbox.runWait = none) ∧
        (s.mbox.runWait.any (fun w => w.1 == n) = false → ∀ m, s.moulds.table.find? (fun m => m.slot == some n && !m.loaded) = some m →
          n ∈ u.mbox.order ∧ m ∉ u.moulds.table ∧ ∀ g ∈ u.moulds.fills, g.idx ≠ m.idx)) ∧
      ((s.mbox.dogs.find? (fun d => d.1 == core)).any (fun d => decide (s.time < d.2 + 10 ^ 9)) = true → .block ∈ u.calls)) := by
  let resumes := slots.filter (fun n => decide (n < 16) && s.slotState n == mbRUNNING)
  let t0 := (s.wr .MB_ERR_WATCHDOG 1).bump .MB_FW_WDOG
  let t := resumes.foldl State.resumeSlot t0
  have ht0 (f : Field) (i : Nat) (hf : f ≠ .MB_RPL_RESUMED) : t.rd f i = t0.rd f i := rd_resumeAll resumes t0 hf i
  obtain ⟨again, hwatch, hagain⟩ := watchdog_eq slots hready hcore
  let noted := dogNoted t core s.time
  obtain ⟨u, hu, hrd, hku, hou, hwu, hmu, hcalls⟩ : ∃ u, s.watchdog core slots = u ∧ (∀ f, f ∉ recordRegs → ∀ i, u.rd f i = t.rd f i) ∧
      u.kyreqs = t.kyreqs ∧ u.mbox.order = t.mbox.order ∧ u.mbox.runWait = t.mbox.runWait ∧ u.moulds = t.moulds ∧ (again = true → .block ∈ u.calls) := by
    refine ⟨_, hwatch, ?_⟩
    split
    · refine ⟨fun f hf i => rd_ras noted _ hf i, ?_, ?_, ?_, ?_, fun _ => List.mem_append_right _ List.mem_cons_self⟩
      · exact ras_keeps (p := State.kyreqs) (fun _ _ _ _ _ _ => rfl) (fun _ _ _ _ => rfl) noted _
      · exact ras_keeps (p := fun t : State => t.mbox.order) (fun _ _ _ _ _ _ => rfl) (fun _ _ _ _ => rfl) noted _
      · exact ras_keeps (p := fun t : State => t.mbox.runWait) (fun _ _ _ _ _ _ => rfl) (fun _ _ _ _ => rfl) noted _
      · exact ras_keeps (p := State.moulds) (fun _ _ _ _ _ _ => rfl) (fun _ _ _ _ => rfl) noted _
    · rename_i hquiet
      exact ⟨fun _ _ _ => rfl, rfl, rfl, rfl, rfl, fun h => absurd h hquiet⟩
  have hresumes {n : Nat} (hin : n ∈ slots) (hn : n < 16) (hrun : s.slotState n = mbRUNNING) : n ∈ resumes :=
    List.mem_filter.2 ⟨hin, by rw [decide_eq_true hn, hrun]; rfl⟩
  refine ⟨u, congrArg s.after hu, ?_, ?_, fun n hin hn hrun => ?_, fun n hslots hn hrun hnone => ?_, fun hsoon => hcalls (hagain hsoon)⟩
  · rw [hrd _ (by decide), ht0 _ _ (by decide)]
    exact (rd_wr_ne _ _ (.inl (by decide))).trans (rd_wr_one _ _ _)
  · rw [State.counts, hrd _ (by decide), ht0 _ _ (by decide), rd_bump_same, rd_wr_ne _ _ (.inl (by decide))]
  · obtain ⟨hresumed, hagain⟩ := resumeAll_leaves (hresumes hin hn hrun) t0
    refine ⟨(hrd _ (by decide) n).trans hresumed, fun r hr hask => ?_⟩
    obtain ⟨horder, hgone⟩ := hagain r hr hask
    exact ⟨hou ▸ horder, by rw [State.kyreq?, hku]; exact hgone⟩
  · have hone : t = t0.resumeSlot n := by
      have hl : resumes = [n] := by
        show slots.filter _ = [n]
        rw [hslots]
        exact List.filter_cons_of_pos (by rw [decide_eq_true hn, hrun]; rfl)
      show resumes.foldl _ _ = _
      rw [hl]
      rfl
    rw [hou, hwu, hmu, hone]
    refine ⟨fun hwait => ?_, fun hwait m hm => ?_⟩
    · rw [resumeSlot_of_runWait (s := t0) hnone hwait]
      exact ⟨List.mem_cons_self, rfl⟩
    · rw [resumeSlot_of_load (s := t0) hnone hwait hm]
      refine ⟨List.mem_cons_self, fun h => ?_, fun g hg hidx => ?_⟩
      · obtain ⟨-, h⟩ := List.mem_filter.1 h
        simp at h
      · obtain ⟨-, h⟩ := List.mem_filter.1 hg
        simp [hidx] at h

/-- Settles O56 (R446, R456 to R465). -/
theorem managementCommands : Obligations.ManagementCommands := by
  refine ⟨fun s v hmse haway hphase => ?_, fun s n hs => ?_, fun s n hs => ?_, fun s n hs hclean => ?_, fun s n comp r data hn hr hask x hx hbank => ?_,
    fun s n hs => ?_, fun s n comp r x hr hask hx => ?_, fun s n w hw => ?_, fun s n hs => ?_, fun s core slots hready hcore => ?_⟩
  · intro n used
    obtain ⟨w8, h8, hw8⟩ := barWrite_submit hmse haway (.inr rfl) v
    obtain ⟨w4, h4, -⟩ := barWrite_submit hmse haway (.inl rfl) v
    rw [mbSubmit_eq hphase haway] at h8 h4
    rw [if_neg (by decide)] at h8
    have hbad {f : Field} {size : Nat} (h : s.barWrite 0xA00000 size v = s.wr f 1) : does (.mbSubmit size v) s (fun t => sameMem s t ∧ t.rd f = 1 ∧
        t.mbox = s.mbox ∧ onlyRegs s t [(f, 0)]) :=
      does_mbSubmit h fun u hmem hrd hmbox => ⟨hmem, (hrd _ _).trans (rd_wr_one _ _ _), hmbox, fun g i hg =>
        (hrd g i).trans (onlyRegs_wr (onlyRegs_refl s _) List.mem_cons_self 1 g i hg)⟩
    refine ⟨fun hv hfree => ?_, fun hv hused => ?_, hbad (h4.trans (if_pos (by decide)))⟩
    · rw [hw8 (hv.trans (by decide)), if_neg (by omega), if_neg hfree] at h8
      obtain ⟨hm, hst, horder, hstatus, hresumed, hout, hregs⟩ := queued_leaves (s := s) (n := n) (by simp [n, bits]; omega)
      exact does_mbSubmit h8 fun u hmem hrd hmbox => ⟨sameMem_trans hm hmem, (congrArg (bits · (2 * n) 2) (hrd _ _)).trans hst,
        (congrArg Mbox.order hmbox).trans horder, (hrd _ _).trans hstatus, (hrd _ _).trans hresumed, fun i hi => (hrd _ _).trans (hout i hi),
        fun f i hfi => (hrd f i).trans (hregs f i hfi)⟩
    · rw [hw8 hv] at h8
      refine hbad (h8.trans ?_)
      by_cases hlarge : v / 16 ≠ 0
      · exact if_pos hlarge
      · exact (if_neg hlarge).trans (if_pos (hused.resolve_right (by omega)))
  · have hstart := congrArg s.after (mbRun_of_starts hs fun t => t.info n)
    obtain ⟨hmem, hreplied, hrun, hdigests, hstaged, hregs⟩ := info_leaves (s := s) hs.1
    rw [running_eq s (if_pos rfl), running_eq s (if_neg (by decide))] at hrun
    exact ⟨_, hstart, hmem, hreplied, hrun, hdigests, hstaged, hregs⟩
  · have hn : n < 16 := hs.1
    have hrun {u : State} (h : (s.begun n).mgmtRun n = u) := congrArg s.after ((mbRun_of_starts hs fun t => t.mgmtRun n).trans (congrArg State.unclaim h))
    refine ⟨fun m hcheck hno => ?_, fun m c hcheck hseq hload => ?_, fun st _ hcheck => ?_⟩
    · have hwait := mgmtRun_of_waits hcheck (by rwa [seqZero_begun, loading_begun])
      exact ⟨_, hrun hwait, sameMem_begun s n, fun _ _ _ => rfl, slotState_begun s hn, rfl, ctxs_begun s n⟩
    · have hstart := mgmtRun_of_free hcheck ((seqZero_begun s n).trans hseq) ((loading_begun s n).trans hload)
      have hfree : (s.begun n).ctx? c = none := by
        have h := List.find?_some hseq
        rw [State.ctx?, ctxs_begun]
        exact Option.isNone_iff_eq_none.1 h
      obtain ⟨x, hx, hmgmt, hidx, hgen, hgroups, hst⟩ := ctx_mgmtStart (n := n) (m := m) hfree
      rw [par_begun] at hgroups
      exact ⟨_, hrun hstart, sameMem_begun s n, fun _ _ _ => rfl, slotState_begun s hn, rfl, ⟨x, hx, hmgmt, hidx, hgen, hgroups, hst⟩,
        (par_begun s n 1) ▸ List.mem_cons_self⟩
    · obtain ⟨t, ht, hm, hc⟩ := mgmtRun_of_refused hcheck
      exact ⟨_, hrun ht, (sameMem_reply _ _ _ _ _).2 (sameMem_trans (sameMem_begun s n) hm), replied_reply _ _ hn (status_of_refused hcheck),
        (reply_keeps State.ctxs (fun _ _ _ _ => rfl) _ _ _ _).trans (hc.trans (ctxs_begun s n))⟩
  · intro comp len data hnew halign hne hfits hout
    have hn : n < 16 := hs.1
    have hhome := mbHome_of_starts (rs := fun t => t.fwRange n) hs (by
      show (!(s.dirtyLines (s.par n 1) (bits (s.par n 2) 0 32)).isEmpty || false) = false
      rw [hclean]
      rfl) fun t => t.fwStage n
    have hstage := fwStage_of_placed (s := s.begun n) (comp_begun s n) (par_begun s n 1) (congrArg (bits · 0 32) (par_begun s n 2))
      ((staged_begun s n).symm ▸ hnew) halign hne hfits hout
    have hdata : (s.begun n).dieRead (s.par n 1) len = data := dieRead_congr (sameMem_begun s n) _ _
    rw [hdata] at hstage
    obtain ⟨mt, hmt⟩ := countFor_eq ({ s.begun n with staged := (s.begun n).staged ++ [stagedImage comp data] } : State) .package 9 len
    rw [hmt] at hstage
    exact ⟨_, congrArg s.after (hhome.trans (congrArg State.unclaim hstage)), sameMem_begun s n, slotState_begun s hn, List.mem_cons_self,
      ⟨_, List.mem_append_right _ List.mem_cons_self, rfl, rfl, rfl, rfl⟩, fun _ _ _ => rfl⟩
  · obtain ⟨hxs, hcomp⟩ := List.mem_filter.1 (hx ▸ List.mem_cons_self : x ∈ s.staged.filter (fun x => x.comp == comp))
    have hmatch : (x.comp == comp && x.bank == data) = true := by rw [hcomp, hbank, beq_self_eq_true, Bool.and_self]
    have hanswer (ans : KyAns) : s.kyrdoAnswer n ans = match ans with
        | .image v cs est => (s.dropKy n).stageAnswer n comp data v cs est
        | .refused => (s.dropKy n).stageFailed n comp data stDENIED
        | _ => s := by
      unfold State.kyrdoAnswer
      rw [hr]
      dsimp only
      rw [hask]
      cases ans <;> rfl
    refine ⟨fun v cs est => ?_, ?_⟩
    · let put (x : Staged) : Staged := { x with version := v, coefs := cs, est := est, ok := true }
      have hput := updAll_mem (p := fun x : Staged => x.comp == comp && x.bank == data) (f := put) hxs
      rw [if_pos hmatch] at hput
      refine ⟨_, congrArg s.after (hanswer (.image v cs est)), (sameMem_reply _ _ _ _ _).2 (sameMem_of_eq rfl rfl), replied_reply _ _ hn (by decide), ?_, fun i hi => ?_⟩
      · rw [show ((s.dropKy n).stageAnswer n comp data v cs est).staged = updAll s.staged (fun x => x.comp == comp && x.bank == data) put from
          reply_keeps State.staged (fun _ _ _ _ => rfl) _ _ _ _]
        exact hput
      · exact (rd_reply_out _ n stOK (outs := digestWords (sha384 data)) hi).trans (congrArg (· % 2 ^ 64) (nth_digestWords _ hi))
    · have hgone : s.kyrdoAnswer n .refused = ((s.dropKy n).unstage comp).reply n stDENIED :=
        (hanswer .refused).trans (congrArg (fun t => State.reply t n stDENIED) (if_pos (List.any_eq_true.2 ⟨x, hxs, hmatch⟩)))
      exact ⟨_, congrArg s.after hgone, (sameMem_reply _ _ _ _ _).2 ((sameMem_unstage _ _ _).2 (sameMem_of_eq rfl rfl)), replied_reply _ _ hn (by decide),
        (claimsStaged_reply _ _ _ _ _).trans (claimsStaged_unstage _ _)⟩
  · intro comp idle hnone
    have hn : n < 16 := hs.1
    have hrow : s.fwCommitRow n = s.mbRun n 0x71 (fun t => t.fwCommit n) := by
      unfold State.fwCommitRow
      rw [hnone]
    have hrun {u : State} (h : (s.begun n).fwCommit n = u) := congrArg s.after (hrow.trans ((mbRun_of_starts hs fun t => t.fwCommit n).trans (congrArg State.unclaim h)))
    have hswitches := mbox_switches_begun s n
    refine ⟨fun hjoin => ?_, fun hno => ?_⟩
    · have hcommit : (s.begun n).fwCommit n = { s.begun n with mbox := { (s.begun n).mbox with
          switches := updAll (s.begun n).mbox.switches (fun w => w.comp == comp) (fun w => { w with slots := w.slots ++ [n] }) } } := by
        rw [show comp = (s.begun n).comp n from (comp_begun s n).symm]
        exact if_pos (by rw [hswitches, comp_begun]; exact hjoin)
      refine ⟨_, hrun hcommit, sameMem_begun s n, slotState_begun s hn, fun w hw hcomp => ?_⟩
      have hmem := updAll_mem (p := fun w : Switch => w.comp == comp) (f := fun w => { w with slots := w.slots ++ [n] }) (hswitches.symm ▸ hw)
      rwa [if_pos (beq_iff_eq.2 hcomp)] at hmem
    · have hcommit := fwCommit_eq (s := s.begun n) (n := n) (by rw [hswitches, comp_begun]; exact hno)
      rw [comp_begun, claimsStaged_begun, commits_begun] at hcommit
      have hidle : idleSequencers s ↔ idle := Iff.rfl
      have hjoins (r : KyReq) (hslot : r.slot = n) (hr : r.ask = .commit comp) (u : State) (hu : u.kyreqs = (s.begun n).kyreqs ++ [r]) :
          ∃ r ∈ u.commits comp, r.slot = n := by
        refine ⟨r, List.mem_filter.2 ⟨hu ▸ List.mem_append_right _ List.mem_cons_self, ?_⟩, hslot⟩
        rw [hr]
        exact beq_self_eq_true comp
      refine ⟨fun hclaim => ?_, fun hclaim hfirst hready => ?_, fun hclaim hlater => ?_, fun hclaim hfirst hcomp hbusy => ?_⟩
      · rw [show s.claimsStaged (s.comp n) = false from hclaim] at hcommit
        obtain ⟨hmem, hreplied, -⟩ := reply_begun_leaves (s := s) (st := stSTATE) hn (by decide)
        exact ⟨_, hrun hcommit, hmem, hreplied⟩
      · have hgo : ¬ (decide (comp = 3) && ((s.begun n).on .QM_CTL_ADMIT_EN || !(s.begun n).ctxs.isEmpty || (s.begun n).mbox.runWait.isSome)) = true := by
          rw [Bool.and_eq_true, decide_eq_true_iff, busySequencers_iff, idleSequencers_begun_iff]
          exact fun h => h.2 (hidle.2 (hready h.1))
        rw [show s.claimsStaged (s.comp n) = true from hclaim, show s.commits (s.comp n) = [] from hfirst] at hcommit
        have hask := hcommit.trans ((if_neg (by decide)).trans ((if_neg (by decide)).trans (if_neg hgo)))
        exact ⟨_, hrun hask, sameMem_begun s n, slotState_begun s hn, List.mem_cons_self, hjoins _ rfl rfl _ rfl⟩
      · rw [show s.claimsStaged (s.comp n) = true from hclaim] at hcommit
        have hask := hcommit.trans ((if_neg (by decide)).trans (if_pos (by rw [Bool.not_eq_true', List.isEmpty_eq_false_iff]; exact hlater)))
        exact ⟨_, hrun hask, sameMem_begun s n, slotState_begun s hn, hjoins _ rfl rfl _ rfl⟩
      · have hstop : (decide (comp = 3) && ((s.begun n).on .QM_CTL_ADMIT_EN || !(s.begun n).ctxs.isEmpty || (s.begun n).mbox.runWait.isSome)) = true := by
          rw [Bool.and_eq_true, decide_eq_true_iff, busySequencers_iff, idleSequencers_begun_iff]
          exact ⟨hcomp, fun h => hbusy (hidle.1 h)⟩
        rw [show s.claimsStaged (s.comp n) = true from hclaim, show s.commits (s.comp n) = [] from hfirst] at hcommit
        have hstate := hcommit.trans ((if_neg (by decide)).trans ((if_neg (by decide)).trans (if_pos hstop)))
        obtain ⟨hmem, hreplied, -⟩ := reply_begun_leaves (s := s) (st := stSTATE) hn (by decide)
        exact ⟨_, hrun hstate, hmem, hreplied⟩
  · have hanswer : s.kyrdoAnswer n .committed = s.commitAnswer comp := by
      unfold State.kyrdoAnswer
      rw [hr]
      dsimp only
      rw [hask]
    have hcommit := commitAnswer_eq hx
    let b := commitBank (commitsOver s comp) comp x
    have hkeep {β : Type} (p : State → β) (hwr : ∀ (t : State) g v i, p (t.wr g v i) = p t) (hreqs : ∀ (t : State) l, p { t with kyreqs := l } = p t)
        (hstaged : ∀ (t : State) l, p { t with staged := l } = p t) : p (b.unstage comp) = p b := unstage_keeps hwr (fun t _ => hreqs t _) hstaged b comp
    have hb {β : Type} (p : State → β) (hp : ∀ (t : State) k m, p { t with kyrdo := k, meter := m } = p t) : p b = p (commitsOver s comp) := commitBank_keeps hp _ _ _
    have hover : (b.unstage comp).commits comp = [] := by
      obtain ⟨q, hq⟩ := kyreqs_unstage b comp
      refine commits_of_over (s := s) fun r hr => ?_
      rw [hq] at hr
      exact hb State.kyreqs (fun _ _ _ => rfl) ▸ (List.mem_filter.1 hr).1
    have hkyrdo : (b.unstage comp).kyrdo = b.kyrdo := hkeep State.kyrdo (fun _ _ _ _ => rfl) (fun _ _ => rfl) fun _ _ => rfl
    have hmeter : (b.unstage comp).meter = b.meter := hkeep State.meter (fun _ _ _ _ => rfl) (fun _ _ => rfl) fun _ _ => rfl
    refine ⟨_, congrArg s.after (hanswer.trans hcommit), ?_, ⟨begunSwitch s comp, List.mem_append_right _ List.mem_cons_self, rfl, rfl, ?_, ?_⟩,
      claimsStaged_unstage _ _, hover, fun h2 => ?_, fun h2 => ?_⟩
    · refine (sameMem_unstage s b comp).2 (sameMem_of_eq ?_ ?_)
      · exact hb State.hbm fun _ _ _ => rfl
      · exact hb State.wbuf fun _ _ _ => rfl
    · exact Nat.le_add_right _ _
    · have hlt := Nat.mod_lt (Config.switchTime s.time).toNat (show 0 < 2000001 by decide)
      show s.time + _ ≤ _
      omega
    · have hk : (b.unstage comp).kyrdo = _ := hkyrdo.trans (congrArg State.kyrdo (commitBank_of_mgmt (commitsOver s comp) h2 x))
      have hm : (b.unstage comp).meter = _ := hmeter.trans (congrArg State.meter (commitBank_of_mgmt (commitsOver s comp) h2 x))
      exact ⟨congrArg Kyrdo.mgmt hk, congrArg Kyrdo.mgmtVer hk, congrArg Kyrdo.mgmtBank hk, congrArg Meter.coefs hm⟩
    · have hk : (b.unstage comp).kyrdo = _ := hkyrdo.trans (congrArg State.kyrdo (commitBank_of_ucode (commitsOver s comp) h2 x))
      exact ⟨congrArg Kyrdo.ucode hk, congrArg Kyrdo.ucodeVer hk, congrArg Kyrdo.ucodeBank hk⟩
  · have hws := List.mem_of_find?_eq_some hw
    have hrow : s.fwCommitRow n = (s.elapse w.till).pumpSwitch := by
      unfold State.fwCommitRow
      rw [hw]
    obtain ⟨-, hgone, hreplied, hversion⟩ := switched_pumpSwitch (s := s.elapse w.till) hws (Nat.le_max_right _ _)
    refine ⟨_, congrArg s.after hrow, sameMem_of_eq ?_ ?_, ?_, hgone, hreplied, hversion⟩
    · exact pumpSwitch_keeps (p := State.hbm) (fun _ _ _ _ => rfl) (fun _ _ => rfl) _
    · exact pumpSwitch_keeps (p := State.wbuf) (fun _ _ _ _ => rfl) (fun _ _ => rfl) _
    · exact pumpSwitch_keeps (p := State.time) (fun _ _ _ _ => rfl) (fun _ _ => rfl) _
  · have hn : n < 16 := hs.1
    have hrun {u : State} (h : (s.begun n).fwAbort n = u) := congrArg s.after ((mbRun_of_starts hs fun t => t.fwAbort n).trans (congrArg State.unclaim h))
    have habort : (s.begun n).fwAbort n = if !s.claimsStaged (s.comp n) then (s.begun n).reply n stSTATE else ((s.begun n).unstage (s.comp n)).reply n stOK := by
      unfold State.fwAbort
      dsimp only
      rw [comp_begun, claimsStaged_begun]
    refine ⟨fun hclaim => ?_, fun hclaim => ?_⟩
    · rw [hclaim] at habort
      refine ⟨_, hrun (habort.trans (if_neg (by decide))), (sameMem_reply _ _ _ _ _).2 ((sameMem_unstage _ _ _).2 (sameMem_begun s n)),
        replied_reply _ _ hn (by decide), (claimsStaged_reply _ _ _ _ _).trans (claimsStaged_unstage _ _), fun r hr hlt hne => ?_⟩
      exact (replied_reply_ne _ hlt hne _ _).2 (replied_unstage (by rwa [commits_begun]) hlt)
    · rw [hclaim] at habort
      obtain ⟨hmem, hreplied, -⟩ := reply_begun_leaves (s := s) (st := stSTATE) hn (by decide)
      exact ⟨_, hrun (habort.trans (if_pos (by decide))), hmem, hreplied, (reply_keeps State.staged (fun _ _ _ _ => rfl) _ _ _ _).trans (staged_begun s n)⟩
  · exact watchdog_leaves s core slots hready hcore

end Sys2Proof.Laws

/-! # What a removal of a node leaves alone

A request that is lost moves a few registers, ends what it was made for, and makes no request (R335, R353). -/
namespace Sys2Proof.Laws

open Sys2Proof.Machine

/-- The registers that a lost request, its loss record and the end of its pour may move. -/
def lossRegs : List Field := stopRegs ++ recordRegs ++ [.POISON_RD, .PEER_LOSS_LOST_READS, .PEER_LOSS_LOST_WRITES, .PEER_LOSS_LOST_SIGNALS,
  .EN_RING_PTRS_WR_IDX, .HLP_HOLD_PTRS_WR_IDX, .CAST_ELOG_PTRS_WR_IDX, .FL_CAUSE_HOT_SHEET]

/-- From t to u time stands still, no register but those of lossRegs moves, and no pending source is taken back. -/
def calm (t u : State) : Prop :=
  u.time = t.time ∧ (∀ f i, f ∉ lossRegs → u.rd f i = t.rd f i) ∧ ∀ i, t.on .EV_SRC_PENDING i = true → u.on .EV_SRC_PENDING i = true

theorem calm_refl (t : State) : calm t t := ⟨rfl, fun _ _ _ => rfl, fun _ h => h⟩

theorem calm_trans {t u v : State} (h : calm t u) (h' : calm u v) : calm t v := by
  obtain ⟨htime, hrd, hpend⟩ := h
  obtain ⟨htime', hrd', hpend'⟩ := h'
  exact ⟨htime'.trans htime, fun f i hf => (hrd' f i hf).trans (hrd f i hf), fun i hi => hpend' i (hpend i hi)⟩

theorem calm_of_regs {t u : State} (htime : u.time = t.time) (hregs : u.regs = t.regs) : calm t u :=
  ⟨htime, fun f i _ => by rw [State.rd, hregs, State.rd], fun i h => by rwa [State.on, State.rd, hregs]⟩

theorem calm_wr (t : State) {f : Field} (hf : f ∈ lossRegs) (hp : f ≠ .EV_SRC_PENDING) (v i : Nat) : calm t (t.wr f v i) :=
  ⟨rfl, fun _ _ hg => rd_wr_ne t v (.inl fun h => hg (h ▸ hf)), fun j h => by rwa [State.on, rd_wr_ne t v (.inl hp)]⟩

theorem calm_raise (t : State) (n : Nat) : calm t (t.raise n) := by
  unfold State.raise
  split
  · exact calm_wr t (by decide) (by decide) _ _
  · refine ⟨rfl, fun _ _ hg => rd_wr_ne t 1 (.inl fun h => hg (h ▸ by decide)), fun j h => ?_⟩
    by_cases hj : j = n
    · rw [hj, State.on, rd_wr_one]
      rfl
    · rwa [State.on, rd_wr_ne t 1 (.inr (Ne.symm hj))]

theorem calm_foldl {α : Type} {f : State → α → State} (h : ∀ t a, calm t (f t a)) (l : List α) (t : State) : calm t (l.foldl f t) :=
  List.foldlRecOn (motive := calm t) l f (calm_refl t) fun u hu a _ => calm_trans hu (h u a)

theorem foldl_subset {α : Type} {f : State → α → State} (h : ∀ t a, (f t a).reqs ⊆ t.reqs) (l : List α) (t : State) : (l.foldl f t).reqs ⊆ t.reqs :=
  List.foldlRecOn (motive := fun u : State => u.reqs ⊆ t.reqs) l f (List.Subset.refl _) fun u hu a _ => List.Subset.trans (h u a) hu

/-! ## The end of a pour (R155) -/

/-- From t to u all is calm and no request is made. -/
def calmReqs (t u : State) : Prop := calm t u ∧ u.reqs ⊆ t.reqs

theorem calmReqs_refl (t : State) : calmReqs t t := ⟨calm_refl t, List.Subset.refl _⟩

theorem calmReqs_trans {t u v : State} (h : calmReqs t u) (h' : calmReqs u v) : calmReqs t v :=
  ⟨calm_trans h.1 h'.1, List.Subset.trans h'.2 h.2⟩

theorem calmReqs_of_regs {t u : State} (htime : u.time = t.time) (hregs : u.regs = t.regs) (hreqs : u.reqs = t.reqs) : calmReqs t u :=
  ⟨calm_of_regs htime hregs, hreqs ▸ List.Subset.refl _⟩

theorem calmReqs_wr (t : State) {f : Field} (hf : f ∈ lossRegs) (hp : f ≠ .EV_SRC_PENDING) (v i : Nat) : calmReqs t (t.wr f v i) :=
  ⟨calm_wr t hf hp v i, List.Subset.refl _⟩

theorem calmReqs_raise (t : State) (n : Nat) : calmReqs t (t.raise n) :=
  ⟨calm_raise t n, by rw [raise_keeps State.reqs (fun _ _ _ _ => rfl)]; exact List.Subset.refl _⟩

theorem calmReqs_foldl {α : Type} {f : State → α → State} (h : ∀ t a, calmReqs t (f t a)) (l : List α) (t : State) : calmReqs t (l.foldl f t) :=
  List.foldlRecOn (motive := calmReqs t) l f (calmReqs_refl t) fun u hu a _ => calmReqs_trans hu (h u a)

theorem calmReqs_startOn (t : State) (e k : Nat) : calmReqs t (t.startOn e k) := by
  unfold State.startOn
  dsimp only
  refine calmReqs_trans ?_ (calmReqs_trans (calmReqs_wr _ (by decide) (by decide) _ _) (calmReqs_wr _ (by decide) (by decide) _ _))
  split
  · exact calmReqs_of_regs rfl rfl rfl
  · exact calmReqs_of_regs rfl rfl rfl

theorem calmReqs_pump (t : State) : calmReqs t t.pump := by
  refine calmReqs_trans (calmReqs_of_regs rfl rfl rfl : calmReqs t t.dropEnded)
    (calmReqs_trans (calmReqs_foldl (fun u l => ?_) _ _ : calmReqs t.dropEnded t.dropEnded.startShadows) (calmReqs_foldl (fun u k => calmReqs_foldl (fun u e => ?_) _ u) _ _))
  · split
    · split
      · split
        · exact calmReqs_trans (calmReqs_of_regs rfl rfl rfl) (calmReqs_startOn _ _ _)
        · exact calmReqs_refl u
      · exact calmReqs_refl u
    · exact calmReqs_refl u
  · split
    · exact calmReqs_of_regs rfl rfl rfl
    · exact calmReqs_refl u

theorem calmReqs_refuseSpawn (t : State) (x : Ctx) (w : SpawnWish) (code : Nat) : calmReqs t (t.refuseSpawn x w code) := by
  have hcount : calmReqs t ((t.bump .SEQ_SPAWN_REFUSED).wr .SEQ_ERR_SPAWN_REFUSED 1) :=
    calmReqs_trans (calmReqs_wr t (by decide) (by decide) _ _) (calmReqs_wr _ (by decide) (by decide) _ _)
  unfold State.refuseSpawn
  dsimp only
  split
  · exact calmReqs_trans hcount (calmReqs_of_regs rfl rfl rfl)
  · split
    · exact calmReqs_trans hcount (calmReqs_of_regs rfl rfl rfl)
    · exact calmReqs_trans hcount (calmReqs_trans (calmReqs_raise _ _) (calmReqs_of_regs rfl rfl rfl))

theorem calmReqs_refuseTree (t : State) (r : Nat) : calmReqs t (t.refuseTree r) := by
  refine calmReqs_trans (calmReqs_foldl (fun t x => ?_) (t.tree r) t) (calmReqs_foldl (fun t l => ?_) _ _)
  · split
    · exact calmReqs_refuseSpawn _ _ _ _
    · exact calmReqs_refl t
  · split
    · split
      · split
        · split
          · exact calmReqs_refuseSpawn _ _ _ _
          · exact calmReqs_refl t
        · exact calmReqs_refl t
      · exact calmReqs_refl t
    · exact calmReqs_refl t

theorem calmReqs_removeUnstarted (t : State) (k : Kernel) : calmReqs t (t.removeUnstarted k) := by
  have hkernel (u : State) (f : Kernel → Kernel) : calmReqs u (u.modKernel k.id f) := calmReqs_of_regs rfl rfl rfl
  have hlane (u : State) (l : Lane) : calmReqs u (u.setLane l) := calmReqs_of_regs rfl rfl rfl
  exact calmReqs_trans (calmReqs_foldl (fun u _ => hlane u _) _ t) (hkernel _ _)

theorem calmReqs_stopKernel (t : State) (k : Kernel) : calmReqs t (t.stopKernel k) := by
  refine calmReqs_trans (calmReqs_of_regs rfl rfl rfl : calmReqs t (t.modKernel k.id fun x => { x with stopping := true })) (calmReqs_foldl (fun u e => ?_) _ _)
  split
  · exact calmReqs_of_regs rfl rfl rfl
  · exact calmReqs_refl u

theorem calmReqs_dropSignals (t : State) (q : Nat → Bool) : calmReqs t (t.dropSignals q) :=
  ⟨calm_of_regs rfl rfl, fun _ hr => (List.mem_filter.1 hr).1⟩

theorem calmReqs_stopTree (t : State) (r : Nat) : calmReqs t (t.stopTree r true) := by
  unfold State.stopTree
  dsimp only
  refine calmReqs_trans ?_ (calmReqs_pump _)
  rw [if_pos rfl]
  refine calmReqs_trans ?_ (calmReqs_foldl (fun u k => calmReqs_trans (calmReqs_removeUnstarted u k) (calmReqs_stopKernel _ k)) _ _)
  have hctxs (u : State) (c : List Ctx) : calmReqs u { u with ctxs := c } := calmReqs_of_regs rfl rfl rfl
  have hroute (u : State) (x : Route) : calmReqs u { u with route := x } := calmReqs_of_regs rfl rfl rfl
  have hunits (u : State) (q : Nat → Bool) : calmReqs u (u.dropUnits q) := calmReqs_of_regs rfl rfl rfl
  exact calmReqs_trans (calmReqs_trans (calmReqs_trans (calmReqs_trans (calmReqs_refuseTree t r) (hctxs _ _)) (hunits _ _)) (calmReqs_dropSignals _ _)) (hroute _ _)

theorem calmReqs_endPour (t : State) (c status detail : Nat) : calmReqs t (t.endPour c status detail) := by
  unfold State.endPour
  split
  · exact calmReqs_refl t
  · unfold State.endTree
    split
    · exact calmReqs_refl t
    · split
      · exact calmReqs_refl t
      · split
        · exact calmReqs_refl t
        · exact calmReqs_trans (calmReqs_stopTree t _) (calmReqs_of_regs rfl rfl rfl)

/-! ## A request that is lost (R353, R354) -/

theorem calm_fire (t : State) (p : Purpose) : calm t (t.fire p) := by
  unfold State.fire
  split
  · exact calm_raise _ _
  · exact calm_trans (calm_trans (calm_of_regs rfl rfl) (calm_wr _ (by decide) (by decide) _ _)) (calm_raise _ _)
  · exact calm_trans (calm_wr _ (by decide) (by decide) _ _) (calm_raise _ _)
  · exact calm_wr _ (by decide) (by decide) _ _
  · exact calm_wr _ (by decide) (by decide) _ _
  · exact calm_wr _ (by decide) (by decide) _ _
  · exact calm_refl t

theorem reqs_fire (t : State) (p : Purpose) : (t.fire p).reqs = t.reqs := by
  have hraise (u : State) (n : Nat) : (u.raise n).reqs = u.reqs := raise_keeps State.reqs (fun _ _ _ _ => rfl) u n
  unfold State.fire
  split
  · exact hraise _ _
  · exact hraise _ _
  · exact hraise _ _
  all_goals rfl

theorem calmReqs_recordAcked (t : State) (id : Nat) : calmReqs t (t.recordAcked id) := by
  have hctxs (u : State) (c : List Ctx) : calmReqs u { u with ctxs := c } := calmReqs_of_regs rfl rfl rfl
  have hrecords (l : List PendRec) : calmReqs t { t with qm := { t.qm with records := l } } := calmReqs_of_regs rfl rfl rfl
  unfold State.recordAcked
  split
  · exact calmReqs_refl t
  · dsimp only
    refine calmReqs_trans ?_ (hctxs _ _)
    split
    · exact calmReqs_trans (hrecords _) (calmReqs_raise _ _)
    · exact hrecords _

theorem calmReqs_answerFences (t : State) : calmReqs t t.answerFences := by
  have hsay (u : State) (m : Msg) : calmReqs u (u.say m) := calmReqs_of_regs rfl rfl rfl
  exact calmReqs_trans (calmReqs_of_regs rfl rfl rfl : calmReqs t { t with fences := _ }) (calmReqs_foldl hsay _ _)

/-- An acknowledged write is a request no more. -/
theorem calmReqs_ackWrite (t : State) (r : Req) : calmReqs (t.dropReq r.id) (t.ackWrite r) := by
  have hctxs (u : State) (c : List Ctx) : calmReqs u { u with ctxs := c } := calmReqs_of_regs rfl rfl rfl
  unfold State.ackWrite
  dsimp only
  refine calmReqs_trans ?_ (calmReqs_answerFences _)
  refine calmReqs_trans (calmReqs_of_regs rfl rfl rfl : calmReqs (t.dropReq r.id) { t.dropReq r.id with copies := _, cast := _, route := _ }) ?_
  split
  · exact hctxs _ _
  · exact calmReqs_recordAcked _ _
  · exact ⟨calm_fire _ _, by rw [reqs_fire]; exact List.Subset.refl _⟩

theorem calmReqs_errRecord (t : State) (bs : List Byte) : calmReqs t (t.errRecord bs) := by
  have hrd {f : Field} (hf : f ∉ recordRegs) (i : Nat) : (t.errRecord bs).rd f i = t.rd f i :=
    errRecord_keeps (p := fun t => t.rd f i) (fun _ _ _ _ _ _ => rfl) (fun u g v hg => rd_wr_ne u v (.inl fun h => hf (h ▸ hg))) t bs
  refine ⟨⟨errRecord_keeps (p := State.time) (fun _ _ _ _ _ _ => rfl) (fun _ _ _ _ => rfl) t bs, fun f i hf => hrd (fun h => hf ?_) i, fun i hi => ?_⟩, ?_⟩
  · exact List.mem_append_left _ (List.mem_append_right _ h)
  · rwa [State.on, hrd (by decide)]
  · rw [errRecord_keeps (p := State.reqs) (fun _ _ _ _ _ _ => rfl) (fun _ _ _ _ => rfl)]
    exact List.Subset.refl _

/-- The requests of l that wait for an answer are some of those of l' that do, and none has identifier i. -/
def leavesOut (l l' : List Req) (i : Nat) : Prop := ∀ q ∈ l, q.fin = none → q ∈ l' ∧ q.id ≠ i

theorem leavesOut_filter (l : List Req) (i : Nat) : leavesOut (l.filter (fun r => r.id != i)) l i := fun q hq _ => by
  obtain ⟨hq, hid⟩ := List.mem_filter.1 hq
  exact ⟨hq, bne_iff_ne.1 hid⟩

theorem leavesOut_finish (t : State) (r : Req) (bs : List Byte) (bad : List Nat) : leavesOut (t.finish r bs bad).reqs t.reqs r.id := by
  unfold State.finish
  split
  · exact leavesOut_filter _ _
  · intro q hq hfin
    obtain ⟨p, hp, rfl⟩ := List.mem_map.1 hq
    by_cases hid : (p.id == r.id) = true
    · rw [if_pos hid] at hfin
      exact absurd hfin (Option.some_ne_none _)
    · rw [if_neg hid]
      exact ⟨hp, fun h => hid (beq_iff_eq.2 h)⟩

theorem calm_finish (t : State) (r : Req) (bs : List Byte) (bad : List Nat) : calm t (t.finish r bs bad) := by
  unfold State.finish
  split
  · exact calm_of_regs rfl rfl
  · exact calm_of_regs rfl rfl

theorem finishSlag_loses (t : State) (r : Req) : calm t (t.finishSlag r) ∧ leavesOut (t.finishSlag r).reqs t.reqs r.id := by
  unfold State.finishSlag
  split
  · exact ⟨calm_finish _ _ _ _, leavesOut_finish _ _ _ _⟩
  · exact ⟨calm_trans (calm_wr t (by decide) (by decide) _ _) (calm_finish _ _ _ _), leavesOut_finish _ _ _ _⟩

theorem leavesOut_of_subset {l l' m m' : List Req} {i : Nat} (h : leavesOut l l' i) (hm : m ⊆ l) (hm' : l' ⊆ m') : leavesOut m m' i :=
  fun q hq hfin => by
    obtain ⟨hin, hid⟩ := h q (hm hq) hfin
    exact ⟨hm' hin, hid⟩

/-- A lost request waits for no answer any more. -/
theorem loseReq_loses (t : State) (r : Req) : calm t (t.loseReq r) ∧ leavesOut (t.loseReq r).reqs t.reqs r.id := by
  obtain ⟨hcalm, hreqs⟩ := calmReqs_errRecord t (t.lossBytes r r.lossKind)
  have hread : calm t ((((((t.errRecord (t.lossBytes r r.lossKind)).bump .PEER_LOSS_LOST_READS).say (.nodeGone r.id)).finishSlag r).endPour r.ctx 6 0)) ∧
      leavesOut ((((((t.errRecord (t.lossBytes r r.lossKind)).bump .PEER_LOSS_LOST_READS).say (.nodeGone r.id)).finishSlag r).endPour r.ctx 6 0)).reqs t.reqs r.id := by
    obtain ⟨hslag, hout⟩ := finishSlag_loses (((t.errRecord (t.lossBytes r r.lossKind)).bump .PEER_LOSS_LOST_READS).say (.nodeGone r.id)) r
    obtain ⟨hend, hsub⟩ := calmReqs_endPour ((((t.errRecord (t.lossBytes r r.lossKind)).bump .PEER_LOSS_LOST_READS).say (.nodeGone r.id)).finishSlag r) r.ctx 6 0
    have hsaid : calm (t.errRecord (t.lossBytes r r.lossKind)) (((t.errRecord (t.lossBytes r r.lossKind)).bump .PEER_LOSS_LOST_READS).say (.nodeGone r.id)) :=
      calm_trans (calm_wr _ (by decide) (by decide) _ _) (calm_of_regs rfl rfl)
    exact ⟨calm_trans hcalm (calm_trans hsaid (calm_trans hslag hend)), leavesOut_of_subset hout hsub hreqs⟩
  have hdropped (u : State) (hu : calmReqs (t.errRecord (t.lossBytes r r.lossKind)) u) : leavesOut (u.dropReq r.id).reqs t.reqs r.id :=
    leavesOut_of_subset (leavesOut_filter u.reqs r.id) (List.Subset.refl _) (List.Subset.trans hu.2 hreqs)
  unfold State.loseReq
  dsimp only
  split
  · exact hread
  · exact hread
  · obtain ⟨hack, hacked⟩ := calmReqs_ackWrite ((t.errRecord (t.lossBytes r r.lossKind)).bump .PEER_LOSS_LOST_WRITES) r
    obtain ⟨hend, hsub⟩ := calmReqs_endPour (((t.errRecord (t.lossBytes r r.lossKind)).bump .PEER_LOSS_LOST_WRITES).ackWrite r) r.ctx 6 0
    have hbump : calmReqs (t.errRecord (t.lossBytes r r.lossKind)) ((t.errRecord (t.lossBytes r r.lossKind)).bump .PEER_LOSS_LOST_WRITES) :=
      calmReqs_wr _ (by decide) (by decide) _ _
    exact ⟨calm_trans hcalm (calm_trans hbump.1 (calm_trans (calm_of_regs rfl rfl) (calm_trans hack hend))),
      leavesOut_of_subset (hdropped _ hbump) (List.Subset.trans hsub hacked) (List.Subset.refl _)⟩
  · have hbump : calmReqs (t.errRecord (t.lossBytes r r.lossKind)) ((t.errRecord (t.lossBytes r r.lossKind)).bump .PEER_LOSS_LOST_SIGNALS) :=
      calmReqs_wr _ (by decide) (by decide) _ _
    have hdrop : calm t (((t.errRecord (t.lossBytes r r.lossKind)).bump .PEER_LOSS_LOST_SIGNALS).dropReq r.id) :=
      calm_trans hcalm (calm_trans hbump.1 (calm_of_regs rfl rfl))
    split
    · exact ⟨hdrop, hdropped _ hbump⟩
    · exact ⟨calm_trans hdrop (calm_of_regs rfl rfl), hdropped _ hbump⟩
  · exact ⟨calm_of_regs rfl rfl, leavesOut_filter _ _⟩

/-- Requests that are lost one after another: none of their identifiers waits for an answer any more. -/
theorem loseAll_loses (l : List Req) (t : State) : calm t (l.foldl State.loseReq t) ∧
    ∀ q ∈ (l.foldl State.loseReq t).reqs, q.fin = none → q ∈ t.reqs ∧ ∀ r ∈ l, q.id ≠ r.id := by
  induction l generalizing t with
  | nil => exact ⟨calm_refl t, fun q hq _ => ⟨hq, fun _ hr => absurd hr List.not_mem_nil⟩⟩
  | cons r l ih =>
    obtain ⟨hcalm, hout⟩ := loseReq_loses t r
    obtain ⟨hrest, hothers⟩ := ih (t.loseReq r)
    refine ⟨calm_trans hcalm hrest, fun q hq hfin => ?_⟩
    obtain ⟨hmid, hne⟩ := hothers q hq hfin
    obtain ⟨hin, hid⟩ := hout q hmid hfin
    exact ⟨hin, fun p hp => (List.mem_cons.1 hp).elim (fun h => h ▸ hid) (hne p)⟩

/-! ## The removal of a node (R353) -/

theorem mem_outTo {t : State} {n : Nat} {q : Req} : q ∈ t.outTo n ↔ q ∈ t.reqs ∧ q.tier = 2 ∧ q.issued = true ∧ q.fin = none ∧ q.isBye = false ∧ q.node = n := by
  simp only [State.outTo, State.outPeers, State.sentPeers, List.mem_filter, Bool.and_eq_true, beq_iff_eq, Option.isNone_iff_eq_none, Bool.not_eq_true']
  tauto

/-- A node that is removed while no command waits for it. -/
theorem removeNode_leaves {s : State} {n cause : Nat} (hslots : (s.node n).slots = []) (hcause : cause < 2 ^ Field.PEER_NODE_CAUSE.row.width) :
    let u := s.removeNode n cause
    u.time = s.time ∧ u.ndState n = ndQUARANTINED ∧ u.rd .PEER_NODE_CAUSE n = cause ∧ u.rd .PEER_ERR_NODE_LOST = 1 ∧ u.outTo n = [] ∧
      u.on .EV_SRC_PENDING 0x2340 = true ∧ ∀ f i, f ∉ lossRegs → f ≠ .PEER_NODE_STATE → f ≠ .PEER_NODE_CAUSE → f ≠ .PEER_ERR_NODE_LOST → u.rd f i = s.rd f i := by
  let t1 : State := ((((s.wr .PEER_NODE_STATE ndQUARANTINED n).wr .PEER_NODE_CAUSE cause n).wr .PEER_ERR_NODE_LOST 1).setNode { num := n, since := s.time }).dropPeerLeaves n
  let lost := s.reqs.filter (fun r => r.tier == 2 && r.node == n && r.fin.isNone && (r.issued || r.isBye))
  let fs := ((lost.filter (fun r => !r.isBye)).map Req.flask ++ s.boundFlasks n).eraseDups
  let t3 := lost.foldl State.loseReq (t1.raise 0x2340)
  let t4 := fs.foldl (fun t f => t.raise (0x2300 + f)) t3
  have hu : s.removeNode n cause = t4 := by
    have hreply : s.removeNode n cause = t4.replyAll (s.node n).slots stPARTIAL := by
      unfold State.removeNode
      exact rfl
    rw [hreply, hslots, State.replyAll, List.foldl_nil]
  obtain ⟨hlose, hgone⟩ := loseAll_loses lost (t1.raise 0x2340)
  have hraised : calm t3 t4 := calm_foldl (fun t f => calm_raise t _) fs t3
  have hreqs : t4.reqs = t3.reqs := foldl_keeps State.reqs (fun t f => raise_keeps State.reqs (fun _ _ _ _ => rfl) t _) fs t3
  have hstart : (t1.raise 0x2340).reqs = s.reqs := raise_keeps State.reqs (fun _ _ _ _ => rfl) t1 _
  obtain ⟨htime, hrd, hpend⟩ := calm_trans (calm_raise t1 0x2340) (calm_trans hlose hraised)
  have hpending : (t1.raise 0x2340).on .EV_SRC_PENDING 0x2340 = true := on_raise_pending _ _
  have ht1 (f : Field) (i : Nat) : t1.rd f i = (((s.wr .PEER_NODE_STATE ndQUARANTINED n).wr .PEER_NODE_CAUSE cause n).wr .PEER_ERR_NODE_LOST 1).rd f i := rfl
  intro u
  have hu : u = t4 := hu
  rw [hu]
  refine ⟨htime, ?_, ?_, ?_, ?_, (calm_trans hlose hraised).2.2 _ hpending, fun f i hf h1 h2 h3 => ?_⟩
  · rw [State.ndState, hrd _ _ (by decide), ht1, rd_wr_ne _ _ (.inl (by decide)), rd_wr_ne _ _ (.inl (by decide)), rd_wr_same]
    rfl
  · rw [hrd _ _ (by decide), ht1, rd_wr_ne _ _ (.inl (by decide)), rd_wr_same]
    exact Nat.mod_eq_of_lt hcause
  · rw [hrd _ _ (by decide), ht1, rd_wr_one]
  · refine List.eq_nil_iff_forall_not_mem.2 fun q hq => ?_
    obtain ⟨hin, htier, hissued, hfin, -, hnode⟩ := mem_outTo.1 hq
    obtain ⟨hold, hne⟩ := hgone q (hreqs ▸ hin) hfin
    refine hne q (List.mem_filter.2 ⟨hstart ▸ hold, ?_⟩) rfl
    simp [htier, hissued, hfin, hnode]
  · rw [hrd _ _ hf, ht1, rd_wr_ne _ _ (.inl (Ne.symm h3)), rd_wr_ne _ _ (.inl (Ne.symm h2)), rd_wr_ne _ _ (.inl (Ne.symm h1))]

end Sys2Proof.Laws

/-! # Peer answers and peer requests

The answers that end this side's requests, and the requests of other nodes (R336 to R350). -/
namespace Sys2Proof.Laws

open Sys2Proof.Machine

/-! ## Answers (R341, R343) -/

section
variable {s : State} {p : List Byte} {q : Req}

theorem req_dropReq (t : State) (id : Nat) : (t.dropReq id).req? id = none :=
  List.find?_eq_none.2 fun r hr => by simpa using (List.mem_filter.1 hr).2

theorem req_modReq {t : State} {r : Req} (hr : r ∈ t.reqs) {f : Req → Req} (hf : ∀ r, (f r).id = r.id) : ∃ k, (t.modReq r.id f).req? r.id = some (f k) := by
  obtain ⟨k, hk⟩ := Option.isSome_iff_exists.1 (List.find?_isSome (p := fun x : Req => x.id == r.id).2 ⟨r, hr, beq_self_eq_true _⟩)
  have hcomp : ((fun x : Req => x.id == r.id) ∘ fun x => if x.id == r.id then f x else x) = fun x => x.id == r.id := by
    funext x
    rw [Function.comp_apply]
    split
    · rw [hf]
    · rfl
  refine ⟨k, ?_⟩
  rw [State.req?, State.modReq, updAll, List.find?_map, hcomp, hk, Option.map_some, if_pos (List.find?_some (p := fun x : Req => x.id == r.id) hk)]

theorem finish_of_plain (hplain : q.purpose = .plain) (t : State) (bs : List Byte) (bad : List Nat) :
    t.finish q bs bad = (t.dropReq q.id).say (.readData q.id bs (!bad.isEmpty)) := by
  unfold State.finish
  rw [hplain]

/-- The tier of a request that a packet answers. -/
theorem tier_of_answering {type : Nat} (h : s.answering type p = (some q, s)) : q ∈ s.reqs ∧ q.tier = 2 := by
  unfold State.answering at h
  split at h
  · exact absurd (congrArg Prod.fst h).symm (Option.some_ne_none q)
  · split at h
    · exact absurd (congrArg Prod.fst h).symm (Option.some_ne_none q)
    · split at h
      · exact absurd (congrArg Prod.fst h).symm (Option.some_ne_none q)
      · rename_i r hr
        split at h
        · exact absurd (congrArg Prod.fst h).symm (Option.some_ne_none q)
        · obtain rfl := Option.some.inj (congrArg Prod.fst h)
          obtain ⟨hin, htier⟩ := List.mem_filter.1 (List.mem_of_find?_eq_some hr)
          simp only [Bool.and_eq_true, beq_iff_eq] at htier
          exact ⟨hin, htier.1.1⟩

/-- Slag-marked data go out for an engine's read of another node. -/
theorem finishSlag_of_plain (hplain : q.purpose = .plain) (htier : q.tier = 2) {n : Nat} (hkind : q.kind = .read n) (t : State) :
    t.finishSlag q = ((t.bump .POISON_RD).dropReq q.id).say (.readData q.id (slagBytes n) true) := by
  have hsome : (!(List.range q.kind.lineCount).isEmpty) = true := by
    have hpos : 0 < q.kind.lineCount := Nat.lt_of_lt_of_le Nat.one_pos (Nat.le_max_left 1 _)
    cases hc : q.kind.lineCount with
    | zero => omega
    | succ k => simp
  unfold State.finishSlag
  rw [if_neg (by omega), finish_of_plain hplain, hsome, hkind]
  rfl

/-- What a plain acknowledgement is blind to. -/
theorem ackWrite_plain_keeps {β : Type} {v : State → β} (hplain : q.purpose = .plain)
    (hunits : ∀ (t : State) rs cs ca ro, v { t with reqs := rs, copies := cs, cast := ca, route := ro } = v { t with reqs := rs })
    (hfences : ∀ (t : State) l, v { t with fences := l } = v t) (hsay : ∀ t m, v (State.say t m) = v t) (t : State) : v (t.ackWrite q) = v (t.dropReq q.id) := by
  let u : State := { t.dropReq q.id with
    copies := t.copies.map fun c => { c with wrote := c.wrote.filter fun i => i != q.id },
    cast := { t.cast with jobs := t.cast.jobs.map fun j => { j with writes := j.writes.filter fun i => i != q.id } },
    route := { t.route with ops := t.route.ops.map fun o => { o with out := o.out.filter fun i => i != q.id } } }
  have hack : t.ackWrite q = u.answerFences := by
    unfold State.ackWrite
    rw [hplain]
    rfl
  exact (congrArg v hack).trans (((sayAll_keeps hsay _ _).trans (hfences _ _)).trans (hunits t _ _ _ _))

theorem ackWrite_plain (hplain : q.purpose = .plain) (t : State) : (t.ackWrite q).hbm = t.hbm ∧ (t.ackWrite q).wbuf = t.wbuf ∧
    (∀ f i, (t.ackWrite q).rd f i = t.rd f i) ∧ (t.ackWrite q).req? q.id = none :=
  ⟨ackWrite_plain_keeps (v := State.hbm) hplain (fun _ _ _ _ _ => rfl) (fun _ _ => rfl) (fun _ _ => rfl) t,
    ackWrite_plain_keeps (v := State.wbuf) hplain (fun _ _ _ _ _ => rfl) (fun _ _ => rfl) (fun _ _ => rfl) t,
    fun f i => ackWrite_plain_keeps (v := fun t => t.rd f i) hplain (fun _ _ _ _ _ => rfl) (fun _ _ => rfl) (fun _ _ => rfl) t,
    (ackWrite_plain_keeps (v := fun t => t.req? q.id) hplain (fun _ _ _ _ _ => rfl) (fun _ _ => rfl) (fun _ _ => rfl) t).trans (req_dropReq t q.id)⟩

/-- A request goes out as one packet to its node. -/
theorem sendReq_packet (t : State) (r : Req) : ∃ bytes, t.sendReq r = t.say (.packet r.node bytes) := by
  unfold State.sendReq
  dsimp only
  cases r.kind <;> exact ⟨_, rfl⟩

end

/-! ## Inbound requests (R336 to R350) -/

section
variable {s : State} {p : List Byte} {ty b : Nat}

/-- What a request that passes its gate has met. -/
theorem inboundGate_ok (h : s.inboundGate ty p = .ok b) : s.admits p = true ∧ s.inboundFault p = (0, b) ∧
    (ty ≠ pkSIG → (ty == pkWR && inDoorbells (pkLocal p)) = false → s.drowse = false) := by
  obtain ⟨shut, full, t, heq⟩ : ∃ (shut full : Bool) (t : State), s.inboundGate ty p = if shut then .error s
      else if !s.admits p then .error (s.dropPacket p)
      else if full || ((ty != pkSIG && !(ty == pkWR && inDoorbells (pkLocal p))) && s.drowse) then .error t
      else match s.inboundFault p with
        | (0, b) => .ok b
        | (code, b) => .error (s.refuse p code b) := ⟨_, _, _, rfl⟩
  rw [heq] at h
  split at h
  · nomatch h
  · split at h
    · nomatch h
    · rename_i hadmits
      split at h
      · nomatch h
      · rename_i hopen
        split at h
        · rename_i hfault
          refine ⟨by simpa using hadmits, hfault.trans (by rw [Except.ok.inj h]), fun hsig hdb => ?_⟩
          have hmem : (ty != pkSIG && !(ty == pkWR && inDoorbells (pkLocal p))) = true := by
            rw [hdb, bne_iff_ne.2 hsig]
            rfl
          rw [hmem, Bool.true_and, Bool.or_eq_true, not_or] at hopen
          exact Bool.eq_false_iff.2 hopen.2
        · nomatch h

theorem inboundWakes_of_awake (h : s.drowse = false) (p : List Byte) : s.inboundWakes p = none := by
  unfold State.inboundWakes
  rw [h, Bool.and_false, Bool.false_and]
  rfl

theorem wakeFor_of_awake (h : s.drowse = false) (p : List Byte) (t : State) : s.wakeFor p t = t := by
  unfold State.wakeFor
  rw [inboundWakes_of_awake h]

/-- The gate of a request that a row of R338 turns away. -/
theorem inboundGate_refused (hready : s.ready = true) (htype : pkType p = ty) (hadmits : s.admits p = true) (hawake : s.drowse = false)
    (huse : s.inboundUse < 4096) (hsig : s.bufUse s.sigBuf < 256) (hdbs : s.bufUse s.dbBuf < 256) (hcode : (s.inboundFault p).1 ≠ 0) :
    s.inboundGate ty p = .error (s.refuse p (s.inboundFault p).1 (s.inboundFault p).2) := by
  have hbuf (db : Bool) : decide (256 ≤ s.bufUse (if db then s.dbBuf else s.sigBuf)) = false := by
    cases db
    · exact decide_eq_false (not_le.2 hsig)
    · exact decide_eq_false (not_le.2 hdbs)
  unfold State.inboundGate
  dsimp only
  rw [hready, htype, beq_self_eq_true, Bool.true_or, hadmits, hawake, Bool.and_false, Bool.or_false, hbuf, decide_eq_false (not_le.2 huse), ite_self]
  rcases hf : s.inboundFault p with ⟨code, b⟩
  rw [hf] at hcode
  cases code with
  | zero => exact absurd rfl hcode
  | succ n => rfl

theorem inboundFault_lt (s : State) (p : List Byte) : (s.inboundFault p).1 < 256 := by
  unfold State.inboundFault
  split
  · decide
  · dsimp only
    split_ifs <;> decide

/-! ## Packets (R340, R341) -/

theorem leAt_leBytes (x : Nat) (bs : List Byte) : leAt (leBytes 8 x ++ bs) 0 8 = x % 2 ^ 64 := by
  have hslice : slice (leBytes 8 x ++ bs) 0 8 = leBytes 8 x := by
    rw [slice, List.drop_zero, List.take_left' (length_leBytes 8 x), length_leBytes]
    exact List.append_nil _
  rw [leAt, hslice, ofLe_leBytes]
  rfl

theorem leAt_second (x y : Nat) (bs : List Byte) : leAt (leBytes 8 x ++ (leBytes 8 y ++ bs)) 8 8 = y % 2 ^ 64 := by
  have hdrop : slice (leBytes 8 x ++ (leBytes 8 y ++ bs)) 8 8 = slice (leBytes 8 y ++ bs) 0 8 := by
    rw [slice, List.drop_left' (length_leBytes 8 x), slice, List.drop_zero]
  rw [leAt, hdrop]
  exact leAt_leBytes y bs

/-- The bytes of a packet. -/
def packetBytes (s : State) (type n gen flask tag h1 value : Nat) (payload : List Byte) : List Byte :=
  leBytes 8 (s.head0 type n gen flask tag) ++ leBytes 8 h1 ++ leBytes 8 value ++ payload

theorem pkType_packetBytes {type : Nat} (h : type < 16) (s : State) (n gen flask tag h1 value : Nat) (payload : List Byte) :
    pkType (packetBytes s type n gen flask tag h1 value payload) = type := by
  rw [pkType, fld, packetBytes, List.append_assoc, List.append_assoc, leAt_leBytes, State.head0, bits]
  omega

theorem code_packetBytes {h1 : Nat} (h : h1 < 256) (s : State) (type n gen flask tag value : Nat) (payload : List Byte) :
    fld (packetBytes s type n gen flask tag (h1 * 2 ^ 56) value payload) 1 56 8 = h1 := by
  rw [fld, packetBytes, List.append_assoc, List.append_assoc, leAt_second, bits]
  omega

theorem answerPkt_eq (s : State) (p : List Byte) (type h1 : Nat) (payload : List Byte) :
    s.answerPkt p type h1 payload = s.say (.packet (pkSrc p) (packetBytes s type (pkSrc p) (pkGen p) 0 (pkTag p) h1 0 payload)) := rfl

/-- A request that is turned away is counted and answered with its code. -/
theorem refuse_leaves (s : State) (p : List Byte) {code : Nat} (hcode : code < 256) (b : Nat) :
    let u := s.refuse p code b
    sameMem s u ∧ s.counts u .PEER_STATS_DENIED ∧ u.rd .PEER_ERR_INBOUND_DENIED = 1 ∧ (∀ k, u.timeline k = s.timeline k) ∧
      ∃ bytes, .packet (pkSrc p) bytes ∈ u.sent ∧ pkType bytes = pkERR ∧ fld bytes 1 56 8 = code := by
  let f := s.rd .PEER_BIND_FLASK b
  let t := if code = 5 then s.stale .flask f (s.rd .PEER_BIND_FLASK_GEN b) (s.flaskGen f) else s
  have ht : sameMem s t ∧ ∀ g i, (g, i) ∉ staleFields .flask → t.rd g i = s.rd g i := by
    unfold t
    split
    · exact ⟨sameMem_of_eq rfl rfl, onlyRegs_stale _ _ _ _ _⟩
    · exact ⟨sameMem_refl s, fun _ _ _ => rfl⟩
  obtain ⟨hmem, hregs⟩ := ht
  have hu : s.refuse p code b = ((t.wr .PEER_ERR_INBOUND_DENIED 1).bump .PEER_STATS_DENIED).answerPkt p pkERR (code * 2 ^ 56) := rfl
  clear_value t
  intro u
  have hu : u = _ := hu.trans (answerPkt_eq _ p pkERR (code * 2 ^ 56) [])
  rw [hu]
  refine ⟨sameMem_trans hmem (sameMem_of_eq rfl rfl), ?_, ?_, fun k => ?_, _, List.mem_cons_self, pkType_packetBytes (by decide) _ _ _ _ _ _ _ _,
    code_packetBytes hcode _ _ _ _ _ _ _ _⟩
  · rw [State.counts]
    refine (rd_bump_same _ _ _ _).trans ?_
    rw [rd_wr_ne _ _ (.inl (by decide)), hregs _ _ (by simp [staleFields, StaleKind.field])]
  · exact (rd_bump_ne _ _ (.inl (by decide))).trans (rd_wr_one _ _ _)
  · exact (rd_bump_ne _ _ (.inl (by decide))).trans ((rd_wr_ne _ _ (.inl (by decide))).trans (hregs _ _ (by simp [staleFields, StaleKind.field])))

theorem countInbound_eq (s : State) (p : List Byte) : ∃ mt, s.countInbound p = { s with meter := mt } := by
  unfold State.countInbound
  split
  · exact countFor_eq _ _ _ _
  · exact ⟨s.meter, rfl⟩

theorem admits_of_regs {t u : State} (h : u.regs = t.regs) (p : List Byte) : u.admits p = t.admits p := by
  simp only [State.admits, State.on, State.ndState, State.ndGen, State.rd, h]

theorem inboundPerform_of_read {t : State} (ht : s.countInbound p = t) (hadmits : t.admits p = true) (htype : pkType p = pkRD) :
    s.inboundPerform p = t.answerPkt p pkDATA 0 ((pkLineAddrs p).flatMap (fun l => t.sysRead l 64)) := by
  subst ht
  exact (if_neg (by rw [hadmits]; decide)).trans (if_pos htype)

theorem inboundPerform_of_atomic {t : State} (ht : s.countInbound p = t) (hadmits : t.admits p = true) (htype : pkType p = pkAT) :
    s.inboundPerform p = (t.inboundAtomic p).2.answerPkt p pkDATA 0 (slice (t.inboundAtomic p).1 0 8) := by
  subst ht
  exact (if_neg (by rw [hadmits]; decide)).trans (if_neg (by rw [htype]; decide))

/-- A read that waits for no host core is performed. -/
theorem inboundAccess_of_read (htype : pkType p = pkRD) (hadmits : s.admits p = true) (hfree : ∀ a ∈ pkLineAddrs p, s.hostExcl (lineOf a) = false) :
    ∃ mt, s.inboundAccess p = ({ s with meter := mt } : State).answerPkt p pkDATA 0 ((pkLineAddrs p).flatMap (fun l => s.sysRead l 64)) := by
  obtain ⟨mt, hmt⟩ := countInbound_eq s p
  have hnone : (pkLineAddrs p).find? (fun a => s.hostExcl (lineOf a)) = none := List.find?_eq_none.2 fun a ha => by rw [hfree a ha]; decide
  refine ⟨mt, ?_⟩
  unfold State.inboundAccess
  dsimp only
  rw [if_pos htype, hnone]
  exact inboundPerform_of_read hmt ((admits_of_regs rfl p).trans hadmits) htype

/-- A store waits that touches a line of an atomic. -/
def touchesLine (l : Nat) (w : LineWait) : Bool := match w.act with | .store st => (linesOf st.cells).contains l | _ => false

/-- An atomic that waits for no host core and no store is performed. -/
theorem inboundAccess_of_atomic (htype : pkType p = pkAT) (hadmits : s.admits p = true) (hfree : s.hostHeld (lineOf (pkLocal p)) = false)
    (hblock : s.storeBlock [lineOf (pkLocal p)] = none) : ∃ mt, s.inboundAccess p =
      (({ s with meter := mt } : State).inboundAtomic p).2.answerPkt p pkDATA 0 (slice (({ s with meter := mt } : State).inboundAtomic p).1 0 8) := by
  obtain ⟨mt, hmt⟩ := countInbound_eq s p
  have hexcl : s.hostExcl (lineOf (pkLocal p)) = false := by
    refine List.any_eq_false.2 fun h hh hx => ?_
    refine List.any_eq_false.1 hfree h hh ?_
    exact (Bool.and_eq_true_iff.1 hx).1
  have hholds : s.atomicHolds (pkLocal p) (pkOp p) (if fld p 1 52 1 = 1 then 8 else 4) (leAt p 32 8) = none := by
    unfold State.atomicHolds
    dsimp only
    rw [State.readsFirst, hexcl, hfree, Bool.and_false, Bool.false_and]
    rfl
  have hwaits : s.hlp.waits.reverse.find? (touchesLine (lineOf (pkLocal p))) = none := by
    refine List.find?_eq_none.2 fun w hw htouch => ?_
    unfold State.storeBlock at hblock
    dsimp only at hblock
    split at hblock
    · exact Option.some_ne_none _ hblock
    · rename_i hnone
      refine List.find?_eq_none.1 hnone w hw ?_
      unfold touchesLine at htouch
      split at htouch
      · rename_i st hst
        have hany : (linesOf st.cells).any [lineOf (pkLocal p)].contains = true :=
          List.any_eq_true.2 ⟨_, List.contains_iff_mem.1 htouch, List.contains_iff_mem.2 List.mem_cons_self⟩
        simpa only [hst] using hany
      · exact absurd htouch Bool.false_ne_true
  refine ⟨mt, ?_⟩
  have hperform := inboundPerform_of_atomic hmt ((admits_of_regs rfl p).trans hadmits) htype
  have haccess : s.inboundAccess p = match s.hlp.waits.reverse.find? (touchesLine (lineOf (pkLocal p))) with
      | some w => s.waitLine w.line (.inbound (pkSrc p) (pkGen p) p)
      | none => match s.atomicHolds (pkLocal p) (pkOp p) (if fld p 1 52 1 = 1 then 8 else 4) (leAt p 32 8) with
        | some l => if s.readsFirst (pkOp p) l then s.waitSoft l (.inbound (pkSrc p) (pkGen p) p) else s.waitLine l (.inbound (pkSrc p) (pkGen p) p)
        | none => s.inboundPerform p := if_neg (by rw [htype]; decide)
  rw [haccess, hwaits]
  dsimp only
  rw [hholds]
  exact hperform

theorem doorbell_keeps {β : Type} {v : State → β} (hwr : ∀ (t : State) f w i, v (t.wr f w i) = v t) (t : State) (q w : Nat) : v (t.doorbell q w) = v t := by
  have hraise (t : State) : v (t.raiseQueueErr q) = v t := raise_keeps v hwr t _
  unfold State.doorbell
  dsimp only
  split_ifs
  · exact hwr _ _ _ _
  · exact hwr _ _ _ _
  · exact hwr _ _ _ _
  · rfl
  · exact (hraise _).trans ((hwr _ _ _ _).trans (hwr _ _ _ _))
  · exact hwr _ _ _ _

theorem regs_ite {c d : Prop} [Decidable c] [Decidable d] (h : c ↔ d) {a a' b b' : State} (ha : a.regs = b.regs) (ha' : a'.regs = b'.regs) :
    (if c then a else a').regs = (if d then b else b').regs := by
  by_cases hc : c
  · rw [if_pos hc, if_pos (h.1 hc), ha]
  · rw [if_neg hc, if_neg (mt h.2 hc), ha']

/-- A doorbell reads registers alone. -/
theorem regs_doorbell {t u : State} (h : u.regs = t.regs) (q w : Nat) : (u.doorbell q w).regs = (t.doorbell q w).regs := by
  have hrd {a b : State} (hab : a.regs = b.regs) (f : Field) (i : Nat) : a.rd f i = b.rd f i := by rw [State.rd, hab, State.rd]
  have hwr {a b : State} (hab : a.regs = b.regs) (f : Field) (v i : Nat) : (a.wr f v i).regs = (b.wr f v i).regs := by
    simp only [State.wr, hab]
  have hbump {a b : State} (hab : a.regs = b.regs) (f : Field) : (a.bump f).regs = (b.bump f).regs := by
    rw [State.bump, hrd hab, State.bump]
    exact hwr hab _ _ _
  have hraise {a b : State} (hab : a.regs = b.regs) (n : Nat) : (a.raise n).regs = (b.raise n).regs :=
    regs_ite (by rw [State.on, hrd hab, State.on]) (hbump hab _) (hwr hab _ _ _)
  have hlen : u.qLen q = t.qLen q := by rw [State.qLen, hrd h, State.qLen]
  have hstate : u.qState q = t.qState q := by rw [State.qState, hrd h, State.qState]
  refine regs_ite (by rw [hlen, hstate]) (hbump h _) (regs_ite (by rw [hstate]) (hbump h _) (regs_ite ?_ (hbump h _) (regs_ite ?_ h
    (regs_ite ?_ (hraise (hwr (hbump h _) _ _ _) _) (hwr h _ _ _)))))
  all_goals simp only [hlen, hrd h]

end

/-- A write of another node that is acknowledged after the step to t. -/
theorem acts_of_acknowledged {s t v : State} {p : List Byte} {ctl : Nat} (hexec : s.wakeFor p (s.inboundWr p ctl) = t.answerPkt p pkACK)
    (hhbm : t.hbm = s.hbm) (hwbuf : t.wbuf = s.wbuf) (hregs : t.regs = v.regs) : acts (.inboundWr p ctl) s (fun u => sameMem s u ∧
      (∀ g i, u.rd g i = v.rd g i) ∧ ∃ bytes, .packet (pkSrc p) bytes ∈ u.sent ∧ pkType bytes = pkACK) := by
  refine ⟨_, congrArg s.after hexec, sameMem_of_eq hhbm hwbuf, fun g i => ?_, _, List.mem_cons_self, pkType_packetBytes (by decide) _ _ _ _ _ _ _ _⟩
  show t.rd g i = _
  rw [State.rd, hregs, State.rd]

/-- The queue's bell is rung by the packet (R350). -/
theorem inboundWr_rings {s : State} {p : List Byte} {b ctl q : Nat} (hgate : s.inboundGate pkWR p = .ok b) (hdb : inDoorbells (pkLocal p) = true)
    (hq : dbQueue p = q) (hform : dbForm p = true) (hgen : bits (dbValue p) 32 8 = s.rd .QCTX_GEN q) (hqueue : s.boundQueue b q = true)
    (hawake : s.drowse = false) : acts (.inboundWr p ctl) s (fun u => sameMem s u ∧
      (∀ g i, u.rd g i = (s.doorbell q (setBits (dbValue p) 32 8 0)).rd g i) ∧ ∃ bytes, .packet (pkSrc p) bytes ∈ u.sent ∧ pkType bytes = pkACK) := by
  have hbell : s.takeDbBuf.inboundDoorbell p b = (s.takeDbBuf.doorbell q (setBits (dbValue p) 32 8 0)).answerPkt p pkACK := by
    unfold State.inboundDoorbell
    rw [hq]
    exact (if_neg (by rw [hform]; decide)).trans ((if_neg (not_not.2 hgen)).trans (if_neg (by rw [show s.takeDbBuf.boundQueue b q = true from hqueue]; decide)))
  have hwrite : s.inboundWr p ctl = s.takeDbBuf.inboundDoorbell p b := by
    unfold State.inboundWr
    rw [hgate]
    exact if_pos hdb
  rw [hbell] at hwrite
  exact acts_of_acknowledged ((congrArg (s.wakeFor p) hwrite).trans (wakeFor_of_awake hawake p _))
    (doorbell_keeps (v := State.hbm) (fun _ _ _ _ => rfl) s.takeDbBuf q _) (doorbell_keeps (v := State.wbuf) (fun _ _ _ _ => rfl) s.takeDbBuf q _)
    (regs_doorbell (t := s) (u := s.takeDbBuf) rfl q _)

/-! ## An atomic of another node -/

/-- Memory after bytes are committed depends on memory alone. -/
theorem hbm_putCells {t u : State} (h : u.hbm = t.hbm) (cells : List (Nat × Byte)) : (u.putCells cells).hbm = (t.putCells cells).hbm := by
  induction cells generalizing t u with
  | nil => exact h
  | cons c cells ih =>
    refine ih (t := t.putByte c.1 c.2) (u := u.putByte c.1 c.2) ?_
    unfold State.putByte
    split
    · rw [h]
    · exact h

theorem hbm_commitLine {t u : State} (h : u.hbm = t.hbm) (hw : u.wbuf = t.wbuf) (l : Nat) : (u.commitLine l).hbm = (t.commitLine l).hbm := by
  show (u.wbuf.foldl _ u).hbm = (t.wbuf.foldl _ t).hbm
  rw [hw]
  clear hw
  generalize t.wbuf = w
  induction w generalizing t u with
  | nil => exact h
  | cons st w ih => exact ih (hbm_putCells h _)

theorem inboundAt_performs {s : State} {p : List Byte} {b : Nat} (htype : pkType p = pkAT)
    (hfree : ∀ a ∈ pkLineAddrs p, s.hostHeld (lineOf a) = false) (hgate : s.inboundGate pkAT p = .ok b)
    (hblock : s.storeBlock [lineOf (pkLocal p)] = none) {z : Nat} (hz : (if fld p 1 52 1 = 1 then 8 else 4) = z) (hfits : pkLocal p + z ≤ hbmSize) :
    let old := (s.commitLine (lineOf (pkLocal p))).sysRead (pkLocal p) z
    acts (.inboundAt p) s (fun u => onlyRegs s u [] ∧
      u.sysRead (pkLocal p) z = leBytes z (atomicResult (pkOp p) z (ofLe old) (leAt p 24 8) (leAt p 32 8)) ∧
      .packet (pkSrc p) (leBytes 8 (s.head0 pkDATA (pkSrc p) (pkGen p) 0 (pkTag p)) ++ leBytes 8 0 ++ leBytes 8 0 ++
        slice old 0 8) ∈ u.sent) := by
  intro old
  obtain ⟨hadmits, -, hawake⟩ := inboundGate_ok hgate
  have hline : pkLineAddrs p = [pkLocal p / 64 * 64] := if_pos htype
  have hheld : s.hostHeld (lineOf (pkLocal p)) = false := by
    have h := hfree _ (hline ▸ List.mem_cons_self)
    rwa [lineOf, Nat.mul_div_cancel _ (by decide)] at h
  obtain ⟨mt, haccess⟩ := inboundAccess_of_atomic htype hadmits hheld hblock
  have hin : s.inboundAt p = s.inboundAccess p := by
    unfold State.inboundAt
    rw [hgate]
  let c := ({ s with meter := mt } : State).commitLine (lineOf (pkLocal p))
  have hold : c.sysRead (pkLocal p) z = old := sysRead_of_hbm (hbm_commitLine (t := s) (u := { s with meter := mt }) rfl rfl _) _ _
  let new := leBytes z (atomicResult (pkOp p) z (ofLe old) (leAt p 24 8) (leAt p 32 8))
  have hatomic : ({ s with meter := mt } : State).inboundAtomic p = (old, c.put (pkLocal p) new) := by
    unfold State.inboundAtomic State.hbmAtomic
    rw [hz]
    show (c.sysRead (pkLocal p) z, _) = _
    rw [hold]
  rw [hatomic] at haccess
  have hregs : (c.put (pkLocal p) new).regs = s.regs := by
    rw [put_eq_putCells]
    exact (putCells_keeps State.regs (fun _ _ => rfl) _ c).trans (commitLine_keeps State.regs (fun _ _ => rfl) (fun _ _ => rfl) _ _)
  have hread : (c.put (pkLocal p) new).sysRead (pkLocal p) z = new := by
    have hput := sysRead_put c (a := pkLocal p) (bs := new) (by rw [length_leBytes]; exact hfits)
    rwa [length_leBytes] at hput
  generalize c.put (pkLocal p) new = t at haccess hregs hread
  have hrd (f : Field) (i : Nat) : t.rd f i = s.rd f i := by rw [State.rd, hregs, State.rd]
  refine ⟨_, congrArg s.after ((wakeFor_of_awake (hawake (by decide) rfl) p _).trans (hin.trans haccess)), fun f i _ => hrd f i, hread, ?_⟩
  have hhead : s.head0 pkDATA (pkSrc p) (pkGen p) 0 (pkTag p) = t.head0 pkDATA (pkSrc p) (pkGen p) 0 (pkTag p) := by
    rw [State.head0, State.head0, show t.self = s.self from hrd _ _]
  rw [hhead]
  exact List.mem_cons_self

/-- Settles O43 (R334 to R353). -/
theorem peerAnswersAndRequests : Obligations.PeerAnswersAndRequests := by
  refine ⟨⟨fun s p q => ⟨fun hans hplain n hkind hlen => ?_, fun hans hlen => ?_, fun hans hlen => ?_, fun hans hlen hplain => ?_⟩,
    fun s tag q hq => ?_, fun s tag q hq hslots => ?_, fun s k hrem hslots => ?_, fun s k n hn hst hslots => ?_⟩,
    fun s p b => ⟨fun hgate htype hfree => ?_, fun ctl hgate hdb hcells hcoh => ?_, fun ctl hgate hdb => ?_, fun hgate htype hfree hblock => ?_, fun hgate => ?_⟩,
    fun s p ctl ty i hi htype hen hready hadmits hawake huse hsig hdbs hfault => ?_⟩
  · have hdata (slag : Bool) : s.peerData p slag = if slag then (s.wr .HAP_ERR_RD_POISON 1).finishSlag q
        else s.finish q (slice (p.drop 24) (q.addr % 64) n) := by
      unfold State.peerData
      rw [hans]
      dsimp only
      rw [hkind]
      exact if_neg (not_not.2 hlen)
    obtain ⟨-, htier⟩ := tier_of_answering hans
    have hgood := (hdata false).trans (finish_of_plain hplain s _ [])
    have hslag := (hdata true).trans (finishSlag_of_plain hplain htier hkind _)
    refine ⟨⟨_, congrArg s.after hgood, sameMem_of_eq rfl rfl, fun _ _ _ => rfl, req_dropReq s _, List.mem_cons_self⟩,
      ⟨_, congrArg s.after hslag, sameMem_of_eq rfl rfl, ?_, req_dropReq _ _, List.mem_cons_self⟩⟩
    exact (rd_wr_ne _ _ (.inl (by decide))).trans (rd_wr_one s .HAP_ERR_RD_POISON 0)
  · have hack : s.peerAck p = match q.kind with
        | .write _ => s.ackWrite q
        | .sig _ _ _ _ => s.dropReq q.id
        | .bye => (s.dropReq q.id).setNode { s.node q.node with bye := false }
        | _ => s := by
      unfold State.peerAck
      rw [hans]
      dsimp only
      refine (if_neg (not_not.2 hlen)).trans ?_
      cases q.kind <;> rfl
    refine ⟨fun cells hkind hplain => ?_, fun op f i v hkind => ?_⟩
    · rw [hkind] at hack
      obtain ⟨hhbm, hwbuf, hregs, hgone⟩ := ackWrite_plain hplain s
      exact ⟨_, congrArg s.after hack, sameMem_of_eq hhbm hwbuf, fun f i _ => hregs f i, hgone⟩
    · rw [hkind] at hack
      exact ⟨_, congrArg s.after hack, sameMem_of_eq rfl rfl, fun _ _ _ => rfl, req_dropReq s _⟩
  · have hbusy : s.peerBusy p = s.modReq q.id (fun x => { x with busy := q.busy + 1, resend := some (s.time + 256 * 2 ^ min (q.busy + 1) 6) }) := by
      unfold State.peerBusy
      rw [hans]
      exact if_neg (not_not.2 hlen)
    obtain ⟨k, hk⟩ := req_modReq (tier_of_answering hans).1
      (f := fun x : Req => { x with busy := q.busy + 1, resend := some (s.time + 256 * 2 ^ min (q.busy + 1) 6) }) fun _ => rfl
    exact ⟨_, congrArg s.after hbusy, sameMem_of_eq rfl rfl, fun _ _ _ => rfl, _, hk, rfl, rfl⟩
  · have herr : s.peerErr p = match q.kind with
        | .read _ => (s.wr .HAP_ERR_RD_POISON 1).finishSlag q
        | .atomic _ _ _ _ => (s.wr .HAP_ERR_ATOMIC_ERR 1).finishSlag q
        | .write _ => ((s.wr .HAP_ERR_WR_ERR 1).bump .HAP_DROP_WR_ERRORS).ackWrite q
        | .sig _ _ _ _ => (s.wr .PEER_ERR_SIG_REFUSED 1).dropReq q.id
        | .bye => s := by
      unfold State.peerErr
      rw [hans]
      dsimp only
      refine (if_neg (not_not.2 hlen)).trans ?_
      cases q.kind <;> rfl
    obtain ⟨-, htier⟩ := tier_of_answering hans
    refine ⟨fun n hkind => ?_, fun cells hkind => ?_, fun op f i v hkind => ?_⟩
    · have hslag := finishSlag_of_plain hplain htier hkind (s.wr .HAP_ERR_RD_POISON 1)
      rw [hkind] at herr
      exact ⟨_, congrArg s.after (herr.trans hslag), (rd_wr_ne _ _ (.inl (by decide))).trans (rd_wr_one s .HAP_ERR_RD_POISON 0), req_dropReq _ _, List.mem_cons_self⟩
    · rw [hkind] at herr
      obtain ⟨hhbm, hwbuf, hregs, hgone⟩ := ackWrite_plain hplain ((s.wr .HAP_ERR_WR_ERR 1).bump .HAP_DROP_WR_ERRORS)
      refine ⟨_, congrArg s.after herr, sameMem_of_eq hhbm hwbuf, ?_, ?_, hgone⟩
      · rw [hregs, rd_bump_ne _ _ (.inl (by decide)), rd_wr_one]
      · rw [State.counts, hregs, rd_bump_same, rd_wr_ne _ _ (.inl (by decide))]
    · rw [hkind] at herr
      exact ⟨_, congrArg s.after herr, sameMem_of_eq rfl rfl, rd_wr_one s .PEER_ERR_SIG_REFUSED 0, req_dropReq _ _⟩
  · have hin := (List.mem_filter.1 (List.mem_of_find?_eq_some hq)).1
    let t0 := s.elapse (q.resend.getD 0)
    let t := (t0.modReq q.id (fun x => { x with resend := none, sentAt := t0.time })).bump .PEER_STATS_RETRIES
    obtain ⟨bytes, hsend⟩ := sendReq_packet t q
    have hresend : s.peerResend tag = t.say (.packet q.node bytes) := by
      unfold State.peerResend
      rw [hq]
      exact hsend
    obtain ⟨k, hk⟩ := req_modReq (t := t0) hin (f := fun x : Req => { x with resend := none, sentAt := t0.time }) fun _ => rfl
    exact ⟨_, congrArg s.after hresend, sameMem_of_eq rfl rfl, rfl, rd_bump_same _ _ _ _, ⟨bytes, List.mem_cons_self⟩, _, hk, rfl, rfl⟩
  · have htimeout : s.peerTimeout tag = ((s.elapse (q.sentAt + 2000000)).wr .PEER_ERR_NODE_TIMEOUT 1).removeNode q.node 4 := by
      unfold State.peerTimeout
      rw [hq]
    obtain ⟨htime, hstate, hcause, -, hout, -, hregs⟩ :=
      removeNode_leaves (s := (s.elapse (q.sentAt + 2000000)).wr .PEER_ERR_NODE_TIMEOUT 1) (n := q.node) (cause := 4) hslots (by decide)
    have htime : _ = max s.time (q.sentAt + 2000000) := htime
    refine ⟨_, congrArg s.after htimeout, htime ▸ Nat.le_max_left _ _, htime ▸ Nat.le_max_right _ _, ?_, hstate, hcause, hout⟩
    exact (hregs _ 0 (by decide) (by decide) (by decide) (by decide)).trans (rd_wr_one _ _ _)
  · have hlost : s.pathLost k = s.removeNode k 3 := if_pos hrem
    obtain ⟨-, hstate, hcause, herr, hout, hpend, -⟩ := removeNode_leaves (s := s) (n := k) (cause := 3) hslots (by decide)
    exact ⟨_, congrArg s.after hlost, herr, hstate, hcause, hout, hpend⟩
  · have hremov : s.removable k = false := by
      unfold State.removable
      rw [hst]
      rfl
    have hfail : s.pathLost k = s.attachFail k := (if_neg (by rw [hremov]; decide)).trans (if_pos (by rw [hst]; rfl))
    let t := ((s.wr .PEER_ERR_ATTACH_FAIL 1).wr .PEER_NODE_STATE ndFREE k).wr .PEER_NODE_GEN (s.node k).oldGen k
    have ht : s.attachFail k = ({ t with nodes := t.nodes.filter (fun y => y.num != k) } : State).replyAll [n] stTIMEOUT := by
      rw [← hslots]
      rfl
    have hrd {f : Field} (hf : f ∉ replyNames) (i : Nat) : (s.attachFail k).rd f i = t.rd f i := by
      rw [ht, rd_replyAll i (not_mem_replyFields hf i)]
      rfl
    refine ⟨_, congrArg s.after hfail, ?_, ?_, ?_, ?_, ?_⟩
    · rw [ht, sameMem_replyAll]
      exact sameMem_of_eq rfl rfl
    · rw [State.ndState, hrd (by decide), rd_wr_ne _ _ (.inl (by decide)), rd_wr_same]
      rfl
    · rw [State.ndGen, hrd (by decide), rd_wr_same]
    · rw [hrd (by decide), rd_wr_ne _ _ (.inl (by decide)), rd_wr_ne _ _ (.inl (by decide)), rd_wr_one]
    · rw [ht]
      exact replied_replyAll hn (by decide) [] (.inl List.mem_cons_self)
  · obtain ⟨hadmits, -, hawake⟩ := inboundGate_ok hgate
    have hin : s.inboundRd p = s.inboundAccess p := by
      unfold State.inboundRd
      rw [hgate]
    obtain ⟨mt, hread⟩ := inboundAccess_of_read htype hadmits hfree
    have hexec := congrArg s.after ((wakeFor_of_awake (hawake (by decide) rfl) p _).trans (hin.trans hread))
    exact ⟨_, hexec, sameMem_of_eq rfl rfl, fun _ _ _ => rfl, List.mem_cons_self⟩
  · obtain ⟨hadmits, -, hawake⟩ := inboundGate_ok hgate
    obtain ⟨mt, hmt⟩ := countInbound_eq s p
    let st : BufStore := { id := s.nextId, ctl := ctl, cells := pkCells p, ctx := 512, root := none, purpose := .inbound (pkSrc p) (pkTag p) (pkGen p) }
    let t : State := { s with meter := mt, nextId := s.nextId + 1, wbuf := s.wbuf ++ [st] }
    have haccept : ({ s with meter := mt, nextId := s.nextId + 1 } : State).acceptStore st = t :=
      if_neg (by rw [show (linesOf st.cells).any ({ s with meter := mt, nextId := s.nextId + 1 } : State).coherentLine = false from hcoh]; decide)
    have hwrite : s.inboundWr p ctl = t := by
      unfold State.inboundWr
      rw [hgate]
      dsimp only
      rw [hdb, if_neg (by decide), hmt, if_neg (by rw [List.isEmpty_eq_false_iff.2 hcells]; decide)]
      dsimp only [State.newId]
      refine (if_neg ?_).trans haccept
      rw [hcoh]
      exact Bool.false_ne_true
    have hexec := congrArg s.after ((wakeFor_of_awake (hawake (by decide) (by rw [hdb]; rfl)) p _).trans hwrite)
    exact ⟨t, hexec, fun _ _ _ => rfl, fun _ => rfl, st, rfl, rfl, rfl, rfl⟩
  · intro q f v hlines hmasked halign hmask hgen hawake hfirst hlast
    obtain ⟨-, -, hawake'⟩ := inboundGate_ok hgate
    have hform : dbForm p = true := by
      unfold dbForm
      rw [hlines, hmasked, halign, hmask]
      simp
    have hqueue : s.boundQueue b q = true := Bool.and_eq_true_iff.2 ⟨decide_eq_true hfirst, decide_eq_true hlast⟩
    exact inboundWr_rings hgate hdb (q := q) (dbQueue.eq_1 p) hform hgen hqueue hawake
  · intro z old hfits
    exact inboundAt_performs htype hfree hgate hblock rfl hfits
  · intro f i
    have htake : s.inboundSig p = if s.rd .FL_TCOUNT_M1 f < i then s.takeSigBuf.refuse p 3 b
        else (s.takeSigBuf.tlApply (s.rd .FL_TFIRST f + i) (pkOp p) (pkValue p)).answerPkt p pkACK := by
      unfold State.inboundSig
      rw [hgate]
      rfl
    refine ⟨fun hin => ?_, fun hout => ?_⟩
    · obtain ⟨mt, happly⟩ := tlApply_eq s.takeSigBuf (s.rd .FL_TFIRST f + i) (pkOp p) (pkValue p)
      have hsig := htake.trans ((if_neg (not_lt.2 hin)).trans (congrArg (fun t => State.answerPkt t p pkACK) happly))
      refine ⟨_, congrArg s.after hsig, sameMem_of_eq rfl rfl, ?_, ?_, _, List.mem_cons_self, pkType_packetBytes (by decide) _ _ _ _ _ _ _ _⟩
      · exact (rd_wr_same s.takeSigBuf .TL_COUNTER _ _).trans (Nat.mod_mod _ _)
      · exact onlyRegs_wr (fun _ _ _ => rfl) List.mem_cons_self _
    · have hsig := htake.trans (if_pos hout)
      obtain ⟨hmem, hcount, hdenied, htl, -⟩ := refuse_leaves s.takeSigBuf p (code := 3) (by decide) b
      exact ⟨_, congrArg s.after hsig, sameMem_trans (sameMem_of_eq rfl rfl) hmem, hcount, hdenied, htl⟩
  · have hgate := inboundGate_refused hready htype hadmits hawake huse hsig hdbs hfault
    obtain ⟨hmem, hcount, hdenied, -, bytes, hsent, hpk, hcode⟩ := refuse_leaves s p (inboundFault_lt s p) (s.inboundFault p).2
    have hexec : exec i s = s.after (s.refuse p (s.inboundFault p).1 (s.inboundFault p).2) := by
      simp only [List.mem_cons, List.not_mem_nil, or_false, Prod.mk.injEq] at hi
      rcases hi with ⟨rfl, rfl⟩ | ⟨rfl, rfl⟩ | ⟨rfl, rfl⟩ | ⟨rfl, rfl⟩
      · refine congrArg s.after ((wakeFor_of_awake hawake p _).trans ?_)
        unfold State.inboundRd
        rw [hgate]
      · refine congrArg s.after ((wakeFor_of_awake hawake p _).trans ?_)
        unfold State.inboundWr
        rw [hgate]
      · refine congrArg s.after ((wakeFor_of_awake hawake p _).trans ?_)
        unfold State.inboundAt
        rw [hgate]
      · refine congrArg s.after ?_
        unfold State.inboundSig
        rw [hgate]
    exact ⟨_, hexec, hmem, hcount, hdenied, bytes, hsent, hpk, hcode⟩

end Sys2Proof.Laws

/-! # Requests to host, peers and HBM

What the host access path makes of a request, how a held request leaves, and what its data bring (R255 to R270). -/
namespace Sys2Proof.Laws

open Sys2Proof.Machine

/-! ## Requests that are accepted (R256, R257) -/

section
variable {s : State} {who : Requester} {c tier node addr va : Nat} {kind : ReqKind} {x : Ctx}

/-- The operands that a request carries from its requester. -/
theorem reqOf_given (hx : s.ctx? c = some x) : let q := s.reqOf who c tier node addr va kind
    q.who = who ∧ q.ctx = c ∧ q.tier = tier ∧ q.node = node ∧ q.addr = addr ∧ q.kind = kind ∧ q.flask = x.flask ∧ q.purpose = .plain ∧
      q.issued = false ∧ q.fin = none := by
  intro q
  simp only [q, State.reqOf, hx, and_self]

/-- An engine's request to HBM goes past the path, and no other does. -/
theorem direct_iff {r : Req} : r.direct = true ↔ r.tier = 0 ∧ ∃ e, r.who = .engine e := by
  unfold Req.direct
  cases hw : r.who <;> simp

theorem indirect_reqOf (hx : s.ctx? c = some x) (h : ¬ (tier = 0 ∧ ∃ e, who = .engine e)) : (s.reqOf who c tier node addr va kind).direct = false := by
  obtain ⟨hwho, -, htier, -⟩ := reqOf_given (who := who) (tier := tier) (node := node) (addr := addr) (va := va) (kind := kind) hx
  refine Bool.eq_false_iff.2 fun hd => h ?_
  obtain ⟨h0, e, he⟩ := direct_iff.1 hd
  exact ⟨htier.symm.trans h0, e, hwho.symm.trans he⟩

/-- The line reads of a request take identifiers alone. -/
theorem partsOf_eq (s : State) (r : Req) : ∃ ps k, s.partsOf r = (ps, { s with nextId := k }) := by
  have hfold (l : List Nat) (ps : List Part) (t : State) : ∃ ps' k, l.foldl (fun (p : List Part × State) i =>
      let (id, t) := p.2.newId
      (p.1 ++ [{ id := id, addr := r.addr + 64 * i, len := 64 }], t)) (ps, t) = (ps', { t with nextId := k }) := by
    induction l generalizing ps t with
    | nil => exact ⟨ps, t.nextId, rfl⟩
    | cons i l ih =>
      obtain ⟨ps', k, h⟩ := ih (ps ++ [{ id := t.nextId, addr := r.addr + 64 * i, len := 64 }]) { t with nextId := t.nextId + 1 }
      exact ⟨ps', k, h⟩
  unfold State.partsOf
  split
  · split
    · exact ⟨[], s.nextId, rfl⟩
    · exact hfold _ [] s
  · exact ⟨[], s.nextId, rfl⟩

/-- A read or atomic for which there is a tag is held under the next identifier. -/
theorem acceptTagged_holds {r : Req} (hroom : s.tagRoom r.who (r.tier == 2) = true) (hhere : r.tier = 1 → s.headless = false) :
    ∃ ps k, s.acceptTagged r = some (s.nextId, { s with nextId := k, reqs := s.reqs ++ [{ r with id := s.nextId, ord := s.nextId, parts := ps }] }) := by
  unfold State.acceptTagged
  rw [if_neg (by rw [hroom]; decide)]
  dsimp only [State.newId]
  obtain ⟨ps, k, hparts⟩ : ∃ ps k, (if r.tier == 1 then ({ s with nextId := s.nextId + 1 } : State).partsOf r else ([], { s with nextId := s.nextId + 1 })) =
      (ps, { s with nextId := k }) := by
    split
    · exact partsOf_eq { s with nextId := s.nextId + 1 } r
    · exact ⟨[], s.nextId + 1, rfl⟩
  rw [hparts]
  refine ⟨ps, k, congrArg (fun t => some (s.nextId, t)) (if_neg ?_)⟩
  rw [Bool.and_eq_true, beq_iff_eq]
  rintro ⟨htier, hlost⟩
  exact absurd ((hhere htier).symm.trans hlost) (by decide)

/-- A write for which there is an entry is held, a line or a packet at a time. -/
theorem acceptWrite_holds {r : Req} (hroom : s.entryRoom r.who = true) (hhere : r.tier = 1 → s.headless = false) (cells : List (Nat × Byte)) :
    ∃ ids k ws, s.acceptWrite r cells = some (ids, { s with nextId := k, reqs := s.reqs ++ ws }) ∧
      ∀ p ∈ cells, ∃ w ∈ ws, ∃ cs, w.kind = .write cs ∧ p ∈ cs ∧ w.who = r.who ∧ w.ctx = r.ctx ∧ w.tier = r.tier ∧ w.issued = r.issued := by
  let parts : List (List (Nat × Byte)) := if r.tier = 2 then [cells] else (linesOf cells).map (fun l => cells.filter (fun c => lineOf c.1 == l))
  have hparts : ∀ p ∈ cells, ∃ cs ∈ parts, p ∈ cs := by
    intro p hp
    unfold parts
    split
    · exact ⟨cells, List.mem_singleton_self cells, hp⟩
    · exact ⟨_, List.mem_map_of_mem (mem_linesOf.2 ⟨p, hp, rfl⟩), List.mem_filter.2 ⟨hp, beq_self_eq_true _⟩⟩
  have hfold (e : Nat) (l : List (List (Nat × Byte))) (ids : List Nat) (t : State) : ∃ ids' k ws,
      l.foldl (fun (p : List Nat × State) cs =>
        let (id, t) := p.2.newId
        let w := { r with id := id, entry := e, ord := if r.ord = 0 then e else r.ord, lead := p.1.isEmpty,
                          addr := (cs.head?.map Prod.fst).getD r.addr, kind := .write cs }
        (p.1 ++ [id], { t with reqs := t.reqs ++ [w] })) (ids, t) = (ids', { t with nextId := k, reqs := t.reqs ++ ws }) ∧
      ∀ cs ∈ l, ∃ w ∈ ws, w.kind = .write cs ∧ w.who = r.who ∧ w.ctx = r.ctx ∧ w.tier = r.tier ∧ w.issued = r.issued := by
    induction l generalizing ids t with
    | nil => exact ⟨ids, t.nextId, [], by simp, fun cs h => absurd h List.not_mem_nil⟩
    | cons cs l ih =>
      let w : Req := { r with id := t.nextId, entry := e, ord := if r.ord = 0 then e else r.ord, lead := ids.isEmpty,
                              addr := (cs.head?.map Prod.fst).getD r.addr, kind := .write cs }
      obtain ⟨ids', k, ws, h, hws⟩ := ih (ids ++ [t.nextId]) { t with nextId := t.nextId + 1, reqs := t.reqs ++ [w] }
      refine ⟨ids', k, w :: ws, h.trans ?_, fun cs' hcs => ?_⟩
      · simp
      · rcases List.mem_cons.1 hcs with rfl | hcs
        · exact ⟨w, List.mem_cons_self, rfl, rfl, rfl, rfl, rfl⟩
        · obtain ⟨v, hv, hall⟩ := hws cs' hcs
          exact ⟨v, List.mem_cons_of_mem _ hv, hall⟩
  obtain ⟨ids, k, ws, h, hws⟩ := hfold s.nextId parts [] { s with nextId := s.nextId + 1 }
  refine ⟨ids, k, ws, ?_, fun p hp => ?_⟩
  · unfold State.acceptWrite
    refine (if_neg ?_).trans ((if_neg (by rw [hroom]; decide)).trans (congrArg some h))
    rw [Bool.and_eq_true, beq_iff_eq]
    rintro ⟨htier, hlost⟩
    rw [hhere htier] at hlost
    exact absurd hlost (by decide)
  · obtain ⟨cs, hcs, hmem⟩ := hparts p hp
    obtain ⟨w, hw, hkind, hall⟩ := hws cs hcs
    exact ⟨w, hw, cs, hkind, hmem, hall⟩

end

/-! ## Requests that leave (R259, R262) -/

section
variable {s : State} {id : Nat} {q : Req}

/-- A request that is replaced. -/
theorem req_modReq_const (hq : s.req? id = some q) {r : Req} (hr : r.id = id) : (s.modReq id fun _ => r).req? id = some r := by
  have hsame : updAll s.reqs (fun x => x.id == id) (fun _ => r) = updAll s.reqs (fun x => x.id == id) (fun x => if x.id == id then r else x) :=
    List.map_congr_left fun x _ => by
      split
      · rename_i h
        exact (if_pos h).symm
      · rfl
  show (updAll s.reqs (fun x => x.id == id) fun _ => r).find? (fun x => x.id == id) = some r
  rw [hsame, find_updAll hq fun x => ?_]
  · rw [if_pos (beq_iff_eq.2 (req_id hq))]
  · by_cases hx : x.id = id
    · rw [if_pos (beq_iff_eq.2 hx), hx, hr]
    · rw [if_neg (by simpa using hx)]

/-- A request that is looked up after a change of it. -/
theorem req_modReq_of (hq : s.req? id = some q) {f : Req → Req} (hf : ∀ r, (f r).id = r.id) : (s.modReq id f).req? id = some (f q) :=
  find_updAll (p := fun r : Req => r.id == id) hq fun r => by rw [hf]

theorem req_sent (hq : s.req? id = some q) : (s.sent! q).req? id = some { q with issued := true, sentAt := s.time } := by
  obtain rfl := req_id hq
  exact req_modReq_of hq (f := fun x => { x with issued := true, sentAt := s.time }) fun _ => rfl

/-- A held request to which nothing stands in the way leaves for its home. -/
theorem hapIssue_of_held (hq : s.req? id = some q) (hissued : q.issued = false) (hfin : q.fin = none) (hbusy : s.lineBusy q = false) :
    s.hapIssue id = match q.tier with | 0 => s.issueHbm q | 1 => s.issueHost q | _ => s.issuePeer q := by
  unfold State.hapIssue
  rw [hq]
  exact if_neg (by simp [hissued, hfin, hbusy])

/-- The counts of a request's lines change no register but the statistics. -/
theorem countLines_eq (t : State) (r : Req) : ∃ mt, t.countLines r = match r.kind with
    | .write _ => ({ t with meter := mt } : State).adv .HAP_STATS_WRITES 0 r.lines.length
    | .read _ => ({ t with meter := mt } : State).adv .HAP_STATS_READS 0 r.lines.length
    | _ => { t with meter := mt } := by
  obtain ⟨mt, hmt⟩ := count_eq t r.ctx 8 r.size
  refine ⟨mt, ?_⟩
  unfold State.countLines
  dsimp only
  rw [hmt] <;> cases r.kind <;> rfl

theorem countLines_keeps {β : Type} {p : State → β} (hmeter : ∀ (t : State) m, p { t with meter := m } = p t)
    (hwr : ∀ (t : State) f v i, f = .HAP_STATS_WRITES ∨ f = .HAP_STATS_READS → p (t.wr f v i) = p t) (t : State) (r : Req) : p (t.countLines r) = p t := by
  obtain ⟨mt, hmt⟩ := countLines_eq t r
  rw [hmt]
  cases r.kind
  · exact (hwr _ _ _ _ (.inr rfl)).trans (hmeter t mt)
  · exact (hwr _ _ _ _ (.inl rfl)).trans (hmeter t mt)
  · exact hmeter t mt
  · exact hmeter t mt
  · exact hmeter t mt

/-- With no counter armed nothing is compared. -/
theorem noteHot_of_unarmed {t : State} (h : t.listed .TIER_HOT_VALID = []) (r : Req) : t.noteHot r = t := by
  have hcount (a : Nat) : t.countHot a = t := by rw [State.countHot, h]; rfl
  unfold State.noteHot
  split
  · rfl
  · split
    · exact hcount _
    · rfl

/-- A request of one line that may go out onto ZCI, with no counter armed. -/
theorem issueHost_of_free (hq : s.req? id = some q) (hparts : q.parts = []) (hmay : s.mayIssueHost q.isWrite = true)
    (hack : q.isWrite = true → s.ackTable < 16384) (hhot : s.listed .TIER_HOT_VALID = []) : ∃ t : State, sameMem s t ∧
      (∃ r, t.req? id = some r ∧ r.issued = true ∧ r.sentAt = s.time ∧ r.kind = q.kind) ∧
      t.hlp.pCred = (if q.isWrite then s.hlp.pCred - 1 else s.hlp.pCred) ∧ t.hlp.npCred = (if q.isWrite then s.hlp.npCred else s.hlp.npCred - 1) ∧
      s.issueHost q = match q.kind with
        | .write cells => t.say (.hostWrite q.id q.addr cells)
        | .read n => t.say (.hostRead q.id q.addr n)
        | .atomic c z o k => t.say (.hostAtomic q.id q.addr c z o k)
        | _ => t := by
  let u : State := (s.sent! q).useCredit q.isWrite
  let t : State := u.countLines q
  have hkeep {β : Type} {p : State → β} (hmeter : ∀ (t : State) m, p { t with meter := m } = p t)
      (hwr : ∀ (t : State) f v i, f = .HAP_STATS_WRITES ∨ f = .HAP_STATS_READS → p (t.wr f v i) = p t) : p t = p u := countLines_keeps hmeter hwr u q
  have hplain {β : Type} {p : State → β} (hmeter : ∀ (t : State) m, p { t with meter := m } = p t) (hwr : ∀ (t : State) f v i, p (t.wr f v i) = p t) : p t = p u :=
    hkeep hmeter fun t f v i _ => hwr t f v i
  have hcredit {β : Type} {p : State → β} (hhlp : ∀ (t : State) h, p { t with hlp := h } = p t) : p u = p (s.sent! q) := by
    show p ((s.sent! q).useCredit q.isWrite) = _
    unfold State.useCredit
    split <;> exact hhlp _ _
  have hlisted : t.listed .TIER_HOT_VALID = [] := by
    rw [hkeep (p := fun t : State => t.listed .TIER_HOT_VALID) (fun _ _ => rfl) fun t f v i hf => ?_, hcredit (p := fun t : State => t.listed .TIER_HOT_VALID) fun _ _ => rfl]
    · exact hhot
    · rcases hf with rfl | rfl
      · exact listed_wr_ne t (by decide) _ _
      · exact listed_wr_ne t (by decide) _ _
  refine ⟨t, ?_, ?_, ?_, ?_, ?_⟩
  · refine sameMem_of_eq ?_ ?_
    · exact (hplain (p := State.hbm) (fun _ _ => rfl) fun _ _ _ _ => rfl).trans (hcredit (p := State.hbm) fun _ _ => rfl)
    · exact (hplain (p := State.wbuf) (fun _ _ => rfl) fun _ _ _ _ => rfl).trans (hcredit (p := State.wbuf) fun _ _ => rfl)
  · refine ⟨{ q with issued := true, sentAt := s.time }, ?_, rfl, rfl, rfl⟩
    rw [hplain (p := fun t : State => t.req? id) (fun _ _ => rfl) fun _ _ _ _ => rfl, hcredit (p := fun t : State => t.req? id) fun _ _ => rfl]
    exact req_sent hq
  · rw [hplain (p := fun t : State => t.hlp.pCred) (fun _ _ => rfl) fun _ _ _ _ => rfl]
    unfold u State.useCredit
    split <;> rfl
  · rw [hplain (p := fun t : State => t.hlp.npCred) (fun _ _ => rfl) fun _ _ _ _ => rfl]
    unfold u State.useCredit
    split <;> rfl
  · unfold State.issueHost
    refine (if_neg ?_).trans ((if_neg (by rw [hparts]; decide)).trans ?_)
    · rw [hmay]
      simp only [Bool.not_true, Bool.false_or, Bool.and_eq_true, decide_eq_true_eq, not_and, Nat.not_le]
      exact hack
    · rw [show (((s.sent! q).useCredit q.isWrite).countLines q).noteHot q = t from noteHot_of_unarmed hlisted q] <;> rfl

/-- A read or atomic that no host copy holds up goes to its controller. -/
theorem loadGo_of_free {t : State} (hq : t.req? id = some q) (hhome : t.homeHolds q = none) : t.loadGo id = t.say (.hbmRead id q.addr q.kind.bytes) := by
  unfold State.loadGo
  rw [hq]
  dsimp only
  rw [hhome]

/-- The packet of a read is one of its type. -/
theorem sendReq_of_read (t : State) {n : Nat} (hkind : q.kind = .read n) : ∃ bytes, t.sendReq q = t.say (.packet q.node bytes) ∧ pkType bytes = pkRD := by
  unfold State.sendReq
  rw [hkind]
  exact ⟨_, rfl, pkType_packetBytes (by decide) t _ _ _ _ _ _ _⟩

end

/-! ## Responses (R257, R269, R484) -/

section
variable {s : State} {id : Nat} {q : Req}

theorem finishSlag_plain (hplain : q.purpose = .plain) (t : State) : t.finishSlag q =
    (((if q.tier = 0 then t else t.bump .POISON_RD)).dropReq q.id).say (.readData q.id (slagBytes q.kind.bytes) true) := by
  have hsome : (!(List.range q.kind.lineCount).isEmpty) = true := by
    have hpos : 0 < q.kind.lineCount := Nat.lt_of_lt_of_le Nat.one_pos (Nat.le_max_left 1 _)
    cases hc : q.kind.lineCount with
    | zero => omega
    | succ k => simp
  unfold State.finishSlag
  rw [finish_of_plain hplain, hsome]

/-- A bad return marks at least one line. -/
theorem badLines_ne_nil {bad : Ret} (h : (∃ l, bad = .poison l) ∨ bad = .error) (k : ReqKind) : (badLines bad k.lineCount).isEmpty = false := by
  have hpos : 0 < k.lineCount := Nat.lt_of_lt_of_le Nat.one_pos (Nat.le_max_left 1 _)
  rcases h with ⟨l, rfl⟩ | rfl
  · unfold badLines
    dsimp only
    split
    · rfl
    · rename_i hne
      exact Bool.eq_false_iff.2 hne
  · show (List.range k.lineCount).isEmpty = false
    cases hc : k.lineCount with
    | zero => omega
    | succ k => rw [List.range_succ]; simp

/-- The bytes of the lines marked bad are the slag pattern. -/
theorem nth_slagIn {bs : List Byte} {bad : List Nat} {i : Nat} (hi : i < bs.length) (hbad : bad.contains (i / 64) = true) : nth (slagIn bs bad) i 0 = 0xFF := by
  rw [nth, slagIn, List.getD_eq_getElem?_getD, List.getElem?_map, List.getElem?_range hi]
  show (if bad.contains (i / 64) then (0xFF : Byte) else nth bs i 0) = 0xFF
  rw [if_pos hbad]

/-- The return of a request of one piece that no unit of this chip holds up. -/
theorem hapResponse_of_ready (hq : s.req? id = some q) (hissued : q.issued = true) (htagged : q.tagged = true) (htier : q.tier ≠ 2)
    (hwaits : s.hlp.waits = []) (hparts : q.parts = []) (hhome : q.tier = 0 → s.homeHolds q = none) (d : List Byte) :
    s.hapResponse id (.ok d) = if q.tier = 1 then s.finish q (slice d 0 q.kind.bytes)
      else match q.kind with
        | .atomic c z o k => (s.hbmAtomic q.addr c z o k).2.finish q (s.hbmAtomic q.addr c z o k).1
        | .read n => s.finish q (s.dieRead q.addr n)
        | _ => s := by
  unfold State.hapResponse
  rw [hq]
  refine (if_neg ?_).trans ((if_neg ?_).trans rfl)
  · rw [hissued, htagged, hparts, hwaits]
    simpa using htier
  · rw [Bool.and_eq_true, beq_iff_eq]
    rintro ⟨h0, hheld⟩
    rw [hhome h0] at hheld
    exact absurd hheld (by decide)

/-- A read of HBM that comes back bad is reported. -/
def readReported (s : State) (q : Req) (bad : Ret) : State :=
  (s.wr .HAP_ERR_RD_POISON 1).hbmUe (q.addr + 64 * (badLines bad q.kind.lineCount).headD 0) q.ueUnit.1 0 q.ueUnit.2 q.flask ((q.root.map PourId.word).getD 0)

/-- A read that comes back bad: one from HBM is reported with its line, and any other is slag. -/
theorem hapResponse_of_bad {bad : Ret} {n : Nat} (hq : s.req? id = some q) (hissued : q.issued = true) (htagged : q.tagged = true) (htier : q.tier ≠ 2)
    (hwaits : s.hlp.waits = []) (hparts : q.parts = []) (hhome : q.tier = 0 → s.homeHolds q = none) (hkind : q.kind = .read n)
    (hplain : q.purpose = .plain) (hdirect : q.direct = false) (hbad : (∃ l, bad = .poison l) ∨ bad = .error) :
    (q.tier ≠ 0 → s.hapResponse id bad = (s.wr .HAP_ERR_RD_POISON 1).finishSlag q) ∧
    (q.tier = 0 → s.hapResponse id bad = (readReported s q bad).finish q (slagIn ((readReported s q bad).dieRead q.addr n) (badLines bad q.kind.lineCount))
      (badLines bad q.kind.lineCount)) := by
  have hgate : ¬ (!(q.issued && q.tagged && q.tier != 2) || !q.parts.isEmpty || s.hlp.waits.any (fun w => w.act == .load id)) = true := by
    rw [hissued, htagged, hparts, hwaits]
    simpa using htier
  have hfree : ¬ (q.tier == 0 && (s.homeHolds q).isSome) = true := by
    rw [Bool.and_eq_true, beq_iff_eq]
    rintro ⟨h0, hheld⟩
    rw [hhome h0] at hheld
    exact absurd hheld (by decide)
  have hslag : ¬ q.direct = true := Bool.eq_false_iff.1 hdirect
  refine ⟨fun h0 => ?_, fun h0 => ?_⟩
  · obtain ⟨k, hk⟩ := Nat.exists_eq_succ_of_ne_zero h0
    unfold State.hapResponse
    rw [hq]
    refine (if_neg hgate).trans ((if_neg hfree).trans ?_)
    rcases hbad with ⟨l, rfl⟩ | rfl
    all_goals
      refine (if_neg hslag).trans ?_
      rw [hk, hkind]
      rfl
  · unfold State.hapResponse
    rw [hq]
    refine (if_neg hgate).trans ((if_neg hfree).trans ?_)
    rcases hbad with ⟨l, rfl⟩ | rfl
    all_goals
      refine (if_neg hslag).trans ?_
      rw [readReported, h0, hkind, hplain]
      rfl

end

end Sys2Proof.Laws

/-! # Stores and fences on HBM, and the commands of the host access path

What a controller's acceptance, commit and marker do (R307 to R313), and the settlement of the requests' statement. -/
namespace Sys2Proof.Laws

open Sys2Proof.Machine

/-! ## Stores (R308, R309) -/

section
variable {s : State} {c ctl id : Nat} {x : Ctx} {cells : List (Nat × Byte)}

/-- What the die port sees behind one more accepted store. -/
theorem lastStored_append (l : List BufStore) (st : BufStore) (a : Nat) :
    lastStored (l ++ [st]) a = ((st.cells.find? (fun p => p.1 == a)).map Prod.snd).or (lastStored l a) := by
  unfold lastStored
  rw [List.foldl_append, List.foldl_cons, List.foldl_nil]
  split
  · rename_i p hp
    rw [hp]
    rfl
  · rename_i hp
    rw [hp]
    rfl

/-- An acceptance of bytes that lie in HBM. -/
theorem acceptArm (hin : ∀ p ∈ cells, p.1 < hbmSize) : exec (.hbmWriteAccept ctl (.engine c cells)) s = s.after (s.hbmAcceptEngine ctl c cells) := by
  refine if_neg ?_
  rw [List.any_eq_true]
  rintro ⟨p, hp, hout⟩
  exact absurd (hin p hp) (Nat.not_lt.2 (of_decide_eq_true hout))

/-- A store that an engine's controller accepts stands under the next identifier. -/
theorem hbmAcceptEngine_eq (hx : s.ctx? c = some x) : ∃ st : BufStore, st.id = s.nextId ∧ st.ctl = ctl ∧ st.cells = cells ∧ st.ctx = c ∧ st.purpose = .plain ∧
    s.hbmAcceptEngine ctl c cells = ({ s with nextId := s.nextId + 1 } : State).acceptStore st := by
  obtain ⟨g, sheet, hg⟩ : ∃ g sheet, ({ s with nextId := s.nextId + 1 } : State).storeGrant c (fun l => l.tier == 0 &&
      decide (l.pa % 2 ^ 44 ≤ (cells.head?.map Prod.fst).getD 0 ∧ (cells.head?.map Prod.fst).getD 0 < l.pa % 2 ^ 44 + l.size)) = (g, sheet) := ⟨_, _, rfl⟩
  unfold State.hbmAcceptEngine
  rw [hx]
  dsimp only [State.newId]
  rw [hg]
  exact ⟨_, rfl, rfl, rfl, rfl, rfl, rfl⟩

/-- The bytes of cells that name each byte once. -/
theorem sysByte_putCells_mem (hnodup : (cells.map Prod.fst).Nodup) (t : State) {p : Nat × Byte} (hp : p ∈ cells) (hin : p.1 < hbmSize) :
    (t.putCells cells).sysByte p.1 = p.2 := by
  refine sysByte_putCells_of_agree hin (fun d hd hdp => ?_) t (.inl ⟨p, hp, rfl⟩)
  rw [List.inj_on_of_nodup_map hnodup hd hp hdp]

/-- A plain store of a coherent window that nothing holds up is committed at once. -/
theorem acceptStore_coherent {st : BufStore} (hcoh : (linesOf st.cells).any s.coherentLine = true) (hfree : s.storeBlock (linesOf st.cells) = none)
    (hplain : st.purpose = .plain) : s.acceptStore st = s.overPut st.cells := by
  unfold State.acceptStore State.homeStore
  rw [if_pos hcoh, hfree, hplain]
  rfl

/-- A plain store that is the oldest of its lines is committed. -/
theorem hbmCommit_of_oldest {st : BufStore} (hfind : s.wbuf.find? (fun st => st.id == id) = some st) (hmay : s.mayCommit st = true) (hplain : st.purpose = .plain) :
    s.hbmCommit id = ({ s with wbuf := s.wbuf.filter (fun x => x.id != st.id) } : State).putCells st.cells := by
  unfold State.hbmCommit
  rw [hfind]
  dsimp only
  rw [if_neg (by rw [hmay]; decide), hplain, State.commitStore, hplain]
  rfl

end

/-! ## Requests of a permitted requester (R256 to R258) -/

section
variable {s : State} {who : Requester} {c va tier node addr : Nat} {x : Ctx}

theorem permitted (hlegal : who.legal tier = true) (hx : s.ctx? c = some x) : ¬ (!(who.legal tier && (s.ctx? c).isSome)) = true := by
  rw [hlegal, hx]
  exact Bool.false_ne_true

/-- A held request carries its operands. -/
theorem acts_of_tagged {i : Instr} {kind : ReqKind} (hx : s.ctx? c = some x) {t : State}
    (hexec : exec i s = s.after (match s.acceptTagged (s.reqOf who c tier node addr va kind) with | some (_, t) => t | none => t))
    (hroom : s.tagRoom who (tier == 2) = true) (hhere : tier = 1 → s.headless = false) : acts i s (fun u => sameMem s u ∧ onlyRegs s u [] ∧
      ∃ q, u.reqs = s.reqs ++ [q] ∧ q.id = s.nextId ∧ q.who = who ∧ q.ctx = c ∧ q.tier = tier ∧ q.node = node ∧ q.addr = addr ∧
        q.kind = kind ∧ q.issued = false ∧ q.fin = none) := by
  obtain ⟨hwho, hctx, htier, hnode, haddr, hkind, -, -, hissued, hfin⟩ :=
    reqOf_given (who := who) (tier := tier) (node := node) (addr := addr) (va := va) (kind := kind) hx
  generalize s.reqOf who c tier node addr va kind = r at hexec hwho hctx htier hnode haddr hkind hissued hfin
  subst hwho htier
  obtain ⟨ps, k, hheld⟩ := acceptTagged_holds hroom hhere
  rw [hheld] at hexec
  exact ⟨_, hexec, sameMem_of_eq rfl rfl, fun _ _ _ => rfl, _, rfl, rfl, rfl, hctx, rfl, hnode, haddr, hkind, hissued, hfin⟩

/-- An engine's read of HBM goes to its controller at once. -/
theorem acts_of_direct {n : Nat} (hlegal : who.legal tier = true) (hx : s.ctx? c = some x) (hown : tier = 0 ∧ ∃ e, who = .engine e)
    (hfilter : s.hlp.filter = []) (hfresh : s.req? s.nextId = none) : acts (.hapReadRequest who c va tier node addr n) s (fun u =>
      sameMem s u ∧ onlyRegs s u [] ∧ .hbmRead s.nextId addr n ∈ u.sent ∧
      ∃ q, u.req? s.nextId = some q ∧ q.who = who ∧ q.kind = .read n ∧ q.issued = true) := by
  obtain ⟨hwho, -, htier, -, haddr, hkind, -⟩ :=
    reqOf_given (who := who) (tier := tier) (node := node) (addr := addr) (va := va) (kind := .read n) hx
  have hdirect : (s.reqOf who c tier node addr va (.read n)).direct = true := by
    obtain ⟨htier0, e, he⟩ := hown
    exact direct_iff.2 ⟨htier.trans htier0, e, hwho.trans he⟩
  have hread : s.hapRead who c va tier node addr n = s.sendDirect (s.reqOf who c tier node addr va (.read n)) :=
    (if_neg (permitted hlegal hx)).trans (if_pos hdirect)
  generalize s.reqOf who c tier node addr va (.read n) = r at hread hwho htier haddr hkind
  let q : Req := { r with id := s.nextId, ord := s.nextId, issued := true, sentAt := s.time }
  let t : State := { s with nextId := s.nextId + 1, reqs := s.reqs ++ [q] }
  have hq : t.req? s.nextId = some q := by
    show (s.reqs ++ [q]).find? (fun r => r.id == s.nextId) = some q
    rw [List.find?_append, show s.reqs.find? (fun r => r.id == s.nextId) = none from hfresh]
    exact List.find?_cons_of_pos (p := fun r : Req => r.id == s.nextId) (beq_self_eq_true _)
  have hhome : t.homeHolds q = none := by
    unfold State.homeHolds
    rw [show q.kind = .read n from hkind]
    refine List.find?_eq_none.2 fun l _ hl => ?_
    rw [State.hostExcl, show t.hlp.filter = [] from hfilter] at hl
    exact absurd hl Bool.false_ne_true
  have hgo : s.sendDirect r = t.say (.hbmRead s.nextId addr n) := by
    refine (loadGo_of_free (t := t) hq hhome).trans ?_
    rw [show q.addr = addr from haddr, show q.kind = .read n from hkind]
    rfl
  exact ⟨_, congrArg s.after (hread.trans hgo), sameMem_of_eq rfl rfl, fun _ _ _ => rfl, List.mem_cons_self, q, hq, hwho, hkind, rfl⟩

/-- A malformed request is reported, and a read or atomic answered with slag. -/
theorem acts_of_rejected {i : Instr} {slag : Option Nat} (hexec : exec i s = s.after (match slag with
      | some z => ({ s.badReq with nextId := s.nextId + 1 } : State).say (.readData s.nextId (slagBytes z) true)
      | none => s.badReq)) : acts i s (fun u => sameMem s u ∧ u.reqs = s.reqs ∧ u.rd .HAP_ERR_BAD_REQ = 1 ∧
        onlyRegs s u [(.HAP_ERR_BAD_REQ, 0)] ∧ ∀ z, slag = some z → .readData s.nextId (slagBytes z) true ∈ u.sent) := by
  have honly : onlyRegs s s.badReq [(.HAP_ERR_BAD_REQ, 0)] := onlyRegs_wr (onlyRegs_refl s _) List.mem_cons_self 1
  have hset : s.badReq.rd .HAP_ERR_BAD_REQ = 1 := rd_wr_one s .HAP_ERR_BAD_REQ 0
  cases slag with
  | none => exact ⟨_, hexec, sameMem_of_eq rfl rfl, rfl, hset, honly, fun z hz => absurd hz (Option.some_ne_none z).symm⟩
  | some z =>
    refine ⟨_, hexec, sameMem_of_eq rfl rfl, rfl, hset, honly, fun y hy => ?_⟩
    obtain rfl := Option.some.inj hy
    exact List.mem_cons_self

end

/-! ## Fences (R308, R312, R313) -/

section
variable {s : State}

theorem mem_answerFences {t : State} {f : EngFence} : f ∈ t.answerFences.fences ↔ f ∈ t.fences ∧ (t.fenceWaits f = true ∨ f.ctls ≠ []) := by
  have hrest : t.answerFences.fences = (t.fences.partition (fun f => !t.fenceWaits f && f.ctls.isEmpty)).2 :=
    sayAll_keeps (p := State.fences) (fun _ _ => rfl) _ _
  rw [hrest, List.partition_eq_filter_filter]
  simp only [List.mem_filter, Function.comp_apply]
  refine and_congr_right fun _ => ?_
  cases t.fenceWaits f <;> cases f.ctls <;> simp

/-- A fence that waits for nothing is answered. -/
theorem fenceAnswer_mem {t : State} {f : EngFence} (hf : f ∈ t.fences) (hstores : t.fenceWaits f = false) (hctls : f.ctls = []) :
    .fenceAnswer f.eng ∈ t.answerFences.sent := by
  have hready : f ∈ (t.fences.partition (fun f => !t.fenceWaits f && f.ctls.isEmpty)).1 := by
    rw [List.partition_eq_filter_filter]
    exact List.mem_filter.2 ⟨hf, by rw [hstores, hctls]; rfl⟩
  exact mem_sent_sayAll (List.mem_map.2 ⟨f, hready, rfl⟩) _

theorem answerFences_keeps {β : Type} {v : State → β} (hfences : ∀ (t : State) l, v { t with fences := l } = v t) (hsay : ∀ t m, v (State.say t m) = v t)
    (t : State) : v t.answerFences = v t := (sayAll_keeps hsay _ _).trans (hfences t _)

end

/-- Settles O41 (R213, R255 to R270, R307 to R313, R318). -/
theorem requestsToHostAndHbm : Obligations.RequestsToHostAndHbm := by
  refine ⟨⟨fun s who c va tier node addr x hlegal hx => ⟨fun n => ⟨fun hown hbad => ?_, fun hown hgood hroom hhere => ?_, fun hown hfilter hfresh => ?_⟩,
      fun code z a b => ⟨fun hbad => ?_, fun hown hgood hroom hhere => ?_⟩, fun data sealed pub => ⟨fun hown hbad => ?_, fun hown hgood hopen hroom hhere => ?_⟩⟩,
    fun s id q hq hissued hfin hbusy => ⟨fun cells htier hkind => ?_, fun n htier hkind hfree => ?_, fun cells htier hparts hkind hmay hack hhot => ?_,
      fun n htier hparts hkind hmay hhot => ?_, fun n htier hkind hissuing htag hlimit hpool => ?_⟩,
    fun s id q d hq hissued hfin htier hwaits hplain hparts hhome => ⟨fun n hkind => ⟨fun h1 => ?_, fun h0 => ?_, fun bad hbad hindirect => ⟨fun h0 => ?_, fun h0 => ?_⟩⟩,
      fun code z a b hkind h0 hfits => ?_⟩⟩,
    fun s ctl c x cells hx hin => ⟨fun hcoh => ?_, fun hcoh hfree hnodup => ?_⟩, fun s ctl id q cells hq hkind hissued htier hplain hwaits hcoh => ?_,
    fun s id st hfind hmay hnodup hplain => ?_, fun s c ctl x hx hmem hcommitted => ?_, fun s e ctl hcommitted => ?_,
    fun s e hrun => ⟨fun hreqs hblocks => ?_, ?_⟩⟩
  · exact acts_of_rejected (slag := some n) (congrArg s.after ((if_neg (permitted hlegal hx)).trans
      ((if_neg (by rw [indirect_reqOf hx hown]; decide)).trans (if_pos hbad))))
  · exact acts_of_tagged hx (congrArg s.after ((if_neg (permitted hlegal hx)).trans
      ((if_neg (by rw [indirect_reqOf hx hown]; decide)).trans (if_neg (by rw [hgood]; decide))))) hroom hhere
  · exact acts_of_direct hlegal hx hown hfilter hfresh
  · exact acts_of_rejected (slag := some z) (congrArg s.after ((if_neg (permitted hlegal hx)).trans (if_pos hbad)))
  · exact acts_of_tagged hx (congrArg s.after ((if_neg (permitted hlegal hx)).trans
      ((if_neg (by rw [hgood]; decide)).trans (if_neg (by rw [indirect_reqOf hx hown]; decide))))) hroom hhere
  · refine acts_of_rejected (slag := none) (congrArg s.after ((if_neg ?_).trans (if_pos hbad)))
    rw [Bool.or_eq_true, not_or]
    exact ⟨permitted hlegal hx, by rw [indirect_reqOf hx hown]; decide⟩
  · obtain ⟨hwho, hctx, htier, -, -, -, hflask, hpurpose, hissued, -⟩ :=
      reqOf_given (who := who) (tier := tier) (node := node) (addr := addr) (va := va) (kind := .write []) hx
    have hwrite : s.hapWrite who c va tier node addr data sealed pub =
        (s.storeOut (s.reqOf who c tier node addr va (.write [])) (maskedCells addr data) sealed pub).getD s := by
      refine (if_neg ?_).trans (if_neg (by rw [hgood]; decide))
      rw [Bool.or_eq_true, not_or]
      exact ⟨permitted hlegal hx, by rw [indirect_reqOf hx hown]; decide⟩
    generalize s.reqOf who c tier node addr va (.write []) = r at hwrite hwho hctx htier hflask hpurpose hissued
    subst hwho htier
    obtain ⟨ids, k, ws, haccept, hws⟩ := acceptWrite_holds hroom hhere (maskedCells addr data)
    have hout : s.storeOut r (maskedCells addr data) sealed pub = some { s with nextId := k, reqs := s.reqs ++ ws } := by
      refine (if_pos (by rw [hflask, hopen]; rfl)).trans ?_
      rw [State.storePlain, haccept, Option.map_some, hpurpose]
      rfl
    rw [hout] at hwrite
    refine ⟨_, congrArg s.after hwrite, sameMem_of_eq rfl rfl, fun _ _ _ => rfl, fun p hp => ?_⟩
    obtain ⟨w, hw, cs, hkind, hmem, hwho, hc, ht, hi⟩ := hws p hp
    exact ⟨w, List.mem_append_right _ hw, cs, hkind, hmem, hwho, hc.trans hctx, ht, hi.trans hissued⟩
  · have hissue := hapIssue_of_held hq hissued hfin hbusy
    rw [htier] at hissue
    obtain ⟨mt, hmt⟩ := count_eq (s.sent! q) q.ctx 9 q.size
    have hgo : s.issueHbm q = { s.sent! q with meter := mt } := by
      refine (if_pos ?_).trans hmt
      rw [Req.isWrite, hkind]
    exact ⟨_, congrArg s.after (hissue.trans hgo), sameMem_of_eq rfl rfl, ⟨_, req_sent hq, rfl, rfl, rfl⟩, fun _ _ _ => rfl⟩
  · have hissue := hapIssue_of_held hq hissued hfin hbusy
    rw [htier] at hissue
    obtain ⟨mt, hmt⟩ := count_eq (s.sent! q) q.ctx 9 q.size
    have hgo : s.issueHbm q = ({ s.sent! q with meter := mt } : State).loadGo q.id := by
      refine (if_neg ?_).trans (congrArg (fun t => State.loadGo t q.id) hmt)
      rw [Req.isWrite, hkind]
      exact Bool.false_ne_true
    have hleave : ({ s.sent! q with meter := mt } : State).loadGo q.id = ({ s.sent! q with meter := mt } : State).say (.hbmRead id q.addr n) := by
      rw [req_id hq]
      refine (loadGo_of_free (t := { s.sent! q with meter := mt }) (q := { q with issued := true, sentAt := s.time }) (req_sent hq) ?_).trans ?_
      · show (match q.kind with | .atomic c z _ k => _ | _ => q.lines.find? _) = _
        rw [hkind]
        exact hfree
      · show State.say _ (.hbmRead id q.addr q.kind.bytes) = _
        rw [hkind]
        rfl
    exact ⟨_, congrArg s.after (hissue.trans (hgo.trans hleave)), sameMem_of_eq rfl rfl, ⟨_, req_sent hq, rfl, rfl, rfl⟩, List.mem_cons_self⟩
  · have hissue := hapIssue_of_held hq hissued hfin hbusy
    rw [htier] at hissue
    have hwrite : q.isWrite = true := by rw [Req.isWrite, hkind]
    obtain ⟨t, hmem, hreq, hpcred, -, hhost⟩ := issueHost_of_free hq hparts (hwrite ▸ hmay) (fun _ => hack) hhot
    rw [hkind, req_id hq] at hhost
    rw [hwrite] at hpcred
    exact ⟨_, congrArg s.after (hissue.trans hhost), hmem, hreq, List.mem_cons_self, hpcred⟩
  · have hissue := hapIssue_of_held hq hissued hfin hbusy
    rw [htier] at hissue
    have hread : q.isWrite = false := by rw [Req.isWrite, hkind]
    obtain ⟨t, hmem, hreq, -, hnpcred, hhost⟩ := issueHost_of_free hq hparts (hread ▸ hmay) (fun h => absurd (hread.symm.trans h) (by decide)) hhot
    rw [hkind, req_id hq] at hhost
    rw [hread] at hnpcred
    exact ⟨_, congrArg s.after (hissue.trans hhost), hmem, hreq, List.mem_cons_self, hnpcred⟩
  · have hissue := hapIssue_of_held hq hissued hfin hbusy
    rw [htier] at hissue
    let r : Req := { q with issued := true, sentAt := s.time, tag := s.freeTag, gen := s.ndGen q.node }
    have hpeer : s.issuePeer q = ((s.modReq q.id (fun _ => r)).countLines r).sendReq r := by
      unfold State.issuePeer
      refine (if_neg (by rw [Req.isBye, hkind]; exact Bool.false_ne_true)).trans ((if_neg (by simp [hissuing])).trans ((if_neg ?_).trans ((if_neg ?_).trans ?_)))
      · rw [Option.isNone_iff_eq_none]
        exact htag
      · rw [Bool.or_eq_true, not_or, decide_eq_true_eq, decide_eq_true_eq, Nat.not_le, Nat.not_le]
        exact ⟨hlimit, hpool⟩
      · dsimp only
        split
        · rename_i h
          rw [hkind] at h
          cases h
        · rfl
    obtain ⟨bytes, hsend, htype⟩ := sendReq_of_read (q := r) ((s.modReq q.id (fun _ => r)).countLines r) hkind
    have hkeep {β : Type} {p : State → β} (hmeter : ∀ (t : State) m, p { t with meter := m } = p t) (hwr : ∀ (t : State) f v i, p (t.wr f v i) = p t) :
        p ((s.modReq q.id (fun _ => r)).countLines r) = p (s.modReq q.id (fun _ => r)) := countLines_keeps hmeter (fun t f v i _ => hwr t f v i) _ r
    have hmem := sameMem_of_eq (s := s) (hkeep (p := State.hbm) (fun _ _ => rfl) fun _ _ _ _ => rfl) (hkeep (p := State.wbuf) (fun _ _ => rfl) fun _ _ _ _ => rfl)
    have hreq : ((s.modReq q.id (fun _ => r)).countLines r).req? id = some r := by
      rw [hkeep (p := fun t : State => t.req? id) (fun _ _ => rfl) fun _ _ _ _ => rfl]
      obtain rfl := req_id hq
      exact req_modReq_const hq rfl
    exact ⟨_, congrArg s.after (hissue.trans (hpeer.trans hsend)), hmem, ⟨r, hreq, rfl, rfl, rfl⟩, bytes, List.mem_cons_self, htype⟩
  · have hresp := hapResponse_of_ready hq hissued (by rw [Req.tagged, hfin, hkind]; rfl) htier hwaits hparts hhome d
    rw [if_pos h1, hkind, finish_of_plain hplain, req_id hq] at hresp
    exact ⟨_, congrArg s.after hresp, req_dropReq s id, List.mem_cons_self, sameMem_of_eq rfl rfl, fun _ _ _ => rfl⟩
  · have hresp := hapResponse_of_ready hq hissued (by rw [Req.tagged, hfin, hkind]; rfl) htier hwaits hparts hhome d
    rw [if_neg (by omega), hkind] at hresp
    dsimp only at hresp
    rw [finish_of_plain hplain, req_id hq] at hresp
    exact ⟨_, congrArg s.after hresp, req_dropReq s id, List.mem_cons_self, sameMem_of_eq rfl rfl, fun _ _ _ => rfl⟩
  · obtain ⟨hother, -⟩ := hapResponse_of_bad hq hissued (by rw [Req.tagged, hfin, hkind]; rfl) htier hwaits hparts hhome hkind hplain hindirect hbad
    have hresp := (hother h0).trans (finishSlag_plain hplain _)
    rw [if_neg h0, hkind, req_id hq] at hresp
    refine ⟨_, congrArg s.after hresp, req_dropReq _ id, List.mem_cons_self, ?_, ?_⟩
    · exact (rd_bump_ne _ _ (.inl (by decide))).trans (rd_wr_one s .HAP_ERR_RD_POISON 0)
    · exact (rd_bump_same _ _ _ _).trans (by rw [rd_wr_ne _ _ (.inl (by decide))])
  · obtain ⟨-, hhbm⟩ := hapResponse_of_bad hq hissued (by rw [Req.tagged, hfin, hkind]; rfl) htier hwaits hparts hhome hkind hplain hindirect hbad
    have hresp := (hhbm h0).trans (finish_of_plain hplain _ _ _)
    rw [badLines_ne_nil hbad, req_id hq] at hresp
    obtain ⟨-, hcounts, -⟩ := hbmUe_reports (s.wr .HAP_ERR_RD_POISON 1) (q.addr + 64 * (badLines bad q.kind.lineCount).headD 0) q.ueUnit.1 0 q.ueUnit.2
      q.flask ((q.root.map PourId.word).getD 0) 5
    refine ⟨_, congrArg s.after hresp, req_dropReq _ id, ?_, ?_, _, List.mem_cons_self, ?_, fun i hi hline => ?_⟩
    · show (readReported s q bad).rd .HAP_ERR_RD_POISON = 1
      rw [readReported, State.hbmUe, rd_wr_ne _ _ (.inl (by decide)), rd_bump_ne _ _ (.inl (by decide)), rd_ras _ _ (by decide), rd_wr_one]
    · refine Eq.trans hcounts ?_
      rw [rd_wr_ne _ _ (.inl (by decide))]
    · simp [slagIn, State.dieRead]
    · refine nth_slagIn (by simpa [State.dieRead] using hi) hline
  · have hresp := hapResponse_of_ready hq hissued (by rw [Req.tagged, hfin, hkind]; rfl) htier hwaits hparts hhome d
    rw [if_neg (by omega), hkind] at hresp
    dsimp only at hresp
    rw [finish_of_plain hplain, req_id hq] at hresp
    refine ⟨_, congrArg s.after hresp, req_dropReq _ id, List.mem_cons_self, ?_⟩
    let old := (s.commitLine (lineOf q.addr)).sysRead q.addr z
    let new := leBytes z (atomicResult code z (ofLe old) a b)
    have hput := sysRead_put (s.commitLine (lineOf q.addr)) (a := q.addr) (bs := new) (by rw [length_leBytes]; exact hfits)
    rw [length_leBytes] at hput
    exact hput
  · obtain ⟨st, hid, hctl, hcells, hctx, -, haccept⟩ := hbmAcceptEngine_eq (ctl := ctl) (cells := cells) hx
    have hbuf : ({ s with nextId := s.nextId + 1 } : State).acceptStore st = { s with nextId := s.nextId + 1, wbuf := s.wbuf ++ [st] } :=
      if_neg (by rw [hcells]; exact Bool.eq_false_iff.1 hcoh)
    refine ⟨_, (acceptArm hin).trans (congrArg s.after (haccept.trans hbuf)), fun _ _ _ => rfl, ⟨st, rfl, hid, hctl, hcells, hctx⟩, fun _ => rfl, fun a => ?_⟩
    show (lastStored (s.wbuf ++ [st]) a).getD (s.sysByte a) = _
    rw [lastStored_append, hcells]
    cases (cells.find? fun p => p.1 == a) <;> rfl
  · obtain ⟨st, -, -, hcells, -, hplain, haccept⟩ := hbmAcceptEngine_eq (ctl := ctl) (cells := cells) hx
    let t : State := { s with nextId := s.nextId + 1 }
    have hput : t.acceptStore st = t.overPut cells := by
      rw [acceptStore_coherent (by rw [hcells]; exact hcoh) (by rw [hcells]; exact hfree) hplain, hcells]
    refine ⟨_, (acceptArm hin).trans (congrArg s.after (haccept.trans hput)), fun f i _ => rd_overPut t cells f i, fun p hp => ?_, fun a hout hclean => ?_⟩
    · exact sysByte_putCells_mem hnodup _ hp (hin p hp)
    · rcases hclean with hempty | hline
      · exact bytes_overPut_of_clean t (fun l _ st hst => absurd (hempty ▸ hst : st ∈ []) List.not_mem_nil) hout
      · exact bytes_overPut_ne t fun p hp he => hline (he ▸ mem_linesOf.2 ⟨p, hp, rfl⟩)
  · have hstore : ∃ st : BufStore, st.ctl = ctl ∧ st.cells = cells ∧
        s.hbmAcceptEntry ctl id = ({ s with nextId := s.nextId + 1, wbuf := s.wbuf ++ [st] } : State).ackWrite q := by
      unfold State.hbmAcceptEntry
      rw [hq]
      dsimp only
      rw [hkind]
      refine ⟨{ id := s.nextId, ctl := ctl, cells := cells, ctx := q.ctx, root := q.root }, rfl, rfl, ?_⟩
      dsimp only [State.newId]
      rw [hcoh, Bool.false_and, hissued, htier, hwaits]
      refine congrArg (fun t => State.ackWrite t q) (if_neg ?_)
      exact Bool.eq_false_iff.1 hcoh
    obtain ⟨st, hctl, hcells, hentry⟩ := hstore
    obtain ⟨hhbm, hwbuf, hregs, hgone⟩ := ackWrite_plain hplain ({ s with nextId := s.nextId + 1, wbuf := s.wbuf ++ [st] } : State)
    rw [req_id hq] at hgone
    refine ⟨_, congrArg s.after hentry, fun f i _ => hregs f i, hgone, ⟨st, hwbuf, hctl, hcells⟩, fun a => ?_⟩
    rw [State.sysByte, hhbm, State.sysByte]
  · have hid : st.id = id := beq_iff_eq.1 (List.find?_some (p := fun st : BufStore => st.id == id) hfind)
    let t : State := { s with wbuf := s.wbuf.filter (fun x => x.id != st.id) }
    refine ⟨_, congrArg s.after (hbmCommit_of_oldest hfind hmay hplain), fun f i _ => ?_, fun w hw => ?_, fun p hp hin => ?_, fun a hout => ?_⟩
    · exact putCells_keeps (fun t : State => t.rd f i) (fun _ _ => rfl) st.cells t
    · rw [putCells_wbuf] at hw
      simpa [hid] using (List.mem_filter.1 hw).2
    · exact sysByte_putCells_mem hnodup t hp hin
    · exact sysByte_putCells_out st.cells t a hout
  · have hmark : s.markerPour c ctl = s.modCtx c (fun y => { y with fence := y.fence.filter (fun k => k != ctl) }) := by
      unfold State.markerPour
      rw [hx]
      exact if_pos (Bool.and_eq_true_iff.2 ⟨hmem, hcommitted⟩)
    exact ⟨_, congrArg s.after hmark, sameMem_of_eq rfl rfl, fun _ _ _ => rfl, _, (ctx_modCtx_same s (f := fun y => { y with fence := y.fence.filter (fun k => k != ctl) }) fun _ => rfl).trans (congrArg _ hx), rfl⟩
  · let cut (f : EngFence) : EngFence := if f.eng == e && s.committed ctl f.mark then { f with ctls := f.ctls.filter (fun k => k != ctl) } else f
    let t : State := { s with fences := s.fences.map cut }
    have hcut {f : EngFence} (hf : f ∈ s.fences) (he : f.eng = e) : cut f = { f with ctls := f.ctls.filter (fun k => k != ctl) } :=
      if_pos (by rw [hcommitted f hf he, he]; simp)
    have heng (f : EngFence) : (cut f).eng = f.eng := by
      unfold cut
      split <;> rfl
    refine ⟨t.answerFences, rfl, ?_, fun f i _ => answerFences_keeps (v := fun t : State => t.rd f i) (fun _ _ => rfl) (fun _ _ => rfl) t, fun f hf he => ?_,
      fun f hf he hstores hctls => ?_⟩
    · exact sameMem_of_eq (answerFences_keeps (v := State.hbm) (fun _ _ => rfl) (fun _ _ => rfl) t)
        (answerFences_keeps (v := State.wbuf) (fun _ _ => rfl) (fun _ _ => rfl) t)
    · obtain ⟨g, hg, rfl⟩ := List.mem_map.1 (mem_answerFences.1 hf).1
      rw [heng] at he
      rw [hcut hg he]
      simp
    · have hmem : cut f ∈ t.fences := List.mem_map_of_mem hf
      have hanswer := fenceAnswer_mem hmem (t := t) ?_ ?_
      · rwa [heng, he] at hanswer
      · rw [hcut hf he]
        exact hstores
      · rw [hcut hf he]
        simpa using hctls
  · let f : EngFence := { eng := e, system := false, mark := s.nextId, ctls := [] }
    let t : State := { s with fences := s.fences ++ [f] }
    have hfence : s.engineFence e false = t.answerFences := if_neg (by rw [Option.isNone_iff_eq_none]; exact hrun)
    refine ⟨_, congrArg s.after hfence, ?_, fun f i _ => answerFences_keeps (v := fun t : State => t.rd f i) (fun _ _ => rfl) (fun _ _ => rfl) t, ?_⟩
    · exact sameMem_of_eq (answerFences_keeps (v := State.hbm) (fun _ _ => rfl) (fun _ _ => rfl) t)
        (answerFences_keeps (v := State.wbuf) (fun _ _ => rfl) (fun _ _ => rfl) t)
    · refine fenceAnswer_mem (f := f) (List.mem_append_right _ (List.mem_singleton_self f)) ?_ rfl
      refine Bool.eq_false_iff.2 fun hwait => ?_
      rcases Bool.or_eq_true_iff.1 hwait with h | h
      · obtain ⟨q, hq, h⟩ := List.any_eq_true.1 h
        simp only [Bool.and_eq_true, beq_iff_eq] at h
        obtain ⟨⟨hwho, hwrite⟩, -⟩ := h
        rw [hreqs q hq hwho] at hwrite
        exact absurd hwrite (by decide)
      · obtain ⟨b, hb, h⟩ := List.any_eq_true.1 h
        simp only [Bool.and_eq_true, beq_iff_eq] at h
        exact hblocks b hb h.1
  · let f : EngFence := { eng := e, system := true, mark := s.nextId, ctls := Config.hbmControllers }
    let t : State := ({ s with fences := s.fences ++ [f] } : State).say (.fenceMarkers e)
    have hfence : s.engineFence e true = t.answerFences := if_neg (by rw [Option.isNone_iff_eq_none]; exact hrun)
    refine ⟨_, congrArg s.after hfence, ?_, fun f i _ => answerFences_keeps (v := fun t : State => t.rd f i) (fun _ _ => rfl) (fun _ _ => rfl) t, ?_, f,
      mem_answerFences.2 ⟨List.mem_append_right _ (List.mem_singleton_self f), .inr (List.cons_ne_nil _ _)⟩, rfl, rfl, rfl⟩
    · exact sameMem_of_eq (answerFences_keeps (v := State.hbm) (fun _ _ => rfl) (fun _ _ => rfl) t)
        (answerFences_keeps (v := State.wbuf) (fun _ _ => rfl) (fun _ _ => rfl) t)
    · exact foldl_sent (fun t _ _ ht => List.mem_cons_of_mem _ ht) _ (List.mem_cons_self (l := s.sent))

end Sys2Proof.Laws

/-! # The loss of the host

What entry to HEADLESS does to the registers, to what waits, and to a request under way (R45 to R49, R270, R271). -/
namespace Sys2Proof.Laws

open Sys2Proof.Machine

/-! ## The steps of an entry to HEADLESS -/

/-- The registers that a delivery taken back moves. -/
def takenBackFields : List Field := [.EV_SRC_ACTIVE, .EV_THRESH_INSVC, .EV_SRC_PENDING]

/-- The registers that deliveries taken back and a LINK reset move. -/
def resetFields : List Field := takenBackFields ++ [.HLP_STATUS_DETACHING, .HLP_HB_HB_VALUE, .QM_STATUS_TOKENS,
  .HLP_STATUS_HEADLESS, .HLP_STATUS_ATTACHED, .HLP_STATUS_CAUSE, .HLP_STATUS_EPOCH]

/-- The registers that count lost lines. -/
def lineCounts : List Field := [.HLP_DROP_COUNT_LOST_LINES, .HLP_ERR_LOST_LINES]

/-- The registers that a loss of the host moves before the requests under way meet it. -/
def lossFields : List Field := resetFields ++ (lineCounts ++ [.HLP_DROP_COUNT_HEADLESS_DROPS, .QCTX_STATE])

theorem resetFields_subset {f : Field} (h : f ∈ resetFields) : f ∈ lossFields := List.mem_append_left _ h
theorem lineCounts_subset {f : Field} (h : f ∈ lineCounts) : f ∈ lossFields := List.mem_append_right _ (List.mem_append_left _ h)

/-- The registers of the status that a loss of the host shows. -/
def statusFields : List Field := [.HLP_STATUS_DETACHING, .HLP_STATUS_HEADLESS, .HLP_STATUS_ATTACHED, .HLP_STATUS_CAUSE, .HLP_STATUS_EPOCH]

theorem takeBack_keeps {β : Type} {p : State → β} (hwr : ∀ (t : State) f v i, f ∈ takenBackFields → p (t.wr f v i) = p t)
    (hev : ∀ (t : State) e, p { t with ev := e } = p t) (s : State) : p s.takeBack = p s := by
  unfold State.takeBack
  refine (hev _ _).trans (foldl_keeps p (fun t n => ?_) _ s)
  dsimp only
  have hout : p ((t.wr .EV_SRC_ACTIVE 0 n).wr .EV_THRESH_INSVC (setBits (t.rd .EV_THRESH_INSVC (t.rd .EV_SRC_TARGET n)) (t.rd .EV_SRC_DPRIO n) 1 0)
      (t.rd .EV_SRC_TARGET n)) = p t := (hwr _ _ _ _ (by decide)).trans (hwr _ _ _ _ (by decide))
  split
  · rfl
  · split
    · exact (hwr _ _ _ _ (by decide)).trans hout
    · exact (hwr _ _ _ _ (by decide)).trans hout

/-- The registers of the loss: deliveries are taken back, and the status shows it. -/
def linkReset (s : State) (cause : Nat) : State :=
  (((s.takeBack.rstAll linkFields 0).wr .HLP_STATUS_HEADLESS 1).wr .HLP_STATUS_ATTACHED 0 |>.wr .HLP_STATUS_CAUSE cause).adv .HLP_STATUS_EPOCH

theorem linkReset_keeps {β : Type} {p : State → β} (hwr : ∀ (t : State) f v i, f ∈ resetFields → p (t.wr f v i) = p t)
    (hev : ∀ (t : State) e, p { t with ev := e } = p t) (s : State) (cause : Nat) : p (linkReset s cause) = p s := by
  refine (hwr _ _ _ _ (by decide)).trans ((hwr _ _ _ _ (by decide)).trans ((hwr _ _ _ _ (by decide)).trans ((hwr _ _ _ _ (by decide)).trans ?_)))
  refine Eq.trans ?_ (takeBack_keeps (fun t f v i hf => hwr t f v i (List.mem_append_left _ hf)) hev s)
  exact (hwr _ _ _ _ (by decide)).trans ((hwr _ _ _ _ (by decide)).trans (hwr _ _ _ _ (by decide)))

theorem rd_linkReset {f : Field} (hf : f ∉ resetFields) (s : State) (cause i : Nat) : (linkReset s cause).rd f i = s.rd f i :=
  linkReset_keeps (p := fun t => t.rd f i) (fun t _ v _ hg => rd_wr_ne t v (.inl (ne_of_mem_of_not_mem hg hf))) (fun _ _ => rfl) s cause

/-- The copies of host cores are lost, and no line is recalled or waited for. -/
def copiesLost (t : State) (lost : Nat) : State :=
  let n := min lost (t.hlp.filter.filter HostLine.excl).length
  let u := if n = 0 then t else (t.bump .HLP_DROP_COUNT_LOST_LINES 0 n).wr .HLP_ERR_LOST_LINES 1
  { u with hlp := { t.hlp with filter := [], recalls := [], soft := [], waits := [], asleep := [], leaving := [] } }

theorem copiesLost_keeps {β : Type} {p : State → β} (hwr : ∀ (t : State) f v i, f ∈ lineCounts → p (t.wr f v i) = p t)
    (hhlp : ∀ (t : State) h, p { t with hlp := h } = p t) (t : State) (lost : Nat) : p (copiesLost t lost) = p t := by
  refine (hhlp _ _).trans ?_
  split
  · rfl
  · exact (hwr _ _ _ _ (by decide)).trans (hwr _ _ _ _ (by decide))

/-- The waiting accesses of host cores, in the order in which they are refused. -/
def waiters (s : State) : List LineAct := s.hlp.waits.map LineWait.act ++ s.hlp.asleep

/-- Accesses of host cores are refused and counted. -/
def refuseAll (t : State) (l : List LineAct) : State := l.foldl (fun t a => t.dropHost.refuseHost a) t

theorem refuseAll_keeps {β : Type} {p : State → β} (hwr : ∀ (t : State) v, p (t.wr .HLP_DROP_COUNT_HEADLESS_DROPS v) = p t)
    (hsay : ∀ (t : State) m, p (t.say m) = p t) (t : State) (l : List LineAct) : p (refuseAll t l) = p t := by
  refine foldl_keeps p (fun t a => ?_) l t
  have hdrop : p t.dropHost = p t := hwr t _
  unfold State.refuseHost
  refine (hsay _ _).trans (Eq.trans ?_ hdrop)
  split
  · exact hsay _ _
  · rfl

/-- The clearing of the snoop filter, where only host cores wait. -/
theorem clearFilter_eq {t : State} (h : ∀ a ∈ waiters t, a.ofHost = true) (lost : Nat) : t.clearFilter lost = refuseAll (copiesLost t lost) (waiters t) := by
  let n := min lost (t.hlp.filter.filter HostLine.excl).length
  let u : State := if n = 0 then t else (t.bump .HLP_DROP_COUNT_LOST_LINES 0 n).wr .HLP_ERR_LOST_LINES 1
  have hu : u.hlp = t.hlp := by
    unfold u
    split <;> rfl
  let v : State := { u with hlp := { u.hlp with filter := [], recalls := [], soft := [], waits := [], asleep := [], leaving := [] } }
  have hv : v = copiesLost t lost := by
    show ({ u with hlp := _ } : State) = { u with hlp := _ }
    rw [hu]
  have hclear : t.clearFilter lost = u.hlp.asleep.foldl (fun t a => t.dropHost.refuseHost a) (u.hlp.waits.foldl (fun t w => match w.act with
      | .store _ | .load _ | .inbound _ _ _ => t.lineAct w.act
      | a => t.dropHost.refuseHost a) v) := rfl
  have hfold : ∀ (l : List LineWait) (w : State), (∀ x ∈ l, x.act.ofHost = true) → l.foldl (fun t w => match w.act with
      | .store _ | .load _ | .inbound _ _ _ => t.lineAct w.act
      | a => t.dropHost.refuseHost a) w = refuseAll w (l.map LineWait.act) := by
    intro l
    induction l with
    | nil => exact fun _ _ => rfl
    | cons x l ih =>
      intro w hl
      rw [List.foldl_cons, ih _ fun y hy => hl y (List.mem_cons_of_mem _ hy)]
      have hx := hl x List.mem_cons_self
      refine congrArg (fun t => refuseAll t (l.map LineWait.act)) ?_
      revert hx
      cases x.act <;> simp [LineAct.ofHost, LineAct.hpa?]
  rw [hclear, hu, hfold _ v fun x hx => h _ (List.mem_append_left _ (List.mem_map_of_mem hx)), hv]
  exact List.foldl_append.symm

/-- The state in which the requests under way meet the loss: the waiting accesses are refused. -/
def hostLost (s : State) (cause lost : Nat) : State := refuseAll (copiesLost (linkReset s cause) lost) (waiters s)

theorem hostLost_keeps {β : Type} {p : State → β} (hwr : ∀ (t : State) f v i, f ∈ lossFields → p (t.wr f v i) = p t)
    (hunits : ∀ (t : State) e h sent, p { t with ev := e, hlp := h, sent := sent } = p t) (s : State) (cause lost : Nat) :
    p (hostLost s cause lost) = p s :=
  (refuseAll_keeps (fun t v => hwr t _ v 0 (by decide)) (fun t _ => hunits t t.ev t.hlp _) _ _).trans
    ((copiesLost_keeps (fun t f v i hf => hwr t f v i (lineCounts_subset hf)) (fun t h => hunits t t.ev h t.sent) _ _).trans (linkReset_keeps (fun t f v i hf => hwr t f v i (resetFields_subset hf)) (fun t e => hunits t e t.hlp t.sent) s cause))

theorem rd_hostLost {f : Field} (hf : f ∉ lossFields) (s : State) (cause lost i : Nat) : (hostLost s cause lost).rd f i = s.rd f i :=
  hostLost_keeps (p := fun t => t.rd f i) (fun t _ v _ hg => rd_wr_ne t v (.inl (ne_of_mem_of_not_mem hg hf))) (fun _ _ _ _ => rfl) s cause lost

theorem hlp_hostLost (s : State) (cause lost : Nat) : (hostLost s cause lost).hlp =
    { s.hlp with filter := [], recalls := [], soft := [], waits := [], asleep := [], leaving := [] } := by
  refine (refuseAll_keeps (p := State.hlp) (fun _ _ => rfl) (fun _ _ => rfl) _ _).trans ?_
  have hreset : (linkReset s cause).hlp = s.hlp := linkReset_keeps (p := State.hlp) (fun _ _ _ _ _ => rfl) (fun _ _ => rfl) s cause
  show ({ (linkReset s cause).hlp with filter := [], recalls := [], soft := [], waits := [], asleep := [], leaving := [] } : Hlp) = _
  rw [hreset]

theorem rd_hostLost_of_reset {f : Field} (hf : f ∉ lineCounts) (hd : f ≠ .HLP_DROP_COUNT_HEADLESS_DROPS) (s : State) (cause lost i : Nat) :
    (hostLost s cause lost).rd f i = (linkReset s cause).rd f i :=
  (refuseAll_keeps (p := fun t => t.rd f i) (fun t v => rd_wr_ne t v (.inl hd.symm)) (fun _ _ => rfl) _ _).trans
    (copiesLost_keeps (p := fun t => t.rd f i) (fun t _ v _ hg => rd_wr_ne t v (.inl (ne_of_mem_of_not_mem hg hf))) (fun _ _ => rfl) _ _)

/-- The status once the host is lost, for the cause. -/
def showsLoss (s : State) (cause : Nat) (u : State) : Prop :=
  u.headless = true ∧ u.rd .HLP_STATUS_ATTACHED = 0 ∧ u.rd .HLP_STATUS_CAUSE = cause ∧
    u.rd .HLP_STATUS_EPOCH = (s.rd .HLP_STATUS_EPOCH + 1) % 2 ^ 16 ∧ u.rd .HLP_STATUS_DETACHING = 0

theorem showsLoss_of_rd {s : State} {cause : Nat} {t u : State} (h : ∀ f ∈ statusFields, u.rd f = t.rd f) (ht : showsLoss s cause t) : showsLoss s cause u := by
  obtain ⟨hheadless, hattached, hcause, hepoch, hdetaching⟩ := ht
  refine ⟨?_, (h _ (by decide)).trans hattached, (h _ (by decide)).trans hcause, (h _ (by decide)).trans hepoch, (h _ (by decide)).trans hdetaching⟩
  rw [State.headless, State.on, h _ (by decide)]
  exact hheadless

theorem showsLoss_linkReset (s : State) {cause : Nat} (hcause : cause < 2 ^ Field.HLP_STATUS_CAUSE.row.width) : showsLoss s cause (linkReset s cause) := by
  have hepoch : (s.takeBack.rstAll linkFields 0).rd .HLP_STATUS_EPOCH = s.rd .HLP_STATUS_EPOCH := by
    rw [rd_rstAll_ne (by decide)]
    exact takeBack_keeps (p := fun t => t.rd .HLP_STATUS_EPOCH) (fun t _ v _ hg => rd_wr_ne t v (.inl (ne_of_mem_of_not_mem hg (by decide)))) (fun _ _ => rfl) s
  have hdetaching : (s.takeBack.rstAll linkFields 0).rd .HLP_STATUS_DETACHING = 0 := (rd_rstAll_mem (by decide) _ _).trans rfl
  unfold linkReset
  generalize s.takeBack.rstAll linkFields 0 = t at hepoch hdetaching
  refine ⟨?_, ?_, ?_, ?_, ?_⟩
  · rw [State.headless, State.on, rd_adv_ne _ _ (.inl (by decide)), rd_wr_ne _ _ (.inl (by decide)), rd_wr_ne _ _ (.inl (by decide)), rd_wr_one]
    rfl
  · rw [rd_adv_ne _ _ (.inl (by decide)), rd_wr_ne _ _ (.inl (by decide)), rd_wr_same]
    rfl
  · rw [rd_adv_ne _ _ (.inl (by decide)), rd_wr_same]
    exact Nat.mod_eq_of_lt hcause
  · rw [rd_adv_same, rd_wr_ne _ _ (.inl (by decide)), rd_wr_ne _ _ (.inl (by decide)), rd_wr_ne _ _ (.inl (by decide)), hepoch]
    rfl
  · rw [rd_adv_ne _ _ (.inl (by decide)), rd_wr_ne _ _ (.inl (by decide)), rd_wr_ne _ _ (.inl (by decide)), rd_wr_ne _ _ (.inl (by decide)), hdetaching]

/-- Queues in host memory are held. -/
theorem holdQueues_keeps {β : Type} {p : State → β} (hwr : ∀ (t : State) v i, p (t.wr .QCTX_STATE v i) = p t)
    (hqm : ∀ (t : State) q, p { t with qm := q } = p t) (s : State) : p s.holdQueues = p s := by
  refine foldl_keeps p (fun t q => ?_) _ s
  split
  · exact (hqm _ _).trans ((hqm _ _).trans (hwr _ _ _))
  · rfl

/-- The last steps of an entry: promotions are orphaned and translations to the host given up. -/
def hostForgotten (t : State) : State := t.orphanAll.headlessInv

theorem hostForgotten_keeps {β : Type} {p : State → β} (h : blindToInvs p) (hunits : ∀ (t : State) n tier, p { t with nextId := n, tier := tier } = p t)
    (t : State) : p (hostForgotten t) = p t := by
  have hinv (u : State) : p (u.invalidate .headless u.atlases none true) = p u := by
    simp only [State.invalidate]
    split
    · exact (h.startInv _ _).trans ((h.xl _ _).trans (hunits u _ u.tier))
    · exact (h.xl _ _).trans (hunits u _ u.tier)
  exact (disarmIf_of_hot h.hot _ _).trans ((hinv _).trans (hunits t t.nextId _))

theorem mem_sent_hostForgotten {m : Msg} {t : State} (h : m ∈ t.sent) : m ∈ (hostForgotten t).sent := by
  have hdisarm (u : State) (q : Nat → Bool) : (u.disarmIf q).sent = u.sent := disarmIf_of_hot (p := State.sent) (fun _ _ _ _ _ => rfl) u q
  show m ∈ ((t.orphanAll.invalidate .headless t.orphanAll.atlases none true).disarmIf fun _ => true).sent
  rw [hdisarm]
  simp only [State.invalidate]
  split
  · exact List.mem_cons_of_mem _ ((hdisarm _ _).symm ▸ h)
  · exact h

/-- What happens once the requests on a link that is down are over. -/
def linkLostGoesOn (t : State) : State := hostForgotten t.holdQueues.dropWaiting

theorem enterHeadless_eq {s : State} (h : ∀ a ∈ waiters s, a.ofHost = true) (cause lost : Nat) : s.enterHeadless cause lost =
    linkLostGoesOn (if (hostLost s cause lost).on .HLP_STATUS_LINK_UP then hostLost s cause lost else (hostLost s cause lost).loseIssued) := by
  have hreset : (linkReset s cause).hlp = s.hlp := linkReset_keeps (p := State.hlp) (fun _ _ _ _ _ => rfl) (fun _ _ => rfl) s cause
  have hwaiters : waiters (linkReset s cause) = waiters s := by rw [waiters, hreset, waiters]
  have hclear := clearFilter_eq (t := linkReset s cause) (hwaiters ▸ h) lost
  rw [hwaiters] at hclear
  show linkLostGoesOn (if ((linkReset s cause).clearFilter lost).on .HLP_STATUS_LINK_UP then (linkReset s cause).clearFilter lost
    else ((linkReset s cause).clearFilter lost).loseIssued) = _
  rw [hclear]
  rfl

/-! ## What the loss of the host leaves -/

/-- The host is lost to u for the cause, no line is held or recalled, and time stands still. -/
def lostTo (s : State) (cause : Nat) (u : State) : Prop := showsLoss s cause u ∧ u.hlp.filter = [] ∧ u.hlp.recalls = [] ∧ u.time = s.time

theorem lostTo_of {s : State} {cause : Nat} {t u : State} (h : lostTo s cause t) (hrd : ∀ f ∈ statusFields, u.rd f = t.rd f) (hhlp : u.hlp = t.hlp)
    (htime : u.time = t.time) : lostTo s cause u := by
  obtain ⟨hshows, hfilter, hrecalls, ht⟩ := h
  exact ⟨showsLoss_of_rd hrd hshows, hhlp ▸ hfilter, hhlp ▸ hrecalls, htime.trans ht⟩

theorem lostTo_hostLost (s : State) {cause : Nat} (hcause : cause < 2 ^ Field.HLP_STATUS_CAUSE.row.width) (lost : Nat) : lostTo s cause (hostLost s cause lost) := by
  have hstatus : ∀ f ∈ statusFields, f ∉ lineCounts ∧ f ≠ .HLP_DROP_COUNT_HEADLESS_DROPS := by decide
  refine ⟨showsLoss_of_rd (fun f hf => ?_) (showsLoss_linkReset s hcause), ?_, ?_, ?_⟩
  · obtain ⟨hlines, hdrops⟩ := hstatus f hf
    exact rd_hostLost_of_reset hlines hdrops s cause lost 0
  · rw [hlp_hostLost]
  · rw [hlp_hostLost]
  · exact hostLost_keeps (p := State.time) (fun _ _ _ _ _ => rfl) (fun _ _ _ _ => rfl) s cause lost

theorem rd_holdQueues {f : Field} (hf : f ≠ .QCTX_STATE) (t : State) (i : Nat) : t.holdQueues.rd f i = t.rd f i :=
  holdQueues_keeps (p := fun t => t.rd f i) (fun t v _ => rd_wr_ne t v (.inl hf.symm)) (fun _ _ => rfl) t

theorem rd_hostForgotten {f : Field} (hf : f ∉ hotRegs) (t : State) (i : Nat) : (hostForgotten t).rd f i = t.rd f i :=
  hostForgotten_keeps (p := fun t => t.rd f i) (blindToInvs.of_rd hf i) (fun _ _ _ => rfl) t

theorem lostTo_holdQueues {s t : State} {cause : Nat} (h : lostTo s cause t) : lostTo s cause t.holdQueues :=
  lostTo_of h (fun f hf => rd_holdQueues (ne_of_mem_of_not_mem hf (by decide)) t 0) (holdQueues_keeps (p := State.hlp) (fun _ _ _ => rfl) (fun _ _ => rfl) t)
    (holdQueues_keeps (p := State.time) (fun _ _ _ => rfl) (fun _ _ => rfl) t)

theorem lostTo_hostForgotten {s t : State} {cause : Nat} (h : lostTo s cause t) : lostTo s cause (hostForgotten t) := by
  have hstatus : ∀ f ∈ statusFields, f ∉ hotRegs := by decide
  exact lostTo_of h (fun f hf => rd_hostForgotten (hstatus f hf) t 0)
    (hostForgotten_keeps (p := State.hlp) ⟨fun _ _ _ _ _ => rfl, fun _ _ _ _ _ => rfl⟩ (fun _ _ _ => rfl) t)
    (hostForgotten_keeps (p := State.time) ⟨fun _ _ _ _ _ => rfl, fun _ _ _ _ _ => rfl⟩ (fun _ _ _ => rfl) t)

theorem sameMem_hostForgotten (t : State) : sameMem t (hostForgotten t) :=
  sameMem_of_eq (hostForgotten_keeps (p := State.hbm) ⟨fun _ _ _ _ _ => rfl, fun _ _ _ _ _ => rfl⟩ (fun _ _ _ => rfl) t)
    (hostForgotten_keeps (p := State.wbuf) ⟨fun _ _ _ _ _ => rfl, fun _ _ _ _ _ => rfl⟩ (fun _ _ _ => rfl) t)

theorem reqs_hostForgotten (t : State) : (hostForgotten t).reqs = t.reqs :=
  hostForgotten_keeps (p := State.reqs) ⟨fun _ _ _ _ _ => rfl, fun _ _ _ _ _ => rfl⟩ (fun _ _ _ => rfl) t

/-- The refused accesses are counted. -/
theorem counts_refuseAll {t : State} {l : List LineAct} (hl : l ≠ []) : (refuseAll t l).rd .HLP_DROP_COUNT_HEADLESS_DROPS =
    min (t.rd .HLP_DROP_COUNT_HEADLESS_DROPS + l.length) (2 ^ Field.HLP_DROP_COUNT_HEADLESS_DROPS.row.width - 1) := by
  have hone (t : State) (a : LineAct) : (t.dropHost.refuseHost a).rd .HLP_DROP_COUNT_HEADLESS_DROPS =
      min (t.rd .HLP_DROP_COUNT_HEADLESS_DROPS + 1) (2 ^ Field.HLP_DROP_COUNT_HEADLESS_DROPS.row.width - 1) := by
    refine Eq.trans ?_ (rd_bump_same t .HLP_DROP_COUNT_HEADLESS_DROPS 0 1)
    cases a <;> rfl
  induction l generalizing t with
  | nil => exact absurd rfl hl
  | cons a l ih =>
    cases l with
    | nil => exact hone t a
    | cons b l =>
      refine (ih (t := t.dropHost.refuseHost a) (List.cons_ne_nil b l)).trans ?_
      rw [hone]
      simp only [List.length_cons]
      omega

/-- A refused read is answered with all ones. -/
theorem windowData_refuseAll {l : List LineAct} {hpa tag : Nat} (h : .read hpa tag ∈ l) (t : State) :
    .windowData tag (List.replicate 64 0xFF) true ∈ (refuseAll t l).sent := by
  have hkeep (t : State) (a : LineAct) (m : Msg) (hm : m ∈ t.sent) : m ∈ (t.dropHost.refuseHost a).sent := by
    cases a with
    | read _ _ => exact List.mem_cons_of_mem _ (List.mem_cons_of_mem _ hm)
    | _ => exact List.mem_cons_of_mem _ hm
  induction l generalizing t with
  | nil => exact absurd h List.not_mem_nil
  | cons a l ih =>
    rcases List.mem_cons.1 h with rfl | h
    · exact foldl_sent hkeep l (List.mem_cons_of_mem _ List.mem_cons_self)
    · exact ih h _

/-- The lines lost with the copies of host cores. -/
theorem lines_copiesLost (t : State) (lost : Nat) : let n := min lost (t.hlp.filter.filter HostLine.excl).length
    (n = 0 → ∀ f, (copiesLost t lost).rd f = t.rd f) ∧
    (0 < n → t.counts (copiesLost t lost) .HLP_DROP_COUNT_LOST_LINES 0 n ∧ (copiesLost t lost).rd .HLP_ERR_LOST_LINES = 1) := by
  intro n
  have hcopies {u : State} (hu : (if n = 0 then t else (t.bump .HLP_DROP_COUNT_LOST_LINES 0 n).wr .HLP_ERR_LOST_LINES 1) = u) (f : Field) :
      (copiesLost t lost).rd f = u.rd f := by
    rw [← hu]
    rfl
  refine ⟨fun h0 f => hcopies (if_pos h0) f, fun hpos => ?_⟩
  have hlost := hcopies (if_neg (Nat.pos_iff_ne_zero.1 hpos))
  refine ⟨(hlost _).trans ?_, (hlost _).trans (rd_wr_one _ _ _)⟩
  rw [rd_wr_ne _ _ (.inl (by decide)), rd_bump_same]

/-- With no request under way nothing is dropped. -/
theorem dropWaiting_of_none {t : State} (h : t.reqs = []) : t.dropWaiting = t := by
  simp only [State.dropWaiting, h, List.filter_nil, List.foldl_nil]

theorem loseIssued_of_none {t : State} (h : t.reqs.filter (fun r => r.toHost && r.issued) = []) : t.loseIssued = t := by
  rw [State.loseIssued, h, List.foldl_nil]

end Sys2Proof.Laws

/-! # A request that meets the loss of the host

A read is answered with slag, a write is dropped and ends its pour, and a completion record goes to the holding ring (R46, R47,
R270, R271). -/
namespace Sys2Proof.Laws

open Sys2Proof.Machine

/-! ## A dropped access and its fault (R229, R271) -/

/-- What each step of a fault that is not held brings about, the fault brings about. -/
theorem faultNow_induction {R : State → State → Prop} (hrefl : ∀ t, R t t) (htrans : ∀ t u v, R t u → R u v → R t v)
    (hwr : ∀ t f v i, R t (t.wr f v i)) (hmgmt : ∀ t x, R t (t.mgmtFault x)) (hwrite : ∀ t f bs, R t (t.faultWrite f bs)) (hlost : ∀ t f, R t (t.faultLost f))
    (hanswer : ∀ t a r, R t (t.answer a r)) (hend : ∀ t c status detail, R t (t.endPour c status detail))
    (t : State) (who : Requester) (c va : Nat) (acc : Acc) (kind level : Nat) : R t (t.faultNow who c va acc kind level) := by
  have hbad : R t (t.badAtlas kind) := by
    unfold State.badAtlas
    split
    · exact hwr _ _ _ _
    · exact hrefl t
  unfold State.faultNow
  generalize t.badAtlas kind = u at hbad
  refine htrans _ _ _ hbad ?_
  dsimp only
  split
  · exact hwr _ _ _ _
  · split
    · exact hmgmt _ _
    · split
      · exact hwr _ _ _ _
      · unfold State.faultEnd
        refine htrans _ _ _ ?_ (htrans _ _ _ (hanswer _ _ _) (hend _ _ _ _))
        split
        · exact hwrite _ _ _
        · exact hlost _ _

theorem reqs_faultLost (t : State) (f : Nat) : (t.faultLost f).reqs = t.reqs := by
  unfold State.faultLost
  dsimp only
  split
  · rfl
  · exact raise_keeps State.reqs (fun _ _ _ _ => rfl) ((t.bump .XL_FAULTS_UNRECORDED).wr .XL_ERR_FRING_FULL 1) _

theorem answer_keeps {β : Type} {p : State → β} (hxl : ∀ (t : State) x n, p { t with xl := x, nextId := n } = p t) (hsay : ∀ (t : State) m, p (t.say m) = p t)
    (t : State) (a : Ask) (r : Ans) : p (t.answer a r) = p t := by
  have hcut (l : List Ask) : p { t with xl := { t.xl with asks := l } } = p t := hxl t _ t.nextId
  have hgrant (u : State) (e : Nat) (l : Leaf) : p (u.keepGrant e l) = p u := hxl u _ _
  unfold State.answer
  split
  · exact hcut _
  · dsimp only
    split
    · exact (hsay _ _).trans ((hgrant _ _ _).trans (hcut _))
    · exact (hsay _ _).trans (hcut _)
  · exact hcut _

/-- A fault makes no request. -/
theorem reqs_faultNow (t : State) (who : Requester) (c va : Nat) (acc : Acc) (kind level : Nat) : (t.faultNow who c va acc kind level).reqs ⊆ t.reqs := by
  refine faultNow_induction (R := fun t u => u.reqs ⊆ t.reqs) (fun t => List.Subset.refl _) (fun t u v h h' => List.Subset.trans h' h)
    (fun t _ _ _ => List.Subset.refl _) (fun t x => ?_) (fun t f bs => ?_) (fun t f => ?_) (fun t a r => ?_) (fun t c status detail => (calmReqs_endPour t c status detail).2) t who c va acc kind level
  · exact (ras_reqs t _).symm ▸ List.Subset.refl _
  · rw [State.faultWrite, ownWrite_keeps (p := State.reqs) (fun _ _ _ _ _ _ => rfl) fun u => reqs_fire u _]
    exact List.Subset.refl _
  · rw [reqs_faultLost]
    exact List.Subset.refl _
  · rw [answer_keeps (p := State.reqs) (fun _ _ _ => rfl) fun _ _ => rfl]
    exact List.Subset.refl _

theorem hlp_fire (t : State) (p : Purpose) : (t.fire p).hlp = t.hlp := by
  have hraise (u : State) (n : Nat) : (u.raise n).hlp = u.hlp := raise_keeps State.hlp (fun _ _ _ _ => rfl) u n
  unfold State.fire
  split
  · exact hraise _ _
  · exact hraise _ _
  · exact hraise _ _
  all_goals rfl

theorem storeBlock_of_none {t : State} (hfilter : t.hlp.filter = []) (hwaits : t.hlp.waits = []) (ls : List Nat) : t.storeBlock ls = none := by
  unfold State.storeBlock
  rw [hwaits]
  refine List.find?_eq_none.2 fun l _ hl => ?_
  rw [State.hostHeld, hfilter] at hl
  exact absurd hl Bool.false_ne_true

/-- Where no host core holds a line and none is waited for, the block's own stores wait for nothing. -/
theorem hlp_ownWrite {t : State} (hfilter : t.hlp.filter = []) (hwaits : t.hlp.waits = []) (a : Nat) (bs : List Byte) (id : Nat) (p : Purpose) (c : Nat)
    (root : Option PourId) : (t.ownWrite a bs id p c root).hlp = t.hlp := by
  have hput : t.ownWrite a bs id p c root = (t.overPut (cellsAt a bs)).fire p := by
    simp only [State.ownWrite, State.homeStore, storeBlock_of_none hfilter hwaits]
  rw [hput, hlp_fire, overPut_hlp]

theorem hlp_ras {t : State} (hfilter : t.hlp.filter = []) (hwaits : t.hlp.waits = []) (r : RasRec) : (t.ras r).hlp = t.hlp := by
  unfold State.ras State.errRecord
  dsimp only
  split
  · rfl
  · split
    · exact hlp_ownWrite hfilter hwaits _ _ _ _ _ _
    · rfl

/-- Neither does a fault wait for a line then. -/
theorem hlp_faultNow {t : State} (hfilter : t.hlp.filter = []) (hwaits : t.hlp.waits = []) (who : Requester) (c va : Nat) (acc : Acc) (kind level : Nat) :
    (t.faultNow who c va acc kind level).hlp = t.hlp := by
  refine faultNow_induction (R := fun t u => t.hlp.filter = [] → t.hlp.waits = [] → u.hlp = t.hlp) (fun _ _ _ => rfl)
    (fun t u v h h' hf hw => (h' (h hf hw ▸ hf) (h hf hw ▸ hw)).trans (h hf hw)) (fun _ _ _ _ _ _ => rfl) (fun t x hf hw => hlp_ras hf hw _)
    (fun t f bs hf hw => hlp_ownWrite (t := ((t.wr .XL_FRING_PTRS_WR_IDX _ f).adv .XL_FLASK_NEXT_ID f).bump .XL_FAULTS_RECORDED) hf hw _ _ _ _ _ _)
    (fun t f hf hw => ?_) (fun t a r hf hw => answer_keeps (p := State.hlp) (fun _ _ _ => rfl) (fun _ _ => rfl) t a r)
    (fun t c status detail hf hw => blindToStop.endPour (p := State.hlp) ⟨fun _ _ _ _ _ _ _ _ _ _ _ => rfl, fun _ _ _ => rfl, fun _ _ _ _ _ => rfl⟩ t c status detail)
    t who c va acc kind level hfilter hwaits
  unfold State.faultLost
  dsimp only
  split
  · rfl
  · exact raise_keeps State.hlp (fun _ _ _ _ => rfl) ((t.bump .XL_FAULTS_UNRECORDED).wr .XL_ERR_FRING_FULL 1) _

/-- A fault of a pour that runs ends it with status 3. -/
theorem faultNow_ends {t : State} {c : Nat} {x : Ctx} (hx : t.ctx? c = some x) (hroot : x.root = x.num) (hmgmt : x.mgmt = false) (hstopped : x.stopped = false)
    (hcause : x.cause = none) (hstamp : x.stamp = .none) (who : Requester) (va : Nat) (acc : Acc) {kind : Nat}
    (hkind : [xfFLASK, xfBAD_ENTRY, xfRANGE, xfSEAL].contains kind = false) (level : Nat) :
    ∃ y, (t.faultNow who c va acc kind level).ctx? x.num = some y ∧ y.cause = some { kind := .error, status := 3, detail := kind } := by
  obtain rfl := ctx_num hx
  have hfailing : t.failing x = false := by
    rw [State.failing, hstopped, State.rootOf, hroot, hx, Option.getD_some, hcause]
    rfl
  obtain ⟨a, ha⟩ : ∃ a, t.faultNow who x.num va acc kind level = t.faultEnd a x kind level := by
    unfold State.faultNow State.badAtlas
    rw [if_neg (by rw [hkind]; decide)]
    dsimp only
    rw [hx]
    exact ⟨_, (if_neg (by rw [hmgmt]; decide)).trans (if_neg (by rw [hfailing]; decide))⟩
  have hctxs (f : Nat) (bs : List Byte) (u : State) (hu : u = if t.faultRoom f then t.faultWrite f bs else t.faultLost f) (r : Ans) :
      ((u.answer a r).ctx? x.num) = some x := by
    rw [answer_keeps (p := fun u : State => u.ctx? x.num) (fun _ _ _ => rfl) fun _ _ => rfl, ← hx, hu]
    have hraise (u : State) (n : Nat) : (u.raise n).ctx? x.num = u.ctx? x.num := raise_keeps (fun u => u.ctx? x.num) (fun _ _ _ _ => rfl) u n
    split
    · exact ownWrite_keeps (p := fun u : State => u.ctx? x.num) (fun _ _ _ _ _ _ => rfl) (q := .event (0x2280 + f)) (fun u => hraise u _) _ _ _ _ _ _
    · unfold State.faultLost
      dsimp only
      split
      · rfl
      · exact hraise ((t.bump .XL_FAULTS_UNRECORDED).wr .XL_ERR_FRING_FULL 1) _
  rw [ha, State.faultEnd]
  rw [State.endPour, hctxs _ _ _ rfl]
  dsimp only
  rw [hroot]
  exact cause_endTree (hctxs _ _ _ rfl _) hcause hstamp _

/-- An invalidation marks pinned entries, and leaves the causes of the ends of pours. -/
theorem ctxs_startInv (t : State) (v : Inv) : ∃ g : Ctx → Ctx, (∀ y, (g y).num = y.num ∧ (g y).cause = y.cause) ∧ (t.startInv v).ctxs = t.ctxs.map g := by
  let w : Inv := { v with started := true, mark := t.nextId, acks := List.range 512, kernels := t.physWaits v }
  let stalePins (x : Ctx) : Ctx :=
    { x with pins := updAll x.pins (fun p => w.hits p.leaf.slot p.leaf.va p.leaf.size p.leaf.tier) (fun p => { p with stale := true }) }
  refine ⟨stalePins, fun y => ⟨rfl, rfl⟩, ?_⟩
  have hlast (u : State) (ls : List Lane) (m : Msg) : (State.say { u with lanes := ls } m).ctxs = u.ctxs := rfl
  refine (hlast _ _ _).trans ((disarmIf_of_hot (p := State.ctxs) (fun _ _ _ _ _ => rfl) _ _).trans ?_)
  exact List.map_congr_left fun _ _ => rfl

theorem cause_hostForgotten {t : State} {n : Nat} {y : Ctx} (h : t.ctx? n = some y) : ∃ z, (hostForgotten t).ctx? n = some z ∧ z.cause = y.cause := by
  have hdisarm (u : State) : (u.disarmIf fun _ => true).ctx? n = u.ctx? n := disarmIf_of_hot (p := fun u : State => u.ctx? n) (fun _ _ _ _ _ => rfl) u _
  obtain ⟨v, u, hmade, hu⟩ : ∃ v, ∃ u : State, (t.orphanAll.invalidate .headless t.orphanAll.atlases none true = u.startInv v ∨
      t.orphanAll.invalidate .headless t.orphanAll.atlases none true = u) ∧ u.ctx? n = some y := by
    simp only [State.invalidate]
    split
    · exact ⟨_, _, .inl rfl, h⟩
    · exact ⟨{ id := 0, source := .headless, slots := [], range := none }, _, .inr rfl, h⟩
  have hkept : ∃ z, (t.orphanAll.invalidate .headless t.orphanAll.atlases none true).ctx? n = some z ∧ z.cause = y.cause := by
    rcases hmade with hmade | hmade
    · obtain ⟨g, hg, hctxs⟩ := ctxs_startInv u v
      have hmap := ctx_map u n fun y => (hg y).1
      rw [hu, Option.map_some] at hmap
      refine ⟨g y, ?_, (hg y).2⟩
      rw [hmade, State.ctx?, hctxs]
      exact hmap
    · exact ⟨y, hmade ▸ hu, rfl⟩
  obtain ⟨z, hz, hcause⟩ := hkept
  exact ⟨z, (hdisarm _).trans hz, hcause⟩

/-! ## The fate of one request -/

/-- What becomes of a host request that is not on ZCI. -/
def requestDropped (t : State) (r : Req) : State :=
  match r.kind, r.purpose with
  | .write cells, .record _ _ => (t.dropReq r.id).holdRecord r.id (cells.map Prod.snd)
  | .write _, _ => (t.ackWrite r).hostDropped r.who (t.holderOf r) r.va
  | _, _ => t.finishSlag r

section
variable {s : State} {r : Req} {cause lost : Nat}

theorem reqs_dropReq_one {t : State} (h : t.reqs = [r]) : (t.dropReq r.id).reqs = [] := by
  show t.reqs.filter (fun x => x.id != r.id) = []
  rw [h]
  simp

theorem req_of_none {t : State} (h : t.reqs = []) (id : Nat) : t.req? id = none := by
  rw [State.req?, h]
  rfl

/-- The only request, not on ZCI, is dropped. -/
theorem dropWaiting_of_one {t : State} (h : t.reqs = [r]) (hhost : r.toHost = true) (hissued : r.issued = false) (hgone : (requestDropped t r).reqs = []) :
    t.dropWaiting = requestDropped t r := by
  have hfirst : (t.reqs.filter (fun r => r.toHost && !r.issued)) = [r] := by
    rw [h, List.filter_cons_of_pos (by rw [hhost, hissued]; rfl), List.filter_nil]
  unfold State.dropWaiting
  rw [hfirst]
  show (List.foldl _ (requestDropped t r) ((requestDropped t r).reqs.filter _)) = _
  rw [hgone, List.filter_nil, List.foldl_nil]

/-- The only request, one of a single piece on ZCI, stays. -/
theorem dropWaiting_of_issued {t : State} (h : t.reqs = [r]) (hissued : r.issued = true) (hparts : r.parts = []) : t.dropWaiting = t := by
  have hfirst : (t.reqs.filter (fun r => r.toHost && !r.issued)) = [] := by
    rw [h, List.filter_cons_of_neg (by rw [hissued]; simp), List.filter_nil]
  have hsecond : (t.reqs.filter (fun r => r.toHost && r.parts.any (fun p => !p.sent))) = [] := by
    rw [h, List.filter_cons_of_neg (by rw [hparts]; simp), List.filter_nil]
  unfold State.dropWaiting
  rw [hfirst]
  show (List.foldl _ t (t.reqs.filter _)) = t
  rw [hsecond, List.foldl_nil]

/-- A host that is lost with nothing waiting for it: the request meets this state. -/
def lossMet (s : State) (cause lost : Nat) : State := (hostLost s cause lost).holdQueues

theorem lossMet_keeps {β : Type} {p : State → β} (hwr : ∀ (t : State) f v i, f ∈ lossFields → p (t.wr f v i) = p t)
    (hunits : ∀ (t : State) e h sent qm, p { t with ev := e, hlp := h, sent := sent, qm := qm } = p t) (s : State) (cause lost : Nat) :
    p (lossMet s cause lost) = p s :=
  (holdQueues_keeps (fun t v i => hwr t _ v i (by decide)) (fun t q => hunits t t.ev t.hlp t.sent q) _).trans
    (hostLost_keeps hwr (fun t e h sent => hunits t e h sent t.qm) s cause lost)

theorem rd_lossMet {f : Field} (hf : f ∉ lossFields) (s : State) (cause lost i : Nat) : (lossMet s cause lost).rd f i = s.rd f i :=
  lossMet_keeps (p := fun t => t.rd f i) (fun t _ v _ hg => rd_wr_ne t v (.inl (ne_of_mem_of_not_mem hg hf))) (fun _ _ _ _ _ => rfl) s cause lost

theorem hlp_lossMet (s : State) (cause lost : Nat) : (lossMet s cause lost).hlp =
    { s.hlp with filter := [], recalls := [], soft := [], waits := [], asleep := [], leaving := [] } :=
  (holdQueues_keeps (p := State.hlp) (fun _ _ _ => rfl) (fun _ _ => rfl) _).trans (hlp_hostLost s cause lost)

theorem lostTo_lossMet (s : State) {cause : Nat} (hcause : cause < 2 ^ Field.HLP_STATUS_CAUSE.row.width) (lost : Nat) : lostTo s cause (lossMet s cause lost) :=
  lostTo_holdQueues (lostTo_hostLost s hcause lost)

theorem reqs_lossMet (s : State) (cause lost : Nat) : (lossMet s cause lost).reqs = s.reqs :=
  lossMet_keeps (p := State.reqs) (fun _ _ _ _ _ => rfl) (fun _ _ _ _ _ => rfl) s cause lost

/-- An entry to HEADLESS that loses nothing on ZCI. -/
theorem enterHeadless_of_kept (hhost : ∀ a ∈ waiters s, a.ofHost = true) (hzci : s.on .HLP_STATUS_LINK_UP = true ∨ s.reqs.filter (fun r => r.toHost && r.issued) = []) :
    s.enterHeadless cause lost = hostForgotten (lossMet s cause lost).dropWaiting := by
  rw [enterHeadless_eq hhost]
  have hreqs : (hostLost s cause lost).reqs = s.reqs := hostLost_keeps (p := State.reqs) (fun _ _ _ _ _ => rfl) (fun _ _ _ _ => rfl) s cause lost
  rcases hzci with hup | hnone
  · rw [if_pos (by rw [State.on, rd_hostLost (by decide)]; exact hup)]
    rfl
  · rw [loseIssued_of_none (by rw [hreqs]; exact hnone), ite_self]
    rfl

end

end Sys2Proof.Laws

/-! # The link and its loss

The outcomes of a loss of the host, and the settlement of their statement (R28, R45 to R49). -/
namespace Sys2Proof.Laws

open Sys2Proof.Machine

section
variable {s t : State} {r : Req} {cause lost : Nat}

/-! ## Steps of a single request -/

/-- A read that is given up is answered with slag and counted. -/
theorem finishSlag_lost (hreqs : t.reqs = [r]) (hlost : lostTo s cause t) (hrd : t.rd .POISON_RD = s.rd .POISON_RD) (htier : r.tier = 1)
    (hplain : r.purpose = .plain) : (t.finishSlag r).reqs = [] ∧ lostTo s cause (t.finishSlag r) ∧ s.counts (t.finishSlag r) .POISON_RD ∧
      .readData r.id (slagBytes r.kind.bytes) true ∈ (t.finishSlag r).sent := by
  have hstatus : ∀ f ∈ statusFields, Field.POISON_RD ≠ f := by decide
  rw [finishSlag_plain hplain, if_neg (by omega)]
  refine ⟨reqs_dropReq_one (t := t.bump .POISON_RD) hreqs, lostTo_of hlost (fun f hf => rd_bump_ne t 1 (.inl (hstatus f hf))) rfl rfl, ?_, List.mem_cons_self⟩
  exact (rd_bump_same t _ _ _).trans (by rw [hrd])

/-- A write that is given up is acknowledged. -/
theorem lostTo_ackWrite (hplain : r.purpose = .plain) (hlost : lostTo s cause t) : lostTo s cause (t.ackWrite r) := by
  obtain ⟨-, -, hregs, -⟩ := ackWrite_plain hplain t
  exact lostTo_of hlost (fun f _ => hregs f 0) (ackWrite_plain_keeps (v := State.hlp) hplain (fun _ _ _ _ _ => rfl) (fun _ _ => rfl) (fun _ _ => rfl) t)
    (ackWrite_plain_keeps (v := State.time) hplain (fun _ _ _ _ _ => rfl) (fun _ _ => rfl) (fun _ _ => rfl) t)

theorem reqs_ackWrite_one (hplain : r.purpose = .plain) (hreqs : t.reqs = [r]) : (t.ackWrite r).reqs = [] :=
  (ackWrite_plain_keeps (v := State.reqs) hplain (fun _ _ _ _ _ => rfl) (fun _ _ => rfl) (fun _ _ => rfl) t).trans (reqs_dropReq_one hreqs)

/-- A write that is dropped is counted, and its pour ends with status 3. -/
theorem hostDropped_lost (hlost : lostTo s cause t) (hwaits : t.hlp.waits = []) (hreqs : t.reqs = []) (who : Requester) (c va : Nat) :
    let u := t.hostDropped who c va
    u.reqs = [] ∧ lostTo s cause u ∧ t.counts u .HAP_DROP_HOST_DROPS ∧ u.rd .HAP_ERR_HOST_DROP = 1 ∧
      ∀ x, t.ctx? c = some x → x.root = x.num → x.mgmt = false → x.stopped = false → x.cause = none → x.stamp = .none →
        ∃ y, u.ctx? x.num = some y ∧ y.cause.map EndCause.status = some 3 := by
  intro u
  let v : State := (t.bump .HAP_DROP_HOST_DROPS).wr .HAP_ERR_HOST_DROP 1
  have hrd {f : Field} (hstop : f ∉ stopRegs) (hfault : f ∉ faultRegs) : u.rd f = v.rd f :=
    (blindToFault.of_rd hstop hfault 0).faultNow v who c va .write xfHOST_ABSENT 0xF
  have hstatus : ∀ f ∈ statusFields, f ∉ stopRegs ∧ f ∉ faultRegs ∧ Field.HAP_DROP_HOST_DROPS ≠ f ∧ Field.HAP_ERR_HOST_DROP ≠ f := by decide
  obtain ⟨-, hfilter, -, -⟩ := id hlost
  refine ⟨?_, ?_, ?_, ?_, fun x hx hroot hmgmt hstopped hcause hstamp => ?_⟩
  · have hsub := reqs_faultNow v who c va .write xfHOST_ABSENT 0xF
    rw [show v.reqs = [] from hreqs] at hsub
    exact List.subset_nil.1 hsub
  · refine lostTo_of hlost (fun f hf => ?_) (hlp_faultNow (t := v) hfilter hwaits who c va .write xfHOST_ABSENT 0xF) ?_
    · obtain ⟨hstop, hfault, hdrop, herr⟩ := hstatus f hf
      rw [hrd hstop hfault, rd_wr_ne _ _ (.inl herr), rd_bump_ne _ _ (.inl hdrop)]
    · exact blindToFault.faultNow (p := State.time) ⟨⟨fun _ _ _ _ _ _ _ _ _ _ _ => rfl, fun _ _ _ => rfl, fun _ _ _ _ _ => rfl⟩, fun _ _ _ _ _ _ => rfl,
        fun _ _ _ _ _ => rfl, fun _ _ _ _ _ => rfl⟩ v who c va .write xfHOST_ABSENT 0xF
  · rw [State.counts, hrd (by decide) (by decide), rd_wr_ne _ _ (.inl (by decide)), rd_bump_same]
  · rw [hrd (by decide) (by decide), rd_wr_one]
  · obtain ⟨y, hy, hend⟩ := faultNow_ends (t := v) hx hroot hmgmt hstopped hcause hstamp who va .write (kind := xfHOST_ABSENT) (by decide) 0xF
    exact ⟨y, hy, by rw [hend]; rfl⟩

/-- A completion record goes to the holding ring. -/
theorem holdRecord_lost (hlost : lostTo s cause t) (hwaits : t.hlp.waits = []) (hfull : t.holdFull = false) (hwait : t.hlp.holdWait = []) (hreqs : t.reqs = [])
    (i : Nat) (bs : List Byte) : let u := t.holdRecord i bs
    u.reqs = [] ∧ lostTo s cause u ∧ t.landed u (t.rd .HLP_HOLD_BASE_BASE * 4096 + t.rd .HLP_HOLD_PTRS_WR_IDX * 32) bs := by
  intro u
  have hparked : t.parkedFor .hold = false := by
    rw [State.parkedFor, hwaits]
    rfl
  have hown : u = t.ownWrite (t.rd .HLP_HOLD_BASE_BASE * 4096 + t.rd .HLP_HOLD_PTRS_WR_IDX * 32) bs i .hold :=
    if_neg (by rw [hfull, hparked, hwait]; decide)
  obtain ⟨-, hfilter, -, -⟩ := id hlost
  have hstatus : ∀ f ∈ statusFields, Field.HLP_HOLD_PTRS_WR_IDX ≠ f := by decide
  rw [hown]
  refine ⟨?_, lostTo_of hlost (fun f hf => ?_) (hlp_ownWrite hfilter hwaits _ _ _ _ _ _) ?_, landed_ownWrite t _ bs i (.inr rfl)⟩
  · exact (ownWrite_keeps (p := State.reqs) (fun _ _ _ _ _ _ => rfl) (q := .hold) (fun _ => rfl) _ _ _ _ _ _).trans hreqs
  · exact ownWrite_keeps (p := fun t => t.rd f) (fun _ _ _ _ _ _ => rfl) (q := .hold) (fun t => rd_wr_ne t _ (.inl (hstatus f hf))) _ _ _ _ _ _
  · exact ownWrite_keeps (p := State.time) (fun _ _ _ _ _ _ => rfl) (q := .hold) (fun _ => rfl) _ _ _ _ _ _

end

/-! ## Outcomes of an entry to HEADLESS -/

section
variable {s : State} {r : Req} {cause lost : Nat}

/-- The only request, not on ZCI. -/
theorem enterHeadless_of_unissued (hreqs : s.reqs = [r]) (hnone : waiters s = []) (htier : r.tier = 1) (hfin : r.fin = none) (hissued : r.issued = false)
    (hgone : (requestDropped (lossMet s cause lost) r).reqs = []) : s.enterHeadless cause lost = hostForgotten (requestDropped (lossMet s cause lost) r) := by
  refine (enterHeadless_of_kept (by rw [hnone]; exact fun a ha => absurd ha List.not_mem_nil) (.inr ?_)).trans ?_
  · rw [hreqs, List.filter_cons_of_neg (by rw [hissued]; simp), List.filter_nil]
  · rw [dropWaiting_of_one ((reqs_lossMet s cause lost).trans hreqs) (by rw [Req.toHost, htier, hfin]; rfl) hissued hgone]

variable (hcause : cause < 2 ^ Field.HLP_STATUS_CAUSE.row.width)
include hcause

/-- With nothing under way. -/
theorem enterHeadless_idle (hreqs : s.reqs = []) (hhost : ∀ a ∈ waiters s, a.ofHost = true) : let u := s.enterHeadless cause lost
    lostTo s cause u ∧ sameMem s u ∧ (∀ f, f ∉ hotRegs → f ≠ .QCTX_STATE → u.rd f = (hostLost s cause lost).rd f) ∧
      ∀ m ∈ (hostLost s cause lost).sent, m ∈ u.sent := by
  intro u
  have hu : u = hostForgotten (lossMet s cause lost) := by
    refine (enterHeadless_of_kept hhost (.inr (by rw [hreqs]; rfl))).trans ?_
    rw [dropWaiting_of_none (by rw [reqs_lossMet, hreqs])]
  rw [hu]
  have hmem : sameMem s (lossMet s cause lost) := sameMem_of_eq (lossMet_keeps (p := State.hbm) (fun _ _ _ _ _ => rfl) (fun _ _ _ _ _ => rfl) s cause lost)
    (lossMet_keeps (p := State.wbuf) (fun _ _ _ _ _ => rfl) (fun _ _ _ _ _ => rfl) s cause lost)
  refine ⟨lostTo_hostForgotten (lostTo_lossMet s hcause lost), sameMem_trans hmem (sameMem_hostForgotten _), fun f hot hq => ?_, fun m hm => ?_⟩
  · exact (rd_hostForgotten hot _ 0).trans (rd_holdQueues hq _ 0)
  · refine mem_sent_hostForgotten ?_
    rw [lossMet, holdQueues_keeps (p := State.sent) (fun _ _ _ => rfl) fun _ _ => rfl]
    exact hm

variable (hreqs : s.reqs = [r]) (hnone : waiters s = [])
include hreqs hnone

/-- A read that is not on ZCI is answered with slag. -/
theorem enterHeadless_unissued_read (htier : r.tier = 1) (hfin : r.fin = none) (hissued : r.issued = false) (hread : r.isWrite = false)
    (hplain : r.purpose = .plain) : let u := s.enterHeadless cause lost
    lostTo s cause u ∧ u.req? r.id = none ∧ s.counts u .POISON_RD ∧ .readData r.id (slagBytes r.kind.bytes) true ∈ u.sent := by
  intro u
  have hdrop : requestDropped (lossMet s cause lost) r = (lossMet s cause lost).finishSlag r := by
    unfold requestDropped
    revert hread
    unfold Req.isWrite
    cases r.kind <;> simp
  obtain ⟨hgone, hlost, hcounts, hsent⟩ := finishSlag_lost ((reqs_lossMet s cause lost).trans hreqs) (lostTo_lossMet s hcause lost)
    (rd_lossMet (by decide) s cause lost 0) htier hplain
  have hu : u = hostForgotten ((lossMet s cause lost).finishSlag r) :=
    (enterHeadless_of_unissued hreqs hnone htier hfin hissued (hdrop ▸ hgone)).trans (congrArg hostForgotten hdrop)
  rw [hu]
  refine ⟨lostTo_hostForgotten hlost, req_of_none ((reqs_hostForgotten _).trans hgone) _, ?_, mem_sent_hostForgotten hsent⟩
  rw [State.counts, rd_hostForgotten (by decide)]
  exact hcounts

/-- A write that is not on ZCI is dropped. -/
theorem enterHeadless_unissued_write (htier : r.tier = 1) (hfin : r.fin = none) (hissued : r.issued = false) (hwrite : r.isWrite = true)
    (hplain : r.purpose = .plain) : let u := s.enterHeadless cause lost
    lostTo s cause u ∧ u.req? r.id = none ∧ s.counts u .HAP_DROP_HOST_DROPS ∧ u.rd .HAP_ERR_HOST_DROP = 1 ∧
      ∀ x, s.ctx? (s.holderOf r) = some x → x.root = x.num → x.mgmt = false → x.stopped = false → x.cause = none → x.stamp = .none →
        ∃ y, u.ctx? x.num = some y ∧ y.cause.map EndCause.status = some 3 := by
  intro u
  let t := lossMet s cause lost
  have hctxs : t.ctxs = s.ctxs := lossMet_keeps (p := State.ctxs) (fun _ _ _ _ _ => rfl) (fun _ _ _ _ _ => rfl) s cause lost
  have hholder : t.holderOf r = s.holderOf r := by
    unfold State.holderOf State.rootOf State.ctx?
    rw [hctxs]
  have hdrop : requestDropped t r = (t.ackWrite r).hostDropped r.who (s.holderOf r) r.va := by
    unfold requestDropped
    rw [hholder, hplain]
    revert hwrite
    unfold Req.isWrite
    cases r.kind <;> simp
  have hhlp : (t.ackWrite r).hlp = t.hlp := ackWrite_plain_keeps (v := State.hlp) hplain (fun _ _ _ _ _ => rfl) (fun _ _ => rfl) (fun _ _ => rfl) t
  obtain ⟨hgone, hlost, hcounts, herr, hends⟩ := hostDropped_lost (lostTo_ackWrite hplain (lostTo_lossMet s hcause lost)) (by rw [hhlp, hlp_lossMet])
    (reqs_ackWrite_one hplain ((reqs_lossMet s cause lost).trans hreqs)) r.who (s.holderOf r) r.va
  have hu : u = hostForgotten ((t.ackWrite r).hostDropped r.who (s.holderOf r) r.va) :=
    (enterHeadless_of_unissued hreqs hnone htier hfin hissued (hdrop ▸ hgone)).trans (congrArg hostForgotten hdrop)
  obtain ⟨-, -, hregs, -⟩ := ackWrite_plain hplain t
  rw [hu]
  refine ⟨lostTo_hostForgotten hlost, req_of_none ((reqs_hostForgotten _).trans hgone) _, ?_, (rd_hostForgotten (by decide) _ 0).trans herr,
    fun x hx hroot hmgmt hstopped hxcause hstamp => ?_⟩
  · rw [State.counts, rd_hostForgotten (by decide)]
    refine Eq.trans hcounts ?_
    rw [hregs, rd_lossMet (by decide)]
  · have hctx : (t.ackWrite r).ctx? (s.holderOf r) = some x := by
      rw [ackWrite_plain_keeps (v := fun t : State => t.ctx? (s.holderOf r)) hplain (fun _ _ _ _ _ => rfl) (fun _ _ => rfl) (fun _ _ => rfl) t]
      show t.ctx? _ = _
      rw [State.ctx?, hctxs]
      exact hx
    obtain ⟨y, hy, hstatus⟩ := hends x hctx hroot hmgmt hstopped hxcause hstamp
    obtain ⟨z, hz, hzcause⟩ := cause_hostForgotten hy
    exact ⟨z, hz, hzcause ▸ hstatus⟩

/-- A completion record that is not on ZCI goes to the holding ring. -/
theorem enterHeadless_unissued_record (htier : r.tier = 1) (hfin : r.fin = none) (hissued : r.issued = false) {cells : List (Nat × Byte)}
    (hkind : r.kind = .write cells) {q d : Nat} (hpurpose : r.purpose = .record q d) (hfull : s.holdFull = false) (hwait : s.hlp.holdWait = [])
    (hfilter : s.hlp.filter = []) : let u := s.enterHeadless cause lost
    lostTo s cause u ∧ u.req? r.id = none ∧ s.landed u (s.rd .HLP_HOLD_BASE_BASE * 4096 + s.rd .HLP_HOLD_PTRS_WR_IDX * 32) (cells.map Prod.snd) := by
  intro u
  let t := (lossMet s cause lost).dropReq r.id
  have hdrop : requestDropped (lossMet s cause lost) r = t.holdRecord r.id (cells.map Prod.snd) := by
    unfold requestDropped
    rw [hkind, hpurpose]
  have hrd {f : Field} (hf : f ∉ lossFields) : t.rd f = s.rd f := rd_lossMet hf s cause lost 0
  have hlostT : lostTo s cause t := lostTo_of (lostTo_lossMet s hcause lost) (fun _ _ => rfl) rfl rfl
  obtain ⟨hgone, hlost, hland⟩ := holdRecord_lost hlostT (by rw [show t.hlp = _ from hlp_lossMet s cause lost])
    (by rw [State.holdFull, State.holdCap, hrd (by decide), hrd (by decide), hrd (by decide)]; exact hfull)
    (by rw [show t.hlp = _ from hlp_lossMet s cause lost]; exact hwait) (reqs_dropReq_one ((reqs_lossMet s cause lost).trans hreqs)) r.id (cells.map Prod.snd)
  have hu : u = hostForgotten (t.holdRecord r.id (cells.map Prod.snd)) :=
    (enterHeadless_of_unissued hreqs hnone htier hfin hissued (hdrop ▸ hgone)).trans (congrArg hostForgotten hdrop)
  rw [hrd (by decide), hrd (by decide)] at hland
  rw [hu]
  have hwaits : s.hlp.waits = [] := List.map_eq_nil_iff.1 (List.append_eq_nil_iff.1 hnone).1
  have hhlp : t.hlp = _ := hlp_lossMet s cause lost
  refine ⟨lostTo_hostForgotten hlost, req_of_none ((reqs_hostForgotten _).trans hgone) _, fun _ hfits => ?_,
    fun hblock => absurd (storeBlock_of_none hfilter hwaits _) hblock⟩
  rw [sysRead_of_same (sameMem_hostForgotten _)]
  exact hland.1 (storeBlock_of_none (by rw [hhlp]) (by rw [hhlp]) _) hfits

end

/-! ## Requests that are on ZCI -/

section
variable {s : State} {r : Req} {cause lost : Nat}

/-- Once nothing is under way the entry ends. -/
theorem linkLostGoesOn_lost {d : State} (hd : d.reqs = []) (hlost : lostTo s cause d) : let u := linkLostGoesOn d
    lostTo s cause u ∧ u.reqs = [] ∧ (∀ f, f ∉ hotRegs → f ≠ .QCTX_STATE → u.rd f = d.rd f) ∧ ∀ m ∈ d.sent, m ∈ u.sent := by
  intro u
  have hreqs : d.holdQueues.reqs = [] := (holdQueues_keeps (p := State.reqs) (fun _ _ _ => rfl) (fun _ _ => rfl) d).trans hd
  have hu : u = hostForgotten d.holdQueues := congrArg hostForgotten (dropWaiting_of_none hreqs)
  rw [hu]
  refine ⟨lostTo_hostForgotten (lostTo_holdQueues hlost), (reqs_hostForgotten _).trans hreqs, fun f hot hq => (rd_hostForgotten hot _ 0).trans (rd_holdQueues hq d 0),
    fun m hm => mem_sent_hostForgotten ?_⟩
  rw [holdQueues_keeps (p := State.sent) (fun _ _ _ => rfl) fun _ _ => rfl]
  exact hm

/-- The request on a link that is down is lost first. -/
theorem enterHeadless_issued_down (hreqs : s.reqs = [r]) (hnone : waiters s = []) (htier : r.tier = 1) (hfin : r.fin = none) (hissued : r.issued = true) (hdown : s.on .HLP_STATUS_LINK_UP = false) :
    s.enterHeadless cause lost = linkLostGoesOn (if r.isWrite then ((hostLost s cause lost).bump .HLP_DROP_COUNT_LOST_WRITES).ackWrite r
      else (hostLost s cause lost).finishSlag r) := by
  have hmet : (hostLost s cause lost).reqs = [r] :=
    (hostLost_keeps (p := State.reqs) (fun _ _ _ _ _ => rfl) (fun _ _ _ _ => rfl) s cause lost).trans hreqs
  rw [enterHeadless_eq (by rw [hnone]; exact fun a ha => absurd ha List.not_mem_nil), if_neg]
  · unfold State.loseIssued
    rw [hmet, List.filter_cons_of_pos (by rw [Req.toHost, htier, hfin, hissued]; rfl), List.filter_nil]
    rfl
  · rw [State.on, rd_hostLost (by decide)]
    exact Bool.eq_false_iff.1 hdown

variable (hcause : cause < 2 ^ Field.HLP_STATUS_CAUSE.row.width) (hreqs : s.reqs = [r]) (hnone : waiters s = [])
include hcause hreqs hnone

/-- While ZCI is up a request on it stays. -/
theorem enterHeadless_issued_up (hissued : r.issued = true) (hparts : r.parts = []) (hup : s.on .HLP_STATUS_LINK_UP = true) : let u := s.enterHeadless cause lost
    lostTo s cause u ∧ u.reqs = [r] := by
  intro u
  have hmet : (lossMet s cause lost).reqs = [r] := (reqs_lossMet s cause lost).trans hreqs
  have hu : u = hostForgotten (lossMet s cause lost) :=
    (enterHeadless_of_kept (by rw [hnone]; exact fun a ha => absurd ha List.not_mem_nil) (.inl hup)).trans
      (congrArg hostForgotten (dropWaiting_of_issued hmet hissued hparts))
  rw [hu]
  exact ⟨lostTo_hostForgotten (lostTo_lossMet s hcause lost), (reqs_hostForgotten _).trans hmet⟩

theorem enterHeadless_lost_read (htier : r.tier = 1) (hfin : r.fin = none) (hissued : r.issued = true) (hdown : s.on .HLP_STATUS_LINK_UP = false)
    (hread : r.isWrite = false) (hplain : r.purpose = .plain) : let u := s.enterHeadless cause lost
    lostTo s cause u ∧ u.req? r.id = none ∧ s.counts u .POISON_RD ∧ .readData r.id (slagBytes r.kind.bytes) true ∈ u.sent := by
  intro u
  have hmet : (hostLost s cause lost).reqs = [r] :=
    (hostLost_keeps (p := State.reqs) (fun _ _ _ _ _ => rfl) (fun _ _ _ _ => rfl) s cause lost).trans hreqs
  have hu : u = linkLostGoesOn ((hostLost s cause lost).finishSlag r) := by
    refine (enterHeadless_issued_down hreqs hnone htier hfin hissued hdown).trans ?_
    rw [if_neg (by rw [hread]; decide)]
  obtain ⟨hgone, hlost, hcounts, hsent⟩ := finishSlag_lost hmet (lostTo_hostLost s hcause lost) (rd_hostLost (by decide) s cause lost 0) htier hplain
  obtain ⟨hlost', hreqs', hrd, hmsgs⟩ := linkLostGoesOn_lost hgone hlost
  rw [hu]
  refine ⟨hlost', req_of_none hreqs' _, ?_, hmsgs _ hsent⟩
  rw [State.counts, hrd _ (by decide) (by decide)]
  exact hcounts

theorem enterHeadless_lost_write (htier : r.tier = 1) (hfin : r.fin = none) (hissued : r.issued = true) (hdown : s.on .HLP_STATUS_LINK_UP = false)
    (hwrite : r.isWrite = true) (hplain : r.purpose = .plain) : let u := s.enterHeadless cause lost
    lostTo s cause u ∧ u.req? r.id = none ∧ s.counts u .HLP_DROP_COUNT_LOST_WRITES := by
  intro u
  let t := (hostLost s cause lost).bump .HLP_DROP_COUNT_LOST_WRITES
  have hstatus : ∀ f ∈ statusFields, Field.HLP_DROP_COUNT_LOST_WRITES ≠ f := by decide
  have hmet : t.reqs = [r] := (hostLost_keeps (p := State.reqs) (fun _ _ _ _ _ => rfl) (fun _ _ _ _ => rfl) s cause lost).trans hreqs
  have hu : u = linkLostGoesOn (t.ackWrite r) := by
    refine (enterHeadless_issued_down hreqs hnone htier hfin hissued hdown).trans ?_
    rw [if_pos hwrite]
  have hlost : lostTo s cause t := lostTo_of (lostTo_hostLost s hcause lost) (fun f hf => rd_bump_ne _ 1 (.inl (hstatus f hf))) rfl rfl
  obtain ⟨-, -, hregs, -⟩ := ackWrite_plain hplain t
  obtain ⟨hlost', hreqs', hrd, -⟩ := linkLostGoesOn_lost (reqs_ackWrite_one hplain hmet) (lostTo_ackWrite hplain hlost)
  rw [hu]
  refine ⟨hlost', req_of_none hreqs' _, ?_⟩
  rw [State.counts, hrd _ (by decide) (by decide), hregs]
  exact (rd_bump_same _ _ _ _).trans (by rw [rd_hostLost (by decide)])

end

/-! ## The events that lose the host (R45, R49) -/

section
variable {s : State} {lost : Nat} {P : State → Prop}

/-- The end of the period of a heartbeat that is watched. -/
theorem acts_hbLost (hready : s.ready = true) (haway : s.hostAway = false) (hperiod : s.rd .HLP_CTL_HB_PERIOD ≠ 0)
    (h : ∀ t, lostTo (s.elapse t) 1 ((s.elapse t).enterHeadless 1 lost) ∧ P ((s.elapse t).enterHeadless 1 lost)) : acts (.hbLost lost) s (fun u => P u ∧
      u.headless = true ∧ u.rd .HLP_STATUS_ATTACHED = 0 ∧ u.rd .HLP_STATUS_CAUSE = 1 ∧
      u.rd .HLP_STATUS_EPOCH = (s.rd .HLP_STATUS_EPOCH + 1) % 2 ^ 16 ∧ u.hlp.filter = [] ∧ u.hlp.recalls = [] ∧
      s.hlp.hbFrom + s.rd .HLP_CTL_HB_PERIOD * max (s.rd .HLP_CTL_HB_MISS) 1 * 100000 ≤ u.time) := by
  have hhb : s.hbLost lost = (s.elapse (s.hlp.hbFrom + s.rd .HLP_CTL_HB_PERIOD * max (s.rd .HLP_CTL_HB_MISS) 1 * 100000)).enterHeadless 1 lost :=
    if_neg (by simp [hready, haway, hperiod])
  generalize s.hlp.hbFrom + s.rd .HLP_CTL_HB_PERIOD * max (s.rd .HLP_CTL_HB_MISS) 1 * 100000 = t at hhb ⊢
  obtain ⟨⟨⟨hheadless, hattached, hcause, hepoch, -⟩, hfilter, hrecalls, htime⟩, hP⟩ := h t
  refine ⟨_, congrArg s.after hhb, hP, hheadless, hattached, hcause, hepoch, hfilter, hrecalls, ?_⟩
  rw [htime]
  exact Nat.le_max_right s.time t

/-- The end of 2 ms without ZCI. -/
theorem acts_linkDown (hready : s.ready = true) {t0 : Nat} (hdown : s.hlp.downAt = some t0) (hhere : s.headless = false)
    (h : ∀ t, let v : State := { s.elapse t with hlp := { s.hlp with downAt := none } }
      lostTo v 2 (v.enterHeadless 2 lost) ∧ P (v.enterHeadless 2 lost)) : acts (.linkDown lost) s (fun u => P u ∧
      u.headless = true ∧ u.rd .HLP_STATUS_ATTACHED = 0 ∧ u.rd .HLP_STATUS_CAUSE = 2 ∧
      u.rd .HLP_STATUS_EPOCH = (s.rd .HLP_STATUS_EPOCH + 1) % 2 ^ 16 ∧ u.hlp.filter = [] ∧ u.hlp.recalls = [] ∧ t0 + 2000000 ≤ u.time) := by
  have hlink : s.linkDown lost = ({ s.elapse (max t0 s.readyAt + 2000000) with hlp := { s.hlp with downAt := none } } : State).enterHeadless 2 lost := by
    unfold State.linkDown
    rw [hdown]
    exact (if_neg (by rw [hready]; decide)).trans (if_neg (Bool.eq_false_iff.1 hhere))
  have hbound : t0 + 2000000 ≤ max t0 s.readyAt + 2000000 := Nat.add_le_add_right (Nat.le_max_left _ _) _
  generalize max t0 s.readyAt + 2000000 = t at hlink hbound
  obtain ⟨⟨⟨hheadless, hattached, hcause, hepoch, -⟩, hfilter, hrecalls, htime⟩, hP⟩ := h t
  refine ⟨_, congrArg s.after hlink, hP, hheadless, hattached, hcause, hepoch, hfilter, hrecalls, ?_⟩
  rw [htime]
  exact hbound.trans (Nat.le_max_right s.time t)

end

/-- Settles O14 (R28, R45 to R49, R270, R271). -/
theorem theLinkAndItsLoss : Obligations.TheLinkAndItsLoss := by
  refine ⟨⟨fun s lost hready => ?_, fun s lost t0 hready hdown hhead => ?_, fun s hreqs hfetch hwaits hasleep hfilter hrecalls hdet hup => ?_⟩,
    fun s np p evt hphase => ?_, fun s hup hhere => ?_⟩
  · intro hb down modified lines waiters' refused
    have h1 : 1 < 2 ^ Field.HLP_STATUS_CAUSE.row.width := by decide
    have h2 : 2 < 2 ^ Field.HLP_STATUS_CAUSE.row.width := by decide
    have hboth {P : State → Prop} (h : ∀ (v : State) cause, cause < 2 ^ Field.HLP_STATUS_CAUSE.row.width → v.regs = s.regs → v.hbm = s.hbm → v.wbuf = s.wbuf →
        v.reqs = s.reqs → v.ctxs = s.ctxs → v.hlp.waits = s.hlp.waits → v.hlp.asleep = s.hlp.asleep → v.hlp.filter = s.hlp.filter →
        v.hlp.holdWait = s.hlp.holdWait →
        lostTo v cause (v.enterHeadless cause lost) ∧ P (v.enterHeadless cause lost)) : hb P ∧ down P :=
      ⟨fun haway hperiod => acts_hbLost hready haway hperiod fun t => h (s.elapse t) 1 h1 rfl rfl rfl rfl rfl rfl rfl rfl rfl,
        fun t0 hdown hhere => acts_linkDown hready hdown hhere fun t =>
          h { s.elapse t with hlp := { s.hlp with downAt := none } } 2 h2 rfl rfl rfl rfl rfl rfl rfl rfl rfl⟩
    have hrd {v : State} (hregs : v.regs = s.regs) (f : Field) : v.rd f = s.rd f := by rw [State.rd, hregs, State.rd]
    have hmem {v u : State} (hhbm : v.hbm = s.hbm) (hwbuf : v.wbuf = s.wbuf) (h : sameMem v u) : sameMem s u := sameMem_trans (sameMem_of_eq hhbm hwbuf) h
    have hnone {v : State} (hw : v.hlp.waits = s.hlp.waits) (ha : v.hlp.asleep = s.hlp.asleep) (hwaits : s.hlp.waits = []) (hasleep : s.hlp.asleep = []) :
        waiters v = [] := by
      rw [waiters, hw, ha, hwaits, hasleep]
      rfl
    refine ⟨fun hreqs hwaits hasleep => ?_, fun hreqs hne hhost => ?_, fun r hreqs htier hfin hparts hwaits hasleep => ?_⟩
    · refine hboth fun v cause hcause hregs hhbm hwbuf hr hctxs hw ha hf hhold => ?_
      obtain ⟨hlost, hsame, hkeep, -⟩ := enterHeadless_idle (lost := lost) hcause (hr.trans hreqs)
        (by rw [hnone hw ha hwaits hasleep]; exact fun a ha => absurd ha List.not_mem_nil)
      have hreset {f : Field} (hf : f ∉ resetFields) : (linkReset v cause).rd f = s.rd f := (rd_linkReset hf v cause 0).trans (hrd hregs f)
      have hshut : hostLost v cause lost = copiesLost (linkReset v cause) lost := by
        rw [hostLost, hnone hw ha hwaits hasleep]
        rfl
      have hfilter : (linkReset v cause).hlp.filter = s.hlp.filter :=
        (congrArg Hlp.filter (linkReset_keeps (p := State.hlp) (fun _ _ _ _ _ => rfl) (fun _ _ => rfl) v cause)).trans hf
      obtain ⟨hfew, hmany⟩ := lines_copiesLost (linkReset v cause) lost
      rw [hfilter] at hfew hmany
      refine ⟨hlost, hmem hhbm hwbuf hsame, fun h0 => ?_, fun hpos => ?_⟩
      · rw [hkeep _ (by decide) (by decide), hkeep _ (by decide) (by decide), hshut, hfew h0, hfew h0, hreset (by decide), hreset (by decide)]
        exact ⟨rfl, rfl⟩
      · obtain ⟨hcounts, herr⟩ := hmany hpos
        rw [State.counts, hkeep _ (by decide) (by decide), hkeep _ (by decide) (by decide), hshut]
        exact ⟨hcounts.trans (by rw [hreset (by decide)]), herr⟩
    · refine hboth fun v cause hcause hregs hhbm hwbuf hr hctxs hw ha hf hhold => ?_
      have hsame : waiters v = waiters' := by rw [waiters, hw, ha]
      obtain ⟨hlost, -, hkeep, hsent⟩ := enterHeadless_idle (lost := lost) hcause (hr.trans hreqs) (by rw [hsame]; exact hhost)
      refine ⟨hlost, ?_, fun hpa tag hm => hsent _ ?_⟩
      · rw [State.counts, hkeep _ (by decide) (by decide), hostLost, hsame, counts_refuseAll hne,
          copiesLost_keeps (p := fun t : State => t.rd .HLP_DROP_COUNT_HEADLESS_DROPS)
            (fun t _ v _ hg => rd_wr_ne t v (.inl (ne_of_mem_of_not_mem hg (by decide)))) (fun _ _ => rfl), rd_linkReset (by decide), hrd hregs]
      · rw [hostLost, hsame]
        exact windowData_refuseAll hm _
    · intro slag dropped
      refine ⟨fun hissued hread hplain => ?_, fun hissued hwrite hplain _ => ?_, fun cells q d hissued hkind hpurpose hfull hholds => ?_,
        fun hissued hup => ?_, fun hissued hdown hread hplain => ?_, fun hissued hdown hwrite hplain _ => ?_⟩
      · refine hboth fun v cause hcause hregs hhbm hwbuf hr hctxs hw ha hf hhold => ?_
        obtain ⟨hlost, hgone, hcounts, hsent⟩ := enterHeadless_unissued_read (lost := lost) hcause (hr.trans hreqs) (hnone hw ha hwaits hasleep) htier hfin hissued hread hplain
        exact ⟨hlost, hgone, by rw [State.counts, ← hrd hregs]; exact hcounts, hsent⟩
      · refine hboth fun v cause hcause hregs hhbm hwbuf hr hctxs hw ha hf hhold => ?_
        obtain ⟨hlost, hgone, hcounts, herr, hends⟩ := enterHeadless_unissued_write (lost := lost) hcause (hr.trans hreqs) (hnone hw ha hwaits hasleep) htier hfin hissued hwrite hplain
        have hholder : v.holderOf r = s.holderOf r := by
          unfold State.holderOf State.rootOf State.ctx?
          rw [hctxs]
        refine ⟨hlost, hgone, by rw [State.counts, ← hrd hregs]; exact hcounts, herr, fun x hx => hends x ?_⟩
        rw [hholder, State.ctx?, hctxs]
        exact hx
      · intro kept hempty
        refine hboth fun v cause hcause hregs hhbm hwbuf hr hctxs hw ha hf hhold => ?_
        have hwasfull : v.holdFull = s.holdFull := by rw [State.holdFull, State.holdCap, hrd hregs, hrd hregs, hrd hregs, State.holdFull, State.holdCap]
        obtain ⟨hlost, hgone, hland⟩ := enterHeadless_unissued_record (lost := lost) hcause (hr.trans hreqs) (hnone hw ha hwaits hasleep) htier hfin hissued hkind hpurpose
          (hwasfull.trans hfull) (hhold.trans hholds) (hf.trans hempty)
        rw [hrd hregs, hrd hregs] at hland
        refine ⟨hlost, hgone, fun _ => hland.1 ?_, fun hblock => absurd (storeBlock_of_none hempty hwaits _) hblock⟩
        exact storeBlock_of_none (hf.trans hempty) (hw.trans hwaits) _
      · refine (hboth (P := fun u => u.reqs = [r]) fun v cause hcause hregs hhbm hwbuf hr hctxs hw ha hf hhold => ?_).1
        exact enterHeadless_issued_up hcause (hr.trans hreqs) (hnone hw ha hwaits hasleep) hissued hparts (by rw [State.on, hrd hregs]; exact hup)
      · refine (hboth (P := slag) fun v cause hcause hregs hhbm hwbuf hr hctxs hw ha hf hhold => ?_).2
        obtain ⟨hlost, hgone, hcounts, hsent⟩ := enterHeadless_lost_read (lost := lost) hcause (hr.trans hreqs) (hnone hw ha hwaits hasleep) htier hfin hissued
          (by rw [State.on, hrd hregs]; exact hdown) hread hplain
        exact ⟨hlost, hgone, by rw [State.counts, ← hrd hregs]; exact hcounts, hsent⟩
      · refine (hboth (P := fun u => u.req? r.id = none ∧ s.counts u .HLP_DROP_COUNT_LOST_WRITES) fun v cause hcause hregs hhbm hwbuf hr hctxs hw ha hf hhold => ?_).2
        obtain ⟨hlost, hgone, hcounts⟩ := enterHeadless_lost_write (lost := lost) hcause (hr.trans hreqs) (hnone hw ha hwaits hasleep) htier hfin hissued
          (by rw [State.on, hrd hregs]; exact hdown) hwrite hplain
        exact ⟨hlost, hgone, by rw [State.counts, ← hrd hregs]; exact hcounts⟩
  · have hlink : s.linkDown lost = ({ s.elapse (max t0 s.readyAt + 2000000) with hlp := { s.hlp with downAt := none } } : State).adv .HLP_STATUS_EPOCH := by
      unfold State.linkDown
      rw [hdown]
      exact (if_neg (by rw [hready]; decide)).trans (if_pos hhead)
    have hbound : t0 + 2000000 ≤ max t0 s.readyAt + 2000000 := Nat.add_le_add_right (Nat.le_max_left _ _) _
    generalize max t0 s.readyAt + 2000000 = t at hlink hbound
    refine ⟨_, congrArg s.after hlink, sameMem_of_eq rfl rfl, hbound.trans (Nat.le_max_right s.time t), rfl, rfl, ?_, ?_⟩
    · exact rd_adv_same _ .HLP_STATUS_EPOCH 0 1
    · exact onlyRegs_adv (fun _ _ _ => rfl) List.mem_cons_self 1
  · have hnone : waiters s = [] := by rw [waiters, hwaits, hasleep]; rfl
    have hdetach : s.detachComplete = s.enterHeadless 3 0 := by
      refine if_pos ?_
      have hzci : s.onZci = [] := by rw [State.onZci, hreqs, hfetch]; rfl
      rw [hdet, hup, hzci, hfilter, hrecalls, hwaits]
      simp
    obtain ⟨⟨⟨hheadless, hattached, hcause, hepoch, hdetaching⟩, -⟩, hmem, -⟩ := enterHeadless_idle (s := s) (lost := 0) (cause := 3) (by decide) hreqs
      (by rw [hnone]; exact fun a ha => absurd ha List.not_mem_nil)
    exact ⟨_, congrArg s.after hdetach, hmem, hheadless, hattached, hdetaching, hcause, hepoch⟩
  · let t := (((s.wr .HLP_STATUS_LINK_UP 1).wr .HLP_CREDIT_NP_GRANTED np).wr .HLP_CREDIT_P_GRANTED p).wr .HLP_CREDIT_EVT_GRANTED evt
    let hlp : Hlp := { t.hlp with
      downAt := none, npCred := t.rd .HLP_CREDIT_NP_GRANTED, pCred := t.rd .HLP_CREDIT_P_GRANTED, evtCred := t.rd .HLP_CREDIT_EVT_GRANTED }
    have htrain : s.linkTrained np p evt = { t with hlp := hlp } := if_neg hphase
    refine ⟨_, congrArg s.done htrain, (sameMem_close_iff s _ _).2 (sameMem_of_eq rfl rfl), ?_, ?_, (rd_close s _ _ _).symm, (rd_close s _ _ _).symm, (rd_close s _ _ _).symm, rfl, ?_⟩
    · rw [rd_close]
      show t.rd .HLP_STATUS_LINK_UP = 1
      rw [rd_wr_ne _ _ (.inl (by decide)), rd_wr_ne _ _ (.inl (by decide)), rd_wr_ne _ _ (.inl (by decide)), rd_wr_one]
    · rw [rd_close]
      show t.rd .HLP_CREDIT_NP_GRANTED = _
      rw [rd_wr_ne _ _ (.inl (by decide)), rd_wr_ne _ _ (.inl (by decide)), rd_wr_same]
    · rw [onlyRegs_close_iff]
      show onlyRegs s t _
      exact onlyRegs_wr (onlyRegs_wr (onlyRegs_wr (onlyRegs_wr (onlyRegs_refl s _) (by simp) _) (by simp) _) (by simp) _) (by simp) _
  · let t : State := { s.wr .HLP_STATUS_LINK_UP 0 with hlp := { s.hlp with downAt := some s.time } }
    have hheadless : t.headless = false := by
      rw [State.headless, State.on, show t.rd .HLP_STATUS_HEADLESS = s.rd .HLP_STATUS_HEADLESS from rd_wr_ne s 0 (f := .HLP_STATUS_LINK_UP) (.inl (by decide))]
      exact hhere
    have hlost : s.linkLost = t := (if_neg (by rw [hup]; decide)).trans (if_neg (Bool.eq_false_iff.1 hheadless))
    refine ⟨t, congrArg s.after hlost, sameMem_of_eq rfl rfl, ?_, rfl, ?_⟩
    · exact (rd_wr_same s .HLP_STATUS_LINK_UP 0 0).trans rfl
    · exact onlyRegs_wr (onlyRegs_refl s _) List.mem_cons_self 0

end Sys2Proof.Laws

/-! # Quenches

A FLASK_QUENCH, its drain limit and its quench point (R426 to R432). -/
namespace Sys2Proof.Laws

open Sys2Proof.Machine

theorem rd_reply_other {f : Field} (hf : f ∉ replyNames) (t : State) (n st : Nat) (outs : List Nat) (i : Nat) :
    (t.reply n st outs).rd f i = t.rd f i :=
  reply_keeps_others (p := fun t : State => t.rd f i) (fun t _ v _ hg => rd_wr_ne t v (.inl fun h => hf (h ▸ hg))) t n st outs

/-- Restarting what lanes hold leaves the reply of a slot alone. -/
theorem replied_pump {t : State} {n st : Nat} (h : t.replied n st) : t.pump.replied n st := by
  have hrd {f : Field} (hf : f ∉ stopRegs) (i : Nat) : t.pump.rd f i = t.rd f i := (blindToStop.of_rd hf i).pump t
  exact ⟨by rw [State.slotState, hrd (by decide)]; exact h.1, (hrd (by decide) n).trans h.2⟩

/-! ## A quench that is undone (R431) -/

section
variable (s : State) (q : Quench) (reason items need : Nat)

/-- The registers in which a quench that is undone says so. -/
def undone : State :=
  let t := ((({ s with quenches := s.quenches.filter (fun p => p.flask != q.flask) } : State).wr .QN_PHASE q.phase q.flask).wr .QN_LAST
    (reason + 1) q.flask).wr .QN_REMAINING items q.flask
  if reason = qrSPACE then t.wr .QN_IMG_LEN need q.flask else t

theorem quenchFail_eq : s.quenchFail q reason items need = ((undone s q reason items need).reply q.slot stPARTIAL [need, reason + bits items 0 24 * 256]).pump :=
  rfl

theorem undone_keeps {β : Type} {p : State → β} (hwr : ∀ (t : State) f v i, p (t.wr f v i) = p t) :
    p (undone s q reason items need) = p { s with quenches := s.quenches.filter (fun p => p.flask != q.flask) } := by
  unfold undone
  dsimp only
  split
  · exact (hwr _ _ _ _).trans ((hwr _ _ _ _).trans ((hwr _ _ _ _).trans (hwr _ _ _ _)))
  · exact (hwr _ _ _ _).trans ((hwr _ _ _ _).trans (hwr _ _ _ _))

theorem rd_undone {f : Field} (hf : f ≠ .QN_IMG_LEN) (i : Nat) : (undone s q reason items need).rd f i =
    (((s.wr .QN_PHASE q.phase q.flask).wr .QN_LAST (reason + 1) q.flask).wr .QN_REMAINING items q.flask).rd f i := by
  unfold undone
  dsimp only
  split
  · exact rd_wr_ne _ _ (.inl hf.symm)
  · rfl

theorem quenchFail_leaves (hn : q.slot < 16) :
    let u := s.quenchFail q reason items need
    u.replied q.slot stPARTIAL ∧ u.time = s.time ∧ u.rd .QN_PHASE q.flask = q.phase % 2 ^ 3 ∧ u.rd .QN_LAST q.flask = (reason + 1) % 2 ^ Field.QN_LAST.row.width ∧
      u.rd .QN_REMAINING q.flask = items % 2 ^ 24 ∧ (reason = qrSPACE → u.rd .QN_IMG_LEN q.flask = need % 2 ^ Field.QN_IMG_LEN.row.width) ∧
      u.rd .MB_OUT (q.slot * 128) = need % 2 ^ 64 ∧ u.rd .MB_OUT (q.slot * 128 + 1) = (reason + bits items 0 24 * 256) % 2 ^ 64 ∧
      ∀ p ∈ u.quenches, p.flask ≠ q.flask := by
  intro u
  have hrd {f : Field} (hf : f ∉ stopRegs) (i : Nat) :
      u.rd f i = ((undone s q reason items need).reply q.slot stPARTIAL [need, reason + bits items 0 24 * 256]).rd f i :=
    (blindToStop.of_rd hf i).pump _
  have hplain {f : Field} (hf : f ∉ stopRegs) (hr : f ∉ replyNames) (i : Nat) : u.rd f i = (undone s q reason items need).rd f i :=
    (hrd hf i).trans (rd_reply_other hr _ _ _ _ _)
  have hqs : u.quenches = s.quenches.filter (fun p => p.flask != q.flask) :=
    (blindToStop.pump (p := State.quenches) ⟨fun _ _ _ _ _ _ _ _ _ _ _ => rfl, fun _ _ _ => rfl, fun _ _ _ _ _ => rfl⟩ _).trans
      ((reply_keeps State.quenches (fun _ _ _ _ => rfl) _ _ _ _).trans (undone_keeps s q reason items need fun _ _ _ _ => rfl))
  refine ⟨replied_pump (replied_reply _ _ hn (by decide)), ?_, ?_, ?_, ?_, fun hspace => ?_, ?_, ?_, fun p hp => ?_⟩
  · exact (blindToStop.of_time.pump _).trans ((reply_keeps State.time (fun _ _ _ _ => rfl) _ _ _ _).trans (undone_keeps s q reason items need fun _ _ _ _ => rfl))
  · rw [hplain (by decide) (by decide), rd_undone _ _ _ _ _ (by decide), rd_wr_ne _ _ (.inl (by decide)), rd_wr_ne _ _ (.inl (by decide)), rd_wr_same]
    rfl
  · rw [hplain (by decide) (by decide), rd_undone _ _ _ _ _ (by decide), rd_wr_ne _ _ (.inl (by decide)), rd_wr_same]
  · rw [hplain (by decide) (by decide), rd_undone _ _ _ _ _ (by decide), rd_wr_same]
    rfl
  · rw [hplain (by decide) (by decide), undone, if_pos hspace, rd_wr_same]
  · exact (hrd (by decide) _).trans (rd_reply_out (i := 0) _ _ _ (by simp))
  · exact (hrd (by decide) _).trans (rd_reply_out (i := 1) _ _ _ (by simp))
  · rw [hqs] at hp
    exact bne_iff_ne.1 (List.mem_filter.1 hp).2

end

/-! ## The drain limit (R429) -/

theorem drainLimit_leaves {s : State} {f : Nat} {q : Quench} (hq : s.quenches.find? (fun q => q.flask == f) = some q) :
    (s.quenchReady f = true → s.drainLimit f = s) ∧
    (q.slot < 16 → s.quenchReady f = false →
      let u := s.drainLimit f
      u.replied q.slot stPARTIAL ∧ u.time = max s.time q.limit ∧ u.rd .QN_PHASE f = q.phase % 2 ^ 3 ∧ u.rd .QN_LAST f = 2 ∧
        u.rd .QN_REMAINING f = s.drainItems f % 2 ^ 24 ∧ u.rd .MB_OUT (q.slot * 128 + 1) = 1 + bits (s.drainItems f) 0 24 * 256 ∧
        ∀ p ∈ u.quenches, p.flask ≠ f) := by
  have hflask : q.flask = f := beq_iff_eq.1 (List.find?_some (p := fun q : Quench => q.flask == f) hq)
  have hlimit : s.drainLimit f = if s.quenchReady f then s else (s.elapse q.limit).quenchFail q qrTIME (s.drainItems f) 0 := by
    rw [State.drainLimit, hq]
  refine ⟨fun hready => hlimit.trans (if_pos hready), fun hn hready => ?_⟩
  have hu : s.drainLimit f = (s.elapse q.limit).quenchFail q qrTIME (s.drainItems f) 0 := hlimit.trans (if_neg (by rw [hready]; exact Bool.false_ne_true))
  obtain ⟨hreply, htime, hphase, hlast, hleft, -, -, hout, hgone⟩ := quenchFail_leaves (s.elapse q.limit) q qrTIME (s.drainItems f) 0 hn
  rw [hflask] at hphase hlast hleft hgone
  rw [hu]
  refine ⟨hreply, htime, hphase, hlast, hleft, hout.trans (Nat.mod_eq_of_lt ?_), hgone⟩
  have hitems : bits (s.drainItems f) 0 24 < 2 ^ 24 := Nat.mod_lt _ (by decide)
  have hone : qrTIME = 1 := rfl
  omega

/-! ## FLASK_QUENCH (R427) -/

section
variable (s : State) (f : Nat)

/-- The checked entries and reads of the flask's queues are given back. -/
def unreadAll : State := (s.queuesOf f).foldl State.unread s

theorem unreadAll_keeps {β : Type} {p : State → β} (hwr : ∀ (t : State) g v i, g = .QCTX_HEAD ∨ g = .QCTX_NEXT → p (t.wr g v i) = p t)
    (hqm : ∀ (t : State) m, p { t with qm := m } = p t) : p (unreadAll s f) = p s :=
  foldl_keeps p (fun _ _ => (hqm _ _).trans ((hqm _ _).trans ((hqm _ _).trans ((hwr _ _ _ _ (.inr rfl)).trans (hwr _ _ _ _ (.inl rfl)))))) _ s

/-- Queue q has no entry checked and no read under way. -/
def unreadQueue (t : State) (q : Nat) : Prop := t.entriesOf q = [] ∧ t.fetchesOf q = []

theorem filter_filter_nil {α : Type} {l : List α} {p q : α → Bool} (h : l.filter p = []) : (l.filter q).filter p = [] := by
  rw [List.filter_eq_nil_iff] at h ⊢
  exact fun a ha => h a (List.mem_filter.1 ha).1

theorem filter_ne_nil {α : Type} (l : List α) (g : α → Nat) (q : Nat) : (l.filter (fun a => g a != q)).filter (fun a => g a == q) = [] :=
  List.filter_eq_nil_iff.2 fun a ha => by simpa using (List.mem_filter.1 ha).2

theorem unreadQueue_unreadAll {q : Nat} (hq : q ∈ s.queuesOf f) : unreadQueue (unreadAll s f) q :=
  foldl_brings (P := fun t => unreadQueue t q) (f := State.unread)
    (fun _ _ h => ⟨filter_filter_nil h.1, filter_filter_nil h.2⟩)
    (fun t => ⟨filter_ne_nil t.qm.entries Entry.queue q, filter_ne_nil t.qm.fetches Fetch.queue q⟩) hq s

/-- What a quench of the flask that has begun leaves. -/
def quenchBegun (q : Quench) : State :=
  let t := unreadAll s f
  ({ t with ctxs := updAll t.ctxs (fun x => ((t.ctxsOf f).map Ctx.num).contains x.num) Ctx.abandon, quenches := t.quenches ++ [q] } : State).wr .QN_PHASE 1 f

theorem quenchBegun_leaves (q : Quench) :
    let u := quenchBegun s f q
    sameMem s u ∧ u.rd .QN_PHASE f = 1 ∧ (∀ n, u.slotState n = s.slotState n) ∧ (∀ q ∈ s.queuesOf f, unreadQueue u q) ∧
      (∀ x ∈ s.ctxs, x.flask = f → x.mgmt = false → x.abandon ∈ u.ctxs) ∧ q ∈ u.quenches := by
  intro u
  have hctxs : (unreadAll s f).ctxs = s.ctxs := unreadAll_keeps s f (fun _ _ _ _ _ => rfl) (fun _ _ => rfl)
  refine ⟨sameMem_of_eq (unreadAll_keeps s f (p := State.hbm) (fun _ _ _ _ _ => rfl) fun _ _ => rfl)
    (unreadAll_keeps s f (p := State.wbuf) (fun _ _ _ _ _ => rfl) fun _ _ => rfl), rd_wr_one _ _ _, fun n => ?_,
    fun q hq => unreadQueue_unreadAll s f hq, fun x hx hf hm => ?_, List.mem_append_right _ (List.mem_singleton.2 rfl)⟩
  · have hstate : u.rd .MB_STATE_STATE = s.rd .MB_STATE_STATE := (rd_wr_ne _ _ (.inl (by decide))).trans
      (unreadAll_keeps s f (p := fun t => t.rd .MB_STATE_STATE) (fun t g v i hg => rd_wr_ne t v (.inl (by rcases hg with rfl | rfl <;> decide))) fun _ _ => rfl)
    rw [State.slotState, hstate, State.slotState]
  · have hmem := updAll_mem (p := fun y : Ctx => (((unreadAll s f).ctxsOf f).map Ctx.num).contains y.num) (f := Ctx.abandon) (hctxs ▸ hx)
    have hmine : (((unreadAll s f).ctxsOf f).map Ctx.num).contains x.num = true :=
      List.contains_iff_mem.2 (List.mem_map_of_mem (List.mem_filter.2 ⟨hctxs ▸ hx, by simp [hf, hm]⟩))
    rw [if_pos hmine] at hmem
    exact hmem

end

/-- A quench of flask f that may begin in state s. -/
def quenchMay (s : State) (f : Nat) : Prop := (s.flaskState f = flOPEN ∨ s.flaskState f = flSEALED) ∧ s.rd .QN_PHASE f ≠ 1

theorem flaskQuench_of_current {s : State} {n : Nat} (href : s.frefOk n = true) :
    (¬ quenchMay s (s.fref n).1 → s.flaskQuench n = s.reply n stSTATE) ∧
    (quenchMay s (s.fref n).1 →
      (¬ (s.par n 2 % 65536 = 0 ∧ bits (s.par n 3) 0 32 * 65536 ≠ 0) → s.flaskQuench n = s.reply n stBADARG) ∧
      (s.par n 2 % 65536 = 0 ∧ bits (s.par n 3) 0 32 * 65536 ≠ 0 →
        (s.imageDenied (s.fref n).1 (s.par n 2) (bits (s.par n 3) 0 32 * 65536) = true → s.flaskQuench n = s.reply n stDENIED) ∧
        (s.imageDenied (s.fref n).1 (s.par n 2) (bits (s.par n 3) 0 32 * 65536) = false → s.flaskQuench n = quenchBegun s (s.fref n).1
          { flask := (s.fref n).1, slot := n, q0 := s.time, limit := s.time + s.drainTime (s.fref n).1 (bits (s.par n 1) 0 32), base := s.par n 2,
            size := bits (s.par n 3) 0 32 * 65536, phase := s.rd .QN_PHASE (s.fref n).1 }))) := by
  have hcur : ¬ (!s.frefOk n) = true := by rw [href]; exact Bool.false_ne_true
  have hmay : quenchMay s (s.fref n).1 → ¬ ((s.flaskState (s.fref n).1 ≠ flOPEN ∧ s.flaskState (s.fref n).1 ≠ flSEALED) ∨ s.rd .QN_PHASE (s.fref n).1 = 1) :=
    fun h => not_or.2 ⟨fun hne => h.1.elim hne.1 hne.2, h.2⟩
  unfold State.flaskQuench
  refine ⟨fun h => (if_neg hcur).trans (if_pos ?_), fun h => ⟨fun hput => (if_neg hcur).trans ((if_neg (hmay h)).trans (if_pos ?_)), fun hput => ?_⟩⟩
  · by_contra hno
    rw [not_or, not_and_or, not_not, not_not] at hno
    exact h hno
  · rw [not_and_or, not_not] at hput
    exact hput
  · have hplaced : ¬ (s.par n 2 % 65536 ≠ 0 ∨ bits (s.par n 3) 0 32 * 65536 = 0) := not_or.2 ⟨not_not.2 hput.1, hput.2⟩
    exact ⟨fun hd => (if_neg hcur).trans ((if_neg (hmay h)).trans ((if_neg hplaced).trans (if_pos hd))),
      fun hd => (if_neg hcur).trans ((if_neg (hmay h)).trans ((if_neg hplaced).trans (if_neg (by rw [hd]; exact Bool.false_ne_true))))⟩

theorem queuesOf_begun (s : State) (n f : Nat) : (s.begun n).queuesOf f = s.queuesOf f := by
  have hlisted : (s.begun n).queues = s.queues := begun_keeps State.queues (fun t _ => listed_wr_ne t (by decide) _ _)
    (fun t _ _ => listed_wr_ne t (by decide) _ _) (fun t _ _ => listed_wr_ne t (by decide) _ _) s n
  have hrd {g : Field} (hslot : g ≠ .MB_STATE_STATE) (hstate : g ≠ .FL_STATE) (hseal : g ≠ .SEAL_GRAN_SEAL) : (s.begun n).rd g f = s.rd g f :=
    rd_begun s n hslot hstate hseal f
  rw [State.queuesOf, hlisted, hrd (by decide) (by decide) (by decide), hrd (by decide) (by decide) (by decide), State.queuesOf]

/-- FLASK_QUENCH from its start point. -/
theorem answers_flaskQuench {s : State} {n : Nat} (hs : s.starts n 0x60) (href : (s.begun n).frefOk n = true) :
    let b := s.begun n
    let f := (s.fref n).1
    let st := b.flaskState f
    let size := bits (s.par n 3) 0 32 * 65536
    let may := (st = flOPEN ∨ st = flSEALED) ∧ s.rd .QN_PHASE f ≠ 1
    let put := s.par n 2 % 65536 = 0 ∧ size ≠ 0
    (¬ may → answers (.flaskQuench n) s (fun u => sameMem s u ∧ u.replied n stSTATE ∧ u.quenches = s.quenches)) ∧
    (may → ¬ put → answers (.flaskQuench n) s (fun u => sameMem s u ∧ u.replied n stBADARG ∧ u.quenches = s.quenches)) ∧
    (may → put → b.imageDenied f (s.par n 2) size = true → answers (.flaskQuench n) s (fun u => sameMem s u ∧
      u.replied n stDENIED ∧ u.quenches = s.quenches)) ∧
    (may → put → b.imageDenied f (s.par n 2) size = false → answers (.flaskQuench n) s (fun u => sameMem s u ∧
      u.rd .QN_PHASE f = 1 ∧ u.slotState n = mbRUNNING ∧ (∀ q ∈ s.queuesOf f, u.entriesOf q = [] ∧ u.fetchesOf q = []) ∧
      (∀ x ∈ s.ctxs, if x.flask = f ∧ x.mgmt = false ∧ s.ctx? x.num = some x then x.abandon ∈ u.ctxs else True) ∧
      { flask := f, slot := n, q0 := s.time, limit := s.time + b.drainTime f (bits (s.par n 1) 0 32), base := s.par n 2, size := size,
        phase := s.rd .QN_PHASE f } ∈ u.quenches)) := by
  intro b f st size may put
  have hn : n < 16 := hs.1
  have hphase : b.rd .QN_PHASE f = s.rd .QN_PHASE f := rd_begun s n (by decide) (by decide) (by decide) f
  have hqs : b.quenches = s.quenches := begun_keeps State.quenches (fun _ _ => rfl) (fun _ _ _ => rfl) (fun _ _ _ => rfl) s n
  have hctxs : b.ctxs = s.ctxs := ctxs_begun s n
  have htime : b.time = s.time := begun_keeps State.time (fun _ _ => rfl) (fun _ _ _ => rfl) (fun _ _ _ => rfl) s n
  have hmay : may ↔ quenchMay b f := by rw [quenchMay, hphase]
  have hanswer {u : State} {P : State → Prop} (hu : b.flaskQuench n = u) (hP : P u) : answers (.flaskQuench n) s P :=
    ⟨_, congrArg s.after ((mbRun_of_starts hs fun t => t.flaskQuench n).trans (congrArg State.unclaim hu)), hP⟩
  have hrefused {st : Nat} (hst : st < 2 ^ 16) (hu : b.flaskQuench n = b.reply n st) :
      answers (.flaskQuench n) s (fun u => sameMem s u ∧ u.replied n st ∧ u.quenches = s.quenches) :=
    hanswer hu ⟨(sameMem_reply _ _ _ _ _).2 (sameMem_begun s n), replied_reply _ _ hn hst, (reply_keeps State.quenches (fun _ _ _ _ => rfl) _ _ _ _).trans hqs⟩
  have hfref : b.fref n = s.fref n := fref_begun s n
  have hpar (i : Nat) : b.par n i = s.par n i := par_begun s n i
  have hcases := flaskQuench_of_current (s := b) href
  rw [hfref, hpar, hpar, hpar, htime, hphase] at hcases
  obtain ⟨hno, hyes⟩ := hcases
  refine ⟨fun h => hrefused (by decide) (hno (mt hmay.2 h)), fun h hput => hrefused (by decide) ((hyes (hmay.1 h)).1 hput),
    fun h hput hd => hrefused (by decide) (((hyes (hmay.1 h)).2 hput).1 hd), fun h hput hd => hanswer (((hyes (hmay.1 h)).2 hput).2 hd) ?_⟩
  obtain ⟨hmem, hdraining, hslots, hunread, habandon, hwaits⟩ := quenchBegun_leaves b f
    { flask := f, slot := n, q0 := s.time, limit := s.time + b.drainTime f (bits (s.par n 1) 0 32), base := s.par n 2, size := size, phase := s.rd .QN_PHASE f }
  refine ⟨sameMem_trans (sameMem_begun s n) hmem, hdraining, (hslots n).trans (slotState_begun s hn), fun q hq => hunread q ?_, fun x hx => ?_, hwaits⟩
  · rw [queuesOf_begun]
    exact hq
  · split
    · rename_i hx'
      exact habandon x (hctxs ▸ hx) hx'.1 hx'.2.1
    · trivial

/-! ## The quench point (R430) -/

section
variable (s : State) (q : Quench)

/-- The flask's image stands in HBM, its quench is over, and what the image has no place for is kept beside. -/
def imageWritten : State :=
  let t := (s.overPut (cellsAt q.base (s.image q.flask))).countFor (.overhead q.flask) 9 (s.image q.flask).length
  { t with frozen := t.frozen.filter (fun (z : Frozen) => z.flask != q.flask) ++ [s.freeze q.flask (s.image q.flask)],
           quenches := t.quenches.filter (fun p => p.flask != q.flask) }

/-- The flask's pours are gone and its accumulators closed. -/
def workDropped (t : State) : State :=
  ((t.dropUnits (fun c => ((t.ctxsOf q.flask).map Ctx.num).contains c)).freeFlaskWork q.flask).closeAccs (fun a => a.flask == q.flask) rfQUENCH

/-- The flask's state before the quench is kept beside. -/
def workGone (t : State) : State :=
  let v := workDropped q t
  v.setVault { v.vault q.flask with before := s.flaskState q.flask, consent := s.rd .FL_DEBUG q.flask + 2 * s.rd .FL_PROFILE q.flask }

/-- The registers of the flask and its queues once it is quenched. -/
def quenchedRegs (t : State) : State :=
  let f := q.flask
  let t := (s.queuesOf f).foldl (fun (t : State) k => t.wr .QCTX_STATE qQUENCHED k) t
  let t := (t.wr .FL_DEBUG 1 f).wr .FL_PROFILE 1 f
  let t := (((t.wr .FL_STATE flQUENCHED f).wr .QN_PHASE 2 f).wr .QN_LAST 1 f).wr .QN_IMG_LEN (s.image f).length f
  t.wr .QN_QP (s.clock .core) f

/-- The quench point of flask q's quench, where its image fits. -/
def quenchedAt : State := (quenchedRegs s q (workGone s q (imageWritten s q))).reply q.slot stOK [(s.image q.flask).length, 0]

theorem quenchPoint_of_long (h : q.size < (s.image q.flask).length) : s.quenchPoint q = s.quenchFail q qrSPACE 0 (s.image q.flask).length :=
  if_pos h

theorem quenchPoint_of_free (h : (s.image q.flask).length ≤ q.size)
    (hfree : ∀ h ∈ s.hlp.filter, h.line < lineOf q.base ∨ q.base + (s.image q.flask).length ≤ h.line * 64) : s.quenchPoint q = quenchedAt s q := by
  have hheld : (s.hlp.filter.map HostLine.line).filter (fun l => decide (lineOf q.base ≤ l ∧ l * 64 < q.base + (s.image q.flask).length)) = [] := by
    rw [List.filter_eq_nil_iff]
    intro l hl
    obtain ⟨h, hh, rfl⟩ := List.mem_map.1 hl
    have := hfree h hh
    rw [decide_eq_true_eq]
    omega
  unfold State.quenchPoint
  dsimp only
  rw [if_neg (Nat.not_lt.2 h), hheld]
  rfl

theorem quenchedRegs_keeps {β : Type} {p : State → β}
    (hwr : ∀ (t : State) g v i, g ∈ [Field.QCTX_STATE, .FL_DEBUG, .FL_PROFILE, .FL_STATE, .QN_PHASE, .QN_LAST, .QN_IMG_LEN, .QN_QP] → p (t.wr g v i) = p t)
    (t : State) : p (quenchedRegs s q t) = p t := by
  unfold quenchedRegs
  refine (hwr _ _ _ _ (by decide)).trans <| (hwr _ _ _ _ (by decide)).trans <| (hwr _ _ _ _ (by decide)).trans <| (hwr _ _ _ _ (by decide)).trans <|
    (hwr _ _ _ _ (by decide)).trans <| (hwr _ _ _ _ (by decide)).trans <| (hwr _ _ _ _ (by decide)).trans ?_
  exact foldl_keeps p (fun t k => hwr t _ _ _ (by decide)) _ t

theorem rd_quenchedRegs (t : State) :
    let u := quenchedRegs s q t
    (∀ k ∈ s.queuesOf q.flask, u.qState k = qQUENCHED) ∧ u.flaskState q.flask = flQUENCHED ∧ u.rd .QN_PHASE q.flask = 2 ∧ u.rd .QN_LAST q.flask = 1 ∧
      u.rd .QN_IMG_LEN q.flask = (s.image q.flask).length % 2 ^ Field.QN_IMG_LEN.row.width := by
  intro u
  refine ⟨fun k hk => ?_, ?_, ?_, ?_, ?_⟩
  · have hset : ((s.queuesOf q.flask).foldl (fun (t : State) k => t.wr .QCTX_STATE qQUENCHED k) t).rd .QCTX_STATE k = qQUENCHED :=
      foldl_brings (P := fun t : State => t.rd .QCTX_STATE k = qQUENCHED) (f := fun (t : State) k => t.wr .QCTX_STATE qQUENCHED k)
        (fun t j h => by
          by_cases hj : j = k
          · rw [hj]
            exact rd_wr_same t _ _ _
          · exact (rd_wr_ne t _ (.inr hj)).trans h) (fun t => rd_wr_same t _ _ _) hk t
    refine Eq.trans ?_ hset
    simp only [State.qState, u, quenchedRegs]
    iterate 7 rw [rd_wr_ne _ _ (.inl (by decide))]
  · simp only [State.flaskState, u, quenchedRegs]
    iterate 4 rw [rd_wr_ne _ _ (.inl (by decide))]
    exact rd_wr_same _ _ _ _
  · simp only [u, quenchedRegs]
    iterate 3 rw [rd_wr_ne _ _ (.inl (by decide))]
    exact rd_wr_same _ _ _ _
  · simp only [u, quenchedRegs]
    iterate 2 rw [rd_wr_ne _ _ (.inl (by decide))]
    exact rd_wr_same _ _ _ _
  · exact (rd_wr_ne _ _ (.inl (by decide))).trans (rd_wr_same _ _ _ _)

theorem freeFlaskWork_keeps {β : Type} {p : State → β} (hmoulds : ∀ (t : State) m, p { t with moulds := m } = p t)
    (hwork : ∀ (t : State) cs ks ls fs ws ys, p { t with ctxs := cs, kernels := ks, lanes := ls, faulted := fs, waiting := ws, cycles := ys } = p t)
    (t : State) (f : Nat) : p (t.freeFlaskWork f) = p t :=
  (hwork _ _ _ _ _ _ _).trans (hmoulds t _)

theorem workDropped_keeps {β : Type} {p : State → β} (h : blindToStop p) (hmoulds : ∀ (t : State) m, p { t with moulds := m } = p t)
    (hwork : ∀ (t : State) cs ks ls fs ws ys, p { t with ctxs := cs, kernels := ks, lanes := ls, faulted := fs, waiting := ws, cycles := ys } = p t)
    (hmeter : ∀ (t : State) m, p { t with meter := m } = p t) (t : State) : p (workDropped q t) = p t :=
  (hmeter _ _).trans ((freeFlaskWork_keeps hmoulds hwork _ _).trans (h.dropUnits t _))

/-- What the units and the pours of a flask hold is not memory. -/
theorem mem_workDropped (t : State) : (workDropped q t).hbm = t.hbm ∧ (workDropped q t).wbuf = t.wbuf ∧ (workDropped q t).quenches = t.quenches :=
  ⟨workDropped_keeps q (p := State.hbm) ⟨fun _ _ _ _ _ _ _ _ _ _ _ => rfl, fun _ _ _ => rfl, fun _ _ _ _ _ => rfl⟩ (fun _ _ => rfl) (fun _ _ _ _ _ _ _ => rfl)
      (fun _ _ => rfl) t,
    workDropped_keeps q (p := State.wbuf) ⟨fun _ _ _ _ _ _ _ _ _ _ _ => rfl, fun _ _ _ => rfl, fun _ _ _ _ _ => rfl⟩ (fun _ _ => rfl) (fun _ _ _ _ _ _ _ => rfl)
      (fun _ _ => rfl) t,
    workDropped_keeps q (p := State.quenches) ⟨fun _ _ _ _ _ _ _ _ _ _ _ => rfl, fun _ _ _ => rfl, fun _ _ _ _ _ => rfl⟩ (fun _ _ => rfl)
      (fun _ _ _ _ _ _ _ => rfl) (fun _ _ => rfl) t⟩

theorem workGone_keeps {β : Type} {p : State → β} (hvaults : ∀ (t : State) v, p { t with vaults := v } = p t) (t : State) :
    p (workGone s q t) = p (workDropped q t) := hvaults _ _

theorem free_workGone (t : State) : ∀ x ∈ (workGone s q t).ctxs, x.flask = q.flask → x.mgmt = true := by
  rw [workGone_keeps s q (p := State.ctxs) fun _ _ => rfl]
  exact free_freeFlaskWork (t.dropUnits (fun c => ((t.ctxsOf q.flask).map Ctx.num).contains c)) q.flask

theorem closed_workGone (t : State) : ∀ a ∈ (workGone s q t).meter.accs, a.flask = q.flask → a.closed ≠ none := by
  rw [workGone_keeps s q (p := State.meter) fun _ _ => rfl]
  intro a ha hf
  obtain ⟨a', -, rfl⟩ := List.mem_map.1 ha
  by_cases hc : (a'.closed.isNone && a'.flask == q.flask) = true
  · rw [if_pos hc]
    exact Option.some_ne_none _
  · rw [if_neg hc] at hf ⊢
    intro hopen
    exact hc (by rw [hopen, beq_iff_eq.2 hf]; rfl)

theorem imageWritten_keeps {β : Type} {p : State → β} (hmeter : ∀ (t : State) m, p { t with meter := m } = p t)
    (hrest : ∀ (t : State) z k, p { t with frozen := z, quenches := k } = p t) : p (imageWritten s q) = p (s.overPut (cellsAt q.base (s.image q.flask))) := by
  obtain ⟨m, hm⟩ := countFor_eq (s.overPut (cellsAt q.base (s.image q.flask))) (.overhead q.flask) 9 (s.image q.flask).length
  unfold imageWritten
  dsimp only
  rw [hrest, hm, hmeter]

theorem quenches_countFor (t : State) (ch : Charge) (cls n : Nat) : (t.countFor ch cls n).quenches = t.quenches := by
  obtain ⟨m, hm⟩ := countFor_eq t ch cls n
  rw [hm]

theorem quenches_imageWritten : (imageWritten s q).quenches = s.quenches.filter (fun p => p.flask != q.flask) := by
  unfold imageWritten
  dsimp only
  rw [quenches_countFor, overPut_keeps State.quenches (fun _ _ => rfl) (fun _ _ => rfl)]

theorem quenchedAt_keeps {β : Type} (p : State → β) (hwr : ∀ (t : State) g v i, p (t.wr g v i) = p t) :
    p (quenchedAt s q) = p (workGone s q (imageWritten s q)) :=
  (reply_keeps p hwr _ _ _ _).trans (quenchedRegs_keeps s q (fun t g v i _ => hwr t g v i) _)

theorem hbm_quenchedAt : (quenchedAt s q).hbm = (s.overPut (cellsAt q.base (s.image q.flask))).hbm :=
  (quenchedAt_keeps s q State.hbm fun _ _ _ _ => rfl).trans ((workGone_keeps s q (fun _ _ => rfl) _).trans ((mem_workDropped q _).1.trans (imageWritten_keeps s q (fun _ _ => rfl) fun _ _ _ => rfl)))

theorem wbuf_quenchedAt : (quenchedAt s q).wbuf = (s.overPut (cellsAt q.base (s.image q.flask))).wbuf :=
  (quenchedAt_keeps s q State.wbuf fun _ _ _ _ => rfl).trans ((workGone_keeps s q (fun _ _ => rfl) _).trans ((mem_workDropped q _).2.1.trans
    (imageWritten_keeps s q (fun _ _ => rfl) fun _ _ _ => rfl)))

/-- The work of the flask is gone at its quench point. -/
theorem quenchedAt_frees :
    (∀ x ∈ (quenchedAt s q).ctxs, x.flask = q.flask → x.mgmt = true) ∧ (∀ p ∈ (quenchedAt s q).quenches, p.flask ≠ q.flask) ∧
      ∀ a ∈ (quenchedAt s q).meter.accs, a.flask = q.flask → a.closed ≠ none := by
  refine ⟨fun x hx => ?_, fun p hp => ?_, fun a ha => ?_⟩
  · rw [quenchedAt_keeps s q State.ctxs fun _ _ _ _ => rfl] at hx
    exact free_workGone s q _ x hx
  · rw [quenchedAt_keeps s q State.quenches fun _ _ _ _ => rfl, workGone_keeps s q (p := State.quenches) fun _ _ => rfl, (mem_workDropped q _).2.2, quenches_imageWritten] at hp
    exact bne_iff_ne.1 (List.mem_filter.1 hp).2
  · rw [quenchedAt_keeps s q State.meter fun _ _ _ _ => rfl] at ha
    exact closed_workGone s q _ a ha

/-- What the registers say at the quench point. -/
theorem rd_quenchedAt (hn : q.slot < 16) :
    let f := q.flask
    let u := quenchedAt s q
    (∀ k ∈ s.queuesOf f, u.qState k = qQUENCHED) ∧ u.flaskState f = flQUENCHED ∧ u.rd .QN_PHASE f = 2 ∧ u.rd .QN_LAST f = 1 ∧
      u.rd .QN_IMG_LEN f = (s.image f).length % 2 ^ Field.QN_IMG_LEN.row.width ∧ u.replied q.slot stOK ∧
      u.rd .MB_OUT (q.slot * 128) = (s.image f).length % 2 ^ 64 := by
  intro f u
  obtain ⟨hqueues, hstate, hphase, hlast, hlen⟩ := rd_quenchedRegs s q (workGone s q (imageWritten s q))
  have hplain {g : Field} (hg : g ∉ replyNames) (i : Nat) : u.rd g i = (quenchedRegs s q (workGone s q (imageWritten s q))).rd g i :=
    rd_reply_other hg _ _ _ _ _
  exact ⟨fun k hk => (hplain (by decide) k).trans (hqueues k hk), (hplain (by decide) f).trans hstate, (hplain (by decide) f).trans hphase,
    (hplain (by decide) f).trans hlast, (hplain (by decide) f).trans hlen, replied_reply _ _ hn (by decide),
    rd_reply_out (i := 0) _ _ _ (by simp)⟩

end

/-- The image that a store puts into HBM stands there, and other lines are as before. -/
theorem read_overPut (s : State) {a : Nat} {bs : List Byte} (h : a + bs.length ≤ hbmSize) :
    (s.overPut (cellsAt a bs)).sysRead a bs.length = bs ∧
    ∀ b, b < a ∨ a + bs.length ≤ b → lineOf b ≠ lineOf a → lineOf b ≠ lineOf (a + bs.length - 1) → (s.overPut (cellsAt a bs)).dieByte b = s.dieByte b := by
  refine ⟨List.ext_getElem (by simp [State.sysRead]) fun i hi hib => ?_, fun b hout hfirst hlast => (bytes_overPut_ne s fun c hc => ?_).2⟩
  · simp only [State.sysRead, List.getElem_map, List.getElem_range]
    exact sysByte_overPut_cellsAt s hib (by omega)
  · obtain ⟨hlo, hhi⟩ := lineOf_of_mem_cellsAt hc
    simp only [lineOf] at hfirst hlast ⊢
    omega

/-- A quench that comes to its quench point. -/
theorem quenchPoint_leaves {s : State} {q : Quench} (hn : q.slot < 16) :
    let f := q.flask
    let img := s.image f
    let u := s.quenchPoint q
    (q.size < img.length → u.replied q.slot stPARTIAL ∧ u.rd .QN_PHASE f = q.phase % 2 ^ 3 ∧ u.rd .QN_LAST f = 3 ∧
      u.rd .QN_IMG_LEN f = img.length % 2 ^ Field.QN_IMG_LEN.row.width ∧ u.rd .MB_OUT (q.slot * 128) = img.length % 2 ^ 64 ∧
      ∀ p ∈ u.quenches, p.flask ≠ f) ∧
    (img.length ≤ q.size → q.base + img.length ≤ hbmSize →
      (∀ h ∈ s.hlp.filter, h.line < lineOf q.base ∨ q.base + img.length ≤ h.line * 64) →
      u.sysRead q.base img.length = img ∧
      (∀ a, a < q.base ∨ q.base + img.length ≤ a → lineOf a ≠ lineOf q.base → lineOf a ≠ lineOf (q.base + img.length - 1) →
        u.dieByte a = s.dieByte a) ∧
      (∀ x ∈ u.ctxs, x.flask = f → x.mgmt = true) ∧ (∀ k ∈ s.queuesOf f, u.qState k = qQUENCHED) ∧
      u.flaskState f = flQUENCHED ∧ u.rd .QN_PHASE f = 2 ∧ u.rd .QN_LAST f = 1 ∧
      u.rd .QN_IMG_LEN f = img.length % 2 ^ Field.QN_IMG_LEN.row.width ∧ u.replied q.slot stOK ∧
      u.rd .MB_OUT (q.slot * 128) = img.length % 2 ^ 64 ∧ (∀ p ∈ u.quenches, p.flask ≠ f) ∧
      ∀ a ∈ u.meter.accs, a.flask = f → a.closed ≠ none) := by
  intro f img u
  refine ⟨fun hlong => ?_, fun hfits hplace hfree => ?_⟩
  · obtain ⟨hreply, -, hphase, hlast, -, hlen, hout, -, hgone⟩ := quenchFail_leaves s q qrSPACE 0 img.length hn
    have hu : u = s.quenchFail q qrSPACE 0 img.length := quenchPoint_of_long s q hlong
    rw [hu]
    exact ⟨hreply, hphase, hlast, hlen rfl, hout, hgone⟩
  · have hu : u = quenchedAt s q := quenchPoint_of_free s q hfits hfree
    obtain ⟨hread, hframe⟩ := read_overPut s hplace
    obtain ⟨hctxs, hquenches, haccs⟩ := quenchedAt_frees s q
    obtain ⟨hqueues, hstate, hphase, hlast, hlen, hreply, hout⟩ := rd_quenchedAt s q hn
    rw [hu]
    refine ⟨(sysRead_of_hbm (hbm_quenchedAt s q) _ _).trans hread, fun a ha hfirst hend => ?_, hctxs, hqueues, hstate, hphase, hlast, hlen, hreply, hout,
      hquenches, haccs⟩
    exact ((sameMem_of_eq (hbm_quenchedAt s q) (wbuf_quenchedAt s q)) a).2.trans (hframe a ha hfirst hend)

end Sys2Proof.Laws

/-! # Thaws

A FLASK_THAW: what refuses it, and what its image brings back (R435 to R438). -/
namespace Sys2Proof.Laws

open Sys2Proof.Machine

/-! ## Lists without a repeated element -/

theorem length_eraseDups_le {α : Type} [BEq α] [LawfulBEq α] (l : List α) : l.eraseDups.length ≤ l.length := by
  induction hn : l.length using Nat.strong_induction_on generalizing l with
  | _ n ih =>
    cases l with
    | nil => exact Nat.zero_le _
    | cons a l =>
      have hfilter := List.length_filter_le (fun b => !b == a) l
      have hlt : (l.filter (fun b => !b == a)).length < n := by
        rw [← hn, List.length_cons]
        omega
      have := ih _ hlt (l.filter (fun b => !b == a)) rfl
      rw [List.eraseDups_cons, ← hn, List.length_cons, List.length_cons]
      omega

theorem nodup_of_length_eraseDups {α : Type} [BEq α] [LawfulBEq α] {l : List α} (h : l.eraseDups.length = l.length) : l.Nodup := by
  induction l with
  | nil => exact List.nodup_nil
  | cons a l ih =>
    rw [List.eraseDups_cons, List.length_cons, List.length_cons] at h
    have hfilter := List.length_filter_le (fun b => !b == a) l
    have hless := length_eraseDups_le (l.filter (fun b => !b == a))
    have hall : (l.filter (fun b => !b == a)).length = l.length := by omega
    have hself : l.filter (fun b => !b == a) = l := List.filter_eq_self.2 (List.length_filter_eq_length_iff.1 hall)
    rw [hself] at h
    refine List.nodup_cons.2 ⟨fun ha => ?_, ih (by omega)⟩
    have := List.length_filter_eq_length_iff.1 hall a ha
    simp at this

/-! ## What of the registers a thaw moves after its queues -/

/-- The registers that the pours, lanes and sealed state of an image move. -/
def lateRegs : List Field :=
  [.MC_GATE_CLAMP_COUNT, .MC_GATE_CLAMP_GATE, .MC_GATE_CLAMP_QUEUE, .PWR_GATED_GROUPS, .QCTX_POURS, .TL_COUNTER, .FL_LOCKED, .FL_DEBUG, .FL_PROFILE,
   .SEAL_GRAN_SEAL, .FL_PUBVA_PASID, .FL_PUBVA_BASE, .FL_PUBVA_SIZE, .FL_PUBVA_VALID] ++ stopRegs

theorem clampRegs_late : ∀ g ∈ clampRegs, g ∈ lateRegs := by decide

section
variable {f : Field} (hf : f ∉ lateRegs) (i : Nat)
include hf

theorem rd_wr_late {g : Field} (hg : g ∈ lateRegs) (t : State) (v j : Nat) : (t.wr g v j).rd f i = t.rd f i :=
  rd_wr_ne t v (.inl fun h => hf (h ▸ hg))

theorem rd_gateWrite_late (t : State) (c g v : Nat) : (t.gateWrite c g v).rd f i = t.rd f i :=
  gateWrite_of_regs (p := fun t : State => t.rd f i) (fun t g v j hg => rd_wr_late hf i (clampRegs_late g hg) t v j) (fun _ _ _ => rfl) t c g v

theorem rd_ungate_late (es : List Nat) (t : State) : (t.ungate es).rd f i = t.rd f i := by
  refine foldl_keeps (fun t : State => t.rd f i) (fun t e => ?_) es t
  show State.rd (if _ then _ else _ : State) f i = _
  split
  · exact rd_wr_late hf i (by decide) _ _ _
  · rfl

theorem rd_pump_late (t : State) : t.pump.rd f i = t.rd f i :=
  (blindToStop.of_rd (fun h => hf (List.mem_append_right _ h)) i).pump t

theorem rd_setSeals_late (t : State) (k : Nat) (v : Nat → Nat) : (t.setSeals k v).rd f i = t.rd f i :=
  foldl_keeps (fun t : State => t.rd f i) (fun t j => rd_wr_late hf i (by decide) t _ _) _ t

theorem rd_thawCtx_late {t u : State} {w : Thaw} {k c : Nat} {at_ : List (Nat × Nat)} (h : t.thawCtx w k at_ = some (c, u)) : u.rd f i = t.rd f i := by
  unfold State.thawCtx at h
  dsimp only at h
  split at h
  · split at h
    · cases h
      rfl
    · injection h with h
      injection h with hc hu
      subst hu
      have hgates (v : State) (c : Nat) (vs : Nat → Nat) : ((List.range 64).foldl (fun (t : State) g => t.gateWrite c g (vs g)) v).rd f i = v.rd f i :=
        foldl_keeps (fun t : State => t.rd f i) (fun t g => rd_gateWrite_late hf i t c g _) _ v
      have hstate (v : State) (c : Nat) (g : Ctx → Ctx) (b : Prop) [Decidable b] : (if b then v.modCtx c g else v).rd f i = v.rd f i := by split <;> rfl
      have hpins (v : State) (c : Nat) (m : Mould) (b : Prop) [Decidable b] : (if b then v.askPins c m else v).rd f i = v.rd f i := by split <;> rfl
      refine (hpins _ _ _ _).trans ((hstate _ _ _ _).trans ((hgates _ _ _).trans ?_))
      rfl
  · exact absurd h (by simp)

theorem rd_thawCtxs_late {t u : State} {w : Thaw} {at_ : List Nat} (h : t.thawCtxs w = some (at_, u)) : u.rd f i = t.rd f i := by
  unfold State.thawCtxs at h
  obtain ⟨r, hr, hu⟩ := Option.map_eq_some_iff.1 h
  have hfold : ∀ (l : List Nat) (o : Option (List (Nat × Nat) × State)), (∀ p, o = some p → p.2.rd f i = t.rd f i) →
      ∀ p, l.foldl (fun (r : Option (List (Nat × Nat) × State)) i => r.bind (fun p =>
        (p.2.thawCtx w i p.1).map (fun q => (p.1 ++ [(i, q.1)], q.2)))) o = some p → p.2.rd f i = t.rd f i := by
    intro l
    induction l with
    | nil => exact fun o ho p hp => ho p hp
    | cons k l ih =>
      intro o ho p hp
      refine ih _ (fun p' hp' => ?_) p hp
      obtain ⟨p0, h0, hp'⟩ := Option.bind_eq_some_iff.1 hp'
      obtain ⟨q, hq, rfl⟩ := Option.map_eq_some_iff.1 hp'
      exact (rd_thawCtx_late hf i hq).trans (ho p0 h0)
  have := hfold _ _ (fun p hp => by cases hp; rfl) r hr
  injection hu with h1 h2
  rw [← h2]
  exact this

omit hf in
theorem rd_thawKernel_late (t : State) (w : Thaw) (at_ : List Nat) (k id : Nat) (held : List (Nat × List Byte)) : (t.thawKernel w at_ k id held).rd f i = t.rd f i := by
  unfold State.thawKernel
  dsimp only
  split
  · split
    · rfl
    · rfl
  · rfl

theorem rd_thawLanes_late (t : State) (w : Thaw) (at_ : List Nat) : (t.thawLanes w at_).rd f i = t.rd f i := by
  unfold State.thawLanes
  refine (rd_ungate_late hf i _ _).trans ?_
  refine (foldl_keeps (fun t : State => t.rd f i) (fun t e => by rfl) _ _).trans ?_
  exact (foldl_keeps (fun t : State => t.rd f i) (fun t e => rd_thawKernel_late i t w at_ _ _ _) _ _).trans rfl

theorem rd_thawSealed_late (t : State) (w : Thaw) (v : List Byte) : (t.thawSealed w v).rd f i = t.rd f i := by
  unfold State.thawSealed
  refine (foldl_keeps (fun t : State => t.rd f i) (fun t l => ?_) _ _).trans ?_
  · exact (rd_wr_late hf i (by decide) _ _ _).trans ((rd_wr_late hf i (by decide) _ _ _).trans
      ((rd_wr_late hf i (by decide) _ _ _).trans (rd_wr_late hf i (by decide) _ _ _)))
  · exact (rd_setSeals_late hf i _ _ _).trans ((rd_wr_late hf i (by decide) _ _ _).trans
      ((rd_wr_late hf i (by decide) _ _ _).trans (rd_wr_late hf i (by decide) _ _ _)))

end

/-! ## The queues of the image -/

section
variable (s : State) (w : Thaw) (e : List Byte)

/-- The fields that entry e gives its queue, with their values. -/
def thawValues : List (Field × Nat) :=
  [(.QCTX_LOC, fld e 0 0 1), (.QCTX_BASE, fld e 0 12 40), (.QCTX_CLOC, fld e 1 0 1), (.QCTX_CBASE, fld e 1 12 40), (.QCTX_RING_LOG2, fld e 2 0 5),
   (.QCTX_LEVEL, fld e 2 8 2), (.QCTX_WEIGHT, fld e 2 16 8), (.QCTX_MAX_INFLIGHT, fld e 2 24 7), (.QCTX_RT, fld e 2 31 1), (.QCTX_FLASK, w.f),
   (.QCTX_FLASK_GEN, s.flaskGen w.f), (.QCTX_PASID, w.pasid (fld e 3 0 20)), (.QCTX_RT_GROUPS, s.absGroups w.f (leAt e 0x58 8)),
   (.QCTX_ERR_CODE, fld e 5 16 8), (.QCTX_DB_MISMATCH, fld e 5 24 1), (.QCTX_ERR_IDX, fld e 5 32 24), (.QCTX_HEAD, fld e 6 0 24),
   (.QCTX_TAIL, fld e 6 32 24), (.QCTX_NEXT, fld e 7 0 44), (.QCTX_REREADS, fld e 9 0 32), (.QCTX_ADMITTED, fld e 9 32 32), (.QCTX_STATE, qACTIVE)]

/-- Queue q takes the values of entry e. -/
def queueThawed (q : Nat) : State := wrEach (s.rstAll queueFields q) (thawValues s w e) q

/-- The queue of entry e, restored. -/
def queueBack (u : State) (q : Nat) : Prop :=
  u.qState q = qACTIVE ∧ u.rd .QCTX_FLASK q = w.f % 2 ^ 6 ∧ u.rd .QCTX_HEAD q = fld e 6 0 24 % 2 ^ 24 ∧ u.rd .QCTX_NEXT q = fld e 7 0 44 % 2 ^ 44

theorem queueBack_queueThawed (q : Nat) : queueBack w e (queueThawed s w e q) q := by
  have hset {f : Field} {v : Nat} (hf : (f, v) ∈ thawValues s w e) : (queueThawed s w e q).rd f q = v % 2 ^ f.row.width :=
    rd_wrEach (show ((thawValues s w e).map Prod.fst).Nodup by simp [thawValues]) hf _ _
  exact ⟨hset (f := .QCTX_STATE) (v := qACTIVE) (by simp [thawValues]), hset (f := .QCTX_FLASK) (v := w.f) (by simp [thawValues]),
    hset (f := .QCTX_HEAD) (v := fld e 6 0 24) (by simp [thawValues]), hset (f := .QCTX_NEXT) (v := fld e 7 0 44) (by simp [thawValues])⟩

theorem rd_queueThawed {g : Field} {q j : Nat} (h : g ∉ queueFields ∨ j ≠ q) : (queueThawed s w e q).rd g j = s.rd g j := by
  have hfields : ∀ f ∈ (thawValues s w e).map Prod.fst, f ∈ queueFields := by simp [thawValues, queueFields]
  rcases h with hg | hj
  · exact (wrEach_keeps (fun t => t.rd g j) (fun t f v hf => rd_wr_ne t v (.inl fun he => hg (he ▸ hfields f hf))) _).trans (rd_rstAll_ne hg s q j)
  · exact (wrEach_keeps (fun t => t.rd g j) (fun t f v hf => rd_wr_ne t v (.inr hj.symm)) _).trans (rd_rstAll_other s queueFields hj.symm)

theorem thawQueue_leaves {u : State} (h : s.thawQueue w e = some u) :
    queueBack w e u (s.rd .FL_QFIRST w.f + fld e 10 0 64) ∧
      ∀ g j, g ∉ queueFields ∨ j ≠ s.rd .FL_QFIRST w.f + fld e 10 0 64 → u.rd g j = s.rd g j := by
  obtain ⟨hback, hkeep⟩ := And.intro (queueBack_queueThawed s w e (s.rd .FL_QFIRST w.f + fld e 10 0 64)) fun g j hg =>
    rd_queueThawed s w e (g := g) (q := s.rd .FL_QFIRST w.f + fld e 10 0 64) (j := j) hg
  have hmade : u = queueThawed s w e (s.rd .FL_QFIRST w.f + fld e 10 0 64) ∨ ∃ v, u =
      (queueThawed s w e (s.rd .FL_QFIRST w.f + fld e 10 0 64)).wr .QCTX_TAIL v (s.rd .FL_QFIRST w.f + fld e 10 0 64) := by
    unfold State.thawQueue at h
    dsimp only at h
    split at h
    · cases h
    · injection h with h
      rw [← h]
      split
      · exact .inr ⟨_, rfl⟩
      · exact .inl rfl
  rcases hmade with rfl | ⟨v, rfl⟩
  · exact ⟨hback, hkeep⟩
  · obtain ⟨hstate, hflask, hhead, hnext⟩ := hback
    refine ⟨⟨(rd_wr_ne _ _ (.inl (by decide))).trans hstate, (rd_wr_ne _ _ (.inl (by decide))).trans hflask, (rd_wr_ne _ _ (.inl (by decide))).trans hhead,
      (rd_wr_ne _ _ (.inl (by decide))).trans hnext⟩, fun g j hg => (rd_wr_ne _ _ ?_).trans (hkeep g j hg)⟩
    exact hg.imp (fun hg he => hg (he ▸ by decide)) Ne.symm

end

theorem queueBack_congr {w : Thaw} {e : List Byte} {t u : State} {q : Nat} (h : ∀ g ∈ [Field.QCTX_STATE, .QCTX_FLASK, .QCTX_HEAD, .QCTX_NEXT], u.rd g q = t.rd g q)
    (hb : queueBack w e t q) : queueBack w e u q :=
  ⟨(h _ (by decide)).trans hb.1, (h _ (by decide)).trans hb.2.1, (h _ (by decide)).trans hb.2.2.1, (h _ (by decide)).trans hb.2.2.2⟩

/-- Every queue of the image is restored, each to a queue of its own. -/
theorem thawQueues_leaves {w : Thaw} {l : List (List Byte)} (hl : (l.map fun e => fld e 10 0 64).Nodup) {t u : State}
    (h : l.foldl (fun (r : Option State) e => r.bind (fun t => t.thawQueue w e)) (some t) = some u) :
    (∀ e ∈ l, queueBack w e u (t.rd .FL_QFIRST w.f + fld e 10 0 64)) ∧
      (∀ g j, g ∉ queueFields → u.rd g j = t.rd g j) ∧ ∀ g j, (∀ e ∈ l, j ≠ t.rd .FL_QFIRST w.f + fld e 10 0 64) → u.rd g j = t.rd g j := by
  induction l generalizing t with
  | nil =>
    injection h with h
    subst h
    exact ⟨fun e he => absurd he List.not_mem_nil, fun _ _ _ => rfl, fun _ _ _ => rfl⟩
  | cons e l ih =>
    obtain ⟨hnew, hl⟩ := List.nodup_cons.1 hl
    have hstep : ∃ v, t.thawQueue w e = some v := by
      by_contra hno
      have hnone : t.thawQueue w e = none := Option.eq_none_iff_forall_ne_some.2 fun v hv => hno ⟨v, hv⟩
      have hstay : ∀ l : List (List Byte), l.foldl (fun (r : Option State) e => r.bind (fun t => t.thawQueue w e)) none = none := fun l => by
        induction l with
        | nil => rfl
        | cons _ _ ih => exact ih
      rw [List.foldl_cons, Option.bind_some, hnone, hstay] at h
      cases h
    obtain ⟨v, hv⟩ := hstep
    rw [List.foldl_cons, Option.bind_some, hv] at h
    obtain ⟨hback, hkeep⟩ := thawQueue_leaves t w e hv
    obtain ⟨hrest, hplain, hother⟩ := ih hl h
    have hfirst : v.rd .FL_QFIRST w.f = t.rd .FL_QFIRST w.f := hkeep _ _ (.inl (by decide))
    rw [hfirst] at hrest hother
    refine ⟨fun x hx => ?_, fun g j hg => (hplain g j hg).trans (hkeep g j (.inl hg)), fun g j hj => ?_⟩
    · rcases List.mem_cons.1 hx with rfl | hx
      · refine queueBack_congr (fun g _ => hother g _ fun y hy he => ?_) hback
        exact hnew (List.mem_map.2 ⟨y, hy, (Nat.add_left_cancel he).symm⟩)
      · exact hrest x hx
    · exact (hother g j fun y hy => hj y (List.mem_cons_of_mem _ hy)).trans (hkeep g j (.inr (hj e List.mem_cons_self)))

/-! ## A thaw that takes effect (R438) -/

theorem rd_setVault (s : State) (v : Vault) (f : Field) (i : Nat) : (s.setVault v).rd f i = s.rd f i := rfl

section
variable (s : State) (w : Thaw)

/-- The state that the target flask has after its thaw. -/
def thawedState : Nat := if w.into then (if w.sealedImg || (s.vault w.f).sess.any Session.bundled then flSEALED else flOPEN) else (s.vault w.f).before

/-- The target flask is in its state, with its moulds, before its queues are restored. -/
def thawOpened : State :=
  let t := if w.into then (s.thawMoulds w).foldl State.register s else s
  let t := (s.queuesOf w.f).foldl (fun (t : State) q => t.rstAll [.QCTX_RT, .QCTX_RT_GROUPS] q) t
  (t.wr .QN_PHASE 0 w.f).wr .FL_STATE (thawedState s w) w.f

theorem rd_thawOpened {f : Field} (h : f ∉ [Field.QCTX_RT, .QCTX_RT_GROUPS, .QN_PHASE, .FL_STATE]) (i : Nat) : (thawOpened s w).rd f i = s.rd f i := by
  unfold thawOpened
  have hne {g : Field} (hg : g ∈ [Field.QCTX_RT, .QCTX_RT_GROUPS, .QN_PHASE, .FL_STATE]) : g ≠ f := fun he => h (he ▸ hg)
  refine (rd_wr_ne _ _ (.inl (hne (by decide)))).trans ((rd_wr_ne _ _ (.inl (hne (by decide)))).trans ?_)
  refine (foldl_keeps (fun t : State => t.rd f i) (fun t q => rd_rstAll_ne (fun hm => h (List.mem_append_left [Field.QN_PHASE, .FL_STATE] hm)) t q i) _ _).trans ?_
  split
  · exact foldl_keeps (f := State.register) (fun t : State => t.rd f i) (fun _ _ => rfl) _ s
  · rfl

theorem rd_ite {b : Prop} [Decidable b] {x y z : State} {f : Field} {i : Nat} (hx : x.rd f i = z.rd f i) (hy : y.rd f i = z.rd f i) :
    (if b then x else y).rd f i = z.rd f i := by
  split
  · exact hx
  · exact hy

/-- Once the queues are restored, a thaw moves no register of the queues or the flask's state. -/
theorem thawApply_of_some {u : State} (h : s.thawApply w = some u) :
    ∃ t, w.queues.foldl (fun (r : Option State) e => r.bind (fun t => t.thawQueue w e)) (some (thawOpened s w)) = some t ∧
      ∀ {f : Field}, f ∉ lateRegs → ∀ i, u.rd f i = t.rd f i := by
  unfold State.thawApply at h
  dsimp only at h
  split at h
  · cases h
  · split at h
    · cases h
    · split at h
      · cases h
      · rename_i t hqueues
        split at h
        · cases h
        · rename_i at_ v hctxs
          injection h with h
          refine ⟨t, hqueues, fun {f} hf i => ?_⟩
          rw [← h]
          refine (rd_pump_late hf i _).trans ?_
          refine (rd_setVault _ _ f i).trans ?_
          have hlate {g : Field} (hg : g ∈ lateRegs) (x : State) (v j : Nat) : (x.wr g v j).rd f i = x.rd f i := rd_wr_late hf i hg x v j
          refine rd_ite ((rd_thawSealed_late hf i _ _ _).trans ?_) (rd_ite ?_ ((hlate (by decide) _ _ _).trans ((hlate (by decide) _ _ _).trans ?_)))
          all_goals
            refine rd_ite ((foldl_keeps (fun x : State => x.rd f i) (fun x _ => hlate (by decide) x _ _) _ _).trans ?_) ?_
            all_goals
              refine (foldl_keeps (fun x : State => x.rd f i) (fun x c => ?_) _ _).trans ((rd_thawLanes_late hf i v w at_).trans (rd_thawCtxs_late hf i hctxs))
              split
              · exact rd_ite (hlate (by decide) x _ _) rfl
              · rfl

/-- What a thaw that takes effect leaves. -/
theorem thawApply_leaves {u : State} (hks : (w.queues.map fun e => fld e 10 0 64).eraseDups.length = (w.queues.map fun e => fld e 10 0 64).length)
    (h : s.thawApply w = some u) :
    u.rd .QN_PHASE w.f = 0 ∧ u.flaskState w.f = thawedState s w % 2 ^ 3 ∧ ∀ e ∈ w.queues, queueBack w e u (s.rd .FL_QFIRST w.f + fld e 10 0 64) := by
  obtain ⟨t, ht, hlate⟩ := thawApply_of_some s w h
  obtain ⟨hback, hkeep, -⟩ := thawQueues_leaves (nodup_of_length_eraseDups hks) ht
  rw [rd_thawOpened s w (by decide)] at hback
  refine ⟨?_, ?_, fun e he => queueBack_congr (fun g hg => hlate ?_ _) (hback e he)⟩
  · rw [hlate (by decide), hkeep _ _ (by decide)]
    exact (rd_wr_ne _ _ (.inl (by decide))).trans (rd_wr_same _ _ _ _)
  · rw [State.flaskState, hlate (by decide), hkeep _ _ (by decide)]
    exact rd_wr_same _ _ _ _
  · revert g
    decide

end

/-! ## FLASK_THAW (R436) -/

/-- Thaw w, whose image is read, is checked and takes effect. -/
def thawn (c : State) (w : Thaw) (n : Nat) : State :=
  if !(w.genuine && w.framed && c.thawOk w) then c.reply n stBADARG
  else if w.into && !c.shapeOk w then c.reply n stBADARG
  else if !c.thawBound w then c.reply n stSTATE
  else match c.thawApply w with
    | none => c.reply n stNORES
    | some t => t.reply n stOK

/-- The thaw that slot n names, with the image of len bytes at a. -/
def thawNamed (s : State) (n a len : Nat) : Thaw :=
  { f := (s.fref n).1, into := bit (s.par n 0) 48, b := s.dieRead a len,
    pairs := (List.range (bits (s.par n 0) 49 5)).map (fun i => (bits (s.par n (i + 2)) 0 20, bits (s.par n (i + 2)) 32 20)),
    own := s.frozen.find? (fun z => z.digest == slice (s.dieRead a len) 0xD0 48) }

section
variable {s : State} {n : Nat}

theorem flaskThaw_of_fails {st : Nat} (href : s.frefOk n = true) (h : s.thawFails n = some st) : s.flaskThaw n = s.reply n st := by
  unfold State.flaskThaw
  dsimp only
  rw [h]
  dsimp only
  rw [if_pos href]

theorem flaskThaw_of_read (h : s.thawFails n = none) : s.flaskThaw n = thawn (s.countFor (.overhead (s.fref n).1) 9 (s.thawRange n).2)
    (thawNamed (s.countFor (.overhead (s.fref n).1) 9 (s.thawRange n).2) n (s.thawRange n).1 (s.thawRange n).2) n := by
  have href : (s.countFor (.overhead (s.fref n).1) 9 (s.thawRange n).2).fref n = s.fref n := by
    obtain ⟨m, hm⟩ := countFor_eq s (.overhead (s.fref n).1) 9 (s.thawRange n).2
    rw [hm]
    rfl
  have hpar (i : Nat) : (s.countFor (.overhead (s.fref n).1) 9 (s.thawRange n).2).par n i = s.par n i := by
    obtain ⟨m, hm⟩ := countFor_eq s (.overhead (s.fref n).1) 9 (s.thawRange n).2
    rw [hm]
    rfl
  unfold State.flaskThaw thawNamed
  dsimp only
  rw [h, href]
  simp only [hpar] <;> rfl

theorem thawFails_of_state (h : s.thawState (s.fref n).1 (bit (s.par n 0) 48) = true) : s.thawFails n = some stSTATE :=
  if_pos (by rw [h, Bool.or_true])

variable (href : s.frefOk n = true) (hstate : s.thawState (s.fref n).1 (bit (s.par n 0) 48) = false)
include href hstate

theorem thawFails_of_outside (h : s.inFlask (s.fref n).1 (s.thawRange n).1 4096 = false) : s.thawFails n = some stDENIED :=
  (if_neg (by rw [href, hstate]; decide)).trans (if_pos (congrArg not h))

theorem thawFails_of_fit (hin : s.inFlask (s.fref n).1 (s.thawRange n).1 4096 = true)
    (hsealed : (bit (s.par n 0) 48 && bit (leAt (s.dieRead (s.thawRange n).1 64) 0x20 4) 16 &&
      !((s.vault (s.fref n).1).sess.any Session.bundled && s.rd .QN_PHASE (s.fref n).1 == 5)) = false)
    (hlen : 4096 ≤ (s.thawRange n).2) (hwhole : s.inFlask (s.fref n).1 (s.thawRange n).1 (s.thawRange n).2 = true) : s.thawFails n = none := by
  refine (if_neg (by rw [href, hstate]; decide)).trans ((if_neg fun hc => Bool.false_ne_true ((congrArg not hin).symm.trans hc)).trans
    ((if_neg fun hc => Bool.false_ne_true (hsealed.symm.trans hc)).trans (if_neg ?_)))
  show ¬ (decide ((s.thawRange n).2 < 4096) || !s.inFlask (s.fref n).1 (s.thawRange n).1 (s.thawRange n).2) = true
  rw [hwhole]
  simpa using hlen

end

/-- The replies of a thaw whose image is read whole. -/
theorem thawn_leaves {c : State} {w : Thaw} {n : Nat} :
    let good := w.genuine = true ∧ w.framed = true ∧ c.thawOk w = true ∧ (w.into = true → c.shapeOk w = true)
    (¬ good → thawn c w n = c.reply n stBADARG) ∧
    (good → c.thawBound w = false → thawn c w n = c.reply n stSTATE) ∧
    (good → c.thawBound w = true → c.thawApply w = none → thawn c w n = c.reply n stNORES) ∧
    ∀ t, good → c.thawBound w = true → c.thawApply w = some t → thawn c w n = t.reply n stOK := by
  intro good
  have hchecked (hg : good) : ¬ (!(w.genuine && w.framed && c.thawOk w)) = true ∧ ¬ (w.into && !c.shapeOk w) = true := by
    obtain ⟨hgenuine, hframed, hok, hshape⟩ := hg
    rw [hgenuine, hframed, hok]
    refine ⟨by decide, fun h => ?_⟩
    obtain ⟨hinto, hno⟩ := (Bool.and_eq_true _ _).mp h
    rw [hshape hinto] at hno
    cases hno
  unfold thawn
  refine ⟨fun hg => ?_, fun hg hb => ?_, fun hg hb ha => ?_, fun t hg hb ha => ?_⟩
  · by_cases h1 : (!(w.genuine && w.framed && c.thawOk w)) = true
    · exact if_pos h1
    · refine (if_neg h1).trans (if_pos ?_)
      by_contra h2
      refine hg ?_
      simp only [Bool.not_eq_true', Bool.not_eq_false, Bool.and_eq_true] at h1
      refine ⟨h1.1.1, h1.1.2, h1.2, fun hinto => ?_⟩
      rw [hinto] at h2
      simpa using h2
  · exact (if_neg (hchecked hg).1).trans ((if_neg (hchecked hg).2).trans (if_pos (by rw [hb]; rfl)))
  · refine (if_neg (hchecked hg).1).trans ((if_neg (hchecked hg).2).trans ((if_neg (by rw [hb]; decide)).trans ?_))
    rw [ha]
  · refine (if_neg (hchecked hg).1).trans ((if_neg (hchecked hg).2).trans ((if_neg (by rw [hb]; decide)).trans ?_))
    rw [ha]

section
variable (s : State) (n : Nat)

theorem dieRead_begun (a k : Nat) : (s.begun n).dieRead a k = s.dieRead a k := dieRead_congr (sameMem_begun s n) a k

theorem thawRange_begun : (s.begun n).thawRange n = s.thawRange n := by
  rw [State.thawRange, par_begun, dieRead_begun, State.thawRange]

end

/-- FLASK_THAW from its start point. -/
theorem answers_flaskThaw {s : State} {n : Nat} (hs : s.starts n 0x61) (hclean : s.dirtyLines (s.thawRange n).1 (s.thawRange n).2 = []) {u : State}
    {P : State → Prop} (hu : (s.begun n).flaskThaw n = u) (hP : P u) : answers (.flaskThaw n) s P := by
  refine ⟨u, congrArg s.after ((mbHome_of_starts hs ?_ fun t => t.flaskThaw n).trans (congrArg State.unclaim hu)), hP⟩
  show (!(s.dirtyLines (s.thawRange n).1 (s.thawRange n).2).isEmpty || false) = false
  rw [hclean]
  rfl

section
variable {s : State} {n : Nat}

/-- The state in which the image of slot n's thaw has been read. -/
def imageRead (s : State) (n : Nat) : State := (s.begun n).countFor (.overhead (s.fref n).1) 9 (s.thawRange n).2

theorem imageRead_keeps {β : Type} {p : State → β} (hmeter : ∀ (t : State) m, p { t with meter := m } = p t) (s : State) (n : Nat) :
    p (imageRead s n) = p (s.begun n) := by
  obtain ⟨m, hm⟩ := countFor_eq (s.begun n) (.overhead (s.fref n).1) 9 (s.thawRange n).2
  rw [imageRead, hm, hmeter]

theorem sameMem_imageRead (s : State) (n : Nat) : sameMem s (imageRead s n) :=
  sameMem_trans (sameMem_begun s n) (sameMem_of_eq (imageRead_keeps (fun _ _ => rfl) s n) (imageRead_keeps (fun _ _ => rfl) s n))

theorem rd_imageRead {f : Field} (hslot : f ≠ .MB_STATE_STATE) (hstate : f ≠ .FL_STATE) (hseal : f ≠ .SEAL_GRAN_SEAL) (i : Nat) :
    (imageRead s n).rd f i = s.rd f i :=
  (imageRead_keeps (p := fun t : State => t.rd f i) (fun _ _ => rfl) s n).trans (rd_begun s n hslot hstate hseal i)

theorem thawNamed_imageRead {w : Thaw} (hf : w.f = (s.fref n).1) (hinto : w.into = bit (s.par n 0) 48)
    (hb : w.b = s.dieRead (s.thawRange n).1 (s.thawRange n).2)
    (hpairs : w.pairs = (List.range (bits (s.par n 0) 49 5)).map (fun i => (bits (s.par n (i + 2)) 0 20, bits (s.par n (i + 2)) 32 20)))
    (hown : w.own = s.frozen.find? (fun z => z.digest == slice w.b 0xD0 48)) :
    thawNamed (imageRead s n) n (s.thawRange n).1 (s.thawRange n).2 = w := by
  have hpar (i : Nat) : (imageRead s n).par n i = s.par n i := rd_imageRead (by decide) (by decide) (by decide) _
  have href : (imageRead s n).fref n = s.fref n := by simp only [State.fref, hpar]
  have hread : (imageRead s n).dieRead (s.thawRange n).1 (s.thawRange n).2 = s.dieRead (s.thawRange n).1 (s.thawRange n).2 :=
    dieRead_congr (sameMem_imageRead s n) _ _
  have hfrozen : (imageRead s n).frozen = s.frozen := (imageRead_keeps (fun _ _ => rfl) s n).trans
    (begun_keeps State.frozen (fun _ _ => rfl) (fun _ _ _ => rfl) (fun _ _ _ => rfl) s n)
  unfold thawNamed
  rw [href, hread, hfrozen]
  simp only [hpar]
  rw [← hf, ← hinto, ← hb, ← hpairs, ← hown]

variable (hs : s.starts n 0x61) (hclean : s.dirtyLines (s.thawRange n).1 (s.thawRange n).2 = []) (href : (s.begun n).frefOk n = true)
include hs hclean href

theorem thaw_refused {st : Nat} (hst : st < 2 ^ 16) (h : (s.begun n).thawFails n = some st) :
    answers (.flaskThaw n) s (fun u => sameMem s u ∧ u.replied n st) :=
  answers_flaskThaw hs hclean (flaskThaw_of_fails href h) ⟨(sameMem_reply _ _ _ _ _).2 (sameMem_begun s n), replied_reply _ _ hs.1 hst⟩

omit href in
theorem thaw_read {w : Thaw} {u : State} {P : State → Prop} (hfails : (s.begun n).thawFails n = none)
    (hw : thawNamed (imageRead s n) n (s.thawRange n).1 (s.thawRange n).2 = w) (hu : thawn (imageRead s n) w n = u) (hP : P u) : answers (.flaskThaw n) s P := by
  refine answers_flaskThaw hs hclean ?_ hP
  rw [flaskThaw_of_read hfails, fref_begun, thawRange_begun]
  exact (congrArg (fun w => thawn (imageRead s n) w n) hw).trans hu

omit hs hclean href in
/-- The target of a thaw that takes effect. -/
theorem thawed_leaves {w : Thaw} {t : State} (hn : n < 16) (hf : w.f = (s.fref n).1) (hok : (imageRead s n).thawOk w = true)
    (h : (imageRead s n).thawApply w = some t) :
    let u := t.reply n stOK
    let f := (s.fref n).1
    u.replied n stOK ∧ u.rd .QN_PHASE f = 0 ∧
      u.flaskState f = (if w.into then (if w.sealedImg || (s.vault f).sess.any Session.bundled then flSEALED else flOPEN) else (s.vault f).before % 8) ∧
      ∀ e ∈ w.queues, let q := s.rd .FL_QFIRST f + fld e 10 0 64
        u.qState q = qACTIVE ∧ u.rd .QCTX_FLASK q = f ∧ u.rd .QCTX_HEAD q = fld e 6 0 24 ∧ u.rd .QCTX_NEXT q = fld e 7 0 44 := by
  intro u f
  have hrd {g : Field} (hg : g ∉ replyNames) (i : Nat) : u.rd g i = t.rd g i := rd_reply_other hg _ _ _ _ _
  have hks : (w.queues.map fun e => fld e 10 0 64).eraseDups.length = (w.queues.map fun e => fld e 10 0 64).length := by
    simp only [State.thawOk, Bool.and_eq_true] at hok
    exact beq_iff_eq.1 hok.1.1.1.1.2
  obtain ⟨hphase, hstate, hqueues⟩ := thawApply_leaves (imageRead s n) w hks h
  have hvault : (imageRead s n).vault f = s.vault f :=
    (vault_of_vaults (imageRead_keeps (fun _ _ => rfl) s n) f).trans (vault_begun s n f)
  rw [hf] at hphase hstate hqueues
  rw [rd_imageRead (by decide) (by decide) (by decide)] at hqueues
  refine ⟨replied_reply _ _ hn (by decide), (hrd (by decide) f).trans hphase, (hrd (by decide) f).trans (hstate.trans ?_), fun e he => ?_⟩
  · rw [thawedState, hf, hvault]
    cases w.into
    · rfl
    · simp only [if_true]
      split <;> rfl
  · obtain ⟨hactive, hflask, hhead, hnext⟩ := hqueues e he
    have hfl : (s.fref n).1 < 2 ^ 6 := Nat.mod_lt _ (by decide)
    refine ⟨(hrd (by decide) _).trans hactive, (hrd (by decide) _).trans (hflask.trans ?_), (hrd (by decide) _).trans (hhead.trans ?_),
      (hrd (by decide) _).trans (hnext.trans ?_)⟩
    · rw [hf, Nat.mod_eq_of_lt hfl]
    · exact Nat.mod_eq_of_lt (Nat.mod_lt _ (by decide))
    · exact Nat.mod_eq_of_lt (Nat.mod_lt _ (by decide))

end

/-- What FLASK_THAW does. -/
theorem thaws {s : State} {n : Nat} (hs : s.starts n 0x61) (hclean : s.dirtyLines (s.thawRange n).1 (s.thawRange n).2 = [])
    (href : (s.begun n).frefOk n = true) :
    let b := s.begun n
    let f := (s.fref n).1
    let into := bit (s.par n 0) 48
    let a := (s.thawRange n).1
    let len := (s.thawRange n).2
    let c := b.countFor (.overhead f) 9 len
    (b.thawState f into = true → answers (.flaskThaw n) s (fun u => sameMem s u ∧ u.replied n stSTATE)) ∧
    (b.thawState f into = false → b.inFlask f a 4096 = false → answers (.flaskThaw n) s (fun u => sameMem s u ∧ u.replied n stDENIED)) ∧
    (∀ (w : Thaw), b.thawState f into = false → b.inFlask f a 4096 = true →
      (into && bit (leAt (s.dieRead a 64) 0x20 4) 16 && !((s.vault f).sess.any Session.bundled && s.rd .QN_PHASE f == 5)) = false →
      4096 ≤ len → b.inFlask f a len = true → w.f = f → w.into = into → w.b = s.dieRead a len →
      w.pairs = (List.range (bits (s.par n 0) 49 5)).map (fun i => (bits (s.par n (i + 2)) 0 20, bits (s.par n (i + 2)) 32 20)) →
      w.own = s.frozen.find? (fun z => z.digest == slice w.b 0xD0 48) → 
      let good := w.genuine = true ∧ w.framed = true ∧ c.thawOk w = true ∧ (into = true → c.shapeOk w = true)
      (¬ good → answers (.flaskThaw n) s (fun u => sameMem s u ∧ u.replied n stBADARG)) ∧
      (good → c.thawBound w = false → answers (.flaskThaw n) s (fun u => sameMem s u ∧ u.replied n stSTATE)) ∧
      (good → c.thawBound w = true → c.thawApply w = none → answers (.flaskThaw n) s (fun u => sameMem s u ∧ u.replied n stNORES)) ∧
      ∀ t, good → c.thawBound w = true → c.thawApply w = some t → answers (.flaskThaw n) s (fun u => u.replied n stOK ∧ u.rd .QN_PHASE f = 0 ∧
        u.flaskState f = (if into then (if w.sealedImg || (s.vault f).sess.any Session.bundled then flSEALED else flOPEN) else (s.vault f).before % 8) ∧
        ∀ e ∈ w.queues, let q := s.rd .FL_QFIRST f + fld e 10 0 64
          u.qState q = qACTIVE ∧ u.rd .QCTX_FLASK q = f ∧ u.rd .QCTX_HEAD q = fld e 6 0 24 ∧ u.rd .QCTX_NEXT q = fld e 7 0 44)) := by
  intro b f into a len c
  have hfref : b.fref n = s.fref n := fref_begun s n
  have hrange : b.thawRange n = s.thawRange n := thawRange_begun s n
  have hpar : b.par n 0 = s.par n 0 := par_begun s n 0
  refine ⟨fun hstate => thaw_refused hs hclean href (by decide) (thawFails_of_state ?_),
    fun hstate hout => thaw_refused hs hclean href (by decide) (thawFails_of_outside href ?_ ?_),
    fun w hstate hin hsealed hlen hwhole hf hinto hb hpairs hown => ?_⟩
  · rw [hfref, hpar]
    exact hstate
  · rw [hfref, hpar]
    exact hstate
  · rw [hfref, hrange]
    exact hout
  have hfails : b.thawFails n = none := by
    refine thawFails_of_fit href ?_ ?_ ?_ ?_ ?_
    · rw [hfref, hpar]
      exact hstate
    · rw [hfref, hrange]
      exact hin
    · rw [hfref, hpar, hrange, vault_begun, rd_begun s n (by decide) (by decide) (by decide), dieRead_begun]
      exact hsealed
    · rw [hrange]
      exact hlen
    · rw [hfref, hrange]
      exact hwhole
  have hnamed := thawNamed_imageRead hf hinto hb hpairs hown
  obtain ⟨hbad, hunbound, hfull, hgood⟩ := thawn_leaves (c := imageRead s n) (w := w) (n := n)
  rw [hinto] at hbad hunbound hfull hgood
  have hrefused {st : Nat} (hst : st < 2 ^ 16) (h : thawn (imageRead s n) w n = (imageRead s n).reply n st) :
      answers (.flaskThaw n) s (fun u => sameMem s u ∧ u.replied n st) :=
    thaw_read hs hclean hfails hnamed h ⟨(sameMem_reply _ _ _ _ _).2 (sameMem_imageRead s n), replied_reply _ _ hs.1 hst⟩
  refine ⟨fun hg => hrefused (by decide) (hbad hg), fun hg hb => hrefused (by decide) (hunbound hg hb),
    fun hg hb ha => hrefused (by decide) (hfull hg hb ha), fun t hg hb ha => thaw_read hs hclean hfails hnamed (hgood t hg hb ha) ?_⟩
  have hleaves := thawed_leaves hs.1 hf hg.2.2.1 ha
  rw [hinto] at hleaves
  exact hleaves

/-- Settles O54 (R427 to R438). -/
theorem quenchAndThaw : Obligations.QuenchAndThaw := by
  refine ⟨fun s q hn => quenchPoint_leaves hn, fun s n hs => ?_, fun s f q hq => ?_, fun s n hs hclean => ?_⟩
  · intro b f st size may put href
    exact answers_flaskQuench hs href
  · obtain ⟨hready, hlate⟩ := drainLimit_leaves hq
    exact ⟨fun h => congrArg s.after (hready h), fun hn h => ⟨_, rfl, hlate hn h⟩⟩
  · intro b f into a len c href
    exact thaws hs hclean href

end Sys2Proof.Laws

/-! # The messages of a migration

MIG_OFFER, MIG_ACCEPT, MIG_BIND, and Kyrdo's answers to them (R440, R441). -/
namespace Sys2Proof.Laws

open Sys2Proof.Machine

/-! ## The session of a flask -/

section
variable {s t : State}

theorem sess_of_vaults (h : t.vaults = s.vaults) (f : Nat) : t.sess f = s.sess f := congrArg Vault.sess (vault_of_vaults h f)

theorem sess_begun (s : State) (n f : Nat) : (s.begun n).sess f = s.sess f := sess_of_vaults (begun_vaults s n) f

/-- The session of a flask is the one that it was given last. -/
theorem sess_setSess (t : State) (f : Nat) (v : Option Session) : (t.setSess f v).sess f = v := by
  have hf : ({ t.vault f with sess := v } : Vault).flask = f := vault_flask t f
  have h := vault_setVault t { t.vault f with sess := v }
  rw [hf] at h
  exact congrArg Vault.sess h

theorem mailWrite_vaults (t : State) (f a : Nat) (bs : List Byte) : (t.mailWrite f a bs).vaults = t.vaults := mailWrite_keeps blindToMail_vaults t f a bs

theorem rd_mailWrite (t : State) (f a : Nat) (bs : List Byte) (g : Field) (i : Nat) : (t.mailWrite f a bs).rd g i = t.rd g i :=
  mailWrite_keeps (blindToMail_rd g i) t f a bs

theorem keyNames_mailWrite (t : State) (f a : Nat) (bs : List Byte) : keyNames (t.mailWrite f a bs) = keyNames t := mailWrite_keeps blindToMail_keyNames t f a bs

end

/-! ## What a command asks Kyrdo for -/

section
variable {s : State} {n : Nat}

/-- A command that has read its operand, asks Kyrdo and waits. -/
theorem askKyrdo_read (hn : n < 16) (f k g : Nat) (ask : KyAsk) :
    let b := s.begun n
    sameMem s ((b.mailRead f k).askKyrdo n g ask) ∧ b.asked ((b.mailRead f k).askKyrdo n g ask) n g ask ∧ onlyRegs b ((b.mailRead f k).askKyrdo n g ask) [] := by
  intro b
  obtain ⟨m, hm⟩ := countFor_eq b (.overhead f) 9 k
  rw [State.mailRead, hm]
  exact ⟨sameMem_begun s n, ⟨slotState_begun s hn, List.mem_cons_self, rfl⟩, fun _ _ _ => rfl⟩

/-- What a command that has read its operand replies without doing anything. -/
theorem reply_read (hn : n < 16) (f k : Nat) {st : Nat} (hst : st < 2 ^ 16) :
    sameMem s (((s.begun n).mailRead f k).reply n st) ∧ (((s.begun n).mailRead f k).reply n st).replied n st := by
  obtain ⟨m, hm⟩ := countFor_eq (s.begun n) (.overhead f) 9 k
  rw [State.mailRead, hm]
  exact ⟨(sameMem_reply _ _ _ _ _).2 (sameMem_begun s n), replied_reply _ _ hn hst⟩

theorem rd_begun_of {g : Field} (hg : g ∉ [Field.MB_STATE_STATE, .FL_STATE, .SEAL_GRAN_SEAL]) (s : State) (n i : Nat) : (s.begun n).rd g i = s.rd g i := by
  simp only [List.mem_cons, List.not_mem_nil, or_false, not_or] at hg
  exact rd_begun s n hg.1 hg.2.1 hg.2.2 i

theorem migIn_begun (s : State) (n : Nat) : (s.begun n).migIn n = s.migIn n := by
  rw [State.migIn, par_begun, par_begun, dieRead_begun, State.migIn]

theorem shape_begun (s : State) (n f : Nat) : (s.begun n).shape f = s.shape f := by
  simp only [State.shape, rd_begun_of (by decide : Field.FL_GROUPS ∉ _), rd_begun_of (by decide : Field.FL_SIZE ∉ _), rd_begun_of (by decide : Field.FL_QCOUNT ∉ _),
    rd_begun_of (by decide : Field.FL_TCOUNT_M1 ∉ _), rd_begun_of (by decide : Field.MC_STORE_BASE ∉ _), rd_begun_of (by decide : Field.FL_BASE ∉ _),
    rd_begun_of (by decide : Field.MC_STORE_SIZE ∉ _)]

theorem kyrdo_begun (s : State) (n : Nat) : (s.begun n).kyrdo = s.kyrdo :=
  begun_keeps State.kyrdo (fun _ _ => rfl) (fun _ _ _ => rfl) (fun _ _ _ => rfl) s n

theorem sameFirmware_of_kyrdo {s t : State} (h : t.kyrdo = s.kyrdo) (m : MigMsg) : t.sameFirmware m = s.sameFirmware m := by
  simp only [State.sameFirmware, State.components, h]

end

/-! ## MIG_OFFER (R441) -/

theorem migOffer_of_quenched {b : State} {n : Nat} (href : b.frefOk n = true) (hstate : b.flaskState (b.fref n).1 = flQUENCHED)
    (hbefore : (b.vault (b.fref n).1).before = flSEALED) (hphase : b.rd .QN_PHASE (b.fref n).1 = qnQUENCHED)
    (hbuf : b.migBufFails (b.fref n).1 (b.par n 1) = none) : b.migOffer n = b.askKyrdo n (b.fref n).1 (.offer (b.par n 1)) := by
  unfold State.migOffer
  refine (if_neg (by rw [href]; decide)).trans ((if_neg (not_or.2 ⟨not_not.2 hstate, not_or.2 ⟨not_not.2 hbefore, not_not.2 hphase⟩⟩)).trans ?_)
  rw [hbuf]

theorem answers_migOffer {s : State} {n : Nat} (hs : s.starts n 0x62) :
    let b := s.begun n
    let f := (s.fref n).1
    b.frefOk n = true → b.flaskState f = flQUENCHED → (s.vault f).before = flSEALED → s.rd .QN_PHASE f = qnQUENCHED →
    b.migBufFails f (s.par n 1) = none → answers (.migOffer n) s (fun u => sameMem s u ∧ b.asked u n f (.offer (s.par n 1)) ∧ onlyRegs b u []) := by
  intro b f href hstate hbefore hphase hbuf
  have hmade : b.migOffer n = b.askKyrdo n f (.offer (s.par n 1)) := by
    have h := migOffer_of_quenched (b := b) (n := n) href
    rw [fref_begun, par_begun, vault_begun, rd_begun_of (by decide)] at h
    exact h hstate hbefore hphase hbuf
  exact ⟨_, congrArg s.after ((mbRun_of_starts hs fun t => t.migOffer n).trans (congrArg State.unclaim hmade)),
    askKyrdo_leaves hs.1 (sameMem_begun s n) f (.offer (s.par n 1))⟩

/-- Kyrdo A's offer. -/
theorem acts_offer {s : State} {n buf : Nat} {r : KyReq} (nonce eph sig : List Byte) (hn : n < 16) (hr : s.kyreq? n = some r) (hask : r.ask = .offer buf) :
    let msg := s.migSigned (s.migClaims r.flask nonce eph none) sig
    acts (.kyrdoAnswer n (.offer nonce eph sig)) s (fun u => u.replied n stOK ∧ s.landed u buf msg ∧
      u.sess r.flask = some { source := true, offer := sha384 msg }) := by
  intro msg
  have hmade : s.kyrdoAnswer n (.offer nonce eph sig) = (s.dropKy n).offerAnswer n r.flask buf nonce eph sig := by
    unfold State.kyrdoAnswer
    rw [hr]
    dsimp only
    rw [hask]
  let t := ((s.dropKy n).dropMigKey r.flask).setSess r.flask (some { source := true, offer := sha384 msg })
  have hhlp : t.hlp = s.hlp := by
    show ((s.dropKy n).dropMigKey r.flask).hlp = s.hlp
    unfold State.dropMigKey
    split
    · exact clearSlot_keeps (p := State.hlp) (fun _ _ _ _ _ => rfl) (fun _ _ => rfl) _ _
    · rfl
  refine ⟨(t.mailWrite r.flask buf msg).reply n stOK [msg.length], congrArg s.after hmade, replied_reply _ _ hn (by decide), landed_mailed hhlp _ _ _ _ _ _, ?_⟩
  refine (sess_of_vaults ?_ r.flask).trans (sess_setSess ((s.dropKy n).dropMigKey r.flask) r.flask _)
  exact (reply_keeps State.vaults (fun _ _ _ _ => rfl) _ _ _ _).trans (mailWrite_vaults _ _ _ _)

/-! ## MIG_ACCEPT (R441) -/

/-- MIG_ACCEPT in slot n for flask f, in a state in which the offer's reading is counted. -/
def acceptRead (t : State) (n f : Nat) : State :=
  match migMsg false (t.migIn n) with
  | none => t.reply n stDENIED
  | some m =>
    if m.shape ≠ t.shape f then t.reply n stSTATE
    else if !t.sameFirmware m then t.reply n stDENIED
    else t.askKyrdo n f (.accept (t.par n 3) (t.migIn n))

theorem migIn_mailRead (b : State) (f k n : Nat) : (b.mailRead f k).migIn n = b.migIn n ∧ (b.mailRead f k).par n 3 = b.par n 3 := by
  obtain ⟨m, hm⟩ := countFor_eq b (.overhead f) 9 k
  rw [State.mailRead, hm]
  exact ⟨rfl, rfl⟩

theorem migAccept_of_empty {b : State} {n : Nat} (href : b.frefOk n = true) (hstate : b.flaskState (b.fref n).1 = flOPEN)
    (hphase : b.rd .QN_PHASE (b.fref n).1 = qnNONE) (hclaimed : b.claimed (b.fref n).1 KyAsk.isAccept = false) (hqueues : b.queuesOf (b.fref n).1 = [])
    (hmoulds : b.moulds.table.any (fun m => m.flask == some (b.fref n).1) = false)
    (hatlas : b.atlases.any (fun a => b.rd .XL_ATLAS_FLASK a == (b.fref n).1) = false)
    (hbuf : b.migBufFails (b.fref n).1 (b.par n 3) = none) :
    b.migAccept n = acceptRead (b.mailRead (b.fref n).1 (b.migIn n).length) n (b.fref n).1 := by
  have hcur : ¬ (!b.frefOk n) = true := by rw [href]; decide
  have hopen : ¬ (b.flaskState (b.fref n).1 ≠ flOPEN ∨ b.rd .QN_PHASE (b.fref n).1 ≠ qnNONE ∨ b.claimed (b.fref n).1 KyAsk.isAccept = true) := by
    rw [hclaimed]
    exact not_or.2 ⟨not_not.2 hstate, not_or.2 ⟨not_not.2 hphase, Bool.false_ne_true⟩⟩
  have hempty : ¬ (!(b.queuesOf (b.fref n).1).isEmpty || b.moulds.table.any (fun m => m.flask == some (b.fref n).1) ||
      b.atlases.any (fun a => b.rd .XL_ATLAS_FLASK a == (b.fref n).1)) = true := by
    rw [hqueues, hmoulds, hatlas]
    decide
  refine (if_neg hcur).trans ((if_neg hopen).trans ((if_neg hempty).trans ?_))
  rw [hbuf]
  rfl

theorem acceptRead_of_none {t : State} {n : Nat} (f : Nat) (h : migMsg false (t.migIn n) = none) : acceptRead t n f = t.reply n stDENIED := by
  rw [acceptRead, h]

theorem acceptRead_of_some {t : State} {n : Nat} (f : Nat) {m : MigMsg} (h : migMsg false (t.migIn n) = some m) : acceptRead t n f =
    if m.shape ≠ t.shape f then t.reply n stSTATE
    else if !t.sameFirmware m then t.reply n stDENIED
    else t.askKyrdo n f (.accept (t.par n 3) (t.migIn n)) := by
  rw [acceptRead, h]

/-- The view of what MIG_ACCEPT compares an offer with. -/
theorem offerView_mailRead (s : State) (n f k : Nat) (m : MigMsg) : ((s.begun n).mailRead f k).migIn n = s.migIn n ∧
    ((s.begun n).mailRead f k).par n 3 = s.par n 3 ∧ ((s.begun n).mailRead f k).shape f = s.shape f ∧
    ((s.begun n).mailRead f k).sameFirmware m = s.sameFirmware m := by
  have hkyrdo : ((s.begun n).mailRead f k).kyrdo = s.kyrdo := by
    obtain ⟨mt, hmt⟩ := countFor_eq (s.begun n) (.overhead f) 9 k
    rw [State.mailRead, hmt]
    exact kyrdo_begun s n
  have hshape : ((s.begun n).mailRead f k).shape f = (s.begun n).shape f := by
    obtain ⟨mt, hmt⟩ := countFor_eq (s.begun n) (.overhead f) 9 k
    rw [State.mailRead, hmt]
    rfl
  exact ⟨(migIn_mailRead _ f k n).1.trans (migIn_begun s n), (migIn_mailRead _ f k n).2.trans (par_begun s n 3), hshape.trans (shape_begun s n f),
    sameFirmware_of_kyrdo hkyrdo m⟩

section
variable {s : State} {n : Nat}

theorem atlases_begun (s : State) (n : Nat) : (s.begun n).atlases = s.atlases :=
  begun_keeps State.atlases (fun t _ => listed_wr_ne t (by decide) _ _) (fun t _ _ => listed_wr_ne t (by decide) _ _) (fun t _ _ => listed_wr_ne t (by decide) _ _) s n

variable (hs : s.starts n 0x63) (hclean : s.dirtyLines (s.par n 1) (bits (s.par n 2) 0 15) = [])
include hs hclean

theorem answers_mig {i : Instr} {body : State → State} (hi : exec i s = s.after (s.mbHome n 0x63 (fun t => [(t.par n 1, bits (t.par n 2) 0 15)]) body))
    {u : State} {P : State → Prop} (hu : body (s.begun n) = u) (hP : P u) : answers i s P := by
  refine ⟨u, hi.trans (congrArg s.after ((mbHome_of_starts hs ?_ body).trans (congrArg State.unclaim hu))), hP⟩
  show (!(s.dirtyLines (s.par n 1) (bits (s.par n 2) 0 15)).isEmpty || false) = false
  rw [hclean]
  rfl

/-- MIG_ACCEPT from its start point. -/
theorem answers_migAccept :
    let b := s.begun n
    let f := (s.fref n).1
    b.frefOk n = true → b.flaskState f = flOPEN → s.rd .QN_PHASE f = qnNONE → s.queuesOf f = [] →
    s.moulds.table.any (fun m => m.flask == some f) = false → s.atlases.any (fun a => s.rd .XL_ATLAS_FLASK a == f) = false →
    b.migBufFails f (s.par n 3) = none → b.claimed f KyAsk.isAccept = false →
    (migMsg false (s.migIn n) = none → answers (.migAccept n) s (fun u => sameMem s u ∧ u.replied n stDENIED)) ∧
    (∀ m, migMsg false (s.migIn n) = some m →
      (m.shape ≠ s.shape f → answers (.migAccept n) s (fun u => sameMem s u ∧ u.replied n stSTATE)) ∧
      (m.shape = s.shape f → s.sameFirmware m = false → answers (.migAccept n) s (fun u => sameMem s u ∧ u.replied n stDENIED)) ∧
      (m.shape = s.shape f → s.sameFirmware m = true → answers (.migAccept n) s (fun u => sameMem s u ∧ onlyRegs b u [] ∧
        b.asked u n f (.accept (s.par n 3) (s.migIn n))))) := by
  intro b f href hstate hphase hqueues hmoulds hatlas hbuf hclaimed
  let k := (s.migIn n).length
  let t := b.mailRead f k
  have hmade : b.migAccept n = acceptRead t n f := by
    have h := migAccept_of_empty (b := b) (n := n) href
    rw [fref_begun, par_begun, rd_begun_of (by decide), queuesOf_begun, begun_moulds, atlases_begun, migIn_begun] at h
    refine h hstate hphase hclaimed hqueues hmoulds ?_ hbuf
    have hflask : (fun a => b.rd .XL_ATLAS_FLASK a == f) = fun a => s.rd .XL_ATLAS_FLASK a == f :=
      funext fun a => congrArg (· == f) (rd_begun_of (by decide) s n a)
    exact (congrArg (List.any s.atlases) hflask).trans hatlas
  have hview (m : MigMsg) := offerView_mailRead s n f k m
  have hdone {u : State} {P : State → Prop} (hu : acceptRead t n f = u) (hP : P u) : answers (.migAccept n) s P :=
    answers_mig hs hclean (body := fun t => t.migAccept n) rfl (hmade.trans hu) hP
  refine ⟨fun hnone => hdone (acceptRead_of_none f ?_) (reply_read hs.1 f k (by decide)), fun m hm => ?_⟩
  · rw [(migIn_mailRead b f k n).1, migIn_begun]
    exact hnone
  obtain ⟨hin, hpar, hshape, hfirm⟩ := hview m
  have hread := acceptRead_of_some (t := t) (n := n) f (m := m) (by rw [hin]; exact hm)
  rw [hin, hpar, hshape, hfirm] at hread
  refine ⟨fun hne => hdone (hread.trans (if_pos hne)) (reply_read hs.1 f k (by decide)),
    fun heq hno => hdone (hread.trans ((if_neg (not_not.2 heq)).trans (if_pos (by rw [hno]; rfl)))) (reply_read hs.1 f k (by decide)),
    fun heq hsame => hdone (hread.trans ((if_neg (not_not.2 heq)).trans (if_neg (by rw [hsame]; decide)))) ?_⟩
  obtain ⟨hmem, hasked, hregs⟩ := askKyrdo_read hs.1 f k f (.accept (s.par n 3) (s.migIn n))
  exact ⟨hmem, hregs, hasked⟩

end

end Sys2Proof.Laws

/-! # The key of a migration

K_mig in a key slot: Kyrdo's answers to MIG_ACCEPT and MIG_BIND, and MIG_BIND itself (R441). -/
namespace Sys2Proof.Laws

open Sys2Proof.Machine

/-! ## K_mig enters a slot -/

/-- Key slot k is taken for the session key of flask f. -/
def slotTaken (s : State) (f k : Nat) : State :=
  (((s.wr .KEY_SLOT_VALID 1 k).wr .KEY_SLOT_USE 0 k).wr .KEY_SLOT_FLASK f k).wr .KEY_SLOT_FLASK_GEN (s.flaskGen f) k

/-- K_mig stands in key slot k of flask f. -/
def migKeyIn (s : State) (f k : Nat) (key : List Byte) : State := (slotTaken s f k).putKey k (slice key 0 32)

section
variable (s : State) (f k : Nat) (key : List Byte)

theorem putMigKey_of_free {k : Nat} (h : lowest 256 (fun k => !s.on .KEY_SLOT_VALID k) = some k) : s.putMigKey f key = some (k, migKeyIn s f k key) := by
  rw [State.putMigKey, h]
  rfl

theorem migKeyIn_keeps {β : Type} {p : State → β} (hwr : ∀ (t : State) g v i, g ∈ slotFields → p (t.wr g v i) = p t)
    (hkeys : ∀ (t : State) ks id, p { t with keys := ks, nextId := id } = p t) : p (migKeyIn s f k key) = p s :=
  (hkeys (slotTaken s f k) _ _).trans ((hwr _ _ _ _ (by decide)).trans ((hwr _ _ _ _ (by decide)).trans ((hwr _ _ _ _ (by decide)).trans (hwr _ _ _ _ (by decide)))))

theorem rd_migKeyIn {g : Field} (hg : g ∉ slotFields) (i : Nat) : (migKeyIn s f k key).rd g i = s.rd g i :=
  migKeyIn_keeps s f k key (p := fun t : State => t.rd g i) (fun t _ v _ h => rd_wr_ne t v (.inl fun he => hg (he ▸ h))) fun _ _ _ => rfl

theorem mem_keyNames_migKeyIn : (k, slice key 0 32) ∈ keyNames (migKeyIn s f k key) :=
  List.mem_map.2 ⟨_, List.mem_append_right _ (List.mem_singleton.2 rfl), rfl⟩

/-- What a state in which the slot's registers and its key still stand says of it. -/
theorem holdsKey_of_migKeyIn (hf : f < 64) {u : State} (hrd : ∀ g ∈ [Field.KEY_SLOT_VALID, .KEY_SLOT_USE, .KEY_SLOT_FLASK], u.rd g k = (migKeyIn s f k key).rd g k)
    (hnames : keyNames u = keyNames (migKeyIn s f k key)) : u.holdsKey k 0 f := by
  have hname := mem_keyNames_migKeyIn s f k key
  rw [← hnames] at hname
  obtain ⟨m, hm, hms, -⟩ := mem_keyNames hname
  refine ⟨(hrd _ (by decide)).trans ?_, (hrd _ (by decide)).trans ?_, (hrd _ (by decide)).trans ?_, m, hm, hms⟩
  · exact (rd_wr_ne _ _ (.inl (by decide))).trans ((rd_wr_ne _ _ (.inl (by decide))).trans ((rd_wr_ne _ _ (.inl (by decide))).trans (rd_wr_same _ _ _ _)))
  · exact (rd_wr_ne _ _ (.inl (by decide))).trans ((rd_wr_ne _ _ (.inl (by decide))).trans (rd_wr_same _ _ _ _))
  · exact (rd_wr_ne _ _ (.inl (by decide))).trans ((rd_wr_same _ _ _ _).trans (Nat.mod_eq_of_lt hf))

end

/-! ## Kyrdo's answer to MIG_BIND (R441) -/

theorem acts_bound {s : State} {n k : Nat} {r : KyReq} {v : Session} {acc : List Byte} (key : List Byte) (hn : n < 16) (hr : s.kyreq? n = some r)
    (hask : r.ask = .bind acc) (hf : r.flask < 64) (hv : s.sess r.flask = some v) (hk : lowest 256 (fun k => !s.on .KEY_SLOT_VALID k) = some k) :
    acts (.kyrdoAnswer n (.bound key)) s (fun u => sameMem s u ∧ u.replied n stOK ∧ u.holdsKey k 0 r.flask ∧
      u.sess r.flask = some { v with accept := sha384 acc, slot := some k }) := by
  let t := migKeyIn (s.dropKy n) r.flask k key
  let w : Session := { v with accept := sha384 acc, slot := some k }
  have hmade : s.kyrdoAnswer n (.bound key) = (t.setSess r.flask (some w)).reply n stOK := by
    unfold State.kyrdoAnswer
    rw [hr]
    dsimp only
    rw [hask]
    show (s.dropKy n).bindAnswer n r.flask acc key = _
    have hput := putMigKey_of_free (s.dropKy n) r.flask key hk
    have hsess : (s.dropKy n).sess r.flask = some v := hv
    rw [State.bindAnswer, hput, hsess]
  have hrd {g : Field} (hg : g ∉ replyNames) (i : Nat) : ((t.setSess r.flask (some w)).reply n stOK).rd g i = t.rd g i := rd_reply_other hg _ _ _ _ _
  refine ⟨_, congrArg s.after hmade, (sameMem_reply _ _ _ _ _).2 (sameMem_of_eq ?_ ?_), replied_reply _ _ hn (by decide),
    holdsKey_of_migKeyIn (s.dropKy n) r.flask k key hf (fun g hg => hrd (by revert g; decide) k) (reply_keeps keyNames (fun _ _ _ _ => rfl) _ _ _ _), ?_⟩
  · exact migKeyIn_keeps (s.dropKy n) r.flask k key (p := State.hbm) (fun _ _ _ _ _ => rfl) fun _ _ _ => rfl
  · exact migKeyIn_keeps (s.dropKy n) r.flask k key (p := State.wbuf) (fun _ _ _ _ _ => rfl) fun _ _ _ => rfl
  · exact (sess_of_vaults (reply_keeps State.vaults (fun _ _ _ _ => rfl) _ _ _ _) r.flask).trans (sess_setSess t r.flask _)

/-! ## MIG_BIND (R441) -/

/-- MIG_BIND in slot n for the session v, in a state in which the accept's reading is counted. -/
def bindRead (t : State) (n f : Nat) (v : Session) : State :=
  if t.acceptOk v (t.migIn n) then t.askKyrdo n f (.bind (t.migIn n)) else t.reply n stDENIED

theorem migBind_of_offered {b : State} {n : Nat} {v : Session} (href : b.frefOk n = true) (hv : b.sess (b.fref n).1 = some v) (hsource : v.source = true)
    (hslot : v.slot = none) (hphase : b.rd .QN_PHASE (b.fref n).1 = qnQUENCHED) (hclaimed : b.claimed (b.fref n).1 KyAsk.isBind = false) :
    b.migBind n = bindRead (b.mailRead (b.fref n).1 (b.migIn n).length) n (b.fref n).1 v := by
  have hcur : ¬ (!b.frefOk n) = true := by rw [href]; decide
  have hfit : (b.sess (b.fref n).1).filter (fun v => v.source && v.slot.isNone && b.rd .QN_PHASE (b.fref n).1 == qnQUENCHED &&
      !b.claimed (b.fref n).1 KyAsk.isBind) = some v := by
    rw [hv, Option.filter_some, hsource, hslot, hphase, hclaimed]
    rfl
  refine (if_neg hcur).trans ?_
  rw [hfit]
  rfl

theorem answers_migBind {s : State} {n : Nat} {v : Session} (hs : s.starts n 0x64) (hclean : s.dirtyLines (s.par n 1) (bits (s.par n 2) 0 15) = []) :
    let b := s.begun n
    let f := (s.fref n).1
    b.frefOk n = true → s.sess f = some v → v.source = true → v.slot = none → s.rd .QN_PHASE f = qnQUENCHED →
    b.claimed f KyAsk.isBind = false →
    (s.acceptOk v (s.migIn n) = true → answers (.migBind n) s (fun u => sameMem s u ∧ onlyRegs b u [] ∧
      b.asked u n f (.bind (s.migIn n)))) ∧
    (s.acceptOk v (s.migIn n) = false → answers (.migBind n) s (fun u => sameMem s u ∧ u.replied n stDENIED)) := by
  intro b f href hv hsource hslot hphase hclaimed
  let k := (s.migIn n).length
  let t := b.mailRead f k
  have hmade : b.migBind n = bindRead t n f v := by
    have h := migBind_of_offered (b := b) (n := n) (v := v) href
    rw [fref_begun, rd_begun_of (by decide), sess_begun, migIn_begun] at h
    exact h hv hsource hslot hphase hclaimed
  have hin : t.migIn n = s.migIn n := (migIn_mailRead b f k n).1.trans (migIn_begun s n)
  have haccept : t.acceptOk v (s.migIn n) = s.acceptOk v (s.migIn n) := by
    have hfirm (m : MigMsg) : t.sameFirmware m = s.sameFirmware m := (offerView_mailRead s n f k m).2.2.2
    simp only [State.acceptOk, hfirm]
  have hread : bindRead t n f v = if s.acceptOk v (s.migIn n) then t.askKyrdo n f (.bind (s.migIn n)) else t.reply n stDENIED := by
    rw [bindRead, hin, haccept]
  have hdone {u : State} {P : State → Prop} (hu : bindRead t n f v = u) (hP : P u) : answers (.migBind n) s P := by
    refine ⟨u, congrArg s.after ((mbHome_of_starts hs ?_ fun t => t.migBind n).trans (congrArg State.unclaim (hmade.trans hu))), hP⟩
    show (!(s.dirtyLines (s.par n 1) (bits (s.par n 2) 0 15)).isEmpty || false) = false
    rw [hclean]
    rfl
  refine ⟨fun hok => hdone (hread.trans (if_pos hok)) ?_, fun hno => hdone (hread.trans (if_neg (by rw [hno]; exact Bool.false_ne_true))) (reply_read hs.1 f k (by decide))⟩
  obtain ⟨hmem, hasked, hregs⟩ := askKyrdo_read hs.1 f k f (.bind (s.migIn n))
  exact ⟨hmem, hregs, hasked⟩

/-! ## Kyrdo's answer to MIG_ACCEPT (R441) -/

theorem waitSeal_keeps {β : Type} {p : State → β} (hsay : ∀ (t : State) m, p (t.say m) = p t)
    (hrecalls : ∀ (t : State) r, p { t with hlp := { t.hlp with recalls := r } } = p t) (hseals : ∀ (t : State) l, p { t with seals := l } = p t)
    (t : State) (w : SealWait) : p (t.waitSeal w) = p t := by
  refine (hseals _ _).trans (foldl_keeps p (fun u l => ?_) _ t)
  unfold State.recall
  split
  · rfl
  · exact (hrecalls (u.say (.recall l)) _).trans (hsay u _)

theorem landed_of_waits {s t u v : State} {a : Nat} {bs : List Byte} (hs : t.hlp = s.hlp) (hu : v.hbm = u.hbm) (hw : v.hlp.waits = u.hlp.waits)
    (h : t.landed u a bs) : s.landed v a bs := by
  have hblock : t.storeBlock (linesOf (cellsAt a bs)) = s.storeBlock (linesOf (cellsAt a bs)) := by
    simp only [State.storeBlock, State.hostHeld, hs]
  rw [State.landed, hblock] at h
  simpa only [State.landed, State.sysRead, State.sysByte, hu, hw] using h

/-- Flask f imports under the session v, with every granule sealed. -/
def importing (t : State) (f : Nat) (v : Session) : State := ((t.setSess f (some v)).wr .QN_PHASE qnIMPORTING f).setSeals f (fun _ => 1)

section
variable (t : State) (f : Nat) (v : Session)

theorem importing_keeps {β : Type} {p : State → β} (hwr : ∀ (t : State) g x i, g = .QN_PHASE ∨ g = .SEAL_GRAN_SEAL → p (t.wr g x i) = p t)
    (hvaults : ∀ (t : State) x, p { t with vaults := x } = p t) : p (importing t f v) = p t :=
  (setSeals_keeps (fun t _ _ => hwr t _ _ _ (.inr rfl)) _ _ _).trans ((hwr _ _ _ _ (.inl rfl)).trans (hvaults t _))

theorem importing_leaves : (importing t f v).rd .QN_PHASE f = qnIMPORTING ∧ (importing t f v).sess f = some v ∧
    ∀ i, i < t.rd .FL_SIZE f → (importing t f v).rd .SEAL_GRAN_SEAL (t.rd .FL_BASE f + i) = 1 := by
  have hrd {g : Field} (hg : Field.QN_PHASE ≠ g) (i : Nat) : ((t.setSess f (some v)).wr .QN_PHASE qnIMPORTING f).rd g i = t.rd g i :=
    rd_wr_ne _ _ (.inl hg)
  refine ⟨?_, ?_, fun i hi => ?_⟩
  · exact (setSeals_keeps (p := fun t : State => t.rd .QN_PHASE f) (fun t _ _ => rd_wr_ne t _ (.inl (by decide))) _ _ _).trans (rd_wr_same _ _ _ _)
  · exact (sess_of_vaults (setSeals_keeps (p := State.vaults) (fun _ _ _ => rfl) _ _ _) f).trans (sess_setSess t f (some v))
  · have hset := rd_setSeals_of_lt ((t.setSess f (some v)).wr .QN_PHASE qnIMPORTING f) f (v := fun _ => 1) (fun _ => by decide) (i := i)
      (by rw [hrd (by decide)]; exact hi)
    rw [hrd (by decide)] at hset
    exact hset

end

theorem acts_accept {s : State} {n buf k : Nat} {r : KyReq} {offer eph sig key : List Byte} {m : MigMsg} (hr : s.kyreq? n = some r)
    (hask : r.ask = .accept buf offer) (hf : r.flask < 64) (hm : migMsg false offer = some m)
    (hk : lowest 256 (fun k => !s.on .KEY_SLOT_VALID k) = some k) :
    let msg := s.migSigned (s.migClaims r.flask m.nonce eph (some (sha384 offer))) sig
    acts (.kyrdoAnswer n (.accept eph sig key)) s (fun u => u.rd .QN_PHASE r.flask = qnIMPORTING ∧ u.holdsKey k 0 r.flask ∧
      s.landed u buf msg ∧ u.sess r.flask = some { source := false, offer := sha384 offer, accept := sha384 msg, slot := some k } ∧
      (∀ i, i < s.rd .FL_SIZE r.flask → u.rd .SEAL_GRAN_SEAL (s.rd .FL_BASE r.flask + i) = 1) ∧
      ∃ w ∈ u.seals, w.slot = n ∧ w.flask = r.flask) := by
  intro msg
  let v : Session := { source := false, offer := sha384 offer, accept := sha384 msg, slot := some k }
  let t := importing (migKeyIn (s.dropKy n) r.flask k key) r.flask v
  let w : SealWait := { slot := n, flask := r.flask, outs := [msg.length] }
  have hmade : s.kyrdoAnswer n (.accept eph sig key) = (t.mailWrite r.flask buf msg).waitSeal w := by
    unfold State.kyrdoAnswer
    rw [hr]
    dsimp only
    rw [hask]
    show (s.dropKy n).acceptAnswer n r.flask buf offer eph sig key = _
    rw [State.acceptAnswer, putMigKey_of_free (s.dropKy n) r.flask key hk]
    dsimp only
    rw [hm] <;> rfl
  have hrdu (g : Field) (i : Nat) : ((t.mailWrite r.flask buf msg).waitSeal w).rd g i = t.rd g i :=
    (waitSeal_keeps (p := fun t : State => t.rd g i) (fun _ _ => rfl) (fun _ _ => rfl) (fun _ _ => rfl) _ w).trans (rd_mailWrite t r.flask buf msg g i)
  obtain ⟨hphase, hsess, hseals⟩ := importing_leaves (migKeyIn (s.dropKy n) r.flask k key) r.flask v
  have hkey {g : Field} (hg : g ∉ slotFields) (i : Nat) : (migKeyIn (s.dropKy n) r.flask k key).rd g i = s.rd g i := rd_migKeyIn (s.dropKy n) r.flask k key hg i
  rw [hkey (by decide), hkey (by decide)] at hseals
  have hhlp : t.hlp = s.hlp := (importing_keeps _ _ _ (p := State.hlp) (fun _ _ _ _ _ => rfl) fun _ _ => rfl).trans
    (migKeyIn_keeps (s.dropKy n) r.flask k key (p := State.hlp) (fun _ _ _ _ _ => rfl) fun _ _ _ => rfl)
  refine ⟨_, congrArg s.after hmade, (hrdu _ _).trans hphase, holdsKey_of_migKeyIn (s.dropKy n) r.flask k key hf (fun g hg => (hrdu g k).trans ?_) ?_, ?_, ?_,
    fun i hi => (hrdu _ _).trans (hseals i hi), ?_⟩
  · exact importing_keeps _ _ _ (p := fun t : State => t.rd g k) (fun t h x i hh => rd_wr_ne t x (.inl (by revert hg; rcases hh with rfl | rfl <;> revert g <;> decide)))
      fun _ _ => rfl
  · exact (waitSeal_keeps (p := keyNames) (fun _ _ => rfl) (fun _ _ => rfl) (fun _ _ => rfl) _ w).trans ((keyNames_mailWrite t _ _ _).trans
      (importing_keeps _ _ _ (p := keyNames) (fun _ _ _ _ _ => rfl) fun _ _ => rfl))
  · refine landed_of_waits hhlp ?_ ?_ (landed_mailed (s := t) rfl r.flask buf msg 0 0 [])
    · exact (waitSeal_keeps (p := State.hbm) (fun _ _ => rfl) (fun _ _ => rfl) (fun _ _ => rfl) _ w).trans (reply_keeps State.hbm (fun _ _ _ _ => rfl) _ _ _ _).symm
    · exact (waitSeal_keeps (p := fun t : State => t.hlp.waits) (fun _ _ => rfl) (fun _ _ => rfl) (fun _ _ => rfl) _ w).trans
        (reply_keeps (fun t : State => t.hlp.waits) (fun _ _ _ _ => rfl) _ _ _ _).symm
  · exact (sess_of_vaults ((waitSeal_keeps (p := State.vaults) (fun _ _ => rfl) (fun _ _ => rfl) (fun _ _ => rfl) _ w).trans (mailWrite_vaults t _ _ _)) r.flask).trans hsess
  · obtain ⟨x, hx, hslot, hflask, -⟩ := waitSeal_waits (t.mailWrite r.flask buf msg) w
    exact ⟨x, hx, hslot, hflask⟩

end Sys2Proof.Laws

/-! # A sealed flask leaves

MIG_EXPORT of a run and of the bundle, and Kyrdo's part of it (R442). -/
namespace Sys2Proof.Laws

open Sys2Proof.Machine

/-! ## The granules of a run -/

section
variable (v : Session) (f a k j : Nat)

/-- Entry i of a run of k granules from offset j is written into the staging area at a; the sealed granules are recorded. -/
def exportStep (r : State × List Nat) (i : Nat) : State × List Nat :=
  let (t, done) := r
  let o := j + i
  let e := a + k * granule + i * 32
  if t.granSealed (t.rd .FL_BASE f + o) then
    match t.migKey v with
    | none => (t, done)
    | some m =>
      let (ct, tag, u) := t.encrypt m (v.aad o) (t.dieRead (t.flaskBase f + o * granule) granule)
      let w := ((u.mailRead f granule).countFor (.overhead f) 11 granule).mailWrite f (a + i * granule) ct
      (w.mailWrite f e (leBytes 4 o ++ ownIv m.slot m.ctr ++ tag), done ++ [o])
  else
    (t.mailWrite f e (leBytes 4 0xFFFFFFFF ++ (List.range 28).map (fun b => Config.exportByte (e + 4 + b))), done)

/-- A write of a run moves no register, no session and no key. -/
theorem exportStep_keeps {β : Type} {p : State → β} (h : blindToMail p)
    (hkeys : ∀ (t : State) k, p { t with keys := updAll t.keys (fun x => x.slot == k) (fun x => { x with ctr := x.ctr + 1 }) } = p t)
    (r : State × List Nat) (i : Nat) : p (exportStep v f a k j r i).1 = p r.1 := by
  obtain ⟨t, done⟩ := r
  unfold exportStep
  dsimp only
  split
  · split
    · rfl
    · dsimp only
      exact (mailWrite_keeps h _ _ _ _).trans ((mailWrite_keeps h _ _ _ _).trans ((h.countFor _ _ _ _).trans ((h.countFor _ _ _ _).trans (hkeys t _))))
  · dsimp only
    exact mailWrite_keeps h _ _ _ _

/-- A granule is recorded exactly when it is sealed. -/
theorem exportStep_done {r : State × List Nat} (hkey : (r.1.migKey v).isSome = true) (i : Nat) :
    (exportStep v f a k j r i).2 = if r.1.granSealed (r.1.rd .FL_BASE f + (j + i)) then r.2 ++ [j + i] else r.2 := by
  obtain ⟨t, done⟩ := r
  obtain ⟨m, hm⟩ := Option.isSome_iff_exists.1 hkey
  unfold exportStep
  dsimp only
  dsimp only at hm
  rw [hm]
  split <;> rfl

end

theorem isSome_keyOf (s : State) (k : Nat) : (s.keyOf k).isSome = (keyNames s).any (fun p => p.1 == k) := by
  rw [Bool.eq_iff_iff, State.keyOf, List.find?_isSome, keyNames, List.any_map, List.any_eq_true]
  rfl

theorem isSome_migKey {s t : State} (h : keyNames t = keyNames s) (v : Session) : (t.migKey v).isSome = (s.migKey v).isSome := by
  unfold State.migKey
  cases v.slot with
  | none => rfl
  | some k =>
    show (t.keyOf k).isSome = (s.keyOf k).isSome
    rw [isSome_keyOf, isSome_keyOf, h]

/-- A run of the session v: what is recorded, and what stays. -/
theorem exportSteps_leave {v : Session} (f a k j : Nat) {t : State} (hkey : (t.migKey v).isSome = true) (n : Nat) :
    let r := (List.range n).foldl (exportStep v f a k j) (t, [])
    r.2 = ((List.range n).map (fun i => j + i)).filter (fun o => t.granSealed (t.rd .FL_BASE f + o)) ∧
      (∀ g i, r.1.rd g i = t.rd g i) ∧ r.1.vaults = t.vaults ∧ keyNames r.1 = keyNames t := by
  induction n with
  | zero => exact ⟨rfl, fun _ _ => rfl, rfl, rfl⟩
  | succ n ih =>
    obtain ⟨hdone, hrd, hvaults, hnames⟩ := ih
    intro r
    have hr : r = exportStep v f a k j ((List.range n).foldl (exportStep v f a k j) (t, [])) n := by
      show (List.range (n + 1)).foldl _ _ = _
      rw [List.range_succ, List.foldl_append, List.foldl_cons, List.foldl_nil]
    generalize (List.range n).foldl (exportStep v f a k j) (t, []) = q at hdone hrd hvaults hnames hr
    rw [hr]
    refine ⟨?_, fun g i => (exportStep_keeps v f a k j (blindToMail_rd g i) (fun _ _ => rfl) q n).trans (hrd g i),
      (exportStep_keeps v f a k j blindToMail_vaults (fun _ _ => rfl) q n).trans hvaults,
      (exportStep_keeps v f a k j blindToMail_keyNames keyNames_counted q n).trans hnames⟩
    rw [exportStep_done v f a k j (by rw [isSome_migKey hnames]; exact hkey) n, State.granSealed, hrd, hrd, hdone, List.range_succ, List.map_append,
      List.filter_append]
    split
    · rename_i hsealed
      rw [List.map_singleton, List.filter_cons_of_pos (p := fun o => t.granSealed (t.rd .FL_BASE f + o)) hsealed, List.filter_nil]
    · rename_i hopen
      rw [List.map_singleton, List.filter_cons_of_neg (p := fun o => t.granSealed (t.rd .FL_BASE f + o)) hopen, List.filter_nil, List.append_nil]

/-! ## MIG_EXPORT of a run (R442) -/

/-- The end of a run of k granules in slot n: r is what its entries have left. -/
def exportDone (r : State × List Nat) (f n k : Nat) : State :=
  (match r.1.sess f with
    | some u => r.1.setSess f (some { u with granules := r.2.foldl (fun l o => insertNat o l) u.granules })
    | none => r.1).reply n stOK [r.2.length * granule + k * 32]

section
variable {b : State} {n : Nat} {v : Session} (href : b.frefOk n = true) (hsize : b.stage.2 ≠ 0) (hv : b.sess (b.fref n).1 = some v)
  (hsource : v.source = true) (hslot : v.slot.isSome = true)
  (hphase : b.rd .QN_PHASE (b.fref n).1 = qnQUENCHED ∨ b.rd .QN_PHASE (b.fref n).1 = qnEXPORTING) (hstage : b.stageOk = true)
include href hsize hv hsource hslot hphase hstage

theorem exportRun_of_ready (hroom : runBytes (bits (b.par n 1) 32 32) ≤ b.stage.2)
    (hrange : bits (b.par n 1) 0 32 + bits (b.par n 1) 32 32 ≤ b.rd .FL_SIZE (b.fref n).1) :
    b.exportRun n = exportDone ((List.range (bits (b.par n 1) 32 32)).foldl
      (exportStep v (b.fref n).1 b.stage.1 (bits (b.par n 1) 32 32) (bits (b.par n 1) 0 32)) (b.wr .QN_PHASE qnEXPORTING (b.fref n).1, []))
      (b.fref n).1 n (bits (b.par n 1) 32 32) := by
  have hcur : ¬ (!b.frefOk n) = true := by rw [href]; decide
  have hready : ¬ (!v.source || v.slot.isNone || (b.rd .QN_PHASE (b.fref n).1 != qnQUENCHED && b.rd .QN_PHASE (b.fref n).1 != qnEXPORTING)) = true := by
    rw [hsource, Option.isNone_eq_false_iff.2 hslot]
    rcases hphase with h | h <;> rw [h] <;> decide
  have hplaced : ¬ (!b.stageOk) = true := by rw [hstage]; decide
  have hfits : ¬ (b.stage.2 < runBytes (bits (b.par n 1) 32 32) ∨ b.rd .FL_SIZE (b.fref n).1 < bits (b.par n 1) 0 32 + bits (b.par n 1) 32 32) :=
    not_or.2 ⟨Nat.not_lt.2 hroom, Nat.not_lt.2 hrange⟩
  refine (if_neg hcur).trans ((if_neg hsize).trans ?_)
  rw [hv]
  refine (if_neg hready).trans ((if_neg hplaced).trans ((if_neg hfits).trans ?_))
  rfl

theorem exportBundle_of_ready : b.exportBundle n = b.askKyrdo n (b.fref n).1 .bundle := by
  have hcur : ¬ (!b.frefOk n) = true := by rw [href]; decide
  have hready : ¬ (!(b.sess (b.fref n).1).any (fun v => v.source && v.slot.isSome) ||
      (b.rd .QN_PHASE (b.fref n).1 != qnQUENCHED && b.rd .QN_PHASE (b.fref n).1 != qnEXPORTING)) = true := by
    rw [hv, Option.any_some, hsource, hslot]
    rcases hphase with h | h <;> rw [h] <;> decide
  have hplaced : ¬ (!b.stageOk) = true := by rw [hstage]; decide
  exact (if_neg hcur).trans ((if_neg hsize).trans ((if_neg hready).trans (if_neg hplaced)))

end

section
variable {r : State × List Nat} {f n k : Nat} {v : Session}

theorem exportDone_leaves (hn : n < 16) (hv : r.1.sess f = some v) :
    let u := exportDone r f n k
    u.replied n stOK ∧ (∀ g i, g ∉ replyNames → u.rd g i = r.1.rd g i) ∧ u.rd .MB_OUT (n * 128) = (r.2.length * granule + k * 32) % 2 ^ 64 ∧
      u.sess f = some { v with granules := r.2.foldl (fun l o => insertNat o l) v.granules } := by
  intro u
  have hu : u = (r.1.setSess f (some { v with granules := r.2.foldl (fun l o => insertNat o l) v.granules })).reply n stOK [r.2.length * granule + k * 32] := by
    show exportDone r f n k = _
    rw [exportDone, hv]
  rw [hu]
  exact ⟨replied_reply _ _ hn (by decide), fun g i hg => rd_reply_other hg _ _ _ _ _, rd_reply_one _ _ _ _,
    (sess_of_vaults (reply_keeps State.vaults (fun _ _ _ _ => rfl) _ _ _ _) f).trans (sess_setSess _ _ _)⟩

end

theorem stage_begun (s : State) (n : Nat) : (s.begun n).stage = s.stage := by
  rw [State.stage, rd_begun_of (by decide), rd_begun_of (by decide), State.stage]

section
variable {s : State} {n : Nat} {v : Session} (hs : s.starts n 0x65)
include hs

theorem answers_export :
    let b := s.begun n
    let f := (s.fref n).1
    b.frefOk n = true → s.stage.2 ≠ 0 → s.sess f = some v → v.source = true → v.slot.isSome = true →
    (s.rd .QN_PHASE f = qnQUENCHED ∨ s.rd .QN_PHASE f = qnEXPORTING) → b.stageOk = true →
    let j := bits (s.par n 1) 0 32
    let k := bits (s.par n 1) 32 32
    (bits (s.par n 0) 48 1 = 0 → runBytes k ≤ s.stage.2 → j + k ≤ s.rd .FL_SIZE f → (s.migKey v).isSome = true →
      let done := ((List.range k).map (fun i => j + i)).filter (fun o => b.granSealed (s.rd .FL_BASE f + o))
      answers (.migExportRun n) s (fun u => u.replied n stOK ∧ u.rd .QN_PHASE f = qnEXPORTING ∧
        u.rd .MB_OUT (n * 128) = (done.length * granule + k * 32) % 2 ^ 64 ∧
        u.sess f = some { v with granules := done.foldl (fun l o => insertNat o l) v.granules })) ∧
    (bits (s.par n 0) 48 1 = 1 → answers (.migExportBundle n) s (fun u => sameMem s u ∧ b.asked u n f .bundle ∧ onlyRegs b u [])) := by
  intro b f href hsize hv hsource hslot hphase hstage j k
  have hfref : b.fref n = s.fref n := fref_begun s n
  have hpar : b.par n 1 = s.par n 1 := par_begun s n 1
  have hsess : b.sess (b.fref n).1 = some v := by
    rw [hfref]
    exact (sess_begun s n f).trans hv
  have hst : b.stage = s.stage := stage_begun s n
  have hph : b.rd .QN_PHASE (b.fref n).1 = s.rd .QN_PHASE f := by
    rw [hfref]
    exact rd_begun_of (by decide) s n f
  refine ⟨?_, fun hpart => ?_⟩
  · intro hpart hroom hrange hkey done
    have hmade := exportRun_of_ready (b := b) (n := n) href (by rw [hst]; exact hsize) hsess hsource hslot (by rw [hph]; exact hphase) hstage
    rw [hfref, hpar, hst, rd_begun_of (by decide)] at hmade
    let t := b.wr .QN_PHASE qnEXPORTING f
    have hnames : keyNames t = keyNames s := begun_keeps keyNames (fun _ _ => rfl) (fun _ _ _ => rfl) (fun _ _ _ => rfl) s n
    have hleave := exportSteps_leave (v := v) f s.stage.1 k j (t := t) (by rw [isSome_migKey hnames]; exact hkey) k
    obtain ⟨hdone, hrd, hvaults, -⟩ := hleave
    refine ⟨_, congrArg s.after ((mbPart_of_starts hs hpart (fun t => t.exportRun n) (rs := fun _ => []) rfl).trans (congrArg State.unclaim (hmade hroom hrange))), ?_⟩
    generalize (List.range k).foldl (exportStep v f s.stage.1 k j) (t, []) = r at hdone hrd hvaults
    have hgran (o : Nat) : t.granSealed o = b.granSealed o := congrArg (· == 1) (rd_wr_ne b _ (.inl (by decide)))
    have hbase : t.rd .FL_BASE f = s.rd .FL_BASE f := (rd_wr_ne b _ (.inl (by decide))).trans (rd_begun_of (by decide) s n f)
    have hlist : r.2 = done := by
      rw [hdone, hbase]
      exact congrArg (fun p => List.filter p _) (funext fun o => hgran _)
    obtain ⟨hreply, hplain, hout, hs'⟩ := exportDone_leaves (r := r) (f := f) (n := n) (k := k) (v := v) hs.1
      ((sess_of_vaults hvaults f).trans ((sess_begun s n f).trans hv))
    rw [hlist] at hout hs'
    exact ⟨hreply, (hplain _ _ (by decide)).trans ((hrd _ _).trans (rd_wr_same _ _ _ _)), hout, hs'⟩
  · have hmade := exportBundle_of_ready (b := b) (n := n) href (by rw [hst]; exact hsize) hsess hsource hslot (by rw [hph]; exact hphase) hstage
    rw [hfref] at hmade
    exact ⟨_, congrArg s.after ((mbPart_of_starts hs hpart (fun t => t.exportBundle n) (rs := fun _ => []) rfl).trans (congrArg State.unclaim hmade)),
      askKyrdo_leaves hs.1 (sameMem_begun s n) f .bundle⟩

end

/-! ## The bundle (R442) -/

/-- The bundle of flask f is written, and every key of the flask goes. -/
def bundleOut (s t : State) (f : Nat) (bytes : List Byte) : State := (s.slotsOf f).foldl State.clearSlot (t.mailWrite f s.stage.1 bytes)

section
variable (s t : State) (f : Nat) (bytes : List Byte)

theorem bundleOut_keeps {β : Type} {p : State → β} (hwr : ∀ (t : State) g v i, g ∈ keyRegs → p (t.wr g v i) = p t)
    (hkeys : ∀ (t : State) ks, p { t with keys := ks } = p t) : p (bundleOut s t f bytes) = p (t.mailWrite f s.stage.1 bytes) :=
  foldl_keeps p (fun t k => clearSlot_keeps hwr hkeys t k) _ _

theorem noKey_bundleOut {k : Nat} (hvalid : s.rd .KEY_SLOT_VALID k ≠ 0) (hflask : s.rd .KEY_SLOT_FLASK k = f) : (bundleOut s t f bytes).noKey k := by
  have hk : k ∈ s.slotsOf f := List.mem_filter.2 ⟨mem_listed hvalid, beq_iff_eq.2 hflask⟩
  exact foldl_brings (P := fun t : State => t.noKey k) (f := State.clearSlot) (fun _ j h => noKey_clearSlot_of h j) (fun t => noKey_clearSlot t k) hk _

end

theorem hlp_bundle (s : State) (f : Nat) (v : Session) (m : KeyMat) (part : List Byte) : (s.bundle f v m part).2.hlp = s.hlp := by
  have hcount (t : State) (ch : Charge) (cls k : Nat) : (t.countFor ch cls k).hlp = t.hlp := by
    obtain ⟨mt, hmt⟩ := countFor_eq t ch cls k
    rw [hmt]
  exact (hcount _ _ _ _).trans rfl

theorem acts_bundle {s : State} {n : Nat} {r : KyReq} {v : Session} {m : KeyMat} (part : List Byte) (hn : n < 16) (hr : s.kyreq? n = some r)
    (hask : r.ask = .bundle) (hv : s.sess r.flask = some v) (hm : s.migKey v = some m) :
    let bytes := (s.bundle r.flask v m part).1
    acts (.kyrdoAnswer n (.bundle part)) s (fun u => u.replied n stOK ∧ u.rd .QN_PHASE r.flask = qnEXPORTED ∧ u.sess r.flask = none ∧
      u.rd .MB_OUT (n * 128) = bytes.length % 2 ^ 64 ∧ s.landed u s.stage.1 bytes ∧ ∀ k, s.rd .KEY_SLOT_VALID k ≠ 0 → s.rd .KEY_SLOT_FLASK k = r.flask → u.noKey k) := by
  intro bytes
  let t := ((s.dropKy n).bundle r.flask v m part).2
  let w := bundleOut s t r.flask bytes
  have hmade : s.kyrdoAnswer n (.bundle part) = ((w.setSess r.flask none).wr .QN_PHASE qnEXPORTED r.flask).reply n stOK [bytes.length] := by
    unfold State.kyrdoAnswer
    rw [hr]
    dsimp only
    rw [hask]
    show (s.dropKy n).bundleAnswer n r.flask part = _
    have hsess : ((s.dropKy n).sess r.flask).bind (fun v => ((s.dropKy n).migKey v).map (fun m => (v, m))) = some (v, m) := by
      show ((s.sess r.flask).bind fun v => (s.migKey v).map fun m => (v, m)) = some (v, m)
      rw [hv, Option.bind_some, hm]
      rfl
    rw [State.bundleAnswer, hsess]
    rfl
  have hhlp : t.hlp = s.hlp := hlp_bundle (s.dropKy n) r.flask v m part
  refine ⟨_, congrArg s.after hmade, replied_reply _ _ hn (by decide), (rd_reply_other (by decide) _ _ _ _ _).trans (rd_wr_same _ _ _ _), ?_, rd_reply_one _ _ _ _, ?_,
    fun k hvalid hflask => ?_⟩
  · exact (sess_of_vaults (t := ((w.setSess r.flask none).wr .QN_PHASE qnEXPORTED r.flask).reply n stOK [bytes.length]) (s := w.setSess r.flask none)
      (reply_keeps State.vaults (fun _ _ _ _ => rfl) _ _ _ _) r.flask).trans (sess_setSess w r.flask none)
  · refine landed_of_waits hhlp ?_ ?_ (landed_mailed (s := t) rfl r.flask s.stage.1 bytes 0 0 [])
    · exact (reply_keeps State.hbm (fun _ _ _ _ => rfl) _ _ _ _).trans ((bundleOut_keeps s t r.flask bytes (p := State.hbm) (fun _ _ _ _ _ => rfl) fun _ _ => rfl).trans
        (reply_keeps State.hbm (fun _ _ _ _ => rfl) _ _ _ _).symm)
    · exact (reply_keeps (fun t : State => t.hlp.waits) (fun _ _ _ _ => rfl) _ _ _ _).trans
        ((bundleOut_keeps s t r.flask bytes (p := fun t : State => t.hlp.waits) (fun _ _ _ _ _ => rfl) fun _ _ => rfl).trans
          (reply_keeps (fun t : State => t.hlp.waits) (fun _ _ _ _ => rfl) _ _ _ _).symm)
  · refine noKey_of_names (s := w) ?_ ?_ (noKey_bundleOut s t r.flask bytes hvalid hflask)
    · exact (rd_reply_other (by decide) _ _ _ _ _).trans (rd_wr_ne _ _ (.inl (by decide)))
    · exact reply_keeps keyNames (fun _ _ _ _ => rfl) _ _ _ _

end Sys2Proof.Laws

/-! # The import of a sealed flask

MIG_IMPORT of a run and of the bundle, and Kyrdo's answer to it (R443). -/
namespace Sys2Proof.Laws

open Sys2Proof.Machine

/-! ## An import that fails -/

theorem importBad_leaves (t : State) {n : Nat} (hn : n < 16) (f : Nat) :
    (∀ s, sameMem s t → sameMem s (t.importBad n f)) ∧ (t.importBad n f).replied n stDENIED ∧ .flask f ∈ (t.importBad n f).calls := by
  refine ⟨fun s h => (sameMem_reply _ _ _ _ _).2 (sameMem_trans h (sameMem_of_eq rfl rfl)), replied_reply _ _ hn (by decide), ?_⟩
  have hcalls : (t.importBad n f).calls = t.calls ++ [.flask f] := reply_keeps State.calls (fun _ _ _ _ => rfl) _ _ _ _
  rw [hcalls]
  exact List.mem_append_right _ (List.mem_singleton.2 rfl)

/-! ## MIG_IMPORT of a run -/

/-- The entries of a run of k granules at a, one after another, until one ends it. -/
def importSteps (b : State) (f : Nat) (key : List Byte) (a k : Nat) : State × ImportEnd :=
  (List.range k).foldl (fun (r : State × ImportEnd) i => if r.2 = .going then r.1.importOne f key a k i else r) (b, .going)

/-- The reply to a run whose entries have left r. -/
def importDone (r : State × ImportEnd) (n f : Nat) : State :=
  match r.2 with
  | .going => r.1.reply n stOK
  | .again => r.1.reply n stDENIED
  | .bad => r.1.importBad n f

section
variable {r : State × ImportEnd} (n f : Nat)

theorem importDone_of_going (h : r.2 = .going) : importDone r n f = r.1.reply n stOK := by rw [importDone, h]

theorem importDone_of_again (h : r.2 = .again) : importDone r n f = r.1.reply n stDENIED := by rw [importDone, h]

theorem importDone_of_bad (h : r.2 = .bad) : importDone r n f = r.1.importBad n f := by rw [importDone, h]

end

theorem importRun_of_ready {b : State} {n : Nat} {m : KeyMat} (href : b.frefOk n = true) (hsize : b.stage.2 ≠ 0)
    (hphase : b.rd .QN_PHASE (b.fref n).1 = qnIMPORTING) (hm : (b.sess (b.fref n).1).bind b.migKey = some m) (hstage : b.stageOk = true)
    (hin : b.inStage (b.par n 1) (runBytes (bits (b.par n 2) 0 32)) = true) :
    b.importRun n = importDone (importSteps b (b.fref n).1 m.key (b.par n 1) (bits (b.par n 2) 0 32)) n (b.fref n).1 := by
  have hcur : ¬ (!b.frefOk n) = true := by rw [href]; decide
  have hplaced : ¬ (!(b.stageOk && b.inStage (b.par n 1) (runBytes (bits (b.par n 2) 0 32)))) = true := by
    rw [hstage, hin]
    decide
  refine (if_neg hcur).trans ((if_neg hsize).trans ((if_neg (not_not.2 hphase)).trans ?_))
  rw [hm]
  exact (if_neg hplaced).trans rfl

section
variable {s : State} {n : Nat}

theorem keys_begun (s : State) (n : Nat) : (s.begun n).keys = s.keys :=
  begun_keeps State.keys (fun _ _ => rfl) (fun _ _ _ => rfl) (fun _ _ _ => rfl) s n

theorem migKey_of_keys {s t : State} (h : t.keys = s.keys) (v : Session) : t.migKey v = s.migKey v := by
  have hkey : t.keyOf = s.keyOf := funext fun k => by rw [State.keyOf, h, State.keyOf]
  rw [State.migKey, hkey, State.migKey]

theorem sessKey_begun (s : State) (n f : Nat) : ((s.begun n).sess f).bind (s.begun n).migKey = (s.sess f).bind s.migKey := by
  rw [sess_begun]
  exact congrArg _ (funext fun v => migKey_of_keys (keys_begun s n) v)

theorem inStage_begun (s : State) (n a k : Nat) : (s.begun n).inStage a k = s.inStage a k := by rw [State.inStage, stage_begun, State.inStage]

theorem answers_importRun {m : KeyMat} (hs : s.starts n 0x66) (href : (s.begun n).frefOk n = true) (hsize : s.stage.2 ≠ 0)
    (hphase : s.rd .QN_PHASE (s.fref n).1 = qnIMPORTING) (hm : (s.sess (s.fref n).1).bind s.migKey = some m) (hstage : (s.begun n).stageOk = true)
    (hpart : bits (s.par n 0) 48 1 = 0) (hclean : s.dirtyLines (s.par n 1) (runBytes (bits (s.par n 2) 0 32)) = [])
    (hin : s.inStage (s.par n 1) (runBytes (bits (s.par n 2) 0 32)) = true) :
    let run := importSteps (s.begun n) (s.fref n).1 m.key (s.par n 1) (bits (s.par n 2) 0 32)
    (run.2 = .going → answers (.migImportRun n) s (fun u => u.replied n stOK ∧ sameMem run.1 u)) ∧
    (run.2 = .again → answers (.migImportRun n) s (fun u => u.replied n stDENIED ∧ sameMem run.1 u)) ∧
    (run.2 = .bad → answers (.migImportRun n) s (fun u => u.replied n stDENIED ∧ .flask (s.fref n).1 ∈ u.calls)) := by
  intro run
  have hmade : (s.begun n).importRun n = importDone run n (s.fref n).1 := by
    have h := importRun_of_ready (b := s.begun n) (n := n) (m := m) href
    rw [fref_begun, par_begun, par_begun, stage_begun, rd_begun_of (by decide), sessKey_begun, inStage_begun] at h
    exact h hsize hphase hm hstage hin
  have hdone {u : State} {P : State → Prop} (hu : importDone run n (s.fref n).1 = u) (hP : P u) : answers (.migImportRun n) s P := by
    refine ⟨u, congrArg s.after ((mbPart_of_starts hs hpart (fun t => t.importRun n) (rs := fun t => [(t.par n 1, runBytes (bits (t.par n 2) 0 32))]) ?_).trans
      (congrArg State.unclaim (hmade.trans hu))), hP⟩
    show (!(s.dirtyLines (s.par n 1) (runBytes (bits (s.par n 2) 0 32))).isEmpty || false) = false
    rw [hclean]
    rfl
  refine ⟨fun he => hdone (importDone_of_going _ _ he) ⟨replied_reply _ _ hs.1 (by decide), ?_⟩,
    fun he => hdone (importDone_of_again _ _ he) ⟨replied_reply _ _ hs.1 (by decide), ?_⟩, fun he => hdone (importDone_of_bad _ _ he) (importBad_leaves run.1 hs.1 (s.fref n).1).2⟩
  · exact (sameMem_reply _ _ _ _ _).2 (sameMem_refl _)
  · exact (sameMem_reply _ _ _ _ _).2 (sameMem_refl _)

end

/-! ## MIG_IMPORT of the bundle -/

/-- The bundle of k keys and z bytes at a is checked for the session v with its key m, in a state in which its reading is counted. -/
def bundleChecked (t : State) (n f : Nat) (v : Session) (m : KeyMat) (a k z : Nat) (digest : List Byte) : State :=
  if (openBundle v m (t.dieRead a (128 + 48 * k))).isNone ∨ digest ≠ v.digest then t.importBad n f
  else t.askKyrdo n f (.import_ (t.dieRead a (128 + 48 * k)) (t.dieRead (a + 128 + 48 * k) z))

/-- The reading of a bundle is counted. -/
def bundleRead (b : State) (f k z : Nat) : State := (b.mailRead f (128 + 48 * k + z)).countFor (.overhead f) 11 (48 * k)

theorem bundleRead_eq (b : State) (f k z : Nat) : ∃ mt, bundleRead b f k z = { b with meter := mt } := by
  obtain ⟨mt, hmt⟩ := countFor_eq b (.overhead f) 9 (128 + 48 * k + z)
  obtain ⟨mt', hmt'⟩ := countFor_eq (b.mailRead f (128 + 48 * k + z)) (.overhead f) 11 (48 * k)
  have hread : b.mailRead f (128 + 48 * k + z) = { b with meter := mt } := hmt
  refine ⟨mt', hmt'.trans ?_⟩
  rw [hread]

/-- The import of the bundle with header h at a. -/
def headerChecked (b : State) (n f : Nat) (v : Session) (m : KeyMat) (a : Nat) (h : List Byte) : State :=
  if 256 < leAt h 0 8 || !b.inStage a (128 + 48 * leAt h 0 8 + leAt h 8 8) then b.importBad n f
  else bundleChecked (bundleRead b f (leAt h 0 8) (leAt h 8 8)) n f v m a (leAt h 0 8) (leAt h 8 8) (slice h 16 48)

theorem importBundle_of_ready {b : State} {n : Nat} {v : Session} {m : KeyMat} (href : b.frefOk n = true) (hsize : b.stage.2 ≠ 0)
    (hphase : b.rd .QN_PHASE (b.fref n).1 = qnIMPORTING) (hclaimed : b.claimed (b.fref n).1 KyAsk.isImport = false)
    (hv : b.sess (b.fref n).1 = some v) (hm : b.migKey v = some m) (hstage : b.stageOk = true) (hin : b.inStage (b.par n 1) 128 = true) :
    b.importBundle n = headerChecked b n (b.fref n).1 v m (b.par n 1) (b.dieRead (b.par n 1) 128) := by
  have hcur : ¬ (!b.frefOk n) = true := by rw [href]; decide
  have hready : ¬ (b.rd .QN_PHASE (b.fref n).1 ≠ qnIMPORTING ∨ b.claimed (b.fref n).1 KyAsk.isImport = true) := by
    rw [hclaimed]
    exact not_or.2 ⟨not_not.2 hphase, Bool.false_ne_true⟩
  have hkey : (b.sess (b.fref n).1).bind (fun v => (b.migKey v).map (fun m => (v, m))) = some (v, m) := by
    rw [hv, Option.bind_some, hm]
    rfl
  have hplaced : ¬ (!(b.stageOk && b.inStage (b.par n 1) 128)) = true := by
    rw [hstage, hin]
    decide
  refine (if_neg hcur).trans ((if_neg hsize).trans ((if_neg hready).trans ?_))
  rw [hkey]
  exact (if_neg hplaced).trans rfl

section
variable {s : State} {n : Nat}

theorem answers_importBundle {m : KeyMat} {v : Session} (hs : s.starts n 0x66) (href : (s.begun n).frefOk n = true) (hsize : s.stage.2 ≠ 0)
    (hphase : s.rd .QN_PHASE (s.fref n).1 = qnIMPORTING) (hm : (s.sess (s.fref n).1).bind s.migKey = some m) (hstage : (s.begun n).stageOk = true)
    (hpart : bits (s.par n 0) 48 1 = 1) (hv : s.sess (s.fref n).1 = some v) (hclean : s.dirtyLines (s.bundleRange n).1 (s.bundleRange n).2 = [])
    (hin : s.inStage (s.par n 1) 128 = true) (hclaimed : (s.begun n).claimed (s.fref n).1 KyAsk.isImport = false) :
    let b := s.begun n
    let f := (s.fref n).1
    let a := s.par n 1
    let h := s.dieRead a 128
    let k := leAt h 0 8
    let z := leAt h 8 8
    let fits := k ≤ 256 ∧ s.inStage a (128 + 48 * k + z) = true
    let bundle := s.dieRead a (128 + 48 * k)
    (fits → openBundle v m bundle ≠ none → slice h 16 48 = v.digest → answers (.migImportBundle n) s (fun u => sameMem s u ∧
      b.asked u n f (.import_ bundle (s.dieRead (a + 128 + 48 * k) z)) ∧ onlyRegs b u [])) ∧
    (¬ fits ∨ openBundle v m bundle = none ∨ slice h 16 48 ≠ v.digest → answers (.migImportBundle n) s (fun u => sameMem s u ∧
      u.replied n stDENIED ∧ .flask f ∈ u.calls)) := by
  intro b f a h k z fits bundle
  have hkey : s.migKey v = some m := by
    rw [hv] at hm
    exact hm
  have hmade : b.importBundle n = headerChecked b n f v m a h := by
    have hcase := importBundle_of_ready (b := s.begun n) (n := n) (v := v) (m := m) href
    rw [fref_begun, par_begun, stage_begun, rd_begun_of (by decide), sess_begun, migKey_of_keys (keys_begun s n), inStage_begun, dieRead_begun] at hcase
    exact hcase hsize hphase hclaimed hv hkey hstage hin
  have hdone {u : State} {P : State → Prop} (hu : headerChecked b n f v m a h = u) (hP : P u) : answers (.migImportBundle n) s P := by
    refine ⟨u, congrArg s.after ((mbPart_of_starts hs hpart (fun t => t.importBundle n) (rs := fun t => [t.bundleRange n]) ?_).trans
      (congrArg State.unclaim (hmade.trans hu))), hP⟩
    show (!(s.dirtyLines (s.bundleRange n).1 (s.bundleRange n).2).isEmpty || false) = false
    rw [hclean]
    rfl
  obtain ⟨mt, hmt⟩ := bundleRead_eq b f k z
  have hread (a j : Nat) : ({ b with meter := mt } : State).dieRead a j = s.dieRead a j := dieRead_begun s n a j
  have hchecked : bundleChecked (bundleRead b f k z) n f v m a k z (slice h 16 48) =
      if (openBundle v m bundle).isNone ∨ slice h 16 48 ≠ v.digest then ({ b with meter := mt } : State).importBad n f
      else ({ b with meter := mt } : State).askKyrdo n f (.import_ bundle (s.dieRead (a + 128 + 48 * k) z)) := by
    rw [bundleChecked, hmt, hread, hread]
  have hfit (hf : fits) : headerChecked b n f v m a h = bundleChecked (bundleRead b f k z) n f v m a k z (slice h 16 48) := by
    refine if_neg ?_
    rw [inStage_begun, hf.2]
    simpa using hf.1
  have hbad (t : State) (hmem : sameMem s t) : sameMem s (t.importBad n f) ∧ (t.importBad n f).replied n stDENIED ∧ .flask f ∈ (t.importBad n f).calls := by
    obtain ⟨hsame, hreply, hcall⟩ := importBad_leaves t hs.1 f
    exact ⟨hsame s hmem, hreply, hcall⟩
  have hmem : sameMem s ({ b with meter := mt } : State) := sameMem_begun s n
  refine ⟨fun hf hopen hdigest => hdone ((hfit hf).trans (hchecked.trans (if_neg ?_))) ?_, fun hfails => ?_⟩
  · exact not_or.2 ⟨fun hnone => hopen (Option.isNone_iff_eq_none.1 hnone), not_not.2 hdigest⟩
  · exact ⟨hmem, ⟨slotState_begun s hs.1, List.mem_cons_self, rfl⟩, fun _ _ _ => rfl⟩
  · by_cases hf : fits
    · refine hdone ((hfit hf).trans (hchecked.trans (if_pos ?_))) (hbad _ hmem)
      exact (hfails.resolve_left (not_not.2 hf)).imp (fun hnone => Option.isNone_iff_eq_none.2 hnone) id
    · refine hdone (if_pos ?_) (hbad b (sameMem_begun s n))
      rw [inStage_begun]
      by_contra hno
      rw [Bool.or_eq_true, not_or, decide_eq_true_eq, Nat.not_lt, Bool.not_eq_true', Bool.not_eq_false] at hno
      exact hf hno

end

/-! ## Kyrdo's answer -/

/-- The requests that wait at Kyrdo are x. -/
def withKy (t : State) (x : List KyReq) : State := { t with kyreqs := x }

section
variable (t : State) (x : List KyReq)

theorem rstAll_withKy (fs : List Field) (i : Nat) : (withKy t x).rstAll fs i = withKy (t.rstAll fs i) x := by
  induction fs generalizing t with
  | nil => rfl
  | cons f fs ih => exact ih (t.rst f i)

theorem slotUnnamed_withKy (k : Nat) : slotUnnamed (withKy t x) k = withKy (slotUnnamed t k) x := by
  have hegress (b : Prop) [Decidable b] (f : Nat) : (if b then (withKy t x).rstAll [.FL_EGRESS_VALID, .FL_EGRESS_SLOT] f else withKy t x) =
      withKy (if b then t.rstAll [.FL_EGRESS_VALID, .FL_EGRESS_SLOT] f else t) x := by
    split
    · exact rstAll_withKy t x _ _
    · rfl
  have hcmd (b : Prop) [Decidable b] (u : State) (f : Nat) : (if b then (withKy u x).rst .FL_CMD_SLOT f else withKy u x) =
      withKy (if b then u.rst .FL_CMD_SLOT f else u) x := by
    split <;> rfl
  unfold slotUnnamed
  dsimp only
  rw [hegress, hcmd]
  rfl

theorem clearSlot_withKy (k : Nat) : (withKy t x).clearSlot k = withKy (t.clearSlot k) x := by
  rw [clearSlot_eq, clearSlot_eq, slotUnnamed_withKy]
  exact rstAll_withKy { slotUnnamed t k with keys := (slotUnnamed t k).keys.filter (fun m => m.slot != k) } x slotFields k

theorem dropMigKey_withKy (f : Nat) : (withKy t x).dropMigKey f = withKy (t.dropMigKey f) x := by
  have hsess : ((withKy t x).sess f).bind Session.slot = (t.sess f).bind Session.slot := rfl
  unfold State.dropMigKey
  rw [hsess]
  cases (t.sess f).bind Session.slot with
  | none => rfl
  | some k => exact clearSlot_withKy t x k

/-- One key of a bundle enters the lowest free slot of flask f. -/
def importKey (t : State) (f : Nat) (q : Nat × Nat × List Byte) : Option State :=
  (lowest 256 (fun k => !t.on .KEY_SLOT_VALID k)).map (fun k =>
    let t := (((t.wr .KEY_SLOT_VALID 1 k).wr .KEY_SLOT_USE q.1 k).wr .KEY_SLOT_FLASK f k).wr .KEY_SLOT_FLASK_GEN (t.flaskGen f) k
    let t := t.putKey k (slice q.2.2 0 32) q.2.1
    if q.1 = 2 then (t.wr .FL_EGRESS_SLOT k f).wr .FL_EGRESS_VALID 1 f
    else if q.1 = 3 then t.wr .FL_CMD_SLOT k f else t)

theorem importKeys_eq (f : Nat) (keys : List (Nat × Nat × List Byte)) :
    t.importKeys f keys = keys.foldl (fun (r : Option State) q => r.bind (fun t => importKey t f q)) (some t) := rfl

theorem importKey_withKy (f : Nat) (q : Nat × Nat × List Byte) : importKey (withKy t x) f q = (importKey t f q).map (fun u => withKy u x) := by
  unfold importKey
  have hfree : (fun k => !(withKy t x).on .KEY_SLOT_VALID k) = fun k => !t.on .KEY_SLOT_VALID k := rfl
  rw [hfree, Option.map_map]
  refine congrArg (fun g => Option.map g _) (funext fun k => ?_)
  rw [Function.comp_apply]
  dsimp only
  split
  · rfl
  · split <;> rfl

theorem importKeys_withKy (f : Nat) (keys : List (Nat × Nat × List Byte)) : (withKy t x).importKeys f keys = (t.importKeys f keys).map (fun u => withKy u x) := by
  rw [importKeys_eq, importKeys_eq]
  refine (congrArg (List.foldl _ · keys) (Option.map_some (f := fun u => withKy u x) (a := t)).symm).trans ?_
  generalize (some t : Option State) = o
  induction keys generalizing o with
  | nil => rfl
  | cons q keys ih =>
    rw [List.foldl_cons, List.foldl_cons, ← ih]
    refine congrArg (List.foldl _ · keys) ?_
    cases o with
    | none => rfl
    | some u => exact importKey_withKy u x f q

end

section
variable {β : Type} {p : State → β} (hwr : ∀ (t : State) g v i, p (t.wr g v i) = p t) (hput : ∀ (t : State) k key ctr, p (t.putKey k key ctr) = p t)
include hwr hput

theorem importKey_keeps {t u : State} {f : Nat} {q : Nat × Nat × List Byte} (h : importKey t f q = some u) : p u = p t := by
  obtain ⟨k, -, rfl⟩ := Option.map_eq_some_iff.1 h
  have hslot (t : State) : p (((((t.wr .KEY_SLOT_VALID 1 k).wr .KEY_SLOT_USE q.1 k).wr .KEY_SLOT_FLASK f k).wr .KEY_SLOT_FLASK_GEN (t.flaskGen f) k).putKey k
      (slice q.2.2 0 32) q.2.1) = p t := by
    rw [hput, hwr, hwr, hwr, hwr]
  dsimp only
  split
  · exact (hwr _ _ _ _).trans ((hwr _ _ _ _).trans (hslot t))
  · split
    · exact (hwr _ _ _ _).trans (hslot t)
    · exact hslot t

theorem importKeys_keeps {f : Nat} (keys : List (Nat × Nat × List Byte)) {t u : State} (h : t.importKeys f keys = some u) : p u = p t := by
  rw [importKeys_eq] at h
  induction keys generalizing t with
  | nil =>
    cases h
    rfl
  | cons q keys ih =>
    rw [List.foldl_cons, Option.bind_some] at h
    cases hq : importKey t f q with
    | none =>
      have hstay : keys.foldl (fun (r : Option State) q => r.bind (fun t => importKey t f q)) none = none :=
        List.foldlRecOn (motive := fun o : Option State => o = none) keys _ rfl fun o ho q _ => by rw [ho, Option.bind_none]
      rw [hq, hstay] at h
      cases h
    | some v =>
      rw [hq] at h
      exact (ih h).trans (importKey_keeps hwr hput hq)

end

theorem dropMigKey_keeps {β : Type} {p : State → β} (hwr : ∀ (t : State) g v i, g ∈ keyRegs → p (t.wr g v i) = p t)
    (hkeys : ∀ (t : State) ks, p { t with keys := ks } = p t) (s : State) (f : Nat) : p (s.dropMigKey f) = p s := by
  unfold State.dropMigKey
  split
  · exact clearSlot_keeps hwr hkeys _ _
  · rfl

/-- The vault of a flask whose bundle has been taken in. -/
def vaultBundled (w : Vault) (v : Session) (pub : List Byte) : Vault :=
  { w with pub := pub, sess := some { v with slot := none, bundled := true }, everSealed := true }

theorem acts_import {s : State} {n : Nat} {r : KyReq} {v : Session} {bundle part : List Byte} (pub : List Byte) (hn : n < 16) (hr : s.kyreq? n = some r)
    (hask : r.ask = .import_ bundle part) (hv : s.sess r.flask = some v) :
    (acts (.kyrdoAnswer n .refused) s (fun u => sameMem s u ∧ u.replied n stDENIED ∧ .flask r.flask ∈ u.calls)) ∧
    (∀ m ks t, s.migKey v = some m → openBundle v m bundle = some ks → (s.dropMigKey r.flask).importKeys r.flask ks = some t →
      acts (.kyrdoAnswer n (.imported pub)) s (fun u => sameMem s u ∧ u.replied n stOK ∧ u.keys = t.keys ∧
      (∀ k, u.rd .KEY_SLOT_VALID k = t.rd .KEY_SLOT_VALID k ∧ u.rd .KEY_SLOT_USE k = t.rd .KEY_SLOT_USE k) ∧
      (u.vault r.flask).pub = pub ∧ (u.vault r.flask).everSealed = true ∧ u.sess r.flask = some { v with slot := none, bundled := true })) := by
  refine ⟨?_, fun m ks t hm hopen ht => ?_⟩
  · have hmade : s.kyrdoAnswer n .refused = (s.dropKy n).importBad n r.flask := by
      unfold State.kyrdoAnswer
      rw [hr]
      dsimp only
      rw [hask]
    obtain ⟨hmem, hreply, hcall⟩ := importBad_leaves (s.dropKy n) hn r.flask
    exact ⟨_, congrArg s.after hmade, hmem s (sameMem_of_eq rfl rfl), hreply, hcall⟩
  · let x := s.kyreqs.filter (fun r => r.slot != n)
    let w := vaultBundled ((withKy t x).vault r.flask) v pub
    have hmade : s.kyrdoAnswer n (.imported pub) = ((withKy t x).setVault w).reply n stOK := by
      have hkeys : ((s.dropKy n).dropMigKey r.flask).importKeys r.flask ks = some (withKy t x) := by
        show ((withKy s x).dropMigKey r.flask).importKeys r.flask ks = _
        rw [dropMigKey_withKy, importKeys_withKy, ht, Option.map_some]
      have hsess : ((s.dropKy n).sess r.flask).bind (fun v => ((s.dropKy n).migKey v).bind (fun m => (openBundle v m bundle).map (fun keys => (v, keys)))) =
          some (v, ks) := by
        show ((s.sess r.flask).bind fun v => (s.migKey v).bind fun m => (openBundle v m bundle).map fun keys => (v, keys)) = some (v, ks)
        rw [hv, Option.bind_some, hm, Option.bind_some, hopen]
        rfl
      unfold State.kyrdoAnswer
      rw [hr]
      dsimp only
      rw [hask]
      show (s.dropKy n).importAnswer n r.flask bundle pub = _
      rw [State.importAnswer, hsess]
      dsimp only
      rw [hkeys] <;> rfl
    have hsame : sameMem s t := sameMem_of_eq
      ((importKeys_keeps (p := State.hbm) (fun _ _ _ _ => rfl) (fun _ _ _ _ => rfl) ks ht).trans (dropMigKey_keeps (fun _ _ _ _ _ => rfl) (fun _ _ => rfl) s r.flask))
      ((importKeys_keeps (p := State.wbuf) (fun _ _ _ _ => rfl) (fun _ _ _ _ => rfl) ks ht).trans (dropMigKey_keeps (fun _ _ _ _ _ => rfl) (fun _ _ => rfl) s r.flask))
    refine ⟨_, congrArg s.after hmade, (sameMem_reply _ _ _ _ _).2 (sameMem_trans hsame (sameMem_of_eq rfl rfl)), replied_reply _ _ hn (by decide),
      reply_keeps State.keys (fun _ _ _ _ => rfl) _ _ _ _, fun k => ⟨rd_reply_other (by decide) _ _ _ _ _, rd_reply_other (by decide) _ _ _ _ _⟩, ?_⟩
    have hvault : (((withKy t x).setVault w).reply n stOK).vault r.flask = w := by
      have hflask : w.flask = r.flask := vault_flask (withKy t x) r.flask
      have h := vault_setVault (withKy t x) w
      rw [hflask] at h
      exact (vault_of_vaults (reply_keeps State.vaults (fun _ _ _ _ => rfl) _ _ _ _) r.flask).trans h
    rw [State.sess, hvault]
    exact ⟨rfl, rfl, rfl⟩

/-- Settles O55 (R440 to R443). -/
theorem flasksMigrate : Obligations.FlasksMigrate := by
  refine ⟨fun s n hs => answers_migOffer hs, fun s n buf r nonce eph sig hn hr hask => acts_offer nonce eph sig hn hr hask, fun s n hs hclean => answers_migAccept hs hclean,
    fun s n buf k r offer eph sig key m hr hask hf hm hk => acts_accept hr hask hf hm hk, fun s n v hs hclean => answers_migBind hs hclean,
    fun s n k r v acc key hn hr hask hf hv hk => acts_bound key hn hr hask hf hv hk, fun s n v hs => answers_export hs,
    fun s n r v m part hn hr hask hv hm => acts_bundle part hn hr hask hv hm, fun s n m hs => ?_,
    fun s n r v bundle part pub hn hr hask hv => acts_import pub hn hr hask hv⟩
  intro b f a k href hsize hphase hm hstage run
  refine ⟨fun hpart hclean hin => answers_importRun hs href hsize hphase hm hstage hpart hclean hin, fun v hpart hv hclean hin hclaimed => ?_⟩
  exact answers_importBundle hs href hsize hphase hm hstage hpart hv hclean hin hclaimed

end Sys2Proof.Laws
